-- ==== Sys2Proof/Word.lean ====
section
/-!
DEFINITION. The word types of the engine.  Registers, tokens and Brick instruction words are 64 bits
(R46, R80, R602); memory is addressed in bytes (R34).
-/

namespace Sys2Proof

/-- A 64-bit register, token or instruction word (R46, R80, R602). -/
abbrev W64 := BitVec 64

/-- A 32-bit accumulator word (R43). -/
abbrev W32 := BitVec 32

/-- A 128-bit Stock integer (R130). -/
abbrev W128 := BitVec 128

/-- One byte of memory. -/
abbrev Byte := BitVec 8

end Sys2Proof
end

