-- ==== Sys2Proof/Syntax.lean ====
section
/-!
DEFINITION. The commands the block takes, one constructor for each row of the opcode table.  A command's operands are the indices it
names (Room, Brick, Suite, Wing, page offset), the value it carries, and what the surroundings or the physical part supply at that
moment: a sample, a detector's outcome, a message's contents.
-/

namespace Sys2Proof

/-- The commands, named by the rows of the opcode table. -/
inductive Instr where
  /-- R10: A write to a register that has no row of its own takes effect under its access code and any acceptance conditions of its rule. -/
  | registerWrite (addr : Nat) (size : Nat) (v : W64)
  /-- R10: A read of a register holding an RC field returns the field and clears it to zero. -/
  | rcRead (addr : Nat) (size : Nat)
  /-- R604: A W1C write to a page's EVENT register clears latched event bits unless the event is raised again in the same cycle. -/
  | eventClear (addr : Nat) (v : W64)
  /-- R79: A write to a page's EVENT_INJECT arms the one-shot injection named by the bit, which acts on the next qualifying occurrence. -/
  | eventInject (addr : Nat) (v : W64)
  /-- R76: Writing 1 to the VALID bit of a WHERE register re-arms capture of the next event. -/
  | whereRearm (addr : Nat)
  /-- R55: A token present at a lane-switch input is routed by the LANE_SET of its tag to every destination, checked on entry to a queue or at a seam receiver. -/
  | laneTokenArrive (room : Nat) (b : Nat) (src : Nat) (flip : Nat)
  /-- R95: A NOP issues and does nothing. -/
  | nop (room : Nat) (b : Nat)
  /-- R86: JNZ decrements a register and branches to slot AUX[4:0] when the result is nonzero. -/
  | jnz (room : Nat) (b : Nat)
  /-- R87: FOLD ends the active context's issue and names the context that becomes active at step s + 2. -/
  | fold (room : Nat) (b : Nat)
  /-- R175: After the switch cycle the named context becomes active and resumes at its saved next slot, or an elastic Brick waits until the slot is valid. -/
  | foldResume (room : Nat) (b : Nat)
  /-- R87: STOP ends issue of the active context until it is reloaded or made active again; an elastic RUN ends when every Brick has stopped. -/
  | stop (room : Nat) (b : Nat)
  /-- R117: LSIG makes the Brick's arrival at a Room Latch at its issue step. -/
  | lsig (room : Nat) (b : Nat)
  /-- R117: LWAIT waits on a Room Latch generation, as a counted LATCH stall in a stepped Suite or a held fire in an elastic one. -/
  | lwait (room : Nat) (b : Nat)
  /-- R97: MAC forms the outer product of operands A and B and adds each product to its accumulator. -/
  | mac (room : Nat) (b : Nat)
  /-- R97: MACZ writes each outer-product product over its accumulator. -/
  | macz (room : Nat) (b : Nat)
  /-- R101: DOT adds the exact dot product of A and B to one accumulator with one rounding. -/
  | dot (room : Nat) (b : Nat)
  /-- R101: DOTZ writes the dot product of A and B over one accumulator. -/
  | dotz (room : Nat) (b : Nat)
  /-- R102: MACS24 performs one issue of a 2:4 sparse outer-product group against a dense window. -/
  | macs24 (room : Nat) (b : Nat)
  /-- R102: MACS48 performs one issue of a 4:8 sparse outer-product group against a dense window. -/
  | macs48 (room : Nat) (b : Nat)
  /-- R105: STKMAC enters outer-product products into Stock accumulators under the anchor. -/
  | stkmac (room : Nat) (b : Nat)
  /-- R105: STKIN enters each lane of A into a Stock accumulator. -/
  | stkin (room : Nat) (b : Nat)
  /-- R105: STKADD adds a 128-bit value into a Stock accumulator by integer addition. -/
  | stkadd (room : Nat) (b : Nat)
  /-- R105: STKDRAIN writes a Stock accumulator out as two words. -/
  | stkdrain (room : Nat) (b : Nat)
  /-- R105: STKCVT converts two Stock accumulators to FP32 lanes of one token. -/
  | stkcvt (room : Nat) (b : Nat)
  /-- R118: ACCCLR clears all accumulators or one group of 32 to zero. -/
  | accclr (room : Nat) (b : Nat)
  /-- R106: DRAIN converts accumulators to FMT and packs them into one token. -/
  | drain (room : Nat) (b : Nat)
  /-- R106: DRAINC drains accumulators and then clears them. -/
  | drainc (room : Nat) (b : Nat)
  /-- R107: MXQ quantises 32 accumulators as one MX block with its E8M0 scale. -/
  | mxq (room : Nat) (b : Nat)
  /-- R95: FMA computes a × b + c per lane with one rounding. -/
  | fma (room : Nat) (b : Nat)
  /-- R95: ADD computes a + b per lane. -/
  | add (room : Nat) (b : Nat)
  /-- R95: SUB computes a − b per lane. -/
  | sub (room : Nat) (b : Nat)
  /-- R95: MUL computes a × b per lane. -/
  | mul (room : Nat) (b : Nat)
  /-- R103: MIN returns the IEEE 754 minimumNumber per lane. -/
  | min (room : Nat) (b : Nat)
  /-- R103: MAX returns the IEEE 754 maximumNumber per lane. -/
  | max (room : Nat) (b : Nat)
  /-- R95: NEG flips the sign of each lane. -/
  | neg (room : Nat) (b : Nat)
  /-- R95: ABS clears the sign of each lane. -/
  | abs (room : Nat) (b : Nat)
  /-- R103: CMP sets each lane all-ones or zero by a floating-point condition. -/
  | cmp (room : Nat) (b : Nat)
  /-- R95: SEL takes each lane from A or B by the MSB of the mask lane. -/
  | sel (room : Nat) (b : Nat)
  /-- R108: CVT converts operand A from FMT to a target format, widening into several tokens or narrowing into part of a register. -/
  | cvt (room : Nat) (b : Nat)
  /-- R110: EXP2 computes 2^x per lane within its ulp bound. -/
  | exp2 (room : Nat) (b : Nat)
  /-- R110: LOG2 computes log2 x per lane within its ulp bound. -/
  | log2 (room : Nat) (b : Nat)
  /-- R110: RCP computes 1 / x per lane within its ulp bound. -/
  | rcp (room : Nat) (b : Nat)
  /-- R110: RSQRT computes 1 / √x per lane within its ulp bound. -/
  | rsqrt (room : Nat) (b : Nat)
  /-- R110: TANH computes tanh x per lane within its ulp bound. -/
  | tanh (room : Nat) (b : Nat)
  /-- R110: ERF computes erf x per lane within its ulp bound. -/
  | erf (room : Nat) (b : Nat)
  /-- R111: IADD adds integer lanes with wrapping. -/
  | iadd (room : Nat) (b : Nat)
  /-- R111: ISUB subtracts integer lanes with wrapping. -/
  | isub (room : Nat) (b : Nat)
  /-- R111: IMUL gives the low half of each lane product. -/
  | imul (room : Nat) (b : Nat)
  /-- R95: AND forms the bitwise AND of A and B. -/
  | andOp (room : Nat) (b : Nat)
  /-- R95: OR forms the bitwise OR of A and B. -/
  | orOp (room : Nat) (b : Nat)
  /-- R95: XOR forms the bitwise XOR of A and B. -/
  | xorOp (room : Nat) (b : Nat)
  /-- R95: SHL shifts each lane left by its count modulo lane width. -/
  | shl (room : Nat) (b : Nat)
  /-- R95: SHR shifts each lane right logically by its count modulo lane width. -/
  | shr (room : Nat) (b : Nat)
  /-- R95: SRA shifts each lane right arithmetically by its count modulo lane width. -/
  | sra (room : Nat) (b : Nat)
  /-- R111: IMIN gives the signed minimum per lane. -/
  | imin (room : Nat) (b : Nat)
  /-- R111: IMAX gives the signed maximum per lane. -/
  | imax (room : Nat) (b : Nat)
  /-- R111: ICMP sets each lane all-ones when its integer condition holds. -/
  | icmp (room : Nat) (b : Nat)
  /-- R111: MOV copies 64 bits to DST without regard to format. -/
  | mov (room : Nat) (b : Nat)
  /-- R109: LDI writes an 18-bit immediate into part of a register. -/
  | ldi (room : Nat) (b : Nat)
  /-- R112: CLD loads a Cubby word into DST. -/
  | cld (room : Nat) (b : Nat)
  /-- R112: CST stores B into a Cubby word. -/
  | cst (room : Nat) (b : Nat)
  /-- R112: LUT looks up a Cubby byte for each INT8 lane. -/
  | lut (room : Nat) (b : Nat)
  /-- R113: SLD loads up to 8 Shelf words into registers. -/
  | sld (room : Nat) (b : Nat)
  /-- R113: SST stores words or one token to the Shelf. -/
  | sst (room : Nat) (b : Nat)
  /-- R113: SLDT reads a 512 B block transposed into 8 registers. -/
  | sldt (room : Nat) (b : Nat)
  /-- R113: SLDS reads Shelf words at a stride. -/
  | slds (room : Nat) (b : Nat)
  /-- R113: GATH loads 4 Shelf words at indexed addresses. -/
  | gath (room : Nat) (b : Nat)
  /-- R113: SCAT stores 4 registers to indexed Shelf addresses. -/
  | scat (room : Nat) (b : Nat)
  /-- R114: SPXP expands compressed sparse data into dense tokens. -/
  | spxp (room : Nat) (b : Nat)
  /-- R115: RAND writes Philox draws of the fire to registers or tokens. -/
  | rand (room : Nat) (b : Nat)
  /-- R115: RMASK builds a random INT8 lane mask from draw 0. -/
  | rmask (room : Nat) (b : Nat)
  /-- R70: STEER routes a data token to OQ0, OQ1, both or neither by its control token. -/
  | steer (room : Nat) (b : Nat)
  /-- R72: MERGE joins two input queues into one output, controlled or uncontrolled. -/
  | merge (room : Nat) (b : Nat)
  /-- R91: An issued instruction writes its results at the end of step s + L − 1, after its residue and exponent checks. -/
  | instructionResult (room : Nat) (b : Nat) (chk : Nat)
  /-- R78: A write through BRK_WIN changes a Brick register, accumulator, Cubby word, instruction or LANE_SET while its Suite is halted or unloaded. -/
  | brkWinWrite (room : Nat) (k : Nat) (v : W64)
  /-- R178: A LOAD entry starts a full or slot load of the Suite at step C. -/
  | csLoad (suite : Nat)
  /-- R179: At step C every Room checks the load, looks for tokens of tag k and purges them when PURGE is given. -/
  | loadCheck (suite : Nat)
  /-- R180: At C + 2FL the OR-reduced refusals reach every Room, so the load either ends refused or its reads begin and quarters change power. -/
  | loadOutcome (suite : Nat)
  /-- R182: The arrangement loader reads one context line in a bank-step granted to it and folds SLOT_CHECK. -/
  | loaderRead (room : Nat) (errs : Nat) (addr : Bool)
  /-- R180: At D the slot's new LANE_SET takes effect, the slot becomes valid and its counters clear, or a failed SLOT_CHECK leaves it EMPTY and halts the Suite. -/
  | loadEffective (room : Nat)
  /-- R212: A powering-up Shelf quarter finishes zero-filling and leaves QRAMP. -/
  | quarterRampDone (room : Nat) (j : Nat)
  /-- R186: A RUN entry starts a loaded Suite at step 0 with the named context. -/
  | csRun (suite : Nat)
  /-- R186: When ARR_STEP reaches RUN_STEPS a stepped Suite stops issuing and late SCH packets raise HALL_SLOT_VIOLATION. -/
  | runEnd (suite : Nat)
  /-- R194: At the end of each listed step every Room compares FIRE_DIGEST and SLOT_USE with its record. -/
  | checkPoint (room : Nat)
  /-- R246: A NOP entry completes at once, raising CS_MARK when MARK is set. -/
  | csNop (suite : Nat)
  /-- R493: A STOKE entry hands a Stoke level and lead to the Suite's Damper. -/
  | csStoke (suite : Nat)
  /-- R465: A CHECKPOINT entry requests a Sweep-out of the Suite at its step. -/
  | csCheckpoint (suite : Nat)
  /-- R246: A FENCE entry completes once the RUN in progress and every earlier entry have completed. -/
  | csFence (suite : Nat)
  /-- R246: A LATCH_WAIT entry waits for the current generation of a global Flue Latch. -/
  | csLatchWait (suite : Nat)
  /-- R246: A HALT entry halts the Suite, stops the stream and copies its CODE to CS_STATUS. -/
  | csHalt (suite : Nat)
  /-- R244: The command unit reads ahead the next entry of the command stream ring. -/
  | entryFetch (suite : Nat) (data : List W64) (fail : Bool) (errs : List Nat)
  /-- R247: When ARR_STEP reaches STEP − FL − 16 a step entry is issued over the Flue, or found late and the stream stops. -/
  | entryIssue (suite : Nat)
  /-- R265: Setting CS_CFG.EN starts the command unit at CS_HEAD. -/
  | commandUnitEnable (room : Nat) (v : W64)
  /-- R265: Clearing CS_CFG.EN stops the command unit after the entry in progress. -/
  | commandUnitDisable (room : Nat) (v : W64)
  /-- R244: A write of CS_TAIL appends entries to the command stream. -/
  | csTailWrite (room : Nat) (v : W64)
  /-- R198: ARR_CTRL PAUSE opens a HOST stall of the Suite. -/
  | pause (room : Nat)
  /-- R198: ARR_CTRL RESUME releases the Suite's HOST stall. -/
  | resume (room : Nat)
  /-- R198: A write of ARR_SEED through the lead Room is carried to every Room, or dropped while the Suite runs. -/
  | arrSeedWrite (room : Nat) (v : W64)
  /-- R188: A FREEZE message freezes every Room of the Suite from its named start cycle. -/
  | freeze (suite : Nat)
  /-- R188: A RELEASE message ends an open stall at its named end cycle. -/
  | release (suite : Nat)
  /-- R188: A stall request reaches the stall master, which merges it and issues FREEZE or RELEASE. -/
  | stallReq (suite : Nat)
  /-- R311: A HALT reaches the stall master, which broadcasts a halt at cycle H unless an earlier one is already out. -/
  | halt (suite : Nat)
  /-- R311: At the end of cycle H every Room of the Suite halts, records the halt and may start a job halt. -/
  | suiteHalt (suite : Nat)
  /-- R310: A SUITE_REG message carries an ARR_SEED or ARR_CTRL write to every Room. -/
  | suiteReg (suite : Nat)
  /-- R310: An OR_REDUCE value combines up the Flue toward its root. -/
  | orReduce (suite : Nat) (engine : Bool)
  /-- R310: A DAMPER message carries ramp and budget values over the Flue. -/
  | damper (suite : Nat)
  /-- R290: At the common cycle every injection port stamps the new routing EPOCH and, with HOLD, holds ELA injection. -/
  | epochFlip
  /-- R328: A GLATCH message carries global Flue Latch arrivals up and generation completions down. -/
  | glatch (n : Nat)
  /-- R398: A DIGEST message combines Room digests into Wing and Suite digests. -/
  | digest (suite : Nat)
  /-- R316: A node's HEARTBEAT reaches its hub or the root, its word checked by the Flue code. -/
  | heartbeat (node : Nat) (flip : Nat)
  /-- R316: A missing heartbeat for WD_MISS periods raises FLU_WATCHDOG and treats the silent subtree as lost. -/
  | fluWatchdog (node : Nat)
  /-- R309: A write of FL takes effect only while no Suite is loaded and at or above the measured requirement. -/
  | fluLatencyWrite (v : W64)
  /-- R205: A bank performs one granted access in its bank-step, decoding the line's DEC-TED code. -/
  | shelfBankStep (room : Nat) (bank : Nat) (errs : Nat) (addr : Bool)
  /-- R215: A corrected line is written back in the next free bank-step of its bank. -/
  | eccWriteBack (room : Nat)
  /-- R212: A SHF_QCTRL write powers quarters on or off while the Suite is halted or unloaded. -/
  | shfQctrlWrite (room : Nat) (v : W64)
  /-- R217: A write of BANK with GO starts retirement of a Shelf bank to the spare, or marks the Room defective. -/
  | shfRetire (room : Nat) (v : W64)
  /-- R217: The retiring bank's copy into the spare finishes and accesses move to the spare. -/
  | bankCopyDone (room : Nat) (badRows : List Nat)
  /-- R218: A write of Q_TAIL makes appended descriptors outstanding, or is dropped if the ring would overfill. -/
  | dwtQTailWrite (room : Nat) (q : Nat) (v : W64)
  /-- R233: A DWT_Q_CFG write configures a disabled, empty queue. -/
  | dwtQCfgWrite (room : Nat) (q : Nat) (v : W64)
  /-- R220: A COPY descriptor starts moving ROWS rows from SRC to DST. -/
  | dwtCopy (room : Nat) (q : Nat)
  /-- R220: A TRANSPOSE descriptor starts writing a matrix transposed. -/
  | dwtTranspose (room : Nat) (q : Nat)
  /-- R220: A TILE_STORE descriptor starts compressing a dense block into a tile under its rule. -/
  | tileStore (room : Nat) (q : Nat)
  /-- R220: A TILE_LOAD descriptor starts loading a tile's data and metadata regions after checking its header. -/
  | tileLoad (room : Nat) (q : Nat)
  /-- R220: A TILE_WRAP descriptor starts writing a dense block as a dense tile. -/
  | tileWrap (room : Nat) (q : Nat)
  /-- R220: A FILL descriptor starts writing a pattern over ROWS rows. -/
  | dwtFill (room : Nat) (q : Nat)
  /-- R220: A CHECK descriptor starts reading ROWS rows only to fold them. -/
  | dwtCheck (room : Nat) (q : Nat)
  /-- R223: A descriptor whose writes have all taken effect or been acknowledged writes its STATUS, advances Q_HEAD and performs NOTIFY. -/
  | descriptorComplete (room : Nat) (q : Nat) (guard : Bool)
  /-- R235: The Hearth executes one RV64IMAC instruction under the RISC-V specifications. -/
  | hearthInstruction (room : Nat) (par : Bool)
  /-- R236: A Hearth load reads its own Shelf or sends a Hall read. -/
  | hearthLoad (room : Nat)
  /-- R236: A Hearth store writes its own Shelf or posts a Hall write. -/
  | hearthStore (room : Nat)
  /-- R238: A Hearth AMO is performed atomically locally or as a Hall ATOMIC. -/
  | hearthAmo (room : Nat)
  /-- R238: A Hearth LR or SC runs on the own Shelf, and an SC elsewhere fails. -/
  | hearthSc (room : Nat)
  /-- R239: A FENCE with writes completes after every earlier remote write is acknowledged. -/
  | hearthFence (room : Nat)
  /-- R237: FENCE.I invalidates every line of the instruction buffer. -/
  | fenceI (room : Nat)
  /-- R241: A pending and enabled interrupt cause is taken by the Hearth. -/
  | hearthInterrupt (room : Nat) (cause : Nat)
  /-- R240: Setting HRT_CTRL.RUN starts the Hearth at HRT_BOOT. -/
  | hearthStart (room : Nat) (xu : Bool)
  /-- R240: Clearing HRT_CTRL.RUN halts the Hearth at the next instruction boundary. -/
  | hearthHalt (room : Nat) (xu : Bool)
  /-- R242: CS.FETCH copies the next stream entry into a buffer and advances CS_HEAD. -/
  | csFetch (room : Nat) (data : List W64) (fail : Bool) (errs : List Nat)
  /-- R242: CS.EXEC performs a command entry built in the Shelf. -/
  | csExec (room : Nat)
  /-- R252: CH.SEND sends a message record on a channel if credits cover it. -/
  | chSend (room : Nat)
  /-- R255: CH.NEXT chooses the lowest ring holding a record and returns its handler. -/
  | chNext (room : Nat)
  /-- R252: CH.DONE consumes a ring's head record and returns its credits. -/
  | chDone (room : Nat)
  /-- R253: CH.OPEN opens a receive ring with a new EPOCH or syncs a send channel. -/
  | chOpen (room : Nat)
  /-- R253: CH.CLOSE closes a receive ring or send channel. -/
  | chClose (room : Nat)
  /-- R324: LT.SIG makes an arrival at a Room or global Flue Latch. -/
  | ltSig (room : Nat)
  /-- R322: LT.WAIT waits on a Latch generation, locally or by a remote wait. -/
  | ltWait (room : Nat)
  /-- R242: DW.PUSH copies a descriptor to a ring tail and advances Q_TAIL. -/
  | dwPush (room : Nat)
  /-- R242: DW.WAIT waits for a descriptor to complete. -/
  | dwWait (room : Nat)
  /-- R242: A DW.WAIT whose timeout expires returns 0xFF. -/
  | dwWaitTimeout (room : Nat)
  /-- R258: SP.PUT contributes Stock records to a local or remote Stockpot. -/
  | spPut (room : Nat) (bad : Bool)
  /-- R242: The Xhearth STOKE instruction hands a Stoke to the Damper as a STEP-less entry. -/
  | stoke (room : Nat)
  /-- R257: Setting STP_CFG.EN empties the Stockpot's records and starts collecting. -/
  | stockpotEnable (room : Nat) (p : Nat) (v : W64)
  /-- R261: Every 2 µs the Stockpot port repeats a SYNC_REQ for a KIND 1 target lacking space. -/
  | stpSyncRetry (room : Nat) (p : Nat)
  /-- R261: A KIND 1 target without space 1 ms after the first SYNC_REQ is skipped. -/
  | stpTargetTimeout (room : Nat) (p : Nat)
  /-- R287: A router takes an arriving packet, checks its words and forwards or ejects it by its routing tables. -/
  | hallRoute (k : Nat) (flips : List (Nat × Nat)) (merge : Bool) (bad : Bool) (stall : Nat)
  /-- R282: A WRITE packet is delivered to its target and acknowledged. -/
  | hallWrite (k : Nat)
  /-- R282: A READ_REQ packet is served by its target and answered with READ_RSP or NACK. -/
  | readReq (k : Nat)
  /-- R282: A READ_RSP delivers read data or an old value to its requester. -/
  | readRsp (k : Nat)
  /-- R282: An ATOMIC packet performs an AMO at its target and returns the old value. -/
  | atomic (k : Nat)
  /-- R256: A MESSAGE packet is written into its receive ring or bounced. -/
  | message (k : Nat)
  /-- R258: A REDUCE packet is combined into a Stockpot's records or refused, and may complete the generation. -/
  | reduce (k : Nat) (bad : Bool)
  /-- R299: A STREAM packet writes a copy into each Room along its multicast span. -/
  | stream (k : Nat)
  /-- R284: An ACK completes a request, returns channel credits or carries a SYNC. -/
  | ack (k : Nat)
  /-- R285: A NACK refuses a request, and a refused MESSAGE is written to the sender's bounce ring. -/
  | nack (k : Nat)
  /-- R295: At a slot table entry's step the injection port injects the matching SCH packet or lets the slot pass. -/
  | hallSlot (room : Nat)
  /-- R276: Every 64 cycles of waiting a router increments a head ELA packet's AGE. -/
  | ageIncrement (k : Nat)
  /-- R413: Every 4,096 Corridor cycles a link's TX and RX check values are compared and restarted. -/
  | linkCvuCompare (room : Nat) (net : Nat) (port : Nat)
  /-- R290: A write to HAL_LINK, HAL_XT or HAL_YT updates the inactive version or is refused. -/
  | routingTableWrite (room : Nat) (off : Nat) (w : W64)
  /-- R290: Writing FLIP in HALG_EPOCH starts a routing version flip. -/
  | flip
  /-- R290: When every old-epoch count reaches zero DRAINED is set and held injection resumes. -/
  | hallEpochDone
  /-- R290: A flip not drained within DRAIN_US sets TIMED_OUT and resumes held injection. -/
  | hallDrainTimeout
  /-- R317: A write of a Latch's configuration clears its state and completes every waiter with LOST. -/
  | latchConfigure (glob : Bool) (room : Nat) (n : Nat) (v : W64)
  /-- R324: A write to LCH_ARRIVE makes a remote arrival at a Room Latch, which may complete a generation and release waiters. -/
  | lchArrive (room : Nat) (n : Nat) (pid : Nat) (frm : Nat)
  /-- R327: The hand operation SET sets FLAG and completes a generation if it was clear. -/
  | latchSet (glob : Bool) (room : Nat) (n : Nat)
  /-- R327: The hand operation CLEAR clears FLAG. -/
  | latchClear (glob : Bool) (room : Nat) (n : Nat)
  /-- R327: The hand operation ADVANCE completes the current generation. -/
  | latchAdvance (glob : Bool) (room : Nat) (n : Nat)
  /-- R327: The hand operation ARRIVE_AS makes an arrival as a given PID or remote index. -/
  | arriveAs (glob : Bool) (room : Nat) (n : Nat) (pid : Nat)
  /-- R327: The hand operation RESET_ARRIVALS clears ARRIVED, EARLY and VALUE. -/
  | resetArrivals (glob : Bool) (room : Nat) (n : Nat)
  /-- R322: A Latch wait whose timeout expires ends TIMEOUT and, for a Brick, halts the Suite. -/
  | latchTimeout (glob : Bool) (room : Nat) (n : Nat)
  /-- R338: An access reaching a Cellar controller is checked against the region grants and performed with page decoding. -/
  | cellarAccess (k : Nat) (errs : List Nat)
  /-- R336: The controller performs refresh and row-hammer mitigation as JEDEC HBM4 defines. -/
  | cellarRefresh (_stack : Nat)
  /-- R341: A stop whose head flit has waited 128 ring cycles reserves the next full slot. -/
  | ringReservation (k : Nat)
  /-- R363: A CEL_REG_A write changes a region grant unless it would overlap or overrun. -/
  | celRegionWrite (stack : Nat) (r : Nat) (v : W64)
  /-- R345: Setting CHU_CTRL.EN starts the Chute working from its list. -/
  | chuteEnable (c : Nat) (v : W64)
  /-- R366: Clearing CHU_CTRL.EN stops the Chute after the packet in flight. -/
  | chuteDisable (c : Nat) (v : W64)
  /-- R345: A write of CHU_LIST_TAIL appends list entries. -/
  | chuListTailWrite (c : Nat) (v : W64)
  /-- R346: A MARK list entry raises CHUTE_MARK and sends nothing. -/
  | mark (c : Nat) (errs : List Nat)
  /-- R347: A CELLAR list entry is decoded and its source reads from the Cellar begin. -/
  | cellar (c : Nat) (errs : List Nat)
  /-- R347: A LARDER list entry consumes the next bytes of its Larder stream. -/
  | larder (c : Nat) (errs : List Nat)
  /-- R346: A GATE list entry holds the list until a global Flue Latch generation completes. -/
  | gate (c : Nat) (errs : List Nat)
  /-- R345: An entry's source data arrives in the stream buffer. -/
  | chuteSourceData (c : Nat) (errs : List Nat)
  /-- R348: The Chute injects packet n of an entry as a STREAM at its scheduled step or as ELA allows. -/
  | chutePacket (c : Nat) (bad : Bool)
  /-- R351: At step S − 2FL − 16 the Chute checks that an SCH packet is ready and otherwise requests a CHUTE stall. -/
  | starvationCheck (c : Nat)
  /-- R353: A starvation lasting STARVE_US raises CHUTE_STARVED and sets STATE STARVED. -/
  | chuteStarved (c : Nat)
  /-- R355: Setting EN in a CHU_LS slot starts a new Larder session. -/
  | larderSlotEnable (c : Nat) (j : Nat) (v : W64)
  /-- R356: At least every 10 µs an enabled slot sends a CREDIT. -/
  | creditPeriod (c : Nat) (j : Nat)
  /-- R357: A DATA message from a Larder is taken into the stream buffer or rejected. -/
  | larderData (c : Nat) (j : Nat) (session : Nat) (off : Nat) (data : List Byte)
  /-- R358: A CHECK message from the Larder is compared with the span's folded CRC. -/
  | larderCheck (c : Nat) (j : Nat) (session : Nat) (start : Nat) (crc : W64)
  /-- R359: An ABORT message ends the Larder session and the Chute stops FAILED. -/
  | abort (c : Nat) (j : Nat) (session : Nat)
  /-- R369: An EAV_CFG.MODE write changes an optical engine's mode while its ports are disabled. -/
  | eavModeSet (pos : Nat) (v : W64)
  /-- R371: Setting PORT_EN starts a native port training or compatible link-up. -/
  | portEnable (pos : Nat) (v : W64)
  /-- R372: Clearing PORT_EN turns the port's transmitters off. -/
  | portDisable (pos : Nat) (v : W64)
  /-- R371: A step of native-port training completes and the next begins. -/
  | trainingStep (port : Nat) (engine : Nat) (partner : Nat) (mac : Nat) (native : Bool)
  /-- R371: A training attempt not complete in 500 ms is abandoned and retried, failing after three. -/
  | trainingAttemptTimeout (port : Nat)
  /-- R371: A failed port retries training every 1 s while PORT_EN stays set. -/
  | trainingRetry (port : Nat)
  /-- R371: The link comes up once the BER estimate has stayed below FEC_DEGRADE for 1 ms. -/
  | eavLinkUp (port : Nat)
  /-- R372: Loss of signal, FEC alignment or excess uncorrectable codewords takes the port down and out of every spray set. -/
  | eavLinkDown (port : Nat) (uncorr : Nat) (lost : Bool)
  /-- R372: A BER estimate crossing above FEC_DEGRADE raises EAV_FEC_DEGRADED. -/
  | eavFecDegraded (port : Nat) (lane : Nat) (ber : Nat) (rx : Nat)
  /-- R570: FEC degradation held for RT_FEC_MS makes Porch firmware take the port down to retrain. -/
  | fecDegradeTimeout (port : Nat)
  /-- R373: A received Ethernet frame is checked and handled as Yazal, RoCEv2, ARP, ND or echo, or discarded. -/
  | ethFrameReceive (port : Nat) (fcs : Bool) (icrc : Bool) (frame : List Byte)
  /-- R375: A received PFC frame pauses or resumes an enabled priority. -/
  | pfcFrame (port : Nat) (en : Nat) (times : List Nat)
  /-- R388: A Yazal DATA packet is accepted, placed or discarded by its context. -/
  | yazalData (port : Nat) (ce : Bool) (words : List W64) (data : List Byte)
  /-- R392: A Yazal ACK advances acknowledgement, marks losses and adjusts congestion. -/
  | yazalAck (port : Nat) (ce : Bool) (words : List W64)
  /-- R388: A Yazal RESET for an OPEN context fails it with PEER_RESET. -/
  | yazalReset (port : Nat) (ce : Bool) (words : List W64)
  /-- R392: 2 µs after an unacknowledged acceptance the receiver sends an ACK. -/
  | ackDelay (n : Nat) (port : Nat)
  /-- R392: A packet's retransmission timer expires and it is resent. -/
  | rtoExpiry (n : Nat)
  /-- R392: A port excluded from a spray set for PATH_HOLD_US returns to it. -/
  | pathHoldExpiry (n : Nat)
  /-- R393: A context without progress for STREAM_TIMEOUT_US fails with TIMEOUT. -/
  | streamTimeout (n : Nat)
  /-- R393: An idle KEEPALIVE context sends a HELLO after KEEPALIVE_US. -/
  | keepalive (n : Nat)
  /-- R381: A context read from the store after a cache miss arrives and the waiting packet proceeds. -/
  | contextMissFill (n : Nat)
  /-- R386: A doorbell write starts a context's send queue or is refused. -/
  | doorbell
  /-- R385: A SEND descriptor sends a message in the context's class. -/
  | send (n : Nat)
  /-- R385: A CONTROL descriptor sends a program CONTROL message. -/
  | control (n : Nat)
  /-- R378: A RoCEv2 SEND descriptor sends on a QP. -/
  | roceSend (n : Nat)
  /-- R378: A RoCEv2 WRITE descriptor writes remote memory. -/
  | roceWrite (n : Nat)
  /-- R378: A RoCEv2 READ descriptor reads remote memory. -/
  | roceRead (n : Nat)
  /-- R379: An inbound RoCEv2 packet is served against its R_Key or NAKed. -/
  | rocePacket (port : Nat) (ce : Bool) (icrc : Bool) (op : Nat) (qpn : Nat) (psn : Nat) (va : Nat) (rkey : Nat) (len : Nat) (synd : Nat) (data : List Byte)
  /-- R396: A HELLO CONTROL message probes an idle stream. -/
  | hello (n : Nat)
  /-- R391: A LATCH_ARRIVE CONTROL message makes a cross-engine Latch arrival in SEQ order. -/
  | latchArrive (n : Nat)
  /-- R473: A JOB_HALT message matching the local ROUND halts the job's Suites and is forwarded. -/
  | jobHalt (n : Nat)
  /-- R382: YZLG_CTX_SEL with GO and WRITE writes a context image while CLOSED or FAILED. -/
  | contextWrite (v : W64)
  /-- R399: Writing GO in YZLG_RC_A starts a roll call of the Suite. -/
  | rollCallGo (suite : Nat) (v : W64)
  /-- R399: Expiry of PERIOD_MS starts a roll call. -/
  | rollCallPeriod (suite : Nat)
  /-- R399: A ROLL_CALL message from the predecessor is compared with the Suite digest. -/
  | rollCall (n : Nat)
  /-- R400: A ROLL_SPLIT message bisects the Wing range of a digest mismatch. -/
  | rollSplit (n : Nat)
  /-- R399: No ROLL_CALL within RC_TIMEOUT_US raises ROLL_CALL_TIMEOUT. -/
  | rollCallTimeout (suite : Nat)
  /-- R417: PROGRESS_MS of counted cycles without progress raises SUITE_NO_PROGRESS and halts the Suite. -/
  | suiteNoProgress (suite : Nat)
  /-- R419: CVUG_INSP_PKG GO has Porch firmware verify and install an inspection set. -/
  | inspInstall (v : W64) (signed : Bool)
  /-- R420: At the end of a checkpoint window the inspected Rooms' results are judged, they are restored and GROUP advances. -/
  | inspectionWindowEnd (suite : Nat) (fails : List Nat)
  /-- R422: CVUG_ST GO starts a targeted self-test of a unit. -/
  | selfTest (v : W64) (ref : Nat) (firmware : Bool)
  /-- R423: A self-test ends PASS, FAIL or INCONCLUSIVE and logs its record. -/
  | selftestDone (result : Nat)
  /-- R429: An incident record reaches the Porch collector and is appended to the log. -/
  | incidentRecord (k : Nat)
  /-- R425: A unit whose corrected errors exceed CE_LIMIT in an hour writes a CE_RATE record. -/
  | ceRateCheck (kind : Nat) (inst : Nat) (rise : Nat)
  /-- R426: A strike older than DECAY_H hours expires. -/
  | strikeExpiry (phys : Nat)
  /-- R414: A write of a running check value is accepted only while its stream is idle. -/
  | cvuRunWrite (unit : Nat) (k : Nat) (v : W64)
  /-- R439: A STRENGTH write with every region disabled starts recoding the stack. -/
  | eccCfgWrite (stack : Nat) (v : W64)
  /-- R439: Recoding finishes, RECODE clears and a first scrub pass starts. -/
  | recodeDone (stack : Nat) (bad : List Nat)
  /-- R444: The scrubber reads and corrects the next Cellar page at RATE. -/
  | scrubRead (stack : Nat) (e : Nat)
  /-- R445: At the end of a scrub pass RATE is doubled, halved or kept by PASS_CE. -/
  | scrubPassEnd (stack : Nat)
  /-- R446: Every 4,096 cycles the Shelf scrubber reads one line of each bank. -/
  | shelfScrub (room : Nat) (errs : List Nat) (late : List Nat)
  /-- R450: ECC_RETIRE GO moves a page to a spare in the remap reserve. -/
  | pageRetire (stack : Nat) (v : W64) (e : Nat)
  /-- R451: An ECC_REMAP_DATA write sets a remap entry while regions are disabled. -/
  | eccRemapWrite (stack : Nat) (v : W64)
  /-- R448: A write of ECCG_LOG_HEAD releases read records, or is refused if it passes TAIL. -/
  | logHeadWrite (v : W64)
  /-- R465: At the end of step S the Suite enters HOLD and its Hearths, descriptors and Chutes stop. -/
  | sweepHold (suite : Nat)
  /-- R465: Once every Room is quiet the Room images are written to the checkpoint buffer. -/
  | quiescence (suite : Nat)
  /-- R467: Quiescence not reached in QUIESCE_US fails the Sweep-out and releases the Suite. -/
  | quiesceTimeout (suite : Nat)
  /-- R465: Once every image is acknowledged the header is written and any inspection window opens. -/
  | sweepOutDone (suite : Nat) (fail : Bool)
  /-- R465: At the named cycle HOLD ends, step S + 1 executes and any mirror starts. -/
  | holdRelease (suite : Nat)
  /-- R471: SWPG_CMD PREEMPT sweeps the Suite out and resets it. -/
  | preempt (suite : Nat)
  /-- R476: SWPG_CMD SWEEP_IN checks the checkpoint and restores every Room image. -/
  | sweepIn (suite : Nat) (src : Nat) (buf : Nat) (gen : Nat)
  /-- R476: SWPG_CMD RETURN sends a mirrored checkpoint back to a replacement engine. -/
  | sweepReturn (suite : Nat) (gen : Nat)
  /-- R476: SWPG_CMD RESUME arms the Suites to leave HOLD at SWPG_RESUME_ET. -/
  | swpgResume (suite : Nat)
  /-- R472: SWPG_CMD HALT starts a job halt. -/
  | swpgHalt (suite : Nat)
  /-- R474: SWPG_CMD ABORT returns a restart to IDLE. -/
  | swpgAbort (suite : Nat)
  /-- R476: Every image is restored and checked, and the restart moves to roll call. -/
  | sweepInDone (suite : Nat) (bad : List Nat)
  /-- R476: At SWPG_RESUME_ET every Suite of the job leaves HOLD and executes step STEP + 1. -/
  | resumeEt
  /-- R483: Every 64 cycles each Damper cell estimates current, the Wing updates its floor and Banking fires ballast. -/
  | damperTick (wing : Nat)
  /-- R490: At step S_k − LA the Damper raises Wing targets and issues any SLOPE FREEZE. -/
  | profileRise (suite : Nat) (start : Nat) (level : Nat)
  /-- R486: HOLD_US after a freeze began the held floor starts to decay. -/
  | floorHoldExpiry (wing : Nat)
  /-- R518: A Chimney reports that its Stoke pre-positioning is in effect. -/
  | chimneyReady (wing : Nat)
  /-- R493: A Stoke not ready by t₀ + lead raises DMP_STOKE_LATE. -/
  | dmpStokeLate (suite : Nat)
  /-- R493: HOLD_US after t₀ + lead an active Stoke ends. -/
  | stokeEnd (suite : Nat)
  /-- R496: At the end of each 1 ms window the Damper sets DERATE_W and allocates power among Suites. -/
  | powerWindow
  /-- R499: A CAP_W write is accepted within its limits. -/
  | capWrite (v : W64)
  /-- R499: A MIN_W or MAX_W write is accepted within the cap limits. -/
  | suiteBudgetWrite (suite : Nat) (v : W64)
  /-- R502: Setting DMPG_DRAUGHT.EN sets E to the equal split. -/
  | draughtEnable (v : W64)
  /-- R503: A DMPG_DR_TOTAL write resets every engine's E to the equal split. -/
  | drTotalWrite (v : W64)
  /-- R502: At each Draught period the engine computes COLD, sends STATUS and may GIVE. -/
  | draughtPeriod
  /-- R502: A STATUS Draught message records a peer's COLD. -/
  | draughtStatus (n : Nat)
  /-- R502: A GIVE Draught message is answered with TAKE after reserving budget. -/
  | give (n : Nat)
  /-- R502: A TAKE Draught message lowers the giver's E and sends CONFIRM. -/
  | take (n : Nat)
  /-- R502: A CONFIRM Draught message raises the receiver's E. -/
  | confirm (n : Nat)
  /-- R504: Every 10 µs each Room's sensor is sampled and the Suite throttle updated. -/
  | thermalSample (room : Nat) (temp : Int)
  /-- R550: The 48 V input enters its operating range and cold bring-up starts. -/
  | powerOn
  /-- R550: A bring-up step completes and the next begins, ending with READY. -/
  | bringupStep (ok : Bool) (ns : List Nat) (ws : List W64)
  /-- R550: A bring-up step not done by its time ends bring-up FAILED. -/
  | bringupTimeout
  /-- R513: Every 10 µs VIN and IIN are measured. -/
  | inputSample (vin : Nat) (iin : Nat)
  /-- R514: An undervoltage or overvoltage held past its limit turns every Chimney off. -/
  | inputShutdown
  /-- R516: Every 10 µs a Chimney sends VOUT and IOUT samples over its link. -/
  | chimneySample (wing : Nat) (phases : Nat) (vout : Nat) (iout : Nat)
  /-- R519: Every 1 ms Porch firmware polls each Chimney's STATUS_WORD. -/
  | pmbusPoll (wing : Nat) (status : Nat) (temp : Nat)
  /-- R519: A Chimney fault shuts it down and every running Suite is reset. -/
  | pwrChimneyFault (wing : Nat)
  /-- R519: PWRW_CTRL.RESTART restarts a faulted Chimney unless the fault remains. -/
  | chimneyRestart (wing : Nat) (still : Bool)
  /-- R517: A slewing Chimney reaches its new RAIL. -/
  | railReached (wing : Nat)
  /-- R521: Every 10 µs each sense point is compared with the others. -/
  | senseCheck (wing : Nat) (q0 : Nat) (q1 : Nat) (q2 : Nat) (q3 : Nat)
  /-- R524: A write of ROOM_ON = 1 starts powering a Room domain. -/
  | roomOn (room : Nat)
  /-- R524: A write of ROOM_ON = 0 opens a Room's header switches. -/
  | roomOff (room : Nat)
  /-- R522: A further stage of a Room's header switches closes 2 µs after the last. -/
  | headerStage (room : Nat)
  /-- R522: After decoder self-test and zero-fill the Room domain reports power-good. -/
  | roomPowerGood (room : Nat) (decoderBad : Bool)
  /-- R524: A TRIP_CLR write clears a thermal trip once the Room is below 90 °C. -/
  | tripClr (room : Nat)
  /-- R525: A PWR_TRIM write changes a Room's VTRIM and header drop. -/
  | vtrimWrite (room : Nat) (v : W64)
  /-- R529: Writing bit 63 of PWR_TEMP clears TMAX. -/
  | tmaxClear (room : Nat)
  /-- R526: Every 10 ms flow and temperatures are sampled and filtered. -/
  | coolantSample (flow : Nat) (tin : Nat) (tout : Nat)
  /-- R528: Low flow or hot inlet for 1 s halts every Suite and opens every Room. -/
  | pwrCoolantFault
  /-- R528: A wet leak trace halts every Suite and opens every Room. -/
  | pwrLeak (wet : Bool)
  /-- R528: PWRG_CTRL.CLEAR allows Rooms on again after a coolant fault or leak. -/
  | pwrgClear
  /-- R533: A failed reference switches over automatically or leaves the engine on it. -/
  | clkRefFail (ref : Nat)
  /-- R548: A CLKG_REF.SEL write switches to the preferred reference if good. -/
  | refSelect (v : W64)
  /-- R539: A Wing PLL losing lock stops the Wing clock and resets its Suites. -/
  | clkLockLost (wing : Nat)
  /-- R539: A core relocks within 1 ms and the Wing restarts and retrains. -/
  | relock (wing : Nat) (core : Nat)
  /-- R539: No core locked within 1 ms fences the Wing at the next remap. -/
  | relockTimeout (wing : Nat)
  /-- R540: A CLKG_SWITCH write with GO requests a Suite rate change. -/
  | rateSwitch (suite : Nat) (v : W64)
  /-- R537: A Wing's idle core locks to the new rate. -/
  | coreLocked (wing : Nat)
  /-- R541: After 24 periods the Suite runs at the new rate and seam pointers restart. -/
  | clkSwitchDone (suite : Nat) (bad : List Nat)
  /-- R544: A CLKG_PERI write gates or ungates Porch peripheral clocks. -/
  | peripheralGate (v : W64) (firmware : Bool)
  /-- R558: COMMIT_S after its first change, or at once for some, the working Survey is committed to flash. -/
  | surveyCommit
  /-- R576: SRVG_CMD MARK_BAD marks a physical Room bad. -/
  | markBad (phys : Nat)
  /-- R571: SRVG_CMD RETRAIN_SEAM retrains a Wing seam. -/
  | retrainSeam (wing : Nat) (side : Nat)
  /-- R570: SRVG_CMD RETRAIN_CHANNEL retrains a Cellar channel. -/
  | retrainChannel (stack : Nat) (ch : Nat)
  /-- R576: SRVG_CMD COMMIT starts a Survey commit. -/
  | commit
  /-- R570: A Cellar channel with excess errors is taken out of service for retraining. -/
  | channelOutOfService (stack : Nat) (ch : Nat) (errs : Nat)
  /-- R570: A retraining attempt finishes, succeeding or failing after three attempts. -/
  | retrainAttemptEnd (target : Nat) (good : Bool)
  /-- R564: At a restart Porch firmware solves and applies a new remap. -/
  | remap (masks : List Nat) (failed : Nat) (us : Nat)
  /-- R580: RST_CTRL.GO_BRICK resets one Brick's datapath state. -/
  | goBrick (room : Nat) (b : Nat)
  /-- R581: RST_CTRL.GO_ROOM starts a Room reset with drain. -/
  | goRoom (room : Nat)
  /-- R581: Packets still in the injection buffer after DRAIN_US are discarded. -/
  | rstDrainTimeout (room : Nat)
  /-- R581: After 64 cycles of reset the Room's endpoints deliver again. -/
  | roomResetRelease (room : Nat)
  /-- R584: RSTG_SUITE GO resets every Room of a Suite and its Suite-wide state. -/
  | suiteReset (v : W64)
  /-- R588: RSTG_HOUSE with the key resets the whole module and reruns bring-up. -/
  | houseReset (v : W64)
  /-- R633: RESET# held low for 10 µs causes a House reset. -/
  | resetPin
  /-- R594: PERST# causes a House reset and resets the PCIe link. -/
  | perst
  /-- R601: An unserviced Porch watchdog causes a House reset after 2 s. -/
  | porchWatchdog
  /-- R596: A host BAR2 access travels as a HOST ELA packet and completes even when refused. -/
  | bar2Access (write : Bool) (off : Nat) (n : Nat) (data : List Byte)
  /-- R595: A BAR0 access unanswered in 20 µs completes with zeros. -/
  | pchPageTimeout (addr : Nat) (write : Bool)
  /-- R597: An engine access to host memory becomes a PCIe memory request. -/
  | hostRequest (k : Nat) (bme : Bool)
  /-- R597: A host request completes or fails and is answered to its requester. -/
  | hostCompletion (k : Nat) (ok : Bool) (data : List Byte)
  /-- R609: A write to PCHE_ARM resends a source's vector if it is still pending. -/
  | pcheArm (src : Nat)
  /-- R609: After HOLDOFF_US a pending source may send its vector again. -/
  | holdoffExpiry (src : Nat)
  /-- R594: A Function Level Reset resets the PCIe function's configuration only. -/
  | functionLevelReset
  /-- R598: PCH_RECOV GO in recovery verifies a staged image and writes it to slot A. -/
  | recoveryImage (verifies : Bool) (version : Nat)
  /-- R616: The mailbox command UPDATE_FW verifies and installs new firmware. -/
  | updateFw (verifies : Bool) (version : Nat)
  /-- R616: The mailbox command EXPORT_SURVEY writes the working Survey to memory. -/
  | exportSurvey
  /-- R616: The mailbox command MGMT_CFG sets the management port addresses. -/
  | mgmtCfg
  /-- R617: Writing 1 to FW_LOCK refuses firmware updates until House reset. -/
  | fwLock
  /-- R617: Writing 1 to DBG_LOCK locks debug access until House reset. -/
  | dbgLock
  /-- R599: A request on the management service is served by Porch firmware. -/
  | mgmtRequest (op : Nat) (a : Nat) (x : W64) (y : W64)
  /-- R516: A rack PMBus command is answered with module-level values. -/
  | rackPmbusCommand (cmd : Nat)
  /-- R600: An input edge on a GPIO pin raises GPIO_EDGE. -/
  | gpioEdge (pin : Nat) (level : Bool)
  /-- R600: A Porch timer reaching zero raises TIMER_EXPIRED. -/
  | timerExpired (k : Nat)
  /-- R612: PCHS_CMD DEFINE creates a Suite and powers its mapped Rooms. -/
  | define (v : W64)
  /-- R612: PCHS_CMD DELETE removes a Suite and powers its Room domains off. -/
  | delete (v : W64)
  /-- R623: A rising edge on an input trigger pin performs its ACTION. -/
  | trigInput (pin : Nat)
  /-- R624: DBG_SWEEP_CMD GO with DIR OUT scans Room images out. -/
  | debugSweepOut (bad : Nat)
  /-- R624: DBG_SWEEP_CMD GO with DIR IN restores Room images after checking them. -/
  | debugSweepIn (bad : Nat) (crc : Nat)
  /-- R625: TRST* or Test-Logic-Reset resets the test access port. -/
  | jtagReset
  /-- R626: EXTEST drives boundary-scan cells when the engine is in standby, booting or recovery. -/
  | extest (pins : Nat) (vals : Nat)
  /-- R625: SAMPLE/PRELOAD captures or preloads the boundary-scan cells. -/
  | samplePreload (pins : Nat) (vals : Nat)
  /-- R625: IDCODE shifts out the device identification code. -/
  | idcode
  /-- R626: HIGHZ places the covered pins in high impedance. -/
  | highz
  /-- R626: CLAMP holds the covered pins at preloaded values. -/
  | clamp
  /-- R627: A DBGACC Update-DR performs a BAR0 read or write as a host access. -/
  | dbgacc (op : Nat) (off : Nat) (data : W64)
  /-- R625: BYPASS selects the one-bit bypass register. -/
  | bypass
  /-- R188: A stall of fixed length (CLOCK, THERMAL, BUDGET, SLOPE) ends after its counted steps, the Suite leaves the frozen state and issue resumes. -/
  | fixedStallEnd (suite : Nat)
  /-- R621: At each OBS_CLK period the observation multiplexer takes a sample of the source register, drives the pins and tests the MATCH condition, possibly pulsing a trigger and raising DBG_MATCH. -/
  | observationSample
  /-- R633: When RESET# rises after being held low, the boot ROM starts and bring-up resumes from step 2 of R550. -/
  | resetPinRise
  /-- R394: The pacing of a Yazal context releases its next packet at cwnd × MSS per SRTT onto the next port of the spray set. -/
  | pacedSend (n : Nat)
  deriving DecidableEq, Repr

end Sys2Proof
end

