-- ==== Sys2Proof/Decode.lean ====
section
/-!
DEFINITION. The decoder over the opcode table's bits.  The table gives no row any bits: a command is named, with its operands, by its sender.
-/

namespace Sys2Proof

/-- The command a word of `nbits` bits spells by the table's bits: the table gives none of its rows bits, so no word spells a command. -/
def decodeTableWord (_nbits _w : Nat) : Option Instr := none

end Sys2Proof
end

