-- ==== Sys2Proof/Config.lean ====
section
/-!
DEFINITION. What the spec leaves open: constants without a body, so that nothing can be proved of their values.  Each is applied to
plain data, and a statement holds for every value it may have.
-/

namespace Sys2Proof.Config

/-- An open 64-bit value, drawn by the model's counter of open values. -/
opaque freeWord : Nat → BitVec 64

/-- An open number, drawn by the model's counter of open values. -/
opaque freeNat : Nat → Nat

/-- An open 64-bit value among several drawn at once: the draw and the place in it. -/
opaque freeAt : Nat → Nat → BitVec 64

/-- The set of its home engine's cache that a stream context falls in, before reduction modulo 256 (R381). -/
opaque ctxSet : Nat → Nat

/-- The fixed UDP source port of a queue pair (R378 does not give it). -/
opaque rocePort : Nat → Nat

/-- A field of a memory-region entry's two words: 0 base EA, 1 length, 2 Suite, 3 rights with bit 0 for remote writes and bit 1 for remote reads
(R379 gives the fields and not their places). -/
opaque mrField : Nat → BitVec 64 → BitVec 64 → Nat

/-- The word in which the rack PMBus port reports a reading, from the command code and the reading (R516 gives no data format). -/
opaque pmbusWord : Nat → Nat → BitVec 64

/-- What a Hearth's identification CSRs hold: mvendorid, marchid, mimpid and mconfigptr, by number. -/
opaque hearthId : Nat → BitVec 64

/-- Kamoux's JEDEC manufacturer code, bits 11:1 of the IDCODE register (R625 does not give it). -/
opaque jedec : Nat

/-- Kamoux's PCI-SIG vendor ID (R594 does not give it). -/
opaque vendorId : BitVec 16

/-- How the host link has trained: width, rate, FLIT and UP in the places of PCH_LINK (R594, R618). -/
opaque pcieLink : BitVec 64

/-- The error of a special function's result in units of the last place, from the opcode, the format and the operand; the meaning
limits it to the stated bound (R110). -/
opaque ulps : Nat → Nat → Nat → Int

end Sys2Proof.Config
end

