-- ==== Sys2Proof/Machine/Bits.lean ====
section
/-!
DEFINITION. Bit fields, sign extension, byte order and saturating counts, as the field tables of the
spec use them (R9, R10).
-/

namespace Sys2Proof.Machine

/-- Field `hi:lo` of a word, as a number (R10). -/
def fld (x : W64) (hi lo : Nat) : Nat := (x.toNat >>> lo) % 2 ^ (hi + 1 - lo)

/-- Bit `i` of a word. -/
def tst (x : W64) (i : Nat) : Bool := x.getLsbD i

/-- The word whose bits `hi:lo` are set and whose other bits are clear. -/
def maskOf (hi lo : Nat) : W64 := BitVec.ofNat 64 ((2 ^ (hi + 1 - lo) - 1) <<< lo)

/-- The value `v` placed in field `hi:lo`, other bits clear. -/
def put (hi lo v : Nat) : W64 := BitVec.ofNat 64 ((v % 2 ^ (hi + 1 - lo)) <<< lo)

/-- A word with field `hi:lo` replaced by `v`; every other bit kept. -/
def setFld (x : W64) (hi lo v : Nat) : W64 := (x &&& ~~~ maskOf hi lo) ||| put hi lo v

/-- A word with bit `i` set. -/
def setBit (x : W64) (i : Nat) : W64 := x ||| put i i 1

/-- A word with bit `i` clear. -/
def clrBit (x : W64) (i : Nat) : W64 := x &&& ~~~ put i i 1

/-- A field that counts and stops at its largest value ("saturating" in the field tables). -/
def bumpFld (x : W64) (hi lo n : Nat) : W64 :=
  setFld x hi lo (min (fld x hi lo + n) (2 ^ (hi + 1 - lo) - 1))

/-- A number as a single bit. -/
def b2n (b : Bool) : Nat := if b then 1 else 0

/-- The signed value of the low `w` bits of `n`, in two's complement. -/
def sgn (w n : Nat) : Int :=
  let m := n % 2 ^ w
  if 2 * m < 2 ^ w then (m : Int) else (m : Int) - (2 ^ w : Nat)

/-- An integer reduced to `w` bits of two's complement. -/
def unsgn (w : Nat) (i : Int) : Nat := (i % ((2 ^ w : Nat) : Int)).toNat

/-- Lane `i` of width `w` of a token (R47): bits `w*i+w-1 : w*i`. -/
def lane (w : Nat) (x : W64) (i : Nat) : Nat := (x.toNat >>> (w * i)) % 2 ^ w

/-- A token packed from its lanes, lane 0 lowest (R47). -/
def packLanes (w : Nat) : List Nat → Nat
  | [] => 0
  | v :: vs => v % 2 ^ w + 2 ^ w * packLanes w vs

/-- A token from its list of lanes (R47). -/
def ofLanes (w : Nat) (vs : List Nat) : W64 := BitVec.ofNat 64 (packLanes w vs)

/-- A little-endian value of a list of bytes. -/
def leNat : List Nat → Nat
  | [] => 0
  | b :: bs => b % 256 + 256 * leNat bs

/-- The first `n` bytes of a number, least significant first. -/
def leBytes : Nat → Nat → List Nat
  | 0, _ => []
  | n + 1, v => v % 256 :: leBytes n (v / 256)

/-- Rounding up to a whole number of `k`. -/
def ceilDiv (n k : Nat) : Nat := (n + k - 1) / k

end Sys2Proof.Machine
end

