-- ==== Sys2Proof/Machine/Codes.lean ====
section
/-!
DEFINITION. The check codes: the extended Hamming code of a token (R49, R50), CRC-64 (R148), and the Philox-4×32-10 generator
(R73).
-/

namespace Sys2Proof.Machine

/-- A token: data, check bits, context tag and VOID (R46). -/
structure Token where
  data  : W64
  check : BitVec 8
  tag   : Nat
  void  : Bool
  deriving DecidableEq, Repr, Inhabited

/-- The covered bits of a token as one number: data, tag, VOID (R49). -/
def coveredBits (data : W64) (tag : Nat) (void : Bool) : Nat :=
  data.toNat + (tag % 4) * 2 ^ 64 + b2n void * 2 ^ 66

/-- The places 3 to 74 that are not powers of two, in order (R49). -/
def hammingPlaces : List Nat := (List.range 75).filter fun p => decide (3 ≤ p) && decide (2 ^ Nat.log2 p ≠ p)

/-- The XOR of the places of the set bits, which is the seven check bits c_0 to c_6 (R49). -/
def hammingSum (x : Nat) : List Nat → Nat → Nat
  | [], _ => 0
  | p :: ps, i => (if x.testBit i then p else 0) ^^^ hammingSum x ps (i + 1)

/-- The parity of the low `n` bits. -/
def parityN (x : Nat) : Nat → Bool
  | 0 => false
  | n + 1 => x.testBit n != parityN x n

/-- The eight check bits of covered bits `x`, of which there are `n` at the places `ps` (R49, R307). -/
def hammingCheck (ps : List Nat) (nchk : Nat) (x : Nat) : Nat :=
  let c := hammingSum x ps 0 % 2 ^ (nchk - 1)
  let odd := parityN x ps.length != parityN c (nchk - 1)
  c + b2n odd * 2 ^ (nchk - 1)

/-- The check bits of a token (R49). -/
def tokenCheck (data : W64) (tag : Nat) (void : Bool) : BitVec 8 :=
  BitVec.ofNat 8 (hammingCheck hammingPlaces 8 (coveredBits data tag void))

/-- A token with its own check bits. -/
def mkToken (data : W64) (tag : Nat) (void : Bool) : Token := ⟨data, tokenCheck data tag void, tag % 4, void⟩

/-- The outcome of a check (R50). -/
inductive CheckOut where
  | clean
  | corrected (x : Nat)
  | uncorrectable
  deriving DecidableEq, Repr, Inhabited

/-- What follows from the outcome of a check. -/
def CheckOut.sort {α : Type} (clean : α) (fixed : Nat → α) (bad : α) : CheckOut → α
  | .clean => clean
  | .corrected x => fixed x
  | .uncorrectable => bad

/-- The check of `x` covered bits against received check bits: syndrome and overall parity (R50). -/
def hammingDecode (ps : List Nat) (nchk : Nat) (x chk : Nat) : CheckOut :=
  let k := nchk - 1
  let syn := (hammingSum x ps 0 % 2 ^ k) ^^^ (chk % 2 ^ k)
  let differs := parityN x ps.length != (parityN (chk % 2 ^ k) k != chk.testBit k)
  if syn = 0 then (if differs then .corrected x else .clean)
  else if !differs then .uncorrectable
  else
    match ps.findIdx? (· == syn) with
    | some i => .corrected (x ^^^ 2 ^ i)
    | none => if syn ≤ ps.foldl max 0 ∧ 2 ^ Nat.log2 syn = syn then .corrected x else .uncorrectable

/-- A received token checked on entry to a queue or at a seam (R50); a corrected token carries the corrected bits. -/
def checkToken (t : Token) : CheckOut := hammingDecode hammingPlaces 8 (coveredBits t.data t.tag t.void) t.check.toNat

/-- The token of its covered bits. -/
def tokenOfCovered (x : Nat) : Token :=
  mkToken (BitVec.ofNat 64 x) (x / 2 ^ 64 % 4) (x.testBit 66)

/-- A token with the wires of `mask` flipped: data in bits 63:0, tag in 65:64, VOID in 66, check bits in 74:67. -/
def flipToken (t : Token) (mask : Nat) : Token :=
  let x := coveredBits t.data t.tag t.void ^^^ (mask % 2 ^ 67)
  ⟨BitVec.ofNat 64 x, t.check ^^^ BitVec.ofNat 8 (mask / 2 ^ 67), x / 2 ^ 64 % 4, x.testBit 66⟩

/-- The generator x²⁰ + x¹² + x¹¹ + x⁶ + x⁵ + x⁴ + x² + x + 1 of a Shelf line's BCH code: the minimal polynomials of α and α³ in GF(2¹⁰) by x¹⁰ + x³ + 1,
multiplied (R214). -/
def shelfGen : Nat := 0x101877

/-- One more bit `b` of a polynomial, from the highest down, folded into its remainder by the generator (R214). -/
def shelfFold (r : Nat) (b : Bool) : Nat :=
  let x := 2 * r + b2n b
  if x.testBit 20 then x ^^^ shelfGen else x

/-- The remainder of the low `n` bits of `x`, read as a polynomial with bit i at x^i, by the generator (R214). -/
def shelfRem (x : Nat) : Nat → Nat → Nat
  | 0, r => r
  | n + 1, r => shelfRem x n (shelfFold r (x.testBit n))

/-- The 21 check bits of a line: 20 BCH bits of its 512 data bits and the line address above them, and overall parity (R214). -/
def shelfLineCheck (data addr : Nat) : Nat :=
  let x := (data % 2 ^ 512 + addr % 2 ^ 16 * 2 ^ 512) * 2 ^ 20
  let c := shelfRem x 548 0
  c + b2n (parityN (x + c) 548) * 2 ^ 20

/-- The remainders of x^0 to x^547, each with its place (R214). -/
def shelfRoots : Nat → Nat → Nat → List (Nat × Nat)
  | 0, _, _ => []
  | n + 1, i, r => (i, r) :: shelfRoots n (i + 1) (shelfFold r false)

/-- The places of at most two upset bits that explain a syndrome and an overall parity, place 548 being the parity bit; none where no two do (R214). -/
def shelfLocate (syn : Nat) (odd : Bool) : Option (List Nat) :=
  let roots := shelfRoots 548 0 1
  match syn, odd with
  | 0, false => some []
  | 0, true => some [548]
  | syn, true => (roots.find? fun e => e.2 = syn).map fun e => [e.1]
  | syn, false =>
    match roots.find? fun e => e.2 = syn with
    | some e => some [e.1, 548]
    | none => (roots.find? fun e => roots.any fun f => e.2 ^^^ f.2 = syn).bind fun e => (roots.find? fun f => e.2 ^^^ f.2 = syn).map fun f => [e.1, f.1]

/-- What the decoder of a Shelf line makes of the upset bits `e` of its codeword: the bits it corrects, 3 where it can correct none; whether an address bit
is among them, so that the line is another's; and which bits of the data it delivers stay wrong.  BCH bits lie in bits 19:0 of `e`, data in 531:20, the
address in 547:532, parity in bit 548 (R214, R215). -/
def shelfVerdict (e : Nat) : Nat × Bool × Nat :=
  if e = 0 then (0, false, 0)
  else match shelfLocate (shelfRem e 548 0) (parityN e 549) with
    | none => (3, false, 0)
    | some l =>
      if l.any (fun i => decide (532 ≤ i ∧ i < 548)) then (3, true, 0)
      else (l.length, false, (l.foldl (fun e i => e ^^^ 2 ^ i) e) / 2 ^ 20 % 2 ^ 512)

/-! ### The Reed–Solomon code of a Cellar page -/

/-- α times an element of GF(2¹⁰) by x¹⁰ + x³ + 1 (R437). -/
def gfTwice (a : Nat) : Nat := if a.testBit 9 then (2 * a) ^^^ 0x409 else 2 * a

/-- A product in GF(2¹⁰), the bits of `b` taken from bit `n − 1` down (R437). -/
def gfMulN (a b : Nat) : Nat → Nat → Nat
  | 0, r => r
  | n + 1, r => gfMulN a b n (gfTwice r ^^^ (if b.testBit n then a else 0))

/-- A product in GF(2¹⁰) (R437). -/
def gfMul (a b : Nat) : Nat := gfMulN a b 10 0

/-- α^n (R437). -/
def gfExp : Nat → Nat
  | 0 => 1
  | n + 1 => gfTwice (gfExp n)

/-- The inverse a^1022 of an element, as the product of a^2 to a^512. -/
def gfInv (a : Nat) : Nat :=
  ((List.range 9).foldl (fun x _ => let q := gfMul x.1 x.1; (q, gfMul x.2 q)) (a, 1)).2

/-- A polynomial over GF(2¹⁰), lowest coefficient first, at `x`. -/
def gfEval (c : List Nat) (x : Nat) : Nat := c.foldr (fun k r => gfMul r x ^^^ k) 0

/-- The sum of `a` and `k` times `b`. -/
def gfAdd (k : Nat) : List Nat → List Nat → List Nat
  | [], b => b.map (gfMul k)
  | a, [] => a
  | x :: a, y :: b => (x ^^^ gfMul k y) :: gfAdd k a b

/-- The product of two polynomials. -/
def gfProd : List Nat → List Nat → List Nat
  | [], _ => []
  | k :: a, b => gfAdd k (0 :: gfProd a b) b

/-- The `n` 10-bit symbols of a number, from bit 0 on (R437). -/
def symbolsOf (x : Nat) : Nat → List Nat
  | 0 => []
  | n + 1 => x % 2 ^ 10 :: symbolsOf (x / 2 ^ 10) n

/-- The number whose 10-bit symbols these are. -/
def ofSymbols : List Nat → Nat
  | [] => 0
  | a :: l => a + 2 ^ 10 * ofSymbols l

/-- The generator (x − α⁰) to (x − α^(n−1)), lowest coefficient first (R437). -/
def rsGen : Nat → List Nat
  | 0 => [1]
  | n + 1 => gfProd [gfExp n, 1] (rsGen n)

/-- One more symbol, from the highest power down, folded into a remainder by the generator, highest coefficient first (R437). -/
def rsFold (gen r : List Nat) (a : Nat) : List Nat :=
  let k := r.headD 0 ^^^ a
  gfAdd k (r.tail ++ [0]) gen

/-- The 2t parity symbols of half `h` of page `p`: its 820 data symbols, low symbol first, then the three address symbols, which are not stored (R437). -/
def pageParity (t p h bits : Nat) : List Nat :=
  let gen := (rsGen (2 * t)).reverse.tail
  (symbolsOf bits 820 ++ symbolsOf (2 * p + h) 3).foldl (rsFold gen) (List.replicate (2 * t) 0)

/-- The syndromes of a received codeword, the first symbol at the highest power (R437). -/
def rsSyndromes (t : Nat) (e : List Nat) : List Nat := (List.range (2 * t)).map fun j => e.foldl (fun r a => gfMul r (gfExp j) ^^^ a) 0

/-- A stage of the search for the error locator: the locator, the last one to change its length, that length, the distance since and the discrepancy then. -/
structure RsStage where
  loc  : List Nat
  prev : List Nat
  len  : Nat
  gap  : Nat
  disc : Nat

/-- One more syndrome taken into the error locator. -/
def RsStage.next (syn : List Nat) (x : RsStage) (n : Nat) : RsStage :=
  let d := (List.range (x.len + 1)).foldl (fun d i => d ^^^ gfMul (x.loc.getD i 0) (if i ≤ n then syn.getD (n - i) 0 else 0)) 0
  if d = 0 then { x with gap := x.gap + 1 }
  else
    let c := gfAdd (gfMul d (gfInv x.disc)) x.loc (List.replicate x.gap 0 ++ x.prev)
    if 2 * x.len ≤ n then ⟨c, x.loc, n + 1 - x.len, 1, d⟩ else { x with loc := c, gap := x.gap + 1 }

/-- The symbols in error that a decoder of t errors locates, each with the value it corrects by; none where it fails (R437, R440). -/
def rsLocate (t : Nat) (e : List Nat) : Option (List (Nat × Nat)) :=
  let syn := rsSyndromes t e
  let x := (List.range (2 * t)).foldl (RsStage.next syn) ⟨[1], [1], 0, 1, 1⟩
  let omega := (gfProd syn x.loc).take (2 * t)
  let slope := (List.range x.loc.length).map fun i => if i % 2 = 0 then x.loc.getD (i + 1) 0 else 0
  let hits := (List.range e.length).filterMap fun i =>
    let at_ := gfExp (e.length - 1 - i)
    let inv := gfInv at_
    if gfEval x.loc inv = 0 then some (i, gfMul at_ (gfMul (gfEval omega inv) (gfInv (gfEval slope inv)))) else none
  if x.len ≤ t ∧ hits.length = x.len then some hits else none

/-- What the decoder makes of the upset bits `e` of half a page, stored under a code of t errors: the symbol errors it locates, 31 where it can correct none;
whether one is an address symbol; and which bits of the data it delivers stay wrong.  Data symbols lie in bits 8199:0 of `e`, the address symbols of the page
it was read for against those it was written for in 8229:8200, parity above (R437, R440). -/
def pageVerdict (t e : Nat) : Nat × Bool × Nat :=
  if e = 0 then (0, false, 0)
  else match rsLocate t (symbolsOf e (823 + 2 * t)) with
    | none => (31, false, 0)
    | some l =>
      if l.any (fun x => decide (820 ≤ x.1 ∧ x.1 < 823)) then (31, true, 0)
      else (l.length, false, (l.foldl (fun e x => e ^^^ (x.2 * 2 ^ (10 * x.1))) e) % 2 ^ 8192)

/-- One bit of CRC-64, ECMA-182 polynomial, most significant bit first, no reflection (R148). -/
def crcBit (crc : W64) (b : Bool) : W64 :=
  let top := crc.getLsbD 63 != b
  let s := crc <<< 1
  if top then s ^^^ 0x42F0E1EBA9EA3693#64 else s

/-- The low `n` bits of a number, most significant first, folded into a CRC. -/
def crcBits (crc : W64) (v : Nat) : Nat → W64
  | 0 => crc
  | n + 1 => crcBits (crcBit crc (v.testBit n)) v n

/-- CRC-64 continued over bytes in address order (R148). -/
def crcBytes (crc : W64) : List Nat → W64
  | [] => crc
  | b :: bs => crcBytes (crcBits crc b 8) bs

/-- CRC-64 continued over a 64-bit word stored little-endian. -/
def crcWord (crc : W64) (w : W64) : W64 := crcBytes crc (leBytes 8 w.toNat)

/-- CRC-64 continued over words stored little-endian. -/
def crcWords (crc : W64) : List W64 → W64
  | [] => crc
  | w :: ws => crcWords (crcWord crc w) ws

/-- The four words of a Philox-4×32 counter. -/
structure Ctr4 where
  a : W32
  b : W32
  c : W32
  d : W32
  deriving DecidableEq, Repr, Inhabited

/-- One Philox-4×32 round. -/
def philoxRound (k0 k1 : W32) (x : Ctr4) : Ctr4 :=
  let p0 := 0xD2511F53 * x.a.toNat
  let p1 := 0xCD9E8D57 * x.c.toNat
  { a := BitVec.ofNat 32 (p1 / 2 ^ 32) ^^^ x.b ^^^ k0
    b := BitVec.ofNat 32 p1
    c := BitVec.ofNat 32 (p0 / 2 ^ 32) ^^^ x.d ^^^ k1
    d := BitVec.ofNat 32 p0 }

/-- Rounds with the key schedule of Philox-4×32. -/
def philoxRounds : Nat → W32 → W32 → Ctr4 → Ctr4
  | 0, _, _, x => x
  | n + 1, k0, k1, x => philoxRounds n (k0 + 0x9E3779B9) (k1 + 0xBB67AE85) (philoxRound k0 k1 x)

/-- Draw `d` of a fire: key and counter words by R73. -/
def philoxDraw (seed : W64) (gridIdx : Nat) (stepVal : W64) (ctx d : Nat) : W64 :=
  let out := philoxRounds 10 (seed.setWidth 32) ((seed >>> 32).setWidth 32 ^^^ BitVec.ofNat 32 gridIdx)
    ⟨stepVal.setWidth 32, (stepVal >>> 32).setWidth 32, BitVec.ofNat 32 (d / 2), BitVec.ofNat 32 ctx⟩
  if d % 2 = 0 then (out.b ++ out.a : BitVec 64) else (out.d ++ out.c : BitVec 64)

end Sys2Proof.Machine
end

