-- ==== Sys2Proof/Machine/Formats.lean ====
section
/-!
DEFINITION. Element formats, exact values, rounding and special values (R96, R119 to R129).  A finite value is exact: a sign, a
magnitude and a power of two.  Every conversion rounds once, at the end.
-/

namespace Sys2Proof.Machine

/-- The element formats of the FMT field (R96). -/
inductive Fmt where
  | fp32 | bf16 | fp16 | e4m3 | e5m2 | fp4 | mxE4m3 | mxE5m2 | mxfp4 | mxint8 | int8 | int4 | int32 | int64
  deriving DecidableEq, Repr, Inhabited

/-- The format of a FMT code; 0xE and 0xF are reserved (R96). -/
def Fmt.ofCode : Nat → Option Fmt
  | 0x0 => some .fp32 | 0x1 => some .bf16 | 0x2 => some .fp16 | 0x3 => some .e4m3 | 0x4 => some .e5m2
  | 0x5 => some .fp4 | 0x6 => some .mxE4m3 | 0x7 => some .mxE5m2 | 0x8 => some .mxfp4 | 0x9 => some .mxint8
  | 0xA => some .int8 | 0xB => some .int4 | 0xC => some .int32 | 0xD => some .int64 | _ => none

/-- Element width in bits (R47). -/
def Fmt.width : Fmt → Nat
  | .fp4 | .mxfp4 | .int4 => 4
  | .e4m3 | .e5m2 | .mxE4m3 | .mxE5m2 | .mxint8 | .int8 => 8
  | .bf16 | .fp16 => 16
  | .fp32 | .int32 => 32
  | .int64 => 64

/-- Elements per token (R47). -/
def Fmt.lanes (f : Fmt) : Nat := 64 / f.width

/-- An MX format (R95). -/
def Fmt.isMx : Fmt → Bool
  | .mxE4m3 | .mxE5m2 | .mxfp4 | .mxint8 => true
  | _ => false

/-- An integer format (R121). -/
def Fmt.isInt : Fmt → Bool
  | .int8 | .int4 | .int32 | .int64 => true
  | _ => false

/-- The layout of a floating-point format (R119): width, mantissa bits, bias, the code of the largest finite magnitude, the
code of infinity if there is one, and the canonical NaN if there is one. -/
structure FloatFmt where
  w     : Nat
  mb    : Nat
  bias  : Nat
  maxC  : Nat
  infC  : Option Nat
  nanC  : Option Nat
  deriving DecidableEq, Repr, Inhabited

/-- FP32 (R119). -/
def ffFp32 : FloatFmt := ⟨32, 23, 127, 0x7F7FFFFF, some 0x7F800000, some 0x7FC00000⟩

/-- The floating-point layout of an element format; the MX element formats use that of their elements (R119, R122). -/
def Fmt.float : Fmt → Option FloatFmt
  | .fp32 => some ffFp32
  | .bf16 => some ⟨16, 7, 127, 0x7F7F, some 0x7F80, some 0x7FC0⟩
  | .fp16 => some ⟨16, 10, 15, 0x7BFF, some 0x7C00, some 0x7E00⟩
  | .e5m2 | .mxE5m2 => some ⟨8, 2, 15, 0x7B, some 0x7C, some 0x7E⟩
  | .e4m3 | .mxE4m3 => some ⟨8, 3, 7, 0x7E, none, some 0x7F⟩
  | .fp4 | .mxfp4 => some ⟨4, 1, 1, 0x7, none, none⟩
  | _ => none

/-- An exact value: NaN, an infinity, or (−1)^neg × m × 2^e. -/
inductive Val where
  | nan
  | inf (neg : Bool)
  | fin (neg : Bool) (m : Nat) (e : Int)
  deriving DecidableEq, Repr, Inhabited

/-- Positive zero. -/
def Val.zero : Val := .fin false 0 0

/-- The value a floating-point code stands for (R119). -/
def decodeFloat (f : FloatFmt) (x : Nat) : Val :=
  let c := x % 2 ^ f.w
  let neg := decide (2 ^ (f.w - 1) ≤ c)
  let a := c % 2 ^ (f.w - 1)
  if f.infC = some a then .inf neg
  else if f.maxC < a then .nan
  else
    let ex := a >>> f.mb
    let m := a % 2 ^ f.mb
    if ex = 0 then .fin neg m (1 - (f.bias : Int) - f.mb)
    else .fin neg (m + 2 ^ f.mb) ((ex : Int) - f.bias - f.mb)

/-- The value of an integer. -/
def Val.ofInt (i : Int) : Val := .fin (decide (i < 0)) i.natAbs 0

/-- The value of an element of a format (R119, R121, R122); an MXINT8 code k stands for k / 64. -/
def decodeElem (f : Fmt) (x : Nat) : Val :=
  match f.float with
  | some ff => decodeFloat ff x
  | none =>
    match f with
    | .mxint8 => let i := sgn 8 x; .fin (decide (i < 0)) i.natAbs (-6)
    | _ => Val.ofInt (sgn f.width x)

/-- How a conversion rounds: RND of R80 with the lane's random bits of R127. -/
structure Rounding where
  stoch : Bool
  sat   : Bool
  nbits : Nat
  draw  : Nat
  deriving DecidableEq, Repr, Inhabited

/-- Round to nearest even, without saturation (R123). -/
def rne : Rounding := ⟨false, false, 0, 0⟩

/-- A magnitude m × 2^e on the grid of spacing 2^q, rounded by R123 or R127. -/
def roundAt (r : Rounding) (m : Nat) (e q : Int) : Nat :=
  if q ≤ e then m <<< (e - q).toNat
  else
    let d := 2 ^ (q - e).toNat
    let lo := m / d
    let rem := m % d
    if r.stoch then
      if r.draw < rem * 2 ^ r.nbits / d then lo + 1 else lo
    else if d < 2 * rem ∨ (2 * rem = d ∧ lo % 2 = 1) then lo + 1 else lo

/-- The code a magnitude rounds to when the exponent has no upper limit (R123, first stage). -/
def roundCode (f : FloatFmt) (r : Rounding) (m : Nat) (e : Int) : Nat :=
  if m = 0 then 0
  else
    let qmin : Int := 1 - (f.bias : Int) - f.mb
    let q : Int := max ((Nat.log2 m : Int) + e - f.mb) qmin
    (q - qmin).toNat * 2 ^ f.mb + roundAt r m e q

/-- The sign bit of a float code. -/
def signBit (f : FloatFmt) (neg : Bool) : Nat := if neg then 2 ^ (f.w - 1) else 0

/-- Rounding a value to a floating-point format, with the special values and overflows of R124. -/
def encodeFloat (f : FloatFmt) (r : Rounding) : Val → Nat
  | .nan => f.nanC.getD 0
  | .inf neg =>
    match f.infC, f.nanC with
    | some i, _ => signBit f neg + i
    | none, some n => if r.sat then signBit f neg + f.maxC else n
    | none, none => signBit f neg + f.maxC
  | .fin neg m e =>
    let c := roundCode f r m e
    if c ≤ f.maxC then signBit f neg + c
    else if r.sat then signBit f neg + f.maxC
    else
      match f.infC, f.nanC with
      | some i, _ => signBit f neg + i
      | none, some n => n
      | none, none => signBit f neg + f.maxC

/-- Rounding a value to a `w`-bit integer, saturating, inclusive bounds (R124, R126). -/
def encodeInt (w : Nat) (r : Rounding) : Val → Nat
  | .nan => 0
  | .inf neg => if neg then 2 ^ (w - 1) else 2 ^ (w - 1) - 1
  | .fin neg m e =>
    let a := roundAt r m e 0
    if neg then unsgn w (-(min a (2 ^ (w - 1)) : Nat)) else min a (2 ^ (w - 1) - 1)

/-- Rounding a value to an element format.  An MXINT8 element is k / 64 and saturates (R122, R129). -/
def encodeElem (f : Fmt) (r : Rounding) (v : Val) : Nat :=
  match f.float with
  | some ff => encodeFloat ff r v
  | none =>
    match f, v with
    | .mxint8, .fin neg m e => encodeInt 8 r (.fin neg m (e + 6))
    | _, v => encodeInt f.width r v

/-- The sign of a value negated; NaN stays NaN. -/
def Val.neg : Val → Val
  | .nan => .nan
  | .inf n => .inf (!n)
  | .fin n m e => .fin (!n) m e

/-- The signed numerator of a finite value over 2^e', for e' at most its exponent. -/
def numAt (n : Bool) (m : Nat) (e e' : Int) : Int :=
  let k : Int := ((m <<< (e - e').toNat : Nat) : Int)
  if n then -k else k

/-- Exact product; ∞ × 0 is NaN (R103). -/
def Val.mul : Val → Val → Val
  | .nan, _ | _, .nan => .nan
  | .inf a, .inf b => .inf (a != b)
  | .inf a, .fin b m _ => if m = 0 then .nan else .inf (a != b)
  | .fin a m _, .inf b => if m = 0 then .nan else .inf (a != b)
  | .fin a m e, .fin b n f => .fin (a != b) (m * n) (e + f)

/-- Exact sum; ∞ − ∞ is NaN and (+0) + (−0) is +0 (R103). -/
def Val.add : Val → Val → Val
  | .nan, _ | _, .nan => .nan
  | .inf a, .inf b => if a = b then .inf a else .nan
  | .inf a, .fin .. => .inf a
  | .fin .., .inf b => .inf b
  | .fin a m e, .fin b n f =>
    let g := min e f
    let s := numAt a m e g + numAt b n f g
    if s = 0 then .fin (a && b) 0 0 else .fin (decide (s < 0)) s.natAbs g

/-- A value times a power of two. -/
def Val.scale (k : Int) : Val → Val
  | .fin a m e => .fin a m (e + k)
  | v => v

/-- The comparison of two values that are not NaN: less than. -/
def Val.lt : Val → Val → Bool
  | .nan, _ | _, .nan => false
  | .inf a, .inf b => a && !b
  | .inf a, .fin .. => a
  | .fin .., .inf b => !b
  | .fin a m e, .fin b n f =>
    let g := min e f
    decide (numAt a m e g < numAt b n f g)

/-- Numerical equality; +0 equals −0 and NaN equals nothing. -/
def Val.eq : Val → Val → Bool
  | .nan, _ | _, .nan => false
  | .inf a, .inf b => a = b
  | .fin a m e, .fin b n f =>
    let g := min e f
    decide (numAt a m e g = numAt b n f g)
  | _, _ => false

/-- Whether a value is NaN. -/
def Val.isNan : Val → Bool
  | .nan => true
  | _ => false

/-- Whether a value is ±0. -/
def Val.isZero : Val → Bool
  | .fin _ m _ => m == 0
  | _ => false

/-- An E8M0 scale code: 2^(c − 127), or NaN for 0xFF (R122). -/
def decodeE8m0 (c : Nat) : Val := if c % 256 = 255 then .nan else .fin false 1 ((c % 256 : Nat) - 127)

/-- FP32 of an exact value by R123, no saturation: the accumulator's one rounding (R99, R103). -/
def toFp32 (v : Val) : W32 := BitVec.ofNat 32 (encodeFloat ffFp32 rne v)

/-- The value an FP32 accumulator holds. -/
def ofFp32 (a : W32) : Val := decodeFloat ffFp32 a.toNat

/-- b of R128: random bits per result lane. -/
def randBits (f : Fmt) : Nat := 128 / f.lanes

/-- The product of two lanes of formats `fa` and `fb`, exact (R99). -/
def prodElem (fa fb : Fmt) (x y : Nat) : Val := (decodeElem fa x).mul (decodeElem fb y)

end Sys2Proof.Machine
end

