-- ==== Sys2Proof/Machine/Flags.lean ====
section
/-!
DEFINITION. Stock values, their flags and records (R130 to R140), mod-7 residues (R141).
-/

namespace Sys2Proof.Machine

/-- The five sticky flags of a Stock accumulator (R139). -/
structure StkFlags where
  ovf  : Bool
  unf  : Bool
  nan  : Bool
  pinf : Bool
  ninf : Bool
  deriving DecidableEq, Repr, Inhabited

/-- No flag set. -/
def StkFlags.none : StkFlags := ⟨false, false, false, false, false⟩

/-- The OR of two sets of flags (R133). -/
def StkFlags.or (a b : StkFlags) : StkFlags :=
  ⟨a.ovf || b.ovf, a.unf || b.unf, a.nan || b.nan, a.pinf || b.pinf, a.ninf || b.ninf⟩

/-- The signed 10-bit anchor of a word's bits 9:0 (R104, R130). -/
def anchorOf (x : W64) : Int := sgn 10 (fld x 9 0)

/-- The exact RNE(x × 2^(110 − A)) of a finite contribution, as a signed integer of any size (R131). -/
def stockQ (a : Int) (neg : Bool) (m : Nat) (e : Int) : Int :=
  let k : Int := (roundAt rne m (e + 110 - a) 0 : Nat)
  if neg then -k else k

/-- Whether an integer fits in 128 bits of two's complement. -/
def fits128 (q : Int) : Bool := decide (-(2 ^ 127 : Nat) ≤ q) && decide (q < (2 ^ 127 : Nat))

/-- A contribution entered at anchor `a`: the entered integer and its flags (R131, R132). -/
def stockEnter (a : Int) : Val → W128 × StkFlags
  | .nan => (0, { StkFlags.none with nan := true })
  | .inf neg => (0, { StkFlags.none with pinf := !neg, ninf := neg })
  | .fin neg m e =>
    let q := stockQ a neg m e
    (BitVec.ofInt 128 q,
      { StkFlags.none with
        ovf := !fits128 q
        unf := decide (0 < m) && (Val.lt (.fin false m e) (.fin false 1 (a - 110))) })

/-- Addition of Stock integers, and whether the true sum left the signed range (R133). -/
def stockAdd (x y : W128) : W128 × Bool := (x + y, !fits128 (x.toInt + y.toInt))

/-- Conversion of a Stock value at anchor `a` (R138, rows 2 to 5). -/
def stockValue (a : Int) (n : W128) (f : StkFlags) : Val :=
  if f.nan || (f.pinf && f.ninf) then .nan
  else if f.pinf then .inf false
  else if f.ninf then .inf true
  else .fin (decide (n.toInt < 0)) n.toInt.natAbs (a - 110)

/-- A Stock record: the integer and its meta word (R136). -/
structure StockRec where
  n      : W128
  count  : BitVec 32
  poison : Bool
  flags  : StkFlags
  anchor : BitVec 10
  deriving DecidableEq, Repr, Inhabited

/-- The empty sum at an anchor (R136). -/
def StockRec.empty (a : BitVec 10) : StockRec := ⟨0, 0, false, .none, a⟩

/-- The meta word (R136). -/
def StockRec.meta (r : StockRec) : W64 :=
  put 63 32 r.count.toNat ||| put 15 15 (b2n r.poison) ||| put 14 14 (b2n r.flags.ninf) ||| put 13 13 (b2n r.flags.pinf)
    ||| put 12 12 (b2n r.flags.nan) ||| put 11 11 (b2n r.flags.unf) ||| put 10 10 (b2n r.flags.ovf) ||| put 9 0 r.anchor.toNat

/-- The three words of a record (R136). -/
def StockRec.words (r : StockRec) : List W64 :=
  [r.n.setWidth 64, (r.n >>> 64).setWidth 64, r.meta]

/-- The record of three words (R136). -/
def StockRec.ofWords (lo hi m : W64) : StockRec :=
  { n := (hi ++ lo : BitVec 128)
    count := BitVec.ofNat 32 (fld m 63 32)
    poison := tst m 15
    flags := ⟨tst m 10, tst m 11, tst m 12, tst m 13, tst m 14⟩
    anchor := BitVec.ofNat 10 (fld m 9 0) }

/-- Combination of two records (R137).  The second component says that this combination reports an anchor mismatch: the anchors
differ or a record was poisoned. -/
def StockRec.combine (x y : StockRec) : StockRec × Bool :=
  if x.anchor = y.anchor ∧ x.poison = false ∧ y.poison = false then
    let s := stockAdd x.n y.n
    let f := x.flags.or y.flags
    ({ n := s.1, count := x.count + y.count, poison := false, flags := { f with ovf := f.ovf || s.2 }, anchor := x.anchor }, false)
  else
    ({ n := 0, count := x.count + y.count, poison := true, flags := x.flags.or y.flags, anchor := 0 }, true)

/-- The value a record converts to (R138). -/
def StockRec.value (r : StockRec) : Val :=
  if r.poison then .nan else stockValue r.anchor.toInt r.n r.flags

/-- The mod-7 residue of an operand or result (R141). -/
def residue7 (n : Nat) : Nat := n % 7

/-- Whether the residue check of an integer result accepts it: the residue predicted from the operands agrees (R141). -/
def residueAgrees (predicted actual : Nat) : Bool := residue7 predicted == residue7 actual

end Sys2Proof.Machine
end

