-- ==== Sys2Proof/Machine/Store.lean ====
section
/-!
DEFINITION. Sparse maps.  Every large array of the engine (registers, Bricks, memory bytes) is a list of
(index, value) pairs in one canonical form: indices strictly rising and no entry equal to what an unlisted
index reads as.
-/

namespace Sys2Proof.Machine

/-- A sparse map from numbers. -/
abbrev SMap (α : Type) := List (Nat × α)

/-- What index `k` of a sparse map reads as, when unlisted indices read as `d`. -/
def smGet {α : Type} (d : α) : SMap α → Nat → α
  | [], _ => d
  | (j, v) :: m, k => if j = k then v else smGet d m k

/-- A map without index `k`. -/
def smDel {α : Type} (m : SMap α) (k : Nat) : SMap α := m.filter fun e => e.1 ≠ k

/-- An entry put in the place its index gives it. -/
def smIns {α : Type} (k : Nat) (v : α) : SMap α → SMap α
  | [] => [(k, v)]
  | e :: m => if k < e.1 then (k, v) :: e :: m else e :: smIns k v m

/-- A write.  Writing the value an unlisted index reads as removes the entry. -/
def smSet {α : Type} [DecidableEq α] (d : α) (m : SMap α) (k : Nat) (v : α) : SMap α :=
  if v = d then smDel m k else smIns k v (smDel m k)

/-- Strictly rising indices. -/
def smRising {α : Type} : SMap α → Bool
  | [] => true
  | [_] => true
  | e :: f :: m => decide (e.1 < f.1) && smRising (f :: m)

/-- The canonical form when the default depends on the index. -/
def smWf {α : Type} [DecidableEq α] (d : Nat → α) (m : SMap α) : Bool :=
  smRising m && m.all fun e => decide (e.2 ≠ d e.1)

/-- Several writes, one after another. -/
def smSetAll {α : Type} [DecidableEq α] (d : α) (m : SMap α) : List (Nat × α) → SMap α
  | [] => m
  | e :: es => smSetAll d (smSet d m e.1 e.2) es

/-- The map without the indices that satisfy `p`. -/
def smDrop {α : Type} (p : Nat → Bool) (m : SMap α) : SMap α := m.filter fun e => !p e.1

end Sys2Proof.Machine
end

