-- ==== Sys2Proof/Machine/BrickTypes.lean ====
section
/-!
DEFINITION. The state of one Brick: queues, registers, accumulators, Stock flags, Cubby, contexts, the tokens present at its lane
switch, and the results of issued instructions that have not landed yet (R43, R62, R91, R174).
-/

namespace Sys2Proof.Machine

/-- A token in a queue, with the lane cycle at whose end it entered (R55, R62). -/
structure QTok where
  tok : Token
  ent : Nat
  deriving DecidableEq, Repr, Inhabited

/-- A token on its way to, or held at, an input of the lane switch: source 1 N, 2 E, 3 S, 4 W as the codes of R52, the lane cycle
from which it is present, and the wing seam it crosses if it has one (R55, R56, R59). -/
structure InTok where
  src  : Nat
  tok  : Token
  due  : Nat
  seam : Bool
  deriving DecidableEq, Repr, Inhabited

/-- The counters of one instruction slot: FP4 pairing (R98), position in the MX stretch with the scale tokens taken (R100),
position in the sparse group (R102, R156), and the mask bits and packed elements used by bitmask expansion (R114). -/
structure SlotCnt where
  pair  : Nat
  str   : Nat
  sa    : List W64
  sb    : List W64
  grp   : Nat
  mbit  : Nat
  mel   : Nat
  deriving DecidableEq, Repr, Inhabited

/-- The counters of a newly loaded slot (R174). -/
def SlotCnt.fresh : SlotCnt := ⟨0, 0, [], [], 0, 0, 0⟩

/-- One context of a Brick: instruction words, validity, next slot, FIRE_COUNT and slot counters (R174, R177, R193). -/
structure Ctx where
  code  : SMap W64
  valid : Bool
  ip    : Nat
  fire  : W64
  cnts  : SMap SlotCnt
  deriving DecidableEq, Repr, Inhabited

/-- An empty context slot (R177). -/
def Ctx.empty : Ctx := ⟨[], false, 0, 0, []⟩

/-- One write that a result makes when it lands (R91). -/
inductive BWrite where
  /-- A general register; bits outside the mask keep their previous value (R90, R108). -/
  | reg (i : Nat) (mask v : W64)
  /-- An accumulator written over by a MAC-family instruction, which clears its Stock flags (R97, R139). -/
  | accSet (i : Nat) (v : W32)
  /-- An FP32 accumulator addition with one rounding (R99). -/
  | accAdd (i : Nat) (v : Val)
  /-- A wrapping integer accumulator addition (R99). -/
  | accAddI (i : Nat) (v : W32)
  /-- An accumulator cleared by DRAINC (R106). -/
  | accZero (i : Nat)
  /-- An accumulator cleared by ACCCLR, which clears the flags of its Stock accumulator (R118, R139). -/
  | accClr (i : Nat)
  /-- A Stock entry or addition: the integer and the flags of the contribution (R105, R133, R139). -/
  | stk (i : Nat) (n : W128) (f : StkFlags)
  /-- A Cubby word (R112). -/
  | cubby (w : Nat) (v : W64)
  /-- A token into output queue `q` (R91). -/
  | oq (q : Nat) (t : Token)
  deriving DecidableEq, Repr, Inhabited

/-- A result that has not landed: the lane cycle at whose end it is written, the issuing context and opcode, the Shelf words still
awaited and the delay their grants have met (R91, R118), and an armed residue or exponent injection (R432). -/
structure Pend where
  id    : Nat
  land  : Nat
  ctx   : Nat
  op    : Nat
  wait  : Nat
  delay : Nat
  inj   : Nat
  ws    : List BWrite
  deriving DecidableEq, Repr, Inhabited

/-- Where a Brick stands in an LWAIT: not in one, waiting, or its wait ended and the LWAIT free to fire (R117, R322). -/
inductive LwaitSt where
  | no
  | waiting
  | ended
  deriving DecidableEq, Repr, Inhabited

/-- One Brick (R43). -/
structure Brick where
  lanes   : SMap W64
  inp     : List InTok
  lastWin : SMap Nat
  taken   : SMap Nat
  iq      : SMap (List QTok)
  oq      : SMap (List QTok)
  g       : SMap W64
  acc     : SMap W32
  sflags  : SMap StkFlags
  cubby   : SMap W64
  ctxs    : SMap Ctx
  active  : Nat
  started : Bool
  stopped : Bool
  err     : Bool
  fold    : Option (Nat × Nat)
  rep     : Nat
  due     : Nat
  issued  : Option Nat
  wfor    : Nat
  lwait   : LwaitSt
  pend    : List Pend
  nextId  : Nat
  deriving DecidableEq, Repr, Inhabited

/-- A Brick after House reset. -/
def Brick.empty : Brick :=
  { lanes := [], inp := [], lastWin := [], taken := [], iq := [], oq := [], g := [], acc := [], sflags := [], cubby := [],
    ctxs := [], active := 0, started := false, stopped := false, err := false, fold := none, rep := 0, due := 0, issued := none,
    wfor := 0, lwait := .no, pend := [], nextId := 0 }

/-- The LANE_SET of context `k` (R51). -/
def Brick.laneSet (b : Brick) (k : Nat) : W64 := smGet 0 b.lanes k

/-- Context `k`. -/
def Brick.ctx (b : Brick) (k : Nat) : Ctx := smGet .empty b.ctxs k

/-- Context `k` replaced. -/
def Brick.setCtx (b : Brick) (k : Nat) (c : Ctx) : Brick := { b with ctxs := smSet .empty b.ctxs k c }

/-- Input queue `q`, oldest token first (R62). -/
def Brick.iqOf (b : Brick) (q : Nat) : List QTok := smGet [] b.iq q

/-- Output queue `q`, oldest token first (R62). -/
def Brick.oqOf (b : Brick) (q : Nat) : List QTok := smGet [] b.oq q

/-- Input queue `q` replaced. -/
def Brick.setIq (b : Brick) (q : Nat) (l : List QTok) : Brick := { b with iq := smSet [] b.iq q l }

/-- Output queue `q` replaced. -/
def Brick.setOq (b : Brick) (q : Nat) (l : List QTok) : Brick := { b with oq := smSet [] b.oq q l }

/-- General register `i`. -/
def Brick.reg (b : Brick) (i : Nat) : W64 := smGet 0 b.g i

/-- General register `i` written. -/
def Brick.setReg (b : Brick) (i : Nat) (v : W64) : Brick := { b with g := smSet 0 b.g i v }

/-- Accumulator `i`. -/
def Brick.accOf (b : Brick) (i : Nat) : W32 := smGet 0 b.acc i

/-- Accumulator `i` written. -/
def Brick.setAcc (b : Brick) (i : Nat) (v : W32) : Brick := { b with acc := smSet 0 b.acc i v }

/-- The flags of Stock accumulator `i` (R139). -/
def Brick.flagsOf (b : Brick) (i : Nat) : StkFlags := smGet .none b.sflags i

/-- The flags of Stock accumulator `i` written. -/
def Brick.setFlags (b : Brick) (i : Nat) (f : StkFlags) : Brick := { b with sflags := smSet .none b.sflags i f }

/-- Stock accumulator `i`, from accumulators 4i to 4i + 3 (R104). -/
def Brick.stock (b : Brick) (i : Nat) : W128 :=
  (b.accOf (4 * i + 3) ++ b.accOf (4 * i + 2) ++ b.accOf (4 * i + 1) ++ b.accOf (4 * i) : BitVec 128)

/-- Stock accumulator `i` written (R104). -/
def Brick.setStock (b : Brick) (i : Nat) (n : W128) : Brick :=
  (((b.setAcc (4 * i) (n.setWidth 32)).setAcc (4 * i + 1) ((n >>> 32).setWidth 32)).setAcc (4 * i + 2)
    ((n >>> 64).setWidth 32)).setAcc (4 * i + 3) ((n >>> 96).setWidth 32)

/-- Cubby word `w` (R112). -/
def Brick.cubbyOf (b : Brick) (w : Nat) : W64 := smGet 0 b.cubby w

/-- Cubby word `w` written. -/
def Brick.setCubby (b : Brick) (w : Nat) (v : W64) : Brick := { b with cubby := smSet 0 b.cubby w v }

/-- A Brick whose Room-domain state is cleared by a reset: instruction slots, queues, registers, accumulators and what is in flight.
The LANE_SET words and the Cubby stay, and so do the tokens passing through the Corridor switch (R20, R45). -/
def Brick.reset (b : Brick) : Brick :=
  { Brick.empty with lanes := b.lanes, inp := b.inp, lastWin := b.lastWin, cubby := b.cubby }

/-- A Brick whose Room domain lost power: the Cubby is lost too (R45). -/
def Brick.powerOff (b : Brick) : Brick := { b.reset with cubby := [] }

end Sys2Proof.Machine
end

