-- ==== Sys2Proof/Machine/NetTypes.lean ====
section
/-!
DEFINITION. Hall packets and what their requesters wait for (R280 to R285), messages that leave the engine, and incident records (R428).
-/

namespace Sys2Proof.Machine

/-- A Hall packet: the header fields of R282 and the payload bytes. -/
structure Pkt where
  typ    : Nat
  epoch  : Nat
  vc     : Nat
  suite  : Nat
  host   : Bool
  len    : Nat
  dst    : Nat
  src    : Nat
  tag    : Nat
  addr   : Nat
  w2     : W64
  w3     : W64
  age    : Nat
  mcount : Nat
  data   : List Byte
  deriving DecidableEq, Repr, Inhabited

/-- A packet in the Hall: the router it is at (logical Room index), the port it came in by (0 N, 1 E, 2 S, 3 W, 4 local, 5 edge, 6 made by
the router itself, 8 + q waiting for a slot of Dumbwaiter queue q), and whether it has been ejected to its endpoint; `moved` says it has left its
injection buffer; `due` is the lane cycle at which the head of an SCH packet is at the router's output; `also` holds the SRCs of packets merged into it
(R272, R287, R291, R295 to R297). -/
structure Flight where
  pkt     : Pkt
  room    : Nat
  port    : Nat
  ejected : Bool
  moved   : Bool
  due     : Nat
  also    : List Nat := []
  deriving DecidableEq, Repr, Inhabited

/-- What a requester does with the reply it waits for. -/
inductive ReqUse where
  | hearthLoad (room rd bytes : Nat) (signed : Bool) (addr len : Nat)
  | hearthStore (room : Nat)
  | hearthAmo (room rd bytes : Nat) (addr : Nat)
  | hearthWait (room rd : Nat)
  | chanMsg (room chan charge : Nat)
  | chanSync (room chan : Nat)
  | dwtRead (room q idx k : Nat)
  | dwtWrite (room q idx : Nat)
  | stpDeliver (room pot : Nat)
  | stpSync (room pot : Nat)
  | bar2Read (addr : Nat)
  | bar2Write (addr : Nat)
  | yazal (stream seq : Nat)
  deriving DecidableEq, Repr, Inhabited

/-- One outstanding request: its tag, the endpoint that sent it, and its use (R279). -/
structure Outst where
  tag : Nat
  src : Nat
  use : ReqUse
  deriving DecidableEq, Repr, Inhabited

/-- An incident record on its way to the collector or logged there (R428). -/
structure Incident where
  code     : Nat
  kind     : Nat
  injected : Bool
  hand     : Bool
  halt     : Bool
  suite    : Nat
  slot     : Nat
  seq      : Nat
  et       : Nat
  ref      : Nat
  global   : Bool
  whereAt  : Nat
  detail   : W64
  deriving DecidableEq, Repr, Inhabited

/-- What the engine sends out of itself or down to a unit whose answer comes back as a command. -/
inductive OutMsg where
  /-- An MSI-X vector (R609). -/
  | msix (vector : Nat)
  /-- A PCIe memory write to host memory (R597). -/
  | hostWrite (addr : Nat) (data : List Byte)
  /-- A PCIe memory read of host memory (R597). -/
  | hostRead (addr len : Nat)
  /-- A completion of a host read of BAR2: the offset in the window and the data (R596). -/
  | completion (off : Nat) (data : List Byte)
  /-- An Ethernet frame from a port (R370, R373). -/
  | frame (port : Nat) (data : List Byte)
  /-- Pins and external controls: debug outputs, Chimney requests, alerts (R513, R622). -/
  | pin (name : String) (value : Nat)
  /-- A request to a Chimney: rail in mV, or Stoke current (R517, R518). -/
  | chimney (wing op value : Nat)
  deriving DecidableEq, Repr, Inhabited

/-- Room endpoint identifier (R280). -/
def eidRoom (room unit : Nat) : Nat := (room % 16384) * 16 + unit % 16

/-- Eaves endpoint identifier (R280). -/
def eidEaves (edge t unit : Nat) : Nat := 1 * 2 ^ 18 + (edge % 4) * 2 ^ 16 + (t % 128) * 2 ^ 9 + unit % 16

/-- Whether an EID names a Room. -/
def eidIsRoom (e : Nat) : Bool := decide (e / 2 ^ 18 % 4 = 0)

/-- The Room of a Room EID. -/
def eidRoomOf (e : Nat) : Nat := e / 16 % 16384

/-- The unit of an EID. -/
def eidUnit (e : Nat) : Nat := e % 16

/-- The edge and T of an Eaves EID. -/
def eidEdge (e : Nat) : Nat := e / 2 ^ 16 % 4

/-- The T of an Eaves EID. -/
def eidT (e : Nat) : Nat := e / 2 ^ 9 % 128

end Sys2Proof.Machine
end

