-- ==== Sys2Proof/Machine/Registers.lean ====
section
/-!
DEFINITION. The register pages of the engine: the standard page header (R602, R603) and each page's own registers with their
offsets, access codes (R10) and reset values, as the register tables of the spec give them.
-/

namespace Sys2Proof.Machine

/-- The kinds of register page (R39, R40, R605). -/
inductive Page where
  /-- R74. -/
  | brk
  /-- R198. -/
  | arr
  /-- R229. -/
  | shf
  /-- R232. -/
  | dwt
  /-- R264. -/
  | hrt
  /-- R267. -/
  | chn
  /-- R270. -/
  | stp
  /-- R333. -/
  | lch
  /-- R454. -/
  | ecc
  /-- R479. -/
  | swp
  /-- R506. -/
  | dmp
  /-- R301. -/
  | hal
  /-- R330. -/
  | flu
  /-- R430. -/
  | cvu
  /-- R529. -/
  | pwr
  /-- R589. -/
  | rst
  /-- R572. -/
  | srv
  /-- R546. -/
  | clkw
  /-- R530. -/
  | pwrw
  /-- R507. -/
  | dmpw
  /-- R574. -/
  | srvw
  /-- R304. -/
  | halw
  /-- R618. -/
  | pch
  /-- R613. -/
  | pchs
  /-- R610. -/
  | pche
  /-- R600. -/
  | peri
  /-- R600. -/
  | gpio
  /-- R600. -/
  | tim
  /-- R305. -/
  | halg
  /-- R331. -/
  | flug
  /-- R333. -/
  | lchg
  /-- R362. -/
  | cel
  /-- R365. -/
  | chu
  /-- R401. -/
  | eav
  /-- R406. -/
  | yzl
  /-- R404. -/
  | yzlg
  /-- R434. -/
  | cvug
  /-- R433. -/
  | cvux
  /-- R456. -/
  | eccc
  /-- R458. -/
  | eccg
  /-- R480. -/
  | swpg
  /-- R510. -/
  | dmpg
  /-- R532. -/
  | pwrg
  /-- R547. -/
  | clkg
  /-- R575. -/
  | srvg
  /-- R592. -/
  | rstg
  /-- R628. -/
  | dbg
  deriving DecidableEq, Repr

/-- One register, or a row of equal registers, of a page.  `rw` marks the bits with code RW, `rws` RWS, `w1c` W1C, `wo` WO and
`rc` RC (R10); every other bit is RO or reserved. -/
structure RegRow where
  off    : Nat
  stride : Nat
  count  : Nat
  reset  : W64
  rw     : W64
  rws    : W64
  w1c    : W64
  wo     : W64
  rc     : W64
  deriving DecidableEq, Repr

/-- A page and the number of its instance: the logical Room index, the physical Room index for `srv`, the Wing index, or the
instance of an engine-global page (R603). -/
structure PageRef where
  page : Page
  inst : Nat
  deriving DecidableEq, Repr

/-- The page's place in the numbering of register keys. -/
def Page.idx : Page → Nat
  | .brk => 0
  | .arr => 1
  | .shf => 2
  | .dwt => 3
  | .hrt => 4
  | .chn => 5
  | .stp => 6
  | .lch => 7
  | .ecc => 8
  | .swp => 9
  | .dmp => 10
  | .hal => 11
  | .flu => 12
  | .cvu => 13
  | .pwr => 14
  | .rst => 15
  | .srv => 16
  | .clkw => 17
  | .pwrw => 18
  | .dmpw => 19
  | .srvw => 20
  | .halw => 21
  | .pch => 22
  | .pchs => 23
  | .pche => 24
  | .peri => 25
  | .gpio => 26
  | .tim => 27
  | .halg => 28
  | .flug => 29
  | .lchg => 30
  | .cel => 31
  | .chu => 32
  | .eav => 33
  | .yzl => 34
  | .yzlg => 35
  | .cvug => 36
  | .cvux => 37
  | .eccc => 38
  | .eccg => 39
  | .swpg => 40
  | .dmpg => 41
  | .pwrg => 42
  | .clkg => 43
  | .srvg => 44
  | .rstg => 45
  | .dbg => 46

/-- The class byte (R606). -/
def Page.cls : Page → Nat
  | .brk => 0x01
  | .arr => 0x02
  | .shf => 0x03
  | .dwt => 0x04
  | .hrt => 0x05
  | .chn => 0x06
  | .stp => 0x07
  | .lch => 0x0A
  | .ecc => 0x11
  | .swp => 0x12
  | .dmp => 0x14
  | .hal => 0x08
  | .flu => 0x09
  | .cvu => 0x0F
  | .pwr => 0x15
  | .rst => 0x19
  | .srv => 0x18
  | .clkw => 0x17
  | .pwrw => 0x16
  | .dmpw => 0x14
  | .srvw => 0x18
  | .halw => 0x08
  | .pch => 0x1A
  | .pchs => 0x1A
  | .pche => 0x1A
  | .peri => 0x1A
  | .gpio => 0x1A
  | .tim => 0x1A
  | .halg => 0x08
  | .flug => 0x09
  | .lchg => 0x0A
  | .cel => 0x0B
  | .chu => 0x0C
  | .eav => 0x0D
  | .yzl => 0x0E
  | .yzlg => 0x0E
  | .cvug => 0x0F
  | .cvux => 0x10
  | .eccc => 0x11
  | .eccg => 0x11
  | .swpg => 0x13
  | .dmpg => 0x14
  | .pwrg => 0x15
  | .clkg => 0x17
  | .srvg => 0x18
  | .rstg => 0x19
  | .dbg => 0x1B

/-- The event bits a page implements, which CAPS reads as (R602). -/
def Page.caps : Page → W64
  | .brk => 0x1FF#64
  | .arr => 0x7F#64
  | .shf => 0x3F#64
  | .dwt => 0xFF07#64
  | .hrt => 0xF#64
  | .chn => 0x1F#64
  | .stp => 0x1F#64
  | .lch => 0x7F#64
  | .ecc => 0xF#64
  | .swp => 0x1#64
  | .dmp => 0x3#64
  | .hal => 0x1FF#64
  | .flu => 0x7#64
  | .cvu => 0xFF#64
  | .pwr => 0x3#64
  | .rst => 0x1F#64
  | .srv => 0x0#64
  | .clkw => 0x3#64
  | .pwrw => 0x1F#64
  | .dmpw => 0x1F#64
  | .srvw => 0x0#64
  | .halw => 0x0#64
  | .pch => 0x1F#64
  | .pchs => 0x3#64
  | .pche => 0x0#64
  | .peri => 0x0#64
  | .gpio => 0x1#64
  | .tim => 0x1#64
  | .halg => 0x7#64
  | .flug => 0x3#64
  | .lchg => 0x7F#64
  | .cel => 0x7#64
  | .chu => 0x7F#64
  | .eav => 0x1F#64
  | .yzl => 0x3#64
  | .yzlg => 0x3C#64
  | .cvug => 0xFF#64
  | .cvux => 0x3#64
  | .eccc => 0x3F#64
  | .eccg => 0x3#64
  | .swpg => 0x7F#64
  | .dmpg => 0xF#64
  | .pwrg => 0x1F#64
  | .clkg => 0x1F#64
  | .srvg => 0x1FF#64
  | .rstg => 0x3#64
  | .dbg => 0x3F#64

/-- The EVENT_INJECT bits with a stated injection (R79, R602); any other is ignored. -/
def Page.injects : Page → W64
  | .brk => 0x31#64
  | .arr => 0x13#64
  | .shf => 0x3#64
  | .dwt => 0x1#64
  | .hrt => 0x4#64
  | .chn => 0x1#64
  | .stp => 0x3#64
  | .lch => 0xB#64
  | .ecc => 0x7#64
  | .swp => 0x1#64
  | .dmp => 0x1#64
  | .hal => 0xF#64
  | .flu => 0x3#64
  | .cvu => 0x7F#64
  | .pwr => 0x0#64
  | .rst => 0x2#64
  | .srv => 0x0#64
  | .clkw => 0x3#64
  | .pwrw => 0x7#64
  | .dmpw => 0xF#64
  | .srvw => 0x0#64
  | .halw => 0x0#64
  | .pch => 0x6#64
  | .pchs => 0x0#64
  | .pche => 0x0#64
  | .peri => 0x0#64
  | .gpio => 0x0#64
  | .tim => 0x0#64
  | .halg => 0x4#64
  | .flug => 0x1#64
  | .lchg => 0xB#64
  | .cel => 0x1#64
  | .chu => 0x1F#64
  | .eav => 0x9#64
  | .yzl => 0x3#64
  | .yzlg => 0x8#64
  | .cvug => 0x5#64
  | .cvux => 0x1#64
  | .eccc => 0x1B#64
  | .eccg => 0x0#64
  | .swpg => 0x2#64
  | .dmpg => 0x3#64
  | .pwrg => 0xF#64
  | .clkg => 0x9#64
  | .srvg => 0x88#64
  | .rstg => 0x0#64
  | .dbg => 0x9#64

/-- A page of the Room domain (R40). -/
def Page.roomDomain : Page → Bool
  | .brk | .arr | .shf | .dwt | .hrt | .chn | .stp | .lch | .ecc | .swp | .dmp => true
  | .hal | .flu | .cvu | .pwr | .rst | .srv | .clkw | .pwrw | .dmpw | .srvw | .halw | .pch | .pchs | .pche | .peri | .gpio | .tim | .halg | .flug | .lchg | .cel | .chu | .eav | .yzl | .yzlg | .cvug | .cvux | .eccc | .eccg | .swpg | .dmpg | .pwrg | .clkg | .srvg | .rstg | .dbg => false

/-- A page of a Room window (R40), whose instance is a Room. -/
def Page.inRoom : Page → Bool
  | .brk | .arr | .shf | .dwt | .hrt | .chn | .stp | .lch | .ecc | .swp | .dmp | .hal | .flu | .cvu | .pwr | .rst | .srv => true
  | .clkw | .pwrw | .dmpw | .srvw | .halw | .pch | .pchs | .pche | .peri | .gpio | .tim | .halg | .flug | .lchg | .cel | .chu | .eav | .yzl | .yzlg | .cvug | .cvux | .eccc | .eccg | .swpg | .dmpg | .pwrg | .clkg | .srvg | .rstg | .dbg => false

/-- R74. -/
def brkRows : List RegRow :=
  [
   -- BRK_LANE_HOP
   ⟨0x080, 8, 1, 0x0, 0x0, 0x0, 0x0, 0x0, 0x0⟩,
   -- BRK_SEL
   ⟨0x088, 8, 1, 0x0, 0x3F07, 0x0, 0x0, 0x0, 0x0⟩,
   -- BRK_ERR_WHERE
   ⟨0x090, 8, 1, 0x0, 0x0, 0x0, 0x80000000, 0x0, 0x0⟩,
   -- BRK_ERR_STEP
   ⟨0x098, 8, 1, 0x0, 0x0, 0x0, 0x0, 0x0, 0x0⟩,
   -- BRK_LANE_CE
   ⟨0x0A0, 8, 1, 0x0, 0x0, 0x0, 0x0, 0x0, 0xFFFFFFFFFFFFFFFF⟩,
   -- BRK_DROP
   ⟨0x0A8, 8, 1, 0x0, 0x0, 0x0, 0x0, 0x0, 0xFFFFFFFFFFFFFFFF⟩,
   -- BRK_VOID_FIRES
   ⟨0x0B0, 8, 1, 0x0, 0x0, 0x0, 0x0, 0x0, 0x0⟩,
   -- BRK_STATUS
   ⟨0x100, 8, 64, 0x0, 0x0, 0x0, 0x0, 0x0, 0x0⟩,
   -- BRK_WIN
   ⟨0x800, 8, 256, 0x0, 0xFFFFFFFFFFFFFFFF, 0x0, 0x0, 0x0, 0x0⟩]

/-- R198. -/
def arrRows : List RegRow :=
  [
   -- ARR_STATE
   ⟨0x080, 8, 1, 0x70000, 0x0, 0x0, 0x0, 0x0, 0x0⟩,
   -- ARR_STEP
   ⟨0x088, 8, 1, 0x0, 0x0, 0x0, 0x0, 0x0, 0x0⟩,
   -- ARR_CYCLE
   ⟨0x090, 8, 1, 0x0, 0x0, 0x0, 0x0, 0x0, 0x0⟩,
   -- ARR_RATE
   ⟨0x098, 8, 1, 0x800030, 0x0, 0x0, 0x0, 0x0, 0x0⟩,
   -- ARR_SEED
   ⟨0x0A0, 8, 1, 0x0, 0xFFFFFFFFFFFFFFFF, 0x0, 0x0, 0x0, 0x0⟩,
   -- ARR_BLUEPRINT_LEVEL
   ⟨0x0A8, 8, 1, 0x20201, 0x0, 0x0, 0x0, 0x0, 0x0⟩,
   -- ARR_IMG_BASE
   ⟨0x0B0, 8, 1, 0x0, 0x3FFFC0, 0x0, 0x0, 0x0, 0x0⟩,
   -- ARR_LOAD_STATUS
   ⟨0x0B8, 8, 1, 0x0, 0x0, 0x0, 0x0, 0x0, 0x0⟩,
   -- ARR_WHERE
   ⟨0x0C0, 8, 1, 0x0, 0x0, 0x0, 0x80000000, 0x0, 0x0⟩,
   -- ARR_WHERE_STEP
   ⟨0x0C8, 8, 1, 0x0, 0x0, 0x0, 0x0, 0x0, 0x0⟩,
   -- ARR_PURGED_TOKENS
   ⟨0x0D0, 8, 1, 0x0, 0x0, 0x0, 0x0, 0x0, 0xFFFFFFFFFFFFFFFF⟩,
   -- ARR_CHECK_DIGEST
   ⟨0x0D8, 8, 1, 0x0, 0x0, 0x0, 0x0, 0x0, 0x0⟩,
   -- ARR_CTRL
   ⟨0x0E0, 8, 1, 0x0, 0x0, 0x0, 0x0, 0x3, 0x0⟩,
   -- ARR_STOCK
   ⟨0x100, 8, 5, 0x0, 0x0, 0x0, 0x0, 0x0, 0x0⟩,
   -- ARR_STALL
   ⟨0x140, 8, 7, 0x0, 0x0, 0x0, 0x0, 0x0, 0x0⟩,
   -- ARR_STALL_TOTAL
   ⟨0x178, 8, 1, 0x0, 0x0, 0x0, 0x0, 0x0, 0x0⟩,
   -- ARR_STALL_RUNS
   ⟨0x180, 8, 1, 0x0, 0x0, 0x0, 0x0, 0x0, 0x0⟩,
   -- ARR_FIRE
   ⟨0x800, 8, 256, 0x0, 0x0, 0x0, 0x0, 0x0, 0x0⟩]

/-- R229. -/
def shfRows : List RegRow :=
  [
   -- SHF_STATUS
   ⟨0x080, 8, 1, 0xF0, 0x0, 0xAF00, 0x0, 0x0, 0x0⟩,
   -- SHF_QCTRL
   ⟨0x088, 8, 1, 0x10, 0x1F, 0x0, 0x0, 0x0, 0x0⟩,
   -- SHF_RETIRE
   ⟨0x090, 8, 1, 0x0, 0x8F, 0x0, 0x0, 0x0, 0x0⟩,
   -- SHF_WHERE
   ⟨0x098, 8, 1, 0x0, 0x0, 0x0, 0x80000000, 0x0, 0x0⟩,
   -- SHF_WHERE_STEP
   ⟨0x0A0, 8, 1, 0x0, 0x0, 0x0, 0x0, 0x0, 0x0⟩,
   -- SHF_CNT0
   ⟨0x0A8, 8, 1, 0x0, 0x0, 0x0, 0x0, 0x0, 0xFFFFFFFFFFFFFFFF⟩,
   -- SHF_CNT1
   ⟨0x0B0, 8, 1, 0x0, 0x0, 0x0, 0x0, 0x0, 0xFFFFFFFFFFFFFFFF⟩,
   -- SHF_WIN_A
   ⟨0x100, 16, 16, 0x0, 0xFFFF003FFFC0, 0x0, 0x0, 0x0, 0x0⟩,
   -- SHF_WIN_B
   ⟨0x108, 16, 16, 0x0, 0xE03F, 0x0, 0x0, 0x0, 0x0⟩]

/-- R232. -/
def dwtRows : List RegRow :=
  [
   -- DWT_STATUS
   ⟨0x080, 8, 1, 0x0, 0x0, 0x0, 0x0, 0x0, 0x0⟩,
   -- DWT_WHERE
   ⟨0x088, 8, 1, 0x0, 0x0, 0x0, 0x80000000, 0x0, 0x0⟩,
   -- SPARSE_VIOLATION
   ⟨0x090, 8, 1, 0x0, 0x0, 0x0, 0x0, 0x0, 0xFFFFFFFFFFFFFFFF⟩,
   -- SPARSE_PRUNED
   ⟨0x098, 8, 1, 0x0, 0x0, 0x0, 0x0, 0x0, 0xFFFFFFFFFFFFFFFF⟩,
   -- SPARSE_BM_DENSE
   ⟨0x0A0, 8, 1, 0x0, 0x0, 0x0, 0x0, 0x0, 0xFFFFFFFFFFFFFFFF⟩,
   -- DWT_Q_CFG
   ⟨0x100, 32, 8, 0x0, 0x800000000F3FFFC0, 0x0, 0x0, 0x0, 0x0⟩,
   -- DWT_Q_HEAD
   ⟨0x108, 32, 8, 0x0, 0x0, 0x0, 0x0, 0x0, 0x0⟩,
   -- DWT_Q_TAIL
   ⟨0x110, 32, 8, 0x0, 0xFFF, 0x0, 0x0, 0x0, 0x0⟩,
   -- DWT_Q_DONE
   ⟨0x118, 32, 8, 0x0, 0x0, 0x0, 0x0, 0x0, 0x0⟩]

/-- R264. -/
def hrtRows : List RegRow :=
  [
   -- HRT_CTRL
   ⟨0x080, 8, 1, 0x0, 0x3, 0x0, 0x0, 0x0, 0x0⟩,
   -- HRT_BOOT
   ⟨0x088, 8, 1, 0x0, 0x3FFFFC, 0x0, 0x0, 0x0, 0x0⟩,
   -- HRT_STATUS
   ⟨0x090, 8, 1, 0x0, 0x0, 0x0, 0x0, 0x0, 0x0⟩,
   -- HRT_TRAP
   ⟨0x098, 8, 1, 0x0, 0x0, 0x0, 0x0, 0x0, 0x0⟩,
   -- CS_CFG
   ⟨0x0A0, 8, 1, 0x0, 0x800000000000003F, 0x0, 0x0, 0x0, 0x0⟩,
   -- CS_BASE
   ⟨0x0A8, 8, 1, 0x0, 0xFFFFFFFFFFC0, 0x0, 0x0, 0x0, 0x0⟩,
   -- CS_HEAD
   ⟨0x0B0, 8, 1, 0x0, 0x0, 0x0, 0x0, 0x0, 0x0⟩,
   -- CS_TAIL
   ⟨0x0B8, 8, 1, 0x0, 0xFFFF, 0x0, 0x0, 0x0, 0x0⟩,
   -- CS_STATUS
   ⟨0x0C0, 8, 1, 0x0, 0x0, 0x0, 0xFF00, 0x0, 0x0⟩,
   -- CS_ENTRY
   ⟨0x0C8, 8, 1, 0x0, 0x0, 0x0, 0x0, 0x0, 0x0⟩]

/-- R267. -/
def chnRows : List RegRow :=
  [
   -- CHN_CFG
   ⟨0x080, 8, 1, 0x0, 0xFFFF0000003FFFF8, 0x0, 0x0, 0x0, 0x0⟩,
   -- CHN_BOUNCE
   ⟨0x088, 8, 1, 0x0, 0x70000003FFFC0, 0x0, 0x0, 0x0, 0x0⟩,
   -- CHN_BOUNCE_PTR
   ⟨0x090, 8, 1, 0x0, 0xFFFF, 0x0, 0x0, 0x0, 0x0⟩,
   -- CHN_CNT
   ⟨0x098, 8, 1, 0x0, 0x0, 0x0, 0x0, 0x0, 0xFFFFFFFFFFFFFFFF⟩,
   -- CHN_TX_A
   ⟨0x400, 16, 64, 0x0, 0x3FFF0000003F, 0x0, 0x0, 0x0, 0x0⟩,
   -- CHN_TX_B
   ⟨0x408, 16, 64, 0x0, 0x0, 0x0, 0x0, 0x0, 0x0⟩,
   -- CHN_RX_A
   ⟨0x800, 32, 64, 0x0, 0x27FFFFF003FFFC0, 0x0, 0x0, 0x0, 0x0⟩,
   -- CHN_RX_B
   ⟨0x808, 32, 64, 0x0, 0x0, 0x0, 0x0, 0x0, 0x0⟩,
   -- CHN_RX_C
   ⟨0x810, 32, 64, 0x0, 0x0, 0x0, 0x0, 0x0, 0x0⟩,
   -- CHN_RX_D
   ⟨0x818, 32, 64, 0x0, 0x0, 0x0, 0x0, 0x0, 0x0⟩]

/-- R270. -/
def stpRows : List RegRow :=
  [
   -- STP_CFG
   ⟨0x800, 64, 32, 0x0, 0xE00001FFFFFFFFFF, 0x0, 0x0, 0x0, 0x0⟩,
   -- STP_BUF
   ⟨0x808, 64, 32, 0x0, 0x3FF0000003FFFF8, 0x0, 0x0, 0x0, 0x0⟩,
   -- STP_TGT
   ⟨0x810, 64, 32, 0x0, 0x73FFFF0, 0x0, 0x0, 0x0, 0x0⟩,
   -- STP_STATE
   ⟨0x818, 64, 32, 0x0, 0x0, 0x0, 0x0, 0x0, 0x0⟩,
   -- STP_HEAD0
   ⟨0x820, 64, 32, 0x0, 0x0, 0x0, 0x0, 0x0, 0x0⟩,
   -- STP_HEAD1
   ⟨0x828, 64, 32, 0x0, 0x0, 0x0, 0x0, 0x0, 0x0⟩,
   -- STP_HEAD2
   ⟨0x830, 64, 32, 0x0, 0x0, 0x0, 0x0, 0x0, 0x0⟩,
   -- STP_CNT
   ⟨0x838, 64, 32, 0x0, 0x0, 0x0, 0x0, 0x0, 0xFFFFFFFFFFFFFFFF⟩]

/-- R333. -/
def lchRows : List RegRow :=
  [
   -- LCH_WHERE
   ⟨0x080, 8, 1, 0x0, 0x0, 0x0, 0x80000000, 0x0, 0x0⟩,
   -- LCH_WHERE_STEP
   ⟨0x088, 8, 1, 0x0, 0x0, 0x0, 0x0, 0x0, 0x0⟩,
   -- LCH_MISS0
   ⟨0x090, 8, 1, 0x0, 0x0, 0x0, 0x0, 0x0, 0x0⟩,
   -- LCH_MISS1
   ⟨0x098, 8, 1, 0x0, 0x0, 0x0, 0x0, 0x0, 0x0⟩,
   -- LCH_OP
   ⟨0x0A0, 8, 1, 0x0, 0x0, 0x0, 0x0, 0xF000000000007FFF, 0x0⟩,
   -- LCH_ARRIVE
   ⟨0x0A8, 8, 1, 0x0, 0x0, 0x0, 0x0, 0x7F3F, 0x0⟩,
   -- LCH_WAIT
   ⟨0x0B0, 8, 1, 0x0, 0x0, 0x0, 0x0, 0x0, 0x0⟩,
   -- LCH_CNT
   ⟨0x0B8, 8, 1, 0x0, 0x0, 0x0, 0x0, 0x0, 0xFFFFFFFFFFFFFFFF⟩,
   -- LCH_SEL
   ⟨0x0C0, 8, 1, 0x0, 0x3F, 0x0, 0x0, 0x0, 0x0⟩,
   -- LCH_VIEW
   ⟨0x0C8, 8, 6, 0x0, 0xFFFFFFFFFFFFFFFF, 0x0, 0x0, 0x0, 0x0⟩,
   -- LCH_CFG
   ⟨0x400, 16, 64, 0x0, 0xC0FFFFFF00FFFFFF, 0x0, 0x0, 0x0, 0x0⟩,
   -- LCH_STATE
   ⟨0x408, 16, 64, 0x0, 0x0, 0x0, 0x0, 0x0, 0x0⟩]

/-- R454. -/
def eccRows : List RegRow :=
  [
   -- ECC_WHERE
   ⟨0x080, 8, 1, 0x0, 0x0, 0x0, 0x80000000, 0x0, 0x0⟩,
   -- ECC_CNT
   ⟨0x088, 8, 1, 0x0, 0x0, 0x0, 0x0, 0x0, 0xFFFFFFFFFFFFFFFF⟩,
   -- SHF_SCRUB
   ⟨0x090, 8, 1, 0x8000000000000000, 0x8000000000000000, 0x0, 0x0, 0x0, 0x0⟩]

/-- R479. -/
def swpRows : List RegRow :=
  [
   -- SWP_STATUS
   ⟨0x080, 8, 1, 0x0, 0x0, 0x0, 0x0, 0x0, 0x0⟩,
   -- SWP_CRC
   ⟨0x088, 8, 1, 0x0, 0x0, 0x0, 0x0, 0x0, 0x0⟩,
   -- SWP_WHERE
   ⟨0x090, 8, 1, 0x0, 0x0, 0x0, 0x80000000, 0x0, 0x0⟩]

/-- R506. -/
def dmpRows : List RegRow :=
  [
   -- DMP_CELL
   ⟨0x080, 8, 1, 0x0, 0x0, 0x0, 0x0, 0x0, 0x0⟩,
   -- DMP_WEIGHT
   ⟨0x088, 8, 1, 0x0, 0xFFFFFFFFFFFFFFFF, 0x0, 0x0, 0x0, 0x0⟩,
   -- DMP_IDLE
   ⟨0x090, 8, 1, 0x0, 0xFFFF, 0x0, 0x0, 0x0, 0x0⟩,
   -- DMP_CNT
   ⟨0x098, 8, 1, 0x0, 0x0, 0x0, 0x0, 0x0, 0xFFFFFFFFFFFFFFFF⟩,
   -- DMP_WHERE
   ⟨0x0A0, 8, 1, 0x0, 0x0, 0x0, 0x80000000, 0x0, 0x0⟩]

/-- R301. -/
def halRows : List RegRow :=
  [
   -- HAL_STATUS
   ⟨0x080, 8, 1, 0x0, 0x0, 0x0, 0x0, 0x0, 0x0⟩,
   -- HAL_WHERE
   ⟨0x088, 8, 1, 0x0, 0x0, 0x0, 0x80000000, 0x0, 0x0⟩,
   -- HAL_WHERE_STEP
   ⟨0x090, 8, 1, 0x0, 0x0, 0x0, 0x0, 0x0, 0x0⟩,
   -- HAL_SLOT_USE
   ⟨0x098, 8, 1, 0x0, 0x0, 0x0, 0x0, 0x0, 0x0⟩,
   -- HAL_CNT
   ⟨0x0A0, 8, 1, 0x0, 0x0, 0x0, 0x0, 0x0, 0xFFFFFFFFFFFFFFFF⟩,
   -- HAL_LINK_CE
   ⟨0x0A8, 8, 1, 0x0, 0x0, 0x0, 0x0, 0x0, 0xFFFFFFFFFFFFFFFF⟩,
   -- HAL_LINK
   ⟨0x100, 8, 8, 0x0, 0xFC, 0x0, 0x0, 0x0, 0x0⟩,
   -- HAL_XT0
   ⟨0x200, 8, 8, 0x0, 0xFFFFFFFFFFFFFFFF, 0x0, 0x0, 0x0, 0x0⟩,
   -- HAL_YT0
   ⟨0x240, 8, 8, 0x0, 0xFFFFFFFFFFFFFFFF, 0x0, 0x0, 0x0, 0x0⟩,
   -- HAL_XT1
   ⟨0x280, 8, 8, 0x0, 0xFFFFFFFFFFFFFFFF, 0x0, 0x0, 0x0, 0x0⟩,
   -- HAL_YT1
   ⟨0x2C0, 8, 8, 0x0, 0xFFFFFFFFFFFFFFFF, 0x0, 0x0, 0x0, 0x0⟩,
   -- HAL_PORT
   ⟨0x400, 8, 24, 0x0, 0x0, 0x0, 0x0, 0x0, 0xFFFFFFFFFFFFFFFF⟩]

/-- R330. -/
def fluRows : List RegRow :=
  [
   -- FLU_LATENCY
   ⟨0x080, 8, 1, 0x80, 0x0, 0x0, 0x0, 0x0, 0x0⟩,
   -- FLU_HALT
   ⟨0x088, 8, 1, 0x0, 0x0, 0x0, 0x0, 0x0, 0x0⟩,
   -- FLU_HALT_STEP
   ⟨0x090, 8, 1, 0x0, 0x0, 0x0, 0x0, 0x0, 0x0⟩,
   -- FLU_CE
   ⟨0x098, 8, 1, 0x0, 0x0, 0x0, 0x0, 0x0, 0xFFFFFFFFFFFFFFFF⟩,
   -- FLU_GPART
   ⟨0x0A0, 8, 4, 0x0, 0xFFFFFFFFFFFFFFFF, 0x0, 0x0, 0x0, 0x0⟩,
   -- FLU_GARR
   ⟨0x0C0, 8, 4, 0x0, 0x0, 0x0, 0x0, 0x0, 0x0⟩,
   -- FLU_GEARLY
   ⟨0x0E0, 8, 4, 0x0, 0x0, 0x0, 0x0, 0x0, 0x0⟩]

/-- R430. -/
def cvuRows : List RegRow :=
  [
   -- CVU_SEL
   ⟨0x080, 8, 1, 0x0, 0x1F3F07, 0x0, 0x0, 0x0, 0x0⟩,
   -- CVU_WHERE
   ⟨0x088, 8, 1, 0x0, 0x0, 0x0, 0x80000000, 0x0, 0x0⟩,
   -- CVU_WHERE_STEP
   ⟨0x090, 8, 1, 0x0, 0x0, 0x0, 0x0, 0x0, 0x0⟩,
   -- CVU_CNT
   ⟨0x098, 8, 1, 0x0, 0x0, 0x0, 0x0, 0x0, 0xFFFFFFFFFFFFFFFF⟩,
   -- CVU_LINK_TX
   ⟨0x100, 8, 12, 0x0, 0x0, 0x0, 0x0, 0x0, 0x0⟩,
   -- CVU_LINK_RX
   ⟨0x160, 8, 12, 0x0, 0x0, 0x0, 0x0, 0x0, 0x0⟩,
   -- CVU_DW_RUN
   ⟨0x200, 8, 8, 0x0, 0xFFFFFFFFFFFFFFFF, 0x0, 0x0, 0x0, 0x0⟩]

/-- R529. -/
def pwrRows : List RegRow :=
  [
   -- PWR_ROOM
   ⟨0x080, 8, 1, 0x0, 0x1, 0x0, 0x0, 0x2, 0x0⟩,
   -- PWR_TRIM
   ⟨0x088, 8, 1, 0x0, 0x0, 0xFF00, 0x0, 0x0, 0x0⟩,
   -- PWR_TEMP
   ⟨0x090, 8, 1, 0x0, 0x0, 0x0, 0x0, 0x0, 0x0⟩]

/-- R589. -/
def rstRows : List RegRow :=
  [
   -- RST_CTRL
   ⟨0x080, 8, 1, 0x0, 0x0, 0x0, 0x0, 0xC00000000000003F, 0x0⟩,
   -- RST_STATUS
   ⟨0x088, 8, 1, 0x0, 0x0, 0x0, 0x0, 0x0, 0x0⟩,
   -- RST_CNT
   ⟨0x090, 8, 1, 0x0, 0x0, 0x0, 0x0, 0x0, 0xFFFFFFFFFFFFFFFF⟩,
   -- RST_WHERE
   ⟨0x098, 8, 1, 0x0, 0x0, 0x0, 0x80000000, 0x0, 0x0⟩]

/-- R572. -/
def srvRows : List RegRow :=
  [
   -- SRV_REC0
   ⟨0x080, 8, 1, 0x0, 0x0, 0x0, 0x0, 0x0, 0x0⟩,
   -- SRV_REC1
   ⟨0x088, 8, 1, 0x0, 0x0, 0x0, 0x0, 0x0, 0x0⟩,
   -- SRV_REC2
   ⟨0x090, 8, 1, 0x0, 0x0, 0x0, 0x0, 0x0, 0x0⟩,
   -- SRV_REC3
   ⟨0x098, 8, 1, 0x0, 0x0, 0x0, 0x0, 0x0, 0x0⟩,
   -- SRV_MAP
   ⟨0x0A0, 8, 1, 0x0, 0x0, 0x0, 0x0, 0x0, 0x0⟩]

/-- R546. -/
def clkwRows : List RegRow :=
  [
   -- CLKW_STATUS
   ⟨0x080, 8, 1, 0x3000000000000000, 0x0, 0x0, 0x0, 0x0, 0x0⟩,
   -- CLKW_CNT
   ⟨0x088, 8, 1, 0x0, 0x0, 0x0, 0x0, 0x0, 0xFFFFFFFFFFFFFFFF⟩,
   -- CLKW_WHERE
   ⟨0x090, 8, 1, 0x0, 0x0, 0x0, 0x80000000, 0x0, 0x0⟩]

/-- R530. -/
def pwrwRows : List RegRow :=
  [
   -- PWRW_STATUS
   ⟨0x080, 8, 1, 0x0, 0x0, 0x0, 0x0, 0x0, 0x0⟩,
   -- PWRW_VSET
   ⟨0x088, 8, 1, 0x0, 0x0, 0x0, 0x0, 0x0, 0x0⟩,
   -- PWRW_SENSE
   ⟨0x090, 8, 1, 0x0, 0x0, 0x0, 0x0, 0x0, 0x0⟩,
   -- PWRW_SENSE_CFG
   ⟨0x098, 8, 1, 0x64280F00F, 0xFFFFFFF0F, 0x0, 0x0, 0x0, 0x0⟩,
   -- PWRW_ENERGY
   ⟨0x0A0, 8, 1, 0x0, 0x0, 0x0, 0x0, 0x0, 0x0⟩,
   -- PWRW_PMBUS
   ⟨0x0A8, 8, 1, 0x0, 0x0, 0x0, 0x0, 0x0, 0x0⟩,
   -- PWRW_CTRL
   ⟨0x0B0, 8, 1, 0x0, 0x0, 0x0, 0x0, 0x8000000000000000, 0x0⟩,
   -- PWRW_WHERE
   ⟨0x0B8, 8, 1, 0x0, 0x0, 0x0, 0x80000000, 0x0, 0x0⟩]

/-- R507. -/
def dmpwRows : List RegRow :=
  [
   -- DMPW_STATUS
   ⟨0x080, 8, 1, 0x0, 0x0, 0x0, 0x0, 0x0, 0x0⟩,
   -- DMPW_SLOPE
   ⟨0x088, 8, 1, 0xC9900801000C800, 0xFFFFFFFFFFFFFC00, 0x0, 0x0, 0x0, 0x0⟩,
   -- DMPW_CNT
   ⟨0x090, 8, 1, 0x0, 0x0, 0x0, 0x0, 0x0, 0xFFFFFFFFFFFFFFFF⟩,
   -- DMPW_WHERE
   ⟨0x098, 8, 1, 0x0, 0x0, 0x0, 0x80000000, 0x0, 0x0⟩]

/-- R574. -/
def srvwRows : List RegRow :=
  [
   -- SRVW_STATE
   ⟨0x080, 8, 1, 0x0, 0x0, 0x0, 0x0, 0x0, 0x0⟩,
   -- SRVW_HIST
   ⟨0x088, 8, 1, 0x0, 0x0, 0x0, 0x0, 0x0, 0x0⟩,
   -- SRVW_COL
   ⟨0x100, 8, 16, 0x0, 0x0, 0x0, 0x0, 0x0, 0x0⟩]

/-- R304. -/
def halwRows : List RegRow :=
  [
   -- HALW_SEAM
   ⟨0x080, 8, 4, 0x0, 0x0, 0x0, 0x0, 0x0, 0x0⟩,
   -- HALW_SEAM_CE
   ⟨0x0A0, 8, 4, 0x0, 0x0, 0x0, 0x0, 0x0, 0xFFFFFFFFFFFFFFFF⟩]

/-- R618. -/
def pchRows : List RegRow :=
  [
   -- PCH_ID
   ⟨0x080, 8, 1, 0x0, 0x0, 0x0, 0x0, 0x0, 0x0⟩,
   -- PCH_SN_LO
   ⟨0x088, 8, 1, 0x0, 0x0, 0x0, 0x0, 0x0, 0x0⟩,
   -- PCH_SN_HI
   ⟨0x090, 8, 1, 0x0, 0x0, 0x0, 0x0, 0x0, 0x0⟩,
   -- PCH_BAR2
   ⟨0x098, 8, 1, 0x0, 0x8000FFFFC000003F, 0x0, 0x0, 0x0, 0x0⟩,
   -- PCH_HOSTBASE
   ⟨0x0A0, 8, 1, 0x0, 0xFFFFFFFFFFFFF000, 0x0, 0x0, 0x0, 0x0⟩,
   -- PCH_LINK
   ⟨0x0A8, 8, 1, 0x0, 0x0, 0x0, 0x0, 0x0, 0x0⟩,
   -- PCH_SEC
   ⟨0x0B0, 8, 1, 0x0, 0x3, 0x0, 0x0, 0x0, 0x0⟩,
   -- PCH_MBOX_CMD
   ⟨0x0B8, 8, 1, 0x0, 0x80000000000000FF, 0x0, 0x0, 0x0, 0x0⟩,
   -- PCH_MBOX_ARG0
   ⟨0x0C0, 8, 1, 0x0, 0xFFFFFFFFFFFFFFFF, 0x0, 0x0, 0x0, 0x0⟩,
   -- PCH_MBOX_ARG1
   ⟨0x0C8, 8, 1, 0x0, 0xFFFFFFFFFFFFFFFF, 0x0, 0x0, 0x0, 0x0⟩,
   -- PCH_MBOX_STATUS
   ⟨0x0D0, 8, 1, 0x0, 0x0, 0x0, 0x0, 0x0, 0x0⟩,
   -- PCH_RECOV
   ⟨0x0D8, 8, 1, 0x0, 0x8000000001FFFFFF, 0x0, 0x0, 0x0, 0x0⟩,
   -- PCH_WHERE
   ⟨0x0E0, 8, 1, 0x0, 0x0, 0x0, 0x80000000, 0x0, 0x0⟩,
   -- PCH_CNT
   ⟨0x0E8, 8, 1, 0x0, 0x0, 0x0, 0x0, 0x0, 0xFFFFFFFFFFFFFFFF⟩,
   -- PCH_PAC
   ⟨0x100, 8, 64, 0xFFFF00FE, 0xFFFFFFFF, 0x0, 0x0, 0x0, 0x0⟩]

/-- R613. -/
def pchsRows : List RegRow :=
  [
   -- PCHS_CMD
   ⟨0x080, 8, 1, 0x0, 0x0, 0x0, 0x0, 0xE03F000000007777, 0x0⟩,
   -- PCHS_RESULT
   ⟨0x088, 8, 1, 0x0, 0x0, 0x0, 0x0, 0x0, 0x0⟩,
   -- PCHS_DEF
   ⟨0x100, 8, 64, 0x0, 0x0, 0x0, 0x0, 0x0, 0x0⟩,
   -- PCHS_WING
   ⟨0x300, 8, 64, 0x0, 0x0, 0x0, 0x0, 0x0, 0x0⟩]

/-- R610. -/
def pcheRows : List RegRow :=
  [
   -- PCHE_ESUM
   ⟨0x080, 8, 1, 0x0, 0x0, 0x0, 0x0, 0x0, 0x0⟩,
   -- PCHE_GSUM
   ⟨0x088, 8, 4, 0x0, 0x0, 0x0, 0x0, 0x0, 0x0⟩,
   -- PCHE_CFG
   ⟨0x0A8, 8, 1, 0x0, 0xFFFF, 0x0, 0x0, 0x0, 0x0⟩,
   -- PCHE_ARM
   ⟨0x0B0, 8, 1, 0x0, 0x0, 0x0, 0x0, 0x1FF, 0x0⟩,
   -- PCHE_WSUM
   ⟨0x100, 8, 64, 0x0, 0x0, 0x0, 0x0, 0x0, 0x0⟩,
   -- PCHE_ROUTE
   ⟨0x400, 8, 320, 0x0, 0x80000000000007FF, 0x0, 0x0, 0x0, 0x0⟩]

/-- R305. -/
def halgRows : List RegRow :=
  [
   -- HALG_EPOCH
   ⟨0x080, 8, 1, 0x3E8000C, 0xFFFF0004, 0x0, 0x0, 0x2, 0x0⟩]

/-- R331. -/
def flugRows : List RegRow :=
  [
   -- FLU_LATENCY
   ⟨0x080, 8, 1, 0x80, 0xFFFF, 0x0, 0x0, 0x0, 0x0⟩,
   -- FLU_ET
   ⟨0x088, 8, 1, 0x0, 0x0, 0x0, 0x0, 0x0, 0x0⟩,
   -- FLU_HALTED
   ⟨0x090, 8, 1, 0x0, 0x0, 0x0, 0x0, 0x0, 0x0⟩,
   -- FLU_WD
   ⟨0x098, 8, 1, 0x4, 0xF, 0x0, 0x0, 0x0, 0x0⟩,
   -- FLU_WD_WHERE
   ⟨0x0A0, 8, 1, 0x0, 0x0, 0x0, 0x80000000, 0x0, 0x0⟩]

/-- R333. -/
def lchgRows : List RegRow :=
  [
   -- LCHG_WHERE
   ⟨0x080, 8, 1, 0x0, 0x0, 0x0, 0x80000000, 0x0, 0x0⟩,
   -- LCHG_MISS_W
   ⟨0x088, 8, 1, 0x0, 0x0, 0x0, 0x0, 0x0, 0x0⟩,
   -- LCHG_MISS_R
   ⟨0x090, 8, 1, 0x0, 0x0, 0x0, 0x0, 0x0, 0x0⟩,
   -- LCHG_OP
   ⟨0x098, 8, 1, 0x0, 0x0, 0x0, 0x0, 0xF000000000007FFF, 0x0⟩,
   -- LCHG_CNT
   ⟨0x0A0, 8, 1, 0x0, 0x0, 0x0, 0x0, 0x0, 0xFFFFFFFFFFFFFFFF⟩,
   -- FLG_CFG
   ⟨0x400, 24, 128, 0x0, 0xEFC0FFFFFFFFFFFF, 0x0, 0x0, 0x0, 0x0⟩,
   -- FLG_STATE
   ⟨0x408, 24, 128, 0x0, 0x0, 0x0, 0x0, 0x0, 0x0⟩,
   -- FLG_REMOTE
   ⟨0x410, 24, 128, 0x0, 0x0, 0x0, 0x0, 0x0, 0x0⟩]

/-- R362. -/
def celRows : List RegRow :=
  [
   -- CEL_STATUS
   ⟨0x080, 8, 1, 0x0, 0x0, 0x0, 0x0, 0x0, 0x0⟩,
   -- CEL_WHERE
   ⟨0x088, 8, 1, 0x0, 0x0, 0x0, 0x80000000, 0x0, 0x0⟩,
   -- CEL_CNT
   ⟨0x090, 8, 1, 0x0, 0x0, 0x0, 0x0, 0x0, 0xFFFFFFFFFFFFFFFF⟩,
   -- CEL_RD_BYTES
   ⟨0x098, 8, 1, 0x0, 0x0, 0x0, 0x0, 0x0, 0x0⟩,
   -- CEL_WR_BYTES
   ⟨0x0A0, 8, 1, 0x0, 0x0, 0x0, 0x0, 0x0, 0x0⟩,
   -- CEL_REG_A
   ⟨0x400, 32, 32, 0x0, 0xFF00FFFFFFFF0000, 0x0, 0x0, 0x0, 0x0⟩,
   -- CEL_REG_B
   ⟨0x408, 32, 32, 0x0, 0xFFFFFFFFFFFFFFFF, 0x0, 0x0, 0x0, 0x0⟩]

/-- R365. -/
def chuRows : List RegRow :=
  [
   -- CHU_CTRL
   ⟨0x080, 8, 1, 0x0, 0x8000003F00000000, 0x0, 0x0, 0x0, 0x0⟩,
   -- CHU_STATUS
   ⟨0x088, 8, 1, 0x0, 0x0, 0x0, 0x0, 0x0, 0x0⟩,
   -- CHU_LIST
   ⟨0x090, 8, 1, 0x0, 0x1F00FFFFFFFFFFE0, 0x0, 0x0, 0x0, 0x0⟩,
   -- CHU_LIST_HEAD
   ⟨0x098, 8, 1, 0x0, 0x0, 0x0, 0x0, 0x0, 0x0⟩,
   -- CHU_LIST_TAIL
   ⟨0x0A0, 8, 1, 0x0, 0xFFFFF, 0x0, 0x0, 0x0, 0x0⟩,
   -- CHU_STARVE
   ⟨0x0A8, 8, 1, 0x120000000003E8, 0x3F000000FFFFFF, 0x0, 0x0, 0x0, 0x0⟩,
   -- CHU_WHERE
   ⟨0x0B0, 8, 1, 0x0, 0x0, 0x0, 0x80000000, 0x0, 0x0⟩,
   -- CHU_BYTES
   ⟨0x0B8, 8, 1, 0x0, 0x0, 0x0, 0x0, 0x0, 0x0⟩,
   -- CHU_STALL
   ⟨0x0C0, 8, 1, 0x0, 0x0, 0x0, 0x0, 0x0, 0x0⟩,
   -- CHU_CNT
   ⟨0x0C8, 8, 1, 0x0, 0x0, 0x0, 0x0, 0x0, 0xFFFFFFFFFFFFFFFF⟩,
   -- CHU_LS
   ⟨0x100, 16, 4, 0x0, 0x8000FFFF000FFFFF, 0x0, 0x0, 0x0, 0x0⟩,
   -- CHU_LS_OFF
   ⟨0x108, 16, 4, 0x0, 0x0, 0x0, 0x0, 0x0, 0x0⟩]

/-- R401. -/
def eavRows : List RegRow :=
  [
   -- EAV_CFG
   ⟨0x080, 8, 1, 0x0, 0xFFFFF8F, 0x0, 0x0, 0x0, 0x0⟩,
   -- EAV_STATUS
   ⟨0x088, 8, 1, 0x0, 0x0, 0x0, 0x0, 0x0, 0x0⟩,
   -- EAV_MAC
   ⟨0x090, 8, 2, 0x0, 0xFFFFFFFFFFFF, 0x0, 0x0, 0x0, 0x0⟩,
   -- EAV_NEXTHOP
   ⟨0x0A0, 8, 2, 0x0, 0xFFFFFFFFFFFF, 0x0, 0x0, 0x0, 0x0⟩,
   -- EAV_FEC
   ⟨0x0B0, 8, 1, 0x64, 0xFF, 0x0, 0x0, 0x0, 0x0⟩,
   -- EAV_CNT
   ⟨0x0C0, 8, 2, 0x0, 0x0, 0x0, 0x0, 0x0, 0xFFFFFFFFFFFFFFFF⟩,
   -- EAV_LANE
   ⟨0x100, 8, 8, 0x0, 0x0, 0x0, 0x0, 0x0, 0x0⟩]

/-- R406. -/
def yzlRows : List RegRow :=
  [
   -- YZL_WHERE
   ⟨0x080, 8, 1, 0x0, 0x0, 0x0, 0x80000000, 0x0, 0x0⟩,
   -- YZL_CNT_TX
   ⟨0x088, 8, 1, 0x0, 0x0, 0x0, 0x0, 0x0, 0xFFFFFFFFFFFFFFFF⟩,
   -- YZL_CNT_DROP
   ⟨0x090, 8, 1, 0x0, 0x0, 0x0, 0x0, 0x0, 0xFFFFFFFFFFFFFFFF⟩,
   -- YZL_CNT
   ⟨0x098, 8, 1, 0x0, 0x0, 0x0, 0x0, 0x0, 0xFFFFFFFFFFFFFFFF⟩,
   -- YZL_HOT
   ⟨0x0A0, 8, 1, 0x0, 0x0, 0x0, 0x0, 0x0, 0x0⟩]

/-- R404. -/
def yzlgRows : List RegRow :=
  [
   -- YZLG_ID
   ⟨0x080, 8, 1, 0x4A6B0000, 0x1FFFFFFFF, 0x0, 0x0, 0x0, 0x0⟩,
   -- YZLG_PFX_HI
   ⟨0x088, 8, 1, 0x0, 0xFFFFFFFFFFFFFFFF, 0x0, 0x0, 0x0, 0x0⟩,
   -- YZLG_PFX_LO
   ⟨0x090, 8, 1, 0x0, 0xFFFFFFFFFF, 0x0, 0x0, 0x0, 0x0⟩,
   -- YZLG_CTX_BASE
   ⟨0x098, 8, 1, 0x0, 0xFFFFF0000000, 0x0, 0x0, 0x0, 0x0⟩,
   -- YZLG_DB_BASE
   ⟨0x0A0, 8, 1, 0x0, 0xFFFFF8000000, 0x0, 0x0, 0x0, 0x0⟩,
   -- YZLG_TIMERS
   ⟨0x0A8, 8, 1, 0x640C8814000190, 0xFFFFFFFFFFFFFFFF, 0x0, 0x0, 0x0, 0x0⟩,
   -- YZLG_CC
   ⟨0x0B0, 8, 1, 0x38105, 0x3FFFF, 0x0, 0x0, 0x0, 0x0⟩,
   -- YZLG_CLASS
   ⟨0x0B8, 8, 1, 0x4880A121A30, 0xFFF3F3F3F3F, 0x0, 0x0, 0x0, 0x0⟩,
   -- YZLG_CTX_SEL
   ⟨0x0C0, 8, 1, 0x0, 0xC0000000000FFFFF, 0x0, 0x0, 0x0, 0x0⟩,
   -- YZLG_RC_WHERE
   ⟨0x0C8, 8, 1, 0x0, 0x0, 0x0, 0x80000000, 0x0, 0x0⟩,
   -- YZLG_CTX_WIN
   ⟨0x100, 8, 32, 0x0, 0xFFFFFFFFFFFFFFFF, 0x0, 0x0, 0x0, 0x0⟩,
   -- YZLG_RC_A
   ⟨0x400, 16, 64, 0x0, 0x40FFFFFFFFFFFFFF, 0x0, 0x0, 0x8000000000000000, 0x0⟩,
   -- YZLG_RC_B
   ⟨0x408, 16, 64, 0x0, 0xFFFFFFFFFFFFFFFF, 0x0, 0x0, 0x0, 0x0⟩,
   -- YZLG_RC_DIGEST
   ⟨0x800, 8, 64, 0x0, 0x0, 0x0, 0x0, 0x0, 0x0⟩,
   -- YZLG_ENGINE_DIGEST
   ⟨0xA00, 8, 1, 0x0, 0x0, 0x0, 0x0, 0x0, 0x0⟩]

/-- R434. -/
def cvugRows : List RegRow :=
  [
   -- CVUG_INSP_CTRL
   ⟨0x080, 8, 1, 0xC800000000, 0x8000FFFF00000000, 0x0, 0x0, 0x0, 0x0⟩,
   -- CVUG_INSP_PKG
   ⟨0x088, 8, 1, 0x0, 0x8000FFFFFFFFFFFF, 0x0, 0x0, 0x0, 0x0⟩,
   -- CVUG_INSP_STATUS
   ⟨0x090, 8, 1, 0x0, 0x0, 0x0, 0x0, 0x0, 0x0⟩,
   -- CVUG_POLICY
   ⟨0x098, 8, 1, 0x800A280002D00040, 0xC0FFFF00FFFFFFFF, 0x0, 0x0, 0x0, 0x0⟩,
   -- CVUG_WD
   ⟨0x0A0, 8, 1, 0x64, 0xFFFF, 0x0, 0x0, 0x0, 0x0⟩,
   -- CVUG_WD_HIT
   ⟨0x0A8, 8, 1, 0x0, 0x0, 0x0, 0xFFFFFFFFFFFFFFFF, 0x0, 0x0⟩,
   -- CVUG_ST
   ⟨0x0B0, 8, 1, 0x0, 0x800000000FFF7FFF, 0x0, 0x0, 0x0, 0x0⟩,
   -- CVUG_INC
   ⟨0x0B8, 8, 1, 0x0, 0x0, 0x0, 0x0, 0x0, 0x0⟩,
   -- CVUG_INC_LOST
   ⟨0x0C0, 8, 1, 0x0, 0x0, 0x0, 0x0, 0x0, 0xFFFFFFFFFFFFFFFF⟩,
   -- CVUG_WHERE
   ⟨0x0C8, 8, 1, 0x0, 0x0, 0x0, 0x80000000, 0x0, 0x0⟩,
   -- CVUG_ROT
   ⟨0x400, 8, 64, 0x0, 0x0, 0x0, 0x0, 0x0, 0x0⟩]

/-- R433. -/
def cvuxRows : List RegRow :=
  [
   -- CVUX_WHERE
   ⟨0x080, 8, 1, 0x0, 0x0, 0x0, 0x80000000, 0x0, 0x0⟩,
   -- CVUX_CNT
   ⟨0x088, 8, 1, 0x0, 0x0, 0x0, 0x0, 0x0, 0xFFFFFFFFFFFFFFFF⟩,
   -- CVUX_RUN
   ⟨0x100, 8, 6, 0x0, 0xFFFFFFFFFFFFFFFF, 0x0, 0x0, 0x0, 0x0⟩]

/-- R456. -/
def ecccRows : List RegRow :=
  [
   -- ECC_CFG
   ⟨0x080, 8, 1, 0x421, 0xFFF3, 0x0, 0x0, 0x0, 0x0⟩,
   -- ECC_WHERE
   ⟨0x088, 8, 1, 0x0, 0x0, 0x0, 0x80000000, 0x0, 0x0⟩,
   -- ECC_CNT
   ⟨0x090, 8, 1, 0x0, 0x0, 0x0, 0x0, 0x0, 0xFFFFFFFF0000FFFF⟩,
   -- ECC_SCRUB
   ⟨0x098, 8, 1, 0x8040000400104000, 0x7FFFFFFFFFFF0000, 0x0, 0x0, 0x0, 0x0⟩,
   -- ECC_RETIRE
   ⟨0x0A0, 8, 1, 0x0, 0x8000000003FFFFFF, 0x0, 0x0, 0x0, 0x0⟩,
   -- ECC_REMAP_SEL
   ⟨0x0A8, 8, 1, 0x0, 0x1FFF, 0x0, 0x0, 0x0, 0x0⟩,
   -- ECC_REMAP_DATA
   ⟨0x0B0, 8, 1, 0x0, 0xE000000003FFFFFF, 0x0, 0x0, 0x0, 0x0⟩,
   -- ECC_WATCH
   ⟨0x800, 8, 64, 0x0, 0x0, 0x0, 0x0, 0x0, 0x0⟩]

/-- R458. -/
def eccgRows : List RegRow :=
  [
   -- ECCG_CTRL
   ⟨0x080, 8, 1, 0x8000000000000000, 0x8000000000000000, 0x0, 0x0, 0x0, 0x0⟩,
   -- ECCG_LOG_BASE
   ⟨0x088, 8, 1, 0x0, 0xFFFFFFFFF000, 0x0, 0x0, 0x0, 0x0⟩,
   -- ECCG_LOG_CTRL
   ⟨0x090, 8, 1, 0x0, 0x1, 0x0, 0x0, 0x0, 0x0⟩,
   -- ECCG_LOG_HEAD
   ⟨0x098, 8, 1, 0x0, 0x7FFFF, 0x0, 0x0, 0x0, 0x0⟩,
   -- ECCG_LOG_TAIL
   ⟨0x0A0, 8, 1, 0x0, 0x0, 0x0, 0x0, 0x0, 0x0⟩,
   -- ECCG_LOG_LOST
   ⟨0x0A8, 8, 1, 0x0, 0x0, 0x0, 0x0, 0x0, 0xFFFFFFFFFFFFFFFF⟩]

/-- R480. -/
def swpgRows : List RegRow :=
  [
   -- SWPG_CMD
   ⟨0x080, 8, 1, 0x0, 0x0, 0x0, 0x0, 0xF03F0300FFFFFFFF, 0x0⟩,
   -- SWPG_RESTART
   ⟨0x088, 8, 1, 0x0, 0x0, 0x0, 0x0, 0x0, 0x0⟩,
   -- SWPG_RESUME_ET
   ⟨0x090, 8, 1, 0x0, 0xFFFFFFFFFFFFFFFF, 0x0, 0x0, 0x0, 0x0⟩,
   -- SWPG_AVAIL
   ⟨0x098, 8, 1, 0x0, 0x8000000000000000, 0x0, 0x0, 0x0, 0x0⟩,
   -- SWPG_SVC_MS
   ⟨0x0A0, 8, 1, 0x0, 0x0, 0x0, 0x0, 0x0, 0x0⟩,
   -- SWPG_DOWN_US
   ⟨0x0A8, 8, 1, 0x0, 0x0, 0x0, 0x0, 0x0, 0x0⟩,
   -- SWPG_RESTARTS
   ⟨0x0B0, 8, 1, 0x0, 0x0, 0x0, 0x0, 0x0, 0x0⟩,
   -- SWPG_LAST_DOWN_US
   ⟨0x0B8, 8, 1, 0x0, 0x0, 0x0, 0x0, 0x0, 0x0⟩,
   -- SWPG_MAX_DOWN_US
   ⟨0x0C0, 8, 1, 0x0, 0x0, 0x0, 0x0, 0x0, 0x0⟩,
   -- SWPG_CKPT_US
   ⟨0x0C8, 8, 1, 0x0, 0x0, 0x0, 0x0, 0x0, 0x0⟩,
   -- SWPG_WHERE
   ⟨0x0D0, 8, 1, 0x0, 0x0, 0x0, 0x80000000, 0x0, 0x0⟩,
   -- SWPG_HALT_FWD
   ⟨0x100, 8, 8, 0x0, 0x80000000000FFFFF, 0x0, 0x0, 0x0, 0x0⟩,
   -- SWPG_BUF_S
   ⟨0x400, 16, 128, 0x0, 0xFFFFFFFFFFFF, 0x0, 0x0, 0x0, 0x0⟩,
   -- SWPG_BUF_B
   ⟨0x408, 16, 128, 0x0, 0x800000000000FFFF, 0x0, 0x0, 0x0, 0x0⟩,
   -- SWPG_SUITE
   ⟨0xC00, 16, 64, 0x8000000000000000, 0x807FFFFF0000FFFF, 0x0, 0x0, 0x0, 0x0⟩,
   -- SWPG_GEN
   ⟨0xC08, 16, 64, 0x0, 0x0, 0x0, 0x0, 0x0, 0x0⟩]

/-- R510. -/
def dmpgRows : List RegRow :=
  [
   -- DMPG_CAP
   ⟨0x080, 8, 1, 0x4001906978, 0xFFFFFFFFFFFF, 0x0, 0x0, 0x0, 0x0⟩,
   -- DMPG_DERATE
   ⟨0x088, 8, 1, 0x0, 0x0, 0x0, 0x0, 0x0, 0x0⟩,
   -- DMPG_POWER
   ⟨0x090, 8, 1, 0x0, 0x0, 0x0, 0x0, 0x0, 0x0⟩,
   -- DMPG_THERM
   ⟨0x098, 8, 1, 0x1000A5F, 0xFFFFFFFF, 0x0, 0x0, 0x0, 0x0⟩,
   -- DMPG_DRAUGHT
   ⟨0x0A0, 8, 1, 0xA, 0x8000FFFF0000FFFF, 0x0, 0x0, 0x0, 0x0⟩,
   -- DMPG_DR_TOTAL
   ⟨0x0A8, 8, 1, 0x0, 0xFFFFFFFF0001FFFF, 0x0, 0x0, 0x0, 0x0⟩,
   -- DMPG_DR_LIMITS
   ⟨0x0B0, 8, 1, 0x0, 0xFFFFFFFFFFFFFFFF, 0x0, 0x0, 0x0, 0x0⟩,
   -- DMPG_DR_PARAM
   ⟨0x0B8, 8, 1, 0x64051F, 0xFFFFFFFF, 0x0, 0x0, 0x0, 0x0⟩,
   -- DMPG_DR_STATE
   ⟨0x0C0, 8, 1, 0x0, 0x0, 0x0, 0x0, 0x0, 0x0⟩,
   -- DMPG_DR_CNT
   ⟨0x0C8, 8, 1, 0x0, 0x0, 0x0, 0x0, 0x0, 0xFFFFFFFFFFFFFFFF⟩,
   -- DMPG_WHERE
   ⟨0x0D0, 8, 1, 0x0, 0x0, 0x0, 0x80000000, 0x0, 0x0⟩,
   -- DMPG_DR_PEER
   ⟨0x100, 8, 4, 0x0, 0x80000000000FFFFF, 0x0, 0x0, 0x0, 0x0⟩,
   -- DMPG_SUITE_A
   ⟨0x400, 16, 64, 0x4B0000000000000, 0xFFFF0003FFFFFFFF, 0x0, 0x0, 0x0, 0x0⟩,
   -- DMPG_SUITE_B
   ⟨0x408, 16, 64, 0x0, 0x0, 0x0, 0x0, 0x0, 0x0⟩]

/-- R532. -/
def pwrgRows : List RegRow :=
  [
   -- PWRG_INPUT
   ⟨0x080, 8, 1, 0x0, 0x0, 0x0, 0x0, 0x0, 0x0⟩,
   -- PWRG_COOL
   ⟨0x088, 8, 1, 0x0, 0x0, 0x0, 0x0, 0x0, 0x0⟩,
   -- PWRG_LIMITS
   ⟨0x090, 8, 1, 0x14, 0xFF, 0x0, 0x0, 0x0, 0x0⟩,
   -- PWRG_DERATE
   ⟨0x098, 8, 1, 0x0, 0x0, 0x0, 0x0, 0x0, 0x0⟩,
   -- PWRG_CTRL
   ⟨0x0A0, 8, 1, 0x0, 0x0, 0x0, 0x0, 0x8000000000000000, 0x0⟩,
   -- PWRG_WHERE
   ⟨0x0A8, 8, 1, 0x0, 0x0, 0x0, 0x80000000, 0x0, 0x0⟩]

/-- R547. -/
def clkgRows : List RegRow :=
  [
   -- CLKG_REF
   ⟨0x080, 8, 1, 0x20, 0x30, 0x0, 0x0, 0x0, 0x0⟩,
   -- CLKG_SSC
   ⟨0x088, 8, 1, 0x200000, 0x8000000000FF003F, 0x0, 0x0, 0x0, 0x0⟩,
   -- CLKG_PERI
   ⟨0x090, 8, 1, 0x7FF, 0x7FF, 0x0, 0x0, 0x0, 0x0⟩,
   -- CLKG_PDIV
   ⟨0x098, 8, 1, 0x0, 0xFFFFFFFFFFFF, 0x0, 0x0, 0x0, 0x0⟩,
   -- CLKG_WHERE
   ⟨0x0A0, 8, 1, 0x0, 0x0, 0x0, 0x80000000, 0x0, 0x0⟩,
   -- CLKG_SWITCH
   ⟨0x400, 8, 64, 0x0, 0x80FFFFFFFFFFFFFF, 0x0, 0x0, 0x0, 0x0⟩]

/-- R575. -/
def srvgRows : List RegRow :=
  [
   -- SRVG_STATUS
   ⟨0x080, 8, 1, 0x0, 0x0, 0x0, 0x0, 0x0, 0x0⟩,
   -- SRVG_CTRL
   ⟨0x088, 8, 1, 0xA, 0x800000000000FFFF, 0x0, 0x0, 0x0, 0x0⟩,
   -- SRVG_CMD
   ⟨0x090, 8, 1, 0x0, 0x0, 0x0, 0x0, 0xF00000000003FFFF, 0x0⟩,
   -- SRVG_PHOURS
   ⟨0x098, 8, 1, 0x0, 0x0, 0x0, 0x0, 0x0, 0x0⟩,
   -- SRVG_RETRAIN
   ⟨0x0A0, 8, 1, 0x64, 0xFFFF, 0x0, 0x0, 0x0, 0x0⟩,
   -- SRVG_WHERE
   ⟨0x0A8, 8, 1, 0x0, 0x0, 0x0, 0x80000000, 0x0, 0x0⟩,
   -- SRVG_REMAP_US
   ⟨0x0B0, 8, 1, 0x0, 0x0, 0x0, 0x0, 0x0, 0x0⟩,
   -- SRVG_BRINGUP_MS
   ⟨0x0B8, 8, 1, 0x0, 0x0, 0x0, 0x0, 0x0, 0x0⟩]

/-- R592. -/
def rstgRows : List RegRow :=
  [
   -- RSTG_CFG
   ⟨0x080, 8, 1, 0xA, 0xFFFF, 0x0, 0x0, 0x0, 0x0⟩,
   -- RSTG_SUITE
   ⟨0x088, 8, 1, 0x0, 0x0, 0x0, 0x0, 0x800000000000003F, 0x0⟩,
   -- RSTG_HOUSE
   ⟨0x090, 8, 1, 0x0, 0x0, 0x0, 0x0, 0xFFFF, 0x0⟩,
   -- RSTG_STATUS
   ⟨0x098, 8, 1, 0x0, 0x0, 0x0, 0x0, 0x0, 0x0⟩,
   -- RSTG_LAST
   ⟨0x0A0, 8, 1, 0x0, 0x0, 0x0, 0x0, 0x0, 0x0⟩,
   -- RSTG_WHERE
   ⟨0x0A8, 8, 1, 0x0, 0x0, 0x0, 0x80000000, 0x0, 0x0⟩]

/-- R628. -/
def dbgRows : List RegRow :=
  [
   -- DBG_OBS_SRC
   ⟨0x080, 8, 1, 0x0, 0xFFFFF00000FF8, 0x0, 0x0, 0x0, 0x0⟩,
   -- DBG_OBS_CFG
   ⟨0x088, 8, 1, 0xA0000, 0x8000000000FF0303, 0x0, 0x0, 0x0, 0x0⟩,
   -- DBG_MATCH_VAL
   ⟨0x090, 8, 1, 0x0, 0xFFFFFFFFFFFFFFFF, 0x0, 0x0, 0x0, 0x0⟩,
   -- DBG_MATCH_MASK
   ⟨0x098, 8, 1, 0x0, 0xFFFFFFFFFFFFFFFF, 0x0, 0x0, 0x0, 0x0⟩,
   -- DBG_TRIG
   ⟨0x0A0, 8, 2, 0x0, 0xFFC0003F000FFFFF, 0x0, 0x0, 0x0, 0x0⟩,
   -- DBG_SWEEP_CMD
   ⟨0x0B0, 8, 1, 0x0, 0xC0003FFF00007FFF, 0x0, 0x0, 0x0, 0x0⟩,
   -- DBG_SWEEP_EA
   ⟨0x0B8, 8, 1, 0x0, 0xFFFFFFFFFFF8, 0x0, 0x0, 0x0, 0x0⟩,
   -- DBG_WHERE
   ⟨0x0C0, 8, 1, 0x0, 0x0, 0x0, 0x80000000, 0x0, 0x0⟩]

/-- The registers of a page after its header. -/
def Page.rows : Page → List RegRow
  | .brk => brkRows
  | .arr => arrRows
  | .shf => shfRows
  | .dwt => dwtRows
  | .hrt => hrtRows
  | .chn => chnRows
  | .stp => stpRows
  | .lch => lchRows
  | .ecc => eccRows
  | .swp => swpRows
  | .dmp => dmpRows
  | .hal => halRows
  | .flu => fluRows
  | .cvu => cvuRows
  | .pwr => pwrRows
  | .rst => rstRows
  | .srv => srvRows
  | .clkw => clkwRows
  | .pwrw => pwrwRows
  | .dmpw => dmpwRows
  | .srvw => srvwRows
  | .halw => halwRows
  | .pch => pchRows
  | .pchs => pchsRows
  | .pche => pcheRows
  | .peri => []
  | .gpio => []
  | .tim => []
  | .halg => halgRows
  | .flug => flugRows
  | .lchg => lchgRows
  | .cel => celRows
  | .chu => chuRows
  | .eav => eavRows
  | .yzl => yzlRows
  | .yzlg => yzlgRows
  | .cvug => cvugRows
  | .cvux => cvuxRows
  | .eccc => ecccRows
  | .eccg => eccgRows
  | .swpg => swpgRows
  | .dmpg => dmpgRows
  | .pwrg => pwrgRows
  | .clkg => clkgRows
  | .srvg => srvgRows
  | .rstg => rstgRows
  | .dbg => dbgRows

/-- The row that holds offset `off`. -/
def findRow : List RegRow → Nat → Option RegRow
  | [], _ => none
  | r :: rs, off =>
    if r.off ≤ off ∧ off < r.off + r.stride * r.count ∧ (off - r.off) % r.stride = 0 then some r else findRow rs off

/-- The header registers of R602 that hold state: CTRL, STATUS.INJECTED, EVENT, EVENT_EN and EVENT_COUNT. -/
def headerRows (p : Page) : List RegRow :=
  [⟨0x018, 8, 1, 0, 0x8000000000000000, 0, 0, 0, 0⟩,
   ⟨0x020, 8, 1, 0, 0, 0, 0, 0, 0⟩,
   ⟨0x028, 8, 1, 0, 0, 0, p.caps, 0, 0⟩,
   ⟨0x030, 8, 1, p.caps, p.caps, 0, 0, 0, 0⟩,
   ⟨0x038, 8, 1, 0, 0, 0, 0, p.injects, 0⟩,
   ⟨0x040, 8, 1, 0, 0, 0, 0, 0, 0xFFFFFFFFFF⟩]

/-- The row of an offset of a page, header included. -/
def regRow (p : Page) (off : Nat) : Option RegRow :=
  if off < 0x080 then findRow (headerRows p) off else findRow p.rows off

/-- What a register holds after House reset. -/
def regReset (p : Page) (off : Nat) : W64 :=
  match regRow p off with
  | some r => r.reset
  | none => 0

/-- The key of a register in the state: page kind, instance and offset. -/
def regKey (p : PageRef) (off : Nat) : Nat := p.page.idx * 2 ^ 32 + p.inst * 2 ^ 12 + off

/-- The page kinds in the order of their numbers. -/
def allPages : List Page := [.brk, .arr, .shf, .dwt, .hrt, .chn, .stp, .lch, .ecc, .swp, .dmp, .hal, .flu, .cvu, .pwr, .rst, .srv, .clkw, .pwrw, .dmpw, .srvw, .halw, .pch, .pchs, .pche, .peri, .gpio, .tim, .halg, .flug, .lchg, .cel, .chu, .eav, .yzl, .yzlg, .cvug, .cvux, .eccc, .eccg, .swpg, .dmpg, .pwrg, .clkg, .srvg, .rstg, .dbg]

/-- What the register of a key holds after House reset. -/
def keyReset (k : Nat) : W64 :=
  match allPages[k / 2 ^ 32]? with
  | some p => regReset p (k % 4096)
  | none => 0

end Sys2Proof.Machine
end

