-- ==== Sys2Proof/Machine/RemapTypes.lean ====
section
/-!
DEFINITION. The remap table: which physical Rooms hold the logical grid (R18, R23, R25, R560).
-/

namespace Sys2Proof.Machine

/-- A remap (R560): ROWMASK by physical Wing, COLMASK by 16 × physical Wing + kept row, and the fenced physical Wing row.  What is not listed
is the mask that R643 gives for a Survey without defects. -/
structure Masks where
  rows  : SMap Nat
  cols  : SMap Nat
  fence : Option Nat
  deriving DecidableEq, Repr, Inhabited

/-- The remap of R643: nothing listed and no fence. -/
def Masks.whole : Masks := ⟨[], [], none⟩

/-- room_x of a logical Room index (R8). -/
def roomX (r : Nat) : Nat := r % 128

/-- room_y of a logical Room index (R8). -/
def roomY (r : Nat) : Nat := r / 128

/-- The COLMASK that R643 gives a Wing. -/
def colDefault (wing : Nat) : Nat := if wing % 8 = 0 then 0x3FFFC else 0xFFFF

/-- ROWMASK of a physical Wing. -/
def Masks.row (m : Masks) (wing : Nat) : Nat := smGet 0xFFFF m.rows wing

/-- COLMASK[r] of a physical Wing. -/
def Masks.col (m : Masks) (wing r : Nat) : Nat := smGet (colDefault wing) m.cols (16 * wing + r)

/-- The positions of the set bits of an 18-bit mask, lowest first. -/
def maskBits (mask : Nat) : List Nat := (List.range 18).filter fun k => mask.testBit k

/-- sel(m, j): the position of the (j + 1)-th lowest set bit (R560). -/
def selBit (mask j : Nat) : Nat := (maskBits mask).getD j 0

/-- The number of set bits below bit `k` of a mask, if bit `k` is set. -/
def rankBit (mask k : Nat) : Option Nat := if mask.testBit k then some ((maskBits mask).filter fun i => decide (i < k)).length else none

/-- The physical Wing row of a logical Wing row (R25). -/
def Masks.physRow (m : Masks) (l : Nat) : Nat := match m.fence with | some f => if f ≤ l then l + 1 else l | none => l

/-- The logical Wing row of a physical Wing row; none for the fenced one (R25). -/
def Masks.logRow (m : Masks) (p : Nat) : Option Nat :=
  match m.fence with | some f => if p = f then none else if f < p then some (p - 1) else some p | none => some p

/-- The physical Room of a logical Room, as a physical Room index (R560). -/
def Masks.place (m : Masks) (room : Nat) : Nat :=
  let p := m.physRow (roomY room / 16)
  let w := 8 * p + roomX room / 16
  let r := roomY room % 16
  (18 * p + selBit (m.row w) r) * 144 + 18 * (roomX room / 16) + selBit (m.col w r) (roomX room % 16)

/-- The physical Wing of a physical Room (R17). -/
def physWing (p : Nat) : Nat := p / 144 / 18 * 8 + p % 144 / 18

/-- The logical Room at a physical Room, if one maps to it (R560). -/
def Masks.logical (m : Masks) (phys : Nat) : Option Nat :=
  let w := physWing phys
  match m.logRow (w / 8) with
  | none => none
  | some l =>
    match rankBit (m.row w) (phys / 144 % 18) with
    | none => none
    | some r =>
      match rankBit (m.col w r) (phys % 144 % 18) with
      | none => none
      | some c => if decide (r < 16) && decide (c < 16) && decide (phys < 20736) then some ((16 * l + r) * 128 + 16 * (w % 8) + c) else none

/-- A link between two logical Rooms that are neighbours in the grid: the Rooms passed over, the column offset of a vertical link, its DIAG code, and
whether it crosses a Wing seam (R57, R302, R562). -/
structure Link where
  skip : Nat
  diag : Nat
  seam : Bool
  deriving DecidableEq, Repr

/-- The logical neighbour on side N, E, S or W, where a link joins the two (R25, R561, R568). -/
def Masks.beside (m : Masks) (room d : Nat) : Option Nat :=
  let rows := if m.fence.isSome then 112 else 128
  let cut (y : Nat) : Bool := match m.fence with | some f => decide (y = 16 * f) | none => false
  match d with
  | 0 => if roomY room = 0 ∨ cut (roomY room) then none else some (room - 128)
  | 1 => if roomX room < 127 then some (room + 1) else none
  | 2 => if rows ≤ roomY room + 1 ∨ cut (roomY room + 1) then none else some (room + 128)
  | _ => if 0 < roomX room then some (room - 1) else none

/-- The distance between two numbers. -/
def gap (a b : Nat) : Nat := if a ≤ b then b - a else a - b

/-- The link on a side of a logical Room (R562). -/
def Masks.link (m : Masks) (room d : Nat) : Option Link :=
  match m.beside room d with
  | none => none
  | some n =>
    let p := m.place room
    let q := m.place n
    if d = 1 ∨ d = 3 then some ⟨gap (p % 144) (q % 144) - 1, 0, decide (roomX room / 16 ≠ roomX n / 16)⟩
    else
      some ⟨gap (p / 144) (q / 144) - 1, if q % 144 < p % 144 then 1 else if p % 144 < q % 144 then 2 else 0, decide (roomY room / 16 ≠ roomY n / 16)⟩

/-- HAL_LINK of a link (R302): EN, SKIP, DIAG and SEAM. -/
def linkWord : Option Link → W64
  | none => 0
  | some l => put 7 7 1 ||| put 6 5 l.skip ||| put 4 3 l.diag ||| put 2 2 (b2n l.seam)

/-- B + S + D of a link; 0xF where there is none (R57, R562). -/
def linkExtra : Option Link → Nat
  | none => 0xF
  | some l => (if l.seam then 4 else 1) + l.skip + (if l.diag = 0 then 0 else 1)

/-- The default entry of a router for a destination column or row: 0 HERE, 1 N, 2 E, 3 S, 4 W, 5 DROP (R287, R568). -/
def Masks.xtEntry (_m : Masks) (room x : Nat) : Nat := if roomX room < x then 2 else if x < roomX room then 4 else 0

/-- The default entry of a router for a destination row; rows beyond the fence and missing rows are dropped (R287, R568). -/
def Masks.ytEntry (m : Masks) (room y : Nat) : Nat :=
  let ovr : Bool := match m.fence with
    | some f => decide (112 ≤ y) || (decide (0 < f) && decide (f < 7) && (decide (y < 16 * f) != decide (roomY room < 16 * f)))
    | none => false
  if ovr then 5 else if roomY room < y then 3 else if y < roomY room then 1 else 0

end Sys2Proof.Machine
end

