-- ==== Sys2Proof/Machine/RoomTypes.lean ====
section
/-!
DEFINITION. The state of one Room beside its Bricks and register pages: loader, Shelf banks, schedules, Latches, Hearth, Dumbwaiter and
Stockpot port.
-/

namespace Sys2Proof.Machine

/-- The loader of a Room during a load (R180, R182): the next line to read and the number to read, the running SLOT_CHECK, the words read
so far newest first, the lane cycle of D once known, the slots whose SLOT_CHECK failed, whether this Room has abandoned the load, the lane cycle of
the last read with the lines read in it, and whether an injection failed a SLOT_CHECK. -/
structure Loader where
  slot  : Nat
  next  : Nat
  total : Nat
  crc   : W64
  words : List W64
  d     : Option Nat
  bad   : Nat
  gone  : Bool
  lastAt : Nat
  lines : Nat
  inj   : Bool
  deriving DecidableEq, Repr, Inhabited

/-- One Brick access waiting for its bank-step (R206, R208): requester code, bank, line index in the Shelf, words to read into registers
(register, byte offset in the Shelf), words to write (byte offset, word), byte-column reads of SLDT, the lane cycle of its bank-step,
whether it has lost an arbitration already, and the result it belongs to. -/
structure BankReq where
  who  : Nat
  bank : Nat
  line : Nat
  rd   : List (Nat × Nat)
  wr   : List (Nat × W64)
  cols : List (Nat × Nat × Nat)
  at_  : Nat
  lost : Bool
  void : Bool
  pid  : Nat
  deriving DecidableEq, Repr, Inhabited

/-- An entry of the bank schedule (R210). -/
structure SchedEnt where
  len   : Nat
  owner : Nat
  bank  : Nat
  start : Nat
  deriving DecidableEq, Repr, Inhabited

/-- An entry of the Hall slot table (R294). -/
structure SlotEnt where
  flits : Nat
  unit  : Nat
  start : Nat
  dst   : Nat
  deriving DecidableEq, Repr, Inhabited

/-- A check point expectation (R170, R194). -/
structure CheckPt where
  step   : Nat
  digest : W64
  use    : W64
  deriving DecidableEq, Repr, Inhabited

/-- Who waits on a Latch: a Brick, the Hearth with its destination register, a remote request with its endpoint, tag and Room, or the
command stream (R322, R325). -/
inductive Waiter where
  | brick (b : Nat)
  | hearth (room rd : Nat)
  | remote (slot src tag : Nat)
  | stream (suite : Nat)
  | chute (c : Nat)
  deriving DecidableEq, Repr, Inhabited

/-- A wait: its waiter, the generation awaited, the ET at which it expires, and its awaited set of PIDs (R322). -/
structure Wait where
  who  : Waiter
  gen  : Nat
  exp  : Nat
  early : Bool
  deriving DecidableEq, Repr, Inhabited

/-- One Latch: MASK, ARRIVED and EARLY as sets of PIDs, generation, counter value, flag and waiters (R317 to R322).  For a global Latch
ARRIVED and EARLY hold the remote indices and the Rooms are in the FLU pages (R328). -/
structure Latch where
  mask    : Nat
  arrived : Nat
  early   : Nat
  gen     : Nat
  value   : Nat
  flag    : Bool
  waits   : List Wait
  deriving DecidableEq, Repr, Inhabited

/-- A Latch with its state clear. -/
def Latch.clear : Latch := ⟨0, 0, 0, 0, 0, false, []⟩

/-- What blocks a Hearth: nothing, a remote reply, an Xhearth wait, or WFI (R242, R243, R265). -/
inductive HBlock where
  | no
  | reply
  | latch
  | dwWait (q idx exp rd : Nat)
  | exec (rd : Nat)
  | wfi
  deriving DecidableEq, Repr, Inhabited

/-- The Hearth: integer registers, pc, privilege mode, CSRs, LR reservation, instruction buffer and block state (R235, R237, R240). -/
structure Hearth where
  x       : SMap W64
  pc      : W64
  machine : Bool
  csr     : SMap W64
  resv    : Option (Nat × Nat)
  ibuf    : SMap (Nat × List W64)
  run     : Bool
  block   : HBlock
  cycle   : W64
  instret : W64
  deriving DecidableEq, Repr, Inhabited

/-- A Hearth after Room-domain power-on or reset: halted, registers and CSRs zero (R240, R582). -/
def Hearth.halted : Hearth :=
  { x := [], pc := 0, machine := true, csr := [], resv := none, ibuf := [], run := false, block := .no, cycle := 0, instret := 0 }

/-- A Dumbwaiter descriptor in progress (R219, R223, R224): ring index, words, first failure and its DETAIL, replies awaited, the fold, how far
it has come (0 reading a tile header, 1 reading, 2 every request issued), the reads (EA, bytes) in order, what has come back, the first read
that was uncorrectable, and whether the tile CHECK differed. -/
structure DwDesc where
  idx    : Nat
  words  : List W64
  status : Nat
  detail : Nat
  waits  : Nat
  fold   : W64
  phase  : Nat
  segs   : List (Nat × Nat)
  got    : SMap (List Byte)
  cut    : Option Nat
  chkBad : Bool
  deriving DecidableEq, Repr, Inhabited

/-- A delivery of a Stockpot in progress: the target it is at, whether that target has begun, the replies awaited, and for a KIND 1 target
whether it synchronises (1), waits for space (2) or has sent its message (3), with the ET of its first SYNC_REQ and of the next one, and whether the
target has refused a packet of it (R260, R261). -/
structure Delivery where
  pot   : Nat
  tgt   : Nat
  begun : Bool
  waits : Nat
  sync  : Nat
  first : Nat
  next  : Nat
  refused : Bool
  deriving DecidableEq, Repr, Inhabited

/-- A contribution held at the Stockpot port while a Stockpot delivers: Stockpot, first index, records, the packet that brought it, and whether the
adder's residue check will fail on it (R259, R415). -/
structure HeldPut where
  pot   : Nat
  first : Nat
  recs  : List W64
  pkt   : Option Pkt
  bad   : Bool
  deriving DecidableEq, Repr, Inhabited

/-- One Room.  Currents of the Damper cell are in 1/256 mA: `tick` counts the events of each class in the tick that runs, `tried` is the current of
the fires attempted in it, `share` and `limB` are the limits that slope and budget set, `withheld` tells whether budget (bit 0) or slope
(bit 1) withheld a fire, `lastFree` is the estimate of the last tick in which nothing was withheld, `iroom` and `ballast` are the last
tick's (R483, R485, R492, R497).  `busy` gives for each bank one more than the lane cycle of its last access (R205).
`slotCrc` holds the SLOT_CHECK of slots 0 to 3 as loaded, and at 4 to 6 the CRCs of the Hall slot table, the bank schedule and
the Damper-cell profile (R397).  `scrubClk` is the Suite cycle of the last scrub of its Shelf (R446). -/
structure RoomSt where
  hasArr   : Bool
  loader   : Option Loader
  sched    : List SchedEnt
  schedPer : Nat
  slots    : List SlotEnt
  slotPer  : Nat
  prof     : List (Nat × Nat)
  profPer  : Nat
  slotCrc  : SMap W64
  checks   : List CheckPt
  checkIdx : Nat
  quarters : Nat
  reqs     : List BankReq
  rr       : SMap Nat
  wbacks   : List Nat
  badLines : List Nat
  busy     : SMap Nat
  retiring : Option Nat
  darkCnt  : Nat
  latches  : SMap Latch
  hearth   : Hearth
  dw       : SMap (List DwDesc)
  deliv    : List Delivery
  held     : List HeldPut
  drain    : Nat
  resetAt  : Option Nat
  rstHalt  : Bool
  stage    : Nat
  tick     : SMap Nat
  tried    : Nat
  share    : Option Nat
  limB     : Option Nat
  withheld : Nat
  lastFree : Nat
  iroom    : Nat
  ballast  : Nat
  scrubClk : Nat
  deriving DecidableEq, Repr, Inhabited

/-- A Room after House reset. -/
def RoomSt.empty : RoomSt :=
  { hasArr := false, loader := none, sched := [], schedPer := 0, slots := [], slotPer := 0, prof := [], profPer := 0, slotCrc := [],
    checks := [], checkIdx := 0, quarters := 0, reqs := [], rr := [], wbacks := [], badLines := [], busy := [], retiring := none, darkCnt := 0,
    latches := [], hearth := .halted, dw := [], deliv := [], held := [], drain := 0, resetAt := none, rstHalt := false,
    stage := 0, tick := [], tried := 0, share := none, limB := none, withheld := 0, lastFree := 0, iroom := 0, ballast := 0, scrubClk := 0 }

end Sys2Proof.Machine
end

