-- ==== Sys2Proof/Machine/RimTypes.lean ====
section
/-!
DEFINITION. The state of the units on the rim of the wafer and of the module: Cellar controllers, Chutes, Eaves ports, Yazal contexts,
Sweep and restart, Survey, power, budgets, Porch and debug, as far as it is not in a register page.
-/

namespace Sys2Proof.Machine

/-- A Hall request on its way round the Eaves ring from a gateway to a Cellar controller: where, how many bytes, the data of a write, the
packet, and whether its stop has placed a reservation (R338, R341). -/
structure RingAcc where
  stack    : Nat
  off      : Nat
  len      : Nat
  data     : Option (List Byte)
  pkt      : Pkt
  reserved : Bool
  deriving DecidableEq, Repr, Inhabited

/-- A list entry a Chute has read: its list index and words, the tile header once read, the payloads in the stream buffer by packet number,
the packets injected, the check value of the tile bytes taken so far, and whether it has been judged for SCH injection (R345 to R349). -/
structure ChuEntry where
  idx   : Nat
  words : List W64
  hdr   : List Byte
  got   : SMap (List Byte)
  sent  : Nat
  sum   : W64
  sch   : Bool
  deriving DecidableEq, Repr, Inhabited

/-- A Larder session: bytes received and not consumed, the consumed and released offsets, the LIMIT of the last CREDIT with its ET, and the start
of the span being folded, the spans folded whole that await their CHECK, with their check values, and the bytes a restored Chute still has to
discard (R355 to R358, R460). -/
structure LarderSlot where
  buf    : List Byte
  cons   : Nat
  rel    : Nat
  limit  : Nat
  sentAt : Nat
  span   : Nat
  done   : List (Nat × W64)
  skip   : Nat
  deriving DecidableEq, Repr, Inhabited

/-- No session. -/
def LarderSlot.none : LarderSlot := ⟨[], 0, 0, 0, 0, 0, [], 0⟩

/-- A Chute: the entries read ahead, the outcome of its GATE once ended, whether it waits at one, its Larder sessions, the starvation in
progress (ET at which it began), the Suite cycle at which its stall was requested, whether the starvation has been reported, the
step at which each port T is free, and the injection steps of the packets found late at their check (R345, R349, R351, R353). -/
structure ChuSt where
  entries : List ChuEntry
  gating  : Bool
  gate    : Option Nat
  slots   : SMap LarderSlot
  starve  : Option Nat
  stalled : Option Nat
  told    : Bool
  busy    : SMap Nat
  late    : List Nat
  deriving DecidableEq, Repr, Inhabited

/-- A Chute that is disabled. -/
def ChuSt.empty : ChuSt := ⟨[], false, none, [], none, none, false, [], []⟩

/-- A sent Yazal packet awaiting acknowledgement: its SEQ, the port and ET of its last transmission, the retransmissions made, its flags, offset,
type and payload, and the descriptor it belongs to (R392). -/
structure YSent where
  seq   : Nat
  port  : Nat
  at_   : Nat
  tries : Nat
  cls   : Nat
  first : Bool
  last  : Bool
  off   : Nat
  mtype : Nat
  data  : List Byte
  desc  : Option Nat
  deriving DecidableEq, Repr, Inhabited

/-- A send descriptor in progress: its ring index, its words and the bytes already cut into packets; indices from 65,536 on are messages of the
Sweep unit, as 2^32 × buffer + 65,536 + number for a mirror, and from 2^33 on for a RETURN (R385, R387, R468, R476). -/
structure YDesc where
  idx   : Nat
  words : List W64
  cut   : Nat
  deriving DecidableEq, Repr, Inhabited

/-- Whether a descriptor is a message of the mirror of a buffer (R468). -/
def YDesc.mirrors (d : YDesc) (b : Nat) : Bool := decide (65536 ≤ d.idx) && decide (d.idx / 2 ^ 32 = b)

/-- A received packet that is not yet delivered: its flags, offset, type, payload, the arrival port, whether it has been placed or handed on, and
the placements awaiting acknowledgement (R389, R391). -/
structure YRecv where
  first  : Bool
  last   : Bool
  cls    : Nat
  off    : Nat
  mtype  : Nat
  data   : List Byte
  port   : Nat
  placed : Bool
  out    : Nat
  deriving DecidableEq, Repr, Inhabited

/-- A Yazal packet that has arrived: its port, whether it was CE-marked, its five header words and its payload (R383). -/
structure YIn where
  port  : Nat
  ce    : Bool
  words : List W64
  data  : List Byte
  deriving DecidableEq, Repr, Inhabited

/-- A RoCEv2 packet: opcode, QP, PSN, the fields of RETH and AETH, payload (R378). -/
structure RocePkt where
  op   : Nat
  qpn  : Nat
  psn  : Nat
  va   : Nat
  rkey : Nat
  len  : Nat
  synd : Nat
  data : List Byte
  deriving DecidableEq, Repr, Inhabited

/-- A stream context: configuration words 0 to 7 of R382 and its hardware state.

Sending: producer, fetch and consumer indices of the send queue, the descriptors in progress, the next SEQ, the packets awaiting
acknowledgement, engine-made CONTROL messages, the ET of the last progress and of the start of a wait for an empty spray set; congestion window
and ECN share in units of 2^-32, SRTT and RTTVAR in 2^-8 ET, recent RTTs with their ET, consecutive timeouts, ET of the last decrease and of the
last share, CE marks and packets acknowledged since, last port, losses and exclusions by port, ET of the last traffic, and the time the pace allows
the next packet.

Receiving: the cumulative SEQ, packets held, the next SEQ to deliver, acceptances not acknowledged with the time an ACK is due, the last TS, CE
marks, the message being assembled with its OFFSET, and the tail and count of a message ring. -/
structure YCtx where
  cfg     : List W64
  pi      : Nat
  fetch   : Nat
  ci      : Nat
  descs   : List YDesc
  seq     : Nat
  sent    : List YSent
  ctl     : List (Nat × List Byte)
  prog    : Nat
  heldAt  : Option Nat
  cwnd    : Nat
  alpha   : Nat
  srtt    : Nat
  rttvar  : Nat
  rtts    : List (Nat × Nat)
  backo   : Nat
  decAt   : Nat
  alphaAt : Nat
  ceSeen  : Nat
  ackSeen : Nat
  lastP   : Nat
  losses  : List (Nat × Nat)
  excl    : List (Nat × Nat)
  idle    : Nat
  paced   : Nat
  rcum    : Nat
  rgot    : SMap YRecv
  dseq    : Nat
  toAck   : Nat
  ackDue  : Option Nat
  lastTs  : Nat
  ce      : Nat
  asm     : List Byte
  asmOff  : Nat
  rtail   : Nat
  rseq    : Nat
  deriving DecidableEq, Repr, Inhabited

/-- A closed context: every word zero. -/
def YCtx.empty : YCtx :=
  { cfg := [], pi := 0, fetch := 0, ci := 0, descs := [], seq := 0, sent := [], ctl := [], prog := 0, heldAt := none, cwnd := 16 * 2 ^ 32
    alpha := 0, srtt := 0, rttvar := 0, rtts := [], backo := 0, decAt := 0, alphaAt := 0, ceSeen := 0, ackSeen := 0, lastP := 0, losses := []
    excl := [], idle := 0, paced := 0, rcum := 0, rgot := [], dseq := 0, toAck := 0, ackDue := none, lastTs := 0, ce := 0, asm := []
    asmOff := 0, rtail := 0, rseq := 0 }

/-- A roll call of a Suite: the digest taken, the ET at which it was sent, whether the predecessor's ROLL_CALL has been compared, the Wing
range of a bisection with its round, whether the roll call and a bisection are in progress, and a predecessor's digest that came before the
start (R399, R400). -/
structure RollCall where
  digest : W64
  sentAt : Nat
  got    : Bool
  lo     : Nat
  hi     : Nat
  round  : Nat
  active : Bool
  split  : Bool
  early  : Option W64
  deriving DecidableEq, Repr, Inhabited

/-- The image of one Room in a checkpoint (R459): its registers, Bricks, unit state and the powered part of its Shelf. -/
structure RoomImg where
  regs   : SMap W64
  bricks : SMap Brick
  unit   : RoomSt
  shelf  : SMap Byte
  crc    : W64
  deriving DecidableEq, Repr, Inhabited

/-- What a checkpoint holds of a Suite beside its Rooms: the run as the ARR registers show it, its global Latches and its Chutes (R459, R462). -/
structure SuiteImg where
  gen      : Nat
  et       : Nat
  step     : W64
  cycle    : W64
  now      : Nat
  mode     : Nat
  rate     : Nat
  seed     : W64
  runSteps : W64
  ended    : Bool
  stall    : SMap W64
  runs     : W64
  loadHdr  : List W64
  rooms    : SMap RoomImg
  latches  : SMap Latch
  chutes   : SMap ChuSt
  chuRegs  : SMap W64
  deriving DecidableEq, Repr, Inhabited

/-- The restart of a Suite: its state of R474, its failure cause, the ET of the detection, the clean ET that an INSP_FAIL set, the image being
restored, and whether RESUME has armed it (R474 to R478). -/
structure Restart where
  st    : Nat
  cause : Nat
  from_ : Nat
  clean : Option Nat
  img   : Option SuiteImg
  armed : Bool
  deriving DecidableEq, Repr

/-- Restart IDLE. -/
def Restart.idle : Restart := ⟨0, 0, 0, none, none, false⟩

/-- A copy of the Survey in module flash (R555): GEN, ORIGIN, KEY, powered hours, the Room records as the working
Survey holds them, the Wing records as register contents, and the retirement lists. -/
structure SurveyCopy where
  gen    : Nat
  origin : Nat
  key    : Nat
  phours : Nat
  init   : Option Nat
  weights : SMap W64
  recs   : SMap W64
  wings  : SMap W64
  masks  : Masks
  lists  : SMap W64
  deriving DecidableEq, Repr

/-- An installed inspection set: its VERSION and its entries, CLASS and CYCLES (R418). -/
structure InspSet where
  version : Nat
  entries : List (Nat × Nat)
  deriving DecidableEq, Repr

/-- A host-memory request of the engine awaiting its completion: the Hall packet it answers (R597). -/
structure HostReq where
  pkt  : Pkt
  addr : Nat
  sent : Bool
  deriving DecidableEq, Repr

/-- What module flash and fuses keep over House reset and power loss: Survey copies with the commit counter, DISTRUST, the powered hours, the
highest inspection VERSION and the set, the firmware versions of slots A and B with the least allowed one, and the source of the last
House reset (R419, R551, R556, R592). -/
structure Flash where
  survA    : Option SurveyCopy
  survB    : Option SurveyCopy
  scnt     : Nat
  distrust : Bool
  phours   : Nat
  inspMax  : Nat
  insp     : Option InspSet
  slotA    : Option Nat
  slotB    : Option Nat
  fwMin    : Nat
  lastRst  : Nat
  macs     : SMap W64
  deriving DecidableEq, Repr

/-- The Damper of a Wing, in 1/256 mA: floor, the target of a rise with the step it is prepared for, EST and EST_W of the last tick; the Suite cycle of the last tick; the ET until which the floor is
held (0 once that time has passed); and whether its Chimney is ready for the Suite's Stoke and whether it was late (R483 to R486, R493). -/
structure WingDmp where
  floor  : Nat
  target : Nat
  until_ : Nat
  est    : Nat
  estW   : Nat
  tickAt : Nat
  held   : Option Nat
  ready  : Bool
  late   : Bool
  deriving DecidableEq, Repr

/-- A Wing at rest. -/
def WingDmp.rest : WingDmp := ⟨0, 0, 0, 0, 0, 0, none, false, false⟩

/-- A Draught peer: COLD of its last STATUS with the ET it came at, the GIVE outstanding to it, and what is reserved for it (R502). -/
structure DrPeer where
  cold  : Nat
  at_   : Option Nat
  give  : Option Nat
  seq   : Nat
  resv  : Nat
  deriving DecidableEq, Repr

/-- A rate switch of a Suite: target rate, step, the Wings whose idle core has locked, how far it has come (1 slewing and locking, 3 its FREEZE issued,
with the start cycle in place of the step, 2 at its start cycle or behind it), and whether a RUN was in progress when it was accepted (R540, R541). -/
structure RateSw where
  rate  : Nat
  step  : Option Nat
  locks : List Nat
  phase : Nat
  live  : Bool
  deriving DecidableEq, Repr

/-- The test access port: the instruction in force, the boundary-scan cells as preloaded and as last captured, what the covered pins do
(0 their own work, 1 driven from the cells, 2 high impedance), and the two words of the DBGACC register, high word first (R625 to R627). -/
structure Jtag where
  ir    : Nat
  cells : Nat
  seen  : Nat
  drive : Nat
  acc   : W64 × W64
  deriving DecidableEq, Repr

/-- The test access port after TRST* or in Test-Logic-Reset: IDCODE is the instruction. -/
def Jtag.fresh : Jtag := ⟨2, 0, 0, 0, (0, 0)⟩

/-- The rim.

* `vinBad`: ET since which VIN is beyond a shutdown limit (R513); `powered`: the 48 V input feeds the module (R514);
* `flReq`: the Flue latency requirement measured at bring-up (R309);
* `suspects`: Suites marked suspect after the loss of a Flue message (R315);
* `hbMiss`: heartbeat periods missed in a row, by physical Room, hubs from 0x8000 on (R316);
* `remapping`: physical Wings whose tables a remap is changing (R42);
* `cellRemap`: page-remap entries, by 8192 × stack + entry (R449); `poison`: pages that stay uncorrectable, as 2^26 × stack + page (R439,
  R442); `watchAge`: the order in which watch entries were taken, by stack (R443); `scrubAt`: the next scrub read, by stack, and `scrubLate` the pages, with their stack, passed over while a channel retrains (R444);
* `retrCh`: Cellar channels in retraining, as 32 × stack + channel; `retrTry`: attempts made by channel, seams from 0x1000 on (R570);
  `outCh`: channels taken out by R453 or R427, which do not retrain;
* `ring`: accesses on the Eaves ring (R341); `chu`: Chutes (R345);
* `ctxs`: stream contexts (R380); `hot`: the contexts each home engine caches, least recently used first; `fills`: contexts being read from the
  store; `ctxWait`: Yazal packets that wait for one, and `roceWait` RoCEv2 packets with their port and CE mark (R381); `bells`: doorbell writes on their way, as block and word (R386);
* `trainTry`: training attempts failed in a row, by port, from 64 on the ET after that at which FEC degradation began, from 128 on the ET at which
  the attempt or the wait began, from 192 on 1 + the ET since when a port in step 6 has had a good BER estimate; `partMac`: MACs learned in training, by port (R371, R376); `pfc`: the ET at which the pause of a priority
  ends, by 8 × port + priority; `pfcFill`: how full a receive buffer was when last looked at, and `pfcOff` the buffers whose XOFF is out, by the same
  number; `txq`: frames a pause holds, as port, priority and bytes (R375);
  `rolls`: roll calls, by Suite (R399);
* `ckpts`: checkpoint images in the Cellar, by 2 × Suite + buffer, mirrors received from 0x100 on (R459, R468); `restarts`, by Suite (R474);
  `clean`: ET of the last clean inspection window, by physical Room (R421); `mirror`: mirrors that run, as 2 × Suite + buffer (R468, R470);
* `insp`: the installed inspection set and the one that replaces it at the next window boundary (R419); `testRef`: SEQ of the detection a
  self-test resolves; `quiet`: SEQs of the records marked INJECTED or HAND, which start no test; `struck`: Rooms given a strike in this restart (R424);
* `surv`: the words of the working Survey's Room records by 4096 × physical Room + offset, beside what `survInit` says of a record with nothing
  listed: rebuilt, with the IDLE that Porch firmware holds (R558, R559); `weights`: the DMP_WEIGHT image of each Wing record (R555); `mapOk`: a remap has been written since House reset; `rtTab`: the remap that the routing tables of a version were
  written from, none where they are as Corridor reset leaves them; `rtOver`: table words written one by one, by register key (R290, R554);
  `flip`: a flip and its ET: 1 written and not yet at its common cycle, 2 draining; `holdEla`: ELA injection is held (R290);
  `schOut`: the last SCH packet at a router output: lane cycle after its last flit, SRC, and TAG with ADDR (R295); `elaLast`: 1 + the input that last
  won a router output for ELA (R276); `slotAt`: 1 + the lane cycle of the
  last slot served, by Room (R295); `linkCnt`: packets that crossed a link, by 16 × Room + 8 × network + port (R413);
* `survNew`: the ET at which pending Survey changes commit; `badPend`: Rooms that become bad at the next remap stage (R558, R576);
  `stepPend`: suspect Rooms whose voltage or Fmax step waits until their Suite has halted (R426);
  `fenceAsk`: Wings to be fenced at the next remap stage, with their causes (R566);
* `dmp`: Wing Dampers, by physical Wing (R484); `enStart`: PWRW_ENERGY at the start of the power window, by Wing; `peers`: Draught peers (R502); `winEt`: start of the power window; `drEt`: start of the Draught period;
  `coldEt`: ET periods with an unsatisfied remote wait in it (R500);
* `flowLow`, `hotIn`: ET since which FLOW is low or T_IN high (R528); `coolBad`: coolant fault or leak not cleared; `senseLow`: ET since which
  a sense point is low, by 8 × Wing + point, from 4 on for the fault limit (R521); `energy`: rest of the energy count, by Wing (R530); `railTo`: RAIL a Chimney slews
  to, by Wing (R517); `flow`: last coolant samples (R526);
* `rateSw`: rate switches, by Suite (R541); `clkStop`: 1 + the ET at which the clock of a Wing stopped, by physical Wing (R539);
* `hostReqs`: host traffic (R597); `mgmt`: the address words of the management ports (R616); `bme`: Bus Master Enable; `msix`: 1 + the ET at which the hold-off of a source ends; `msiWait`: sources whose vector waits for that (R609); `gpio`: levels
  of the GPIO pins; `timers`: Porch timers; `jtag`; `staging`: the recovery image in the staging SRAM, by word (R598); `dbgLast`,
  `dbgMatch`: the last observed sample and whether it matched (R621, R623); `dbgImgs`: images of debug Sweeps, by EA, with their Room (R624); `pinLow`: RESET# is held low (R633); `refGone`: CLK_REF_LOST has been raised since House reset (R633);
  `pchsBusy`: the Suite that a DEFINE is powering (R612); `msixTab`: the words of the MSI-X table; `pba`: vectors pending in it; `told`: sources
  that were pending when they were last looked at (R594, R609); `flash`. -/
structure Rim where
  vinBad    : Option Nat
  powered   : Bool
  flReq     : Nat
  suspects  : Nat
  hbMiss    : SMap Nat
  cellRemap : SMap W64
  poison    : List Nat
  watchAge  : SMap (List Nat)
  scrubAt   : SMap Nat
  scrubLate : List Nat
  remapping : List Nat
  retrCh    : List Nat
  retrTry   : SMap Nat
  outCh     : List Nat
  ring      : List RingAcc
  chu       : SMap ChuSt
  ctxs      : SMap YCtx
  hot       : SMap (List Nat)
  fills     : List Nat
  ctxWait   : List YIn
  roceWait  : List (Nat × Bool × RocePkt)
  bells     : List (Nat × W64)
  partMac   : SMap Nat
  txq       : List (Nat × Nat × List Byte)
  trainTry  : SMap Nat
  pfc       : SMap Nat
  pfcFill   : SMap Nat
  pfcOff    : List Nat
  rolls     : SMap (Option RollCall)
  ckpts     : SMap (Option SuiteImg)
  restarts  : SMap Restart
  clean     : SMap Nat
  mirror    : List Nat
  insp      : Option InspSet
  inspNew   : Option InspSet
  testRef   : Nat
  quiet     : List Nat
  struck    : List Nat
  surv      : SMap W64
  survInit  : Option Nat
  weights   : SMap W64
  mapOk     : Bool
  rtTab     : SMap (Option Masks)
  rtOver    : SMap (Option W64)
  flip      : Nat × Nat
  schOut    : SMap (Nat × Nat × Nat)
  elaLast   : SMap Nat
  slotAt    : SMap Nat
  linkCnt   : SMap Nat
  holdEla   : Bool
  survNew   : Option Nat
  badPend   : List Nat
  stepPend  : List Nat
  fenceAsk  : SMap Nat
  dmp       : SMap WingDmp
  enStart   : SMap Nat
  peers     : SMap DrPeer
  winEt     : Nat
  drEt      : Nat
  coldEt    : Nat
  flowLow   : Option Nat
  hotIn     : Option Nat
  coolBad   : Bool
  senseLow  : SMap (Option Nat)
  energy    : SMap Nat
  railTo    : SMap Nat
  flow      : List (Nat × Nat × Nat)
  rateSw    : SMap (Option RateSw)
  clkStop   : SMap Nat
  hostReqs  : List HostReq
  mgmt      : W64 × W64
  bme       : Bool
  msix      : SMap Nat
  gpio      : Nat
  timers    : SMap Nat
  jtag      : Jtag
  staging   : SMap W64
  dbgLast   : W64
  dbgMatch  : Bool
  dbgImgs   : SMap (Option (Nat × RoomImg))
  pinLow    : Bool
  refGone   : Bool
  pchsBusy  : Option Nat
  msiWait   : List Nat
  msixTab   : SMap W64
  pba       : List Nat
  told      : List Nat
  flash     : Flash
  deriving DecidableEq, Repr

/-- Module flash with nothing in it. -/
def Flash.blank : Flash := ⟨none, none, 0, false, 0, 0, none, none, none, 0, 0, []⟩

/-- The rim after House reset, around what flash holds. -/
def Rim.fresh (f : Flash) : Rim :=
  { vinBad := none, powered := true, flReq := 128, suspects := 0, hbMiss := [], cellRemap := [], poison := [], watchAge := [], scrubAt := [], scrubLate := [], remapping := [], retrCh := [], retrTry := []
    outCh := [], ring := [], chu := [], ctxs := [], hot := [], fills := [], ctxWait := [], roceWait := [], pfcFill := [], pfcOff := [], bells := [], partMac := [], txq := []
    trainTry := [], pfc := [], rolls := [], ckpts := [], restarts := [], clean := []
    mirror := [], insp := none, inspNew := none, testRef := 0xFFFFFFFF, quiet := [], struck := [], surv := [], survInit := none, weights := [], mapOk := false, rtTab := [],
    rtOver := [], flip := (0, 0), schOut := [], elaLast := [], slotAt := [], linkCnt := [], holdEla := false, survNew := none, badPend := [], stepPend := [], fenceAsk := []
    dmp := [], enStart := [], peers := [], winEt := 0, drEt := 0, coldEt := 0, flowLow := none, hotIn := none, coolBad := false
    senseLow := [], energy := [], railTo := [], flow := [], rateSw := [], clkStop := [], hostReqs := [], mgmt := (0, 0), bme := false, msix := [], gpio := 0
    timers := [], jtag := .fresh, staging := [], dbgLast := 0, dbgMatch := true, dbgImgs := [], pinLow := false, refGone := false, pchsBusy := none,
    msiWait := [], msixTab := [], pba := [], told := [], flash := f }

/-- The rim after House reset of a module with blank flash. -/
def Rim.empty : Rim := Rim.fresh .blank

end Sys2Proof.Machine
end

