-- ==== Sys2Proof/Machine/SuiteTypes.lean ====
section
/-!
DEFINITION. The state of a Suite: its Wings, its run, its stalls and halts, its load in progress and its command stream entry.
-/

namespace Sys2Proof.Machine

/-- A freeze window of a Suite: cause c of R190, first frozen Suite cycle, first cycle after it if known, and the source that opened
it (R188). -/
structure StallWin where
  cause : Nat
  src   : Nat
  start : Nat
  stop  : Option Nat
  deriving DecidableEq, Repr

/-- A stall request or a release on its way to the stall master: cause, source, length (0 for an open stall), release or not, and the
Suite cycle at which it reaches the master (R188, R308). -/
structure StallReq where
  cause   : Nat
  src     : Nat
  len     : Nat
  release : Bool
  at_     : Nat
  deriving DecidableEq, Repr

/-- A FREEZE or RELEASE the master has issued: the named cycle (R188, R310). -/
structure FlueMsg where
  release : Bool
  cause   : Nat
  src     : Nat
  len     : Nat
  cycle   : Nat
  deriving DecidableEq, Repr

/-- A HALT sent toward the stall master: detection cycle, origin Room and page slot, incident code, and the ET of the
detection (R311, R314, R472). -/
structure HaltReq where
  t    : Nat
  room : Nat
  slot : Nat
  code : Nat
  et   : Nat
  deriving DecidableEq, Repr

/-- A load of the Suite: slot 0 to 3, or 15 for a full load; the options; the Suite lane cycle of C and the step C of the entry; the
header words; the lowest refusal cause found; how far it has come: 0 waiting for C, 1 checked, 2 refusals reduced to the lead Room,
3 reading; and the Rooms that a reset has taken out of it (R178 to R180, R185). -/
structure LoadSt where
  slot    : Nat
  purge   : Bool
  preset  : Bool
  c       : Nat
  cstep   : Nat
  hdr     : List W64
  refused : Option Nat
  phase   : Nat
  out     : List Nat
  deriving DecidableEq, Repr

/-- An entry of the command stream: its words, none where its fetch failed; its progress: 0 fetched, 1 issued or being performed, 2 waiting,
3 a wait ended with outcome `t0`; the lane cycle at which a LOAD starts; and the register that CS.EXEC returns in, where the Hearth performs
it (R242, R244). -/
structure CsEntry where
  words  : List W64
  prog   : Nat
  t0     : Nat
  hearth : Option Nat   -- the register of the CS.EXEC that waits; 32 where it has been abandoned
  deriving DecidableEq, Repr

/-- A STOKE handed to the Damper: engine time of t₀, lead and hold times, LEVEL, and its state: 1 pending, 2 active, 3 late (R493). -/
structure StokeSt where
  t0    : Nat
  lead  : Nat
  level : Nat
  st    : Nat
  late  : Bool
  deriving DecidableEq, Repr

/-- A Sweep of a Suite: 0 none, 1 hold requested, 2 in HOLD waiting for quiescence, 3 writing images, 4 to be released, 5 in an inspection
window, 6 halting after a window that failed, 7 restored and held; the steps executed at which HOLD begins, the ET at which it began, the quiescence limit in µs, WINDOW, MIRROR and
TAG of the request, the buffer and generation written, whether it is a pre-emption, and the Suite cycle of the release (R464, R465, R471,
R476). -/
structure SweepSt where
  st      : Nat
  step    : W64
  et0     : Nat
  limit   : Nat
  window  : Bool
  mirror  : Bool
  tag     : Nat
  buf     : Nat
  gen     : Nat
  preempt : Bool
  rel     : Option Nat
  deriving DecidableEq, Repr

/-- No Sweep. -/
def SweepSt.none : SweepSt := ⟨0, 0, 0, 0, false, false, 0, 0, 0, false, .none⟩

/-- One Suite (R26, R29).  `haltNow` is the lane cycle at which a halt froze the lanes, until the next RUN (R312).  For the Damper: power windows closed since RUN start, the entries of the Suite profile known (START, LEVEL), θ_s in 1/64 with
the Suite cycle of the next BUDGET run, and thermal throttling with the length of its run, the cycle of the next one and θ_T in tenths (R490,
R495, R497, R504). -/
structure Suite where
  nwx      : Nat
  nwy      : Nat
  sex      : Nat
  sey      : Nat
  mode     : Nat
  run      : Nat
  rate     : Nat
  phase    : Nat
  clk      : Nat
  now      : Nat
  step     : W64
  cycle    : W64
  runSteps : W64
  ended    : Bool
  seed     : W64
  stall    : SMap W64
  runs     : W64
  frozenL  : Bool
  wins     : List StallWin
  reqs     : List StallReq
  msgs     : List FlueMsg
  lastIss  : Nat
  halts    : List HaltReq
  haltAt   : Option (Nat × HaltReq)
  haltNow  : Option Nat
  load     : Option LoadSt
  loadHdr  : List W64
  entries  : List CsEntry
  fetched  : Nat
  regMsgs  : List (Nat × W64)
  stoke    : List StokeSt
  sweep    : SweepSt
  prog     : Nat
  runCnt   : Nat
  lastET   : Nat
  winCnt   : Nat
  prof     : List (Nat × Nat)
  theta    : Nat
  budNext  : Nat
  thermOn  : Bool
  thermPer : Nat
  thermNext : Nat
  thetaT   : Nat
  inReset  : Bool
  ckHalt   : Bool
  rateReq  : Option (Nat × Nat)
  busy     : List Nat
  deriving DecidableEq, Repr

/-- A Suite just defined over the rectangle of Wings from the NW to the SE corner, at the nominal rate 48 (R26, R200). -/
def Suite.fresh (nwx nwy sex sey : Nat) : Suite :=
  { nwx, nwy, sex, sey, mode := 0, run := 0, rate := 48, phase := 0, clk := 0, now := 0, step := 0, cycle := 0, runSteps := 0,
    ended := false, seed := 0, stall := [], runs := 0, frozenL := false, wins := [], reqs := [], msgs := [], lastIss := 0,
    halts := [], haltAt := none, haltNow := none, load := none, loadHdr := [], entries := [], fetched := 0, regMsgs := [], stoke := [], sweep := .none, prog := 0,
    runCnt := 0, lastET := 0, winCnt := 0, prof := [], theta := 0, budNext := 0, thermOn := false, thermPer := 0, thermNext := 0, thetaT := 0,
    inReset := false, ckHalt := false, rateReq := none, busy := [] }

/-- Whether a window freezes Suite cycle `c` (R188). -/
def StallWin.covers (w : StallWin) (c : Nat) : Bool :=
  decide (w.start ≤ c) && (match w.stop with | some e => decide (c < e) | none => true)

/-- The lowest cause that freezes Suite cycle `c` (R190). -/
def Suite.freezeCause (u : Suite) (c : Nat) : Option Nat :=
  ((u.wins.filter fun w => w.covers c).map StallWin.cause).min?

/-- Whether a load has reached its start step C and not yet its effective step in every Room (R185). -/
def Suite.loading (u : Suite) : Bool := match u.load with | some l => decide (l.c ≤ u.now) | none => false

/-- Whether the Suite is in HOLD: a Sweep requested during a load waits until D (R185, R465). -/
def Suite.holding (u : Suite) : Bool :=
  decide (2 ≤ u.sweep.st) || (decide (u.sweep.st = 1) && decide (u.sweep.step.toNat ≤ u.step.toNat) && !u.loading)

/-- Whether the Suite's current cycle executes no step: a freeze window covers it, or the Suite is in HOLD (R188, R465). -/
def Suite.frozen (u : Suite) : Bool := (u.freezeCause u.clk).isSome || u.holding

/-- Whether the current cycle lies after the halt cycle H of a broadcast HALT (R311, R312). -/
def Suite.pastHalt (u : Suite) : Bool := match u.haltAt with | some (h, _) => decide (h < u.clk) | none => false

/-- Whether the lanes of the Suite move: in no stall step and no HOLD, and not from the halt of a Suite until its next RUN (R189, R312, R313). -/
def Suite.lanesMove (u : Suite) : Bool :=
  !(decide (u.run = 2) && u.frozen) && !u.pastHalt && decide (u.run ≠ 4) && u.haltNow.isNone

/-- The lane cycle that the lanes of the Suite stand at (R312). -/
def Suite.laneNow (u : Suite) : Nat := u.haltNow.getD u.now

/-- Whether the Suite holds a running, unfrozen RUN whose Bricks may issue (R186, R189, R312). -/
def Suite.issuing (u : Suite) : Bool :=
  decide (u.run = 2) && !u.ended && !u.frozen && !u.pastHalt

end Sys2Proof.Machine
end

