-- ==== Sys2Proof/Machine/State.lean ====
section
/-!
DEFINITION. The state of the engine, the ways a step can stop, and the state after reset.
-/

namespace Sys2Proof.Machine

/-- No command of this block ends in a fault: what the spec describes as an error of the engine is an event, a refusal of an access
or a halt of a Suite, each of which is a next state.  The type has no constructor. -/
inductive Fault where
  deriving DecidableEq, Repr

/-- Why a command has no meaning. -/
inductive Refusal where
  /-- Raised by the dispatch for a command whose meaning has not been written; safe: the model stops and claims nothing. -/
  | notModelled (mnemonic : String)
  deriving DecidableEq, Repr

/-- The engine.  Every field is plain data.

* `et`, `etPhase`: engine time ET in 6.4 ns periods and its fraction (R308);
* `regs`: register pages, keyed by `regKey`; an unlisted register reads as its reset value (R10);
* `armed`: one-shot injections armed, by page (R79); `injLat`: EVENT bits latched by an injected occurrence, by page (R602);
* `mem`: the bytes of the engine address space, Shelf and Cellar, by EA (R34);
* `bricks`, `rooms`, `suites`: by 64 × Room + Brick, by logical Room index, by Suite ID;
* `glatch`: global Flue Latches (R317);
* `pkts`, `outst`, `nextTag`: packets in the Hall, requests awaiting replies (R277, R279);
* `flying`, `collector`, `incSeq`: incident records on their way, in the collector, and the next SEQ (R428, R429);
* `remap`: the remap table (R23, R560, R564);
* `c24`: the ordering code is IQW2-C24-L (R3);
* `rim`: Cellar, Chutes, Eaves, Yazal, Porch and the rest outside the compute square;
* `out`: messages sent out of the engine, oldest first; `busData`: the value answered to the last requester;
* `free`: the model's own counter of open values drawn; it is no state of the hardware;
* `pending`: commands waiting, first in first out. -/
structure State where
  et        : Nat
  etPhase   : Nat
  regs      : SMap W64
  armed     : SMap W64
  injLat    : SMap W64
  mem       : List Host.Cell
  bricks    : SMap Brick
  rooms     : SMap RoomSt
  suites    : SMap (Option Suite)
  glatch    : SMap Latch
  pkts      : List Flight
  outst     : List Outst
  nextTag   : Nat
  flying    : List Incident
  collector : List Incident
  incSeq    : Nat
  remap     : Masks
  c24       : Bool
  rim       : Rim
  out       : List OutMsg
  busData   : W64
  free      : Nat
  pending   : List Instr
  deriving DecidableEq, Repr

/-- The engine right after House reset, before bring-up (R550, R588): every register at its reset value, no Suite, memory with nothing
listed, nothing in flight and no command waiting. -/
def State.reset : State :=
  { et := 0, etPhase := 0, regs := [], armed := [], injLat := [], mem := [], bricks := [], rooms := [], suites := [], glatch := [],
    pkts := [], outst := [], nextTag := 0, flying := [], collector := [], incSeq := 0, remap := .whole, c24 := false, rim := .empty,
    out := [], busData := 0, free := 0, pending := [] }

end Sys2Proof.Machine
end

