-- ==== Sys2Proof/Machine/Ops.lean ====
section
/-!
DEFINITION. The named operations over the state: registers, memory, Rooms, Suites, events, halts, incident records and requests.
-/

namespace Sys2Proof.Machine

/-! ### Registers -/

/-- What a register of a page holds. -/
def State.rd (s : State) (p : PageRef) (off : Nat) : W64 := smGet (regReset p.page off) s.regs (regKey p off)

/-- A register of a page set by the hardware. -/
def State.wr (s : State) (p : PageRef) (off : Nat) (v : W64) : State :=
  { s with regs := smSet (regReset p.page off) s.regs (regKey p off) v }

/-- Registers put in place by key, as a restored image or a kept flash holds them. -/
def putRegs (m : SMap W64) (l : List (Nat × W64)) : SMap W64 := l.foldl (fun (t : SMap W64) (e : Nat × W64) => smSet (keyReset e.1) t e.1 e.2) m

/-- A field of a register. -/
def State.rdF (s : State) (p : PageRef) (off hi lo : Nat) : Nat := fld (s.rd p off) hi lo

/-- A field of a register set by the hardware. -/
def State.wrF (s : State) (p : PageRef) (off hi lo v : Nat) : State := s.wr p off (setFld (s.rd p off) hi lo v)

/-- A saturating counter field of a register. -/
def State.bump (s : State) (p : PageRef) (off hi lo n : Nat) : State := s.wr p off (bumpFld (s.rd p off) hi lo n)

/-- A page of a Room. -/
def rp (pg : Page) (room : Nat) : PageRef := ⟨pg, room⟩

/-- An engine-global page with one instance. -/
def gp (pg : Page) : PageRef := ⟨pg, 0⟩

/-- The key of a page as a whole. -/
def pageKey (p : PageRef) : Nat := regKey p 0

/-! ### Bricks, Rooms and Suites -/

/-- The key of Brick `b` of a Room. -/
def brickKey (room b : Nat) : Nat := room * 64 + b % 64

/-- A Brick. -/
def State.brick (s : State) (room b : Nat) : Brick := smGet .empty s.bricks (brickKey room b)

/-- A Brick replaced. -/
def State.setBrick (s : State) (room b : Nat) (x : Brick) : State := { s with bricks := smSet .empty s.bricks (brickKey room b) x }

/-- A Room. -/
def State.room (s : State) (r : Nat) : RoomSt := smGet .empty s.rooms r

/-- A Room replaced. -/
def State.setRoom (s : State) (r : Nat) (x : RoomSt) : State := { s with rooms := smSet .empty s.rooms r x }

/-- A Suite, if it is defined. -/
def State.suite (s : State) (i : Nat) : Option Suite := smGet none s.suites i

/-- A Suite replaced. -/
def State.setSuite (s : State) (i : Nat) (u : Suite) : State := { s with suites := smSet none s.suites i (some u) }

/-- A change made to a Suite, if it is defined. -/
def State.modSuite (s : State) (i : Nat) (f : Suite → Suite) : State :=
  match s.suite i with
  | some u => s.setSuite i (f u)
  | none => s

/-- A change made to a Room. -/
def State.modRoom (s : State) (r : Nat) (f : RoomSt → RoomSt) : State := s.setRoom r (f (s.room r))

/-- A change made to a Brick. -/
def State.modBrick (s : State) (r b : Nat) (f : Brick → Brick) : State := s.setBrick r b (f (s.brick r b))

/-- The logical Wing of a logical Room: wing_x and wing_y (R8). -/
def wingXY (r : Nat) : Nat × Nat := (roomX r / 16, roomY r / 16)

/-- Whether a Suite's rectangle holds a logical Wing (R26). -/
def Suite.hasWing (u : Suite) (wx wy : Nat) : Bool :=
  decide (u.nwx ≤ wx) && decide (wx ≤ u.sex) && decide (u.nwy ≤ wy) && decide (wy ≤ u.sey)

/-- The first defined Suite that satisfies `f`. -/
def findSuite (f : Suite → Bool) : SMap (Option Suite) → Option Nat
  | [] => none
  | (i, some u) :: m => if f u then some i else findSuite f m
  | (_, none) :: m => findSuite f m

/-- The Suite that owns a logical Wing (R26). -/
def State.suiteOfWing (s : State) (wx wy : Nat) : Option Nat := findSuite (fun u => u.hasWing wx wy) s.suites

/-- The Suite that owns a logical Room. -/
def State.suiteOf (s : State) (r : Nat) : Option Nat := s.suiteOfWing (wingXY r).1 (wingXY r).2

/-- The lead Room of a Suite (R29). -/
def Suite.lead (u : Suite) : Nat := u.nwy * 16 * 128 + u.nwx * 16

/-- Whether a Room lies in a Suite's rectangle. -/
def Suite.hasRoom (u : Suite) (r : Nat) : Bool := u.hasWing (wingXY r).1 (wingXY r).2

/-- The logical Rooms of a Suite, in order of Suite-relative index (R169). -/
def Suite.rooms (u : Suite) : List Nat :=
  let w := (u.sex + 1 - u.nwx) * 16
  (List.range (w * ((u.sey + 1 - u.nwy) * 16))).map fun i => (u.nwy * 16 + i / w) * 128 + u.nwx * 16 + i % w

/-- The logical Wings of a Suite. -/
def Suite.wings (u : Suite) : List (Nat × Nat) :=
  let w := u.sex + 1 - u.nwx
  (List.range (w * (u.sey + 1 - u.nwy))).map fun i => (u.nwx + i % w, u.nwy + i / w)

/-- Whether a Suite as a whole has an arrangement loaded: every Room of it holds one (R582). -/
def State.suiteLoaded (s : State) (u : Suite) : Bool := decide (u.run = 5) || (decide (u.run ≠ 0) && u.rooms.all fun r => (s.room r).hasArr)

/-- Whether a Room is its Suite's lead Room. -/
def State.isLead (s : State) (r : Nat) : Bool :=
  match s.suiteOf r with
  | some i => (match s.suite i with | some u => decide (u.lead = r) | none => false)
  | none => false

/-- The physical Room a logical Room maps to (R23). -/
def State.physOf (s : State) (r : Nat) : Nat := s.remap.place r

/-- The logical Room at a physical Room, once a remap has been written and one maps to it (R560, R572). -/
def State.logicalOf (s : State) (p : Nat) : Option Nat := if s.rim.mapOk then s.remap.logical p else none

/-- The physical Wing of a logical Room. -/
def State.wingOf (s : State) (r : Nat) : Nat := physWing (s.physOf r)

/-- Whether the Room domain is on: PWR_ROOM.STATE is ON (R19, R529). -/
def State.roomOn (s : State) (r : Nat) : Bool := s.rdF (rp .pwr r) 0x080 63 61 = 2

/-- Whether a Room's pages of the Room domain read as a dark Room's: off, or draining or held in reset (R22, R581).
A Room whose reset still waits for its Suite to halt is not yet dark. -/
def State.dark (s : State) (r : Nat) : Bool := !s.roomOn r || (decide (s.rdF (rp .rst r) 0x088 63 61 ≠ 0) && !(s.room r).rstHalt)

/-- FL, the Suite-scope Flue latency (R309). -/
def State.fl (s : State) : Nat := s.rdF (gp .flug) 0x080 15 0

/-- The step of a stepped RUN, or the Suite cycle otherwise, as the WHERE_STEP registers hold (R76, R198). -/
def Suite.whereStep (u : Suite) : W64 := if u.mode = 0 then u.step else u.cycle

/-- The same for a Room. -/
def State.whereStep (s : State) (r : Nat) : W64 :=
  match s.suiteOf r with
  | some i => (match s.suite i with | some u => u.whereStep | none => 0)
  | none => 0

/-- The value for the WHERE_STEP of a HAL page: the step in a stepped RUN, the Suite cycle outside one (R301). -/
def State.halStep (s : State) (r : Nat) : W64 :=
  match (s.suiteOf r).bind s.suite with
  | some u => if u.mode = 0 ∧ (u.run = 2 ∨ u.run = 3) then u.step else u.cycle
  | none => 0

/-! ### Injections, events, captures -/

/-- Whether the one-shot injection `bit` of a page is armed (R79). -/
def State.isArmed (s : State) (p : PageRef) (bit : Nat) : Bool := tst (smGet 0 s.armed (pageKey p)) bit

/-- An injection that has acted is disarmed (R79). -/
def State.disarm (s : State) (p : PageRef) (bit : Nat) : State :=
  { s with armed := smSet 0 s.armed (pageKey p) (clrBit (smGet 0 s.armed (pageKey p)) bit) }

/-- Whether a Porch peripheral's page is gated (R544). -/
def State.gated (s : State) (p : PageRef) : Bool :=
  match p.page with
  | .peri => !tst (s.rd (gp .clkg) 0x090) p.inst
  | .gpio => !tst (s.rd (gp .clkg) 0x090) 2
  | .tim => !tst (s.rd (gp .clkg) 0x090) 3
  | .dbg => !tst (s.rd (gp .clkg) 0x090) 9
  | _ => false

/-- The page slot of a Room page (R40); 0xF for any other, as the incident record holds it (R428). -/
def Page.slot : Page → Nat
  | .brk | .srv => 0 | .arr => 1 | .shf => 2 | .dwt => 3 | .hrt => 4 | .chn => 5 | .stp => 6 | .lch => 7 | .ecc => 8
  | .swp => 9 | .dmp => 10 | .hal => 11 | .flu => 12 | .cvu => 13 | .pwr => 14 | _ => 15

/-- The BAR0 offset of a page divided by 0x1000 (R38, R39, R605). -/
def PageRef.bar0Page (p : PageRef) : Nat :=
  match p.page with
  | .pch => 0 | .pchs => 1 | .pche => 2 | .peri => 0x10 + p.inst | .gpio => 0x12 | .tim => 0x13 | .halg => 0x100 | .flug => 0x101 | .lchg => 0x102 + p.inst
  | .cel => 0x200 + p.inst | .chu => 0x300 + p.inst | .eav => 0x400 + p.inst | .yzl => 0x500 + p.inst | .yzlg => 0x580
  | .cvug => 0x600 | .cvux => 0x610 + p.inst | .eccc => 0x700 + p.inst | .eccg => 0x780 | .swpg => 0x800 | .dmpg => 0x880
  | .pwrg => 0x900 | .clkg => 0x980 | .srvg => 0xA00 | .rstg => 0xA80 | .dbg => 0xB00
  | .clkw => 0x1000 + 16 * p.inst | .pwrw => 0x1001 + 16 * p.inst | .dmpw => 0x1002 + 16 * p.inst
  | .srvw => 0x1003 + 16 * p.inst | .halw => 0x1004 + 16 * p.inst
  | .srv => 0x80000 + 16 * p.inst
  | pg => if p.inst < 0x8000 then 0x40000 + 16 * p.inst + pg.slot else 0x80000 + 16 * (p.inst - 0x8000) + pg.slot

/-- Whether a BAR0 page number names a page, in either of a Room's windows (R40, R41). -/
def State.namesPage (s : State) (p : PageRef) (n : Nat) : Bool :=
  decide (n = p.bar0Page) || (p.page.inRoom && decide (p.page.slot ≠ 0) && decide (p.inst < 0x8000) && decide (n = 0x80000 + 16 * s.physOf p.inst + p.page.slot))

/-- The names of the trigger pins (R623). -/
def trigName (i : Nat) : String := if i = 0 then "TRIG0" else "TRIG1"

/-- Trigger outputs of KIND EVENT pulse when their event is raised, unless debug access is locked or the multiplexer gated (R622, R623). -/
def State.trigEvent (s : State) (p : PageRef) (bit : Nat) : State :=
  if tst (s.rd (gp .pch) 0x0B0) 0 || !tst (s.rd (gp .clkg) 0x090) 9 then s
  else
    (List.range 2).foldl (fun (s : State) i =>
      let w := s.rd (gp .dbg) (0x0A0 + 8 * i)
      if fld w 63 62 = 1 ∧ fld w 37 32 = bit ∧ s.namesPage p (fld w 19 0) then { s with out := s.out ++ [.pin (trigName i) 1] } else s) s

/-- An event raised in a page: its EVENT bit, the count and LAST, and the mark of an injected occurrence (R602 to R604). -/
def State.raise (s : State) (p : PageRef) (bit : Nat) (injected : Bool) : State :=
  if s.gated p then s
  else
    let s := (s.trigEvent p bit).wr p 0x028 (setBit (s.rd p 0x028) bit)
    let s := s.wr p 0x040 (setFld (bumpFld (s.rd p 0x040) 31 0 1) 39 32 bit)
    if injected then { s with injLat := smSet 0 s.injLat (pageKey p) (setBit (smGet 0 s.injLat (pageKey p)) bit) } else s

/-- A WHERE register captures the first event after it was re-armed (R76). -/
def State.capture (s : State) (p : PageRef) (off : Nat) (v : W64) : State :=
  if tst (s.rd p off) 31 then s else s.wr p off (setBit v 31)

/-- A WHERE register with the register beside it that holds the step (R76, R198). -/
def State.captureStep (s : State) (p : PageRef) (off : Nat) (v : W64) (soff : Nat) (step : W64) : State :=
  if tst (s.rd p off) 31 then s else (s.wr p off (setBit v 31)).wr p soff step

/-- An incident record sent to the collector (R412, R428).  Its SEQ is given when it arrives (R429). -/
def State.record (s : State) (p : PageRef) (cause kind : Nat) (injected hand halt : Bool) (suite : Nat) (ref : Nat) (detail : W64) : State :=
  let inRoom := p.page.inRoom
  { s with
    flying := s.flying ++
      [{ code := p.page.cls * 256 + cause, kind, injected, hand, halt, suite, slot := if inRoom then p.page.slot else 15, seq := 0
         et := s.et, ref, global := !inRoom
         whereAt := if inRoom then (if p.page = .srv then p.inst else if p.inst < 0x8000 then s.physOf p.inst else p.inst - 0x8000) else p.bar0Page, detail }] }

/-- REF of a record that resolves none (R428). -/
def noRef : Nat := 0xFFFFFFFF

/-- HALT sent to a Suite's stall master in the Suite's present cycle (R311); a Suite with no arrangement or already halted takes none. -/
def State.sendHalt (s : State) (i : Nat) (room slot code : Nat) : State :=
  s.modSuite i fun u => if u.run = 4 then u else { u with halts := u.halts ++ [⟨u.clk, room, slot, code, s.et⟩] }

/-- The Suite ID of a Room, 0 where no Suite owns it. -/
def State.suiteId (s : State) (r : Nat) : Nat := (s.suiteOf r).getD 0

/-- An event of a Room page that halts the Room's Suite, with its incident record (R311, R412). -/
def State.hitHalt (s : State) (pg : Page) (room bit cause : Nat) (injected : Bool) (detail : W64) : State :=
  let s := s.raise (rp pg room) bit injected
  let s := s.record (rp pg room) cause 1 injected false true (s.suiteId room) noRef detail
  match s.suiteOf room with
  | some i => s.sendHalt i room pg.slot (pg.cls * 256 + cause)
  | none => s

/-- A detected error of a Room page that does not halt a Suite: raised and recorded (R412). -/
def State.hitDetect (s : State) (pg : Page) (room bit cause : Nat) (injected : Bool) (detail : W64) : State :=
  (s.raise (rp pg room) bit injected).record (rp pg room) cause 1 injected false false (s.suiteId room) noRef detail

/-! ### The working Survey -/

/-- A change of the working Survey: the commit that carries it starts COMMIT_S after the first change, or at once (R558). -/
def State.survTouch (s : State) (atOnce : Bool) : State :=
  let t := if atOnce then s.et else s.et + s.rdF (gp .srvg) 0x088 15 0 * 156250000
  { s with rim := { s.rim with survNew := some (match s.rim.survNew with | some x => min x t | none => t) } }

/-- What a Room record holds where nothing is listed: zero, or after a rebuild FMAX 48 and every link good (R559, R573). -/
def survBase (rebuilt : Option Nat) (off : Nat) : W64 :=
  match rebuilt with
  | none => 0
  | some idle => if off = 0x080 then put 61 56 48 ||| put 31 16 idle else if off = 0x088 then maskOf 13 0 else 0

/-- SRV_REC0 to SRV_REC3 of a physical Room, as the working Survey holds them (R558, R572). -/
def State.srvRd (s : State) (phys off : Nat) : W64 := smGet (survBase s.rim.survInit off) s.rim.surv (phys * 4096 + off)

/-- A word of a Room record changed. -/
def State.srvWr (s : State) (phys off : Nat) (v : W64) : State :=
  { s with rim := { s.rim with surv := smSet (survBase s.rim.survInit off) s.rim.surv (phys * 4096 + off) v } }

/-- SRV_REC0 of the Room a logical index maps to takes the Shelf spare state of SHF_STATUS (R217, R558). -/
def State.survShelf (s : State) (room : Nat) : State :=
  let p := s.physOf room
  let w := s.rd (rp .shf room) 0x080
  let m := maskOf 15 15 ||| maskOf 13 13 ||| maskOf 11 8
  (s.srvWr p 0x080 ((s.srvRd p 0x080 &&& ~~~ m) ||| (w &&& m))).survTouch true

/-! ### The Damper cell -/

/-- The weight of an event class in a Room: w_c × n_c / 64 in units of 1/256 mA is DMP_WEIGHT's byte for each event (R483, R506). -/
def State.dmpCost (s : State) (room c : Nat) : Nat := s.rdF (rp .dmp room) 0x088 (8 * c + 7) (8 * c)

/-- Events of a class counted for the Damper tick that runs (R483). -/
def State.dmpCount (s : State) (room c n : Nat) : State :=
  s.modRoom room fun r => { r with tick := smSet 0 r.tick c (smGet 0 r.tick c + n) }

/-- The current of a Room in the tick that runs, so far and without ballast: IDLE and the weighted events (R483). -/
def State.dmpNow (s : State) (room : Nat) : Nat :=
  let r := s.room room
  256 * s.rdF (rp .dmp room) 0x090 15 0 + ((List.range 8).map fun c => s.dmpCost room c * smGet 0 r.tick c).sum

/-- Which limits of the Damper cell a fire of a class would break: budget in bit 0, slope in bit 1 (R492, R497). -/
def State.dmpBars (s : State) (room c : Nat) : Nat :=
  let r := s.room room
  let i := s.dmpNow room + s.dmpCost room c
  let ovr : Option Nat → Bool := fun o => match o with | some l => decide (l < i) | none => false
  b2n (ovr r.limB) + 2 * b2n (ovr r.share)

/-! ### Memory -/

/-- EA of a Shelf offset (R34). -/
def shelfEA (room off : Nat) : Nat := 0x080000000000 + room * 0x400000 + off

/-- A byte of engine memory; a byte nothing has written reads as zero. -/
def State.ldByte (s : State) (a : Nat) : Byte := smGet 0 s.mem a

/-- A byte of engine memory written. -/
def State.stByte (s : State) (a : Nat) (v : Byte) : State := { s with mem := smSet 0 s.mem a v }

/-- `n` bytes from `a` upward. -/
def State.ldBytes (s : State) (a : Nat) : Nat → List Byte
  | 0 => []
  | n + 1 => s.ldByte a :: s.ldBytes (a + 1) n

/-- Bytes written from `a` upward. -/
def stBytesM (m : List Host.Cell) (a : Nat) : List Byte → List Host.Cell
  | [] => m
  | v :: vs => stBytesM (smSet 0 m a v) (a + 1) vs

/-- Bytes written from `a` upward. -/
def State.stBytes (s : State) (a : Nat) (vs : List Byte) : State := { s with mem := stBytesM s.mem a vs }

/-- The little-endian number of a list of bytes. -/
def leOf : List Byte → Nat
  | [] => 0
  | b :: bs => b.toNat + 256 * leOf bs

/-- The `n` low bytes of a number, least significant first. -/
def leTo : Nat → Nat → List Byte
  | 0, _ => []
  | n + 1, v => BitVec.ofNat 8 v :: leTo n (v / 256)

/-- The 8-byte word at `a`, little-endian. -/
def State.ldWord (s : State) (a : Nat) : W64 := BitVec.ofNat 64 (leOf (s.ldBytes a 8))

/-- The 8-byte word at `a` written, little-endian. -/
def State.stWord (s : State) (a : Nat) (v : W64) : State := s.stBytes a (leTo 8 v.toNat)

/-- `n` words from `a` upward. -/
def State.ldWords (s : State) (a : Nat) : Nat → List W64
  | 0 => []
  | n + 1 => s.ldWord a :: s.ldWords (a + 8) n

/-- Words written from `a` upward. -/
def State.stWords (s : State) (a : Nat) : List W64 → State
  | [] => s
  | v :: vs => (s.stWord a v).stWords (a + 8) vs

/-- What an EA names (R34, R36). -/
inductive EaKind where
  | cellar (stack off : Nat)
  | shelf (room off : Nat)
  | host (addr : Nat)
  | none_
  deriving DecidableEq, Repr

/-- Whether a stack site is fitted (R4, R14). -/
def State.fitted (s : State) (stack : Nat) : Bool := decide (stack < 48) && (!s.c24 || decide (stack % 12 % 2 = 0))

/-- Whether a logical Room exists: all of them, or those of rows 0 to 111 in degraded mode (R25). -/
def State.roomExists (s : State) (r : Nat) : Bool :=
  decide (r < 16384) && (!tst (s.rd (gp .srvg) 0x080) 55 || decide (r < 14336))

/-- The decoding of an EA (R34, R36). -/
def State.decodeEa (s : State) (a : Nat) : EaKind :=
  let a := a % 2 ^ 48
  if 0x800000000000 ≤ a then .host (a - 0x800000000000)
  else if a < 0x060000000000 then
    let st := a / 0x2000000000
    let off := a % 0x2000000000
    if s.fitted st ∧ off ≤ 0x165A0BBFFF then .cellar st off else .none_
  else if 0x080000000000 ≤ a ∧ a < 0x081000000000 then
    let r := (a - 0x080000000000) / 0x400000
    let off := (a - 0x080000000000) % 0x400000
    if s.roomExists r ∧ off < 0x300000 then .shelf r off else .none_
  else .none_

/-- The fitted stack and the offset of an EA in a stack's slot, the offsets beyond 96 GB among them (R34, R338). -/
def State.cellarSlot (s : State) (a : Nat) : Option (Nat × Nat) :=
  let a := a % 2 ^ 48
  if a < 0x060000000000 ∧ s.fitted (a / 0x2000000000) then some (a / 0x2000000000, a % 0x2000000000) else none

/-! ### The Shelf -/

/-- Whether a Shelf quarter is powered and its ramp has ended (R212, R213). -/
def State.quarterOn (s : State) (room j : Nat) : Bool :=
  tst (s.rd (rp .shf room) 0x080) (4 + j) && !tst (s.rd (rp .shf room) 0x080) j

/-- The quarter of a Shelf offset (R204). -/
def shelfQuarter (off : Nat) : Nat := off / 0xC0000

/-- The bank of a Shelf offset (R204). -/
def shelfBank (off : Nat) : Nat := 4 * (off / 0xC0000) + off / 64 % 4

/-- The row within its bank of a Shelf offset (R204). -/
def shelfRow (off : Nat) : Nat := off % 0xC0000 / 256

/-- Whether an access at a Shelf offset meets a dark quarter; an armed injection makes the next access do so (R213, R231). -/
def State.shelfDark (s : State) (room off : Nat) : Bool :=
  !s.roomOn room || !s.quarterOn room (shelfQuarter off) || s.isArmed (rp .shf room) 1

/-- The account of an access to a dark quarter (R213): with the Room domain off there is no event. -/
def State.noteDark (s : State) (room off who : Nat) : State :=
  if !s.roomOn room then s
  else
    let inj := s.isArmed (rp .shf room) 1
    let s := s.disarm (rp .shf room) 1
    let s := s.raise (rp .shf room) 1 inj
    let s := s.bump (rp .shf room) 0x0A8 31 0 1
    s.captureStep (rp .shf room) 0x098 (put 63 56 0x02 ||| put 55 51 (shelfBank off) ||| put 50 44 who ||| put 21 0 off) 0x0A0 (s.whereStep room)

/-- The account of an access to a Shelf offset that does not decode (R36, R113). -/
def State.noteShelfUnmapped (s : State) (room off who : Nat) : State :=
  let s := s.raise (rp .shf room) 2 false
  let s := s.bump (rp .shf room) 0x0B0 31 0 1
  s.captureStep (rp .shf room) 0x098 (put 63 56 0x03 ||| put 50 44 who ||| put 21 0 off) 0x0A0 (s.whereStep room)

/-! ### Open values and outputs -/

/-- An open 64-bit value: nothing constrains it. -/
def State.drawWord (s : State) : State × W64 := ({ s with free := s.free + 1 }, Config.freeWord s.free)

/-- An open number: nothing constrains it. -/
def State.drawNat (s : State) : State × Nat := ({ s with free := s.free + 1 }, Config.freeNat s.free)

/-- A message sent out of the engine. -/
def State.emit (s : State) (m : OutMsg) : State := { s with out := s.out ++ [m] }

/-- SUITE of a packet that a Room sends: the Suite of the sending Room in a reply, and in a request the Suite it was built for, which is the sender's
or the host's grant (R282). -/
def State.senderSuite (s : State) (room : Nat) (p : Pkt) : Nat :=
  if p.typ = 3 ∨ p.typ = 8 ∨ p.typ = 9 then s.suiteId room else p.suite

/-- A packet put into the injection buffer of a Room (R277), stamped with the active routing version (R290). -/
def State.inject (s : State) (room : Nat) (p : Pkt) : State :=
  { s with pkts := s.pkts ++ [{ pkt := { p with epoch := s.rdF (gp .halg) 0x080 0 0, suite := s.senderSuite room p }, room, port := 4, ejected := false, moved := false, due := 0 }] }

/-- A packet sent by a Room's router or local port itself, for which the Room's injection buffer is not used (R282, R581). -/
def State.routerSend (s : State) (room : Nat) (p : Pkt) : State :=
  { s with pkts := s.pkts ++ [{ pkt := { p with epoch := s.rdF (gp .halg) 0x080 0 0, suite := s.senderSuite room p }, room, port := 6, ejected := false, moved := false, due := 0 }] }

/-- A request sent from a Room, whose reply is awaited under a new tag (R279). -/
def State.request (s : State) (room : Nat) (p : Pkt) (u : ReqUse) : State :=
  let t := s.nextTag % 65536
  let s := s.inject room { p with tag := t }
  { s with outst := s.outst ++ [⟨t, p.src, u⟩], nextTag := s.nextTag + 1 }

/-- A packet with its fields at rest. -/
def Pkt.mk0 (typ dst src suite : Nat) : Pkt :=
  { typ, epoch := 0, vc := 1, suite, host := false, len := 0, dst, src, tag := 0, addr := 0, w2 := 0, w3 := 0, age := 0, mcount := 0, data := [] }

/-- The refusal outcome of a ready answer: the value returned to the requester. -/
def State.answer (s : State) (v : W64) : State := { s with busData := v }

/-! ### Times in engine time -/

/-- The ET periods of T microseconds, rounded up: ⌈156.25 × T⌉ (R322). -/
def usToEt (t : Nat) : Nat := (t * 625 + 3) / 4

end Sys2Proof.Machine
end

