-- ==== Sys2Proof/Machine/Packets.lean ====
section
/-!
DEFINITION. The Hall packets that units send and the replies they answer with (R280 to R285, R222).
-/

namespace Sys2Proof.Machine

/-- A reply to a packet: to its SRC, from its DST, under its TAG (R282). -/
def Pkt.replyTo (p : Pkt) (typ : Nat) : Pkt := { Pkt.mk0 typ p.src p.dst p.suite with tag := p.tag }

/-- An ACK of KIND 0 (R284). -/
def Pkt.ack (p : Pkt) (status : Nat) : Pkt := { p.replyTo 8 with w2 := put 7 0 status }

/-- A READ_RSP (R284). -/
def Pkt.rsp (p : Pkt) (status : Nat) (data : List Byte) : Pkt := { p.replyTo 3 with w2 := put 7 0 status, len := data.length, data }

/-- A NACK: word 2 of the refused packet, its type and the code; a refused MESSAGE's payload (R282, R285). -/
def Pkt.nack (p : Pkt) (code : Nat) : Pkt :=
  let r := { p.replyTo 9 with w2 := p.w2, w3 := put 15 8 p.typ ||| put 7 0 code }
  if p.typ = 5 then { r with len := p.len, data := p.data } else r

/-- CODE of a NACK. -/
def Pkt.code (p : Pkt) : Nat := fld p.w3 7 0

/-- STATUS of an ACK or READ_RSP. -/
def Pkt.status (p : Pkt) : Nat := fld p.w2 7 0

/-- Whether a type travels on the Reply network (R277). -/
def Pkt.onReply (p : Pkt) : Bool := decide (p.typ = 3 ∨ p.typ = 8 ∨ p.typ = 9)

/-- Flits of a packet (R273). -/
def Pkt.flits (p : Pkt) : Nat := ceilDiv (32 + ceilDiv p.len 8 * 8) 256

/-- T of the Eaves endpoint a Room sends to on an edge at a position (R281). -/
def eavesT (room edge pos : Nat) : Nat := 16 * pos + (if edge % 2 = 0 then roomX room % 16 else roomY room % 16)

/-- Edge and position by which a Room reaches a Cellar stack (R222): corners 0 NW, 1 NE, 2 SW, 3 SE. -/
def stackExit (stack : Nat) : Nat × Nat :=
  let c := stack / 12
  let k := stack % 12
  let j := 2 * (k % 6) / 3
  if k ≤ 5 then
    (if c < 2 then 0 else 2, if c % 2 = 0 then j else 7 - j)
  else
    (if c % 2 = 0 then 3 else 1, if c < 2 then j else 7 - j)

/-- The fenced physical Wing row of degraded mode (R25, R568). -/
def State.fence (s : State) : Option Nat := if s.rdF (gp .srvg) 0x080 55 55 = 1 then some (s.rdF (gp .srvg) 0x080 54 52) else none

/-- Whether a Room reaches an edge position when physical Wing row `f` is fenced (R568). -/
def fenceReaches (f room edge pos : Nat) : Bool :=
  let l := roomY room / 16
  let split := decide (0 < f) && decide (f < 7)
  match edge with
  | 0 => decide (f ≠ 0) && (!split || decide (l < f))
  | 2 => decide (f ≠ 7) && (!split || decide (f ≤ l))
  | _ => decide (pos ≠ f) && (!split || decide (pos < f) == decide (l < f))

/-- The ring gateway by which a Room's traffic for an edge position leaves; in degraded mode, where the position cannot be reached, that of
the Room's own physical Wing row on the W edge, or on the E edge for the eastern corners (R222, R281, R568). -/
def State.exitEid (s : State) (room edge pos : Nat) (east : Bool) : Nat :=
  match s.fence with
  | none => eidEaves edge (eavesT room edge pos) 0
  | some f =>
    let row (p : Nat) : Nat := 16 * (if f < p then p - 1 else p) + roomY room % 16
    if fenceReaches f room edge pos then eidEaves edge (if edge % 2 = 0 then eavesT room edge pos else row pos) 0
    else
      let own := roomY room / 16 + (if f ≤ roomY room / 16 then 1 else 0)
      eidEaves (if east then 1 else 3) (row own) 0

/-- The endpoint a Room's request to an EA goes to: a Shelf port, or the ring gateway of the exit, for an offset beyond 96 GB of a stack's slot too,
which its controller counts (R222, R338). -/
def State.targetOf (s : State) (room a : Nat) : Option Nat :=
  match s.decodeEa a with
  | .shelf r _ => some (eidRoom r 1)
  | .cellar st _ => some (s.exitEid room (stackExit st).1 (stackExit st).2 (decide (st / 12 % 2 = 1)))
  | .host _ => some (s.exitEid room 3 3 false)
  | .none_ => (s.cellarSlot a).map fun e => s.exitEid room (stackExit e.1).1 (stackExit e.1).2 (decide (e.1 / 12 % 2 = 1))

/-- A WRITE of data to an EA (R282). -/
def mkWrite (dst src suite addr : Nat) (data : List Byte) : Pkt := { Pkt.mk0 1 dst src suite with addr, len := data.length, data }

/-- A READ_REQ of `n` bytes of an EA (R282). -/
def mkRead (dst src suite addr n : Nat) : Pkt := { Pkt.mk0 2 dst src suite with addr, w2 := put 9 0 n }

end Sys2Proof.Machine
end

