-- ==== Sys2Proof/Machine/Cvux.lean ====
section
/-!
DEFINITION. The check-value units of Cellar controllers, Chutes and MACs (R413, R433), and messages handed to a stream (R396).
-/

namespace Sys2Proof.Machine

/-- The CVUX page of unit `u`: a Cellar controller, 64 + Chute, or 128 + port (R433). -/
def cvuxPage (u : Nat) : PageRef := ⟨.cvux, u⟩

/-- An item compared by a unit: counted, with an armed injection consumed (R433). -/
def State.cvuxItem (s : State) (u : Nat) : State × Bool :=
  let p := cvuxPage u
  let inj := s.isArmed p 0
  ((if inj then s.disarm p 0 else s).bump p 0x088 31 0 1, inj)

/-- CVUX_MISMATCH: counted, captured and raised; a detected error unless it is a MAC's (R412, R413, R433). -/
def State.cvuxError (s : State) (u key suite : Nat) (halts rec_ injected : Bool) : State :=
  let p := cvuxPage u
  let w := put 63 56 0x01 ||| put 55 32 key
  let s := ((s.bump p 0x088 63 32 1).capture p 0x080 w).raise p 0 injected
  if rec_ then s.record p 0x01 1 injected false halts suite noRef (setBit w 31) else s

/-- A stream context. -/
def State.yctx (s : State) (n : Nat) : YCtx := smGet .empty s.rim.ctxs n

/-- A stream context replaced. -/
def State.setYctx (s : State) (n : Nat) (x : YCtx) : State := { s with rim := { s.rim with ctxs := smSet .empty s.rim.ctxs n x } }

/-- Configuration word `k` of a context (R382). -/
def YCtx.w (x : YCtx) (k : Nat) : W64 := x.cfg.getD k 0

/-- STATE of a context: 0 CLOSED, 1 OPEN, 2 FAILED (R382). -/
def YCtx.state (x : YCtx) : Nat := fld (x.w 0) 63 62

/-- A CONTROL message of a unit of the engine handed to a stream; a stream that is not OPEN carries none (R396). -/
def State.yazCtl (s : State) (n mtype : Nat) (data : List Byte) : State :=
  let x := s.yctx n
  if x.state = 1 then s.setYctx n { x with ctl := x.ctl ++ [(mtype, data)] } else s

end Sys2Proof.Machine
end

