-- ==== Sys2Proof/Machine/Cellar.lean ====
section
/-!
DEFINITION. The Cellar controllers: region grants, the page code, the watch list, scrubbing, retirement and the Eaves ring
(R336 to R343, R362 to R364, R437 to R453, R456 to R458).
-/

namespace Sys2Proof.Machine

/-- The CEL page of a stack (R362). -/
def celPage (stack : Nat) : PageRef := ⟨.cel, stack⟩

/-- The ECC page of a stack (R456). -/
def ecccPage (stack : Nat) : PageRef := ⟨.eccc, stack⟩

/-- Bytes a stack decodes: 96 GB (R34). -/
def cellarBytes : Nat := 0x165A0BC000

/-- Pages of a stack, the page-remap reserve among them (R444). -/
def cellarPages : Nat := 46875000

/-- The first page of the page-remap reserve (R449). -/
def reservePage : Nat := 46866808

/-! ### Region grants -/

/-- CEL_REG_A of region `r`. -/
def State.regA (s : State) (stack r : Nat) : W64 := s.rd (celPage stack) (0x400 + 32 * r)

/-- CEL_REG_B of region `r`. -/
def State.regB (s : State) (stack r : Nat) : W64 := s.rd (celPage stack) (0x408 + 32 * r)

/-- First byte of a region. -/
def regLo (a : W64) : Nat := fld a 31 16 * 0x200000

/-- First byte after a region. -/
def regHi (a : W64) : Nat := (fld a 31 16 + fld a 47 32) * 0x200000

/-- Whether an access is allowed by the region grants (R338). -/
def State.cellarGranted (s : State) (stack off len suite : Nat) (write : Bool) : Bool :=
  (List.range 32).any fun r =>
    let a := s.regA stack r
    tst a 63 && decide (regLo a ≤ off) && decide (off + len ≤ regHi a)
      && ((tst a 62 && decide (fld a 61 56 = suite)) || (!write && tst (s.regB stack r) (suite % 64)))

/-- Whether some region of a stack is enabled (R439, R451). -/
def State.anyRegion (s : State) (stack : Nat) : Bool := (List.range 32).any fun r => tst (s.regA stack r) 63

/-- CEL_REGION_WRITE: a region grant changed, unless as an enabled region it would overlap another enabled region or reach beyond 96 GB
(R363). -/
def execCelRegionWrite (stack r : Nat) (v : W64) (s : State) : Host.Outcome State Fault Refusal :=
  let r := r % 32
  let v := v &&& 0xFF00FFFFFFFF0000
  let clash := (List.range 32).any fun q =>
    let a := s.regA stack q
    q != r && tst a 63 && decide (fld v 47 32 ≠ 0) && decide (fld a 47 32 ≠ 0) && decide (regLo a < regHi v) && decide (regLo v < regHi a)
  if tst v 63 && (clash || decide (cellarBytes < regHi v)) then
    .next ((s.capture (celPage stack) 0x088 (put 63 56 0x02)).raise (celPage stack) 1 false)
  else .next (s.wr (celPage stack) (0x400 + 32 * r) v)

/-! ### The page code -/

/-- Symbol errors a codeword of a stack corrects (R438). -/
def State.codeT (s : State) (stack : Nat) : Nat :=
  match s.rdF (ecccPage stack) 0x080 1 0 with
  | 0 => 4
  | 1 => 8
  | _ => 16

/-- A remap entry. -/
def State.remapEnt (s : State) (stack i : Nat) : W64 := smGet 0 s.rim.cellRemap (stack * 8192 + i % 8192)

/-- A remap entry set. -/
def State.setRemap (s : State) (stack i : Nat) (v : W64) : State :=
  { s with rim := { s.rim with cellRemap := smSet 0 s.rim.cellRemap (stack * 8192 + i % 8192) v } }

/-- The remap entry that serves a page: valid and not DEAD (R449). -/
def State.spareOf (s : State) (stack page : Nat) : Option Nat :=
  (s.rim.cellRemap.find? fun e => decide (e.1 / 8192 = stack) && tst e.2 63 && !tst e.2 61 && decide (fld e.2 25 0 = page)).map
    fun e => e.1 % 8192

/-- The page that holds page `page`'s data (R449). -/
def State.physPage (s : State) (stack page : Nat) : Nat :=
  match s.spareOf stack page with
  | some i => reservePage + i
  | none => page

/-- EA of a byte of a stack. -/
def cellarEA (stack off : Nat) : Nat := stack * 0x2000000000 + off

/-- Bytes of a stack by the pages that hold them. -/
def State.celLd (s : State) (stack off : Nat) : Nat → List Byte
  | 0 => []
  | n + 1 => s.ldByte (cellarEA stack (s.physPage stack (off / 2048) * 2048 + off % 2048)) :: s.celLd stack (off + 1) n

/-- Whether a page is poisoned: every read of it is uncorrectable until a whole-page write (R439, R442). -/
def State.poisoned (s : State) (stack page : Nat) : Bool := s.rim.poison.contains (stack * 2 ^ 26 + s.physPage stack page)

/-- A page poisoned. -/
def State.poisonPage (s : State) (stack page : Nat) : State :=
  if s.poisoned stack page then s
  else { s with rim := { s.rim with poison := s.rim.poison ++ [stack * 2 ^ 26 + s.physPage stack page] } }

/-- A page made good by a whole-page write; its remap entry's POISON clears (R450). -/
def State.unpoison (s : State) (stack page : Nat) : State :=
  let s := { s with rim := { s.rim with poison := s.rim.poison.filter fun x => x ≠ stack * 2 ^ 26 + s.physPage stack page } }
  match s.spareOf stack page with
  | some i => s.setRemap stack i (clrBit (s.remapEnt stack i) 62)
  | none => s

/-- Whether the channel that holds a page, or the spare it is remapped to, serves: in service and not retraining (R337, R449, R453, R570). -/
def State.channelUp (s : State) (stack page : Nat) : Bool := tst (s.rd (celPage stack) 0x080) (s.physPage stack page % 32)

/-- Whether the channel that holds a page, or its spare, is retraining. -/
def State.channelRetraining (s : State) (stack page : Nat) : Bool := s.rim.retrCh.contains (stack * 32 + s.physPage stack page % 32)

/-! ### The watch list -/

/-- A watch entry (R456). -/
def State.watchEnt (s : State) (stack i : Nat) : W64 := s.rd (ecccPage stack) (0x800 + 8 * i)

/-- The watch entry of a page. -/
def State.watchOf (s : State) (stack page : Nat) : Option Nat :=
  (List.range 64).find? fun i => tst (s.watchEnt stack i) 63 && decide (fld (s.watchEnt stack i) 25 0 = page)

/-- The order of the watch entries, oldest first. -/
def State.watchAge (s : State) (stack : Nat) : List Nat := smGet [] s.rim.watchAge stack

/-- The entry a newly listed page takes: a free one, else the lowest COUNT without UE, the oldest among equals (R443). -/
def State.watchSlot (s : State) (stack : Nat) : Option Nat :=
  match (List.range 64).find? fun i => !tst (s.watchEnt stack i) 63 with
  | some i => some i
  | none =>
    let c := (s.watchAge stack).filter fun i => !tst (s.watchEnt stack i) 62
    let m := (c.map fun i => fld (s.watchEnt stack i) 47 32).min?
    match m with
    | some k => c.find? fun i => decide (fld (s.watchEnt stack i) 47 32 = k)
    | none => none

/-- A page put into the watch list, or its entry changed (R443). -/
def State.watchSet (s : State) (stack page : Nat) (f : W64 → W64) : State :=
  let p := ecccPage stack
  match s.watchOf stack page with
  | some i => s.wr p (0x800 + 8 * i) (f (s.watchEnt stack i))
  | none =>
    match s.watchSlot stack with
    | some i =>
      let s := s.wr p (0x800 + 8 * i) (f (put 63 63 1 ||| put 25 0 page))
      { s with rim := { s.rim with watchAge := smSet [] s.rim.watchAge stack ((s.watchAge stack).filter (· ≠ i) ++ [i]) } }
    | none => s.bump p 0x090 3 0 1

/-- A page's watch entry removed (R443). -/
def State.watchDrop (s : State) (stack page : Nat) : State :=
  match s.watchOf stack page with
  | some i =>
    let s := s.wr (ecccPage stack) (0x800 + 8 * i) 0
    { s with rim := { s.rim with watchAge := smSet [] s.rim.watchAge stack ((s.watchAge stack).filter (· ≠ i)) } }
  | none => s

/-- The word a Cellar ECC_WHERE captures (R456). -/
def cellWhere (cause syms addr half page : Nat) : W64 :=
  put 63 56 cause ||| put 55 51 syms ||| put 50 50 addr ||| put 49 49 half ||| put 25 0 page

/-- COUNT of a page's watch entry, 0 where it is not listed. -/
def State.watchCount (s : State) (stack page : Nat) : Nat :=
  match s.watchOf stack page with | some i => fld (s.watchEnt stack i) 47 32 | none => 0

/-- A heavy correction noted; at REPEAT the record and event of R443. -/
def State.heavy (s : State) (stack page syms half suite : Nat) : State :=
  let p := ecccPage stack
  let inj := s.isArmed p 1
  let before := s.watchCount stack page
  let s := s.watchSet stack page fun w => bumpFld w 47 32 1
  let rep := max 1 (s.rdF p 0x080 7 4)
  if inj || (decide (before < rep) && decide (rep ≤ s.watchCount stack page)) then
    let s := if inj then s.disarm p 1 else s
    let w := cellWhere 0x11 syms 0 half page
    let s := (s.capture p 0x088 w).raise p 1 inj
    s.record p 0x11 0 inj false false suite noRef (w ||| put 37 32 stack)
  else s

/-- An uncorrectable page: the event, the record, the watch list; the page stays uncorrectable (R442). -/
def State.cellarUe (s : State) (stack page addr half suite : Nat) (injected : Bool) : State :=
  let p := ecccPage stack
  let w := cellWhere 0x10 0x1F addr half page
  let s := (s.bump p 0x090 15 4 1).capture p 0x088 w
  let s := s.raise p 0 injected
  let s := s.record p 0x10 1 injected false false suite noRef (setBit w 31)
  let s := s.watchSet stack page fun w => setBit w 62
  s.poisonPage stack page

/-- What the decoder makes of the upset bits `e` of a page's codewords: those of half 0 in the low 8,550 bits, those of half 1 above (R437, R440). -/
def State.pageOut (s : State) (stack e : Nat) : (Nat × Bool × Nat) × (Nat × Bool × Nat) :=
  (pageVerdict (s.codeT stack) (e % 2 ^ 8550), pageVerdict (s.codeT stack) (e / 2 ^ 8550 % 2 ^ 8550))

/-- Bits of half `h` of a page that the decoder took for good although they are wrong, which then stand in the stack too (R440, R441). -/
def State.pageWrong (s : State) (stack page h wrong : Nat) : State :=
  if wrong = 0 then s
  else
    let a := cellarEA stack (s.physPage stack page * 2048 + 1024 * h)
    s.stBytes a (leTo 1024 (leOf (s.ldBytes a 1024) ^^^ wrong))

/-- One page read decoded, `e` giving the upset bits of its codewords (R440 to R443).  False where the page is uncorrectable or its channel is out of
service. -/
def State.pageRead (s : State) (stack page e suite : Nat) (scrub : Bool) : State × Bool :=
  let p := ecccPage stack
  if !s.channelUp stack page then (s, false)
  else
    let t := s.codeT stack
    let v0 := (s.pageOut stack e).1
    let v1 := (s.pageOut stack e).2
    let h0 := v0.1
    let h1 := v1.1
    let inj := s.isArmed p 0
    let bad (h : Nat) : Bool := decide (t < h)
    if inj || s.poisoned stack page || bad h0 || bad h1 then
      let s := if inj then s.disarm p 0 else s
      let half := if bad h0 then 0 else if bad h1 then 1 else 0
      (s.cellarUe stack page (b2n (if bad h0 then v0.2.1 else v1.2.1)) half suite inj, false)
    else if h0 = 0 ∧ h1 = 0 then (s, true)
    else
      let s := ((s.pageWrong stack page 0 v0.2.2).pageWrong stack page 1 v1.2.2).bump p 0x090 63 32 1
      let s := if scrub then s.bump p 0x090 31 16 1 else s
      let hv := max 1 (s.rdF p 0x080 15 8)
      if hv ≤ max h0 h1 then (s.heavy stack page (max h0 h1) (if h0 < h1 then 1 else 0) suite, true) else (s, true)

/-- Pages of a byte range. -/
def pagesOf (off len : Nat) : List Nat := (List.range ((off + max len 1 - 1) / 2048 + 1 - off / 2048)).map fun i => off / 2048 + i

/-- Several pages read, one after another, until one is uncorrectable; `errs` gives each page's errors in turn. -/
def State.pagesRead (s : State) (stack suite : Nat) : List Nat → List Nat → State × Bool
  | [], _ => (s, true)
  | p :: ps, es =>
    let r := s.pageRead stack p (es.headD 0) suite false
    if r.2 then r.1.pagesRead stack suite ps es.tail else r

/-- The part of a write that falls in a page: offset and bytes. -/
def pagePart (off page : Nat) (vs : List Byte) : Nat × List Byte :=
  let lo := max off (page * 2048)
  (lo, (vs.drop (lo - off)).take ((page + 1) * 2048 - lo))

/-- Bytes written page by page; a page only partly written is read first, and the write stops at one that is uncorrectable (R441, R442). -/
def State.pagesWrite (s : State) (stack suite off : Nat) (vs : List Byte) : List Nat → List Nat → State × Bool
  | [], _ => (s, true)
  | p :: ps, es =>
    let part := pagePart off p vs
    let store (s : State) : State := s.stBytes (cellarEA stack (s.physPage stack p * 2048 + part.1 % 2048)) part.2
    if part.2.length = 2048 then
      if s.channelUp stack p then (store (s.unpoison stack p)).pagesWrite stack suite off vs ps es.tail else (s, false)
    else
      let r := s.pageRead stack p (es.headD 0) suite false
      if r.2 then (store r.1).pagesWrite stack suite off vs ps es.tail else r

/-! ### Accesses -/

/-- How an access to a Cellar controller ends. -/
inductive CelRes where
  /-- Performed; the bytes of a read. -/
  | ok (data : List Byte)
  /-- Refused with NACK_SUITE (R338). -/
  | denied
  /-- Refused with NACK ECC_UE (R442). -/
  | eccUe
  /-- The offset does not decode: no effect, and a read gives zeros (R36). -/
  | unmapped
  deriving DecidableEq, Repr

/-- The word a CEL_WHERE captures (R363). -/
def celWhere (cause suite src : Nat) : W64 := put 63 56 cause ||| put 55 50 suite ||| put 19 0 src

/-- An accepted write in the doorbell area, forwarded to the home engine: an aligned 8-byte one rings a doorbell (R386). -/
def State.ringBell (s : State) (a : Nat) (vs : List Byte) : State :=
  let base := s.rdF (gp .yzlg) 0x0A0 47 27 * 2 ^ 27
  if base ≤ a ∧ a < base + 2 ^ 27 ∧ a % 8 = 0 ∧ vs.length = 8 then
    { s with rim := { s.rim with bells := s.rim.bells ++ [((a - base) / 2 ^ 21, BitVec.ofNat 64 (leOf vs))] } }
  else s

/-- An access at a Cellar controller: checked against the grants, compared by the check-value unit (a page's bit 17,100 is a difference), then performed
with page decoding (R338, R413, R440 to R442).  `firmware` marks an access of Porch firmware, which is always allowed. -/
def State.cellarAccess (s : State) (stack off len : Nat) (data : Option (List Byte)) (suite src : Nat) (firmware : Bool) (errs : List Nat) :
    State × CelRes :=
  let p := celPage stack
  let inj := !firmware && s.isArmed p 0
  if cellarBytes ≤ off then (s.bump p 0x090 31 0 1, .unmapped)
  else if inj || !(firmware || s.cellarGranted stack off len suite data.isSome) || decide (cellarBytes < off + len) then
    let s := if inj then s.disarm p 0 else s
    (((s.bump p 0x090 63 32 1).capture p 0x088 (celWhere 0x01 suite src)).raise p 0 inj, .denied)
  else
    let c := s.cvuxItem stack
    let s := c.1
    if c.2 || errs.any (fun e => e.testBit 17100) then (s.cvuxError stack off suite false true c.2, .eccUe)
    else
    match data with
    | none =>
      let r := s.pagesRead stack suite (pagesOf off len) errs
      if r.2 then (r.1.wr p 0x098 (r.1.rd p 0x098 + BitVec.ofNat 64 len), .ok (r.1.celLd stack off len)) else (r.1, .eccUe)
    | some vs =>
      let r := s.pagesWrite stack suite off vs (pagesOf off len) errs
      if r.2 then ((r.1.wr p 0x0A0 (r.1.rd p 0x0A0 + BitVec.ofNat 64 len)).ringBell (cellarEA stack off) vs, .ok []) else (r.1, .eccUe)

/-- An access to an EA that does not decode: an offset at or beyond 96 GB within a stack's slot is counted by its controller (R338). -/
def State.celMiss (s : State) (a : Nat) : State :=
  match s.cellarSlot a with
  | some (st, off) => if cellarBytes ≤ off then s.bump (celPage st) 0x090 31 0 1 else s
  | none => s

/-- Whether an access waits at its controller: a channel it needs is retraining (R570). -/
def State.celWaits (s : State) (st off len : Nat) : Bool := (pagesOf off len).any fun p => s.channelRetraining st p

/-- An EA of a Cellar split into stack and offset. -/
def cellarSplit (a : Nat) : Nat × Nat := (a / 0x2000000000, a % 0x2000000000)

/-- Whether two ring accesses touch a common byte of one stack (R337). -/
def RingAcc.overlaps (a b : RingAcc) : Bool :=
  decide (a.stack = b.stack) && decide (a.off < b.off + b.len) && decide (b.off < a.off + a.len)

/-- The reply a gateway sends to a Hall requester (R284, R285). -/
def RingAcc.reply (a : RingAcc) (r : CelRes) : Pkt :=
  match r with
  | .ok d => if a.data.isSome then a.pkt.ack 0 else a.pkt.rsp 0 d
  | .unmapped => if a.data.isSome then a.pkt.ack 1 else a.pkt.rsp 1 (List.replicate a.len 0)
  | .denied => a.pkt.nack 0x01
  | .eccUe => a.pkt.nack 0x03

/-- The edge Room an Eaves endpoint is attached to; the S strip lies below the last logical row (R287, R568). -/
def State.eavesRoom (s : State) (e : Nat) : Nat :=
  match eidEdge e with
  | 0 => eidT e
  | 1 => eidT e * 128 + 127
  | 2 => (if s.fence.isSome then 111 else 127) * 128 + eidT e
  | _ => eidT e * 128

/-- A packet put into the square at an edge port (R272). -/
def State.injectEdge (s : State) (e : Nat) (p : Pkt) : State :=
  let due := match s.suite p.suite with | some u => u.now + 2 | none => 0
  { s with pkts := s.pkts ++ [{ pkt := { p with epoch := s.rdF (gp .halg) 0x080 0 0 }, room := s.eavesRoom e, port := 5, ejected := false
                                moved := false, due }] }

/-- CELLAR_ACCESS: ring access `k` reaches its controller, is checked and performed, and its reply goes back to the requester.  Accesses that
overlap take effect in order; accesses to a retraining channel wait (R337, R338, R570). -/
def execCellarAccess (k : Nat) (errs : List Nat) (s : State) : Host.Outcome State Fault Refusal :=
  match s.rim.ring[k]? with
  | none => .next s
  | some a =>
    if (s.rim.ring.take k).any (fun b => a.overlaps b) || s.celWaits a.stack a.off a.len then .next s
    else
      let s := { s with rim := { s.rim with ring := s.rim.ring.eraseIdx k } }
      let r := s.cellarAccess a.stack a.off a.len a.data a.pkt.suite a.pkt.src false errs
      .next (r.1.injectEdge a.pkt.dst (a.reply r.2))

/-- RING_RESERVATION: the access at the head of its stop has waited 128 ring cycles, and the stop places a reservation on the next full slot; it
holds until the access has been inserted (R341).  An access behind another of its gateway is not at the head. -/
def execRingReservation (k : Nat) (s : State) : Host.Outcome State Fault Refusal :=
  match s.rim.ring[k]? with
  | none => .next s
  | some a =>
    if (s.rim.ring.take k).any fun b => b.pkt.dst = a.pkt.dst then .next s
    else .next { s with rim := { s.rim with ring := s.rim.ring.set k { a with reserved := true } } }

/-- CELLAR_REFRESH: refresh and row-hammer mitigation keep the stack's data as they are (R336). -/
def execCellarRefresh (_stack : Nat) (s : State) : Host.Outcome State Fault Refusal := .next s

/-! ### Strength, scrubbing, retirement -/

/-- ECC_CFG_WRITE: a new STRENGTH is taken only while every region of the stack is disabled, and starts recoding; the thresholds are taken with
it, or alone where STRENGTH does not change (R439, R456). -/
def execEccCfgWrite (stack : Nat) (v : W64) (s : State) : Host.Outcome State Fault Refusal :=
  let p := ecccPage stack
  let old := s.rd p 0x080
  if fld v 1 0 = fld old 1 0 then .next (s.wr p 0x080 (setFld old 15 4 (fld v 15 4)))
  else if fld v 1 0 = 3 ∨ s.anyRegion stack then .next (s.raise p 5 false)
  else .next (s.wr p 0x080 (put 15 4 (fld v 15 4) ||| put 3 3 1 ||| put 1 0 (fld v 1 0)))

/-- The first scrub pass after a training or a recoding (R445). -/
def State.scrubFresh (s : State) (stack : Nat) : State :=
  let p := ecccPage stack
  let s := s.wr p 0x098 (setFld (setBit (s.rd p 0x098) 63) 15 0 16384)
  let s := s.wrF p 0x090 31 16 0
  { s with rim := { s.rim with scrubAt := smSet 0 s.rim.scrubAt stack 0 } }

/-- RECODE_DONE: every page is rewritten under the new code; the pages of `bad` were uncorrectable and are poisoned and logged (R439). -/
def execRecodeDone (stack : Nat) (bad : List Nat) (s : State) : Host.Outcome State Fault Refusal :=
  let p := ecccPage stack
  if !tst (s.rd p 0x080) 3 then .next s
  else
    let s := bad.foldl (fun s page => s.cellarUe stack (page % cellarPages) 0 0 0 false) s
    .next ((s.wr p 0x080 (clrBit (s.rd p 0x080) 3)).scrubFresh stack)

/-- The page of scrub read `n`: the pages in order, then the reserve pages (R444). -/
def scrubPage (n : Nat) : Nat := if n < cellarPages then n else reservePage + (n - cellarPages)

/-- The first page the scrubber passed over while its channel was retraining that serves again. -/
def State.scrubDue (s : State) (stack : Nat) : Option Nat :=
  s.rim.scrubLate.find? fun x => decide (x / 2 ^ 26 = stack) && s.channelUp stack (x % 2 ^ 26) && !s.channelRetraining stack (x % 2 ^ 26)

/-- SCRUB_READ: a page passed over during a retraining that has ended, or else the scrubber's next page, skipped where it is remapped or its channel is
out of service, and put off where its channel is retraining (R444, R570). -/
def execScrubRead (stack e : Nat) (s : State) : Host.Outcome State Fault Refusal :=
  match s.scrubDue stack with
  | some x =>
    let s := { s with rim := { s.rim with scrubLate := s.rim.scrubLate.erase x } }
    if (s.spareOf stack (x % 2 ^ 26)).isSome then .next s else .next (s.pageRead stack (x % 2 ^ 26) e 0 true).1
  | none =>
    let n := smGet 0 s.rim.scrubAt stack
    if cellarPages + 8192 ≤ n then .next s
    else
      let page := scrubPage n
      let s := { s with rim := { s.rim with scrubAt := smSet 0 s.rim.scrubAt stack (n + 1) } }
      if (s.spareOf stack page).isSome then .next s
      else if s.channelRetraining stack page then .next { s with rim := { s.rim with scrubLate := s.rim.scrubLate ++ [stack * 2 ^ 26 + page] } }
      else if !s.channelUp stack page then .next s
      else .next (s.pageRead stack page e 0 true).1

/-- SCRUB_PASS_END: the pass is over; RATE is doubled, halved or kept by PASS_CE, and a first pass hands on its rate (R445). -/
def execScrubPassEnd (stack : Nat) (s : State) : Host.Outcome State Fault Refusal :=
  let p := ecccPage stack
  if smGet 0 s.rim.scrubAt stack < cellarPages + 8192 then .next s
  else
    let w := s.rd p 0x098
    let rate := fld w 15 0
    let ce := s.rdF p 0x090 31 16
    let lo := min 16384 (max 1 (fld w 31 16))
    let rate' :=
      if tst w 63 then rate
      else if fld w 62 48 < ce then min 16384 (2 * rate)
      else if ce ≤ fld w 47 32 then max lo (rate / 2)
      else rate
    let s := s.wr p 0x098 (setFld (clrBit w 63) 15 0 rate')
    let s := s.wrF p 0x090 31 16 0
    .next { s with rim := { s.rim with scrubAt := smSet 0 s.rim.scrubAt stack 0 } }

/-- The lowest remap entry in no use. -/
def State.freeSpare (s : State) (stack : Nat) : Option Nat := (List.range 8192).find? fun i => !tst (s.remapEnt stack i) 63

/-- PAGE_RETIRE: with GO, the page moves to the spare of the lowest free entry; a page already remapped leaves its spare DEAD; an uncorrectable
one goes poisoned; a full table refuses (R450).  `e` gives the errors of the read. -/
def execPageRetire (stack : Nat) (v : W64) (e : Nat) (s : State) : Host.Outcome State Fault Refusal :=
  let p := ecccPage stack
  let page := fld v 25 0
  if !s.fitted stack then .next s
  else if !tst v 63 then .next (s.wrF p 0x0A0 25 0 page)
  else
    let inj := s.isArmed p 3
    let s := if inj then s.disarm p 3 else s
    match (if inj then none else s.freeSpare stack) with
    | none => .next ((s.wr p 0x0A0 (put 62 60 3 ||| put 25 0 page)).raise p 3 inj)
    | some i =>
      let v0 := (s.pageOut stack e).1
      let v1 := (s.pageOut stack e).2
      let bad := s.poisoned stack page || decide (v0.1 = 31) || decide (v1.1 = 31) || !s.channelUp stack page
      let s := if !bad && decide (v0.1 + v1.1 ≠ 0) then ((s.pageWrong stack page 0 v0.2.2).pageWrong stack page 1 v1.2.2).bump p 0x090 63 32 1 else s
      let data := s.celLd stack (page * 2048) 2048
      let s := match s.spareOf stack page with | some j => s.setRemap stack j (setBit (s.remapEnt stack j) 61) | none => s
      let s := s.stBytes (cellarEA stack ((reservePage + i) * 2048)) data
      let s := s.setRemap stack i (put 63 63 1 ||| put 62 62 (b2n bad) ||| put 25 0 page)
      let s := if bad then s.poisonPage stack page else s
      let s := (s.watchDrop stack page).wr p 0x0A0 (put 62 60 (if bad then 2 else 1) ||| put 25 0 page)
      .next ((s.raise p 2 false).survTouch true)

/-- ECC_REMAP_WRITE: the selected entry set while every region of the stack is disabled, unless two valid entries would name one page
(R451). -/
def execEccRemapWrite (stack : Nat) (v : W64) (s : State) : Host.Outcome State Fault Refusal :=
  let p := ecccPage stack
  let i := s.rdF p 0x0A8 12 0
  let v := v &&& 0xE000000003FFFFFF
  let twice := tst v 63 && !tst v 61 &&
    (match s.spareOf stack (fld v 25 0) with | some j => decide (j ≠ i) | none => false)
  if s.anyRegion stack || twice then .next (s.raise p 5 false)
  else
    let s := s.setRemap stack i v
    if tst v 63 && !tst v 61 && tst v 62 then .next (s.poisonPage stack (fld v 25 0)) else .next s

/-! ### The incident log -/

/-- LOG_HEAD_WRITE: records released; a HEAD that passes TAIL is dropped, with ECC_ACCESS_REFUSED in the ECC page of the stack that holds the
log (R448). -/
def execLogHeadWrite (v : W64) (s : State) : Host.Outcome State Fault Refusal :=
  let p := gp .eccg
  let head := s.rdF p 0x098 18 0
  let tail := s.rdF p 0x0A0 18 0
  let h := fld v 18 0
  if (h + 524288 - head) % 524288 ≤ (tail + 524288 - head) % 524288 then .next (s.wr p 0x098 (put 18 0 h))
  else .next (s.raise (ecccPage (s.rdF p 0x088 47 37)) 5 false)

end Sys2Proof.Machine
end

