-- ==== Sys2Proof/Machine/Operands.lean ====
section
/-!
DEFINITION. The Brick instruction word, its operand forms, what makes a word legal, and the issue intervals and latencies (R80 to R118).
-/

namespace Sys2Proof.Machine

/-- The fields of an instruction word (R80). -/
structure Ins where
  op    : Nat
  fmt   : Nat
  a     : Nat
  b     : Nat
  c     : Nat
  d     : Nat
  aux   : Nat
  pmode : Nat
  preg  : Nat
  wait  : Nat
  last  : Bool
  rep   : Nat
  imm   : Nat
  deriving DecidableEq, Repr

/-- The fields of a word (R80, R109). -/
def decodeIns (w : W64) : Ins :=
  { op := fld w 63 56, fmt := fld w 55 52, a := fld w 51 46, b := fld w 45 40, c := fld w 39 34, d := fld w 33 28
    aux := fld w 27 20, pmode := fld w 19 18, preg := fld w 17 13, wait := fld w 12 7, last := tst w 6, rep := fld w 5 0
    imm := fld w 51 34 }

/-- The NOP word with END set that fills the slots after the highest filled one (R84). -/
def nopEnd : W64 := put 51 46 0x3F ||| put 45 40 0x3F ||| put 39 34 0x3F ||| put 33 28 0x3F ||| put 6 6 1

/-- Bits `hi:lo` of AUX. -/
def Ins.auxF (i : Ins) (hi lo : Nat) : Nat := (i.aux >>> lo) % 2 ^ (hi + 1 - lo)

/-- The element format of an instruction; FP32 where FMT is unused. -/
def Ins.fm (i : Ins) : Fmt := (Fmt.ofCode i.fmt).getD .fp32

/-- How an opcode uses a source field: unused, any source, a general register, a pop code, a pop code or None, or a number of its own
(R81, R95, R98, R100, R116). -/
inductive SrcUse where
  | no | any | reg | pop | popNone | own
  deriving DecidableEq, Repr

/-- How an opcode uses DST: unused, any destination, a register, an output queue, or a scale queue to pop (R82, R100, R116). -/
inductive DstUse where
  | no | any | reg | oq | pop
  deriving DecidableEq, Repr

/-- A row of the opcode table (R95): the FMT codes allowed, the use of each field, the AUX bits used, and whether PMODE 0b11 is allowed
(R88). -/
structure OpSpec where
  fmts : List Nat
  a    : SrcUse
  b    : SrcUse
  c    : SrcUse
  d    : DstUse
  aux  : Nat
  mask : Bool
  deriving DecidableEq, Repr

/-- FP32, BF16, FP16. -/
def fmtsF : List Nat := [0, 1, 2]

/-- The formats of MAC (R95). -/
def fmtsMac : List Nat := [0, 1, 2, 3, 4, 5, 6, 7, 8, 9, 0xA, 0xB]

/-- The integer formats. -/
def fmtsI : List Nat := [0xA, 0xB, 0xC, 0xD]

/-- The formats of DRAIN and CVT (R95). -/
def fmtsCvt : List Nat := [0, 1, 2, 3, 4, 5, 0xA, 0xB, 0xC]

/-- Whether a FMT code is FP8 or MXFP8, whose AUX[7:6] overrides the variant of B (R97). -/
def isFp8Code (f : Nat) : Bool := f = 3 || f = 4 || f = 6 || f = 7

/-- A CVT to a narrower format (R108). -/
def Ins.narrow (i : Ins) : Bool :=
  match Fmt.ofCode (i.auxF 5 2) with
  | some t => decide (t.width < i.fm.width)
  | none => false

/-- The row of an opcode for the word's format (R83, R95, R97, R98, R100, R105). -/
def opSpec (i : Ins) : Option OpSpec :=
  let mx := i.fm.isMx
  let mac (m : Nat) : OpSpec :=
    ⟨fmtsMac, .any, if i.fm.width = 4 && m = 0 then .pop else .any, if mx then .pop else .no, if mx then .pop else .no,
      0x3F ||| (if isFp8Code i.fmt then 0xC0 else 0), false⟩
  match i.op with
  | 0x00 => some ⟨[0], .no, .no, .no, .no, 0, false⟩
  | 0x01 => some ⟨[0], .reg, .no, .no, .no, 0x1F, false⟩
  | 0x02 => some ⟨[0], .no, .no, .no, .no, 0x03, false⟩
  | 0x03 => some ⟨[0], .no, .no, .no, .no, 0, false⟩
  | 0x04 | 0x05 => some ⟨[0], .no, .no, .no, .no, 0x3F, false⟩
  | 0x10 | 0x11 => some (mac 0)
  | 0x12 | 0x13 => some (mac 1)
  | 0x14 | 0x15 => some ⟨[1, 2, 3, 4, 5, 0xA], .any, .any, .any, .no, 0x3F, false⟩
  | 0x18 => some ⟨[0, 1, 2, 3, 4, 0xA], .any, .any, .reg, .no,
      0x1F ||| (if i.fmt = 3 || i.fmt = 4 || i.fmt = 0xA then 0x20 else 0) ||| (if i.fmt = 3 || i.fmt = 4 then 0xC0 else 0), false⟩
  | 0x19 => some ⟨[0, 1, 2, 3, 4, 0xA], .any, .no, .reg, .no, 0x1F, false⟩
  | 0x1A => some ⟨[0], .any, .any, .no, .no, 0x1F, false⟩
  | 0x1B => some ⟨[0], .no, .no, .no, .any, 0x1F, false⟩
  | 0x1C => some ⟨[0], .no, .no, .reg, .any, 0x7F, false⟩
  | 0x20 => some ⟨[0], .no, .no, .no, .no, 0x07, false⟩
  | 0x21 | 0x22 => some ⟨fmtsCvt, .no, .no, .no, .any, 0xFF, false⟩
  | 0x23 => some ⟨[6, 7, 8, 9], .no, .no, .reg, .any, 0x7F, false⟩
  | 0x30 => some ⟨fmtsF, .any, .any, .any, .any, 0x03, true⟩
  | 0x31 | 0x32 | 0x33 => some ⟨fmtsF, .any, .any, .no, .any, 0x03, true⟩
  | 0x34 | 0x35 => some ⟨fmtsF, .any, .any, .no, .any, 0, true⟩
  | 0x36 | 0x37 => some ⟨fmtsF, .any, .no, .no, .any, 0, true⟩
  | 0x38 => some ⟨fmtsF, .any, .any, .no, .any, 0x07, true⟩
  | 0x39 => some ⟨[0, 1, 2, 3, 4, 5, 0xA, 0xB, 0xC, 0xD], .any, .any, .any, .any, 0, true⟩
  | 0x40 => some ⟨fmtsCvt, .any, if i.narrow then .own else .no, .no, if i.narrow then .reg else .any, 0x3F, true⟩
  | 0x50 | 0x51 | 0x52 | 0x53 | 0x54 | 0x55 => some ⟨[0, 1], .any, .no, .no, .any, 0, false⟩
  | 0x60 | 0x61 | 0x62 | 0x63 | 0x64 | 0x65 | 0x66 | 0x67 | 0x68 | 0x69 | 0x6A =>
    some ⟨fmtsI, .any, .any, .no, .any, 0, true⟩
  | 0x6B => some ⟨fmtsI, .any, .any, .no, .any, 0x07, true⟩
  | 0x6C => some ⟨[0], .any, .no, .no, .any, 0, false⟩
  | 0x6D => some ⟨[0], .own, .own, .own, .reg, 0x03, false⟩
  | 0x70 => some ⟨[0], .reg, .no, .no, .any, 0xFF, false⟩
  | 0x71 => some ⟨[0], .reg, .any, .no, .no, 0xFF, false⟩
  | 0x72 => some ⟨[0xA], .any, .no, .no, .any, 0x07, false⟩
  | 0x80 => some ⟨[0], .any, .no, .no, .reg, 0x07, false⟩
  | 0x81 => some ⟨[0], .any, .any, .no, .no, 0x07, false⟩
  | 0x82 => some ⟨[0], .any, .no, .no, .reg, 0x07, false⟩
  | 0x83 => some ⟨[0], .any, .reg, .no, .reg, 0x07, false⟩
  | 0x84 => some ⟨[0], .any, .any, .no, .reg, 0, false⟩
  | 0x85 => some ⟨[0], .any, .any, .reg, .no, 0, false⟩
  | 0x90 => some ⟨[1, 2, 3, 4, 5], .any, .any, .no, .any, 0x03, false⟩
  | 0xA0 => some ⟨[0], .no, .no, .no, .any, 0x01, false⟩
  | 0xA1 => some ⟨[0xA], .no, .no, .no, .any, 0xFF, false⟩
  | 0xB0 => some ⟨[0], .pop, .pop, .no, .no, 0, false⟩
  | 0xB1 => some ⟨[0], .pop, .pop, .popNone, .oq, 0, false⟩
  | _ => none

/-- Whether a source field is legal (R81, R83, R84). -/
def srcOk : SrcUse → Nat → Bool
  | .no, v => v = 0x3F
  | .any, v => decide (v ≤ 0x27) || v = 0x3E
  | .reg, v => decide (v ≤ 0x1F)
  | .pop, v => decide (0x20 ≤ v ∧ v ≤ 0x23)
  | .popNone, v => decide (0x20 ≤ v ∧ v ≤ 0x23) || v = 0x3F
  | .own, _ => true

/-- Whether DST is legal (R82 to R84); None takes no result. -/
def dstOk : DstUse → Nat → Bool
  | .no, v => v = 0x3F
  | .any, v => decide (v ≤ 0x22) || v = 0x3F
  | .reg, v => decide (v ≤ 0x1F) || v = 0x3F
  | .oq, v => decide (0x20 ≤ v ∧ v ≤ 0x22)
  | .pop, v => decide (0x20 ≤ v ∧ v ≤ 0x23)

/-- The m × n shape of a multiply-accumulate (R97). -/
def macShape (f : Fmt) : Nat × Nat :=
  match f.width with
  | 4 => (16, 8) | 8 => (8, 8) | 16 => (4, 4) | _ => (2, 2)

/-- The m × n shape of STKMAC (R105). -/
def stkShape (f : Fmt) : Nat × Nat :=
  match f.width with
  | 8 => (8, 4) | 16 => (4, 4) | _ => (2, 2)

/-- The output words an issue writes to DST (R92, R105, R107, R108, R113, R114, R115). -/
def Ins.words (i : Ins) : Nat :=
  match i.op with
  | 0x1B => 2
  | 0x23 => 32 / i.fm.lanes
  | 0x40 =>
    match Fmt.ofCode (i.auxF 5 2) with
    | some t => if t.width ≤ i.fm.width then 1 else t.width / i.fm.width
    | none => 1
  | 0x80 | 0x83 => i.auxF 2 0 + 1
  | 0x82 => 8
  | 0x84 => 4
  | 0x90 => if i.auxF 1 0 = 2 then 1 else 2
  | 0xA0 => i.auxF 0 0 + 1
  | _ => 1

/-- The accumulators an opcode reads or writes: first and number (R97, R101, R102, R104 to R107, R118). -/
def Ins.accs (i : Ins) : Nat × Nat :=
  let base := 2 * i.auxF 5 0
  match i.op with
  | 0x10 | 0x11 | 0x14 | 0x15 => (base, (macShape i.fm).1 * (macShape i.fm).2)
  | 0x12 | 0x13 => (base, 1)
  | 0x18 => (4 * i.auxF 4 0, 4 * ((stkShape i.fm).1 * (stkShape i.fm).2))
  | 0x19 => (4 * i.auxF 4 0, 4 * i.fm.lanes)
  | 0x1A | 0x1B => (4 * i.auxF 4 0, 4)
  | 0x1C => (4 * i.auxF 6 2, 8)
  | 0x20 => if i.auxF 2 2 = 1 then (0, 128) else (32 * i.auxF 1 0, 32)
  | 0x21 | 0x22 => (2 * i.auxF 7 2, i.fm.lanes)
  | 0x23 => (32 * i.auxF 6 5, 32)
  | _ => (0, 0)

/-- The cases an opcode adds to "refused at load" (R86, R87, R97, R101, R103, R105, R106, R108, R111, R113, R114). -/
def Ins.extraOk (i : Ins) (stepped : Bool) : Bool :=
  match i.op with
  | 0x01 | 0x02 => i.rep = 0
  | 0x10 | 0x11 | 0x12 | 0x13 | 0x18 =>
    decide (i.accs.1 + i.accs.2 ≤ 128) && !((isFp8Code i.fmt) && i.auxF 7 6 = 3)
  | 0x14 | 0x15 | 0x19 | 0x1A | 0x1B | 0x1C | 0x21 | 0x22 => decide (i.accs.1 + i.accs.2 ≤ 128)
  | 0x38 | 0x6B => decide (i.auxF 2 0 < 6)
  | 0x40 =>
    match Fmt.ofCode (i.auxF 5 2) with
    | some t => !t.isMx && t != .int64 && (!i.narrow || decide (i.b ≤ 7 ∧ (i.b + 1) * i.fm.lanes ≤ t.lanes))
    | none => false
  | 0x81 => if 0x20 ≤ i.b ∧ i.b ≤ 0x27 then i.auxF 2 0 = 0 else decide (0x1F < i.b) || decide (i.b + i.auxF 2 0 ≤ 31)
  | 0x85 => decide (i.c + 3 ≤ 31)
  | 0x90 => decide (i.auxF 1 0 < 3) && !(stepped && i.auxF 1 0 = 2)
  | _ => true

/-- Whether a word is one that a context load accepts (R83, R84, R88, R95). -/
def wordOk (stepped : Bool) (w : W64) : Bool :=
  let i := decodeIns w
  match opSpec i with
  | none => false
  | some o =>
    o.fmts.contains i.fmt && srcOk o.a i.a && srcOk o.b i.b && srcOk o.c i.c && dstOk o.d i.d
      && decide (i.aux &&& (0xFF ^^^ o.aux) = 0) && (i.pmode != 0 || i.preg = 0) && (i.pmode != 3 || o.mask)
      && (o.d = .pop || decide (0x1F < i.d) || decide (i.d + i.words ≤ 32)) && i.extraOk stepped

/-- Issue interval I (R118). -/
def Ins.interval (i : Ins) : Nat :=
  match i.op with
  | 0x18 => if i.fm.width = 8 then 2 else 4
  | 0x1C => 2
  | 0x23 | 0x84 | 0x85 => 4
  | 0x83 => i.auxF 2 0 + 1
  | _ => 1

/-- Latency L (R118); 1 where the table gives none. -/
def Ins.latency (i : Ins) : Nat :=
  match i.op with
  | 0x10 | 0x11 => if i.fmt = 0 then 5 else 4
  | 0x12 | 0x13 | 0x14 | 0x15 => 5
  | 0x18 => 8
  | 0x19 => 6
  | 0x1A | 0x1B => 3
  | 0x1C => 6
  | 0x21 | 0x22 => 3
  | 0x23 => 8
  | 0x30 | 0x31 | 0x32 | 0x33 => 4
  | 0x34 | 0x35 | 0x36 | 0x37 | 0x38 | 0x40 => 2
  | 0x50 | 0x51 | 0x52 | 0x53 => 8
  | 0x54 | 0x55 => 10
  | 0x62 => 3
  | 0x70 | 0x72 => 2
  | 0x80 => 8
  | 0x82 => 10
  | 0x83 => 8 + i.auxF 2 0
  | 0x84 => 12
  | 0x90 => 2
  | 0xA0 => 3
  | 0xA1 => 4
  | _ => 1

/-- MAC-family opcodes, whose accumulations need no hold among themselves (R91, R97 to R102). -/
def Ins.macFamily (i : Ins) : Bool := decide (0x10 ≤ i.op ∧ i.op ≤ 0x15)

/-! ### Tokens an issue takes -/

/-- Tokens an issue reads by one source code: how many, how many of them a fire pops, and whether a slot counter decides the pop, so that
a null fire leaves them (R81, R89). -/
structure Dem where
  code : Nat
  read : Nat
  pop  : Nat
  keep : Bool
  deriving DecidableEq, Repr

/-- A source read and, by a pop code, popped. -/
def dem1 (code : Nat) : Dem := ⟨code, 1, 1, false⟩

/-- The group length of MACS24 and MACS48 in issues and the window in positions (R102). -/
def macsGroup (i : Ins) : Nat × Nat := if i.op = 0x14 then (2, 4) else (4, 8)

/-- Compressed tokens of a SPXP group (R156). -/
def spxpK (i : Ins) : Nat := if i.auxF 1 0 = 0 then 2 else 4

/-- The number of A and B scale tokens taken at the first issue of a stretch (R100). -/
def scaleTokens (i : Ins) : Nat × Nat :=
  if i.fm = .mxfp4 then (2, if i.op = 0x12 ∨ i.op = 0x13 then 2 else 1) else (1, 1)

/-- What an issue takes or reads from its sources at the slot's counter positions, in the order A, B, C and the B-scale queue
(R65, R98, R100, R102, R156).  MERGE is given by R72 apart. -/
def demands (i : Ins) (n : SlotCnt) : List Dem :=
  match i.op with
  | 0x10 | 0x11 | 0x12 | 0x13 =>
    let b : Dem := if i.fm.width = 4 ∧ i.op < 0x12 then ⟨i.b, 1, n.pair % 2, true⟩ else dem1 i.b
    if i.fm.isMx ∧ n.str = 0 then
      [dem1 i.a, b, ⟨i.c, (scaleTokens i).1, (scaleTokens i).1, true⟩, ⟨i.d, (scaleTokens i).2, (scaleTokens i).2, true⟩]
    else [dem1 i.a, b]
  | 0x14 | 0x15 =>
    let g := macsGroup i
    let w := if i.fm.width = 4 then g.2 / 2 else g.2
    let fin := n.grp + 1 = g.1
    [dem1 i.a, ⟨i.b, w, if fin then w else 0, true⟩, ⟨i.c, 1, if fin then 1 else 0, true⟩]
  | 0x90 =>
    if i.auxF 1 0 = 2 then []
    else [⟨i.a, if n.grp = 0 then spxpK i else 1, 1, false⟩, ⟨i.b, 1, if n.grp + 1 = spxpK i then 1 else 0, true⟩]
  | 0x40 => [dem1 i.a]
  | 0x6D => []
  | 0xB1 => []
  | _ => [dem1 i.a, dem1 i.b, dem1 i.c]

/-- Whether a source code names an input queue. -/
def isQueue (c : Nat) : Bool := decide (0x20 ≤ c ∧ c ≤ 0x27)

/-- The queue a source code names. -/
def queueOf (c : Nat) : Nat := c % 4

/-- Whether a source code pops. -/
def isPop (c : Nat) : Bool := decide (0x20 ≤ c ∧ c ≤ 0x23)

/-- The tokens of tag `k` in queue `q` that an issue in lane cycle `now` can consume, oldest first (R55, R62). -/
def Brick.consumable (b : Brick) (q k now : Nat) : List Token :=
  ((b.iqOf q).filter fun t => decide (t.tok.tag = k) && decide (t.ent < now)).map QTok.tok

/-- How many tokens of queue `q` earlier sources of the issue pop: two pop codes of one queue take successive tokens. -/
def popsBefore (ds : List Dem) (q : Nat) : Nat :=
  ((ds.filter fun d => isPop d.code && decide (queueOf d.code = q)).map Dem.pop).sum

/-- The tokens one source reads, given the sources before it. -/
def Brick.fetch (b : Brick) (before : List Dem) (k now : Nat) (d : Dem) : List Token :=
  let q := queueOf d.code
  let off := if isPop d.code then popsBefore before q else 0
  ((b.consumable q k now).drop off).take d.read

/-- The queues that lack a token the issue takes or reads, as a bit set (R65). -/
def Brick.missing (b : Brick) (k now : Nat) (empty0 : Bool) : List Dem → List Dem → Nat
  | _, [] => 0
  | before, d :: ds =>
    let here :=
      if isQueue d.code && decide ((b.fetch before k now d).length < d.read || (empty0 && queueOf d.code = 0 && 0 < d.read))
      then 2 ^ queueOf d.code else 0
    here ||| b.missing k now empty0 (before ++ [d]) ds

/-- The words each source gives: tokens, a register, or zero (R81). -/
def Brick.values (b : Brick) (k now : Nat) : List Dem → List Dem → List (List W64)
  | _, [] => []
  | before, d :: ds =>
    (if isQueue d.code then (b.fetch before k now d).map Token.data
     else if d.code ≤ 0x1F then List.replicate d.read (b.reg d.code)
     else List.replicate d.read 0) :: b.values k now (before ++ [d]) ds

/-- Whether a token that the issue reads is void (R68). -/
def Brick.anyVoid (b : Brick) (k now : Nat) : List Dem → List Dem → Bool
  | _, [] => false
  | before, d :: ds =>
    (isQueue d.code && (b.fetch before k now d).any Token.void) || b.anyVoid k now (before ++ [d]) ds

/-- The `n` oldest tokens of tag `k` taken from a queue's list. -/
def dropTag (k : Nat) : Nat → List QTok → List QTok
  | 0, l => l
  | _, [] => []
  | n + 1, t :: l => if t.tok.tag = k then dropTag k n l else t :: dropTag k (n + 1) l

/-- The Brick after the pops of its sources; with `null`, only those no slot counter decides (R89). -/
def Brick.popAll (b : Brick) (k : Nat) (null : Bool) : List Dem → Brick
  | [] => b
  | d :: ds =>
    let n := if isPop d.code && !(null && d.keep) then d.pop else 0
    (b.setIq (queueOf d.code) (dropTag k n (b.iqOf (queueOf d.code)))).popAll k null ds

/-- The registers an instruction reads or writes, for the hold of R94. -/
def Ins.regs (i : Ins) : List Nat :=
  let src (c n : Nat) : List Nat := if c ≤ 0x1F then (List.range n).map (c + ·) else []
  let own := i.op = 0x6D
  let a := if own then [] else src i.a 1
  let b := if own ∨ (i.op = 0x40 ∧ i.narrow) then [] else src i.b (if i.op = 0x81 then i.auxF 2 0 + 1 else 1)
  let c := if own then [] else src i.c (if i.op = 0x85 then 4 else 1)
  a ++ b ++ c ++ src i.d i.words ++ (if i.pmode = 0 then [] else [i.preg])

/-- Whether an instruction reads or writes a register or accumulator group to which a write is pending (R94); a group is 32
accumulators (R118). -/
def Ins.meets (i : Ins) (w : BWrite) : Bool :=
  let grp (x : Nat) : Bool := decide (0 < i.accs.2) && decide (i.accs.1 / 32 ≤ x / 32) && decide (x / 32 ≤ (i.accs.1 + i.accs.2 - 1) / 32)
  match w with
  | .reg r _ _ => i.regs.contains r
  | .accSet x _ | .accAdd x _ | .accAddI x _ | .accZero x | .accClr x => grp x
  | .stk x _ _ => grp (4 * x)
  | _ => false

end Sys2Proof.Machine
end

