-- ==== Sys2Proof/Machine/BrickIssue.lean ====
section
/-!
DEFINITION. Issue of a Brick instruction: whose turn it is, the tokens it takes, null and void fires, output room, the writes of its result
and the next slot (R65 to R69, R85 to R94, R193).
-/

namespace Sys2Proof.Machine

/-- What an issue takes from its queues: the missing queues as a bit set, the words of each source, whether a token read is void, the Brick
after the pops, whether a popped token is void, and whether an uncontrolled MERGE met two data tokens (R65, R72). -/
structure Plan where
  missing : Nat
  vals    : List (List W64)
  void    : Bool
  both    : Bool
  after   : Brick
  deriving DecidableEq, Repr

/-- What a fire works from: the word, the Brick, the slot's counters, the source words, the draws of R73 and open values. -/
structure FireIn where
  ins   : Ins
  br    : Brick
  cnt   : SlotCnt
  vals  : List (List W64)
  stepped : Bool
  room  : Nat
  now   : Nat
  draws : List W64
  void  : Bool
  seedN : Nat

/-- What a fire gives: words for DST with the bits of a register they keep and the lane width of PMODE 0b11, tokens placed in named output
queues (none is void), other writes, the new counters, a branch, bank accesses, the context a FOLD names, and whether issue stops. -/
structure FireOut where
  words : List W64
  keep  : W64
  laneW : Nat
  oqs   : List (Nat × Option W64)
  extra : List BWrite
  cnt   : SlotCnt
  jump  : Option Nat
  reqs  : List BankReq
  fold  : Option Nat
  stop  : Bool

/-- A result of words for DST only. -/
def FireIn.out (x : FireIn) (ws : List W64) : FireOut :=
  { words := ws, keep := 0, laneW := x.ins.fm.width, oqs := [], extra := [], cnt := x.cnt, jump := none, reqs := [],
    fold := none, stop := false }

/-- A result of register, accumulator or Cubby writes only. -/
def FireIn.write (x : FireIn) (ws : List BWrite) : FireOut := { x.out [] with extra := ws }

/-- The first word of source `k`. -/
def FireIn.val (x : FireIn) (k : Nat) : W64 := ((x.vals.getD k []).getD 0 0)

/-- An open value of this fire. -/
def FireIn.open_ (x : FireIn) (k : Nat) : W64 := Config.freeAt x.seedN k

/-- Bits of the draws of a fire, as one number, draw 0 lowest (R115). -/
def FireIn.drawBits (x : FireIn) (lo n : Nat) : Nat := (packLanes 64 (x.draws.map BitVec.toNat) >>> lo) % 2 ^ n

/-- The rounding of result lane `i` of a format: RND in AUX[1:0], random bits by R115 and R128. -/
def FireIn.rnd (x : FireIn) (f : Fmt) (i : Nat) : Rounding :=
  let b := randBits f
  ⟨x.ins.aux % 2 = 1, x.ins.aux / 2 % 2 = 1, b, if x.ins.aux % 2 = 1 then x.drawBits (i * b) b else 0⟩

/-! ### Errors -/

/-- The word a BRK_ERR_WHERE captures (R76). -/
def brkWhere (cause unit ctx b qmask : Nat) : W64 :=
  put 63 56 cause ||| put 55 52 unit ||| put 51 50 ctx ||| put 49 44 b ||| put 43 40 qmask

/-- An error of a Brick that halts its Suite: captured with its step, raised, recorded, HALT sent (R65, R76, R79, R311). -/
def State.brkError (s : State) (room b bit cause unit ctx qmask : Nat) (injected : Bool) : State :=
  let s := s.captureStep (rp .brk room) 0x090 (brkWhere cause unit ctx b qmask) 0x098 (s.whereStep room)
  s.hitHalt .brk room bit cause injected (setBit (brkWhere cause unit ctx b qmask) 31)

/-- A Brick stopped by its own error: it stops issuing at once. -/
def State.stopErr (s : State) (room b : Nat) : State := s.modBrick room b fun x => { x with err := true }

/-! ### Landing of results -/

/-- One write of a result that landed at the end of lane cycle `t` (R91, R97, R99, R105, R139). -/
def Brick.landOne (b : Brick) (t : Nat) : BWrite → Brick
  | .reg i mask v => b.setReg i ((b.reg i &&& ~~~ mask) ||| (v &&& mask))
  | .accSet i v => (b.setAcc i v).setFlags (i / 4) .none
  | .accAdd i v => (b.setAcc i (toFp32 ((ofFp32 (b.accOf i)).add v))).setFlags (i / 4) .none
  | .accAddI i v => (b.setAcc i (b.accOf i + v)).setFlags (i / 4) .none
  | .accZero i => b.setAcc i 0
  | .accClr i => (b.setAcc i 0).setFlags (i / 4) .none
  | .stk i n f =>
    let r := stockAdd (b.stock i) n
    let g := (b.flagsOf i).or f
    (b.setStock i r.1).setFlags i { g with ovf := g.ovf || r.2 }
  | .cubby w v => b.setCubby w v
  | .oq q t' => b.setOq q (b.oqOf q ++ [⟨t', t⟩])

/-- The writes of one result. -/
def Brick.land (b : Brick) (p : Pend) : Brick := p.ws.foldl (fun b w => b.landOne (p.land + p.delay) w) b

/-- Whether a result has landed before lane cycle `now`. -/
def Pend.landed (p : Pend) (now : Nat) : Bool := p.wait = 0 && decide (p.land + p.delay < now)

/-- Insertion by landing cycle, later-issued after (R93). -/
def insPend (p : Pend) : List Pend → List Pend
  | [] => [p]
  | q :: l => if p.land + p.delay < q.land + q.delay ∨ (p.land + p.delay = q.land + q.delay ∧ p.id < q.id) then p :: q :: l else q :: insPend p l

/-- Results in the order they land. -/
def sortPend (l : List Pend) : List Pend := l.foldl (fun acc p => insPend p acc) []

/-- Whether INSTRUCTION_RESULT has still to check a result: an injection is armed on it (R432). -/
def Pend.checked (p : Pend) : Bool := p.inj = 0

/-- Every checked result that landed before `now` written, in landing order. -/
def Brick.settle (b : Brick) (now : Nat) : Brick :=
  let due := sortPend (b.pend.filter fun p => p.landed now && p.checked)
  let b' := due.foldl Brick.land b
  { b' with pend := b'.pend.filter fun p => !(p.landed now && p.checked) }

/-! ### Output room -/

/-- The output queues a destination names (R82). -/
def dstQueues (d : Nat) : List Nat := if d = 0x20 then [0] else if d = 0x21 then [1] else if d = 0x22 then [0, 1] else []

/-- The output queues an instruction names; STEER's are fixed (R95). -/
def Ins.queues (i : Ins) : List Nat := if i.op = 0xB0 then [0, 1] else if i.macFamily then [] else dstQueues i.d

/-- Slots of an output queue reserved by issued instructions (R92). -/
def Brick.reserved (b : Brick) (q : Nat) : Nat :=
  (b.pend.map fun p => (p.ws.filter fun w => match w with | .oq r _ => r = q | _ => false).length).sum

/-- Free slots of output queue `q` at issue (R63, R66, R92).  In a stepped Suite the token the queue presents in this cycle leaves it, and
its slot can take a token entering at the end of the cycle (R55, R63). -/
def Brick.free (b : Brick) (q now : Nat) (stepped : Bool) : Nat :=
  let l := b.oqOf q
  let leaves := stepped && smGet 0 b.taken (5 + q) != now + 1 && (match l with | t :: _ => decide (t.ent < now) | [] => false)
  4 - (l.length - b2n leaves + b.reserved q)

/-! ### Whose turn it is -/

/-- A Brick whose active context's next instruction has opcode `op` and may issue in this lane cycle: the Suite runs and is not frozen, the
Brick is started and in no fold, stop or error, its slot is valid, and its placement by R85 has come (R65, R66, R85). -/
structure Turn where
  suite : Nat
  u     : Suite
  br    : Brick
  ctx   : Ctx
  ins   : Ins

/-- The Brick's turn, if it has one; results that have landed are written first. -/
def State.turn (s : State) (room b op : Nat) : Option Turn :=
  match s.suiteOf room with
  | none => none
  | some i =>
    match s.suite i with
    | none => none
    | some u =>
      let br := (s.brick room b).settle u.now
      let c := br.ctx br.active
      let ins := decodeIns (smGet nopEnd c.code c.ip)
      if u.issuing && !s.dark room && br.started && !br.stopped && !br.err && br.fold.isNone && br.issued != some u.now && c.valid
          && decide (ins.op = op) && (if u.mode = 0 then br.due = u.now else decide (br.due ≤ u.now)) then
        some ⟨i, u, br, c, ins⟩
      else none

/-- The predicate of R88; PMODE 0b11 always fires. -/
def Brick.pred (b : Brick) (i : Ins) : Bool :=
  if i.pmode = 1 then tst (b.reg i.preg) 0 else if i.pmode = 2 then !tst (b.reg i.preg) 0 else true

/-- The lane mask of R88 for lanes `w` wide: all ones where the lane is on. -/
def laneMask (w : Nat) (m : W64) : W64 :=
  ofLanes w ((List.range (64 / w)).map fun i => if (lane w m i).testBit (w - 1) then 2 ^ w - 1 else 0)

/-! ### Plans -/

/-- The plan of an instruction with fixed sources (R65, R98, R100, R102, R156). -/
def planFixed (br : Brick) (i : Ins) (n : SlotCnt) (now : Nat) (null empty0 : Bool) : Plan :=
  let ds := demands i n
  { missing := br.missing br.active now empty0 [] ds
    vals := br.values br.active now [] ds
    void := br.anyVoid br.active now [] ds
    both := false
    after := br.popAll br.active null ds }

/-- The first consumable token of a queue with its entry cycle. -/
def Brick.head (b : Brick) (q k now : Nat) : Option QTok :=
  (b.iqOf q).find? fun t => decide (t.tok.tag = k) && decide (t.ent < now)

/-- A queue with one token of tag `k` taken. -/
def Brick.pop1 (b : Brick) (q k : Nat) : Brick := b.setIq q (dropTag k 1 (b.iqOf q))

/-- The bit of a queue in the set of missing queues. -/
def missBit (q : Nat) (t : Option QTok) : Nat := if t.isNone then 2 ^ q else 0

/-- The plan of MERGE (R72); the word passed through is the first of source 0, and `void` says that it is void. -/
def planMerge (br : Brick) (i : Ins) (now : Nat) (stepped empty0 : Bool) : Plan :=
  let k := br.active
  let hd (q : Nat) : Option QTok := if empty0 && q = 0 then none else br.head q k now
  let qa := queueOf i.a
  let qb := queueOf i.b
  if i.c ≠ 0x3F then
    let qc := queueOf i.c
    match hd qc with
    | none => ⟨2 ^ qc, [], false, false, br⟩
    | some ct =>
      let br1 := br.pop1 qc k
      let q := if tst ct.tok.data 0 then qb else qa
      let sel := if empty0 && q = 0 then none else br1.head q k now
      match sel with
      | none => ⟨2 ^ q, [], false, false, br⟩
      | some t => ⟨0, [[t.tok.data]], ct.tok.void || t.tok.void, false, br1.pop1 q k⟩
  else if stepped then
    let ta := hd qa
    let tb := if qa = qb then (if empty0 && qb = 0 then none else (br.pop1 qa k).head qb k now) else hd qb
    match ta, tb with
    | some x, some y =>
      { missing := 0
        vals := [[if x.tok.void then y.tok.data else x.tok.data]]
        void := x.tok.void && y.tok.void
        both := !x.tok.void && !y.tok.void
        after := (br.pop1 qa k).pop1 qb k }
    | _, _ => ⟨missBit qa ta ||| missBit qb tb, [], false, false, br⟩
  else
    match hd qa, hd qb with
    | some x, some y =>
      if x.ent < y.ent ∨ (x.ent = y.ent ∧ qa ≤ qb) then ⟨0, [[x.tok.data]], x.tok.void, false, br.pop1 qa k⟩
      else ⟨0, [[y.tok.data]], y.tok.void, false, br.pop1 qb k⟩
    | some x, none => ⟨0, [[x.tok.data]], x.tok.void, false, br.pop1 qa k⟩
    | none, some y => ⟨0, [[y.tok.data]], y.tok.void, false, br.pop1 qb k⟩
    | none, none => ⟨2 ^ qa ||| 2 ^ qb, [], false, false, br⟩

/-- The mask bits, packed elements and counters of one bitmask fire of SPXP (R114, R153): the mask word used, the elements still unused of
A's first token, and how many tokens of A the fire needs and pops. -/
def planMask (br : Brick) (i : Ins) (n : SlotCnt) (now : Nat) : Plan :=
  let k := br.active
  let m := i.fm.lanes
  let word (c : Nat) (j : Nat) : Option W64 :=
    if isQueue c then ((br.consumable (queueOf c) k now)[j]?).map Token.data
    else some (if c ≤ 0x1F then br.reg c else 0)
  match word i.b 0 with
  | none => ⟨2 ^ queueOf i.b, [], false, false, br⟩
  | some mw =>
    let bits := (List.range m).filter fun j => tst mw (n.mbit + j)
    let need := n.mel + bits.length
    let a0 := word i.a 0
    let a1 := word i.a 1
    if (0 < bits.length ∧ a0.isNone) ∨ (m < need ∧ a1.isNone) then ⟨2 ^ queueOf i.a, [], false, false, br⟩
    else
      let popA := isPop i.a && decide (m ≤ need)
      let popB := isPop i.b && decide (64 ≤ n.mbit + m)
      let br1 := if popA then br.pop1 (queueOf i.a) k else br
      let br2 := if popB then br1.pop1 (queueOf i.b) k else br1
      ⟨0, [[mw], [a0.getD 0, a1.getD 0]], false, false, br2⟩

/-- The plan of an instruction. -/
def planOf (br : Brick) (i : Ins) (n : SlotCnt) (now : Nat) (null stepped empty0 : Bool) : Plan :=
  if i.op = 0xB1 then planMerge br i now stepped empty0
  else if i.op = 0x90 ∧ i.auxF 1 0 = 2 then planMask br i n now
  else planFixed br i n now null empty0

/-! ### The issue -/

/-- The slot issued after slot `ip` (R85, R86). -/
def nextSlot (i : Ins) (ip : Nat) (jump : Option Nat) : Nat :=
  match jump with
  | some j => j % 32
  | none => if i.last ∨ ip = 31 then 0 else ip + 1

/-- A context's word at a slot (R84). -/
def Ctx.word (c : Ctx) (ip : Nat) : W64 := smGet nopEnd c.code ip

/-- The Brick after an issue at lane cycle `now`: FIRE_COUNT, counters of the slot, position and placement of the next issue
(R85, R86, R193). -/
def Brick.advance (b : Brick) (i : Ins) (cnt : SlotCnt) (jump : Option Nat) (now : Nat) : Brick :=
  let c := b.ctx b.active
  let again := jump.isNone && decide (b.rep < i.rep)
  let ip' := if again then c.ip else nextSlot i c.ip jump
  let wait := if again then 0 else (decodeIns (c.word ip')).wait
  let c' := { c with ip := ip', fire := c.fire + 1, cnts := smSet .fresh c.cnts c.ip cnt }
  { b.setCtx b.active c' with
    rep := if again then b.rep + 1 else 0, due := now + i.interval + wait, issued := some now, wfor := 0, lwait := .no }

/-- A void token: what its data bits hold is open. -/
def voidTok (seedN k tag : Nat) : Token := mkToken (Config.freeAt seedN k) tag true

/-- The tag stamped on tokens entering output queue `q` under context `k` (R52). -/
def Brick.oqTag (b : Brick) (k q : Nat) : Nat := if q = 0 then fld (b.laneSet k) 33 32 else fld (b.laneSet k) 35 34

/-- The writes of words into DST (R82, R90): registers upward from DST with off lanes kept, or tokens with off lanes zero. -/
def dstWrites (br : Brick) (i : Ins) (o : FireOut) : List BWrite :=
  let on := if i.pmode = 3 then laneMask o.laneW (br.reg i.preg) else ~~~ (0 : W64)
  if i.d ≤ 0x1F then
    (List.range o.words.length).map fun k => .reg (i.d + k) (on &&& ~~~ o.keep) (o.words.getD k 0)
  else
    (dstQueues i.d).flatMap fun q => o.words.map fun w => .oq q (mkToken (w &&& on) (br.oqTag br.active q) false)

/-- The void tokens a void or null fire writes (R68, R89). -/
def voidWrites (br : Brick) (i : Ins) (seedN : Nat) : List BWrite :=
  i.queues.flatMap fun q => (List.range i.words).map fun k => .oq q (voidTok seedN (16 * q + k) (br.oqTag br.active q))

/-- A result put among the results in flight, if it writes anything or awaits Shelf words. -/
def Brick.addPend (b : Brick) (i : Ins) (now inj wait : Nat) (ws : List BWrite) : Brick :=
  if ws = [] ∧ wait = 0 then b
  else { b with
    pend := b.pend ++ [{ id := b.nextId, land := now + i.latency - 1, ctx := b.active, op := i.op, wait, delay := 0, inj, ws }]
    nextId := b.nextId + 1 }

/-- The step value of the generator (R73). -/
def drawStep (u : Suite) (c : Ctx) : W64 := if u.mode = 0 then u.step else c.fire

/-- brick_y × 1,024 + brick_x of a Brick (R8, R73). -/
def gridIdx (room b : Nat) : Nat := (8 * roomY room + b / 8) * 1024 + 8 * roomX room + b % 8

/-- The draws a fire may use: 0 to 15 (R73, R128). -/
def fireDraws (u : Suite) (c : Ctx) (ctx room b : Nat) : List W64 :=
  (List.range 16).map fun d => philoxDraw u.seed (gridIdx room b) (drawStep u c) ctx d

/-- Whether an opcode's result passes a residue check (R141). -/
def residueOp (op : Nat) : Bool :=
  decide (0x10 ≤ op ∧ op ≤ 0x1A) || decide (0x30 ≤ op ∧ op ≤ 0x33) || decide (0x60 ≤ op ∧ op ≤ 0x62)

/-- Whether an opcode's result passes an exponent-duplication check (R142). -/
def expdupOp (op : Nat) : Bool := residueOp op || op = 0x40 || op = 0x21 || op = 0x22 || op = 0x23

/-- A Brick access given the number of the result it belongs to. -/
def BankReq.withPid (r : BankReq) (pid : Nat) : BankReq := { r with pid }

/-- Whether an access names Shelf lines that exist (R113). -/
def BankReq.decodes (r : BankReq) : Bool := decide (r.line < 0xC000)

/-- The Shelf offset an access reports. -/
def BankReq.off (r : BankReq) : Nat :=
  match r.rd, r.wr, r.cols with
  | e :: _, _, _ => e.2
  | _, e :: _, _ => e.1
  | _, _, e :: _ => e.2.2
  | _, _, _ => r.line * 64

/-- Accesses that do not decode: counted, with no bank-step; a read of one gives zeros and a write is dropped (R113). -/
def State.noteUnmappedAll (s : State) (room who : Nat) (rs : List BankReq) : State :=
  (rs.filter fun r => !r.decodes).foldl (fun s r => s.noteShelfUnmapped room r.off who) s

/-- The Damper class of an issue (R483): MAC-family issues by format, FP32 MAC, DOT, STKMAC and STKIN, and the others. -/
def Ins.dmpClass (i : Ins) : Nat :=
  if i.op = 0x12 ∨ i.op = 0x13 ∨ i.op = 0x18 ∨ i.op = 0x19 then 3
  else if !i.macFamily then 4
  else match i.fm with
    | .fp4 | .mxfp4 | .int4 => 0
    | .e4m3 | .e5m2 | .mxE4m3 | .mxE5m2 | .int8 | .mxint8 => 1
    | .bf16 | .fp16 => 2
    | _ => 3

/-- Counts of an issue outside its Brick: the Room's Damper cell, the Suite's progress, and BRK_VOID_FIRES (R68, R417, R483). -/
def State.countIssue (s : State) (room suite : Nat) (i : Ins) (isVoid : Bool) : State :=
  let s := s.dmpCount room i.dmpClass 1
  let s := s.modRoom room fun r => { r with tried := r.tried + s.dmpCost room i.dmpClass }
  let s := s.modSuite suite fun u => { u with prog := 0 }
  if isVoid then s.wr (rp .brk room) 0x0B0 (s.rd (rp .brk room) 0x0B0 + 1) else s

/-- Whether the armed injection of the missing token acts on this issue: the Suite is stepped and BRK_SEL names the Brick (R79). -/
def State.injEmpty (s : State) (room b : Nat) (stepped : Bool) : Bool :=
  stepped && s.isArmed (rp .brk room) 0 && decide (s.rdF (rp .brk room) 0x088 13 8 = b)

/-- The lowest set bit of a set of queues. -/
def lowQueue (m : Nat) : Nat := if m % 2 = 1 then 0 else if m / 2 % 2 = 1 then 1 else if m / 4 % 2 = 1 then 2 else 3

/-- The injection a MAC-family issue takes along: 1 residue, 2 exponent, 0 none (R432). -/
def State.issueInj (s : State) (room b : Nat) (i : Ins) : Nat :=
  if i.macFamily ∧ s.rdF (rp .cvu room) 0x080 13 8 = b then
    if s.isArmed (rp .cvu room) 1 then 1 else if s.isArmed (rp .cvu room) 2 then 2 else 0
  else 0

/-- What the fire of the Brick whose turn `t` is works from. -/
def Turn.fireIn (t : Turn) (room b : Nat) (p : Plan) (seedN : Nat) : FireIn :=
  { ins := t.ins, br := t.br, cnt := smGet SlotCnt.fresh t.ctx.cnts t.ctx.ip, vals := p.vals, stepped := decide (t.u.mode = 0), room, now := t.u.now
    draws := fireDraws t.u t.ctx t.br.active room b, void := p.void, seedN }

/-- The Brick accesses of a fire that name lines, under the number of its result. -/
def Turn.reqs (t : Turn) (b : Nat) (o : FireOut) (void : Bool) : List BankReq :=
  (o.reqs.filter BankReq.decodes).map fun r => { r.withPid t.br.nextId with who := b, void := void }

/-- A null or void fire: it pops and advances as a fire does, and writes void tokens and nothing else (R68, R89). -/
def State.fireEmpty (s : State) (room b : Nat) (t : Turn) (p : Plan) (o : FireOut) (cnt : SlotCnt) (seedN : Nat) (counted : Bool) : State :=
  let br' := (p.after.addPend t.ins t.u.now 0 0 (voidWrites t.br t.ins seedN)).advance t.ins cnt none t.u.now
  ((s.setBrick room b br').modRoom room fun r => { r with reqs := r.reqs ++ t.reqs b o true }).countIssue room t.suite t.ins counted

/-- The tokens of a fire for named output queues. -/
def Turn.toks (t : Turn) (o : FireOut) (seedN : Nat) : List BWrite := o.oqs.map fun e =>
  match e.2 with
  | some w => .oq e.1 (mkToken w (t.br.oqTag t.br.active e.1) false)
  | none => .oq e.1 (voidTok seedN (16 * e.1) (t.br.oqTag t.br.active e.1))

/-- Every write of a full fire's result, in order. -/
def Turn.writes (t : Turn) (o : FireOut) (seedN : Nat) : List BWrite := o.extra ++ dstWrites t.br t.ins o ++ t.toks o seedN

/-- The accesses whose words a result awaits. -/
def FireOut.waits (o : FireOut) : Nat := ((o.reqs.filter fun r => r.decodes && (!r.rd.isEmpty || !r.cols.isEmpty))).length

/-- The Brick after a full fire (R85, R91, R193). -/
def Turn.fired (t : Turn) (p : Plan) (o : FireOut) (inj seedN : Nat) : Brick :=
  { (p.after.addPend t.ins t.u.now inj o.waits (t.writes o seedN)).advance t.ins o.cnt o.jump t.u.now with
    fold := o.fold.map fun k => (k, t.u.now + 2), stopped := o.stop }

/-- A full fire: the Brick goes on, its accesses are placed, and the issue is counted (R65, R85, R91, R206). -/
def State.fireFull (s : State) (room b : Nat) (t : Turn) (p : Plan) (o : FireOut) (seedN : Nat) : State :=
  let injM := s.issueInj room b t.ins
  let s := if injM = 0 then s else s.disarm (rp .cvu room) injM
  let mergeVoid := t.ins.op = 0xB1 && o.oqs.any fun e => e.2.isNone
  (((s.setBrick room b (t.fired p o injM seedN)).modRoom room fun r => { r with reqs := r.reqs ++ t.reqs b o false }).noteUnmappedAll room b o.reqs).countIssue
    room t.suite t.ins mergeVoid

/-- A fire: null, void or full (R65, R68, R89). -/
def State.fireTurn (s : State) (room b : Nat) (t : Turn) (p : Plan) (null : Bool) (eff : FireIn → FireOut) : State :=
  let seedN := s.free
  let s := { s with free := s.free + 1 }
  let o := eff (t.fireIn room b p seedN)
  let isVoid := decide (t.u.mode = 0) && p.void && t.ins.op != 0xB1
  if null then s.fireEmpty room b t p o (smGet SlotCnt.fresh t.ctx.cnts t.ctx.ip) seedN (isVoid && decide (p.after ≠ t.br))
  else if isVoid then s.fireEmpty room b t p o o.cnt seedN true
  else s.fireFull room b t p o seedN

/-- An issue of the Brick whose turn `t` is: a missing token, MERGE_BOTH or a full output queue is the error of a stepped Suite or the
wait of an elastic one; otherwise a null, void or full fire (R63, R65, R66, R68, R89, R94). -/
def State.issueTurn (s : State) (room b : Nat) (t : Turn) (eff : FireIn → FireOut) : State :=
  let br := t.br
  let i := t.ins
  let k := br.active
  let now := t.u.now
  let stepped : Bool := decide (t.u.mode = 0)
  let cnt := smGet SlotCnt.fresh t.ctx.cnts t.ctx.ip
  let null := !br.pred i
  let inj0 := s.injEmpty room b stepped
  let p := planOf br i cnt now null stepped inj0
  let real := planOf br i cnt now null stepped false
  let s := if inj0 ∧ p.missing ≠ real.missing then s.disarm (rp .brk room) 0 else s
  let injected := decide (p.missing ≠ real.missing)
  let full := i.queues.filter fun q => decide (br.free q now stepped < i.words)
  let held := !stepped && br.pend.any fun q => q.ws.any i.meets
  if held then s.setBrick room b { br with wfor := 2 }
  else if !stepped && null then
    (s.setBrick room b (br.advance i cnt none now)).countIssue room t.suite i false
  else if p.missing ≠ 0 then
    if stepped then ((s.setBrick room b br).brkError room b 0 1 (lowQueue p.missing) k p.missing injected).stopErr room b
    else s.setBrick room b { br with wfor := 2 }
  else if p.both ∧ !null then
    ((s.setBrick room b br).brkError room b 1 2 (queueOf i.a) k 0 false).stopErr room b
  else if full ≠ [] then
    if stepped then ((s.setBrick room b br).brkError room b 3 4 (4 + full.headD 0) k 0 false).stopErr room b
    else s.setBrick room b { br with wfor := 3 }
  else if !stepped && decide (s.dmpBars room i.dmpClass ≠ 0) then
    (s.setBrick room b { br with wfor := 2 }).modRoom room fun r =>
      { r with withheld := r.withheld ||| s.dmpBars room i.dmpClass, tried := r.tried + s.dmpCost room i.dmpClass }
  else s.fireTurn room b t p null eff

/-- The shared meaning of an issue: nothing happens where it is not the Brick's turn to issue this opcode. -/
def State.brickIssue (s : State) (room b op : Nat) (eff : FireIn → FireOut) : State :=
  match s.turn room b op with
  | none => s
  | some t => s.issueTurn room b t eff

end Sys2Proof.Machine
end

