-- ==== Sys2Proof/Machine/Special.lean ====
section
/-!
DEFINITION. The special functions (R110).  The spec bounds their error and fixes their special values; what remains is an open number of
units in the last place around the rounded value of the function.
-/

namespace Sys2Proof.Machine

/-- Integer square root by bits, from bit `n` down. -/
def isqrtBits (v : Nat) : Nat → Nat → Nat
  | 0, r => r
  | n + 1, r => if (r + 2 ^ n) * (r + 2 ^ n) ≤ v then isqrtBits v n (r + 2 ^ n) else isqrtBits v n r

/-- ⌊√v⌋ for v below 2^240. -/
def isqrt (v : Nat) : Nat := isqrtBits v 120 0

/-- ln 2 in units of 2^-96. -/
def ln2Fix : Nat := 0xB17217F7D1CF79ABC9E3B398

/-- log₂ e in units of 2^-96. -/
def log2eFix : Nat := 0x171547652B82FE1777D0FFDA0

/-- 2 / √π in units of 2^-192. -/
def erfFix : Nat := 0x120DD750429B6D11AE3A914FED7FD8688281341D7587CEA2E

/-- e^y by its series, y in units of 2^-96 below 1: the sum of the terms from `t` on. -/
def expSeries (y : Nat) : Nat → Nat → Nat → Nat
  | 0, _, _ => 0
  | n + 1, k, t => t + expSeries y n (k + 1) (t * y / 2 ^ 96 / (k + 1))

/-- 2^f in units of 2^-96, f in units of 2^-96 below 1. -/
def exp2Frac (f : Nat) : Nat := expSeries (f * ln2Fix / 2 ^ 96) 32 0 (2 ^ 96)

/-- A magnitude m × 2^e in units of 2^-p, rounded down. -/
def toFix (p : Nat) (m : Nat) (e : Int) : Nat := if 0 ≤ e + p then m <<< (e + p).toNat else m >>> (-(e + p)).toNat

/-- 2^x for a finite x. -/
def exp2Val (neg : Bool) (m : Nat) (e : Int) : Val :=
  let a : Int := toFix 96 m e
  let x : Int := if neg then -a else a
  .fin false (exp2Frac (x % (2 ^ 96 : Nat)).toNat) (x / (2 ^ 96 : Nat) - 96)

/-- The fraction bits of log₂ y by repeated squaring, y in units of 2^-96 from 1 up to 2. -/
def log2Bits : Nat → Nat → Nat → Nat
  | 0, _, acc => acc
  | n + 1, y, acc =>
    let q := y * y / 2 ^ 96
    if 2 ^ 97 ≤ q then log2Bits n (q / 2) (2 * acc + 1) else log2Bits n q (2 * acc)

/-- log₂ (m × 2^e) for m above 0. -/
def log2Val (m : Nat) (e : Int) : Val :=
  let k := Nat.log2 m
  let frac := log2Bits 88 (m <<< (96 - k)) 0
  let t : Int := ((k : Int) + e) * (2 ^ 88 : Nat) + frac
  .fin (decide (t < 0)) t.natAbs (-88)

/-- 1 / (m × 2^e) for m above 0. -/
def rcpVal (neg : Bool) (m : Nat) (e : Int) : Val := .fin neg (2 ^ 128 / m) (-128 - e)

/-- 1 / √(m × 2^e) for m above 0. -/
def rsqrtVal (m : Nat) (e : Int) : Val :=
  let m' := if e % 2 = 0 then m else 2 * m
  let e' := if e % 2 = 0 then e else e - 1
  .fin false (isqrt (2 ^ 200 / m')) (-100 - e' / 2)

/-- tanh of a finite nonzero magnitude. -/
def tanhVal (neg : Bool) (m : Nat) (e : Int) : Val :=
  if (Nat.log2 m : Int) + e < -12 then
    ((Val.fin neg m e).add ((((Val.fin neg m e).mul (.fin neg m e)).mul (.fin (!neg) m e)).mul (.fin false ((2 ^ 96 - 1) / 3) (-96))))
  else if 5 ≤ (Nat.log2 m : Int) + e then .fin neg (2 ^ 96 - 1) (-96)
  else
    let y := 2 * toFix 96 m e * log2eFix / 2 ^ 96
    let ex := exp2Frac (y % 2 ^ 96) <<< (y / 2 ^ 96)
    .fin neg ((ex - 2 ^ 96) * 2 ^ 96 / (ex + 2 ^ 96)) (-96)

/-- Σ (−1)^k t_k / (2k + 1) with t_k = x^(2k+1) / k!, in units of 2^-192. -/
def erfSeries (x2 : Nat) : Nat → Nat → Nat → Int
  | 0, _, _ => 0
  | n + 1, k, t => (if k % 2 = 0 then ((t / (2 * k + 1) : Nat) : Int) else -((t / (2 * k + 1) : Nat) : Int)) + erfSeries x2 n (k + 1) (t * x2 / 2 ^ 192 / (k + 1))

/-- erf of a finite nonzero magnitude. -/
def erfVal (neg : Bool) (m : Nat) (e : Int) : Val :=
  if (Nat.log2 m : Int) + e < -20 then (Val.fin neg m e).mul (.fin false erfFix (-192))
  else
    let x := toFix 192 m e
    if 6 * 2 ^ 192 ≤ x then .fin neg (2 ^ 96 - 1) (-96)
    else .fin neg ((erfSeries (x * x / 2 ^ 192) 180 0 x).toNat * erfFix / 2 ^ 192) (-192)

/-- The stated FP32 bound in units of the last place, which the internal result of a BF16 lane meets too (R110). -/
def ulpBound (op : Nat) : Int :=
  match op with
  | 0x50 | 0x51 => 2 | 0x54 | 0x55 => 3 | _ => 1

/-- A magnitude code moved by a number of units, kept a finite normal magnitude or zero. -/
def moveUlps (f : FloatFmt) (a : Nat) (k : Int) : Nat := min f.maxC ((a : Int) + k).toNat

/-- The FP32 code of a finite result: an open number of units in the last place from the nearest one, within the bound of the exact value. -/
def specialNear (op : Nat) (ulps : Int) (v : Val) : Nat :=
  let c := encodeFloat ffFp32 rne v
  let a := c % 2 ^ 31
  let m := match v with | .fin _ m e => Val.fin false m e | w => w
  let below := Val.lt (decodeFloat ffFp32 a) m
  let above := Val.lt m (decodeFloat ffFp32 a)
  let lo : Int := if below then 1 - ulpBound op else -(ulpBound op)
  let hi : Int := if above then ulpBound op - 1 else ulpBound op
  c / 2 ^ 31 * 2 ^ 31 + moveUlps ffFp32 a (max lo (min hi ulps))

/-- A finite result: an FP32 result within the bound, rounded to the format where it is BF16, a subnormal flushed to zero of the same sign. -/
def specialRound (op : Nat) (fm : Fmt) (f : FloatFmt) (x : Nat) (v : Val) : Nat :=
  let r := specialNear op (Config.ulps op fm.width x) v
  let c := if fm = .bf16 then encodeFloat f rne (decodeFloat ffFp32 r) else r
  let a := c % 2 ^ (f.w - 1)
  c / 2 ^ (f.w - 1) * 2 ^ (f.w - 1) + (if a < 2 ^ f.mb then 0 else a)

/-- One lane of a special function; subnormal inputs count as zero (R110). -/
def specialLane (op : Nat) (fm : Fmt) (x : Nat) : Nat :=
  match fm.float with
  | none => 0
  | some f =>
    let nan := f.nanC.getD 0
    let inf := f.infC.getD 0
    let a := x % 2 ^ (f.w - 1)
    let s := x % 2 ^ f.w / 2 ^ (f.w - 1) * 2 ^ (f.w - 1)
    let neg := decide (0 < s)
    let one := f.bias <<< f.mb
    let v := if a < 2 ^ f.mb then Val.fin neg 0 0 else decodeFloat f x
    match op, v with
    | _, .nan => nan
    | 0x50, .inf true => 0
    | 0x50, .inf false => inf
    | 0x50, .fin n m e =>
      if !n && !(Val.lt (.fin n m e) (.fin false 128 0)) then inf
      else if Val.lt (.fin n m e) (.fin true 126 0) then 0
      else specialRound op fm f x (exp2Val n m e)
    | 0x51, .inf n => if n then nan else inf
    | 0x51, .fin n m e =>
      if m = 0 then 2 ^ (f.w - 1) + inf else if n then nan
      else if Val.eq (.fin n m e) (.fin false 1 0) then 0 else specialRound op fm f x (log2Val m e)
    | 0x52, .inf _ => s
    | 0x52, .fin n m e => if m = 0 then s + inf else specialRound op fm f x (rcpVal n m e)
    | 0x53, .inf n => if n then nan else 0
    | 0x53, .fin n m e => if m = 0 then s + inf else if n then nan else specialRound op fm f x (rsqrtVal m e)
    | _, .inf _ => s + one
    | 0x54, .fin n m e => if m = 0 then s else specialRound op fm f x (tanhVal n m e)
    | _, .fin n m e => if m = 0 then s else specialRound op fm f x (erfVal n m e)

end Sys2Proof.Machine
end

