-- ==== Sys2Proof/Machine/BrickLane.lean ====
section
/-!
DEFINITION. Element-wise, conversion, special-function and integer instructions of a Brick (R95, R103, R108 to R111).
-/

namespace Sys2Proof.Machine

/-- Every lane of the operands put through `f`: lane number and the codes of A, B and C. -/
def FireIn.lanes (x : FireIn) (f : Nat → Nat → Nat → Nat → Nat) : FireOut :=
  let w := x.ins.fm.width
  x.out [ofLanes w ((List.range x.ins.fm.lanes).map fun l => f l (lane w (x.val 0) l) (lane w (x.val 1) l) (lane w (x.val 2) l))]

/-- FMA: a × b + c per lane, rounded once (R95, R103). -/
def fmaEff (x : FireIn) : FireOut :=
  let f := x.ins.fm
  x.lanes fun l a b c => encodeElem f (x.rnd f l) (((decodeElem f a).mul (decodeElem f b)).add (decodeElem f c))

/-- ADD (R95, R103). -/
def addEff (x : FireIn) : FireOut :=
  let f := x.ins.fm
  x.lanes fun l a b _ => encodeElem f (x.rnd f l) ((decodeElem f a).add (decodeElem f b))

/-- SUB (R95, R103). -/
def subEff (x : FireIn) : FireOut :=
  let f := x.ins.fm
  x.lanes fun l a b _ => encodeElem f (x.rnd f l) ((decodeElem f a).add (decodeElem f b).neg)

/-- MUL (R95, R103). -/
def mulEff (x : FireIn) : FireOut :=
  let f := x.ins.fm
  x.lanes fun l a b _ => encodeElem f (x.rnd f l) ((decodeElem f a).mul (decodeElem f b))

/-- The canonical NaN code of a format. -/
def nanCode (f : Fmt) : Nat := encodeElem f rne .nan

/-- The order of MIN and MAX, with −0 below +0 (R103). -/
def orderedBefore (x y : Val) : Bool :=
  Val.lt x y || (Val.eq x y && (match x with | .fin n _ _ => n | .inf n => n | .nan => false))

/-- minimumNumber and maximumNumber of two codes (R103). -/
def minMax (f : Fmt) (wantMin : Bool) (a b : Nat) : Nat :=
  let x := decodeElem f a
  let y := decodeElem f b
  if x.isNan && y.isNan then nanCode f
  else if x.isNan then b
  else if y.isNan then a
  else if orderedBefore x y = wantMin then a else b

/-- MIN (R103). -/
def minEff (x : FireIn) : FireOut := x.lanes fun _ a b _ => minMax x.ins.fm true a b

/-- MAX (R103). -/
def maxEff (x : FireIn) : FireOut := x.lanes fun _ a b _ => minMax x.ins.fm false a b

/-- NEG: the sign flipped; a NaN gives the canonical NaN (R95, R103, R120). -/
def negEff (x : FireIn) : FireOut :=
  let f := x.ins.fm
  x.lanes fun _ a _ _ => if (decodeElem f a).isNan then nanCode f else a ^^^ 2 ^ (f.width - 1)

/-- ABS: the sign cleared; a NaN gives the canonical NaN (R95, R103, R120). -/
def absEff (x : FireIn) : FireOut :=
  let f := x.ins.fm
  x.lanes fun _ a _ _ => if (decodeElem f a).isNan then nanCode f else a % 2 ^ (f.width - 1)

/-- The conditions of CMP (R103). -/
def cmpCond (c : Nat) (x y : Val) : Bool :=
  let un := x.isNan || y.isNan
  match c with
  | 0 => Val.eq x y
  | 1 => !(Val.eq x y)
  | 2 => Val.lt x y
  | 3 => Val.lt x y || Val.eq x y
  | 4 => un
  | _ => !un

/-- A lane of all ones or of zero. -/
def allOnes (w : Nat) (p : Bool) : Nat := if p then 2 ^ w - 1 else 0

/-- CMP (R103). -/
def cmpEff (x : FireIn) : FireOut :=
  let f := x.ins.fm
  x.lanes fun _ a b _ => allOnes f.width (cmpCond (x.ins.auxF 2 0) (decodeElem f a) (decodeElem f b))

/-- SEL: A where the mask lane's most significant bit is set, else B (R95). -/
def selEff (x : FireIn) : FireOut :=
  x.lanes fun _ a b c => if c.testBit (x.ins.fm.width - 1) then a else b

/-- CVT: widening into several words, or narrowing into part SRC_B of a register (R108). -/
def cvtEff (x : FireIn) : FireOut :=
  let i := x.ins
  let f := i.fm
  let t := (Fmt.ofCode (i.auxF 5 2)).getD .fp32
  let code (l : Nat) : Nat := encodeElem t (x.rnd t l) (decodeElem f (lane f.width (x.val 0) l))
  if i.narrow then
    let lo := i.b * f.lanes
    let part := (List.range t.lanes).map fun l => if lo ≤ l ∧ l < lo + f.lanes then code (l - lo) else 0
    let off := (List.range t.lanes).map fun l => if lo ≤ l ∧ l < lo + f.lanes then 0 else 2 ^ t.width - 1
    { x.out [ofLanes t.width part] with keep := ofLanes t.width off, laneW := t.width }
  else
    let ws := (List.range i.words).map fun k => ofLanes t.width ((List.range t.lanes).map fun l => code (k * t.lanes + l))
    { x.out ws with laneW := t.width }

/-- The special functions (R110). -/
def specialEff (x : FireIn) : FireOut := x.lanes fun _ a _ _ => specialLane x.ins.op x.ins.fm a

/-- An integer instruction lane by lane, wrapping (R111). -/
def FireIn.ints (x : FireIn) (f : Int → Int → Int) : FireOut :=
  let w := x.ins.fm.width
  x.lanes fun _ a b _ => unsgn w (f (sgn w a) (sgn w b))

/-- IADD (R111). -/
def iaddEff (x : FireIn) : FireOut := x.ints fun a b => a + b
/-- ISUB (R111). -/
def isubEff (x : FireIn) : FireOut := x.ints fun a b => a - b
/-- IMUL: the low half of the product (R95, R111). -/
def imulEff (x : FireIn) : FireOut := x.ints fun a b => a * b
/-- IMIN, signed (R111). -/
def iminEff (x : FireIn) : FireOut := x.ints fun a b => min a b
/-- IMAX, signed (R111). -/
def imaxEff (x : FireIn) : FireOut := x.ints fun a b => max a b
/-- AND (R95). -/
def andEff (x : FireIn) : FireOut := x.out [x.val 0 &&& x.val 1]
/-- OR (R95). -/
def orEff (x : FireIn) : FireOut := x.out [x.val 0 ||| x.val 1]
/-- XOR (R95). -/
def xorEff (x : FireIn) : FireOut := x.out [x.val 0 ^^^ x.val 1]
/-- SHL by the count modulo the lane width (R95). -/
def shlEff (x : FireIn) : FireOut :=
  let w := x.ins.fm.width
  x.lanes fun _ a b _ => (a <<< (b % w)) % 2 ^ w
/-- SHR, logical, by the count modulo the lane width (R95). -/
def shrEff (x : FireIn) : FireOut :=
  let w := x.ins.fm.width
  x.lanes fun _ a b _ => a >>> (b % w)
/-- SRA, arithmetic, by the count modulo the lane width (R95). -/
def sraEff (x : FireIn) : FireOut :=
  let w := x.ins.fm.width
  x.lanes fun _ a b _ => unsgn w (sgn w a / (2 ^ (b % w) : Nat))

/-- The conditions of ICMP (R111). -/
def icmpCond (c w a b : Nat) : Bool :=
  match c with
  | 0 => a = b
  | 1 => a ≠ b
  | 2 => decide (sgn w a < sgn w b)
  | 3 => decide (sgn w a ≤ sgn w b)
  | 4 => decide (a < b)
  | _ => decide (a ≤ b)

/-- ICMP (R111). -/
def icmpEff (x : FireIn) : FireOut :=
  let w := x.ins.fm.width
  x.lanes fun _ a b _ => allOnes w (icmpCond (x.ins.auxF 2 0) w a b)

/-- MOV: 64 bits (R111). -/
def movEff (x : FireIn) : FireOut := x.out [x.val 0]

/-- LDI: an 18-bit immediate into part of a register (R109). -/
def ldiEff (x : FireIn) : FireOut :=
  let k := x.ins.auxF 1 0
  let m := x.ins.imm
  if k = 0 then x.out [BitVec.ofInt 64 (sgn 18 m)]
  else if k = 3 then { x.out [put 63 54 m] with keep := ~~~ maskOf 63 54 }
  else { x.out [put (18 * k + 17) (18 * k) m] with keep := ~~~ maskOf (18 * k + 17) (18 * k) }

/-! ### The commands -/

/-- FMA (R95). -/
def execFma (room b : Nat) (s : State) : Host.Outcome State Fault Refusal := .next (s.brickIssue room b 0x30 fmaEff)
/-- ADD (R95). -/
def execAdd (room b : Nat) (s : State) : Host.Outcome State Fault Refusal := .next (s.brickIssue room b 0x31 addEff)
/-- SUB (R95). -/
def execSub (room b : Nat) (s : State) : Host.Outcome State Fault Refusal := .next (s.brickIssue room b 0x32 subEff)
/-- MUL (R95). -/
def execMul (room b : Nat) (s : State) : Host.Outcome State Fault Refusal := .next (s.brickIssue room b 0x33 mulEff)
/-- MIN (R103). -/
def execMin (room b : Nat) (s : State) : Host.Outcome State Fault Refusal := .next (s.brickIssue room b 0x34 minEff)
/-- MAX (R103). -/
def execMax (room b : Nat) (s : State) : Host.Outcome State Fault Refusal := .next (s.brickIssue room b 0x35 maxEff)
/-- NEG (R95). -/
def execNeg (room b : Nat) (s : State) : Host.Outcome State Fault Refusal := .next (s.brickIssue room b 0x36 negEff)
/-- ABS (R95). -/
def execAbs (room b : Nat) (s : State) : Host.Outcome State Fault Refusal := .next (s.brickIssue room b 0x37 absEff)
/-- CMP (R103). -/
def execCmp (room b : Nat) (s : State) : Host.Outcome State Fault Refusal := .next (s.brickIssue room b 0x38 cmpEff)
/-- SEL (R95). -/
def execSel (room b : Nat) (s : State) : Host.Outcome State Fault Refusal := .next (s.brickIssue room b 0x39 selEff)
/-- CVT (R108). -/
def execCvt (room b : Nat) (s : State) : Host.Outcome State Fault Refusal := .next (s.brickIssue room b 0x40 cvtEff)
/-- EXP2 (R110). -/
def execExp2 (room b : Nat) (s : State) : Host.Outcome State Fault Refusal := .next (s.brickIssue room b 0x50 specialEff)
/-- LOG2 (R110). -/
def execLog2 (room b : Nat) (s : State) : Host.Outcome State Fault Refusal := .next (s.brickIssue room b 0x51 specialEff)
/-- RCP (R110). -/
def execRcp (room b : Nat) (s : State) : Host.Outcome State Fault Refusal := .next (s.brickIssue room b 0x52 specialEff)
/-- RSQRT (R110). -/
def execRsqrt (room b : Nat) (s : State) : Host.Outcome State Fault Refusal := .next (s.brickIssue room b 0x53 specialEff)
/-- TANH (R110). -/
def execTanh (room b : Nat) (s : State) : Host.Outcome State Fault Refusal := .next (s.brickIssue room b 0x54 specialEff)
/-- ERF (R110). -/
def execErf (room b : Nat) (s : State) : Host.Outcome State Fault Refusal := .next (s.brickIssue room b 0x55 specialEff)
/-- IADD (R111). -/
def execIadd (room b : Nat) (s : State) : Host.Outcome State Fault Refusal := .next (s.brickIssue room b 0x60 iaddEff)
/-- ISUB (R111). -/
def execIsub (room b : Nat) (s : State) : Host.Outcome State Fault Refusal := .next (s.brickIssue room b 0x61 isubEff)
/-- IMUL (R111). -/
def execImul (room b : Nat) (s : State) : Host.Outcome State Fault Refusal := .next (s.brickIssue room b 0x62 imulEff)
/-- AND (R95). -/
def execAnd (room b : Nat) (s : State) : Host.Outcome State Fault Refusal := .next (s.brickIssue room b 0x63 andEff)
/-- OR (R95). -/
def execOr (room b : Nat) (s : State) : Host.Outcome State Fault Refusal := .next (s.brickIssue room b 0x64 orEff)
/-- XOR (R95). -/
def execXor (room b : Nat) (s : State) : Host.Outcome State Fault Refusal := .next (s.brickIssue room b 0x65 xorEff)
/-- SHL (R95). -/
def execShl (room b : Nat) (s : State) : Host.Outcome State Fault Refusal := .next (s.brickIssue room b 0x66 shlEff)
/-- SHR (R95). -/
def execShr (room b : Nat) (s : State) : Host.Outcome State Fault Refusal := .next (s.brickIssue room b 0x67 shrEff)
/-- SRA (R95). -/
def execSra (room b : Nat) (s : State) : Host.Outcome State Fault Refusal := .next (s.brickIssue room b 0x68 sraEff)
/-- IMIN (R111). -/
def execImin (room b : Nat) (s : State) : Host.Outcome State Fault Refusal := .next (s.brickIssue room b 0x69 iminEff)
/-- IMAX (R111). -/
def execImax (room b : Nat) (s : State) : Host.Outcome State Fault Refusal := .next (s.brickIssue room b 0x6A imaxEff)
/-- ICMP (R111). -/
def execIcmp (room b : Nat) (s : State) : Host.Outcome State Fault Refusal := .next (s.brickIssue room b 0x6B icmpEff)
/-- MOV (R111). -/
def execMov (room b : Nat) (s : State) : Host.Outcome State Fault Refusal := .next (s.brickIssue room b 0x6C movEff)
/-- LDI (R109). -/
def execLdi (room b : Nat) (s : State) : Host.Outcome State Fault Refusal := .next (s.brickIssue room b 0x6D ldiEff)

end Sys2Proof.Machine
end

