-- ==== Sys2Proof/Machine/BrickMac.lean ====
section
/-!
DEFINITION. Multiply-accumulate, Stock and draining instructions of a Brick (R97 to R107, R118).
-/

namespace Sys2Proof.Machine

/-- The format of operand B: AUX[7:6] overrides the FP8 variant (R97, R101, R105). -/
def Ins.fmtB (i : Ins) : Fmt :=
  if isFp8Code i.fmt then (match i.auxF 7 6 with | 1 => .e5m2 | 2 => .e4m3 | _ => i.fm) else i.fm

/-- A product before accumulation: an integer, or an exact value (R99). -/
inductive Prod where
  | int (v : Int)
  | val (v : Val)
  deriving DecidableEq, Repr

/-- The product of lane codes `x` and `y` with the exact scale factor 2^(s_a + s_b − 254) of MX formats; a NaN scale makes NaN (R99, R103). -/
def Ins.prod (i : Ins) (x y sa sb : Nat) : Prod :=
  if i.fm = .int8 ∨ i.fm = .int4 then .int (sgn i.fm.width x * sgn i.fm.width y)
  else if i.fm.isMx then .val (((prodElem i.fm i.fmtB x y).mul (decodeE8m0 sa)).mul (decodeE8m0 sb))
  else .val (prodElem i.fm i.fmtB x y)

/-- The sum of two products, exact (R101). -/
def Prod.add : Prod → Prod → Prod
  | .int a, .int b => .int (a + b)
  | .val a, .val b => .val (a.add b)
  | .int a, .val b => .val ((Val.ofInt a).add b)
  | .val a, .int b => .val (a.add (Val.ofInt b))

/-- A product added to an accumulator, or written over it (R97, R99). -/
def Prod.write (ovr : Bool) (k : Nat) : Prod → BWrite
  | .int v => if ovr then .accSet k (BitVec.ofInt 32 v) else .accAddI k (BitVec.ofInt 32 v)
  | .val v => if ovr then .accSet k (toFp32 v) else .accAdd k v

/-- The scale tokens in use: those taken now, or those of the stretch (R100). -/
def FireIn.scales (x : FireIn) : List W64 × List W64 :=
  if x.cnt.str = 0 then (x.vals.getD 2 [], x.vals.getD 3 []) else (x.cnt.sa, x.cnt.sb)

/-- Byte `j` of a list of scale tokens, 8 to a token (R48). -/
def scaleByte (ts : List W64) (j : Nat) : Nat := lane 8 (ts.getD (j / 8) 0) (j % 8)

/-- The counters after an issue of MAC or DOT (R98, R100). -/
def FireIn.macCnt (x : FireIn) : SlotCnt :=
  let c := x.cnt
  let c := if x.ins.fm.width = 4 ∧ x.ins.op < 0x12 then { c with pair := (c.pair + 1) % 2 } else c
  if x.ins.fm.isMx then { c with str := (c.str + 1) % 32, sa := x.scales.1, sb := x.scales.2 } else c

/-- MAC and MACZ: product (i, j) to accumulator base + i × n + j (R97, R98, R100). -/
def macEff (ovr : Bool) (x : FireIn) : FireOut :=
  let i := x.ins
  let sh := macShape i.fm
  let off := if i.fm.width = 4 then 8 * (x.cnt.pair % 2) else 0
  let ws := (List.range sh.1).flatMap fun r => (List.range sh.2).map fun j =>
    (i.prod (lane i.fm.width (x.val 0) r) (lane i.fm.width (x.val 1) (off + j)) (scaleByte x.scales.1 r) (scaleByte x.scales.2 j)).write ovr
      (i.accs.1 + r * sh.2 + j)
  { x.write ws with cnt := x.macCnt }

/-- The scale of data token `n` of a stretch of DOT (R100). -/
def dotScale (f : Fmt) (ts : List W64) (n : Nat) : Nat := if f = .mxfp4 then scaleByte ts (n / 2) else scaleByte ts (n / 4)

/-- DOT and DOTZ: the exact sum of lane products to one accumulator with one rounding (R101). -/
def dotEff (ovr : Bool) (x : FireIn) : FireOut :=
  let i := x.ins
  let sa := dotScale i.fm x.scales.1 x.cnt.str
  let sb := dotScale i.fm x.scales.2 x.cnt.str
  let ps := (List.range i.fm.lanes).map fun l => i.prod (lane i.fm.width (x.val 0) l) (lane i.fm.width (x.val 1) l) sa sb
  let w := match ps with | [] => [] | p :: ps => [(ps.foldl Prod.add p).write ovr i.accs.1]
  { x.write w with cnt := x.macCnt }

/-- The set bits of a byte, ascending. -/
def setBits8 (m : Nat) : List Nat := (List.range 8).filter fun b => m.testBit b

/-- The kept positions of row `i` of a group by its metadata token, ascending, or none where the metadata is one of the cases of R159, for
which the element values are unspecified (R152). -/
def keptPos (two : Bool) (w : Nat) (md : W64) (i : Nat) : Option (List Nat) :=
  if two then
    let f := lane 4 md i
    if f % 4 < f / 4 then some [f % 4, f / 4] else none
  else
    let l := setBits8 (lane 8 md (if w = 4 then i / 2 else i))
    if l.length = 4 then some l else none

/-- MACS24 and MACS48: one issue of a sparse group (R102, R159). -/
def macsEff (x : FireIn) : FireOut :=
  let i := x.ins
  let w := i.fm.width
  let sh := macShape i.fm
  let win := x.vals.getD 1 []
  let ws := (List.range sh.1).flatMap fun r =>
    let pos := keptPos (i.op = 0x14) w ((x.vals.getD 2 []).getD 0 0) r
    (List.range sh.2).map fun j =>
      let k := i.accs.1 + r * sh.2 + j
      match pos with
      | some l =>
        let p := l.getD x.cnt.grp 0
        let b := if w = 4 then lane w (win.getD (p / 2) 0) (8 * (p % 2) + j) else lane w (win.getD p 0) j
        (i.prod (lane w (x.val 0) r) b 127 127).write false k
      | none =>
        let o := x.open_ (r * sh.2 + j)
        if i.fm.isInt then .accAddI k (o.setWidth 32) else .accAdd k (ofFp32 (o.setWidth 32))
  { x.write ws with cnt := { x.cnt with grp := (x.cnt.grp + 1) % (macsGroup i).1 } }

/-- One contribution into a Stock accumulator (R131, R132). -/
def stkWrite (a : Int) (k : Nat) (v : Val) : BWrite :=
  let e := stockEnter a v
  .stk k e.1 e.2

/-- STKMAC: exact products into Stock accumulators under the anchor (R105). -/
def stkmacEff (x : FireIn) : FireOut :=
  let i := x.ins
  let sh := stkShape i.fm
  let a := anchorOf (x.val 2)
  let off := if i.fm.width = 8 then 4 * i.auxF 5 5 else 0
  x.write ((List.range sh.1).flatMap fun r => (List.range sh.2).map fun j =>
    stkWrite a (i.auxF 4 0 + r * sh.2 + j) (prodElem i.fm i.fmtB (lane i.fm.width (x.val 0) r) (lane i.fm.width (x.val 1) (off + j))))

/-- STKIN: each lane of A into a Stock accumulator (R105). -/
def stkinEff (x : FireIn) : FireOut :=
  let i := x.ins
  let a := anchorOf (x.val 2)
  x.write ((List.range i.fm.lanes).map fun l => stkWrite a (i.auxF 4 0 + l) (decodeElem i.fm (lane i.fm.width (x.val 0) l)))

/-- STKADD: the 128-bit value of B and A added by plain integer addition (R105, R139). -/
def stkaddEff (x : FireIn) : FireOut :=
  x.write [.stk (x.ins.auxF 4 0) (x.val 1 ++ x.val 0 : BitVec 128) .none]

/-- STKDRAIN: a Stock accumulator as two words, low word first (R105). -/
def stkdrainEff (x : FireIn) : FireOut :=
  let n := x.br.stock (x.ins.auxF 4 0)
  x.out [n.setWidth 64, (n >>> 64).setWidth 64]

/-- STKCVT: two Stock accumulators as FP32 lanes of one token (R105, R138). -/
def stkcvtEff (x : FireIn) : FireOut :=
  let a := anchorOf (x.val 2)
  let k := x.ins.auxF 6 2
  let one (j : Nat) : Nat := encodeFloat ffFp32 (x.rnd .fp32 j) (stockValue a (x.br.stock (k + j)) (x.br.flagsOf (k + j)))
  x.out [ofLanes 32 [one 0, one 1]]

/-- ACCCLR: all accumulators, or one group of 32 (R118). -/
def accclrEff (x : FireIn) : FireOut :=
  x.write ((List.range x.ins.accs.2).map fun k => .accClr (x.ins.accs.1 + k))

/-- What a DRAIN reads an accumulator as (R106). -/
def Ins.accVal (i : Ins) (a : W32) : Val := if i.fm.isInt then Val.ofInt a.toInt else ofFp32 a

/-- DRAIN: accumulators converted to FMT and packed into one token (R106). -/
def drainEff (x : FireIn) : FireOut :=
  let i := x.ins
  x.out [ofLanes i.fm.width ((List.range i.fm.lanes).map fun l => encodeElem i.fm (x.rnd i.fm l) (i.accVal (x.br.accOf (i.accs.1 + l))))]

/-- DRAINC: DRAIN, and the accumulators read are cleared (R106). -/
def draincEff (x : FireIn) : FireOut :=
  { drainEff x with extra := (List.range x.ins.fm.lanes).map fun l => .accZero (x.ins.accs.1 + l) }

/-- e_max of an element format (R129). -/
def eMax : Fmt → Int
  | .mxE4m3 => 8 | .mxE5m2 => 15 | .mxfp4 => 2 | _ => 0

/-- ⌊log₂ |v|⌋ of a finite nonzero value. -/
def Val.exp2Floor : Val → Option Int
  | .fin _ m e => if m = 0 then none else some ((Nat.log2 m : Int) + e)
  | _ => none

/-- The scale code of a block (R129). -/
def mxScale (f : Fmt) (vs : List Val) : Nat :=
  if vs.any fun v => match v with | .fin .. => false | _ => true then 0xFF
  else
    match (vs.filterMap Val.exp2Floor).max? with
    | none => 127
    | some e => (max 0 (min 254 (e - eMax f + 127))).toNat

/-- MXQ: 32 accumulators as one MX block, with the scale code into a byte of a register; that byte is open where the register also takes a word
of the data (R107, R129). -/
def mxqEff (x : FireIn) : FireOut :=
  let i := x.ins
  let vs := (List.range 32).map fun e => ofFp32 (x.br.accOf (i.accs.1 + e))
  let c := mxScale i.fm vs
  let code (e : Nat) : Nat :=
    if c = 0xFF ∨ vs.all Val.isZero then 0
    else encodeElem i.fm { x.rnd i.fm e with sat := true } ((vs.getD e Val.zero).scale (127 - (c : Int)))
  let ws := (List.range i.words).map fun k => ofLanes i.fm.width ((List.range i.fm.lanes).map fun l => code (k * i.fm.lanes + l))
  let b := 8 * i.auxF 4 2
  let ws := ws.zipIdx.map fun e => if i.d + e.2 = i.c then setFld e.1 (b + 7) b (fld (x.open_ 0) 7 0) else e.1
  { x.out ws with extra := [.reg i.c (put (b + 7) b 0xFF) (put (b + 7) b c)] }

/-! ### The commands -/

/-- MAC (R97). -/
def execMac (room b : Nat) (s : State) : Host.Outcome State Fault Refusal := .next (s.brickIssue room b 0x10 (macEff false))
/-- MACZ (R97). -/
def execMacz (room b : Nat) (s : State) : Host.Outcome State Fault Refusal := .next (s.brickIssue room b 0x11 (macEff true))
/-- DOT (R101). -/
def execDot (room b : Nat) (s : State) : Host.Outcome State Fault Refusal := .next (s.brickIssue room b 0x12 (dotEff false))
/-- DOTZ (R101). -/
def execDotz (room b : Nat) (s : State) : Host.Outcome State Fault Refusal := .next (s.brickIssue room b 0x13 (dotEff true))
/-- MACS24 (R102). -/
def execMacs24 (room b : Nat) (s : State) : Host.Outcome State Fault Refusal := .next (s.brickIssue room b 0x14 macsEff)
/-- MACS48 (R102). -/
def execMacs48 (room b : Nat) (s : State) : Host.Outcome State Fault Refusal := .next (s.brickIssue room b 0x15 macsEff)
/-- STKMAC (R105). -/
def execStkmac (room b : Nat) (s : State) : Host.Outcome State Fault Refusal := .next (s.brickIssue room b 0x18 stkmacEff)
/-- STKIN (R105). -/
def execStkin (room b : Nat) (s : State) : Host.Outcome State Fault Refusal := .next (s.brickIssue room b 0x19 stkinEff)
/-- STKADD (R105). -/
def execStkadd (room b : Nat) (s : State) : Host.Outcome State Fault Refusal := .next (s.brickIssue room b 0x1A stkaddEff)
/-- STKDRAIN (R105). -/
def execStkdrain (room b : Nat) (s : State) : Host.Outcome State Fault Refusal := .next (s.brickIssue room b 0x1B stkdrainEff)
/-- STKCVT (R105). -/
def execStkcvt (room b : Nat) (s : State) : Host.Outcome State Fault Refusal := .next (s.brickIssue room b 0x1C stkcvtEff)
/-- ACCCLR (R118). -/
def execAccclr (room b : Nat) (s : State) : Host.Outcome State Fault Refusal := .next (s.brickIssue room b 0x20 accclrEff)
/-- DRAIN (R106). -/
def execDrain (room b : Nat) (s : State) : Host.Outcome State Fault Refusal := .next (s.brickIssue room b 0x21 drainEff)
/-- DRAINC (R106). -/
def execDrainc (room b : Nat) (s : State) : Host.Outcome State Fault Refusal := .next (s.brickIssue room b 0x22 draincEff)
/-- MXQ (R107). -/
def execMxq (room b : Nat) (s : State) : Host.Outcome State Fault Refusal := .next (s.brickIssue room b 0x23 mxqEff)

end Sys2Proof.Machine
end

