-- ==== Sys2Proof/Machine/BrickMisc.lean ====
section
/-!
DEFINITION. Control, Cubby, sparse-expand, random and steering instructions of a Brick, the landing of results, and writes through BRK_WIN
(R72, R78, R86, R87, R91, R109 to R116, R175, R177, R415).
-/

namespace Sys2Proof.Machine

/-- JNZ: the register less 1, and a branch when the result is nonzero (R86). -/
def jnzEff (x : FireIn) : FireOut :=
  let v := x.val 0 - 1
  { x.write [.reg x.ins.a (~~~ 0) v] with jump := if v = 0 then none else some (x.ins.auxF 4 0) }

/-- FOLD: issue of this context ends; the named context becomes active at step s + 2 (R87). -/
def foldEff (x : FireIn) : FireOut := { x.out [] with fold := some (x.ins.auxF 1 0) }

/-- STOP: issue of this context ends (R87). -/
def stopEff (x : FireIn) : FireOut := { x.out [] with stop := true }

/-- The Cubby word CLD and CST reach (R112). -/
def FireIn.cubbyIdx (x : FireIn) : Nat := ((x.val 0).toNat + x.ins.aux) % 256

/-- CLD (R112). -/
def cldEff (x : FireIn) : FireOut := x.out [x.br.cubbyOf x.cubbyIdx]

/-- CST (R112). -/
def cstEff (x : FireIn) : FireOut := x.write [.cubby x.cubbyIdx (x.val 1)]

/-- A byte of the Cubby. -/
def Brick.cubbyByte (b : Brick) (k : Nat) : Nat := lane 8 (b.cubbyOf (k / 8)) (k % 8)

/-- LUT (R112). -/
def lutEff (x : FireIn) : FireOut := x.lanes fun _ a _ _ => x.br.cubbyByte (256 * x.ins.auxF 2 0 + a)

/-- SPXP of a 2:4 or 4:8 group: the dense tokens of positions 2t and 2t + 1 of fire t (R114, R156, R159). -/
def spxpGroup (x : FireIn) : FireOut :=
  let i := x.ins
  let w := i.fm.width
  let t := x.cnt.grp
  let toks := if t = 0 then x.vals.getD 0 [] else x.cnt.sa
  let md := x.val 1
  let dense (p : Nat) : W64 := ofLanes w ((List.range i.fm.lanes).map fun l =>
    match keptPos (i.auxF 1 0 = 0) w md l with
    | some ps =>
      match ps.findIdx? (· == p) with
      | some k => lane w (toks.getD k 0) l
      | none => 0
    | none => lane w (x.open_ p) l)
  { x.out [dense (2 * t), dense (2 * t + 1)] with cnt := { x.cnt with grp := (t + 1) % spxpK i, sa := toks } }

/-- SPXP of a bitmask: one dense token from the next mask bits and packed elements (R114, R153). -/
def spxpMask (x : FireIn) : FireOut :=
  let i := x.ins
  let w := i.fm.width
  let m := i.fm.lanes
  let bit (l : Nat) : Bool := tst (x.val 0) (x.cnt.mbit + l)
  let rank (l : Nat) : Nat := ((List.range l).filter bit).length
  let elem (l : Nat) : Nat :=
    let n := x.cnt.mel + rank l
    lane w ((x.vals.getD 1 []).getD (n / m) 0) (n % m)
  { x.out [ofLanes w ((List.range m).map fun l => if bit l then elem l else 0)] with
    cnt := { x.cnt with mbit := (x.cnt.mbit + m) % 64, mel := (x.cnt.mel + rank m) % m } }

/-- SPXP (R114). -/
def spxpEff (x : FireIn) : FireOut := if x.ins.auxF 1 0 = 2 then spxpMask x else spxpGroup x

/-- RAND: draws 0 to AUX[0] (R115). -/
def randEff (x : FireIn) : FireOut := x.out ((List.range x.ins.words).map fun k => x.draws.getD k 0)

/-- RMASK: lane i all ones when byte i of draw 0 is below AUX (R115). -/
def rmaskEff (x : FireIn) : FireOut :=
  x.lanes fun l _ _ _ => allOnes 8 (decide (lane 8 (x.draws.getD 0 0) l < x.ins.aux))

/-- STEER: the data token to the queues its control token selects; a stepped Suite gets a void token where nothing is sent (R70). -/
def steerEff (x : FireIn) : FireOut :=
  let d := some (x.val 0)
  let sel := (x.val 1).toNat % 4
  let on0 := sel = 0 ∨ sel = 2
  let on1 := sel = 1 ∨ sel = 2
  let q (k : Nat) (on : Prop) [Decidable on] : List (Nat × Option W64) :=
    if on then [(k, d)] else if x.stepped then [(k, none)] else []
  { x.out [] with oqs := q 0 on0 ++ q 1 on1 }

/-- MERGE: the selected token passed through, void if it is void (R72). -/
def mergeEff (x : FireIn) : FireOut :=
  { x.out [] with oqs := (dstQueues x.ins.d).map fun q => (q, if x.void then none else some (x.val 0)) }

/-! ### Landing and the arithmetic checks -/

/-- The lane cycle up to which results have landed: all of them when the Room's Suite is not running (R186, R312). -/
def State.landTime (s : State) (room : Nat) (br : Brick) : Nat :=
  let all := br.pend.foldl (fun m p => max m (p.land + p.delay + 1)) 0
  match s.suiteOf room with
  | some i => (match s.suite i with | some u => if u.run = 2 then u.now else max u.now all | none => all)
  | none => all

/-- A Brick as the Room's decoder reads it: every checked result that has landed is written (R91). -/
def State.brickSeen (s : State) (room b : Nat) : Brick := (s.brick room b).settle (s.landTime room (s.brick room b))

/-- The word a CVU_WHERE captures (R431). -/
def cvuWhere (cause unit detail b : Nat) : W64 := put 63 56 cause ||| put 55 52 unit ||| put 51 44 detail ||| put 43 38 b

/-- An error found by the Room's CVU page: captured, raised, recorded and halting the Suite (R415, R431, R432). -/
def State.cvuError (s : State) (room bit cause unit detail b : Nat) (injected : Bool) : State :=
  let s := s.captureStep (rp .cvu room) 0x088 (cvuWhere cause unit detail b) 0x090 (s.whereStep room)
  let lo := match bit with | 0 => 48 | 1 => 32 | 2 => 32 | 3 => 32 | 6 => 0 | _ => 16
  let s := s.bump (rp .cvu room) 0x098 (lo + 15) lo 1
  s.hitHalt .cvu room bit cause injected (setBit (cvuWhere cause unit detail b) 31)

/-- A failed check of a result: nothing of it is written, the Brick stops and the Suite halts (R415). -/
def State.arithFail (s : State) (room b : Nat) (p : Pend) (bit : Nat) (injected : Bool) : State :=
  let s := s.modBrick room b fun x => { x with pend := x.pend.filter fun q => q.id ≠ p.id, err := true }
  s.cvuError room bit (bit + 1) 1 p.op b injected

/-- INSTRUCTION_RESULT: the earliest result of a Brick is checked, with `chk` 0 for agreement, 1 for a residue and 2 for an exponent
mismatch; a failed check stops the Brick, otherwise every result whose landing step is over is written (R91, R141, R142, R415). -/
def execInstructionResult (room b chk : Nat) (s : State) : Host.Outcome State Fault Refusal :=
  let br := s.brick room b
  let now := s.landTime room br
  match sortPend br.pend with
  | [] => .next s
  | p :: _ =>
    if chk = 1 ∧ residueOp p.op then .next (s.arithFail room b p 1 false)
    else if chk = 2 ∧ expdupOp p.op then .next (s.arithFail room b p 2 false)
    else if p.inj ≠ 0 ∧ p.landed now then .next (s.arithFail room b p p.inj true)
    else .next (s.setBrick room b (br.settle now))

/-! ### BRK_WIN -/

/-- Whether a Room's Suite is halted or has no arrangement loaded (R78, R212). -/
def State.suiteIdle (s : State) (room : Nat) : Bool :=
  match s.suiteOf room with
  | some i => (match s.suite i with | some u => u.run = 4 || u.run = 0 || !(s.room room).hasArr || !s.suiteLoaded u | none => true)
  | none => true

/-- A write of BRK_WIN index `k` in a space of a Brick (R78). -/
def Brick.winWrite (b : Brick) (space k : Nat) (v : W64) : Brick :=
  if space = 0 ∧ k < 32 then b.setReg k v
  else if space = 1 ∧ k < 64 then (b.setAcc (2 * k) (v.setWidth 32)).setAcc (2 * k + 1) ((v >>> 32).setWidth 32)
  else if space = 2 ∧ k < 256 then b.setCubby k v
  else if space = 3 ∧ k < 132 then
    let c := k / 33
    if k % 33 = 32 then { b with lanes := smSet 0 b.lanes c (v &&& maskOf 35 0) }
    else b.setCtx c { b.ctx c with code := smSet nopEnd (b.ctx c).code (k % 33) v }
  else b

/-- BRK_WIN_WRITE: accepted while the Suite is halted or has no arrangement; dropped with BRK_ACCESS_REFUSED otherwise; dropped without
event by a dark Room (R22, R78). -/
def execBrkWinWrite (room k : Nat) (v : W64) (s : State) : Host.Outcome State Fault Refusal :=
  if s.dark room then .next s
  else if s.suiteIdle room then
    .next (s.modBrick room (s.rdF (rp .brk room) 0x088 13 8) fun b => (b.settle (s.landTime room b)).winWrite (s.rdF (rp .brk room) 0x088 2 0) k v)
  else .next (s.raise (rp .brk room) 8 false)

/-! ### FOLD_RESUME -/

/-- FOLD_UNREADY: a stepped FOLD resumed on a slot that is not valid (R177, R202). -/
def State.foldUnready (s : State) (room b k : Nat) : State :=
  let w := put 63 56 0x21 ||| put 51 50 k ||| put 49 44 b
  let s := s.captureStep (rp .arr room) 0x0C0 w 0x0C8 (s.whereStep room)
  (s.hitHalt .arr room 5 0x21 false (setBit w 31)).stopErr room b

/-- The Brick with context `k` active, resuming at its saved next slot from lane cycle `now` (R85, R175). -/
def Brick.resume (b : Brick) (k now : Nat) : Brick :=
  let c := b.ctx k
  { b with active := k, fold := none, stopped := false, rep := 0, due := now + (decodeIns (c.word c.ip)).wait, lwait := .no }

/-- Whether slot `k` of a Room lies between its load's start step and its effective step (R177, R180). -/
def State.slotLoading (s : State) (u : Suite) (room k : Nat) : Bool :=
  match u.load with
  | some l =>
    decide (l.c ≤ u.now) && !l.out.contains room && (decide (l.phase < 3) || (s.room room).loader.isSome)
      && (if l.slot = 15 then (fld (l.hdr.getD 1 0) 31 24).testBit k else decide (l.slot = k))
  | none => false

/-- FOLD_RESUME: at step s + 2 the named context becomes active; on an unready slot a stepped Suite halts and an elastic Brick holds
(R87, R175, R177). -/
def execFoldResume (room b : Nat) (s : State) : Host.Outcome State Fault Refusal :=
  match s.suiteOf room with
  | none => .next s
  | some i =>
    match s.suite i with
    | none => .next s
    | some u =>
      let br := s.brick room b
      match br.fold with
      | none => .next s
      | some (k, at_) =>
        if !u.issuing || br.err || s.dark room || decide (u.now < at_) then .next s
        else if (br.ctx k).valid && !s.slotLoading u room k then .next (s.setBrick room b (br.resume k u.now))
        else if u.mode = 0 then .next (s.foldUnready room b k)
        else .next s

/-! ### The commands -/

/-- NOP (R95). -/
def execNop (room b : Nat) (s : State) : Host.Outcome State Fault Refusal := .next (s.brickIssue room b 0x00 fun x => x.out [])
/-- JNZ (R86). -/
def execJnz (room b : Nat) (s : State) : Host.Outcome State Fault Refusal := .next (s.brickIssue room b 0x01 jnzEff)
/-- FOLD (R87). -/
def execFold (room b : Nat) (s : State) : Host.Outcome State Fault Refusal := .next (s.brickIssue room b 0x02 foldEff)
/-- STOP (R87). -/
def execStop (room b : Nat) (s : State) : Host.Outcome State Fault Refusal := .next (s.brickIssue room b 0x03 stopEff)
/-- CLD (R112). -/
def execCld (room b : Nat) (s : State) : Host.Outcome State Fault Refusal := .next (s.brickIssue room b 0x70 cldEff)
/-- CST (R112). -/
def execCst (room b : Nat) (s : State) : Host.Outcome State Fault Refusal := .next (s.brickIssue room b 0x71 cstEff)
/-- LUT (R112). -/
def execLut (room b : Nat) (s : State) : Host.Outcome State Fault Refusal := .next (s.brickIssue room b 0x72 lutEff)
/-- SPXP (R114). -/
def execSpxp (room b : Nat) (s : State) : Host.Outcome State Fault Refusal := .next (s.brickIssue room b 0x90 spxpEff)
/-- RAND (R115). -/
def execRand (room b : Nat) (s : State) : Host.Outcome State Fault Refusal := .next (s.brickIssue room b 0xA0 randEff)
/-- RMASK (R115). -/
def execRmask (room b : Nat) (s : State) : Host.Outcome State Fault Refusal := .next (s.brickIssue room b 0xA1 rmaskEff)
/-- STEER (R70). -/
def execSteer (room b : Nat) (s : State) : Host.Outcome State Fault Refusal := .next (s.brickIssue room b 0xB0 steerEff)
/-- MERGE (R72). -/
def execMerge (room b : Nat) (s : State) : Host.Outcome State Fault Refusal := .next (s.brickIssue room b 0xB1 mergeEff)

end Sys2Proof.Machine
end

