-- ==== Sys2Proof/Machine/Lanes.lean ====
section
/-!
DEFINITION. The lane switch: routing by LANE_SET, contention, hops, checks at queues and seams (R46 to R61, R63, R79).
-/

namespace Sys2Proof.Machine

/-- The Brick beyond side `d` (0 N, 1 E, 2 S, 3 W): its Room and index, and whether the link crosses a Room border (R8, R57). -/
def beyond (room b d : Nat) : Option (Nat × Nat × Bool) :=
  let c := b % 8
  let r := b / 8
  match d with
  | 0 => if 0 < r then some (room, b - 8, false) else if 0 < roomY room then some (room - 128, b + 56, true) else none
  | 1 => if c < 7 then some (room, b + 1, false) else if roomX room < 127 then some (room + 1, b - 7, true) else none
  | 2 => if r < 7 then some (room, b + 8, false) else if roomY room < 127 then some (room + 128, b - 56, true) else none
  | _ => if 0 < c then some (room, b - 1, false) else if 0 < roomX room then some (room - 1, b + 7, true) else none

/-- B + S + D of a side of a Room, from BRK_LANE_HOP (R60). -/
def State.hopExtra (s : State) (room d : Nat) : Nat := s.rdF (rp .brk room) 0x080 (4 * d + 3) (4 * d)

/-- The input code a token leaving by side `d` arrives at (R52). -/
def arriveSrc (d : Nat) : Nat := match d with | 0 => 3 | 1 => 4 | 2 => 1 | _ => 2

/-- An enabled link of side `d`: the Brick beyond, the hop latency h, and whether it crosses a Wing seam; links across a Suite boundary
are disabled and the edge is not connected (R32, R57). -/
def State.link (s : State) (room b d : Nat) : Option (Nat × Nat × Nat × Bool) :=
  match beyond room b d with
  | none => none
  | some (r', b', border) =>
    if !border then some (r', b', 1, false)
    else if s.suiteOf r' = s.suiteOf room ∧ s.hopExtra room d ≠ 0xF then
      some (r', b', 1 + s.hopExtra room d, wingXY r' ≠ wingXY room)
    else none

/-- The source code of destination `d` in a LANE_SET: 0 to 3 the outward ports N, E, S, W, 4 to 7 IQ0 to IQ3 (R52). -/
def laneSrc (set : W64) (d : Nat) : Nat := fld set (4 * d + 3) (4 * d)

/-- The destinations of a token at source `src`; a disabled link is none (R32, R51). -/
def State.dests (s : State) (room b : Nat) (br : Brick) (src tag : Nat) : List Nat :=
  (List.range 8).filter fun d => laneSrc (br.laneSet tag) d = src && (decide (4 ≤ d) || (s.link room b d).isSome)

/-- The token present at a source of the switch in lane cycle `now`: an input, or the head of an output queue that has not presented in this
cycle (R55). -/
def Brick.present (br : Brick) (src now : Nat) (stepped : Bool) : Option InTok :=
  if smGet 0 br.taken src = now + 1 then none
  else if src = 5 ∨ src = 6 then
    match br.oqOf (src - 5) with
    | t :: _ => if t.ent < now then some ⟨src, t.tok, t.ent + 1, false⟩ else none
    | [] => none
  else br.inp.find? fun t => t.src = src && (if stepped then t.due = now else decide (t.due ≤ now))

/-- A token taken from its source, which presents no other in this cycle. -/
def Brick.take (br : Brick) (t : InTok) (src now : Nat) : Brick :=
  let br := { br with taken := smSet 0 br.taken src (now + 1) }
  if src = 5 ∨ src = 6 then br.setOq (src - 5) (br.oqOf (src - 5)).tail else { br with inp := br.inp.erase t }

/-- The token as the switch routes it: at a Wing-seam receiver it has passed its check, and an uncorrectable one is not routed (R50). -/
def InTok.routed (k : InTok) : Option Token :=
  if k.seam then (checkToken k.tok).sort (some k.tok) (fun x => some (tokenOfCovered x)) none else some k.tok

/-- The other sources that present a token bound for destination `d`. -/
def Brick.rivals (br : Brick) (src d now : Nat) (stepped : Bool) : List Nat :=
  [1, 2, 3, 4, 5, 6].filter fun p =>
    p ≠ src && (match (br.present p now stepped).bind InTok.routed with | some t => laneSrc (br.laneSet t.tag) d = p | none => false)

/-- UNIT of a destination in BRK_ERR_WHERE (R76). -/
def destUnit (d : Nat) : Nat := if d < 4 then 8 + d else d - 4

/-- A token put into an input queue, or an overflow where a stepped Suite finds it full (R55, R63). -/
def State.putIq (s : State) (room b q : Nat) (t : Token) (stepped : Bool) (now : Nat) : State :=
  if decide (8 ≤ ((s.brick room b).iqOf q).length) && stepped then s.brkError room b 3 4 q t.tag 0 false
  else s.modBrick room b fun br => br.setIq q (br.iqOf q ++ [⟨t, now⟩])

/-- A token entered by the outcome of its check: corrected and counted, or refused as uncorrectable; `ce` and `ue` say that an injection made
the error (R50, R79). -/
def State.enterChecked (s : State) (room b q src : Nat) (t : Token) (stepped : Bool) (now : Nat) (ce ue : Bool) : CheckOut → State
  | .clean => s.putIq room b q t stepped now
  | .corrected x =>
    let s := s.raise (rp .brk room) 5 ce
    let s := if 1 ≤ src ∧ src ≤ 4 then s.bump (rp .brk room) 0x0A0 (16 * src - 1) (16 * src - 16) 1 else s
    s.putIq room b q (tokenOfCovered x) stepped now
  | .uncorrectable => s.brkError room b 4 5 q t.tag 0 ue

/-- A token entered into an input queue after its check, with the armed injections of BRK_SEL's Brick on IQ0 (R50, R63, R79). -/
def State.enterIq (s : State) (room b q src : Nat) (t : Token) (stepped : Bool) (now : Nat) : State :=
  let sel := decide (q = 0) && decide (s.rdF (rp .brk room) 0x088 13 8 = b)
  let injUe := sel && s.isArmed (rp .brk room) 4
  let injCe := sel && !injUe && s.isArmed (rp .brk room) 5
  let t := if injUe then flipToken t 3 else if injCe then flipToken t 1 else t
  let s := if injUe then s.disarm (rp .brk room) 4 else if injCe then s.disarm (rp .brk room) 5 else s
  s.enterChecked room b q src t stepped now injCe injUe (checkToken t)

/-- A token copied to one destination (R51, R54, R55). -/
def State.deliver (s : State) (room b d src : Nat) (t : Token) (stepped : Bool) (now : Nat) : State :=
  if 4 ≤ d then
    if s.dark room then s.modRoom room fun r => { r with darkCnt := r.darkCnt + 1 }
    else s.enterIq room b (d - 4) src t stepped now
  else
    match s.link room b d with
    | some (r', b', h, seam) => s.modBrick r' b' fun x => { x with inp := x.inp ++ [⟨arriveSrc d, t, now + h, seam⟩] }
    | none => s

/-- A contested destination of a stepped Suite: reported once in the cycle (R56). -/
def State.collide (s : State) (room b d tag now : Nat) : State :=
  if smGet 0 (s.brick room b).lastWin (8 + d) = now + 1 then s
  else
    let s := s.modBrick room b fun br => { br with lastWin := smSet 0 br.lastWin (8 + d) (now + 1) }
    s.brkError room b 2 3 (destUnit d) tag 0 false

/-- The copies of a token of a stepped Suite: contested ones are discarded (R56). -/
def State.spread (s : State) (room b src : Nat) (t : Token) (now : Nat) (br0 : Brick) : List Nat → State
  | [] => s
  | d :: ds =>
    let contested := !(br0.rivals src d now true).isEmpty || smGet 0 br0.lastWin (8 + d) = now + 1
    let s := if contested then s.collide room b d t.tag now else s.deliver room b d src t true now
    s.spread room b src t now br0 ds

/-- A token with no destination: discarded and counted (R54). -/
def State.noRoute (s : State) (room : Nat) : State :=
  if s.dark room then s else (s.raise (rp .brk room) 7 false).bump (rp .brk room) 0x0A8 31 0 1

/-- The input after the last winner of a destination, in the order of the codes (R56). -/
def afterWinner (last : Nat) (ps : List Nat) : Option Nat :=
  match ps.filter fun p => decide (last < p) with
  | p :: _ => some p
  | [] => ps.head?

/-- Whether an elastic destination takes a token of `src` now: it wins the round-robin, has taken none in this cycle, and has room
(R56, R63, R66). -/
def State.elasticOk (s : State) (room b src d now : Nat) (br : Brick) : Bool :=
  let ps := (List.range 7).filter fun p => p = src || (br.rivals src d now false).contains p
  let wins := afterWinner (smGet 0 br.lastWin d) ps = some src
  let once := smGet 0 br.lastWin (16 + d) != now + 1
  let room_ :=
    if 4 ≤ d then s.dark room || decide ((br.iqOf (d - 4)).length < 8)
    else
      match s.link room b d with
      | some (r', b', h, _) => decide ((((s.brick r' b').inp).filter fun t => t.src = arriveSrc d).length < h)
      | none => false
  wins && once && room_

/-- The winners of an elastic cycle noted. -/
def Brick.noteWin (br : Brick) (src now : Nat) : List Nat → Brick
  | [] => br
  | d :: ds => { br with lastWin := smSet 0 (smSet 0 br.lastWin d src) (16 + d) (now + 1) }.noteWin src now ds

/-- The token that goes on from a Wing-seam receiver by the outcome of its check, or none (R50). -/
def State.seamOut (s : State) (room b src : Nat) (t : Token) : CheckOut → State × Option Token
  | .clean => (s, some t)
  | .corrected x => (s.bump ⟨.halw, s.wingOf room⟩ (0x0A0 + 8 * (src - 1)) 63 32 1, some (tokenOfCovered x))
  | .uncorrectable => (s.brkError room b 4 5 (7 + src) t.tag 0 false, none)

/-- The check at a Wing-seam receiver (R50). -/
def State.seamCheck (s : State) (room b src : Nat) (t : Token) : State × Option Token := s.seamOut room b src t (checkToken t)

/-- A token past its seam check goes to its destinations. -/
def State.route (s : State) (room b src : Nat) (t : Token) (stepped : Bool) (now : Nat) (br0 : Brick) : State :=
  match s.dests room b br0 src t.tag with
  | [] => s.noRoute room
  | ds =>
    if stepped then s.spread room b src t now br0 ds
    else (ds.foldl (fun s d => s.deliver room b d src t false now) s).modBrick room b fun br => br.noteWin src now ds

/-- LANE_TOKEN_ARRIVE: the token present at source `src` of a Brick's switch (1 N, 2 E, 3 S, 4 W, 5 OQ0, 6 OQ1), with the wires of `flip`
upset on the way, is checked where it has crossed a Wing seam and is routed (R50, R51, R55, R56).  In an elastic Suite a token that cannot move to
every destination stays at its input. -/
def execLaneTokenArrive (room b src flip : Nat) (s : State) : Host.Outcome State Fault Refusal :=
  match s.suiteOf room with
  | none => .next s
  | some i =>
    match s.suite i with
    | none => .next s
    | some u =>
      if !u.lanesMove then .next s
      else
        let stepped := u.mode = 0
        let br := (s.brick room b).settle u.now
        match br.present src u.now stepped with
        | none => .next s
        | some it =>
          let t := flipToken it.tok flip
          let ok := match ({ it with tok := t } : InTok).routed with
            | some x => stepped || (s.dests room b br src x.tag).all fun d => s.elasticOk room b src d u.now br
            | none => true
          if !ok then .next s
          else
            let s := s.setBrick room b (br.take it src u.now)
            if it.seam then
              match s.seamCheck room b src t with
              | (s, some t) => .next (s.route room b src t stepped u.now br)
              | (s, none) => .next s
            else .next (s.route room b src t stepped u.now br)

end Sys2Proof.Machine
end

