-- ==== Sys2Proof/Machine/Job.lean ====
section
/-!
DEFINITION. Restart states of Suites and the job-wide halt (R472 to R474, R478).
-/

namespace Sys2Proof.Machine

/-- Offset of SWPG_SUITE of a Suite (R480). -/
def swpgSuite (i : Nat) : Nat := 0xC00 + 16 * (i % 64)

/-- JOB and ROUND of a Suite (R481). -/
def State.jobOf (s : State) (i : Nat) : Nat := s.rdF (gp .swpg) (swpgSuite i) 15 0
def State.roundOf (s : State) (i : Nat) : Nat := s.rdF (gp .swpg) (swpgSuite i) 31 16

/-- The restart of a Suite. -/
def State.restart (s : State) (i : Nat) : Restart := smGet .idle s.rim.restarts i

/-- The restart of a Suite replaced, shown in SWPG_RESTART as the last change (R480). -/
def State.setRestart (s : State) (i : Nat) (r : Restart) : State :=
  { s with rim := { s.rim with restarts := smSet .idle s.rim.restarts i r } }.wr (gp .swpg) 0x088
    (put 63 60 r.st ||| put 55 48 r.cause ||| put 37 32 i)

/-- The defined Suites of a job (R472). -/
def State.jobSuites (s : State) (job : Nat) : List Nat :=
  (s.suites.filter fun e => e.2.isSome && decide (s.jobOf e.1 = job)).map Prod.fst

/-- The words of a JOB_HALT message (R472). -/
def jobHaltBytes (job round origin code et : Nat) : List Byte := leTo 2 job ++ leTo 2 round ++ leTo 2 origin ++ leTo 2 code ++ leTo 8 et

/-- JOB_HALT handed to every enabled halt stream but one (R472, R473). -/
def State.forwardHalt (s : State) (but : Option Nat) (data : List Byte) : State :=
  (List.range 8).foldl (fun s k =>
    let w := s.rd (gp .swpg) (0x100 + 8 * k)
    if tst w 63 ∧ but ≠ some (fld w 19 0) then s.yazCtl (fld w 19 0) 0x20 data else s) s

/-- A job halt reaches a Suite: HALT is sent to it, and its restart begins; a Suite with no arrangement has nothing to halt (R472, R474). -/
def State.haltForJob (s : State) (code et i : Nat) : State :=
  match s.suite i with
  | none => s
  | some u =>
    let s := s.sendHalt i u.lead 15 code
    if u.run = 0 ∨ (s.restart i).st ≠ 0 then s
    else s.setRestart i { Restart.idle with
      st := if u.run = 4 then 2 else 1, from_ := if u.run = 4 ∧ (s.restart i).from_ ≠ 0 then (s.restart i).from_ else et, clean := (s.restart i).clean }

/-- Every Suite of a job halted, and its ROUND advanced (R472, R473). -/
def State.haltJob (s : State) (job round code et : Nat) : State :=
  (s.jobSuites job).foldl (fun s i => (s.haltForJob code et i).wrF (gp .swpg) (swpgSuite i) 31 16 (round + 1)) s

/-- A job halt started here for a Suite, in its ROUND (R472, R473). -/
def State.startJobHalt (s : State) (i code et : Nat) : State :=
  let job := s.jobOf i
  let round := s.roundOf i
  (s.haltJob job round code et).forwardHalt none (jobHaltBytes job round (s.rdF (gp .yzlg) 0x080 15 0) code et)

/-- The DBG page (R628). -/
def dbg : PageRef := gp .dbg

/-- The Rooms of the debug Sweep in progress (R624). -/
def State.dbgRooms (s : State) : List Nat :=
  let w := s.rd dbg 0x0B0
  if tst w 63 then (List.range (fld w 14 0)).map fun k => fld w 45 32 + k else []

/-- Whether a debug Sweep is in progress on a Suite, whose LOAD or Sweep-in then waits (R624). -/
def State.dbgSweeps (s : State) (i : Nat) : Bool := s.dbgRooms.any fun r => decide (s.suiteOf r = some i)

/-- DBG_SWEEP_FAIL at a Room: DETAIL 1 ABORTED, 2 CELLAR, 3 IMAGE_CRC, 4 STATE (R628, R630). -/
def State.dbgFail (s : State) (room detail : Nat) (injected : Bool) : State :=
  (s.capture dbg 0x0C0 (put 63 56 0x04 ||| put 55 48 detail ||| put 45 32 room)).raise dbg 3 injected

/-- A Room reset abandons a debug Sweep that the Room is part of (R624). -/
def State.dbgAbort (s : State) (room : Nat) : State :=
  if s.dbgRooms.contains room then (s.wrF dbg 0x0B0 63 63 0).dbgFail room 1 false else s

/-- A Sweep-out that fails: SWP_FAIL with its cause (R467, R479). -/
def State.swpFail (s : State) (i cause : Nat) (injected : Bool) : State :=
  (s.capture (gp .swpg) 0x0D0 (put 63 56 cause ||| put 55 50 i)).raise (gp .swpg) 1 injected

/-- A Suite that has halted abandons the Sweep it was in; before the header is written that is a failure with cause HALTED (R467). -/
def State.sweepHalted (s : State) (i : Nat) : State :=
  match s.suite i with
  | none => s
  | some u =>
    if u.sweep.st = 0 then s
    else
      let s := if u.sweep.st ≤ 3 then s.swpFail i 0x03 false else s
      s.modSuite i fun u => { u with sweep := .none }

/-- A Suite has halted: with AUTO_HALT set it starts a job halt, unless a restart has begun for it; its restart reaches HALTED (R472, R474). -/
def State.jobHalted (s : State) (i code et : Nat) : State :=
  let s := if (s.restart i).st = 0 ∧ tst (s.rd (gp .swpg) (swpgSuite i)) 63 then s.startJobHalt i code et else s
  let r := s.restart i
  if r.st = 1 then s.setRestart i { r with st := 2 } else s

end Sys2Proof.Machine
end

