-- ==== Sys2Proof/Machine/Flue.lean ====
section
/-!
DEFINITION. Suite-scope Flue messages: stalls, halts and register writes; heartbeats and the Flue watchdog (R188 to R190, R306 to R316).
-/

namespace Sys2Proof.Machine

/-! ### Words lost or corrected -/

/-- The logical Wing row that a physical Wing row holds; none for the fenced one (R25). -/
def State.wingRow (s : State) (row : Nat) : Option Nat :=
  match s.fence with
  | some f => if row = f then none else if f < row then some (row - 1) else some row
  | none => some row

/-- The Suites that have a Room in a physical Wing. -/
def State.suitesInWing (s : State) (w : Nat) : List Nat :=
  match s.wingRow (w / 8) with
  | none => []
  | some y => (s.suites.filter fun e => match e.2 with | some u => u.hasWing (w % 8) y | none => false).map Prod.fst

/-- Suites marked suspect after the loss of a Flue message, which Porch firmware treats as faulted (R315). -/
def State.suspect (s : State) (is : List Nat) : State :=
  { s with rim := { s.rim with suspects := is.foldl (fun m i => m ||| 2 ^ i) s.rim.suspects } }

/-- The Suites that run. -/
def State.runningSuites (s : State) : List Nat :=
  (s.suites.filter fun e => match e.2 with | some u => decide (u.run = 2) | none => false).map Prod.fst

/-- The loss of an engine-scope word of a Wing: the Suites below the link are suspect, and every running Suite is treated as faulted
(R315, R316). -/
def State.engineLoss (s : State) (w : Nat) : State := s.suspect (s.suitesInWing w ++ s.runningSuites)

/-- A Suite-scope word from the parent reaching a Room's node: an armed injection flips one of its bits, which is corrected, or two, which
loses the word and marks the Suite suspect (R307, R315, R332). -/
def State.downWord (s : State) (i room : Nat) : State :=
  let p := rp .flu room
  if s.isArmed p 1 then (((s.disarm p 1).raise p 1 true).record p 0x02 1 true false false i noRef 0).suspect [i]
  else if s.isArmed p 0 then ((s.disarm p 0).raise p 0 true).bump p 0x098 63 0 1
  else s

/-- A Suite-scope message passing down to every Room of its Suite. -/
def State.downWords (s : State) (i : Nat) : State :=
  match s.suite i with
  | some u => u.rooms.foldl (fun s r => s.downWord i r) s
  | none => s

/-! ### Stalls -/

/-- A request for a stall of `len` Suite cycles, or an open one where `len` is 0, made now in a node of the Suite (R188, R308). -/
def State.stallReq (s : State) (i cause src len : Nat) : State :=
  s.modSuite i fun u => { u with reqs := u.reqs ++ [⟨cause, src, len, false, u.clk + s.fl⟩] }

/-- The release of an open stall, sent now (R188, R323). -/
def State.stallRelease (s : State) (i cause src : Nat) : State :=
  s.modSuite i fun u => { u with reqs := u.reqs ++ [⟨cause, src, 0, true, u.clk + s.fl⟩] }

/-- The request the stall master takes first: the earliest to arrive, and at one cycle a stall before a release (R310). -/
def firstReq : List StallReq → Option StallReq
  | [] => none
  | r :: l =>
    match firstReq l with
    | none => some r
    | some q => if q.at_ < r.at_ ∨ (q.at_ = r.at_ ∧ r.release ∧ !q.release) then some q else some r

/-- STALL_REQ: the master takes the first request that has reached it and issues a FREEZE or RELEASE that names the cycle FL after the issue;
at most one in 4 cycles (R188, R310). -/
def Suite.stallIssue (u : Suite) (fl : Nat) : Suite :=
  match firstReq (u.reqs.filter fun r => decide (r.at_ ≤ u.clk)) with
  | none => u
  | some r =>
    if u.lastIss ≠ 0 ∧ u.clk < u.lastIss + 4 then u
    else { u with reqs := u.reqs.erase r, lastIss := u.clk, msgs := u.msgs ++ [⟨r.release, r.cause, r.src, r.len, u.clk + fl⟩] }

/-- The FREEZE or RELEASE issued first. -/
def firstMsg (rel : Bool) (l : List FlueMsg) : Option FlueMsg := l.find? fun m => m.release = rel

/-- FREEZE: every Room freezes from the named cycle, for the requested length or until a RELEASE (R188). -/
def Suite.freeze (u : Suite) : Suite :=
  match firstMsg false u.msgs with
  | none => u
  | some m =>
    { u with
      msgs := u.msgs.erase m
      wins := u.wins ++ [⟨m.cause, m.src, m.cycle, if m.len = 0 then none else some (m.cycle + m.len)⟩] }

/-- An open window of a cause and source given its end. -/
def closeWin (m : FlueMsg) : List StallWin → List StallWin
  | [] => []
  | w :: l => if w.cause = m.cause ∧ w.src = m.src ∧ w.stop.isNone then { w with stop := some m.cycle } :: l else w :: closeWin m l

/-- RELEASE: the open stall ends at the named cycle; an end at or before the start leaves no stall step (R188). -/
def Suite.release (u : Suite) : Suite :=
  match firstMsg true u.msgs with
  | none => u
  | some m =>
    if (firstMsg false (u.msgs.filter fun x => x.cause = m.cause ∧ x.src = m.src)).isSome then u
    else { u with msgs := u.msgs.erase m, wins := closeWin m u.wins }

/-- Windows that are over removed (R188). -/
def Suite.endStalls (u : Suite) : Suite :=
  { u with wins := u.wins.filter fun w => match w.stop with | some e => decide (u.clk < e) | none => true }

/-- STALL_REQ (R188). -/
def execStallReq (suite : Nat) (s : State) : Host.Outcome State Fault Refusal := .next (s.modSuite suite fun u => u.stallIssue s.fl)

/-- FREEZE, a word that every Room of the Suite receives (R188, R332). -/
def execFreeze (suite : Nat) (s : State) : Host.Outcome State Fault Refusal := .next ((s.downWords suite).modSuite suite Suite.freeze)

/-- RELEASE, a word that every Room of the Suite receives (R188, R332). -/
def execRelease (suite : Nat) (s : State) : Host.Outcome State Fault Refusal := .next ((s.downWords suite).modSuite suite Suite.release)

/-- FIXED_STALL_END: a stall of fixed length is over and issue resumes (R188). -/
def execFixedStallEnd (suite : Nat) (s : State) : Host.Outcome State Fault Refusal := .next (s.modSuite suite Suite.endStalls)

/-- The source number of HOST stalls in stall requests; Bricks are numbered by Room and index. -/
def hostSrc : Nat := 2 ^ 21

/-- PAUSE: written to ARR_CTRL of the lead Room, opens a HOST stall; in any other Room it is ignored (R190, R198). -/
def execPause (room : Nat) (s : State) : Host.Outcome State Fault Refusal :=
  if s.isLead room ∧ !s.dark room then .next (s.stallReq (s.suiteId room) 4 hostSrc 0) else .next s

/-- RESUME: releases the HOST stall (R198). -/
def execResume (room : Nat) (s : State) : Host.Outcome State Fault Refusal :=
  if s.isLead room ∧ !s.dark room then .next (s.stallRelease (s.suiteId room) 4 hostSrc) else .next s

/-- An event of the ARR page that is not an error of the run, with its capture (R198, R201, R202). -/
def State.arrEvent (s : State) (room bit cause : Nat) : State :=
  (s.captureStep (rp .arr room) 0x0C0 (put 63 56 cause) 0x0C8 (s.whereStep room)).raise (rp .arr room) bit false

/-- ARR_SEED_WRITE: taken through the lead Room while the Suite is not running, and carried by SUITE_REG; refused with
ARR_ACCESS_REFUSED while it runs; ignored in any other Room (R198). -/
def execArrSeedWrite (room : Nat) (v : W64) (s : State) : Host.Outcome State Fault Refusal :=
  if !s.isLead room ∨ s.dark room then .next s
  else
    match s.suite (s.suiteId room) with
    | none => .next s
    | some u =>
      if u.run = 2 ∨ u.run = 3 then .next (s.arrEvent room 6 0x22)
      else .next (s.setSuite (s.suiteId room) { u with regMsgs := u.regMsgs ++ [(0x0A0, v)] })

/-- SUITE_REG: the next carried write takes effect in every Room of the Suite (R198, R310). -/
def Suite.takeReg (u : Suite) : Suite :=
  match u.regMsgs with
  | [] => u
  | (off, v) :: l => if off = 0x0A0 then { u with regMsgs := l, seed := v } else { u with regMsgs := l }

/-- SUITE_REG, a word that every Room of the Suite receives (R310, R332). -/
def execSuiteReg (suite : Nat) (s : State) : Host.Outcome State Fault Refusal := .next ((s.downWords suite).modSuite suite Suite.takeReg)

/-- Packets of the old routing version anywhere in the Hall, as the old-epoch counts OR-reduce them (R290). -/
def State.oldEpoch (s : State) : Bool := s.pkts.any fun f => f.pkt.epoch != s.rdF (gp .halg) 0x080 0 0

/-- OR_REDUCE: Suite-scope refusals of a load reach the lead Room FL cycles after C; engine-scope, the old-epoch counts reach the root
(R180, R290, R310). -/
def execOrReduce (suite : Nat) (engine : Bool) (s : State) : Host.Outcome State Fault Refusal :=
  if engine then .next (s.answer (if s.oldEpoch then 1 else 0))
  else .next (s.modSuite suite fun u =>
    match u.load with
    | some l => if l.phase = 1 ∧ l.c + s.fl ≤ u.now then { u with load := some { l with phase := 2 } } else u
    | none => u)

/-! ### Suite halt -/

/-- The HALT of the earliest detection, ties to the lowest Room (R311, R314). -/
def firstHalt : List HaltReq → Option HaltReq
  | [] => none
  | r :: l =>
    match firstHalt l with
    | none => some r
    | some q => if q.t < r.t ∨ (q.t = r.t ∧ q.room < r.room) then some q else some r

/-- HALT: the first detection whose message has reached the stall master is broadcast with cycle H = t + 2FL, unless an earlier H is out
(R311). -/
def Suite.haltMsg (u : Suite) (fl : Nat) : Suite :=
  match firstHalt (u.halts.filter fun r => decide (r.t + fl ≤ u.clk)) with
  | none => u
  | some r =>
    let u := { u with halts := u.halts.filter fun q => q ≠ r }
    match u.haltAt with
    | none => { u with haltAt := some (r.t + 2 * fl, r) }
    | some (h, q) => if r.t + 2 * fl < h ∨ (r.t + 2 * fl = h ∧ r.room < q.room) then { u with haltAt := some (r.t + 2 * fl, r) } else u

/-- HALT, a word that every Room of the Suite receives (R311, R332). -/
def execHalt (suite : Nat) (s : State) : Host.Outcome State Fault Refusal := .next ((s.downWords suite).modSuite suite fun u => u.haltMsg s.fl)

/-- The halt record of R314 in one Room's FLU page. -/
def State.haltRecord (s : State) (r : HaltReq) (step : W64) (room : Nat) : State :=
  (s.wr (rp .flu room) 0x088 (put 63 48 r.code ||| put 47 34 r.room ||| put 33 30 r.slot ||| 1)).wr (rp .flu room) 0x090 step

/-- A value returned in a Hearth register by an instruction that waited; the Hearth goes on behind it. -/
def State.hearthRet (s : State) (room rd : Nat) (v : W64) : State :=
  s.modRoom room fun r =>
    { r with hearth := { r.hearth with
        x := if rd % 32 = 0 then r.hearth.x else smSet 0 r.hearth.x (rd % 32) v
        pc := r.hearth.pc + 4, block := .no, instret := r.hearth.instret + 1 } }

/-- The register that a Hearth's waiting CS.EXEC writes, where one waits: an abandoned one writes none (R240, R242). -/
def Suite.execWaits (u : Suite) : Option Nat := u.entries.findSome? fun e => e.hearth.filter fun rd => decide (rd < 32)

/-- The lead Room's HRT page of a Suite (R244). -/
def Suite.csPage (u : Suite) : PageRef := rp .hrt u.lead

/-- OP of an entry (R245). -/
def CsEntry.op (e : CsEntry) : Nat := fld (e.words.getD 0 0) 63 56

/-- STEP of an entry (R245). -/
def CsEntry.step (e : CsEntry) : Nat := fld (e.words.getD 0 0) 47 0

/-- The STEP that means as soon as possible (R245). -/
def asap : Nat := 0xFFFFFFFFFFFF

/-- Whether the ring size is one the unit runs with (R265). -/
def csSizeOk (w : W64) : Bool := decide (4 ≤ fld w 4 0) && decide (fld w 4 0 ≤ 16)

/-- Whether the command unit fetches and performs entries on its own (R244, R265). -/
def State.csAuto (s : State) (u : Suite) : Bool :=
  let w := s.rd u.csPage 0x0A0
  tst w 63 && !tst w 5 && csSizeOk w && decide (s.rdF u.csPage 0x0C0 17 16 ≠ 3) && !s.dark u.lead

/-- STATE, OP and CS_ENTRY brought in line with the entry at the head of the unit (R264, R265). -/
def State.csShow (s : State) (i : Nat) : State :=
  match s.suite i with
  | none => s
  | some u =>
    let p := u.csPage
    if s.rdF p 0x0C0 17 16 = 3 then s
    else
      match u.entries with
      | [] => (s.wrF p 0x0C0 17 16 (if s.csAuto u then 1 else 0)).wr p 0x0C8 0
      | e :: _ =>
        let s := s.wrF p 0x0C0 17 16 (if e.prog = 0 then 1 else 2)
        (s.wrF p 0x0C0 7 0 e.op).wr p 0x0C8 (e.words.getD 0 0)

/-- The head entry completed: CS_HEAD advances, or CS.EXEC returns CAUSE (R242, R244). -/
def State.csPop (s : State) (i : Nat) : State :=
  match s.suite i with
  | none => s
  | some u =>
    match u.entries with
    | [] => s
    | e :: l =>
      let p := u.csPage
      let s := s.modSuite i fun u => { u with entries := l }
      let s :=
        match e.hearth with
        | some rd => if rd < 32 then s.hearthRet u.lead rd (BitVec.ofNat 64 (s.rdF p 0x0C0 15 8)) else s
        | none => s.wr p 0x0B0 (BitVec.ofNat 64 ((s.rdF p 0x0B0 15 0 + 1) % 2 ^ s.rdF p 0x0A0 4 0))
      s.csShow i

/-- The CHECKPOINT entry that asked for the Sweep-out completes (R246, R467). -/
def State.ckptEntryDone (s : State) (i : Nat) : State :=
  match s.suite i with
  | some u => (match u.entries with | e :: _ => if e.op = 4 ∧ e.prog = 2 then s.csPop i else s | [] => s)
  | none => s

/-- The command stream of a Suite stopped with a cause: CS_ERROR is raised, and a CS.EXEC that waits returns the cause (R242, R248). -/
def State.csStopNow (s : State) (i cause : Nat) (injected : Bool := false) : State :=
  match s.suite i with
  | none => s
  | some u =>
    let p := rp .hrt u.lead
    let s := s.wr p 0x0C0 (setFld (setFld (s.rd p 0x0C0) 15 8 cause) 17 16 3)
    let s := (s.raise p 2 injected).modSuite i fun u => { u with entries := [] }
    match u.execWaits with
    | some rd => s.hearthRet u.lead rd (BitVec.ofNat 64 cause)
    | none => s

/-- The command stream of a Suite stopped, where it has not stopped and has something to stop (R248). -/
def State.csStop (s : State) (i cause : Nat) (injected : Bool := false) : State :=
  match s.suite i with
  | none => s
  | some u =>
    let p := rp .hrt u.lead
    if s.rdF p 0x0C0 17 16 = 3 ∨ (!tst (s.rd p 0x0A0) 63 ∧ u.entries = []) then s else s.csStopNow i cause injected

/-- The slots a load writes: slot k, or every slot of SLOTS (R178). -/
def LoadSt.slots (l : LoadSt) : List Nat :=
  if l.slot = 15 then (List.range 4).filter fun k => (fld (l.hdr.getD 1 0) 31 24).testBit k else [l.slot]

/-- A load given up in every Room that has not reached D: after C + 2FL its slots are left EMPTY (R185). -/
def State.abandonRoom (s : State) (room : Nat) (l : LoadSt) : State :=
  match (s.room room).loader with
  | none => s
  | some ld =>
    let s := s.modRoom room fun r => { r with loader := none }
    if l.phase < 3 ∨ ld.gone then s
    else
      (List.range 64).foldl (fun s b =>
        if (s.brick room b) = .empty then s
        else s.modBrick room b fun x => l.slots.foldl (fun x k => x.setCtx k { x.ctx k with valid := false }) x) s

/-- Every Room of a Suite gives up its load (R185). -/
def State.abandonLoad (s : State) (i : Nat) : State :=
  match s.suite i with
  | none => s
  | some u =>
    match u.load with
    | none => s
    | some l => (u.rooms.foldl (fun s r => s.abandonRoom r l) s).modSuite i fun u => { u with load := none }

/-- The Suite halted: RUN becomes 4, every Room holds the halt record, the lead Room raises FLU_SUITE_HALT, loads are abandoned, a
CHECKPOINT entry in progress completes, and the command stream stops (R185, R248, R312, R314, R467). -/
def State.suiteHalt (s : State) (i : Nat) (r : HaltReq) (cause : Nat) : State :=
  match s.suite i with
  | none => s
  | some u =>
    let s := u.rooms.foldl (fun s x => s.haltRecord r u.step x) s
    let s := s.raise (rp .flu u.lead) 2 false
    let s := s.abandonLoad i
    let s := s.modSuite i fun u => { u with run := 4, haltAt := none, haltNow := some u.laneNow, halts := [], reqs := [], msgs := [], wins := [], frozenL := false }
    (((s.ckptEntryDone i).csStop i cause).sweepHalted i).jobHalted i r.code r.et

/-- Whether a rate switch of a Suite is between its start cycle and its end, which a halt waits for (R543). -/
def State.switching (s : State) (i : Nat) : Bool := match smGet none s.rim.rateSw i with | some r => decide (r.phase = 2) | none => false

/-- SUITE_HALT: at the end of cycle H, and of a rate switch that has begun, every Room of the Suite halts (R311, R312, R543). -/
def execSuiteHalt (suite : Nat) (s : State) : Host.Outcome State Fault Refusal :=
  match s.suite suite with
  | none => .next s
  | some u =>
    match u.haltAt with
    | some (h, r) =>
      if h ≤ u.clk ∧ !s.switching suite then .next (s.suiteHalt suite r (if u.ckHalt then 0x06 else match u.load with | some l => if l.refused.isSome then 0x04 else 0x07 | none => 0x07)) else .next s
    | none => .next s

/-! ### FLU_LATENCY, heartbeats, word errors -/

/-- Whether some Suite has an arrangement loaded (R309). -/
def State.anyLoaded (s : State) : Bool := s.suites.any fun e => match e.2 with | some u => u.load.isSome || s.suiteLoaded u | none => false

/-- FLU_LATENCY_WRITE: FL raised to at least the measured requirement and at most 256 while no Suite is loaded; refused otherwise
(R309, R332). -/
def execFluLatencyWrite (v : W64) (s : State) : Host.Outcome State Fault Refusal :=
  let n := fld v 15 0
  if !s.anyLoaded ∧ s.rim.flReq ≤ n ∧ n ≤ 256 then .next (s.wrF (gp .flug) 0x080 15 0 n)
  else .next (s.raise (gp .flug) 1 false)

/-- The places 3 to 38 that are not powers of two (R307). -/
def fluePlaces : List Nat := (List.range 39).filter fun p => decide (3 ≤ p) && decide (2 ^ Nat.log2 p ≠ p)

/-- A received Flue word with the wires of `flip` upset: 32 data bits then 7 check bits (R307). -/
def flueCheck (w flip : Nat) : CheckOut :=
  hammingDecode fluePlaces 7 ((w ^^^ flip) % 2 ^ 32) (hammingCheck fluePlaces 7 (w % 2 ^ 32) ^^^ (flip / 2 ^ 32 % 128))

/-- The page instance of a physical Room's Corridor pages: its logical index, or 0x8000 and its physical index where it is spare or bad. -/
def State.corridorInst (s : State) (phys : Nat) : Nat := (s.logicalOf phys).getD (0x8000 + phys)

/-- A Flue word of a node checked: FLU_CE counted, or FLU_UE with the Suites below it marked suspect; the word of a Wing hub (0x8000 and its
Wing index) has no Room page to count in (R307, R315, R332). -/
def State.flueWord (s : State) (node flip : Nat) : State × Bool :=
  if node < 0x8000 then
    let inst := s.corridorInst node
    let p := rp .flu inst
    let lost (s : State) : State :=
      let s := s.raise p 1 false
      let s := s.record p 0x02 1 false false false (s.suiteId inst) noRef 0
      s.engineLoss (physWing node)
    (flueCheck 0 flip).sort (s, true) (fun _ => ((s.raise p 0 false).bump p 0x098 63 0 1, true)) (lost s, false)
  else (flueCheck 0 flip).sort (s, true) (fun _ => (s, true)) (s.engineLoss (node - 0x8000), false)

/-- HEARTBEAT: a node's heartbeat reaches its parent, its word checked; a lost one counts as not received (R307, R316). -/
def execHeartbeat (node flip : Nat) (s : State) : Host.Outcome State Fault Refusal :=
  let dropped := decide (node = 0x8000) && s.isArmed (gp .flug) 0
  if dropped then .next s
  else
    let r := s.flueWord node flip
    if r.2 then .next { r.1 with rim := { r.1.rim with hbMiss := smSet 0 r.1.rim.hbMiss node 0 } } else .next r.1

/-- WD_MISS, 0 taken as 1 (R331). -/
def State.wdMiss (s : State) : Nat := max 1 (s.rdF (gp .flug) 0x098 3 0)

/-- FLU_WATCHDOG: a heartbeat period of a node (a physical Room, or 0x8000 and a Wing index for a hub) passed without its heartbeat; after
WD_MISS in a row the watchdog fires and the subtree is treated as lost (R315, R316, R332). -/
def execFluWatchdog (node : Nat) (s : State) : Host.Outcome State Fault Refusal :=
  let n := smGet 0 s.rim.hbMiss node + 1
  let s := { s with rim := { s.rim with hbMiss := smSet 0 s.rim.hbMiss node n } }
  if n < s.wdMiss then .next s
  else
    let inj := decide (node = 0x8000) && s.isArmed (gp .flug) 0
    let s := if inj then s.disarm (gp .flug) 0 else s
    let s := { s with rim := { s.rim with hbMiss := smSet 0 s.rim.hbMiss node 0 } }
    let w := if node < 0x8000 then put 14 0 node else put 21 16 (node - 0x8000) ||| put 14 0 0x7FFF
    let s := s.capture (gp .flug) 0x0A0 w
    let s := s.raise (gp .flug) 0 inj
    let s := s.record (gp .flug) 0x10 1 inj false false 0 noRef (setBit w 31)
    .next (s.engineLoss (if node < 0x8000 then physWing node else node - 0x8000))

end Sys2Proof.Machine
end

