-- ==== Sys2Proof/Machine/Latch.lean ====
section
/-!
DEFINITION. Room Latches and global Flue Latches: arrivals, completions, waits, timeouts, hand operations, and the Latch instructions of a
Brick (R117, R317 to R329, R333 to R335).
-/

namespace Sys2Proof.Machine

/-! ### One Latch -/

/-- The effect of an arrival on a Latch of a kind (1 barrier, 2 counter, 3 flag), and whether a barrier arrival overran (R320, R321). -/
def Latch.arrive (l : Latch) (kind pid : Nat) : Latch × Bool :=
  if kind = 1 then
    if !l.arrived.testBit pid then ({ l with arrived := l.arrived ||| 2 ^ pid }, false)
    else if !l.early.testBit pid then ({ l with early := l.early ||| 2 ^ pid }, false)
    else (l, true)
  else if kind = 2 then ({ l with value := l.value + 1 }, false)
  else (l, false)

/-- Whether a barrier or counter is ready to complete its generation (R320, R321). -/
def Latch.ready (l : Latch) (kind target : Nat) : Bool :=
  if kind = 1 then decide (l.mask ≠ 0) && decide (l.mask &&& l.arrived = l.mask)
  else if kind = 2 then decide (max 1 target ≤ l.value)
  else false

/-- The Latch after its generation completed (R320, R321). -/
def Latch.complete (l : Latch) (kind target : Nat) : Latch :=
  let l := { l with gen := (l.gen + 1) % 65536 }
  if kind = 1 then { l with arrived := l.early, early := 0 }
  else if kind = 2 then { l with value := l.value - max 1 target }
  else l

/-- The Latch of a Room. -/
def State.latch (s : State) (room n : Nat) : Latch := smGet .clear (s.room room).latches n

/-- The Latch of a Room replaced. -/
def State.setLatch (s : State) (room n : Nat) (l : Latch) : State :=
  s.modRoom room fun r => { r with latches := smSet .clear r.latches n l }

/-- KIND of a Room Latch (R334). -/
def State.latchKind (s : State) (room n : Nat) : Nat := s.rdF (rp .lch room) (0x400 + 16 * n) 63 62

/-- TARGET of a Room Latch (R334). -/
def State.latchTarget (s : State) (room n : Nat) : Nat := s.rdF (rp .lch room) (0x400 + 16 * n) 23 0

/-- A global Flue Latch. -/
def State.gl (s : State) (n : Nat) : Latch := smGet .clear s.glatch n

/-- A global Flue Latch replaced. -/
def State.setGl (s : State) (n : Nat) (l : Latch) : State := { s with glatch := smSet .clear s.glatch n l }

/-- The page of a global Flue Latch (R333). -/
def glPage (n : Nat) : PageRef := ⟨.lchg, n / 128 % 2⟩

/-- A field of FLG_CFG (R334). -/
def State.glCfg (s : State) (n hi lo : Nat) : Nat := s.rdF (glPage n) (0x400 + 24 * (n % 128)) hi lo

/-! ### Outcomes of waits -/

/-- The word a LCH_WHERE captures (R334). -/
def lchWhere (cause n pid wkind wid room : Nat) : W64 :=
  put 63 56 cause ||| put 55 48 n ||| put 47 41 pid ||| put 40 39 wkind ||| put 38 32 wid ||| put 13 0 room

/-- WKIND and WID of a waiter (R334). -/
def Waiter.kindId : Waiter → Nat × Nat
  | .brick b => (0, b)
  | .hearth _ _ => (1, 0)
  | .remote slot _ _ => (2, slot)
  | .stream _ => (3, 0)
  | .chute c => (3, c)

/-- The Room of a waiter, where the waiter names one (R334). -/
def Waiter.roomOr (w : Waiter) (room : Nat) : Nat :=
  match w with
  | .hearth r _ => r
  | .remote _ src _ => eidRoomOf src
  | .brick _ => room
  | .stream _ => room
  | .chute _ => room

/-- A wait of a Room Latch ended with an outcome (R117, R322, R323, R325). -/
def State.endWait (s : State) (room n : Nat) (w : Wait) (outcome : Nat) : State :=
  match w.who with
  | .brick b =>
    let s := s.modBrick room b fun x => { x with lwait := .ended }
    match s.suiteOf room with
    | some i =>
      (match s.suite i with
       | some u => if u.mode = 0 then s.stallRelease i 6 (room * 64 + b) else s
       | none => s)
    | none => s
  | .hearth r rd => s.hearthRet r rd (BitVec.ofNat 64 outcome)
  | .remote _ src tag =>
    s.inject room { Pkt.mk0 3 src (eidRoom room 0) (s.suiteId room) with
      tag, len := 8, data := leTo 8 (outcome + (s.latch room n).gen * 65536) }
  | .stream i => s.modSuite i fun u => { u with entries := match u.entries with | e :: l => { e with prog := 3, t0 := outcome } :: l | [] => [] }
  | .chute c => { s with rim := { s.rim with chu := smSet .empty s.rim.chu c { smGet .empty s.rim.chu c with gate := some outcome } } }

/-- Several waits ended with one outcome. -/
def State.endWaits (s : State) (room n outcome : Nat) : List Wait → State
  | [] => s
  | w :: ws => (s.endWait room n w outcome).endWaits room n outcome ws

/-! ### Events -/

/-- An event of a Room's LCH page: captured, raised, and recorded where it halts the Suite or comes from a hand operation (R327, R335, R412). -/
def State.lchEvent (s : State) (room bit : Nat) (w : W64) (halts hand injected : Bool) : State :=
  let p := rp .lch room
  let s := s.captureStep p 0x080 w 0x088 (s.whereStep room)
  let s := s.raise p bit injected
  let s := if halts || hand then s.record p (bit + 1) 1 injected hand halts (s.suiteId room) noRef (setBit w 31) else s
  if halts then (match s.suiteOf room with | some i => s.sendHalt i room Page.lch.slot (Page.lch.cls * 256 + (bit + 1)) | none => s) else s

/-! ### Room Latches -/

/-- A generation of a Room Latch completed: its waiters end DONE (R319 to R321). -/
def State.completeGen (s : State) (room n : Nat) : State :=
  let l := s.latch room n
  let kind := s.latchKind room n
  let done := l.waits.filter fun w => kind = 3 || w.gen = l.gen
  let s := s.setLatch room n { l.complete kind (s.latchTarget room n) with waits := l.waits.filter fun w => !(kind = 3 || w.gen = l.gen) }
  s.endWaits room n 0 done

/-- A Room Latch completes its generation if it is ready. -/
def State.testLatch (s : State) (room n : Nat) : State :=
  if (s.latch room n).ready (s.latchKind room n) (s.latchTarget room n) then s.completeGen room n else s

/-- A Latch whose state has changed: a Room of a Suite tests it for completion at the end of the Suite cycle, after all the arrivals of the cycle, and
so completes one generation in a cycle; any other Room tests it at once (R319 to R321). -/
def State.latchDue (s : State) (room n : Nat) : State :=
  if ((s.suiteOf room).bind s.suite).isSome then s else s.testLatch room n

/-- The lowest enabled barrier of a Room, on which an armed overrun acts (R335). -/
def State.lowBarrier (s : State) (room : Nat) : Option Nat := (List.range 64).find? fun n => s.latchKind room n = 1

/-- An arrival at a Room Latch as a PID, by a local participant or a remote one (R318, R320, R321, R335). -/
def State.latchArrive (s : State) (room n pid : Nat) (remote hand : Bool) (frm : Nat) : State :=
  let p := rp .lch room
  let kind := s.latchKind room n
  let l := s.latch room n
  let injBad := decide (kind ≠ 0) && s.isArmed p 3
  let bad := kind = 0 || decide (73 ≤ pid ∧ pid ≤ 79) || (remote && !decide (80 ≤ pid ∧ pid ≤ 127)) || (kind = 1 && !l.mask.testBit pid)
  if bad || injBad then
    let s := if injBad then s.disarm p 3 else s
    s.lchEvent room 3 (lchWhere 0x04 n pid 0 0 frm) false hand injBad
  else
    let injOvr := decide (s.lowBarrier room = some n) && s.isArmed p 0
    let a := l.arrive kind pid
    if a.2 || injOvr then
      let s := if injOvr then s.disarm p 0 else s
      (s.bump p 0x0B8 63 48 1).lchEvent room 0 (lchWhere 0x01 n pid 0 0 frm) true hand injOvr
    else if kind = 3 then
      if l.flag then s else (s.setLatch room n { l with flag := true }).completeGen room n
    else (s.setLatch room n a.1).latchDue room n

/-- The generation a waiter waits for (R322). -/
def Latch.awaited (l : Latch) (kind : Nat) (pid : Option Nat) : Nat :=
  match pid with
  | some k => if kind = 1 ∧ l.mask.testBit k ∧ l.early.testBit k then (l.gen + 1) % 65536 else l.gen
  | none => l.gen

/-- PIDs of MASK that have not arrived in the awaited generation (R322). -/
def Latch.missingPids (l : Latch) (gen : Nat) : Nat :=
  let got := if gen = l.gen then l.arrived else l.early
  l.mask &&& (2 ^ 128 - 1 - got % 2 ^ 128)

/-- A timeout reported: LATCH_TIMEOUT with the missing PIDs; a Brick's halts the Suite (R322, R335). -/
def State.timeoutEvent (s : State) (room n : Nat) (w : Wait) (injected : Bool) : State :=
  let p := rp .lch room
  let m := (s.latch room n).missingPids w.gen
  let held := tst (s.rd p 0x080) 31
  let ki := w.who.kindId
  let frm := w.who.roomOr room
  let isBrick : Bool := match w.who with | .brick _ => true | _ => false
  let s := s.bump p 0x0B8 47 32 1
  let s := s.lchEvent room 1 (lchWhere 0x02 n 0 ki.1 ki.2 frm) isBrick false injected
  if held then s else (s.wr p 0x090 (BitVec.ofNat 64 m)).wr p 0x098 (BitVec.ofNat 64 (m / 2 ^ 64))

/-- The time at which a wait of T microseconds that begins now expires (R322). -/
def State.expiry (s : State) (t : Nat) : Nat := (if s.etPhase = 0 then s.et else s.et + 1) + usToEt t

/-- A wait at a Room Latch: the outcome where it ends at once, or none with the wait held (R322, R335).  `poll` is an LT.WAIT with
timeout 0. -/
def State.latchWait (s : State) (room n : Nat) (who : Waiter) (pid : Option Nat) (us : Nat) (poll : Bool) : State × Option Nat :=
  let p := rp .lch room
  let kind := s.latchKind room n
  let l := s.latch room n
  let isBrick : Bool := match who with | .brick _ => true | _ => false
  let ki := who.kindId
  let w : Wait := ⟨who, l.awaited kind pid, s.expiry us, false⟩
  if kind = 0 then (s.lchEvent room 3 (lchWhere 0x04 n 0 ki.1 ki.2 (who.roomOr room)) isBrick false false, some 3)
  else if kind = 3 ∧ l.flag then (s, some 0)
  else if poll then (s, some 1)
  else if s.isArmed p 1 then ((s.disarm p 1).timeoutEvent room n w true, some 1)
  else (s.setLatch room n { l with waits := l.waits ++ [w] }, none)

/-- The waits of a Room Latch ended LOST, each counted and raised (R317, R326). -/
def State.loseWaits (s : State) (room n : Nat) : State :=
  let l := s.latch room n
  let s := s.setLatch room n { l with waits := [] }
  let s := l.waits.foldl (fun s w =>
    (s.bump (rp .lch room) 0x0B8 31 16 1).lchEvent room 2 (lchWhere 0x03 n 0 w.who.kindId.1 w.who.kindId.2 (w.who.roomOr room)) false false false) s
  s.endWaits room n 2 l.waits

/-! ### Global Flue Latches -/

/-- Whether a Room participates in a global Latch (R328, R330). -/
def State.gPart (s : State) (room n : Nat) : Bool := tst (s.rd (rp .flu room) (0x0A0 + 8 * (n / 64))) (n % 64)

/-- ARRIVED of a Room for a global Latch. -/
def State.gArr (s : State) (room n : Nat) : Bool := tst (s.rd (rp .flu room) (0x0C0 + 8 * (n / 64))) (n % 64)

/-- EARLY of a Room for a global Latch. -/
def State.gEarly (s : State) (room n : Nat) : Bool := tst (s.rd (rp .flu room) (0x0E0 + 8 * (n / 64))) (n % 64)

/-- A bit of FLU_GARR or FLU_GEARLY set or cleared. -/
def State.gSet (s : State) (room n base : Nat) (v : Bool) : State :=
  let off := base + 8 * (n / 64)
  s.wr (rp .flu room) off (setFld (s.rd (rp .flu room) off) (n % 64) (n % 64) (b2n v))

/-- The Rooms of the granted Suite that participate in a global Latch (R328). -/
def State.gRooms (s : State) (n : Nat) : List Nat :=
  match s.suite (s.glCfg n 59 54) with
  | some u => u.rooms.filter fun r => s.gPart r n
  | none => []

/-- Whether a global Latch is enabled and granted to a Suite (R322, R328). -/
def State.gGranted (s : State) (n suite : Nat) : Bool :=
  decide (s.glCfg n 63 62 ≠ 0) && decide (s.glCfg n 61 61 = 1) && decide (s.glCfg n 59 54 = suite)

/-- An event of a global Latch page; one that halts, halts the granted Suite as made in its lead Room (R314, R335). -/
def State.lchgEvent (s : State) (n bit : Nat) (w : W64) (halts hand injected : Bool) : State :=
  let p := glPage n
  let suite := s.glCfg n 59 54
  let s := s.capture p 0x080 w
  let s := s.raise p bit injected
  let s := if halts || hand then s.record p (bit + 1) 1 injected hand halts suite noRef (setBit w 31) else s
  match s.suite suite with
  | some u => if halts then s.sendHalt suite u.lead 15 (Page.lch.cls * 256 + (bit + 1)) else s
  | none => s

/-- A wait of a global Latch ended (R322, R328). -/
def State.endWaitsG (s : State) (outcome : Nat) (ws : List Wait) : State := s.endWaits 0 0 outcome ws

/-- A generation of a global Latch completed in every node (R328). -/
def State.completeG (s : State) (n : Nat) : State :=
  let l := s.gl n
  let kind := s.glCfg n 63 62
  let rooms := if kind = 1 then s.gRooms n else []
  let s := rooms.foldl (fun s r => (s.gSet r n 0x0C0 (s.gEarly r n)).gSet r n 0x0E0 false) s
  let done := l.waits.filter fun w => kind = 3 || w.gen = l.gen
  let s := s.setGl n { l.complete kind (s.glCfg n 47 24) with waits := l.waits.filter fun w => !(kind = 3 || w.gen = l.gen) }
  s.endWaitsG 0 done

/-- Whether every participant of a global barrier has arrived, or its counter reached TARGET (R321, R328). -/
def State.gReady (s : State) (n : Nat) : Bool :=
  let kind := s.glCfg n 63 62
  let l := s.gl n
  if kind = 1 then
    let rs := s.gRooms n
    let rm := s.glCfg n 23 0
    (!rs.isEmpty || rm != 0) && rs.all (fun r => s.gArr r n) && decide (rm &&& l.arrived = rm)
  else if kind = 2 then decide (max 1 (s.glCfg n 47 24) ≤ l.value)
  else false

/-- A refused arrival at a global Latch (R328, R335). -/
def State.gBad (s : State) (n pid room : Nat) (hand injected : Bool) : State :=
  let s := if injected then s.disarm (glPage n) 3 else s
  s.lchgEvent n 3 (lchWhere 0x04 n pid 0 0 room) false hand injected

/-- An overrun at a global Latch. -/
def State.gOverrun (s : State) (n pid room : Nat) (hand injected : Bool) : State :=
  let s := if injected then s.disarm (glPage n) 0 else s
  (s.bump (glPage n) 0x0A0 63 48 1).lchgEvent n 0 (lchWhere 0x01 n pid 0 0 room) true hand injected

/-- Whether an overrun is armed at a global barrier: it acts on the lowest enabled one of the page (R335). -/
def State.gOverArmed (s : State) (n : Nat) : Bool :=
  s.isArmed (glPage n) 0
    && decide ((List.range 128).find? (fun m => s.glCfg (n / 128 * 128 + m) 63 62 = 1) = some (n % 128))

/-- The arrival of a Room at a global Latch, held in its FLU node until GLATCH carries it; a Room of no Suite is refused (R328). -/
def State.gArriveRoom (s : State) (n room : Nat) : State :=
  let kind := s.glCfg n 63 62
  let l := s.gl n
  let inj := decide (kind ≠ 0) && s.isArmed (glPage n) 3
  if inj || !((s.suiteOf room).any (s.gGranted n)) || (kind = 1 && !s.gPart room n) then s.gBad n 0 room false inj
  else if kind = 1 then
    if s.gOverArmed n then s.gOverrun n 0 room false true
    else if !s.gArr room n then s.gSet room n 0x0C0 true
    else if !s.gEarly room n then s.gSet room n 0x0E0 true
    else s.gOverrun n 0 room false false
  else if kind = 2 then s.setGl n { l with value := l.value + 1 }
  else if l.flag then s else (s.setGl n { l with flag := true }).completeG n

/-- The arrival of remote index `k` at a global Latch (R327 to R329). -/
def State.gArriveRemote (s : State) (n k suite : Nat) (hand : Bool) : State :=
  let kind := s.glCfg n 63 62
  let l := s.gl n
  let inj := decide (kind ≠ 0) && s.isArmed (glPage n) 3
  if inj || !s.gGranted n suite || decide (24 ≤ k) || (kind = 1 && !(s.glCfg n 23 0).testBit k) then s.gBad n k 0 hand inj
  else if kind = 1 then
    let a := l.arrive 1 k
    if a.2 || s.gOverArmed n then s.gOverrun n k 0 hand (s.gOverArmed n) else s.setGl n a.1
  else if kind = 2 then s.setGl n { l with value := l.value + 1 }
  else if l.flag then s else (s.setGl n { l with flag := true }).completeG n

/-- The Wings with a missing Room, as LCHG_MISS_W holds them (R328). -/
def State.gMissW (s : State) (n gen : Nat) : Nat :=
  (s.gRooms n).foldl (fun m r =>
    if (if gen = (s.gl n).gen then s.gArr r n else s.gEarly r n) then m else m ||| 2 ^ ((wingXY r).1 + 8 * (wingXY r).2)) 0

/-- A global wait that timed out is reported (R322, R328). -/
def State.gTimeoutEvent (s : State) (n : Nat) (w : Wait) (injected : Bool) : State :=
  let p := glPage n
  let l := s.gl n
  let held := tst (s.rd p 0x080) 31
  let mw := s.gMissW n w.gen
  let got := if w.gen = l.gen then l.arrived else l.early
  let mr := s.glCfg n 23 0 &&& (2 ^ 24 - 1 - got % 2 ^ 24)
  let s := (s.bump p 0x0A0 47 32 1).lchgEvent n 1 (lchWhere 0x02 n 0 w.who.kindId.1 w.who.kindId.2 (w.who.roomOr 0)) false false injected
  if held then s else (s.wr p 0x088 (BitVec.ofNat 64 mw)).wr p 0x090 (BitVec.ofNat 64 mr)

/-- A global wait that timed out: reported, and ended TIMEOUT (R322, R328). -/
def State.gTimeout (s : State) (n : Nat) (w : Wait) : State :=
  let s := s.setGl n { s.gl n with waits := (s.gl n).waits.erase w }
  (s.gTimeoutEvent n w false).endWaitsG 1 [w]

/-- A wait at a global Latch; a Hearth of no Suite is refused, and an armed timeout ends the next wait that would be held (R322, R328, R335). -/
def State.gWait (s : State) (n room suite : Nat) (who : Waiter) (us : Nat) (poll : Bool) : State × Option Nat :=
  let l := s.gl n
  let kind := s.glCfg n 63 62
  let ki := who.kindId
  let isHearth : Bool := match who with | .hearth _ _ => true | _ => false
  let gen := if kind = 1 ∧ isHearth ∧ s.gPart room n ∧ s.gEarly room n then (l.gen + 1) % 65536 else l.gen
  let w : Wait := ⟨who, gen, s.expiry us, false⟩
  if !s.gGranted n suite || (isHearth && (s.suiteOf room).isNone) then
    (s.lchgEvent n 3 (lchWhere 0x04 n 0 ki.1 ki.2 (who.roomOr room)) false false false, some 3)
  else if kind = 3 ∧ l.flag then (s, some 0)
  else if poll then (s, some 1)
  else if s.isArmed (glPage n) 1 then ((s.disarm (glPage n) 1).gTimeoutEvent n w true, some 1)
  else (s.setGl n { l with waits := l.waits ++ [w] }, none)

/-- A global Latch whose Suite is lost: every waiter ends LOST and the Latch is disabled (R326). -/
def State.gLose (s : State) (n : Nat) (disable : Bool) : State :=
  let l := s.gl n
  let s := l.waits.foldl (fun s w =>
    (s.bump (glPage n) 0x0A0 31 16 1).lchgEvent n 2 (lchWhere 0x03 n 0 w.who.kindId.1 w.who.kindId.2 (w.who.roomOr 0)) false false false) s
  let s := s.setGl n { l with waits := [] }
  let s := if disable then s.wrF (glPage n) (0x400 + 24 * (n % 128)) 63 62 0 else s
  s.endWaitsG 2 l.waits

/-! ### Commands -/

/-- LSIG: the Brick's arrival at a Room Latch at its issue step; a null fire makes none (R89, R117). -/
def execLsig (room b : Nat) (s : State) : Host.Outcome State Fault Refusal :=
  match s.turn room b 0x04 with
  | none => .next s
  | some t =>
    let s' := s.issueTurn room b t fun x => x.out []
    if t.br.pred t.ins && decide ((s'.brick room b).issued = some t.u.now) then
      .next (s'.latchArrive room (t.ins.auxF 5 0) b false false room)
    else .next s'

/-- TIMEOUT of a Room Latch in microseconds, 0 taken as 1 (R322). -/
def State.lwaitUs (s : State) (room n : Nat) : Nat := max 1 (s.rdF (rp .lch room) (0x400 + 16 * n) 55 32)

/-- LWAIT.  Elastic: the wait begins when the LWAIT is next to issue, and it fires once the wait has ended.  Stepped: it issues at its step,
and an unsatisfied wait opens a LATCH stall (R117, R322, R323). -/
def execLwait (room b : Nat) (s : State) : Host.Outcome State Fault Refusal :=
  match s.turn room b 0x05 with
  | none => .next s
  | some t =>
    let n := t.ins.auxF 5 0
    let fire (s : State) : State := s.issueTurn room b t fun x => x.out []
    if t.u.mode ≠ 0 ∧ t.br.pend.any (fun q => q.ws.any t.ins.meets) then .next (fire s)
    else if !t.br.pred t.ins then .next (fire s)
    else if t.u.mode = 0 then
      let s' := fire s
      if (s'.brick room b).issued = some t.u.now then
        let r := s'.latchWait room n (.brick b) (some b) (s'.lwaitUs room n) false
        match r.2 with
        | some _ => .next r.1
        | none => .next (r.1.stallReq t.suite 6 (room * 64 + b) 0)
      else .next s'
    else
      match t.br.lwait with
      | .ended => .next (fire s)
      | .waiting => .next s
      | .no =>
        let r := (s.setBrick room b t.br).latchWait room n (.brick b) (some b) (s.lwaitUs room n) false
        match r.2 with
        | some _ => .next (fire r.1)
        | none => .next (r.1.modBrick room b fun x => { x with lwait := .waiting, wfor := 2 })

/-- The Rooms of the Suite that a global Latch is granted to, whose FLU nodes may hold an arrival (R328). -/
def State.gSuiteRooms (s : State) (n : Nat) : List Nat :=
  match s.suite (s.glCfg n 59 54) with
  | some u => u.rooms
  | none => []

/-- FLG_CFG as a write leaves it: one that withdraws the grant of a Suite leaves the Latch disabled (R326, R334). -/
def State.flgCfg (s : State) (n : Nat) (v : W64) : W64 :=
  let v := v &&& 0xEFC0FFFFFFFFFFFF
  if s.glCfg n 61 61 = 1 ∧ (fld v 61 61 = 0 ∨ fld v 59 54 ≠ s.glCfg n 59 54) then setFld v 63 62 0 else v

/-- LATCH_CONFIGURE: LCH_CFG of Room Latch `n`, or FLG_CFG of global Latch `n`, written: the state clears, GEN becomes 0 and every waiter
ends LOST (R317, R326). -/
def execLatchConfigure (glob : Bool) (room n : Nat) (v : W64) (s : State) : Host.Outcome State Fault Refusal :=
  if glob then
    let n := n % 256
    let rs := s.gSuiteRooms n
    let v := s.flgCfg n v
    let s := s.gLose n false
    let s := rs.foldl (fun s r => (s.gSet r n 0x0C0 false).gSet r n 0x0E0 false) s
    let off := 0x400 + 24 * (n % 128)
    .next ((s.setGl n .clear).wr (glPage n) off v)
  else if s.dark room then .next s
  else
    let n := n % 64
    let s := s.loseWaits room n
    let m := (s.latch room n).mask
    let s := s.setLatch room n { Latch.clear with mask := m }
    .next (s.wr (rp .lch room) (0x400 + 16 * n) (v &&& 0xC0FFFFFF00FFFFFF))

/-- LCH_ARRIVE: a remote arrival at a Room Latch, as a Hall write carries it (R318, R324). -/
def execLchArrive (room n pid frm : Nat) (s : State) : Host.Outcome State Fault Refusal :=
  if s.dark room then .next s else .next (s.latchArrive room (n % 64) (pid % 128) true false frm)

/-- A hand operation on a Room Latch: LATCH_HAND raised and recorded, then its effect (R327). -/
def State.handRoom (s : State) (room n : Nat) (f : State → State) : State :=
  if s.dark room then s
  else f ((s.bump (rp .lch room) 0x0B8 15 0 1).lchEvent room 4 (lchWhere 0x05 (n % 64) 0 0 0 room) false true false)

/-- A hand operation on a global Latch (R327, R328). -/
def State.handGlobal (s : State) (n : Nat) (f : State → State) : State :=
  f ((s.bump (glPage n) 0x0A0 15 0 1).lchgEvent n 4 (lchWhere 0x05 n 0 0 0 0) false true false)

/-- SET: FLAG set, and a generation completed if it was clear (R327). -/
def execLatchSet (glob : Bool) (room n : Nat) (s : State) : Host.Outcome State Fault Refusal :=
  if glob then
    .next (s.handGlobal (n % 256) fun s =>
      if (s.gl (n % 256)).flag then s else (s.setGl (n % 256) { s.gl (n % 256) with flag := true }).completeG (n % 256))
  else
    .next (s.handRoom room n fun s =>
      if (s.latch room (n % 64)).flag then s
      else (s.setLatch room (n % 64) { s.latch room (n % 64) with flag := true }).completeGen room (n % 64))

/-- CLEAR: FLAG cleared (R327). -/
def execLatchClear (glob : Bool) (room n : Nat) (s : State) : Host.Outcome State Fault Refusal :=
  if glob then .next (s.handGlobal (n % 256) fun s => s.setGl (n % 256) { s.gl (n % 256) with flag := false })
  else .next (s.handRoom room n fun s => s.setLatch room (n % 64) { s.latch room (n % 64) with flag := false })

/-- A Latch as if the arrival that a flag misses had come: FLAG is set (R321, R327). -/
def Latch.raised (l : Latch) (kind : Nat) : Latch := { l with flag := l.flag || decide (kind = 3) }

/-- ADVANCE: the current generation completed as if every missing arrival had come (R327). -/
def execLatchAdvance (glob : Bool) (room n : Nat) (s : State) : Host.Outcome State Fault Refusal :=
  if glob then .next (s.handGlobal (n % 256) fun s => (s.setGl (n % 256) ((s.gl (n % 256)).raised (s.glCfg (n % 256) 63 62))).completeG (n % 256))
  else .next (s.handRoom room n fun s => (s.setLatch room (n % 64) ((s.latch room (n % 64)).raised (s.latchKind room (n % 64)))).completeGen room (n % 64))

/-- ARRIVE_AS: an arrival as a PID, or as a remote index of a global Latch (R327). -/
def execArriveAs (glob : Bool) (room n pid : Nat) (s : State) : Host.Outcome State Fault Refusal :=
  if glob then
    .next (s.handGlobal (n % 256) fun s =>
      let s := s.gArriveRemote (n % 256) (pid % 128) (s.glCfg (n % 256) 59 54) true
      if s.gReady (n % 256) then s.completeG (n % 256) else s)
  else .next (s.handRoom room n fun s => s.latchArrive room (n % 64) (pid % 128) false true room)

/-- RESET_ARRIVALS: ARRIVED, EARLY and VALUE cleared, GEN unchanged (R327). -/
def execResetArrivals (glob : Bool) (room n : Nat) (s : State) : Host.Outcome State Fault Refusal :=
  if glob then
    .next (s.handGlobal (n % 256) fun s =>
      let s := (s.gSuiteRooms (n % 256)).foldl (fun s r => (s.gSet r (n % 256) 0x0C0 false).gSet r (n % 256) 0x0E0 false) s
      s.setGl (n % 256) { s.gl (n % 256) with arrived := 0, early := 0, value := 0 })
  else
    .next (s.handRoom room n fun s =>
      s.setLatch room (n % 64) { s.latch room (n % 64) with arrived := 0, early := 0, value := 0 })

/-- The first wait that has expired. -/
def firstExpired (et : Nat) (ws : List Wait) : Option Wait := ws.find? fun w => decide (w.exp ≤ et)

/-- LATCH_TIMEOUT: the first expired wait of a Room Latch, or of a global one, ends TIMEOUT; a wait that the arrivals of this cycle release does not
(R319, R322, R328). -/
def execLatchTimeout (glob : Bool) (room n : Nat) (s : State) : Host.Outcome State Fault Refusal :=
  if glob then
    match firstExpired s.et (s.gl (n % 256)).waits with
    | some w => .next (s.gTimeout (n % 256) w)
    | none => .next s
  else
    let l := s.latch room (n % 64)
    let ready := l.ready (s.latchKind room (n % 64)) (s.latchTarget room (n % 64))
    match firstExpired s.et (l.waits.filter fun w => !(ready && decide (w.gen = l.gen))) with
    | some w =>
      let s := s.timeoutEvent room (n % 64) w false
      let s := s.setLatch room (n % 64) { l with waits := l.waits.erase w }
      .next (s.endWait room (n % 64) w 1)
    | none => .next s

/-- GLATCH: the arrivals held for a global Latch reach the root, and a generation they complete is carried to every node (R310, R328). -/
def execGlatch (n : Nat) (s : State) : Host.Outcome State Fault Refusal :=
  if s.gReady (n % 256) then .next (s.completeG (n % 256)) else .next s

end Sys2Proof.Machine
end

