-- ==== Sys2Proof/Machine/Shelf.lean ====
section
/-!
DEFINITION. The Shelf: line protection, bank-steps, quarters, retirement (R203 to R217, R229 to R231, R446, R454, R455).
-/

namespace Sys2Proof.Machine

/-! ### Line protection -/

/-- The bank and row of a line index (R204). -/
def lineBankRow (line : Nat) : Nat × Nat := (shelfBank (64 * line), shelfRow (64 * line))

/-- The bank a Shelf access reports: 16 where the spare serves it (R217, R230). -/
def State.realBank (s : State) (room bank : Nat) : Nat :=
  if tst (s.rd (rp .shf room) 0x080) 13 && decide (s.rdF (rp .shf room) 0x080 11 8 = bank) then 16 else bank

/-- The word an ECC_WHERE captures (R454). -/
def eccWhere (cause errs addr bank row who : Nat) : W64 :=
  put 63 56 cause ||| put 55 54 errs ||| put 53 53 addr ||| put 52 48 bank ||| put 47 36 row ||| put 6 0 who

/-- Bits of a line that the decoder took for good although they are wrong, which then stand in the array too (R214, R215). -/
def State.lineWrong (s : State) (room line wrong : Nat) : State :=
  if wrong = 0 then s
  else
    let a := shelfEA room (64 * line)
    s.stBytes a (leTo 64 (leOf (s.ldBytes a 64) ^^^ wrong))

/-- A line read and decoded with the bits `errs` of its codeword upset, or with an address mismatch: whether its data is usable.  A corrected line is counted
and queued for write-back, and is in error in the array until then; an uncorrectable one halts the Suite for a Brick or the loader only (R214 to R216,
R446, R455). -/
def State.lineCheck (s : State) (room line who errs : Nat) (addr : Bool) : State × Bool :=
  let p := rp .ecc room
  let bits := if (s.room room).wbacks.contains line && decide (errs = 0) then 1 else errs
  let ue := s.isArmed p 0
  let ce := !ue && s.isArmed p 1
  let s := if ue then s.disarm p 0 else if ce then s.disarm p 1 else s
  let v := shelfVerdict (if ue then bits ^^^ 7 else if ce then bits ^^^ 1 else bits)
  let addr := addr || v.2.1
  let br := lineBankRow line
  let bank := s.realBank room br.1
  if 3 ≤ v.1 ∨ addr = true ∨ (s.room room).badLines.contains line then
    let w := eccWhere 0x01 3 (b2n addr) bank br.2 who
    let s := s.capture p 0x080 w
    let s := s.bump p 0x088 31 16 1
    if who < 0x40 ∨ who = 0x41 then (s.hitHalt .ecc room 0 0x01 ue (setBit w 31), false)
    else (s.hitDetect .ecc room 0 0x01 ue (setBit w 31), false)
  else if 0 < v.1 then
    let s := (s.lineWrong room line v.2.2).capture p 0x080 (eccWhere 0x02 v.1 0 bank br.2 who)
    let s := (s.bump p 0x088 63 32 1).raise p 1 ce
    (s.modRoom room fun r => { r with wbacks := if r.wbacks.contains line then r.wbacks else r.wbacks ++ [line] }, true)
  else (s, true)

/-- A list of lines read and decoded, each with the errors that the array holds. -/
def State.linesCheck (s : State) (room who : Nat) : List Nat → State × Bool
  | [] => (s, true)
  | l :: ls =>
    let r := s.lineCheck room l who 0 false
    if r.2 then r.1.linesCheck room who ls else r

/-- The line indices of `n` bytes from `off`. -/
def linesOf (off n : Nat) : List Nat := (List.range ((off + max n 1 - 1) / 64 + 1 - off / 64)).map fun k => off / 64 + k

/-! ### Reads and writes of requesters that are not Bricks -/

/-- `n` bytes of a Room's Shelf within one quarter: zeros where they do not decode or the quarter is dark; false where a line is uncorrectable
(R36, R213, R216). -/
def State.shelfLdPart (s : State) (room off n who : Nat) : State × List Byte × Bool :=
  if 0x300000 ≤ off then (s.noteShelfUnmapped room off who, List.replicate n 0, true)
  else if s.shelfDark room off then (s.noteDark room off who, List.replicate n 0, true)
  else
    let r := s.linesCheck room who (linesOf off n)
    if r.2 then (r.1, r.1.ldBytes (shelfEA room off) n, true) else (r.1, List.replicate n 0, false)

/-- A byte range cut at multiples of `step` of the address, or every `step` bytes for a remote one (R222, R282). -/
def cutRange (aligned : Bool) (step a : Nat) : Nat → Nat → List (Nat × Nat)
  | 0, _ => []
  | fuel + 1, n =>
    if n = 0 then []
    else
      let k := min n (if aligned then step - a % step else step)
      (a, k) :: cutRange aligned step (a + k) fuel (n - k)

/-- Whether a range lies in quarters that are all lit: its first byte's and its last byte's (R204, R213). -/
def State.shelfLit (s : State) (room off n : Nat) : Bool :=
  decide (off + max n 1 ≤ 0x300000) && !s.shelfDark room off && !s.shelfDark room (off + max n 1 - 1)

/-- The quarters' parts of a range read in order. -/
def State.shelfLdParts (s : State) (room who : Nat) : List (Nat × Nat) → State × List Byte × Bool
  | [] => (s, [], true)
  | e :: l =>
    let r := s.shelfLdPart room e.1 e.2 who
    let q := r.1.shelfLdParts room who l
    (q.1, r.2.1 ++ q.2.1, r.2.2 && q.2.2)

/-- `n` bytes of a Room's Shelf, judged by quarter: zeros where they do not decode or the quarter is dark; false where a line is uncorrectable
(R36, R204, R213, R216). -/
def State.shelfLd (s : State) (room off n who : Nat) : State × List Byte × Bool :=
  if s.shelfLit room off n then
    let r := s.linesCheck room who (linesOf off n)
    if r.2 then (r.1, r.1.ldBytes (shelfEA room off) n, true) else (r.1, List.replicate n 0, false)
  else s.shelfLdParts room who (cutRange true 0xC0000 off 8 n)

/-- What a write does beside its data: pending write-backs of written lines are cancelled, lines written whole are made good, and a reservation of
the Room's Hearth on a written byte is lost (R215, R238). -/
def State.dropBacks (s : State) (room off n : Nat) : State :=
  let touched (l : Nat) : Bool := decide (off / 64 ≤ l ∧ l ≤ (off + max n 1 - 1) / 64)
  let whole (l : Nat) : Bool := decide (off ≤ 64 * l ∧ 64 * l + 64 ≤ off + n)
  s.modRoom room fun r =>
    { r with
      wbacks := r.wbacks.filter fun l => !touched l, badLines := r.badLines.filter fun l => !whole l
      hearth := { r.hearth with resv := match r.hearth.resv with
        | some (a, k) => if off < a + k ∧ a < off + n then none else some (a, k)
        | none => none } }

/-- The lines that a write of `n` bytes from `off` writes only in part, by a read-modify-write (R205). -/
def partLines (off n : Nat) : List Nat := (linesOf off n).filter fun l => !decide (off ≤ 64 * l ∧ 64 * l + 64 ≤ off + n)

/-- Bytes written within one line: dropped where they do not decode or the quarter is dark; false and dropped where the line is only partly written
and uncorrectable (R36, R205, R213, R216). -/
def State.shelfStLine (s : State) (room off who : Nat) (vs : List Byte) : State × Bool :=
  if 0x300000 ≤ off then (s.noteShelfUnmapped room off who, true)
  else
    let r := s.linesCheck room who (partLines off vs.length)
    if r.2 then ((r.1.stBytes (shelfEA room off) vs).dropBacks room off vs.length, true) else (r.1, false)

/-- The lines of a write within one quarter, in order. -/
def State.shelfStLines (s : State) (room who off : Nat) (vs : List Byte) : List (Nat × Nat) → State × Bool
  | [] => (s, true)
  | e :: l =>
    let r := s.shelfStLine room e.1 who ((vs.drop (e.1 - off)).take e.2)
    let q := r.1.shelfStLines room who off vs l
    (q.1, r.2 && q.2)

/-- The quarters' parts of a write, in order: one in a dark quarter is dropped and counted. -/
def State.shelfStParts (s : State) (room who off : Nat) (vs : List Byte) : List (Nat × Nat) → State × Bool
  | [] => (s, true)
  | e :: l =>
    let r := if e.1 < 0x300000 ∧ s.shelfDark room e.1 = true then (s.noteDark room e.1 who, true)
      else if 0x300000 ≤ e.1 then (s.noteShelfUnmapped room e.1 who, true)
      else s.shelfStLines room who off vs (cutRange true 64 e.1 (e.2 + 1) e.2)
    let q := r.1.shelfStParts room who off vs l
    (q.1, r.2 && q.2)

/-- Bytes written to a Room's Shelf, judged by quarter and by line: dropped where they do not decode or the quarter is dark; false where a line only
partly written is uncorrectable, which alone is dropped (R36, R204, R205, R213, R216). -/
def State.shelfSt (s : State) (room off who : Nat) (vs : List Byte) : State × Bool :=
  let r := if s.shelfLit room off vs.length then s.linesCheck room who (partLines off vs.length) else (s, false)
  if r.2 then ((r.1.stBytes (shelfEA room off) vs).dropBacks room off vs.length, true)
  else s.shelfStParts room who off vs (cutRange true 0xC0000 off 8 vs.length)

/-- A word of a Room's Shelf. -/
def State.shelfLdW (s : State) (room off who : Nat) : State × W64 :=
  let r := s.shelfLd room off 8 who
  (r.1, BitVec.ofNat 64 (leOf r.2.1))

/-- A word written to a Room's Shelf. -/
def State.shelfStW (s : State) (room off who : Nat) (v : W64) : State := (s.shelfSt room off who (leTo 8 v.toNat)).1

/-- The words of some bytes. -/
def wordsOf (n : Nat) (vs : List Byte) : List W64 := (List.range n).map fun k => BitVec.ofNat 64 (leOf ((vs.drop (8 * k)).take 8))

/-- `n` words of a Room's Shelf, one access. -/
def State.shelfLdWs (s : State) (room off who n : Nat) : State × List W64 :=
  let r := s.shelfLd room off (8 * n) who
  (r.1, wordsOf n r.2.1)

/-- Words written to a Room's Shelf, one access. -/
def State.shelfStWs (s : State) (room off who : Nat) (vs : List W64) : State := (s.shelfSt room off who (vs.flatMap fun v => leTo 8 v.toNat)).1

/-! ### The bank schedule -/

/-- Whether a schedule entry marks step `t` (R210). -/
def SchedEnt.marks (e : SchedEnt) (period t : Nat) : Bool :=
  let x := if period = 0 then t else if e.start ≤ t then e.start + (t - e.start) % period else t
  decide (e.start ≤ x) && decide (x < e.start + e.len)

/-- The scheduled owner of a bank at step `t`: 1 loader, 2 inbound SCH Hall, 8 to 15 Dumbwaiter queue (R210). -/
def RoomSt.owner (r : RoomSt) (bank t : Nat) : Option Nat :=
  (r.sched.find? fun e => decide (e.bank = bank) && e.marks r.schedPer t).map SchedEnt.owner

/-- The next line the loader reads. -/
def Loader.bank (l : Loader) : Nat := shelfBank (64 * l.next)

/-- Scheduled requesters other than Bricks that use a bank-step of a running stepped Suite: the loader, SCH packets waiting at the Room, and
Dumbwaiter queues whose oldest descriptor is a SCHED one that still has lines to move (R207, R211). -/
def State.schedUsers (s : State) (room bank t : Nat) : List Nat :=
  let r := s.room room
  match r.owner bank t with
  | some 1 =>
    match r.loader with
    | some l => if l.gone = false ∧ 0 < l.total ∧ l.bank = bank then [0x41] else []
    | none => []
  | some 2 => if s.pkts.any fun f => f.ejected && decide (f.room = room) && decide (f.pkt.vc = 0) && decide (shelfBank (f.pkt.addr % 2 ^ 22) = bank) then [0x42] else []
  | some k =>
    if 8 ≤ k then
      match smGet [] r.dw (k - 8) with
      | d :: _ => if tst (d.words.getD 0 0) 39 && decide (d.phase ≠ 2) then [0x48 + (k - 8)] else []
      | [] => []
    else []
  | none => []

/-! ### Bank-steps of Brick accesses -/

/-- A word of a result now known: the placeholder of a register replaced. -/
def fillReg (r : Nat) (mask v : W64) : List BWrite → List BWrite
  | [] => []
  | .reg i m x :: l => if i = r then .reg i m ((x &&& ~~~ mask) ||| (v &&& mask)) :: l else .reg i m x :: fillReg r mask v l
  | w :: l => w :: fillReg r mask v l

/-- The registers an access was to write, which keep their values (R208). -/
def dropRegs (rs : List Nat) (l : List BWrite) : List BWrite :=
  l.filter fun w => match w with | .reg i _ _ => !rs.contains i | _ => true

/-- The registers a bank access reads into. -/
def BankReq.regs (q : BankReq) : List Nat := q.rd.map Prod.fst ++ q.cols.map Prod.fst

/-- One awaited access of a result arrived: `d` cycles after its bank-step, with the words of its registers (R118). -/
def Brick.gotWords (b : Brick) (q : BankReq) (d : Nat) (f : List BWrite → List BWrite) : Brick :=
  { b with pend := b.pend.map fun p =>
      if p.id = q.pid ∧ 0 < p.wait then { p with wait := if q.regs.isEmpty then p.wait else p.wait - 1, delay := max p.delay d, ws := f p.ws } else p }

/-- A bank access granted: data moved by one line read or write (R205, R206, R213, R216). -/
def State.bankGrant (s : State) (room : Nat) (q : BankReq) (d errs : Nat) (addr : Bool) : State :=
  let fill (s : State) (get : Nat → W64) (byte : Nat → Nat) : State :=
    s.modBrick room q.who fun b => b.gotWords q d fun ws =>
      let ws := q.rd.foldl (fun ws e => fillReg e.1 (~~~ 0) (get e.2) ws) ws
      q.cols.foldl (fun ws e => fillReg e.1 (put (8 * e.2.1 + 7) (8 * e.2.1) 0xFF) (put (8 * e.2.1 + 7) (8 * e.2.1) (byte e.2.2)) ws) ws
  let s := s.dmpCount room 5 1
  if q.void then s
  else if s.shelfDark room (64 * q.line) then fill (s.noteDark room q.off q.who) (fun _ => 0) (fun _ => 0)
  else
    let reads := q.wr.length < 8
    let r := if reads then s.lineCheck room q.line q.who errs addr else (s, true)
    let s := r.1
    if !r.2 then fill s (fun _ => 0) (fun _ => 0)
    else
      let s' := q.wr.foldl (fun s e => (s.stWord (shelfEA room e.1) e.2).dropBacks room e.1 8) s
      let s' := if reads then s' else s'.dropBacks room (64 * q.line) 64
      fill s' (fun off => s.ldWord (shelfEA room off)) (fun off => (s.ldByte (shelfEA room off)).toNat)

/-- The lane cycle of a Room's banks: that of its Suite (R205). -/
def State.bankNow (s : State) (room : Nat) : Nat := match (s.suiteOf room).bind s.suite with | some u => u.now | none => 0

/-- Whether a bank has made no access yet in the present lane cycle: a bank makes one in each (R205). -/
def State.bankFree (s : State) (room bank : Nat) : Bool := decide (smGet 0 (s.room room).busy bank ≠ s.bankNow room + 1)

/-- A bank's access of the present lane cycle made (R205). -/
def State.useBank (s : State) (room bank : Nat) : State := s.modRoom room fun r => { r with busy := smSet 0 r.busy bank (s.bankNow room + 1) }

/-- The word a SHF_WHERE captures (R230). -/
def shfWhere (cause bank a b off : Nat) : W64 :=
  put 63 56 cause ||| put 55 51 bank ||| put 50 44 a ||| put 43 37 b ||| put 21 0 off

/-- An SHF event raised and captured (R229 to R231). -/
def State.shfEvent (s : State) (room bit cause bank : Nat) : State :=
  (s.captureStep (rp .shf room) 0x098 (shfWhere cause bank 0 0 0) 0x0A0 (s.whereStep room)).raise (rp .shf room) bit false

/-- The loader of a Room loses its bank-step: it reads no line in this lane cycle (R208). -/
def State.loaderLoses (s : State) (room : Nat) : State :=
  s.modRoom room fun r => { r with loader := r.loader.map fun l => { l with lastAt := s.bankNow room + 1, lines := 4 } }

/-- A conflict of a stepped Suite: neither access takes effect, and the Suite halts (R208, R231). -/
def State.shelfConflict (s : State) (room bank : Nat) (qs : List BankReq) (other : Nat) (injected : Bool) : State :=
  let a := match qs with | q :: _ => q.who | [] => other
  let b := match qs with | _ :: q :: _ => q.who | _ => other
  let off := match qs with | q :: _ => q.off | [] => 0
  let w := shfWhere 0x01 (s.realBank room bank) a b off
  let s := qs.foldl (fun s q => s.modBrick room q.who fun x => x.gotWords q 0 (dropRegs q.regs)) s
  let s := s.captureStep (rp .shf room) 0x098 w 0x0A0 (s.whereStep room)
  s.hitHalt .shf room 0 0x01 injected (setBit w 31)

/-- The request after the last winner of a bank, by requester code (R209). -/
def nextWinner (last : Nat) (qs : List BankReq) : Option BankReq :=
  let mn (l : List BankReq) : Option BankReq := (l.map BankReq.who).min?.bind fun w => l.find? fun q => q.who = w
  match mn (qs.filter fun q => decide (last < q.who)) with
  | some q => some q
  | none => mn qs

/-- Losing requests counted once each (R209). -/
def State.countLosers (s : State) (room : Nat) (lose : List BankReq) : State :=
  let fresh := lose.filter fun q => !q.lost
  let s := s.bump (rp .shf room) 0x0A8 63 32 fresh.length
  s.modRoom room fun r => { r with reqs := r.reqs.map fun q => if fresh.contains q then { q with lost := true } else q }

/-- SHELF_BANK_STEP: one bank-step of a Room's bank.  `errs` bits of the line read are in error, or its address does not match.  In a running
stepped Suite the Brick accesses placed in this step are served, two scheduled requesters colliding; in an elastic RUN the round-robin winner is, one
access in a lane cycle; after a RUN and in a halted Suite an access goes ahead of every open requester from its own bank-step on (R205, R206, R208,
R209, R312). -/
def execShelfBankStep (room bank errs : Nat) (addr : Bool) (s : State) : Host.Outcome State Fault Refusal :=
  let r := s.room room
  let mine := r.reqs.filter fun q => q.bank = bank
  let su := (s.suiteOf room).bind fun i => s.suite i
  let run : Bool := match su with | some u => decide (u.run = 2) | none => false
  let frozen : Bool := match su with | some u => u.frozen || u.pastHalt | none => false
  let stepped : Bool := match su with | some u => u.mode = 0 | none => true
  let now := match su with | some u => u.now | none => 0
  if run && frozen then .next s
  else if run && stepped then
    let due := mine.filter fun q => q.at_ = now
    let users := s.schedUsers room bank (match su with | some u => u.step.toNat | none => 0)
    let inj := s.isArmed (rp .shf room) 0
    match due with
    | [] => .next s
    | q :: rest =>
      let s := s.modRoom room fun r => { r with reqs := r.reqs.filter fun x => !due.contains x }
      if inj then .next ((s.disarm (rp .shf room) 0).shelfConflict room bank due 0x41 true)
      else if !rest.isEmpty || !users.isEmpty then
        .next ((if users.contains 0x41 then s.loaderLoses room else s).shelfConflict room bank due (users.headD 0) false)
      else .next (s.bankGrant room q 0 errs addr)
  else if run && !s.bankFree room bank then .next s
  else
    let due := if su.isSome then mine.filter fun q => decide (q.at_ ≤ now) else mine
    match nextWinner (smGet 0x7F r.rr bank) due with
    | none => .next s
    | some q =>
      let s := s.modRoom room fun r => { r with reqs := r.reqs.erase q, rr := smSet 0x7F r.rr bank q.who }
      let s := (s.countLosers room (due.erase q)).useBank room bank
      .next (s.bankGrant room q (if run then now - q.at_ else 0) errs addr)

/-- ECC_WRITE_BACK: the oldest corrected line is written back, in a bank-step of its bank that no requester is granted; the array holds the
corrected data from then on (R215). -/
def execEccWriteBack (room : Nat) (s : State) : Host.Outcome State Fault Refusal :=
  match (s.room room).wbacks with
  | [] => .next s
  | line :: rest =>
    let bank := (lineBankRow line).1
    let now := s.bankNow room
    if !s.bankFree room bank ∨ (s.room room).reqs.any (fun q => decide (q.bank = bank) && decide (q.at_ ≤ now)) = true then .next s
    else .next ((s.useBank room bank).modRoom room fun r => { r with wbacks := rest })

/-- The Suite cycle of a Room's Suite. -/
def State.suiteClk (s : State) (room : Nat) : Nat := match (s.suiteOf room).bind s.suite with | some u => u.clk | none => 0

/-- Whether 4,096 Suite cycles have passed since the last scrub of a Room's Shelf (R446). -/
def State.shelfScrubDue (s : State) (room : Nat) : Bool :=
  decide (s.suiteClk room < (s.room room).scrubClk) || decide ((s.room room).scrubClk + 4096 ≤ s.suiteClk room)

/-- SHELF_SCRUB: every 4,096 Suite cycles the scrubber reads the next line of each bank that is not dark, `errs` giving the upset bits for each bank
in turn; a bank in `late` had no free bank-step in the whole interval (R446, R454). -/
def execShelfScrub (room : Nat) (errs : List Nat) (late : List Nat) (s : State) : Host.Outcome State Fault Refusal :=
  let p := rp .ecc room
  if s.dark room ∨ !tst (s.rd p 0x090) 63 ∨ !s.shelfScrubDue room then .next s
  else
    let row := s.rdF p 0x090 11 0
    let s := (List.range 16).foldl (fun s bank =>
      let line := ((bank / 4) * 0xC0000 + row * 256 + (bank % 4) * 64) / 64
      if late.contains bank then s.bump p 0x088 15 0 1
      else if !s.quarterOn room (bank / 4) then s
      else (s.lineCheck room line 0x44 (errs.getD bank 0) false).1) s
    .next ((s.wrF p 0x090 11 0 ((row + 1) % 3072)).modRoom room fun r => { r with scrubClk := s.suiteClk room })

/-! ### Quarters -/

/-- The bytes of a quarter forgotten; they read as zero (R212). -/
def State.clearQuarter (s : State) (room j : Nat) : State :=
  let lo := shelfEA room (0xC0000 * j)
  { s with mem := smDrop (fun a => decide (lo ≤ a ∧ a < lo + 0xC0000)) s.mem }

/-- A quarter that starts powering up: on and ramping (R212). -/
def State.quarterUp (s : State) (room j : Nat) : State :=
  let p := rp .shf room
  s.wr p 0x080 (setBit (setBit (s.rd p 0x080) (4 + j)) j)

/-- A quarter powered off: dark at once, its contents lost (R212). -/
def State.quarterDown (s : State) (room j : Nat) : State :=
  let p := rp .shf room
  (s.wr p 0x080 (clrBit (clrBit (s.rd p 0x080) (4 + j)) j)).clearQuarter room j

/-- Whether a quarter holds a byte of the Room record at ARR_IMG_BASE (R170, R212). -/
def State.holdsImage (s : State) (room j : Nat) : Bool :=
  let base := (s.rd (rp .arr room) 0x0B0).toNat
  let len := leOf (s.ldBytes (shelfEA room (base + 8)) 4)
  decide (base < 0xC0000 * (j + 1)) && decide (0xC0000 * j < base + max len 1)

/-- A full load's power changes of one quarter at C + 2FL (R212). -/
def State.loadQuarter (s : State) (room j : Nat) : State :=
  let p := rp .shf room
  let keep := (s.room room).quarters.testBit j || tst (s.rd p 0x088) j || s.holdsImage room j
  let on := tst (s.rd p 0x080) (4 + j)
  if keep then (if on then s else s.quarterUp room j)
  else if tst (s.rd p 0x088) 4 && on then s.quarterDown room j else s

/-- SHF_QCTRL_WRITE: accepted while the Suite is halted or has no arrangement; a FORCE_ON bit newly set powers its quarter, one newly cleared
with AUTO set powers it off unless it is in use (R212). -/
def execShfQctrlWrite (room : Nat) (v : W64) (s : State) : Host.Outcome State Fault Refusal :=
  let p := rp .shf room
  if s.dark room then .next s
  else if !s.suiteIdle room then .next (s.shfEvent room 5 0x06 0)
  else
    let old := s.rd p 0x088
    let s := s.wr p 0x088 (put 4 0 (fld v 4 0))
    .next ((List.range 4).foldl (fun s j =>
      if tst v j && !tst old j then (if tst (s.rd p 0x080) (4 + j) then s else s.quarterUp room j)
      else if !tst v j && tst old j && tst v 4 then
        if ((s.room room).hasArr && (s.room room).quarters.testBit j) || s.holdsImage room j then s else s.quarterDown room j
      else s) s)

/-- QUARTER_RAMP_DONE: every line of a powering-up quarter has been set to zero (R212). -/
def execQuarterRampDone (room j : Nat) (s : State) : Host.Outcome State Fault Refusal :=
  let p := rp .shf room
  if j < 4 ∧ tst (s.rd p 0x080) j = true then
    .next (((s.clearQuarter room j).wr p 0x080 (clrBit (s.rd p 0x080) j)).modRoom room fun r =>
      { r with badLines := r.badLines.filter fun l => l / 0x3000 ≠ j })
  else .next s

/-! ### Retirement -/

/-- A write of SHF_RETIRE: with GO, the bank's copy into the spare starts; a spare in use makes the Room defective (R217). -/
def State.shfRetire (s : State) (room : Nat) (v : W64) : State :=
  let p := rp .shf room
  if s.dark room then s
  else if !tst v 7 then s.wrF p 0x090 3 0 (fld v 3 0)
  else if !s.suiteIdle room then s.shfEvent room 5 0x06 (fld v 3 0)
  else if (s.room room).retiring.isSome then s
  else if tst (s.rd p 0x080) 13 then
    (((s.wr p 0x090 (put 3 0 (fld v 3 0))).wr p 0x080 (setBit (s.rd p 0x080) 15)).shfEvent room 4 0x05 (fld v 3 0)).survShelf room
  else
    let s := s.wr p 0x090 (put 7 7 1 ||| put 3 0 (fld v 3 0))
    let s := s.wr p 0x080 (setBit (s.rd p 0x080) 14)
    s.modRoom room fun r => { r with retiring := some (fld v 3 0) }

/-- SHF_RETIRE (R217). -/
def execShfRetire (room : Nat) (v : W64) (s : State) : Host.Outcome State Fault Refusal := .next (s.shfRetire room v)

/-- BANK_COPY_DONE: the spare serves the bank; rows that could not be corrected stay uncorrectable (R217). -/
def execBankCopyDone (room : Nat) (badRows : List Nat) (s : State) : Host.Outcome State Fault Refusal :=
  let p := rp .shf room
  match (s.room room).retiring with
  | none => .next s
  | some bank =>
    let st := setFld (setBit (clrBit (s.rd p 0x080) 14) 13) 11 8 bank
    let s := (((s.wr p 0x080 st).wr p 0x090 (put 3 0 bank)).shfEvent room 3 0x04 bank).survShelf room
    let lines := badRows.map fun row => ((bank / 4) * 0xC0000 + (row % 3072) * 256 + (bank % 4) * 64) / 64
    .next (s.modRoom room fun r => { r with retiring := none, badLines := r.badLines ++ lines.filter fun l => !r.badLines.contains l })

end Sys2Proof.Machine
end

