-- ==== Sys2Proof/Machine/Arrange.lean ====
section
/-!
DEFINITION. The Suite command stream, loads of arrangements, and runs (R168 to R187, R192 to R194, R244 to R248).
-/

namespace Sys2Proof.Machine

/-! ### The command stream -/

/-- A change of the head entry. -/
def State.csMod (s : State) (i : Nat) (f : CsEntry → CsEntry) : State :=
  (s.modSuite i fun u => { u with entries := match u.entries with | e :: l => f e :: l | [] => [] }).csShow i

/-- The stream stopped with a cause of R248 that halts a running stepped Suite. -/
def State.csFail (s : State) (i cause : Nat) (injected : Bool := false) : State :=
  match s.suite i with
  | none => s
  | some u =>
    let s := s.csStop i cause injected
    if u.mode = 0 ∧ (u.run = 2 ∨ u.run = 3) then s.sendHalt i u.lead Page.hrt.slot (Page.hrt.cls * 256 + 0x03) else s

/-- ENTRY_FETCH: in AUTO mode the unit reads ahead the next entry of the ring, at most 8 before the one it performs.  A ring in host memory
is answered by `data`, or refused where `fail`; `errs` gives the page errors of a Cellar read (R244, R248). -/
def execEntryFetch (suite : Nat) (data : List W64) (fail : Bool) (errs : List Nat) (s : State) : Host.Outcome State Fault Refusal :=
  match s.suite suite with
  | none => .next s
  | some u =>
    let p := u.csPage
    if !s.csAuto u ∨ 8 ≤ u.entries.length ∨ u.fetched = s.rdF p 0x0B8 15 0 then .next s
    else
      let a := (s.rd p 0x0A8).toNat + 64 * u.fetched
      let r : State × Option (List W64) :=
        match s.decodeEa a with
        | .host _ => (s, if fail || decide (data.length ≠ 8) then none else some data)
        | .cellar st off =>
          let r := s.cellarAccess st off 64 none suite (eidRoom u.lead 2) false errs
          (match r.2 with
           | .ok b => (r.1, some ((List.range 8).map fun k => BitVec.ofNat 64 (leOf ((b.drop (8 * k)).take 8))))
           | _ => (r.1, none))
        | _ => (s.celMiss a, none)
      let e : CsEntry := ⟨r.2.getD [], 0, 0, none⟩
      let s := r.1.modSuite suite fun u =>
        { u with entries := u.entries ++ [e], fetched := (u.fetched + 1) % 2 ^ s.rdF p 0x0A0 4 0 }
      .next (s.csShow suite)

/-- Whether an entry's fields are those of R246: a known OP, unused bits and words zero, LOAD slot codes of R246, ASAP where required. -/
def CsEntry.formOk (e : CsEntry) : Bool :=
  let w := e.words.getD 0 0
  let x (k : Nat) : W64 := e.words.getD k 0
  let zero (ks : List Nat) : Bool := ks.all fun k => x k = 0
  let a := decide (e.step = asap)
  match e.op with
  | 0 => decide (fld w 55 49 = 0) && a && zero [1, 2, 3, 4, 5, 6, 7]
  | 1 => decide (fld w 51 50 = 0) && (decide (fld w 55 52 < 4) || decide (fld w 55 52 = 15))
  | 2 => decide (fld w 55 50 = 0) && a && zero [1, 2, 3, 4, 5, 6, 7]
  | 3 => decide (fld w 55 48 = 0) && decide (fld (x 1) 63 24 = 0) && zero [2, 3, 4, 5, 6, 7]
  | 4 => decide (fld w 55 49 = 0) && decide (fld (x 1) 62 56 = 0) && zero [2, 3, 4, 5, 6, 7]
  | 5 => decide (fld w 55 48 = 0) && a && zero [1, 2, 3, 4, 5, 6, 7]
  | 6 => decide (fld w 55 48 = 0) && a && decide (fld (x 1) 63 56 = 0) && decide (fld (x 1) 31 8 = 0) && zero [2, 3, 4, 5, 6, 7]
  | 7 => decide (fld w 55 48 = 0) && a && decide (fld (x 1) 63 32 = 0) && zero [2, 3, 4, 5, 6, 7]
  | _ => false

/-- Whether an entry at the head of the unit is a BAD_ENTRY (R245, R247, R248). -/
def State.csBad (s : State) (i : Nat) (u : Suite) (e : CsEntry) : Bool :=
  let running := decide (u.run = 2 ∨ u.run = 3)
  !e.formOk
    || (decide (e.step ≠ asap) && (u.mode ≠ 0 || !running))
    || (decide (e.op = 1) && decide (e.step = asap) && decide (u.mode = 0) && running)
    || (decide (e.op = 6) && !s.gGranted (fld (e.words.getD 1 0) 7 0) i)
    || (decide (e.op = 2) && u.rooms.any fun r => !(s.room r).hasArr)

/-- ENTRY_ISSUE: the entry at the head is begun.  A failed fetch, a BAD_ENTRY and a late step entry stop the stream and halt a running
stepped Suite; a step entry is issued when ARR_STEP reaches STEP − FL − 16, an ASAP entry at once (R247, R248). -/
def execEntryIssue (suite : Nat) (s : State) : Host.Outcome State Fault Refusal :=
  match s.suite suite with
  | none => .next s
  | some u =>
    match u.entries with
    | [] => .next s
    | e :: _ =>
      let p := u.csPage
      if e.prog ≠ 0 ∨ (e.hearth.isNone ∧ !s.csAuto u) then .next s
      else if e.words = [] then .next (s.csFail suite 0x03)
      else if s.isArmed p 2 then .next ((s.disarm p 2).csFail suite 0x01 true)
      else if s.csBad suite u e then .next (s.csFail suite 0x01)
      else if e.step = asap then .next (s.csMod suite fun e => { e with prog := 1, t0 := u.now + s.fl + 1 })
      else
        let at_ := u.step.toNat + s.fl + 16
        if u.runSteps.toNat ≤ e.step ∨ e.step < at_ ∨ u.ended then .next (s.csFail suite 0x02)
        else if at_ = e.step then .next (s.csMod suite fun e => { e with prog := 1, t0 := u.now + (e.step - u.step.toNat) })
        else .next s

/-- The head entry, if it has begun and has OP `op`. -/
def State.csHead (s : State) (i op : Nat) : Option (Suite × CsEntry) :=
  match s.suite i with
  | none => none
  | some u =>
    match u.entries with
    | e :: _ => if e.prog = 1 ∧ e.op = op then some (u, e) else none
    | [] => none

/-- CS_NOP: completes at once; MARK raises CS_MARK (R246). -/
def execCsNop (suite : Nat) (s : State) : Host.Outcome State Fault Refusal :=
  match s.csHead suite 0 with
  | none => .next s
  | some (u, e) =>
    let s := if tst (e.words.getD 0 0) 48 then s.raise u.csPage 3 false else s
    .next (s.csPop suite)

/-- CS_FENCE: completes once the RUN in progress has ended and every earlier entry has completed (R246). -/
def execCsFence (suite : Nat) (s : State) : Host.Outcome State Fault Refusal :=
  match s.csHead suite 5 with
  | none => .next s
  | some (u, _) => if u.run = 2 ∨ u.run = 3 then .next s else .next (s.csPop suite)

/-- CS_LATCH_WAIT: begins the wait for the current generation of a global Flue Latch; ended by its completion, or by a timeout or loss, which
stop the stream with LATCH_FAIL (R246, R248). -/
def execCsLatchWait (suite : Nat) (s : State) : Host.Outcome State Fault Refusal :=
  match s.suite suite with
  | none => .next s
  | some u =>
    match u.entries with
    | [] => .next s
    | e :: _ =>
      if e.op ≠ 6 then .next s
      else if e.prog = 3 then (if e.t0 = 0 then .next (s.csPop suite) else .next (s.csStop suite 0x05))
      else if e.prog = 1 then
        let x := e.words.getD 1 0
        let r := s.gWait (fld x 7 0) u.lead suite (.stream suite) (fld x 55 32) (decide (fld x 55 32 = 0))
        match r.2 with
        | some 0 => .next (r.1.csPop suite)
        | some _ => .next (r.1.csStop suite 0x05)
        | none => .next (r.1.csMod suite fun e => { e with prog := 2 })
      else .next s

/-- CS_HALT: CODE is copied to CS_STATUS and the Suite halts; a Suite with nothing to halt stops its stream at once (R246, R248). -/
def execCsHalt (suite : Nat) (s : State) : Host.Outcome State Fault Refusal :=
  match s.csHead suite 7 with
  | none => .next s
  | some (u, e) =>
    let s := s.wrF u.csPage 0x0C0 63 32 (fld (e.words.getD 1 0) 31 0)
    if u.run = 0 ∨ u.run = 4 then .next (s.csStop suite 0x06)
    else
      let s := s.sendHalt suite u.lead Page.hrt.slot (Page.hrt.cls * 256 + 0x03)
      let s := s.modSuite suite fun u => { u with ckHalt := true }
      .next (s.csMod suite fun e => { e with prog := 2 })

/-- COMMAND_UNIT_ENABLE: CS_CFG written with EN set in the lead Room; the unit starts at CS_HEAD unless an uncleared CAUSE stands (R248,
R265). -/
def execCommandUnitEnable (room : Nat) (v : W64) (s : State) : Host.Outcome State Fault Refusal :=
  if !s.isLead room ∨ s.dark room then .next s
  else
    let p := rp .hrt room
    let i := s.suiteId room
    let s := s.wr p 0x0A0 (put 63 63 1 ||| put 5 0 (fld v 5 0))
    if s.rdF p 0x0C0 17 16 = 3 ∧ s.rdF p 0x0C0 15 8 ≠ 0 then .next s
    else
      let s := s.wrF p 0x0C0 17 16 0
      let h := s.rdF p 0x0B0 15 0
      let s := s.modSuite i fun u => { u with entries := u.entries.filter fun e => e.hearth.isSome || e.prog != 0 }
      let s := s.modSuite i fun u =>
        { u with fetched := if u.entries.any fun e => e.hearth.isNone then (h + 1) % 2 ^ s.rdF p 0x0A0 4 0 else h }
      .next (s.csShow i)

/-- COMMAND_UNIT_DISABLE: CS_CFG written with EN clear; entries read ahead are dropped, and the unit stops once the entry in progress has
completed (R265). -/
def execCommandUnitDisable (room : Nat) (v : W64) (s : State) : Host.Outcome State Fault Refusal :=
  if !s.isLead room ∨ s.dark room then .next s
  else
    let p := rp .hrt room
    let i := s.suiteId room
    let s := s.wr p 0x0A0 (put 5 0 (fld v 5 0))
    let s := s.modSuite i fun u => { u with entries := u.entries.filter fun e => e.hearth.isSome || e.prog != 0 }
    .next (s.csShow i)

/-- CS_TAIL_WRITE: entries appended to the stream (R244). -/
def execCsTailWrite (room : Nat) (v : W64) (s : State) : Host.Outcome State Fault Refusal :=
  if !s.isLead room ∨ s.dark room then .next s else .next (s.wr (rp .hrt room) 0x0B8 (put 15 0 (fld v 15 0)))

/-! ### The Room record and the image header -/

/-- Shelf offset of the Room record (R171). -/
def State.imgBase (s : State) (room : Nat) : Nat := (s.rd (rp .arr room) 0x0B0).toNat

/-- A number of `n` bytes in the Room record. -/
def State.recNum (s : State) (room off n : Nat) : Nat := leOf (s.ldBytes (shelfEA room (s.imgBase room + off)) n)

/-- A word of the Room record. -/
def State.recWord (s : State) (room off : Nat) : W64 := s.ldWord (shelfEA room (s.imgBase room + off))

/-- Fields of the image header as the LOAD entry carries it (R168, R246). -/
def hdrMode (h : List W64) : Nat := fld (h.getD 1 0) 7 0
def hdrW (h : List W64) : Nat := fld (h.getD 1 0) 15 8
def hdrH (h : List W64) : Nat := fld (h.getD 1 0) 23 16
def hdrSlots (h : List W64) : Nat := fld (h.getD 1 0) 31 24
def hdrRate (h : List W64) : Nat := fld (h.getD 1 0) 39 32
def hdrFl (h : List W64) : Nat := fld (h.getD 1 0) 63 48

/-- Whether MAGIC, GEN, IMG_VER and the reserved fields are those of R168. -/
def hdrFormOk (h : List W64) : Bool :=
  decide (fld (h.getD 0 0) 31 0 = 0x47415149) && decide (fld (h.getD 0 0) 39 32 = 2) && decide (fld (h.getD 0 0) 63 48 = 1)
    && decide (hdrMode h < 2) && decide (hdrSlots h < 16) && decide (fld (h.getD 1 0) 47 40 = 0) && decide (h.getD 6 0 = 0)


/-- The number of slots below `k` that SLOTS names (R180). -/
def slotsBelow (slots k : Nat) : Nat := ((List.range k).filter fun j => slots.testBit j).length

/-- Shelf offset of the first line of slot `k` in a Room's context block (R170, R180). -/
def State.slotOff (s : State) (room k : Nat) : Nat :=
  s.imgBase room + s.recNum room 0x0C 4 + 16896 * slotsBelow (s.recNum room 0x06 1) k

/-- The 33 words of Brick `b` in the context block of slot `k` (R170). -/
def State.slotWords (s : State) (room k b : Nat) : List W64 := s.ldWords (shelfEA room (s.slotOff room k + 264 * b)) 33

/-- Whether a LANE_SET is one a context load accepts (R53). -/
def State.laneSetOk (s : State) (room b : Nat) (w : W64) : Bool :=
  (List.range 8).all fun d =>
    let c := laneSrc w d
    decide (c ≤ 6)
      && (decide (4 ≤ d) || decide (c = 0) || (s.link room b d).isSome)
      && (decide (d < 4) || decide (c = 0) || decide (4 < c) || (s.link room b (c - 1)).isSome)

/-- Whether every word of a slot is one a context load accepts (R53, R84). -/
def State.slotOk (s : State) (room k : Nat) (stepped : Bool) : Bool :=
  (List.range 64).all fun b =>
    let ws := s.slotWords room k b
    (ws.take 32).all (wordOk stepped) && s.laneSetOk room b (ws.getD 32 0)

/-- The bank schedule of the Room record (R210). -/
def State.recSched (s : State) (room : Nat) : Nat × Nat × List SchedEnt :=
  let o := s.recNum room 0x14 4
  let h := s.recWord room o
  (fld h 63 48, fld h 47 0, (List.range (min (fld h 63 48) 4096)).map fun k =>
    let w := s.recWord room (o + 8 + 8 * k)
    ⟨fld w 63 48, fld w 47 44, fld w 43 40, fld w 39 0⟩)

/-- CRC of a table of the Room record: `n` words from the offset its header field names (R397). -/
def State.recCrc (s : State) (room field n : Nat) : W64 :=
  crcWords 0 ((List.range n).map fun k => s.recWord room (s.recNum room field 4 + 8 * k))

/-- Starts that never fall. -/
def ascending : List Nat → Bool
  | a :: b :: l => decide (a ≤ b) && ascending (b :: l)
  | _ => true

/-- Starts that always rise. -/
def strictlyAscending : List Nat → Bool
  | a :: b :: l => decide (a < b) && strictlyAscending (b :: l)
  | _ => true

/-- Whether a bank schedule keeps the rules of R210. -/
def schedOk (c : Nat × Nat × List SchedEnt) : Bool :=
  let es := c.2.2
  decide (c.1 ≤ 4096) && ascending (es.map SchedEnt.start)
    && es.all (fun e => decide (1 ≤ e.len) && (decide (e.owner = 1) || decide (e.owner = 2) || decide (8 ≤ e.owner))
        && (decide (c.2.1 = 0) || decide (e.start + e.len ≤ c.2.1)))
    && (List.range 16).all fun b =>
      let mine := es.filter fun e => e.bank = b
      (mine.zip mine.tail).all fun e => decide (e.1.start + e.1.len ≤ e.2.start)

/-- The Hall slot table of the Room record (R294): COUNT, PERIOD, and each entry with whether its zero fields are zero. -/
def State.recHall (s : State) (room : Nat) : Nat × Nat × List (SlotEnt × Bool) :=
  let o := s.recNum room 0x10 4
  let h := s.recWord room o
  (fld h 63 48, fld h 47 0, (List.range (min (fld h 63 48) 512)).map fun k =>
    let a := s.recWord room (o + 8 + 16 * k)
    let b := s.recWord room (o + 16 + 16 * k)
    (⟨fld a 57 56 + 1, fld a 51 48, fld a 39 0, fld b 19 0⟩,
     decide (fld a 63 58 = 0) && decide (fld a 55 52 = 0) && decide (fld a 47 40 = 0) && decide (fld b 63 20 = 0)))

/-- Whether a Hall slot table keeps the rules of R294 in a Suite. -/
def hallOk (u : Suite) (c : Nat × Nat × List (SlotEnt × Bool)) : Bool :=
  let es := c.2.2.map Prod.fst
  decide (c.1 ≤ 512) && strictlyAscending (es.map SlotEnt.start)
    && c.2.2.all fun e => e.2 && decide (8 ≤ e.1.unit) && (decide (c.2.1 = 0) || decide (e.1.start + 1 ≤ c.2.1))
        && eidIsRoom e.1.dst && decide (eidUnit e.1.dst = 1) && u.hasRoom (eidRoomOf e.1.dst)

/-- The Room Damper-cell profile of the Room record (R489): COUNT, PERIOD, and entries (LEVEL, START) with whether bits 51:40 are zero. -/
def State.recProf (s : State) (room : Nat) : Nat × Nat × List (Nat × Nat × Bool) :=
  let o := s.recNum room 0x18 4
  let h := s.recWord room o
  (fld h 63 48, fld h 47 0, (List.range (min (fld h 63 48) 1024)).map fun k =>
    let w := s.recWord room (o + 8 + 8 * k)
    (fld w 63 52, fld w 39 0, decide (fld w 51 40 = 0)))

/-- Whether a Room profile keeps the rules of R210 and R489. -/
def profOk (c : Nat × Nat × List (Nat × Nat × Bool)) : Bool :=
  decide (c.1 ≤ 1024) && ascending (c.2.2.map fun e => e.2.1)
    && c.2.2.all fun e => e.2.2 && (decide (c.2.1 = 0) || decide (e.2.1 + 1 ≤ c.2.1))

/-- FMAX of a logical Room, from its Survey record (R172, R573). -/
def State.fmax (s : State) (room : Nat) : Nat := fld (s.srvRd (s.physOf room) 0x080) 61 56

/-- FMIN of a Suite: the lowest Fmax code among its logical Rooms (R172). -/
def State.fmin (s : State) (u : Suite) : Nat := ((u.rooms.map s.fmax).min?).getD 0

/-! ### Tokens that block a load -/

/-- Where a Brick holds a token of one of the tags in lane cycle `now`: UNIT and tag, lowest unit first (R183). -/
def Brick.blockers (b : Brick) (tags : List Nat) (now : Nat) : List (Nat × Nat) :=
  let q (unit : Nat) (l : List QTok) : List (Nat × Nat) := (l.filter fun t => tags.contains t.tok.tag).map fun t => (unit, t.tok.tag)
  ((List.range 4).flatMap fun k => q k (b.iqOf k)) ++ ((List.range 2).flatMap fun k => q (4 + k) (b.oqOf k))
    ++ (List.range 4).flatMap fun k =>
      (b.inp.filter fun t => decide (t.src = k + 1) && decide (t.due ≤ now) && tags.contains t.tok.tag).map fun t => (8 + k, t.tok.tag)

/-- The Brick without those tokens (R184). -/
def Brick.purge (b : Brick) (tags : List Nat) (now : Nat) : Brick :=
  let keep (l : List QTok) : List QTok := l.filter fun t => !tags.contains t.tok.tag
  let b := (List.range 4).foldl (fun b k => b.setIq k (keep (b.iqOf k))) b
  let b := (List.range 2).foldl (fun b k => b.setOq k (keep (b.oqOf k))) b
  { b with inp := b.inp.filter fun t => !(decide (t.due ≤ now) && tags.contains t.tok.tag) }

/-- The first blocking token of a Room: Brick, UNIT and tag (R183). -/
def State.blocker (s : State) (room : Nat) (tags : List Nat) (now : Nat) : Option (Nat × Nat × Nat) :=
  (List.range 64).findSome? fun b =>
    match (s.brick room b).blockers tags now with
    | (x, t) :: _ => some (b, x, t)
    | [] => none

/-- The tokens of a Room discarded by PURGE, with their count (R184). -/
def State.purgeRoom (s : State) (room : Nat) (tags : List Nat) (now : Nat) : State × Nat :=
  (List.range 64).foldl (fun r b =>
    let x := r.1.brick room b
    let n := (x.blockers tags now).length
    if n = 0 then r else (r.1.setBrick room b (x.purge tags now), r.2 + n)) (s, 0)

/-! ### The load -/

/-- CS_LOAD: the LOAD entry at the head starts a load with its start step C; a load of the Suite still on its way at C refuses it as BUSY
(R178 to R180, R246). -/
def execCsLoad (suite : Nat) (s : State) : Host.Outcome State Fault Refusal :=
  match s.csHead suite 1 with
  | none => .next s
  | some (u, e) =>
    let w := e.words.getD 0 0
    let cstep := if e.step = asap then (u.step.toNat + (e.t0 - u.now)) % 2 ^ 48 else e.step
    match u.load with
    | some _ =>
      if u.now < e.t0 then .next s
      else
        let s := u.rooms.foldl (fun s r =>
          if s.dark r then s
          else
            let st := put 63 56 0x19 ||| put 55 52 (fld w 55 52) ||| put 51 48 (fld w 51 48) ||| put 47 0 cstep
            let s := s.wr (rp .arr r) 0x0B8 st
            let s := s.captureStep (rp .arr r) 0x0C0 (put 63 56 0x19 ||| put 51 50 (fld w 55 52)) 0x0C8 u.whereStep
            if u.mode = 0 ∧ (u.run = 2 ∨ u.run = 3) ∧ fld w 55 52 ≠ 15 then s.hitHalt .arr r 0 0x19 false (s.rd (rp .arr r) 0x0C0)
            else s.raise (rp .arr r) 0 false) s
        .next (s.csStop suite 0x04)
    | none =>
      if s.dbgSweeps suite then .next s else
      let l : LoadSt := ⟨fld w 55 52, tst w 48, tst w 49, e.t0, cstep, e.words.tail, none, 0, []⟩
      let s := s.setSuite suite { u with load := some l }
      .next (s.csMod suite fun e => { e with prog := 2 })

/-- The refusal causes a Room finds at C, lowest first; ARR_LOAD_BLOCKED is found apart (R179). -/
def State.loadCauses (s : State) (u : Suite) (l : LoadSt) (room : Nat) : List Nat :=
  let h := l.hdr
  let full := l.slot = 15
  let running := u.run = 2 ∨ u.run = 3
  let stepped := hdrMode h = 0
  let sl := s.recNum room 0x06 1
  let absent := if full then sl ≠ hdrSlots h else (hdrSlots h).testBit l.slot = false ∨ sl.testBit l.slot = false
  let zeros := (List.range 7).all fun k => decide (s.recNum room (0x44 + 4 * k) 4 = 0)
  let bad := !hdrFormOk h ∨ absent ∨ !zeros ∨ (!stepped ∧ s.recNum room 0x40 4 ≠ 0)
    ∨ (full ∧ !(schedOk (s.recSched room) && hallOk u (s.recHall room) && profOk (s.recProf room)))
  let shape := hdrW h ≠ u.sex + 1 - u.nwx ∨ hdrH h ≠ u.sey + 1 - u.nwy
    ∨ u.nwx * 16 + s.recNum room 0x00 2 ≠ roomX room ∨ u.nwy * 16 + s.recNum room 0x02 2 ≠ roomY room
  let extra := s.recNum room 0x04 2
  let act := (List.range 64).any fun b =>
    let x := s.brick room b
    decide (x.active = l.slot) || (match x.fold with | some (k, _) => decide (k = l.slot) | none => false)
  [(0x10, decide bad), (0x11, decide (fld (h.getD 0 0) 47 40 > 2 ∨ fld (h.getD 0 0) 47 40 < 1)), (0x12, decide shape),
   (0x13, !full && decide (hdrMode h ≠ u.mode)), (0x14, full && (decide (hdrRate h < 36) || decide (s.fmin u < hdrRate h))),
   (0x15, decide stepped && decide (hdrFl h ≠ s.fl)),
   (0x16, decide (extra ≠ 0xFFFF) && decide (extra ≠ s.rdF (rp .brk room) 0x080 15 0)),
   (0x17, !l.slots.all fun k => s.slotOk room k (decide stepped)),
   (0x18, u.rooms.any fun r => !s.roomOn r), (0x1A, !full && decide running && act),
   (0x1C, (full || l.preset) && decide running)].filterMap fun c => if c.2 then some c.1 else none

/-- The lines of the Room record that a load reads at C: its header, and for a full load the Hall slot table, the bank schedule, the Damper profile and
the check points (R170, R215). -/
def State.recLines (s : State) (room : Nat) (l : LoadSt) : List Nat :=
  let b := s.imgBase room
  let tbl (field n : Nat) : List Nat := linesOf (b + s.recNum room field 4) (8 * n)
  let co := s.recNum room 0x40 4
  linesOf b 96
    ++ if l.slot = 15 then
        tbl 0x10 (1 + 2 * (s.recHall room).2.2.length) ++ tbl 0x14 (1 + (s.recSched room).2.2.length) ++ tbl 0x18 (1 + (s.recProf room).2.2.length)
          ++ if co = 0 then [] else linesOf (b + co) (8 * (1 + 3 * min 64 (s.recNum room co 8)))
      else []

/-- The lines of the preset block that a full load with PRESET reads at D (R170, R178, R215). -/
def State.presetLines (s : State) (room : Nat) (l : LoadSt) : List Nat :=
  let off := s.recNum room 0x1C 4
  if l.slot = 15 ∧ l.preset = true ∧ off ≠ 0 then linesOf (s.imgBase room + off) (64 * 2304) else []

/-- ARR_LOAD_STATUS of a load (R201). -/
def LoadSt.status (l : LoadSt) (cause : Nat) : W64 :=
  put 63 56 cause ||| put 55 52 l.slot ||| put 49 49 (b2n l.preset) ||| put 48 48 (b2n l.purge) ||| put 47 0 l.cstep

/-- A refusal reported by a Room; a slot load of a running stepped Suite halts it (R179, R183, R202). -/
def State.loadRefuse (s : State) (u : Suite) (l : LoadSt) (room cause : Nat) (w : W64) (injected : Bool) : State :=
  let s := s.wr (rp .arr room) 0x0B8 (l.status cause)
  let s := s.captureStep (rp .arr room) 0x0C0 (put 63 56 cause ||| w) 0x0C8 u.whereStep
  let bit := if cause = 0x1B then 1 else 0
  if u.mode = 0 ∧ (u.run = 2 ∨ u.run = 3) ∧ l.slot ≠ 15 then s.hitHalt .arr room bit cause injected (s.rd (rp .arr room) 0x0C0)
  else s.raise (rp .arr room) bit injected

/-- The checks of one Room at C, with PURGE (R179, R183, R184, R216): the refusal cause found. -/
def State.loadCheckRoom (s : State) (u : Suite) (l : LoadSt) (room : Nat) : State × Option Nat :=
  if s.dark room then (s, some 0x18)
  else
    let p := rp .arr room
    let inj := s.isArmed p 1
    let s := if inj then s.disarm p 1 else s
    let lines := s.linesCheck room 0x41 (s.recLines room l)
    let s := lines.1
    let causes := if lines.2 then s.loadCauses u l room else 0x10 :: s.loadCauses u l room
    let found := if inj then some (0, 0, l.slots.headD 0) else s.blocker room l.slots u.laneNow
    let s :=
      if l.purge then
        let r := s.purgeRoom room l.slots u.laneNow
        let n := r.2 + b2n inj
        if n = 0 then s
        else ((r.1.bump p 0x0D0 63 0 n).captureStep p 0x0C0 (put 63 56 0x1D) 0x0C8 u.whereStep).raise p 2 inj
      else s
    let causes := if !l.purge && found.isSome then causes ++ [0x1B] else causes
    match causes.min? with
    | none => (s.wrF p 0x080 15 12 (l.slots.foldl (fun m k => m ||| 2 ^ k) 0), none)
    | some 0x1B =>
      let f := found.getD (0, 0, 0)
      (s.loadRefuse u l room 0x1B (put 55 52 f.2.1 ||| put 51 50 f.2.2 ||| put 49 44 f.1) inj, some 0x1B)
    | some c => (s.loadRefuse u l room c (put 51 50 l.slot) false, some c)

/-- LOAD_CHECK: at C every Room of the Suite checks the load and purges (R179, R183, R184). -/
def execLoadCheck (suite : Nat) (s : State) : Host.Outcome State Fault Refusal :=
  match s.suite suite with
  | none => .next s
  | some u =>
    match u.load with
    | none => .next s
    | some l =>
      if l.phase ≠ 0 ∨ u.now < l.c then .next s
      else
        let r := u.rooms.foldl (fun (r : State × Option Nat) x =>
          let q := r.1.loadCheckRoom u l x
          (q.1, match r.2, q.2 with | some a, some b => some (min a b) | none, o => o | o, none => o)) (s, none)
        .next (r.1.modSuite suite fun u => { u with load := some { l with phase := 1, refused := r.2 } })

/-- The loader of a Room set to read the slots of a load; with no slot to read it is at D at once (R170, R180). -/
def State.startLoader (s : State) (l : LoadSt) (room : Nat) : State :=
  let k := l.slots.headD 0
  s.modRoom room fun r =>
    { r with loader := some ⟨l.slot, s.slotOff room k / 64, 264 * l.slots.length, 0, [], if l.slots.isEmpty then some 0 else none, 0, false, 0, 0, false⟩ }

/-- A refused load ends in a Room: LOADING clears, and where the Room itself found no cause ARR_LOAD_STATUS takes the one that the Flue broadcasts
(R179, R180, R201). -/
def State.loadRefused (s : State) (l : LoadSt) (room : Nat) : State :=
  if s.dark room then s
  else
    let p := rp .arr room
    let s := if s.rdF p 0x080 15 12 = 0 then s else s.wr p 0x0B8 (l.status (l.refused.getD 0))
    s.wrF p 0x080 15 12 0

/-- LOAD_OUTCOME: at C + 2FL the refusals have reached every Room.  A refused load ends and stops the stream; otherwise the reads begin, and
a full load takes the mode, the seed and the length of the RUN and changes the power of quarters (R178, R180, R212, R248). -/
def execLoadOutcome (suite : Nat) (s : State) : Host.Outcome State Fault Refusal :=
  match s.suite suite with
  | none => .next s
  | some u =>
    match u.load with
    | none => .next s
    | some l =>
      if l.phase ≠ 2 ∨ u.now < l.c + 2 * s.fl ∨ (u.run = 2 ∧ u.frozen) then .next s
      else if l.refused.isSome then
        let s := u.rooms.foldl (fun s r => s.loadRefused l r) s
        .next ((s.modSuite suite fun u => { u with load := none }).csStop suite 0x04)
      else
        let full := l.slot = 15
        let s := s.modSuite suite fun u =>
          if full then
            { u with load := some { l with phase := 3 }, run := 5, mode := hdrMode l.hdr, seed := l.hdr.getD 2 0
                     runSteps := l.hdr.getD 3 0, loadHdr := l.hdr }
          else { u with load := some { l with phase := 3 } }
        .next (u.rooms.foldl (fun s r =>
          if l.out.contains r then s else
          let s := s.startLoader l r
          if full then
            let s := s.modRoom r fun x => { x with quarters := s.recNum r 0x07 1 }
            (List.range 4).foldl (fun s j => s.loadQuarter r j) s
          else s) s)

/-- A Room that gives up its load: the given slots EMPTY, IMAGE_BAD reported, the Suite halted (R181, R201, R216). -/
def State.imageBad (s : State) (room : Nat) (l : LoadSt) (slots : List Nat) (injected : Bool) : State :=
  let p := rp .arr room
  let s := (List.range 64).foldl (fun s b => s.modBrick room b fun x =>
    slots.foldl (fun x k => x.setCtx k { x.ctx k with valid := false }) x) s
  let s := s.wr p 0x0B8 (l.status 0x10)
  let s := s.captureStep p 0x0C0 (put 63 56 0x10 ||| put 51 50 (slots.headD 0)) 0x0C8 (s.whereStep room)
  s.hitHalt .arr room 0 0x10 injected (s.rd p 0x0C0)

/-- Whether the loader of a Room may read its next line now: with priority, or in a running stepped Suite in its own bank-steps; at most 4 lines in a
cycle, which lie in 4 banks that have made no access in it (R182, R204, R205). -/
def State.loaderTurn (s : State) (room : Nat) (u : Suite) (ld : Loader) : Bool :=
  s.bankFree room ld.bank && (decide (ld.lastAt ≠ u.now + 1) || decide (ld.lines < 4))
    && (if u.run = 2 then !u.frozen && !u.pastHalt && (u.mode ≠ 0 || (s.room room).owner ld.bank u.step.toNat = some 1) else decide (u.run ≠ 4))

/-- The Brick accesses placed in the present step on the bank of the loader's next line, in a running stepped Suite: they collide with it (R208). -/
def State.loaderRivals (s : State) (room : Nat) (u : Suite) (ld : Loader) : List BankReq :=
  if u.run = 2 ∧ u.mode = 0 then (s.room room).reqs.filter fun q => q.bank = ld.bank ∧ q.at_ = u.now else []

/-- LOADER_READ: the loader reads its next line and folds SLOT_CHECK; the bits `errs` of the line are upset, or its address does not match; a line of
a dark quarter reads as zeros, and a Brick access in the same bank-step is a conflict (R180 to R182, R208, R213, R216). -/
def execLoaderRead (room errs : Nat) (addr : Bool) (s : State) : Host.Outcome State Fault Refusal :=
  match (s.suiteOf room).bind s.suite, (s.room room).loader with
  | some u, some ld =>
    match u.load with
    | none => .next s
    | some l =>
      if ld.gone ∨ ld.total = 0 ∨ !s.loaderTurn room u ld then .next s
      else if s.loaderRivals room u ld ≠ [] then
        let due := s.loaderRivals room u ld
        .next (((s.modRoom room fun r => { r with reqs := r.reqs.filter fun x => !due.contains x }).loaderLoses room).shelfConflict room ld.bank due 0x41 false)
      else
        let dark := s.shelfDark room (64 * ld.next)
        let s := s.useBank room ld.bank
        let r := if dark then (s.noteDark room (64 * ld.next) 0x41, true) else s.lineCheck room ld.next 0x41 errs addr
        let s := r.1
        if !r.2 then
          .next ((s.imageBad room l l.slots false).modRoom room fun x => { x with loader := some { ld with gone := true } })
        else
          let ws := if dark then List.replicate 8 0 else s.ldWords (shelfEA room (64 * ld.next)) 8
          let crc := crcWords ld.crc ws
          let total := ld.total - 1
          let k := l.slots.getD (l.slots.length - 1 - total / 264) 0
          let inj := s.isArmed (rp .arr room) 0
          let endSlot := decide (total % 264 = 0)
          let wrong := endSlot && (inj || decide (crc ≠ s.recWord room (0x20 + 8 * k)))
          let s := if endSlot && inj then s.disarm (rp .arr room) 0 else s
          .next (s.modRoom room fun x => { x with loader := some { ld with
            next := ld.next + 1, total, crc := if endSlot then 0 else crc, words := ws.reverse ++ ld.words
            d := if total = 0 then some (u.now + 8) else none, bad := if wrong then ld.bad ||| 2 ^ k else ld.bad
            lastAt := u.now + 1, lines := if ld.lastAt = u.now + 1 then ld.lines + 1 else 1, inj := ld.inj || (endSlot && inj) } })
  | _, _ => .next s

/-- The contents of slot `k` written into a Room's Bricks from the words read (R174, R180). -/
def State.fillSlot (s : State) (room k j : Nat) (ws : List W64) : State :=
  (List.range 64).foldl (fun s b => s.modBrick room b fun x =>
    let w := (ws.drop (2112 * j + 33 * b)).take 33
    let code := smSetAll nopEnd [] ((List.range 32).zip w)
    { x.setCtx k ⟨code, true, 0, 0, []⟩ with lanes := smSet 0 x.lanes k (w.getD 32 0 &&& maskOf 35 0) }) s

/-- The preset block written into a Room's Bricks: G0 to G31, then Cubby words 0 to 255 (R170, R178). -/
def State.preset (s : State) (room : Nat) : State :=
  let off := s.recNum room 0x1C 4
  if off = 0 then s
  else
    (List.range 64).foldl (fun s b =>
      let ws := s.ldWords (shelfEA room (s.imgBase room + off + 2304 * b)) 288
      s.modBrick room b fun x =>
        { x with g := smSetAll 0 x.g ((List.range 32).zip ws), cubby := smSetAll 0 x.cubby ((List.range 256).zip (ws.drop 32)) }) s

/-- The tables of a full load taken by a Room: Hall slot table, bank schedule, Damper profile and check points (R170, R178). -/
def State.takeTables (s : State) (room : Nat) : State :=
  let sc := s.recSched room
  let ha := s.recHall room
  let pr := s.recProf room
  let co := s.recNum room 0x40 4
  let n := if co = 0 then 0 else min 64 (s.recNum room co 8)
  let checks : List CheckPt := (List.range n).map fun k =>
    ⟨s.recNum room (co + 8 + 8 * k) 8, s.recWord room (co + 8 + 8 * n + 16 * k), s.recWord room (co + 16 + 8 * n + 16 * k)⟩
  s.modRoom room fun r =>
    { r with hasArr := true, sched := sc.2.2, schedPer := sc.2.1, slots := ha.2.2.map Prod.fst, slotPer := ha.2.1
             prof := pr.2.2.map fun e => (e.1, e.2.1), profPer := pr.2.1, checks, checkIdx := 0
             slotCrc := smSetAll 0 r.slotCrc [(4, s.recCrc room 0x10 (1 + 2 * ha.2.2.length)), (5, s.recCrc room 0x14 (1 + sc.2.2.length)),
               (6, s.recCrc room 0x18 (1 + pr.2.2.length))] }

/-- What a load writes into a Room at D: the slots whose SLOT_CHECK held with their LANE_SETs, a full load's tables, the preset block, and
BRK_VOID_FIRES clear (R174, R178, R180). -/
def State.slotsIn (s : State) (room : Nat) (l : LoadSt) (ld : Loader) : State :=
  let ws := ld.words.reverse
  let s := s.modRoom room fun x => { x with loader := none }
  let s := s.wrF (rp .arr room) 0x080 15 12 0
  let s := (l.slots.zip (List.range 4)).foldl (fun s e => if ld.bad.testBit e.1 then s else s.fillSlot room e.1 e.2 ws) s
  let s := s.modRoom room fun r =>
    { r with slotCrc := smSetAll 0 r.slotCrc (l.slots.map fun k => (k, if ld.bad.testBit k then 0 else s.recWord room (0x20 + 8 * k))) }
  let s := if l.slot = 15 then s.takeTables room else s
  let s := if l.slot = 15 ∧ l.preset then s.preset room else s
  s.wr (rp .brk room) 0x0B0 0

/-- A Room that has done its load: ARR_LOAD_STATUS and ARR_LOAD_DONE, the end of the load in the last Room, and the entry's completion in the
lead Room (R180, R201, R246). -/
def State.loadDone (s : State) (room : Nat) (u : Suite) (l : LoadSt) : State :=
  let i := s.suiteId room
  let s := (s.wr (rp .arr room) 0x0B8 (l.status 0)).arrEvent room 3 0x1E
  let done := u.rooms.all fun r => (s.room r).loader.isNone
  let s := if done then s.modSuite i fun u => { u with load := none, run := if l.slot = 15 then 1 else u.run } else s
  let isLoad : Bool := match u.entries with | e :: _ => decide (e.op = 1 ∧ e.prog = 2) | [] => false
  if u.lead = room && isLoad then s.csPop i else s

/-- LOAD_EFFECTIVE: at D the new LANE_SETs take effect, the slots become valid, and their counters and FIRE_COUNTs and BRK_VOID_FIRES clear;
a slot whose SLOT_CHECK failed stays EMPTY and the Suite halts, and an uncorrectable line of the preset block gives the load up.  The lead Room's ARR_LOAD_DONE completes the entry, and the last Room ends
the load (R180 to R182, R216, R246). -/
def execLoadEffective (room : Nat) (s : State) : Host.Outcome State Fault Refusal :=
  match (s.suiteOf room).bind s.suite, (s.room room).loader with
  | some u, some ld =>
    match u.load, ld.d with
    | some l, some d =>
      if ld.gone ∨ u.now < d ∨ (u.run = 2 ∧ u.frozen) ∨ u.run = 4 ∨ (l.slot = 15 ∧ s.rdF (rp .shf room) 0x080 3 0 ≠ 0) then .next s
      else
      let pr := s.linesCheck room 0x41 (s.presetLines room l)
      let s := pr.1
      if pr.2 = false then .next ((s.imageBad room l l.slots false).modRoom room fun x => { x with loader := some { ld with gone := true } })
      else if ld.bad ≠ 0 then
        .next (((s.slotsIn room l ld).imageBad room l (l.slots.filter fun k => ld.bad.testBit k) ld.inj).modRoom room fun x =>
          { x with loader := some { ld with gone := true, bad := 0 } })
      else .next ((s.slotsIn room l ld).loadDone room u l)
    | _, _ => .next s
  | _, _ => .next s

/-! ### Runs -/

/-- Tokens that a halt at the end of lane cycle `h` kept on their way: they go on from lane cycle `now` (R312, R313). -/
def Brick.thaw (b : Brick) (h : Option Nat) (now : Nat) : Brick :=
  match h with
  | none => b
  | some h => { b with inp := b.inp.map fun t => if h < t.due then { t with due := t.due + (now - (h + 1)) } else t }

/-- A Brick at the start of a RUN: the named context active, every context's next slot 0 (R186). -/
def Brick.startRun (b : Brick) (k now : Nat) : Brick :=
  let b := (List.range 4).foldl (fun b j => b.setCtx j { b.ctx j with ip := 0 }) b
  { b with active := k, started := true, stopped := false, err := false, fold := none, rep := 0
           due := now + (decodeIns ((b.ctx k).word 0)).wait, lwait := .no, wfor := 0, issued := none }

/-- CS_RUN: once any earlier RUN has ended and no load is on its way, the loaded Suite starts at step 0 with the named context in every Brick;
ARR_STEP, ARR_CYCLE, the stall counters and HAL_SLOT_USE clear (R186, R246, R301). -/
def execCsRun (suite : Nat) (s : State) : Host.Outcome State Fault Refusal :=
  match s.csHead suite 2 with
  | none => .next s
  | some (u, e) =>
    if u.run ≠ 1 ∨ u.load.isSome ∨ u.sweep.st ≠ 0 then .next s
    else
      let k := fld (e.words.getD 0 0) 49 48
      let s := s.setSuite suite { u with run := 2, step := 0, cycle := 0, ended := decide (u.mode = 0) && decide (u.runSteps = 0), haltNow := none, stall := [], runs := 0, frozenL := false
                                         prog := 0, runCnt := u.runCnt + 1, winCnt := 0 }
      let s := u.rooms.foldl (fun s r =>
        let s := (s.wr (rp .hal r) 0x098 0).wrF (rp .flu r) 0x088 0 0 0
        let s := s.modRoom r fun x => { x with checkIdx := 0 }
        (List.range 64).foldl (fun s b => s.modBrick r b fun x => (x.thaw u.haltNow u.now).startRun k u.now) s) s
      .next (s.csPop suite)

/-- Whether a Brick of an elastic RUN is done: stopped, or nothing to issue (R186). -/
def Brick.isDone (b : Brick) : Bool := b.stopped

/-- RUN_END: a stepped RUN that has executed RUN_STEPS, or an elastic one whose Bricks have all stopped, ends; SCH packets still waiting at
an injection port raise HALL_SLOT_VIOLATION (R186, R295). -/
def execRunEnd (suite : Nat) (s : State) : Host.Outcome State Fault Refusal :=
  match s.suite suite with
  | none => .next s
  | some u =>
    let ovr := u.run = 2 ∧ (if u.mode = 0 then u.ended = true ∨ u.runSteps ≤ u.step
      else (u.rooms.all fun r => (List.range 64).all fun b => (s.brick r b).isDone) = true)
    if !decide ovr then .next s
    else
      let late := s.pkts.filter fun f => f.pkt.vc = 0 && decide (8 ≤ f.port) && u.hasRoom f.room
      let s := { s with pkts := s.pkts.filter fun f => !late.contains f }
      let s := late.foldl (fun s f =>
        let w := put 63 56 0x01 ||| put 55 53 4 ||| put 37 32 suite ||| put 19 0 f.pkt.src
        let s := s.captureStep (rp .hal f.room) 0x088 w 0x090 (s.halStep f.room)
        s.hitHalt .hal f.room 0 0x01 false (setBit w 31)) s
      .next (s.modSuite suite fun u => { u with run := 1, ended := true })

/-- FIRE_DIGEST of a Room: CRC-64 over its 256 FIRE_COUNTs in address order (R194). -/
def State.fireDigest (s : State) (room : Nat) : W64 :=
  crcWords 0 ((List.range 256).map fun i => ((s.brick room (i % 64)).ctx (i / 64)).fire)

/-- CHECK_POINT: at the end of a listed step a Room compares FIRE_DIGEST and SLOT_USE with its record (R194, R202). -/
def execCheckPoint (room : Nat) (s : State) : Host.Outcome State Fault Refusal :=
  match (s.suiteOf room).bind s.suite with
  | none => .next s
  | some u =>
    let r := s.room room
    match r.checks[r.checkIdx]? with
    | none => .next s
    | some c =>
      if u.run ≠ 2 ∨ u.mode ≠ 0 ∨ u.frozen ∨ u.pastHalt ∨ c.step ≠ u.step.toNat then .next s
      else
        let p := rp .arr room
        let inj := s.isArmed p 4
        let s := if inj then s.disarm p 4 else s
        let d := s.fireDigest room
        let s := (s.wr p 0x0D8 d).setRoom room { r with checkIdx := r.checkIdx + 1 }
        let dd := (if inj then d ^^^ 1 else d) ≠ c.digest
        let sd := s.rd (rp .hal room) 0x098 ≠ c.use
        if dd ∨ sd then
          let w := put 63 56 0x20 ||| put 43 38 r.checkIdx ||| put 37 37 (b2n (decide dd)) ||| put 36 36 (b2n (decide sd))
          let s := s.captureStep p 0x0C0 w 0x0C8 u.step
          .next (s.hitHalt .arr room 4 0x20 inj (setBit w 31))
        else .next s

end Sys2Proof.Machine
end

