-- ==== Sys2Proof/Machine/BrickShelf.lean ====
section
/-!
DEFINITION. The Shelf instructions of a Brick (R113, R206).  An issue places its bank accesses in the Room; SHELF_BANK_STEP performs them.
-/

namespace Sys2Proof.Machine

/-- The Shelf offset of an address: bits 21:0 with the low 3 ignored (R113). -/
def shelfOff (a : W64) : Nat := a.toNat % 2 ^ 22 / 8 * 8

/-- A bank access of a Brick at an offset's bank-step. -/
def brickReq (off at_ : Nat) (rd : List (Nat × Nat)) (wr : List (Nat × W64)) (cols : List (Nat × Nat × Nat)) : BankReq :=
  { who := 0, bank := shelfBank off, line := off / 64, rd, wr, cols, at_, lost := false, void := false, pid := 0 }

/-- Whether an offset decodes (R113). -/
def offOk (off : Nat) : Bool := decide (off < 0x300000)

/-- The byte offsets of `n` words taken within the 64 B line of `off`, wrapping (R113). -/
def lineWords (off n : Nat) : List Nat := (List.range n).map fun k => off / 64 * 64 + (off + 8 * k) % 64

/-- The register DST + k, when there is a destination. -/
def Ins.dstReg (i : Ins) (k : Nat) : Option Nat := if i.d ≤ 0x1F then some (i.d + k) else none

/-- The words of a load still to come, one placeholder for each register (R94, R118). -/
def loadHold (i : Ins) (n : Nat) : List BWrite := (List.range n).filterMap fun k => (i.dstReg k).map fun r => .reg r (~~~ 0) 0

/-- Reads of registers from offsets, as a list of one access. -/
def rdList (i : Ins) (k off : Nat) : List (Nat × Nat) := match i.dstReg k with | some r => [(r, off)] | none => []

/-- SLD: words of one line into registers (R113, R206). -/
def sldEff (x : FireIn) : FireOut :=
  let i := x.ins
  let off := shelfOff (x.val 0)
  let offs := lineWords off i.words
  let rd := (List.range i.words).flatMap fun k => rdList i k (offs.getD k 0)
  { x.write (loadHold i i.words) with reqs := [brickReq off (x.now + 2) rd [] []] }

/-- SST: words of one line from registers, a token or zero (R113, R206). -/
def sstEff (x : FireIn) : FireOut :=
  let i := x.ins
  let off := shelfOff (x.val 0)
  let n := i.auxF 2 0 + 1
  let data (k : Nat) : W64 := if i.b ≤ 0x1F then x.br.reg (i.b + k) else x.val 1
  let wr := ((lineWords off n).zip (List.range n)).map fun e => (e.1, data e.2)
  { x.write [] with reqs := [brickReq off (x.now + 6) [] wr []] }

/-- SLDT: byte c = 8 × AUX[2:0] + j of lines 0 to 7 of a 512 B block into register DST + j (R113, R206). -/
def sldtEff (x : FireIn) : FireOut :=
  let i := x.ins
  let base := (x.val 0).toNat % 2 ^ 22 / 512 * 512
  let reqs := (List.range 8).map fun l =>
    let off := base + 64 * l
    brickReq off (x.now + 2 + l / 4) [] [] ((List.range 8).filterMap fun j => (i.dstReg j).map fun r => (r, l, off + 8 * i.auxF 2 0 + j))
  { x.write (loadHold i 8) with reqs }

/-- SLDS: words at a stride (R113, R206). -/
def sldsEff (x : FireIn) : FireOut :=
  let i := x.ins
  let reqs := (List.range i.words).map fun k =>
    let off := shelfOff (x.val 0 + BitVec.ofNat 64 k * x.val 1)
    brickReq off (x.now + 2 + k) (rdList i k off) [] []
  { x.write (loadHold i i.words) with reqs }

/-- The offset of indexed word `k` (R113). -/
def FireIn.indexed (x : FireIn) (k : Nat) : Nat := shelfOff (x.val 0 + BitVec.ofNat 64 (8 * lane 16 (x.val 1) k))

/-- GATH: four indexed words (R113, R206). -/
def gathEff (x : FireIn) : FireOut :=
  let i := x.ins
  let reqs := (List.range 4).map fun k => brickReq (x.indexed k) (x.now + 2 + k) (rdList i k (x.indexed k)) [] []
  { x.write (loadHold i 4) with reqs }

/-- SCAT: four registers to indexed words (R113, R206). -/
def scatEff (x : FireIn) : FireOut :=
  let i := x.ins
  let reqs := (List.range 4).map fun k => brickReq (x.indexed k) (x.now + 6 + k) [] [(x.indexed k, x.br.reg (i.c + k))] []
  { x.write [] with reqs }

/-! ### The commands -/

/-- SLD (R113). -/
def execSld (room b : Nat) (s : State) : Host.Outcome State Fault Refusal := .next (s.brickIssue room b 0x80 sldEff)
/-- SST (R113). -/
def execSst (room b : Nat) (s : State) : Host.Outcome State Fault Refusal := .next (s.brickIssue room b 0x81 sstEff)
/-- SLDT (R113). -/
def execSldt (room b : Nat) (s : State) : Host.Outcome State Fault Refusal := .next (s.brickIssue room b 0x82 sldtEff)
/-- SLDS (R113). -/
def execSlds (room b : Nat) (s : State) : Host.Outcome State Fault Refusal := .next (s.brickIssue room b 0x83 sldsEff)
/-- GATH (R113). -/
def execGath (room b : Nat) (s : State) : Host.Outcome State Fault Refusal := .next (s.brickIssue room b 0x84 gathEff)
/-- SCAT (R113). -/
def execScat (room b : Nat) (s : State) : Host.Outcome State Fault Refusal := .next (s.brickIssue room b 0x85 scatEff)

end Sys2Proof.Machine
end

