-- ==== Sys2Proof/Machine/Routing.lean ====
section
/-!
DEFINITION. Hall routing tables and their versions (R287, R288, R290, R302, R554).
-/

namespace Sys2Proof.Machine

/-- The HAL page of a Room. -/
def hal (room : Nat) : PageRef := rp .hal room

/-- The active version (R305). -/
def State.rtActive (s : State) : Nat := s.rdF (gp .halg) 0x080 0 0

/-- Whether the inactive version has drained (R305). -/
def State.rtDrained (s : State) : Bool := tst (s.rd (gp .halg) 0x080) 3

/-- The version that a table word of the HAL page belongs to; none for any other offset (R301). -/
def rtVersion (off : Nat) : Option Nat :=
  if 0x100 ≤ off ∧ off < 0x140 then some ((off - 0x100) / 32) else if 0x200 ≤ off ∧ off < 0x300 then some ((off - 0x200) / 128) else none

/-- Sixteen table entries packed into a word (R301). -/
def packEntries (f : Nat → Nat) (n : Nat) : W64 := ofLanes 4 ((List.range 16).map fun j => f (16 * n + j))

/-- A table word as Porch firmware writes it from a remap, or as Corridor reset leaves it (R287, R302, R554, R562). -/
def rtDefault (tab : Option Masks) (room off : Nat) : W64 :=
  match tab with
  | none => if off < 0x200 then 0 else 0x5555555555555555
  | some m =>
    if off < 0x200 then linkWord (m.link room (off % 32 / 8))
    else if off % 128 < 64 then packEntries (m.xtEntry room) (off % 64 / 8)
    else packEntries (m.ytEntry room) (off % 64 / 8)

/-- A table word of a Room's router. -/
def State.rtWord (s : State) (room off : Nat) : W64 :=
  match smGet none s.rim.rtOver (regKey (hal room) off) with
  | some w => w
  | none => rtDefault (if room < 0x8000 then smGet none s.rim.rtTab ((rtVersion off).getD 0) else none) room off

/-- HAL_LINK of a direction in a version. -/
def State.rtLink (s : State) (v room d : Nat) : W64 := s.rtWord room (0x100 + 32 * v + 8 * d)

/-- XT[x] of a version: 0 HERE, 1 N, 2 E, 3 S, 4 W, 5 DROP. -/
def State.rtX (s : State) (v room x : Nat) : Nat := lane 4 (s.rtWord room (0x200 + 128 * v + 8 * (x / 16 % 8))) (x % 16)

/-- YT[y] of a version. -/
def State.rtY (s : State) (v room y : Nat) : Nat := lane 4 (s.rtWord room (0x240 + 128 * v + 8 * (y / 16 % 8))) (y % 16)

/-- Whether a table word holds only codes its table may hold (R288, R302). -/
def rtLegal (off : Nat) (w : W64) : Bool :=
  if off < 0x200 then
    decide (fld w 6 5 ≠ 3) && decide (fld w 4 3 ≠ 3) && (decide (fld w 4 3 = 0) || decide (off % 32 / 8 % 2 = 0))
  else
    (List.range 16).all fun j =>
      let c := lane 4 w j
      decide (c = 0) || decide (c = 5) || (if off % 128 < 64 then decide (c = 2) || decide (c = 4) else decide (c = 1) || decide (c = 3))

/-- Whether a Room belongs to a running stepped Suite. -/
def State.steppedRuns (s : State) (room : Nat) : Bool :=
  match (s.suiteOf room).bind s.suite with | some u => decide (u.run = 2) && decide (u.mode = 0) | none => false

/-- HALL_RT_REFUSED (R288, R303). -/
def State.rtRefused (s : State) (room : Nat) : State :=
  (s.captureStep (hal room) 0x088 (put 63 56 0x09) 0x090 (s.whereStep room)).raise (hal room) 8 false

/-- ROUTING_TABLE_WRITE: a word of the inactive version takes its value, unless it is refused (R288, R290). -/
def execRoutingTableWrite (room off : Nat) (w : W64) (s : State) : Host.Outcome State Fault Refusal :=
  match rtVersion off with
  | none => .next s
  | some v =>
    let w := if off < 0x200 then w &&& maskOf 7 2 else w
    let differs := decide (off < 0x200) && s.steppedRuns room && decide (w ≠ s.rtLink s.rtActive room (off % 32 / 8))
    .next (if v = s.rtActive ∨ !s.rtDrained ∨ !rtLegal off w ∨ differs then s.rtRefused room
      else { s with rim := { s.rim with rtOver := smSet none s.rim.rtOver (regKey (hal room) off) (some w) } })

/-- Every table of the inactive version written from a remap (R290, R562). -/
def State.rtInstall (s : State) (m : Masks) : State :=
  let v := 1 - s.rtActive
  let ovr := smDrop (fun k => decide (rtVersion (k % 4096) = some v)) s.rim.rtOver
  { s with rim := { s.rim with rtTab := smSet none s.rim.rtTab v (some m), rtOver := ovr } }

/-! ### Flips -/

/-- A flip written: the last time-out is forgotten, and the new version is to become active at a common cycle; a flip before the inactive version
has drained is refused (R290, R305). -/
def State.startFlip (s : State) : State :=
  if !s.rtDrained then s.raise (gp .halg) 0 false
  else
    let s := s.wr (gp .halg) 0x080 (clrBit (clrBit (s.rd (gp .halg) 0x080) 4) 3)
    { s with rim := { s.rim with flip := (1, s.et) } }

/-- FLIP (R290). -/
def execFlip (s : State) : Host.Outcome State Fault Refusal := .next s.startFlip

/-- Packets stamped with the version that is not active, in router buffers (R290, R302). -/
def State.oldPkts (s : State) : List Flight := s.pkts.filter fun f => decide (f.pkt.epoch ≠ s.rtActive)

/-- The drain of a flip has timed out: held injection goes on, the old version stays protected (R290). -/
def State.flipTimedOut (s : State) (injected : Bool) : State :=
  let s := (s.wr (gp .halg) 0x080 (setBit (s.rd (gp .halg) 0x080) 4)).raise (gp .halg) 2 injected
  { s with rim := { s.rim with holdEla := false } }

/-- The flip takes effect: packets not yet injected are stamped with the new version (R290). -/
def State.epochFlip (s : State) : State :=
  let v := 1 - s.rtActive
  let s := s.wrF (gp .halg) 0x080 0 0 v
  let s := { s with
    pkts := s.pkts.map fun (f : Flight) => if !f.moved && !f.ejected && decide (4 ≤ f.port) then { f with pkt := { f.pkt with epoch := v } } else f
    rim := { s.rim with flip := (2, s.et), holdEla := tst (s.rd (gp .halg) 0x080) 2 } }
  if s.isArmed (gp .halg) 2 then (s.disarm (gp .halg) 2).flipTimedOut true else s

/-- EPOCH_FLIP: from a common cycle at least FL cycles after the write, at 1.20 GHz, every injection port stamps the new version (R290). -/
def execEpochFlip (s : State) : Host.Outcome State Fault Refusal :=
  if s.rim.flip.1 = 1 ∧ s.rim.flip.2 + ceilDiv (25 * s.fl) 192 ≤ s.et then .next s.epochFlip else .next s

/-- HALL_EPOCH_DONE: no packet of the old version remains, and held injection goes on (R290). -/
def execHallEpochDone (s : State) : Host.Outcome State Fault Refusal :=
  if s.rim.flip.1 = 2 ∧ s.oldPkts.isEmpty then
    let s := (s.wr (gp .halg) 0x080 (setBit (s.rd (gp .halg) 0x080) 3)).raise (gp .halg) 1 false
    .next { s with rim := { s.rim with flip := (0, 0), holdEla := false } }
  else .next s

/-- HALL_DRAIN_TIMEOUT: DRAIN_US after the flip, 0 taken as 1, packets of the old version remain (R290, R305). -/
def execHallDrainTimeout (s : State) : Host.Outcome State Fault Refusal :=
  let us := max 1 (s.rdF (gp .halg) 0x080 31 16)
  if s.rim.flip.1 = 2 ∧ s.rim.flip.2 + usToEt us ≤ s.et ∧ !s.oldPkts.isEmpty ∧ !tst (s.rd (gp .halg) 0x080) 4 then .next (s.flipTimedOut false)
  else .next s

end Sys2Proof.Machine
end

