-- ==== Sys2Proof/Machine/Chan.lean ====
section
/-!
DEFINITION. Channels and active messages: send channels, receive rings and the bounce ring (R249 to R256, R267 to R269).
-/

namespace Sys2Proof.Machine

/-! ### Registers -/

/-- Offsets of the CHN registers of channel `c` and ring `r` (R267). -/
def txA (c : Nat) : Nat := 0x400 + 16 * (c % 64)
def txB (c : Nat) : Nat := 0x408 + 16 * (c % 64)
def rxA (r : Nat) : Nat := 0x800 + 32 * (r % 64)
def rxB (r : Nat) : Nat := 0x808 + 32 * (r % 64)

/-- The CHN page of a Room. -/
def chn (room : Nat) : PageRef := rp .chn room

/-- Units of a ring of a SIZE (R249, R250). -/
def ringUnits (size : Nat) : Nat := 2 ^ (8 + size)

/-- Units of a record of LEN payload bytes (R250). -/
def recUnits (len : Nat) : Nat := 1 + ceilDiv len 16

/-- Where a record of `n` units goes in a ring of `total` units whose tail is at `tail`: its unit, the units of PAD before it, and the new
tail (R251). -/
def placeRec (total tail n : Nat) : Nat × Nat × Nat :=
  let tail := tail % total
  let rem := total - tail
  if n ≤ rem then (tail, 0, (tail + n) % total) else (0, rem, n % total)

/-- Header words of a record (R250). -/
def recHead0 (typ epoch reason handler len : Nat) : W64 :=
  put 63 62 typ ||| put 61 58 epoch ||| put 57 54 reason ||| put 47 32 handler ||| put 9 0 len
def recHead1 (seq chan room : Nat) : W64 := put 63 32 seq ||| put 21 16 chan ||| put 13 0 room

/-- A record written into a ring in the Shelf: the payload first, then the header (R250, R251). -/
def State.putRec (s : State) (room base unit who : Nat) (h0 h1 : W64) (payload : List Byte) : State :=
  let o := base + 16 * unit
  let pad := List.replicate (ceilDiv payload.length 16 * 16 - payload.length) 0
  let s := if payload.isEmpty then s else (s.shelfSt room (o + 16) who (payload ++ pad)).1
  s.shelfStWs room o who [h0, h1]

/-- A PAD record that fills `units` units to the ring's end (R251). -/
def State.putPad (s : State) (room base unit units who epoch : Nat) : State :=
  if units = 0 then s else s.shelfStWs room (base + 16 * unit) who [recHead0 1 epoch 0 0 (16 * units - 16), 0]

/-! ### Sending -/

/-- A MESSAGE packet from an endpoint of a Room to a ring (R282, R283). -/
def mkMsg (src dstRoom suite seq handler epoch chan ring : Nat) (sync : Bool) (payload : List Byte) : Pkt :=
  { Pkt.mk0 5 (eidRoom dstRoom 2) src suite with
    len := payload.length, data := payload, w3 := put 0 0 (b2n sync)
    w2 := put 63 32 seq ||| put 31 16 handler ||| put 15 12 epoch ||| put 11 6 chan ||| put 5 0 ring }

/-- A bounced message written into the sender's bounce ring (R256). -/
def State.bounce (s : State) (room reason dstRoom : Nat) (w2 : W64) (payload : List Byte) (injected : Bool) : State :=
  let p := chn room
  let cfg := s.rd p 0x088
  let ptr := s.rd p 0x090
  let total := ringUnits (fld cfg 50 48)
  let base := fld cfg 21 6 * 64
  let n := recUnits payload.length
  let pl := placeRec total (fld ptr 31 16) n
  let s := (s.bump p 0x098 63 32 1).raise p 0 injected
  if total < fld ptr 47 32 + n + pl.2.1 then (s.bump p 0x098 31 16 1).raise p 1 false
  else
    let s := s.putPad room base (fld ptr 31 16 % total) pl.2.1 0x43 0
    let s := s.putRec room base pl.1 0x43 (recHead0 2 (fld w2 15 12) reason (fld w2 31 16) payload.length)
      (recHead1 (fld w2 63 32) (fld w2 11 6) dstRoom) payload
    s.wr p 0x090 (setFld (setFld ptr 31 16 pl.2.2) 47 32 (fld ptr 47 32 + n + pl.2.1))

/-- Credits returned to a channel (R252, R256); channel 63 discards them (R261). -/
def State.creditBack (s : State) (room c units : Nat) : State :=
  if c = 63 then s else s.bump (chn room) (txB c) 15 0 units

/-- REASON of a bounce by NACK code (R285). -/
def bounceReason : Nat → Nat
  | 0x01 => 4 | 0x04 => 2 | 0x05 => 2 | 0x06 => 2 | 0x08 => 1 | 0x09 => 3 | _ => 0

/-- CH.SEND: the send status, and the message sent when credits cover it (R242, R251, R252). -/
def State.chSend (s : State) (room : Nat) (rs1 rs2 : W64) : State × Nat :=
  let c := fld rs1 5 0
  let len := fld rs1 41 32
  let handler := fld rs1 31 16
  let p := chn room
  let a := s.rd p (txA c)
  let b := s.rd p (txB c)
  let off := rs2.toNat
  if c = 63 ∨ off % 8 ≠ 0 ∨ 0x300000 < off + len then (s, 4)
  else if 992 < len then (s, 3)
  else if fld a 63 62 ≠ 2 then (s, 2)
  else
    let total := ringUnits (fld a 57 55)
    let n := recUnits len
    let pl := placeRec total (fld b 31 16) n
    let charge := n + pl.2.1
    if fld b 15 0 < charge then (s, 1)
    else
      let seq := fld b 63 32
      let b' := put 63 32 (seq + 1) ||| put 31 16 pl.2.2 ||| put 15 0 (fld b 15 0 - charge)
      let r := s.shelfLd room off len 0x40
      let s := r.1.wr p (txB c) b'
      let m := mkMsg (eidRoom room 4) (fld a 45 32) (s.suiteId room) seq handler (fld a 61 58) c (fld a 5 0) false r.2.1
      if s.isArmed p 0 then (((s.disarm p 0).creditBack room c charge).bounce room 1 (fld a 45 32) m.w2 r.2.1 true, 0)
      else (s.request room m (.chanMsg room c charge), 0)

/-! ### Receiving -/

/-- The free units of a ring. -/
def State.ringFree (s : State) (room r : Nat) : Nat := ringUnits (s.rdF (chn room) (rxA r) 54 52) - s.rdF (chn room) (rxB r) 47 32

/-- A SYNC for a channel: an ACK of KIND 2 with the ring's values (R253, R284). -/
def State.syncAck (s : State) (room r dst tag chan : Nat) : Pkt :=
  let a := s.rd (chn room) (rxA r)
  { Pkt.mk0 8 dst (eidRoom room 2) (s.suiteId room) with
    tag, w2 := put 63 48 (s.ringFree room r) ||| put 47 32 (s.rdF (chn room) (rxB r) 31 16) ||| put 31 28 (fld a 61 58)
      ||| put 27 25 (fld a 54 52) ||| put 21 16 chan ||| put 15 8 2 }

/-- Credits returned to a ring's bound sender: an ACK of KIND 1 (R252, R284). -/
def State.creditAck (s : State) (room r units : Nat) : State :=
  let a := s.rd (chn room) (rxA r)
  s.inject room { Pkt.mk0 8 (eidRoom (fld a 45 32) 2) (eidRoom room 2) (s.suiteId room) with
    w2 := put 63 48 units ||| put 21 16 (fld a 51 46) ||| put 15 8 1 }

/-- Whether a message finds its open ring short of space (R252). -/
def State.msgOverrun (s : State) (room : Nat) (p : Pkt) : Bool :=
  let a := s.rd (chn room) (rxA (fld p.w2 5 0))
  let b := s.rd (chn room) (rxB (fld p.w2 5 0))
  let total := ringUnits (fld a 54 52)
  let n := recUnits p.len
  !s.dark room && !tst p.w3 0 && decide (fld a 63 62 = 1) && decide (fld a 61 58 = fld p.w2 15 12)
    && decide (total < fld b 47 32 + n + (placeRec total (fld b 31 16) n).2.1)

/-- An arriving MESSAGE: the NACK code of the first bounce reason that applies, or none (R256, R261). -/
def State.msgRefusal (s : State) (room : Nat) (p : Pkt) : Option Nat :=
  let a := s.rd (chn room) (rxA (fld p.w2 5 0))
  let sync := tst p.w3 0
  let bound := fld a 45 32 = eidRoomOf p.src ∧ fld a 51 46 = fld p.w2 11 6
  if s.dark room then some 0x04
  else if fld a 63 62 = 0 ∨ (sync ∧ fld a 63 62 ≠ 1) then some 0x08
  else if fld a 63 62 = 2 ∨ (!sync ∧ fld a 61 58 ≠ fld p.w2 15 12) ∨ s.msgOverrun room p then some 0x04
  else if !decide bound then some 0x09
  else none

/-- A MESSAGE taken at a Room: answered with a SYNC, written into its ring and acknowledged, or refused (R252, R256, R261, R284). -/
def State.takeMsg (s : State) (room : Nat) (p : Pkt) : State :=
  let r := fld p.w2 5 0
  match s.msgRefusal room p with
  | some c =>
    if s.dark room then s.routerSend room (p.nack c) else (if s.msgOverrun room p then s.raise (chn room) 3 false else s).inject room (p.nack c)
  | none =>
    if tst p.w3 0 then s.inject room (s.syncAck room r p.src p.tag (fld p.w2 11 6))
    else
      let g := chn room
      let a := s.rd g (rxA r)
      let b := s.rd g (rxB r)
      let total := ringUnits (fld a 54 52)
      let base := fld a 21 6 * 64
      let n := recUnits p.len
      let pl := placeRec total (fld b 31 16) n
      let s := s.putPad room base (fld b 31 16 % total) pl.2.1 0x43 (fld a 61 58)
      let s := s.putRec room base pl.1 0x43 (recHead0 0 (fld p.w2 15 12) 0 (fld p.w2 31 16) p.len)
        (recHead1 (fld p.w2 63 32) (fld p.w2 11 6) (eidRoomOf p.src)) p.data
      let s := s.wr g (rxB r) (setFld (setFld b 31 16 pl.2.2) 47 32 (fld b 47 32 + n + pl.2.1))
      s.inject room (p.ack 0)

/-! ### Reading a ring -/

/-- Units consumed at the head of a ring. -/
def State.ringAdvance (s : State) (room r units : Nat) : State :=
  let g := chn room
  let b := s.rd g (rxB r)
  let total := ringUnits (s.rdF g (rxA r) 54 52)
  s.wr g (rxB r) (setFld (setFld b 15 0 ((fld b 15 0 + units) % total)) 47 32 (fld b 47 32 - units))

/-- The Shelf offset of a ring's head. -/
def State.ringHeadOff (s : State) (room r : Nat) : Nat :=
  s.rdF (chn room) (rxA r) 21 6 * 64 + 16 * s.rdF (chn room) (rxB r) 15 0

/-- PAD records at the head of a ring passed, their units returned (R252, R255). -/
def State.passPads (s : State) (room r : Nat) : Nat → State
  | 0 => s
  | fuel + 1 =>
    if s.rdF (chn room) (rxB r) 47 32 = 0 then s
    else
      let w := s.ldWord (shelfEA room (s.ringHeadOff room r))
      if fld w 63 62 = 1 then
        let n := fld w 9 0 / 16 + 1
        ((s.ringAdvance room r n).creditAck room r n).passPads room r fuel
      else s

/-- CH.NEXT: the lowest-numbered chosen OPEN ring with a record, after its PADs: the state, the ring, and the record's Shelf offset (R255). -/
def State.chNext (s : State) (room : Nat) (mask : W64) : List Nat → State × Option (Nat × Nat)
  | [] => (s, none)
  | r :: rs =>
    if tst mask r && decide (s.rdF (chn room) (rxA r) 63 62 = 1) then
      let s := s.passPads room r 2
      if s.rdF (chn room) (rxB r) 47 32 = 0 then s.chNext room mask rs else (s, some (r, s.ringHeadOff room r))
    else s.chNext room mask rs

/-- The handler address of a record (R255). -/
def State.handlerOf (s : State) (room off : Nat) : State × W64 :=
  let g := chn room
  let cfg := s.rd g 0x080
  let h := fld (s.ldWord (shelfEA room off)) 47 32
  let base := fld cfg 21 3 * 8
  if h < fld cfg 63 48 then s.shelfLdW room (base + 8 * h) 0x40
  else ((s.bump g 0x098 15 0 1).raise g 2 false).shelfLdW room base 0x40

/-- CH.DONE: the head record of a ring consumed and its credits returned (R252). -/
def State.chDone (s : State) (room r : Nat) : State :=
  if s.rdF (chn room) (rxB r) 47 32 = 0 then s
  else
    let w := s.ldWord (shelfEA room (s.ringHeadOff room r))
    let n := min (recUnits (fld w 9 0)) (s.rdF (chn room) (rxB r) 47 32)
    (s.ringAdvance room r n).creditAck room r n

/-- CH.OPEN: a receive ring opened with a new EPOCH and a SYNC sent to its sender, or a send channel that asks for one; its result (R242,
R253). -/
def State.chOpen (s : State) (room : Nat) (v : W64) : State × Nat :=
  let g := chn room
  let k := fld v 5 0
  if tst v 6 then
    let a := s.rd g (rxA k)
    if fld a 63 62 = 1 then (s, 2)
    else
      let s := s.wr g (rxB k) 0
      let s := s.wr g (rxA k) (setFld (setFld a 63 62 1) 61 58 (fld a 61 58 + 1))
      (s.inject room (s.syncAck room k (eidRoom (fld a 45 32) 2) 0 (fld a 51 46)), 0)
  else if k = 63 then (s, 3)
  else
    let a := s.rd g (txA k)
    if fld a 63 62 = 2 then (s, 2)
    else
      let s := s.wr g (txA k) (setFld a 63 62 1)
      (s.request room (mkMsg (eidRoom room 4) (fld a 45 32) (s.suiteId room) 0 0 0 k (fld a 5 0) true []) (.chanSync room k), 0)

/-- CH.CLOSE (R253). -/
def State.chClose (s : State) (room : Nat) (v : W64) : State :=
  let k := fld v 5 0
  if tst v 6 then s.wrF (chn room) (rxA k) 63 62 0 else s.wrF (chn room) (txA k) 63 62 0

/-- A SYNC received by a send channel: it takes the values and becomes OPEN (R253). -/
def State.takeSync (s : State) (room : Nat) (p : Pkt) : State :=
  let c := fld p.w2 21 16
  if c = 63 ∨ s.dark room then s
  else
    let g := chn room
    let a := s.rd g (txA c)
    let s := s.wr g (txA c) (setFld (setFld (setFld a 63 62 2) 61 58 (fld p.w2 31 28)) 57 55 (fld p.w2 27 25))
    s.wr g (txB c) (put 31 16 (fld p.w2 47 32) ||| put 15 0 (fld p.w2 63 48))

/-- A NACK that carries a message back to its sender: bounced, unless it refuses a request for a SYNC (R253, R256, R285). -/
def State.msgNacked (s : State) (room chan charge : Nat) (p : Pkt) : State :=
  if s.dark room then s
  else (s.creditBack room chan charge).bounce room (bounceReason p.code) (eidRoomOf p.src) p.w2 p.data false

/-- Whether an open ring whose IE is set holds a record: interrupt cause 16 (R241). -/
def State.chanPending (s : State) (room : Nat) : Bool :=
  (List.range 64).any fun r =>
    let a := s.rd (chn room) (rxA r)
    decide (fld a 63 62 = 1) && tst a 57 && decide (s.rdF (chn room) (rxB r) 47 32 ≠ 0)

/-- Whether the bounce ring holds a record: interrupt cause 17 (R241). -/
def State.bouncePending (s : State) (room : Nat) : Bool := decide (s.rdF (chn room) 0x090 47 32 ≠ 0)

end Sys2Proof.Machine
end

