-- ==== Sys2Proof/Machine/Tiles.lean ====
section
/-!
DEFINITION. Sparse tiles: layout, compression and the checks of a tile-aware load (R144 to R166).
-/

namespace Sys2Proof.Machine

/-! ### Formats and sizes -/

/-- Whether a mode is one R144 allows for a format. -/
def tileModeOk (mode : Nat) (f : Fmt) : Bool :=
  match f with
  | .bf16 | .fp16 | .e4m3 | .e5m2 | .fp4 | .int8 => decide (mode ≤ 4)
  | .fp32 | .int4 => decide (mode = 0)
  | _ => false

/-- Bytes of a dense block of a format (R149). -/
def denseBytes (f : Fmt) : Nat := 64 * 64 * f.width / 8

/-- Columns of a group, and slots kept per row in it (R151). -/
def groupShape (mode : Nat) : Nat × Nat := if mode = 2 then (8, 4) else (4, 2)

/-- Bytes of data and metadata of a compressed tile of modes 1 to 3 (R149). -/
def compressedBytes (mode : Nat) (f : Fmt) : Nat × Nat :=
  let g := 64 / (groupShape mode).1
  (denseBytes f / 2, 64 / f.lanes * g * 8)

/-- The words of a list of bytes, little-endian. -/
def toWords : List Byte → List W64
  | a :: b :: c :: d :: e :: f :: g :: h :: l => BitVec.ofNat 64 (leOf [a, b, c, d, e, f, g, h]) :: toWords l
  | _ => []

/-- The bytes of words, little-endian. -/
def ofWords (ws : List W64) : List Byte := ws.flatMap fun w => leTo 8 w.toNat

/-- CRC-64 over bytes (R148). -/
def crcOf (crc : W64) (bs : List Byte) : W64 := crcBytes crc (bs.map BitVec.toNat)

/-! ### Elements -/

/-- A 64 × 64 block: its format, its valid rows and columns minus one, and its dense tokens (R146, R150). -/
structure TileBlock where
  f    : Fmt
  rows : Nat
  cols : Nat
  toks : List W64
  deriving DecidableEq, Repr

/-- Element (r, k) of a block; outside the valid rows and columns it is zero (R146, R150). -/
def TileBlock.el (t : TileBlock) (r k : Nat) : Nat :=
  if r ≤ t.rows ∧ k ≤ t.cols then lane t.f.width (t.toks.getD (r / t.f.lanes * 64 + k) 0) (r % t.f.lanes) else 0

/-- Whether an element code is nonzero (R145). -/
def elNonzero (f : Fmt) (x : Nat) : Bool :=
  match f with
  | .int8 | .int4 => decide (x % 2 ^ f.width ≠ 0)
  | _ => decide (x % 2 ^ (f.width - 1) ≠ 0)

/-- The rank of an element: NaN highest, then infinities, then finite magnitudes (R162). -/
def elRank (f : Fmt) (x : Nat) : Nat :=
  match f with
  | .int8 | .int4 => (sgn f.width x).natAbs
  | _ => match decodeElem f x with | .nan => 2 ^ f.width | _ => x % 2 ^ (f.width - 1)

/-- The magnitude of an FP4 element in halves (R162). -/
def fp4Halves (x : Nat) : Nat := match x % 8 with | 0 => 0 | 1 => 1 | 2 => 2 | 3 => 3 | 4 => 4 | 5 => 6 | 6 => 8 | _ => 12

/-- The tokens of a dense block whose element (r, k) is `e r k` (R146). -/
def denseTokens (f : Fmt) (e : Nat → Nat → Nat) : List W64 :=
  (List.range (64 / f.lanes)).flatMap fun b =>
    (List.range 64).map fun k => ofLanes f.width ((List.range f.lanes).map fun i => e (f.lanes * b + i) k)

/-! ### Which elements are kept -/

/-- The `n` best positions of a list by rank, ties to the earlier one. -/
def topPositions : Nat → List (Nat × Nat) → List Nat
  | 0, _ => []
  | n + 1, l =>
    match (l.map Prod.snd).max? with
    | none => []
    | some m =>
      match l.find? fun e => e.2 = m with
      | none => []
      | some e => e.1 :: topPositions n (l.filter fun x => x.1 ≠ e.1)

/-- The positions PRUNE_ROW keeps in a group of a row; for FP4 4:8 the pair of rows is ranked by the sum of magnitudes (R162). -/
def TileBlock.pruneRow (t : TileBlock) (mode r g : Nat) : List Nat :=
  let s := groupShape mode
  let rank (k : Nat) : Nat :=
    if mode = 2 ∧ t.f = .fp4 then fp4Halves (t.el (r / 2 * 2) k) + fp4Halves (t.el (r / 2 * 2 + 1) k) else elRank t.f (t.el r k)
  topPositions s.2 ((List.range s.1).map fun p => (p, rank (s.1 * g + p)))

/-- The walk of PRUNE_T down the ranking of a 4 × 4 block (R163). -/
def pruneWalk : List Nat → List Nat → List Nat
  | [], kept => kept
  | p :: l, kept =>
    if (kept.filter fun q => q / 4 = p / 4).length < 2 ∧ (kept.filter fun q => q % 4 = p % 4).length < 2 then pruneWalk l (kept ++ [p])
    else pruneWalk l kept

/-- The positions PRUNE_T keeps in the 4 × 4 block at row block `br` and column block `bk`, as 4 × row + column (R163). -/
def TileBlock.pruneT (t : TileBlock) (br bk : Nat) : List Nat :=
  let ranked := topPositions 16 ((List.range 16).map fun p => (p, elRank t.f (t.el (4 * br + p / 4) (4 * bk + p % 4))))
  pruneWalk ranked []

/-- The kept positions of group `g` of row `r` under a rule: 0 STRICT, 1 PRUNE_ROW, 2 PRUNE_T (R161 to R163). -/
def TileBlock.kept (t : TileBlock) (mode rule r g : Nat) : List Nat :=
  let w := (groupShape mode).1
  match rule with
  | 0 => (List.range w).filter fun p => elNonzero t.f (t.el r (w * g + p))
  | 1 => (List.range w).filter fun p => (t.pruneRow mode r g).contains p
  | _ => (List.range 4).filter fun p => (t.pruneT (r / 4) g).contains (4 * (r % 4) + p)

/-- The positions of a group's slots: the kept ones, shared by a pair of rows in FP4 4:8, and the lowest others as fillers (R151, R152, R154). -/
def TileBlock.slots (t : TileBlock) (mode rule r g : Nat) : List Nat :=
  let s := groupShape mode
  let own (r : Nat) : List Nat := t.kept mode rule r g
  let ks := if mode = 2 ∧ t.f = .fp4 then
      (List.range s.1).filter fun p => (own (r / 2 * 2)).contains p || (own (r / 2 * 2 + 1)).contains p
    else own r
  let fill := ((List.range s.1).filter fun p => !ks.contains p).take (s.2 - ks.length)
  (List.range s.1).filter fun p => ks.contains p || fill.contains p

/-- Whether some group breaks the target pattern under STRICT (R161). -/
def TileBlock.breaks (t : TileBlock) (mode : Nat) : Bool :=
  let s := groupShape mode
  (List.range 64).any fun r => (List.range (64 / s.1)).any fun g =>
    if mode = 2 ∧ t.f = .fp4 then
      let a := t.kept mode 0 (r / 2 * 2) g
      let b := t.kept mode 0 (r / 2 * 2 + 1) g
      decide (4 < ((List.range 8).filter fun p => a.contains p || b.contains p).length)
    else
      decide (s.2 < (t.kept mode 0 r g).length)
        || (mode = 3 && (List.range 4).any fun c =>
          decide (2 < ((List.range 4).filter fun i => elNonzero t.f (t.el (r / 4 * 4 + i) (4 * g + c))).length))

/-- Nonzero elements a rule drops (R162, R163). -/
def TileBlock.dropped (t : TileBlock) (mode rule : Nat) : Nat :=
  let w := (groupShape mode).1
  ((List.range 64).map fun r => ((List.range 64).filter fun k =>
    elNonzero t.f (t.el r k) && !(t.kept mode rule r (k / w)).contains (k % w)).length).sum

/-! ### Stored tiles -/

/-- The data and metadata tokens of a compressed tile of modes 1 to 3 (R151, R152, R154). -/
def TileBlock.compress (t : TileBlock) (mode rule : Nat) : List W64 × List W64 :=
  let s := groupShape mode
  let m := t.f.lanes
  let groups := 64 / s.1
  let val (r g p : Nat) : Nat := if (t.kept mode rule r g).contains p then t.el r (s.1 * g + p) else 0
  let bg := (List.range (64 / m)).flatMap fun b => (List.range groups).map fun g => (b, g)
  (bg.flatMap fun x => (List.range s.2).map fun j =>
      ofLanes t.f.width ((List.range m).map fun i =>
        let r := m * x.1 + i
        val r x.2 ((t.slots mode rule r x.2).getD j 0)),
   bg.map fun x =>
      if mode = 2 then
        let mask (r : Nat) : Nat := (t.slots mode rule r x.2).foldl (fun a p => a ||| 2 ^ p) 0
        if t.f = .fp4 then ofLanes 8 ((List.range 8).map fun j => mask (m * x.1 + 2 * j))
        else ofLanes 8 ((List.range (min m 8)).map fun i => mask (m * x.1 + i))
      else
        ofLanes 4 ((List.range m).map fun i =>
          let sl := t.slots mode rule (m * x.1 + i) x.2
          sl.getD 0 0 + 4 * sl.getD 1 0))

/-- The elements of a block in the dense order n = m × j + i (R153). -/
def TileBlock.inOrder (t : TileBlock) : List Nat :=
  (List.range 4096).map fun n =>
    let j := n / t.f.lanes
    t.el (t.f.lanes * (j / 64) + n % t.f.lanes) (j % 64)

/-- Tokens packed from elements in order, the last padded with zeros (R153). -/
def packElems (f : Fmt) (xs : List Nat) : List W64 :=
  (List.range (ceilDiv xs.length f.lanes)).map fun j => ofLanes f.width ((xs.drop (f.lanes * j)).take f.lanes)

/-- The data and metadata tokens of a bitmask tile (R153). -/
def TileBlock.bitmask (t : TileBlock) : List W64 × List W64 :=
  let es := t.inOrder
  (packElems t.f (es.filter (elNonzero t.f)),
   (List.range 64).map fun w => BitVec.ofNat 64 (packLanes 1 (((es.drop (64 * w)).take 64).map fun x => b2n (elNonzero t.f x))))

/-- FMT code of a format (R96). -/
def Fmt.code (f : Fmt) : Nat := ((List.range 16).find? fun c => Fmt.ofCode c = some f).getD 0

/-- Word 0 of a tile header (R147). -/
def tileHeader (f : Fmt) (mode : Nat) (dense : Bool) (rows cols dataLen : Nat) : W64 :=
  put 63 48 (if dense then 0 else 16 + dataLen) ||| put 47 32 dataLen ||| put 19 14 cols ||| put 13 8 rows ||| put 7 7 (b2n dense)
    ||| put 6 4 mode ||| put 3 0 f.code

/-- A whole tile in stored order: header, data, metadata, with CHECK in word 1 (R147, R148). -/
def tileBytes (h : W64) (data meta_ : List W64) : List Byte :=
  let body := ofWords data ++ ofWords meta_
  let hb := leTo 8 h.toNat
  hb ++ leTo 8 (crcOf (crcOf 0 hb) body).toNat ++ body

/-- A block stored dense under a declared mode (R147, R161). -/
def TileBlock.storeDense (t : TileBlock) (mode : Nat) : List Byte :=
  tileBytes (tileHeader t.f mode true t.rows t.cols (denseBytes t.f)) (denseTokens t.f t.el) []

/-- What a compressing store gives: the tile, its companion, and what it adds to SPARSE_VIOLATION, SPARSE_PRUNED and SPARSE_BM_DENSE. -/
structure TileOut where
  tile    : List Byte
  comp    : List Byte
  viol    : Nat
  pruned  : Nat
  bmDense : Nat
  deriving DecidableEq, Repr

/-- The block of the transposed kept values (R164). -/
def TileBlock.transposed (t : TileBlock) (rule : Nat) (all : Bool) : TileBlock :=
  { f := t.f, rows := t.cols, cols := t.rows
    toks := denseTokens t.f fun r k => if all || (t.kept 3 rule k (r / 4)).contains (r % 4) then t.el k r else 0 }

/-- A compressing store of a block (R160 to R165). -/
def TileBlock.store (t : TileBlock) (mode rule : Nat) : TileOut :=
  if mode = 4 then
    let c := t.bitmask
    if denseBytes t.f ≤ 512 + 8 * c.1.length then ⟨t.storeDense 4, [], 0, 0, 1⟩
    else ⟨tileBytes (tileHeader t.f 4 false t.rows t.cols (8 * c.1.length)) c.1 c.2, [], 0, 0, 0⟩
  else if rule = 0 ∧ t.breaks mode then
    ⟨t.storeDense mode, if mode = 3 then (t.transposed 0 true).storeDense 1 else [], 1, 0, 0⟩
  else
    let c := t.compress mode rule
    let n := (compressedBytes mode t.f).1
    let comp :=
      if mode = 3 then
        let x := t.transposed rule false
        let cc := x.compress 1 0
        tileBytes (tileHeader x.f 1 false x.rows x.cols n) cc.1 cc.2
      else []
    ⟨tileBytes (tileHeader t.f mode false t.rows t.cols n) c.1 c.2, comp, 0, if rule = 0 then 0 else t.dropped mode rule, 0⟩

/-- Whether a rule and a target mode go together (R160). -/
def sparseModeOk (rule mode : Nat) (f : Fmt) : Bool :=
  decide (1 ≤ mode) && tileModeOk mode f &&
    (match rule with
     | 0 => true
     | 1 => decide (mode = 1 ∨ mode = 2)
     | 2 => decide (mode = 3)
     | _ => false)

/-! ### Loads -/

/-- Bytes of the data and metadata regions that a tile header names, if it is one a load accepts (R157). -/
def tileRegions (h : W64) : Option (Nat × Nat) :=
  match Fmt.ofCode (fld h 3 0) with
  | none => none
  | some f =>
    let mode := fld h 6 4
    let dense := tst h 7
    let dl := fld h 47 32
    let mo := fld h 63 48
    if !tileModeOk mode f ∨ (!dense ∧ mode = 0) ∨ fld h 31 20 ≠ 0 then none
    else if dense then (if dl = denseBytes f ∧ mo = 0 then some (dl, 0) else none)
    else if mode = 4 then (if dl % 8 = 0 ∧ dl + 520 ≤ denseBytes f ∧ mo = 16 + dl then some (dl, 512) else none)
    else
      let c := compressedBytes mode f
      if dl = c.1 ∧ mo = 16 + dl then some c else none

/-- A dense tile's data in the R146 layout of the transposed matrix (R220). -/
def transposeDense (f : Fmt) (ws : List W64) : List W64 :=
  let t : TileBlock := ⟨f, 63, 63, ws⟩
  denseTokens f fun r k => t.el k r

/-- A matrix of `rows` rows of `cols` elements, given as its rows' bytes in order, as the bytes of its transposed rows (R220). -/
def transposeRows (w rows cols : Nat) (src : List (List Byte)) : List (List Byte) :=
  let el (r c : Nat) : Nat := leOf (src.getD r []) >>> (w * c) % 2 ^ w
  (List.range cols).map fun c => leTo (rows * w / 8) (packLanes w ((List.range rows).map fun r => el r c))

end Sys2Proof.Machine
end

