-- ==== Sys2Proof/Machine/Dwt.lean ====
section
/-!
DEFINITION. The Dumbwaiter: queues, descriptors, transfers, folds and completion (R218 to R226, R232 to R234, R413).
-/

namespace Sys2Proof.Machine

/-! ### Descriptors -/

/-- The descriptors of a queue that have started, oldest first. -/
def State.dwList (s : State) (room q : Nat) : List DwDesc := smGet [] (s.room room).dw q

/-- The started descriptors of a queue replaced. -/
def State.setDwList (s : State) (room q : Nat) (l : List DwDesc) : State := s.modRoom room fun r => { r with dw := smSet [] r.dw q l }

/-- A change of one started descriptor. -/
def State.modDw (s : State) (room q idx : Nat) (f : DwDesc → DwDesc) : State :=
  s.setDwList room q ((s.dwList room q).map fun d => if d.idx = idx then f d else d)

/-- One started descriptor. -/
def State.dwGet (s : State) (room q idx : Nat) : Option DwDesc := (s.dwList room q).find? fun d => d.idx = idx

/-- DWT_Q_CFG of a queue (R233). -/
def State.dwCfg (s : State) (room q : Nat) : W64 := s.rd (rp .dwt room) (0x100 + 32 * q)

/-- Whether a queue runs: enabled, with a valid size (R233). -/
def State.dwRuns (s : State) (room q : Nat) : Bool :=
  let w := s.dwCfg room q
  tst w 63 && decide (2 ≤ fld w 27 24) && decide (fld w 27 24 ≤ 12)

/-- Descriptors of a ring (R218). -/
def State.dwSize (s : State) (room q : Nat) : Nat := 2 ^ fld (s.dwCfg room q) 27 24

/-- Shelf offset of a descriptor (R218). -/
def State.dwOff (s : State) (room q idx : Nat) : Nat := fld (s.dwCfg room q) 21 6 * 64 + 64 * idx

/-- Q_HEAD and Q_TAIL. -/
def State.dwHead (s : State) (room q : Nat) : Nat := s.rdF (rp .dwt room) (0x108 + 32 * q) 11 0
def State.dwTail (s : State) (room q : Nat) : Nat := s.rdF (rp .dwt room) (0x110 + 32 * q) 11 0

/-- Whether a ring index is outstanding: appended and not yet completed (R218). -/
def State.dwOutstanding (s : State) (room q idx : Nat) : Bool :=
  let n := s.dwSize room q
  let h := s.dwHead room q
  decide ((idx + n - h % n) % n < (s.dwTail room q + n - h % n) % n)

/-- OP, ARGS and the option bits of a descriptor (R219). -/
def dwOp (ws : List W64) : Nat := fld (ws.getD 0 0) 63 56
def dwArgs (ws : List W64) : Nat := fld (ws.getD 0 0) 55 48
def dwFmt (ws : List W64) : Nat := fld (ws.getD 0 0) 47 44
def dwFoldMode (ws : List W64) : Nat := fld (ws.getD 0 0) 37 36

/-- The element format of TRANSPOSE and of a tile store or wrap (R219, R220). -/
def dwElem (ws : List W64) : Option Fmt := Fmt.ofCode (dwFmt ws)

/-- ROWS and ROW_BYTES, DST_STRIDE and SRC_STRIDE (R219). -/
def dwRows (ws : List W64) : Nat := fld (ws.getD 4 0) 63 32
def dwRowBytes (ws : List W64) : Nat := fld (ws.getD 4 0) 31 0
def dwDstStride (ws : List W64) : Nat := fld (ws.getD 5 0) 63 32
def dwSrcStride (ws : List W64) : Nat := fld (ws.getD 5 0) 31 0
def dwSrc (ws : List W64) : Nat := fld (ws.getD 1 0) 47 0
def dwDst (ws : List W64) : Nat := fld (ws.getD 2 0) 47 0
def dwDst2 (ws : List W64) : Nat := fld (ws.getD 3 0) 47 0

/-- Whether an operation works on rows. -/
def dwByRows (op : Nat) : Bool := decide (op = 1 ∨ op = 2 ∨ op = 6 ∨ op = 7)

/-- The formats TRANSPOSE takes (R221). -/
def transposeFmt : Fmt → Bool
  | .fp32 | .bf16 | .fp16 | .e4m3 | .e5m2 | .int8 | .int4 | .int64 => true
  | _ => false

/-- Whether an EA lies in a Room's own Shelf slot. -/
def ownShelf (room a : Nat) : Bool := decide (0x080000000000 ≤ a) && decide ((a - 0x080000000000) / 0x400000 = room)

/-- Whether a descriptor is one of R221's bad ones; `sched` says that SCHED is in force. -/
def dwBad (room : Nat) (ws : List W64) (sched : Bool) : Bool :=
  let w := ws.getD 0 0
  let op := dwOp ws
  let args := dwArgs ws
  let up (x n : Nat) : Bool := decide (x % n ≠ 0)
  let wide (k : Nat) : Bool := decide (fld (ws.getD k 0) 63 48 ≠ 0)
  let rows := dwRows ws
  let rb := dwRowBytes ws
  let w7 := ws.getD 7 0
  decide (op = 0 ∨ 7 < op) || decide (fld w 43 40 ≠ 0) || decide (fld w 34 16 ≠ 0) || decide (dwFoldMode ws = 3)
    || decide (fld w7 53 0 ≠ 0) || wide 1 || wide 2 || (op != 6 && wide 3)
    || (dwByRows op && (decide (rows = 0) || decide (rb = 0) || up rb 8 || up (dwDstStride ws) 8 || up (dwSrcStride ws) 8))
    || (op != 6 && up (dwSrc ws) (if op = 4 then 16 else 8)) || (op != 7 && up (dwDst ws) (if op = 3 ∨ op = 5 then 16 else 8))
    || (match op with
        | 3 => decide (args / 8 % 8 ≠ 0) || up (dwDst2 ws) 16 || decide (fld (ws.getD 4 0) 63 20 ≠ 0) || decide (fld (ws.getD 4 0) 7 0 ≠ 0)
        | 4 => decide (8 ≤ args) || decide (args % 4 = 3) || decide (4 ≤ args ∧ args % 4 = 2) || up (dwDst2 ws) 8 || decide (dwFmt ws ≠ 0)
        | 5 => decide (args ≠ 0) || decide (fld (ws.getD 4 0) 63 20 ≠ 0) || decide (fld (ws.getD 4 0) 7 0 ≠ 0) || decide (dwDst2 ws ≠ 0)
            || (match dwElem ws with | some f => !tileModeOk 0 f | none => true)
        | 2 => decide (args ≠ 0) || decide (dwDst2 ws ≠ 0) ||
            (match dwElem ws with
             | some f => !transposeFmt f || decide (4096 < rows) || decide (4096 < rb * 8 / f.width)
                 || (f.width = 4 && (decide (rows % 2 = 1) || decide (rb * 8 / f.width % 2 = 1)))
             | none => true)
        | 6 => decide (args ≠ 0) || decide (dwFmt ws ≠ 0)
        | _ => decide (args ≠ 0) || decide (dwFmt ws ≠ 0) || decide (dwDst2 ws ≠ 0))
    || (sched && ((op != 6 && !ownShelf room (dwSrc ws))
        || (op != 7 && !(decide (0x080000000000 ≤ dwDst ws) && decide (dwDst ws < 0x081000000000)))))

/-! ### Reading and writing -/


/-- The accesses of a byte range: single lines in the own Shelf, packets of at most 992 bytes elsewhere (R222, R283). -/
def dwCut (room a n : Nat) : List (Nat × Nat) := if ownShelf room a then cutRange true 64 a (n + 1) n else cutRange false 992 a (n + 1) n

/-- The first failure of a descriptor kept (R224). -/
def DwDesc.fail (d : DwDesc) (status detail : Nat) : DwDesc := if d.status = 1 then { d with status, detail } else d

/-- Requester code of a queue (R207). -/
def dwWho (q : Nat) : Nat := 0x48 + q

/-- One read of a descriptor made: a line of the own Shelf at once, any other address by the Hall (R222, R224, R36). -/
def State.dwRead (s : State) (room q idx k : Nat) (seg : Nat × Nat) : State :=
  let a := seg.1
  let n := seg.2
  let s := s.dmpCount room 7 (ceilDiv n 64)
  if ownShelf room a then
    let off := a % 0x400000
    let dark := off < 0x300000 ∧ s.shelfDark room off = true
    let r := s.shelfLd room off n (dwWho q)
    r.1.modDw room q idx fun d =>
      let d := if 0x300000 ≤ off then d.fail 9 0 else if dark then d.fail 10 0 else if !r.2.2 then d.fail 7 0 else d
      if r.2.2 then { d with got := smSet [] d.got k r.2.1 }
      else { d with cut := match d.cut with | some c => some (min c k) | none => some k }
  else
    match s.targetOf room a with
    | none => (s.noteShelfUnmapped room 0 (dwWho q)).modDw room q idx fun d =>
        { d.fail 9 0 with got := smSet [] d.got k (List.replicate n 0) }
    | some dst =>
      (s.request room (mkRead dst (eidRoom room 5) (s.suiteId room) a n) (.dwtRead room q idx k)).modDw room q idx fun d =>
        { d with waits := d.waits + 1 }

/-- Several reads made in order. -/
def State.dwReads (s : State) (room q idx : Nat) : Nat → List (Nat × Nat) → State
  | _, [] => s
  | k, x :: l => (s.dwRead room q idx k x).dwReads room q idx (k + 1) l

/-- A WRITE put at the injection port to wait for a slot of its queue (R211, R295). -/
def State.injectSch (s : State) (room q : Nat) (p : Pkt) : State :=
  { s with pkts := s.pkts ++ [{ pkt := { p with vc := 0, epoch := s.rdF (gp .halg) 0x080 0 0 }, room, port := 8 + q, ejected := false
                                moved := false, due := 0 }] }

/-- Whether a descriptor has stopped at an uncorrectable line: nothing of it is written any more (R216, R224). -/
def DwDesc.stopped (d : DwDesc) : Bool := decide (d.cut = some 0)

/-- One write of a descriptor made, unless it has stopped at an uncorrectable line (R213, R216, R222). -/
def State.dwWrite (s : State) (room q idx : Nat) (sched : Bool) (a : Nat) (vs : List Byte) : State :=
  if (s.dwGet room q idx).any DwDesc.stopped then s
  else if ownShelf room a then
    let off := a % 0x400000
    let dark := off < 0x300000 ∧ s.shelfDark room off = true
    let r := s.shelfSt room off (dwWho q) vs
    r.1.modDw room q idx fun d =>
      if 0x300000 ≤ off then d.fail 9 0 else if dark then d.fail 10 0 else if !r.2 then { d.fail 7 0 with cut := some 0 } else d
  else
    match s.targetOf room a with
    | none => (s.noteShelfUnmapped room 0 (dwWho q)).modDw room q idx fun d => d.fail 9 0
    | some dst =>
      let p := mkWrite dst (eidRoom room 5) (s.suiteId room) a vs
      let s :=
        if sched then
          let t := s.nextTag % 65536
          let s := s.injectSch room q { p with tag := t }
          { s with outst := s.outst ++ [⟨t, p.src, .dwtWrite room q idx⟩], nextTag := s.nextTag + 1 }
        else s.request room p (.dwtWrite room q idx)
      s.modDw room q idx fun d => { d with waits := d.waits + 1 }

/-- A run of bytes written from `a` upward, by lines or packets. -/
def State.dwWriteRun (s : State) (room q idx : Nat) (sched : Bool) (a : Nat) (vs : List Byte) : State :=
  (dwCut room a vs.length).foldl (fun s x => s.dwWrite room q idx sched x.1 ((vs.drop (x.1 - a)).take x.2)) s

/-- Rows written at a pitch. -/
def State.dwWriteRows (s : State) (room q idx : Nat) (sched : Bool) (a pitch : Nat) : Nat → List (List Byte) → State
  | _, [] => s
  | n, r :: rs => (s.dwWriteRun room q idx sched (a + n * pitch) r).dwWriteRows room q idx sched a pitch (n + 1) rs

/-- The bytes of read `k`: none where it failed or lies at or beyond an uncorrectable one. -/
def DwDesc.piece (d : DwDesc) (k : Nat) : Option (List Byte) :=
  let ok : Bool := match d.cut with | some c => decide (k < c) | none => true
  if ok then (d.got.find? fun e => e.1 = k).map Prod.snd else none

/-- The source bytes in read order, missing ones left out. -/
def DwDesc.source (d : DwDesc) : List Byte := (List.range d.segs.length).flatMap fun k => (d.piece k).getD []

/-- Whether every read of a descriptor has given its data. -/
def DwDesc.whole (d : DwDesc) : Bool := (List.range d.segs.length).all fun k => (d.piece k).isSome

/-- The source bytes in read order, missing ones as zeros. -/
def DwDesc.full (d : DwDesc) : List Byte :=
  ((List.range d.segs.length).zip d.segs).flatMap fun e => (d.piece e.1).getD (List.replicate e.2.2 0)

/-- Whether SCHED is in force: set, in a Suite that runs stepped (R219). -/
def State.dwSched (s : State) (room : Nat) (ws : List W64) : Bool :=
  tst (ws.getD 0 0) 39 &&
    (match (s.suiteOf room).bind s.suite with | some u => decide (u.mode = 0) && decide (u.run = 2) | none => false)

/-- The reads of a descriptor: rows, a dense block, or a tile header (R220). -/
def dwSegs (room : Nat) (ws : List W64) : List (Nat × Nat) :=
  match dwOp ws with
  | 1 | 2 | 7 => (List.range (dwRows ws)).flatMap fun n => dwCut room (dwSrc ws + n * dwSrcStride ws) (dwRowBytes ws)
  | 3 | 5 => dwCut room (dwSrc ws) (match dwElem ws with | some f => denseBytes f | none => 0)
  | 4 => dwCut room (dwSrc ws) 16
  | _ => []

/-- The bytes of row `n` written by a COPY: the pieces of its reads, with their places (R220, R224). -/
def DwDesc.copyRuns (d : DwDesc) (room : Nat) : List (Nat × List Byte) :=
  let per (n : Nat) : Nat := (dwCut room (dwSrc d.words + n * dwSrcStride d.words) (dwRowBytes d.words)).length
  let rows := (List.range (dwRows d.words)).flatMap fun n => List.replicate (per n) n
  ((List.range d.segs.length).zip (d.segs.zip rows)).filterMap fun e =>
    (d.piece e.1).map fun b =>
      (dwDst d.words + e.2.2 * dwDstStride d.words + (e.2.1.1 - (dwSrc d.words + e.2.2 * dwSrcStride d.words)), b)

/-- The writes of a TILE_LOAD without transpose: every piece of the tile at its own place in the data or the metadata region, which is `n` bytes long
(R155, R220, R224). -/
def DwDesc.tileRuns (d : DwDesc) (n : Nat) : List (Nat × List Byte) :=
  ((List.range d.segs.length).zip d.segs).tail.flatMap fun e =>
    match d.piece e.1 with
    | none => []
    | some b =>
      let rel := e.2.1 - (dwSrc d.words + 16)
      (if rel < n then [(dwDst d.words + rel, b.take (n - rel))] else [])
        ++ (if n < rel + b.length then [(dwDst2 d.words + (max rel n - n), b.drop (n - rel))] else [])

/-- Counters of a compressing store (R166). -/
def State.sparseCount (s : State) (room : Nat) (o : TileOut) : State :=
  let p := rp .dwt room
  ((s.bump p 0x090 63 0 o.viol).bump p 0x098 63 0 o.pruned).bump p 0x0A0 63 0 o.bmDense

/-- The fold of a descriptor's source, and the queue's running value after it (R225, R414). -/
def State.dwFold (s : State) (room q : Nat) (ws : List W64) (src : List Byte) : State × W64 :=
  let p := rp .cvu room
  match dwFoldMode ws with
  | 0 => (s, 0)
  | m =>
    let v := crcOf (if m = 2 then s.rd p (0x200 + 8 * q) else 0) src
    (s.wr p (0x200 + 8 * q) v, v)

/-- The writes of a descriptor whose source has come (R220). -/
def State.dwMove (s : State) (room q : Nat) (d : DwDesc) : State :=
  let ws := d.words
  let sched := s.dwSched room ws
  let run (s : State) (a : Nat) (b : List Byte) : State := s.dwWriteRun room q d.idx sched a b
  match dwOp ws with
  | 1 => (d.copyRuns room).foldl (fun s e => run s e.1 e.2) s
  | 2 =>
    match dwElem ws with
    | none => s
    | some f =>
      let rb := dwRowBytes ws
      let src := d.full
      let rows := (List.range (dwRows ws)).map fun n => (src.drop (n * rb)).take rb
      if d.cut.isSome then s
      else s.dwWriteRows room q d.idx sched (dwDst ws) (dwDstStride ws) 0 (transposeRows f.width (dwRows ws) (rb * 8 / f.width) rows)
  | 3 =>
    match dwElem ws with
    | none => s
    | some f =>
      if d.cut.isSome then s
      else
        let t : TileBlock := ⟨f, fld (ws.getD 4 0) 13 8, fld (ws.getD 4 0) 19 14, toWords d.full⟩
        let o := t.store (dwArgs ws % 8) (dwArgs ws / 64)
        let put_ (s : State) (a : Nat) (b : List Byte) : State := run (run s (a + 16) (b.drop 16)) a (b.take 16)
        let s := put_ (s.sparseCount room o) (dwDst ws) o.tile
        if dwDst2 ws ≠ 0 ∧ o.comp ≠ [] then put_ s (dwDst2 ws) o.comp else s
  | 4 =>
    let b := d.source.drop 16
    let h := (toWords (d.source.take 16)).getD 0 0
    let r := (tileRegions h).getD (0, 0)
    let s := s.modDw room q d.idx fun d =>
      { d with chkBad := d.whole && decide (crcOf (crcOf 0 (leTo 8 h.toNat)) b ≠ (toWords (d.source.take 16)).getD 1 0) }
    if 4 ≤ dwArgs ws then
      match Fmt.ofCode (fld h 3 0) with
      | some f => if d.cut.isSome then s else run s (dwDst ws) (ofWords (transposeDense f (toWords (b.take r.1))))
      | none => s
    else (d.tileRuns r.1).foldl (fun s e => run s e.1 e.2) s
  | 5 =>
    match dwElem ws with
    | none => s
    | some f =>
      if d.cut.isSome then s
      else
        let t : TileBlock := ⟨f, fld (ws.getD 4 0) 13 8, fld (ws.getD 4 0) 19 14, toWords d.full⟩
        let b := t.storeDense 0
        run (run s (dwDst ws + 16) (b.drop 16)) (dwDst ws) (b.take 16)
  | 6 =>
    let row := (List.range (dwRowBytes ws / 8)).flatMap fun _ => leTo 8 (ws.getD 3 0).toNat
    s.dwWriteRows room q d.idx sched (dwDst ws) (dwDstStride ws) 0 (List.replicate (dwRows ws) row)
  | _ => s

/-- A descriptor that waits for no read goes on: a tile header is checked and its regions are read; otherwise the source is folded and the
writes are made (R157, R220, R225). -/
def State.dwGo (s : State) (room q idx : Nat) : State :=
  match s.dwGet room q idx with
  | none => s
  | some d =>
    if d.waits ≠ 0 ∨ d.phase = 2 then s
    else
      let body (s : State) : State :=
        match s.dwGet room q idx with
        | none => s
        | some d =>
          if d.waits ≠ 0 then s
          else
            let r := s.dwFold room q d.words d.source
            let s := r.1.modDw room q idx fun d => { d with phase := 2, fold := r.2 }
            s.dwMove room q d
      if d.phase = 0 then
        let h := (toWords (d.source.take 8)).getD 0 0
        let want := dwArgs d.words % 4
        let bad (st : Nat) : State := s.modDw room q idx fun d => { d.fail st 0 with phase := 2 }
        if d.status ≠ 1 then bad d.status
        else
          match tileRegions h with
          | none => bad 4
          | some r =>
            if (want = 1 ∧ !tst h 7) ∨ (want = 2 ∧ tst h 7) ∨ (4 ≤ dwArgs d.words ∧ !tst h 7) then bad 5
            else
              let more := dwCut room (dwSrc d.words + 16) (r.1 + r.2)
              let n := d.segs.length
              let s := s.modDw room q idx fun d => { d with phase := 1, segs := d.segs ++ more }
              body (s.dwReads room q idx n more)
      else body s

/-- The ring index of the next descriptor to start, with its words (R218, R223). -/
def State.dwNext (s : State) (room q : Nat) : Option (Nat × List W64) :=
  if !s.dwRuns room q then none
  else
    let n := s.dwSize room q
    let idx := (s.dwHead room q + (s.dwList room q).length) % n
    if s.dwOutstanding room q idx then some (idx, s.ldWords (shelfEA room (s.dwOff room q idx)) 8) else none

/-- Whether the next descriptor of a queue may start: after its predecessor has issued its last request, or with FENCE after all have
completed; while the Suite is halted or, for SCHED, frozen, it waits (R219, R223, R226). -/
def State.dwMayStart (s : State) (room q : Nat) (ws : List W64) : Bool :=
  let l := s.dwList room q
  let su := (s.suiteOf room).bind s.suite
  (match l.getLast? with | none => true | some d => decide (d.phase = 2) && !tst (ws.getD 0 0) 38)
    && (match su with | some u => u.run != 4 && !u.holding && !(s.dwSched room ws && u.frozen) | none => true) && !s.dark room

/-- A descriptor started (R220, R221): refused ones move no data; one whose ring line is uncorrectable ends ECC_UE; an injected DWT_DESC_FAILED turns
it away where no other of the Room is on its way, since it is then the next to complete (R216, R234). -/
def State.dwStart (s : State) (room q op : Nat) : State :=
  match s.dwNext room (q % 8) with
  | none => s
  | some (idx, _) =>
    let q := q % 8
    let r := s.shelfLd room (s.dwOff room q idx) 64 (dwWho q)
    let ws := wordsOf 8 r.2.1
    if r.2.2 = false then
      if s.dwMayStart room q [] then r.1.setDwList room q (r.1.dwList room q ++ [⟨idx, [], 7, 0, 0, 0, 2, [], [], none, false⟩]) else s
    else if dwOp ws ≠ op ∨ !s.dwMayStart room q ws then s
    else
      let s := r.1
      let p := rp .dwt room
      let inj := s.isArmed p 0 && (List.range 8).all fun j => (s.dwList room j).isEmpty
      let s := if inj then s.disarm p 0 else s
      let st :=
        if inj || dwBad room ws (s.dwSched room ws) then 2
        else if op = 3 && !(match dwElem ws with | some f => sparseModeOk (dwArgs ws / 64) (dwArgs ws % 8) f | none => false) then 3
        else 1
      let segs := if st = 1 then dwSegs room ws else []
      let d : DwDesc := ⟨idx, ws, st, 0, 0, 0, if st ≠ 1 then 2 else if op = 4 then 0 else 1, segs, [], none, false⟩
      let s := s.setDwList room q (s.dwList room q ++ [d])
      (s.dwReads room q idx 0 segs).dwGo room q idx

/-- A reply to a read of a descriptor: its data and STATUS, or a NACK code (R224, R284, R285). -/
def State.dwReadReply (s : State) (room q idx k : Nat) (data : Option (List Byte)) (code : Nat) : State :=
  (s.modDw room q idx fun d =>
    let d := { d with waits := d.waits - 1 }
    match data with
    | some b => { (if code = 1 then d.fail 9 0 else if code = 2 then d.fail 10 0 else d) with got := smSet [] d.got k b }
    | none =>
      if code = 3 then { d.fail 7 code with cut := match d.cut with | some c => some (min c k) | none => some k } else d.fail 8 code).dwGo room q idx

/-- The acknowledgement or refusal of a write of a descriptor (R224). -/
def State.dwWriteReply (s : State) (room q idx : Nat) (ok : Bool) (code : Nat) : State :=
  s.modDw room q idx fun d =>
    let d := { d with waits := d.waits - 1 }
    if ok then (if code = 1 then d.fail 9 0 else if code = 2 then d.fail 10 0 else d)
    else if code = 3 then { d.fail 7 code with cut := some 0 } else d.fail 8 code

/-! ### Completion -/

/-- A Hearth that waits for a descriptor goes on with its STATUS (R242). -/
def State.dwWake (s : State) (room q idx status : Nat) : State :=
  match (s.room room).hearth.block with
  | .dwWait q' i _ rd => if q' = q ∧ i = idx then s.hearthRet room rd (BitVec.ofNat 64 status) else s
  | _ => s

/-- The NOTIFY action of a completed descriptor (R219, R223). -/
def State.dwNotify (s : State) (room q : Nat) (ws : List W64) : State :=
  let w := ws.getD 7 0
  match fld w 63 62 with
  | 1 => s.latchArrive room (fld w 61 54 % 64) (65 + q) false false room
  | 2 => s.gArriveRoom (fld w 61 54) room
  | 3 => s.raise (rp .dwt room) (8 + q) false
  | _ => s

/-- DESCRIPTOR_COMPLETE: the oldest started descriptor of a queue, once its data has moved and every reply has come, compares its fold, tile
CHECK and guard (`guard` says that the two sides differ), writes STATUS and DETAIL into the ring, advances Q_HEAD and notifies.  A descriptor
with a reserved OP completes as BAD_DESC (R221 to R225, R413). -/
def execDescriptorComplete (room q : Nat) (guard : Bool) (s : State) : Host.Outcome State Fault Refusal :=
  let q := q % 8
  let s :=
    match s.dwList room q, s.dwNext room q with
    | [], some (_, ws) => if dwOp ws = 0 ∨ 7 < dwOp ws then s.dwStart room q (dwOp ws) else s
    | _, _ => s
  match s.dwList room q with
  | [] => .next s
  | d :: rest =>
    if d.phase ≠ 2 ∨ d.waits ≠ 0 ∨ s.dark room then .next s
    else
      let cv := rp .cvu room
      let moved := decide (d.status ≠ 2 ∧ d.status ≠ 3 ∧ d.status ≠ 4 ∧ d.status ≠ 5)
      let compares := moved && ((tst (d.words.getD 0 0) 35 && decide (dwFoldMode d.words ≠ 0)) || decide (dwOp d.words = 4))
      let injF := compares && s.isArmed cv 4 && decide (s.rdF cv 0x080 2 0 = q)
      let injG := moved && s.isArmed cv 5
      let injD := s.isArmed (rp .dwt room) 0
      let s := if injD then s.disarm (rp .dwt room) 0 else s
      let s := if injF then s.disarm cv 4 else s
      let s := if injG then s.disarm cv 5 else s
      let foldBad := d.whole && tst (d.words.getD 0 0) 35 && decide (dwFoldMode d.words ≠ 0) && decide (d.fold ≠ d.words.getD 6 0)
      let differ := moved && (injF || foldBad || d.chkBad)
      let gd := moved && (guard || injG)
      let d := if injD then { d with status := 2, detail := 0 } else if differ || gd then d.fail 6 0 else d
      let s := if differ then s.cvuError room 4 0x05 4 q 0 injF else s
      let s := if gd then s.cvuError room 5 0x06 4 q 0 injG else s
      let w := setFld (setFld (d.words.getD 0 0) 15 8 d.detail) 7 0 d.status
      let s := s.shelfStW room (s.dwOff room q d.idx) (dwWho q) w
      let p := rp .dwt room
      let s := s.wr p (0x108 + 32 * q) (put 11 0 ((d.idx + 1) % s.dwSize room q))
      let s := s.wr p (0x118 + 32 * q) (s.rd p (0x118 + 32 * q) + 1)
      let s := s.setDwList room q rest
      let s := if d.status ≠ 1 then (s.capture p 0x088 (put 63 56 d.status ||| put 55 53 q ||| put 52 41 d.idx)).raise p 0 injD else s
      .next ((s.dwNotify room q d.words).dwWake room q d.idx d.status)

/-! ### Commands -/

/-- DWT_Q_TAIL_WRITE: appended descriptors become outstanding, unless the ring would overfill (R218). -/
def State.dwTailWrite (s : State) (room q t : Nat) : State × Bool :=
  let p := rp .dwt room
  let n := s.dwSize room q
  let h := s.dwHead room q
  let old := s.dwTail room q
  let out := (old + n - h % n) % n
  let add := (t + n - old % n) % n
  if n ≤ t ∨ n - 1 < out + add then (s, false) else (s.wr p (0x110 + 32 * q) (put 11 0 t), true)

/-- DWT_Q_TAIL_WRITE (R218). -/
def execDwtQTailWrite (room q : Nat) (v : W64) (s : State) : Host.Outcome State Fault Refusal :=
  if s.dark room then .next s
  else
    let r := s.dwTailWrite room (q % 8) (fld v 11 0)
    if r.2 then .next r.1 else .next (s.raise (rp .dwt room) 1 false)

/-- DWT_Q_CFG_WRITE: accepted while the queue is disabled, by EN or by its size, and empty (R233). -/
def execDwtQCfgWrite (room q : Nat) (v : W64) (s : State) : Host.Outcome State Fault Refusal :=
  let q := q % 8
  if s.dark room then .next s
  else if s.dwRuns room q = true ∨ s.dwHead room q ≠ s.dwTail room q then .next (s.raise (rp .dwt room) 2 false)
  else .next (s.wr (rp .dwt room) (0x100 + 32 * q) (put 63 63 (fld v 63 63) ||| put 27 24 (fld v 27 24) ||| put 21 6 (fld v 21 6)))

/-- COPY (R220). -/
def execDwtCopy (room q : Nat) (s : State) : Host.Outcome State Fault Refusal := .next (s.dwStart room q 1)
/-- TRANSPOSE (R220). -/
def execDwtTranspose (room q : Nat) (s : State) : Host.Outcome State Fault Refusal := .next (s.dwStart room q 2)
/-- TILE_STORE (R160, R220). -/
def execTileStore (room q : Nat) (s : State) : Host.Outcome State Fault Refusal := .next (s.dwStart room q 3)
/-- TILE_LOAD (R157, R220). -/
def execTileLoad (room q : Nat) (s : State) : Host.Outcome State Fault Refusal := .next (s.dwStart room q 4)
/-- TILE_WRAP (R220). -/
def execTileWrap (room q : Nat) (s : State) : Host.Outcome State Fault Refusal := .next (s.dwStart room q 5)
/-- FILL (R220). -/
def execDwtFill (room q : Nat) (s : State) : Host.Outcome State Fault Refusal := .next (s.dwStart room q 6)
/-- CHECK (R220). -/
def execDwtCheck (room q : Nat) (s : State) : Host.Outcome State Fault Refusal := .next (s.dwStart room q 7)

end Sys2Proof.Machine
end

