-- ==== Sys2Proof/Machine/Stockpot.lean ====
section
/-!
DEFINITION. Stockpots: contributions, completion and delivery (R257 to R262, R270, R271).
-/

namespace Sys2Proof.Machine

/-- The STP page of a Room, and the offset of register `n` of Stockpot `p` (R270). -/
def stp (room : Nat) : PageRef := rp .stp room
def stpOff (p n : Nat) : Nat := 0x800 + 64 * (p % 32) + 8 * n

/-- STATE of a Stockpot (R270). -/
def State.stpState (s : State) (room p : Nat) : Nat := s.rdF (stp room) (stpOff p 3) 47 45

/-- VLEN, EXPECT and the Shelf offset of the records (R270). -/
def State.stpVlen (s : State) (room p : Nat) : Nat := s.rdF (stp room) (stpOff p 0) 40 32
def State.stpExpect (s : State) (room p : Nat) : Nat := s.rdF (stp room) (stpOff p 0) 31 0
def State.stpBase (s : State) (room p : Nat) : Nat := s.rdF (stp room) (stpOff p 1) 21 3 * 8

/-- Record `i` of a Stockpot (R136, R257). -/
def State.stpRec (s : State) (room p i : Nat) : StockRec :=
  let a := shelfEA room (s.stpBase room p + 24 * i)
  StockRec.ofWords (s.ldWord a) (s.ldWord (a + 8)) (s.ldWord (a + 16))

/-- Record `i` of a Stockpot written, by the Stockpot port as inbound traffic. -/
def State.setStpRec (s : State) (room p i : Nat) (r : StockRec) : State := s.shelfStWs room (s.stpBase room p + 24 * i) 0x43 r.words

/-- Every record emptied at the Stockpot's anchor (R257, R260). -/
def State.stpEmpty (s : State) (room p : Nat) : State :=
  let a := BitVec.ofNat 10 (s.rdF (stp room) (stpOff p 1) 57 48)
  (List.range (s.stpVlen room p)).foldl (fun s i => s.setStpRec room p i (.empty a)) s

/-- MIN_COUNT brought up to date (R270). -/
def State.stpCount (s : State) (room p : Nat) : State :=
  s.wrF (stp room) (stpOff p 3) 31 0 ((((List.range (s.stpVlen room p)).map fun i => (s.stpRec room p i).count.toNat).min?).getD 0)

/-- STOCKPOT_ENABLE: STP_CFG written with EN set.  A Stockpot that was disabled starts collecting with empty records; a VLEN out of range keeps
it disabled (R257, R270). -/
def execStockpotEnable (room p : Nat) (v : W64) (s : State) : Host.Outcome State Fault Refusal :=
  if s.dark room then .next s
  else
    let g := stp room
    let was := s.stpState room p
    let s := s.wr g (stpOff p 0) (put 63 63 1 ||| put 62 61 (fld v 62 61) ||| put 40 32 (fld v 40 32) ||| put 31 0 (fld v 31 0))
    if fld v 40 32 = 0 ∨ 256 < fld v 40 32 then .next (s.wr g (stpOff p 3) 0)
    else if was ≠ 0 then .next s
    else .next ((s.stpEmpty room p).wr g (stpOff p 3) (put 47 45 1))

/-! ### Contributions -/

/-- The records of a list of words. -/
def recsOf : List W64 → List StockRec
  | a :: b :: c :: l => StockRec.ofWords a b c :: recsOf l
  | _ => []

/-- Whether a contribution is refused as a whole (R259). -/
def State.stpRefuses (s : State) (room p first : Nat) (recs : List StockRec) : Bool :=
  !tst (s.rd (stp room) (stpOff p 0)) 63 || s.stpState room p = 0 || s.stpState room p = 3 || decide (s.stpVlen room p < first + recs.length)
    || (recs.zip (List.range recs.length)).any fun e =>
      decide (s.stpExpect room p < (s.stpRec room p (first + e.2)).count.toNat + e.1.count.toNat)

/-- The refusal of a contribution: a NACK to its packet, or HRT_STORE_NACK for an SP.PUT of the own Room (R259, R285, R298). -/
def State.stpNack (s : State) (room p : Nat) (pkt : Option Pkt) (injected : Bool) : State :=
  let s := (s.bump (stp room) (stpOff p 7) 63 32 1).raise (stp room) 1 injected
  match pkt with
  | some q => s.inject room { q.nack 0x07 with mcount := q.mcount }
  | none => s.raise (rp .hrt room) 1 false

/-- The lowest enabled Stockpot of a Room (R271). -/
def State.lowPot (s : State) (room : Nat) : Option Nat := (List.range 32).find? fun p => s.stpState room p ≠ 0

/-- A contribution combined record by record (R137, R258, R262, R415): `bad` says that the adder's residue check of one of its records failed, which
one is open, and an injected failure is that of the first; the flag answered says whether it is acknowledged. -/
def State.stpCombine (s : State) (room p first : Nat) (recs : List StockRec) (bad : Bool) : State × Bool :=
  let g := stp room
  let injA := s.isArmed g 0 && decide (s.lowPot room = some p)
  let s := if injA then s.disarm g 0 else s
  let injR := s.isArmed (rp .cvu room) 3
  let s := if injR then s.disarm (rp .cvu room) 3 else s
  let fails := bad || injR
  let at_ := if injR then 0 else Config.freeNat s.free % max recs.length 1
  let s := if bad then { s with free := s.free + 1 } else s
  let s := (recs.zip (List.range recs.length)).foldl (fun s e =>
    if fails && decide (e.2 = at_) then s
    else
      let old := s.stpRec room p (first + e.2)
      let c := if injA then StockRec.combine old { e.1 with poison := true } else old.combine e.1
      let s := s.setStpRec room p (first + e.2) c.1
      if c.2 then (s.bump g (stpOff p 7) 31 0 1).raise g 0 injA else s) s
  let s := s.stpCount room p
  if fails then (s.cvuError room 3 0x04 2 p 0 injR, false) else (s, true)

/-- A completed Stockpot begins its delivery (R260). -/
def State.stpReady (s : State) (room p : Nat) : State :=
  let n := s.stpVlen room p
  if s.stpState room p = 1 ∧ (List.range n).all (fun i => (s.stpRec room p i).count.toNat = s.stpExpect room p) then
    (s.wrF (stp room) (stpOff p 3) 47 45 2).modRoom room fun r => { r with deliv := r.deliv ++ [⟨p, 0, false, 0, 0, 0, 0, false⟩] }
  else s

/-- A contribution that reaches its Stockpot while it does not deliver (R258, R259). -/
def State.stpTake (s : State) (room p first : Nat) (recs : List StockRec) (pkt : Option Pkt) (bad : Bool) : State :=
  let inj := s.isArmed (stp room) 1
  if inj || s.stpRefuses room p first recs then
    (if inj then s.disarm (stp room) 1 else s).stpNack room p pkt inj
  else
    let r := s.stpCombine room p first recs bad
    let s := match pkt with | some q => if r.2 then r.1.inject room (q.ack 0) else r.1 | none => r.1
    s.stpReady room p

/-! ### Delivery -/

/-- The bytes of a sum: its records, or FP32 values under DFMT, filled up to a multiple of 8 bytes for a Shelf write (R138, R260). -/
def State.stpSum (s : State) (room p : Nat) (asRecs pad : Bool) : List Byte :=
  let n := s.stpVlen room p
  if asRecs || !tst (s.rd (stp room) (stpOff p 0)) 61 then
    (List.range n).flatMap fun i => (s.stpRec room p i).words.flatMap fun w => leTo 8 w.toNat
  else
    ((List.range n).flatMap fun i => leTo 4 (encodeFloat ffFp32 rne (s.stpRec room p i).value)) ++ (if pad && n % 2 = 1 then leTo 4 0 else [])

/-- A change of the delivery of a Stockpot. -/
def State.modDeliv (s : State) (room p : Nat) (f : Delivery → Delivery) : State :=
  s.modRoom room fun r => { r with deliv := r.deliv.map fun d => if d.pot = p then f d else d }

/-- The delivery of a Stockpot. -/
def State.delivOf (s : State) (room p : Nat) : Option Delivery := (s.room room).deliv.find? fun d => d.pot = p

/-- A target finished; the next one has not begun. -/
def State.stpNextTgt (s : State) (room p : Nat) : State :=
  s.modDeliv room p fun d => { d with tgt := d.tgt + 1, begun := false, waits := 0, sync := 0, refused := false }

/-- A target skipped (R260, R261). -/
def State.stpSkip (s : State) (room p : Nat) : State := (s.raise (stp room) 2 false).stpNextTgt room p

/-- Bytes cut into packet payloads. -/
def chunks (k : Nat) : Nat → List Byte → List (List Byte)
  | 0, _ => []
  | fuel + 1, l => if l.isEmpty then [] else l.take k :: chunks k fuel (l.drop k)

/-- A SYNC_REQ of the Stockpot port to the ring of its KIND 1 target (R261). -/
def State.stpSyncReq (s : State) (room p troom ring : Nat) : State :=
  s.request room (mkMsg (eidRoom room 3) troom (s.suiteId room) 0 0 0 63 ring true []) (.stpSync room p)

/-- The target list entry a delivery is at. -/
def State.stpEntry (s : State) (room p tgt : Nat) : W64 × W64 :=
  let a := shelfEA room (s.rdF (stp room) (stpOff p 2) 21 4 * 16 + 16 * tgt)
  (s.ldWord a, s.ldWord (a + 8))

/-- A target of a delivery begun (R260, R261). -/
def State.stpBegin (s : State) (room p : Nat) (d : Delivery) : State :=
  let e := s.stpEntry room p d.tgt
  let troom := fld e.1 61 48
  let ix := fld e.1 45 40
  match fld e.1 63 62 with
  | 0 =>
    let a := fld e.2 47 0
    let data := s.stpSum room p false true
    (match s.decodeEa a with
     | .shelf r off =>
       if r = room then (s.shelfSt room off 0x43 data).1.stpNextTgt room p
       else
         let cs := chunks 992 (data.length + 1) data
         let s := (cs.zip (List.range cs.length)).foldl (fun s c =>
           s.request room (mkWrite (eidRoom r 1) (eidRoom room 3) (s.suiteId room) (a + 992 * c.2) c.1) (.stpDeliver room p)) s
         s.modDeliv room p fun d => { d with begun := true, waits := cs.length }
     | _ => s.stpSkip room p)
  | 1 =>
    if 992 < (s.stpSum room p false false).length then s.stpSkip room p
    else if (s.room room).deliv.any fun x => x.pot != p && x.sync != 0 then s
    else (s.stpSyncReq room p troom ix).modDeliv room p fun d =>
      { d with begun := true, waits := 1, sync := 1, first := s.et, next := s.et + usToEt 2 }
  | 2 =>
    let data := s.stpSum room p true false
    let cs := chunks (41 * 24) (data.length + 1) data
    let s := (cs.zip (List.range cs.length)).foldl (fun s c =>
      s.request room { Pkt.mk0 6 (eidRoom troom 3) (eidRoom room 3) (s.suiteId room) with
        len := c.1.length, data := c.1, w2 := put 20 16 ix ||| put 15 8 (41 * c.2) ||| put 5 0 (c.1.length / 24) } (.stpDeliver room p)) s
    s.modDeliv room p fun d => { d with begun := true, waits := cs.length }
  | _ => s.stpSkip room p

/-- A delivery whose every target is done: STP_DELIVERED, and the next generation or DELIVERED; a Stockpot that has been disabled stays so
(R259, R260). -/
def State.stpFinish (s : State) (room p : Nat) : State :=
  let g := stp room
  let s := s.modRoom room fun r => { r with deliv := r.deliv.filter fun d => d.pot ≠ p }
  let s := s.raise g 3 false
  if !tst (s.rd g (stpOff p 0)) 63 then s
  else if tst (s.rd g (stpOff p 0)) 62 then
    let s := s.stpEmpty room p
    let w := s.rd g (stpOff p 3)
    s.wr g (stpOff p 3) (put 63 48 (fld w 63 48 + 1) ||| put 47 45 1)
  else s.wrF g (stpOff p 3) 47 45 3

/-- One move of the deliveries of a Room: a target begun or a delivery finished, or the first held contribution taken (R259, R260). -/
def State.stpMove (s : State) (room : Nat) : Option State :=
  match (s.room room).deliv.find? fun d => !d.begun && !(fld (s.stpEntry room d.pot d.tgt).1 63 62 = 1
      && (s.room room).deliv.any fun x => x.pot != d.pot && x.sync != 0) with
  | some d =>
    if s.rdF (stp room) (stpOff d.pot 2) 26 24 < d.tgt then some (s.stpFinish room d.pot) else some (s.stpBegin room d.pot d)
  | none =>
    match (s.room room).held with
    | h :: l =>
      if s.stpState room h.pot = 2 then none
      else some ((s.modRoom room fun r => { r with held := l }).stpTake room h.pot h.first (recsOf h.recs) h.pkt h.bad)
    | [] => none

/-- The Stockpot port of a Room run until it waits. -/
def State.stpRun (s : State) (room : Nat) : Nat → State
  | 0 => s
  | fuel + 1 =>
    match s.stpMove room with
    | some s' => s'.stpRun room fuel
    | none => s

/-- Moves enough for every held contribution to start and finish a delivery of eight targets. -/
def State.stpFuel (s : State) (room : Nat) : Nat := 16 * ((s.room room).held.length + (s.room room).deliv.length + 2)

/-- A contribution that reaches a Room's Stockpot port: held while its Stockpot delivers, or behind an earlier held packet; otherwise taken
(R258, R259). -/
def State.stpArrive (s : State) (room p first : Nat) (recs : List W64) (pkt : Option Pkt) (bad : Bool) : State :=
  let behind := pkt.isSome && !(s.room room).held.isEmpty
  if s.stpState room p = 2 || behind then s.modRoom room fun r => { r with held := r.held ++ [⟨p, first, recs, pkt, bad⟩] }
  else
    let s := s.stpTake room p first (recsOf recs) pkt bad
    s.stpRun room (s.stpFuel room)

/-- A reply to a delivery: acknowledged or refused; a target that refuses any of its packets is skipped once all have been answered (R260, R261). -/
def State.stpReply (s : State) (room p : Nat) (ok : Bool) : State :=
  match s.delivOf room p with
  | none => s
  | some d =>
    if d.waits ≤ 1 then
      (let s := if ok && !d.refused then s.stpNextTgt room p else s.stpSkip room p
       s.stpRun room (s.stpFuel room))
    else s.modDeliv room p fun d => { d with waits := d.waits - 1, refused := d.refused || !ok }

/-- The SYNC of a KIND 1 target: the sum is sent if the free units cover it, otherwise the port asks again later; an injected CHN_BOUNCE turns the
message away (R261, R269). -/
def State.stpSynced (s : State) (room p : Nat) (a : Pkt) : State :=
  match s.delivOf room p with
  | none => s
  | some d =>
    if d.sync ≠ 1 then s
    else
      let e := s.stpEntry room p d.tgt
      let data := s.stpSum room p false false
      let pl := placeRec (ringUnits (fld a.w2 27 25)) (fld a.w2 47 32) (recUnits data.length)
      if recUnits data.length + pl.2.1 ≤ fld a.w2 63 48 then
        let m := mkMsg (eidRoom room 3) (fld e.1 61 48) (s.suiteId room) 0 (fld e.1 31 16) (fld a.w2 31 28) 63 (fld e.1 45 40) false data
        if s.isArmed (chn room) 0 then
          let s := ((s.disarm (chn room) 0).bounce room 1 (fld e.1 61 48) m.w2 data true).stpSkip room p
          s.stpRun room (s.stpFuel room)
        else (s.request room m (.stpDeliver room p)).modDeliv room p fun d => { d with waits := 1, sync := 3 }
      else s.modDeliv room p fun d => { d with waits := 0, sync := 2 }

/-- STP_SYNC_RETRY: 2 µs after the last SYNC_REQ the port asks the target's ring again (R261). -/
def execStpSyncRetry (room p : Nat) (s : State) : Host.Outcome State Fault Refusal :=
  match s.delivOf room p with
  | none => .next s
  | some d =>
    if d.sync ≠ 2 ∨ s.et < d.next then .next s
    else
      let e := s.stpEntry room p d.tgt
      .next ((s.stpSyncReq room p (fld e.1 61 48) (fld e.1 45 40)).modDeliv room p fun d =>
        { d with waits := 1, sync := 1, next := s.et + usToEt 2 })

/-- STP_TARGET_TIMEOUT: a target without enough space 1 ms after its first SYNC_REQ is skipped (R261). -/
def execStpTargetTimeout (room p : Nat) (s : State) : Host.Outcome State Fault Refusal :=
  match s.delivOf room p with
  | none => .next s
  | some d =>
    if d.sync ≠ 2 ∨ s.et < d.first + usToEt 1000 then .next s
    else .next (let s := s.stpSkip room p; s.stpRun room (s.stpFuel room))

/-! ### SP.PUT -/

/-- SP.PUT: its send status, the records combined in the own Room or sent as REDUCE packets of at most 41 records (R242, R258). -/
def State.spPut (s : State) (room : Nat) (rs1 rs2 : W64) (bad : Bool) : State × Nat :=
  let n := fld rs1 16 8
  let first := fld rs1 31 24
  let pot := fld rs1 4 0
  let off := rs2.toNat
  if off % 8 ≠ 0 ∨ n = 0 ∨ 256 < n ∨ 0x300000 < off + 24 * n then (s, 4)
  else
    let r := s.shelfLdWs room off 0x40 (3 * n)
    let s := r.1
    let dst := fld rs1 45 32
    if tst rs1 46 ∨ dst = room then (s.stpArrive room pot first r.2 none bad, 0)
    else
      let parts := List.range (ceilDiv n 41)
      (parts.foldl (fun s k =>
        let ws := (r.2.drop (123 * k)).take 123
        let m := ws.length / 3
        if 256 ≤ first + 41 * k then s.raise (rp .hrt room) 1 false
        else
          s.request room { Pkt.mk0 6 (eidRoom dst 3) (eidRoom room 4) (s.suiteId room) with
            len := 24 * m, data := ws.flatMap fun w => leTo 8 w.toNat
            w2 := put 20 16 pot ||| put 15 8 (first + 41 * k) ||| put 5 0 m } (.hearthStore room)) s, 0)

end Sys2Proof.Machine
end

