-- ==== Sys2Proof/Machine/Reset.lean ====
section
/-!
DEFINITION. Brick and Room resets (R578 to R583), and the loss of a Room domain's state at power-off.
-/

namespace Sys2Proof.Machine

/-- The RST page of a Room. -/
def rst (room : Nat) : PageRef := rp .rst room

/-- The word RST_WHERE captures (R590): scope 1 Brick, 2 Room, 3 Suite. -/
def rstWhere (cause scope b : Nat) : W64 := put 63 56 cause ||| put 55 54 scope ||| put 53 48 b

/-- An event of a Room's RST page with its capture (R590, R591). -/
def State.rstEvent (s : State) (room bit cause scope b : Nat) (injected : Bool) : State :=
  (s.capture (rst room) 0x098 (rstWhere cause scope b)).raise (rst room) bit injected

/-- RST_STATUS.STATE: 0 out of reset, 1 draining, 2 in reset (R590). -/
def State.rstState (s : State) (room : Nat) : Nat := s.rdF (rst room) 0x088 63 61

/-- Tokens in the queues of a Brick (R580). -/
def Brick.queued (b : Brick) : Nat := (b.iq.foldl (fun n e => n + e.2.length) 0) + (b.oq.foldl (fun n e => n + e.2.length) 0)

/-- The Latch waits of a Brick forgotten. -/
def State.dropBrickWaits (s : State) (room b : Nat) : State :=
  (List.range 64).foldl (fun s n =>
    let l := s.latch room n
    if l.waits.any (fun w => w.who = .brick b) then s.setLatch room n { l with waits := l.waits.filter fun w => w.who ≠ .brick b } else s) s

/-- One Brick cleared: its tokens are counted as lost, and results of issued instructions and Shelf requests are dropped (R580). -/
def State.clearBrick (s : State) (room b : Nat) : State :=
  let x := s.brick room b
  let s := s.bump (rst room) 0x090 31 16 x.queued
  let s := (s.setBrick room b x.reset).dropBrickWaits room b
  s.modRoom room fun r => { r with reqs := r.reqs.filter fun q => q.who ≠ b }

/-- GO_BRICK: a Brick reset, refused while the Room's domain is off and absorbed by a Room reset in progress; in a running stepped Suite it
halts the Suite (R578, R580, R587). -/
def execGoBrick (room b : Nat) (s : State) : Host.Outcome State Fault Refusal :=
  let b := b % 64
  if !s.roomOn room then .next (s.rstEvent room 3 0x04 1 b false)
  else if s.rstState room ≠ 0 then .next s
  else
    let s := s.clearBrick room b
    let s := (s.wrF (rst room) 0x088 60 59 1).bump (rst room) 0x090 47 32 1
    let s := s.rstEvent room 0 0x01 1 b false
    match (s.suiteOf room).bind s.suite with
    | some u =>
      if u.mode = 0 ∧ u.run = 2 then
        let w := rstWhere 0x03 1 b
        .next ((s.capture (rst room) 0x098 w).hitHalt .rst room 2 0x03 false (setBit w 31))
      else .next s
    | none => .next s

/-- The registers of a Room-domain page that a Room reset keeps: page, offset and the bits kept (R582).  The Damper cell and the read-only
lane latencies stay as they are (R581). -/
def keptRegs : List (Page × Nat × W64) :=
  [(.brk, 0x080, maskOf 63 0), (.arr, 0x0A8, maskOf 63 0),
   (.shf, 0x080, maskOf 63 0), (.shf, 0x088, maskOf 63 0),
   (.hrt, 0x088, maskOf 63 0), (.hrt, 0x0A8, maskOf 63 0), (.hrt, 0x0B0, maskOf 63 0), (.hrt, 0x0B8, maskOf 63 0),
   (.chn, 0x088, maskOf 63 0),
   (.dmp, 0x080, maskOf 63 0), (.dmp, 0x088, maskOf 63 0), (.dmp, 0x090, maskOf 63 0), (.dmp, 0x0A0, maskOf 63 0)]
  ++ (List.range 16).flatMap (fun w => [(Page.shf, 0x100 + 16 * w, maskOf 63 0), (Page.shf, 0x108 + 16 * w, maskOf 63 0 &&& ~~~ maskOf 15 15)])
  ++ (List.range 64).flatMap (fun c =>
      [(Page.chn, txA c, maskOf 45 32 ||| maskOf 5 0), (Page.chn, rxA c, maskOf 61 58 ||| maskOf 54 52 ||| maskOf 51 46 ||| maskOf 45 32 ||| maskOf 21 6),
       (Page.lch, 0x400 + 16 * c, maskOf 55 0)])
  ++ (List.range 32).flatMap (fun p =>
      [(Page.stp, stpOff p 0, maskOf 40 0), (Page.stp, stpOff p 1, maskOf 57 48), (Page.stp, stpOff p 2, maskOf 63 0)])

/-- Whether a register key belongs to a Room-domain page of a Room. -/
def roomDomainKey (room k : Nat) : Bool := decide (k / 2 ^ 32 ≤ 10) && decide (k % 2 ^ 32 / 2 ^ 12 = room)

/-- The Room-domain registers of a Room at their reset values, the bits listed in `kept` as they were. -/
def State.clearRegs (s : State) (room : Nat) (kept : List (Page × Nat × W64)) : State :=
  let s1 := { s with
    regs := smDrop (roomDomainKey room) s.regs, armed := smDrop (roomDomainKey room) s.armed, injLat := smDrop (roomDomainKey room) s.injLat }
  kept.foldl (fun t e =>
    let p := rp e.1 room
    t.wr p e.2.1 ((s.rd p e.2.1 &&& e.2.2) ||| (t.rd p e.2.1 &&& ~~~ e.2.2))) s1

/-- A flight that waits in a Room's injection port: formed, and not yet in the Hall. -/
def Flight.waits (f : Flight) (room : Nat) : Bool := decide (f.room = room) && (decide (f.port = 4) || decide (8 ≤ f.port)) && !f.moved && !f.ejected

/-- Whether a flight's packet came from a unit of a Room. -/
def Flight.from_ (f : Flight) (room : Nat) : Bool := eidIsRoom f.pkt.src && decide (eidRoomOf f.pkt.src = room)

/-- A descriptor of a Dumbwaiter queue ended by a reset: STATUS ABORTED is written into its ring, and it has failed (R181, R224, R226). -/
def State.dwAbort (s : State) (room q : Nat) : State :=
  (s.dwList room q).foldl (fun s d =>
    let a := shelfEA room (s.dwOff room q d.idx)
    let p := rp .dwt room
    ((s.stWord a (setFld (setFld (s.ldWord a) 15 8 0) 7 0 0x0B)).capture p 0x088 (put 63 56 0x0B ||| put 55 53 q ||| put 52 41 d.idx)).raise p 0 false) s

/-- Waits held at a Room's Latches by others end LOST; local waits end with the reset (R326, R582). -/
def State.loseRemote (s : State) (room : Nat) : State :=
  (List.range 64).foldl (fun s n =>
    let l := s.latch room n
    let rem := l.waits.filter fun w => match w.who with | .remote _ _ _ => true | _ => false
    (s.setLatch room n { l with waits := rem }).loseWaits room n) s

/-- What a Room's Hearth waits for outside its Room given up: its waits at global Latches, and its CS.EXEC, which is dropped where it is not yet
issued and returns to no register where it has begun (R240, R326). -/
def State.hearthUnwait (s : State) (room : Nat) : State :=
  let s := { s with glatch := s.glatch.foldl (fun (m : SMap Latch) (e : Nat × Latch) =>
    smSet Latch.clear m e.1 { e.2 with waits := e.2.waits.filter fun w => match w.who with | Waiter.hearth r _ => decide (r ≠ room) | _ => true }) s.glatch }
  if s.isLead room then s.modSuite (s.suiteId room) fun u => { u with
    entries := (u.entries.filter fun e => e.hearth.isNone || e.prog != 0).map fun e => { e with hearth := e.hearth.map fun _ => 32 } } else s

/-- Steps 2 and 3 of a Room reset: the Room's units stop, descriptors abort, SCH packets that wait for a slot are discarded, and the
endpoints stop taking replies (R581). -/
def State.stopUnits (s : State) (room : Nat) : State :=
  let s := (s.loseRemote room).hearthUnwait room
  let s := (List.range 8).foldl (fun s q => s.dwAbort room q) s
  let s := s.modRoom room fun r => { r with hearth := .halted, dw := [], deliv := [], held := [], reqs := [], wbacks := [] }
  { s with pkts := s.pkts.filter fun f => !(f.waits room && decide (8 ≤ f.port)), outst := s.outst.filter fun o => !(eidIsRoom o.src && decide (eidRoomOf o.src = room)) }

/-- A load of the Suite given up in a Room that is reset: the others go on, and the load ends with the last of them (R185). -/
def State.loadLeft (s : State) (room i : Nat) : State :=
  s.modSuite i fun u =>
    match u.load with
    | none => u
    | some l =>
      if l.phase = 3 ∧ u.rooms.all (fun r => decide (r = room) || (s.room r).loader.isNone) then
        { u with load := none, run := if l.slot = 15 then 1 else u.run }
      else { u with load := some { l with out := l.out ++ [room] } }

/-- What a Room reset leaves of the Room (R582). -/
def State.clearRoom (s : State) (room : Nat) : State :=
  let en := tst (s.rd (rp .hrt room) 0x0A0) 63
  let s := (List.range 64).foldl (fun s b => if s.brick room b = .empty then s else s.clearBrick room b) s
  let s := s.clearRegs room keptRegs
  let s := (List.range 64).foldl (fun s r => s.wrF (rp .chn room) (rxA r) 63 62 2) s
  let s := (List.range 8).foldl (fun s q => s.wr (rp .cvu room) (0x200 + 8 * q) 0) s
  let s := (List.range 4).foldl (fun s k => (s.wr (rp .flu room) (0x0C0 + 8 * k) 0).wr (rp .flu room) (0x0E0 + 8 * k) 0) s
  let s := s.modRoom room fun r =>
    { r with hasArr := false, loader := none, sched := [], schedPer := 0, slots := [], slotPer := 0, prof := [], profPer := 0, slotCrc := [], checks := []
             checkIdx := 0, reqs := [], rr := [], wbacks := [], latches := [], hearth := .halted, dw := [], deliv := []
             held := [] }
  match s.suiteOf room with
  | some i =>
    (match s.suite i with
     | some u =>
       let s := s.loadLeft room i
       if u.lead = room then (if en ∨ u.entries ≠ [] then s.csStopNow i 0x07 else s).modSuite i fun u => { u with fetched := s.rdF (rp .hrt room) 0x0B0 15 0 } else s
     | none => s)
  | none => s

/-- ET periods of `n` cycles of a Room: 6.25 n / RATE, rounded up, since RATE counts 25 MHz (R200, R308). -/
def State.cyclesEt (s : State) (room n : Nat) : Nat :=
  let r := match (s.suiteOf room).bind s.suite with | some u => u.rate | none => 48
  ceilDiv (25 * n) (4 * max r 1)

/-- Step 5 of a Room reset: once the injection buffer is empty, reset is held and the state of R582 is set (R581). -/
def State.resetHold (s : State) (room : Nat) : State :=
  if s.rstState room ≠ 1 ∨ (s.room room).rstHalt ∨ s.pkts.any (fun f => f.waits room) then s
  else
    let s := s.wrF (rst room) 0x088 63 61 2
    (s.clearRoom room).modRoom room fun r => { r with resetAt := some (s.et + s.cyclesEt room 64) }

/-- Step 4 with the buffer given up: the packets still in it are discarded and counted (R581). -/
def State.drainGiveUp (s : State) (room : Nat) (injected : Bool) : State :=
  let n := (s.pkts.filter fun f => f.waits room).length
  let s := { s with pkts := s.pkts.filter fun f => !f.waits room }
  let s := s.bump (rst room) 0x090 15 0 n
  (s.rstEvent room 1 0x02 2 0 injected).resetHold room

/-- A Room reset abandons a Sweep-out of a Suite that does not run (R467, R587). -/
def State.sweepDropped (s : State) (room : Nat) : State :=
  match s.suiteOf room with
  | some i => (match s.suite i with | some u => if u.sweep.st ≤ 3 then (s.ckptEntryDone i).sweepHalted i else s | none => s)
  | none => s

/-- Steps 2 to 4 of a Room reset (R581, R591). -/
def State.resetBegin (s : State) (room : Nat) : State :=
  let us := max 1 (s.rdF (gp .rstg) 0x080 15 0)
  let s := ((s.sweepDropped room).dbgAbort room).modRoom room fun r => { r with rstHalt := false, drain := s.et + usToEt us }
  let s := s.stopUnits room
  if s.isArmed (rst room) 1 then (s.disarm (rst room) 1).drainGiveUp room true else s.resetHold room

/-- A Suite reset ends once every Room has released (R584). -/
def State.suiteReleased (s : State) (i : Nat) : State :=
  let s := s.modSuite i fun u => { u with inReset := false }
  let s := s.wr (gp .rstg) 0x098 (clrBit (s.rd (gp .rstg) 0x098) i)
  (s.capture (gp .rstg) 0x0A8 (put 63 56 0x10 ||| put 55 50 i)).raise (gp .rstg) 0 false

/-- A Room domain on and out of reset again: the Corridor's count of tokens discarded at dark local ports is added to BRK_DROP.DARK and cleared,
and DARK_DISCARD is raised once if it was nonzero (R21, R54, R79). -/
def State.darkOut (s : State) (room : Nat) : State :=
  let n := (s.room room).darkCnt
  if n = 0 ∨ s.dark room then s
  else ((s.bump (rp .brk room) 0x0A8 63 32 n).raise (rp .brk room) 6 false).modRoom room fun r => { r with darkCnt := 0 }

/-- The end of a Room reset: it is counted, RST_DONE is raised, and the last Room of a Suite reset ends that (R581, R584, R591). -/
def State.resetDone (s : State) (room : Nat) : State :=
  let scope := s.rdF (rst room) 0x088 60 59
  let s := (s.wrF (rst room) 0x088 63 61 0).modRoom room fun r => { r with resetAt := none }
  let s := ((s.bump (rst room) 0x090 63 48 1).rstEvent room 0 0x01 scope 0 false).darkOut room
  match s.suiteOf room with
  | none => s
  | some i =>
    match s.suite i with
    | some u => if u.inReset ∧ u.rooms.all (fun r => s.rstState r = 0) then s.suiteReleased i else s
    | none => s

/-- A Room reset requested: with the Room domain off it completes at once; one already in progress takes the request in; a Room of a
running Suite first halts the Suite (R578, R581, R587).  `scope` is 2 for a Room reset and 3 for one of a Suite reset, in which a Room in a Wing whose clock
is stopped is reset at once (R584). -/
def State.roomReset (s : State) (room scope : Nat) : State :=
  if s.rstState room ≠ 0 then s
  else
    let s := s.wrF (rst room) 0x088 60 59 scope
    if !s.roomOn room then (s.bump (rst room) 0x090 63 48 1).rstEvent room 0 0x01 scope 0 false
    else
      let s := s.wrF (rst room) 0x088 63 61 1
      if scope = 3 ∧ smGet 0 s.rim.clkStop (s.wingOf room) ≠ 0 then ((s.stopUnits room).clearRoom room).resetDone room
      else
      let go := match (s.suiteOf room).bind s.suite with | some u => decide (u.run = 2) && decide (scope = 2) | none => false
      if go then
        let w := rstWhere 0x05 2 0
        let s := (s.capture (rst room) 0x098 w).hitHalt .rst room 4 0x05 false (setBit w 31)
        s.modRoom room fun r => { r with rstHalt := true }
      else s.resetBegin room

/-- GO_ROOM (R581); a Room in a reset of its Suite takes the request in (R587). -/
def execGoRoom (room : Nat) (s : State) : Host.Outcome State Fault Refusal := .next (s.roomReset room 2)

/-- A Room whose reset waited for its Suite to halt goes on at H + 1 (R581). -/
def State.resetAfterHalt (s : State) (room : Nat) : State :=
  if (s.room room).rstHalt then
    match (s.suiteOf room).bind s.suite with
    | some u => if u.run = 2 then s else s.resetBegin room
    | none => s.resetBegin room
  else s

/-- RST_DRAIN_TIMEOUT: packets still in the injection buffer after DRAIN_US are discarded (R581). -/
def execRstDrainTimeout (room : Nat) (s : State) : Host.Outcome State Fault Refusal :=
  if s.rstState room ≠ 1 ∨ (s.room room).rstHalt ∨ s.et < (s.room room).drain then .next s else .next (s.drainGiveUp room false)

/-- ROOM_RESET_RELEASE: after 64 cycles of reset the Room's endpoints deliver again (R581). -/
def execRoomResetRelease (room : Nat) (s : State) : Host.Outcome State Fault Refusal :=
  match (s.room room).resetAt with
  | none => .next s
  | some t => if s.rstState room ≠ 2 ∨ s.et < t then .next s else .next (s.resetDone room)

/-- A Room domain that loses power: registers, Latches, Bricks, Hearth and Shelf contents are lost, and waits held for others end LOST
(R19, R45, R326, R604).  A Room reset in progress completes with no further effect (R587). -/
def State.powerLost (s : State) (room : Nat) : State :=
  let inRst := s.rstState room ≠ 0
  let s := s.stopUnits room
  let s := (List.range 64).foldl (fun s b => if s.brick room b = .empty then s else s.setBrick room b (s.brick room b).powerOff) s
  let s := s.clearRegs room [(.dmp, 0x088, maskOf 63 0), (.dmp, 0x090, maskOf 63 0), (.brk, 0x080, maskOf 63 0), (.shf, 0x080, maskOf 15 8)]
  let s := (List.range 8).foldl (fun s q => s.wr (rp .cvu room) (0x200 + 8 * q) 0) s
  let s := (List.range 4).foldl (fun s k => (s.wr (rp .flu room) (0x0C0 + 8 * k) 0).wr (rp .flu room) (0x0E0 + 8 * k) 0) s
  let base := shelfEA room 0
  let s := { s with mem := smDrop (fun a => decide (base ≤ a ∧ a < base + 0x400000)) s.mem }
  let s := s.modRoom room fun r => { RoomSt.empty with prof := r.prof, ballast := r.ballast, darkCnt := r.darkCnt }
  if inRst then s.resetDone room else s

end Sys2Proof.Machine
end

