-- ==== Sys2Proof/Machine/Frames.lean ====
section
/-!
DEFINITION. Ethernet, IP and UDP framing (R373 to R376).  The header layouts are those of IEEE 802.3, 802.1Q, RFC 791, RFC 8200, RFC 768, RFC
826, RFC 792, RFC 4443 and RFC 4861, which the spec names (PRESUMED).  A frame is held without its FCS.
-/

namespace Sys2Proof.Machine

/-- `n` bytes of a number, most significant first. -/
def beTo (n v : Nat) : List Byte := (leTo n v).reverse

/-- The number of a list of bytes, most significant first. -/
def beOf (bs : List Byte) : Nat := leOf bs.reverse

/-- A field of a byte list: `n` bytes from offset `o`, most significant first. -/
def beAt (bs : List Byte) (o n : Nat) : Nat := beOf ((bs.drop o).take n)

/-- The sum of 16-bit words of a byte list, an odd last byte padded with zero. -/
def sum16 : List Byte → Nat
  | [] => 0
  | [a] => 256 * a.toNat
  | a :: b :: l => 256 * a.toNat + b.toNat + sum16 l

/-- A sum folded to 16 bits with end-around carry. -/
def fold16 (n : Nat) : Nat :=
  let a := n % 65536 + n / 65536
  let b := a % 65536 + a / 65536
  b % 65536 + b / 65536

/-- The Internet checksum of a byte list. -/
def inetSum (bs : List Byte) : Nat := 65535 - fold16 (sum16 bs)

/-- An IP address: family 4 or 6, and its value. -/
structure IpAddr where
  v6   : Bool
  addr : Nat
  deriving DecidableEq, Repr

/-- The bytes of an address. -/
def IpAddr.bytes (a : IpAddr) : List Byte := if a.v6 then beTo 16 a.addr else beTo 4 a.addr

/-- Whether the ports use IPv6 (R374, R404). -/
def State.afV6 (s : State) : Bool := !tst (s.rd (gp .yzlg) 0x080) 32

/-- The engine's own ID (R404). -/
def State.engineId (s : State) : Nat := s.rdF (gp .yzlg) 0x080 15 0

/-- The address of port `p` of engine `e` (R376). -/
def State.portIp (s : State) (e p : Nat) : IpAddr :=
  if s.afV6 then
    ⟨true, (s.rd (gp .yzlg) 0x088).toNat * 2 ^ 64 + s.rdF (gp .yzlg) 0x090 31 0 * 2 ^ 32 + (e % 65536) * 2 ^ 16 + (p % 256) * 2 ^ 8⟩
  else ⟨false, s.rdF (gp .yzlg) 0x090 39 32 * 2 ^ 24 + (e % 65536) * 2 ^ 8 + p % 256⟩

/-- The pseudo-header of a UDP or ICMPv6 checksum. -/
def pseudoHdr (src dst : IpAddr) (proto len : Nat) : List Byte :=
  if src.v6 then src.bytes ++ dst.bytes ++ beTo 4 len ++ beTo 4 proto else src.bytes ++ dst.bytes ++ [0] ++ beTo 1 proto ++ beTo 2 len

/-- A UDP datagram with its checksum (R374). -/
def udpBytes (src dst : IpAddr) (sport dport : Nat) (payload : List Byte) : List Byte :=
  let len := 8 + payload.length
  let h := beTo 2 sport ++ beTo 2 dport ++ beTo 2 len
  let c := inetSum (pseudoHdr src dst 17 len ++ h ++ [0, 0] ++ payload)
  h ++ beTo 2 (if c = 0 then 65535 else c) ++ payload

/-- An IP packet: hop limit or TTL 64, ECT(0), no extension header; IPv4 with IHL 5 and DF (R374). -/
def ipBytes (src dst : IpAddr) (dscp proto : Nat) (body : List Byte) : List Byte :=
  let tc := 4 * (dscp % 64) + 2
  if src.v6 then beTo 4 (6 * 2 ^ 28 + tc * 2 ^ 20) ++ beTo 2 body.length ++ beTo 1 proto ++ beTo 1 64 ++ src.bytes ++ dst.bytes ++ body
  else
    let h (c : Nat) : List Byte :=
      beTo 1 0x45 ++ beTo 1 tc ++ beTo 2 (20 + body.length) ++ beTo 2 0 ++ beTo 2 0x4000 ++ beTo 1 64 ++ beTo 1 proto ++ beTo 2 c ++ src.bytes ++ dst.bytes
    h (inetSum (h 0)) ++ body

/-- An Ethernet frame; with `tag`, its 802.1Q PCP and VID (R373). -/
def ethBytes (dst src : Nat) (tag : Option (Nat × Nat)) (etype : Nat) (body : List Byte) : List Byte :=
  let t := match tag with | some (pcp, vid) => beTo 2 0x8100 ++ beTo 2 ((pcp % 8) * 8192 + vid % 4096) | none => []
  let f := beTo 6 dst ++ beTo 6 src ++ t ++ beTo 2 etype ++ body
  f ++ List.replicate (60 - f.length) 0

/-- A received IP packet: its addresses, ECN, protocol and body. -/
structure IpIn where
  src   : IpAddr
  dst   : IpAddr
  ecn   : Nat
  proto : Nat
  body  : List Byte
  deriving DecidableEq, Repr

/-- An IPv4 packet read: no options, no fragment, a good header sum (R374). -/
def ip4Read (b : List Byte) : Option IpIn :=
  let len := beAt b 2 2
  if beAt b 0 1 = 0x45 ∧ 20 ≤ len ∧ len ≤ b.length ∧ beAt b 6 2 % 0x4000 = 0 ∧ inetSum (b.take 20) = 0 then
    some ⟨⟨false, beAt b 12 4⟩, ⟨false, beAt b 16 4⟩, beAt b 1 1 % 4, beAt b 9 1, (b.take len).drop 20⟩
  else none

/-- An IPv6 packet read; a next header that is none of UDP and ICMPv6 is an extension header or a protocol not served (R374). -/
def ip6Read (b : List Byte) : Option IpIn :=
  let len := beAt b 4 2
  let nh := beAt b 6 1
  if beAt b 0 1 / 16 = 6 ∧ 40 + len ≤ b.length ∧ (nh = 17 ∨ nh = 58) then
    some ⟨⟨true, beAt b 8 16⟩, ⟨true, beAt b 24 16⟩, beAt b 1 1 / 16 % 4, nh, (b.take (40 + len)).drop 40⟩
  else none

/-- A UDP datagram read: ports and payload, its checksum verified; a zero IPv4 checksum is accepted (R374). -/
def udpRead (p : IpIn) : Option (Nat × Nat × List Byte) :=
  let b := p.body
  let len := beAt b 4 2
  let sum := beAt b 6 2
  if p.proto = 17 ∧ 8 ≤ len ∧ len ≤ b.length then
    if (sum = 0 ∧ !p.src.v6) ∨ (sum ≠ 0 ∧ inetSum (pseudoHdr p.src p.dst 17 len ++ b.take len) = 0) then
      some (beAt b 0 2, beAt b 2 2, (b.take len).drop 8)
    else none
  else none

/-- The solicited-node multicast address of an IPv6 address. -/
def solicited (a : IpAddr) : IpAddr := ⟨true, 0xFF0200000000000000000001FF000000 + a.addr % 2 ^ 24⟩

/-- The answer to an ICMP echo request (R374). -/
def echo4 (p : IpIn) : Option (List Byte) :=
  if p.proto = 1 ∧ 8 ≤ p.body.length ∧ beAt p.body 0 1 = 8 ∧ inetSum p.body = 0 then
    let r (c : Nat) : List Byte := [0] ++ [beTo 1 (beAt p.body 1 1)].flatten ++ beTo 2 c ++ p.body.drop 4
    some (r (inetSum (r 0)))
  else none

/-- An ICMPv6 message with its checksum. -/
def icmp6 (src dst : IpAddr) (typ code : Nat) (rest : List Byte) : List Byte :=
  let r (c : Nat) : List Byte := beTo 1 typ ++ beTo 1 code ++ beTo 2 c ++ rest
  r (inetSum (pseudoHdr src dst 58 (4 + rest.length) ++ r 0))

end Sys2Proof.Machine
end

