-- ==== Sys2Proof/Machine/Eaves.lean ====
section
/-!
DEFINITION. Optical engines, ports and MACs: modes, training, links, PFC and frames that are not Yazal's or RoCEv2's (R368 to R377, R401 to R403).
-/

namespace Sys2Proof.Machine

/-- The EAV page of port `p`, and the port's half h (R368, R401). -/
def eav (p : Nat) : PageRef := ⟨.eav, p / 2⟩
def portHalf (p : Nat) : Nat := p % 2

/-- MODE of a port's optical engine (R369). -/
def State.eavMode (s : State) (p : Nat) : Nat := s.rdF (eav p) 0x080 1 0

/-- Whether a port is enabled and its engine's mode has it (R369, R402). -/
def State.portEn (s : State) (p : Nat) : Bool :=
  tst (s.rd (eav p) 0x080) (2 + portHalf p) && (match s.eavMode p with | 0 => false | 3 => decide (portHalf p = 0) | _ => true)

/-- A field of a port's half of EAV_STATUS. -/
def State.eavSt (s : State) (p hi lo : Nat) : Nat := s.rdF (eav p) 0x088 (32 * portHalf p + hi) (32 * portHalf p + lo)
def State.setEavSt (s : State) (p hi lo v : Nat) : State := s.wrF (eav p) 0x088 (32 * portHalf p + hi) (32 * portHalf p + lo) v

/-- Whether a port's link is up. -/
def State.linkUp (s : State) (p : Nat) : Bool := decide (s.eavSt p 31 31 = 1)

/-- A number kept by port. -/
def State.trainAt (s : State) (k : Nat) : Nat := smGet 0 s.rim.trainTry k
def State.setTrainAt (s : State) (k v : Nat) : State := { s with rim := { s.rim with trainTry := smSet 0 s.rim.trainTry k v } }

/-- Whether a lane's BER estimate lies above FEC_DEGRADE (R372, R401). -/
def State.laneBad (s : State) (p k : Nat) : Bool := decide (100 * s.rdF (eav p) 0x0B0 7 0 < s.rdF (eav p) (0x100 + 8 * k) 47 16)

/-- The lanes of a port (R368). -/
def State.portLanes (s : State) (p : Nat) : List Nat :=
  if s.eavMode p = 3 then List.range 8 else (List.range 4).map (· + 4 * portHalf p)

/-- Whether every lane's BER estimate lies below FEC_DEGRADE (R371). -/
def State.lanesGood (s : State) (p : Nat) : Bool :=
  (s.portLanes p).all fun k => decide (s.rdF (eav p) (0x100 + 8 * k) 47 16 < 100 * s.rdF (eav p) 0x0B0 7 0)

/-- The time since when the BER estimate has stayed below FEC_DEGRADE in step 6 noted, 1 + its ET, or 0 (R371). -/
def State.berTurn (s : State) (p : Nat) : State :=
  if s.eavSt p 30 28 ≠ 6 ∨ !s.lanesGood p then s.setTrainAt (192 + p) 0
  else if s.trainAt (192 + p) = 0 then s.setTrainAt (192 + p) (s.et + 1) else s

/-- A training attempt begins: step 1, timed from now (R371). -/
def State.trainStart (s : State) (p : Nat) : State := (s.setEavSt p 30 28 1).setTrainAt (128 + p) s.et

/-- A port newly enabled: a native port trains, a compatible one waits for PCS and FEC lock (R371). -/
def State.portStart (s : State) (p : Nat) : State :=
  if s.portEn p ∧ s.eavMode p = 1 then (s.setTrainAt p 0).trainStart p else s

/-- A port disabled: its transmitters fall to the off power, and its half of EAV_STATUS is at rest (R372). -/
def State.portStop (s : State) (p : Nat) : State :=
  ((((s.setEavSt p 31 0 0).setTrainAt p 0).setTrainAt (64 + p) 0).setTrainAt (128 + p) 0).setTrainAt (192 + p) 0

/-- An EAV_CFG write: a mode change while a PORT_EN is set is refused whole; a port whose PORT_EN changes starts or stops (R369, R371, R372,
R402). -/
def State.eavCfgWrite (s : State) (pos : Nat) (v : W64) : State :=
  let p := ⟨.eav, pos⟩
  let old := s.rd p 0x080
  let v := v &&& (maskOf 27 7 ||| maskOf 3 0)
  if fld v 1 0 ≠ fld old 1 0 ∧ fld old 3 2 ≠ 0 then s.raise p 4 false
  else
    let s := s.wr p 0x080 v
    [0, 1].foldl (fun s h =>
      if tst v (2 + h) && !tst old (2 + h) then s.portStart (2 * pos + h)
      else if tst old (2 + h) && !tst v (2 + h) then s.portStop (2 * pos + h) else s) s

/-- EAV_MODE_SET: a write of EAV_CFG that changes MODE (R369). -/
def execEavModeSet (pos : Nat) (v : W64) (s : State) : Host.Outcome State Fault Refusal := .next (s.eavCfgWrite (pos % 32) v)

/-- PORT_ENABLE: a write of EAV_CFG that sets PORT_EN (R371). -/
def execPortEnable (pos : Nat) (v : W64) (s : State) : Host.Outcome State Fault Refusal := .next (s.eavCfgWrite (pos % 32) v)

/-- PORT_DISABLE: a write of EAV_CFG that clears PORT_EN (R372). -/
def execPortDisable (pos : Nat) (v : W64) (s : State) : Host.Outcome State Fault Refusal := .next (s.eavCfgWrite (pos % 32) v)

/-- Whether a native port is in steps 1 to 6 of a training. -/
def State.training (s : State) (p : Nat) : Bool :=
  s.portEn p && decide (s.eavMode p = 1) && !s.linkUp p && decide (1 ≤ s.eavSt p 30 28) && decide (s.eavSt p 30 28 ≤ 6)

/-- A training attempt that did not succeed: the third in a row is a failure (R371). -/
def State.trainMiss (s : State) (p : Nat) : State :=
  let n := s.trainAt p + 1
  if n < 3 then (s.setTrainAt p n).trainStart p
  else (((s.setTrainAt p 0).setEavSt p 30 28 7).setTrainAt (128 + p) s.et).raise (eav p) 2 false

/-- TRAINING_STEP: the step under way completes and the next begins; step 4 records the partner's ENGINE_ID, PORT and MAC, and its own
ENGINE_ID or a non-native mode ends the attempt (R371, R376). -/
def execTrainingStep (port engine partner mac : Nat) (native : Bool) (s : State) : Host.Outcome State Fault Refusal :=
  let p := port % 64
  let st := s.eavSt p 30 28
  if !s.training p ∨ st = 6 then .next s
  else if st = 4 then
    let s := (s.setEavSt p 15 0 engine).setEavSt p 27 22 partner
    let s := { s with rim := { s.rim with partMac := smSet 0 s.rim.partMac p (mac % 2 ^ 48) } }
    if engine % 65536 = s.engineId ∨ !native then .next (s.trainMiss p) else .next (s.setEavSt p 30 28 5)
  else .next ((s.setEavSt p 30 28 (st + 1)).berTurn p)

/-- TRAINING_ATTEMPT_TIMEOUT: 500 ms without completing abandon the attempt (R371). -/
def execTrainingAttemptTimeout (port : Nat) (s : State) : Host.Outcome State Fault Refusal :=
  let p := port % 64
  if s.training p ∧ s.trainAt (128 + p) + usToEt 500000 ≤ s.et then .next (s.trainMiss p) else .next s

/-- TRAINING_RETRY: a failed port trains again 1 s later while PORT_EN stays set (R371). -/
def execTrainingRetry (port : Nat) (s : State) : Host.Outcome State Fault Refusal :=
  let p := port % 64
  if s.portEn p ∧ s.eavMode p = 1 ∧ s.eavSt p 30 28 = 7 ∧ s.trainAt (128 + p) + usToEt 1000000 ≤ s.et then .next (s.trainStart p) else .next s

/-- EAV_LINK_UP: a native port in step 6 whose BER estimate has stayed below FEC_DEGRADE for 1 ms, or a compatible one that is enabled, comes up (R371). -/
def execEavLinkUp (port : Nat) (s : State) : Host.Outcome State Fault Refusal :=
  let p := port % 64
  let t := s.trainAt (192 + p)
  let ready := if s.eavMode p = 1 then s.training p && decide (s.eavSt p 30 28 = 6) && decide (t ≠ 0) && decide (t - 1 + usToEt 1000 ≤ s.et) else s.portEn p
  if ready ∧ !s.linkUp p then .next (((s.setEavSt p 31 31 1).setTrainAt p 0).raise (eav p) 1 false) else .next s

/-- A port goes down: it leaves every spray set, which holds only ports that are up, and a native one retrains (R372). -/
def State.linkDown (s : State) (p : Nat) (injected : Bool) : State :=
  if !s.linkUp p then s
  else
    let s := ((s.setEavSt p 31 31 0).setTrainAt (64 + p) 0).raise (eav p) 0 injected
    if s.eavMode p = 1 then (s.setTrainAt p 0).trainStart p else s

/-- EAV_LINK_DOWN: signal or FEC alignment is lost, or `uncorr` uncorrectable codewords came in 1 ms; the codewords are counted, and more
than 100, or a loss, take the port down (R372, R401). -/
def execEavLinkDown (port uncorr : Nat) (lost : Bool) (s : State) : Host.Outcome State Fault Refusal :=
  let p := port % 64
  let s := s.bump (eav p) (0x0C0 + 8 * portHalf p) 31 16 uncorr
  if lost ∨ 100 < uncorr then .next (s.linkDown p false) else .next s

/-- EAV_FEC_DEGRADED: a lane's receive power and BER estimate are taken; a crossing above FEC_DEGRADE is raised once (R372, R401, R403). -/
def execEavFecDegraded (port lane ber rx : Nat) (s : State) : Host.Outcome State Fault Refusal :=
  let p := port % 64
  let k := (s.portLanes p).getD (lane % 8) (4 * portHalf p)
  let inj := decide (k = 0) && s.isArmed (eav p) 3
  let was := s.laneBad p k
  let s := if inj then s.disarm (eav p) 3 else s
  let s := s.wr (eav p) (0x100 + 8 * k) (put 15 0 rx ||| put 47 16 ber)
  let any := (s.portLanes p).any fun k => s.laneBad p k
  let s := if !any then s.setTrainAt (64 + p) 0 else if s.trainAt (64 + p) = 0 then s.setTrainAt (64 + p) (s.et + 1) else s
  let s := s.berTurn p
  if inj ∨ (s.laneBad p k ∧ !was) then .next (s.raise (eav p) 3 inj) else .next s

/-- FEC_DEGRADE_TIMEOUT: degradation held for RT_FEC_MS has Porch firmware take the port down to retrain (R570, R576). -/
def execFecDegradeTimeout (port : Nat) (s : State) : Host.Outcome State Fault Refusal :=
  let p := port % 64
  let ms := s.rdF (gp .srvg) 0x0A0 15 0
  let t := s.trainAt (64 + p)
  if t ≠ 0 ∧ s.linkUp p ∧ t - 1 + usToEt (1000 * ms) ≤ s.et then .next (s.linkDown p false) else .next s

/-! ### Frames -/

/-- The port's MAC, and the MAC its IP packets go to (R373, R376). -/
def State.portMac (s : State) (p : Nat) : Nat := s.rdF (eav p) (0x090 + 8 * portHalf p) 47 0
def State.nextHop (s : State) (p : Nat) : Nat :=
  if s.eavMode p = 1 then smGet 0 s.rim.partMac p else s.rdF (eav p) (0x0A0 + 8 * portHalf p) 47 0

/-- PCP of a class (R395). -/
def classPcp (cls : Nat) : Nat := match cls with | 0 => 6 | 1 => 4 | 2 => 3 | _ => 2

/-- DSCP of a class (R395, R404). -/
def State.classDscp (s : State) (cls : Nat) : Nat := s.rdF (gp .yzlg) 0x0B8 (8 * cls + 5) (8 * cls)

/-- Whether PFC acts on a priority of a port (R375). -/
def State.pfcOn (s : State) (p prio : Nat) : Bool := tst (s.rd (eav p) 0x080) 7 && tst (s.rd (eav p) 0x080) (8 + prio)

/-- Whether a priority of a port is paused now (R375). -/
def State.paused (s : State) (p prio : Nat) : Bool := s.pfcOn p prio && decide (s.et < smGet 0 s.rim.pfc (8 * p + prio))

/-- A frame handed to a port: it leaves at once, waits while its priority is paused, and is lost where the link is down (R372, R375). -/
def State.sendFrame (s : State) (p prio : Nat) (b : List Byte) : State :=
  if !s.linkUp p then s
  else if s.paused p prio ∨ s.rim.txq.any (fun e => e.1 = p ∧ e.2.1 = prio) then { s with rim := { s.rim with txq := s.rim.txq ++ [(p, prio, b)] } }
  else s.emit (.frame p b)

/-- Frames whose pause has ended leave, oldest first (R375). -/
def State.flushTx (s : State) : State :=
  let q := s.rim.txq
  let s := (q.filter fun e => !s.paused e.1 e.2.1).foldl (fun s e => if s.linkUp e.1 then s.emit (.frame e.1 e.2.2) else s) s
  { s with rim := { s.rim with txq := q.filter fun e => s.paused e.1 e.2.1 } }

/-- The 802.1Q tag of a port's frames of a priority (R373). -/
def State.vlanTag (s : State) (p prio : Nat) : Option (Nat × Nat) :=
  if tst (s.rd (eav p) 0x080) 7 then some (prio, s.rdF (eav p) 0x080 27 16) else none

/-- An IP packet sent from a port in a class to its next hop (R374, R376, R395). -/
def State.sendIp (s : State) (p cls : Nat) (dst : IpAddr) (proto : Nat) (body : List Byte) : State :=
  let prio := classPcp cls
  s.sendFrame p prio (ethBytes (s.nextHop p) (s.portMac p) (s.vlanTag p prio) (if dst.v6 then 0x86DD else 0x0800)
    (ipBytes (s.portIp s.engineId p) dst (s.classDscp cls) proto body))

/-- A PFC frame: each priority it names that is enabled is paused for its time in quanta of 512 bit times, or resumed (R375). -/
def State.pfcFrame (s : State) (p en : Nat) (times : List Nat) : State :=
  let q := if s.eavMode p = 2 then 10 else 20
  let s := (List.range 8).foldl (fun s k =>
    if en.testBit k ∧ s.pfcOn p k then
      let t := times.getD k 0 % 65536
      { s with rim := { s.rim with pfc := smSet 0 s.rim.pfc (8 * p + k) (if t = 0 then 0 else s.et + ceilDiv t q) } }
    else s) s
  s.flushTx

/-- PFC_FRAME (R375). -/
def execPfcFrame (port en : Nat) (times : List Nat) (s : State) : Host.Outcome State Fault Refusal := .next (s.pfcFrame (port % 64) en times)

/-- A PFC frame of a port that pauses one priority for `t` quanta, or resumes it (R375). -/
def State.pfcSend (s : State) (p k t : Nat) : State :=
  let times := (List.range 8).flatMap fun j => beTo 2 (if j = k then t else 0)
  if s.linkUp p then s.emit (.frame p (ethBytes 0x0180C2000001 (s.portMac p) none 0x8808 (beTo 2 0x0101 ++ beTo 2 (2 ^ k) ++ times))) else s

/-- The receive buffer of an enabled priority of a port looked at: how full its 512 KiB are is open; above 75 % the port sends XOFF, and below 50 % after
that XON (R375). -/
def State.rxTurn (s : State) (p k : Nat) : State :=
  let key := 8 * p + k
  if !s.pfcOn p k then { s with rim := { s.rim with pfcOff := s.rim.pfcOff.filter fun k => k ≠ key } }
  else
    let r := s.drawNat
    let fill := r.2 % (512 * 1024 + 1)
    let s : State := { r.1 with rim := { r.1.rim with pfcFill := smSet 0 r.1.rim.pfcFill key fill } }
    if 384 * 1024 < fill ∧ !s.rim.pfcOff.contains key then ({ s with rim := { s.rim with pfcOff := s.rim.pfcOff ++ [key] } } : State).pfcSend p k 65535
    else if fill < 256 * 1024 ∧ s.rim.pfcOff.contains key then ({ s with rim := { s.rim with pfcOff := s.rim.pfcOff.filter fun k => k ≠ key } } : State).pfcSend p k 0
    else s

/-- CE_RX of a port counted (R374). -/
def State.ceMark (s : State) (p : Nat) : State := s.bump (eav p) (0x0C0 + 8 * portHalf p) 15 0 1

/-- A frame counted in EAV_CNT.OTHER and discarded (R374). -/
def State.otherFrame (s : State) (p : Nat) : State := s.bump (eav p) (0x0C0 + 8 * portHalf p) 47 32 1

/-- An ARP request for the port's own IPv4 address answered; anything else discarded (R374). -/
def State.arpFrame (s : State) (p : Nat) (b : List Byte) : State :=
  let me := s.portIp s.engineId p
  if !me.v6 ∧ beAt b 0 8 = 0x0001080006040001 ∧ 28 ≤ b.length ∧ beAt b 24 4 = me.addr then
    let r := beTo 8 0x0001080006040002 ++ beTo 6 (s.portMac p) ++ me.bytes ++ (b.drop 8).take 10
    s.sendFrame p 6 (ethBytes (beAt b 8 6) (s.portMac p) (s.vlanTag p 6) 0x0806 r)
  else s.otherFrame p

/-- An IPv6 Neighbour Solicitation or echo request for the port's own address answered (R374). -/
def State.icmp6Frame (s : State) (p srcMac : Nat) (i : IpIn) : State :=
  let me := s.portIp s.engineId p
  let typ := beAt i.body 0 1
  let ok := inetSum (pseudoHdr i.src i.dst 58 i.body.length ++ i.body) = 0
  let reply (dst : IpAddr) (m : List Byte) : State :=
    s.sendFrame p 6 (ethBytes srcMac (s.portMac p) (s.vlanTag p 6) 0x86DD (ipBytes me dst (s.classDscp 0) 58 m))
  if ok ∧ typ = 128 ∧ i.dst = me then reply i.src (icmp6 me i.src 129 (beAt i.body 1 1) (i.body.drop 4))
  else if ok ∧ typ = 135 ∧ beAt i.body 8 16 = me.addr ∧ (i.dst = me ∨ i.dst = solicited me) then
    reply i.src (icmp6 me i.src 136 0 (beTo 4 0x60000000 ++ me.bytes ++ [2, 1] ++ beTo 6 (s.portMac p)))
  else s.otherFrame p

end Sys2Proof.Machine
end

