-- ==== Sys2Proof/Machine/Chute.lean ====
section
/-!
DEFINITION. Chutes: lists, source data, STREAM packets, starvation and Larder sessions (R344 to R367).
-/

namespace Sys2Proof.Machine

/-- The CHU page of Chute `c`. -/
def chuP (c : Nat) : PageRef := ⟨.chu, c⟩

/-- A Chute. -/
def State.chute (s : State) (c : Nat) : ChuSt := smGet .empty s.rim.chu c

/-- A Chute replaced. -/
def State.setChute (s : State) (c : Nat) (x : ChuSt) : State := { s with rim := { s.rim with chu := smSet .empty s.rim.chu c x } }

/-- The granted Suite (R344). -/
def State.chuSuite (s : State) (c : Nat) : Nat := s.rdF (chuP c) 0x080 37 32

/-- Edge and position of Chute `c` = 8e + i (R365). -/
def chuEdge (c : Nat) : Nat := c / 8
def chuPos (c : Nat) : Nat := c % 8

/-- The logical Wing a Chute faces (R344, R568). -/
def State.chuFaces (s : State) (c : Nat) : Option (Nat × Nat) :=
  let i := chuPos c
  match s.fence with
  | none => some (match chuEdge c with | 0 => (i, 0) | 1 => (7, i) | 2 => (i, 7) | _ => (0, i))
  | some f =>
    let row := if f < i then i - 1 else i
    match chuEdge c with
    | 0 => if f = 0 then none else some (i, 0)
    | 1 => if f = i then none else some (7, row)
    | 2 => if f = 7 then none else some (i, 6)
    | _ => if f = i then none else some (0, row)

/-- SCH_OK: the granted Suite contains the facing Wing (R344). -/
def State.schOk (s : State) (c : Nat) : Bool :=
  match s.chuFaces c, s.suite (s.chuSuite c) with
  | some (x, y), some u => u.hasWing x y
  | _, _ => false

/-- Whether the Chute's packets go as SCH now: SCH_OK, in a stepped Suite with a RUN in progress (R293, R344). -/
def State.chuSch (s : State) (c : Nat) : Bool :=
  s.schOk c && (match s.suite (s.chuSuite c) with | some u => decide (u.mode = 0) && decide (u.run = 2) | none => false)

/-- The port T of an edge by which a Room is fed (R347). -/
def chuT (c room : Nat) : Nat := if chuEdge c % 2 = 0 then roomX room else roomY room

/-- The Chute's EID for a Room (R280, R347). -/
def chuEid (c room : Nat) : Nat := eidEaves (chuEdge c) (chuT c room) 1

/-- The edge Room whose Flue node carries the Chute's requests (R344). -/
def State.chuRoom (s : State) (c : Nat) : Nat :=
  s.eavesRoom (eidEaves (chuEdge c) (16 * (match s.chuFaces c with | some (x, y) => if chuEdge c % 2 = 0 then x else y | none => chuPos c)) 1)

/-- Source number of a Chute's stall. -/
def chuSrc (c : Nat) : Nat := 2 ^ 20 + c

/-- Suite cycles that an engine-scope message of the Chute takes to the stall master: open, within GLOBAL_NS (R308, R344). -/
def State.chuDelay (s : State) (c : Nat) : State × Nat :=
  let rate := match s.suite (s.chuSuite c) with | some u => u.rate | none => 48
  let r := s.drawNat
  (r.1, r.2 % (ceilDiv (s.rdF (gp .flu) 0x080 31 16 * rate) 32 + 1))

/-- The Chute's open CHUTE stall requested or released: at Suite scope when SCH_OK is set, else at engine scope (R344, R351, R352). -/
def State.chuStallMsg (s : State) (c : Nat) (release : Bool) : State :=
  if s.schOk c then (if release then s.stallRelease (s.chuSuite c) 5 (chuSrc c) else s.stallReq (s.chuSuite c) 5 (chuSrc c) 0)
  else
    let d := s.chuDelay c
    d.1.modSuite (s.chuSuite c) fun u => { u with reqs := u.reqs ++ [⟨5, chuSrc c, 0, release, u.clk + d.2⟩] }

/-- The Chute's HALT sent: at Suite scope when SCH_OK is set, else at engine scope, the master's H following its arrival by FL (R311, R344). -/
def State.chuHalt (s : State) (c code : Nat) : State :=
  if s.schOk c then s.sendHalt (s.chuSuite c) (s.chuRoom c) 15 code
  else
    let room := s.chuRoom c
    let d := s.chuDelay c
    d.1.modSuite (s.chuSuite c) fun u => if u.run = 4 then u else { u with halts := u.halts ++ [⟨u.clk + d.2 - s.fl, room, 15, code, s.et⟩] }

/-! ### Entry fields -/

def eKind (w : List W64) : Nat := fld (w.getD 0 0) 63 62
def eTile (w : List W64) : Bool := tst (w.getD 0 0) 61
def eMdir (w : List W64) : Nat := fld (w.getD 0 0) 60 58
def eSpan (w : List W64) : Nat := fld (w.getD 0 0) 57 51
def eLen (w : List W64) : Nat := 8 * fld (w.getD 0 0) 50 44
def eRoom (w : List W64) : Nat := fld (w.getD 0 0) 43 30
def eExpect (w : List W64) : Nat := fld (w.getD 0 0) 29 28
def eCount (w : List W64) : Nat := fld (w.getD 0 0) 19 0
def eInterval (w : List W64) : Nat := fld (w.getD 1 0) 63 48
def eStart (w : List W64) : Nat := fld (w.getD 1 0) 47 0
def eSource (w : List W64) : Nat := fld (w.getD 2 0) 47 0
def eSlot (w : List W64) : Nat := fld (w.getD 2 0) 1 0
def eAddr (w : List W64) : Nat := fld (w.getD 3 0) 21 0
def eAddr2 (w : List W64) : Nat := fld (w.getD 3 0) 53 32

/-- The Rooms of a multicast: `room` and SPAN further ones straight on in MDIR (1 N, 2 E, 3 S, 4 W); none where it leaves the grid (R299). -/
def spanRooms (rows room mdir span : Nat) : Option (List Nat) :=
  let x := roomX room
  let y := roomY room
  match mdir with
  | 0 => if span = 0 then some [room] else none
  | 1 => if span ≤ y then some ((List.range (span + 1)).map fun k => (y - k) * 128 + x) else none
  | 2 => if x + span < 128 then some ((List.range (span + 1)).map fun k => y * 128 + x + k) else none
  | 3 => if y + span < rows then some ((List.range (span + 1)).map fun k => (y + k) * 128 + x) else none
  | 4 => if span ≤ x then some ((List.range (span + 1)).map fun k => y * 128 + x - k) else none
  | _ => none

/-- Rows of Rooms of the logical grid (R25). -/
def State.gridRows (s : State) : Nat := if s.fence.isSome then 112 else 128

/-- Whether a multicast direction may follow an entry by an edge: E and W only from the E and W edges, and never straight back (R299). -/
def mdirOk (edge mdir : Nat) : Bool :=
  match mdir with
  | 0 => true
  | 1 => decide (edge ≠ 0)
  | 2 => decide (edge = 3)
  | 3 => decide (edge ≠ 2)
  | 4 => decide (edge = 1)
  | _ => false

/-- Flits of the largest packet of an entry (R273). -/
def eFlits (w : List W64) : Nat := ceilDiv (32 + eLen w) 256

/-- Packets of an entry: COUNT, or for a tile whose header is known the packets of its two regions (R347). -/
def ChuEntry.total (e : ChuEntry) : Nat :=
  if eKind e.words = 0 ∨ eKind e.words = 3 then 0
  else if eTile e.words then
    match tileRegions ((toWords (e.hdr.take 8)).getD 0 0) with
    | some (d, m) => if e.hdr = [] then eCount e.words else ceilDiv d (eLen e.words) + ceilDiv m (eLen e.words)
    | none => eCount e.words
  else eCount e.words

/-- Place of packet `n`: its offset within the source after any header, its length, and the Shelf offset it is written at (R347). -/
def ChuEntry.place (e : ChuEntry) (n : Nat) : Nat × Nat × Nat :=
  let len := eLen e.words
  if !eTile e.words then (n * len, len, eAddr e.words + n * len)
  else
    let r := (tileRegions ((toWords (e.hdr.take 8)).getD 0 0)).getD (0, 0)
    let nd := ceilDiv r.1 len
    if n < nd then (n * len, min len (r.1 - n * len), eAddr e.words + n * len)
    else
      let k := n - nd
      (r.1 + k * len, min len (r.2 - k * len), eAddr2 e.words + k * len)

/-! ### Failures and status -/

/-- The word CHU_WHERE captures (R366). -/
def chuWhere (cause detail index stream : Nat) : W64 := put 63 56 cause ||| put 55 48 detail ||| put 47 32 index ||| put 19 0 stream

/-- STATE shown in CHU_STATUS. -/
def State.chuState (s : State) (c st : Nat) : State := s.wrF (chuP c) 0x088 63 61 st

/-- The Chute's open stall released, with the stall steps it cost counted (R351, R352). -/
def State.chuUnstall (s : State) (c : Nat) : State :=
  match (s.chute c).stalled, s.suite (s.chuSuite c) with
  | some t, some u => (s.wr (chuP c) 0x0C0 (s.rd (chuP c) 0x0C0 + BitVec.ofNat 64 (u.clk - t))).chuStallMsg c true
  | _, _ => s

/-- A starvation is over, and its stall with it (R353). -/
def State.chuFed (s : State) (c : Nat) : State :=
  let x := s.chute c
  let s := s.chuUnstall c
  if x.starve = none ∧ x.stalled = none then s else s.setChute c { x with starve := none, stalled := none, told := false, late := [] }

/-- The Chute stops FAILED, which ends a starvation, and the granted Suite halts in both firing modes (R349, R350, R353, R357, R359). -/
def State.chuStop (s : State) (c code : Nat) : State := ((s.chuState c 3).chuFed c).chuHalt c code

/-- An event that stops a Chute, with its capture and incident record (R349, R350, R412). -/
def State.chuFail (s : State) (c bit detail index stream : Nat) (injected : Bool) : State :=
  let p := chuP c
  let w := chuWhere (bit + 1) detail index stream
  let s := (s.capture p 0x0B0 w).raise p bit injected
  let s := s.record p (bit + 1) 1 injected false true (s.chuSuite c) noRef (setBit w 31)
  s.chuStop c (Page.chu.cls * 256 + bit + 1)

/-- A refused register write of the CHU page (R366). -/
def State.chuRefuse (s : State) (c : Nat) : State := (s.capture (chuP c) 0x0B0 (chuWhere 0x07 0 0 0)).raise (chuP c) 6 false

/-- Bytes held in the stream buffer. -/
def ChuSt.bytes (x : ChuSt) : Nat :=
  (x.entries.foldl (fun n e => n + e.got.foldl (fun m g => m + g.2.length) 0) 0) + x.slots.foldl (fun n e => n + e.2.buf.length) 0

/-- CHU_STATUS.BUF_KIB brought up to date. -/
def State.chuShow (s : State) (c : Nat) : State := s.wrF (chuP c) 0x088 43 32 (ceilDiv (s.chute c).bytes 1024)

/-- Whether the Chute works: running or starved. -/
def State.chuRuns (s : State) (c : Nat) : Bool :=
  tst (s.rd (chuP c) 0x080) 63 && (decide (s.rdF (chuP c) 0x088 63 61 = 1) || decide (s.rdF (chuP c) 0x088 63 61 = 2))
    && (match s.suite (s.chuSuite c) with | some u => !u.holding | none => true)

/-- Entries of the ring, and its indices. -/
def State.chuSize (s : State) (c : Nat) : Nat := 2 ^ s.rdF (chuP c) 0x090 60 56
def State.chuHead (s : State) (c : Nat) : Nat := s.rdF (chuP c) 0x098 19 0
def State.chuTail (s : State) (c : Nat) : Nat := s.rdF (chuP c) 0x0A0 19 0

/-- An entry's next packet lies whole in the buffer. -/
def ChuEntry.ready (e : ChuEntry) : Bool :=
  decide (e.sent < e.total) && e.got.any (fun g => g.1 = e.sent) && (!eTile e.words || e.hdr != [])

/-- The front entry's next packet lies whole in the buffer. -/
def ChuSt.ready (x : ChuSt) : Bool :=
  match x.entries with
  | e :: _ => e.ready
  | [] => false

/-- The entry whose next packet goes now: in list order the first ready one, as SCH the first whose packet is due at the step, for each port has
its own (R348). -/
def ChuSt.pick (x : ChuSt) (sch : Bool) (step : Nat) : Option Nat :=
  (List.range x.entries.length).find? fun k =>
    match x.entries[k]? with
    | some e => e.ready && (if sch then decide (step = eStart e.words + e.sent * eInterval e.words) else decide (k = 0))
    | none => false

/-- Whether the packet due at step `t` is in an entry of the list that has not been read, or lies in a read entry without its payload (R351). -/
def State.chuLate (s : State) (c t : Nat) : Bool :=
  let x := s.chute c
  let has (w : List W64) (total : Nat) : Option Nat :=
    if (eKind w = 1 ∨ eKind w = 2) ∧ eStart w ≤ t ∧ 0 < eInterval w ∧ (t - eStart w) % eInterval w = 0 ∧ (t - eStart w) / eInterval w < total
    then some ((t - eStart w) / eInterval w) else none
  let readLate := x.entries.any fun e =>
    match has e.words e.total with | some n => decide (e.sent ≤ n) && !e.got.any (fun g => g.1 = n) | none => false
  let n := s.chuSize c
  let base := s.rdF (chuP c) 0x090 47 5 * 32
  let from_ := (s.chuHead c + x.entries.length) % n
  let left := (s.chuTail c + n - from_) % n
  readLate || (List.range left).any fun k =>
    let w := s.ldWords (base + 32 * ((from_ + k) % n)) 4
    (has w (eCount w)).isSome

/-- Whether the Chute starves: its list is empty, or its next packet has no data while it injects as ELA, or its stall is open (R345, R351,
R352). -/
def State.chuStarves (s : State) (c : Nat) : Bool :=
  let x := s.chute c
  s.chuRuns c &&
    ((x.entries.isEmpty && decide (s.chuHead c = s.chuTail c))
      || (match x.entries with | e :: _ => !s.chuSch c && decide (eKind e.words = 1 ∨ eKind e.words = 2) && !x.ready | [] => false))

/-- A Chute's starvation begun or ended.  Once begun it lasts until the data has arrived, which are the packets found late at their check, or the front
entry's next packet; the stall is then released and its steps are counted (R351 to R353). -/
def State.chuWatch (s : State) (c : Nat) : State :=
  let x := s.chute c
  let wait := s.chuStarves c || ((x.starve.isSome || x.stalled.isSome) && (if x.late = [] then !x.ready else x.late.any fun t => s.chuLate c t))
  if wait then
    match x.starve with
    | some _ => s
    | none => s.setChute c { x with starve := some s.et, told := false }
  else
    let s := s.chuFed c
    if s.rdF (chuP c) 0x088 63 61 = 2 then s.chuState c 1 else s

/-! ### The list -/

/-- The next entry to read: its index and words, and what kept it from being read, an armed injection among it; a read that waits for its channel
gives none (R345, R350, R367, R570). -/
def State.chuFetch (s : State) (c : Nat) (errs : List Nat) : State × Option (Nat × List W64) × CelRes :=
  let x := s.chute c
  let idx := (s.chuHead c + x.entries.length) % s.chuSize c
  if !s.chuRuns c ∨ x.gating ∨ idx = s.chuTail c ∨ s.chuSize c ≤ x.entries.length + 1 then (s, none, .ok [])
  else
    let a := s.rdF (chuP c) 0x090 47 5 * 32 + 32 * idx
    match s.decodeEa a with
    | .cellar st off =>
      if s.celWaits st off 32 then (s, none, .ok [])
      else if s.isArmed (chuP c) 2 then (s, some (idx, []), .eccUe)
      else
        let r := s.cellarAccess st off 32 none (s.chuSuite c) (eidEaves (chuEdge c) (16 * chuPos c) 1) false errs
        (match r.2 with
         | .ok d => (r.1, some (idx, toWords d), .ok [])
         | e => (r.1, some (idx, []), e))
    | _ => (s.celMiss a, some (idx, []), .unmapped)

/-- DETAIL of a source that failed (R350, R366). -/
def CelRes.detail : CelRes → Nat
  | .denied => 1 | .eccUe => 2 | _ => 3

/-- What makes an entry bad, with the entries before it in the list: its DETAIL (R349). -/
def State.chuBadAfter (s : State) (c : Nat) (before : List ChuEntry) (w : List W64) : Option Nat :=
  let u := s.suite (s.chuSuite c)
  let room := eRoom w
  let rooms := spanRooms s.gridRows room (eMdir w) (eSpan w)
  let owns (r : Nat) : Bool := match u with | some u => u.hasRoom r | none => false
  let w2 := w.getD 2 0
  let w3 := w.getD 3 0
  let resv := decide (fld (w.getD 0 0) 27 20 ≠ 0)
  match eKind w with
  | 0 => if resv then some 0x10 else none
  | 3 => if resv || decide (fld w2 63 56 ≠ 0) || decide (fld w2 31 8 ≠ 0) then some 0x10 else none
  | k =>
    let sch := s.chuSch c
    let pos := match s.fence with
      | none => chuT c room / 16
      | some f => if chuEdge c % 2 = 0 then chuT c room / 16 else if f ≤ roomY room / 16 then roomY room / 16 + 1 else roomY room / 16
    let reach := match s.fence with | none => true | some f => fenceReaches f room (chuEdge c) (chuPos c)
    if resv || decide (eLen w = 0) || decide (992 < eLen w) || decide (eCount w = 0) || rooms.isNone || !mdirOk (chuEdge c) (eMdir w)
        || (k = 1 && decide (fld w2 63 48 ≠ 0)) || (k = 2 && decide (fld w2 63 2 ≠ 0))
        || decide (fld w3 31 22 ≠ 0) || decide (fld w3 63 54 ≠ 0)
        || (sch && (decide (eInterval w < eFlits w) || decide (eStart w < 2 * s.fl + 16) || (eTile w && decide (eExpect w = 0)))) then some 0x10
    else if !owns room || decide (pos ≠ chuPos c) || !reach then some 0x13
    else if sch && !((rooms.getD []).all owns) then some 0x14
    else
      let t := chuT c room
      let last (e : ChuEntry) : Nat := eStart e.words + (e.total - 1) * eInterval e.words + eFlits e.words
      let step := match u with | some u => u.step.toNat | none => 0
      let held := smGet 0 (s.chute c).busy t
      if sch && (before.any (fun e => decide (0 < e.total) && decide (chuT c (eRoom e.words) = t) && decide (eStart w < last e))
          || (decide (held ≤ step + 8) && decide (eStart w < held))) then some 0x12
      else none

/-- What makes the next entry of the list bad: its DETAIL (R349). -/
def State.chuBad (s : State) (c : Nat) (w : List W64) : Option Nat := s.chuBadAfter c (s.chute c).entries w

/-- The entries read ahead judged once they are due for SCH injection: false where one is bad, which stops the Chute (R349). -/
def State.chuJudge (s : State) (c : Nat) : State × Bool :=
  let x := s.chute c
  if !s.chuSch c || !s.chuRuns c || x.entries.all (fun e => e.sch) then (s, true)
  else
    let worst := (List.range x.entries.length).findSome? fun k =>
      match x.entries[k]? with
      | some e => if e.sch ∨ (eKind e.words ≠ 1 ∧ eKind e.words ≠ 2) then none else (s.chuBadAfter c (x.entries.take k) e.words).map fun d => (e.idx, d)
      | none => none
    match worst with
    | some (idx, d) => (s.chuFail c 3 d idx 0 false, false)
    | none => (s.setChute c { x with entries := x.entries.map fun e => { e with sch := true } }, true)
/-- CHU_LIST_HEAD advanced past the front entry. -/
def State.chuDrop (s : State) (c : Nat) : State :=
  let x := s.chute c
  (s.setChute c { x with entries := x.entries.drop 1 }).wr (chuP c) 0x098 (put 19 0 ((s.chuHead c + 1) % s.chuSize c))

/-- The list moved on: MARK entries it reaches raise CHUTE_MARK, a GATE entry it reaches begins its wait, one whose wait ended passes or
fails, and an entry whose last packet has left passes (R345, R346, R350). -/
def State.chuGo (s : State) (c : Nat) : Nat → State
  | 0 => s
  | fuel + 1 =>
    let x := s.chute c
    if !s.chuRuns c then s
    else
      match x.entries with
      | [] => s
      | e :: _ =>
        match eKind e.words with
        | 0 =>
          let s := (s.bump (chuP c) 0x0C8 31 0 1).capture (chuP c) 0x0B0 (chuWhere 0x06 0 e.idx 0)
          ((s.raise (chuP c) 5 false).chuDrop c).chuGo c fuel
        | 3 =>
          let ended (s : State) (o : Nat) : State :=
            let x := s.chute c
            if o = 0 then ((s.setChute c { x with gate := none, gating := false }).chuDrop c).chuGo c fuel
            else (s.setChute c { x with gate := none }).chuFail c 2 (if o = 1 then 6 else if o = 2 then 7 else 8) e.idx 0 false
          (match x.gate with
           | some o => ended s o
           | none =>
             let n := fld (e.words.getD 2 0) 7 0
             if (s.gl n).waits.any (fun w => w.who = .chute c) then s
             else
               let r := s.gWait n (s.chuRoom c) (s.chuSuite c) (.chute c) (fld (e.words.getD 2 0) 55 32) false
               match r.2 with
               | some o => ended r.1 o
               | none => r.1)
        | _ => if 0 < e.sent ∧ e.total ≤ e.sent then (s.chuDrop c).chuGo c fuel else s

/-- An entry of kind `k` taken from the list (R345 to R350). -/
def State.chuTake (s : State) (c k : Nat) (errs : List Nat) : State :=
  let f := s.chuFetch c errs
  match f.2.1 with
  | none => s
  | some (idx, w) =>
    if w = [] then
      let inj := decide (f.2.2 = .eccUe) && f.1.isArmed (chuP c) 2
      ((if inj then f.1.disarm (chuP c) 2 else f.1).chuFail c 2 f.2.2.detail idx 0 inj)
    else if eKind w ≠ k then s
    else
      let s := f.1
      let inj := s.isArmed (chuP c) 3
      let s := if inj then s.disarm (chuP c) 3 else s
      match (if inj then some 0x10 else s.chuBad c w) with
      | some d => s.chuFail c 3 d idx 0 inj
      | none =>
        let x := s.chute c
        let s := s.setChute c { x with entries := x.entries ++ [⟨idx, w, [], [], 0, 0, s.chuSch c⟩], gating := x.gating || decide (k = 3) }
        (s.chuGo c (x.entries.length + 1)).chuWatch c

/-- MARK (R346). -/
def execMark (c : Nat) (errs : List Nat) (s : State) : Host.Outcome State Fault Refusal := .next (s.chuTake (c % 32) 0 errs)

/-- CELLAR: the entry is decoded and its source reads may begin (R347). -/
def execCellar (c : Nat) (errs : List Nat) (s : State) : Host.Outcome State Fault Refusal := .next (s.chuTake (c % 32) 1 errs)

/-- LARDER: the entry consumes the next bytes of its stream (R347). -/
def execLarder (c : Nat) (errs : List Nat) (s : State) : Host.Outcome State Fault Refusal := .next (s.chuTake (c % 32) 2 errs)

/-- GATE: the list is held until the Latch's generation completes; given again once the wait has ended, the list goes on or the Chute fails
(R346, R350). -/
def execGate (c : Nat) (errs : List Nat) (s : State) : Host.Outcome State Fault Refusal :=
  let c := c % 32
  if (s.chute c).gating then .next ((s.chuGo c ((s.chute c).entries.length + 1)).chuWatch c) else .next (s.chuTake c 3 errs)

/-! ### Larder sessions -/

/-- A Larder session. -/
def State.larder (s : State) (c j : Nat) : LarderSlot := smGet .none (s.chute c).slots j

/-- A Larder session replaced. -/
def State.setLarder (s : State) (c j : Nat) (l : LarderSlot) : State :=
  let x := s.chute c
  s.setChute c { x with slots := smSet .none x.slots j l }

/-- Fields of a CHU_LS slot. -/
def State.lsEn (s : State) (c j : Nat) : Bool := tst (s.rd (chuP c) (0x100 + 16 * j)) 63
def State.lsStream (s : State) (c j : Nat) : Nat := s.rdF (chuP c) (0x100 + 16 * j) 19 0
def State.lsSession (s : State) (c j : Nat) : Nat := s.rdF (chuP c) (0x100 + 16 * j) 55 48
def State.lsWindow (s : State) (c j : Nat) : Nat := 1024 * s.rdF (chuP c) (0x100 + 16 * j) 47 32

/-- A CREDIT sent: LIMIT is the consumed offset plus the window (R356). -/
def State.sendCredit (s : State) (c j : Nat) : State :=
  let l := s.larder c j
  let lim := l.cons + s.lsWindow c j
  (s.setLarder c j { l with limit := lim, sentAt := s.et }).yazCtl (s.lsStream c j) 0x40 (leTo 1 (s.lsSession c j) ++ leTo 8 lim)

/-- A CREDIT sent where LIMIT has advanced by a quarter of the window since the last one (R356). -/
def State.creditTurn (s : State) (c j : Nat) : State :=
  let l := s.larder c j
  if s.lsEn c j ∧ l.limit + s.lsWindow c j / 4 ≤ l.cons + s.lsWindow c j then s.sendCredit c j else s

/-! ### Source data -/

/-- The 2 MiB stream buffer less what Larder windows take (R345, R355). -/
def State.chuRoomFor (s : State) (c n : Nat) : Bool :=
  let x := s.chute c
  let win := (List.range 4).foldl (fun t j =>
    if tst (s.rd (chuP c) (0x100 + 16 * j)) 63 then t + 1024 * s.rdF (chuP c) (0x100 + 16 * j) 47 32 else t) 0
  let held := x.entries.foldl (fun t e => t + e.got.foldl (fun m g => m + g.2.length) 0) 0
  decide (held + n + win ≤ 2 * 1024 * 1024)

/-- Offset in its source of the next bytes an entry needs, how many, and the packet they fill (none for a tile header). -/
def ChuEntry.need (e : ChuEntry) : Option (Nat × Nat × Option Nat) :=
  if eKind e.words = 0 ∨ eKind e.words = 3 then none
  else if eTile e.words ∧ e.hdr = [] then some (0, 16, none)
  else
    match (List.range e.total).find? (fun n => decide (e.sent ≤ n) && !e.got.any (fun g => g.1 = n)) with
    | some n => some ((if eTile e.words then 16 else 0) + (e.place n).1, (e.place n).2.1, some n)
    | none => none

/-- The first entry that still needs source data. -/
def firstNeed : List ChuEntry → Nat → Option (Nat × ChuEntry × Nat × Nat × Option Nat)
  | [], _ => none
  | e :: l, k => match e.need with | some (a, n, p) => some (k, e, a, n, p) | none => firstNeed l (k + 1)

/-- A tile header's faults: 0x04 TILE_HEADER_BAD, 0x05 TILE_LAYOUT (R157, R350). -/
def hdrDetail (w : List W64) (h : W64) : Option Nat :=
  match tileRegions h with
  | none => some 4
  | some _ => if (eExpect w = 1 ∧ !tst h 7) ∨ (eExpect w = 2 ∧ tst h 7) ∨ eExpect w = 3 then some 5 else none

/-- Bytes of an entry's source put in their place and folded into its check value; a header is checked (R158, R347, R350, R413). -/
def State.chuFill (s : State) (c k : Nat) (e : ChuEntry) (p : Option Nat) (d : List Byte) : State :=
  let x := s.chute c
  match p with
  | none =>
    let h := (toWords (d.take 8)).getD 0 0
    let e' := { e with hdr := d, sum := crcOf 0 (d.take 8) }
    (match hdrDetail e.words h with
     | some dt => s.chuFail c 2 dt e.idx 0 false
     | none =>
       if eExpect e.words ≠ 0 ∧ eCount e.words ≠ e'.total then s.chuFail c 3 0x10 e.idx 0 false
       else s.setChute c { x with entries := x.entries.set k e' })
  | some n =>
    s.setChute c { x with entries := x.entries.set k { e with got := smSet [] e.got n d, sum := if eTile e.words then crcOf e.sum d else e.sum } }

/-- The tile CHECK of an entry's header word 1 (R156, R158). -/
def ChuEntry.check (e : ChuEntry) : W64 := (toWords (e.hdr.drop 8)).getD 0 0

/-- CHUTE_SOURCE_DATA: the next source data of the first entry that lacks some comes into the stream buffer (R345, R347, R350). -/
def execChuteSourceData (c : Nat) (errs : List Nat) (s : State) : Host.Outcome State Fault Refusal :=
  let c := c % 32
  let x := s.chute c
  if !s.chuRuns c then .next s
  else
    match firstNeed x.entries 0 with
    | none => .next s
    | some (k, e, a, n, p) =>
      if !s.chuRoomFor c n then .next s
      else if eKind e.words = 1 then
        if (match s.decodeEa (eSource e.words + a) with | .cellar st off => s.celWaits st off n | _ => false) then .next s
        else
        let inj := s.isArmed (chuP c) 2
        let s := if inj then s.disarm (chuP c) 2 else s
        if inj then .next ((s.chuFail c 2 2 e.idx 0 true).chuShow c)
        else
          (match s.decodeEa (eSource e.words + a) with
           | .cellar st off =>
             let r := s.cellarAccess st off n none (s.chuSuite c) (chuEid c (eRoom e.words)) false errs
             (match r.2 with
              | .ok d => .next (((r.1.chuFill c k e p d).chuShow c).chuWatch c)
              | f => .next ((r.1.chuFail c 2 f.detail e.idx 0 false).chuShow c))
           | _ => .next ((s.celMiss (eSource e.words + a)).chuFail c 2 3 e.idx 0 false))
      else
        let j := eSlot e.words
        let l := smGet .none x.slots j
        if l.rel < l.cons + n then .next s
        else
          let s := s.setChute c { x with slots := smSet .none x.slots j { l with buf := l.buf.drop n, cons := l.cons + n } }
          .next ((((s.chuFill c k e p (l.buf.take n)).creditTurn c j).chuShow c).chuWatch c)
/-! ### Packets -/

/-- The STREAM packet `n` of an entry (R299, R347). -/
def State.chuPkt (s : State) (c : Nat) (e : ChuEntry) (n : Nat) (sch : Bool) : Pkt :=
  let room := eRoom e.words
  let d := smGet [] e.got n
  { Pkt.mk0 7 (eidRoom room 1) (chuEid c room) (s.chuSuite c) with
    vc := if sch then 0 else 1, len := d.length, data := d, addr := (e.place n).2.2
    w2 := put 10 8 (eMdir e.words) ||| put 6 0 (eSpan e.words) }

/-- The step count of the Chute's Suite. -/
def State.chuStep (s : State) (c : Nat) : Nat := match s.suite (s.chuSuite c) with | some u => u.step.toNat | none => 0

/-- Whether the Chute's slots are frozen with its Suite (R189, R348). -/
def State.chuFrozen (s : State) (c : Nat) : Bool := match s.suite (s.chuSuite c) with | some u => u.frozen | none => false

/-- The end of an entry, whose last packet has left: a tile's bytes are compared with its CHECK, and the buffer's check-value unit compares its two sides, of
which `bad` says that they differ; an entry at the front passes (R158, R345, R413). -/
def State.chuEnd (s : State) (c k : Nat) (e : ChuEntry) (bad : Bool) : State :=
  let key := eSource e.words
  let suite := s.chuSuite c
  let s := (if k = 0 then s.chuDrop c else s).chuShow c
  let tile := if eTile e.words then s.cvuxItem (64 + c) else (s, false)
  if eTile e.words && (tile.2 || decide (e.sum ≠ e.check)) then
    (tile.1.cvuxError (64 + c) key suite true true tile.2).chuFail c 2 0x04 e.idx 0 false
  else
    let i := tile.1.cvuxItem (64 + c)
    if i.2 || bad then (i.1.cvuxError (64 + c) key suite true true i.2).chuStop c (Page.cvux.cls * 256 + 1)
    else (i.1.chuGo c ((i.1.chute c).entries.length + 1)).chuWatch c

/-- CHUTE_PACKET: the next packet of an entry is injected: as SCH one whose step it is, else as ELA the front entry's; the last one ends the entry
(R345, R348, R349, R413). -/
def execChutePacket (c : Nat) (bad : Bool) (s : State) : Host.Outcome State Fault Refusal :=
  let c := c % 32
  let sch := s.chuSch c
  let j := s.chuJudge c
  if !j.2 then .next j.1
  else
    let s := j.1
    let x := s.chute c
    if !s.chuRuns c ∨ (sch ∧ s.chuFrozen c) then .next s
    else
      match x.pick sch (s.chuStep c) with
      | none => .next s
      | some k =>
        match x.entries[k]? with
        | none => .next s
        | some e =>
          let p := s.chuPkt c e e.sent sch
          let s := s.injectEdge p.src p
          let s := s.wr (chuP c) 0x0B8 (s.rd (chuP c) 0x0B8 + BitVec.ofNat 64 p.len)
          let e' := { e with sent := e.sent + 1, got := smDel e.got e.sent }
          let busy := if sch then smSet 0 x.busy (chuT c (eRoom e.words)) (s.chuStep c + p.flits) else x.busy
          let s := s.setChute c { x with entries := x.entries.set k e', busy }
          if e'.sent < e'.total then .next ((s.chuShow c).chuWatch c) else .next (s.chuEnd c k e' bad)

/-! ### Starvation -/

/-- STARVATION_CHECK: at the start of step S − 2FL − 16 a packet that is not ready opens a CHUTE stall; one found late while the stall is open prolongs
it (R349, R351). -/
def execStarvationCheck (c : Nat) (s : State) : Host.Outcome State Fault Refusal :=
  let c := c % 32
  let j := s.chuJudge c
  if !j.2 then .next j.1
  else
    let s := j.1
    let x := s.chute c
    match s.suite (s.chuSuite c) with
    | none => .next s
    | some u =>
      let t := u.step.toNat + 2 * s.fl + 16
      if !s.chuRuns c ∨ !s.chuSch c ∨ x.late.contains t ∨ !s.chuLate c t then .next s
      else if x.stalled.isSome then .next (s.setChute c { x with late := x.late ++ [t] })
      else .next ((s.setChute c { x with stalled := some u.clk, starve := some s.et, told := false, late := x.late ++ [t] }).chuStallMsg c false)

/-- CHUTE_STARVED: a starvation that has lasted STARVE_US is reported once; in an elastic Suite it now opens the stall (R352, R353, R367). -/
def execChuteStarved (c : Nat) (s : State) : Host.Outcome State Fault Refusal :=
  let c := c % 32
  let x := s.chute c
  match x.starve with
  | none => .next s
  | some t =>
    let inj := s.isArmed (chuP c) 0
    let us := max 1 (s.rdF (chuP c) 0x0A8 23 0)
    if !s.chuRuns c ∨ x.told ∨ (!inj ∧ s.et < t + usToEt us) then .next s
    else
      let s := if inj then s.disarm (chuP c) 0 else s
      let s := (s.capture (chuP c) 0x0B0 (chuWhere 0x01 0 (s.chuHead c) 0)).raise (chuP c) 0 inj
      let s := (s.bump (chuP c) 0x0C8 63 32 1).chuState c 2
      match s.suite (s.chuSuite c) with
      | some u =>
        if u.mode ≠ 0 ∧ x.stalled = none ∧ u.run = 2 then
          .next ((s.setChute c { x with told := true, stalled := some u.clk }).chuStallMsg c false)
        else .next (s.setChute c { x with told := true })
      | none => .next (s.setChute c { x with told := true })

/-! ### Enabling -/

/-- CHUTE_ENABLE: a CHU_CTRL write that sets EN starts the Chute from its list; SUITE is taken only while EN is clear (R344, R345, R366). -/
def execChuteEnable (c : Nat) (v : W64) (s : State) : Host.Outcome State Fault Refusal :=
  let c := c % 32
  let old := s.rd (chuP c) 0x080
  if !tst v 63 then .next s
  else if tst old 63 then (if fld v 37 32 = fld old 37 32 then .next s else .next (s.chuRefuse c))
  else
    let s := s.wr (chuP c) 0x080 (put 63 63 1 ||| put 37 32 (fld v 37 32))
    let s := (s.wrF (chuP c) 0x080 62 62 (b2n (s.schOk c))).chuState c 1
    .next ((s.setChute c { ChuSt.empty with slots := (s.chute c).slots }).chuWatch c)

/-- CHUTE_DISABLE: a CHU_CTRL write that clears EN stops the Chute after the packet in flight; its open stall is released.  One that would also change
the SUITE of an enabled Chute is dropped (R366). -/
def execChuteDisable (c : Nat) (v : W64) (s : State) : Host.Outcome State Fault Refusal :=
  let c := c % 32
  let old := s.rd (chuP c) 0x080
  if tst v 63 then .next s
  else if tst old 63 ∧ fld v 37 32 ≠ fld old 37 32 then .next (s.chuRefuse c)
  else
    let s := s.chuUnstall c
    let s := s.wr (chuP c) 0x080 (put 37 32 (fld v 37 32))
    let s := (s.wrF (chuP c) 0x080 62 62 (b2n (s.schOk c))).chuState c 0
    let s := { s with glatch := s.glatch.foldl (fun (m : SMap Latch) (e : Nat × Latch) => smSet Latch.clear m e.1 { e.2 with waits := e.2.waits.filter fun w => w.who ≠ Waiter.chute c }) s.glatch }
    .next ((s.setChute c { ChuSt.empty with slots := (s.chute c).slots }).chuShow c)

/-- CHU_LIST_TAIL_WRITE: entries are appended (R345). -/
def execChuListTailWrite (c : Nat) (v : W64) (s : State) : Host.Outcome State Fault Refusal :=
  let c := c % 32
  .next ((s.wr (chuP c) 0x0A0 (put 19 0 (fld v 19 0))).chuWatch c)

/-! ### Larder messages -/

/-- Bytes of a CHECK span (R358, R365). -/
def State.spanLen (s : State) (c : Nat) : Nat :=
  let k := s.rdF (chuP c) 0x0A8 53 48
  2 ^ (if 16 ≤ k ∧ k ≤ 20 then k else 18)

/-- LARDER_SLOT_ENABLE: a CHU_LS write with EN set starts a session, unless the slot runs or its window does not fit (R355, R358, R366). -/
def execLarderSlotEnable (c j : Nat) (v : W64) (s : State) : Host.Outcome State Fault Refusal :=
  let c := c % 32
  let j := j % 4
  let off := 0x100 + 16 * j
  let kib := fld v 47 32
  let others := (List.range 4).foldl (fun t k => if k ≠ j ∧ s.lsEn c k then t + s.lsWindow c k / 1024 else t) 0
  if !tst v 63 then .next s
  else if s.lsEn c j ∨ kib < 64 ∨ 1792 < kib ∨ 2048 < others + kib + 256 ∨ 1024 * kib < s.spanLen c then .next (s.chuRefuse c)
  else
    let ses := (s.lsSession c j + 1) % 256
    let s := s.wr (chuP c) off (put 63 63 1 ||| put 55 48 ses ||| put 47 32 kib ||| put 19 0 (fld v 19 0))
    let s := (s.wr (chuP c) (off + 8) 0).wr (cvuxPage (64 + c)) (0x100 + 8 * j) (crcOf 0 (leTo 8 0))
    .next ((s.setLarder c j ⟨[], 0, 0, 0, s.et, 0, [], 0⟩).sendCredit c j)

/-- A Larder lost: its session ends, with its slot disabled, and CHUTE_SOURCE_LOST stops the Chute (R359). -/
def State.larderLost (s : State) (c j : Nat) (injected : Bool) : State :=
  (s.wrF (chuP c) (0x100 + 16 * j) 63 63 0).chuFail c 1 0 (s.chuHead c) (s.lsStream c j) injected

/-- CREDIT_PERIOD: an enabled slot sends a CREDIT (R356); an armed loss acts on the lowest enabled slot (R367). -/
def execCreditPeriod (c j : Nat) (s : State) : Host.Outcome State Fault Refusal :=
  let c := c % 32
  let j := j % 4
  if !s.lsEn c j then .next s
  else if s.isArmed (chuP c) 1 ∧ (List.range j).all (fun k => !s.lsEn c k) then .next ((s.disarm (chuP c) 1).larderLost c j true)
  else .next (s.sendCredit c j)

/-- Bytes folded span by span into the slot's running value (R358, R414). -/
def State.larderFold (s : State) (c j : Nat) : Nat → Nat → List Byte → State
  | 0, _, _ => s
  | _ + 1, _, [] => s
  | fuel + 1, pos, d =>
    let n := s.spanLen c
    let l := s.larder c j
    let p := cvuxPage (64 + c)
    let k := min d.length (l.span + n - pos)
    let v := crcOf (s.rd p (0x100 + 8 * j)) (d.take k)
    if pos + k = l.span + n then
      let s := s.setLarder c j { l with span := l.span + n, done := l.done ++ [(l.span, v)] }
      (s.wr p (0x100 + 8 * j) (crcOf 0 (leTo 8 (l.span + n)))).larderFold c j fuel (pos + k) (d.drop k)
    else s.wr p (0x100 + 8 * j) v

/-- A DATA message of a Larder (R357). -/
def State.larderData (s : State) (c j session off : Nat) (data : List Byte) : State :=
  let l := s.larder c j
  let recv := s.rd (chuP c) (0x108 + 16 * j)
  let inj := s.isArmed (chuP c) 4
  if !s.lsEn c j || decide (session ≠ s.lsSession c j) || decide (off ≠ recv.toNat) || decide (l.limit < off + data.length) || inj then
    let s := if inj then s.disarm (chuP c) 4 else s
    let r := s.drawNat
    let s := r.1.yazCtl (s.lsStream c j) 0x42 (leTo 1 session ++ leTo 1 r.2)
    s.chuFail c 4 0 (s.chuHead c) (s.lsStream c j) inj
  else
    let s := s.wr (chuP c) (0x108 + 16 * j) (recv + BitVec.ofNat 64 data.length)
    let s := s.setLarder c j { l with buf := l.buf ++ data }
    (s.larderFold c j (data.length + 1) off data).chuShow c

/-- LARDER_DATA (R357). -/
def execLarderData (c j session off : Nat) (data : List Byte) (s : State) : Host.Outcome State Fault Refusal :=
  .next (s.larderData (c % 32) (j % 4) (session % 256) off data)

/-- Bytes a restored Chute had consumed are discarded as the new session releases them (R460). -/
def LarderSlot.discard (l : LarderSlot) : LarderSlot :=
  let k := min l.skip (l.rel - l.cons)
  { l with buf := l.buf.drop k, cons := l.cons + k, skip := l.skip - k }

/-- A CHECK message of a Larder, compared with the span's fold; a match releases the span (R358, R413). -/
def State.larderCheck (s : State) (c j session start : Nat) (crc : W64) : State :=
  if !s.lsEn c j ∨ session ≠ s.lsSession c j then s
  else
    let l := s.larder c j
    let i := s.cvuxItem (64 + c)
    let hit : Bool := match l.done with | (a, v) :: _ => decide (a = start) && decide (v = crc) | [] => false
    if i.2 || !hit then (i.1.cvuxError (64 + c) start (s.chuSuite c) true true i.2).chuStop c (Page.cvux.cls * 256 + 1)
    else ((i.1.setLarder c j { l with done := l.done.drop 1, rel := start + s.spanLen c }.discard).creditTurn c j).chuWatch c

/-- LARDER_CHECK (R358). -/
def execLarderCheck (c j session start : Nat) (crc : W64) (s : State) : Host.Outcome State Fault Refusal :=
  .next (s.larderCheck (c % 32) (j % 4) (session % 256) start crc)

/-- ABORT: the Larder ends its session (R359). -/
def execAbort (c j session : Nat) (s : State) : Host.Outcome State Fault Refusal :=
  let c := c % 32
  let j := j % 4
  if s.lsEn c j ∧ session % 256 = s.lsSession c j then .next (s.larderLost c j false) else .next s

/-- A slot disabled by a reset of the Chute's Suite: ABORT of REASON 1 is sent (R585). -/
def State.slotReset (s : State) (c j : Nat) : State :=
  if s.lsEn c j then (s.yazCtl (s.lsStream c j) 0x42 (leTo 1 (s.lsSession c j) ++ leTo 1 1)).wrF (chuP c) (0x100 + 16 * j) 63 63 0 else s

/-- A Chute of a reset Suite: disabled, its buffer discarded (R585). -/
def State.chuReset (s : State) (c : Nat) : State :=
  let s := (List.range 4).foldl (fun s j => s.slotReset c j) s
  let s := (s.wrF (chuP c) 0x080 63 63 0).chuState c 0
  (s.setChute c .empty).chuShow c

end Sys2Proof.Machine
end

