-- ==== Sys2Proof/Machine/ShelfPort.lean ====
section
/-!
DEFINITION. The Shelf port of a Room, which serves Hall requests under Suite isolation and remote windows (R36, R227, R228, R300), and requests
sent by units of the Eaves.
-/

namespace Sys2Proof.Machine

/-- The answer of a Shelf port. -/
inductive PortRes where
  /-- Served: the STATUS of R284 and the data of a read. -/
  | ok (status : Nat) (data : List Byte)
  /-- Refused with a NACK code. -/
  | nack (code : Nat)
  deriving DecidableEq, Repr

/-- Whether window `w` of a Room names a Suite and covers a byte range wholly (R227, R229). -/
def State.winCovers (s : State) (room suite off len w : Nat) : Bool :=
  let a := s.rd (rp .shf room) (0x100 + 16 * w)
  let b := s.rd (rp .shf room) (0x108 + 16 * w)
  let base := 64 * fld a 21 6
  decide (fld b 5 0 = suite) && decide (base ≤ off) && decide (off + len ≤ base + 64 * fld a 47 32)

/-- Whether window `w` is open, and whether it permits a read or a write. -/
def State.winOpen (s : State) (room w : Nat) : Bool := tst (s.rd (rp .shf room) (0x108 + 16 * w)) 15
def State.winPermits (s : State) (room w : Nat) (write : Bool) : Bool :=
  tst (s.rd (rp .shf room) (0x108 + 16 * w)) (if write then 13 else 14)

/-- The NACK code of a Shelf access by a Suite, or none where it is delivered (R227, R228, R300). -/
def State.winRefuses (s : State) (room suite off len : Nat) (write : Bool) : Option Nat :=
  if s.suiteOf room = some suite then none
  else if s.suiteOf room = none then some 1
  else if (List.range 16).any (fun w => s.winCovers room suite off len w && s.winOpen room w && s.winPermits room w write) then none
  else if (List.range 16).any (fun w => s.winCovers room suite off len w && !s.winOpen room w) then some 2
  else some 1

/-- An access at the Shelf port of a Room: refused, dark, unmapped or performed (R36, R213, R216, R228, R581). -/
def State.shelfPort (s : State) (room off len : Nat) (data : Option (List Byte)) (suite : Nat) (who : Nat := 0x43) : State × PortRes :=
  if s.roomOn room ∧ s.dark room then (s, .nack 4)
  else
    match s.winRefuses room suite off len data.isSome with
    | some 2 => (s.bump (rp .shf room) 0x0B0 63 32 1, .nack 2)
    | some c => (s, .nack c)
    | none =>
      let n := match data with | none => len | some vs => vs.length
      let st := if s.shelfLit room off n then 0 else if off + max n 1 ≤ 0x300000 then 2 else 1
      match data with
      | none =>
        let r := s.shelfLd room off len who
        if r.2.2 then (r.1, .ok st r.2.1) else (r.1, .nack 3)
      | some vs =>
        let r := s.shelfSt room off who vs
        if r.2 then (r.1, .ok st []) else (r.1, .nack 3)

/-- The EID of a unit of the Eaves position of a port for a Room: T by R281, or in degraded mode the nearer E or W position of the Room's own
Wing row where the position's ports do not reach it (R389, R568). -/
def State.portEid (s : State) (edge pos room unit : Nat) : Nat :=
  let row (p : Nat) : Nat := match s.fence with | some f => 16 * (if f < p then p - 1 else p) + roomY room % 16 | none => 16 * p + roomY room % 16
  let e := match s.fence with
    | none => eidEaves edge (eavesT room edge pos) 0
    | some f =>
      if fenceReaches f room edge pos then eidEaves edge (if edge % 2 = 0 then eavesT room edge pos else row pos) 0
      else
        let own := roomY room / 16 + (if f ≤ roomY room / 16 then 1 else 0)
        eidEaves (if edge = 1 ∨ (edge % 2 = 0 ∧ 4 ≤ pos) then 1 else 3) (row own) 0
  e + unit

/-- A request sent into the Hall from an Eaves endpoint, whose reply is awaited under a new tag (R279, R389). -/
def State.requestEdge (s : State) (p : Pkt) (u : ReqUse) : State :=
  let t := s.nextTag % 65536
  let s := s.injectEdge p.src { p with tag := t }
  { s with outst := s.outst ++ [⟨t, p.src, u⟩], nextTag := s.nextTag + 1 }

/-- The address a page packet carries for a register of a logical Room (R38, R40). -/
def pageAddr (room slot off : Nat) : Nat := 0x40000000 + room * 0x10000 + slot * 0x1000 + off

end Sys2Proof.Machine
end

