-- ==== Sys2Proof/Machine/Yazal.lean ====
section
/-!
DEFINITION. Yazal streams: contexts, sending, receiving, reliability and congestion control (R380 to R396, R404 to R407).

Times inside a context are kept in units of 2^-8 ET and windows in units of 2^-32 packet, each quotient rounded down (DESIGN CHOICE: the spec
gives the rules of R394 and RFC 6298 without their number formats).
-/

namespace Sys2Proof.Machine

/-! ### Contexts -/

/-- The page of home engine `h`, and the home of a stream (R381, R406). -/
def yzl (h : Nat) : PageRef := ⟨.yzl, h⟩
def homeOf (n : Nat) : Nat := n % 32

/-- Fields of a context (R382). -/
def YCtx.mode (x : YCtx) : Nat := fld (x.w 0) 61 61
def YCtx.cls (x : YCtx) : Nat := fld (x.w 0) 60 59
def YCtx.suite (x : YCtx) : Nat := fld (x.w 0) 58 53
def YCtx.epoch (x : YCtx) : Nat := fld (x.w 0) 52 45
def YCtx.keep (x : YCtx) : Bool := tst (x.w 0) 39
def YCtx.peer (x : YCtx) : Nat := fld (x.w 0) 35 20
def YCtx.peerStream (x : YCtx) : Nat := fld (x.w 0) 19 0
def YCtx.sqLog2 (x : YCtx) : Nat := min 15 (max 4 (fld (x.w 1) 55 52))
def YCtx.sqBase (x : YCtx) : Nat := fld (x.w 1) 47 5 * 32
def YCtx.ciAddr (x : YCtx) : Nat := fld (x.w 2) 47 3 * 8
def YCtx.dkind (x : YCtx) : Nat := fld (x.w 3) 63 60
def YCtx.notify (x : YCtx) : Nat := fld (x.w 3) 57 56
def YCtx.latchNo (x : YCtx) : Nat := fld (x.w 3) 55 48
def YCtx.pid (x : YCtx) : Nat := fld (x.w 3) 46 40
def YCtx.droom (x : YCtx) : Nat := fld (x.w 3) 37 24
def YCtx.index (x : YCtx) : Nat := fld (x.w 3) 20 16
def YCtx.slot (x : YCtx) : Nat := fld (x.w 3) 9 8
def YCtx.dbase (x : YCtx) : Nat := fld (x.w 4) 47 0
def YCtx.dlen (x : YCtx) : Nat := fld (x.w 5) 47 0

/-- A context changed. -/
def State.modYctx (s : State) (n : Nat) (f : YCtx → YCtx) : State := s.setYctx n (f (s.yctx n))

/-- Whether a context is pinned: unacknowledged sends, packets not delivered, or completions awaited (R381). -/
def YCtx.pinned (x : YCtx) : Bool := !x.sent.isEmpty || !x.rgot.isEmpty || !x.asm.isEmpty || !x.descs.isEmpty

/-- Contexts a home engine caches (R381). -/
def State.hotOf (s : State) (h : Nat) : List Nat := smGet [] s.rim.hot h
def State.setHot (s : State) (h : Nat) (l : List Nat) : State := { s with rim := { s.rim with hot := smSet [] s.rim.hot h l } }

/-- Whether a context is cached; one that is becomes the most recently used. -/
def State.isHot (s : State) (n : Nat) : Bool := (s.hotOf (homeOf n)).contains n
def State.touch (s : State) (n : Nat) : State := s.setHot (homeOf n) ((s.hotOf (homeOf n)).filter (· ≠ n) ++ [n])

/-- A context miss: counted once, and the read from the store begins (R381). -/
def State.ctxMiss (s : State) (n : Nat) : State :=
  if s.rim.fills.contains n then s
  else { s with rim := { s.rim with fills := s.rim.fills ++ [n] } }.bump (yzl (homeOf n)) 0x098 31 0 1

/-- The cached contexts of the set of `n`; which set a context falls in is not stated, and matters only where a set could be full (R381). -/
def State.setMates (s : State) (n : Nat) : List Nat :=
  let l := s.hotOf (homeOf n)
  if l.length < 8 then [] else l.filter fun m => Config.ctxSet m % 256 = Config.ctxSet n % 256

/-- EA of a context's 256 bytes in the stream-context store (R380). -/
def State.ctxEA (s : State) (n : Nat) : Nat := s.rdF (gp .yzlg) 0x098 47 28 * 2 ^ 28 + 256 * n

/-- A context written to the store: its configuration words, and hardware state whose layout is open (R380, R382). -/
def State.ctxSave (s : State) (n : Nat) : State :=
  match s.decodeEa (s.ctxEA n) with
  | .cellar st off =>
    let words := ((List.range 8).map fun k => (s.yctx n).w k) ++ (List.range 24).map fun k => Config.freeAt s.free k
    (({ s with free := s.free + 1 } : State).cellarAccess st off 256 (some (ofWords words)) 0 0 true []).1
  | _ => s

/-- A context read from the store, with the standing of Porch firmware: its configuration words are what lies there (R380, R381). -/
def State.ctxLoad (s : State) (n : Nat) : State :=
  match s.decodeEa (s.ctxEA n) with
  | .cellar st off =>
    let r := s.cellarAccess st off 256 none 0 0 true []
    (match r.2 with
     | .ok d => r.1.modYctx n fun x => { x with cfg := (toWords d).take 8 }
     | _ => r.1)
  | _ => s

/-- A context brought into its set: the least recently used unpinned one is written back and leaves where the set is full; false where all are pinned
(R381). -/
def State.fillCtx (s : State) (n : Nat) : State × Bool :=
  let mates := s.setMates n
  if mates.length < 8 then (s.touch n, true)
  else
    match mates.find? fun m => !(s.yctx m).pinned with
    | some m => (((s.ctxSave m).setHot (homeOf n) ((s.hotOf (homeOf n)).filter (· ≠ m))).touch n, true)
    | none => (s, false)

/-- MSS in bytes (R387, R404). -/
def State.mss (s : State) : Nat := 1024 * 2 ^ s.rdF (gp .yzlg) 0x0B0 17 16

/-- Fields of YZLG_TIMERS and YZLG_CC (R404). -/
def State.streamUs (s : State) : Nat := s.rdF (gp .yzlg) 0x0A8 23 0
def State.rtoMinUs (s : State) : Nat := s.rdF (gp .yzlg) 0x0A8 31 24
def State.retryMax (s : State) : Nat := s.rdF (gp .yzlg) 0x0A8 35 32
def State.holdUs (s : State) : Nat := s.rdF (gp .yzlg) 0x0A8 47 36
def State.keepUs (s : State) : Nat := s.rdF (gp .yzlg) 0x0A8 63 48

/-! ### Failure -/

/-- What a reserved Draught amount loses when its stream fails (R503). -/
def State.draughtLost (s : State) (n : Nat) : State :=
  (List.range 4).foldl (fun s k =>
    let w := s.rd (gp .dmpg) (0x100 + 8 * k)
    let p := smGet ⟨0, none, none, 0, 0⟩ s.rim.peers k
    if tst w 63 ∧ fld w 19 0 = n ∧ (p.resv ≠ 0 ∨ p.give.isSome) then
      let s := { s with rim := { s.rim with peers := smSet ⟨0, none, none, 0, 0⟩ s.rim.peers k { p with resv := 0, give := none } } }
      if p.resv = 0 then s else (s.bump (gp .dmpg) 0x0C8 31 0 p.resv).raise (gp .dmpg) 2 false
    else s) s

/-- A Larder whose stream fails has disappeared (R359). -/
def State.larderGone (s : State) (n : Nat) : State :=
  (List.range 32).foldl (fun s c => (List.range 4).foldl (fun s j => if s.lsEn c j ∧ s.lsStream c j = n then s.larderLost c j false else s) s) s

/-- A mirror whose stream fails ends (R470). -/
def State.mirrorLost (s : State) (n : Nat) : State :=
  s.rim.mirror.foldl (fun s i =>
    let w := s.rd (gp .swpg) (swpgSuite (i / 2))
    if fld w 51 32 ≤ n ∧ n ≤ fld w 51 32 + fld w 54 52 then
      let s := { s with rim := { s.rim with mirror := s.rim.mirror.filter (· ≠ i) } }
      (s.capture (gp .swpg) 0x0D0 (put 63 56 8 ||| put 55 50 (i / 2))).raise (gp .swpg) 3 false
    else s) s

/-- A mirror whose every stream has sent and had acknowledged all that it was given is done (R468). -/
def State.mirrorCheck (s : State) : State :=
  s.rim.mirror.foldl (fun s i =>
    let w := s.rd (gp .swpg) (swpgSuite (i / 2))
    if (List.range (fld w 54 52 + 1)).all fun k => ((s.yctx (fld w 51 32 + k)).descs.all fun d => !d.mirrors (i % 2)) then
      { s with rim := { s.rim with mirror := s.rim.mirror.filter (· ≠ i) } }.raise (gp .swpg) 2 false
    else s) s

/-- A context fails with a cause: its state is kept for reading, the home engine raises YZL_STREAM_FAILED, and what depends on the stream
learns of it (R359, R393, R470, R472, R503). -/
def State.yazFail (s : State) (n cause : Nat) (injected : Bool) : State :=
  let x := s.yctx n
  if x.state ≠ 1 then s
  else
    let s := s.setYctx n { x with cfg := x.cfg.set 0 (setFld (setFld (x.w 0) 63 62 2) 44 40 cause) }
    let p := yzl (homeOf n)
    let s := (s.capture p 0x080 (put 63 56 0x01 ||| put 51 32 n)).raise p 0 injected
    let s := ((s.larderGone n).mirrorLost n).draughtLost n
    if (s.suite x.suite).isSome ∧ (s.restart x.suite).st = 0 ∧ tst (s.rd (gp .swpg) (swpgSuite x.suite)) 63 ∧ cause ≠ 8 then
      s.startJobHalt x.suite (Page.yzl.cls * 256 + 0x01) s.et
    else s

/-! ### Packets -/

/-- A number in a 64-bit field of a header word. -/
def w64 (v : Nat) : W64 := BitVec.ofNat 64 v

/-- PCHECK: CRC-64 over DST_ENGINE, STREAM, SEQ and the payload (R384). -/
def pcheck (dst stream seq : Nat) (data : List Byte) : W64 :=
  crcOf 0 (beTo 2 dst ++ beTo 3 (stream % 2 ^ 20) ++ beTo 4 seq ++ data)

/-- A Yazal packet sent from a port (R374, R383, R395). -/
def State.yazOut (s : State) (port cls dst stream seq : Nat) (w : List W64) (data : List Byte) : State :=
  let s := s.wr (cvuxPage (128 + port)) 0x100 (pcheck dst stream seq data)
  let words := w ++ [pcheck dst stream seq data]
  let me := s.portIp s.engineId port
  let dest := s.portIp dst port
  let udp := udpBytes me dest (0xC000 + (stream + seq) % 16384) (s.rdF (gp .yzlg) 0x080 31 16) (words.flatMap (fun v => beTo 8 v.toNat) ++ data)
  s.sendIp port cls dest 17 udp

/-- Word 0 of a packet (R383). -/
def yazWord0 (ptype cls : Nat) (first last : Bool) (stream src dst : Nat) : W64 :=
  put 63 60 1 ||| put 59 56 ptype ||| put 55 54 cls ||| put 53 53 (b2n first) ||| put 52 52 (b2n last) ||| put 51 32 stream |||
    put 31 16 src ||| put 15 0 dst

/-- One DATA packet of a context put on a port. -/
def State.yazPut (s : State) (n : Nat) (p : YSent) : State :=
  let x := s.yctx n
  s.yazOut p.port p.cls x.peer x.peerStream p.seq
    [yazWord0 0 p.cls p.first p.last x.peerStream s.engineId x.peer, put 63 32 p.seq ||| put 31 0 s.et, put 63 16 p.off ||| put 13 0 p.data.length,
     put 63 56 x.epoch ||| put 55 48 p.mtype ||| put 39 32 p.port] p.data

/-- The ACK of a context (R383, R392). -/
def State.yazAckNow (s : State) (n port : Nat) : State :=
  let x := s.yctx n
  let sack := (List.range 64).foldl (fun v j => if x.rgot.any (fun e => e.1 = x.rcum + 1 + j) then v ||| w64 (2 ^ j) else v) 0
  let s := s.setYctx n { x with toAck := 0, ackDue := none, ce := 0, idle := s.et }
  s.yazOut port 0 x.peer x.peerStream (x.rcum % 2 ^ 32)
    [yazWord0 1 0 false false x.peerStream s.engineId x.peer, put 63 32 x.rcum ||| put 31 0 x.lastTs, sack,
     put 63 56 x.epoch ||| put 47 40 (min 255 x.ce) ||| put 39 32 port] []

/-- A RESET that answers a packet for a stream that is not open (R388): it names the stream the context knows as its peer. -/
def State.yazReset (s : State) (n port dst epoch reason : Nat) : State :=
  let st := (s.yctx n).peerStream
  s.yazOut port 0 dst st 0 [yazWord0 2 0 false false st s.engineId dst, 0, 0, put 63 56 epoch ||| put 39 32 port ||| put 7 0 reason] []

/-! ### Arrivals a stream makes -/

/-- The EID of a port's Yazal engine for a Room (R281, R389). -/
def State.yazEid (s : State) (port room : Nat) : Nat := s.portEid (port / 16) (port / 2 % 8) room 2

/-- An arrival at a Room Latch, as an ELA WRITE to LCH_ARRIVE (R324, R391). -/
def State.yazLatch (s : State) (n port room latch pid : Nat) : State :=
  let src := s.yazEid port room
  s.requestEdge (mkWrite (eidRoom room 0) src (s.yctx n).suite (pageAddr room 7 0x0A8) (leTo 8 ((pid % 128) * 256 + latch % 64)))
    (.yazal n (2 ^ 40))

/-- The NOTIFY arrival of a context (R382, R385, R391). -/
def State.yazNotify (s : State) (n port : Nat) : State :=
  let x := s.yctx n
  match x.notify with
  | 1 => s.yazLatch n port x.droom x.latchNo x.pid
  | 2 => s.gArriveRemote x.latchNo x.pid x.suite false
  | _ => s

/-! ### Reading and writing memory for a stream -/

/-- A read by a home engine for a Suite: the bytes, or none for a NACK, uncorrectable data or an unmapped address (R385, R393). -/
def State.suiteRead (s : State) (suite h a len : Nat) : State × Option (List Byte) :=
  match s.decodeEa a with
  | .cellar st off =>
    let r := s.cellarAccess st off len none suite (eidEaves (h / 8) 0 2) false []
    (match r.2 with | .ok d => (r.1, some d) | _ => (r.1, none))
  | .shelf room off =>
    let r := s.shelfPort room off len none suite
    (match r.2 with | .ok 1 _ => (r.1, none) | .ok _ d => (r.1, some d) | .nack _ => (r.1, none))
  | _ => (s.celMiss a, none)

/-- A write by a home engine for a Suite; false where it is refused. -/
def State.suiteWrite (s : State) (suite h a : Nat) (vs : List Byte) : State × Bool :=
  match s.decodeEa a with
  | .cellar st off =>
    let r := s.cellarAccess st off vs.length (some vs) suite (eidEaves (h / 8) 0 2) false []
    (match r.2 with | .denied => (r.1, false) | .eccUe => (r.1, false) | _ => (r.1, true))
  | .shelf room off =>
    let r := s.shelfPort room off vs.length (some vs) suite
    (match r.2 with | .nack _ => (r.1, false) | _ => (r.1, true))
  | _ => (s.celMiss a, true)

/-- A read by the Sweep unit for a mirror, with the standing of Porch firmware (R461, R468). -/
def State.fwRead (s : State) (a len : Nat) : State × Option (List Byte) :=
  match s.decodeEa a with
  | .cellar st off =>
    let r := s.cellarAccess st off len none 0 0 true []
    (match r.2 with | .ok d => (r.1, some d) | _ => (r.1, none))
  | _ => (s, none)

/-- A read and a write for a context's Suite. -/
def State.yazRead (s : State) (n a len : Nat) : State × Option (List Byte) := s.suiteRead (s.yctx n).suite (homeOf n) a len
def State.yazWrite (s : State) (n a : Nat) (vs : List Byte) : State × Bool := s.suiteWrite (s.yctx n).suite (homeOf n) a vs

/-! ### Delivery -/

/-- Placements of one packet of a SHELF stream: WRITEs from the arrival position, each awaited; bytes beyond DLEN fail the stream (R389). -/
def State.yazShelf (s : State) (n q : Nat) (e : YRecv) : State :=
  let x := s.yctx n
  let room := x.droom
  let keep := e.data.take (x.dlen - e.off)
  let parts := (List.range (ceilDiv keep.length 992)).map fun k => ((keep.drop (992 * k)).take 992, 992 * k)
  let src := s.yazEid e.port room
  let s := parts.foldl (fun s c => s.requestEdge (mkWrite (eidRoom room 1) src x.suite (shelfEA room (x.dbase + e.off + c.2)) c.1) (.yazal n q)) s
  let s := s.modYctx n fun x => { x with rgot := smSet ⟨false, false, 0, 0, 0, [], 0, false, 0⟩ x.rgot q { e with data := [], placed := true, out := parts.length } }
  if x.dlen < e.off + e.data.length then s.yazFail n 5 false else s

/-- The packet put nowhere, the default of the map of received packets. -/
def YRecv.none : YRecv := ⟨false, false, 0, 0, 0, [], 0, false, 0⟩

/-- A received packet replaced or removed. -/
def State.setRecv (s : State) (n q : Nat) (e : YRecv) : State := s.modYctx n fun x => { x with rgot := smSet .none x.rgot q e }
def State.dropRecv (s : State) (n q : Nat) : State := s.modYctx n fun x => { x with rgot := smDel x.rgot q }

/-- Placement of one packet of a CELLAR stream (R389). -/
def State.yazCellar (s : State) (n q : Nat) (e : YRecv) : State :=
  let x := s.yctx n
  let keep := e.data.take (x.dlen - e.off)
  let r := if keep = [] then (s, true) else s.yazWrite n (x.dbase + e.off) keep
  let s := r.1.setRecv n q { e with data := [], placed := true, out := 0 }
  if !r.2 then s.yazFail n 4 false else if x.dlen < e.off + e.data.length then s.yazFail n 5 false else s

/-- Whether a packet of a direct stream may be placed now: at once, but in class CHECKPOINT only after every earlier message has completed
(R389, R469). -/
def YCtx.mayPlace (x : YCtx) (q : Nat) : Bool :=
  decide (x.cls ≠ 3) ||
    (List.range (q - x.dseq)).all fun k => match x.rgot.find? (fun e => e.1 = x.dseq + k) with | some e => !e.2.last | none => false

/-- Every packet of a direct stream that may be placed and is not, placed. -/
def State.yazPlaceAll (s : State) (n : Nat) : State :=
  let x := s.yctx n
  if x.dkind ≠ 1 ∧ x.dkind ≠ 2 then s
  else
    x.rgot.foldl (fun s e =>
      let x := s.yctx n
      if x.state ≠ 1 ∨ e.2.placed ∨ (e.2.cls = 0 ∧ e.2.mtype < 0x80) ∨ !x.mayPlace e.1 then s
      else if x.dkind = 1 then s.yazShelf n e.1 e.2 else s.yazCellar n e.1 e.2) s

/-- Message of a message ring: records of at most 992 bytes placed one after another, where they fit (R250, R251, R390); none where HEAD leaves no
room, and false where an access is refused. -/
def State.ringPut (s : State) (n : Nat) (msg : List Byte) : State × Option Bool :=
  let x := s.yctx n
  let base := shelfEA x.droom x.dbase
  let total := (x.dlen - 64) / 16
  let h := s.yazRead n base 8
  match h.2 with
  | none => (h.1, some false)
  | some hb =>
    let s := h.1
    let head := leOf hb % max 1 total
    let parts := (List.range (max 1 (ceilDiv msg.length 992))).map fun k => (msg.drop (992 * k)).take 992
    let step (a : Nat × Nat) (d : List Byte) : Nat × Nat :=
      let pl := placeRec total a.1 (recUnits d.length)
      (pl.2.2, a.2 + pl.2.1 + recUnits d.length)
    let need := (parts.foldl step (x.rtail, 0)).2
    let used := (x.rtail + total - head) % max 1 total
    if total ≤ used + need then (s, none)
    else
      let go (a : State × Bool) (d : List Byte) : State × Bool :=
        let x := a.1.yctx n
        let pl := placeRec total x.rtail (recUnits d.length)
        let w := a.1.drawWord
        let pad := if pl.2.1 = 0 then (w.1, true)
          else w.1.yazWrite n (base + 64 + 16 * x.rtail) (ofWords [recHead0 1 0 0 0 (16 * pl.2.1 - 16), 0])
        let body := d ++ List.replicate (16 * (recUnits d.length - 1) - d.length) 0
        let r := if body = [] then pad else (let r := pad.1.yazWrite n (base + 64 + 16 * (pl.1 + 1)) body; (r.1, r.2 && pad.2))
        let q := r.1.yazWrite n (base + 64 + 16 * pl.1)
          (ofWords [recHead0 0 (fld w.2 3 0) 0 (fld w.2 31 16) d.length, recHead1 x.rseq (fld w.2 37 32) x.peer])
        let t := q.1.yazWrite n (base + 8) (leTo 8 pl.2.2)
        (t.1.modYctx n fun x => { x with rtail := pl.2.2, rseq := (x.rseq + 1) % 2 ^ 32 }, a.2 && r.2 && q.2 && t.2)
      let r := parts.foldl go (s, true)
      (r.1, some r.2)

/-- A message for a Stockpot, sent as REDUCE packets of at most 41 records (R389). -/
def State.yazStock (s : State) (n q port off : Nat) (msg : List Byte) : State :=
  let x := s.yctx n
  let nrec := msg.length / 24
  let first := off % 256
  let parts := (List.range (ceilDiv nrec 41)).map fun k => (first + 41 * k, (msg.drop (984 * k)).take (min 41 (nrec - 41 * k) * 24))
  let src := s.yazEid port x.droom
  let s := parts.foldl (fun s c =>
    s.requestEdge { Pkt.mk0 6 (eidRoom x.droom 3) src x.suite with
      len := c.2.length, data := c.2, w2 := put 20 16 x.index ||| put 15 8 c.1 ||| put 5 0 (c.2.length / 24) } (.yazal n q)) s
  match (s.yctx n).rgot.find? (fun e => e.1 = q) with
  | some e => s.setRecv n q { e.2 with data := [], placed := true, out := parts.length }
  | none => s

/-- A message of a Larder: its prefix and bytes (R356, R357). -/
def State.yazLarder (s : State) (n : Nat) (msg : List Byte) : State :=
  let x := s.yctx n
  s.larderData x.index x.slot (leOf (msg.take 1)) (leOf ((msg.drop 1).take 8)) ((msg.drop 16).take (leOf ((msg.drop 9).take 4)))

/-- CHECK and ABORT messages of a Larder (R356, R358, R359). -/
def State.larderMsg (s : State) (n mtype : Nat) (d : List Byte) : State :=
  let x := s.yctx n
  if x.dkind ≠ 5 then s
  else if mtype = 0x41 then s.larderCheck x.index x.slot (leOf (d.take 1)) (leOf ((d.drop 1).take 8)) (w64 (leOf ((d.drop 9).take 8)))
  else if mtype = 0x42 ∧ s.lsEn x.index x.slot ∧ leOf (d.take 1) = s.lsSession x.index x.slot then s.larderLost x.index x.slot false
  else s

/-- Whether a CONTROL message of the engine waits for its own command once it is next in order (R391, R396). -/
def ownCommand (mtype : Nat) : Bool := decide (mtype ∈ [0x01, 0x02, 0x03, 0x10, 0x20, 0x30])

/-- The next packet in order is done: it is removed, and the last of a program's message makes the NOTIFY arrival (R391). -/
def State.yazDone (s : State) (n : Nat) (e : YRecv) : State :=
  let q := (s.yctx n).dseq
  let s := (s.dropRecv n q).modYctx n fun x => { x with dseq := x.dseq + 1 }
  if e.last ∧ !(e.cls = 0 ∧ e.mtype < 0x80) then s.yazNotify n e.port else s

/-- One step of delivery in SEQ order; true where the next packet may be looked at (R389 to R391). -/
def State.yazStep (s : State) (n : Nat) : State × Bool :=
  let x := s.yctx n
  match (if x.state = 1 then x.rgot.find? (fun e => e.1 = x.dseq) else none) with
  | none => (s, false)
  | some (q, e) =>
    if e.cls = 0 ∧ e.mtype < 0x80 then
      if ownCommand e.mtype then (s, false)
      else if e.mtype = 0x40 ∨ e.mtype = 0x41 ∨ e.mtype = 0x42 then ((s.yazDone n e).larderMsg n e.mtype e.data, true)
      else (s.yazFail n 6 false, false)
    else
      let msg := if e.first then e.data else x.asm ++ e.data
      let off := if e.first then e.off else x.asmOff
      let asm (s : State) : State := s.modYctx n fun x => { x with asm := if e.last then [] else msg, asmOff := off }
      match x.dkind with
      | 0 => if e.cls ≠ 0 then (s.yazFail n 5 false, false) else (s.yazDone n e, true)
      | 1 => if e.placed ∧ e.out = 0 then (s.yazDone n e, true) else (s, false)
      | 2 => if e.placed ∧ e.out = 0 then (s.yazDone n e, true) else (s, false)
      | 3 =>
        if !e.last then ((asm s).yazDone n e, true)
        else
          let r := s.ringPut n msg
          (match r.2 with
           | none => (r.1, false)
           | some true => ((asm r.1).yazDone n e, true)
           | some false => (r.1.yazFail n 4 false, false))
      | 4 =>
        if e.placed then (if e.out = 0 then (s.yazDone n e, true) else (s, false))
        else if !e.last then ((asm s).yazDone n e, true)
        else if msg.length % 24 ≠ 0 ∨ 256 * 24 < msg.length then (s.yazFail n 5 false, false)
        else ((asm s).yazStock n q e.port off msg, true)
      | 5 => if e.last then (((asm s).yazDone n e).yazLarder n msg, true) else ((asm s).yazDone n e, true)
      | _ => (s.yazFail n 5 false, false)

/-- Placement and delivery carried as far as they go. -/
def State.yazDeliver (s : State) (n : Nat) : Nat → State
  | 0 => s
  | fuel + 1 =>
    let r := (s.yazPlaceAll n).yazStep n
    if r.2 then r.1.yazDeliver n fuel else r.1

/-- A reply to a placement of a stream: acknowledged, or a NACK that fails the stream with DELIVERY (R389, R391). -/
def State.yazReplied (s : State) (n q : Nat) (ok : Bool) : State :=
  if !ok then s.yazFail n 4 false
  else
    match (s.yctx n).rgot.find? (fun e => e.1 = q) with
    | some (_, e) => (s.setRecv n q { e with out := e.out - 1 }).yazDeliver n 300
    | none => s

/-- The message that waits for its own command, taken from a stream: type, payload and arrival port (R391, R396). -/
def State.yazTake (s : State) (n mtype : Nat) : State × Option (YRecv) :=
  let x := s.yctx n
  match (if x.state = 1 then x.rgot.find? (fun e => e.1 = x.dseq) else none) with
  | some (_, e) => if e.cls = 0 ∧ e.mtype = mtype then (s.yazDone n e, some e) else (s, none)
  | none => (s, none)

/-- HELLO: a probe delivered does nothing more (R396). -/
def execHello (n : Nat) (s : State) : Host.Outcome State Fault Refusal :=
  .next ((s.yazTake (n % 2 ^ 20) 0x01).1.yazDeliver (n % 2 ^ 20) 300)

/-- LATCH_ARRIVE: a cross-engine arrival made in SEQ order; its payload is a Latch identifier with the PID or remote index in bits 30:24
(R242, R318, R328, R391). -/
def State.latchMsg (s : State) (n : Nat) (e : YRecv) : State :=
  let v := leOf e.data
  let x := s.yctx n
  let pid := v / 2 ^ 24 % 128
  if v.testBit 8 then s.gArriveRemote (v % 256) pid x.suite false
  else s.yazLatch n e.port (if v.testBit 46 then x.droom else v / 2 ^ 32 % 16384) (v % 64) pid

/-- LATCH_ARRIVE (R391). -/
def execLatchArrive (n : Nat) (s : State) : Host.Outcome State Fault Refusal :=
  let n := n % 2 ^ 20
  let r := s.yazTake n 0x10
  match r.2 with
  | some e => .next ((r.1.latchMsg n e).yazDeliver n 300)
  | none => .next s

/-! ### Receiving -/

/-- Bytes a home engine holds for streams delivered in order (R389). -/
def State.reorderHeld (s : State) (h : Nat) : Nat :=
  s.rim.ctxs.foldl (fun t e =>
    if homeOf e.1 = h ∧ e.2.dkind ≠ 1 ∧ e.2.dkind ≠ 2 then t + e.2.asm.length + e.2.rgot.foldl (fun m g => m + g.2.data.length) 0 else t) 0

/-- The cumulative number carried past what has been received. -/
def advance (got : SMap YRecv) (c : Nat) : Nat → Nat
  | 0 => c
  | fuel + 1 => if got.any (fun e => e.1 = c) then advance got (c + 1) fuel else c

/-- The full SEQ nearest to a base with the low 32 bits given, and whether it lies below the base. -/
def seqNear (base low : Nat) : Nat × Bool :=
  let d := (low + 2 ^ 32 - base % 2 ^ 32) % 2 ^ 32
  if d < 2 ^ 31 then (base + d, false) else (base + d - 2 ^ 32, true)

/-- A DATA packet that its context accepts (R389 to R392). -/
def State.yazAccept (s : State) (n q : Nat) (p : YIn) : State :=
  let x := s.yctx n
  let w (k : Nat) := p.words.getD k 0
  let cls := fld (w 0) 55 54
  let e : YRecv := ⟨tst (w 0) 53, tst (w 0) 52, cls, fld (w 2) 63 16, fld (w 3) 55 48, p.data, p.port, false, 0⟩
  let got := smSet .none x.rgot q e
  let cum := advance got x.rcum 300
  let now := decide (q ≠ x.rcum) || decide (cls = 0) || decide (4 ≤ x.toAck + 1)
  let due := match x.ackDue with | some t => t | none => s.et + usToEt 2
  let s := s.setYctx n { x with rgot := got, rcum := cum, toAck := x.toAck + 1, ackDue := some due, lastTs := fld (w 1) 31 0, idle := s.et }
  let s := if now then s.yazAckNow n p.port else s
  s.yazDeliver n 300

/-- A DATA packet at its home engine (R388). -/
def State.yazData (s : State) (n : Nat) (p : YIn) : State :=
  let x := s.yctx n
  let h := homeOf n
  let w (k : Nat) := p.words.getD k 0
  if x.state ≠ 1 ∨ x.mode ≠ 0 ∨ fld (w 0) 31 16 ≠ x.peer then s.yazReset n p.port (fld (w 0) 31 16) (fld (w 3) 63 56) 1
  else if fld (w 3) 63 56 ≠ x.epoch then s.bump (yzl h) 0x090 47 32 1
  else
    let r := seqNear x.rcum (fld (w 1) 63 32)
    let low := if x.dkind = 3 then x.dseq else x.rcum
    let s := s.setYctx n { x with ce := min 255 (x.ce + b2n p.ce), lastTs := fld (w 1) 31 0, idle := s.et }
    if r.2 || x.rgot.any (fun e => e.1 = r.1) then s.yazAckNow n p.port
    else if low + 255 < r.1 then s.bump (yzl h) 0x090 31 16 1
    else if x.dkind ≠ 1 && x.dkind ≠ 2 && decide (r.1 ≠ x.rcum) && decide (4 * 1024 * 1024 < s.reorderHeld h + p.data.length) then
      s.bump (yzl h) 0x090 7 0 1
    else s.yazAccept n r.1 p

/-! ### Sending -/

/-- Ports a context may send on: native ports joined to the peer engine, or else every compatible port that is up (R387). -/
def State.spraySet (s : State) (n : Nat) : List Nat :=
  let x := s.yctx n
  let up := (List.range 64).filter fun p => s.linkUp p
  let nat := up.filter fun p => s.eavMode p = 1 && s.eavSt p 15 0 = x.peer
  let set := if nat = [] then up.filter fun p => s.eavMode p ≠ 1 else nat
  set.filter fun p => !x.excl.any fun e => e.1 = p ∧ s.et < e.2

/-- The next port of a spray set after a port, ascending and wrapping (R387). -/
def nextPort (set : List Nat) (after : Nat) : Option Nat :=
  match set.find? fun p => decide (after < p) with
  | some p => some p
  | none => set.head?

/-- RTO of a context in ET, doubled for each timeout in a row up to 2 ms (R392, R394). -/
def State.rto (s : State) (x : YCtx) : Nat :=
  let base := max (usToEt s.rtoMinUs) (ceilDiv (x.srtt + 4 * x.rttvar) 256)
  max base (min (base * 2 ^ min x.backo 16) (usToEt 2000))

/-- The lowest SEQ not acknowledged. -/
def YCtx.una (x : YCtx) : Nat := match x.sent with | p :: _ => p.seq | [] => x.seq

/-- A packet is given the next SEQ and port and sent (R387, R394). -/
def State.yazSendNew (s : State) (n port : Nat) (p : YSent) : State :=
  let x := s.yctx n
  let p := { p with seq := x.seq, port := port, at_ := s.et, tries := 0 }
  let s := s.setYctx n { x with
    seq := x.seq + 1, sent := x.sent ++ [p], lastP := port, idle := s.et, heldAt := none
    prog := if x.sent = [] then s.et else x.prog
    paced := if p.cls = 0 then x.paced else max x.paced (256 * s.et) + x.srtt * 2 ^ 32 / max 1 x.cwnd }
  (((if s.isHot n then s.touch n else s).bump (yzl (homeOf n)) 0x088 63 32 1)).yazPut n p

/-- A descriptor's length (R385). -/
def YDesc.len (d : YDesc) : Nat := fld (d.words.getD 0 0) 31 0
def YDesc.op (d : YDesc) : Nat := fld (d.words.getD 0 0) 63 56

/-- The descriptor that is being cut into packets. -/
def YCtx.cutting (x : YCtx) : Option YDesc := x.descs.find? fun d => decide (d.cut < d.len)

/-- A descriptor's progress recorded. -/
def YCtx.cutTo (x : YCtx) (idx cut : Nat) : YCtx := { x with descs := x.descs.map fun d => if d.idx = idx then { d with cut } else d }

/-- PACED_SEND: the next packet of a context leaves: engine-made CONTROL messages first, then the descriptor in progress, whose data is limited by
the congestion window and the pace; every packet lies in the receive window; an empty spray set holds the sends (R385, R387, R394). -/
def State.pacedSend (s : State) (n : Nat) : State :=
  let x := s.yctx n
  if x.state ≠ 1 ∨ x.mode ≠ 0 then s
  else if !s.isHot n then (if x.ctl = [] ∧ x.cutting = none then s else s.ctxMiss n)
  else if x.una + 256 ≤ x.seq then s
  else
    let work := decide (x.ctl ≠ []) || x.cutting.isSome
    match nextPort (s.spraySet n) x.lastP with
    | none => if work ∧ x.sent = [] ∧ x.heldAt = none then s.setYctx n { x with heldAt := some s.et } else s
    | some port =>
      match x.ctl with
      | (m, d) :: rest => (s.setYctx n { x with ctl := rest }).yazSendNew n port ⟨0, 0, 0, 0, 0, true, true, 0, m, d, none⟩
      | [] =>
        (match x.cutting with
         | none => s
         | some d =>
           let w (k : Nat) := d.words.getD k 0
           if d.op = 2 then
             let data := (ofWords [w 1, w 2]).take d.len
             (s.setYctx n (x.cutTo d.idx d.len)).yazSendNew n port ⟨0, 0, 0, 0, 0, true, true, 0, fld (w 0) 55 48, data, some d.idx⟩
           else if (x.sent.length * 2 ^ 32 < x.cwnd ∨ x.sent = []) ∧ x.paced ≤ 256 * s.et then
             let k := min s.mss (d.len - d.cut)
             let r := if d.idx < 65536 then s.yazRead n (fld (w 1) 47 0 + d.cut) k else s.fwRead (fld (w 1) 47 0 + d.cut) k
             (match r.2 with
              | none => r.1.yazFail n 7 false
              | some data =>
                (r.1.setYctx n ((r.1.yctx n).cutTo d.idx (d.cut + k))).yazSendNew n port
                  ⟨0, 0, 0, 0, x.cls, decide (d.cut = 0), decide (d.len ≤ d.cut + k), fld (w 2) 47 0 + d.cut, 0, data, some d.idx⟩)
           else s)

/-- Whether the words of a descriptor keep the rules of its OP (R385, R396). -/
def descOk (mode : Nat) (w : List W64) : Bool :=
  let w0 := w.getD 0 0
  let op := fld w0 63 56
  let len := fld w0 31 0
  let z (k hi lo : Nat) := decide (fld (w.getD k 0) hi lo = 0)
  z 0 46 32 && decide (1 ≤ len) && z 3 63 32 &&
    (match op with
     | 0x01 => decide (mode = 0) && z 0 55 48 && z 1 63 48 && z 2 63 48 && z 3 31 0
     | 0x02 => decide (mode = 0) && (decide (0x80 ≤ fld w0 55 48) || decide (fld w0 55 48 = 0x10)) && decide (len ≤ 16) && z 3 31 0
     | 0x10 => decide (mode = 1) && z 0 55 48 && z 1 63 48 && z 3 31 0
     | 0x11 | 0x12 => decide (mode = 1) && z 0 55 48 && z 1 63 48
     | _ => false)

/-- The next descriptor of a send queue taken up where its OP is the one asked for; one that breaks its rules fails the stream (R385, R393). -/
def State.descFetch (s : State) (n op : Nat) : State :=
  let x := s.yctx n
  if x.state ≠ 1 ∨ x.fetch = x.pi ∨ x.cutting.isSome then s
  else if !s.isHot n then s.ctxMiss n
  else
    let r := s.yazRead n (x.sqBase + 32 * (x.fetch % 2 ^ x.sqLog2)) 32
    match r.2 with
    | none => r.1.yazFail n 7 false
    | some b =>
      let w := toWords b
      if !descOk x.mode w then r.1.yazFail n 6 false
      else if fld (w.getD 0 0) 63 56 ≠ op then s
      else r.1.modYctx n fun x => { x with fetch := (x.fetch + 1) % 65536, descs := x.descs ++ [⟨x.fetch, w, 0⟩] }

/-- SEND: a SEND descriptor is taken up; PACED_SEND cuts it (R385). -/
def execSend (n : Nat) (s : State) : Host.Outcome State Fault Refusal := .next (s.descFetch (n % 2 ^ 20) 0x01)

/-- CONTROL: a CONTROL descriptor is taken up (R385). -/
def execControl (n : Nat) (s : State) : Host.Outcome State Fault Refusal := .next (s.descFetch (n % 2 ^ 20) 0x02)

/-- Descriptors acknowledged whole leave in order: the consumer index is written to CI_ADDR, and then the descriptor's NOTIFY arrival is made
(R385). -/
def State.descDone (s : State) (n : Nat) : Nat → State
  | 0 => s
  | fuel + 1 =>
    let x := s.yctx n
    match x.descs with
    | [] => s
    | d :: rest =>
      if d.cut < d.len ∨ x.sent.any (fun p => p.desc = some d.idx) then s
      else if 65536 ≤ d.idx then ((s.setYctx n { x with descs := rest }).mirrorCheck).descDone n fuel
      else
        let ci := (x.ci + 1) % 65536
        let s := s.setYctx n { x with descs := rest, ci }
        let r := s.yazWrite n x.ciAddr (leTo 8 ci)
        let s := if r.2 ∧ tst (d.words.getD 0 0) 47 then r.1.yazNotify n x.lastP else r.1
        s.descDone n fuel

/-! ### Acknowledgement, loss and congestion -/

/-- A packet sent again on the next port after its last, counted; at RETRY_MAX retransmissions the stream fails (R392, R393). -/
def State.resend (s : State) (n seq : Nat) : State :=
  let x := s.yctx n
  match x.sent.find? fun p => p.seq = seq with
  | none => s
  | some p =>
    match nextPort (s.spraySet n) p.port with
    | none => s
    | some port =>
      let lost := (x.losses.filter fun e => s.et < e.2 + usToEt s.holdUs) ++ [(p.port, s.et)]
      let out := 2 ≤ (lost.filter fun e => e.1 = p.port).length
      let p' := { p with port, at_ := s.et, tries := p.tries + 1 }
      let s := s.setYctx n { x with
        sent := x.sent.map (fun q => if q.seq = seq then p' else q), lastP := port, idle := s.et
        losses := if out then lost.filter (fun e => e.1 ≠ p.port) else lost
        excl := if out then (x.excl.filter fun e => e.1 ≠ p.port) ++ [(p.port, s.et + usToEt s.holdUs)] else x.excl }
      let s := (s.bump (yzl (homeOf n)) 0x088 31 0 1).yazPut n p'
      if s.retryMax ≤ p.tries + 1 then s.yazFail n 2 false else s

/-- RTT sample of `r` (2^-8 ET) taken into SRTT, RTTVAR and the recent RTTs (R392, R394, RFC 6298). -/
def YCtx.sample (x : YCtx) (r et : Nat) : YCtx :=
  let dev := if r ≤ x.srtt then x.srtt - r else r - x.srtt
  let rtts := ((x.rtts.filter fun e => et < e.2 + 1562500).filter fun e => e.1 < r) ++ [(r, et)]
  if x.srtt = 0 then { x with srtt := r, rttvar := r / 2, rtts }
  else { x with rttvar := (3 * x.rttvar + dev) / 4, srtt := (7 * x.srtt + r) / 8, rtts }

/-- The limits of cwnd: 0.125 to 256 packets (R394). -/
def clampWin (w : Nat) : Nat := min (256 * 2 ^ 32) (max (2 ^ 29) w)

/-- `k` increases of AI / cwnd (R394). -/
def growWin (ai : Nat) : Nat → Nat → Nat
  | 0, w => w
  | k + 1, w => growWin ai k (clampWin (w + ai * 2 ^ 64 / max 1 w))

/-- The target of a context's RTT (R394). -/
def State.rttTarget (s : State) (x : YCtx) (rtt : Nat) : Nat :=
  (match x.rtts with | e :: _ => e.1 | [] => rtt) + 256 * usToEt (max 1 (fld (s.rd (gp .yzlg) 0x0B0) 7 0))

/-- The response of the congestion window to an ACK (R394). -/
def State.respond (s : State) (x : YCtx) (rtt acked ce : Nat) : YCtx :=
  let cc := s.rd (gp .yzlg) 0x0B0
  let target := s.rttTarget x rtt
  let beta := if fld cc 15 12 = 0 then 16 else fld cc 15 12
  let x := { x with ceSeen := x.ceSeen + ce, ackSeen := x.ackSeen + acked }
  let x := if 256 * s.et < 256 * x.alphaAt + x.srtt ∨ x.ackSeen = 0 then x
    else { x with alpha := x.alpha - x.alpha / 16 + min (2 ^ 32) (x.ceSeen * 2 ^ 32 / x.ackSeen) / 16, alphaAt := s.et, ceSeen := 0, ackSeen := 0 }
  if rtt ≤ target ∧ ce = 0 then { x with cwnd := growWin (max 1 (fld cc 11 8)) acked x.cwnd }
  else
    let delay := if target < rtt then x.cwnd * beta * (rtt - target) / (16 * max 1 rtt) else 0
    let ecn := if 0 < ce then x.cwnd * x.alpha / 2 ^ 33 else 0
    if 256 * s.et < 256 * x.decAt + x.srtt then x
    else { x with cwnd := clampWin (x.cwnd - min (x.cwnd / 2) (max delay ecn)), decAt := s.et }

/-- A Yazal ACK (R392 to R394). -/
def State.yazAck (s : State) (n : Nat) (p : YIn) : State :=
  let x := s.yctx n
  let w (k : Nat) := p.words.getD k 0
  if x.state ≠ 1 ∨ x.mode ≠ 0 ∨ fld (w 0) 31 16 ≠ x.peer ∨ fld (w 3) 63 56 ≠ x.epoch then s
  else
    let una := x.una
    let r := seqNear una (fld (w 1) 63 32)
    if r.2 ∨ x.seq < r.1 then s
    else
      let cum := r.1
      let sacked (q : Nat) : Bool := decide (cum < q) && decide (q ≤ cum + 64) && tst (w 2) (q - cum - 1)
      let left := x.sent.filter fun q => decide (cum ≤ q.seq) && !sacked q.seq
      let acked := x.sent.length - left.length
      let rtt := 256 * ((s.et % 2 ^ 32 + 2 ^ 32 - fld (w 1) 31 0) % 2 ^ 32)
      let x := { x with sent := left, idle := s.et, prog := if una < cum then s.et else x.prog, backo := if una < cum then 0 else x.backo }
      let x := if 0 < acked then (x.sample rtt s.et) else x
      let x := s.respond x rtt acked (fld (w 3) 47 40)
      let s := s.setYctx n x
      let above (q : Nat) : Nat := ((List.range 64).filter fun j => tst (w 2) j && decide (q < cum + 1 + j)).length
      let lost := left.filter fun q => decide (3 ≤ above q.seq) && (decide (q.tries = 0) || decide (256 * q.at_ + x.srtt ≤ 256 * s.et))
      let s := lost.foldl (fun s q => s.resend n q.seq) s
      s.descDone n 40000

/-- ACK_DELAY: 2 µs after an acceptance that has not been acknowledged the ACK is sent (R392). -/
def execAckDelay (n port : Nat) (s : State) : Host.Outcome State Fault Refusal :=
  let n := n % 2 ^ 20
  match (s.yctx n).ackDue with
  | some t => if t ≤ s.et ∧ (s.yctx n).state = 1 then .next (s.yazAckNow n (port % 64)) else .next s
  | none => .next s

/-- RTO_EXPIRY: the oldest packet whose timer has run out is resent, and the window halves (R392, R394). -/
def State.rtoExpiry (s : State) (n : Nat) : State :=
  let x := s.yctx n
  if x.state ≠ 1 then s
  else
    match x.sent.find? fun p => decide (p.at_ + s.rto x ≤ s.et) with
    | none => s
    | some p => (s.setYctx n { x with cwnd := clampWin (x.cwnd / 2), backo := x.backo + 1 }).resend n p.seq

/-- PATH_HOLD_EXPIRY: ports whose exclusion has ended return to the spray set (R392). -/
def execPathHoldExpiry (n : Nat) (s : State) : Host.Outcome State Fault Refusal :=
  .next (s.modYctx (n % 2 ^ 20) fun x => { x with excl := x.excl.filter fun e => decide (s.et < e.2) })

/-- STREAM_TIMEOUT: no advance of the cumulative SEQ, or no port to send on, for STREAM_TIMEOUT_US (R387, R393). -/
def execStreamTimeout (n : Nat) (s : State) : Host.Outcome State Fault Refusal :=
  let n := n % 2 ^ 20
  let x := s.yctx n
  let from_ := if x.sent ≠ [] then some x.prog else x.heldAt
  match from_ with
  | some t => if x.state = 1 ∧ t + usToEt s.streamUs ≤ s.et then .next (s.yazFail n 1 false) else .next s
  | none => .next s

/-- KEEPALIVE: an idle stream with KEEPALIVE set sends a HELLO (R393). -/
def execKeepalive (n : Nat) (s : State) : Host.Outcome State Fault Refusal :=
  let n := n % 2 ^ 20
  let x := s.yctx n
  if x.state = 1 ∧ x.keep ∧ x.idle + usToEt s.keepUs ≤ s.et then
    .next ((s.yazCtl n 0x01 []).modYctx n fun x => { x with idle := s.et })
  else .next s

/-! ### Arrival -/

/-- A packet at its home engine, its context cached (R388, R392). -/
def State.yazHandle (s : State) (p : YIn) : State :=
  let w (k : Nat) := p.words.getD k 0
  let n := fld (w 0) 51 32
  match fld (w 0) 59 56 with
  | 0 => s.yazData n p
  | 1 => s.yazAck n p
  | _ => if (s.yctx n).state = 1 ∧ (s.yctx n).mode = 0 ∧ fld (w 3) 63 56 = (s.yctx n).epoch then s.yazFail n 3 false else s

/-- Whether a packet's header keeps R383: version, type, reserved bits and LEN. -/
def yazFormOk (w : List W64) (len : Nat) : Bool :=
  let g (k : Nat) := w.getD k 0
  let pt := fld (g 0) 59 56
  decide (w.length = 5) && decide (fld (g 0) 63 60 = 1) && decide (pt ≤ 2) &&
    (if pt = 0 then decide (fld (g 2) 15 14 = 0) && decide (fld (g 2) 13 0 = len) && decide (len ≤ 8192) && decide (fld (g 3) 47 40 = 0)
        && decide (fld (g 3) 31 0 = 0) && (decide (fld (g 0) 55 54 = 0) || decide (fld (g 3) 55 48 = 0))
      else if pt = 1 then decide (len = 0) && decide (fld (g 0) 55 52 = 0) && decide (fld (g 3) 55 48 = 0) && decide (fld (g 3) 31 0 = 0)
      else decide (len = 0) && decide (fld (g 0) 55 52 = 0) && decide (fld (g 3) 55 40 = 0) && decide (fld (g 3) 31 8 = 0))

/-- A Yazal packet at a port: PCHECK compared in the MAC, the header checked, and its context found or fetched (R381, R383, R384, R413). -/
def State.yazPacket (s : State) (p : YIn) : State :=
  let w0 := p.words.getD 0 0
  let n := fld w0 51 32
  let c := s.cvuxItem (128 + p.port)
  let s := c.1.wr (cvuxPage (128 + p.port)) 0x108 (p.words.getD 4 0)
  if c.2 || decide (pcheck s.engineId n (fld (p.words.getD 1 0) 63 32) p.data ≠ p.words.getD 4 0) then
    s.cvuxError (128 + p.port) n (s.yctx n).suite false false c.2
  else if !yazFormOk p.words p.data.length then s.bump (yzl (p.port / 2)) 0x090 63 48 1
  else
    let s := if p.ce then s.bump (yzl (homeOf n)) 0x098 47 32 1 else s
    if s.isHot n then (s.touch n).yazHandle p
    else { s.ctxMiss n with rim := { (s.ctxMiss n).rim with ctxWait := s.rim.ctxWait ++ [p] } }

/-- A packet given by its parts, where its PTYPE is the one asked for (R374). -/
def State.yazPart (s : State) (pt port : Nat) (ce : Bool) (words : List W64) (data : List Byte) : State :=
  if fld (words.getD 0 0) 59 56 = pt then (if ce then s.ceMark (port % 64) else s).yazPacket ⟨port % 64, ce, words, data⟩ else s

/-- YAZAL_DATA (R388). -/
def execYazalData (port : Nat) (ce : Bool) (words : List W64) (data : List Byte) (s : State) : Host.Outcome State Fault Refusal :=
  .next (s.yazPart 0 port ce words data)

/-- YAZAL_ACK (R392). -/
def execYazalAck (port : Nat) (ce : Bool) (words : List W64) (s : State) : Host.Outcome State Fault Refusal :=
  .next (s.yazPart 1 port ce words [])

/-- YAZAL_RESET (R388). -/
def execYazalReset (port : Nat) (ce : Bool) (words : List W64) (s : State) : Host.Outcome State Fault Refusal :=
  .next (s.yazPart 2 port ce words [])


/-- DOORBELL: the oldest forwarded doorbell write starts its context's send queue, or is refused (R386). -/
def State.doorbell (s : State) (block : Nat) (v : W64) : State :=
  let n := fld v 51 32
  let x := s.yctx n
  let p := yzl (homeOf n)
  let inj := s.isArmed p 1
  let out := (fld v 15 0 + 65536 - x.ci) % 65536
  if inj ∨ x.suite ≠ block ∨ x.state ≠ 1 ∨ 2 ^ x.sqLog2 < out then
    let s := if inj then s.disarm p 1 else s
    ((s.bump p 0x098 63 48 1).capture p 0x080 (put 63 56 0x02 ||| put 51 32 n)).raise p 1 inj
  else s.setYctx n { x with pi := fld v 15 0 }

/-- DOORBELL (R386). -/
def execDoorbell (s : State) : Host.Outcome State Fault Refusal :=
  match s.rim.bells with
  | [] => .next s
  | (b, v) :: l => .next ({ s with rim := { s.rim with bells := l } }.doorbell b v)

/-! ### The context window -/

/-- A changed context kept: in its home engine's cache, or else in the store (R380, R381). -/
def State.ctxKeep (s : State) (n : Nat) : State := if s.isHot n then s else s.ctxSave n

/-- CONTEXT_WRITE: GO in YZLG_CTX_SEL writes the window to the context, only while it is CLOSED or FAILED, or to close it; without WRITE it reads
the context into the window, where words 8 to 31 hold hardware state whose layout is open (R380, R382, R404). -/
def State.contextGo (s : State) (v : W64) : State :=
  let p := gp .yzlg
  let n := fld v 19 0
  let x := s.yctx n
  let s := s.wr p 0x0C0 (put 62 62 (fld v 62 62) ||| put 19 0 n)
  if !tst v 63 then s
  else if tst v 62 then
    let img := (List.range 8).map fun k => s.rd p (0x100 + 8 * k)
    let w0 := setFld (img.getD 0 0) 44 40 (fld (x.w 0) 44 40)
    let st := fld w0 63 62
    if x.state = 1 ∧ st ≠ 0 then s.raise p 2 false
    else if st = 1 then
      (s.setYctx n { YCtx.empty with cfg := setFld w0 44 40 0 :: img.drop 1, idle := s.et, alphaAt := s.et, decAt := s.et, prog := s.et }).ctxKeep n
    else if x.state = 1 then (s.setYctx n { x with cfg := x.cfg.set 0 (setFld (x.w 0) 63 62 0), sent := [], ctl := [], descs := [] }).ctxKeep n
    else (s.setYctx n { x with cfg := w0 :: img.drop 1 }).ctxKeep n
  else
    (List.range 32).foldl (fun s k =>
      s.wr p (0x100 + 8 * k) (if k < 8 then x.w k else Config.freeAt s.free k)) { s with free := s.free + 1 }

/-- CONTEXT_WRITE (R382). -/
def execContextWrite (v : W64) (s : State) : Host.Outcome State Fault Refusal := .next (s.contextGo v)

end Sys2Proof.Machine
end

