-- ==== Sys2Proof/Machine/Roce.lean ====
section
/-!
DEFINITION. RoCEv2 queue pairs (R378, R379) and the handling of received frames (R373 to R375).  IBTA opcodes, syndromes and header places are those
of the IBTA annex that R378 names (PRESUMED).
-/

namespace Sys2Proof.Machine

/-- Remote QPN and port of a QP (R382). -/
def YCtx.rqpn (x : YCtx) : Nat := fld (x.w 5) 23 0
def YCtx.qport (x : YCtx) : Nat := fld (x.w 5) 29 24

/-- The remote address of a QP: an IPv6 address, word 6 its upper half, or the IPv4 address it maps (R374, R382). -/
def State.qpIp (s : State) (x : YCtx) : IpAddr :=
  if s.afV6 then ⟨true, (x.w 6).toNat * 2 ^ 64 + (x.w 7).toNat⟩ else ⟨false, (x.w 7).toNat % 2 ^ 32⟩

/-- A bit of the CRC-32 of IEEE 802.3, least significant bit first. -/
def crc32Bit (c : Nat) : Nat := if c % 2 = 1 then Nat.xor (c / 2) 0xEDB88320 else c / 2

/-- The CRC-32 of IEEE 802.3 over a list of bytes. -/
def crc32 (b : List Byte) : Nat :=
  Nat.xor 0xFFFFFFFF (b.foldl (fun c x => crc32Bit (crc32Bit (crc32Bit (crc32Bit (crc32Bit (crc32Bit (crc32Bit (crc32Bit (Nat.xor c x.toNat))))))))) 0xFFFFFFFF)

/-- The ICRC of a RoCEv2 datagram of IP and UDP headers and payload `b`, its last 4 bytes not yet known: CRC-32 with the fields that change on the way as
ones, eight bytes of ones before them (R378). -/
def roceIcrc (v6 : Bool) (b : List Byte) : Nat :=
  let h := if v6 then 40 else 20
  let ones (i : Nat) : Bool :=
    (if v6 then decide (i ∈ [1, 2, 3, 7]) else decide (i ∈ [1, 8, 10, 11])) || decide (i = h + 6) || decide (i = h + 7) || decide (i = h + 12)
  let at_ (i : Nat) (x : Byte) : Byte := if ones i then 0xFF else if v6 && decide (i = 0) then x ||| 0x0F else x
  crc32 (List.replicate 8 0xFF ++ (((List.range b.length).zip b).map fun e => at_ e.1 e.2).take (b.length - 4))

/-- The transport headers and payload of a RoCEv2 packet: BTH, RETH or AETH, payload padded to 4 bytes; a CNP carries 16 reserved bytes (R378). -/
def roceBytes (qp op psn msn : Nat) (args : List Nat) (data : List Byte) : List Byte :=
  let pad := (4 - data.length % 4) % 4
  let cnp := decide (op = 0x81)
  let ask := decide (op ∈ [2, 4, 8, 10, 12])
  let bth := beTo 1 op ++ beTo 1 (0x40 + 16 * pad) ++ beTo 2 0xFFFF ++ beTo 1 (if cnp then 0x40 else 0) ++ beTo 3 qp ++ beTo 1 (if ask then 0x80 else 0) ++ beTo 3 psn
  let ext := match args with
    | [va, rkey, len] => beTo 8 va ++ beTo 4 rkey ++ beTo 4 len
    | [synd] => beTo 1 synd ++ beTo 3 msn
    | _ => []
  bth ++ ext ++ data ++ List.replicate (if cnp then 16 else pad) 0

/-- A packet of a QP sent on its port, in UDP to port 4791 from the QP's fixed source port; the count of messages completed goes in its AETH (R374, R378). -/
def State.roceOut (s : State) (n op psn : Nat) (args : List Nat) (data : List Byte) : State :=
  let x := s.yctx n
  let me := s.portIp s.engineId x.qport
  let dst := s.qpIp x
  let sport := 0xC000 + Config.rocePort n % 16384
  let p := roceBytes x.rqpn op psn x.dseq args data
  let c := roceIcrc me.v6 (ipBytes me dst (s.classDscp x.cls) 17 (udpBytes me dst sport 4791 (p ++ [0, 0, 0, 0])))
  s.sendIp x.qport x.cls dst 17 (udpBytes me dst sport 4791 (p ++ leTo 4 c))

/-- An acknowledgement: syndrome 0 for an ACK, 0x60 PSN sequence error, 0x61 Invalid Request, 0x62 Remote Access, 0x63 Remote Operational. -/
def State.roceAck (s : State) (n psn synd : Nat) : State := s.roceOut n 0x11 psn [synd] []

/-- The QP's error state: a NAK, and FAILED with cause BAD_DESC (R378). -/
def State.roceError (s : State) (n psn synd : Nat) : State := (s.roceAck n psn synd).yazFail n 6 false

/-- The words of the memory-region entry an R_Key names, read from the context store with the standing of Porch firmware (R379, R380). -/
def State.mrEntry (s : State) (rkey : Nat) : State × Option (W64 × W64) :=
  match s.decodeEa (s.rdF (gp .yzlg) 0x098 47 28 * 2 ^ 28 + 0x10000000 + 16 * (rkey % 256)) with
  | .cellar st off =>
    let r := s.cellarAccess st off 16 none 0 0 true []
    (match r.2 with | .ok d => (r.1, some ((toWords d).getD 0 0, (toWords d).getD 1 0)) | _ => (r.1, none))
  | _ => (s, none)

/-- Whether an access lies within a region and has the right (R379). -/
def mrAllows (e : W64 × W64) (right va len : Nat) : Bool :=
  let f (k : Nat) := Config.mrField k e.1 e.2
  decide (f 0 ≤ va) && decide (va + len ≤ f 0 + f 1) && (f 3).testBit right

/-- The Suite an access of a region is made for. -/
def mrSuite (e : W64 × W64) : Nat := Config.mrField 2 e.1 e.2 % 64

/-- Bytes of a SEND delivered to the context's destination: SHELF and CELLAR at DBASE (R378, R389); false where it has no such destination or the
placement is refused. -/
def State.roceDeliver (s : State) (n off : Nat) (d : List Byte) : State × Bool :=
  let x := s.yctx n
  if d = [] then (s, true)
  else if x.dkind = 1 then s.yazWrite n (shelfEA x.droom (x.dbase + off)) d
  else if x.dkind = 2 then s.yazWrite n (x.dbase + off) d
  else (s, false)

/-- READ responses, at most 4,096 bytes each, from a PSN on (R378). -/
def State.roceRespond (s : State) (n psn : Nat) (d : List Byte) : State :=
  let k := max 1 (ceilDiv d.length 4096)
  (List.range k).foldl (fun s i =>
    let op := if k = 1 then 16 else if i = 0 then 13 else if i + 1 = k then 15 else 14
    s.roceOut n op (psn + i) (if op = 14 then [] else [0]) ((d.drop (4096 * i)).take 4096)) s

/-- A request in sequence at the responder (R378, R379). -/
def State.roceRequest (s : State) (n : Nat) (p : RocePkt) : State :=
  let x := s.yctx n
  let first := decide (p.op = 0 ∨ p.op = 4 ∨ p.op = 6 ∨ p.op = 10)
  let last := decide (p.op = 2 ∨ p.op = 4 ∨ p.op = 8 ∨ p.op = 10)
  if p.op ≤ 4 then
    let off := if first then 0 else x.asmOff
    let r := s.roceDeliver n off p.data
    if !r.2 then r.1.roceError n p.psn (if x.dkind = 1 ∨ x.dkind = 2 then 0x63 else 0x61)
    else
      let s := r.1.modYctx n fun x => { x with asmOff := off + p.data.length, rcum := (x.rcum + 1) % 2 ^ 24, dseq := (x.dseq + b2n last) % 2 ^ 24 }
      let s := s.roceAck n p.psn 0
      if last then s.yazNotify n x.qport else s
  else if p.op = 12 then
    let m := s.mrEntry p.rkey
    (match m.2 with
     | none => m.1.roceError n p.psn 0x62
     | some e =>
       if !mrAllows e 1 p.va p.len then m.1.roceError n p.psn 0x62
       else
         let r := m.1.suiteRead (mrSuite e) (homeOf n) p.va p.len
         (match r.2 with
          | none => r.1.roceError n p.psn 0x63
          | some d => (r.1.modYctx n fun x => { x with rcum := (x.rcum + max 1 (ceilDiv p.len 4096)) % 2 ^ 24, dseq := (x.dseq + 1) % 2 ^ 24 }).roceRespond n p.psn d))
  else
    let rkey := if first then p.rkey else x.rtail
    let va := if first then p.va else x.asmOff
    let m := s.mrEntry rkey
    (match m.2 with
     | none => m.1.roceError n p.psn 0x62
     | some e =>
       if !mrAllows e 0 va (if first then max p.len p.data.length else p.data.length) then m.1.roceError n p.psn 0x62
       else
         let r := if p.data = [] then (m.1, true) else m.1.suiteWrite (mrSuite e) (homeOf n) va p.data
         if !r.2 then r.1.roceError n p.psn 0x63
         else
           (r.1.modYctx n fun x =>
             { x with asmOff := va + p.data.length, rtail := rkey, rcum := (x.rcum + 1) % 2 ^ 24, dseq := (x.dseq + b2n last) % 2 ^ 24 }).roceAck n p.psn 0)

/-! ### The requester -/

/-- Opcode of a packet of a message: first, middle, last or only, from the base opcode of SEND or WRITE. -/
def roceOp (base : Nat) (first last : Bool) : Nat := base + (if first && last then 4 else if first then 0 else if last then 2 else 1)

/-- One packet of a QP put on its port. -/
def State.rocePut (s : State) (n : Nat) (p : YSent) : State :=
  let x := s.yctx n
  let args := match (p.desc.bind fun i => x.descs.find? fun d => d.idx = i) with
    | some d => if d.op = 0x12 ∨ (d.op = 0x11 ∧ p.first) then [(d.words.getD 2 0).toNat, fld (d.words.getD 3 0) 31 0, d.len] else []
    | none => []
  s.roceOut n p.mtype p.seq args p.data

/-- The next packet of a QP's descriptor leaves: PMTU 4,096, one port, within the window (R378). -/
def State.rocePaced (s : State) (n : Nat) : State :=
  let x := s.yctx n
  match (if x.state = 1 ∧ s.linkUp x.qport then x.cutting else none) with
  | none => s
  | some d =>
    if !s.isHot n then s.ctxMiss n
    else if x.cwnd ≤ x.sent.length * 2 ^ 32 ∧ x.sent ≠ [] ∨ 256 * s.et < x.paced then s
    else
      let k := min 4096 (d.len - d.cut)
      let first := decide (d.cut = 0)
      let last := decide (d.len ≤ d.cut + k)
      let go (s : State) (e : YSent) (used cut : Nat) : State :=
        let x := s.yctx n
        let x := x.cutTo d.idx cut
        (s.setYctx n { x with
          seq := (x.seq + used) % 2 ^ 24, sent := x.sent ++ [e], idle := s.et, heldAt := none, prog := if x.sent = [] then s.et else x.prog
          paced := max x.paced (256 * s.et) + x.srtt * 2 ^ 32 / max 1 x.cwnd }).touch n |>.rocePut n e
      if d.op = 0x12 then go s ⟨x.seq, x.qport, s.et, 0, x.cls, true, true, 0, 12, [], some d.idx⟩ (max 1 (ceilDiv d.len 4096)) d.len
      else
        let r := s.yazRead n (fld (d.words.getD 1 0) 47 0 + d.cut) k
        match r.2 with
        | none => r.1.yazFail n 7 false
        | some b =>
          go r.1 ⟨x.seq, x.qport, s.et, 0, x.cls, first, last, 0, roceOp (if d.op = 0x11 then 6 else 0) first last, b, some d.idx⟩ 1 (d.cut + k)

/-- PACED_SEND: the next packet of a Yazal stream or a QP leaves (R378, R387, R394). -/
def execPacedSend (n : Nat) (s : State) : Host.Outcome State Fault Refusal :=
  let n := n % 2 ^ 20
  .next (if (s.yctx n).mode = 1 then s.rocePaced n else s.pacedSend n)

/-- Packets from a PSN on sent again; at RETRY_MAX the QP fails (R378, R392, R393). -/
def State.roceAgain (s : State) (n psn : Nat) : State :=
  let x := s.yctx n
  let from_ (p : YSent) : Bool := decide ((p.seq + 2 ^ 24 - psn % 2 ^ 24) % 2 ^ 24 < 2 ^ 23)
  let s := s.setYctx n { x with sent := x.sent.map fun p => if from_ p then { p with at_ := s.et, tries := p.tries + 1, off := 0 } else p }
  let l := (s.yctx n).sent.filter from_
  let s := l.foldl (fun s p => (s.bump (yzl (homeOf n)) 0x088 31 0 1).rocePut n p) s
  if l.any (fun p => decide (s.retryMax ≤ p.tries)) then s.yazFail n 2 false else s

/-- RTO_EXPIRY: a packet's timer has run out; it is resent, a QP going back to it (R378, R392). -/
def execRtoExpiry (n : Nat) (s : State) : Host.Outcome State Fault Refusal :=
  let n := n % 2 ^ 20
  let x := s.yctx n
  if x.mode = 1 then
    match (if x.state = 1 then x.sent.find? fun p => decide (p.at_ + s.rto x ≤ s.et) else none) with
    | some p => .next ((s.setYctx n { x with backo := x.backo + 1 }).roceAgain n p.seq)
    | none => .next s
  else .next (s.rtoExpiry n)

/-- Packets acknowledged up to a PSN: removed, the RTT of the last of them sent once is taken, and the window grows by the increase rule where the RTT is
at or below target (R378, R394). -/
def State.roceAcked (s : State) (n psn : Nat) : State :=
  let x := s.yctx n
  let done (p : YSent) : Bool := decide (p.mtype ≠ 12) && decide ((psn % 2 ^ 24 + 2 ^ 24 - p.seq) % 2 ^ 24 < 2 ^ 23)
  let gone := x.sent.filter done
  let k := gone.length
  let rtt := ((gone.filter fun p => p.tries = 0).getLast?).map fun p => 256 * (s.et - p.at_)
  let y := match rtt with | some r => x.sample r s.et | none => x
  let r := rtt.getD x.srtt
  let s := s.setYctx n { y with
    sent := x.sent.filter (fun p => !done p), prog := if 0 < k then s.et else x.prog, backo := if 0 < k then 0 else x.backo
    cwnd := if r ≤ s.rttTarget y r then growWin (max 1 (s.rdF (gp .yzlg) 0x0B0 11 8)) k x.cwnd else x.cwnd }
  s.descDone n 40000

/-- A READ response at the requester: written at SRC in order (R378). -/
def State.roceRead (s : State) (n : Nat) (p : RocePkt) : State :=
  let x := s.yctx n
  match x.sent.find? fun q => decide (q.mtype = 12) && decide ((q.seq + q.off / 4096) % 2 ^ 24 = p.psn % 2 ^ 24) with
  | none => s
  | some q =>
    match (q.desc.bind fun i => x.descs.find? fun d => d.idx = i) with
    | none => s
    | some d =>
      let r := if p.data = [] then (s, true) else s.yazWrite n (fld (d.words.getD 1 0) 47 0 + q.off) p.data
      if !r.2 then r.1.yazFail n 6 false
      else
        let got := q.off + p.data.length
        let s := r.1.modYctx n fun x =>
          { x with prog := s.et, sent := if d.len ≤ got then x.sent.filter (fun e => e.seq ≠ q.seq) else x.sent.map fun e => if e.seq = q.seq then { e with off := got } else e }
        s.roceAcked n (q.seq + 2 ^ 24 - 1)

/-- A RoCEv2 packet at its QP: CE is answered with a CNP; one for a QP that is not open is discarded; requests are taken in PSN order; a CNP halves the
QP's rate (R378, R379). -/
def State.roceHandle (s : State) (port : Nat) (ce : Bool) (p : RocePkt) : State :=
  let n := p.qpn % 2 ^ 20
  let x := s.yctx n
  if x.state ≠ 1 ∨ x.mode ≠ 1 then s.otherFrame port
  else
    let s := if ce then (s.bump (yzl (homeOf n)) 0x098 47 32 1).roceOut n 0x81 0 [] [] else s
    let s := s.modYctx n fun x => { x with idle := s.et }
    if p.op = 0x81 then s.modYctx n fun x => { x with cwnd := clampWin (x.cwnd / 2) }
    else if p.op = 17 then
      if p.synd < 0x20 then s.roceAcked n p.psn
      else if p.synd = 0x60 then (s.roceAcked n (p.psn + 2 ^ 24 - 1)).roceAgain n p.psn
      else if p.synd < 0x60 then s
      else s.yazFail n 6 false
    else if 13 ≤ p.op ∧ p.op ≤ 16 then s.roceRead n p
    else if p.op ∈ [0, 1, 2, 4, 6, 7, 8, 10, 12] then
      let d := (p.psn + 2 ^ 24 - x.rcum % 2 ^ 24) % 2 ^ 24
      if d = 0 then s.roceRequest n p
      else if d < 2 ^ 23 then s.roceAck n x.rcum 0x60
      else if p.op = 12 then
        let m := s.mrEntry p.rkey
        match m.2 with
        | some e =>
          if mrAllows e 1 p.va p.len then
            let r := m.1.suiteRead (mrSuite e) (homeOf n) p.va p.len
            match r.2 with | some d => r.1.roceRespond n p.psn d | none => r.1
          else m.1
        | none => m.1
      else s.roceAck n (x.rcum + 2 ^ 24 - 1) 0
    else s.roceError n p.psn 0x61

/-- A RoCEv2 packet at a port: one with a bad ICRC or for no open QP is discarded, and one whose context is not cached waits for it (R378, R381). -/
def State.rocePacket (s : State) (port : Nat) (ce icrc : Bool) (p : RocePkt) : State :=
  let n := p.qpn % 2 ^ 20
  if !icrc ∨ (s.yctx n).state ≠ 1 ∨ (s.yctx n).mode ≠ 1 then s.otherFrame port
  else if s.isHot n then (s.touch n).roceHandle port ce p
  else { s.ctxMiss n with rim := { (s.ctxMiss n).rim with roceWait := s.rim.roceWait ++ [(port, ce, p)] } }

/-- ROCE_PACKET (R374, R378, R379). -/
def execRocePacket (port : Nat) (ce icrc : Bool) (op qpn psn va rkey len synd : Nat) (data : List Byte) (s : State) : Host.Outcome State Fault Refusal :=
  .next ((if ce then s.ceMark (port % 64) else s).rocePacket (port % 64) ce icrc ⟨op, qpn, psn % 2 ^ 24, va, rkey, len, synd, data⟩)

/-- CONTEXT_MISS_FILL: a context has been read from the store; the packets that waited for it proceed, or are dropped where its set is full of
pinned contexts (R380, R381). -/
def execContextMissFill (n : Nat) (s : State) : Host.Outcome State Fault Refusal :=
  let n := n % 2 ^ 20
  if !s.rim.fills.contains n then .next s
  else
    let mine (p : YIn) : Bool := decide (fld (p.words.getD 0 0) 51 32 = n)
    let own (e : Nat × Bool × RocePkt) : Bool := decide (e.2.2.qpn % 2 ^ 20 = n)
    let wait := s.rim.ctxWait.filter mine
    let roce := s.rim.roceWait.filter own
    let s := { s with rim := { s.rim with ctxWait := s.rim.ctxWait.filter fun p => !mine p, roceWait := s.rim.roceWait.filter fun e => !own e } }
    let r := s.fillCtx n
    if r.2 then
      let s := { r.1 with rim := { r.1.rim with fills := r.1.rim.fills.filter (· ≠ n) } }.ctxLoad n
      .next (roce.foldl (fun s e => s.roceHandle e.1 e.2.1 e.2.2) (wait.foldl (fun s p => s.yazHandle p) s))
    else
      .next ({ s with rim := { s.rim with fills := s.rim.fills.filter (· ≠ n) } }.bump (yzl (homeOf n)) 0x090 15 8 (wait.length + roce.length))

/-- ROCE_SEND: a RoCEv2 SEND descriptor is taken up (R378, R385). -/
def execRoceSend (n : Nat) (s : State) : Host.Outcome State Fault Refusal := .next (s.descFetch (n % 2 ^ 20) 0x10)

/-- ROCE_WRITE: a RoCEv2 WRITE descriptor is taken up (R378, R385). -/
def execRoceWrite (n : Nat) (s : State) : Host.Outcome State Fault Refusal := .next (s.descFetch (n % 2 ^ 20) 0x11)

/-- ROCE_READ: a RoCEv2 READ descriptor is taken up (R378, R385). -/
def execRoceRead (n : Nat) (s : State) : Host.Outcome State Fault Refusal := .next (s.descFetch (n % 2 ^ 20) 0x12)

/-! ### Frames -/

/-- The header fields of a RoCEv2 datagram's payload: BTH, then RETH or AETH by opcode, payload, ICRC. -/
def roceParse (b : List Byte) : RocePkt :=
  let op := beAt b 0 1
  let reth := decide (op = 6 ∨ op = 10 ∨ op = 12)
  let aeth := decide (op = 13 ∨ op = 15 ∨ op = 16 ∨ op = 17)
  let h := 12 + (if reth then 16 else if aeth then 4 else 0)
  let pad := beAt b 1 1 / 16 % 4
  { op, qpn := beAt b 5 3, psn := beAt b 9 3, va := if reth then beAt b 12 8 else 0, rkey := if reth then beAt b 20 4 else 0
    len := if reth then beAt b 24 4 else 0, synd := if aeth then beAt b 12 1 else 0, data := (b.drop h).take (b.length - h - pad - 4) }

/-- An IP packet for this port: Yazal, RoCEv2, an echo request or a solicitation; anything else is discarded (R374, R376, R383). -/
def State.ipFrame (s : State) (p srcMac : Nat) (icrc : Bool) (i : Option IpIn) : State :=
  match i with
  | none => s.otherFrame p
  | some i =>
    let me := s.portIp s.engineId p
    let ce := decide (i.ecn = 3)
    if i.proto = 58 ∧ i.src.v6 then s.icmp6Frame p srcMac i
    else if i.dst ≠ me then s.otherFrame p
    else if i.proto = 1 then
      (match echo4 i with
       | some r => s.sendFrame p 6 (ethBytes srcMac (s.portMac p) (s.vlanTag p 6) 0x0800 (ipBytes me i.src (s.classDscp 0) 1 r))
       | none => s.otherFrame p)
    else
      match udpRead i with
      | none => s.otherFrame p
      | some (_, dport, b) =>
        let s' := if ce then s.ceMark p else s
        if dport = s.rdF (gp .yzlg) 0x080 31 16 then
          s'.yazPacket ⟨p, ce, (List.range 5).map fun k => w64 (beAt b (8 * k) 8), b.drop 40⟩
        else if dport = 4791 then s'.rocePacket p ce icrc (roceParse b)
        else s.otherFrame p

/-- ETH_FRAME_RECEIVE: a frame without its FCS, with the MAC's verdict on the FCS and on a RoCEv2 ICRC: checked and handled by its type (R373 to
R375). -/
def State.ethFrame (s : State) (p : Nat) (fcs icrc : Bool) (f : List Byte) : State :=
  if !s.linkUp p then s
  else if !fcs then s.bump (eav p) (0x0C0 + 8 * portHalf p) 63 48 1
  else if f.length + 4 < 64 ∨ 9216 < f.length + 4 then s.otherFrame p
  else
    let tagged := decide (beAt f 12 2 = 0x8100)
    let o := if tagged then 16 else 12
    let etype := beAt f o 2
    let b := f.drop (o + 2)
    let dst := beAt f 0 6
    let src := beAt f 6 6
    if etype = 0x8808 then
      if beAt b 0 2 = 0x0101 then s.pfcFrame p (beAt b 2 2) ((List.range 8).map fun k => beAt b (4 + 2 * k) 2)
      else if beAt b 0 2 = 0x0001 then s else s.otherFrame p
    else if dst ≠ s.portMac p ∧ !(f.headD 0).getLsbD 0 then s.otherFrame p
    else if etype = 0x0806 then s.arpFrame p b
    else if etype = 0x0800 then s.ipFrame p src icrc (ip4Read b)
    else if etype = 0x86DD then s.ipFrame p src icrc (ip6Read b)
    else s.otherFrame p

/-- ETH_FRAME_RECEIVE; a tagged frame goes through the receive buffer of its priority (R373, R375). -/
def execEthFrameReceive (port : Nat) (fcs icrc : Bool) (frame : List Byte) (s : State) : Host.Outcome State Fault Refusal :=
  let p := port % 64
  let k := beAt frame 14 2 / 8192
  let t := s.ethFrame p fcs icrc frame
  .next (if s.linkUp p && fcs && decide (beAt frame 12 2 = 0x8100) && s.pfcOn p k then t.rxTurn p k else t)

end Sys2Proof.Machine
end

