-- ==== Sys2Proof/Machine/Rail.lean ====
section
/-!
DEFINITION. The rails that Chimneys hold, and the ends of a rate switch (R517, R525, R541, R543).
-/

namespace Sys2Proof.Machine

/-- The PWR page of a Room. -/
def pwr (room : Nat) : PageRef := rp .pwr room

/-- The Wing PWR page (R530). -/
def pwrw (wing : Nat) : PageRef := ⟨.pwrw, wing⟩

/-- The global PWRG page (R532). -/
def pwrg : PageRef := gp .pwrg

/-- STATE of a Room's power: 0 OFF, 1 RAMP, 2 ON, 3 TRIPPED (R529). -/
def State.pwrState (s : State) (room : Nat) : Nat := s.rdF (pwr room) 0x080 63 61

/-- The logical Rooms that a physical Wing holds (R25). -/
def State.wingRooms (s : State) (w : Nat) : List Nat :=
  match s.remap.logRow (w / 8) with
  | none => []
  | some l => (List.range 256).map fun i => (16 * l + i / 16) * 128 + 16 * (w % 8) + i % 16

/-- The Suite that owns a physical Wing. -/
def State.suiteOfPhys (s : State) (w : Nat) : Option Nat :=
  match s.remap.logRow (w / 8) with
  | none => none
  | some l => s.suiteOfWing (w % 8) l

/-- The rate code of a physical Wing: its Suite's, or 48 (R27, R517). -/
def State.wingRate (s : State) (w : Nat) : Nat := match (s.suiteOfPhys w).bind s.suite with | some u => u.rate | none => 48

/-- The 8-bit signed FACTORY trim and the SUSPECT trim of a Room together, in mV (R525). -/
def trimMv (w : W64) : Int := 5 * (sgn 8 (fld w 7 0) + (fld w 15 8 : Int))

/-- VNOM in mV (R517). -/
def vnom (rate : Nat) : Int := 750 + 4 * ((rate : Int) - 48)

/-- RAIL of a Wing at a rate, in mV, clamped to 600 to 850 (R517). -/
def State.railAt (s : State) (w rate : Nat) : Nat :=
  let on := (s.wingRooms w).filter fun r => decide (s.pwrState r = 1) || decide (s.pwrState r = 2)
  let top : Int := match (on.map fun r => trimMv (s.rd (pwr r) 0x088)).max? with | some t => t | none => 0
  (max 600 (min 850 (vnom rate + top))).toNat

/-- DROP of every Room of a Wing: RAIL − (VNOM + VTRIM), from 0 to 100 mV (R525). -/
def State.setDrops (s : State) (w : Nat) : State :=
  let rail : Int := s.rdF (pwrw w) 0x088 31 16
  let nom := vnom (s.wingRate w)
  (s.wingRooms w).foldl (fun s r =>
    let t := s.rd (pwr r) 0x088
    s.wrF (pwr r) 0x088 23 16 (max 0 (min 100 (rail - (nom + trimMv t)))).toNat) s

/-- The rail that a Chimney is on its way to, or holds (R517). -/
def State.railGoal (s : State) (w : Nat) : Nat := if smGet 0 s.rim.railTo w = 0 then s.rdF (pwrw w) 0x088 31 16 else smGet 0 s.rim.railTo w

/-- A Chimney sent to the rail that its Wing now needs at a rate, if that is another one; header drops follow it (R517, R525). -/
def State.moveRail (s : State) (w rate : Nat) : State :=
  let rail := s.railAt w rate
  let s := s.wrF (pwrw w) 0x088 15 0 (vnom (s.wingRate w)).toNat
  if rail = s.railGoal w then s.setDrops w
  else ({ s with rim := { s.rim with railTo := smSet 0 s.rim.railTo w rail } }).emit (.chimney w 0 rail)

/-- The Wing CLK page (R546). -/
def clkw (wing : Nat) : PageRef := ⟨.clkw, wing⟩

/-- The CLKG page (R547). -/
def clkg : PageRef := gp .clkg

/-- An event of the CLKG page with its capture (R547, R549). -/
def State.clkgEvent (s : State) (bit cause detail suite : Nat) (injected : Bool) : State :=
  (s.capture clkg 0x0A0 (put 63 56 cause ||| put 55 48 detail ||| put 45 40 suite)).raise clkg bit injected

/-- The bit of CLKW_STATUS that tells a core's lock: 47 for A, 46 for B (R546). -/
def lockBit (core : Nat) : Nat := 47 - core % 2

/-- The physical Wings of a Suite. -/
def State.suiteWings (s : State) (u : Suite) : List Nat := u.wings.map fun x => 8 * s.remap.physRow x.2 + x.1

/-- The switch of a Suite in progress. -/
def State.rateSw (s : State) (i : Nat) : Option RateSw := smGet none s.rim.rateSw i

/-- The switch of a Suite replaced. -/
def State.setRateSw (s : State) (i : Nat) (w : Option RateSw) : State := { s with rim := { s.rim with rateSw := smSet none s.rim.rateSw i w } }

/-- CLK_SWITCH_REFUSED (R540). -/
def State.switchRefused (s : State) (i detail : Nat) (injected : Bool) : State :=
  (s.clkgEvent 3 0x13 detail i injected).wrF clkg (0x400 + 8 * i) 63 63 0

/-- The rate whose rail a Wing needs: that of a switch to a higher one as soon as it has begun (R517, R541). -/
def State.railRate (s : State) (w : Nat) : Nat :=
  match (s.suiteOfPhys w).bind s.rateSw with
  | some r => max r.rate (s.wingRate w)
  | none => s.wingRate w

/-- Every Chimney that regulates sent to the rail that its Wing now needs (R517). -/
def State.moveRails (s : State) : State :=
  (List.range 64).foldl (fun s w => if s.rdF (pwrw w) 0x080 63 61 = 2 then s.moveRail w (s.railRate w) else s) s

/-- The Wings of a switch that is abandoned: no core is on its way to another rate, and a rail that went up comes down again (R517, R543). -/
def State.switchAbandon (s : State) (i : Nat) (u : Suite) : State :=
  (s.suiteWings u).foldl (fun s w => (s.wr (clkw w) 0x080 (clrBit (setFld (s.rd (clkw w) 0x080) 55 48 0) 44)).moveRail w u.rate)
    ((s.setRateSw i none).switchRefused i 4 false)

/-- A switch at its end: the Suite runs at its new rate on the other cores, a rail that is too high goes down, and CLK_SWITCH_DONE is raised (R541). -/
def State.switchEnd (s : State) (i : Nat) (u : Suite) (rate : Nat) : State :=
  let s := (s.setSuite i { u with rate }).setRateSw i none
  let s := (s.suiteWings u).foldl (fun s w =>
    let st := s.rd (clkw w) 0x080
    let act := 1 - fld st 45 45
    let s := s.wr (clkw w) 0x080 (clrBit (setFld (setFld (setFld st 63 56 rate) 55 48 0) 45 45 act) 44)
    let s := (s.wr (clkw w) 0x080 (clrBit (s.rd (clkw w) 0x080) (lockBit (1 - act)))).bump (clkw w) 0x088 63 32 1
    if rate < u.rate then s.moveRail w rate else s.wrF (pwrw w) 0x088 15 0 (vnom rate).toNat) s
  (s.wrF clkg (0x400 + 8 * i) 63 63 0).clkgEvent 2 0x12 0 i false

end Sys2Proof.Machine
end

