-- ==== Sys2Proof/Machine/SuiteReset.lean ====
section
/-!
DEFINITION. Suite resets (R584, R585, R587).
-/

namespace Sys2Proof.Machine

/-- A rate switch that is frozen ends with its new rate before a reset begins; one that has not reached its start cycle is abandoned (R541, R543,
R584). -/
def State.finishSwitch (s : State) (i : Nat) : State :=
  match s.suite i, s.rateSw i with
  | some u, some w => if w.phase = 2 then s.switchEnd i u w.rate else s.switchAbandon i u
  | _, _ => s

/-- A Yazal context of a reset Suite: it fails with SUITE_RESET, its sends are discarded, and a RESET of reason 2 goes to the peer (R585). -/
def State.ctxReset (s : State) (n : Nat) : State :=
  let x := s.yctx n
  if x.state ≠ 1 then s
  else
    let s := match nextPort (s.spraySet n) x.lastP with
      | some port => if x.mode = 0 then s.yazReset n port x.peer x.epoch 2 else s
      | none => s
    (s.yazFail n 8 false).modYctx n fun x => { x with sent := [], ctl := [], descs := [] }

/-- What a Suite reset leaves of the Suite itself (R585); its cycle counts go on. -/
def Suite.cleared (u : Suite) : Suite :=
  { Suite.fresh u.nwx u.nwy u.sex u.sey with rate := u.rate, phase := u.phase, clk := u.clk, now := u.now, lastIss := u.lastIss, lastET := u.lastET }

/-- The Suite-wide state of a Suite reset (R585). -/
def State.suiteWide (s : State) (i : Nat) : State :=
  let s := (List.range 256).foldl (fun s n => if s.glCfg n 63 62 ≠ 0 ∧ s.glCfg n 59 54 = i ∧ s.gGranted n i then s.gLose n true else s) s
  let s := (List.range 32).foldl (fun s c => if s.chuSuite c = i then s.chuReset c else s) s
  let s := (s.rim.ctxs.map Prod.fst).foldl (fun s n => if (s.yctx n).suite = i then s.ctxReset n else s) s
  let s := (s.abandonLoad i).wrF (gp .dmpg) (0x408 + 16 * i) 63 61 0
  (s.modSuite i Suite.cleared).setRestart i .idle

/-- A Suite reset, requested by RSTG_SUITE or by Porch firmware; one in progress takes the request in (R578, R584, R587). -/
def State.suiteReset (s : State) (i : Nat) : State :=
  match s.suite i with
  | none => s.raise (gp .rstg) 1 false
  | some u =>
    if u.inReset then s
    else
      let s := s.finishSwitch i
      let live := u.run = 2 ∧ !u.sweep.preempt
      let s := if live then
          let s := s.raise (rp .flu u.lead) 2 false
          if (s.restart i).st = 0 ∧ tst (s.rd (gp .swpg) (swpgSuite i)) 63 then s.startJobHalt i (Page.flu.cls * 256 + 0x03) s.et else s
        else s
      let s := (s.ckptEntryDone i).sweepHalted i
      let s := s.suiteWide i
      let s := (s.modSuite i fun u => { u with inReset := true }).wr (gp .rstg) 0x098 (setBit (s.rd (gp .rstg) 0x098) i)
      let s := u.rooms.foldl (fun s r => s.roomReset r 3) s
      if u.rooms.all fun r => s.rstState r = 0 then s.suiteReleased i else s

/-- SUITE_RESET: a write of RSTG_SUITE with GO (R584, R592). -/
def execSuiteReset (v : W64) (s : State) : Host.Outcome State Fault Refusal :=
  if tst v 63 then .next (s.suiteReset (fld v 5 0)) else .next s

end Sys2Proof.Machine
end

