-- ==== Sys2Proof/Machine/Survey.lean ====
section
/-!
DEFINITION. The Survey and what refines it while the engine runs: records, bad marks, commits and retraining (R555, R558, R570, R571, R576).
-/

namespace Sys2Proof.Machine

/-- The SRV page of a physical Room (R572). -/
def srv (phys : Nat) : PageRef := rp .srv phys

/-- The Wing SRV page (R574). -/
def srvw (wing : Nat) : PageRef := ⟨.srvw, wing⟩

/-- The Wing HAL page (R304). -/
def halw (wing : Nat) : PageRef := ⟨.halw, wing⟩

/-- Module powered hours: those in flash and those since House reset (R555, R575).  An hour is 562,500,000,000 ET periods. -/
def State.phours (s : State) : Nat := s.rim.flash.phours + s.et / 562500000000

/-- Whether a logical Room maps to a physical Room (R572). -/
def State.mapped (s : State) (phys : Nat) : Bool := (s.logicalOf phys).isSome

/-- Whether the Survey marks a physical Room bad (R573). -/
def State.isBad (s : State) (phys : Nat) : Bool := decide (fld (s.srvRd phys 0x080) 63 62 = 2)

/-- SRV_REC0 as it reads: STATUS is 0 for a mapped Room, 1 for a spare one and 2 for a bad one (R558, R573). -/
def State.srvRec0 (s : State) (phys : Nat) : W64 :=
  if s.isBad phys then s.srvRd phys 0x080 else setFld (s.srvRd phys 0x080) 63 62 (if s.mapped phys then 0 else 1)

/-- SRV_MAP (R572). -/
def State.srvMap (s : State) (phys : Nat) : W64 := match s.logicalOf phys with | some r => put 63 63 1 ||| put 13 0 r | none => 0

/-- A saturating counter of SRV_REC3: TRIPS at 48, LASTING at 32, TRANSIENT at 16, CE_RATE at 0 (R558, R572). -/
def State.srvCount (s : State) (phys lo : Nat) : State :=
  (s.srvWr phys 0x098 (bumpFld (s.srvRd phys 0x098) (lo + 15) lo 1)).survTouch false

/-- A saturating history counter of a Wing: SENSE_ANOM at 48, CHIMNEY at 32, LOCK_LOST at 16, SEAM_RETRAIN at 0 (R558, R574). -/
def State.wingHist (s : State) (wing lo : Nat) : State := (s.bump (srvw wing) 0x088 (lo + 15) lo 1).survTouch false

/-- A physical Room marked bad: its STATUS, ROOM_BAD with its capture, and a commit that starts at once (R426, R434, R558). -/
def State.roomBad (s : State) (phys : Nat) : State :=
  if s.isBad phys then s
  else
    let suite := match s.logicalOf phys with | some r => s.suiteId r | none => 0
    let s := s.srvWr phys 0x080 (setFld (s.srvRd phys 0x080) 63 62 2)
    ((s.capture (gp .cvug) 0x0C8 (put 63 56 0x15 ||| put 55 50 suite ||| put 14 0 phys)).raise (gp .cvug) 5 false).survTouch true

/-- A refusal of SRVG_CMD (R576). -/
def State.srvRefused (s : State) (detail target : Nat) : State :=
  (s.capture (gp .srvg) 0x0A8 (put 63 56 0x18 ||| put 55 48 detail ||| put 14 0 target)).raise (gp .srvg) 8 false

/-- MARK_BAD: at once for a Room that is not mapped, else at the next remap stage (R576). -/
def execMarkBad (phys : Nat) (s : State) : Host.Outcome State Fault Refusal :=
  .next (if 20736 ≤ phys then s.srvRefused 0 phys
    else if s.mapped phys then
      (if s.rim.badPend.contains phys then s else { s with rim := { s.rim with badPend := s.rim.badPend ++ [phys] } })
    else s.roomBad phys)

/-! ### Commits -/

/-- Whether a register belongs to a Wing's record in the Survey (R555). -/
def survKey (k : Nat) : Bool := decide (k / 2 ^ 32 = Page.srvw.idx) && decide (0x080 ≤ k % 4096)

/-- Whether the next commit goes into copy B: into the copy that did not qualify if one did, else into the one with the lower GEN
(R556, R558). -/
def State.commitToB (s : State) : Bool :=
  let st := s.rd (gp .srvg) 0x080
  let gen : Option SurveyCopy → Nat := fun c => match c with | some c => c.gen | none => 0
  if tst st 46 && !tst st 45 then true
  else if tst st 45 && !tst st 46 then false
  else decide (gen s.rim.flash.survB < gen s.rim.flash.survA)

/-- The working Survey written into flash, signed with the module key and read back; SCNT takes its GEN (R555, R558). -/
def State.surveyCommit (s : State) : State :=
  let f := s.rim.flash
  let b := s.commitToB
  let gen := 1 + (match (if b then f.survA else f.survB) with | some c => c.gen | none => 0)
  let st := s.rd (gp .srvg) 0x080
  let origin := if fld st 49 48 = 2 then 2 else 1
  let c : SurveyCopy :=
    { gen, origin, key := 1, phours := s.phours, init := s.rim.survInit, weights := s.rim.weights, recs := s.rim.surv
      wings := s.regs.filter fun e => survKey e.1, masks := s.remap, lists := s.rim.cellRemap }
  let f := if b then { f with survB := some c, scnt := gen } else { f with survA := some c, scnt := gen }
  let s := s.wr (gp .srvg) 0x080 (setBit (setFld (setFld st 49 48 origin) 31 0 gen) (if b then 45 else 46))
  { s with rim := { s.rim with flash := f, survNew := none } }

/-- SURVEY_COMMIT: when due, the working Survey is committed (R558). -/
def execSurveyCommit (s : State) : Host.Outcome State Fault Refusal :=
  .next (match s.rim.survNew with
    | some t => if t ≤ s.et then s.surveyCommit else s
    | none => s)

/-- COMMIT: SRVG_CMD starts a commit of the working Survey at once (R576). -/
def execCommit (s : State) : Host.Outcome State Fault Refusal := .next (s.survTouch true)

/-! ### Retraining -/

/-- The Wing on the other side of side `d` of a Wing, if the square has one: N, E, S, W. -/
def wingBeside (w d : Nat) : Option Nat :=
  match d with
  | 0 => if 8 ≤ w then some (w - 8) else none
  | 1 => if w % 8 < 7 then some (w + 1) else none
  | 2 => if w < 56 then some (w + 8) else none
  | _ => if 0 < w % 8 then some (w - 1) else none

/-- HALW_SEAM of a side (R304). -/
def halwSeam (d : Nat) : Nat := 0x080 + 8 * d

/-- The name of a seam in the table of attempts: the same from both of its Wings. -/
def seamKey (w d : Nat) : Nat :=
  match wingBeside w d with
  | some v => if d = 0 ∨ d = 3 then 0x1000 + 4 * v + (d + 2) % 4 else 0x1000 + 4 * w + d
  | none => 0x1000 + 4 * w + d

/-- A change made to HALW_SEAM on both sides of a seam. -/
def State.modSeam (s : State) (w d : Nat) (f : W64 → W64) : State :=
  match wingBeside w d with
  | none => s
  | some v =>
    let s := s.wr (halw w) (halwSeam d) (f (s.rd (halw w) (halwSeam d)))
    s.wr (halw v) (halwSeam ((d + 2) % 4)) (f (s.rd (halw v) (halwSeam ((d + 2) % 4))))

/-- Whether a seam is retraining. -/
def State.seamRetraining (s : State) (w d : Nat) : Bool := tst (s.rd (halw w) (halwSeam d)) 14

/-- A seam starts to retrain; the histories of its Wings count it (R558, R570). -/
def State.startSeam (s : State) (w d : Nat) : State :=
  match wingBeside w d with
  | none => s
  | some v =>
    if s.seamRetraining w d then s
    else
      let s := s.modSeam w d fun x => clrBit (setBit x 14) 15
      let s := (s.wingHist w 0).wingHist v 0
      { s with rim := { s.rim with retrTry := smSet 0 s.rim.retrTry (seamKey w d) 0 } }

/-- Every seam of a Wing starts to retrain, as after its restart or relock (R519, R539). -/
def State.startSeams (s : State) (w : Nat) : State := (List.range 4).foldl (fun s d => s.startSeam w d) s

/-- Whether a Suite that contains both Wings of a seam runs (R571). -/
def State.seamRuns (s : State) (w d : Nat) : Bool :=
  match wingBeside w d with
  | none => false
  | some v => (s.suitesInWing w).any fun i =>
      (s.suitesInWing v).contains i && (match s.suite i with | some u => decide (u.run = 2) | none => false)

/-- RETRAIN_SEAM: refused for a side without a seam, for a seam in retraining and while a Suite across it runs (R571, R576). -/
def execRetrainSeam (wing side : Nat) (s : State) : Host.Outcome State Fault Refusal :=
  let w := wing % 64
  let d := side % 4
  .next (if wingBeside w d = none ∨ s.seamRetraining w d ∨ s.seamRuns w d then s.srvRefused d w else s.startSeam w d)

/-- A Cellar channel leaves service (R453, R570). -/
def State.channelDown (s : State) (stack ch : Nat) : State :=
  s.wr (celPage stack) 0x080 (clrBit (s.rd (celPage stack) 0x080) ch)

/-- A Cellar channel starts to retrain; one out of service for good does not (R570). -/
def State.startChannel (s : State) (stack ch : Nat) : State :=
  let k := stack * 32 + ch
  if s.rim.retrCh.contains k ∨ s.rim.outCh.contains k then s
  else
    let s := (s.channelDown stack ch).raise (celPage stack) 2 false
    { s with rim := { s.rim with retrCh := s.rim.retrCh ++ [k], retrTry := smSet 0 s.rim.retrTry k 0 } }

/-- A Cellar channel taken out of service for good, with CEL_CHANNEL_DOWN (R427, R453). -/
def State.channelGone (s : State) (stack ch : Nat) : State :=
  let k := stack * 32 + ch
  let s := (s.channelDown stack ch).raise (celPage stack) 2 false
  { s with rim := { s.rim with
      retrCh := s.rim.retrCh.filter fun x => x ≠ k
      outCh := if s.rim.outCh.contains k then s.rim.outCh else s.rim.outCh ++ [k] } }

/-- A channel decoder that fails its self-test after a training: ECC_SELFTEST_FAIL with a record, and the channel is out of service for good (R452,
R453). -/
def State.selftestFail (s : State) (stack ch : Nat) (injected : Bool) : State :=
  let p := ecccPage stack
  (((s.capture p 0x088 (put 63 56 0x14)).raise p 4 injected).record p 0x14 3 injected false false 0 noRef 0).channelGone stack ch

/-- RETRAIN_CHANNEL: refused for a site with no stack and a channel that is retraining or out of service for good (R570, R576). -/
def execRetrainChannel (stack ch : Nat) (s : State) : Host.Outcome State Fault Refusal :=
  let c := ch % 32
  let k := stack * 32 + c
  .next (if !s.fitted stack ∨ s.rim.retrCh.contains k ∨ s.rim.outCh.contains k then s.srvRefused 0 (stack + 256 * c) else s.startChannel stack c)

/-- CHANNEL_OUT_OF_SERVICE: more than 16 errors in 1 ms take a channel out of service to retrain (R570). -/
def execChannelOutOfService (stack ch errs : Nat) (s : State) : Host.Outcome State Fault Refusal :=
  .next (if s.fitted stack ∧ 16 < errs then s.startChannel stack (ch % 32) else s)

/-- An attempt that fails: a third ends retraining with SRV_RETRAIN_FAIL (R570). -/
def State.retrainFailed (s : State) (key inst : Nat) (injected : Bool) : State × Bool :=
  let n := smGet 0 s.rim.retrTry key + 1
  let s := { s with rim := { s.rim with retrTry := smSet 0 s.rim.retrTry key (if n < 3 then n else 0) } }
  if n < 3 then (s, false)
  else ((s.capture (gp .srvg) 0x0A8 (put 63 56 0x17 ||| put 14 0 inst)).raise (gp .srvg) 7 injected, true)

/-- A Wing to be fenced at the next remap stage, with its cause (R566). -/
def State.askFence (s : State) (w cause : Nat) : State :=
  { s with rim := { s.rim with fenceAsk := smSet 0 s.rim.fenceAsk w (if smGet 0 s.rim.fenceAsk w = 0 then cause else smGet 0 s.rim.fenceAsk w) } }

/-- RETRAIN_ATTEMPT_END of a Cellar channel, as 32 × stack + channel, or of a seam, as 0x1000 + 4 × Wing + side (R570, R571). -/
def execRetrainAttemptEnd (target : Nat) (good : Bool) (s : State) : Host.Outcome State Fault Refusal :=
  let inj := s.isArmed (gp .srvg) 7
  if target < 0x1000 then
    if !s.rim.retrCh.contains target then .next s
    else
      let s := if inj then s.disarm (gp .srvg) 7 else s
      let stack := target / 32
      if good && !inj && s.isArmed (ecccPage stack) 4 then .next ((s.disarm (ecccPage stack) 4).selftestFail stack (target % 32) true)
      else if good && !inj then
        .next { s.wr (celPage stack) 0x080 (setBit (s.rd (celPage stack) 0x080) (target % 32)) with
          rim := { s.rim with retrCh := s.rim.retrCh.filter fun x => x ≠ target, retrTry := smSet 0 s.rim.retrTry target 0 } }
      else
        let r := s.retrainFailed target (stack + 256 * (target % 32)) inj
        .next (if r.2 then { r.1 with rim := { r.1.rim with retrCh := r.1.rim.retrCh.filter fun x => x ≠ target } } else r.1)
  else
    let w := (target - 0x1000) / 4 % 64
    let d := target % 4
    if !s.seamRetraining w d then .next s
    else
      let s := if inj then s.disarm (gp .srvg) 7 else s
      if good && !inj then
        let s := { s with rim := { s.rim with retrTry := smSet 0 s.rim.retrTry (seamKey w d) 0 } }
        .next (s.modSeam w d fun x => setFld (bumpFld (setBit (clrBit x 14) 15) 31 16 1) 7 0 0x44)
      else
        let r := s.retrainFailed (seamKey w d) w inj
        .next (if r.2 then (r.1.modSeam w d fun x => clrBit x 14).askFence w 5 else r.1)

end Sys2Proof.Machine
end

