-- ==== Sys2Proof/Machine/Power.lean ====
section
/-!
DEFINITION. The 48 V input, Chimneys, remote sense, Room power switching, VTRIM and cooling (R513 to R532).
-/

namespace Sys2Proof.Machine

/-- The trims, static current, weights and Shelf spare state that a Room takes from the Survey before it powers (R217, R525, R612). -/
def State.loadRoom (s : State) (room : Nat) : State :=
  let p := s.physOf room
  let rec0 := s.srvRd p 0x080
  let m := maskOf 15 15 ||| maskOf 13 13 ||| maskOf 11 8
  let s := s.wr (pwr room) 0x088 (put 15 8 (fld rec0 39 32) ||| put 7 0 (fld rec0 47 40))
  let s := s.wr (rp .dmp room) 0x090 (put 15 0 (fld rec0 31 16))
  let s := s.wr (rp .dmp room) 0x088 (smGet 0 s.rim.weights (physWing p))
  s.wr (rp .shf room) 0x080 ((s.rd (rp .shf room) 0x080 &&& ~~~ m) ||| (rec0 &&& m))

/-- A Room's header switches begin to close: STATE RAMP with the first stage (R522). -/
def State.roomRamp (s : State) (room : Nat) : State :=
  let s := s.wr (pwr room) 0x080 (put 63 61 1 ||| put 60 58 1 ||| 1)
  s.modRoom room fun r => { r with stage := s.et }

/-- A Room's header switches open, every stage at once: what its domain held is lost (R19, R522). -/
def State.roomOpen (s : State) (room st : Nat) : State :=
  let s := if s.pwrState room = 2 then s.powerLost room else s
  s.wr (pwr room) 0x080 (put 63 61 st)

/-- A refusal of a Room's PWR page (R524). -/
def State.pwrRefused (s : State) (room : Nat) : State := s.raise (pwr room) 1 false

/-- Whether a Room lacks a place to power: spare or bad, or in a Wing of no Suite, as STATE HELD shows (R24, R27, R529). -/
def State.pwrHeld (s : State) (room : Nat) : Bool := decide (0x8000 ≤ room) || !s.rim.mapOk || (s.suiteOf room).isNone

/-- ROOM_ON: refused in the cases of R524. -/
def execRoomOn (room : Nat) (s : State) : Host.Outcome State Fault Refusal :=
  let st := s.pwrState room
  let w := s.wingOf room
  .next (if s.pwrHeld room ∨ s.rdF (pwrw w) 0x080 63 61 ≠ 2 ∨ st = 3 ∨ s.rim.coolBad then s.pwrRefused room
    else if st = 0 then ((s.loadRoom room).roomRamp room).moveRail w (s.railRate w) else s)

/-- ROOM_OFF: refused while the Room's Suite has an arrangement loaded and is not halted (R524). -/
def execRoomOff (room : Nat) (s : State) : Host.Outcome State Fault Refusal :=
  let w := s.wingOf room
  .next (if !s.suiteIdle room then s.pwrRefused room
    else if s.pwrState room = 1 ∨ s.pwrState room = 2 then (s.roomOpen room 0).moveRail w (s.railRate w)
    else s)

/-- HEADER_STAGE: 2 µs after the last stage the next one closes (R522). -/
def execHeaderStage (room : Nat) (s : State) : Host.Outcome State Fault Refusal :=
  let n := s.rdF (pwr room) 0x080 60 58
  .next (if s.pwrState room = 1 ∧ n < 4 ∧ (s.room room).stage + usToEt 2 ≤ s.et then
      (s.wrF (pwr room) 0x080 60 58 (n + 1)).modRoom room fun r => { r with stage := s.et }
    else s)

/-- PCHS_DONE once every Room that a DEFINE powers is on or has failed (R612). -/
def State.defineTurn (s : State) : State :=
  match s.rim.pchsBusy with
  | none => s
  | some i =>
    let more := match s.suite i with | some u => u.rooms.any fun r => s.pwrState r = 1 | none => false
    if more then s
    else ({ s with rim := { s.rim with pchsBusy := none } }.wrF (gp .pchs) 0x088 63 63 0).raise (gp .pchs) 0 false

/-- ROOM_POWER_GOOD: with the four stages closed and the decoder's self-test done, the Shelf is zero and the Room domain is on; a decoder that fails
makes the Room bad (R452, R453, R522). -/
def execRoomPowerGood (room : Nat) (decoderBad : Bool) (s : State) : Host.Outcome State Fault Refusal :=
  if s.pwrState room ≠ 1 ∨ s.rdF (pwr room) 0x080 60 58 ≠ 4 then .next s
  else
    let inj := s.isArmed (rp .ecc room) 2
    let s := if inj then s.disarm (rp .ecc room) 2 else s
    if decoderBad || inj then
      let s := (s.raise (rp .ecc room) 2 inj).record (rp .ecc room) 0x03 3 inj false false (s.suiteId room) noRef 0
      let s := (s.roomBad (s.physOf room)).roomOpen room 0
      .next (s.moveRail (s.wingOf room) (s.railRate (s.wingOf room))).defineTurn
    else .next (((s.wrF (pwr room) 0x080 63 61 2).raise (pwr room) 0 false).darkOut room).defineTurn

/-- TRIP_CLR: refused while the reading is 90 °C or more; STATE becomes OFF (R524). -/
def execTripClr (room : Nat) (s : State) : Host.Outcome State Fault Refusal :=
  .next (if s.pwrState room ≠ 3 then s
    else if (90 * 16 : Int) ≤ sgn 16 (s.rdF (pwr room) 0x090 15 0) then s.pwrRefused room
    else s.wr (pwr room) 0x080 0)

/-- VTRIM_WRITE: SUSPECT changed, with the rail and the header drop behind it; refused outside −50 to +50 mV and while the Room's Suite is
loaded and not halted (R525). -/
def execVtrimWrite (room : Nat) (v : W64) (s : State) : Host.Outcome State Fault Refusal :=
  let t := setFld (s.rd (pwr room) 0x088) 15 8 (fld v 15 8)
  let w := s.wingOf room
  .next (if !s.suiteIdle room ∨ 8 < fld v 15 8 ∨ trimMv t < -50 ∨ 50 < trimMv t then s.pwrRefused room
    else (s.wr (pwr room) 0x088 t).moveRail w (s.railRate w))

/-- TMAX_CLEAR: TMAX follows the present reading again (R529). -/
def execTmaxClear (room : Nat) (s : State) : Host.Outcome State Fault Refusal :=
  .next (s.wrF (pwr room) 0x090 31 16 (s.rdF (pwr room) 0x090 15 0))

/-! ### Input -/

/-- An event of the PWRG page with its capture. -/
def State.pwrgEvent (s : State) (bit cause : Nat) (injected : Bool) : State :=
  (s.capture pwrg 0x0A8 (put 63 56 cause)).raise pwrg bit injected

/-- INPUT_SAMPLE: VIN in 10 mV and IIN in 0.1 A; an entry below 40.0 V raises PWR_INPUT_LOW (R513, R514, R532). -/
def execInputSample (vin iin : Nat) (s : State) : Host.Outcome State Fault Refusal :=
  let inj := s.isArmed pwrg 0
  let s := if inj then s.disarm pwrg 0 else s
  let v := if inj then 3900 else vin % 65536
  let was := s.rdF pwrg 0x080 15 0
  let low : Nat → Bool := fun x => decide (3600 ≤ x) && decide (x < 4000)
  let entered := low v && !low was
  let s := s.wr pwrg 0x080 (put 31 16 iin ||| put 15 0 v)
  let out := decide (v < 3600) || decide (6200 < v)
  let swung := decide (was < 3600 ∧ 6200 < v) || decide (6200 < was ∧ v < 3600)
  let s := { s with rim := { s.rim with vinBad := if out then (match s.rim.vinBad with | some t => some (if swung then s.et else t) | none => some s.et) else none } }
  .next (if entered then s.pwrgEvent 0 0x10 inj else s)

/-- What the module holds with its power gone or at House reset: flash, with the powered hours counted up, and what is outside the module
(R514, R588). -/
def State.coldModule (s : State) : State :=
  { State.reset with
    c24 := s.c24, out := s.out, busData := s.busData, free := s.free, pending := s.pending
    rim := { Rim.fresh { s.rim.flash with phours := s.phours } with powered := s.rim.powered } }

/-- INPUT_SHUTDOWN: below 36.0 V for 100 µs or above 62.0 V for 10 µs every Chimney turns off, and the module is unpowered (R513, R514). -/
def execInputShutdown (s : State) : Host.Outcome State Fault Refusal :=
  match s.rim.vinBad with
  | none => .next s
  | some t =>
    let us := if s.rdF pwrg 0x080 15 0 < 3600 then 100 else 10
    if s.et < t + usToEt us then .next s
    else
      let s := s.coldModule
      .next { s with rim := { s.rim with powered := false } }

/-! ### Chimneys -/

/-- An event of a Wing's PWR page with its capture. -/
def State.pwrwEvent (s : State) (w bit cause point : Nat) (injected : Bool) : State :=
  (s.capture (pwrw w) 0x0B8 (put 63 56 cause ||| put 49 48 point)).raise (pwrw w) bit injected

/-- CHIMNEY_SAMPLE: phases on, VOUT in mV and IOUT in 0.25 A every 10 µs, and the energy they add, 400,000 of mV × 0.25 A × 10 µs to the mJ
(R516, R530). -/
def execChimneySample (wing phases vout iout : Nat) (s : State) : Host.Outcome State Fault Refusal :=
  let p := pwrw (wing % 64)
  let e := smGet 0 s.rim.energy (wing % 64) + (vout % 65536) * (iout % 4096)
  let s := s.wr p 0x080 (setFld (setFld (setFld (s.rd p 0x080) 59 54 phases) 31 16 vout) 11 0 iout)
  let s := s.wr p 0x0A0 (s.rd p 0x0A0 + BitVec.ofNat 64 (e / 400000))
  .next { s with rim := { s.rim with energy := smSet 0 s.rim.energy (wing % 64) (e % 400000) } }

/-- Whether a Chimney is beyond a warning limit: IOUT above 620 A, the output off by more than 5 %, or above 110 °C (R519). -/
def State.chimneyWarm (s : State) (w temp : Nat) : Bool :=
  let st := s.rd (pwrw w) 0x080
  let set := s.rdF (pwrw w) 0x088 31 16
  decide (2480 < fld st 11 0) || decide (set < 20 * gap (fld st 31 16) set) || decide (110 < temp)

/-- PMBUS_POLL: STATUS_WORD and the temperature in °C, read every 1 ms; a warning raises PWR_CHIMNEY_WARN (R519, R530, R531). -/
def execPmbusPoll (wing status temp : Nat) (s : State) : Host.Outcome State Fault Refusal :=
  let w := wing % 64
  let inj := s.isArmed (pwrw w) 2
  let s := if inj then s.disarm (pwrw w) 2 else s
  let status := if inj then (status % 65536) ||| 2 ^ 14 else status
  let s := s.wr (pwrw w) 0x0A8 (put 31 16 temp ||| put 15 0 status)
  .next (if inj || s.chimneyWarm w temp then s.pwrwEvent w 2 0x03 0 inj else s)

/-- Whether a key belongs to a Corridor page of a Room of a physical Wing. -/
def State.corridorKey (s : State) (w k : Nat) : Bool :=
  let pg := k / 2 ^ 32
  let inst := k % 2 ^ 32 / 2 ^ 12
  let phys := if inst < 0x8000 then s.physOf inst else inst - 0x8000
  decide (11 ≤ pg) && decide (pg ≤ 15) && decide (physWing phys = w)

/-- A Wing whose Chimney stops: its Rooms lose power, and its Corridors their registers and the packets in them (R519, R554). -/
def State.wingDark (s : State) (w : Nat) : State :=
  let s := (s.wingRooms w).foldl (fun s r => if s.pwrState r = 2 then s.powerLost r else s) s
  let gone : Nat → Bool := fun k => s.corridorKey w k
  { s with
    regs := smDrop gone s.regs, armed := smDrop gone s.armed, injLat := smDrop gone s.injLat
    pkts := s.pkts.filter fun (f : Flight) => !(decide (f.room < 16384) && decide (s.wingOf f.room = w))
    rim := { s.rim with rtOver := smDrop gone s.rim.rtOver } }

/-- Every running Suite reset, as a fault of its job (R519). -/
def State.resetRunning (s : State) : State :=
  (List.range 64).foldl (fun s i => match s.suite i with | some u => if u.run = 2 then s.suiteReset i else s | none => s) s

/-- PWR_CHIMNEY_FAULT: the Chimney shuts down, the Wing goes dark, and every running Suite is reset; without a RESTART that succeeds the Wing is
fenced (R519, R531, R566). -/
def execPwrChimneyFault (wing : Nat) (s : State) : Host.Outcome State Fault Refusal :=
  let w := wing % 64
  let st := s.rdF (pwrw w) 0x080 63 61
  if st = 0 ∨ st = 3 then .next s
  else
    let s := s.pwrwEvent w 3 0x04 0 false
    let s := s.record (pwrw w) 0x04 1 false false true ((s.suiteOfPhys w).getD 0) noRef (s.rd (pwrw w) 0x0B8)
    let s := s.resetRunning
    let s := s.wr (pwrw w) 0x080 (put 63 61 3)
    .next (((s.wingDark w).wingHist w 32).askFence w 2)

/-- CHIMNEY_RESTART: refused while a fault condition remains; the Chimney starts softly toward its rail (R519). -/
def execChimneyRestart (wing : Nat) (still : Bool) (s : State) : Host.Outcome State Fault Refusal :=
  let w := wing % 64
  .next (if s.rdF (pwrw w) 0x080 63 61 ≠ 3 then s
    else if still then s.pwrwEvent w 4 0x05 0 false
    else
      let rail := s.railAt w (s.railRate w)
      let s := s.wr (pwrw w) 0x080 (put 63 61 1)
      ({ s with rim := { s.rim with railTo := smSet 0 s.rim.railTo w rail } }).emit (.chimney w 0 rail))

/-- RAIL_REACHED: a Chimney regulates at its new rail, and the header drops follow; after a RESTART the Wing's Corridors run again, and its seams and
Flue links retrain (R517, R519). -/
def execRailReached (wing : Nat) (s : State) : Host.Outcome State Fault Refusal :=
  let w := wing % 64
  let rail := smGet 0 s.rim.railTo w
  if rail = 0 then .next s
  else
    let s := { s with rim := { s.rim with railTo := smSet 0 s.rim.railTo w 0 } }
    let s := (s.wrF (pwrw w) 0x088 31 16 rail).setDrops w
    if s.rdF (pwrw w) 0x080 63 61 = 1 then
      let s := s.wrF (pwrw w) 0x080 63 61 2
      let s := if smGet 0 s.rim.fenceAsk w = 2 then { s with rim := { s.rim with fenceAsk := smSet 0 s.rim.fenceAsk w 0 } } else s
      .next (s.startSeams w)
    else .next s

/-! ### Remote sense -/

/-- How much a point lies below the mean of the other used points, times their number: the sum of the others less as many times the point. -/
def senseLow (use : Nat) (mv : List Nat) (q : Nat) : Int × Nat :=
  let others := (List.range 4).filter fun k => use.testBit k && decide (k ≠ q)
  (((others.map fun k => (mv.getD k 0 : Int)).sum) - (others.length : Int) * (mv.getD q 0 : Int), others.length)

/-- Since when a point has been low, from a slot of the table of R521. -/
def State.lowSince (s : State) (k : Nat) (low : Bool) : State :=
  { s with rim := { s.rim with senseLow := smSet none s.rim.senseLow k (if low then (match smGet none s.rim.senseLow k with | some t => some t | none => some s.et) else none) } }

/-- Whether a slot has been low for 1 ms (R521). -/
def State.lowLong (s : State) (k : Nat) : Bool := match smGet none s.rim.senseLow k with | some t => decide (t + usToEt 1000 ≤ s.et) | none => false

/-- PWR_SENSE_FAULT: a record of KIND LASTING, every Suite in the Wing halted, and the Wing fenced at the next remap stage (R521, R566). -/
def State.senseFault (s : State) (w q : Nat) (injected : Bool) : State :=
  let s := s.pwrwEvent w 1 0x02 q injected
  let s := s.record (pwrw w) 0x02 3 injected false true ((s.suiteOfPhys w).getD 0) noRef (s.rd (pwrw w) 0x0B8)
  let s := (s.suitesInWing w).foldl (fun s i => match s.suite i with | some u => s.sendHalt i u.lead 15 (Page.pwrw.cls * 256 + 0x02) | none => s) s
  s.askFence w 3

/-- A used point found low: a fault, or an anomaly whose USE bit clears unless that would leave fewer than two (R521). -/
def State.senseAct (s : State) (w q : Nat) (fault injected : Bool) : State :=
  let p := pwrw w
  let used := (List.range 4).filter fun k => tst (s.rd p 0x098) k
  if fault ∨ used.length ≤ 2 then s.senseFault w q injected
  else ((s.pwrwEvent w 0 0x01 q injected).wr p 0x098 (clrBit (s.rd p 0x098) q)).wingHist w 48

/-- SENSE_CHECK: the four points in mV, each compared with the mean of the other used ones (R521, R530, R531). -/
def execSenseCheck (wing q0 q1 q2 q3 : Nat) (s : State) : Host.Outcome State Fault Refusal :=
  let w := wing % 64
  let p := pwrw w
  let mv := [q0 % 65536, q1 % 65536, q2 % 65536, q3 % 65536]
  let s := s.wr p 0x090 (ofLanes 16 mv)
  let cfg := s.rd p 0x098
  let injF := s.isArmed p 1
  let injA := s.isArmed p 0 && !injF
  if s.rdF p 0x080 11 0 < 4 * fld cfg 35 24 then .next s
  else
    let s := if injF then s.disarm p 1 else if injA then s.disarm p 0 else s
    let fault := fld cfg 23 16
    let delta := min (fld cfg 15 8) fault
    .next ((List.range 4).foldl (fun s q =>
      let use := fld (s.rd p 0x098) 3 0
      let d := senseLow use mv q
      let isLow : Nat → Bool := fun lim => decide (0 < d.2) && decide ((lim : Int) * (d.2 : Int) < d.1)
      let s := (s.lowSince (8 * w + q) (isLow delta)).lowSince (8 * w + 4 + q) (isLow fault)
      let hitF := s.lowLong (8 * w + 4 + q) || (injF && decide (q = 0))
      let hitA := s.lowLong (8 * w + q) || (injA && decide (q = 0))
      if use.testBit q && (hitF || hitA) then s.senseAct w q hitF ((injF || injA) && decide (q = 0)) else s) s)

/-! ### Cooling -/

/-- A Suite halted as a fault of its job by an event of a global page (R528). -/
def State.haltRunning (s : State) (code : Nat) : State :=
  (List.range 64).foldl (fun s i => match s.suite i with | some u => if u.run = 2 then s.sendHalt i u.lead 15 code else s | none => s) s

/-- Every Room's header switches open (R528). -/
def State.openAll (s : State) : State :=
  (List.range 64).foldl (fun s i => match s.suite i with
    | some u => u.rooms.foldl (fun s r => if s.pwrState r = 1 ∨ s.pwrState r = 2 then s.roomOpen r 0 else s) s
    | none => s) s

/-- A coolant fault or a leak: its event, an incident record, every running Suite halted and every Room opened (R528). -/
def State.coolFault (s : State) (bit cause : Nat) (injected : Bool) : State :=
  let s := s.pwrgEvent bit cause injected
  let s := s.record pwrg cause 1 injected false true 0 noRef (s.rd pwrg 0x0A8)
  let s := ((s.haltRunning (Page.pwrg.cls * 256 + cause)).openAll).moveRails
  { s with rim := { s.rim with coolBad := true } }

/-- The mean of a list of samples. -/
def meanOf (l : List Nat) : Nat := l.sum / max 1 l.length

/-- COOLANT_SAMPLE: flow in 0.1 L/min and temperatures in 0.1 °C, each the mean of its last 10 samples (R526, R528). -/
def execCoolantSample (flow tin tout : Nat) (s : State) : Host.Outcome State Fault Refusal :=
  let l := (s.rim.flow ++ [(flow % 65536, tin % 65536, tout % 65536)]).drop (s.rim.flow.length + 1 - 10)
  let f := meanOf (l.map Prod.fst)
  let ti := meanOf (l.map fun e => e.2.1)
  let since : Option Nat → Bool → Option Nat := fun o low => if low then (match o with | some t => some t | none => some s.et) else none
  let s := s.wr pwrg 0x088 (setFld (setFld (setFld (s.rd pwrg 0x088) 15 0 f) 31 16 ti) 47 32 (meanOf (l.map fun e => e.2.2)))
  .next { s with rim := { s.rim with
    flow := l
    flowLow := since s.rim.flowLow (decide (f < 10 * s.rdF pwrg 0x090 7 0))
    hotIn := since s.rim.hotIn (decide (450 < ti)) } }

/-- PWR_COOLANT_FAULT: FLOW below FLOW_MIN or T_IN above 45 °C for 1 s (R528). -/
def execPwrCoolantFault (s : State) : Host.Outcome State Fault Refusal :=
  let inj := s.isArmed pwrg 2
  let long : Option Nat → Bool := fun o => match o with | some t => decide (t + 156250000 ≤ s.et) | none => false
  .next (if inj then (s.disarm pwrg 2).coolFault 2 0x12 true
    else if (long s.rim.flowLow || long s.rim.hotIn) && !s.rim.coolBad then s.coolFault 2 0x12 false else s)

/-- PWR_LEAK: the leak trace detects fluid (R528). -/
def execPwrLeak (wet : Bool) (s : State) : Host.Outcome State Fault Refusal :=
  let inj := s.isArmed pwrg 3
  .next (if inj then (s.disarm pwrg 3).coolFault 3 0x13 true
    else
      let was := tst (s.rd pwrg 0x088) 63
      let s := s.wrF pwrg 0x088 63 63 (b2n wet)
      if wet && !was then s.coolFault 3 0x13 false else s)

/-- PWRG_CLEAR: Rooms may be powered again, unless a fault condition still holds (R528). -/
def execPwrgClear (s : State) : Host.Outcome State Fault Refusal :=
  let bad := s.rim.flowLow.isSome || s.rim.hotIn.isSome || tst (s.rd pwrg 0x088) 63
  .next (if bad then s.pwrgEvent 4 0x14 false else { s with rim := { s.rim with coolBad := false } })

end Sys2Proof.Machine
end

