-- ==== Sys2Proof/Machine/Damper.lean ====
section
/-!
DEFINITION. Damper, Stoke, power budget, Draught and thermal response (R483 to R512).  Currents are in units of 1/256 mA, in which the Room
estimate of R483 is exact; an ampere is 256,000 of them.
-/

namespace Sys2Proof.Machine

/-- The Wing DMP page (R507). -/
def dmpw (wing : Nat) : PageRef := ⟨.dmpw, wing⟩

/-- The global DMPG page (R510). -/
def dmpg : PageRef := gp .dmpg

/-- The Damper of a Wing. -/
def State.dmp (s : State) (w : Nat) : WingDmp := smGet .rest s.rim.dmp w

/-- The Damper of a Wing replaced. -/
def State.setDmp (s : State) (w : Nat) (d : WingDmp) : State := { s with rim := { s.rim with dmp := smSet .rest s.rim.dmp w d } }

/-- An event of a Wing's DMP page with its capture (R507, R509). -/
def State.dmpwEvent (s : State) (w bit cause phys : Nat) (injected : Bool) : State :=
  (s.capture (dmpw w) 0x098 (put 63 56 cause ||| put 46 32 phys)).raise (dmpw w) bit injected

/-- An event of the DMPG page with its capture (R510, R512). -/
def State.dmpgEvent (s : State) (bit cause suite : Nat) (injected : Bool) : State :=
  (s.capture dmpg 0x0D0 (put 63 56 cause ||| put 55 50 suite)).raise dmpg bit injected

/-- SLOPE of a Wing in A/µs; a value outside 5 to 1,000 is taken as 5 (R508). -/
def State.slope (s : State) (w : Nat) : Nat :=
  let v := s.rdF (dmpw w) 0x088 63 54
  if 5 ≤ v ∧ v ≤ 1000 then v else 5

/-- STOKE_SLOPE of a Wing; lower values are taken as SLOPE (R508). -/
def State.stokeSlope (s : State) (w : Nat) : Nat := max (s.slope w) (min 1000 (s.rdF (dmpw w) 0x088 53 44))

/-- HOLD_US of a Wing (R508). -/
def State.floorHoldUs (s : State) (w : Nat) : Nat := s.rdF (dmpw w) 0x088 19 10

/-- The permitted slope per tick of 64 cycles: SLOPE × 64 / (25 MHz × RATE) (R484). -/
def tickSlope (slope rate : Nat) : Nat := slope * 655360 / max 1 rate

/-- LEVEL of a Suite's Stoke in units of current (R493). -/
def StokeSt.amps (k : StokeSt) : Nat := k.level * 640000

/-- Whether a Suite's Stoke is active and covers a level (R493). -/
def Suite.stokes (u : Suite) (level : Nat) : Bool := u.stoke.any fun k => decide (k.st = 2) && decide (level ≤ k.amps)

/-- The current an elastic Suite's Wing allows: the floor and its slope, or with an active Stoke the floor and STOKE_SLOPE, up to LEVEL (R492, R493). -/
def Suite.elasticAllow (u : Suite) (slow fast : Nat) : Nat :=
  u.stoke.foldl (fun a k => if k.st = 2 then max a (min k.amps fast) else a) slow

/-! ### Stoke -/

/-- The Chimneys of a Suite told of a Stoke level in 2.5 A units, 0 to end it (R493, R518). -/
def State.tellChimneys (s : State) (u : Suite) (level : Nat) : State :=
  (s.suiteWings u).foldl (fun s w =>
    let s := s.setDmp w { s.dmp w with ready := false, late := false }
    (s.wrF (pwrw w) 0x080 60 60 0).emit (.chimney w 1 level)) s

/-- A Stoke handed to a Suite's Damper: it replaces the one before; LEVEL 0 withdraws it (R493). -/
def State.takeStoke (s : State) (i lead level : Nat) : State :=
  match s.suite i with
  | none => s
  | some u =>
    let level := min level 240
    let k : List StokeSt := if level = 0 then [] else [⟨s.et, if lead = 0 then 20 else lead, level, 1, false⟩]
    (s.setSuite i { u with stoke := k }).tellChimneys u level

/-- A Suite's Stoke ends: its Chimneys return to normal shedding (R493). -/
def State.endStoke (s : State) (i : Nat) : State :=
  match s.suite i with
  | none => s
  | some u => (s.setSuite i { u with stoke := [] }).tellChimneys u 0

/-- CS_STOKE: at its step a STOKE entry reaches the Suite's Damper (R246, R493). -/
def execCsStoke (suite : Nat) (s : State) : Host.Outcome State Fault Refusal :=
  match s.csHead suite 3 with
  | none => .next s
  | some (u, e) =>
    if u.now < e.t0 then .next s
    else
      let x := e.words.getD 1 0
      .next ((s.takeStoke suite (fld x 23 8) (fld x 7 0)).csPop suite)

/-- CHIMNEY_READY: a Chimney reports its pre-positioning in effect; the Stoke is active once every Chimney of the Suite has (R493, R518). -/
def execChimneyReady (wing : Nat) (s : State) : Host.Outcome State Fault Refusal :=
  let w := wing % 64
  match s.suiteOfPhys w with
  | none => .next s
  | some i =>
    match s.suite i with
    | none => .next s
    | some u =>
      if u.stoke.isEmpty then .next s
      else
        let s := (s.setDmp w { s.dmp w with ready := true }).wrF (pwrw w) 0x080 60 60 1
        if (s.suiteWings u).all fun v => (s.dmp v).ready then
          .next (s.setSuite i { u with stoke := u.stoke.map fun k => if k.st = 1 then { k with st := 2 } else k })
        else .next s

/-- DMP_STOKE_LATE: at t₀ + lead a Stoke that is not ready is late in each Wing whose Chimney has not reported (R493, R509). -/
def execDmpStokeLate (suite : Nat) (s : State) : Host.Outcome State Fault Refusal :=
  match s.suite suite with
  | none => .next s
  | some u =>
    match u.stoke with
    | [] => .next s
    | k :: _ =>
      let ws := s.suiteWings u
      let inj := ws.filter fun w => s.isArmed (dmpw w) 1
      let due := decide (k.st = 1) && decide (k.t0 + usToEt k.lead ≤ s.et)
      if k.late ∨ (!due ∧ inj.isEmpty) then .next s
      else
        let s := ws.foldl (fun s w =>
          let hit := inj.contains w
          if hit ∨ (due ∧ !(s.dmp w).ready) then
            let s := if hit then s.disarm (dmpw w) 1 else s
            let s := ((s.dmpwEvent w 1 0x11 0 hit).bump (dmpw w) 0x090 47 32 1)
            s.setDmp w { s.dmp w with late := true }
          else s) s
        .next (s.modSuite suite fun u => { u with stoke := u.stoke.map fun k => { k with late := true } })

/-- STOKE_END: an active Stoke ends HOLD_US after t₀ + lead (R493). -/
def execStokeEnd (suite : Nat) (s : State) : Host.Outcome State Fault Refusal :=
  match s.suite suite with
  | none => .next s
  | some u =>
    match u.stoke with
    | [] => .next s
    | k :: _ =>
      let hold := s.floorHoldUs ((s.suiteWings u).headD 0)
      .next (if k.st = 2 ∧ k.t0 + usToEt (k.lead + hold) ≤ s.et then s.endStoke suite else s)

/-! ### The Suite profile -/

/-- The profile level in force at a step, in 0.25 A units: that of the last entry known to start by then (R488). -/
def Suite.levelAt (u : Suite) (step : Nat) : Nat :=
  (u.prof.foldl (fun (m : Nat × Nat) e => if e.1 ≤ step ∧ m.1 ≤ e.1 + 1 then (e.1 + 1, e.2) else m) (0, 0)).2

/-- LA of a Suite: at least FL + 16 (R490, R511). -/
def State.lookahead (s : State) (i : Nat) : Nat := max (s.fl + 16) (s.rdF dmpg (0x400 + 16 * i) 63 48)

/-- The source number of the Damper's stall requests. -/
def damperSrc : Nat := 2 ^ 22

/-- FREEZEs of `n` steps in all, at most 65,535 each, from a Suite cycle on (R490). -/
def slopeWins (start : Nat) : Nat → Nat → List FlueMsg
  | 0, _ => []
  | fuel + 1, n => if n = 0 then [] else ⟨false, 3, damperSrc + fuel, min n 65535, start⟩ :: slopeWins (start + min n 65535) fuel (n - min n 65535)

/-- PROFILE_RISE: an entry of the Suite profile (its first step in this RUN, LEVEL in 0.25 A units) acted on at step START − LA.  A rise sets the
target of every Wing, and a FREEZE of cause SLOPE covers what the floors cannot reach in time (R488, R490). -/
def execProfileRise (suite start level : Nat) (s : State) : Host.Outcome State Fault Refusal :=
  match s.suite suite with
  | none => .next s
  | some u =>
    let la := s.lookahead suite
    let step := u.step.toNat
    let level := level % 4096
    if u.run ≠ 2 ∨ u.mode ≠ 0 ∨ step + la < start ∨ u.prof.contains (start, level) then .next s
    else
      let before := u.levelAt (start - 1)
      let u := { u with prof := u.prof ++ [(start, level)] }
      let s := s.setSuite suite u
      if level ≤ before ∨ start = 0 ∧ level = 0 then .next s
      else
        let amps := level * 64000
        let ws := s.suiteWings u
        let s := ws.foldl (fun s w => s.setDmp w { s.dmp w with target := amps, until_ := start }) s
        let f0 := ((ws.map fun w => (s.dmp w).floor).min?).getD 0
        let w0 := ws.headD 0
        let slope := if u.stokes amps then s.stokeSlope w0 else s.slope w0
        let left := if start ≤ step then 0 else start - step
        let n := ceilDiv ((amps - f0) * u.rate) (10240 * max 1 slope) - min la left
        .next (s.setSuite suite { u with msgs := u.msgs ++ slopeWins (u.clk + left) (n / 65535 + 2) n })

/-! ### The tick -/

/-- What a Room does with its part of the shortfall: ballast fires, by the MAC units that stood idle in the tick (R485). -/
def State.ballastOf (s : State) (room short idleAll : Nat) (all : Bool) : Nat :=
  let t := (s.room room).tick
  let idle := 4096 - (smGet 0 t 0 + smGet 0 t 1 + smGet 0 t 2 + smGet 0 t 3)
  if all then idle else short * idle / max 1 idleAll / max 1 (s.dmpCost room 1)

/-- The idle MAC units of a Room in the tick. -/
def State.idleMacs (s : State) (room : Nat) : Nat :=
  let t := (s.room room).tick
  4096 - (smGet 0 t 0 + smGet 0 t 1 + smGet 0 t 2 + smGet 0 t 3)

/-- The entry of a Room profile in force at a step, with its index (R489, R210). -/
def RoomSt.profAt (r : RoomSt) (step : Nat) : Option (Nat × Nat) :=
  let x := if r.profPer = 0 then step else step % r.profPer
  let up := (((List.range r.prof.length).zip r.prof).filter fun e => decide (e.2.2 ≤ x)).getLast?
  match up with
  | some (k, e) => some (k, e.1)
  | none => if r.profPer = 0 ∨ step < r.profPer then (if r.prof = [] then none else some (0, 0)) else (r.prof.getLast?).map fun e => (r.prof.length - 1, e.1)

/-- A Room's estimate above its profile and MARGIN / 256 raises DMP_PROFILE_EXCEEDED (R489, R506). -/
def State.profileCheck (s : State) (room w step i : Nat) : State :=
  let p := rp .dmp room
  let inj := s.isArmed p 0
  match (s.room room).profAt step with
  | none => s
  | some (k, level) =>
    let lim := level * 512 + s.rdF (dmpw w) 0x088 43 36 * 1000
    if inj ∨ lim < i then
      let s := if inj then s.disarm p 0 else s
      ((s.capture p 0x0A0 (put 63 56 0x01 ||| put 55 44 k)).raise p 0 inj).bump p 0x098 15 0 1
    else s

/-- One Room at the end of a tick: its estimate, ballast, profile comparison, the counts of withheld fires and the limits of the next tick
(R483, R485, R489, R492, R497, R506). -/
def State.roomTick (s : State) (suite : Option (Nat × Suite)) (w room ballast allow triedAll : Nat) : State :=
  let r := s.room room
  let i := s.dmpNow room + ballast * s.dmpCost room 1
  let elastic : Bool := match suite with | some (_, u) => decide (u.mode ≠ 0) && decide (u.run = 2) | none => false
  let free := if r.withheld = 0 then i else r.lastFree
  let theta := match suite with | some (_, u) => u.theta | none => 0
  let share := if elastic then some (if triedAll = 0 then allow / 256 else allow * r.tried / triedAll) else none
  let limB := if elastic ∧ theta ≠ 0 then some ((64 - theta) * free / 64) else none
  let s := match suite with
    | some (_, u) => if u.run = 2 then s.profileCheck room w u.step.toNat i else s
    | none => s
  let s := match suite with
    | some (k, u) =>
      if r.withheld = 0 then s
      else
        let c := 16 + 4 * room + (if r.withheld % 2 = 1 then 2 else 3)
        (s.setSuite k { u with stall := smSet 0 u.stall c (smGet 0 u.stall c + 64) }).bump (rp .dmp room) 0x098 63 32 1
    | none => s
  let s := s.modRoom room fun r => { r with tick := [], tried := 0, withheld := 0, lastFree := free, iroom := i, ballast, share, limB }
  s.wr (rp .dmp room) 0x080 (put 63 52 (min 4095 (i / 512)) ||| put 47 32 (min 65535 ballast) |||
    put 27 16 (match share with | some x => min 4095 (x / 512) | none => 0) ||| put 0 0 (b2n (r.withheld ≠ 0)))

/-- DMPW_STATUS (R507). -/
def State.showDmp (s : State) (w : Nat) : State :=
  let d := s.dmp w
  let q (x : Nat) : Nat := min 4095 (x / 64000)
  let st := match (s.suiteOfPhys w).bind s.suite with
    | some u => (match u.stoke with | k :: _ => if k.st = 2 then 2 else if d.late then 3 else 1 | [] => 0)
    | none => 0
  s.wr (dmpw w) 0x080 (put 63 52 (q d.est) ||| put 47 36 (q d.floor) ||| put 35 24 (q d.target) ||| put 23 12 (q d.estW) ||| put 1 0 st)

/-- A Wing whose EST rises above F + r + MARGIN in a stepped Suite asks for a SLOPE stall of RLEN steps (R491, R509). -/
def State.slopeCheck (s : State) (w i floor r est : Nat) : State :=
  let inj := s.isArmed (dmpw w) 0
  let margin := s.rdF (dmpw w) 0x088 43 36 * 256000
  if inj ∨ floor + r + margin < est then
    let s := if inj then s.disarm (dmpw w) 0 else s
    let s := (s.dmpwEvent w 0 0x10 0 inj).bump (dmpw w) 0x090 63 48 1
    s.stallReq i 3 (damperSrc + 65536 + w) (max 16 (s.rdF (dmpw w) 0x088 35 20))
  else s

/-- DAMPER_TICK: every 64 Suite cycles a Wing forms EST and EST_W from its Rooms' estimates, Banking covers the shortfall against the floor, and the
floor moves (R483 to R487, R491, R492). -/
def execDamperTick (wing : Nat) (s : State) : Host.Outcome State Fault Refusal :=
  let w := wing % 64
  let d := s.dmp w
  let su := match s.suiteOfPhys w with | some i => (match s.suite i with | some u => some (i, u) | none => none) | none => none
  let clk := match su with | some (_, u) => u.clk | none => d.tickAt + 64
  if clk < d.tickAt + 64 then .next s
  else
    let rooms := (s.wingRooms w).filter fun r => s.pwrState r = 2
    let estW := (rooms.map fun r => s.dmpNow r).sum
    let step := match su with | some (_, u) => u.step.toNat | none => 0
    let frozen := match su with | some (_, u) => u.frozen | none => false
    let rising := decide (d.target ≠ 0) && (decide (step < d.until_) || (decide (step = d.until_) && frozen))
    let lim := if rising then d.floor else min d.floor d.est
    let short := if s.rdF (pwrw w) 0x080 63 61 = 2 then lim - estW else 0
    let idleAll := (rooms.map fun r => s.idleMacs r).sum
    let cover := (rooms.map fun r => s.idleMacs r * s.dmpCost r 1).sum
    let all := decide (cover ≤ short)
    let fires := rooms.map fun r => (r, if short = 0 then 0 else s.ballastOf r short idleAll all)
    let est := estW + (fires.map fun e => e.2 * s.dmpCost e.1 1).sum
    let rate := s.wingRate w
    let r := tickSlope (s.slope w) rate
    let rUp := match su with | some (_, u) => if u.stokes d.target then tickSlope (s.stokeSlope w) rate else r | none => r
    let held := if frozen then (match d.held with | some t => some t | none => some (s.et + usToEt (s.floorHoldUs w))) else none
    let keep := match held with | some t => decide (t ≠ 0) | none => false
    let fall := max estW (if keep then d.floor else d.floor - r)
    let floor := if rising then (if d.floor ≤ d.target then min d.target (d.floor + rUp) else max d.target fall) else fall
    let allow := match su with | some (_, u) => u.elasticAllow (floor + r) (floor + tickSlope (s.stokeSlope w) rate) | none => floor + r
    let triedAll := (rooms.map fun x => (s.room x).tried).sum
    let s := if cover < short then s.bump (dmpw w) 0x090 31 16 1 else s
    let s := match su with | some (i, u) => if u.mode = 0 ∧ u.run = 2 then s.slopeCheck w i d.floor r est else s | none => s
    let s := fires.foldl (fun s e =>
      s.roomTick (match su with | some (i, _) => (match s.suite i with | some u => some (i, u) | none => none) | none => none) w e.1 e.2 allow triedAll) s
    let s := s.setDmp w { d with floor, target := if rising then d.target else 0, est, estW, tickAt := clk, held }
    let s := match su with
      | some (i, u) => if u.stoke.any (fun k => decide (k.st = 2) && (s.suiteWings u).all fun v => decide (k.amps ≤ (s.dmp v).floor)) then s.endStoke i else s
      | none => s
    .next (s.showDmp w)

/-- FLOOR_HOLD_EXPIRY: HOLD_US after a freeze began the held floor starts to decay (R486). -/
def execFloorHoldExpiry (wing : Nat) (s : State) : Host.Outcome State Fault Refusal :=
  let w := wing % 64
  .next (match (s.dmp w).held with
    | some t => if t ≠ 0 ∧ t ≤ s.et then s.setDmp w { s.dmp w with held := some 0 } else s
    | none => s)

/-- Whether a stepped Suite may be released at its present step: the floor of each of its Wings is at least the level in force less r × LA / 64
(R486). -/
def State.floorsReady (s : State) (i : Nat) (u : Suite) : Bool :=
  (s.suiteWings u).all fun w =>
    decide (u.levelAt u.step.toNat * 64000 ≤ (s.dmp w).floor + tickSlope (s.slope w) u.rate * s.lookahead i / 64)

/-- A freeze that would end while a floor is too low goes on as SLOPE stall steps (R486). -/
def State.slopeHold (s : State) (i : Nat) : State :=
  match s.suite i with
  | none => s
  | some u =>
    if u.run = 2 ∧ u.mode = 0 ∧ u.frozenL ∧ (u.freezeCause u.clk).isNone ∧ !u.holding ∧ !s.floorsReady i u then
      s.setSuite i { u with wins := u.wins ++ [⟨3, damperSrc + 131072, u.clk, some (u.clk + 1)⟩] }
    else s

/-- BUDGET and THERMAL stalls asked for as their runs begin (R497, R498, R504). -/
def State.throttle (s : State) (i : Nat) : State :=
  match s.suite i with
  | none => s
  | some u =>
    if u.run ≠ 2 then s
    else
      let blen := max 16 (s.rdF dmpg 0x080 47 32)
      let bud := decide (u.mode = 0) && decide (u.theta ≠ 0) && decide (u.budNext ≤ u.clk)
      let s := if bud then (s.stallReq i 2 (damperSrc + 65536 + 64) blen).modSuite i fun u =>
          { u with budNext := u.clk + (if 64 ≤ u.theta then blen else ceilDiv (64 * blen) u.theta) } else s
      let tlen := s.rdF dmpg 0x098 31 16
      if u.thermPer ≠ 0 ∧ tlen ≠ 0 ∧ u.thermNext ≤ u.clk then
        (s.stallReq i 1 (damperSrc + 65536 + 65) tlen).modSuite i fun u => { u with thermNext := u.clk + u.thermPer }
      else s

/-! ### Power budget -/

/-- A Suite in the allocation: ID, CLASS, demand, MIN_W, MAX_W, whether it belongs to the Draught job, its step 1 and step 2 shares, and whether it
is refused (R496); `inj`: its demand was doubled by an injection (R512). -/
structure Bid where
  id   : Nat
  cls  : Nat
  d    : Nat
  min_ : Nat
  max_ : Nat
  job  : Bool
  base : Nat
  more : Nat
  out  : Bool
  inj  : Bool
  deriving DecidableEq, Repr

/-- Step 1: Suites refused, lowest CLASS first and highest ID first within a class, until the floors fit (R496). -/
def bidRefuse (a : Nat) : List Nat → List Bid → List Bid
  | [], l => l
  | i :: order, l => if (l.map Bid.base).sum ≤ a then l else bidRefuse a order (l.map fun (b : Bid) => if b.id = i then { b with base := 0, out := true } else b)

/-- Step 2 for one class: what it gets of the remainder (R496). -/
def bidClass (rem c : Nat) (l : List Bid) : List Bid × Nat :=
  let need : Bid → Nat := fun b => if b.out ∨ b.cls ≠ c then 0 else min b.d b.max_ - b.base
  let all := (l.map need).sum
  if all ≤ rem then (l.map fun (b : Bid) => { b with more := b.more + need b }, rem - all)
  else (l.map fun (b : Bid) => { b with more := b.more + rem * need b / all }, 0)

/-- Step 3: what the job holds above E is taken from its step 2 shares, lowest CLASS first (R496). -/
def bidCut (excess : Nat) : List Nat → List Bid → List Bid
  | [], l => l
  | i :: order, l =>
    match l.find? (fun b => b.id = i) with
    | some b =>
      let t := if b.job then min excess b.more else 0
      bidCut (excess - t) order (l.map fun (x : Bid) => if x.id = i then { x with more := x.more - t } else x)
    | none => bidCut excess order l

/-- The order of refusal: lowest CLASS first, highest ID first within a class (R496). -/
def bidOrder (l : List Bid) : List Nat := (List.range 4).flatMap fun c => (l.filter fun b => b.cls = c).reverse.map Bid.id

/-- The allocation of R496 over bids in order of ID; `cap` is E with Draught enabled. -/
def allocate (a : Nat) (cap : Option Nat) (l : List Bid) : List Bid :=
  let l := bidRefuse a (bidOrder l) (l.map fun (b : Bid) => { b with base := min b.d b.min_ })
  let rem := a - (l.map Bid.base).sum
  let r3 := bidClass rem 3 l
  let r2 := bidClass r3.2 2 r3.1
  let r1 := bidClass (if r2.2 = 0 then 0 else r2.2) 1 r2.1
  let l := (bidClass r1.2 0 r1.1).1
  match cap with
  | none => l
  | some e => bidCut ((l.map fun b => if b.job then b.base + b.more else 0).sum - e) (bidOrder l) l

/-- θ_s in 1/64: 1 − ALLOC_W / D_s rounded up; at most 63/64 for a delayed Suite (R497). -/
def throttleOf (alloc d : Nat) (refused : Bool) : Nat :=
  if d ≤ alloc then 0 else if refused then min 64 (ceilDiv (64 * (d - alloc)) (max 1 d)) else min 63 (ceilDiv (64 * (d - alloc)) d)

/-- MIN_W of a Suite in W (R511). -/
def State.minW (s : State) (i : Nat) : Nat := 10 * s.rdF dmpg (0x400 + 16 * i) 15 0

/-- MAX_W of a Suite in W; 0 is taken as 27,000 W (R511). -/
def State.maxW (s : State) (i : Nat) : Nat :=
  let v := s.rdF dmpg (0x400 + 16 * i) 31 16
  10 * (if v = 0 then 2700 else v)

/-- The measured power of a Suite in the window that ends, in W: the energy of its Chimneys' outputs over its length (R494). -/
def State.windowPower (s : State) (u : Suite) (ms : Nat) : Nat :=
  ((s.suiteWings u).map fun w => (s.rd (pwrw w) 0x0A0).toNat - smGet 0 s.rim.enStart w).sum / max 1 ms

/-- Demand of a running Suite: P_s / (1 − θ_s), or full activity until a window of its RUN has closed; with θ_s = 1 it is open (R495). -/
def State.demand (s : State) (u : Suite) (p : Nat) : State × Nat :=
  if u.winCnt = 0 then (s, u.wings.length * s.rdF dmpg 0x080 31 16)
  else if 64 ≤ u.theta then s.drawNat
  else (s, 64 * p / (64 - u.theta))

/-- The running Suites' bids, in order of ID, with their measured powers (R494 to R496). -/
def State.bids (s : State) (ms : Nat) : State × List (Bid × Nat) :=
  (List.range 64).foldl (fun (a : State × List (Bid × Nat)) i =>
    match a.1.suite i with
    | some u =>
      if u.run = 2 then
        let p := a.1.windowPower u ms
        let r := a.1.demand u p
        let first := a.2.isEmpty && r.1.isArmed dmpg 0
        let s := if first then r.1.disarm dmpg 0 else r.1
        let d := if first then 2 * r.2 else r.2
        let b : Bid :=
          { id := i, cls := s.rdF dmpg (0x400 + 16 * i) 33 32, d, min_ := s.minW i, max_ := s.maxW i
            job := decide (s.jobOf i = s.rdF dmpg 0x0A0 47 32), base := 0, more := 0, out := false, inj := first }
        (s, a.2 ++ [(b, p)])
      else (a.1.wr dmpg (0x408 + 16 * i) (put 51 48 u.thetaT ||| put 15 0 (min 65535 (a.1.windowPower u ms / 10))), a.2)
    | none => a) (s, [])

/-- Which of D_V, D_F and D_T is the smallest, below 27,000 W: 0 none, 1 to 3 in that order. -/
def derateKind (dv df dt : Nat) : Nat :=
  let m := min 27000 (min dv (min df dt))
  if m = 27000 then 0 else if dv = m then 1 else if df = m then 2 else 3

/-- DERATE_W set from input voltage and coolant, with PWR_COOLANT_DERATE as D_F or D_T becomes the smallest (R527, R532). -/
def State.derate (s : State) : State :=
  let inj := s.isArmed pwrg 1
  let s := if inj then s.disarm pwrg 1 else s
  let flow := if inj then 500 else s.rdF pwrg 0x088 15 0
  let tin := s.rdF pwrg 0x088 31 16
  let dv := 675 * s.rdF pwrg 0x080 15 0 / 100
  let df := 45 * flow
  let dt := if 400 < tin then 27000 - 200 * (tin - 400) else 27000
  let old := derateKind (s.rdF pwrg 0x098 15 0) (s.rdF pwrg 0x098 31 16) (s.rdF pwrg 0x098 47 32)
  let new := derateKind dv df dt
  let s := s.wr pwrg 0x098 (put 15 0 dv ||| put 31 16 df ||| put 47 32 dt)
  let s := s.wrF dmpg 0x088 15 0 (min 27000 (min dv (min df dt)))
  if 2 ≤ new ∧ new ≠ old then s.pwrgEvent 1 0x11 inj else s

/-- What a window's allocation shows and does for one Suite; `capInj` tells that the injection of R512 made CAP_EFF 8,000 W (R497, R498, R511). -/
def State.award (s : State) (capInj : Bool) (b : Bid) (p : Nat) : State :=
  let alloc := b.base + b.more
  let st := if b.d ≤ alloc then 1 else if b.out then 3 else 2
  let th := throttleOf alloc b.d b.out
  let old := s.rdF dmpg (0x408 + 16 * b.id) 63 61
  let tt := match s.suite b.id with | some u => u.thetaT | none => 0
  let s := s.wr dmpg (0x408 + 16 * b.id)
    (put 63 61 st ||| put 57 52 (min 63 th) ||| put 51 48 tt ||| put 47 32 (min 65535 (alloc / 10)) ||| put 31 16 (min 65535 (b.d / 10)) ||| put 15 0 (min 65535 (p / 10)))
  let s := s.modSuite b.id fun u => { u with winCnt := u.winCnt + 1 }
  if st = 2 ∧ old ≠ 2 then s.dmpgEvent 0 0x20 b.id (b.inj || capInj)
  else if st = 3 ∧ old ≠ 3 then s.dmpgEvent 1 0x21 b.id (b.inj || capInj) else s

/-- POWER_WINDOW: every 1 ms the Damper measures power, sets DERATE_W and CAP_EFF and allocates among the running Suites (R494 to R498, R527). -/
def execPowerWindow (s : State) : Host.Outcome State Fault Refusal :=
  let ms := (s.et - s.rim.winEt) / 156250
  if ms = 0 then .next s
  else
    let s := s.derate
    let inj := s.isArmed dmpg 1
    let s := if inj then s.disarm dmpg 1 else s
    let capEff := if inj then 8000 else min (s.rdF dmpg 0x080 15 0) (s.rdF dmpg 0x088 15 0)
    let all := ((List.range 64).map fun i => match s.suite i with | some u => s.windowPower u ms | none => 0).sum
    let pin := s.rdF pwrg 0x080 15 0 * s.rdF pwrg 0x080 31 16 / 1000
    let fixed := pin - all
    let r := s.bids ms
    let s := (r.1.wrF dmpg 0x088 31 16 capEff).wr dmpg 0x090 (put 31 0 pin ||| put 63 32 fixed)
    let e := if tst (s.rd dmpg 0x0A0) 63 then some (s.rdF dmpg 0x0C0 63 32) else none
    let l := allocate (capEff - fixed) e (r.2.map Prod.fst)
    let s := (l.zip (r.2.map Prod.snd)).foldl (fun s x => s.award inj x.1 x.2) s
    let en := (List.range 64).foldl (fun (m : SMap Nat) w => smSet 0 m w (s.rd (pwrw w) 0x0A0).toNat) s.rim.enStart
    .next { s with rim := { s.rim with winEt := s.et, enStart := en } }

/-- DAMPER: a Flue message carries a window's budget to the lead Room of a Suite, where the throttle takes effect (R310, R497). -/
def execDamper (suite : Nat) (s : State) : Host.Outcome State Fault Refusal :=
  let w := s.rd dmpg (0x408 + 16 * (suite % 64))
  let th := if fld w 63 61 = 3 then 64 else if fld w 63 61 = 2 then fld w 57 52 else 0
  .next (s.modSuite suite fun u => { u with theta := th, budNext := if u.theta = th then u.budNext else u.clk })

/-- The sum of MIN_W over the defined Suites. -/
def State.minSum (s : State) : Nat := ((List.range 64).map fun i => if (s.suite i).isSome then s.minW i else 0).sum

/-- CAP_WRITE: CAP_W within 8,000 to 27,000 and at least the floors and the last P_fixed (R499). -/
def execCapWrite (v : W64) (s : State) : Host.Outcome State Fault Refusal :=
  let cap := fld v 15 0
  .next (if cap < 8000 ∨ 27000 < cap ∨ cap < s.minSum + s.rdF dmpg 0x090 63 32 then s.dmpgEvent 3 0x23 0 false
    else s.wr dmpg 0x080 (v &&& maskOf 47 0))

/-- SUITE_BUDGET_WRITE: DMPG_SUITE_A of a Suite; MIN_W above MAX_W, or floors that the cap cannot hold, are refused (R499, R511). -/
def execSuiteBudgetWrite (suite : Nat) (v : W64) (s : State) : Host.Outcome State Fault Refusal :=
  let i := suite % 64
  let t := s.wr dmpg (0x400 + 16 * i) (v &&& (maskOf 63 48 ||| maskOf 33 0))
  .next (if t.maxW i < t.minW i ∨ s.rdF dmpg 0x080 15 0 < t.minSum + s.rdF dmpg 0x090 63 32 then s.dmpgEvent 3 0x23 i false else t)

/-! ### Draught -/

/-- A peer of the Draught exchange. -/
def State.drPeer (s : State) (k : Nat) : DrPeer := smGet ⟨0, none, none, 0, 0⟩ s.rim.peers k

/-- A peer replaced. -/
def State.setPeer (s : State) (k : Nat) (p : DrPeer) : State := { s with rim := { s.rim with peers := smSet ⟨0, none, none, 0, 0⟩ s.rim.peers k p } }

/-- Whether Draught is enabled (R510). -/
def State.drOn (s : State) : Bool := tst (s.rd dmpg 0x0A0) 63

/-- E of this engine (R510). -/
def State.drE (s : State) : Nat := s.rdF dmpg 0x0C0 63 32

/-- FLOOR_W, CEIL_W and the equal split of a total (R502, R510). -/
def drSplit (total : W64) : Nat := fld total 63 32 / max 1 (fld total 16 0)

/-- Whether an equal split lies within limits and the floor covers the floors of the job's Suites (R502). -/
def State.drFits (s : State) (job : Nat) (total limits : W64) : Bool :=
  let e := drSplit total
  decide (fld limits 63 32 ≤ e) && decide (e ≤ fld limits 31 0)
    && decide (((s.jobSuites job).map s.minW).sum ≤ fld limits 63 32)

/-- DRAUGHT_ENABLE: a write of DMPG_DRAUGHT; JOB and PERIOD_MS change only while EN is clear, and setting EN sets E to the equal split, unless it is
refused (R502, R510). -/
def execDraughtEnable (v : W64) (s : State) : Host.Outcome State Fault Refusal :=
  if s.drOn then .next (if tst v 63 then s else s.wrF dmpg 0x0A0 63 63 0)
  else if !tst v 63 then .next (s.wr dmpg 0x0A0 (v &&& (maskOf 47 32 ||| maskOf 15 0)))
  else if !s.drFits (fld v 47 32) (s.rd dmpg 0x0A8) (s.rd dmpg 0x0B0) then .next (s.dmpgEvent 3 0x23 0 false)
  else
    let s := s.wr dmpg 0x0A0 (v &&& (maskOf 63 63 ||| maskOf 47 32 ||| maskOf 15 0))
    .next { s.wr dmpg 0x0C0 (put 63 32 (drSplit (s.rd dmpg 0x0A8))) with rim := { s.rim with peers := [], drEt := s.et, coldEt := 0 } }

/-- DR_TOTAL_WRITE: TOTAL_W and N_ENGINES; with EN set the equal split takes effect at once, under the limits of R502 (R503, R510). -/
def execDrTotalWrite (v : W64) (s : State) : Host.Outcome State Fault Refusal :=
  let v := v &&& (maskOf 63 32 ||| maskOf 16 0)
  let n := fld v 16 0
  .next (if n = 0 ∨ 65536 < n ∨ (s.drOn ∧ !s.drFits (s.rdF dmpg 0x0A0 47 32) v (s.rd dmpg 0x0B0)) then s.dmpgEvent 3 0x23 0 false
    else
      let s := s.wr dmpg 0x0A8 v
      if s.drOn then s.wrF dmpg 0x0C0 63 32 (drSplit v) else s)

/-- A write of FLOOR_W and CEIL_W (R510). -/
def State.drLimitsWrite (s : State) (v : W64) : State :=
  if s.drOn ∧ !s.drFits (s.rdF dmpg 0x0A0 47 32) (s.rd dmpg 0x0A8) v then s.dmpgEvent 3 0x23 0 false
  else
    let s := s.wr dmpg 0x0B0 v
    if s.drOn then s.wrF dmpg 0x0C0 63 32 (drSplit (s.rd dmpg 0x0A8)) else s

/-- Whether some Suite of the Draught job holds an unsatisfied wait on another engine: a global Latch with a nonzero RMASK whose remote indices have
not all arrived, or a Room Latch that misses a PID of 80 to 127 (R500). -/
def State.isCold (s : State) : Bool :=
  let job := s.rdF dmpg 0x0A0 47 32
  let mine (i : Nat) : Bool := decide (s.jobOf i = job)
  let g := s.glatch.any fun e =>
    let rm := s.glCfg e.1 23 0
    decide (s.glCfg e.1 63 62 = 1) && mine (s.glCfg e.1 59 54) && decide (rm ≠ 0)
      && e.2.waits.any fun w => decide (rm &&& (2 ^ 24 - 1 - (if w.gen = e.2.gen then e.2.arrived else e.2.early) % 2 ^ 24) ≠ 0)
  let r := s.suites.any fun e =>
    match e.2 with
    | none => false
    | some u => mine e.1 && u.rooms.any fun x => (s.room x).latches.any fun l =>
        l.2.waits.any fun w => decide ((l.2.mask &&& (2 ^ 128 - 1 - (if w.gen = l.2.gen then l.2.arrived else l.2.early))) / 2 ^ 80 ≠ 0)
  g || r

/-- A Draught message (R501). -/
def State.drBytes (s : State) (kind seq amount : Nat) : List Byte :=
  [BitVec.ofNat 8 kind, BitVec.ofNat 8 seq] ++ leTo 2 (s.rdF dmpg 0x0A0 47 32) ++ leTo 4 amount ++ leTo 2 (s.rdF dmpg 0x0C0 31 16) ++ leTo 4 s.drE ++ [0, 0]

/-- A Draught message handed to the stream of a peer (R396, R501). -/
def State.drSend (s : State) (k kind seq amount : Nat) : State :=
  s.yazCtl (s.rdF dmpg (0x100 + 8 * k) 19 0) 0x30 (s.drBytes kind seq amount)

/-- PERIOD_MS in ET periods (R510). -/
def State.drPeriod (s : State) : Nat := max 1 (s.rdF dmpg 0x0A0 15 0) * 156250

/-- What the engine sends one peer at the end of a period: STATUS, and a GIVE where COLD differs by more than HYST (R502). -/
def State.drPeerTurn (s : State) (k : Nat) : State :=
  if !tst (s.rd dmpg (0x100 + 8 * k)) 63 then s
  else
    let s := s.drSend k 1 0 0
    let p := s.drPeer k
    let fresh : Bool := match p.at_ with | some t => decide (s.et ≤ t + s.drPeriod) | none => false
    let step := s.rdF dmpg 0x0B8 31 16
    let cold := s.rdF dmpg 0x0C0 31 16
    if fresh ∧ p.cold + s.rdF dmpg 0x0B8 15 0 < cold ∧ p.give = none ∧ s.rdF dmpg 0x0B0 63 32 + step ≤ s.drE then
      ((s.drSend k 2 p.seq step).setPeer k { p with give := some p.seq, seq := (p.seq + 1) % 256 }).bump dmpg 0x0C8 63 48 1
    else s

/-- DRAUGHT_PERIOD: at the end of a period COLD is computed, STATUS is sent to each peer, and GIVEs to those on the critical path (R500, R502). -/
def execDraughtPeriod (s : State) : Host.Outcome State Fault Refusal :=
  if !s.drOn ∨ s.et < s.rim.drEt + s.drPeriod then .next s
  else
    let cold := min 65535 (s.rim.coldEt * 65536 / max 1 (s.et - s.rim.drEt))
    let s := s.wrF dmpg 0x0C0 31 16 cold
    let s := (List.range 4).foldl (fun s k => s.drPeerTurn k) s
    .next { s with rim := { s.rim with drEt := s.et, coldEt := 0 } }

/-- The peer whose stream a context is. -/
def State.drPeerOf (s : State) (n : Nat) : Option Nat :=
  (List.range 4).find? fun k => tst (s.rd dmpg (0x100 + 8 * k)) 63 && decide (s.rdF dmpg (0x100 + 8 * k) 19 0 = n)

/-- A field of a Draught message. -/
def drField (data : List Byte) (a n : Nat) : Nat := leOf ((data.drop a).take n)

/-- The Draught message of a kind that a stream holds next; one of no kind of R501 is taken with the STATUS messages, and does nothing. -/
def State.drNext (s : State) (n kind : Nat) : Option (List Byte) :=
  match (s.yazTake n 0x30).2 with
  | some e =>
    let k := drField e.data 0 1
    if k = kind ∨ (kind = 1 ∧ (k = 0 ∨ 4 < k)) then some e.data else none
  | none => none

/-- A Draught message taken from its stream and acted on, if a peer's stream brought it with this JOB; any other is dropped (R501). -/
def State.drTake (s : State) (n kind : Nat) (f : State → Nat → List Byte → State) : State :=
  let n := n % 2 ^ 20
  match s.drNext n kind with
  | none => s
  | some data =>
    let t := (s.yazTake n 0x30).1
    let t := match t.drPeerOf n with
      | some k => if drField data 2 2 = t.rdF dmpg 0x0A0 47 32 then f t k data else t
      | none => t
    t.yazDeliver n 300

/-- DRAUGHT_STATUS: a peer's COLD (R502). -/
def execDraughtStatus (n : Nat) (s : State) : Host.Outcome State Fault Refusal :=
  .next (s.drTake n 1 fun t k data => if drField data 0 1 ≠ 1 then t else t.setPeer k { t.drPeer k with cold := drField data 8 2, at_ := some t.et })

/-- Budget reserved for CONFIRMs that are to come. -/
def State.drReserved (s : State) : Nat := ((List.range 4).map fun k => (s.drPeer k).resv).sum

/-- GIVE: what fits under CEIL_W is reserved and answered with TAKE; 0 without EN or with a GIVE to that peer outstanding (R502, R503). -/
def execGive (n : Nat) (s : State) : Host.Outcome State Fault Refusal :=
  .next (s.drTake n 2 fun t k data =>
    let p := t.drPeer k
    let seq := drField data 1 1
    let room := t.rdF dmpg 0x0B0 31 0 - t.drE - t.drReserved
    let a := if !t.drOn ∨ p.give.isSome then 0 else min (drField data 4 4) room
    let t := if a = 0 then t else (t.setPeer k { p with resv := p.resv + a }).bump dmpg 0x0C8 47 32 1
    t.drSend k 3 seq a)

/-- TAKE: the giver's E falls by what is taken, and CONFIRM follows (R502). -/
def execTake (n : Nat) (s : State) : Host.Outcome State Fault Refusal :=
  .next (s.drTake n 3 fun t k data =>
    let p := t.drPeer k
    let a := drField data 4 4
    if p.give ≠ some (drField data 1 1) then t
    else
      let t := t.setPeer k { p with give := none }
      if a = 0 then t else (t.wrF dmpg 0x0C0 63 32 (t.drE - a)).drSend k 4 (drField data 1 1) a)

/-- CONFIRM: the receiver's E rises and the reservation is released (R502). -/
def execConfirm (n : Nat) (s : State) : Host.Outcome State Fault Refusal :=
  .next (s.drTake n 4 fun t k data =>
    let p := t.drPeer k
    let a := min p.resv (drField data 4 4)
    (t.wrF dmpg 0x0C0 63 32 (t.drE + a)).setPeer k { p with resv := p.resv - a })

/-! ### Thermal response -/

/-- A thermal trip: the header switches open, the Wing's page names the Room, and a Suite with an arrangement halts (R505, R509). -/
def State.thermalTrip (s : State) (room w phys : Nat) (injected : Bool) : State :=
  let su := if room < 0x8000 then s.suiteOf room else none
  let loaded := match su.bind s.suite with | some u => decide (u.run ≠ 0) | none => false
  let s := (s.roomOpen room 3).srvCount phys 48
  let s := s.moveRail w (s.railRate w)
  let s := (s.dmpwEvent w 3 0x13 phys injected).bump (dmpw w) 0x090 15 0 1
  if loaded then
    let s := s.record (dmpw w) 0x13 1 injected false true (su.getD 0) noRef (s.rd (dmpw w) 0x098)
    s.sendHalt (su.getD 0) room 15 (Page.dmpw.cls * 256 + 0x13)
  else s

/-- The hottest reading among a Suite's Rooms, in 1/16 °C, with its Room (R504). -/
def State.hottest (s : State) (u : Suite) : Int × Nat :=
  u.rooms.foldl (fun (m : Int × Nat) r =>
    let t := sgn 16 (s.rdF (pwr r) 0x090 15 0)
    if m.1 < t then (t, r) else m) (-32768, u.lead)

/-- The thermal throttle of a Suite updated: θ_T = min(0.9, (T_s − T_THR) / BAND), as one THERMAL stall of TLEN in every run of ⌈TLEN / θ_T⌉ cycles; it
ends below T_THR − 2 K (R504). -/
def State.thermUpdate (s : State) (i : Nat) (injected : Bool) : State :=
  match s.suite i with
  | none => s
  | some u =>
    let th := s.hottest u
    let thr : Int := 16 * (s.rdF dmpg 0x098 7 0 : Int)
    let band := 16 * max 1 (s.rdF dmpg 0x098 15 8)
    let tlen := s.rdF dmpg 0x098 31 16
    let begins := !u.thermOn && decide (thr ≤ th.1)
    let on := decide (thr ≤ th.1) || (u.thermOn && decide (thr - 32 ≤ th.1))
    let ovr := (th.1 - thr).toNat
    let per := if !on ∨ ovr = 0 then 0 else if 9 * band ≤ 10 * ovr then ceilDiv (10 * tlen) 9 else ceilDiv (tlen * band) ovr
    let tenths := if !on then 0 else min 9 (10 * ovr / band)
    let s := s.setSuite i { u with thermOn := on, thermPer := per, thetaT := tenths, thermNext := if begins then u.clk else u.thermNext }
    let s := s.wrF dmpg (0x408 + 16 * i) 51 48 tenths
    if begins then s.dmpwEvent (s.wingOf th.2) 2 0x12 (s.physOf th.2) injected else s

/-- THERMAL_SAMPLE: a Room's sensor read, in 1/16 °C; at 110 °C the Room trips; the throttle of its Suite is updated (R504, R505, R509, R529). -/
def execThermalSample (room : Nat) (temp : Int) (s : State) : Host.Outcome State Fault Refusal :=
  let phys := if room < 0x8000 then s.physOf room else room - 0x8000
  let w := physWing phys
  let first := decide ((s.wingRooms w).headD 0x7FFF = room)
  let injR := first && s.isArmed (dmpw w) 2
  let injT := s.isArmed (dmpw w) 3 && decide (s.rdF (dmpw w) 0x098 46 32 = phys)
  let s := if injT then s.disarm (dmpw w) 3 else if injR then s.disarm (dmpw w) 2 else s
  let temp := if injT then 1760 else if injR then 16 * (s.rdF dmpg 0x098 7 0 : Int) else sgn 16 (unsgn 16 temp)
  let old := s.rd (pwr room) 0x090
  let top := if sgn 16 (fld old 31 16) < temp then temp else sgn 16 (fld old 31 16)
  let s := s.wr (pwr room) 0x090 (put 15 0 (unsgn 16 temp) ||| put 31 16 (unsgn 16 top))
  let st := s.pwrState room
  let su := if room < 0x8000 then s.suiteOf room else none
  let s := if (1760 : Int) ≤ temp ∧ (st = 1 ∨ st = 2) then s.thermalTrip room w phys injT else s
  .next (match su with
    | some i => s.thermUpdate i injR
    | none => s)

end Sys2Proof.Machine
end

