-- ==== Sys2Proof/Machine/Clocks.lean ====
section
/-!
DEFINITION. References, Wing PLLs, rate switches and peripheral clocks (R533 to R549).
-/

namespace Sys2Proof.Machine

/-! ### References -/

/-- No reference is left: CLK_REF_LOST, every running Suite halted as a fault of its job, and the engine no longer ready (R534). -/
def State.refLost (s : State) : State :=
  let s := s.clkgEvent 1 0x11 0 0 false
  let s := s.record clkg 0x11 1 false false true 0 noRef (s.rd clkg 0x0A0)
  let s := { s with rim := { s.rim with refGone := true } }
  (s.haltRunning (Page.clkg.cls * 256 + 0x11)).wrF (gp .srvg) 0x080 63 63 0

/-- CLK_REF_FAIL: the monitor declares a reference failed.  When it is the active one, CLKG_REF.AUTO switches to the other; with AUTO clear, or with
none left, it is lost (R533, R534). -/
def execClkRefFail (ref : Nat) (s : State) : Host.Outcome State Fault Refusal :=
  let w := s.rd clkg 0x080
  let act := fld w 3 3
  let inj := s.isArmed clkg 0
  let r := if inj then act else ref % 2
  let s := if inj then s.disarm clkg 0 else s.wr clkg 0x080 (clrBit w r)
  let other := tst w (1 - r)
  if r ≠ act then .next (if tst w act then s else s.refLost)
  else
    let s := s.clkgEvent 0 0x10 0 0 inj
    .next (if tst w 5 ∧ other then s.wrF clkg 0x080 3 3 (1 - act) else s.refLost)

/-- REF_SELECT: a write of CLKG_REF; the preferred reference is taken if it is good (R548). -/
def execRefSelect (v : W64) (s : State) : Host.Outcome State Fault Refusal :=
  let sel := fld v 4 4
  let s := (s.wrF clkg 0x080 5 5 (fld v 5 5)).wrF clkg 0x080 4 4 sel
  .next (if tst (s.rd clkg 0x080) sel then s.wrF clkg 0x080 3 3 sel else s)

/-! ### Wing PLLs -/

/-- CLK_LOCK_LOST: the active core loses lock, the Wing's clock stops, and every Suite with a Room in the Wing is reset as a fault of its job (R539,
R546). -/
def execClkLockLost (wing : Nat) (s : State) : Host.Outcome State Fault Refusal :=
  let w := wing % 64
  if smGet 0 s.rim.clkStop w ≠ 0 then .next s
  else
    let inj := s.isArmed (clkw w) 0
    let s := if inj then s.disarm (clkw w) 0 else s
    let st := s.rd (clkw w) 0x080
    let s := s.wr (clkw w) 0x080 (clrBit st (lockBit (fld st 45 45)))
    let s := ((s.capture (clkw w) 0x090 (put 63 56 0x01)).raise (clkw w) 0 inj).bump (clkw w) 0x088 31 16 1
    let s := s.record (clkw w) 0x01 1 inj false true ((s.suiteOfPhys w).getD 0) noRef (s.rd (clkw w) 0x090)
    let s := s.wingHist w 16
    let s := { s with rim := { s.rim with clkStop := smSet 0 s.rim.clkStop w (s.et + 1) } }
    .next ((s.suitesInWing w).foldl (fun s i => s.suiteReset i) s)

/-- RELOCK: a core of a stopped Wing locks within 1 ms; the Wing restarts, and its seams and Flue links retrain (R539). -/
def execRelock (wing core : Nat) (s : State) : Host.Outcome State Fault Refusal :=
  let w := wing % 64
  let t := smGet 0 s.rim.clkStop w
  if t = 0 ∨ t - 1 + usToEt 1000 < s.et then .next s
  else
    let s := s.wr (clkw w) 0x080 (setFld (setBit (s.rd (clkw w) 0x080) (lockBit core)) 45 45 core)
    let s := { s with rim := { s.rim with clkStop := smSet 0 s.rim.clkStop w 0 } }
    .next (s.startSeams w)

/-- RELOCK_TIMEOUT: no core locked within 1 ms; the Wing is fenced at the next remap stage (R539, R566). -/
def execRelockTimeout (wing : Nat) (s : State) : Host.Outcome State Fault Refusal :=
  let w := wing % 64
  let t := smGet 0 s.rim.clkStop w
  .next (if t ≠ 0 ∧ t - 1 + usToEt 1000 ≤ s.et then s.askFence w 4 else s)

/-! ### Rate switches -/

/-- The value of STEP that means ASAP (R540). -/
def stepAsap : Nat := 2 ^ 48 - 1

/-- RATE_SWITCH: a write of CLKG_SWITCH; with GO, a switch that is not refused starts: the rails of a higher rate first, and the idle cores lock (R540,
R541). -/
def execRateSwitch (suite : Nat) (v : W64) (s : State) : Host.Outcome State Fault Refusal :=
  let i := suite % 64
  let off := 0x400 + 8 * i
  let v := v &&& (maskOf 63 63 ||| maskOf 55 0)
  if !tst v 63 then .next (s.wr clkg off (setFld v 63 63 (s.rdF clkg off 63 63)))
  else
    let rate := fld v 55 48
    let step := fld v 47 0
    let inj := s.isArmed clkg 3
    let pend := (s.rateSw i).isSome
    let keep := s.rd clkg off
    match s.suite i with
    | none => .next ((s.wr clkg off v).switchRefused i 5 false)
    | some u =>
      if inj then .next (((s.disarm clkg 3).wr clkg off (if pend then keep else v)).clkgEvent 3 0x13 1 i true |>.wrF clkg off 63 63 (b2n pend))
      else if rate < 36 ∨ s.fmin u < rate then .next ((s.clkgEvent 3 0x13 1 i false).wr clkg off (if pend then keep else clrBit v 63))
      else if pend then .next (s.clkgEvent 3 0x13 2 i false)
      else if step ≠ stepAsap ∧ (u.mode ≠ 0 ∨ u.run ≠ 2) then .next ((s.wr clkg off v).switchRefused i 3 false)
      else
        let s := (s.wr clkg off v).setRateSw i (some ⟨rate, if step = stepAsap then none else some step, [], 1, decide (u.run = 2)⟩)
        .next ((s.suiteWings u).foldl (fun s w =>
          let s := s.wr (clkw w) 0x080 (setBit (setFld (s.rd (clkw w) 0x080) 55 48 rate) 44)
          if u.rate < rate then s.moveRail w rate else s) s)

/-- CORE_LOCKED: the idle core of a Wing locks to the new rate (R537, R541). -/
def execCoreLocked (wing : Nat) (s : State) : Host.Outcome State Fault Refusal :=
  let w := wing % 64
  match s.suiteOfPhys w with
  | none => .next s
  | some i =>
    match s.rateSw i with
    | none => .next s
    | some r =>
      if r.phase ≠ 1 ∨ r.locks.contains w then .next s
      else
        let st := s.rd (clkw w) 0x080
        .next ((s.wr (clkw w) 0x080 (setBit st (lockBit (1 - fld st 45 45)))).setRateSw i (some { r with locks := r.locks ++ [w] }))

/-- Whether every rail and idle core of a switch is ready (R541). -/
def State.switchReady (s : State) (u : Suite) (r : RateSw) : Bool :=
  (s.suiteWings u).all fun w => r.locks.contains w && (decide (r.rate ≤ u.rate) || decide (smGet 0 s.rim.railTo w = 0))

/-- The source number of CLOCK freezes. -/
def clockSrc : Nat := 2 ^ 23

/-- The cycle that comes after `n` cycles from `c` on which the windows issued so far do not freeze, within `fuel` cycles (R541). -/
def Suite.afterFree (u : Suite) (c : Nat) : Nat → Nat → Nat
  | 0, _ => c
  | _, 0 => c
  | fuel + 1, n + 1 => if u.wins.any fun w => w.covers c then u.afterFree (c + 1) fuel (n + 1) else u.afterFree (c + 1) fuel n

/-- The FREEZE of cause CLOCK issued, for the 24 periods from a start cycle (R310, R541). -/
def State.clockFreeze (s : State) (i start : Nat) (u : Suite) (r : RateSw) : State :=
  if u.lastIss ≠ 0 ∧ u.clk < u.lastIss + 4 then s
  else
    (s.setSuite i { u with wins := u.wins ++ [⟨0, clockSrc, start, some (start + 24)⟩], lastIss := u.clk }).setRateSw i
      (some { r with phase := 3, step := some start })

/-- The cycle in which the step that lies FL + 16 steps ahead begins (R541). -/
def State.switchStart (s : State) (u : Suite) : Nat :=
  u.afterFree u.clk (s.fl + 16 + (u.wins.map fun w => w.stop.getD 0 - u.clk).sum) (s.fl + 16)

/-- What the stall master does for a switch in one Suite cycle: once everything is ready it issues the FREEZE with the lead that the step or ASAP needs,
a late one for the first step whose lead can be met; at the start cycle the clock changes over.  A switch whose Suite has halted before it is
abandoned, one that meets a HOLD waits for the release, and a Suite that does not run switches at once (R188, R541 to R543). -/
def State.switchTurn (s : State) (i : Nat) : State :=
  match s.suite i, s.rateSw i with
  | some u, some r =>
    if r.phase ≠ 1 ∧ r.phase ≠ 3 then s
    else if r.live ∧ u.run = 4 then
      s.switchAbandon i u
    else if r.phase = 3 ∧ u.holding then
      (s.setSuite i { u with wins := u.wins.filter fun w => w.src ≠ clockSrc }).setRateSw i (some { r with phase := 1, step := none })
    else if !s.switchReady u r ∨ u.holding then s
    else if u.run ≠ 2 then s.setRateSw i (some { r with phase := 2 })
    else if r.phase = 3 then (match r.step with | some c => if c ≤ u.clk then s.setRateSw i (some { r with phase := 2 }) else s | none => s)
    else
      match r.step with
      | none => s.clockFreeze i (u.clk + s.fl) u r
      | some t => if u.step.toNat + s.fl + 16 < t then s else s.clockFreeze i (s.switchStart u) u r
  | _, _ => s

/-- A crossing whose phase check fails: CAL_OK clears, the Suite halts, and the seam retrains (R538). -/
def State.seamPhase (s : State) (i lead w d : Nat) (injected : Bool) : State :=
  match wingBeside w d with
  | none => s
  | some _ =>
    let s := s.modSeam w d fun x => clrBit x 15
    let s := (s.capture (clkw w) 0x090 (put 63 56 0x02 ||| put 49 48 d)).raise (clkw w) 1 injected
    let s := s.record (clkw w) 0x02 1 injected false true i noRef (s.rd (clkw w) 0x090)
    (s.sendHalt i lead 15 (Page.clkw.cls * 256 + 0x02)).startSeam w d

/-- CLK_SWITCH_DONE: the freeze is over; the Suite runs at its new rate, and the seam pointers have restarted.  `bad` names the crossings whose phase
check failed, as 4 × Wing + side (R538, R541, R542). -/
def execClkSwitchDone (suite : Nat) (bad : List Nat) (s : State) : Host.Outcome State Fault Refusal :=
  let i := suite % 64
  match s.suite i, s.rateSw i with
  | some u, some r =>
    if r.phase ≠ 2 ∨ u.wins.any (fun w => decide (w.cause = 0) && w.covers u.clk) then .next s
    else
      let ws := s.suiteWings u
      let s := s.switchEnd i u r.rate
      let s := ws.foldl (fun s w => if s.isArmed (clkw w) 1 then (s.disarm (clkw w) 1).seamPhase i u.lead w 0 true else s) s
      .next (bad.foldl (fun s k => if ws.contains (k / 4) then s.seamPhase i u.lead (k / 4) (k % 4) false else s) s)
  | _, _ => .next s

/-! ### Porch clocks -/

/-- PERIPHERAL_GATE: a write of CLKG_PERI; only Porch firmware clears the bits of the SPI flash controller, the Chimney PMBus segments and the module
sensors (R544, R547). -/
def execPeripheralGate (v : W64) (firmware : Bool) (s : State) : Host.Outcome State Fault Refusal :=
  let v := v &&& maskOf 10 0
  let fixed : W64 := put 4 4 1 ||| put 5 5 1 ||| put 10 10 1
  let old := s.rd clkg 0x090
  if firmware then .next (s.wr clkg 0x090 v)
  else
    let keep := old &&& fixed
    let s' := s.wr clkg 0x090 (v ||| keep)
    .next (if keep &&& ~~~ v = 0 then s' else s'.clkgEvent 4 0x14 0 0 false)

end Sys2Proof.Machine
end

