-- ==== Sys2Proof/Machine/Roll.lean ====
section
/-!
DEFINITION. Digests of what the Rooms have loaded, and the roll call that compares them between engines (R397 to R400, R405).
-/

namespace Sys2Proof.Machine

/-- SLOT_CHECK of a slot of a Room, 0 where it is EMPTY (R170, R397). -/
def State.slotSum (s : State) (room k : Nat) : W64 :=
  if (List.range 64).any fun b => ((s.brick room b).ctx k).valid then smGet 0 (s.room room).slotCrc k else 0

/-- The CONFIG word of a Room's digest (R397). -/
def State.digestConfig (s : State) (room : Nat) : W64 :=
  match (s.suiteOf room).bind s.suite with
  | some u =>
    put 5 0 (s.suiteId room) ||| put 15 8 u.rate ||| put 31 16 s.fl ||| put 39 32 (s.rdF (rp .arr room) 0x0A8 15 8) ||| put 40 40 u.mode
      ||| put 63 48 (fld u.seed 15 0)
  | none => 0

/-- ROOM_DIGEST of a Room (R397). -/
def State.roomDigest (s : State) (room : Nat) : W64 :=
  let t (k : Nat) := smGet 0 (s.room room).slotCrc k
  crcWords 0 (((List.range 4).map fun k => s.slotSum room k) ++ [t 4, t 5, t 6, s.digestConfig room])

/-- The Rooms of a logical Wing, row by row (R8, R169). -/
def wingRoomList (w : Nat × Nat) : List Nat := (List.range 256).map fun i => (16 * w.2 + i / 16) * 128 + 16 * w.1 + i % 16

/-- A Wing digest, and the digest over Wings lo to hi - 1 of a Suite (R398, R400). -/
def State.wingDigest (s : State) (w : Nat × Nat) : W64 := crcWords 0 ((wingRoomList w).map s.roomDigest)
def State.rangeDigest (s : State) (u : Suite) (lo hi : Nat) : W64 := crcWords 0 (((u.wings.take hi).drop lo).map s.wingDigest)

/-- The Suite digest, 0 for a Suite that is not defined (R398). -/
def State.suiteDigest (s : State) (i : Nat) : W64 :=
  match s.suite i with
  | some u => s.rangeDigest u 0 u.wings.length
  | none => 0

/-- Offset of YZLG_RC_DIGEST of a Suite. -/
def rcDigest (i : Nat) : Nat := 0x800 + 8 * (i % 64)
def rcA (i : Nat) : Nat := 0x400 + 16 * (i % 64)

/-- DIGEST: a Suite's digest reaches the root, and with it the engine digest (R398). -/
def execDigest (suite : Nat) (s : State) : Host.Outcome State Fault Refusal :=
  let i := suite % 64
  let s := s.wr (gp .yzlg) (rcDigest i) (s.suiteDigest i)
  .next (s.wr (gp .yzlg) 0xA00 (crcWords 0 ((List.range 64).map fun k => s.rd (gp .yzlg) (rcDigest k))))

/-- The roll call of a Suite. -/
def RollCall.none : RollCall := ⟨0, 0, false, 0, 0, 0, false, false, Option.none⟩
def State.roll (s : State) (i : Nat) : RollCall := (smGet none s.rim.rolls i).getD .none
def State.setRoll (s : State) (i : Nat) (r : RollCall) : State := { s with rim := { s.rim with rolls := smSet none s.rim.rolls i (some r) } }

/-- ROLL_CALL_MISMATCH, naming an engine and a Wing (R399, R400, R404). -/
def State.rollMismatch (s : State) (i engine wing : Nat) (injected : Bool) : State :=
  (s.capture (gp .yzlg) 0x0C8 (put 61 56 i ||| put 55 48 wing ||| put 47 32 engine)).raise (gp .yzlg) 3 injected

/-- A ROLL_SPLIT message (R396). -/
def splitBytes (i round lo hi : Nat) (d : W64) : List Byte := leTo 1 i ++ leTo 1 round ++ leTo 1 lo ++ leTo 1 hi ++ leTo 8 d.toNat

/-- A bisection carried on over Wings lo to hi - 1: the lower half's digest is sent to the predecessor, or a single Wing is the first that
diverges (R400). -/
def State.rollSplit (s : State) (i lo hi round : Nat) : State :=
  let prev := s.rdF (gp .yzlg) (rcA i) 39 20
  let r := s.roll i
  match s.suite i with
  | none => s
  | some u =>
    if hi ≤ lo + 1 then (s.setRoll i { r with active := false, split := false }).rollMismatch i (s.yctx prev).peer lo false
    else
      let mid := (lo + hi) / 2
      (s.setRoll i { r with lo, hi, round, split := true }).yazCtl prev 0x03 (splitBytes i round lo mid (s.rangeDigest u lo mid))

/-- The predecessor's digest compared with this engine's: equal ends the roll call, and a restart that waits for it is READY (R399, R474). -/
def State.rollCompare (s : State) (i : Nat) (d : W64) : State :=
  let inj := s.isArmed (gp .yzlg) 3
  let s := if inj then s.disarm (gp .yzlg) 3 else s
  let d := if inj then d ^^^ 1 else d
  let r := s.roll i
  let s := s.setRoll i { r with got := true }
  if d = r.digest then
    let s := (s.setRoll i { r with got := true, active := false }).raise (gp .yzlg) 5 false
    let q := s.restart i
    if q.st = 6 then s.setRestart i { q with st := 7 } else s
  else
    match s.suite i with
    | some u => s.rollSplit i 0 u.wings.length 0
    | none => s

/-- A roll call starts: the digest is taken, checked against EXPECT, sent on, and compared with a predecessor's that has come (R399). -/
def State.rollStart (s : State) (i : Nat) : State :=
  let a := s.rd (gp .yzlg) (rcA i)
  let d := s.rd (gp .yzlg) (rcDigest i)
  let early := (s.roll i).early
  let s := if tst a 62 ∧ d ≠ s.rd (gp .yzlg) (rcA i + 8) then s.rollMismatch i s.engineId 0xFF false else s
  let s := s.setRoll i ⟨d, s.et, false, 0, 0, 0, true, false, none⟩
  let s := s.yazCtl (fld a 19 0) 0x02 (leTo 1 i ++ leTo 1 0 ++ leTo 8 d.toNat)
  match early with
  | some e => s.rollCompare i e
  | none => s

/-- A write of YZLG_RC_A; GO starts a roll call (R399, R405). -/
def State.rollWrite (s : State) (i : Nat) (v : W64) : State :=
  let s := s.wr (gp .yzlg) (rcA i) (v &&& (maskOf 62 62 ||| maskOf 55 0))
  if tst v 63 then s.rollStart i else s

/-- ROLL_CALL_GO (R399). -/
def execRollCallGo (suite : Nat) (v : W64) (s : State) : Host.Outcome State Fault Refusal := .next (s.rollWrite (suite % 64) v)

/-- ROLL_CALL_PERIOD: PERIOD_MS after the last roll call began, another does (R399). -/
def execRollCallPeriod (suite : Nat) (s : State) : Host.Outcome State Fault Refusal :=
  let i := suite % 64
  let ms := s.rdF (gp .yzlg) (rcA i) 55 40
  if ms ≠ 0 ∧ (s.roll i).sentAt + usToEt (1000 * ms) ≤ s.et then .next (s.rollStart i) else .next s

/-- ROLL_CALL: the predecessor's message, compared once this engine's own roll call has begun (R399). -/
def execRollCall (n : Nat) (s : State) : Host.Outcome State Fault Refusal :=
  let n := n % 2 ^ 20
  let t := s.yazTake n 0x02
  match t.2 with
  | none => .next s
  | some e =>
    let i := leOf (e.data.take 1) % 64
    let d := w64 (leOf ((e.data.drop 2).take 8))
    let s := t.1
    let r := s.roll i
    let s := if s.rdF (gp .yzlg) (rcA i) 39 20 ≠ n then s
      else if r.active ∧ !r.got then s.rollCompare i d
      else s.setRoll i { r with early := some d }
    .next (s.yazDeliver n 300)

/-- ROLL_SPLIT: a question from the successor is answered with the digest of the same Wings; an answer from the predecessor halves the range
(R400). -/
def execRollSplit (n : Nat) (s : State) : Host.Outcome State Fault Refusal :=
  let n := n % 2 ^ 20
  let t := s.yazTake n 0x03
  match t.2 with
  | none => .next s
  | some e =>
    let b (k : Nat) : Nat := leOf ((e.data.drop k).take 1)
    let i := b 0 % 64
    let d := w64 (leOf ((e.data.drop 4).take 8))
    let s := t.1
    let r := s.roll i
    let a := s.rd (gp .yzlg) (rcA i)
    let s := match s.suite i with
      | none => s
      | some u =>
        if fld a 39 20 = n ∧ r.split ∧ r.round = b 1 ∧ r.lo = b 2 ∧ (r.lo + r.hi) / 2 = b 3 then
          (if d ≠ s.rangeDigest u (b 2) (b 3) then s.rollSplit i r.lo (b 3) (r.round + 1) else s.rollSplit i (b 3) r.hi (r.round + 1))
        else if fld a 19 0 = n then s.yazCtl n 0x03 (splitBytes i (b 1) (b 2) (b 3) (s.rangeDigest u (b 2) (b 3)))
        else s
    .next (s.yazDeliver n 300)

/-- ROLL_CALL_TIMEOUT: no ROLL_CALL within RC_TIMEOUT_US of this engine's own (R399, R405). -/
def execRollCallTimeout (suite : Nat) (s : State) : Host.Outcome State Fault Refusal :=
  let i := suite % 64
  let r := s.roll i
  if r.active ∧ !r.got ∧ r.sentAt + usToEt s.streamUs ≤ s.et then
    .next ((s.setRoll i { r with active := false }).raise (gp .yzlg) 4 false)
  else .next s

end Sys2Proof.Machine
end

