-- ==== Sys2Proof/Machine/Sweep.lean ====
section
/-!
DEFINITION. Sweep, checkpoints, the buddy mirror, pre-emption and restarts (R459 to R482).

An image is kept as the state it stands for; of its bytes the Shelf part and the header are written where R461 and R462 place them, and the
bytes of the Brick records and the Room state, whose layout R459 does not give, are open values.
-/

namespace Sys2Proof.Machine

/-! ### Buffers -/

/-- The SWPG page, and a Room's SWP page. -/
def swpg : PageRef := gp .swpg
def swp (room : Nat) : PageRef := rp .swp room

/-- SWPG_BUF_S and SWPG_BUF_B of a buffer (R480). -/
def State.bufS (s : State) (i b : Nat) : W64 := s.rd swpg (0x400 + 32 * i + 16 * b)
def State.bufB (s : State) (i b : Nat) : W64 := s.rd swpg (0x408 + 32 * i + 16 * b)

/-- The stacks of a buffer, lowest first (R461). -/
def State.bufStacks (s : State) (i b : Nat) : List Nat := (List.range 48).filter fun k => tst (s.bufS i b) k

/-- Bytes of a Room image, and of its Shelf part (R459). -/
def imageBytes : Nat := 3506176
def shelfPart : Nat := 3145728

/-- EA of image `n` of a buffer, and of its header (R461). -/
def State.imageEA (s : State) (i b n : Nat) : Nat :=
  let l := s.bufStacks i b
  let k := max 1 l.length
  cellarEA (l.getD (n % k) 0) (fld (s.bufB i b) 15 0 * 0x200000 + 4096 + n / k * imageBytes)
def State.headerEA (s : State) (i b : Nat) : Nat := cellarEA ((s.bufStacks i b).headD 0) (fld (s.bufB i b) 15 0 * 0x200000)

/-- GEN of a buffer (R463, R480). -/
def State.genOf (s : State) (i b : Nat) : Nat := s.rdF swpg (0xC08 + 16 * i) (32 * b + 31) (32 * b)
def State.setGen (s : State) (i b g : Nat) : State := s.wrF swpg (0xC08 + 16 * i) (32 * b + 31) (32 * b) g

/-- A checkpoint image kept. -/
def State.ckpt (s : State) (k : Nat) : Option SuiteImg := smGet none s.rim.ckpts k
def State.setCkpt (s : State) (k : Nat) (x : Option SuiteImg) : State := { s with rim := { s.rim with ckpts := smSet none s.rim.ckpts k x } }

/-! ### Images -/

/-- The single registers of Corridor pages that an image holds: CVU_DW_RUN, HAL_SLOT_USE, FLU_GPART, FLU_GARR and FLU_GEARLY (R459). -/
def imageRegs : List (Page × Nat) :=
  (List.range 8).map (fun q => (Page.cvu, 0x200 + 8 * q)) ++ [(Page.hal, 0x098)] ++
    (List.range 4).flatMap fun k => [(Page.flu, 0x0A0 + 8 * k), (Page.flu, 0x0C0 + 8 * k), (Page.flu, 0x0E0 + 8 * k)]

/-- Whether an image of a Room holds the register of a key: the ARR, HRT, CHN, STP, DWT and LCH pages, and single registers (R459). -/
def imageKey (room k : Nat) : Bool :=
  ([Page.arr, .hrt, .chn, .stp, .dwt, .lch].any fun pg => decide (regKey (rp pg room) 0 ≤ k) && decide (k < regKey (rp pg room) 0 + 4096))
    || imageRegs.any fun e => decide (regKey (rp e.1 room) e.2 = k)

/-- The image of a Room: what R459 lists, with an open ROOM_CRC since the bytes it folds are open. -/
def State.takeImage (s : State) (room : Nat) (crc : W64) : RoomImg :=
  let base := shelfEA room 0
  { regs := s.regs.filter fun e => imageKey room e.1
    bricks := s.bricks.filter fun e => decide (e.1 / 64 = room)
    unit := s.room room
    shelf := (s.mem.filter fun e => decide (base ≤ e.1) && decide (e.1 < base + shelfPart) && s.quarterOn room (shelfQuarter (e.1 - base))).map
      fun e => (e.1 - base, e.2)
    crc }

/-- `n` open bytes. -/
def openBytes (draw k n : Nat) : List Byte := (List.range n).map fun j => BitVec.ofNat 8 (Config.freeAt draw (k + j)).toNat

/-- The bytes of a Room image written at an EA: the powered quarters of the Shelf, then the rest, open bytes from `k` on (R459). -/
def State.storeAt (s : State) (a k room : Nat) (crc : W64) : State :=
  let s := (List.range 4).foldl (fun s q =>
    if s.quarterOn room q then s.stBytes (a + 0xC0000 * q) (s.ldBytes (shelfEA room (0xC0000 * q)) 0xC0000) else s) s
  s.stBytes (a + shelfPart) (openBytes s.free k (imageBytes - shelfPart - 8) ++ leTo 8 crc.toNat)

/-- The bytes of a Room image written to its place in a buffer (R461). -/
def State.storeImage (s : State) (i b n room : Nat) (crc : W64) : State := s.storeAt (s.imageEA i b n) (n * imageBytes) room crc

/-- Every Room of a Suite, its image taken and written; ROOM_CRC is shown in SWP_CRC (R465, R479). -/
def State.storeImages (s : State) (i b : Nat) (u : Suite) : State × SMap RoomImg :=
  (u.rooms.zip (List.range u.rooms.length)).foldl (fun (a : State × SMap RoomImg) e =>
    let crc := Config.freeAt a.1.free (2 ^ 40 + e.2)
    let img := a.1.takeImage e.1 crc
    (((a.1.storeImage i b e.2 e.1 crc).wr (swp e.1) 0x088 crc).wr (swp e.1) 0x080 (put 63 61 2 ||| put 47 0 imageBytes), a.2 ++ [(e.1, img)])) (s, [])

/-- The header of a checkpoint: 16 words (R462). -/
def ckptHeader (gen et tag rooms suite : Nat) (step digest : W64) (hdr : List W64) : List Byte :=
  [0x49, 0x51, 0x43, 0x4B] ++ leTo 4 gen ++ leTo 8 step.toNat ++ leTo 8 et ++ leTo 8 (hdr.getD 2 0).toNat ++ leTo 4 tag ++ leTo 2 rooms
    ++ leTo 1 suite ++ [0] ++ leTo 8 digest.toNat ++ ofWords ((List.range 7).map fun k => hdr.getD k 0) ++ List.replicate 24 0

/-! ### Sweep-out -/

/-- Whether a buffer is enabled with at least one stack (R461). -/
def State.bufOk (s : State) (i b : Nat) : Bool := tst (s.bufB i b) 63 && !(s.bufStacks i b).isEmpty

/-- The buffer a Sweep-out writes: the one that does not hold the newest generation (R463). -/
def State.sweepBuf (s : State) (i : Nat) : Nat := if s.genOf i 1 < s.genOf i 0 then 1 else if s.genOf i 0 < s.genOf i 1 then 0 else 0

/-- A Suite's Sweep state replaced. -/
def State.setSweep (s : State) (i : Nat) (w : SweepSt) : State := s.modSuite i fun u => { u with sweep := w }

/-- STATE of every Room's SWP page (R479). -/
def State.swpState (s : State) (u : Suite) (st : Nat) : State := u.rooms.foldl (fun s r => s.wrF (swp r) 0x080 63 61 st) s

/-- HOLD to be released at a cycle at least FL ahead (R465). -/
def State.sweepRelease (s : State) (i : Nat) : State :=
  s.modSuite i fun u => { u with sweep := { u.sweep with st := 4, rel := some (u.clk + s.fl) } }

/-- A Sweep-out that fails in HOLD: SWP_FAIL, and the Suite is released (R467, R471). -/
def State.sweepFail (s : State) (i cause : Nat) (injected : Bool) : State :=
  match s.suite i with
  | none => s
  | some u =>
    let s := (s.swpFail i cause injected).swpState u 5
    ((s.modSuite i fun u => { u with sweep := { u.sweep with mirror := false, window := false, preempt := false } }).sweepRelease i).ckptEntryDone i

/-- CS_CHECKPOINT: the head CHECKPOINT entry requests a Sweep-out at the end of its step, or of the step it reaches (R246, R464, R465). -/
def execCsCheckpoint (suite : Nat) (s : State) : Host.Outcome State Fault Refusal :=
  match s.csHead suite 4 with
  | none => .next s
  | some (u, e) =>
    if u.sweep.st ≠ 0 then .next s
    else
      let w := e.words.getD 1 0
      let at_ : W64 := if u.run ≠ 2 then u.step else if e.step = asap then u.step + 1 else BitVec.ofNat 64 (e.step + 1)
      let us := if fld w 55 32 = 0 then 100 else fld w 55 32
      let s := s.setSweep suite ⟨1, at_, 0, us, tst w 63, tst (e.words.getD 0 0) 48, fld w 31 0, 0, 0, false, none⟩
      .next (s.csMod suite fun e => { e with prog := 2 })

/-- A Hearth stopped at an instruction boundary; a blocked Xhearth instruction is abandoned and runs again (R240, R465). -/
def State.hearthHold (s : State) (room : Nat) : State :=
  let s := (List.range 64).foldl (fun s n =>
    let l := s.latch room n
    if l.waits.any (fun w => match w.who with | .hearth _ _ => true | _ => false) then
      s.setLatch room n { l with waits := l.waits.filter fun w => match w.who with | .hearth _ _ => false | _ => true } else s) s
  let s := { s with outst := s.outst.filter fun o => match o.use with | .hearthWait r _ => decide (r ≠ room) | _ => true }
  s.modRoom room fun r =>
    { r with hearth := { r.hearth with block := match r.hearth.block with | .latch => .no | .dwWait _ _ _ _ => .no | .exec _ => .no | b => b } }

/-- SWEEP_HOLD: at the end of step S the Suite enters HOLD; a load between C and D goes on to D first (R465). -/
def execSweepHold (suite : Nat) (s : State) : Host.Outcome State Fault Refusal :=
  match s.suite suite with
  | none => .next s
  | some u =>
    let loading : Bool := match u.load with | some l => decide (1 ≤ l.phase) | none => false
    if u.sweep.st ≠ 1 ∨ u.step.toNat < u.sweep.step.toNat ∨ loading then .next s
    else
      let s := s.setSweep suite { u.sweep with st := 2, et0 := s.et }
      let s := { s with glatch := s.glatch.foldl (fun (m : SMap Latch) (e : Nat × Latch) =>
        smSet Latch.clear m e.1 { e.2 with waits := e.2.waits.filter fun w => match w.who with | Waiter.hearth r _ => !u.hasRoom r | _ => true }) s.glatch }
      .next ((u.rooms.foldl (fun s r => s.hearthHold r) s).swpState u 1)

/-- Whether a Suite's Rooms await replies, and whether its streams hold sends or receives (R465). -/
def State.hallBusy (s : State) (u : Suite) : Bool :=
  s.outst.any (fun o => eidIsRoom o.src && u.hasRoom (eidRoomOf o.src)) || u.rooms.any fun r => (s.room r).dw.any fun e => !e.2.isEmpty
def State.streamsBusy (s : State) (i : Nat) : Bool :=
  s.rim.ctxs.any fun e => decide (e.2.state = 1) && decide (e.2.suite = i) && e.2.pinned

/-- Whether a register key lies in the page of a Chute of a Suite (R459). -/
def State.chuKey (s : State) (i k : Nat) : Bool :=
  (List.range 32).any fun c => decide (s.chuSuite c = i) && decide (regKey (chuP c) 0 ≤ k) && decide (k < regKey (chuP c) 0 + 4096)

/-- A mirror that still reads a buffer is abandoned: what it has not begun to send is sent no more (R470). -/
def State.mirrorAbandon (s : State) (i b : Nat) : State :=
  let w := s.rd swpg (swpgSuite i)
  let s := (List.range (fld w 54 52 + 1)).foldl (fun s k => s.modYctx (fld w 51 32 + k) fun x =>
    { x with descs := x.descs.filter fun d => !(d.mirrors b && decide (d.cut = 0)) }) s
  (({ s with rim := { s.rim with mirror := s.rim.mirror.filter (· ≠ 2 * i + b) } } : State).capture swpg 0x0D0 (put 63 56 9 ||| put 55 50 i)).raise swpg 3 false

/-- QUIESCENCE: once every Room is quiet the target buffer's GEN is cleared and the images are written (R463, R465). -/
def execQuiescence (suite : Nat) (s : State) : Host.Outcome State Fault Refusal :=
  match s.suite suite with
  | none => .next s
  | some u =>
    if u.sweep.st ≠ 2 ∨ s.hallBusy u ∨ s.streamsBusy suite then .next s
    else
      let b := s.sweepBuf suite
      let g := max (s.genOf suite 0) (s.genOf suite 1) + 1
      if !s.bufOk suite b then .next (s.sweepFail suite 4 false)
      else
        let s := if s.rim.mirror.contains (2 * suite + b) then s.mirrorAbandon suite b else s
        let s := (s.setGen suite b 0).stBytes (s.headerEA suite b + 4) (leTo 4 0)
        let s := match u.entries with
          | e :: _ => if e.op = 4 ∧ e.prog = 2 then s.wrF (rp .hrt u.lead) 0x0B0 15 0 ((s.rdF (rp .hrt u.lead) 0x0B0 15 0 + 1) % 2 ^ s.rdF (rp .hrt u.lead) 0x0A0 4 0) else s
          | [] => s
        let r := s.storeImages suite b u
        let back := s.rdF (rp .hrt u.lead) 0x0B0 15 0
        let s := r.1
        let s := match u.entries with
          | e :: _ => if e.op = 4 ∧ e.prog = 2 then s.wrF (rp .hrt u.lead) 0x0B0 15 0 ((back + 2 ^ s.rdF (rp .hrt u.lead) 0x0A0 4 0 - 1) % 2 ^ s.rdF (rp .hrt u.lead) 0x0A0 4 0) else s
          | [] => s
        let img : SuiteImg :=
          { gen := g, et := 0, step := u.step, cycle := u.cycle, now := u.now, mode := u.mode, rate := u.rate, seed := u.seed
            runSteps := u.runSteps, ended := u.ended, stall := u.stall, runs := u.runs, loadHdr := u.loadHdr, rooms := r.2
            latches := s.glatch.filter fun e => s.gGranted e.1 suite
            chutes := s.rim.chu.filter fun e => s.chuSuite e.1 = suite
            chuRegs := s.regs.filter fun e => s.chuKey suite e.1 }
        let s := { s with free := s.free + 1 }
        .next ((s.setCkpt (2 * suite + b) (some img)).setSweep suite { u.sweep with st := 3, buf := b, gen := g })

/-- QUIESCE_TIMEOUT: quiescence not reached in QUIESCE_US fails the Sweep-out (R467). -/
def execQuiesceTimeout (suite : Nat) (s : State) : Host.Outcome State Fault Refusal :=
  match s.suite suite with
  | none => .next s
  | some u =>
    if u.sweep.st ≠ 2 ∨ s.et < u.sweep.et0 + usToEt u.sweep.limit then .next s
    else .next (s.sweepFail suite (if s.hallBusy u then 1 else 2) false)

/-- SWEEP_OUT_DONE: every image is acknowledged, so the header is written and SWP_DONE raised; with WINDOW an inspection window opens, and a
pre-emption resets the Suite.  `fail` says that a Cellar write was refused or NACKed (R465, R467, R471, R482). -/
def execSweepOutDone (suite : Nat) (fail : Bool) (s : State) : Host.Outcome State Fault Refusal :=
  match s.suite suite with
  | none => .next s
  | some u =>
    if u.sweep.st ≠ 3 then .next s
    else
      let inj := s.isArmed swpg 1
      let s := if inj then s.disarm swpg 1 else s
      if inj ∨ fail then .next (s.sweepFail suite 4 inj)
      else
        match s.ckpt (2 * suite + u.sweep.buf) with
        | none => .next (s.sweepFail suite 4 false)
        | some img =>
          let digest := crcWords 0 (img.rooms.map fun e => e.2.crc)
          let s := s.setCkpt (2 * suite + u.sweep.buf) (some { img with et := s.et })
          let s := s.stBytes (s.headerEA suite u.sweep.buf)
            (ckptHeader u.sweep.gen s.et u.sweep.tag u.rooms.length suite img.step digest u.loadHdr)
          let s := ((s.setGen suite u.sweep.buf u.sweep.gen).raise swpg 0 false).swpState u 4
          let s := s.ckptEntryDone suite
          if u.sweep.preempt then .next ((s.modSuite suite fun u => { u with sweep := { u.sweep with st := 4 } }).suiteReset suite)
          else if u.sweep.window then .next (s.modSuite suite fun u => { u with sweep := { u.sweep with st := 5 } })
          else .next (s.sweepRelease suite)

/-- µs of a span of ET (R308). -/
def etToUs (n : Nat) : Nat := n * 4 / 625

/-! ### The buddy mirror -/

/-- Half of a mirror: 4,096 + ⌈R / N⌉ × 3,506,176 bytes (R468). -/
def mirrorHalf (rooms n : Nat) : Nat := 4096 + ceilDiv rooms n * imageBytes

/-- A message of a mirror given to a stream: of the mirror of a buffer, or 2 of a RETURN; bytes from an EA, to an offset (R468, R476). -/
def State.mirrorMsg (s : State) (n cls src len off : Nat) : State :=
  s.modYctx n fun x =>
    let idx := 2 ^ 32 * cls + 1 + x.descs.foldl (fun m d => max m (d.idx % 2 ^ 32)) 65535
    { x with descs := x.descs ++ [⟨idx, [put 63 56 1 ||| put 31 0 len, put 47 0 src, put 47 0 off, 0], 0⟩] }

/-- The messages of a mirror of `rooms` Rooms over `n` streams from the first on: the images of each stream in order, then the header; `src` gives
the EA of an image, `hdr` that of the header of a stream (R468). -/
def State.mirrorAll (s : State) (first n rooms gen cls : Nat) (src : Nat → Nat) (hdr : Nat → Nat) : State :=
  let h := mirrorHalf rooms n
  let s := (List.range rooms).foldl (fun s r =>
    s.mirrorMsg (first + r % n) cls (src r) imageBytes (gen % 2 * h + 4096 + r / n * imageBytes)) s
  (List.range n).foldl (fun s k => s.mirrorMsg (first + k) cls (hdr k) 128 (gen % 2 * h)) s

/-- A committed checkpoint's mirror starts (R468). -/
def State.mirrorStart (s : State) (i : Nat) (u : Suite) : State :=
  let w := s.rd swpg (swpgSuite i)
  let b := u.sweep.buf
  let s := { s with rim := { s.rim with mirror := s.rim.mirror.filter (· ≠ 2 * i + b) ++ [2 * i + b] } }
  let n := fld w 54 52 + 1
  if (List.range n).any fun k => (s.yctx (fld w 51 32 + k)).state ≠ 1 then s.mirrorLost (fld w 51 32)
  else s.mirrorAll (fld w 51 32) n u.rooms.length u.sweep.gen b (fun r => s.imageEA i b r) (fun _ => s.headerEA i b)

/-- HOLD_RELEASE: at the named cycle HOLD ends, its time is counted, and any mirror starts (R465, R466). -/
def execHoldRelease (suite : Nat) (s : State) : Host.Outcome State Fault Refusal :=
  match s.suite suite with
  | none => .next s
  | some u =>
    match u.sweep.rel with
    | some c =>
      if u.sweep.st ≠ 4 ∨ u.clk < c then .next s
      else
        let s := s.wr swpg 0x0C8 (s.rd swpg 0x0C8 + BitVec.ofNat 64 (etToUs (s.et - u.sweep.et0)))
        let s := if u.sweep.mirror then s.mirrorStart suite u else s
        .next ((s.swpState u 0).setSweep suite .none)
    | none => .next s

/-! ### Restart -/

/-- A restart fails: STATE FAILED with its cause, RESTART_FAILED (R474, R479). -/
def State.restartFail (s : State) (i cause : Nat) : State :=
  let s := s.setRestart i { s.restart i with st := 8, cause }
  (s.capture swpg 0x0D0 (put 63 56 cause ||| put 55 50 i)).raise swpg 5 false

/-- A command of SWPG_CMD refused (R480). -/
def State.swpRefuse (s : State) : State := s.raise swpg 6 false

/-- PREEMPT: a Sweep-out without WINDOW or MIRROR, after which the Suite is reset (R471). -/
def State.preemptCmd (s : State) (i : Nat) : State :=
  match s.suite i with
  | some u =>
    if u.sweep.st ≠ 0 ∨ u.run = 0 ∨ u.run = 4 ∨ (s.restart i).st ≠ 0 then s.swpRefuse
    else s.setSweep i ⟨1, if u.run = 2 then u.step + 1 else u.step, 0, 100, false, false, 0, 0, 0, true, none⟩
  | none => s.swpRefuse

/-- What Sweep-in takes from the bytes of a Room image after its Shelf part, whose layout R459 leaves open: the Room's own state, and of the lead
Room the state that the Suite as a whole has (R459, R476). -/
opaque imageRoom : List Byte → RoomImg
opaque imageSuite : List Byte → SuiteImg

/-- EA of the header of the mirror half in one of this engine's CHECKPOINT contexts, and of the image of a Room (R468, R476). -/
def State.mirrorBase (s : State) (i gen k : Nat) (u : Suite) : Nat :=
  let w := s.rd swpg (swpgSuite i)
  (s.yctx (fld w 51 32 + k)).dbase + gen % 2 * mirrorHalf u.rooms.length (fld w 54 52 + 1)
def State.mirrorEA (s : State) (i gen r : Nat) (u : Suite) : Nat :=
  let n := s.rdF swpg (swpgSuite i) 54 52 + 1
  s.mirrorBase i gen (r % n) u + 4096 + r / n * imageBytes

/-- The image of a Room taken from its bytes at an EA: the Shelf part as it lies there, ROOM_CRC from the last 8 bytes (R459). -/
def State.imageAt (s : State) (room a : Nat) : RoomImg :=
  let m := imageRoom (s.ldBytes (a + shelfPart) (imageBytes - shelfPart - 8))
  { m with
    regs := m.regs.filter fun e => imageKey room e.1
    bricks := m.bricks.filter fun e => decide (e.1 / 64 = room)
    shelf := (s.mem.filter fun e => decide (a ≤ e.1) && decide (e.1 < a + shelfPart)).map fun e => (e.1 - a, e.2)
    crc := w64 (leOf (s.ldBytes (a + imageBytes - 8) 8)) }

/-- The image a SWEEP_IN names: a buffer's, or one of the mirror, if its GEN is the one asked for (R476). -/
def State.sweepSource (s : State) (i : Nat) (u : Suite) (src buf gen : Nat) : Option SuiteImg :=
  if src = 0 then
    if s.genOf i buf = gen ∧ gen ≠ 0 then s.ckpt (2 * i + buf) else none
  else
    let h := s.ldBytes (s.mirrorBase i gen 0 u) 128
    if gen ≠ 0 ∧ ((List.range (s.rdF swpg (swpgSuite i) 54 52 + 1)).all fun k => decide (leOf (s.ldBytes (s.mirrorBase i gen k u + 4) 4) = gen)) then
      let m := imageSuite (s.ldBytes (s.mirrorEA i gen 0 u + shelfPart) (imageBytes - shelfPart))
      let hdr := toWords ((h.drop 0x30).take 56)
      some { m with
        latches := m.latches.filter fun e => s.gGranted e.1 i
        chutes := m.chutes.filter fun e => s.chuSuite e.1 = i
        chuRegs := m.chuRegs.filter fun e => s.chuKey i e.1
        gen, et := leOf ((h.drop 16).take 8), step := w64 (leOf ((h.drop 8).take 8)), mode := hdrMode hdr, loadHdr := hdr
        rooms := (u.rooms.zip (List.range u.rooms.length)).map fun e => (e.1, s.imageAt e.1 (s.mirrorEA i gen e.2 u)) }
    else none

/-- The state of one Room replaced by its image; a quarter that is off stays dark (R459). -/
def State.putImage (s : State) (room : Nat) (m : RoomImg) : State :=
  let base := shelfEA room 0
  let keep (a : Nat) : Bool := decide (a < base) || decide (base + shelfPart ≤ a) || !s.quarterOn room (shelfQuarter (a - base))
  let mem := m.shelf.foldl (fun (t : List Host.Cell) (e : Nat × Byte) => if s.quarterOn room (shelfQuarter e.1) then smSet 0 t (base + e.1) e.2 else t)
    (s.mem.filter fun e => keep e.1)
  let regs := putRegs (s.regs.filter fun e => !imageKey room e.1) m.regs
  let bricks := m.bricks.foldl (fun (t : SMap Brick) (e : Nat × Brick) => smSet Brick.empty t e.1 e.2) (smDrop (fun k => decide (k / 64 = room)) s.bricks)
  let old := s.room room
  let unit := { m.unit with
    quarters := old.quarters, rr := old.rr, retiring := old.retiring, badLines := old.badLines, darkCnt := old.darkCnt, drain := old.drain
    resetAt := old.resetAt, rstHalt := old.rstHalt, stage := old.stage, tick := old.tick, tried := old.tried, share := old.share
    limB := old.limB, withheld := old.withheld, lastFree := old.lastFree, iroom := old.iroom, ballast := old.ballast }
  { s with mem, regs, bricks }.setRoom room unit

/-- One Room restored by a Sweep-in (R476, R479). -/
def State.restoreRoom (s : State) (room : Nat) (m : RoomImg) : State :=
  ((s.putImage room m).wr (swp room) 0x088 m.crc).wr (swp room) 0x080 (put 63 61 4 ||| put 47 0 imageBytes)

/-- The Suite's command unit after a restart: CS_HEAD read again from what was saved (R460). -/
def State.restartStream (s : State) (i : Nat) : State :=
  s.modSuite i fun u => { u with entries := [], fetched := s.rdF (rp .hrt u.lead) 0x0B0 15 0 }

/-- A Chute restored: its Larder sessions begin again from offset 0, with the bytes consumed to be discarded (R460). -/
def State.restoreChute (s : State) (c : Nat) (x : ChuSt) : State :=
  let s := s.setChute c { x with slots := [], gating := false, starve := none, stalled := none, told := false, late := [] }
  (List.range 4).foldl (fun s j =>
    if s.lsEn c j then
      let l := smGet .none x.slots j
      let ses := (s.lsSession c j + 1) % 256
      let s := (s.wrF (chuP c) (0x100 + 16 * j) 55 48 ses).wr (chuP c) (0x108 + 16 * j) 0
      let s := s.wr (cvuxPage (64 + c)) (0x100 + 8 * j) (crcOf 0 (leTo 8 0))
      (s.setLarder c j { LarderSlot.none with skip := l.cons, sentAt := s.et }).sendCredit c j
    else s) s

/-- A Yazal context of a restarted Suite: reopened with EPOCH + 1 and cleared hardware state, its consumer index taken from CI_ADDR (R460). -/
def State.reopenCtx (s : State) (n : Nat) : State :=
  let x := s.yctx n
  if x.state ≠ 1 then s
  else
    let r := s.yazRead n x.ciAddr 8
    let ci := match r.2 with | some b => leOf b % 65536 | none => 0
    r.1.setYctx n { YCtx.empty with
      cfg := x.cfg.set 0 (setFld (x.w 0) 52 45 (x.epoch + 1)), pi := x.pi, ci, fetch := ci, idle := s.et, alphaAt := s.et, decAt := s.et, prog := s.et }

/-- A whole image restored: Rooms, global Latches, Chutes, streams and the Suite's run, which stays in HOLD (R459, R460, R476). -/
def State.restore (s : State) (i : Nat) (m : SuiteImg) : State :=
  let s := m.rooms.foldl (fun (s : State) (e : Nat × RoomImg) => s.restoreRoom e.1 e.2) s
  let s := m.latches.foldl (fun (s : State) (e : Nat × Latch) => s.setGl e.1 e.2) s
  let s := { s with regs := putRegs s.regs m.chuRegs }
  let s := m.chutes.foldl (fun (s : State) (e : Nat × ChuSt) => s.restoreChute e.1 e.2) s
  let s := s.modSuite i fun u =>
    { u.cleared with
      run := 2, mode := m.mode, step := m.step, cycle := m.cycle, now := m.now, runSteps := m.runSteps, ended := m.ended, seed := m.seed
      stall := m.stall, runs := m.runs, loadHdr := m.loadHdr, sweep := { SweepSt.none with st := 7, et0 := s.et } }
  let s := s.restartStream i
  (s.rim.ctxs.map Prod.fst).foldl (fun s n => if (s.yctx n).suite = i then s.reopenCtx n else s) s

/-- SWEEP_IN: in AGREE, or for a Suite that holds no arrangement and no restart; the checks of R179 are made against LOADHDR and the Rooms'
saved records with the present remap, FL and FMIN (R474 to R476). -/
def State.sweepInCmd (s : State) (i : Nat) (v : W64) : State :=
  match s.suite i with
  | none => s.swpRefuse
  | some u =>
    let q := s.restart i
    if !(q.st = 3 ∨ (q.st = 0 ∧ u.run = 0)) ∨ u.sweep.st ≠ 0 ∨ u.inReset then s.swpRefuse
    else
      match s.sweepSource i u (fld v 41 41) (fld v 40 40) (fld v 31 0) with
      | none => s.swpRefuse
      | some m =>
        let late : Bool := match q.clean with | some t => decide (t < m.et) | none => false
        let s := s.setRestart i { q with st := 4, img := some m }
        if late then s.restartFail i 7
        else
          let t := m.rooms.foldl (fun (t : State) (e : Nat × RoomImg) => t.restoreRoom e.1 e.2) s
          let l : LoadSt := ⟨15, false, false, 0, 0, m.loadHdr, none, 0, []⟩
          let idle := { u with run := 0 }
          if u.rooms.any fun r => !(t.loadCauses idle l r).isEmpty then s.restartFail i 6
          else (s.setRestart i { s.restart i with st := 5 }).swpState u 3

/-- SWEEP_IN_DONE: every image is restored and its ROOM_CRC checked; `bad` lists the Rooms whose ROOM_CRC, or DIGEST, differs; the roll call
follows (R474, R476, R479). -/
def execSweepInDone (suite : Nat) (bad : List Nat) (s : State) : Host.Outcome State Fault Refusal :=
  match s.suite suite, (s.restart suite).img with
  | some u, some m =>
    if (s.restart suite).st ≠ 5 ∨ s.dbgSweeps suite then .next s
    else
      let inj := u.rooms.filter fun r => s.isArmed (swp r) 0
      let bad' := u.rooms.filter fun r => bad.contains r || inj.contains r
      let s := bad'.foldl (fun s r =>
        let i := s.isArmed (swp r) 0
        let s := if i then s.disarm (swp r) 0 else s
        ((s.capture (swp r) 0x090 (put 63 56 5)).raise (swp r) 0 i).wrF (swp r) 0x080 63 61 5) s
      if bad' ≠ [] then .next (s.restartFail suite 5)
      else
        let s := s.restore suite m
        .next ((s.setRestart suite { s.restart suite with st := 6, img := none }).rollStart suite)
  | _, _ => .next s

/-- RETURN: the mirror half of a generation is sent back over the streams it came by (R476). -/
def State.returnCmd (s : State) (i gen : Nat) : State :=
  match s.suite i with
  | none => s.swpRefuse
  | some u =>
    let w := s.rd swpg (swpgSuite i)
    let first := fld w 51 32
    let n := fld w 54 52 + 1
    let rooms := u.rooms.length
    let h := mirrorHalf rooms n
    if (List.range n).any fun k => (s.yctx (first + k)).state ≠ 1 ∨ (s.yctx (first + k)).dkind ≠ 2 then s.swpRefuse
    else
      s.mirrorAll first n rooms gen 2 (fun r => (s.yctx (first + r % n)).dbase + gen % 2 * h + 4096 + r / n * imageBytes)
        (fun k => (s.yctx (first + k)).dbase + gen % 2 * h)

/-- RESUME: the READY Suites of the Suite's job are armed to leave HOLD at SWPG_RESUME_ET (R474, R476). -/
def State.resumeCmd (s : State) (i : Nat) : State :=
  if (s.restart i).st ≠ 7 then s.swpRefuse
  else (s.jobSuites (s.jobOf i)).foldl (fun s k => if (s.restart k).st = 7 then s.setRestart k { s.restart k with armed := true } else s) s

/-- HALT: a job halt started by host software (R472). -/
def State.haltCmd (s : State) (i : Nat) : State :=
  if (s.suite i).isNone ∨ (s.restart i).st ≠ 0 then s.swpRefuse else s.startJobHalt i (Page.swpg.cls * 256) s.et

/-- ABORT: a restart returns to IDLE; a Suite restored but not resumed stays halted, and the down time of a restart that had failed goes on to
count until the next resume (R474, R478). -/
def State.abortCmd (s : State) (i : Nat) : State :=
  if (s.restart i).st = 0 then s.swpRefuse
  else
    let s := s.setRestart i (if (s.restart i).st = 8 then { Restart.idle with from_ := (s.restart i).from_ } else .idle)
    s.modSuite i fun u => if u.sweep.st = 7 then { u with run := 4, haltNow := some u.now, sweep := .none } else u

/-- A write of SWPG_CMD with the OP that a command is about: 1 PREEMPT, 2 SWEEP_IN, 3 RETURN, 4 RESUME, 5 HALT, 6 ABORT (R480). -/
def State.swpgCmd (s : State) (v : W64) : State :=
  let i := fld v 53 48
  match fld v 63 60 with
  | 1 => s.preemptCmd i
  | 2 => s.sweepInCmd i v
  | 3 => s.returnCmd i (fld v 31 0)
  | 4 => s.resumeCmd i
  | 5 => s.haltCmd i
  | 6 => s.abortCmd i
  | _ => s.swpRefuse

/-- The commands of SWPG_CMD (R471, R472, R474, R476, R480). -/
def execPreempt (suite : Nat) (s : State) : Host.Outcome State Fault Refusal := .next (s.preemptCmd (suite % 64))
def execSweepIn (suite src buf gen : Nat) (s : State) : Host.Outcome State Fault Refusal :=
  .next (s.sweepInCmd (suite % 64) (put 41 41 src ||| put 40 40 buf ||| put 31 0 gen))
def execSweepReturn (suite gen : Nat) (s : State) : Host.Outcome State Fault Refusal := .next (s.returnCmd (suite % 64) (gen % 2 ^ 32))
def execSwpgResume (suite : Nat) (s : State) : Host.Outcome State Fault Refusal := .next (s.resumeCmd (suite % 64))
def execSwpgHalt (suite : Nat) (s : State) : Host.Outcome State Fault Refusal := .next (s.haltCmd (suite % 64))
def execSwpgAbort (suite : Nat) (s : State) : Host.Outcome State Fault Refusal := .next (s.abortCmd (suite % 64))

/-- A restart that has ended counted, while SERVICE is set (R478). -/
def State.countRestart (s : State) (from_ : Nat) : State :=
  if !tst (s.rd swpg 0x098) 63 then s
  else
    let d := BitVec.ofNat 64 (etToUs (s.et - from_))
    let s := s.wr swpg 0x0B0 (s.rd swpg 0x0B0 + 1)
    let s := s.wr swpg 0x0A8 (s.rd swpg 0x0A8 + d)
    let s := s.wr swpg 0x0B8 d
    if (s.rd swpg 0x0C0).toNat < d.toNat then s.wr swpg 0x0C0 d else s

/-- RESUME_ET: at SWPG_RESUME_ET every armed Suite leaves HOLD and executes step STEP + 1 (R476, R478). -/
def execResumeEt (s : State) : Host.Outcome State Fault Refusal :=
  if s.et < (s.rd swpg 0x090).toNat then .next s
  else
    .next ((s.rim.restarts.map Prod.fst).foldl (fun s i =>
      let q := s.restart i
      match s.suite i with
      | some u =>
        if q.armed ∧ q.st = 7 then
          let s := (s.setSweep i .none).swpState u 0
          let s := { s with rim := { s.rim with struck := [] } }
          (if q.from_ = 0 then s else s.countRestart q.from_).setRestart i .idle
        else s
      | none => s) s)

/-- JOB_HALT: a message that matches the local ROUND of a Suite with its JOB halts the job's Suites and is forwarded; an older ROUND or an unknown
JOB is dropped (R473). -/
def execJobHalt (n : Nat) (s : State) : Host.Outcome State Fault Refusal :=
  let n := n % 2 ^ 20
  let t := s.yazTake n 0x20
  match t.2 with
  | none => .next s
  | some e =>
    let f (o k : Nat) : Nat := leOf ((e.data.drop o).take k)
    let s := t.1
    let hit := (s.jobSuites (f 0 2)).filter fun i => s.roundOf i = f 2 2
    let s := if hit = [] then s
      else
        let s := hit.foldl (fun s i => (s.haltForJob (Page.swpg.cls * 256 + 0x05) (f 8 8) i).wrF swpg (swpgSuite i) 31 16 (f 2 2 + 1)) s
        (s.forwardHalt (some n) e.data).raise swpg 4 false
    .next (s.yazDeliver n 300)

end Sys2Proof.Machine
end

