-- ==== Sys2Proof/Machine/Guard.lean ====
section
/-!
DEFINITION. The silent-error defence: progress watchdog, inspection sets, self-tests, suspect Rooms and incident records (R414 to R436).
-/

namespace Sys2Proof.Machine

/-- The CVUG page (R434). -/
def cvug : PageRef := gp .cvug

/-- An event of the CVUG page with its capture (R434, R436). -/
def State.cvugEvent (s : State) (bit cause suite phys : Nat) (injected : Bool) : State :=
  (s.capture cvug 0x0C8 (put 63 56 cause ||| put 55 50 suite ||| put 14 0 phys)).raise cvug bit injected

/-! ### The progress watchdog -/

/-- SUITE_NO_PROGRESS: the watchdog trips, and the Suite halts (R417, R436). -/
def State.noProgress (s : State) (i : Nat) (injected : Bool) : State :=
  match s.suite i with
  | none => s
  | some u =>
    let s := s.cvugEvent 2 0x12 i 0 injected
    let s := s.wr cvug 0x0A8 (setBit (s.rd cvug 0x0A8) i)
    let s := s.record cvug 0x12 1 injected false true i noRef (s.rd cvug 0x0C8)
    (s.modSuite i fun u => { u with prog := 0 }).sendHalt i u.lead 15 (Page.cvug.cls * 256 + 0x12)

/-- The lowest-numbered running Suite. -/
def State.lowestRunning (s : State) : Option Nat :=
  (List.range 64).find? fun i => match s.suite i with | some u => decide (u.run = 2) | none => false

/-- SUITE_NO_PROGRESS: PROGRESS_MS of counted cycles have passed without progress; 0 disables the watchdog (R417). -/
def execSuiteNoProgress (suite : Nat) (s : State) : Host.Outcome State Fault Refusal :=
  let i := suite % 64
  let ms := s.rdF cvug 0x0A0 15 0
  .next (match s.suite i with
    | some u => if u.run = 2 ∧ ms ≠ 0 ∧ 25000 * u.rate * ms ≤ u.prog then s.noProgress i false else s
    | none => s)

/-! ### Incident records -/

/-- The four words of an incident record (R428). -/
def Incident.words (r : Incident) : List W64 :=
  [put 63 48 r.code ||| put 47 45 r.kind ||| put 44 44 (b2n r.injected) ||| put 43 43 (b2n r.hand) ||| put 42 42 (b2n r.halt)
      ||| put 41 36 r.suite ||| put 35 32 r.slot ||| put 31 0 r.seq,
   BitVec.ofNat 64 r.et,
   put 63 32 r.ref ||| put 15 15 (b2n r.global) ||| put 14 0 r.whereAt,
   r.detail]

/-- Whether the incident log is full and keeps its oldest records (R448). -/
def State.logFull (s : State) : Bool :=
  let p := gp .eccg
  decide ((s.rdF p 0x0A0 18 0 + 1) % 524288 = s.rdF p 0x098 18 0) && !tst (s.rd p 0x090) 0

/-- The collector appends what it holds to the log, in SEQ order; it waits while the log's stack recodes.  A full log keeps its oldest records, or with
WRAP gives them up (R429, R439, R447, R448). -/
def State.logDrain (s : State) : Nat → State
  | 0 => s
  | fuel + 1 =>
    match s.collector with
    | [] => s
    | r :: rest =>
      let p := gp .eccg
      let base := fld (s.rd p 0x088) 47 12 * 4096
      let head := s.rdF p 0x098 18 0
      let tail := s.rdF p 0x0A0 18 0
      let full := decide ((tail + 1) % 524288 = head)
      if base = 0 ∨ s.logFull ∨ tst (s.rd (ecccPage (base / 2 ^ 37)) 0x080) 3 then s
      else
        let s := if full then
            let s := (s.wr p 0x098 (put 18 0 (head + 1))).bump p 0x0A8 63 0 1
            if head = 524287 then s.raise p 1 false else s
          else s
        let s := (s.stWords (base + 32 * tail) r.words).wr p 0x0A0 (put 18 0 (tail + 1))
        { s with collector := rest }.logDrain fuel

/-- A record in the collector, which goes on to the log; LOG_FULL is raised as the first one waits for a full log (R429, R448). -/
def State.collect (s : State) (r : Incident) : State :=
  let t := { s with collector := s.collector ++ [r] }.logDrain 257
  if s.collector = [] ∧ t.collector ≠ [] ∧ t.rdF (gp .eccg) 0x088 47 12 ≠ 0 ∧ t.logFull then t.raise (gp .eccg) 0 false else t

/-- INCIDENT_RECORD: a record on its way reaches the collector, takes the next SEQ and goes to the log; a full collector drops it, with INC_LOST
(R429, R434). -/
def execIncidentRecord (k : Nat) (s : State) : Host.Outcome State Fault Refusal :=
  match s.flying[k]? with
  | none => .next (s.logDrain 256)
  | some r =>
    let s := { s with flying := s.flying.eraseIdx k, incSeq := s.incSeq + 1 }.wr cvug 0x0B8 (put 63 32 (s.incSeq + 1))
    let s : State := if r.injected || r.hand then { s with rim := { s.rim with quiet := s.rim.quiet ++ [s.incSeq - 1] } } else s
    if 256 ≤ s.collector.length then .next ((s.bump cvug 0x0C0 63 0 1).cvugEvent 6 0x16 r.suite 0 false)
    else .next (s.collect { r with seq := s.incSeq - 1 })

/-! ### Strikes -/

/-- Hours of strikes, oldest first, as SRV_REC2 holds them (R572). -/
def strikesOf (w : W64) : List Nat := (List.range (fld w 63 62)).map fun k => fld w (20 * k + 19) (20 * k)

/-- SRV_REC2 of a list of strikes (R572). -/
def packStrikes (l : List Nat) : W64 :=
  put 63 62 l.length ||| put 19 0 (l.getD 0 0) ||| put 39 20 (l.getD 1 0) ||| put 59 40 (l.getD 2 0)

/-- The strikes of a Room that have not expired: at most DECAY_H hours old (R426, R435). -/
def State.liveStrikes (s : State) (phys : Nat) : List Nat :=
  (strikesOf (s.srvRd phys 0x090)).filter fun h => decide ((s.phours + 2 ^ 20 - h) % 2 ^ 20 ≤ s.rdF cvug 0x098 31 16)

/-- STRIKE_EXPIRY: strikes older than DECAY_H hours are dropped; the trim stays (R426). -/
def execStrikeExpiry (phys : Nat) (s : State) : Host.Outcome State Fault Refusal :=
  let w := packStrikes (s.liveStrikes phys)
  .next (if w = s.srvRd phys 0x090 then s else (s.srvWr phys 0x090 w).survTouch false)

/-- Fmax lowered by 25 MHz; below RATE 48 the Room is marked bad instead (R426, R557). -/
def State.lowerFmax (s : State) (phys : Nat) : State :=
  let f := fld (s.srvRd phys 0x080) 61 56
  if f ≤ 48 then s.roomBad phys else (s.srvWr phys 0x080 (setFld (s.srvRd phys 0x080) 61 56 (f - 1))).survTouch false

/-- The step of a suspect Room by MODE: its trim raised by STEP_MV within CAP_MV and the range of VTRIM, or its Fmax lowered (R426). -/
def State.suspectStep (s : State) (phys : Nat) : State :=
  let pol := s.rd cvug 0x098
  let r := s.srvRd phys 0x080
  let t := fld r 39 32 + ceilDiv (fld pol 55 48) 5
  let total : Int := 5 * (sgn 8 (fld r 47 40) + (t : Int))
  if tst pol 62 ∨ min 40 (fld pol 47 40) < 5 * t ∨ total < -50 ∨ 50 < total then s.lowerFmax phys
  else
    let s := (s.srvWr phys 0x080 (setFld r 39 32 t)).survTouch false
    match s.logicalOf phys with
    | some room =>
      let w := physWing phys
      (s.wrF (pwr room) 0x088 15 8 t).moveRail w (s.railRate w)
    | none => s

/-- A strike: the Room is suspect, and by the number of live strikes it takes a step or is marked bad.  A step waits until the Room's Suite is halted;
a Room takes at most one strike in a restart (R424, R426). -/
def State.strike (s : State) (phys : Nat) : State :=
  if s.rim.struck.contains phys then s
  else
    let l := s.liveStrikes phys ++ [s.phours % 2 ^ 20]
    let s := { s with rim := { s.rim with struck := s.rim.struck ++ [phys] } }
    let s := (s.srvWr phys 0x090 (packStrikes (l.drop (l.length - 3)))).survTouch false
    let su := match s.logicalOf phys with | some r => s.suiteId r | none => 0
    let s := s.cvugEvent 4 0x14 su phys false
    if 3 ≤ l.length then s.roomBad phys
    else
      let idle := match s.logicalOf phys with | some r => s.suiteIdle r | none => true
      if idle then s.suspectStep phys else { s with rim := { s.rim with stepPend := s.rim.stepPend ++ [phys] } }

/-! ### Inspection sets -/

/-- What is wrong with an inspection package at an EA: REASON of CVUG_INSP_STATUS, 0 for nothing (R418, R419, R434). -/
def State.inspReason (s : State) (ea : Nat) (signed : Bool) : Nat :=
  let n (a k : Nat) : Nat := leOf (s.ldBytes (ea + a) k)
  let count := n 0x10 4
  let cellar := match s.decodeEa ea with | .cellar _ _ => true | _ => false
  let entry (j : Nat) : Bool :=
    let o := 0x18 + 32 * j
    decide (n o 1 < 8) && decide (n (o + 2) 2 = 0) && decide (n (o + 8) 8 + n (o + 16) 8 ≤ n 8 8 - 96)
  if !signed then 1
  else if !cellar || decide (n 0 4 ≠ 0x53495149) || decide (count = 0) || decide (1024 < count) || decide (n 0x14 4 ≠ 0)
      || decide (n 8 8 < 0x18 + 32 * count + 96) || !(List.range count).all entry then 2
  else if n 4 4 < s.rim.flash.inspMax then 3
  else if (s.rdF cvug 0x080 47 32 - 20) * 1200 < ((List.range count).map fun j => n (0x18 + 32 * j + 4) 4).sum then 4
  else 0

/-- The entries of a package: CLASS and CYCLES (R418). -/
def State.inspEntries (s : State) (ea : Nat) : List (Nat × Nat) :=
  (List.range (leOf (s.ldBytes (ea + 0x10) 4))).map fun j =>
    (leOf (s.ldBytes (ea + 0x18 + 32 * j) 1), leOf (s.ldBytes (ea + 0x18 + 32 * j + 4) 4))

/-- INSP_INSTALL: a write of CVUG_INSP_PKG; with GO the package is checked, `signed` being the outcome of its signature's check, and becomes the
installed set at the next window boundary, or is refused (R419, R434). -/
def execInspInstall (v : W64) (signed : Bool) (s : State) : Host.Outcome State Fault Refusal :=
  let s := s.wr cvug 0x088 (v &&& maskOf 47 0)
  if !tst v 63 then .next s
  else
    let ea := fld v 47 0
    match s.inspReason ea signed with
    | 0 =>
      let ver := leOf (s.ldBytes (ea + 4) 4)
      let set_ : InspSet := ⟨ver, s.inspEntries ea⟩
      let s := s.wr cvug 0x090 (put 63 61 2 ||| put 31 0 ver)
      .next { s with rim := { s.rim with
        insp := if s.rim.insp.isNone then some set_ else s.rim.insp
        inspNew := if s.rim.insp.isNone then none else some set_
        flash := { s.rim.flash with inspMax := max s.rim.flash.inspMax ver, insp := some set_ } } }
    | r => .next ((s.wr cvug 0x090 (put 63 61 3 ||| put 60 53 r ||| put 31 0 (s.rdF cvug 0x090 31 0))).cvugEvent 1 0x11 0 0 false)

/-- The rotation group of a physical Room (R420). -/
def rotGroup (phys : Nat) : Nat := 8 * (phys / 144 % 8) + phys % 144 % 8

/-- INSP_FAIL of a Room: the record holds the ET of its last clean window, and the Suite halts instead of resuming (R421, R475). -/
def State.inspFail (s : State) (i lead phys : Nat) (injected : Bool) : State :=
  let t := smGet 0 s.rim.clean phys
  let s := s.cvugEvent 0 0x10 i phys injected
  let s := s.record cvug 0x10 1 injected false true i noRef (BitVec.ofNat 64 t)
  let r := s.restart i
  let s := if r.st = 0 then s.setRestart i { r with clean := some (match r.clean with | some c => min c t | none => t) } else s
  s.sendHalt i lead 15 (Page.cvug.cls * 256 + 0x10)

/-- INSPECTION_WINDOW_END: SLICE_US after the window opened its Rooms' results are judged; they are restored, and GROUP advances.  `fails` names the
Rooms, by Suite-relative index, in which an entry differed.  A window without EN or a set runs nothing (R420, R421). -/
def execInspectionWindowEnd (suite : Nat) (fails : List Nat) (s : State) : Host.Outcome State Fault Refusal :=
  let i := suite % 64
  match s.suite i with
  | none => .next s
  | some u =>
    if u.sweep.st ≠ 5 ∨ s.et < u.sweep.et0 + usToEt (s.rdF cvug 0x080 47 32) then .next s
    else
      let s := match s.rim.inspNew with
        | some n => { s with rim := { s.rim with insp := some n, inspNew := none } }
        | none => s
      if !tst (s.rd cvug 0x080) 63 ∨ s.rim.insp = none then .next (s.sweepRelease i)
      else
        let off := 0x400 + 8 * i
        let g := s.rdF cvug off 5 0
        let rooms := ((List.range u.rooms.length).zip u.rooms).filter fun e => decide (rotGroup (s.physOf e.2) = g)
        let inj := s.isArmed cvug 0 && !rooms.isEmpty
        let s := if inj then s.disarm cvug 0 else s
        let s := s.wr cvug off (put 63 32 (s.rdF cvug off 63 32 + 1) ||| put 5 0 (g + 1))
        let bad : Nat × Nat → Bool := fun e => fails.contains e.1 || (inj && decide (some e = rooms.head?))
        let s := rooms.foldl (fun (s : State) (e : Nat × Nat) =>
          if bad e then s.inspFail i u.lead (s.physOf e.2) (inj && !fails.contains e.1)
          else { s with rim := { s.rim with clean := smSet 0 s.rim.clean (s.physOf e.2) s.et } }) s
        .next (if rooms.any bad then s.modSuite i fun u => { u with sweep := { u.sweep with st := 6 } } else s.sweepRelease i)

/-! ### Self-tests -/

/-- Whether a unit of CVUG_ST.KIND belongs to the Room domain, so that its test needs a halted Suite (R422, R435). -/
def stRoomKind (kind : Nat) : Bool := decide (kind ≠ 5) && decide (kind ≠ 9)

/-- CVU_ACCESS_REFUSED of the CVUG page (R435, R436). -/
def State.cvugRefused (s : State) (phys : Nat) : State := s.cvugEvent 7 0x17 0 phys false

/-- SELF_TEST: a write of CVUG_ST; with GO a test starts, unless one runs or AUTO leaves the register to Porch firmware.  `ref` is the SEQ of the
detection that it resolves; firmware starts none for a record marked INJECTED or HAND (R422 to R424, R435). -/
def execSelfTest (v : W64) (ref : Nat) (firmware : Bool) (s : State) : Host.Outcome State Fault Refusal :=
  let v := v &&& (maskOf 63 63 ||| maskOf 27 16 ||| maskOf 14 0)
  if tst (s.rd cvug 0x0B0) 63 ∨ (tst (s.rd cvug 0x098) 63 ∧ !firmware) then .next (if tst v 63 then s.cvugRefused (fld v 14 0) else s)
  else if firmware ∧ s.rim.quiet.contains ref then .next s
  else
    let s := s.wr cvug 0x0B0 v
    .next (if tst v 63 then { s with rim := { s.rim with testRef := ref % 2 ^ 32 } } else s)

/-- What a test leaves in the unit it tested: an undefined state, which the restart's Sweep-in restores (R422). -/
def State.undefine (s : State) (room kind sub : Nat) : State :=
  let d := s.free
  let s := { s with free := s.free + 1 }
  let ws (n : Nat) : List (Nat × W64) := (List.range n).map fun k => (k, Config.freeAt d k)
  if kind ≤ 2 then
    s.modBrick room (sub % 64) fun b =>
      { b with
        g := smSetAll 0 b.g (ws 32)
        acc := smSetAll 0 b.acc ((List.range 512).map fun k => (k, (Config.freeAt d (32 + k)).truncate 32))
        cubby := smSetAll 0 b.cubby ((List.range 256).map fun k => (k, Config.freeAt d (544 + k))) }
  else if kind = 4 then
    (List.range 3072).foldl (fun s row =>
      s.stWords (shelfEA room ((sub / 4 % 4) * 0xC0000 + row * 256 + (sub % 4) * 64)) ((List.range 8).map fun k => Config.freeAt d (8 * row + k))) s
  else if kind = 6 then s.modRoom room fun r => { r with hearth := { r.hearth with x := smSetAll 0 r.hearth.x ((ws 32).drop 1), pc := Config.freeAt d 32 } }
  else if kind = 7 then (List.range 8).foldl (fun s q => s.wr (rp .cvu room) (0x200 + 8 * q) (Config.freeAt d q)) s
  else s

/-- The bit of SRV_REC1 that a failed link test clears: the router port's or lane port's side, or the Flue (R558, R573). -/
def linkBit (kind sub : Nat) : Option Nat :=
  if kind = 5 then (if sub % 6 < 4 then some (4 + sub % 6) else none)
  else if kind = 8 then some (sub % 4)
  else if kind = 9 then some 12 else none

/-- What Porch firmware does about a lasting result: a Shelf bank is retired, any other unit of a Room makes it suspect (R426, R427). -/
def State.lasting (s : State) (phys kind sub : Nat) : State :=
  if kind = 4 then
    match s.logicalOf phys with
    | some r => s.shfRetire r (put 7 7 1 ||| put 3 0 sub)
    | none => s.strike phys
  else s.strike phys

/-- SELFTEST_DONE: a test ends with RESULT 1 PASS, 2 FAIL or 3 INCONCLUSIVE, which is treated as lasting; its record names the detection it resolves
(R422 to R427). -/
def execSelftestDone (result : Nat) (s : State) : Host.Outcome State Fault Refusal :=
  let w := s.rd cvug 0x0B0
  let kind := fld w 27 24
  let sub := fld w 23 16
  let phys := fld w 14 0
  let idle := match s.logicalOf phys with | some r => s.suiteIdle r | none => true
  if !tst w 63 ∨ result % 4 = 0 ∨ (stRoomKind kind ∧ !idle) then .next s
  else
    let s := match s.logicalOf phys with | some r => if stRoomKind kind then s.undefine r kind sub else s | none => s
    let s := s.wr cvug 0x0B0 (clrBit (setFld w 30 28 result) 63)
    let good := decide (result % 4 = 1)
    let su := match s.logicalOf phys with | some r => s.suiteId r | none => 0
    let s := s.record cvug 0x13 (if good then 2 else 3) false false false su s.rim.testRef (s.rd cvug 0x0B0)
    let s := (s.srvCount phys (if good then 16 else 32)).cvugEvent 3 0x13 su phys false
    let s := match linkBit kind sub with
      | some b => if result % 4 = 2 then (s.srvWr phys 0x088 (clrBit (s.srvRd phys 0x088) b)).survTouch false else s
      | none => s
    .next (if !good ∧ tst (s.rd cvug 0x098) 63 then s.lasting phys kind sub else s)

/-! ### Correction rates and check values -/

/-- The page and cause byte of a unit whose corrections are counted: lane ports, router, Flue node and Shelf of a Room, Cellar controller, MAC (R425). -/
def cePage (kind inst : Nat) : PageRef × Nat :=
  match kind with
  | 0 => (rp .brk inst, 0x06)
  | 1 => (hal inst, 0x03)
  | 2 => (rp .flu inst, 0x01)
  | 3 => (rp .ecc inst, 0x02)
  | 4 => (ecccPage inst, 0x11)
  | _ => (cvuxPage (128 + inst), 0x01)

/-- CE_RATE_CHECK: a unit's corrections rose by `rise` within an hour.  Above CE_LIMIT a record of KIND CE_RATE is written; a seam, as kind 6 with
4 × Wing + side, retrains while no Suite runs across it (R425, R558, R570). -/
def execCeRateCheck (kind inst rise : Nat) (s : State) : Host.Outcome State Fault Refusal :=
  if rise ≤ s.rdF cvug 0x098 15 0 then .next s
  else if kind = 6 then .next (if s.seamRuns (inst / 4 % 64) (inst % 4) then s else s.startSeam (inst / 4 % 64) (inst % 4))
  else
    let e := cePage kind inst
    let su := if kind ≤ 3 ∧ inst < 0x8000 then s.suiteId inst else 0
    let s := s.record e.1 e.2 0 false false false su noRef 0
    .next (if kind ≤ 3 then s.srvCount (if inst < 0x8000 then s.physOf inst else inst - 0x8000) 0 else s)

/-- Whether a Room's Suite is halted (R312, R414). -/
def State.suiteHalted (s : State) (room : Nat) : Bool := ((s.suiteOf room).bind s.suite).any fun u => decide (u.run = 4)

/-- CVU_RUN_WRITE: the running value of Dumbwaiter queue `k` of a Room, or, from unit 0x10000 on, of Larder slot `k` of a Chute; accepted only while its
stream is idle (R414, R432, R433). -/
def execCvuRunWrite (unit k : Nat) (v : W64) (s : State) : Host.Outcome State Fault Refusal :=
  if unit < 0x10000 then
    let p := rp .cvu unit
    let idle := !s.dwRuns unit (k % 8) || s.suiteHalted unit
    .next (if s.dark unit then s
      else if idle then s.wr p (0x200 + 8 * (k % 8)) v
      else (s.captureStep p 0x088 (put 63 56 0x08 ||| put 55 52 4 ||| put 51 44 (k % 8)) 0x090 (s.whereStep unit)).raise p 7 false)
  else
    let c := (unit - 0x10000) % 32
    let p := cvuxPage (64 + c)
    .next (if 4 ≤ k ∨ s.lsEn c k then (s.capture p 0x080 (put 63 56 0x02)).raise p 1 false else s.wr p (0x100 + 8 * k) v)

end Sys2Proof.Machine
end

