-- ==== Sys2Proof/Machine/Remap.lean ====
section
/-!
DEFINITION. What a remap must satisfy, how it is applied, fences, and the Suite table (R42, R560 to R569, R612, R613).
-/

namespace Sys2Proof.Machine

/-- The SRVG page (R575). -/
def srvg : PageRef := gp .srvg

/-- An event of the SRVG page with its capture (R575, R577). -/
def State.srvgEvent (s : State) (bit cause detail target : Nat) (injected : Bool) : State :=
  (s.capture srvg 0x0A8 (put 63 56 cause ||| put 55 48 detail ||| put 14 0 target)).raise srvg bit injected

/-! ### Validity -/

/-- The number of set bits of an 18-bit mask. -/
def maskCount (m : Nat) : Nat := (maskBits m).length

/-- The numbers strictly between two numbers. -/
def between (a b : Nat) : List Nat := (List.range (gap a b - 1)).map fun k => min a b + 1 + k

/-- The logical Rooms of a remap (R25). -/
def Masks.rooms (m : Masks) : List Nat := List.range (if m.fence.isSome then 14336 else 16384)

/-- A bit of SRV_REC1 of a physical Room (R573). -/
def State.health (s : State) (phys bit : Nat) : Bool := tst (s.srvRd phys 0x088) bit

/-- What R561 asks of a mapped Room. -/
def State.roomFits (s : State) (m : Masks) (room : Nat) : Bool :=
  let p := m.place room
  let r0 := s.srvRd p 0x080
  !s.isBad p && decide (48 ≤ fld r0 61 56) && !tst r0 15 && s.health p 13 && s.health p 12 &&
    (List.range 4).all fun d => (m.beside room d).isNone || (s.health p d && s.health p (4 + d))

/-- What R561 asks of the link of a Room toward E: the skip, and BYPASS_H in the Rooms passed over. -/
def State.eastFits (s : State) (m : Masks) (room : Nat) : Bool :=
  let p := m.place room
  match m.beside room 1 with
  | none => true
  | some n =>
    let q := m.place n
    decide (p / 144 = q / 144) && decide (gap (p % 144) (q % 144) ≤ 3) &&
      (between (p % 144) (q % 144)).all fun x => s.health (p / 144 * 144 + x) 8

/-- What R561 asks of the link of a Room toward S: the skip, the diagonal, and the wires in the Rooms it passes over and at its ends. -/
def State.southFits (s : State) (m : Masks) (room : Nat) : Bool :=
  let p := m.place room
  match m.beside room 2 with
  | none => true
  | some n =>
    let q := m.place n
    decide (gap (p / 144) (q / 144) ≤ 3) && decide (gap (p % 144) (q % 144) ≤ 1) &&
      ((between (p / 144) (q / 144)).all fun y => s.health (y * 144 + p % 144) 9) &&
      (decide (p % 144 = q % 144) || (s.health p 11 && s.health q 10))

/-- What R561 asks of a mapped Room and its links toward E and S. -/
def State.allFits (s : State) (m : Masks) (room : Nat) : Bool := s.roomFits m room && s.eastFits m room && s.southFits m room

/-- Whether every mask of a physical Wing row keeps 16 of 18, and its ROWMASKs agree (R560, R561). -/
def Masks.rowFormed (m : Masks) (row : Nat) : Bool :=
  (List.range 8).all fun x =>
    decide (m.row (8 * row + x) < 2 ^ 18) && decide (maskCount (m.row (8 * row + x)) = 16) && decide (m.row (8 * row + x) = m.row (8 * row)) &&
      (List.range 16).all fun r => decide (m.col (8 * row + x) r < 2 ^ 18) && decide (maskCount (m.col (8 * row + x) r) = 16)

/-- Whether a remap is valid under the working Survey (R561). -/
def State.remapValid (s : State) (m : Masks) : Bool := ((List.range 8).all fun row => m.rowFormed row) && m.rooms.all fun r => s.allFits m r

/-! ### The solver -/

/-- Whether two remaps hold the same tables in a physical Wing row. -/
def sameRow (m n : Masks) (row : Nat) : Bool :=
  (List.range 8).all fun x => decide (m.row (8 * row + x) = n.row (8 * row + x)) && (List.range 16).all fun r => decide (m.col (8 * row + x) r = n.col (8 * row + x) r)

/-- The logical Rooms of a physical Wing row; none for the fenced one. -/
def Masks.rowRooms (m : Masks) (row : Nat) : List Nat :=
  match m.logRow row with
  | none => []
  | some l => (List.range 2048).map fun k => 2048 * l + k

/-- Whether every mapped Room of a physical Wing row still meets R561 under a remap. -/
def State.rowFits (s : State) (m : Masks) (row : Nat) : Bool := !(m.rowRooms row).isEmpty && (m.rowRooms row).all fun r => s.allFits m r

/-- The masks of a physical Wing row replaced by those of a number: ROWMASK, then COLMASK[0] to COLMASK[15] of Wings 0 to 7, the most significant
first, so that numbers are in the order of the third key of R563. -/
def Masks.putRow (m : Masks) (row k : Nat) : Masks :=
  let f (j : Nat) : Nat := k / 2 ^ (18 * (128 - j)) % 2 ^ 18
  { m with
    rows := (List.range 8).foldl (fun t x => smSet 0xFFFF t (8 * row + x) (f 0)) m.rows
    cols := (List.range 128).foldl (fun t j => smSet (colDefault (j / 16)) t (16 * (8 * row) + j) (f (1 + j))) m.cols }

/-- The number of the masks that a physical Wing row holds. -/
def Masks.rowCode (m : Masks) (row : Nat) : Nat :=
  (List.range 128).foldl (fun a j => a * 2 ^ 18 + m.col (8 * row + j / 16) (j % 16)) (m.row (8 * row))

/-- One more than the largest number of the masks of a row: 129 masks of 18 bits. -/
def rowCodes : Nat := 2 ^ 2322

/-- Whether a physical Wing row is solved with the row above it fixed, and the row below it too where that is said (R561, R563). -/
def State.rowSolves (s : State) (m : Masks) (row : Nat) (below : Bool) : Bool :=
  m.rowFormed row && !(m.rowRooms row).isEmpty &&
    (m.rowRooms row).all fun r =>
      s.roomFits m r && s.eastFits m r && (decide (roomY r % 16 = 15 ∧ !below) || s.southFits m r) &&
        match m.beside r 0 with | some n => decide (roomY r % 16 ≠ 0) || s.southFits m n | none => true

/-- The keys of R563 of a physical Wing row with its north seam: links with S + D above 0, the total of S + D, and the masks as a number. -/
def Masks.rowKey (m : Masks) (row : Nat) : Nat × Nat × Nat :=
  let costs := ((m.rowRooms row).flatMap fun r => [m.link r 1, m.link r 0]).map fun e =>
    match e with | some l => l.skip + (if l.diag = 0 then 0 else 1) | none => 0
  ((costs.filter (0 < ·)).length, costs.sum, m.rowCode row)

/-- Whether a key comes no later than another. -/
def keyLe (a b : Nat × Nat × Nat) : Bool :=
  decide (a.1 < b.1) || (decide (a.1 = b.1) && (decide (a.2.1 < b.2.1) || (decide (a.2.1 = b.2.1) && decide (a.2.2 ≤ b.2.2))))

/-- Whether a physical Wing row holds what the solver chooses among the masks it may take (R563). -/
def State.rowBest (s : State) (m : Masks) (row : Nat) (below : Bool) (may : Masks → Bool) : Bool :=
  s.rowSolves m row below && may m &&
    decide (∀ k, k < rowCodes → (s.rowSolves (m.putRow row k) row below && may (m.putRow row k)) = true → keyLe (m.rowKey row) ((m.putRow row k).rowKey row) = true)

/-- Whether there is no solution for a physical Wing row among the masks it may take (R563). -/
def State.rowNone (s : State) (m : Masks) (row : Nat) (below : Bool) (may : Masks → Bool) : Bool :=
  decide (∀ k, k < rowCodes → (s.rowSolves (m.putRow row k) row below && may (m.putRow row k)) = false)

/-- Any masks may be taken. -/
def anyMasks : Masks → Bool := fun _ => true

/-- Whether a remap is that of the full solve: each row in order, with the row above it fixed (R563). -/
def State.solvedFull (s : State) (m : Masks) : Bool :=
  (List.range 8).all fun row => decide (m.fence = some row) || s.rowBest m row false anyMasks

/-- Whether the masks of a row differ from those of `old` only in COLMASKs of kept rows that hold an unusable mapped Room (R563). -/
def State.stageOne (s : State) (old : Masks) (row : Nat) (m : Masks) : Bool :=
  (List.range 8).all fun x => decide (m.row (8 * row + x) = old.row (8 * row + x)) && (List.range 16).all fun r =>
    decide (m.col (8 * row + x) r = old.col (8 * row + x) r) ||
      (old.rowRooms row).any fun n => decide (roomX n / 16 = x ∧ roomY n % 16 = r) && !s.roomFits old n

/-- The tables of the rows before one as in a remap, and of the others as in another. -/
def Masks.before (m old : Masks) (row : Nat) : Masks := (List.range row).foldl (fun t k => t.putRow k (m.rowCode k)) old

/-- Whether a row that no longer fits holds what the first two stages of a restart give it: with its neighbours fixed, the COLMASKs with an unusable
Room, or else the whole row (R563). -/
def State.rowStaged (s : State) (old m : Masks) (row : Nat) : Bool :=
  let t := (m.before old row).putRow row (m.rowCode row)
  s.rowBest t row true (s.stageOne old row) || (s.rowNone t row true (s.stageOne old row) && s.rowBest t row true anyMasks)

/-- Whether a remap is the solver's at a restart: a row whose mapped Rooms all still fit keeps its tables, and each other one is solved in the first
stage that succeeds; where for some row neither of the first two does, the solve is full (R563). -/
def State.solved (s : State) (m : Masks) : Bool :=
  let old := { s.remap with fence := m.fence }
  let odd := (List.range 8).filter fun row => !(decide (m.fence = some row) || s.rowFits old row)
  ((List.range 8).all fun row => decide (m.fence = some row) || (if odd.contains row then s.rowStaged old m row else sameRow old m row))
    || ((odd.any fun row => s.rowNone old row true anyMasks) && s.solvedFull m)

/-! ### Applying -/

/-- BRK_LANE_HOP of a Room: B + S + D of each side, 0xF at the border of its Suite and where there is no link (R75, R562). -/
def State.laneHop (s : State) (room : Nat) : W64 :=
  let side (d : Nat) : Nat :=
    match s.remap.beside room d with
    | none => 0xF
    | some n => if s.suiteOf n = s.suiteOf room then linkExtra (s.remap.link room d) else 0xF
  put 15 12 (side 3) ||| put 11 8 (side 2) ||| put 7 4 (side 1) ||| put 3 0 (side 0)

/-- BRK_LANE_HOP of every Room of every Suite written from the SRVW pages (R562, R564). -/
def State.laneHops (s : State) : State :=
  (List.range 64).foldl (fun s i => match s.suite i with
    | some u => u.rooms.foldl (fun s r => s.wr (rp .brk r) 0x080 (s.laneHop r)) s
    | none => s) s

/-- The instance of a Corridor page after a remap: the physical Room keeps its page, under the logical index it now has (R23, R41). -/
def newInst (old : Option Masks) (new : Masks) (inst : Nat) : Nat :=
  let phys : Nat := if 0x8000 ≤ inst then inst - 0x8000 else match old with | some m => m.place inst | none => inst
  (new.logical phys).getD (0x8000 + phys)

/-- A key of a Corridor page of a Room, renamed. -/
def rekey (old : Option Masks) (new : Masks) (k : Nat) : Nat :=
  if 11 ≤ k / 2 ^ 32 ∧ k / 2 ^ 32 ≤ 15 then k / 2 ^ 32 * 2 ^ 32 + newInst old new (k % 2 ^ 32 / 2 ^ 12) * 2 ^ 12 + k % 2 ^ 12 else k

/-- Every Corridor register follows its physical Room. -/
def State.rekeyAll (s : State) (new : Masks) : State :=
  let old := if s.rim.mapOk then some s.remap else none
  let f (e : Nat × W64) : Nat × W64 := (rekey old new e.1, e.2)
  { s with
    regs := putRegs [] (s.regs.map f), armed := smSetAll 0 [] (s.armed.map f), injLat := smSetAll 0 [] (s.injLat.map f)
    remap := new
    rim := { s.rim with mapOk := true, rtOver := smSetAll none [] (s.rim.rtOver.map fun e => (rekey old new e.1, e.2)) } }

/-- SRVG_STATUS.DEGRADED and FENCED_ROW (R568). -/
def State.showFence (s : State) : State :=
  match s.remap.fence with
  | some f => s.wr srvg 0x080 (setBit (setFld (s.rd srvg 0x080) 54 52 f) 55)
  | none => s.wr srvg 0x080 (clrBit (setFld (s.rd srvg 0x080) 54 52 0) 55)

/-- The physical Wings whose tables differ between two remaps; a fence moves every logical Wing (R42, R560). -/
def Masks.changed (m n : Masks) : List Nat :=
  (List.range 64).filter fun w =>
    decide (m.fence ≠ n.fence) || decide (m.row w ≠ n.row w) || (List.range 16).any fun r => decide (m.col w r ≠ n.col w r)

/-- A remap applied to a running engine: Rooms that leave the mapping power off and those that join it power on, tables are written into the inactive
version and flipped with HOLD, and lane latencies follow.  The logical windows of the Wings it changes are dark until time passes (R42, R562, R564). -/
def State.applyRemap (s : State) (m : Masks) : State :=
  let dark := s.remap.changed m
  let moved := s.remap.rooms.filter fun r => decide (m.fence.isSome ∧ 14336 ≤ r) || decide (s.remap.place r ≠ m.place r)
  let on := moved.filter fun r => decide (s.pwrState r = 2)
  let ramp := moved.filter fun r => decide (s.pwrState r = 1)
  let s := (on ++ ramp).foldl (fun s r => s.roomOpen r 0) s
  let s := (s.rekeyAll m).showFence
  let s := on.foldl (fun s r =>
    if (s.suiteOf r).isSome ∧ s.roomExists r then ((s.loadRoom r).wr (pwr r) 0x080 (put 63 61 2 ||| put 60 58 4 ||| 1)).raise (pwr r) 0 false else s) s
  let s := ramp.foldl (fun s r => if (s.suiteOf r).isSome ∧ s.roomExists r then (s.loadRoom r).roomRamp r else s) s
  let s := (s.moveRails.rtInstall m).wrF (gp .halg) 0x080 2 2 1
  let s := s.startFlip.laneHops
  { s with rim := { s.rim with remapping := dark } }

/-- Masks given as 64 ROWMASKs and then 1024 COLMASKs; what the list does not reach is as before. -/
def maskList (old : Masks) (l : List Nat) (fence : Option Nat) : Masks :=
  { rows := smSetAll 0xFFFF [] ((List.range 64).map fun w => (w, l.getD w (old.row w)))
    cols := (List.range 1024).foldl (fun (c : SMap Nat) k => smSet (colDefault (k / 16)) c k (l.getD (64 + k) (old.col (k / 16) (k % 16)))) []
    fence }

/-! ### Fences -/

/-- The physical Wing rows that Wings asked to be fenced lie in. -/
def State.askedRows (s : State) : List Nat :=
  (List.range 8).filter fun row => (List.range 8).any fun x => decide (smGet 0 s.rim.fenceAsk (8 * row + x) ≠ 0)

/-- SRV_WING_FENCED (R566). -/
def State.wingFenced (s : State) (w : Nat) : State := s.srvgEvent 4 0x14 (smGet 0 s.rim.fenceAsk w) w false

/-- The Wings of a row that asked to be fenced, each with its event (R566). -/
def State.rowFenced (s : State) (row : Nat) : State :=
  (List.range 8).foldl (fun s x => if smGet 0 s.rim.fenceAsk (8 * row + x) = 0 then s else s.wingFenced (8 * row + x)) s

/-- A second row would need fencing at a restart: every Suite is reset, READY clears, and every restart in progress ends FAILED (R567). -/
def State.remapFail (s : State) : State :=
  let s := s.srvgEvent 6 0x16 0 0 false
  let live := (List.range 64).filter fun i => decide (0 < (s.restart i).st ∧ (s.restart i).st < 8)
  let s := (List.range 64).foldl (fun s i => if (s.suite i).isSome then s.suiteReset i else s) s
  (live.foldl (fun s i => s.restartFail i 6) s).wrF srvg 0x080 63 63 0

/-- Whether a fence at row f takes a Suite away (R569). -/
def Suite.cutBy (u : Suite) (f : Nat) : Bool := decide (u.sey = 7) || (decide (0 < f) && decide (u.nwy < f) && decide (f ≤ u.sey))

/-! ### The Suite table -/

/-- A Suite taken out of the table: its Rooms power off and its Wings return to 1.20 GHz (R27, R612). -/
def State.removeSuite (s : State) (i : Nat) : State :=
  match s.suite i with
  | none => s
  | some u =>
    let ws := s.suiteWings u
    let s := u.rooms.foldl (fun s r => if s.pwrState r = 1 ∨ s.pwrState r = 2 then s.roomOpen r 0 else s) s
    let s := { s with suites := smSet none s.suites i none }
    let s := { s with rim := { s.rim with restarts := smSet .idle s.rim.restarts i .idle, pchsBusy := if s.rim.pchsBusy = some i then none else s.rim.pchsBusy } }
    ws.foldl (fun s w => (s.wr (clkw w) 0x080 (setFld (s.rd (clkw w) 0x080) 63 56 48)).moveRail w 48) s

/-- PCHS_RESULT of a command that is refused (R612, R613). -/
def State.pchsRefuse (s : State) (i rule : Nat) : State := (s.wr (gp .pchs) 0x088 (put 53 48 i ||| put 7 0 rule)).raise (gp .pchs) 1 false

/-- The first rule of R26 that a DEFINE breaks; 0 for none (R612). -/
def State.defineRule (s : State) (i : Nat) (u : Suite) : Nat :=
  let rows := if s.remap.fence.isSome then 7 else 8
  if u.sex < u.nwx ∨ u.sey < u.nwy ∨ rows ≤ u.sey then 1
  else if (match s.remap.fence with | some f => decide (0 < f) && decide (u.nwy < f) && decide (f ≤ u.sey) | none => false) then 4
  else if (s.suite i).isSome then 3
  else if u.wings.any (fun w => (s.suiteOfWing w.1 w.2).isSome) then 2
  else 0

/-- DEFINE: the Suite's Wings are assigned, and every mapped Room of them starts to power, with what the Survey holds of it (R26, R612). -/
def execDefine (v : W64) (s : State) : Host.Outcome State Fault Refusal :=
  let i := fld v 53 48
  let u := Suite.fresh (fld v 14 12) (fld v 10 8) (fld v 6 4) (fld v 2 0)
  let rule := s.defineRule i u
  if s.rim.pchsBusy.isSome then .next (s.raise (gp .pchs) 1 false)
  else if rule ≠ 0 then .next (s.pchsRefuse i rule)
  else
    let s := s.setSuite i u
    let ws := s.suiteWings u
    let s := u.rooms.foldl (fun s r =>
      let w := s.wingOf r
      let s := (s.loadRoom r).wr (rp .brk r) 0x080 (s.laneHop r)
      if s.rdF (pwrw w) 0x080 63 61 = 2 ∧ s.pwrState r = 0 ∧ !s.rim.coolBad ∧ !s.isBad (s.physOf r) then s.roomRamp r else s) s
    let s := ws.foldl (fun s w => s.moveRail w 48) s
    let s := { s.wr (gp .pchs) 0x088 (put 63 63 1 ||| put 53 48 i) with rim := { s.rim with pchsBusy := some i } }
    .next s.defineTurn


/-- Whether the command stream of a Suite is halted: stopped with an error, or disabled with no entry in progress (R27, R265). -/
def State.streamHalted (s : State) (u : Suite) : Bool :=
  decide (s.rdF (rp .hrt u.lead) 0x0C0 17 16 = 3) || (!tst (s.rd (rp .hrt u.lead) 0x0A0) 63 && u.entries.isEmpty)

/-- DELETE: refused for an ID not defined, a Suite that breaks R27, and one in reset (R27, R612). -/
def execDelete (v : W64) (s : State) : Host.Outcome State Fault Refusal :=
  let i := fld v 53 48
  if s.rim.pchsBusy.isSome then .next (s.raise (gp .pchs) 1 false)
  else
    match s.suite i with
    | none => .next (s.pchsRefuse i 5)
    | some u =>
      if u.load.isSome ∨ s.suiteLoaded u ∨ !s.streamHalted u then .next (s.pchsRefuse i 6)
      else if u.inReset then .next (s.pchsRefuse i 7)
      else .next (((s.removeSuite i).wr (gp .pchs) 0x088 (put 53 48 i)).raise (gp .pchs) 0 false)

/-! ### REMAP -/

/-- The running stepped Suites in no restart whose Rooms' links a remap would change (R565). -/
def State.remapHits (s : State) (m : Masks) : List Nat :=
  (List.range 64).filter fun i =>
    match s.suite i with
    | some u => decide (u.run = 2) && decide (u.mode = 0) && decide ((s.restart i).st = 0) &&
        u.rooms.any fun r => (List.range 4).any fun d => decide (linkWord (s.remap.link r d) ≠ linkWord (m.link r d))
    | none => false

/-- Pending marks taken up at a remap stage, and the suspect steps of Rooms whose Suite is halted; the others stay pending (R173, R426, R558,
R576). -/
def State.takePending (s : State) : State :=
  let s := s.rim.badPend.foldl (fun s p => s.roomBad p) s
  let ready (p : Nat) : Bool := match s.logicalOf p with | some r => s.suiteIdle r | none => true
  let s := (s.rim.stepPend.filter ready).foldl (fun s p => s.suspectStep p) s
  { s with rim := { s.rim with badPend := [], stepPend := s.rim.stepPend.filter fun p => !ready p } }

/-- The remap stage ends: restarts that have halted await SWEEP_IN (R474). -/
def State.agree (s : State) : State :=
  (List.range 64).foldl (fun s i => if (s.restart i).st = 2 then s.setRestart i { s.restart i with st := 3 } else s) s

/-- The Suites that a new fence takes away (R569). -/
def State.cutSuites (s : State) (f : Nat) : State :=
  (List.range 64).foldl (fun s i =>
    match s.suite i with
    | some u =>
      if u.cutBy f then
        let live := decide ((s.restart i).st ≠ 0)
        let s := s.removeSuite i
        if live then s.restartFail i 6 else s
      else s
    | none => s) s

/-- SRV_REMAP_DONE with the time the remap took (R564, R575). -/
def State.remapDone (s : State) (us : Nat) : State :=
  ((s.wr srvg 0x0B0 (put 63 32 (s.rdF srvg 0x0B0 63 32 + 1) ||| put 31 0 us)).srvgEvent 5 0x15 0 0 false).survTouch true

/-- REMAP: the remap stage of a restart.  The working Survey is brought up to date; `masks` is what the solver found (R563), as 64 ROWMASKs and 1024
COLMASKs with only changed ones needed from the front, and `failed` is 1 more than a physical Wing row for which it found none, or 0.
What is not the solver's is not applied; a stepped Suite whose links it would change is halted first (R564, R565, R567, R569). -/
def execRemap (masks : List Nat) (failed us : Nat) (s : State) : Host.Outcome State Fault Refusal :=
  if !(List.range 64).any (fun i => decide ((s.restart i).st = 2)) then .next s
  else
    let s := s.takePending
    if failed ≠ 0 ∧ !s.rowNone (maskList s.remap masks s.remap.fence) (failed - 1) false anyMasks then .next s
    else
    let s := if failed = 0 then s else (List.range 8).foldl (fun s x => s.askFence (8 * (failed - 1) + x) 1) s
    let rows := s.askedRows.filter fun r => s.remap.fence ≠ some r
    let ovr := match s.remap.fence with | some _ => decide (0 < rows.length) | none => decide (1 < rows.length)
    if ovr then .next s.remapFail
    else
      let fence := match s.remap.fence with | some f => some f | none => rows.head?
      let m := maskList s.remap masks fence
      if !s.remapValid m ∨ !s.solved m then .next s
      else
        let hits := s.remapHits m
        if hits ≠ [] then .next (hits.foldl (fun s i => s.startJobHalt i (Page.srvg.cls * 256) s.et) s)
        else
          let s := match rows.head? with | some f => (s.rowFenced f).cutSuites f | none => s
          .next (if m = s.remap then s.agree else ((s.applyRemap m).remapDone us).agree)

end Sys2Proof.Machine
end

