-- ==== Sys2Proof/Machine/Bringup.lean ====
section
/-!
DEFINITION. Power-on, the steps of bring-up and their time limits, and House resets (R550 to R559, R588, R594, R601, R633).
-/

namespace Sys2Proof.Machine

/-! ### State of bring-up -/

/-- SRVG_STATUS.STATE: 0 standby, 1 booting, 2 bringing up, 3 ready, 4 FAILED, 5 RECOVERY (R576). -/
def State.srvState (s : State) : Nat := s.rdF srvg 0x080 62 60

/-- SRVG_STATUS.STEP (R576). -/
def State.bringStep (s : State) : Nat := s.rdF srvg 0x080 59 56

/-- A step of R550 begins. -/
def State.setStep (s : State) (n : Nat) : State :=
  (s.wrF srvg 0x080 59 56 n).wrF srvg 0x080 62 60 (if n ≤ 3 then 1 else 2)

/-- The time by which a step is done, in ms (R550). -/
def stepLimit (n : Nat) : Nat := [0, 100, 200, 3000, 5000, 6000, 7000, 10000, 11000, 40000, 41000, 75000, 85000, 90000].getD n 0

/-- ET periods of a number of ms. -/
def msToEt (n : Nat) : Nat := 156250 * n

/-- Bring-up ends FAILED with its cause (R552, R576). -/
def State.bringFail (s : State) (cause : Nat) : State :=
  let s := (s.wrF srvg 0x080 62 60 4).wrF srvg 0x080 39 32 cause
  s.srvgEvent 1 0x11 cause 0 false

/-- Wings that bring-up fences, each with its event; a second row ends bring-up (R566, R567). -/
def State.bringFence (s : State) (ws : List Nat) (cause : Nat) : State :=
  let s := ws.foldl (fun s w => (s.askFence (w % 64) cause).wingFenced (w % 64)) s
  if 1 < s.askedRows.length then s.bringFail 2 else s

/-- The fenced row so far. -/
def State.bringRow (s : State) : Option Nat := s.askedRows.head?

/-- Whether a physical Wing lies outside the fenced row. -/
def State.openWing (s : State) (w : Nat) : Bool := decide (s.bringRow ≠ some (w / 8))

/-! ### The steps -/

/-- Step 2: the references found good; bring-up without one ends with NO_REF (R533, R534). -/
def State.bring2 (s : State) (good : Nat) : State :=
  if good % 4 = 0 then s.bringFail 4
  else
    let w := setFld (s.rd clkg 0x080) 1 0 good
    let sel := fld w 4 4
    s.wr clkg 0x080 (setFld w 3 3 (if tst w sel then sel else 1 - sel))

/-- Step 3: slot A or B verifies and starts; with neither the engine enters RECOVERY (R551). -/
def State.bring3 (s : State) (a b : Bool) : State :=
  if a || b then s else s.wrF srvg 0x080 62 60 5

/-- Whether a Survey copy qualifies (R556). -/
def State.qualifies (s : State) (c : Option SurveyCopy) (verifies : Bool) : Bool :=
  match c with
  | some x => verifies && !s.rim.flash.distrust && decide (s.rim.flash.scnt ≤ x.gen + 1)
  | none => false

/-- The working Survey taken from a copy: Room records, weights, retirement lists and the history of the Wings (R555). -/
def State.takeSurvey (s : State) (c : SurveyCopy) (copyB : Bool) : State :=
  let st := s.rd srvg 0x080
  let st := setFld (setFld (setFld st 31 0 c.gen) 49 48 c.origin) 47 47 (b2n copyB)
  { s.wr srvg 0x080 st with
    regs := putRegs (s.wr srvg 0x080 st).regs (c.wings.filter fun e => decide (e.1 % 4096 = 0x088))
    rim := { s.rim with surv := c.recs, survInit := c.init, weights := c.weights, cellRemap := c.lists } }

/-- No copy qualifies: the Survey is rebuilt, with the IDLE and DMP_WEIGHT that Porch firmware holds (R559). -/
def State.rebuild (s : State) (idle : Nat) (weight : W64) : State :=
  let s := s.wr srvg 0x080 (setFld (setFld (s.rd srvg 0x080) 31 0 0) 49 48 2)
  { s with rim := { s.rim with
    surv := [], survInit := some (idle % 65536), weights := smSetAll 0 [] ((List.range 64).map fun w => (w, weight)), cellRemap := [], survNew := some s.et } }

/-- Step 4: the choice of a Survey copy.  An armed injection makes copy A fail its check; DISTRUST acts once (R556, R575, R577). -/
def State.bring4 (s : State) (okA okB : Bool) (idle : Nat) (weight : W64) : State :=
  let inj := s.isArmed srvg 3
  let s := if inj then s.disarm srvg 3 else s
  let a := s.qualifies s.rim.flash.survA (okA && !inj)
  let b := s.qualifies s.rim.flash.survB okB
  let gen (c : Option SurveyCopy) : Nat := match c with | some x => x.gen | none => 0
  let s := s.wr srvg 0x080 (setFld (setFld (s.rd srvg 0x080) 46 46 (b2n a)) 45 45 (b2n b))
  let s := { s with rim := { s.rim with flash := { s.rim.flash with distrust := false } } }
  if !a && !b then s.rebuild idle weight
  else
    let s := if a != b then s.srvgEvent 3 0x13 0 0 inj else s
    let useB := b && (!a || decide (gen s.rim.flash.survA < gen s.rim.flash.survB))
    match (if useB then s.rim.flash.survB else s.rim.flash.survA) with
    | some c => s.takeSurvey c useB
    | none => s

/-- Step 5: Chimneys regulate at the rail of RATE 48; one that does not fences its Wing (R550, R566). -/
def State.bring5 (s : State) (bad : List Nat) : State :=
  let s := (List.range 64).foldl (fun s w =>
    if bad.contains w then s else (s.wr (pwrw w) 0x080 (put 63 61 2)).wr (pwrw w) 0x088 (put 31 16 750 ||| put 15 0 750)) s
  s.bringFence bad 2

/-- Step 6: every Wing PLL locks core A at RATE 48 (R550, R566). -/
def State.bring6 (s : State) (bad : List Nat) : State :=
  let s := (List.range 64).foldl (fun s w => if bad.contains w then s else s.wr (clkw w) 0x080 (setBit (s.rd (clkw w) 0x080) (lockBit 0))) s
  s.bringFence bad 4

/-- Step 7: the Flue requirement is measured and FL set; seams are calibrated.  A requirement above 256 fences the row of the longest path, and the
requirement measured again is the second number (R309, R550, R566). -/
def State.bring7 (s : State) (req : Nat) (row : Nat) (again : Nat) (seams : List Nat) : State :=
  let s := if 256 < req then s.bringFence [8 * (row % 8)] 6 else s
  let n := if 256 < req then again else req
  if 256 < n then s.bringFail 2
  else
    let fl := max 128 (ceilDiv n 8 * 8)
    let s := { s.wrF (gp .flug) 0x080 15 0 fl with rim := { s.rim with flReq := n } }
    let s := (List.range 64).foldl (fun s w => [1, 2].foldl (fun s d =>
      if seams.contains (4 * w + d) then s else s.modSeam w d fun x => setFld (setBit x 15) 7 0 0x44) s) s
    s.bringFence (seams.map fun k => k / 4) 5

/-- Step 8: Rooms that the Survey does not mark bad are powered, every one when it is rebuilt; those whose decoder fails are bad (R550). -/
def State.bring8 (s : State) (bad : List Nat) : State :=
  let s := (bad.filter fun p => decide (p < 20736)).foldl (fun s p => s.roomBad p) s
  (List.range 20736).foldl (fun s p =>
    if s.isBad p || !s.openWing (physWing p) then s
    else
      let r0 := s.srvRd p 0x080
      let q := pwr (0x8000 + p)
      ((s.wr q 0x088 (put 15 8 (fld r0 39 32) ||| put 7 0 (fld r0 47 40))).wr q 0x080 (put 63 61 2 ||| put 60 58 4 ||| 1)).raise q 0 false) s

/-- What step 9 finds of a Room: the physical Room in bits 14:0, the bits of SRV_REC1 that failed in 29:16, a pass at the second try in 32 (R550,
R558, R559). -/
def State.bring9Room (s : State) (w : W64) : State :=
  let p := fld w 14 0
  let lost := fld w 29 16
  let s := if lost = 0 then s else (s.srvWr p 0x088 (s.srvRd p 0x088 &&& ~~~ (put 13 0 lost))).survTouch false
  let s := if s.rim.survInit.isSome && !s.health p 13 then s.roomBad p else s
  if tst w 32 then s.strike p else s

/-- Step 9: unit tests; two failures make a Room bad, and a rebuilt Survey is complete (R550, R559, R577). -/
def State.bring9 (s : State) (bad : List Nat) (found : List W64) : State :=
  let s : State := (bad.filter fun p => decide (p < 20736)).foldl (fun s p => s.roomBad p) s
  let s : State := (found.filter fun w => decide (fld w 14 0 < 20736)).foldl (fun s w => s.bring9Room w) s
  let s : State := { s with rim := { s.rim with struck := [] } }
  if decide (s.rdF srvg 0x080 49 48 = 2) && (!tst (s.rd srvg 0x080) 46) && (!tst (s.rd srvg 0x080) 45) then s.srvgEvent 2 0x12 0 0 false else s

/-- Step 10: the remap is solved, written into the inactive version and flipped, and every Room powers off.  `failed` is 1 more than a row for which there
is none, or 0; what is not the solver's is not taken (R550, R563, R566). -/
def State.bring10 (s : State) (failed : Nat) (masks : List Nat) : Option State :=
  if failed ≠ 0 ∧ !s.rowNone (maskList .whole masks s.bringRow) (failed - 1) false anyMasks then none
  else
  let s := if failed = 0 then s else s.bringFence ((List.range 8).map fun x => 8 * (failed - 1) + x) 1
  if s.srvState = 4 then some s
  else
    let m := maskList .whole masks s.bringRow
    if !s.remapValid m ∨ !s.solvedFull m then none
    else
      let s := (s.rekeyAll m).showFence
      let off (s : State) (inst : Nat) : State := s.wr (pwr inst) 0x080 0
      let s := m.rooms.foldl off s
      let s := ((List.range 20736).filter fun p => (m.logical p).isNone).foldl (fun s p => off s (0x8000 + p)) s
      some (s.rtInstall m).startFlip

/-- Step 11: stacks train; a channel that fails three times stays out of service, named by 32 × stack + channel, and one whose decoder fails its
self-test is out for good, named from 0x1000 on; the inspection set and the incident log are put in place (R419, R447,
R550). -/
def State.bring11 (s : State) (out : List Nat) : State :=
  let s := (List.range 48).foldl (fun s k => if s.fitted k then s.wr (celPage k) 0x080 (maskOf 63 63 ||| maskOf 31 0) else s) s
  let s := (out.filter fun k => s.fitted (k % 0x1000 / 32)).foldl (fun s k =>
    if k < 0x1000 then (s.channelDown (k / 32) (k % 32)).raise (celPage (k / 32)) 2 false
    else s.selftestFail (k % 0x1000 / 32) (k % 32) false) s
  let s := s.wr (gp .eccg) 0x088 0x16580BC000
  match s.rim.flash.insp with
  | some p => { s.wr cvug 0x090 (put 63 61 2 ||| put 31 0 p.version) with rim := { s.rim with insp := some p } }
  | none => s

/-- Step 12: the MAC addresses in module flash load (R373, R550). -/
def State.bring12 (s : State) : State :=
  (List.range 64).foldl (fun s k => s.wr ⟨.eav, k / 2⟩ (0x090 + 8 * (k % 2)) (smGet 0 s.rim.flash.macs k &&& maskOf 47 0)) s

/-- Step 13: the engine is ready; a Survey that has changed commits at once (R550, R575, R577). -/
def State.bring13 (s : State) : State :=
  let s := if s.rim.survNew.isSome then s.survTouch true else s
  let s := (s.wrF srvg 0x080 62 60 3).wrF srvg 0x080 63 63 1
  (s.wr srvg 0x0B8 (BitVec.ofNat 64 (ceilDiv s.et 156250))).srvgEvent 0 0x10 0 0 false

/-- What the present step does, with what the hardware found at it; none where it has not finished. -/
def State.bringWork (s : State) (ns : List Nat) (ws : List W64) : Option State :=
  let n (k : Nat) : Nat := ns.getD k 0
  match s.bringStep with
  | 1 => some s
  | 2 => some (s.bring2 (n 0))
  | 3 => some (s.bring3 (decide (n 0 ≠ 0)) (decide (n 1 ≠ 0)))
  | 4 => some (s.bring4 (decide (n 0 ≠ 0)) (decide (n 1 ≠ 0)) (n 2) (ws.getD 0 0))
  | 5 => some (s.bring5 ns)
  | 6 => some (s.bring6 ns)
  | 7 => some (s.bring7 (n 0) (n 1) (n 2) (ns.drop 3))
  | 8 => some (s.bring8 ns)
  | 9 => some (s.bring9 ns ws)
  | 10 => s.bring10 (n 0) (ns.drop 1)
  | 11 => some (s.bring11 ns)
  | 12 => some s.bring12
  | 13 => some s.bring13
  | _ => none

/-- Whether bring-up is under way. -/
def State.bringing (s : State) : Bool := decide (s.srvState = 1) || decide (s.srvState = 2)

/-- POWER_ON: the 48 V input enters its range with the module unpowered or in standby, and bring-up begins (R550, R592). -/
def execPowerOn (s : State) : Host.Outcome State Fault Refusal :=
  if s.srvState ≠ 0 ∨ s.bringStep ≠ 0 ∨ s.rim.pinLow then .next s
  else .next (({ s with et := 0, etPhase := 0, rim := { s.rim with powered := true, flash := { s.rim.flash with lastRst := 0 } } }.wr (gp .rstg) 0x0A0 0).setStep 1)

/-- BRINGUP_STEP: the present step finishes, and the next begins.  `ok` false is a failure of Porch firmware; `ns` and `ws` hold what the step found.  A
step past its time ends bring-up instead (R550, R576). -/
def execBringupStep (ok : Bool) (ns : List Nat) (ws : List W64) (s : State) : Host.Outcome State Fault Refusal :=
  if !s.bringing then .next s
  else if msToEt (stepLimit s.bringStep) < s.et then .next (s.bringFail 1)
  else if s.bringStep = 5 ∧ s.rim.jtag.drive ≠ 0 then .next s
  else if !ok then .next (s.bringFail 3)
  else
    match s.bringWork ns ws with
    | none => .next s
    | some t => .next (if t.bringing then t.setStep (t.bringStep + 1) else t)

/-- BRINGUP_TIMEOUT: the present step has not finished by its time (R550). -/
def execBringupTimeout (s : State) : Host.Outcome State Fault Refusal :=
  .next (if s.bringing ∧ msToEt (stepLimit s.bringStep) < s.et then s.bringFail 1 else s)

/-! ### House resets -/

/-- What a House reset leaves: flash, and, unless its source is PERST#, the PCIe link with the function's configuration; bring-up runs from step 2
(R588, R592, R594). -/
def State.houseReset (s : State) (src : Nat) : State :=
  if !s.rim.powered then s
  else
  let t := s.coldModule
  let t := { t with rim := { t.rim with flash := { t.rim.flash with lastRst := src }, jtag := s.rim.jtag } }
  let t := t.wr (gp .rstg) 0x0A0 (BitVec.ofNat 64 src)
  let t := if src = 4 then t
    else { t.wr (gp .pch) 0x0A8 (s.rd (gp .pch) 0x0A8) with rim := { t.rim with bme := s.rim.bme, msixTab := s.rim.msixTab, pba := s.rim.pba } }
  if s.rim.pinLow then { t with rim := { t.rim with pinLow := true } } else t.setStep 2

/-- HOUSE_RESET: a write of RSTG_HOUSE; only the key resets, after the pending Survey changes have been committed (R588, R592). -/
def execHouseReset (v : W64) (s : State) : Host.Outcome State Fault Refusal :=
  if fld v 15 0 ≠ 0x4853 then .next ((s.capture (gp .rstg) 0x0A8 (put 63 56 0x11)).raise (gp .rstg) 1 false)
  else
    let s := if s.rim.survNew.isSome then s.surveyCommit else s
    .next (s.houseReset 1)

/-- RESET_PIN: RESET# has been low for 10 µs; the module stays in standby until it rises (R588, R633). -/
def execResetPin (s : State) : Host.Outcome State Fault Refusal :=
  if s.rim.pinLow then .next s
  else
    let s := { s with rim := { s.rim with pinLow := true } }
    .next (s.houseReset 2)

/-- RESET_PIN_RISE: RESET# rises, and bring-up resumes from step 2, its limits counted from here (R588, R633). -/
def execResetPinRise (s : State) : Host.Outcome State Fault Refusal :=
  if !s.rim.pinLow then .next s
  else .next ({ s with et := 0, etPhase := 0, rim := { s.rim with pinLow := false } }.setStep 2)

/-- PERST: a House reset that also resets the PCIe link (R578, R588, R594). -/
def execPerst (s : State) : Host.Outcome State Fault Refusal := .next (s.houseReset 4)

/-- PORCH_WATCHDOG: Porch firmware has not serviced its watchdog for 2 s (R601). -/
def execPorchWatchdog (s : State) : Host.Outcome State Fault Refusal := .next (s.houseReset 3)

end Sys2Proof.Machine
end

