-- ==== Sys2Proof/Machine/HearthCtl.lean ====
section
/-!
DEFINITION. Starting and halting a Hearth (R240, R265).
-/

namespace Sys2Proof.Machine

/-- The HRT page of a Room. -/
def hrt (room : Nat) : PageRef := rp .hrt room

/-- The Hearth of a Room. -/
def State.hearth (s : State) (room : Nat) : Hearth := (s.room room).hearth

/-- A change of a Hearth. -/
def State.modHearth (s : State) (room : Nat) (f : Hearth → Hearth) : State := s.modRoom room fun r => { r with hearth := f r.hearth }

/-- The Hearth starts in Machine mode at HRT_BOOT with its integer registers zero; replies to what it asked before are no longer taken
(R240). -/
def State.hearthGo (s : State) (room : Nat) : State :=
  let s := { s with outst := s.outst.filter fun o =>
    match o.use with
    | .hearthLoad r _ _ _ _ _ => decide (r ≠ room)
    | .hearthAmo r _ _ _ => decide (r ≠ room)
    | .hearthWait r _ => decide (r ≠ room)
    | _ => true }
  s.modHearth room fun h =>
    { h with x := [], pc := BitVec.ofNat 64 (shelfEA room (s.rdF (hrt room) 0x088 21 2 * 4)), machine := true, resv := none, run := true, block := .no }

/-- The Hearth halts at the next instruction boundary; a blocked Xhearth instruction is abandoned: the entry of a CS.EXEC that is not yet issued is
dropped, and one that has begun ends without effect on the Hearth (R240). -/
def State.hearthStop (s : State) (room : Nat) : State :=
  ((s.hearthUnwait room).hearthHold room).modHearth room fun h => { h with run := false }

/-- A write of HRT_CTRL (R240, R265). -/
def State.hearthCtrl (s : State) (room : Nat) (v : W64) : State :=
  if s.dark room then s
  else
    let was := tst (s.rd (hrt room) 0x080) 0
    let s := s.wr (hrt room) 0x080 (v &&& maskOf 1 0)
    if tst v 0 && !was then s.hearthGo room else if !tst v 0 && was then s.hearthStop room else s

/-- HEARTH_START: HRT_CTRL written with RUN set (R240). -/
def execHearthStart (room : Nat) (xu : Bool) (s : State) : Host.Outcome State Fault Refusal :=
  .next (s.hearthCtrl room (put 1 1 (b2n xu) ||| put 0 0 1))

/-- HEARTH_HALT: HRT_CTRL written with RUN clear (R240). -/
def execHearthHalt (room : Nat) (xu : Bool) (s : State) : Host.Outcome State Fault Refusal :=
  .next (s.hearthCtrl room (put 1 1 (b2n xu)))

end Sys2Proof.Machine
end

