-- ==== Sys2Proof/Machine/DebugSweep.lean ====
section
/-!
DEFINITION. The debug Sweep and the trigger inputs (R622 to R624).

An image is kept, as those of checkpoints are, as the state it stands for; an image that no debug Sweep wrote is taken from its bytes, of which the
parts whose layout R459 leaves open are free (`imageRoom`).
-/

namespace Sys2Proof.Machine

/-- DBG_LOCK (R617). -/
def State.dbgLocked (s : State) : Bool := tst (s.rd (gp .pch) 0x0B0) 0

/-- What R624 asks of a debug Sweep: COUNT Rooms that exist, all of one Suite, which is halted or holds no arrangement. -/
def State.dbgSweepOk (s : State) (v : W64) : Bool :=
  let first := fld v 45 32
  let n := fld v 14 0
  match s.suiteOf first with
  | none => false
  | some i =>
    decide (1 ≤ n) && decide (n ≤ 16384) && ((List.range n).all fun k => s.roomExists (first + k) && decide (s.suiteOf (first + k) = some i)) &&
      (match s.suite i with | some u => decide (u.run = 0) || decide (u.run = 4) | none => false)

/-- A write of DBG_SWEEP_CMD (R624, R629). -/
def State.dbgSweepCmd (s : State) (v : W64) : State :=
  let w := v &&& (maskOf 63 62 ||| maskOf 45 32 ||| maskOf 14 0)
  if !tst v 63 then (if tst (s.rd dbg 0x0B0) 63 then s else s.wr dbg 0x0B0 w)
  else if tst (s.rd dbg 0x0B0) 63 ∨ !s.dbgSweepOk v then s.dbgFail (fld v 45 32) 4 false
  else s.wr dbg 0x0B0 w

/-- EA of the image of the k-th Room of a debug Sweep; none where it is not whole in a Cellar stack (R459, R624). -/
def State.dbgImage (s : State) (k : Nat) : Option Nat :=
  let a := s.rdF dbg 0x0B8 47 0 + k * imageBytes
  match s.decodeEa a, s.decodeEa (a + imageBytes - 1) with
  | .cellar x _, .cellar y _ => if x = y then some a else none
  | _, _ => none

/-- A debug Sweep-out of the Rooms from the k-th on; `bad` is the one whose image the Cellar does not take. -/
def State.dbgOut (s : State) (bad : Nat) : Nat → List Nat → State
  | _, [] => (s.wrF dbg 0x0B0 63 63 0).raise dbg 2 false
  | k, r :: l =>
    match s.dbgImage k with
    | none => (s.wrF dbg 0x0B0 63 63 0).dbgFail r 2 false
    | some a =>
      if k = bad then (s.wrF dbg 0x0B0 63 63 0).dbgFail r 2 false
      else
        let crc := Config.freeAt s.free (2 ^ 40 + k)
        let img := s.takeImage r crc
        let t := s.storeAt a (k * imageBytes) r crc
        State.dbgOut { t with rim := { t.rim with dbgImgs := smSet none t.rim.dbgImgs a (some (r, img)) } } bad (k + 1) l

/-- An image made to name another Room. -/
def RoomImg.move (m : RoomImg) (from_ dest : Nat) : RoomImg :=
  { m with regs := m.regs.map fun e => (e.1 + dest * 4096 - from_ * 4096, e.2)
           bricks := m.bricks.map fun e => (e.1 + dest * 64 - from_ * 64, e.2) }

/-- The image a debug Sweep-in restores to a Room from an EA: the one a debug Sweep-out left there, or else what the bytes there say (R459, R624). -/
def State.dbgImgAt (s : State) (room a : Nat) : RoomImg :=
  match smGet none s.rim.dbgImgs a with
  | some (from_, img) => img.move from_ room
  | none => s.imageAt room a

/-- A debug Sweep-in of the Rooms from the k-th on; `bad` is the one whose image cannot be read, `crc` the first whose ROOM_CRC differs, and
`inj` says that the first check is made to fail (R624, R630). -/
def State.dbgIn (s : State) (bad crc : Nat) (inj : Bool) : Nat → List Nat → State
  | _, [] => (s.wrF dbg 0x0B0 63 63 0).raise dbg 2 false
  | k, r :: l =>
    match s.dbgImage k with
    | none => (s.wrF dbg 0x0B0 63 63 0).dbgFail r 2 false
    | some a =>
      if k = bad then (s.wrF dbg 0x0B0 63 63 0).dbgFail r 2 false
      else if inj then (s.wrF dbg 0x0B0 63 63 0).dbgFail r 3 true
      else if k = crc then (s.wrF dbg 0x0B0 63 63 0).dbgFail r 3 false
      else State.dbgIn (s.putImage r (s.dbgImgAt r a)) bad crc false (k + 1) l

/-- DEBUG_SWEEP_OUT: the Sweep-out that DBG_SWEEP_CMD started is performed (R624). -/
def execDebugSweepOut (bad : Nat) (s : State) : Host.Outcome State Fault Refusal :=
  if tst (s.rd dbg 0x0B0) 62 then .next s
  else
    match s.dbgRooms with
    | [] => .next s
    | l => .next ({ (s.dbgOut bad 0 l) with free := s.free + 1 })

/-- DEBUG_SWEEP_IN (R624). -/
def execDebugSweepIn (bad crc : Nat) (s : State) : Host.Outcome State Fault Refusal :=
  if !tst (s.rd dbg 0x0B0) 62 then .next s
  else
    match s.dbgRooms with
    | [] => .next s
    | l =>
      let inj := s.isArmed dbg 3
      .next ((if inj then s.disarm dbg 3 else s).dbgIn bad crc inj 0 l)

/-- A rising edge seen by a trigger input (R623). -/
def State.trigEdge (s : State) (i : Nat) (injected : Bool) : State :=
  let w := s.rd dbg (0x0A0 + 8 * i)
  if s.dbgLocked ∨ fld w 63 62 ≠ 3 then s
  else
    let s := s.raise dbg 0 injected
    match s.suite (fld w 59 54) with
    | none => s
    | some u =>
      if u.run ≠ 2 then s
      else
        match fld w 61 60 with
        | 1 => s.stallReq (fld w 59 54) 4 hostSrc 0
        | 2 => s.sendHalt (fld w 59 54) u.lead 15 0x1B01
        | _ => s

/-- TRIG_INPUT: a rising edge of TRIG0 or TRIG1 that stays high for at least 50 ns (R623); a gated multiplexer sees none. -/
def execTrigInput (pin : Nat) (s : State) : Host.Outcome State Fault Refusal :=
  if tst (s.rd (gp .clkg) 0x090) 9 then .next (s.trigEdge (pin % 2) false) else .next s

end Sys2Proof.Machine
end

