-- ==== Sys2Proof/Machine/RegView.lean ====
section
/-!
DEFINITION. The BAR0 map and what a register reads as: registers that show the state of a unit are computed from that state (R38 to R42, R74 to
R78, R198 to R200, R264, R270, R301, R330 to R334, R572 to R575, R602 to R613).
-/

namespace Sys2Proof.Machine

/-! ### The BAR0 map -/

/-- A place in BAR0: a page, the window it is reached by as SCOPE and INSTANCE of PAGE_ID give it, and the offset within the page (R603). -/
structure BarAt where
  page  : PageRef
  scope : Nat
  inst  : Nat
  off   : Nat
  deriving DecidableEq, Repr

/-- The page at 4 KiB block `n` of the engine-global range (R605). -/
def globalPage (n : Nat) : Option PageRef :=
  let run (lo k : Nat) (p : Page) : Option PageRef := if lo ≤ n ∧ n < lo + k then some ⟨p, n - lo⟩ else none
  match n with
  | 0x000 => some (gp .pch) | 0x001 => some (gp .pchs) | 0x002 => some (gp .pche) | 0x012 => some (gp .gpio) | 0x013 => some (gp .tim)
  | 0x01A => some ⟨.peri, 10⟩ | 0x100 => some (gp .halg) | 0x101 => some (gp .flug) | 0x580 => some (gp .yzlg) | 0x600 => some (gp .cvug)
  | 0x780 => some (gp .eccg) | 0x800 => some (gp .swpg) | 0x880 => some (gp .dmpg) | 0x900 => some (gp .pwrg) | 0x980 => some (gp .clkg)
  | 0xA00 => some (gp .srvg) | 0xA80 => some (gp .rstg) | 0xB00 => some (gp .dbg)
  | _ =>
    ((((((((run 0x010 9 .peri).orElse fun _ => run 0x102 2 .lchg).orElse fun _ => run 0x200 48 .cel).orElse fun _ => run 0x300 32 .chu).orElse
      fun _ => run 0x400 32 .eav).orElse fun _ => run 0x500 32 .yzl).orElse fun _ => run 0x610 192 .cvux).orElse fun _ => run 0x700 48 .eccc)

/-- The page in a slot of a Wing window (R39). -/
def wingPage : Nat → Option Page
  | 0 => some .clkw | 1 => some .pwrw | 2 => some .dmpw | 3 => some .srvw | 4 => some .halw | _ => none

/-- The page in a slot of a logical Room window (R40). -/
def roomPage : Nat → Page
  | 0 => .brk | 1 => .arr | 2 => .shf | 3 => .dwt | 4 => .hrt | 5 => .chn | 6 => .stp | 7 => .lch | 8 => .ecc | 9 => .swp | 10 => .dmp
  | 11 => .hal | 12 => .flu | 13 => .cvu | 14 => .pwr | _ => .rst

/-- The decoding of a BAR0 offset; none for a reserved one, and for the MSI-X table and PBA, which are no pages (R25, R38 to R41, R605). -/
def State.decodeBar0 (s : State) (a : Nat) : Option BarAt :=
  let off := a % 0x1000
  let slot := a / 0x1000 % 16
  if a < 0x01000000 then (globalPage (a / 0x1000)).map fun p => ⟨p, 0, p.inst, off⟩
  else if a < 0x01400000 then
    let w := (a - 0x01000000) / 0x10000
    (wingPage slot).map fun p => ⟨⟨p, w⟩, 1, w, off⟩
  else if a < 0x40000000 then none
  else if a < 0x80000000 then
    let r := (a - 0x40000000) / 0x10000
    if s.rim.mapOk ∧ s.roomExists r then some ⟨rp (roomPage slot) r, 2, r, off⟩ else none
  else if a < 0xD1000000 then
    let p := (a - 0x80000000) / 0x10000
    if 20736 ≤ p then none else some ⟨if slot = 0 then srv p else rp (roomPage slot) (s.corridorInst p), 3, p, off⟩
  else none

/-- The physical Wing that answers for a Room page (R595). -/
def PageRef.wing (s : State) (p : PageRef) : Nat :=
  if p.page = .srv then physWing p.inst else if p.inst < 0x8000 then s.wingOf p.inst else physWing (p.inst - 0x8000)

/-- Whether no decoder answers: a Room page of a Wing whose Chimney does not regulate or whose clock has stopped (R519, R539, R595). -/
def State.silent (s : State) (p : PageRef) : Bool :=
  p.page.inRoom && (decide (s.rdF (pwrw (p.wing s)) 0x080 63 61 ≠ 2) || decide (smGet 0 s.rim.clkStop (p.wing s) ≠ 0))

/-- Whether a Room-domain page reads as a dark Room's: its Room is off, in reset, or holds no logical Room (R22, R41). -/
def State.darkPage (s : State) (p : PageRef) : Bool := p.page.roomDomain && (decide (0x8000 ≤ p.inst) || s.dark p.inst)

/-- Whether a place reads as a dark Room's: its page is dark, or it is reached by the logical window of a Wing that is being remapped (R22, R42). -/
def State.darkAt (s : State) (a : BarAt) : Bool :=
  s.darkPage a.page || (a.page.page.roomDomain && decide (a.scope = 2) && s.rim.remapping.contains (s.wingOf a.inst))

/-- Whether the engine answers at a place at all in its present STATE: in RECOVERY only PCH; from a House reset until Porch firmware runs only
SRVG_STATUS and RSTG (R588, R598). -/
def State.answers (s : State) (a : BarAt) : Bool :=
  let st := s.rdF (gp .srvg) 0x080 62 60
  if st = 5 then decide (a.page = gp .pch)
  else if st ≤ 1 then (decide (a.page = gp .srvg) && decide (a.off = 0x080)) || decide (a.page = gp .rstg)
  else true

/-! ### Events -/

/-- STATUS.PENDING (R602). -/
def State.pending? (s : State) (p : PageRef) : Bool := !s.darkPage p && !s.gated p && decide (s.rd p 0x028 &&& s.rd p 0x030 ≠ 0)

/-- STATUS (R602). -/
def State.status (s : State) (p : PageRef) : W64 :=
  put 63 63 (b2n (s.pending? p)) ||| put 62 62 (b2n (decide (smGet 0 s.injLat (pageKey p) &&& s.rd p 0x028 ≠ 0)))

/-- EVENT bits cleared; INJECTED falls once every bit that an injected occurrence latched is clear (R602, R604). -/
def State.eventClear (s : State) (p : PageRef) (v : W64) : State :=
  let s := s.wr p 0x028 (s.rd p 0x028 &&& ~~~ v)
  { s with injLat := smSet 0 s.injLat (pageKey p) (smGet 0 s.injLat (pageKey p) &&& s.rd p 0x028) }

/-- WIN_SUM of the window a page was reached by (R602). -/
def State.winSum (s : State) (a : BarAt) : W64 :=
  let bits (f : Nat → Bool) : W64 := ofLanes 1 ((List.range 16).map fun k => b2n (f k))
  if a.scope = 0 then 0
  else if a.scope = 1 then bits fun k => match wingPage k with | some p => s.pending? ⟨p, a.inst⟩ | none => false
  else bits fun k => if k = 0 ∧ a.scope = 3 then false else s.pending? (rp (roomPage k) (if a.scope = 3 then s.corridorInst a.inst else a.inst))

/-- The pages that report an event to the tree: STATUS.PENDING set and CTRL.MASK clear (R608). -/
def State.pendingPages (s : State) : List PageRef :=
  s.regs.filterMap fun e =>
    if e.1 % 4096 ≠ 0x028 then none
    else
      match allPages[e.1 / 2 ^ 32]? with
      | none => none
      | some pg =>
        let p : PageRef := ⟨pg, e.1 % 2 ^ 32 / 4096⟩
        if s.pending? p ∧ !tst (s.rd p 0x018) 63 then some p else none

/-- The physical Room of a Room page. -/
def PageRef.phys (s : State) (p : PageRef) : Nat :=
  if p.page = .srv then p.inst else if p.inst < 0x8000 then s.physOf p.inst else p.inst - 0x8000

/-- The slot of a Wing page (R39). -/
def Page.wingSlot : Page → Option Nat
  | .clkw => some 0 | .pwrw => some 1 | .dmpw => some 2 | .srvw => some 3 | .halw => some 4 | _ => none

/-- PCHE_WSUM of a Wing (R611). -/
def State.wSum (s : State) (w : Nat) : W64 :=
  let ps := s.pendingPages
  let pages := (ps.filter fun p => p.inst = w).filterMap fun p => p.page.wingSlot
  let rooms := ((ps.filter fun p => p.page.inRoom && decide (p.wing s = w)).map fun p => p.phys s).eraseDups
  if pages = [] ∧ rooms = [] then 0
  else put 63 63 1 ||| put 52 48 ((pages.eraseDups.map fun k => 2 ^ k).sum) ||| put 47 32 rooms.length ||| put 14 0 ((rooms.min?).getD 0)

/-- Whether a source of the event tree is pending: Wings by physical index, then 64 KiB blocks of the engine-global range (R608, R609). -/
def State.srcPending (s : State) (src : Nat) : Bool :=
  if src < 64 then tst (s.wSum src) 63
  else s.pendingPages.any fun p => !p.page.inRoom && p.page.wingSlot.isNone && decide (p.bar0Page / 16 = src - 64)

/-- Sixty-four sources of the event tree as bits. -/
def State.srcBits (s : State) (lo : Nat) : W64 := ofLanes 1 ((List.range 64).map fun i => b2n (s.srcPending (lo + i)))

/-! ### Views -/

/-- BRK_STATUS (R77).  STATE of a Brick that neither issued last cycle nor waits is open. -/
def State.brkStatus (s : State) (room b : Nat) : W64 :=
  let x := s.brickSeen room b
  let st : Nat :=
    match (s.suiteOf room).bind s.suite with
    | none => 0
    | some u =>
      if !(s.room room).hasArr then 0
      else if u.run = 4 then 6
      else if x.err then 5
      else if u.run = 2 ∧ (u.freezeCause u.clk).isSome then 4
      else if x.wfor ≠ 0 then x.wfor
      else match x.issued with
        | some t => if u.now ≤ t + 1 then 1 else fld (Config.freeAt s.free b) 2 0
        | none => fld (Config.freeAt s.free b) 2 0
  put 63 60 (x.iqOf 0).length ||| put 59 56 (x.iqOf 1).length ||| put 55 52 (x.iqOf 2).length ||| put 51 48 (x.iqOf 3).length
    ||| put 47 45 (x.oqOf 0).length ||| put 44 42 (x.oqOf 1).length ||| put 41 40 x.active ||| put 39 35 (x.ctx x.active).ip ||| put 34 32 st

/-- BRK_WIN (R78). -/
def Brick.winRead (x : Brick) (space k : Nat) : W64 :=
  if space = 0 ∧ k < 32 then x.reg k
  else if space = 1 ∧ k < 64 then put 31 0 (x.accOf (2 * k)).toNat ||| put 63 32 (x.accOf (2 * k + 1)).toNat
  else if space = 2 then x.cubbyOf k
  else if space = 3 ∧ k < 132 then (if k % 33 = 32 then x.laneSet (k / 33) else (x.ctx (k / 33)).word (k % 33))
  else if space = 4 ∧ k < 96 then
    match (if k / 16 < 4 then x.iqOf (k / 16) else x.oqOf (k / 16 - 4))[k % 16 / 2]? with
    | none => 0
    | some t => if k % 2 = 0 then t.tok.data else put 63 63 1 ||| put 62 62 (b2n t.tok.void) ||| put 61 60 t.tok.tag ||| put 59 52 t.tok.check.toNat
  else 0

/-- ARR_STATE (R199). -/
def State.arrState (s : State) (room : Nat) : W64 :=
  let r := s.room room
  let valid := (List.range 4).filter fun k => ((s.brick room 0).ctx k).valid
  let base := put 31 24 r.checkIdx ||| put 11 8 ((valid.map fun k => 2 ^ k).sum)
  match (s.suiteOf room).bind s.suite with
  | none => base ||| put 18 16 7
  | some u =>
    let cause := if u.run = 2 then u.freezeCause u.clk else none
    let loading := (((List.range 4).filter fun k => s.slotLoading u room k).map fun k => 2 ^ k).sum
    let full := match u.load with | some l => decide (l.slot = 15) && decide (l.c ≤ u.now) | none => false
    base ||| put 18 16 (cause.getD 7) ||| put 15 12 loading ||| put 7 5 (if full then 5 else if !r.hasArr then 0 else if u.run = 2 ∧ cause.isSome then 3 else u.run) ||| put 4 4 u.mode

/-- Whether a Stock accumulator of a Brick has flag `k`: overflow, underflow, NaN, plus and minus infinity (R139, R198). -/
def StkFlags.nth (f : StkFlags) : Nat → Bool
  | 0 => f.ovf | 1 => f.unf | 2 => f.nan | 3 => f.pinf | _ => f.ninf

/-- Registers of the ARR page that show the Suite's run (R187, R190, R198, R200). -/
def State.arrView (s : State) (room off : Nat) : W64 :=
  if off = 0x080 then s.arrState room
  else if 0x100 ≤ off ∧ off < 0x128 then
    ofLanes 1 ((List.range 64).map fun b => b2n ((List.range 32).any fun i => ((s.brickSeen room b).flagsOf i).nth ((off - 0x100) / 8)))
  else if 0x800 ≤ off then ((s.brick room ((off - 0x800) / 8 % 64)).ctx ((off - 0x800) / 512)).fire
  else
    match (s.suiteOf room).bind s.suite with
    | none => 0
    | some u =>
      let stall (c : Nat) : W64 := smGet 0 u.stall c
      if off = 0x088 then u.step
      else if off = 0x090 then u.cycle
      else if off = 0x098 then put 31 16 s.fl ||| put 15 8 (s.fmin u) ||| put 7 0 u.rate
      else if off = 0x0A0 then u.seed
      else if off = 0x178 then (if u.mode = 0 then (List.range 7) else [0, 1, 4, 5]).foldl (fun t c => t + stall c) 0
      else if off = 0x180 then u.runs
      else if u.mode ≠ 0 ∧ (off = 0x150 ∨ off = 0x158) then stall (16 + 4 * room + (off - 0x140) / 8)
      else stall ((off - 0x140) / 8)

/-- HRT_STATUS (R265). -/
def State.hrtStatus (s : State) (room : Nat) : W64 :=
  let h := s.hearth room
  let st := if !h.run then 0 else match h.block with | .latch => 2 | .dwWait _ _ _ _ => 2 | .exec _ => 2 | .wfi => 3 | _ => 1
  put 63 61 st ||| put 47 0 h.pc.toNat

/-- A word of a Shelf as the Room's own decoder reads it: zero from a dark quarter (R213). -/
def State.shelfPeek (s : State) (room off : Nat) : W64 :=
  if off < 0x300000 ∧ s.quarterOn room (shelfQuarter off) then s.ldWord (shelfEA room off) else 0

/-- A Latch as LCH_STATE and LCH_VIEW show it (R333, R334). -/
def Latch.stateWord (l : Latch) : W64 :=
  put 63 48 l.gen ||| put 47 24 l.value ||| put 23 23 (b2n l.flag) ||| put 14 8 l.waits.length
    ||| put 7 0 ((List.range 128).filter fun k => l.arrived.testBit k).length
def Latch.viewWord (l : Latch) (w : Nat) : W64 :=
  let n := if w / 2 = 0 then l.mask else if w / 2 = 1 then l.arrived else l.early
  BitVec.ofNat 64 (if w % 2 = 0 then n else n / 2 ^ 64)

/-- FLG_STATE and FLG_REMOTE of a global Latch (R334). -/
def Latch.flgState (l : Latch) : W64 := put 63 48 l.gen ||| put 47 24 l.value ||| put 1 1 (b2n l.flag)
def Latch.flgRemote (l : Latch) : W64 := put 47 24 l.early ||| put 23 0 l.arrived

/-- HAL_STATUS (R302). -/
def State.halStatus (s : State) (room : Nat) : W64 :=
  put 31 16 (s.oldPkts.filter fun f => f.room = room).length ||| put 0 0 s.rtActive

/-- PWR_ROOM: HELD in place of OFF for a Room that no Suite may power (R24, R27, R529). -/
def State.pwrRoom (s : State) (room : Nat) : W64 :=
  let w := s.rd (pwr room) 0x080
  if fld w 63 61 = 0 ∧ s.pwrHeld room then setFld w 63 61 4 else w

/-- RST_STATUS: 3 for a Room whose domain is off (R590). -/
def State.rstStatus (s : State) (room : Nat) : W64 :=
  let w := s.rd (rst room) 0x088
  if fld w 63 61 = 0 ∧ !s.roomOn room then setFld w 63 61 3 else w

/-- SRVW_STATE and SRVW_COL (R560, R574). -/
def State.srvwView (s : State) (w off : Nat) : W64 :=
  if !s.rim.mapOk then 0
  else if off = 0x080 then
    (if s.remap.fence = some (w / 8) then put 63 63 1 ||| put 59 56 (smGet 0 s.rim.fenceAsk w) else 0) ||| put 17 0 (s.remap.row w)
  else put 17 0 (s.remap.col w ((off - 0x100) / 8))

/-- PCHS_DEF and PCHS_WING (R613). -/
def State.pchsView (s : State) (off : Nat) : W64 :=
  if off < 0x300 then
    match s.suite ((off - 0x100) / 8) with
    | none => 0
    | some u => put 63 63 1 ||| put 45 32 u.lead ||| put 14 12 u.nwx ||| put 10 8 u.nwy ||| put 6 4 u.sex ||| put 2 0 u.sey
  else
    let w := (off - 0x300) / 8
    match s.suiteOfWing (w % 8) (w / 8) with | none => 0 | some i => put 63 63 1 ||| put 5 0 i

/-- A register that shows the state of its unit; none for one that the page itself holds. -/
def State.view (s : State) (p : PageRef) (off : Nat) : Option W64 :=
  let i := p.inst
  match p.page with
  | .brk =>
    if 0x100 ≤ off ∧ off < 0x300 then some (s.brkStatus i ((off - 0x100) / 8))
    else if 0x800 ≤ off then some ((s.brickSeen i (s.rdF p 0x088 13 8)).winRead (s.rdF p 0x088 2 0) ((off - 0x800) / 8))
    else none
  | .arr => if off = 0x080 ∨ off = 0x088 ∨ off = 0x090 ∨ off = 0x098 ∨ off = 0x0A0 ∨ 0x100 ≤ off then some (s.arrView i off) else none
  | .dwt =>
    if off = 0x080 then
      some (put 15 8 (((List.range 8).filter fun q => smGet [] (s.room i).dw q ≠ []).map fun q => 2 ^ q).sum
        ||| put 7 0 (((List.range 8).filter fun q => s.dwRuns i q).map fun q => 2 ^ q).sum)
    else none
  | .hrt => if off = 0x090 then some (s.hrtStatus i) else none
  | .chn =>
    if 0x800 ≤ off ∧ 16 ≤ off % 32 then some (s.shelfPeek i (s.ringHeadOff i ((off - 0x800) / 32) + off % 16)) else none
  | .stp =>
    if 0x800 ≤ off ∧ 0x20 ≤ off % 64 ∧ off % 64 < 0x38 then some (s.shelfPeek i (s.stpBase i ((off - 0x800) / 64) + (off % 64 - 0x20))) else none
  | .lch =>
    if 0x0C8 ≤ off ∧ off < 0x0F8 then some ((s.latch i (s.rdF p 0x0C0 5 0)).viewWord ((off - 0x0C8) / 8))
    else if 0x400 ≤ off ∧ off % 16 = 8 then some (s.latch i ((off - 0x400) / 16)).stateWord
    else none
  | .lchg =>
    if 0x400 ≤ off then
      let l := s.gl (128 * i + (off - 0x400) / 24)
      if (off - 0x400) % 24 = 8 then some l.flgState else if (off - 0x400) % 24 = 16 then some l.flgRemote else none
    else none
  | .hal => if off = 0x080 then some (s.halStatus i) else if (rtVersion off).isSome then some (s.rtWord i off) else none
  | .flu => if off = 0x080 then some (s.rd (gp .flug) 0x080) else none
  | .flug =>
    if off = 0x088 then some (BitVec.ofNat 64 s.et)
    else if off = 0x090 then
      some (ofLanes 1 ((List.range 64).map fun k => b2n (match s.suite k with | some u => decide (u.run = 4) | none => false)))
    else none
  | .pwr => if off = 0x080 then some (s.pwrRoom i) else none
  | .rst => if off = 0x088 then some (s.rstStatus i) else none
  | .srv =>
    if off = 0x080 then some (s.srvRec0 i) else if off = 0x0A0 then some (s.srvMap i) else if off ≤ 0x098 then some (s.srvRd i off) else none
  | .srvw => if off = 0x080 ∨ 0x100 ≤ off then some (s.srvwView i off) else none
  | .srvg => if off = 0x098 then some (BitVec.ofNat 64 s.phours) else none
  | .pch =>
    if off = 0x080 then some (Config.vendorId.setWidth 64 ||| put 31 16 0x0102 ||| put 39 32 1 ||| put 40 40 (b2n s.c24))
    else if off = 0x0A8 then some ((Config.pcieLink &&& (maskOf 18 18 ||| maskOf 16 0)) ||| (s.rd p 0x0A8 &&& maskOf 17 17))
    else none
  | .pchs => if 0x100 ≤ off then some (s.pchsView off) else none
  | .pche =>
    if off = 0x080 then some (s.srcBits 0)
    else if 0x088 ≤ off ∧ off < 0x0A8 then some (s.srcBits (64 + 8 * (off - 0x088)))
    else if 0x100 ≤ off ∧ off < 0x300 then some (s.wSum ((off - 0x100) / 8))
    else none
  | .yzl => if off = 0x0A0 then some (put 15 0 (s.hotOf i).length ||| put 31 16 (((s.hotOf i).filter fun n => (s.yctx n).pinned).length)) else none
  | .cel => if off = 0x080 ∧ !s.fitted i then some (put 62 62 1) else none
  | .eccc => if off = 0x0B0 then some (s.remapEnt i (s.rdF p 0x0A8 12 0)) else none
  | .cvug => if off = 0x0B8 then some (put 63 32 s.incSeq) else none
  | _ => none

/-- CAPS reads as the page's events; PAGE_ID as its class and the window it is reached by (R602, R603). -/
def State.headRead (s : State) (a : BarAt) : W64 :=
  match a.off with
  | 0x000 => put 63 56 a.page.page.cls ||| put 55 52 a.scope ||| put 31 0 a.inst
  | 0x008 => 1
  | 0x010 => a.page.page.caps
  | 0x020 => s.status a.page
  | 0x048 => s.winSum a
  | _ => match regRow a.page.page a.off with | some r => s.rd a.page a.off &&& ~~~ r.wo | none => 0

/-- What an 8-byte read of a page that answers returns, before anything is cleared by it. -/
def State.barRead (s : State) (a : BarAt) : W64 :=
  if s.gated a.page then 0
  else if s.darkAt a then (if a.off = 0x000 ∨ a.off = 0x008 then s.headRead a else 0)
  else if a.page.page = .cvu ∧ 0x200 ≤ a.off ∧ (0x8000 ≤ a.page.inst ∨ s.dark a.page.inst ∨ (a.scope = 2 ∧ s.rim.remapping.contains (s.wingOf a.inst))) then 0
  else if a.off < 0x080 then s.headRead a
  else
    match regRow a.page.page a.off with
    | none => 0
    | some r => ((s.view a.page a.off).getD (s.rd a.page a.off)) &&& ~~~ r.wo

end Sys2Proof.Machine
end

