-- ==== Sys2Proof/Machine/Events.lean ====
section
/-!
DEFINITION. The event tree's MSI-X side: vectors, hold-off and re-arming (R594, R609).
-/

namespace Sys2Proof.Machine

/-- A word of the MSI-X table: word 2k is the address of vector k, word 2k + 1 its data and its control, whose mask bit is set after reset. -/
def msixDefault (k : Nat) : W64 := if k % 2 = 0 then 0 else put 32 32 1
def State.msixWord (s : State) (k : Nat) : W64 := smGet (msixDefault k) s.rim.msixTab k

/-- Whether a vector is masked. -/
def State.msixMasked (s : State) (v : Nat) : Bool := tst (s.msixWord (2 * v + 1)) 32

/-- A vector sent, or pending in the PBA while it is masked (R609). -/
def State.sendVector (s : State) (v : Nat) : State :=
  if s.msixMasked v then { s with rim := { s.rim with pba := if s.rim.pba.contains v then s.rim.pba else s.rim.pba ++ [v] } }
  else s.emit (.msix v)

/-- A write of the MSI-X table; a pending vector that is unmasked is sent. -/
def State.msixWrite (s : State) (k : Nat) (w : W64) : State :=
  let w := if k % 2 = 0 then w &&& ~~~ maskOf 1 0 else w &&& maskOf 32 0
  let s := { s with rim := { s.rim with msixTab := smSet (msixDefault k) s.rim.msixTab k w } }
  if s.rim.pba.contains (k / 2) && !s.msixMasked (k / 2) then
    { s with rim := { s.rim with pba := s.rim.pba.filter fun v => v ≠ k / 2 } }.emit (.msix (k / 2))
  else s

/-- A word of the PBA. -/
def State.pbaWord (s : State) (k : Nat) : W64 := ofLanes 1 ((List.range 64).map fun i => b2n (s.rim.pba.contains (64 * k + i)))

/-- The ET at which the hold-off of a source ends. -/
def State.holdoff (s : State) (src : Nat) : Nat := smGet 0 s.rim.msix src - 1

/-- A source sends its vector, at once or when its hold-off has passed (R609). -/
def State.srcSend (s : State) (src : Nat) : State :=
  let w := s.rd (gp .pche) (0x400 + 8 * src)
  if !tst w 63 then s
  else if s.et < s.holdoff src then
    { s with rim := { s.rim with msiWait := if s.rim.msiWait.contains src then s.rim.msiWait else s.rim.msiWait ++ [src] } }
  else
    let us := s.rdF (gp .pche) 0x0A8 15 0
    let s := s.sendVector (fld w 10 0)
    if us = 0 then s else { s with rim := { s.rim with msix := smSet 0 s.rim.msix src (s.et + usToEt us + 1) } }

/-- The source that a page reports to (R608, R609). -/
def PageRef.source (s : State) (p : PageRef) : Nat :=
  if p.page.inRoom then p.wing s else if p.page.wingSlot.isSome then p.inst else 64 + p.bar0Page / 16

/-- The tree looked at: sources that have become pending since it last was send their vectors (R608, R609). -/
def State.treeScan (s : State) : State :=
  let now := (s.pendingPages.map fun p => p.source s).eraseDups
  let fresh := now.filter fun k => !s.rim.told.contains k
  let s := fresh.foldl (fun s k => s.srcSend k) s
  { s with rim := { s.rim with told := now } }

/-- A write of PCHE_ARM (R609). -/
def State.armSource (s : State) (src : Nat) : State := if src < 320 ∧ s.srcPending src then s.srcSend src else s

/-- PCHE_ARM: the vector of a source that is still pending is sent again (R609, R610). -/
def execPcheArm (src : Nat) (s : State) : Host.Outcome State Fault Refusal := .next (s.armSource src)

/-- HOLDOFF_EXPIRY: HOLDOFF_US after its last vector a source that waits sends again if it is pending (R609). -/
def execHoldoffExpiry (src : Nat) (s : State) : Host.Outcome State Fault Refusal :=
  if smGet 0 s.rim.msix src = 0 ∨ s.et < s.holdoff src then .next s
  else
    let due := s.rim.msiWait.contains src && s.srcPending src
    let s := { s with rim := { s.rim with msix := smSet 0 s.rim.msix src 0, msiWait := s.rim.msiWait.filter fun k => k ≠ src } }
    .next (if due then s.srcSend src else s)

end Sys2Proof.Machine
end

