-- ==== Sys2Proof/Machine/RegWrite.lean ====
section
/-!
DEFINITION. Register accesses: writes with the acceptance conditions of each register, reads that clear, event clearing, injection and re-arming
(R10, R76, R79, R595, R602, R604).
-/

namespace Sys2Proof.Machine

/-- The state a command leaves; the state before it where it gives none. -/
def State.after (s : State) (o : Host.Outcome State Fault Refusal) : State :=
  match o with
  | .next t => t
  | .fault _ => s
  | .refused _ => s

/-- A register written under its access codes: RW and RWS fields take the value, W1C bits clear where it holds 1, the rest stays (R10, R11). -/
def State.regPut (s : State) (p : PageRef) (off : Nat) (v : W64) : State :=
  match regRow p.page off with
  | none => s
  | some r =>
    let m := r.rw ||| r.rws
    s.wr p off (((s.rd p off &&& ~~~ m) ||| (v &&& m)) &&& ~~~ (v &&& r.w1c))

/-- A register that is written only under a condition; a write otherwise raises the page's refusal event, where it has one. -/
def State.putIf (s : State) (c : Bool) (p : PageRef) (off : Nat) (v : W64) (bit : Option Nat) : State :=
  if c then s.regPut p off v else match bit with | some b => s.raise p b false | none => s

/-! ### Registers with a command behind them -/

/-- LCH_OP and LCHG_OP (R327, R334). -/
def State.latchOp (s : State) (p : PageRef) (glob : Bool) (v : W64) : State :=
  let room := p.inst
  let n := if glob then fld v 7 0 else fld v 5 0
  match fld v 63 60 with
  | 1 => s.after (execLatchSet glob room n s)
  | 2 => s.after (execLatchClear glob room n s)
  | 3 => s.after (execLatchAdvance glob room n s)
  | 4 => s.after (execArriveAs glob room n (fld v 14 8) s)
  | 5 => s.after (execResetArrivals glob room n s)
  | _ => s.raise p 6 false

/-- MASK of the Latch that LCH_SEL selects, its low or high half written (R333, R334). -/
def State.latchMask (s : State) (room k : Nat) (v : W64) : State :=
  let n := s.rdF (rp .lch room) 0x0C0 5 0
  let l := s.latch room n
  let m := if k = 0 then v.toNat + l.mask / 2 ^ 64 * 2 ^ 64 else l.mask % 2 ^ 64 + v.toNat * 2 ^ 64
  (s.setLatch room n { l with mask := m }).latchDue room n

/-- HEAD of the bounce ring advanced by the Hearth (R268). -/
def State.bounceHead (s : State) (room : Nat) (v : W64) : State :=
  let p := chn room
  let units := ringUnits (s.rdF p 0x088 50 48)
  let head := fld v 15 0
  let s := s.wrF p 0x090 15 0 head
  s.wrF p 0x090 47 32 ((s.rdF p 0x090 31 16 + units - head % units) % units)

/-- PWR_ROOM: TRIP_CLR first, then ROOM_ON where it changes what is requested (R524, R529). -/
def State.pwrRoomWrite (s : State) (room : Nat) (v : W64) : State :=
  let s := if tst v 1 then s.after (execTripClr room s) else s
  let on := tst (s.rd (pwr room) 0x080) 0
  if tst v 0 then (if on ∧ s.pwrState room ≠ 0 then s else s.after (execRoomOn room s))
  else if on then s.after (execRoomOff room s) else s

/-- RST_CTRL (R590). -/
def State.rstWrite (s : State) (room : Nat) (v : W64) : State :=
  let s := if tst v 62 then s.after (execGoBrick room (fld v 5 0) s) else s
  if tst v 63 then s.after (execGoRoom room s) else s

/-- A write of CHU_LS: EN starts a session; a slot that stays enabled keeps its fields; EN clear ends the session (R365, R366). -/
def State.lsWrite (s : State) (c j : Nat) (v : W64) : State :=
  if tst v 63 then s.after (execLarderSlotEnable c j v s)
  else
    let off := 0x100 + 16 * j
    let fields := maskOf 47 32 ||| maskOf 19 0
    if s.lsEn c j then
      if (v &&& fields) ≠ (s.rd (chuP c) off &&& fields) then s.chuRefuse c
      else (s.wrF (chuP c) off 63 63 0).setLarder c j .none
    else s.wr (chuP c) off ((s.rd (chuP c) off &&& ~~~ fields) ||| (v &&& fields))

/-- Whether a checkpoint buffer with these words may be enabled: its stacks are fitted, and it ends within 96 GB on each (R461). -/
def State.bufFits (s : State) (i : Nat) (st b : W64) : Bool :=
  let l := (List.range 48).filter fun k => tst st k
  let rooms := match s.suite i with | some u => u.rooms.length | none => 0
  (l.all fun k => s.fitted k) && decide (fld b 15 0 * 0x200000 + 4096 + ceilDiv rooms (max 1 l.length) * imageBytes ≤ cellarBytes)

/-- A write of SWPG_BUF or SWPG_SUITE (R461, R480, R481). -/
def State.swpgPut (s : State) (i off : Nat) (v : W64) : State :=
  let quiet := decide ((s.restart i).st = 0) && (match s.suite i with | some u => decide (u.sweep.st = 0) | none => true)
  if !quiet then s.swpRefuse
  else
    let t := s.regPut swpg off v
    if off < 0x800 ∧ tst (t.bufB i (off % 32 / 16)) 63 ∧ !t.bufFits i (t.bufS i (off % 32 / 16)) (t.bufB i (off % 32 / 16)) then s.swpRefuse else t

/-- PCHS_CMD (R612, R613). -/
def State.pchsCmd (s : State) (v : W64) : State :=
  if !tst v 63 then s
  else if fld v 62 61 = 1 then s.after (execDefine v s)
  else if fld v 62 61 = 2 then s.after (execDelete v s)
  else s.raise (gp .pchs) 1 false

/-- SRVG_CMD (R576). -/
def State.srvCmd (s : State) (v : W64) : State :=
  match fld v 63 60 with
  | 1 => s.after (execMarkBad (fld v 14 0) s)
  | 2 => s.after (execRetrainSeam (fld v 5 0) (fld v 17 16) s)
  | 3 => s.after (execRetrainChannel (fld v 5 0) (fld v 12 8) s)
  | 4 => s.after (execCommit s)
  | _ => s.srvRefused (fld v 63 60) (fld v 14 0)

/-- PCH_MBOX_CMD: GO hands the service to Porch firmware; one that is not offered ends refused (R616, R618). -/
def State.mboxCmd (s : State) (v : W64) : State :=
  let p := gp .pch
  if !tst v 63 then (if tst (s.rd p 0x0B8) 63 then s else s.regPut p 0x0B8 v)
  else if tst (s.rd p 0x0B8) 63 then s
  else if 1 ≤ fld v 7 0 ∧ fld v 7 0 ≤ 3 then (s.regPut p 0x0B8 v).wr p 0x0D0 (put 63 62 1)
  else ((s.wr p 0x0B8 (put 7 0 (fld v 7 0))).wr p 0x0D0 (put 63 62 3 ||| put 7 0 4)).raise p 4 false

/-- A write of a DBG register; with DBG_LOCK set only a trigger can be turned off (R622, R624). -/
def State.dbgWrite (s : State) (off : Nat) (v : W64) : State :=
  if s.dbgLocked ∧ !((off = 0x0A0 ∨ off = 0x0A8) ∧ fld v 63 62 = 0) then s.raise dbg 5 false
  else if off = 0x0B0 then s.dbgSweepCmd v
  else s.regPut dbg off v

/-! ### Writes by page -/

/-- A write of a register of a Room page that answers. -/
def State.roomPut (s : State) (p : PageRef) (off : Nat) (v : W64) : State :=
  let i := p.inst
  match p.page with
  | .brk => if 0x800 ≤ off then s.after (execBrkWinWrite i ((off - 0x800) / 8) v s) else s.regPut p off v
  | .arr =>
    if off = 0x0A0 then s.after (execArrSeedWrite i v s)
    else if off = 0x0B0 then
      if (match (s.suiteOf i).bind s.suite with | some u => u.load.isNone | none => true) then s.regPut p off v else s.arrEvent i 6 0x22
    else if off = 0x0E0 then
      let s := if tst v 0 then s.after (execPause i s) else s
      if tst v 1 then s.after (execResume i s) else s
    else s.regPut p off v
  | .shf =>
    if off = 0x088 then s.after (execShfQctrlWrite i v s) else if off = 0x090 then s.after (execShfRetire i v s) else s.regPut p off v
  | .dwt =>
    if 0x100 ≤ off ∧ off % 32 = 0 then s.after (execDwtQCfgWrite i ((off - 0x100) / 32) v s)
    else if 0x100 ≤ off ∧ off % 32 = 16 then s.after (execDwtQTailWrite i ((off - 0x100) / 32) v s)
    else s.regPut p off v
  | .hrt =>
    if off = 0x080 then s.hearthCtrl i v
    else if 0x0A0 ≤ off ∧ !s.isLead i then s
    else if off = 0x0A0 then (if tst v 63 then s.after (execCommandUnitEnable i v s) else s.after (execCommandUnitDisable i v s))
    else if off = 0x0A8 then s.putIf (!tst (s.rd p 0x0A0) 63) p off v none
    else if off = 0x0B8 then s.after (execCsTailWrite i v s)
    else if off = 0x0C0 then s.wr p off (s.rd p off &&& ~~~ (v &&& maskOf 15 8))
    else s.regPut p off v
  | .chn =>
    if off = 0x090 then s.bounceHead i v
    else if (0x400 ≤ off ∧ off < 0x800 ∧ off % 16 = 0) ∨ (0x800 ≤ off ∧ off % 32 = 0) then
      s.putIf (decide (off ≠ txA 63) && (decide (s.rdF p off 63 62 = 0) || (decide (0x800 ≤ off) && decide (s.rdF p off 63 62 = 2)))) p off v (some 4)
    else s.regPut p off v
  | .stp =>
    if 0x800 ≤ off then
      let k := (off - 0x800) / 64
      if off % 64 = 0 then (if tst v 63 then s.after (execStockpotEnable i k v s) else (s.regPut p off v).wrF p (off + 24) 47 45 0)
      else if off % 64 ≤ 16 then s.putIf (!tst (s.rd p (0x800 + 64 * k)) 63) p off v (some 4)
      else s.regPut p off v
    else s.regPut p off v
  | .lch =>
    if off = 0x0A0 then s.latchOp p false v
    else if off = 0x0A8 then s.after (execLchArrive i (fld v 5 0) (fld v 14 8) 0 s)
    else if off = 0x0C8 ∨ off = 0x0D0 then s.latchMask i ((off - 0x0C8) / 8) v
    else if 0x0D8 ≤ off ∧ off < 0x0F8 then s
    else if 0x400 ≤ off ∧ off % 16 = 0 then s.after (execLatchConfigure false i ((off - 0x400) / 16) v s)
    else s.regPut p off v
  | .hal => if (rtVersion off).isSome then s.after (execRoutingTableWrite i off v s) else s.regPut p off v
  | .cvu => if 0x200 ≤ off then (if i < 0x8000 then s.after (execCvuRunWrite i ((off - 0x200) / 8) v s) else s) else s.regPut p off v
  | .pwr =>
    if off = 0x080 then s.pwrRoomWrite i v
    else if off = 0x088 then s.after (execVtrimWrite i v s)
    else if off = 0x090 then (if tst v 63 then s.after (execTmaxClear i s) else s)
    else s.regPut p off v
  | .rst => if off = 0x080 then s.rstWrite i v else s.regPut p off v
  | .srv => s
  | _ => s.regPut p off v

/-- A write of a register of a unit on the rim. -/
def State.rimPut (s : State) (p : PageRef) (off : Nat) (v : W64) : State :=
  let i := p.inst
  match p.page with
  | .cel => if 0x400 ≤ off ∧ off % 32 = 0 then s.after (execCelRegionWrite i ((off - 0x400) / 32) v s) else s.regPut p off v
  | .chu =>
    if off = 0x080 then (if tst v 63 then s.after (execChuteEnable i v s) else s.after (execChuteDisable i v s))
    else if off = 0x090 then s.putIf (!tst (s.rd p 0x080) 63) p off v none
    else if off = 0x0A0 then s.after (execChuListTailWrite i v s)
    else if 0x100 ≤ off ∧ off % 16 = 0 then s.lsWrite i ((off - 0x100) / 16) v
    else s.regPut p off v
  | .eav => if off = 0x080 then s.eavCfgWrite i v else s.regPut p off v
  | .yzlg =>
    if off = 0x098 ∨ off = 0x0A0 then s.putIf (s.rim.ctxs.all fun e => decide (e.2.state ≠ 1)) p off v (some 2)
    else if off = 0x0C0 then s.contextGo v
    else if 0x400 ≤ off ∧ off < 0x800 ∧ off % 16 = 0 then s.rollWrite ((off - 0x400) / 16) v
    else s.regPut p off v
  | .cvug =>
    if off = 0x088 then
      let r := s.drawNat
      r.1.after (execInspInstall v (decide (r.2 % 2 = 1)) r.1)
    else if off = 0x0B0 then s.after (execSelfTest v noRef false s)
    else s.regPut p off v
  | .cvux =>
    if 0x100 ≤ off then (if 64 ≤ i ∧ i < 96 ∧ off < 0x120 then s.after (execCvuRunWrite (0x10000 + (i - 64)) ((off - 0x100) / 8) v s) else s)
    else s.regPut p off v
  | .eccc =>
    if off = 0x080 then s.after (execEccCfgWrite i v s)
    else if off = 0x0A0 then
      let r := s.drawNat
      r.1.after (execPageRetire i v r.2 r.1)
    else if off = 0x0B0 then s.after (execEccRemapWrite i v s)
    else s.regPut p off v
  | .eccg =>
    if off = 0x088 then s.putIf (decide (s.rdF p 0x098 18 0 = s.rdF p 0x0A0 18 0)) p off v none
    else if off = 0x098 then s.after (execLogHeadWrite v s)
    else s.regPut p off v
  | _ => s.regPut p off v

/-- A write of a register of a Wing page or of another engine-global page. -/
def State.globPut (s : State) (p : PageRef) (off : Nat) (v : W64) : State :=
  let i := p.inst
  match p.page with
  | .pwrw =>
    if off = 0x0B0 then
      if tst v 63 then
        let r := s.drawNat
        r.1.after (execChimneyRestart i (decide (r.2 % 2 = 1)) r.1)
      else s
    else s.regPut p off v
  | .dmpw =>
    if off = 0x088 then
      let runs := (s.suitesInWing i).any fun k => match s.suite k with | some u => decide (u.run = 2) | none => false
      if runs then s.dmpwEvent i 4 0x14 0 false else s.regPut p off v
    else s.regPut p off v
  | .pch =>
    if off = 0x0B0 then s.wr p off (s.rd p off ||| (v &&& maskOf 1 0))
    else if off = 0x0B8 then s.mboxCmd v
    else if off = 0x0D8 then
      if s.rdF (gp .srvg) 0x080 62 60 ≠ 5 ∨ tst (s.rd p off) 63 then s
      else if tst v 63 then s.wr p off (put 63 63 1 ||| put 24 0 (fld v 24 0))
      else s.wrF p off 24 0 (fld v 24 0)
    else s.regPut p off v
  | .pchs => if off = 0x080 then s.pchsCmd v else s.regPut p off v
  | .pche => if off = 0x0B0 then s.armSource (fld v 8 0) else s.regPut p off v
  | .halg => if off = 0x080 then (if tst v 1 then (s.regPut p off v).startFlip else s.regPut p off v) else s.regPut p off v
  | .flug => if off = 0x080 then s.after (execFluLatencyWrite v s) else s.regPut p off v
  | .lchg =>
    if off = 0x098 then s.latchOp p true v
    else if 0x400 ≤ off then (if (off - 0x400) % 24 = 0 then s.after (execLatchConfigure true 0 (128 * i + (off - 0x400) / 24) v s) else s)
    else s.regPut p off v
  | .swpg =>
    if off = 0x080 then s.swpgCmd v
    else if 0x400 ≤ off ∧ off < 0xC00 then s.swpgPut ((off - 0x400) / 32) off v
    else if 0xC00 ≤ off ∧ off % 16 = 0 then s.swpgPut ((off - 0xC00) / 16) off v
    else s.regPut p off v
  | .dmpg =>
    if off = 0x080 then s.after (execCapWrite v s)
    else if off = 0x0A0 then s.after (execDraughtEnable v s)
    else if off = 0x0A8 then s.after (execDrTotalWrite v s)
    else if off = 0x0B0 then s.drLimitsWrite v
    else if 0x400 ≤ off ∧ off % 16 = 0 then s.after (execSuiteBudgetWrite ((off - 0x400) / 16) v s)
    else s.regPut p off v
  | .pwrg => if off = 0x0A0 then (if tst v 63 then s.after (execPwrgClear s) else s) else s.regPut p off v
  | .clkg =>
    if off = 0x080 then s.after (execRefSelect v s)
    else if off = 0x088 then (if s.anyLoaded then s.clkgEvent 4 0x14 0 0 false else s.regPut p off v)
    else if off = 0x090 then s.after (execPeripheralGate v false s)
    else if 0x400 ≤ off then s.after (execRateSwitch ((off - 0x400) / 8) v s)
    else s.regPut p off v
  | .srvg =>
    if off = 0x088 then
      let s := s.regPut p off v
      { s with rim := { s.rim with flash := { s.rim.flash with distrust := tst v 63 } } }
    else if off = 0x090 then s.srvCmd v
    else s.regPut p off v
  | .rstg =>
    if off = 0x088 then s.after (execSuiteReset v s) else if off = 0x090 then s.after (execHouseReset v s) else s.regPut p off v
  | .dbg => s.dbgWrite off v
  | _ => s.regPut p off v

/-! ### Injection -/

/-- Injections that act at once: the next qualifying occurrence is the injection itself (R79, R367, R403, R407, R436, R532, R546, R549, R630). -/
def State.injectNow (s : State) (p : PageRef) (bit : Nat) : Option State :=
  match p.page, bit with
  | .chu, 1 => ((List.range 4).find? fun j => s.lsEn p.inst j).map fun j => s.larderLost p.inst j true
  | .eav, 0 => some (s.linkDown (2 * p.inst) true)
  | .yzl, 0 =>
    (((s.rim.ctxs.filter fun e => decide (homeOf e.1 = p.inst) && decide (e.2.state = 1)).map Prod.fst).head?).map fun n => s.yazFail n 1 true
  | .cvug, 2 => s.lowestRunning.map fun i => s.noProgress i true
  | .dbg, 0 => some (s.trigEdge 0 true)
  | _, _ => none

/-- Injections whose occurrence the armed page brings about itself, through the command that the occurrence is. -/
def State.injectRun (s : State) (p : PageRef) (bit : Nat) : State :=
  match p.page, bit with
  | .clkw, 0 => s.after (execClkLockLost p.inst s)
  | .clkg, 0 => s.after (execClkRefFail 0 s)
  | .pwrg, 2 => s.after (execPwrCoolantFault s)
  | .pwrg, 3 => s.after (execPwrLeak true s)
  | _, _ => s

/-- A write of EVENT_INJECT: each stated bit acts at once or is armed; other bits are ignored (R79, R602). -/
def State.injectWrite (s : State) (p : PageRef) (v : W64) : State :=
  (List.range 64).foldl (fun (s : State) b =>
    if !tst (v &&& p.page.injects) b then s
    else
      match s.injectNow p b with
      | some t => t
      | none => ({ s with armed := smSet 0 s.armed (pageKey p) (setBit (smGet 0 s.armed (pageKey p)) b) }).injectRun p b) s

/-! ### Accesses -/

/-- An 8-byte write to a page that answers; `pac` tells that it came by page access control, which never lets EVENT_INJECT through (R602, R615). -/
def State.pageSet (s : State) (a : BarAt) (v : W64) (pac : Bool) : State :=
  let p := a.page
  if s.gated p ∨ s.darkAt a then s
  else if a.off < 0x080 then
    if p = dbg ∧ s.dbgLocked then s.raise dbg 5 false
    else
      match a.off with
      | 0x018 => s.wr p 0x018 (v &&& maskOf 63 63)
      | 0x028 => s.eventClear p v
      | 0x030 => s.wr p 0x030 (v &&& p.page.caps)
      | 0x038 => if pac then s else s.injectWrite p v
      | _ => s
  else if (regRow p.page a.off).isNone then s
  else if p.page.inRoom then s.roomPut p a.off v
  else
    match p.page with
    | .cel | .chu | .eav | .yzl | .yzlg | .cvug | .cvux | .eccc | .eccg => s.rimPut p a.off v
    | _ => s.globPut p a.off v

/-- RC fields that a read of a register clears (R10, R602). -/
def State.readClear (s : State) (a : BarAt) : State :=
  if s.gated a.page ∨ s.darkAt a then s
  else
    match regRow a.page.page a.off with
    | some r => if r.rc = 0 then s else s.wr a.page a.off (s.rd a.page a.off &&& ~~~ r.rc)
    | none => s

/-- PCH_WHERE of a BAR access (R618). -/
def pchWhere (cause bar off : Nat) : W64 :=
  put 63 56 cause ||| put 34 34 bar ||| put 33 32 (off / 2 ^ 34) ||| put 30 0 (off / 8)

/-- PCH_ACCESS_BAD (R595, R619). -/
def State.badAccess (s : State) (bar off : Nat) : State :=
  ((s.capture (gp .pch) 0x0E0 (pchWhere 0x01 bar off)).bump (gp .pch) 0x0E8 31 16 1).raise (gp .pch) 0 false

/-- PCH_PAGE_TIMEOUT: no decoder answers within 20 µs (R595). -/
def State.pageTimeout (s : State) (off : Nat) : State :=
  ((s.capture (gp .pch) 0x0E0 (pchWhere 0x04 0 off)).bump (gp .pch) 0x0E8 63 48 1).raise (gp .pch) 3 false

/-- Whether the Porch bus runs beyond its limit, so that what a peripheral's page returns, and where a write lands, are open (R545). -/
def State.busWild (s : State) (p : PageRef) : Bool :=
  let d := s.rdF clkg 0x098 3 0
  decide (1 ≤ d) && decide (d ≤ 3) && (match p.page with | .peri | .gpio | .tim => true | _ => false)

/-- A host read of BAR0 (R595).  The value goes to the requester. -/
def State.hostRead (s : State) (addr size : Nat) : State :=
  let addr := addr % 2 ^ 32
  let part (w : W64) : W64 := if size = 8 then w else if addr % 8 = 4 then w >>> 32 else w &&& maskOf 31 0
  if (size ≠ 8 ∧ size ≠ 4) ∨ addr % max 1 size ≠ 0 then (s.badAccess 0 addr).answer 0
  else if s.rdF (gp .srvg) 0x080 62 60 ≠ 5 ∧ 1 < s.rdF (gp .srvg) 0x080 62 60 ∧ 0x00F00000 ≤ addr ∧ addr < 0x00F08100 then
    s.answer (part (if addr < 0x00F08000 then s.msixWord ((addr - 0x00F00000) / 8) else s.pbaWord ((addr - 0x00F08000) / 8)))
  else
    match s.decodeBar0 (addr / 8 * 8) with
    | none => s.answer 0
    | some a =>
      if !s.answers a then s.answer 0
      else if s.silent a.page then (s.pageTimeout addr).answer 0
      else if s.busWild a.page ∧ !s.gated a.page then
        let r := s.drawWord
        r.1.answer (part r.2)
      else
        let rc : Bool := match regRow a.page.page a.off with | some r => decide (r.rc ≠ 0) | none => false
        if size = 4 ∧ rc ∧ !s.darkAt a then (s.badAccess 0 addr).answer 0
        else (s.readClear a).answer (part (s.barRead a))

/-- A host write of BAR0 (R595). -/
def State.hostWrite (s : State) (addr size : Nat) (v : W64) : State :=
  let addr := addr % 2 ^ 32
  if size ≠ 8 ∨ addr % 8 ≠ 0 then s.badAccess 0 addr
  else if s.rdF (gp .srvg) 0x080 62 60 ≠ 5 ∧ 1 < s.rdF (gp .srvg) 0x080 62 60 ∧ 0x00F00000 ≤ addr ∧ addr < 0x00F08000 then
    s.msixWrite ((addr - 0x00F00000) / 8) v
  else
    match s.decodeBar0 addr with
    | none => s
    | some a =>
      if !s.answers a then s
      else if s.silent a.page then s.pageTimeout addr
      else if s.busWild a.page then
        let r := s.drawNat
        r.1.pageSet { a with off := a.off + 8 * (r.2 % 3) - 8 } v false
      else s.pageSet a v false

/-- REGISTER_WRITE: a host write of `size` bytes to a BAR0 offset (R10, R595). -/
def execRegisterWrite (addr size : Nat) (v : W64) (s : State) : Host.Outcome State Fault Refusal := .next (s.hostWrite addr size v)

/-- RC_READ: a host read; RC fields are returned and cleared (R10, R595). -/
def execRcRead (addr size : Nat) (s : State) : Host.Outcome State Fault Refusal := .next (s.hostRead addr size)

/-- EVENT_CLEAR: a W1C write to the EVENT register of the page at a BAR0 offset (R602, R604). -/
def execEventClear (addr : Nat) (v : W64) (s : State) : Host.Outcome State Fault Refusal :=
  .next (s.hostWrite (addr / 0x1000 * 0x1000 + 0x028) 8 v)

/-- EVENT_INJECT: a write to the EVENT_INJECT register of the page at a BAR0 offset (R79, R602). -/
def execEventInject (addr : Nat) (v : W64) (s : State) : Host.Outcome State Fault Refusal :=
  .next (s.hostWrite (addr / 0x1000 * 0x1000 + 0x038) 8 v)

/-- WHERE_REARM: 1 written to VALID of the WHERE register at a BAR0 offset (R76). -/
def execWhereRearm (addr : Nat) (s : State) : Host.Outcome State Fault Refusal := .next (s.hostWrite addr 8 (put 31 31 1))

end Sys2Proof.Machine
end

