-- ==== Sys2Proof/Machine/Porch.lean ====
section
/-!
DEFINITION. The Porch: the memory window, host memory, recovery, the mailbox, the management service and the peripherals (R37, R516, R594 to R600,
R615 to R619).
-/

namespace Sys2Proof.Machine

/-- The PCH page. -/
def pch : PageRef := gp .pch

/-- The gateway by which the Porch sends and receives Hall packets: position 3 of the W edge. -/
def porchEid : Nat := eidEaves 3 48 0

/-! ### BAR2 -/

/-- A byte of the staging SRAM (R598). -/
def State.stageByte (s : State) (a : Nat) : Byte := BitVec.ofNat 8 (lane 8 (smGet 0 s.rim.staging (a / 8)) (a % 8))

/-- Bytes written to the staging SRAM. -/
def State.stageWrite (s : State) (a : Nat) : List Byte → State
  | [] => s
  | v :: l =>
    let w := setFld (smGet 0 s.rim.staging (a / 8)) (8 * (a % 8) + 7) (8 * (a % 8)) v.toNat
    State.stageWrite { s with rim := { s.rim with staging := smSet 0 s.rim.staging (a / 8) w } } (a + 1) l

/-- Data returned to the host for a read of BAR2. -/
def State.complete (s : State) (off : Nat) (data : List Byte) : State :=
  (s.emit (.completion off data)).answer (BitVec.ofNat 64 (leOf (data.take 8)))

/-- A BAR2 access that does not decode: EA_UNMAPPED in the PCH page (R36, R596). -/
def State.bar2Unmapped (s : State) (off : Nat) (injected : Bool) : State :=
  ((s.capture pch 0x0E0 (pchWhere 0x02 1 off)).bump pch 0x0E8 15 0 1).raise pch 1 injected

/-- One packet of a BAR2 access: HOST, with the granted Suite, to a Shelf port, round the ring to a Cellar, or to host memory (R37, R596). -/
def State.bar2Part (s : State) (write : Bool) (ea n off : Nat) (data : List Byte) : State :=
  let g := s.rdF pch 0x098 5 0
  let mk (dst : Nat) : Pkt :=
    let p : Pkt := if write then mkWrite dst porchEid g ea data else mkRead dst porchEid g ea n
    { p with host := true }
  let use : ReqUse := if write then .bar2Write off else .bar2Read off
  let zeros (s : State) : State := if write then s else s.complete off (List.replicate n 0)
  let own (s : State) : State × Pkt :=
    ({ s with outst := s.outst ++ [⟨s.nextTag % 65536, porchEid, use⟩], nextTag := s.nextTag + 1 }, { mk porchEid with tag := s.nextTag % 65536 })
  match s.decodeEa ea with
  | .none_ => zeros (s.bar2Unmapped off false)
  | .shelf r _ => s.requestEdge (mk (eidRoom r 1)) use
  | .cellar st o =>
    let t := own s
    { t.1 with rim := { t.1.rim with ring := t.1.rim.ring ++ [⟨st, o, n, if write then some data else none, t.2, false⟩] } }
  | .host a =>
    let t := own s
    { t.1 with rim := { t.1.rim with hostReqs := t.1.rim.hostReqs ++ [⟨t.2, a, false⟩] } }

/-- BAR2_ACCESS: a host write of `data`, or a read of `n` bytes, at an offset of the window; in RECOVERY it reaches the staging SRAM
(R37, R596, R598). -/
def execBar2Access (write : Bool) (off n : Nat) (data : List Byte) (s : State) : Host.Outcome State Fault Refusal :=
  let off := off % 2 ^ 36
  let n := if write then data.length else n
  let st := s.rdF (gp .srvg) 0x080 62 60
  let none_ (s : State) : State := if write then s else s.complete off (List.replicate n 0)
  if st = 5 then
    .next (if write then s.stageWrite off (data.take (2 ^ 24 - off))
      else s.complete off ((List.range n).map fun k => if off + k < 2 ^ 24 then s.stageByte (off + k) else 0))
  else if st ≤ 1 then .next (none_ s)
  else
    let inj := s.isArmed pch 1
    if inj ∨ !tst (s.rd pch 0x098) 63 then
      let s := if inj then s.disarm pch 1 else s
      .next (none_ (s.bar2Unmapped off inj))
    else
      let base := s.rdF pch 0x098 47 30 * 2 ^ 30
      .next ((cutRange false 992 off (n + 1) n).foldl
        (fun s e => s.bar2Part write ((base + e.1) % 2 ^ 48) e.2 e.1 ((data.drop (e.1 - off)).take e.2)) s)

/-- The reply to a BAR2 access: a NACK reads as zeros and raises PCH_ACCESS_BAD (R284, R596). -/
def State.bar2Reply (s : State) (read : Option Nat) (off n : Nat) (p : Pkt) : State :=
  let off := match read with | some a => a | none => off
  let back (s : State) (d : List Byte) : State := if read.isSome then s.complete off d else s
  if p.typ = 9 then back (s.badAccess 1 off) (List.replicate n 0)
  else back (if p.status = 1 then s.bar2Unmapped off false else s) p.data

/-- PCH_PAGE_TIMEOUT: no page decoder has answered an access to BAR0 within 20 µs (R595). -/
def execPchPageTimeout (addr : Nat) (write : Bool) (s : State) : Host.Outcome State Fault Refusal :=
  let addr := addr % 2 ^ 32
  match s.decodeBar0 (addr / 8 * 8) with
  | some a =>
    if s.answers a ∧ s.silent a.page then .next (if write then s.pageTimeout addr else (s.pageTimeout addr).answer 0) else .next s
  | none => .next s

/-! ### Host memory -/

/-- The answer to a host-memory request (R284, R597). -/
def HostReq.reply (h : HostReq) (data : Option (List Byte)) : Pkt :=
  match h.pkt.typ, data with
  | 1, some _ => h.pkt.ack 0
  | 1, none => h.pkt.ack 1
  | _, some d => h.pkt.rsp 0 ((d ++ List.replicate (fld h.pkt.w2 9 0) 0).take (fld h.pkt.w2 9 0))
  | _, none => h.pkt.rsp 1 (List.replicate (if h.pkt.typ = 4 then 8 else fld h.pkt.w2 9 0) 0)

/-- A host-memory request failed: STATUS UNMAPPED to its requester, and PCH_HOST_ERR (R597).  The offset that PCH_WHERE then holds is
open. -/
def State.hostFail (s : State) (h : HostReq) (injected : Bool) : State :=
  let r := s.drawNat
  let s := ((r.1.capture pch 0x0E0 (pchWhere 0x03 0 (r.2 % 2 ^ 36))).bump pch 0x0E8 47 32 1).raise pch 2 injected
  s.injectEdge h.pkt.dst (h.reply none)

/-- HOST_REQUEST: the `k`-th engine access to host memory becomes a PCIe request to PCH_HOSTBASE plus the low 47 bits of its EA.  A posted write is
acknowledged as it is issued; with Bus Master Enable clear the request fails; a read waits while 512 are outstanding.  `bme` is Bus Master Enable
as the function's configuration then has it (R594, R597). -/
def execHostRequest (k : Nat) (bme : Bool) (s : State) : Host.Outcome State Fault Refusal :=
  let s := { s.wrF pch 0x0A8 17 17 (b2n bme) with rim := { s.rim with bme } }
  match s.rim.hostReqs[k]? with
  | none => .next s
  | some h =>
    if h.sent then .next s
    else
      let gone (s : State) : State := { s with rim := { s.rim with hostReqs := s.rim.hostReqs.eraseIdx k } }
      let a := (s.rd pch 0x0A0).toNat + h.addr
      if !bme ∨ (h.pkt.typ ≠ 1 ∧ h.pkt.typ ≠ 2) then .next ((gone s).hostFail h false)
      else if h.pkt.typ = 1 then .next (((gone s).emit (.hostWrite a h.pkt.data)).injectEdge h.pkt.dst (h.reply (some [])))
      else if 512 ≤ (s.rim.hostReqs.filter fun x => x.sent).length then .next s
      else
        .next ({ s with rim := { s.rim with hostReqs := s.rim.hostReqs.set k { h with sent := true } } }.emit (.hostRead a (fld h.pkt.w2 9 0)))

/-- HOST_COMPLETION: host read `k` completes with data, or fails by Unsupported Request, Completer Abort, poisoned data or time-out (R597). -/
def execHostCompletion (k : Nat) (ok : Bool) (data : List Byte) (s : State) : Host.Outcome State Fault Refusal :=
  match s.rim.hostReqs[k]? with
  | none => .next s
  | some h =>
    if !h.sent then .next s
    else
      let inj := s.isArmed pch 2
      let s := if inj then s.disarm pch 2 else s
      let s := { s with rim := { s.rim with hostReqs := s.rim.hostReqs.eraseIdx k } }
      .next (if ok && !inj then s.injectEdge h.pkt.dst (h.reply (some data)) else s.hostFail h inj)

/-- FUNCTION_LEVEL_RESET: configuration, MSI-X table and PBA return to their reset values, and requests in flight fail; the engine goes on
(R594, R597). -/
def execFunctionLevelReset (s : State) : Host.Outcome State Fault Refusal :=
  let fly := s.rim.hostReqs.filter fun h => h.sent
  let s := s.wrF pch 0x0A8 17 17 0
  let s := { s with rim := { s.rim with
    bme := false, msixTab := [], pba := [], msiWait := [], hostReqs := s.rim.hostReqs.filter fun h => !h.sent } }
  .next (fly.foldl (fun s h => s.hostFail h false) s)

/-! ### Recovery -/

/-- RECOVERY_IMAGE: in RECOVERY, with GO, the staged image is verified, and written to slot A if it verifies; `version` is the one the image
holds (R551, R598, R618). -/
def execRecoveryImage (verifies : Bool) (version : Nat) (s : State) : Host.Outcome State Fault Refusal :=
  let w := s.rd pch 0x0D8
  if s.rdF (gp .srvg) 0x080 62 60 ≠ 5 ∨ !tst w 63 then .next s
  else
    let ok := verifies && decide (1 ≤ fld w 24 0) && decide (fld w 24 0 ≤ 2 ^ 24)
    let s := s.wr pch 0x0D8 (put 62 61 (if ok then 1 else 2) ||| put 24 0 (fld w 24 0))
    .next (if ok then { s with rim := { s.rim with flash := { s.rim.flash with slotA := some version } } } else s)

/-! ### The mailbox -/

/-- Whether a service has been asked for and has not ended (R616). -/
def State.mboxAsked (s : State) (cmd : Nat) : Bool := tst (s.rd pch 0x0B8) 63 && decide (s.rdF pch 0x0B8 7 0 = cmd)

/-- A service ends: done, or refused with a REASON (R616, R618). -/
def State.mboxEnd (s : State) (reason : Nat) : State :=
  ((s.wrF pch 0x0B8 63 63 0).wr pch 0x0D0 (if reason = 0 then put 63 62 2 else put 63 62 3 ||| put 7 0 reason)).raise pch 4 false

/-- UPDATE_FW: a slot A that verifies is copied to slot B, and a new image that verifies, whose version is not below the module's minimum, is
written to slot A, unless FW_LOCK is set (R616, R617). -/
def execUpdateFw (verifies : Bool) (version : Nat) (s : State) : Host.Outcome State Fault Refusal :=
  if !s.mboxAsked 1 then .next s
  else
    let inCellar : Bool := match s.decodeEa (s.rd pch 0x0C0).toNat with
      | .cellar _ off => decide ((s.rd pch 0x0C0).toNat < 2 ^ 48) && decide (off + (s.rd pch 0x0C8).toNat ≤ cellarBytes)
      | _ => false
    if tst (s.rd pch 0x0B0) 1 then .next (s.mboxEnd 3)
    else if !inCellar ∨ s.rd pch 0x0C8 = 0 then .next (s.mboxEnd 4)
    else if !verifies then .next (s.mboxEnd 1)
    else if version < s.rim.flash.fwMin then .next (s.mboxEnd 2)
    else
      let f := s.rim.flash
      let f := { f with slotB := (match f.slotA with | some v => some v | none => f.slotB), slotA := some version }
      .next (State.mboxEnd { s with rim := { s.rim with flash := f } } 0)

/-- The record of a physical Room in the layout of the Survey (R555, R572). -/
def State.surveyRoom (s : State) (p : Nat) : List W64 := [s.srvRec0 p, s.srvRd p 0x088, s.srvRd p 0x090, s.srvRd p 0x098]

/-- The record of a Wing (R555). -/
def State.surveyWing (s : State) (w : Nat) : List W64 :=
  [s.srvwView w 0x080]
    ++ ((List.range 8).map fun i => put 17 0 (s.remap.col w (2 * i)) ||| put 49 32 (s.remap.col w (2 * i + 1)))
    ++ [smGet 0 s.rim.weights w, s.rd (srvw w) 0x088, 0]

/-- The working Survey in the layout of R555, signed with the module key; the signature's value is open. -/
def State.surveyImage (s : State) : List Byte :=
  let st := s.rd (gp .srvg) 0x080
  [0x49, 0x51, 0x53, 0x56] ++ leTo 4 1 ++ leTo 8 (fld st 31 0) ++ leTo 8 (s.rd pch 0x088).toNat ++ leTo 8 (s.rd pch 0x090).toNat
    ++ leTo 1 (fld st 49 48) ++ leTo 1 1 ++ leTo 6 0 ++ leTo 8 s.phours ++ leTo 16 0
    ++ ((List.range 20736).flatMap fun p => (s.surveyRoom p).flatMap fun w => leTo 8 w.toNat)
    ++ ((List.range 64).flatMap fun w => (s.surveyWing w).flatMap fun x => leTo 8 x.toNat)
    ++ ((List.range 48).flatMap fun k => (List.range 8192).flatMap fun i => leTo 8 (s.remapEnt k i).toNat)
    ++ ((List.range 12).flatMap fun k => leTo 8 (Config.freeAt s.free k).toNat)

/-- Bytes of a Survey copy (R555). -/
def surveyBytes : Nat := 0x3A38A0

/-- EXPORT_SURVEY: the working Survey written to a Cellar, or to host memory; refused where the EA does not hold it (R555, R616). -/
def execExportSurvey (s : State) : Host.Outcome State Fault Refusal :=
  if !s.mboxAsked 2 then .next s
  else
    let a := (s.rd pch 0x0C0).toNat
    if 2 ^ 48 ≤ a then .next (s.mboxEnd 4)
    else
      match s.decodeEa a with
      | .cellar st off =>
        if cellarBytes < off + surveyBytes then .next (s.mboxEnd 4)
        else
          let r := s.cellarAccess st off surveyBytes (some s.surveyImage) 0 porchEid true []
          (match r.2 with
           | .ok _ => .next (State.mboxEnd { r.1 with free := r.1.free + 1 } 0)
           | _ => .next (State.mboxEnd { r.1 with free := r.1.free + 1 } 4))
      | .host h =>
        if s.rim.bme then
          .next (State.mboxEnd ({ s with free := s.free + 1 }.emit (.hostWrite ((s.rd pch 0x0A0).toNat + h) s.surveyImage)) 0)
        else .next (s.mboxEnd 4)
      | _ => .next (s.mboxEnd 4)

/-- MGMT_CFG: the addresses of the management ports are set (R599, R616, R618). -/
def execMgmtCfg (s : State) : Host.Outcome State Fault Refusal :=
  if !s.mboxAsked 3 then .next s
  else .next (State.mboxEnd { s with rim := { s.rim with mgmt := (s.rd pch 0x0C0, s.rd pch 0x0C8) } } 0)

/-- FW_LOCK: 1 written to PCH_SEC.FW_LOCK (R617). -/
def execFwLock (s : State) : Host.Outcome State Fault Refusal := .next (s.hostWrite 0x0B0 8 (put 1 1 1))

/-- DBG_LOCK: 1 written to PCH_SEC.DBG_LOCK (R617). -/
def execDbgLock (s : State) : Host.Outcome State Fault Refusal := .next (s.hostWrite 0x0B0 8 (put 0 0 1))

/-! ### Management service and peripherals -/

/-- Whether Porch firmware runs: bring-up has come so far, and the engine is not in RECOVERY (R550, R598). -/
def State.firmware (s : State) : Bool := decide (1 < s.rdF (gp .srvg) 0x080 62 60) && decide (s.rdF (gp .srvg) 0x080 62 60 ≠ 5)

/-- MGMT_REQUEST: what the management service offers: 0 an 8-byte read of BAR0 at `a`; 1 word `a` of the incident log; 2 word `a` of the Survey's Room
records; 3 the mailbox command `a` with two arguments; 4 a House reset.  Anything else, a register write among it, is not served (R599). -/
def execMgmtRequest (op a : Nat) (x y : W64) (s : State) : Host.Outcome State Fault Refusal :=
  if !s.firmware then .next s
  else
    match op with
    | 0 => .next (s.hostRead (a / 8 * 8) 8)
    | 1 => .next (s.answer (s.ldWord (s.rdF (gp .eccg) 0x088 47 12 * 4096 + 8 * (a % 2097152))))
    | 2 => .next (s.answer ((s.surveyRoom (a / 4 % 20736)).getD (a % 4) 0))
    | 3 =>
      if tst (s.rd pch 0x0B8) 63 then .next s
      else .next (((s.wr pch 0x0C0 x).wr pch 0x0C8 y).mboxCmd (put 63 63 1 ||| put 7 0 a))
    | 4 => execHouseReset 0x4853 s
    | _ => .next s

/-- The reading behind a command of the rack PMBus port: VIN, IIN, their product, and the coolant inlet temperature (R516, R532). -/
def State.rackReading (s : State) (cmd : Nat) : Nat :=
  let v := s.rdF pwrg 0x080 15 0
  let i := s.rdF pwrg 0x080 31 16
  match cmd with
  | 0x88 => v
  | 0x89 => i
  | 0x97 => v * i
  | _ => s.rdF pwrg 0x088 31 16

/-- RACK_PMBUS_COMMAND: READ_VIN, READ_IIN, READ_PIN, READ_TEMPERATURE_1 or STATUS_WORD, answered with module-level values; any other command is not
answered.  The bits of STATUS_WORD are open (R516). -/
def execRackPmbusCommand (cmd : Nat) (s : State) : Host.Outcome State Fault Refusal :=
  if !s.firmware then .next s
  else if cmd = 0x79 then
    let r := s.drawWord
    .next (r.1.answer (r.2 &&& maskOf 15 0))
  else if cmd = 0x88 ∨ cmd = 0x89 ∨ cmd = 0x97 ∨ cmd = 0x8D then .next (s.answer (Config.pmbusWord cmd (s.rackReading cmd)))
  else .next s

/-- GPIO_EDGE: the level of an input pin changes (R600). -/
def execGpioEdge (pin : Nat) (level : Bool) (s : State) : Host.Outcome State Fault Refusal :=
  let k := pin % 16
  if s.rim.gpio.testBit k = level then .next s
  else
    let g := if level then s.rim.gpio + 2 ^ k else s.rim.gpio - 2 ^ k
    .next (State.raise { s with rim := { s.rim with gpio := g } } (gp .gpio) 0 false)

/-- TIMER_EXPIRED: Porch timer `k` reaches zero (R600). -/
def execTimerExpired (k : Nat) (s : State) : Host.Outcome State Fault Refusal :=
  .next (State.raise { s with rim := { s.rim with timers := smSet 0 s.rim.timers (k % 4) 0 } } (gp .tim) 0 false)

end Sys2Proof.Machine
end

