-- ==== Sys2Proof/Machine/Rv.lean ====
section
/-!
DEFINITION. The instruction set of the Hearth as data and arithmetic: RV64IMAC with Zicsr and Zifencei, of the ratified RISC-V specifications, and
the encodings of Xhearth (R235, R242).
-/

namespace Sys2Proof.Machine

/-- A Hearth instruction. -/
inductive Rv where
  | lui (rd : Nat) (imm : W64)
  | auipc (rd : Nat) (imm : W64)
  | jal (rd : Nat) (off : W64)
  | jalr (rd rs1 : Nat) (off : W64)
  | branch (f3 rs1 rs2 : Nat) (off : W64)
  | load (f3 rd rs1 : Nat) (off : W64)
  | store (f3 rs1 rs2 : Nat) (off : W64)
  | opImm (f3 rd rs1 : Nat) (alt : Bool) (imm : W64)
  | opImmW (f3 rd rs1 : Nat) (alt : Bool) (imm : W64)
  | op (f3 rd rs1 rs2 : Nat) (alt : Bool)
  | opW (f3 rd rs1 rs2 : Nat) (alt : Bool)
  | mulDiv (f3 rd rs1 rs2 : Nat)
  | mulDivW (f3 rd rs1 rs2 : Nat)
  | fence (pred succ : Nat)
  | fenceI
  | ecall
  | ebreak
  | mret
  | wfi
  | csr (f3 rd rs1 n : Nat)
  | amo (f5 rd rs1 rs2 : Nat) (dword : Bool)
  | lr (rd rs1 : Nat) (dword : Bool)
  | sc (rd rs1 rs2 : Nat) (dword : Bool)
  | x (f3 f7 rd rs1 rs2 : Nat)
  | illegal
  deriving DecidableEq, Repr

/-! ### Decoding -/

/-- Bits `hi` to `lo` of an instruction. -/
def ib (w hi lo : Nat) : Nat := w / 2 ^ lo % 2 ^ (hi + 1 - lo)

/-- The low `n` bits of a number, sign-extended to 64. -/
def sx (n v : Nat) : W64 := BitVec.ofInt 64 (sgn n v)

/-- Whether a pair of funct3 and funct7 names an Xhearth instruction (R242). -/
def xhearthOk (f3 f7 : Nat) : Bool :=
  match f3 with
  | 1 => decide (f7 ≤ 4)
  | 0 | 2 | 3 | 4 => decide (f7 ≤ 1)
  | _ => false

/-- A 32-bit instruction. -/
def rv32 (w : Nat) : Rv :=
  let rd := ib w 11 7
  let f3 := ib w 14 12
  let rs1 := ib w 19 15
  let rs2 := ib w 24 20
  let f7 := ib w 31 25
  let immI := sx 12 (ib w 31 20)
  match w % 128 with
  | 0x37 => .lui rd (sx 32 (ib w 31 12 * 4096))
  | 0x17 => .auipc rd (sx 32 (ib w 31 12 * 4096))
  | 0x6F => .jal rd (sx 21 (ib w 31 31 * 2 ^ 20 + ib w 19 12 * 4096 + ib w 20 20 * 2048 + ib w 30 21 * 2))
  | 0x67 => if f3 = 0 then .jalr rd rs1 immI else .illegal
  | 0x63 =>
    if f3 = 2 ∨ f3 = 3 then .illegal
    else .branch f3 rs1 rs2 (sx 13 (ib w 31 31 * 4096 + ib w 7 7 * 2048 + ib w 30 25 * 32 + ib w 11 8 * 2))
  | 0x03 => if f3 = 7 then .illegal else .load f3 rd rs1 immI
  | 0x23 => if 3 < f3 then .illegal else .store f3 rs1 rs2 (sx 12 (f7 * 32 + rd))
  | 0x13 =>
    if f3 = 1 then (if f7 / 2 = 0 then .opImm 1 rd rs1 false (BitVec.ofNat 64 (ib w 25 20)) else .illegal)
    else if f3 = 5 then
      (if f7 / 2 = 0 ∨ f7 / 2 = 0x10 then .opImm 5 rd rs1 (decide (f7 / 2 = 0x10)) (BitVec.ofNat 64 (ib w 25 20)) else .illegal)
    else .opImm f3 rd rs1 false immI
  | 0x1B =>
    if f3 = 0 then .opImmW 0 rd rs1 false immI
    else if f3 = 1 then (if f7 = 0 then .opImmW 1 rd rs1 false (BitVec.ofNat 64 rs2) else .illegal)
    else if f3 = 5 then (if f7 = 0 ∨ f7 = 0x20 then .opImmW 5 rd rs1 (decide (f7 = 0x20)) (BitVec.ofNat 64 rs2) else .illegal)
    else .illegal
  | 0x33 =>
    if f7 = 1 then .mulDiv f3 rd rs1 rs2
    else if f7 = 0 then .op f3 rd rs1 rs2 false
    else if f7 = 0x20 ∧ (f3 = 0 ∨ f3 = 5) then .op f3 rd rs1 rs2 true
    else .illegal
  | 0x3B =>
    if f7 = 1 then (if f3 = 0 ∨ 4 ≤ f3 then .mulDivW f3 rd rs1 rs2 else .illegal)
    else if f7 = 0 ∧ (f3 = 0 ∨ f3 = 1 ∨ f3 = 5) then .opW f3 rd rs1 rs2 false
    else if f7 = 0x20 ∧ (f3 = 0 ∨ f3 = 5) then .opW f3 rd rs1 rs2 true
    else .illegal
  | 0x0F => if f3 = 0 then .fence (ib w 27 24) (ib w 23 20) else if f3 = 1 then .fenceI else .illegal
  | 0x73 =>
    if f3 = 0 then
      (match w with
       | 0x00000073 => .ecall
       | 0x00100073 => .ebreak
       | 0x30200073 => .mret
       | 0x10500073 => .wfi
       | _ => .illegal)
    else if f3 = 4 then .illegal
    else .csr f3 rd rs1 (ib w 31 20)
  | 0x2F =>
    if f3 ≠ 2 ∧ f3 ≠ 3 then .illegal
    else
      let d := decide (f3 = 3)
      let f5 := f7 / 4
      if f5 = 2 then (if rs2 = 0 then .lr rd rs1 d else .illegal)
      else if f5 = 3 then .sc rd rs1 rs2 d
      else if f5 = 1 ∨ f5 % 4 = 0 then .amo f5 rd rs1 rs2 d
      else .illegal
  | 0x0B => if xhearthOk f3 f7 then .x f3 f7 rd rs1 rs2 else .illegal
  | _ => .illegal

/-- A 16-bit instruction as the one it stands for. -/
def rv16 (w : Nat) : Rv :=
  let rd := ib w 11 7
  let rs2 := ib w 6 2
  let rdp := 8 + ib w 4 2
  let rsp := 8 + ib w 9 7
  let imm6 := sx 6 (ib w 12 12 * 32 + ib w 6 2)
  let sh : W64 := BitVec.ofNat 64 (ib w 12 12 * 32 + ib w 6 2)
  let u (n : Nat) : W64 := BitVec.ofNat 64 n
  match w % 4, ib w 15 13 with
  | 0, 0 =>
    let i := ib w 10 7 * 64 + ib w 12 11 * 16 + ib w 5 5 * 8 + ib w 6 6 * 4
    if i = 0 then .illegal else .opImm 0 rdp 2 false (u i)
  | 0, 2 => .load 2 rdp rsp (u (ib w 5 5 * 64 + ib w 12 10 * 8 + ib w 6 6 * 4))
  | 0, 3 => .load 3 rdp rsp (u (ib w 6 5 * 64 + ib w 12 10 * 8))
  | 0, 6 => .store 2 rsp rdp (u (ib w 5 5 * 64 + ib w 12 10 * 8 + ib w 6 6 * 4))
  | 0, 7 => .store 3 rsp rdp (u (ib w 6 5 * 64 + ib w 12 10 * 8))
  | 1, 0 => .opImm 0 rd rd false imm6
  | 1, 1 => if rd = 0 then .illegal else .opImmW 0 rd rd false imm6
  | 1, 2 => .opImm 0 rd 0 false imm6
  | 1, 3 =>
    if ib w 12 12 * 32 + ib w 6 2 = 0 then .illegal
    else if rd = 2 then .opImm 0 2 2 false (sx 10 (ib w 12 12 * 512 + ib w 4 3 * 128 + ib w 5 5 * 64 + ib w 2 2 * 32 + ib w 6 6 * 16))
    else .lui rd (sx 18 ((ib w 12 12 * 32 + ib w 6 2) * 4096))
  | 1, 4 =>
    (match ib w 11 10 with
     | 0 => .opImm 5 rsp rsp false sh
     | 1 => .opImm 5 rsp rsp true sh
     | 2 => .opImm 7 rsp rsp false imm6
     | _ =>
       match ib w 12 12, ib w 6 5 with
       | 0, 0 => .op 0 rsp rsp rdp true
       | 0, 1 => .op 4 rsp rsp rdp false
       | 0, 2 => .op 6 rsp rsp rdp false
       | 0, 3 => .op 7 rsp rsp rdp false
       | 1, 0 => .opW 0 rsp rsp rdp true
       | 1, 1 => .opW 0 rsp rsp rdp false
       | _, _ => .illegal)
  | 1, 5 =>
    .jal 0 (sx 12 (ib w 12 12 * 2048 + ib w 8 8 * 1024 + ib w 10 9 * 256 + ib w 6 6 * 128 + ib w 7 7 * 64 + ib w 2 2 * 32 + ib w 11 11 * 16
      + ib w 5 3 * 2))
  | 1, 6 => .branch 0 rsp 0 (sx 9 (ib w 12 12 * 256 + ib w 6 5 * 64 + ib w 2 2 * 32 + ib w 11 10 * 8 + ib w 4 3 * 2))
  | 1, 7 => .branch 1 rsp 0 (sx 9 (ib w 12 12 * 256 + ib w 6 5 * 64 + ib w 2 2 * 32 + ib w 11 10 * 8 + ib w 4 3 * 2))
  | 2, 0 => .opImm 1 rd rd false sh
  | 2, 2 => if rd = 0 then .illegal else .load 2 rd 2 (u (ib w 3 2 * 64 + ib w 12 12 * 32 + ib w 6 4 * 4))
  | 2, 3 => if rd = 0 then .illegal else .load 3 rd 2 (u (ib w 4 2 * 64 + ib w 12 12 * 32 + ib w 6 5 * 8))
  | 2, 4 =>
    if ib w 12 12 = 0 then (if rs2 = 0 then (if rd = 0 then .illegal else .jalr 0 rd 0) else .op 0 rd 0 rs2 false)
    else if rs2 = 0 then (if rd = 0 then .ebreak else .jalr 1 rd 0)
    else .op 0 rd rd rs2 false
  | 2, 6 => .store 2 2 rs2 (u (ib w 8 7 * 64 + ib w 12 9 * 4))
  | 2, 7 => .store 3 2 rs2 (u (ib w 9 7 * 64 + ib w 12 10 * 8))
  | _, _ => .illegal

/-- The registers an instruction reads. -/
def Rv.reads : Rv → List Nat
  | .jalr _ a _ | .load _ _ a _ | .opImm _ _ a _ _ | .opImmW _ _ a _ _ | .lr _ a _ => [a]
  | .branch _ a b _ | .store _ a b _ | .op _ _ a b _ | .opW _ _ a b _ | .mulDiv _ _ a b | .mulDivW _ _ a b | .amo _ _ a b _ | .sc _ a b _
  | .x _ _ _ a b => [a, b]
  | .csr f3 _ a _ => if f3 < 4 then [a] else []
  | _ => []

/-- Whether an instruction has release ordering: an AMO, LR or SC with rl set in its word (R239). -/
def Rv.releases (bits : Nat) : Rv → Bool
  | .amo _ _ _ _ _ => bits.testBit 25
  | .lr _ _ _ => bits.testBit 25
  | .sc _ _ _ _ => bits.testBit 25
  | _ => false

/-! ### Arithmetic -/

/-- A 32-bit result, sign-extended. -/
def sxW (v : BitVec 32) : W64 := v.signExtend 64

/-- ADD, SUB, SLL, SLT, SLTU, XOR, SRL, SRA, OR and AND. -/
def rvAlu (f3 : Nat) (alt : Bool) (a b : W64) : W64 :=
  let n := b.toNat % 64
  match f3 with
  | 0 => if alt then a - b else a + b
  | 1 => a <<< n
  | 2 => if a.toInt < b.toInt then 1 else 0
  | 3 => if a.toNat < b.toNat then 1 else 0
  | 4 => a ^^^ b
  | 5 => if alt then a.sshiftRight n else a >>> n
  | 6 => a ||| b
  | _ => a &&& b

/-- ADDW, SUBW, SLLW, SRLW and SRAW. -/
def rvAluW (f3 : Nat) (alt : Bool) (a b : W64) : W64 :=
  let x : BitVec 32 := a.setWidth 32
  let y : BitVec 32 := b.setWidth 32
  let n := b.toNat % 32
  match f3 with
  | 0 => sxW (if alt then x - y else x + y)
  | 1 => sxW (x <<< n)
  | _ => sxW (if alt then x.sshiftRight n else x >>> n)

/-- The quotient of signed division: −1 for a divisor of zero, the dividend on overflow. -/
def rvDiv (a b : Int) : Int := if b = 0 then -1 else a.tdiv b

/-- The remainder of signed division: the dividend for a divisor of zero. -/
def rvRem (a b : Int) : Int := if b = 0 then a else a.tmod b

/-- MUL, MULH, MULHSU, MULHU, DIV, DIVU, REM and REMU. -/
def rvMul (f3 : Nat) (a b : W64) : W64 :=
  match f3 with
  | 0 => a * b
  | 1 => BitVec.ofInt 64 (a.toInt * b.toInt / 2 ^ 64)
  | 2 => BitVec.ofInt 64 (a.toInt * (b.toNat : Int) / 2 ^ 64)
  | 3 => BitVec.ofNat 64 (a.toNat * b.toNat / 2 ^ 64)
  | 4 => BitVec.ofInt 64 (rvDiv a.toInt b.toInt)
  | 5 => if b = 0 then BitVec.allOnes 64 else BitVec.ofNat 64 (a.toNat / b.toNat)
  | 6 => BitVec.ofInt 64 (rvRem a.toInt b.toInt)
  | _ => if b = 0 then a else BitVec.ofNat 64 (a.toNat % b.toNat)

/-- MULW, DIVW, DIVUW, REMW and REMUW. -/
def rvMulW (f3 : Nat) (a b : W64) : W64 :=
  let x : BitVec 32 := a.setWidth 32
  let y : BitVec 32 := b.setWidth 32
  match f3 with
  | 0 => sxW (x * y)
  | 4 => sxW (BitVec.ofInt 32 (rvDiv x.toInt y.toInt))
  | 5 => sxW (if y = 0 then BitVec.allOnes 32 else BitVec.ofNat 32 (x.toNat / y.toNat))
  | 6 => sxW (BitVec.ofInt 32 (rvRem x.toInt y.toInt))
  | _ => sxW (if y = 0 then x else BitVec.ofNat 32 (x.toNat % y.toNat))

/-- Whether a branch is taken. -/
def rvTaken (f3 : Nat) (a b : W64) : Bool :=
  match f3 with
  | 0 => decide (a = b)
  | 1 => decide (a ≠ b)
  | 4 => decide (a.toInt < b.toInt)
  | 5 => decide (b.toInt ≤ a.toInt)
  | 6 => decide (a.toNat < b.toNat)
  | _ => decide (b.toNat ≤ a.toNat)

/-- Bytes of an access by the low bits of its funct3. -/
def rvBytes (f3 : Nat) : Nat := 2 ^ (f3 % 4)

/-- A loaded value of `n` bytes, sign-extended or zero-extended. -/
def rvExt (n : Nat) (signed : Bool) (v : Nat) : W64 := if signed then sx (8 * n) (v % 2 ^ (8 * n)) else BitVec.ofNat 64 (v % 2 ^ (8 * n))

/-- The number an AMO writes, from the old value and the operand of `n` bytes (funct5 of RV64A). -/
def amoResult (f5 n : Nat) (old v : Nat) : Nat :=
  let m := 2 ^ (8 * n)
  let a := old % m
  let b := v % m
  let lt : Bool := decide (sgn (8 * n) a < sgn (8 * n) b)
  match f5 with
  | 0 => (a + b) % m
  | 1 => b
  | 4 => Nat.xor a b
  | 8 => Nat.lor a b
  | 12 => Nat.land a b
  | 16 => if lt then a else b
  | 20 => if lt then b else a
  | 24 => min a b
  | _ => max a b

/-! ### Control and status registers -/

/-- The bits of mstatus that are held: MIE, MPIE, MPP, MPRV and TW. -/
def mstatusMask : W64 := put 3 3 1 ||| put 7 7 1 ||| put 12 11 3 ||| put 17 17 1 ||| put 21 21 1

/-- Whether a CSR number exists in the Hearth: Machine-mode CSRs of a hart with Machine and User modes, 16 PMP entries, and Xhearth's
(R235, R241). -/
def csrExists (n : Nat) : Bool :=
  decide (n = 0x300 ∨ n = 0x301 ∨ n = 0x304 ∨ n = 0x305 ∨ n = 0x306 ∨ n = 0x30A ∨ n = 0x320) || decide (0x323 ≤ n ∧ n ≤ 0x33F)
    || decide (0x340 ≤ n ∧ n ≤ 0x344) || decide (n = 0x3A0 ∨ n = 0x3A2) || decide (0x3B0 ≤ n ∧ n ≤ 0x3BF) || decide (0x7C0 ≤ n ∧ n ≤ 0x7C4)
    || decide (n = 0xB00) || decide (0xB02 ≤ n ∧ n ≤ 0xB1F) || decide (0xF11 ≤ n ∧ n ≤ 0xF15)

/-- Whether a write of a CSR is legal: its number says so.  Xhearth's read-only ones lie among the writable numbers and ignore writes (R10, R241). -/
def csrWritable (n : Nat) : Bool := decide (n / 1024 ≠ 3)

/-- A byte of pmpcfg as a write leaves it: locked entries keep theirs, and W without R is not taken. -/
def pmpCfgByte (old new : Nat) : Nat := if old.testBit 7 ∨ new % 4 = 2 then old else Nat.land new 0x9F

/-- The bytes of a PMP entry's region: the first and the first after it. -/
def pmpRegion (prev cfg addr : Nat) : Nat × Nat :=
  match cfg / 8 % 4 with
  | 1 => (4 * prev, 4 * addr)
  | 2 => (4 * addr, 4 * addr + 4)
  | 3 =>
    let k := ((List.range 55).find? fun i => !addr.testBit i).getD 54
    (4 * (addr / 2 ^ (k + 1) * 2 ^ (k + 1)), 4 * (addr / 2 ^ (k + 1) * 2 ^ (k + 1)) + 2 ^ (k + 3))
  | _ => (0, 0)

end Sys2Proof.Machine
end

