-- ==== Sys2Proof/Machine/Hearth.lean ====
section
/-!
DEFINITION. The Hearth: fetching, loads, stores and atomics, control and status registers, exceptions and interrupts (R235 to R241, R265, R266, R416).
-/

namespace Sys2Proof.Machine

/-! ### Registers -/

/-- An integer register; x0 reads as zero. -/
def Hearth.reg (h : Hearth) (r : Nat) : W64 := if r % 32 = 0 then 0 else smGet 0 h.x (r % 32)

/-- A CSR held as such. -/
def Hearth.getCsr (h : Hearth) (n : Nat) : W64 := smGet 0 h.csr n

/-- A CSR held as such, set. -/
def Hearth.setCsr (h : Hearth) (n : Nat) (v : W64) : Hearth := { h with csr := smSet 0 h.csr n v }

/-- Whether a Hearth executes: running, not blocked, its Room out of reset, its Suite not in HOLD (R240, R465). -/
def State.hearthCan (s : State) (room : Nat) : Bool :=
  let h := s.hearth room
  h.run && decide (h.block = .no) && !s.dark room && !(match (s.suiteOf room).bind s.suite with | some u => u.holding | none => false)

/-- An instruction retires: its result, the next pc, and the event that the Damper cell counts (R483). -/
def State.rvRetire (s : State) (room rd : Nat) (v pc : W64) : State :=
  (s.modHearth room fun h =>
    { h with x := if rd % 32 = 0 then h.x else smSet 0 h.x (rd % 32) v, pc, block := .no, instret := h.instret + 1 }).dmpCount room 7 1

/-- An instruction without a result retires. -/
def State.rvNext (s : State) (room len : Nat) : State := s.rvRetire room 0 0 ((s.hearth room).pc + BitVec.ofNat 64 len)

/-- A trap into Machine mode; an exception is shown in HRT_TRAP and raises HRT_EXCEPTION (R241, R264, R266). -/
def State.hearthTrap (s : State) (room cause : Nat) (tval : W64) (interrupt : Bool) : State :=
  let s := s.modHearth room fun h =>
    let st := h.getCsr 0x300
    let tv := h.getCsr 0x305
    let base := tv &&& ~~~ maskOf 1 0
    let h := h.setCsr 0x300 (setFld (setFld (setFld st 7 7 (fld st 3 3)) 3 3 0) 12 11 (if h.machine then 3 else 0))
    let h := ((h.setCsr 0x341 h.pc).setCsr 0x342 (put 63 63 (b2n interrupt) ||| put 62 0 cause)).setCsr 0x343 tval
    { h with machine := true, block := .no, pc := if interrupt ∧ fld tv 1 0 = 1 then base + BitVec.ofNat 64 (4 * cause) else base }
  if interrupt then s else (s.wr (hrt room) 0x098 (put 63 56 cause ||| put 47 0 tval.toNat)).raise (hrt room) 0 false

/-! ### Physical memory protection -/

/-- The configuration byte and the address of a PMP entry. -/
def Hearth.pmpCfg (h : Hearth) (i : Nat) : Nat := lane 8 (h.getCsr (0x3A0 + 2 * (i / 8))) (i % 8)
def Hearth.pmpAddr (h : Hearth) (i : Nat) : Nat := (h.getCsr (0x3B0 + i)).toNat

/-- Whether the PMP allows an access of `n` bytes: the lowest entry that matches a byte must match all, and decides; `need` is 0 read, 1 write, 2
execute. -/
def Hearth.pmpOk (h : Hearth) (machine : Bool) (a n need : Nat) : Bool :=
  let region (i : Nat) : Nat × Nat := pmpRegion (if i = 0 then 0 else h.pmpAddr (i - 1)) (h.pmpCfg i) (h.pmpAddr i)
  match (List.range 16).find? fun i => decide ((region i).1 < a + n) && decide (a < (region i).2) with
  | none => machine
  | some i =>
    decide ((region i).1 ≤ a) && decide (a + n ≤ (region i).2) && ((machine && !(h.pmpCfg i).testBit 7) || (h.pmpCfg i).testBit need)

/-- The mode whose rights a load or a store has: MPP's while MPRV is set. -/
def Hearth.dataMode (h : Hearth) : Bool := if h.machine && tst (h.getCsr 0x300) 17 then decide (fld (h.getCsr 0x300) 12 11 = 3) else h.machine

/-! ### Fetching -/

/-- A parcel of 16 bits at an address, through the instruction buffer; otherwise the cause of an exception (R216, R237). -/
def State.fetchHalf (s : State) (room a : Nat) : State × Bool × Nat :=
  let h := s.hearth room
  if !h.pmpOk h.machine a 2 2 then (s, false, 1)
  else if !ownShelf room a ∨ 2 ^ 48 ≤ a ∨ 0x300000 ≤ a % 0x400000 then (s, false, 1)
  else
    let line := a % 0x400000 / 64
    let e := smGet (0, []) h.ibuf (line % 256)
    let half (ws : List W64) : Nat := lane 16 (ws.getD (a % 64 / 8) 0) (a % 8 / 2)
    if e.1 = line ∧ e.2 ≠ [] then (s, true, half e.2)
    else
      let r := s.shelfLd room (64 * line) 64 0x40
      if !r.2.2 then (r.1, false, 5)
      else
        let ws := (List.range 8).map fun k => BitVec.ofNat 64 (leOf ((r.2.1.drop (8 * k)).take 8))
        (r.1.modHearth room fun h => { h with ibuf := smSet (0, []) h.ibuf (line % 256) (line, ws) }, true, half ws)

/-- The instruction at the pc with its length, or an exception with its cause and address. -/
inductive Fetched where
  | ok (op : Rv) (bits len : Nat)
  | trap (cause addr : Nat)
  deriving DecidableEq, Repr

/-- The instruction at the pc. -/
def State.fetch (s : State) (room : Nat) : State × Fetched :=
  let pc := (s.hearth room).pc.toNat
  let a := s.fetchHalf room pc
  if !a.2.1 then (a.1, .trap a.2.2 pc)
  else if a.2.2 % 4 ≠ 3 then (a.1, .ok (rv16 a.2.2) a.2.2 2)
  else
    let b := a.1.fetchHalf room (pc + 2)
    if !b.2.1 then (b.1, .trap b.2.2 (pc + 2)) else (b.1, .ok (rv32 (a.2.2 + 65536 * b.2.2)) (a.2.2 + 65536 * b.2.2) 4)

/-- A parity error of a register or of the instruction buffer: the Hearth halts before the instruction retires, and the Suite halts (R416). -/
def State.hearthParity (s : State) (room : Nat) (injected : Bool) : State :=
  (s.modHearth room fun h => { h with run := false }).cvuError room 6 0x07 5 0 0 injected

/-- Whether a remote write of the Hearth awaits its acknowledgement (R239). -/
def State.hearthWrites (s : State) (room : Nat) : Bool :=
  s.outst.any fun o => decide (o.src = eidRoom room 4) && (match o.use with | .hearthStore _ => true | .chanMsg _ _ _ => true | _ => false)

/-- The instruction at the pc performed by `k` if it is of the kind `sel`; nothing happens otherwise, nor while one with release ordering waits for the
acknowledgement of earlier remote writes.  `par` says that a parity error is found in what it reads (R239, R416). -/
def State.hearthRun (s : State) (room : Nat) (par : Bool) (sel : Rv → Bool) (k : State → Rv → Nat → Nat → State) : State :=
  if !s.hearthCan room then s
  else
    let f := s.fetch room
    match f.2 with
    | .trap c a => if sel .illegal then f.1.hearthTrap room c (BitVec.ofNat 64 a) false else s
    | .ok op bits len =>
      if !sel op ∨ (op.releases bits = true ∧ f.1.hearthWrites room = true) then s
      else
        let inj := s.isArmed (rp .cvu room) 6 && op.reads.any fun r => r ≠ 0
        if par ∨ inj then (if inj then f.1.disarm (rp .cvu room) 6 else f.1).hearthParity room inj
        else k f.1 op bits len

/-- An illegal instruction. -/
def State.rvIllegal (s : State) (room bits : Nat) : State := s.hearthTrap room 2 (BitVec.ofNat 64 bits) false

/-! ### Memory -/

/-- A load (R236). -/
def State.rvLoad (s : State) (room f3 rd len : Nat) (addr : W64) : State :=
  let h := s.hearth room
  let a := addr.toNat
  let n := rvBytes f3
  let signed := decide (f3 < 4)
  let pc := h.pc + BitVec.ofNat 64 len
  if a % n ≠ 0 then s.hearthTrap room 4 addr false
  else if !h.pmpOk h.dataMode a n 0 then s.hearthTrap room 5 addr false
  else if 2 ^ 48 ≤ a then (s.noteShelfUnmapped room 0 0x40).rvRetire room rd 0 pc
  else if ownShelf room a then
    let r := s.shelfLd room (a % 0x400000) n 0x40
    if r.2.2 then r.1.rvRetire room rd (rvExt n signed (leOf r.2.1)) pc else r.1.hearthTrap room 5 addr false
  else
    match s.targetOf room a with
    | none => (s.noteShelfUnmapped room 0 0x40).rvRetire room rd 0 pc
    | some dst =>
      let s := s.request room (mkRead dst (eidRoom room 4) (s.suiteId room) (a / 8 * 8) 8) (.hearthLoad room rd n signed a len)
      (s.dmpCount room 7 1).modHearth room fun h => { h with block := .reply }

/-- A store; one to another place is posted (R236). -/
def State.rvStore (s : State) (room f3 len : Nat) (addr v : W64) : State :=
  let h := s.hearth room
  let a := addr.toNat
  let n := rvBytes f3
  let data := leTo n v.toNat
  if a % n ≠ 0 then s.hearthTrap room 6 addr false
  else if !h.pmpOk h.dataMode a n 1 then s.hearthTrap room 7 addr false
  else if 2 ^ 48 ≤ a then (s.noteShelfUnmapped room 0 0x40).rvNext room len
  else if ownShelf room a then (s.shelfSt room (a % 0x400000) 0x40 data).1.rvNext room len
  else
    match s.targetOf room a with
    | none => (s.noteShelfUnmapped room 0 0x40).rvNext room len
    | some dst => (s.request room (mkWrite dst (eidRoom room 4) (s.suiteId room) a data) (.hearthStore room)).rvNext room len

/-- An AMO: one read-modify-write of the own Shelf, a Hall ATOMIC to another Room's, and an exception elsewhere (R238). -/
def State.rvAmo (s : State) (room f5 rd : Nat) (dword : Bool) (addr v : W64) : State :=
  let h := s.hearth room
  let a := addr.toNat
  let n := if dword then 8 else 4
  let pc := h.pc + 4
  if a % n ≠ 0 then s.hearthTrap room 6 addr false
  else if !h.pmpOk h.dataMode a n 0 ∨ !h.pmpOk h.dataMode a n 1 then s.hearthTrap room 7 addr false
  else if 2 ^ 48 ≤ a then (s.noteShelfUnmapped room 0 0x40).rvRetire room rd 0 pc
  else if ownShelf room a then
    let off := a % 0x400000
    let gone := decide (0x300000 ≤ off) || s.shelfDark room off
    let r := s.shelfLd room off n 0x40
    if !r.2.2 then r.1.hearthTrap room 5 addr false
    else
      let old := leOf r.2.1
      let s := if gone then r.1 else (r.1.shelfSt room off 0x40 (leTo n (amoResult f5 n old v.toNat))).1
      s.rvRetire room rd (rvExt n true old) pc
  else
    match s.decodeEa a with
    | .none_ => (s.noteShelfUnmapped room 0 0x40).rvRetire room rd 0 pc
    | .shelf r _ =>
      let p : Pkt := { Pkt.mk0 4 (eidRoom r 1) (eidRoom room 4) (s.suiteId room) with
        addr := a, w2 := put 8 8 (b2n dword) ||| put 4 0 f5, len := 8, data := leTo 8 v.toNat }
      ((s.request room p (.hearthAmo room rd n a)).dmpCount room 7 1).modHearth room fun h => { h with block := .reply }
    | _ => s.hearthTrap room 7 addr false

/-- LR: the own Shelf is read and reserved; elsewhere it is a load that reserves nothing (R238). -/
def State.rvLr (s : State) (room rd : Nat) (dword : Bool) (addr : W64) : State :=
  let n := if dword then 8 else 4
  let a := addr.toNat
  let s := s.modHearth room fun h => { h with resv := none }
  let t := s.rvLoad room (if dword then 3 else 2) rd 4 addr
  if ownShelf room a ∧ a < 2 ^ 48 ∧ a % n = 0 ∧ (t.hearth room).instret ≠ (s.hearth room).instret then
    t.modHearth room fun h => { h with resv := some (a % 0x400000, n) }
  else t

/-- SC: it stores where the reservation holds, and fails anywhere outside the own Shelf (R238). -/
def State.rvSc (s : State) (room rd : Nat) (dword : Bool) (addr v : W64) : State :=
  let h := s.hearth room
  let a := addr.toNat
  let n := if dword then 8 else 4
  let pc := h.pc + 4
  let fail (s : State) : State := (s.modHearth room fun h => { h with resv := none }).rvRetire room rd 1 pc
  if a % n ≠ 0 then s.hearthTrap room 6 addr false
  else if !h.pmpOk h.dataMode a n 1 then s.hearthTrap room 7 addr false
  else if !ownShelf room a ∨ 2 ^ 48 ≤ a ∨ h.resv ≠ some (a % 0x400000, n) then fail s
  else
    let s := (s.shelfSt room (a % 0x400000) 0x40 (leTo n v.toNat)).1
    (s.modHearth room fun h => { h with resv := none }).rvRetire room rd 0 pc


/-! ### Replies -/

/-- The reply to a load of another place: its value, or the access fault of a NACK (R236, R284, R285). -/
def State.hearthLoaded (s : State) (room rd n : Nat) (signed : Bool) (a len : Nat) (p : Pkt) : State :=
  if (s.hearth room).block ≠ .reply then s
  else if p.typ = 9 then s.hearthTrap room 5 (BitVec.ofNat 64 a) false
  else
    let s := if p.status = 1 then s.noteShelfUnmapped room 0 0x40 else s
    s.modHearth room fun h =>
      { h with x := if rd % 32 = 0 then h.x else smSet 0 h.x (rd % 32) (rvExt n signed (leOf ((p.data.drop (a % 8)).take n)))
               pc := h.pc + BitVec.ofNat 64 len, block := .no, instret := h.instret + 1 }

/-- The reply to an ATOMIC: the old value, or the access fault of a NACK (R238, R284). -/
def State.hearthAmoDone (s : State) (room rd n a : Nat) (p : Pkt) : State :=
  if (s.hearth room).block ≠ .reply then s
  else if p.typ = 9 then s.hearthTrap room 7 (BitVec.ofNat 64 a) false
  else
    let s := if p.status = 1 then s.noteShelfUnmapped room 0 0x40 else s
    s.hearthRet room rd (rvExt n true (leOf (p.data.take n)))

/-- The reply to an LT.WAIT at another Room: its outcome, or the access fault of a NACK (R285, R325). -/
def State.hearthWaited (s : State) (room rd : Nat) (p : Pkt) : State :=
  if (s.hearth room).block ≠ .latch then s
  else if p.typ = 9 then s.hearthTrap room 5 0 false
  else s.hearthRet room rd (BitVec.ofNat 64 (leOf (p.data.take 1)))

/-- A refused posted write (R236, R285). -/
def State.hearthNacked (s : State) (room : Nat) : State := s.raise (hrt room) 1 false

/-! ### Control and status registers -/

/-- mip: channels, bounces, Dumbwaiter and Stockpot events pending (R241). -/
def State.hearthMip (s : State) (room : Nat) : W64 :=
  let ev (p : PageRef) (hi lo : Nat) : Bool := decide (fld (s.rd p 0x028 &&& s.rd p 0x030) hi lo ≠ 0)
  put 16 16 (b2n (s.chanPending room)) ||| put 17 17 (b2n (s.bouncePending room)) ||| put 18 18 (b2n (ev (rp .dwt room) 15 8))
    ||| put 19 19 (b2n (ev (rp .stp room) 3 3))

/-- What a CSR other than hpdata reads as. -/
def State.csrVal (s : State) (room n : Nat) : W64 :=
  let h := s.hearth room
  if n = 0x300 then h.getCsr n ||| put 33 32 2
  else if n = 0x301 then put 63 62 2 ||| put 20 20 1 ||| put 12 12 1 ||| put 8 8 1 ||| put 2 2 1 ||| put 0 0 1
  else if n = 0x344 then s.hearthMip room
  else if n = 0x7C4 then put 63 63 (b2n (s.isLead room)) ||| put 21 16 (s.suiteId room) ||| put 13 0 room
  else if n = 0xB00 then h.cycle
  else if n = 0xB02 then h.instret
  else if n = 0xF14 then BitVec.ofNat 64 room
  else if 0xF11 ≤ n ∧ n ≤ 0xF15 then Config.hearthId n
  else h.getCsr n

/-- A CSR other than hpdata written: fields that are not held stay zero, and an illegal value of a field leaves it. -/
def Hearth.writeCsr (h : Hearth) (n : Nat) (v : W64) : Hearth :=
  if n = 0x300 then
    let v := v &&& mstatusMask
    h.setCsr n (if fld v 12 11 = 0 ∨ fld v 12 11 = 3 then v else setFld v 12 11 (fld (h.getCsr n) 12 11))
  else if n = 0x304 then h.setCsr n (v &&& maskOf 19 16)
  else if n = 0x305 then h.setCsr n (if fld v 1 0 < 2 then v else setFld v 1 0 (fld (h.getCsr n) 1 0))
  else if n = 0x340 ∨ n = 0x342 ∨ n = 0x343 then h.setCsr n v
  else if n = 0x341 then h.setCsr n (clrBit v 0)
  else if n = 0x3A0 ∨ n = 0x3A2 then h.setCsr n (ofLanes 8 ((List.range 8).map fun k => pmpCfgByte (lane 8 (h.getCsr n) k) (lane 8 v k)))
  else if 0x3B0 ≤ n ∧ n ≤ 0x3BF then
    let i := n - 0x3B0
    let tor := decide (i < 15) && (h.pmpCfg (i + 1)).testBit 7 && decide (h.pmpCfg (i + 1) / 8 % 4 = 1)
    if (h.pmpCfg i).testBit 7 ∨ tor then h else h.setCsr n (v &&& maskOf 53 0)
  else if n = 0x7C2 then h.setCsr n (v &&& maskOf 15 3)
  else if n = 0xB00 then { h with cycle := v }
  else if n = 0xB02 then { h with instret := v }
  else h

/-- The value a CSR instruction writes. -/
def csrNew (f3 : Nat) (old src : W64) : W64 := match f3 % 4 with | 1 => src | 2 => old ||| src | _ => old &&& ~~~ src

/-- A CSR instruction on hpdata: the register of the own Room that hpaddr names, under page access control (R241, R615). -/
def State.rvHpdata (s : State) (room f3 rd : Nat) (src : W64) (reads writes : Bool) : State :=
  let h := s.hearth room
  let ha := h.getCsr 0x7C2
  let slot := fld ha 15 12
  let off := 8 * fld ha 11 3
  let pac := s.rd pch (0x100 + 8 * s.suiteId room)
  let a : BarAt := ⟨rp (roomPage slot) room, 2, room, off⟩
  if reads ∧ (!tst pac (16 + slot) ∨ off = 0x038) then s.hearthTrap room 5 ha false
  else if writes ∧ (!tst pac slot ∨ off = 0x038) then s.hearthTrap room 7 ha false
  else
    let old := s.barRead a
    let s := (if reads then s.readClear a else s).rvRetire room rd old (h.pc + 4)
    if writes then s.pageSet a (csrNew f3 old src) true else s

/-- A CSR instruction (R235, R241). -/
def State.rvCsr (s : State) (room f3 rd rs1 n bits : Nat) : State :=
  let h := s.hearth room
  let src := if f3 < 4 then h.reg rs1 else BitVec.ofNat 64 rs1
  let writes := decide (f3 % 4 = 1) || decide (rs1 ≠ 0)
  let reads := !(decide (f3 % 4 = 1) && decide (rd = 0))
  if !h.machine ∨ !csrExists n ∨ (writes = true ∧ csrWritable n = false) then s.rvIllegal room bits
  else if n = 0x7C3 then s.rvHpdata room f3 rd src reads writes
  else
    let old := s.csrVal room n
    let t := s.rvRetire room rd old (h.pc + 4)
    if writes then t.modHearth room fun h => h.writeCsr n (csrNew f3 (if n = 0x300 then old &&& mstatusMask else old) src) else t

/-! ### Execution -/

/-- MRET. -/
def State.rvMret (s : State) (room bits : Nat) : State :=
  let h := s.hearth room
  if !h.machine then s.rvIllegal room bits
  else
    let st := h.getCsr 0x300
    let m := decide (fld st 12 11 = 3)
    let st' := setFld (setFld (setFld st 3 3 (fld st 7 7)) 7 7 1) 12 11 0
    let h' := h.setCsr 0x300 (if m then st' else clrBit st' 17)
    (s.modHearth room fun _ => { h' with machine := m }).rvRetire room 0 0 (h.getCsr 0x341)

/-- WFI: the Hearth waits until an enabled interrupt is pending; in User mode with TW set it is illegal. -/
def State.rvWfi (s : State) (room bits : Nat) : State :=
  let h := s.hearth room
  if !h.machine ∧ tst (h.getCsr 0x300) 21 then s.rvIllegal room bits
  else if s.hearthMip room &&& h.getCsr 0x304 ≠ 0 then s.rvNext room 4
  else s.modHearth room fun h => { h with block := .wfi }

/-- FENCE: with writes in its predecessor set it waits for the acknowledgement of every earlier remote write (R239). -/
def State.rvFence (s : State) (room pred : Nat) : State := if pred % 2 = 1 ∧ s.hearthWrites room then s else s.rvNext room 4

/-- FENCE.I: every line of the instruction buffer is invalid (R237). -/
def State.rvFenceI (s : State) (room : Nat) : State := (s.modHearth room fun h => { h with ibuf := [] }).rvNext room 4

/-- A load, store, AMO, LR, SC or fence performed; anything else leaves the state. -/
def State.rvMemOp (s : State) (room : Nat) (op : Rv) (len : Nat) : State :=
  let h := s.hearth room
  match op with
  | .load f3 rd rs1 off => s.rvLoad room f3 rd len (h.reg rs1 + off)
  | .store f3 rs1 rs2 off => s.rvStore room f3 len (h.reg rs1 + off) (h.reg rs2)
  | .amo f5 rd rs1 rs2 d => s.rvAmo room f5 rd d (h.reg rs1) (h.reg rs2)
  | .lr rd rs1 d => s.rvLr room rd d (h.reg rs1)
  | .sc rd rs1 rs2 d => s.rvSc room rd d (h.reg rs1) (h.reg rs2)
  | .fence p _ => s.rvFence room p
  | .fenceI => s.rvFenceI room
  | _ => s

/-- Any instruction of RV64IMAC, Zicsr or Zifencei performed (R235). -/
def State.rvExec (s : State) (room : Nat) (op : Rv) (bits len : Nat) : State :=
  let h := s.hearth room
  let pc := h.pc + BitVec.ofNat 64 len
  match op with
  | .lui rd i => s.rvRetire room rd i pc
  | .auipc rd i => s.rvRetire room rd (h.pc + i) pc
  | .jal rd off => s.rvRetire room rd pc (h.pc + off)
  | .jalr rd rs1 off => s.rvRetire room rd pc (clrBit (h.reg rs1 + off) 0)
  | .branch f3 a b off => s.rvRetire room 0 0 (if rvTaken f3 (h.reg a) (h.reg b) then h.pc + off else pc)
  | .opImm f3 rd rs1 alt i => s.rvRetire room rd (rvAlu f3 alt (h.reg rs1) i) pc
  | .opImmW f3 rd rs1 alt i => s.rvRetire room rd (rvAluW f3 alt (h.reg rs1) i) pc
  | .op f3 rd a b alt => s.rvRetire room rd (rvAlu f3 alt (h.reg a) (h.reg b)) pc
  | .opW f3 rd a b alt => s.rvRetire room rd (rvAluW f3 alt (h.reg a) (h.reg b)) pc
  | .mulDiv f3 rd a b => s.rvRetire room rd (rvMul f3 (h.reg a) (h.reg b)) pc
  | .mulDivW f3 rd a b => s.rvRetire room rd (rvMulW f3 (h.reg a) (h.reg b)) pc
  | .ecall => s.hearthTrap room (if h.machine then 11 else 8) 0 false
  | .ebreak => s.hearthTrap room 3 h.pc false
  | .mret => s.rvMret room bits
  | .wfi => s.rvWfi room bits
  | .csr f3 rd rs1 n => s.rvCsr room f3 rd rs1 n bits
  | .illegal => s.rvIllegal room bits
  | .x _ _ _ _ _ => s
  | op => s.rvMemOp room op len

/-- Whether an instruction is one of Xhearth's. -/
def Rv.isX : Rv → Bool
  | .x _ _ _ _ _ => true
  | _ => false

/-- HEARTH_INSTRUCTION: the Hearth of a Room executes the instruction at its pc, whichever of RV64IMAC, Zicsr and Zifencei it is, or takes its
exception; `par` says that the parity of what it reads is wrong (R235, R416). -/
def execHearthInstruction (room : Nat) (par : Bool) (s : State) : Host.Outcome State Fault Refusal :=
  .next (s.hearthRun room par (fun op => !op.isX) fun s op bits len => s.rvExec room op bits len)

/-- HEARTH_LOAD: the load at the pc (R236). -/
def execHearthLoad (room : Nat) (s : State) : Host.Outcome State Fault Refusal :=
  .next (s.hearthRun room false (fun op => match op with | .load _ _ _ _ => true | _ => false) fun s op _ len => s.rvMemOp room op len)

/-- HEARTH_STORE: the store at the pc (R236). -/
def execHearthStore (room : Nat) (s : State) : Host.Outcome State Fault Refusal :=
  .next (s.hearthRun room false (fun op => match op with | .store _ _ _ _ => true | _ => false) fun s op _ len => s.rvMemOp room op len)

/-- HEARTH_AMO: the AMO at the pc (R238). -/
def execHearthAmo (room : Nat) (s : State) : Host.Outcome State Fault Refusal :=
  .next (s.hearthRun room false (fun op => match op with | .amo _ _ _ _ _ => true | _ => false) fun s op _ len => s.rvMemOp room op len)

/-- HEARTH_SC: the LR or SC at the pc (R238). -/
def execHearthSc (room : Nat) (s : State) : Host.Outcome State Fault Refusal :=
  .next (s.hearthRun room false (fun op => match op with | .sc _ _ _ _ => true | .lr _ _ _ => true | _ => false)
    fun s op _ len => s.rvMemOp room op len)

/-- HEARTH_FENCE: the FENCE at the pc, which stays there while it waits (R239). -/
def execHearthFence (room : Nat) (s : State) : Host.Outcome State Fault Refusal :=
  .next (s.hearthRun room false (fun op => match op with | .fence _ _ => true | _ => false) fun s op _ len => s.rvMemOp room op len)

/-- FENCE_I: the FENCE.I at the pc (R237). -/
def execFenceI (room : Nat) (s : State) : Host.Outcome State Fault Refusal :=
  .next (s.hearthRun room false (fun op => match op with | .fenceI => true | _ => false) fun s op _ len => s.rvMemOp room op len)

/-- HEARTH_INTERRUPT: a pending and enabled interrupt cause ends a WFI, and is taken where interrupts are enabled (R241, R243). -/
def execHearthInterrupt (room cause : Nat) (s : State) : Host.Outcome State Fault Refusal :=
  let h := s.hearth room
  let held : Bool := match (s.suiteOf room).bind s.suite with | some u => u.holding | none => false
  if !h.run ∨ s.dark room ∨ held ∨ !tst (s.hearthMip room &&& h.getCsr 0x304) cause ∨ (h.block ≠ .no ∧ h.block ≠ .wfi) then .next s
  else
    let s := if h.block = .wfi then s.rvNext room 4 else s
    .next (if !h.machine ∨ tst (h.getCsr 0x300) 3 then s.hearthTrap room cause 0 true else s)

end Sys2Proof.Machine
end

