-- ==== Sys2Proof/Machine/Xhearth.lean ====
section
/-!
DEFINITION. The Xhearth instructions of the Hearth (R242, R243, R248, R252 to R255, R258, R324, R325).
-/

namespace Sys2Proof.Machine

/-- Whether Xhearth may run: in Machine mode, or in User mode with HRT_CTRL.XU (R243). -/
def State.xOk (s : State) (room : Nat) : Bool := (s.hearth room).machine || tst (s.rd (hrt room) 0x080) 1

/-- The Xhearth instruction at the pc performed by `k`, given rd and the values of rs1 and rs2, if it has the funct3 and funct7 asked for; in User
mode without XU, or where `pre` fails, it is illegal (R242, R243). -/
def State.xRun (s : State) (room f3 f7 : Nat) (pre : Bool) (k : State → Nat → W64 → W64 → State) : State :=
  s.hearthRun room false (fun op => match op with | .x a b _ _ _ => a = f3 && b = f7 | _ => false) fun s op bits _ =>
    match op with
    | .x _ _ rd rs1 rs2 => if s.xOk room ∧ pre = true then k s rd ((s.hearth room).reg rs1) ((s.hearth room).reg rs2) else s.rvIllegal room bits
    | _ => s

/-- An Xhearth instruction retires with a value. -/
def State.xRet (s : State) (room rd : Nat) (v : W64) : State := s.rvRetire room rd v ((s.hearth room).pc + 4)

/-- An Xhearth instruction blocks (R243). -/
def State.xBlock (s : State) (room : Nat) (b : HBlock) : State := (s.dmpCount room 7 1).modHearth room fun h => { h with block := b }

/-- −1. -/
def minusOne : W64 := BitVec.allOnes 64

/-! ### The command stream -/

/-- The Suite whose stream a Hearth performs: its own as the lead Hearth, with the unit in HEARTH mode (R243). -/
def State.csMine (s : State) (room : Nat) : Option Suite :=
  if s.isLead room ∧ tst (s.rd (hrt room) 0x0A0) 5 then s.suite (s.suiteId room) else none

/-- The next entry of the stream read by the Hearth: from a Cellar, or from host memory, whose answer is `data` (R244). -/
def State.csRead (s : State) (u : Suite) (suite : Nat) (data : List W64) (fail : Bool) (errs : List Nat) : State × Option (List W64) :=
  let p := u.csPage
  match s.decodeEa ((s.rd p 0x0A8).toNat + 64 * s.rdF p 0x0B0 15 0) with
  | .host _ => (s, if fail || decide (data.length ≠ 8) then none else some data)
  | .cellar st off =>
    let r := s.cellarAccess st off 64 none suite (eidRoom u.lead 4) false errs
    (match r.2 with
     | .ok b => (r.1, some ((List.range 8).map fun k => BitVec.ofNat 64 (leOf ((b.drop (8 * k)).take 8))))
     | _ => (r.1, none))
  | _ => (s.celMiss ((s.rd p 0x0A8).toNat + 64 * s.rdF p 0x0B0 15 0), none)

/-- CS_FETCH: the next entry of the stream is copied into a buffer and CS_HEAD advances; rd is its OP, or −1 where the stream is empty or does not run.
An entry that cannot be read stops the stream, and what rd then holds is open.  `data` and `fail` answer a read of host memory; `errs` are the
page errors of a Cellar (R242 to R244, R248). -/
def execCsFetch (room : Nat) (data : List W64) (fail : Bool) (errs : List Nat) (s : State) : Host.Outcome State Fault Refusal :=
  .next (s.xRun room 0 0 (s.csMine room).isSome fun s rd a _ =>
    match s.csMine room with
    | none => s
    | some u =>
      let p := hrt room
      let i := s.suiteId room
      let cfg := s.rd p 0x0A0
      if !tst cfg 63 ∨ !csSizeOk cfg ∨ s.rdF p 0x0C0 17 16 = 3 ∨ s.rdF p 0x0B0 15 0 = s.rdF p 0x0B8 15 0 then s.xRet room rd minusOne
      else
        let r := s.csRead u i data fail errs
        match r.2 with
        | none =>
          let d := r.1.drawWord
          (d.1.csFail i 0x03).xRet room rd d.2
        | some ws =>
          let s := r.1.shelfStWs room a.toNat 0x40 ws
          let h := (s.rdF p 0x0B0 15 0 + 1) % 2 ^ fld cfg 4 0
          let s := (s.wr p 0x0B0 (BitVec.ofNat 64 h)).modSuite i fun u => { u with fetched := h }
          s.xRet room rd (BitVec.ofNat 64 (fld (ws.getD 0 0) 63 56)))

/-- CS_EXEC: the entry in the Shelf becomes the one the command unit performs next, and the Hearth waits for its completion; a stream that has
stopped answers its CAUSE (R242, R243, R248). -/
def execCsExec (room : Nat) (s : State) : Host.Outcome State Fault Refusal :=
  .next (s.xRun room 0 1 (s.csMine room).isSome fun s rd a _ =>
    match s.csMine room with
    | none => s
    | some _ =>
      let i := s.suiteId room
      if s.rdF (hrt room) 0x0C0 17 16 = 3 then s.xRet room rd (BitVec.ofNat 64 (s.rdF (hrt room) 0x0C0 15 8))
      else
        let r := s.shelfLdWs room a.toNat 0x40 8
        let s := r.1.modSuite i fun u => { u with entries := u.entries ++ [⟨r.2, 0, 0, some rd⟩] }
        (s.csShow i).xBlock room (.exec rd))

/-! ### Channels -/

/-- CH_SEND (R242, R251, R252). -/
def execChSend (room : Nat) (s : State) : Host.Outcome State Fault Refusal :=
  .next (s.xRun room 1 0 true fun s rd a b =>
    let r := s.chSend room a b
    r.1.xRet room rd (BitVec.ofNat 64 r.2))

/-- CH_NEXT: the lowest chosen ring with a record, shown in hring and hmsg; rd is the handler's address, or 0 (R241, R255). -/
def execChNext (room : Nat) (s : State) : Host.Outcome State Fault Refusal :=
  .next (s.xRun room 1 1 true fun s rd a _ =>
    let r := s.chNext room a (List.range 64)
    match r.2 with
    | none => (r.1.modHearth room fun h => h.setCsr 0x7C1 64).xRet room rd 0
    | some (k, off) =>
      let v := (r.1.modHearth room fun h => (h.setCsr 0x7C1 (BitVec.ofNat 64 k)).setCsr 0x7C0 (BitVec.ofNat 64 off)).handlerOf room off
      v.1.xRet room rd v.2)

/-- CH_DONE (R252); an index that names no ring consumes nothing. -/
def execChDone (room : Nat) (s : State) : Host.Outcome State Fault Refusal :=
  .next (s.xRun room 1 2 true fun s _ a _ => (if a.toNat < 64 then s.chDone room a.toNat else s).xRet room 0 0)

/-- CH_OPEN (R242, R253). -/
def execChOpen (room : Nat) (s : State) : Host.Outcome State Fault Refusal :=
  .next (s.xRun room 1 3 true fun s rd a _ =>
    let r := s.chOpen room a
    r.1.xRet room rd (BitVec.ofNat 64 r.2))

/-- CH_CLOSE (R253). -/
def execChClose (room : Nat) (s : State) : Host.Outcome State Fault Refusal :=
  .next (s.xRun room 1 4 true fun s _ a _ => (s.chClose room a).xRet room 0 0)

/-! ### Latches -/

/-- Whether a Latch identifier names the Hearth's own Room (R242). -/
def latchOwn (room : Nat) (a : W64) : Bool := tst a 46 || decide (fld a 45 32 = room)

/-- LT_SIG: an arrival at a global Latch, at a Latch of the own Room as PID 64, or by a page packet at another Room's as the PID claimed
(R242, R318, R324). -/
def execLtSig (room : Nat) (s : State) : Host.Outcome State Fault Refusal :=
  .next (s.xRun room 2 0 true fun s _ a _ =>
    let s :=
      if tst a 8 then s.gArriveRoom (fld a 7 0) room
      else if latchOwn room a then s.latchArrive room (fld a 5 0) 64 false false room
      else
        let dst := fld a 45 32
        s.request room (mkWrite (eidRoom dst 0) (eidRoom room 4) (s.suiteId room) (pageAddr dst 7 0x0A8)
          (leTo 8 (fld a 5 0 + 256 * fld a 30 24))) (.hearthStore room)
    s.xRet room 0 0)

/-- LT_WAIT: a wait at a global Latch, at one of the own Room, or at another Room's by a READ_REQ to its page decoder (R242, R322, R325). -/
def execLtWait (room : Nat) (s : State) : Host.Outcome State Fault Refusal :=
  .next (s.xRun room 2 1 true fun s rd a b =>
    let us := fld b 23 0
    let poll := decide (us = 0)
    let ended (r : State × Option Nat) : State :=
      match r.2 with
      | some o => r.1.xRet room rd (BitVec.ofNat 64 o)
      | none => r.1.xBlock room .latch
    if tst a 8 then ended (s.gWait (fld a 7 0) room (s.suiteId room) (.hearth room rd) us poll)
    else if latchOwn room a then ended (s.latchWait room (fld a 5 0) (.hearth room rd) (some 64) us poll)
    else
      let dst := fld a 45 32
      let p := mkRead (eidRoom dst 0) (eidRoom room 4) (s.suiteId room) (0x70B0 + fld a 5 0 * 2 ^ 16 + us * 2 ^ 24) 8
      (s.request room p (.hearthWait room rd)).xBlock room .latch)

/-! ### The Dumbwaiter -/

/-- DW_PUSH: the descriptor is copied to the ring tail and Q_TAIL advances; rd is its ring index, or −1 where the ring is full (R218, R242). -/
def execDwPush (room : Nat) (s : State) : Host.Outcome State Fault Refusal :=
  .next (s.xRun room 3 0 true fun s rd a b =>
    let q := fld a 2 0
    let t := s.dwTail room q
    let r := s.dwTailWrite room q ((t + 1) % s.dwSize room q)
    if !r.2 ∨ s.dwSize room q < 2 then s.xRet room rd minusOne
    else
      let d := s.shelfLdWs room b.toNat 0x40 8
      let s := (d.1.shelfStWs room (s.dwOff room q t) 0x40 d.2).dwTailWrite room q ((t + 1) % s.dwSize room q)
      s.1.xRet room rd (BitVec.ofNat 64 t))

/-- DW_WAIT: the Hearth waits for an outstanding descriptor; for one that is not, rd is 0xFE where the queue is disabled, else the STATUS that its ring
entry holds (R242). -/
def execDwWait (room : Nat) (s : State) : Host.Outcome State Fault Refusal :=
  .next (s.xRun room 3 1 true fun s rd a b =>
    let q := fld a 2 0
    let idx := fld b 11 0
    if s.dwOutstanding room q idx then s.xBlock room (.dwWait q idx (s.expiry (fld b 55 32)) rd)
    else if !s.dwRuns room q then s.xRet room rd 0xFE
    else
      let r := s.shelfLdW room (s.dwOff room q idx) 0x40
      r.1.xRet room rd (BitVec.ofNat 64 (fld r.2 7 0)))

/-- DW_WAIT_TIMEOUT: a DW.WAIT whose time is over returns 0xFF (R242). -/
def execDwWaitTimeout (room : Nat) (s : State) : Host.Outcome State Fault Refusal :=
  .next (match (s.hearth room).block with
    | .dwWait _ _ t rd => if t ≤ s.et then s.hearthRet room rd 0xFF else s
    | _ => s)

/-! ### Stockpots and the Damper -/

/-- SP_PUT; `bad` says that the residue check of a local combination fails (R242, R258, R415). -/
def execSpPut (room : Nat) (bad : Bool) (s : State) : Host.Outcome State Fault Refusal :=
  .next (s.xRun room 4 0 true fun s rd a b =>
    let r := s.spPut room a b bad
    r.1.xRet room rd (BitVec.ofNat 64 r.2))

/-- STOKE: the Suite's Damper takes a Stoke as from an entry with STEP all-ones (R242, R246). -/
def execStoke (room : Nat) (s : State) : Host.Outcome State Fault Refusal :=
  .next (s.xRun room 4 1 true fun s _ a _ => (s.takeStoke (s.suiteId room) (fld a 23 8) (fld a 7 0)).xRet room 0 0)

end Sys2Proof.Machine
end

