-- ==== Sys2Proof/Machine/Hall.lean ====
section
/-!
DEFINITION. The Hall network: routers, links, slots, merging, delivery and refusals (R272 to R300, R303, R325, R413).

A flight is a packet on its way.  From its injection on a flight keeps its place in the list, so that of two packets of one ordered channel the one
injected first is never behind the other (R291).
-/

namespace Sys2Proof.Machine

/-! ### The words of a packet -/

/-- The four header words of a packet (R282). -/
def Pkt.head (p : Pkt) : List W64 :=
  [put 63 60 p.typ ||| put 59 59 p.epoch ||| put 58 58 p.vc ||| put 57 52 p.suite ||| put 51 51 (b2n p.host) ||| put 49 40 p.len ||| put 39 20 p.dst
      ||| put 19 0 p.src,
   put 63 48 p.tag ||| put 47 0 p.addr,
   p.w2,
   put 63 58 p.age ||| put 57 52 p.mcount ||| (p.w3 &&& maskOf 51 0)]

/-- A packet of its header words and payload bytes (R282). -/
def Pkt.ofHead (h : List W64) (data : List Byte) : Pkt :=
  let a := h.getD 0 0
  let b := h.getD 1 0
  let d := h.getD 3 0
  { typ := fld a 63 60, epoch := fld a 59 59, vc := fld a 58 58, suite := fld a 57 52, host := tst a 51, len := fld a 49 40, dst := fld a 39 20
    src := fld a 19 0, tag := fld b 63 48, addr := fld b 47 0, w2 := h.getD 2 0, w3 := d &&& maskOf 51 0, age := fld d 63 58
    mcount := fld d 57 52, data := data.take (fld a 49 40) }

/-- The words of a packet as it crosses a link: header and payload, padded with zeros (R273, R282). -/
def Pkt.words (p : Pkt) : List W64 := p.head ++ toWords (p.data ++ List.replicate (ceilDiv p.data.length 8 * 8 - p.data.length) 0)

/-- One word checked at a router input, with the wires of `mask` upset: data in bits 63:0, check bits in 71:64 (R274). -/
def linkWordCheck (w : W64) (mask : Nat) : CheckOut :=
  checkToken (flipToken (mkToken w 0 false) (mask % 2 ^ 64 + mask / 2 ^ 64 % 256 * 2 ^ 67))

/-- The words of a packet checked, `flips` giving words with their upset wires: the words that go on with the number corrected, or none where one
cannot be corrected (R274). -/
def linkCheck (ws : List W64) : List (Nat × Nat) → Option (List W64 × Nat)
  | [] => some (ws, 0)
  | (i, m) :: l =>
    if ws.length ≤ i then linkCheck ws l
    else
      (linkWordCheck (ws.getD i 0) m).sort (linkCheck ws l)
        (fun x => (linkCheck (ws.set i (BitVec.ofNat 64 x)) l).map fun r => (r.1, r.2 + 1)) none

/-! ### Events of a router -/

/-- Network of a packet: 0 Request, 1 Reply (R277). -/
def Pkt.net (p : Pkt) : Nat := b2n p.onReply

/-- The word a HAL_WHERE captures (R302). -/
def halWhere (cause port : Nat) (p : Pkt) : W64 :=
  put 63 56 cause ||| put 55 53 port ||| put 52 52 p.net ||| put 51 51 p.vc ||| put 37 32 p.suite ||| put 19 0 p.src

/-- An event of a router with its capture (R302, R303). -/
def State.halEvent (s : State) (room bit port : Nat) (p : Pkt) (injected : Bool) : State :=
  (s.captureStep (hal room) 0x088 (halWhere (bit + 1) port p) 0x090 (s.halStep room)).raise (hal room) bit injected

/-- Flight `k` taken out of the Hall. -/
def State.dropFlight (s : State) (k : Nat) : State := { s with pkts := s.pkts.eraseIdx k }

/-- A NACK sent by a router (R282, R285, R301). -/
def State.routerNack (s : State) (room code : Nat) (p : Pkt) : State :=
  if p.onReply then s else (s.bump (hal room) 0x0A0 63 48 1).routerSend room (p.nack code)

/-- A packet refused by a router: taken out, noted, and answered with a NACK where it asks for a reply network answer (R282, R287, R288). -/
def State.refuse (s : State) (k room port bit code : Nat) (p : Pkt) : State := ((s.dropFlight k).halEvent room bit port p false).routerNack room code p

/-- HALT of every Suite with Rooms in the Wing of either Room (R274). -/
def State.haltWings (s : State) (room other code : Nat) : State :=
  let is := (s.suitesInWing (s.wingOf room) ++ s.suitesInWing (s.wingOf other)).eraseDups
  is.foldl (fun s i => s.sendHalt i room Page.hal.slot code) s

/-- HALL_LINK_UE: the packet is discarded, and the Suites of both Wings halt (R274). -/
def State.linkUe (s : State) (k room up port : Nat) (p : Pkt) (injected : Bool) : State :=
  let s := (s.dropFlight k).halEvent room 1 port p injected
  let s := s.record (hal room) 0x02 1 injected false true (s.suiteId room) noRef (setBit (halWhere 0x02 port p) 31)
  s.haltWings room up (Page.hal.cls * 256 + 0x02)

/-- HALL_SLOT_VIOLATION: captured, raised, recorded, and the Suite halts (R295, R303). -/
def State.slotViolation (s : State) (room port : Nat) (p : Pkt) (injected : Bool) : State :=
  let s := s.captureStep (hal room) 0x088 (halWhere 0x01 port p) 0x090 (s.halStep room)
  s.hitHalt .hal room 0 0x01 injected (setBit (halWhere 0x01 port p) 31)

/-! ### Routing -/

/-- Where a router sends a packet: an output port 0 N, 1 E, 2 S, 3 W, 4 local, 5 edge, or a refusal (R287). -/
def State.hop (s : State) (room : Nat) (p : Pkt) : Option Nat :=
  let d := if eidIsRoom p.dst then eidRoomOf p.dst else s.eavesRoom p.dst
  match s.rtX p.epoch room (roomX d) with
  | 2 => some 1
  | 4 => some 3
  | 0 =>
    (match s.rtY p.epoch room (roomY d) with
     | 1 => some 0
     | 3 => some 2
     | 0 => if d = room then some (if eidIsRoom p.dst then 4 else 5) else none
     | _ => none)
  | _ => none

/-- The Room on the other side of a port, where the link is in use (R286, R302). -/
def State.across (s : State) (v room port : Nat) : Option Nat :=
  if !tst (s.rtLink v room port) 7 then none
  else
    match port with
    | 0 => if 128 ≤ room then some (room - 128) else none
    | 1 => if roomX room < 127 then some (room + 1) else none
    | 2 => if room + 128 < 16384 then some (room + 128) else none
    | _ => if 0 < roomX room then some (room - 1) else none

/-- The port by which a packet that left by a port arrives. -/
def opposite (port : Nat) : Nat := (port + 2) % 4

/-- The hop latency of a link: 2 + W + S + D (R289). -/
def hopLatency (w : W64) : Nat := 2 + (if tst w 2 then 4 else 0) + fld w 6 5 + (if fld w 4 3 = 0 then 0 else 1)

/-- Whether a link carries nothing now: a Wing on it has no clock or power, or the seam it crosses retrains (R519, R539, R569). -/
def State.linkStops (s : State) (v room port other : Nat) : Bool :=
  let w := s.wingOf room
  let x := s.wingOf other
  decide (smGet 0 s.rim.clkStop w ≠ 0) || decide (smGet 0 s.rim.clkStop x ≠ 0) || decide (s.rdF (pwrw x) 0x080 63 61 ≠ 2)
    || (tst (s.rtLink v room port) 2 && s.seamRetraining w port)

/-- The class of destinations that share an ejection FIFO: page decoder, Shelf port and channel port of a Room on the Request network
(R292, R324). -/
def Pkt.fifo (p : Pkt) : Nat :=
  if eidIsRoom p.dst ∧ eidUnit p.dst < 3 ∧ !p.onReply then eidRoom (eidRoomOf p.dst) 0 else p.dst

/-- Whether two packets travel on one ordered channel (R291, R292). -/
def Pkt.sameChannel (p q : Pkt) : Bool :=
  decide (p.net = q.net) && decide (p.vc = q.vc) && decide (p.src = q.src) && decide (p.fifo = q.fifo) && decide (p.epoch = q.epoch)

/-- Whether a flight comes before another of its ordered channel: its own packet does, or one that has been merged into it (R291, R292). -/
def Flight.leads (g : Flight) (p : Pkt) : Bool := g.pkt.sameChannel p || g.also.any fun a => Pkt.sameChannel { g.pkt with src := a } p

/-- Whether an earlier packet of the same ordered channel keeps flight `k` where it is: at the same router, or, for a delivery, anywhere. -/
def State.behind (s : State) (k : Nat) (f : Flight) (deliver : Bool) : Bool :=
  (s.pkts.take k).any fun g => g.leads f.pkt && decide (g.port < 8) && (deliver || (decide (g.room = f.room) && !g.ejected))

/-- Whether an outstanding request's packet still waits for a slot, outside the Hall (R279, R295). -/
def State.slotless (s : State) (o : Outst) : Bool :=
  s.pkts.any fun g => decide (8 ≤ g.port) && decide (g.pkt.src = o.src) && decide (g.pkt.tag = o.tag) && !g.pkt.onReply

/-- Whether 64 requests of a packet's endpoint are outstanding in the Hall before it (R279). -/
def State.overLimit (s : State) (p : Pkt) : Bool :=
  let os := s.outst.filter fun o => decide (o.src = p.src) && (decide (o.tag = p.tag) || !s.slotless o)
  match os.findIdx? fun o => o.tag = p.tag with | some i => decide (64 ≤ i) | none => false

/-- Whether an injection port holds an ELA flight: ELA injection is held, or 64 earlier requests of its endpoint are outstanding (R279, R290). -/
def State.heldBack (s : State) (f : Flight) : Bool :=
  !f.moved && decide (4 ≤ f.port) && decide (f.port ≠ 6) && decide (f.pkt.vc = 1) && (s.rim.holdEla || (!f.pkt.onReply && s.overLimit f.pkt))

/-- Whether an SCH packet's cycle has not come: it holds its place in a frozen Suite, and in a halted one (R189, R296, R312). -/
def State.schWaits (s : State) (f : Flight) (flits : Nat) : Bool :=
  decide (f.pkt.vc = 0) &&
    (match s.suite f.pkt.suite with
     | some u => decide (u.run = 4) || (decide (u.run = 2) && (u.frozen || u.pastHalt || decide (u.now < f.due + flits)))
     | none => false)

/-- The bits of words 2 and 3 that a packet type does not use, and its ADDR where that is zero (R282). -/
def Pkt.reserved (p : Pkt) : Bool :=
  let z2 (l : List (Nat × Nat)) : Bool := l.any fun e => decide (fld p.w2 e.1 e.2 ≠ 0)
  let z3 (lo : Nat) : Bool := decide (fld p.w3 51 lo ≠ 0)
  match p.typ with
  | 1 => z2 [(63, 0)] || z3 0
  | 2 => z2 [(63, 10)] || z3 0
  | 3 => z2 [(63, 8)] || z3 0 || decide (p.addr ≠ 0)
  | 4 => z2 [(63, 9), (7, 5)] || z3 0
  | 5 => z3 1 || decide (p.addr ≠ 0)
  | 6 => z2 [(63, 21), (7, 6)] || z3 0 || decide (p.addr ≠ 0)
  | 7 => z2 [(63, 11), (7, 7)] || z3 0 || decide (2 ^ 22 ≤ p.addr)
  | 8 => z2 [(24, 22)] || z3 0 || decide (p.addr ≠ 0)
  | _ => z3 16 || decide (p.addr ≠ 0)

/-- Whether a packet breaks the rules of its header (R282); a store of fewer than 8 bytes and an AMO of a word by a Hearth are no breach. -/
def Pkt.bad (p : Pkt) : Bool :=
  decide (p.typ = 0) || decide (9 < p.typ) || decide (992 < p.len) || p.reserved ||
    (match p.typ with
     | 1 => decide (p.len = 0) || (decide (8 ≤ p.len) && (decide (p.len % 8 ≠ 0) || decide (p.addr % 8 ≠ 0)))
     | 2 => decide (fld p.w2 9 0 = 0) || decide (992 < fld p.w2 9 0) || decide (fld p.w2 9 0 % 8 ≠ 0) || decide (p.addr % 8 ≠ 0) || decide (p.len ≠ 0)
     | 4 => decide (p.len ≠ 8) || decide (p.addr % (if tst p.w2 8 then 8 else 4) ≠ 0)
     | 6 => decide (fld p.w2 5 0 = 0) || decide (41 < fld p.w2 5 0) || decide (p.len ≠ 24 * fld p.w2 5 0)
     | 7 => decide (p.len = 0) || decide (p.len % 8 ≠ 0) || decide (p.addr % 8 ≠ 0)
     | 8 => decide (p.len ≠ 0)
     | _ => false)

/-- Whether a STREAM that enters at a Room is refused at injection: its span leaves the grid, or MDIR does not follow its arrival at DST (R299). -/
def State.streamBad (s : State) (entry : Nat) (p : Pkt) : Bool :=
  let d := eidRoomOf p.dst
  let m := fld p.w2 10 8
  let arrives : Nat :=
    if roomY d < roomY entry then 1 else if roomY entry < roomY d then 3
    else if roomX entry < roomX d then 2 else if roomX d < roomX entry then 4 else (eidEdge p.src + 2) % 4 + 1
  decide (p.typ = 7) &&
    ((spanRooms s.gridRows d m (fld p.w2 6 0)).isNone || (decide (m = 2 ∨ m = 4) && decide (arrives = 1 ∨ arrives = 3))
      || (decide (m ≠ 0) && decide (m = (arrives + 1) % 4 + 1)))

/-! ### Crossing a link -/

/-- What one packet adds to the check values of a link: the key, then the packet with AGE and MCOUNT taken as zero (R413). -/
def linkFold (crc : W64) (n : Nat) (p : Pkt) : W64 :=
  let ws := Pkt.words { p with age := 0, mcount := 0 }
  crcWords crc ((put 63 40 n ||| (ws.getD 0 0 &&& maskOf 39 0)) :: ws)

/-- The counters and check values of an output (R301, R413, R430). -/
def State.leaves (s : State) (room port stall : Nat) (other : Option Nat) (p : Pkt) : State :=
  let off := 0x400 + 8 * (12 * p.net + 6 * p.vc + port)
  let s := ((s.bump (hal room) off 63 32 1).bump (hal room) off 31 0 stall).dmpCount room 6 p.flits
  match other with
  | none => s
  | some r =>
    let key := 16 * room + 8 * p.net + port
    let n := smGet 0 s.rim.linkCnt key
    let tx := 0x100 + 8 * (6 * p.net + port)
    let rx := 0x160 + 8 * (6 * p.net + opposite port)
    let s := (s.wr (rp .cvu room) tx (linkFold (s.rd (rp .cvu room) tx) n p)).wr (rp .cvu r) rx (linkFold (s.rd (rp .cvu r) rx) n p)
    { s with rim := { s.rim with linkCnt := smSet 0 s.rim.linkCnt key ((n + 1) % 2 ^ 24) } }

/-- The words of an arriving packet checked (R274, R303): the state and the packet that goes on, or none with the error reported. -/
def State.linkArrive (s : State) (k : Nat) (f : Flight) (flips : List (Nat × Nat)) : State × Option Pkt :=
  if !f.moved ∨ 4 ≤ f.port then (s, some f.pkt)
  else
    let p := f.pkt
    let mine := decide (f.port = 0) && decide (p.net = 0)
    let injU := mine && s.isArmed (hal f.room) 1
    let injC := mine && !injU && s.isArmed (hal f.room) 2
    let s := if injU then s.disarm (hal f.room) 1 else if injC then s.disarm (hal f.room) 2 else s
    let flips := if injU then [(0, 3)] else if injC then [(0, 1)] else flips
    let up := (s.across p.epoch f.room f.port).getD f.room
    match linkCheck p.words flips with
    | none => (s.linkUe k f.room up f.port p injU, none)
    | some (ws, n) =>
      let q : Pkt := if ws = p.words then p else Pkt.ofHead (ws.take 4) (ofWords (ws.drop 4))
      let s := if n = 0 then s
        else
          let d := f.port
          let s := (s.bump (hal f.room) 0x0A8 (16 * d + 15) (16 * d) n).halEvent f.room 2 d p injC
          if tst (s.rtLink p.epoch f.room d) 2 then s.bump ⟨.halw, s.wingOf f.room⟩ (0x0A0 + 8 * d) 31 0 n else s
      let s := if ws = p.words then s
        else
          let w := s.drawWord
          w.1.wr (rp .cvu f.room) (0x160 + 8 * (6 * p.net + f.port)) w.2
      (s, some q)

/-! ### SCH outputs -/

/-- What tells an SCH packet from others of its SRC: its TAG and its ADDR. -/
def Pkt.outId (p : Pkt) : Nat := p.tag + 65536 * p.addr

/-- Flight `k` moved to a router or endpoint. -/
def State.moveFlight (s : State) (k : Nat) (g : Flight) : State := { s with pkts := s.pkts.set k g }

/-- Two SCH packets at one output in one cycle: neither is delivered (R295). -/
def State.schClash (s : State) (room port : Nat) (p : Pkt) (o : Nat × Nat × Nat) : State :=
  let s := { s with pkts := s.pkts.filter fun (g : Flight) =>
    !(decide (g.pkt.vc = 0) && decide (g.pkt.net = p.net) && ((decide (g.pkt.src = o.2.1) && decide (g.pkt.outId = o.2.2)) || decide (g.pkt = p))) }
  s.slotViolation room port p false

/-- The key of a router output in `schOut`. -/
def outKey (room net port : Nat) : Nat := room * 16 + net * 8 + port

/-! ### In-network REDUCE -/

/-- Whether a REDUCE may be merged into another (R297). -/
def Pkt.mergesInto (p q : Pkt) : Bool :=
  decide (p.typ = 6) && decide (q.typ = 6) && decide (p.vc = 1) && decide (q.vc = 1) && decide (p.suite = q.suite) && decide (p.dst = q.dst)
    && decide (p.w2 = q.w2)
    && ((recsOf (toWords p.data)).zip (recsOf (toWords q.data))).all fun e => decide (e.1.anchor = e.2.anchor) && !e.1.poison && !e.2.poison

/-- The waiting packet into which flight `k` merges: at the same router for the same output (R297). -/
def State.mergeHost (s : State) (k : Nat) (f : Flight) (p : Pkt) : Option Nat :=
  (List.range s.pkts.length).find? fun j =>
    match s.pkts[j]? with
    | some g => decide (j ≠ k) && decide (g.room = f.room) && !g.ejected && decide (g.port < 8) && p.mergesInto g.pkt
        && decide (s.hop f.room g.pkt = s.hop f.room p)
    | none => false

/-- Flight `k` merged into flight `j`; `bad` says that the adder's residue check fails, which discards both (R141, R297, R415). -/
def State.merge (s : State) (k j : Nat) (f : Flight) (p : Pkt) (bad : Bool) : State :=
  match s.pkts[j]? with
  | none => s
  | some g =>
    let inj := s.isArmed (rp .cvu f.room) 3
    let s := if inj then s.disarm (rp .cvu f.room) 3 else s
    if bad || inj then
      let s := (if j < k then (s.dropFlight k).dropFlight j else (s.dropFlight j).dropFlight k)
      let s := s.captureStep (rp .cvu f.room) 0x088 (cvuWhere 0x04 3 (fld p.w2 20 16) 0) 0x090 (s.whereStep f.room)
      let s := (s.bump (rp .cvu f.room) 0x098 47 32 1).raise (rp .cvu f.room) 3 inj
      let s := s.record (rp .cvu f.room) 0x04 1 inj false true p.suite noRef (setBit (cvuWhere 0x04 3 (fld p.w2 20 16) 0) 31)
      s.sendHalt p.suite f.room Page.cvu.slot (Page.cvu.cls * 256 + 0x04)
    else
      let recs := ((recsOf (toWords g.pkt.data)).zip (recsOf (toWords p.data))).map fun e => (e.1.combine e.2).1
      let q : Pkt := { g.pkt with
        data := recs.flatMap fun r => r.words.flatMap fun w => leTo 8 w.toNat
        mcount := min 63 (g.pkt.mcount + 1 + p.mcount) }
      let s := (s.moveFlight j { g with pkt := q, also := g.also ++ p.src :: f.also }).dropFlight k
      (s.bump (hal f.room) 0x0A0 47 32 1).routerSend f.room (p.ack 3)

/-! ### One hop -/

/-- The ELA flights other than flight `k` that are ready for an output of its router (R276). -/
def State.elaRivals (s : State) (k : Nat) (f : Flight) (port : Nat) : List Flight :=
  ((List.range s.pkts.length).zip s.pkts).filterMap fun e =>
    let g := e.2
    if e.1 ≠ k ∧ g.room = f.room ∧ g.ejected = false ∧ g.port < 8 ∧ g.pkt.vc = 1 ∧ g.pkt.net = f.pkt.net ∧ s.hop g.room g.pkt = some port
        ∧ s.heldBack g = false ∧ s.behind e.1 g false = false then some g else none

/-- Whether an SCH flit waits for the same output: it goes first (R275). -/
def State.schFirst (s : State) (f : Flight) (port : Nat) : Bool :=
  s.pkts.any fun g => decide (g.room = f.room) && !g.ejected && decide (g.port < 8) && decide (g.pkt.vc = 0) && decide (g.pkt.net = f.pkt.net)
    && decide (s.hop g.room g.pkt = some port) && !s.schWaits g 0

/-- The flits that the ELA buffer of a router input holds; it has room for 8 (R275, R276). -/
def State.bufFlits (s : State) (room port net : Nat) : Nat :=
  ((s.pkts.filter fun g => decide (g.room = room) && decide (g.port = port) && g.moved && !g.ejected && decide (g.pkt.vc = 1) && decide (g.pkt.net = net)).map
    fun g => g.pkt.flits).sum

/-- Whether an ELA flight waits for its output: for an SCH flit, for free space downstream for all its flits, or for the head packet with the highest
AGE, ties going round-robin after the input that last won (R275, R276). -/
def State.elaWaits (s : State) (k : Nat) (f : Flight) (port : Nat) : Bool :=
  let last := smGet 0 s.rim.elaLast (outKey f.room f.pkt.net port)
  let turn (g : Flight) : Nat := (g.port + 7 - last) % 7
  decide (f.pkt.vc = 1) &&
    (s.schFirst f port
      || (match (if port < 4 then s.across f.pkt.epoch f.room port else none) with
          | some r => decide (8 < s.bufFlits r (opposite port) f.pkt.net + f.pkt.flits)
          | none => false)
      || (s.elaRivals k f port).any fun g =>
          decide (f.pkt.age < g.pkt.age) || (decide (g.pkt.age = f.pkt.age) && decide (turn g < turn f)))

/-- The part of a STREAM that goes straight on from its destination to the further Rooms of its span: its next Room is its destination (R299). -/
def State.streamOn (s : State) (f : Flight) (p : Pkt) : List Flight :=
  let m := fld p.w2 10 8
  let n := fld p.w2 6 0
  if p.typ = 7 ∧ n ≠ 0 then
    match spanRooms s.gridRows (eidRoomOf p.dst) m n with
    | some (_ :: r :: _) =>
      [{ f with pkt := { p with dst := eidRoom r (eidUnit p.dst), w2 := put 10 8 m ||| put 6 0 (n - 1) }, port := (m + 1) % 4, moved := true, ejected := false }]
    | _ => []
  else []

/-- A flight leaves by a port: to the next router, or to its endpoint, a STREAM also going straight on.  SCH packets that meet at an output are lost
(R276, R287, R295, R296, R299). -/
def State.leave (s : State) (k : Nat) (f : Flight) (p : Pkt) (port stall : Nat) : State :=
  let other : Option Nat := if port < 4 then s.across p.epoch f.room port else none
  let at_ := outKey f.room p.net port
  let o := smGet (0, 0, 0) s.rim.schOut at_
  let live : Bool := decide (p.vc = 0) && (match s.suite p.suite with | some u => decide (u.run = 2) | none => false)
  let on := s.streamOn f p
  if live ∧ f.due < o.1 then (s.moveFlight k { f with pkt := p }).schClash f.room port p o
  else
    let s := if live then { s with rim := { s.rim with schOut := smSet (0, 0, 0) s.rim.schOut at_ (f.due + p.flits, p.src, p.outId) } }
      else { s with rim := { s.rim with elaLast := smSet 0 s.rim.elaLast at_ (f.port + 1) } }
    let s := s.leaves f.room port stall other p
    let s := match other with
      | some r => s.moveFlight k { pkt := p, room := r, port := opposite port, ejected := false, moved := true,
                                    due := f.due + hopLatency (s.rtLink p.epoch f.room port), also := f.also }
      | none =>
        let s := s.moveFlight k { f with pkt := p, ejected := true, moved := true }
        { s with pkts := s.pkts ++ on }
    if !f.moved ∧ f.port = 4 then s.resetHold f.room else s

/-- HALL_ROUTE: flight `k` is checked, and leaves its router by the tables, unless something keeps it: SCH goes first, and among ELA packets the one with
the highest AGE.  `flips` are the wires upset on the link it came
by, `merge` says that a REDUCE finds the one it merges with still waiting, `bad` that the residue of that merge fails, and `stall` is how long
it waited for the output (R274 to R291, R297, R299). -/
def execHallRoute (k : Nat) (flips : List (Nat × Nat)) (merge bad : Bool) (stall : Nat) (s : State) : Host.Outcome State Fault Refusal :=
  match s.pkts[k]? with
  | none => .next s
  | some f =>
    if f.ejected ∨ 8 ≤ f.port ∨ s.heldBack f ∨ s.behind k f false ∨ s.schWaits f 0 ∨ smGet 0 s.rim.clkStop (s.wingOf f.room) ≠ 0 then .next s
    else
      let stops : Bool := match s.hop f.room f.pkt with
        | some port => (match (if port < 4 then s.across f.pkt.epoch f.room port else none) with
          | some r => s.linkStops f.pkt.epoch f.room port r
          | none => false) || s.elaWaits k f port
        | none => false
      if stops then .next s
      else
        let a := s.linkArrive k f flips
        let s := a.1
        match a.2 with
        | none => .next s
        | some p =>
          if !f.moved ∧ (p.bad ∨ s.streamBad f.room p) then .next (s.refuse k f.room f.port 7 0x0B p)
          else
            match s.hop f.room p with
            | none => .next (s.refuse k f.room f.port 4 0x05 p)
            | some port =>
              if port < 4 ∧ ((s.across p.epoch f.room port).isNone ∨ (f.moved ∧ port = f.port)) then .next (s.refuse k f.room f.port 4 0x05 p)
              else if f.moved ∧ (f.port = 0 ∨ f.port = 2) ∧ (port = 1 ∨ port = 3) then
                .next ((s.refuse k f.room f.port 5 0x06 p).bump (hal f.room) 0x0A0 15 0 1)
              else
                match (if merge then s.mergeHost k f p else none) with
                | some j => .next (s.merge k j f p bad)
                | none => .next (s.leave k f p port stall)

/-- AGE_INCREMENT: a head ELA packet has waited 64 more cycles (R276). -/
def execAgeIncrement (k : Nat) (s : State) : Host.Outcome State Fault Refusal :=
  match s.pkts[k]? with
  | none => .next s
  | some f =>
    if f.ejected ∨ f.pkt.vc ≠ 1 ∨ 8 ≤ f.port ∨ s.behind k f false then .next s
    else .next (s.moveFlight k { f with pkt := { f.pkt with age := min 63 (f.pkt.age + 1) } })

/-! ### Slots -/

/-- Whether a slot entry marks a step, under the repetition rule of R210 (R294). -/
def SlotEnt.marks (e : SlotEnt) (period t : Nat) : Bool :=
  if period = 0 then decide (t = e.start) else decide (e.start ≤ t) && decide ((t - e.start) % period = 0)

/-- HALL_SLOT: at the step of a slot entry the head SCH packet of its unit is injected if it matches, behind every packet injected before it; the slot
passes if there is none ready, and any other packet is a violation (R279, R291, R295). -/
def execHallSlot (room : Nat) (s : State) : Host.Outcome State Fault Refusal :=
  match s.suiteOf room with
  | none => .next s
  | some i =>
    match s.suite i with
    | none => .next s
    | some u =>
      let r := s.room room
      if !u.issuing ∨ u.mode ≠ 0 ∨ smGet 0 s.rim.slotAt room = u.now + 1 then .next s
      else
        match r.slots.find? fun e => e.marks r.slotPer u.step.toNat with
        | none => .next s
        | some e =>
          let s := { s with rim := { s.rim with slotAt := smSet 0 s.rim.slotAt room (u.now + 1) } }
          match (List.range s.pkts.length).find? fun k => match s.pkts[k]? with | some f => decide (f.room = room) && decide (f.port = e.unit) && !f.moved | none => false with
          | none => .next s
          | some k =>
            match s.pkts[k]? with
            | none => .next s
            | some f =>
              if s.overLimit f.pkt then .next s
              else
              let inj := s.isArmed (hal room) 0
              let s := if inj then s.disarm (hal room) 0 else s
              if !inj ∧ f.pkt.typ = 1 ∧ f.pkt.dst = e.dst ∧ f.pkt.flits ≤ e.flits then
                .next ({ s with pkts := s.pkts.eraseIdx k ++ [{ f with port := 4, due := u.now + 2 }] }.wr (hal room) 0x098 (s.rd (hal room) 0x098 + 1))
              else .next ((s.dropFlight k).slotViolation room 4 f.pkt inj)

/-! ### Link check values -/

/-- LINK_CVU_COMPARE: every 4,096 Corridor cycles the check values of a link, from a Room's output to the input it feeds, are compared and restart
(R413, R432). -/
def execLinkCvuCompare (room net port : Nat) (s : State) : Host.Outcome State Fault Refusal :=
  let net := net % 2
  let port := port % 4
  match s.across s.rtActive room port with
  | none => .next s
  | some r =>
    let i := 6 * net + port
    let j := 6 * net + opposite port
    let inj := s.isArmed (rp .cvu room) 0 && decide (s.rdF (rp .cvu room) 0x080 20 16 = i)
    let s := if inj then s.disarm (rp .cvu room) 0 else s
    let differ := decide (s.rd (rp .cvu room) (0x100 + 8 * i) ≠ s.rd (rp .cvu r) (0x160 + 8 * j))
    let s := (s.wr (rp .cvu room) (0x100 + 8 * i) 0).wr (rp .cvu r) (0x160 + 8 * j) 0
    let s := { s with rim := { s.rim with linkCnt := smSet 0 s.rim.linkCnt (16 * room + 8 * net + port) 0 } }
    if differ || inj then
      let w := cvuWhere 0x01 0 i 0
      let s := s.captureStep (rp .cvu room) 0x088 w 0x090 (s.whereStep room)
      let s := (s.bump (rp .cvu room) 0x098 63 48 1).raise (rp .cvu room) 0 inj
      let s := s.record (rp .cvu room) 0x01 1 inj false true (s.suiteId room) noRef (setBit w 31)
      .next (s.haltWings room r (Page.cvu.cls * 256 + 0x01))
    else .next s

end Sys2Proof.Machine
end

