-- ==== Sys2Proof/Machine/Deliver.lean ====
section
/-!
DEFINITION. Delivery of Hall packets to their endpoints, and what each endpoint answers (R36, R256, R258, R279 to R285, R299, R300, R318, R325,
R581, R615).
-/

namespace Sys2Proof.Machine

/-! ### Endpoints -/

/-- A reply sent by an endpoint of a Room; that of a dark Room is sent by its router port (R582, R583). -/
def State.replyFrom (s : State) (room : Nat) (p : Pkt) : State := if s.dark room then s.routerSend room p else s.inject room p

/-- Whether a Room refuses every request at its router port: it is powered and held in reset (R581). -/
def State.closedPort (s : State) (room : Nat) : Bool := s.roomOn room && s.dark room

/-- The Room that a packet's sender is, or is attached to. -/
def State.senderRoom (s : State) (p : Pkt) : Nat := if eidIsRoom p.src then eidRoomOf p.src else s.eavesRoom p.src

/-- A packet a unit does not take: refused like a bad header (R282). -/
def State.misplaced (s : State) (f : Flight) : State := (s.halEvent f.room 7 f.port f.pkt false).routerNack f.room 0x0B f.pkt

/-- Flight `k`, ejected and the oldest of its channel, taken out of the Hall by its endpoint (R291, R292). -/
def State.landing (s : State) (k typ : Nat) (go : State → Flight → State) : State :=
  match s.pkts[k]? with
  | none => s
  | some f => if f.ejected ∧ f.pkt.typ = typ ∧ !s.behind k f true ∧ !s.schWaits f f.pkt.flits then go (s.dropFlight k) f else s

/-- A request taken by a unit of a Room that other Suites may not reach: refused with RESET or NACK_SUITE, or served (R300, R303, R581). -/
def State.guarded (s : State) (f : Flight) (go : State → State) : State :=
  let room := eidRoomOf f.pkt.dst
  let inj := decide (eidUnit f.pkt.dst = 2) && decide (f.pkt.vc = 1) && s.isArmed (hal room) 3
  if s.closedPort room then s.routerSend room (f.pkt.nack 0x04)
  else if inj ∨ s.suiteOf room ≠ some f.pkt.suite then
    ((if inj then s.disarm (hal room) 3 else s).halEvent room 3 4 f.pkt inj).routerNack room 0x01 f.pkt
  else go s

/-- A request at a ring gateway: to a Cellar controller, to host memory, or to nothing (R36, R281, R597). -/
def State.atGateway (s : State) (p : Pkt) (len : Nat) (data : Option (List Byte)) : State :=
  match s.decodeEa p.addr with
  | .cellar st off => { s with rim := { s.rim with ring := s.rim.ring ++ [⟨st, off, len, data, p, false⟩] } }
  | .host a => { s with rim := { s.rim with hostReqs := s.rim.hostReqs ++ [⟨p, a, false⟩] } }
  | _ => (s.celMiss p.addr).injectEdge p.dst (if data.isSome then p.ack 1 else p.rsp 1 (List.replicate len 0))
/-- A Shelf port's answer sent back (R284). -/
def State.portAnswer (r : State × PortRes) (room : Nat) (p : Pkt) : State :=
  match r.2 with
  | .ok st d => r.1.replyFrom room (if p.typ = 1 then p.ack st else p.rsp st d)
  | .nack c => r.1.replyFrom room (p.nack c)

/-! ### The page decoder -/

/-- Slot and offset within its page that a packet to a page decoder names (R40). -/
def pktSlot (p : Pkt) : Nat := p.addr / 4096 % 16
def pktOff (p : Pkt) : Nat := p.addr % 4096 / 8 * 8

/-- The NACK code of a packet at a page decoder, or none: HOST packets pass, those of another Suite are refused, and the others meet page access
control (R300, R615). -/
def State.pageRefuses (s : State) (room : Nat) (p : Pkt) (write : Bool) : Option Nat :=
  if p.host then none
  else if s.suiteOf room ≠ some p.suite then some 0x01
  else if !tst (s.rd pch (0x100 + 8 * p.suite)) (if write then pktSlot p else 16 + pktSlot p) ∨ pktOff p = 0x038 then some 0x0A
  else none

/-- The page place a packet names. -/
def pktPage (room : Nat) (p : Pkt) : BarAt := ⟨rp (roomPage (pktSlot p)) room, 2, room, pktOff p⟩

/-- A WRITE at a page decoder; one to LCH_ARRIVE is an arrival from its sender (R318, R324). -/
def State.pageWrite (s : State) (room : Nat) (p : Pkt) : State :=
  match s.pageRefuses room p true with
  | some c => s.replyFrom room (p.nack c)
  | none =>
    let v := BitVec.ofNat 64 (leOf (p.data.take 8))
    let s :=
      if pktSlot p = 7 ∧ pktOff p = 0x0A8 then
        (if s.dark room then s else s.latchArrive room (fld v 5 0) (fld v 14 8) true false (s.senderRoom p))
      else s.pageSet (pktPage room p) v (!p.host)
    s.replyFrom room (p.ack 0)

/-- The lowest free one of the 16 remote-wait slots of a Room (R325). -/
def State.waitSlot (s : State) (room : Nat) : Option Nat :=
  let used : List Nat := (s.room room).latches.flatMap fun e => e.2.waits.filterMap fun w => match w.who with | .remote k _ _ => some k | _ => none
  (List.range 16).find? fun k => !used.contains k

/-- A remote wait: held, or answered at once with its outcome and GEN (R325). -/
def State.remoteWait (s : State) (room : Nat) (p : Pkt) : State :=
  let n := p.addr / 2 ^ 16 % 64
  let us := p.addr / 2 ^ 24
  let back (s : State) (o : Nat) : State := s.replyFrom room (p.rsp 0 (leTo 8 (o + (s.latch room n).gen * 65536)))
  match s.waitSlot room with
  | none => back (s.lchEvent room 5 (lchWhere 0x06 n 0 2 0 (s.senderRoom p)) false false false) 4
  | some k =>
    let r := s.latchWait room n (.remote k p.src p.tag) none us (us = 0)
    match r.2 with
    | some o => back r.1 o
    | none => r.1

/-- A READ_REQ at a page decoder: a remote wait, or the read of a register (R325, R595). -/
def State.pageGet (s : State) (room : Nat) (p : Pkt) : State :=
  match s.pageRefuses room p false with
  | some c => s.replyFrom room (p.nack c)
  | none =>
    if p.addr % 65536 = 0x70B0 ∧ !p.host then
      (if s.dark room then s.routerSend room (p.rsp 0 (leTo 8 2)) else s.remoteWait room p)
    else
      let a := pktPage room p
      (s.readClear a).replyFrom room (p.rsp 0 (leTo 8 (s.barRead a).toNat))

/-! ### Requests -/

/-- WRITE of flight `k` (R282, R300). -/
def execHallWrite (k : Nat) (s : State) : Host.Outcome State Fault Refusal :=
  .next (s.landing k 1 fun s f =>
    let p := f.pkt
    let room := eidRoomOf p.dst
    if !eidIsRoom p.dst then (if eidUnit p.dst = 0 then s.atGateway p p.len (some p.data) else s.misplaced f)
    else
      match eidUnit p.dst with
      | 0 => if s.closedPort room then s.routerSend room (p.nack 0x04) else s.pageWrite room p
      | 1 => State.portAnswer (s.shelfPort room (p.addr % 2 ^ 22) p.len (some p.data) p.suite (if p.vc = 0 then 0x42 else 0x43)) room p
      | _ => s.guarded f fun s => s.misplaced f)

/-- READ_REQ of flight `k` (R282, R300, R325). -/
def execReadReq (k : Nat) (s : State) : Host.Outcome State Fault Refusal :=
  .next (s.landing k 2 fun s f =>
    let p := f.pkt
    let room := eidRoomOf p.dst
    let n := fld p.w2 9 0
    if !eidIsRoom p.dst then (if eidUnit p.dst = 0 then s.atGateway p n none else s.misplaced f)
    else
      match eidUnit p.dst with
      | 0 => if s.closedPort room then s.routerSend room (p.nack 0x04) else s.pageGet room p
      | 1 => State.portAnswer (s.shelfPort room (p.addr % 2 ^ 22) n none p.suite) room p
      | _ => s.guarded f fun s => s.misplaced f)

/-- The read-modify-write of an ATOMIC at a Shelf port (R36, R228, R238, R300). -/
def State.portAtomic (s : State) (room : Nat) (p : Pkt) : State :=
  let off := p.addr % 2 ^ 22
  let n := if tst p.w2 8 then 8 else 4
  if s.closedPort room then s.routerSend room (p.nack 0x04)
  else
    match (s.winRefuses room p.suite off n true).orElse fun _ => s.winRefuses room p.suite off n false with
    | some c => (if c = 2 then s.bump (rp .shf room) 0x0B0 63 32 1 else s).replyFrom room (p.nack c)
    | none =>
      let st := if 0x300000 ≤ off then 1 else if s.shelfDark room off then 2 else 0
      let r := s.shelfLd room off n 0x43
      if !r.2.2 then r.1.replyFrom room (p.nack 0x03)
      else
        let old := leOf r.2.1
        let s := if st = 0 then (r.1.shelfSt room off 0x43 (leTo n (amoResult (fld p.w2 4 0) n old (leOf p.data)))).1 else r.1
        s.replyFrom room (p.rsp st (leTo 8 old))

/-- ATOMIC of flight `k` (R282). -/
def execAtomic (k : Nat) (s : State) : Host.Outcome State Fault Refusal :=
  .next (s.landing k 4 fun s f =>
    let p := f.pkt
    if !eidIsRoom p.dst then s.misplaced f
    else if eidUnit p.dst = 1 then s.portAtomic (eidRoomOf p.dst) p
    else if eidUnit p.dst = 0 then s.misplaced f
    else s.guarded f fun s => s.misplaced f)

/-- MESSAGE of flight `k`: taken by the channel port of a Room (R256, R282). -/
def execMessage (k : Nat) (s : State) : Host.Outcome State Fault Refusal :=
  .next (s.landing k 5 fun s f =>
    let p := f.pkt
    if !eidIsRoom p.dst ∨ eidUnit p.dst < 2 then s.misplaced f
    else s.guarded f fun s => if eidUnit p.dst = 2 then s.takeMsg (eidRoomOf p.dst) p else s.misplaced f)

/-- REDUCE of flight `k`: taken by the Stockpot port; `bad` says that the residue check of its first record fails (R258, R259, R415). -/
def execReduce (k : Nat) (bad : Bool) (s : State) : Host.Outcome State Fault Refusal :=
  .next (s.landing k 6 fun s f =>
    let p := f.pkt
    let room := eidRoomOf p.dst
    if !eidIsRoom p.dst ∨ eidUnit p.dst < 2 then s.misplaced f
    else s.guarded f fun s =>
      if eidUnit p.dst ≠ 3 then s.misplaced f
      else if s.dark room then s.routerSend room (p.nack 0x04)
      else s.stpArrive room (fld p.w2 20 16) (fld p.w2 15 8) (toWords p.data) (some p) bad)

/-- One copy of a STREAM at a Room: written to its Shelf, or passed over in a Room of another Suite (R299). -/
def State.streamCopy (s : State) (f : Flight) (room : Nat) : State :=
  let p := f.pkt
  if s.suiteOf room ≠ some p.suite then (s.bump (hal room) 0x0A0 31 16 1).halEvent room 6 f.port p false
  else if s.closedPort room then s
  else (s.shelfSt room (p.addr % 2 ^ 22) (if p.vc = 0 then 0x42 else 0x43) p.data).1

/-- STREAM of flight `k`: its copy for the Room it has reached; no reply (R299). -/
def execStream (k : Nat) (s : State) : Host.Outcome State Fault Refusal :=
  .next (s.landing k 7 fun s f =>
    if !eidIsRoom f.pkt.dst then s.misplaced f else s.streamCopy f (eidRoomOf f.pkt.dst))

/-! ### Replies -/

/-- The outstanding request a reply completes (R279). -/
def State.outstOf (s : State) (p : Pkt) : Option Outst := s.outst.find? fun o => o.tag = p.tag && o.src = p.dst

/-- A reply taken by its requester: the request is outstanding no more; a dark Room discards it (R285, R581). -/
def State.reply (s : State) (k typ : Nat) (go : State → ReqUse → Pkt → State) : State :=
  s.landing k typ fun s f =>
    let p := f.pkt
    match s.outstOf p with
    | none => s
    | some o =>
      let s := { s with outst := s.outst.filter fun x => !(decide (x.tag = o.tag) && decide (x.src = o.src)) }
      if eidIsRoom p.dst ∧ s.dark (eidRoomOf p.dst) then s else go s o.use p

/-- READ_RSP of flight `k` (R284). -/
def execReadRsp (k : Nat) (s : State) : Host.Outcome State Fault Refusal :=
  .next (s.reply k 3 fun s use p =>
    match use with
    | .hearthLoad room rd n sg a len => s.hearthLoaded room rd n sg a len p
    | .hearthAmo room rd n a => s.hearthAmoDone room rd n a p
    | .hearthWait room rd => s.hearthWaited room rd p
    | .dwtRead room q idx j => s.dwReadReply room q idx j (some p.data) p.status
    | .bar2Read a => s.bar2Reply (some a) a p.data.length p
    | _ => s)

/-- An ACK of KIND 0 at its requester (R284). -/
def State.acked (s : State) (use : ReqUse) (p : Pkt) : State :=
  match use with
  | .hearthStore room => if p.status = 1 then s.noteShelfUnmapped room 0 0x40 else s
  | .dwtWrite room q idx => s.dwWriteReply room q idx true p.status
  | .stpDeliver room pot => s.stpReply room pot true
  | .bar2Write a => s.bar2Reply none a 0 p
  | .yazal n q => s.yazReplied n q true
  | _ => s

/-- ACK of flight `k`: it completes a request, returns channel credits, or carries a SYNC (R252, R253, R261, R284). -/
def execAck (k : Nat) (s : State) : Host.Outcome State Fault Refusal :=
  .next
    (match (s.pkts[k]?).map fun f => fld f.pkt.w2 15 8 with
     | some 1 => s.landing k 8 fun s f =>
         let room := eidRoomOf f.pkt.dst
         if !eidIsRoom f.pkt.dst ∨ s.dark room then s else s.creditBack room (fld f.pkt.w2 21 16) (fld f.pkt.w2 63 48)
     | some 2 => s.landing k 8 fun s f =>
         let room := eidRoomOf f.pkt.dst
         let o := s.outstOf f.pkt
         let s := { s with outst := s.outst.filter fun x => !(decide (x.tag = f.pkt.tag) && decide (x.src = f.pkt.dst)) }
         if !eidIsRoom f.pkt.dst ∨ s.dark room then s
         else
           match o.map Outst.use with
           | some (.stpSync r pot) => s.stpSynced r pot f.pkt
           | _ => s.takeSync room f.pkt
     | _ => s.reply k 8 State.acked)

/-- NACK of flight `k`: the requester's own account of the refusal; a refused message goes to the bounce ring (R224, R236, R256, R261, R285). -/
def execNack (k : Nat) (s : State) : Host.Outcome State Fault Refusal :=
  .next (s.reply k 9 fun s use p =>
    match use with
    | .hearthLoad room rd n sg a len => s.hearthLoaded room rd n sg a len p
    | .hearthAmo room rd n a => s.hearthAmoDone room rd n a p
    | .hearthWait room rd => s.hearthWaited room rd p
    | .hearthStore room => s.hearthNacked room
    | .chanMsg room c charge => if bounceReason p.code = 0 then s.hearthNacked room else s.msgNacked room c charge p
    | .chanSync _ _ => s
    | .dwtRead room q idx j => s.dwReadReply room q idx j none p.code
    | .dwtWrite room q idx => s.dwWriteReply room q idx false p.code
    | .stpDeliver room pot =>
      let bounces := decide (bounceReason p.code ≠ 0) && (s.delivOf room pot).any fun d => decide (d.sync = 3)
      (if bounces then s.bounce room (bounceReason p.code) (eidRoomOf p.src) p.w2 p.data false else s).stpReply room pot false
    | .stpSync room pot => s.stpReply room pot false
    | .bar2Read a => s.bar2Reply (some a) a (fld p.w2 9 0) p
    | .bar2Write a => s.bar2Reply none a 0 p
    | .yazal n q => s.yazReplied n q false)

end Sys2Proof.Machine
end

