-- ==== Sys2Proof/Machine/Jtag.lean ====
section
/-!
DEFINITION. The observation multiplexer and the test access port (R620 to R623, R625 to R627).
-/

namespace Sys2Proof.Machine

/-! ### Observation -/

/-- The sample that the observed source gives: what a BAR0 read would return, with nothing cleared by it (R620). -/
def State.observe (s : State) : State × W64 :=
  let w := s.rd dbg 0x080
  let addr := fld w 51 32 * 4096 + fld w 11 3 * 8
  match s.decodeBar0 addr with
  | none => (s, 0)
  | some a =>
    if !s.answers a ∨ s.silent a.page then (s, 0)
    else if s.busWild a.page ∧ !s.gated a.page then s.drawWord
    else (s, s.barRead a)

/-- The pulse of a trigger of KIND MATCH, which raises DBG_MATCH (R623). -/
def State.matchPulse (s : State) (i : Nat) : State :=
  if fld (s.rd dbg (0x0A0 + 8 * i)) 63 62 = 2 then (s.emit (.pin (trigName i) 1)).raise dbg 1 false else s

/-- What the observation pins show of a sample, with OBS_FRAME (R621, R622). -/
def obsPins (cfg sample : W64) (low : Bool) : List OutMsg :=
  let beat (k v : Nat) : List OutMsg := [.pin "OBS_FRAME" k, .pin "OBS" v]
  if low || !tst cfg 63 then beat 0 0
  else
    match fld cfg 9 8 with
    | 0 => beat 0 (lane 16 sample (fld cfg 1 0))
    | 1 => (List.range 4).flatMap fun k => beat (b2n (decide (k = 0))) (lane 16 sample k)
    | _ => beat 0 0

/-- OBSERVATION_SAMPLE: the multiplexer takes a sample, shows it on the pins and tests the MATCH condition (R620 to R623).  A gated multiplexer takes
none. -/
def execObservationSample (s : State) : Host.Outcome State Fault Refusal :=
  if !tst (s.rd (gp .clkg) 0x090) 9 then .next (s.emit (.pin "OBS" 0))
  else
    let r := s.observe
    let s := r.1
    let s := { s with out := s.out ++ obsPins (s.rd dbg 0x088) r.2 s.dbgLocked }
    let now := decide ((r.2 ^^^ s.rd dbg 0x090) &&& s.rd dbg 0x098 = 0)
    let first := now && !s.rim.dbgMatch
    let s := { s with rim := { s.rim with dbgLast := r.2, dbgMatch := now } }
    .next (if first && !s.dbgLocked then (s.matchPulse 0).matchPulse 1 else s)

/-! ### The test access port -/

/-- The instruction in force and what the covered pins do. -/
def State.tap (s : State) (ir drive : Nat) : State := { s with rim := { s.rim with jtag := { s.rim.jtag with ir, drive } } }

/-- JTAG_RESET: TRST* or Test-Logic-Reset (R625). -/
def execJtagReset (s : State) : Host.Outcome State Fault Refusal := .next { s with rim := { s.rim with jtag := .fresh } }

/-- Whether EXTEST, HIGHZ and CLAMP may take effect: before any Chimney is enabled, or in recovery (R626). -/
def State.mayDrive (s : State) : Bool :=
  let st := s.rdF (gp .srvg) 0x080 62 60
  decide (st = 0 ∨ st = 1 ∨ st = 5)

/-- An instruction that drives pins; in another state it acts as BYPASS and is reported (R626). -/
def State.driving (s : State) (ir drive : Nat) : State := if s.mayDrive then s.tap ir drive else (s.tap 0xFF 0).raise dbg 4 false

/-- A scan of the boundary cells: pin levels captured, and new values put into the cells. -/
def State.scanCells (s : State) (pins vals : Nat) : State :=
  { s with rim := { s.rim with jtag := { s.rim.jtag with seen := pins, cells := vals } } }

/-- EXTEST: the covered pins are driven from the cells; a scan captures the levels `pins` and drives `vals` (R625, R626). -/
def execExtest (pins vals : Nat) (s : State) : Host.Outcome State Fault Refusal :=
  if s.mayDrive then .next (((s.driving 0x00 1).scanCells pins vals).emit (.pin "BSCAN" vals)) else .next (s.driving 0x00 1)

/-- SAMPLE/PRELOAD: the levels `pins` are captured and `vals` preloaded; the pins do their own work (R625). -/
def execSamplePreload (pins vals : Nat) (s : State) : Host.Outcome State Fault Refusal := .next ((s.tap 0x01 0).scanCells pins vals)

/-- IDCODE: version 0x1, part 0x0102, Kamoux's JEDEC code, bit 0 set (R625). -/
def execIdcode (s : State) : Host.Outcome State Fault Refusal :=
  .next ((s.tap 0x02 0).answer (put 31 28 1 ||| put 27 12 0x0102 ||| put 11 1 Config.jedec ||| 1))

/-- HIGHZ (R626). -/
def execHighz (s : State) : Host.Outcome State Fault Refusal := .next (s.driving 0x03 2)

/-- CLAMP: the pins hold the preloaded values (R626). -/
def execClamp (s : State) : Host.Outcome State Fault Refusal :=
  if s.mayDrive then .next ((s.driving 0x04 1).emit (.pin "BSCAN" s.rim.jtag.cells)) else .next (s.driving 0x04 1)

/-- BYPASS, and every code that R625 does not list. -/
def execBypass (s : State) : Host.Outcome State Fault Refusal := .next (s.tap 0xFF 0)

/-- The result of a DBGACC access, shifted out at the next Capture-DR (R627). -/
def State.accResult (s : State) (op status off : Nat) (data : W64) : State :=
  { s with rim := { s.rim with jtag := { s.rim.jtag with acc := (put 63 62 op ||| put 61 60 status ||| put 31 0 off, data) } } }

/-- DBGACC: an access made in Update-DR, performed as a host access to BAR0; with debug locked it returns LOCKED and does nothing (R627). -/
def execDbgacc (op off : Nat) (data : W64) (s : State) : Host.Outcome State Fault Refusal :=
  let op := op % 4
  let off := off % 2 ^ 32
  let s := s.tap 0x10 0
  if op = 0 then .next (s.accResult op 0 off data)
  else if s.dbgLocked then .next (s.accResult op 2 off data)
  else if op = 3 then .next (s.accResult op 3 off data)
  else
    let bad := if off % 8 = 0 then 0 else 3
    if op = 1 then
      let t := s.hostRead off 8
      .next (t.accResult op bad off t.busData)
    else .next ((s.hostWrite off 8 data).accResult op bad off data)

end Sys2Proof.Machine
end

