-- ==== Sys2Proof/Machine/Dispatch.lean ====
section
/-!
DEFINITION. The dispatch of commands to their meanings: one arm for each constructor of Instr.
-/

namespace Sys2Proof.Machine

/-- The effect of a command on everything but the queue of waiting commands. -/
def exec (i : Instr) (s : State) : Host.Outcome State Fault Refusal :=
  match i with
  | .registerWrite addr size v => Sys2Proof.Machine.execRegisterWrite addr size v s
  | .rcRead addr size => Sys2Proof.Machine.execRcRead addr size s
  | .eventClear addr v => Sys2Proof.Machine.execEventClear addr v s
  | .eventInject addr v => Sys2Proof.Machine.execEventInject addr v s
  | .whereRearm addr => Sys2Proof.Machine.execWhereRearm addr s
  | .laneTokenArrive room b src flip => Sys2Proof.Machine.execLaneTokenArrive room b src flip s
  | .nop room b => Sys2Proof.Machine.execNop room b s
  | .jnz room b => Sys2Proof.Machine.execJnz room b s
  | .fold room b => Sys2Proof.Machine.execFold room b s
  | .foldResume room b => Sys2Proof.Machine.execFoldResume room b s
  | .stop room b => Sys2Proof.Machine.execStop room b s
  | .lsig room b => Sys2Proof.Machine.execLsig room b s
  | .lwait room b => Sys2Proof.Machine.execLwait room b s
  | .mac room b => Sys2Proof.Machine.execMac room b s
  | .macz room b => Sys2Proof.Machine.execMacz room b s
  | .dot room b => Sys2Proof.Machine.execDot room b s
  | .dotz room b => Sys2Proof.Machine.execDotz room b s
  | .macs24 room b => Sys2Proof.Machine.execMacs24 room b s
  | .macs48 room b => Sys2Proof.Machine.execMacs48 room b s
  | .stkmac room b => Sys2Proof.Machine.execStkmac room b s
  | .stkin room b => Sys2Proof.Machine.execStkin room b s
  | .stkadd room b => Sys2Proof.Machine.execStkadd room b s
  | .stkdrain room b => Sys2Proof.Machine.execStkdrain room b s
  | .stkcvt room b => Sys2Proof.Machine.execStkcvt room b s
  | .accclr room b => Sys2Proof.Machine.execAccclr room b s
  | .drain room b => Sys2Proof.Machine.execDrain room b s
  | .drainc room b => Sys2Proof.Machine.execDrainc room b s
  | .mxq room b => Sys2Proof.Machine.execMxq room b s
  | .fma room b => Sys2Proof.Machine.execFma room b s
  | .add room b => Sys2Proof.Machine.execAdd room b s
  | .sub room b => Sys2Proof.Machine.execSub room b s
  | .mul room b => Sys2Proof.Machine.execMul room b s
  | .min room b => Sys2Proof.Machine.execMin room b s
  | .max room b => Sys2Proof.Machine.execMax room b s
  | .neg room b => Sys2Proof.Machine.execNeg room b s
  | .abs room b => Sys2Proof.Machine.execAbs room b s
  | .cmp room b => Sys2Proof.Machine.execCmp room b s
  | .sel room b => Sys2Proof.Machine.execSel room b s
  | .cvt room b => Sys2Proof.Machine.execCvt room b s
  | .exp2 room b => Sys2Proof.Machine.execExp2 room b s
  | .log2 room b => Sys2Proof.Machine.execLog2 room b s
  | .rcp room b => Sys2Proof.Machine.execRcp room b s
  | .rsqrt room b => Sys2Proof.Machine.execRsqrt room b s
  | .tanh room b => Sys2Proof.Machine.execTanh room b s
  | .erf room b => Sys2Proof.Machine.execErf room b s
  | .iadd room b => Sys2Proof.Machine.execIadd room b s
  | .isub room b => Sys2Proof.Machine.execIsub room b s
  | .imul room b => Sys2Proof.Machine.execImul room b s
  | .andOp room b => Sys2Proof.Machine.execAnd room b s
  | .orOp room b => Sys2Proof.Machine.execOr room b s
  | .xorOp room b => Sys2Proof.Machine.execXor room b s
  | .shl room b => Sys2Proof.Machine.execShl room b s
  | .shr room b => Sys2Proof.Machine.execShr room b s
  | .sra room b => Sys2Proof.Machine.execSra room b s
  | .imin room b => Sys2Proof.Machine.execImin room b s
  | .imax room b => Sys2Proof.Machine.execImax room b s
  | .icmp room b => Sys2Proof.Machine.execIcmp room b s
  | .mov room b => Sys2Proof.Machine.execMov room b s
  | .ldi room b => Sys2Proof.Machine.execLdi room b s
  | .cld room b => Sys2Proof.Machine.execCld room b s
  | .cst room b => Sys2Proof.Machine.execCst room b s
  | .lut room b => Sys2Proof.Machine.execLut room b s
  | .sld room b => Sys2Proof.Machine.execSld room b s
  | .sst room b => Sys2Proof.Machine.execSst room b s
  | .sldt room b => Sys2Proof.Machine.execSldt room b s
  | .slds room b => Sys2Proof.Machine.execSlds room b s
  | .gath room b => Sys2Proof.Machine.execGath room b s
  | .scat room b => Sys2Proof.Machine.execScat room b s
  | .spxp room b => Sys2Proof.Machine.execSpxp room b s
  | .rand room b => Sys2Proof.Machine.execRand room b s
  | .rmask room b => Sys2Proof.Machine.execRmask room b s
  | .steer room b => Sys2Proof.Machine.execSteer room b s
  | .merge room b => Sys2Proof.Machine.execMerge room b s
  | .instructionResult room b chk => Sys2Proof.Machine.execInstructionResult room b chk s
  | .brkWinWrite room k v => Sys2Proof.Machine.execBrkWinWrite room k v s
  | .csLoad suite => Sys2Proof.Machine.execCsLoad suite s
  | .loadCheck suite => Sys2Proof.Machine.execLoadCheck suite s
  | .loadOutcome suite => Sys2Proof.Machine.execLoadOutcome suite s
  | .loaderRead room errs addr => Sys2Proof.Machine.execLoaderRead room errs addr s
  | .loadEffective room => Sys2Proof.Machine.execLoadEffective room s
  | .quarterRampDone room j => Sys2Proof.Machine.execQuarterRampDone room j s
  | .csRun suite => Sys2Proof.Machine.execCsRun suite s
  | .runEnd suite => Sys2Proof.Machine.execRunEnd suite s
  | .checkPoint room => Sys2Proof.Machine.execCheckPoint room s
  | .csNop suite => Sys2Proof.Machine.execCsNop suite s
  | .csStoke suite => Sys2Proof.Machine.execCsStoke suite s
  | .csCheckpoint suite => Sys2Proof.Machine.execCsCheckpoint suite s
  | .csFence suite => Sys2Proof.Machine.execCsFence suite s
  | .csLatchWait suite => Sys2Proof.Machine.execCsLatchWait suite s
  | .csHalt suite => Sys2Proof.Machine.execCsHalt suite s
  | .entryFetch suite data fail errs => Sys2Proof.Machine.execEntryFetch suite data fail errs s
  | .entryIssue suite => Sys2Proof.Machine.execEntryIssue suite s
  | .commandUnitEnable room v => Sys2Proof.Machine.execCommandUnitEnable room v s
  | .commandUnitDisable room v => Sys2Proof.Machine.execCommandUnitDisable room v s
  | .csTailWrite room v => Sys2Proof.Machine.execCsTailWrite room v s
  | .pause room => Sys2Proof.Machine.execPause room s
  | .resume room => Sys2Proof.Machine.execResume room s
  | .arrSeedWrite room v => Sys2Proof.Machine.execArrSeedWrite room v s
  | .freeze suite => Sys2Proof.Machine.execFreeze suite s
  | .release suite => Sys2Proof.Machine.execRelease suite s
  | .stallReq suite => Sys2Proof.Machine.execStallReq suite s
  | .halt suite => Sys2Proof.Machine.execHalt suite s
  | .suiteHalt suite => Sys2Proof.Machine.execSuiteHalt suite s
  | .suiteReg suite => Sys2Proof.Machine.execSuiteReg suite s
  | .orReduce suite engine => Sys2Proof.Machine.execOrReduce suite engine s
  | .damper suite => Sys2Proof.Machine.execDamper suite s
  | .epochFlip => Sys2Proof.Machine.execEpochFlip s
  | .glatch n => Sys2Proof.Machine.execGlatch n s
  | .digest suite => Sys2Proof.Machine.execDigest suite s
  | .heartbeat node flip => Sys2Proof.Machine.execHeartbeat node flip s
  | .fluWatchdog node => Sys2Proof.Machine.execFluWatchdog node s
  | .fluLatencyWrite v => Sys2Proof.Machine.execFluLatencyWrite v s
  | .shelfBankStep room bank errs addr => Sys2Proof.Machine.execShelfBankStep room bank errs addr s
  | .eccWriteBack room => Sys2Proof.Machine.execEccWriteBack room s
  | .shfQctrlWrite room v => Sys2Proof.Machine.execShfQctrlWrite room v s
  | .shfRetire room v => Sys2Proof.Machine.execShfRetire room v s
  | .bankCopyDone room badRows => Sys2Proof.Machine.execBankCopyDone room badRows s
  | .dwtQTailWrite room q v => Sys2Proof.Machine.execDwtQTailWrite room q v s
  | .dwtQCfgWrite room q v => Sys2Proof.Machine.execDwtQCfgWrite room q v s
  | .dwtCopy room q => Sys2Proof.Machine.execDwtCopy room q s
  | .dwtTranspose room q => Sys2Proof.Machine.execDwtTranspose room q s
  | .tileStore room q => Sys2Proof.Machine.execTileStore room q s
  | .tileLoad room q => Sys2Proof.Machine.execTileLoad room q s
  | .tileWrap room q => Sys2Proof.Machine.execTileWrap room q s
  | .dwtFill room q => Sys2Proof.Machine.execDwtFill room q s
  | .dwtCheck room q => Sys2Proof.Machine.execDwtCheck room q s
  | .descriptorComplete room q guard => Sys2Proof.Machine.execDescriptorComplete room q guard s
  | .hearthInstruction room par => Sys2Proof.Machine.execHearthInstruction room par s
  | .hearthLoad room => Sys2Proof.Machine.execHearthLoad room s
  | .hearthStore room => Sys2Proof.Machine.execHearthStore room s
  | .hearthAmo room => Sys2Proof.Machine.execHearthAmo room s
  | .hearthSc room => Sys2Proof.Machine.execHearthSc room s
  | .hearthFence room => Sys2Proof.Machine.execHearthFence room s
  | .fenceI room => Sys2Proof.Machine.execFenceI room s
  | .hearthInterrupt room cause => Sys2Proof.Machine.execHearthInterrupt room cause s
  | .hearthStart room xu => Sys2Proof.Machine.execHearthStart room xu s
  | .hearthHalt room xu => Sys2Proof.Machine.execHearthHalt room xu s
  | .csFetch room data fail errs => Sys2Proof.Machine.execCsFetch room data fail errs s
  | .csExec room => Sys2Proof.Machine.execCsExec room s
  | .chSend room => Sys2Proof.Machine.execChSend room s
  | .chNext room => Sys2Proof.Machine.execChNext room s
  | .chDone room => Sys2Proof.Machine.execChDone room s
  | .chOpen room => Sys2Proof.Machine.execChOpen room s
  | .chClose room => Sys2Proof.Machine.execChClose room s
  | .ltSig room => Sys2Proof.Machine.execLtSig room s
  | .ltWait room => Sys2Proof.Machine.execLtWait room s
  | .dwPush room => Sys2Proof.Machine.execDwPush room s
  | .dwWait room => Sys2Proof.Machine.execDwWait room s
  | .dwWaitTimeout room => Sys2Proof.Machine.execDwWaitTimeout room s
  | .spPut room bad => Sys2Proof.Machine.execSpPut room bad s
  | .stoke room => Sys2Proof.Machine.execStoke room s
  | .stockpotEnable room p v => Sys2Proof.Machine.execStockpotEnable room p v s
  | .stpSyncRetry room p => Sys2Proof.Machine.execStpSyncRetry room p s
  | .stpTargetTimeout room p => Sys2Proof.Machine.execStpTargetTimeout room p s
  | .hallRoute k flips merge bad stall => Sys2Proof.Machine.execHallRoute k flips merge bad stall s
  | .hallWrite k => Sys2Proof.Machine.execHallWrite k s
  | .readReq k => Sys2Proof.Machine.execReadReq k s
  | .readRsp k => Sys2Proof.Machine.execReadRsp k s
  | .atomic k => Sys2Proof.Machine.execAtomic k s
  | .message k => Sys2Proof.Machine.execMessage k s
  | .reduce k bad => Sys2Proof.Machine.execReduce k bad s
  | .stream k => Sys2Proof.Machine.execStream k s
  | .ack k => Sys2Proof.Machine.execAck k s
  | .nack k => Sys2Proof.Machine.execNack k s
  | .hallSlot room => Sys2Proof.Machine.execHallSlot room s
  | .ageIncrement k => Sys2Proof.Machine.execAgeIncrement k s
  | .linkCvuCompare room net port => Sys2Proof.Machine.execLinkCvuCompare room net port s
  | .routingTableWrite room off w => Sys2Proof.Machine.execRoutingTableWrite room off w s
  | .flip => Sys2Proof.Machine.execFlip s
  | .hallEpochDone => Sys2Proof.Machine.execHallEpochDone s
  | .hallDrainTimeout => Sys2Proof.Machine.execHallDrainTimeout s
  | .latchConfigure glob room n v => Sys2Proof.Machine.execLatchConfigure glob room n v s
  | .lchArrive room n pid frm => Sys2Proof.Machine.execLchArrive room n pid frm s
  | .latchSet glob room n => Sys2Proof.Machine.execLatchSet glob room n s
  | .latchClear glob room n => Sys2Proof.Machine.execLatchClear glob room n s
  | .latchAdvance glob room n => Sys2Proof.Machine.execLatchAdvance glob room n s
  | .arriveAs glob room n pid => Sys2Proof.Machine.execArriveAs glob room n pid s
  | .resetArrivals glob room n => Sys2Proof.Machine.execResetArrivals glob room n s
  | .latchTimeout glob room n => Sys2Proof.Machine.execLatchTimeout glob room n s
  | .cellarAccess k errs => Sys2Proof.Machine.execCellarAccess k errs s
  | .cellarRefresh _stack => Sys2Proof.Machine.execCellarRefresh _stack s
  | .ringReservation k => Sys2Proof.Machine.execRingReservation k s
  | .celRegionWrite stack r v => Sys2Proof.Machine.execCelRegionWrite stack r v s
  | .chuteEnable c v => Sys2Proof.Machine.execChuteEnable c v s
  | .chuteDisable c v => Sys2Proof.Machine.execChuteDisable c v s
  | .chuListTailWrite c v => Sys2Proof.Machine.execChuListTailWrite c v s
  | .mark c errs => Sys2Proof.Machine.execMark c errs s
  | .cellar c errs => Sys2Proof.Machine.execCellar c errs s
  | .larder c errs => Sys2Proof.Machine.execLarder c errs s
  | .gate c errs => Sys2Proof.Machine.execGate c errs s
  | .chuteSourceData c errs => Sys2Proof.Machine.execChuteSourceData c errs s
  | .chutePacket c bad => Sys2Proof.Machine.execChutePacket c bad s
  | .starvationCheck c => Sys2Proof.Machine.execStarvationCheck c s
  | .chuteStarved c => Sys2Proof.Machine.execChuteStarved c s
  | .larderSlotEnable c j v => Sys2Proof.Machine.execLarderSlotEnable c j v s
  | .creditPeriod c j => Sys2Proof.Machine.execCreditPeriod c j s
  | .larderData c j session off data => Sys2Proof.Machine.execLarderData c j session off data s
  | .larderCheck c j session start crc => Sys2Proof.Machine.execLarderCheck c j session start crc s
  | .abort c j session => Sys2Proof.Machine.execAbort c j session s
  | .eavModeSet pos v => Sys2Proof.Machine.execEavModeSet pos v s
  | .portEnable pos v => Sys2Proof.Machine.execPortEnable pos v s
  | .portDisable pos v => Sys2Proof.Machine.execPortDisable pos v s
  | .trainingStep port engine partner mac native => Sys2Proof.Machine.execTrainingStep port engine partner mac native s
  | .trainingAttemptTimeout port => Sys2Proof.Machine.execTrainingAttemptTimeout port s
  | .trainingRetry port => Sys2Proof.Machine.execTrainingRetry port s
  | .eavLinkUp port => Sys2Proof.Machine.execEavLinkUp port s
  | .eavLinkDown port uncorr lost => Sys2Proof.Machine.execEavLinkDown port uncorr lost s
  | .eavFecDegraded port lane ber rx => Sys2Proof.Machine.execEavFecDegraded port lane ber rx s
  | .fecDegradeTimeout port => Sys2Proof.Machine.execFecDegradeTimeout port s
  | .ethFrameReceive port fcs icrc frame => Sys2Proof.Machine.execEthFrameReceive port fcs icrc frame s
  | .pfcFrame port en times => Sys2Proof.Machine.execPfcFrame port en times s
  | .yazalData port ce words data => Sys2Proof.Machine.execYazalData port ce words data s
  | .yazalAck port ce words => Sys2Proof.Machine.execYazalAck port ce words s
  | .yazalReset port ce words => Sys2Proof.Machine.execYazalReset port ce words s
  | .ackDelay n port => Sys2Proof.Machine.execAckDelay n port s
  | .rtoExpiry n => Sys2Proof.Machine.execRtoExpiry n s
  | .pathHoldExpiry n => Sys2Proof.Machine.execPathHoldExpiry n s
  | .streamTimeout n => Sys2Proof.Machine.execStreamTimeout n s
  | .keepalive n => Sys2Proof.Machine.execKeepalive n s
  | .contextMissFill n => Sys2Proof.Machine.execContextMissFill n s
  | .doorbell => Sys2Proof.Machine.execDoorbell s
  | .send n => Sys2Proof.Machine.execSend n s
  | .control n => Sys2Proof.Machine.execControl n s
  | .roceSend n => Sys2Proof.Machine.execRoceSend n s
  | .roceWrite n => Sys2Proof.Machine.execRoceWrite n s
  | .roceRead n => Sys2Proof.Machine.execRoceRead n s
  | .rocePacket port ce icrc op qpn psn va rkey len synd data => Sys2Proof.Machine.execRocePacket port ce icrc op qpn psn va rkey len synd data s
  | .hello n => Sys2Proof.Machine.execHello n s
  | .latchArrive n => Sys2Proof.Machine.execLatchArrive n s
  | .jobHalt n => Sys2Proof.Machine.execJobHalt n s
  | .contextWrite v => Sys2Proof.Machine.execContextWrite v s
  | .rollCallGo suite v => Sys2Proof.Machine.execRollCallGo suite v s
  | .rollCallPeriod suite => Sys2Proof.Machine.execRollCallPeriod suite s
  | .rollCall n => Sys2Proof.Machine.execRollCall n s
  | .rollSplit n => Sys2Proof.Machine.execRollSplit n s
  | .rollCallTimeout suite => Sys2Proof.Machine.execRollCallTimeout suite s
  | .suiteNoProgress suite => Sys2Proof.Machine.execSuiteNoProgress suite s
  | .inspInstall v signed => Sys2Proof.Machine.execInspInstall v signed s
  | .inspectionWindowEnd suite fails => Sys2Proof.Machine.execInspectionWindowEnd suite fails s
  | .selfTest v ref firmware => Sys2Proof.Machine.execSelfTest v ref firmware s
  | .selftestDone result => Sys2Proof.Machine.execSelftestDone result s
  | .incidentRecord k => Sys2Proof.Machine.execIncidentRecord k s
  | .ceRateCheck kind inst rise => Sys2Proof.Machine.execCeRateCheck kind inst rise s
  | .strikeExpiry phys => Sys2Proof.Machine.execStrikeExpiry phys s
  | .cvuRunWrite unit k v => Sys2Proof.Machine.execCvuRunWrite unit k v s
  | .eccCfgWrite stack v => Sys2Proof.Machine.execEccCfgWrite stack v s
  | .recodeDone stack bad => Sys2Proof.Machine.execRecodeDone stack bad s
  | .scrubRead stack e => Sys2Proof.Machine.execScrubRead stack e s
  | .scrubPassEnd stack => Sys2Proof.Machine.execScrubPassEnd stack s
  | .shelfScrub room errs late => Sys2Proof.Machine.execShelfScrub room errs late s
  | .pageRetire stack v e => Sys2Proof.Machine.execPageRetire stack v e s
  | .eccRemapWrite stack v => Sys2Proof.Machine.execEccRemapWrite stack v s
  | .logHeadWrite v => Sys2Proof.Machine.execLogHeadWrite v s
  | .sweepHold suite => Sys2Proof.Machine.execSweepHold suite s
  | .quiescence suite => Sys2Proof.Machine.execQuiescence suite s
  | .quiesceTimeout suite => Sys2Proof.Machine.execQuiesceTimeout suite s
  | .sweepOutDone suite fail => Sys2Proof.Machine.execSweepOutDone suite fail s
  | .holdRelease suite => Sys2Proof.Machine.execHoldRelease suite s
  | .preempt suite => Sys2Proof.Machine.execPreempt suite s
  | .sweepIn suite src buf gen => Sys2Proof.Machine.execSweepIn suite src buf gen s
  | .sweepReturn suite gen => Sys2Proof.Machine.execSweepReturn suite gen s
  | .swpgResume suite => Sys2Proof.Machine.execSwpgResume suite s
  | .swpgHalt suite => Sys2Proof.Machine.execSwpgHalt suite s
  | .swpgAbort suite => Sys2Proof.Machine.execSwpgAbort suite s
  | .sweepInDone suite bad => Sys2Proof.Machine.execSweepInDone suite bad s
  | .resumeEt => Sys2Proof.Machine.execResumeEt s
  | .damperTick wing => Sys2Proof.Machine.execDamperTick wing s
  | .profileRise suite start level => Sys2Proof.Machine.execProfileRise suite start level s
  | .floorHoldExpiry wing => Sys2Proof.Machine.execFloorHoldExpiry wing s
  | .chimneyReady wing => Sys2Proof.Machine.execChimneyReady wing s
  | .dmpStokeLate suite => Sys2Proof.Machine.execDmpStokeLate suite s
  | .stokeEnd suite => Sys2Proof.Machine.execStokeEnd suite s
  | .powerWindow => Sys2Proof.Machine.execPowerWindow s
  | .capWrite v => Sys2Proof.Machine.execCapWrite v s
  | .suiteBudgetWrite suite v => Sys2Proof.Machine.execSuiteBudgetWrite suite v s
  | .draughtEnable v => Sys2Proof.Machine.execDraughtEnable v s
  | .drTotalWrite v => Sys2Proof.Machine.execDrTotalWrite v s
  | .draughtPeriod => Sys2Proof.Machine.execDraughtPeriod s
  | .draughtStatus n => Sys2Proof.Machine.execDraughtStatus n s
  | .give n => Sys2Proof.Machine.execGive n s
  | .take n => Sys2Proof.Machine.execTake n s
  | .confirm n => Sys2Proof.Machine.execConfirm n s
  | .thermalSample room temp => Sys2Proof.Machine.execThermalSample room temp s
  | .powerOn => Sys2Proof.Machine.execPowerOn s
  | .bringupStep ok ns ws => Sys2Proof.Machine.execBringupStep ok ns ws s
  | .bringupTimeout => Sys2Proof.Machine.execBringupTimeout s
  | .inputSample vin iin => Sys2Proof.Machine.execInputSample vin iin s
  | .inputShutdown => Sys2Proof.Machine.execInputShutdown s
  | .chimneySample wing phases vout iout => Sys2Proof.Machine.execChimneySample wing phases vout iout s
  | .pmbusPoll wing status temp => Sys2Proof.Machine.execPmbusPoll wing status temp s
  | .pwrChimneyFault wing => Sys2Proof.Machine.execPwrChimneyFault wing s
  | .chimneyRestart wing still => Sys2Proof.Machine.execChimneyRestart wing still s
  | .railReached wing => Sys2Proof.Machine.execRailReached wing s
  | .senseCheck wing q0 q1 q2 q3 => Sys2Proof.Machine.execSenseCheck wing q0 q1 q2 q3 s
  | .roomOn room => Sys2Proof.Machine.execRoomOn room s
  | .roomOff room => Sys2Proof.Machine.execRoomOff room s
  | .headerStage room => Sys2Proof.Machine.execHeaderStage room s
  | .roomPowerGood room decoderBad => Sys2Proof.Machine.execRoomPowerGood room decoderBad s
  | .tripClr room => Sys2Proof.Machine.execTripClr room s
  | .vtrimWrite room v => Sys2Proof.Machine.execVtrimWrite room v s
  | .tmaxClear room => Sys2Proof.Machine.execTmaxClear room s
  | .coolantSample flow tin tout => Sys2Proof.Machine.execCoolantSample flow tin tout s
  | .pwrCoolantFault => Sys2Proof.Machine.execPwrCoolantFault s
  | .pwrLeak wet => Sys2Proof.Machine.execPwrLeak wet s
  | .pwrgClear => Sys2Proof.Machine.execPwrgClear s
  | .clkRefFail ref => Sys2Proof.Machine.execClkRefFail ref s
  | .refSelect v => Sys2Proof.Machine.execRefSelect v s
  | .clkLockLost wing => Sys2Proof.Machine.execClkLockLost wing s
  | .relock wing core => Sys2Proof.Machine.execRelock wing core s
  | .relockTimeout wing => Sys2Proof.Machine.execRelockTimeout wing s
  | .rateSwitch suite v => Sys2Proof.Machine.execRateSwitch suite v s
  | .coreLocked wing => Sys2Proof.Machine.execCoreLocked wing s
  | .clkSwitchDone suite bad => Sys2Proof.Machine.execClkSwitchDone suite bad s
  | .peripheralGate v firmware => Sys2Proof.Machine.execPeripheralGate v firmware s
  | .surveyCommit => Sys2Proof.Machine.execSurveyCommit s
  | .markBad phys => Sys2Proof.Machine.execMarkBad phys s
  | .retrainSeam wing side => Sys2Proof.Machine.execRetrainSeam wing side s
  | .retrainChannel stack ch => Sys2Proof.Machine.execRetrainChannel stack ch s
  | .commit => Sys2Proof.Machine.execCommit s
  | .channelOutOfService stack ch errs => Sys2Proof.Machine.execChannelOutOfService stack ch errs s
  | .retrainAttemptEnd target good => Sys2Proof.Machine.execRetrainAttemptEnd target good s
  | .remap masks failed us => Sys2Proof.Machine.execRemap masks failed us s
  | .goBrick room b => Sys2Proof.Machine.execGoBrick room b s
  | .goRoom room => Sys2Proof.Machine.execGoRoom room s
  | .rstDrainTimeout room => Sys2Proof.Machine.execRstDrainTimeout room s
  | .roomResetRelease room => Sys2Proof.Machine.execRoomResetRelease room s
  | .suiteReset v => Sys2Proof.Machine.execSuiteReset v s
  | .houseReset v => Sys2Proof.Machine.execHouseReset v s
  | .resetPin => Sys2Proof.Machine.execResetPin s
  | .perst => Sys2Proof.Machine.execPerst s
  | .porchWatchdog => Sys2Proof.Machine.execPorchWatchdog s
  | .bar2Access write off n data => Sys2Proof.Machine.execBar2Access write off n data s
  | .pchPageTimeout addr write => Sys2Proof.Machine.execPchPageTimeout addr write s
  | .hostRequest k bme => Sys2Proof.Machine.execHostRequest k bme s
  | .hostCompletion k ok data => Sys2Proof.Machine.execHostCompletion k ok data s
  | .pcheArm src => Sys2Proof.Machine.execPcheArm src s
  | .holdoffExpiry src => Sys2Proof.Machine.execHoldoffExpiry src s
  | .functionLevelReset => Sys2Proof.Machine.execFunctionLevelReset s
  | .recoveryImage verifies version => Sys2Proof.Machine.execRecoveryImage verifies version s
  | .updateFw verifies version => Sys2Proof.Machine.execUpdateFw verifies version s
  | .exportSurvey => Sys2Proof.Machine.execExportSurvey s
  | .mgmtCfg => Sys2Proof.Machine.execMgmtCfg s
  | .fwLock => Sys2Proof.Machine.execFwLock s
  | .dbgLock => Sys2Proof.Machine.execDbgLock s
  | .mgmtRequest op a x y => Sys2Proof.Machine.execMgmtRequest op a x y s
  | .rackPmbusCommand cmd => Sys2Proof.Machine.execRackPmbusCommand cmd s
  | .gpioEdge pin level => Sys2Proof.Machine.execGpioEdge pin level s
  | .timerExpired k => Sys2Proof.Machine.execTimerExpired k s
  | .define v => Sys2Proof.Machine.execDefine v s
  | .delete v => Sys2Proof.Machine.execDelete v s
  | .trigInput pin => Sys2Proof.Machine.execTrigInput pin s
  | .debugSweepOut bad => Sys2Proof.Machine.execDebugSweepOut bad s
  | .debugSweepIn bad crc => Sys2Proof.Machine.execDebugSweepIn bad crc s
  | .jtagReset => Sys2Proof.Machine.execJtagReset s
  | .extest pins vals => Sys2Proof.Machine.execExtest pins vals s
  | .samplePreload pins vals => Sys2Proof.Machine.execSamplePreload pins vals s
  | .idcode => Sys2Proof.Machine.execIdcode s
  | .highz => Sys2Proof.Machine.execHighz s
  | .clamp => Sys2Proof.Machine.execClamp s
  | .dbgacc op off data => Sys2Proof.Machine.execDbgacc op off data s
  | .bypass => Sys2Proof.Machine.execBypass s
  | .fixedStallEnd suite => Sys2Proof.Machine.execFixedStallEnd suite s
  | .observationSample => Sys2Proof.Machine.execObservationSample s
  | .resetPinRise => Sys2Proof.Machine.execResetPinRise s
  | .pacedSend n => Sys2Proof.Machine.execPacedSend n s

end Sys2Proof.Machine
end

