-- ==== Sys2Proof/Machine/Tick.lean ====
section
/-!
DEFINITION. The passing of time: one period of 1.5 GHz, the fastest Suite rate, while no command waits (R7, R187, R188, R190, R200, R308, R478).

A Suite of rate R completes R cycles in 60 periods, and engine time advances 5 in 48.
-/

namespace Sys2Proof.Machine

/-! ### One Suite cycle -/

/-- The cycle that ends, as the counters of a RUN take it: a step, a stall step under its lowest cause, or neither in HOLD (R187, R190, R465). -/
def Suite.account (u : Suite) : Suite :=
  if u.run ≠ 2 ∨ u.pastHalt ∨ u.holding then u
  else
    match u.freezeCause u.clk with
    | some c => { u with cycle := u.cycle + 1, stall := smSet 0 u.stall c (smGet 0 u.stall c + 1), runs := if u.frozenL then u.runs else u.runs + 1, frozenL := true }
    | none =>
      if u.ended then { u with frozenL := false }
      else { u with cycle := u.cycle + 1, step := u.step + 1, frozenL := false, ended := decide (u.mode = 0) && decide (u.runSteps ≤ u.step + 1) }

/-- The Suite's clocks advance: the Suite cycle always, the lane cycle unless the Suite was frozen (R67, R189). -/
def Suite.advance (u : Suite) : Suite :=
  { u.account with clk := u.clk + 1, now := if u.run = 2 ∧ (u.frozen ∨ u.pastHalt) then u.now else u.now + 1 }

/-- Whether a cycle of an elastic RUN counts for the progress watchdog: no Brick waits in an LWAIT, and no granted Chute starves (R417). -/
def State.wdCounts (s : State) (i : Nat) (u : Suite) : Bool :=
  decide (u.run = 2) && decide (u.mode = 1) && !u.frozen && !u.pastHalt
    && !(u.rooms.any fun r => (s.room r).latches.any fun l => l.2.waits.any fun w => match w.who with | .brick _ => true | _ => false)
    && !((List.range 32).any fun c => tst (s.rd (chuP c) 0x080) 63 && decide (s.chuSuite c = i) && decide (s.rdF (chuP c) 0x088 63 61 = 2))

/-- Latches of a Room whose next generation is complete already complete it (R320, R321). -/
def State.latchTurn (s : State) (room : Nat) : State := (s.room room).latches.foldl (fun (s : State) (e : Nat × Latch) => s.testLatch room e.1) s

/-- A Hearth that runs counts its cycles (R241). -/
def State.hearthTurn (s : State) (room : Nat) : State :=
  if (s.room room).hearth.run then s.modRoom room fun r => { r with hearth := { r.hearth with cycle := r.hearth.cycle + 1 } } else s

/-- One Room in one Suite cycle. -/
def State.roomTurn (s : State) (room : Nat) : State := if s.dark room then s.resetAfterHalt room else ((s.latchTurn room).hearthTurn room).resetAfterHalt room

/-- One cycle of a Suite ends and the next begins (R187 to R190, R497, R504, R541). -/
def State.suiteCycle (s : State) (i : Nat) : State :=
  match s.suite i with
  | none => s
  | some u =>
    let prog := if s.wdCounts i u then u.prog + 1 else u.prog
    let s := s.setSuite i { u.advance with prog }
    let s := u.rooms.foldl State.roomTurn s
    ((s.switchTurn i).slopeHold i).throttle i

/-- The rate a Suite's clock runs at: that of a switch which has begun, else its own (R187, R541). -/
def State.liveRate (s : State) (i : Nat) (u : Suite) : Nat :=
  match s.rateSw i with
  | some r => if r.phase = 2 then r.rate else u.rate
  | none => u.rate

/-- One period of a Suite's phase (R7, R536). -/
def State.suiteTick (s : State) (i : Nat) : State :=
  match s.suite i with
  | none => s
  | some u =>
    let p := u.phase + s.liveRate i u
    if p < 60 then s.setSuite i { u with phase := p } else (s.setSuite i { u with phase := p - 60 }).suiteCycle i

/-! ### Engine time -/

/-- One period of engine time: frames whose pause has ended leave, receive buffers above their threshold are looked at again, service time and the time
spent waiting for other engines are counted (R308, R375, R478, R500). -/
def State.etTurn (s : State) : State :=
  let s := ({ s with et := s.et + 1 } : State).flushTx
  let s := s.rim.pfcOff.foldl (fun (s : State) key => s.rxTurn (key / 8) (key % 8)) s
  let s := if tst (s.rd (gp .swpg) 0x098) 63 ∧ s.et % 156250 = 0 then s.wr (gp .swpg) 0x0A0 (s.rd (gp .swpg) 0x0A0 + 1) else s
  if s.drOn && s.isCold then { s with rim := { s.rim with coldEt := s.rim.coldEt + 1 } } else s

/-- Engine time advances 5 periods in 48 of 1.5 GHz (R308). -/
def State.etTick (s : State) : State :=
  if s.etPhase + 5 < 48 then { s with etPhase := s.etPhase + 5 } else ({ s with etPhase := s.etPhase + 5 - 48 } : State).etTurn

/-- GATE entries of the Chutes whose wait has ended (R350). -/
def State.gateTurn (s : State) : State :=
  (List.range 32).foldl (fun (s : State) c => if (s.chute c).gate.isSome then s.chuGo c ((s.chute c).entries.length + 1) else s) s

/-- One period with no command: a remap is complete, and every Suite's phase, the Chutes' gates, engine time and the event tree are brought forward
(R42). -/
def State.tick (s : State) : State :=
  let s : State := { s with rim := { s.rim with remapping := [] } }
  let s := (s.suites.map fun (e : Nat × Option Suite) => e.1).foldl State.suiteTick s
  (s.gateTurn.etTick).treeScan

end Sys2Proof.Machine
end

