-- ==== Sys2Proof/Safety.lean ====
section
/-!
DEFINITION. What counts as a safe step and a sound state, in the terms the statements use.
-/

namespace Sys2Proof.Machine

/-- The canonical form of engine memory: addresses strictly rising, and no byte listed that an unlisted address reads as. -/
def Memory.wf (m : List Host.Cell) : Bool := smWf (fun _ => (0 : Byte)) m

/-- The canonical form of the register file: keys strictly rising, and no register listed at its reset value. -/
def Registers.wf (m : SMap W64) : Bool := smWf keyReset m

/-- The canonical form of Rooms, Bricks and Suites. -/
def State.wf (s : State) : Bool :=
  Memory.wf s.mem && Registers.wf s.regs && smWf (fun _ => RoomSt.empty) s.rooms && smWf (fun _ => Brick.empty) s.bricks
    && smWf (fun _ => (none : Option Suite)) s.suites

/-- A step is safe where it answers a next state: it neither faults nor is refused. -/
def Safe (o : Host.Outcome State Fault Refusal) : Prop := ∃ s, o = .next s

/-- Command `c` completes from `s`: it answers a next state, of which `P` holds. -/
def Completes (c : Instr) (s : State) (P : State → Prop) : Prop := ∃ t, exec c s = .next t ∧ P t

/-- Command `c` is turned away: the event `bit` of page `p` is raised, and no Suite, Room, Brick or byte of memory changes. -/
def TurnedAway (c : Instr) (s : State) (p : PageRef) (bit : Nat) : Prop :=
  Completes c s fun t => tst (t.rd p 0x028) bit = true ∧ t.suites = s.suites ∧ t.rooms = s.rooms ∧ t.bricks = s.bricks ∧ t.mem = s.mem ∧ t.rim = s.rim
    ∧ t.remap = s.remap

/-- The plan of the issue whose turn it is, its predicate allowing it (R65, R88). -/
def Turn.plan (t : Turn) : Plan :=
  planOf t.br t.ins (smGet SlotCnt.fresh t.ctx.cnts t.ctx.ip) t.u.now false (decide (t.u.mode = 0)) false

/-- The Brick has its turn to issue opcode `op`, and everything the issue needs is there: its predicate allows it, no token is missing and none
it reads is void, its output queues have room, no earlier result bars it, and neither an armed injection nor the Damper does (R65, R66, R88,
R92, R94). -/
structure FireOk (s : State) (room b op : Nat) (t : Turn) : Prop where
  turn  : s.turn room b op = some t
  pred  : t.br.pred t.ins = true
  noInj : s.injEmpty room b (decide (t.u.mode = 0)) = false
  tokens : t.plan.missing = 0
  data  : t.plan.void = false
  single : t.plan.both = false
  space : ∀ q ∈ t.ins.queues, t.ins.words ≤ t.br.free q t.u.now (decide (t.u.mode = 0))
  ready : t.u.mode = 0 ∨ (t.br.pend.all fun q => q.ws.all fun w => !t.ins.meets w) = true
  limit : t.u.mode = 0 ∨ s.dmpBars room t.ins.dmpClass = 0

/-- Everything a program or its data can see outside one Brick and the counts of its Room is unchanged: memory, the other Bricks and Rooms, the
Room's Latches, the registers but those of the Room's BRK and SHF pages, packets and the Survey. -/
structure SameOutside (s t : State) (room b : Nat) : Prop where
  mem    : t.mem = s.mem
  bricks : ∀ r c, brickKey r c ≠ brickKey room b → t.brick r c = s.brick r c
  rooms  : ∀ r, r ≠ room → t.room r = s.room r
  glatch : t.glatch = s.glatch
  pkts   : t.pkts = s.pkts
  rim    : t.rim = s.rim
  remap  : t.remap = s.remap
  et     : t.et = s.et
  latches : (t.room room).latches = (s.room room).latches
  regs   : room < 2 ^ 20 → ∀ (q : PageRef) (o : Nat), q.inst < 2 ^ 20 → o < 4096 → q ≠ rp .brk room → q ≠ rp .shf room → t.rd q o = s.rd q o

/-! ### Brick instructions -/

/-- The Brick instructions but the two on Room Latches, each with its opcode (R95). -/
def brickOps : List ((Nat → Nat → Instr) × Nat) :=
  [(.nop, 0x00), (.jnz, 0x01), (.fold, 0x02), (.stop, 0x03), (.mac, 0x10), (.macz, 0x11), (.dot, 0x12), (.dotz, 0x13), (.macs24, 0x14),
   (.macs48, 0x15), (.stkmac, 0x18), (.stkin, 0x19), (.stkadd, 0x1A), (.stkdrain, 0x1B), (.stkcvt, 0x1C), (.accclr, 0x20), (.drain, 0x21),
   (.drainc, 0x22), (.mxq, 0x23)]
  ++ [(.fma, 0x30), (.add, 0x31), (.sub, 0x32), (.mul, 0x33), (.min, 0x34), (.max, 0x35), (.neg, 0x36), (.abs, 0x37), (.cmp, 0x38),
      (.sel, 0x39), (.cvt, 0x40), (.exp2, 0x50), (.log2, 0x51), (.rcp, 0x52), (.rsqrt, 0x53), (.tanh, 0x54), (.erf, 0x55)]
  ++ [(.iadd, 0x60), (.isub, 0x61), (.imul, 0x62), (.andOp, 0x63), (.orOp, 0x64), (.xorOp, 0x65), (.shl, 0x66), (.shr, 0x67), (.sra, 0x68),
      (.imin, 0x69), (.imax, 0x6A), (.icmp, 0x6B), (.mov, 0x6C), (.ldi, 0x6D), (.cld, 0x70), (.cst, 0x71), (.lut, 0x72)]
  ++ [(.sld, 0x80), (.sst, 0x81), (.sldt, 0x82), (.slds, 0x83), (.gath, 0x84), (.scat, 0x85), (.spxp, 0x90), (.rand, 0xA0), (.rmask, 0xA1),
      (.steer, 0xB0), (.merge, 0xB1)]

/-- The first word the issue takes from source `k`: 0 is A, 1 is B, 2 is C (R81). -/
def Turn.arg (t : Turn) (k : Nat) : W64 := (t.plan.vals.getD k []).getD 0 0

/-- The bits of a register or token that an issue writes: those of the lanes that are on (R88, R90). -/
def Turn.on (t : Turn) : W64 := if t.ins.pmode = 3 then laneMask t.ins.fm.width (t.br.reg t.ins.preg) else ~~~ (0 : W64)

/-- The writes of a result of one word into DST: a register with its off lanes kept, a token with its off lanes zero in each output queue
named, or nothing (R82, R90). -/
def Turn.dst (t : Turn) (w : W64) : List BWrite :=
  if t.ins.d ≤ 0x1F then [.reg t.ins.d t.on w]
  else if t.ins.d = 0x20 then [.oq 0 (mkToken (w &&& t.on) (t.br.oqTag t.br.active 0) false)]
  else if t.ins.d = 0x21 then [.oq 1 (mkToken (w &&& t.on) (t.br.oqTag t.br.active 1) false)]
  else if t.ins.d = 0x22 then
    [.oq 0 (mkToken (w &&& t.on) (t.br.oqTag t.br.active 0) false), .oq 1 (mkToken (w &&& t.on) (t.br.oqTag t.br.active 1) false)]
  else []

/-- What a full fire of a Brick instruction leaves: it is counted; registers, accumulators, flags, Cubby and output queues stand as they were;
one result at most, whose writes satisfy `P`, is in flight and lands at the end of step now + L − 1; the next issue comes at the interval or
later; and what lies outside the Brick stays (R85, R91, R118, R193). -/
structure Fired (s s' : State) (room b : Nat) (t : Turn) (P : List BWrite → Prop) : Prop where
  count : ((s'.brick room b).ctx t.br.active).fire = (t.br.ctx t.br.active).fire + 1
  regs : (s'.brick room b).g = t.br.g
  accs : (s'.brick room b).acc = t.br.acc ∧ (s'.brick room b).sflags = t.br.sflags
  cubby : (s'.brick room b).cubby = t.br.cubby
  oqs : (s'.brick room b).oq = t.br.oq
  lanes : (s'.brick room b).lanes = t.br.lanes ∧ (s'.brick room b).inp = t.br.inp
  active : (s'.brick room b).active = t.br.active ∧ (s'.brick room b).err = t.br.err
  flight : ∃ l : List Pend, (s'.brick room b).pend = t.br.pend ++ l ∧ l.length ≤ 1
    ∧ (∀ p ∈ l, p.land = t.u.now + t.ins.latency - 1 ∧ p.op = t.ins.op ∧ p.ctx = t.br.active) ∧ P (l.flatMap Pend.ws)
  pace : t.u.now + t.ins.interval ≤ (s'.brick room b).due ∧ (s'.brick room b).issued = some t.u.now
  outside : SameOutside s s' room b
  queue : s'.pending = s.pending

/-- Command `c` of opcode `op` fires at its turn, with a result whose writes satisfy `P`. -/
def FiresWith (c : Nat → Nat → Instr) (op : Nat) (P : Turn → List BWrite → Prop) : Prop :=
  ∀ (s : State) (room b : Nat) (t : Turn), FireOk s room b op t → Completes (c room b) s fun s' => Fired s s' room b t (P t)

/-- A result of one word for DST whose lanes are `f` of the lanes of A, B and C (R47, R82). -/
def LanesAre (f : Nat → Nat → Nat → Nat → Nat) (t : Turn) (ws : List BWrite) : Prop :=
  ∃ w : W64, ws = t.dst w ∧ ∀ l, l < t.ins.fm.lanes →
    lane t.ins.fm.width w l
      = f t.ins.fm.width (lane t.ins.fm.width (t.arg 0) l) (lane t.ins.fm.width (t.arg 1) l) (lane t.ins.fm.width (t.arg 2) l)

/-- A word for DST each of whose lanes is the exact value `v` of the operand lanes rounded once as RND says, with random bits only where it
asks for them (R99, R103, R115, R123, R127, R128). -/
def RoundedLanes (v : Val → Val → Val → Val) (t : Turn) (ws : List BWrite) : Prop :=
  ∃ w : W64, ws = t.dst w ∧ ∀ l, l < t.ins.fm.lanes → ∃ k, (t.ins.aux % 2 = 0 → k = 0) ∧
    lane t.ins.fm.width w l
      = encodeElem t.ins.fm ⟨decide (t.ins.aux % 2 = 1), decide (t.ins.aux / 2 % 2 = 1), randBits t.ins.fm, k⟩
          (v (decodeElem t.ins.fm (lane t.ins.fm.width (t.arg 0) l)) (decodeElem t.ins.fm (lane t.ins.fm.width (t.arg 1) l))
            (decodeElem t.ins.fm (lane t.ins.fm.width (t.arg 2) l)))

/-! ### Latches -/

/-- A hand operation on a Room Latch: LATCH_HAND raised and recorded as made by hand, that Latch holding `l`, and nothing changed but its Room's
Latches and page (R327, R335). -/
structure HandMade (s t : State) (room n : Nat) (l : Latch) : Prop where
  event  : tst (t.rd (rp .lch room) 0x028) 4 = true
  record : ∃ r : Incident, t.flying = s.flying ++ [r] ∧ r.code = Page.lch.cls * 256 + 5 ∧ r.hand = true
  latch  : t.latch room n = l
  others : ∀ m, m ≠ n → t.latch room m = s.latch room m
  rooms  : ∀ r, r ≠ room → t.room r = s.room r
  rest   : t.mem = s.mem ∧ t.bricks = s.bricks ∧ t.suites = s.suites ∧ t.glatch = s.glatch ∧ t.pkts = s.pkts

/-- A hand operation on a global Flue Latch (R327, R328, R335). -/
structure HandMadeG (s t : State) (n : Nat) (l : Latch) : Prop where
  event  : tst (t.rd (glPage n) 0x028) 4 = true
  record : ∃ r : Incident, t.flying = s.flying ++ [r] ∧ r.code = Page.lchg.cls * 256 + 5 ∧ r.hand = true
  latch  : t.gl n = l
  others : ∀ m, m ≠ n → t.gl m = s.gl m
  rest   : t.mem = s.mem ∧ t.bricks = s.bricks ∧ t.suites = s.suites ∧ t.rooms = s.rooms ∧ t.pkts = s.pkts

/-! ### The command stream -/

/-- The head entry of Suite `i`'s ring has completed: it is gone, CS_HEAD advanced by one modulo the ring's size, and nothing else of the
machine changed but CS_STATUS and CS_ENTRY (R244, R264, R265). -/
structure Popped (s t : State) (i : Nat) (u : Suite) (l : List CsEntry) : Prop where
  suite  : t.suite i = some { u with entries := l }
  others : ∀ j, j ≠ i → t.suite j = s.suite j
  head   : t.rd u.csPage 0x0B0 = BitVec.ofNat 64 ((s.rdF u.csPage 0x0B0 15 0 + 1) % 2 ^ s.rdF u.csPage 0x0A0 4 0)
  regs   : ∀ q o, regKey q o ≠ regKey u.csPage 0x0B0 → regKey q o ≠ regKey u.csPage 0x0C0 → regKey q o ≠ regKey u.csPage 0x0C8 →
    t.rd q o = s.rd q o
  rest   : { t with suites := s.suites, regs := s.regs } = s

/-! ### The Hearth -/

/-- The Hearth of a Room is able to execute, and has `op` (its bits and its length in bytes) at its pc; fetching leaves the state `f`, release ordering
makes it wait for no earlier remote write, and no parity injection is armed (R235, R237, R239, R240, R416). -/
structure HearthAt (s f : State) (room : Nat) (op : Rv) (bits len : Nat) : Prop where
  can   : s.hearthCan room = true
  fetch : s.fetch room = (f, .ok op bits len)
  order : op.releases bits = false ∨ f.hearthWrites room = false
  quiet : s.isArmed (rp .cvu room) 6 = false

/-- An instruction of a Hearth has retired between `f` and `t`: `rd` holds `v` unless it is x0, every other integer register stands, the pc is `pc`,
one more instruction is counted, and nothing else changed but the Room's count of events for its Damper (R235, R240, R483). -/
structure Retired (f t : State) (room rd : Nat) (v pc : W64) : Prop where
  result : (t.hearth room).reg rd = if rd % 32 = 0 then 0 else v
  regs   : ∀ r, r % 32 ≠ rd % 32 → (t.hearth room).reg r = (f.hearth room).reg r
  pc     : (t.hearth room).pc = pc
  count  : (t.hearth room).instret = (f.hearth room).instret + 1
  rest   : { t.hearth room with x := (f.hearth room).x, pc := (f.hearth room).pc, instret := (f.hearth room).instret, block := .no }
             = { f.hearth room with block := .no }
  others : ∀ r, r ≠ room → t.room r = f.room r
  state  : { t with rooms := f.rooms } = f

/-- A Hearth has taken a trap between `f` and `t`: it runs in Machine mode at the handler, mepc holds the pc it left, mcause and mtval what was asked
for, and mstatus keeps the mode and the interrupt enable it came from; its integer registers and all memory stand (R235, R241). -/
structure Trapped (f t : State) (room : Nat) (interrupt : Bool) (cause : Nat) (tval : W64) : Prop where
  mode   : (t.hearth room).machine = true
  pc     : (t.hearth room).pc = ((f.hearth room).getCsr 0x305 &&& ~~~ maskOf 1 0)
             + (if interrupt ∧ fld ((f.hearth room).getCsr 0x305) 1 0 = 1 then BitVec.ofNat 64 (4 * cause) else 0)
  epc    : (t.hearth room).getCsr 0x341 = (f.hearth room).pc
  cause  : (t.hearth room).getCsr 0x342 = put 63 63 (b2n interrupt) ||| put 62 0 cause
  tval   : (t.hearth room).getCsr 0x343 = tval
  mie    : tst ((t.hearth room).getCsr 0x300) 3 = false
  mpie   : fld ((t.hearth room).getCsr 0x300) 7 7 = fld ((f.hearth room).getCsr 0x300) 3 3
  mpp    : fld ((t.hearth room).getCsr 0x300) 12 11 = if (f.hearth room).machine then 3 else 0
  regs   : (t.hearth room).x = (f.hearth room).x
  others : ∀ r, r ≠ room → t.room r = f.room r
  state  : t.mem = f.mem ∧ t.bricks = f.bricks ∧ t.suites = f.suites ∧ t.rim = f.rim

/-- HEARTH_INSTRUCTION retires the instruction at the pc. -/
def RunsTo (s f : State) (room rd : Nat) (v pc : W64) : Prop := Completes (.hearthInstruction room false) s fun t => Retired f t room rd v pc

/-- The command ends in an exception of the Hearth, which HRT_TRAP records and HRT_EVENT shows (R241, R264, R266). -/
def TrapsTo (c : Instr) (s f : State) (room cause : Nat) (tval : W64) : Prop :=
  Completes c s fun t => Trapped f t room false cause tval ∧ t.rd (hrt room) 0x098 = put 63 56 cause ||| put 47 0 tval.toNat
    ∧ tst (t.rd (hrt room) 0x028) 0 = true

/-- An address of the Hearth's own Shelf that decodes, in quarters that are powered, none of whose lines has an error (R36, R213, R216). -/
structure NearAt (f : State) (room a n : Nat) : Prop where
  own   : ownShelf room a = true
  lit   : f.shelfLit room (a % 0x400000) n = true
  clean : ∀ l, l ∈ linesOf (a % 0x400000) n → f.lineCheck room l 0x40 0 false = (f, true)

/-- `data` has been written to a Shelf between `f` and `t`, and no other byte, register, Brick or Suite has changed (R236). -/
structure Stored (f t : State) (room off : Nat) (data : List Byte) : Prop where
  bytes  : t.ldBytes (shelfEA room off) data.length = data
  others : ∀ a, a < shelfEA room off ∨ shelfEA room off + data.length ≤ a → t.ldByte a = f.ldByte a
  state  : t.regs = f.regs ∧ t.bricks = f.bricks ∧ t.suites = f.suites ∧ t.outst = f.outst ∧ t.pkts = f.pkts

/-- The command ends with the instruction at the pc retired, its other effects those of going from the present state to `g` (R243). -/
def RetiresAfter (c : Instr) (s g : State) (room rd : Nat) (v : W64) : Prop :=
  Completes c s fun t => Retired g t room rd v ((g.hearth room).pc + 4)

/-- The command ends with the Hearth waiting as `b` says, its other effects those of going from the present state to `g` (R243). -/
def BlocksAfter (c : Instr) (s g : State) (room : Nat) (b : HBlock) : Prop :=
  Completes c s fun t => t.hearth room = { g.hearth room with block := b } ∧ (∀ q, q ≠ room → t.room q = g.room q) ∧ { t with rooms := g.rooms } = g

/-! ### The Hall -/

/-- Flight `k` has reached its endpoint, is of packet type `typ`, and no earlier packet of its ordered channel is still on its way (R284, R291, R292). -/
structure LandsAt (s : State) (k : Nat) (f : Flight) (typ : Nat) : Prop where
  at_    : s.pkts[k]? = some f
  there  : f.ejected = true
  typ    : f.pkt.typ = typ
  first  : s.behind k f true = false
  due    : s.schWaits f f.pkt.flits = false

/-- A range of a Room's Shelf that decodes, in quarters that are powered, none of whose lines has an error for a requester `who` (R36, R213, R216). -/
structure CleanShelf (s : State) (room off n who : Nat) : Prop where
  lit   : s.shelfLit room off n = true
  clean : ∀ l, l ∈ linesOf off n → s.lineCheck room l who 0 false = (s, true)

/-- The array of a Room's Shelf holds no line in error, and no error is armed there (R215, R446, R455). -/
structure ArrayClean (s : State) (room : Nat) : Prop where
  bad   : (s.room room).badLines = []
  back  : (s.room room).wbacks = []
  armed : s.isArmed (rp .ecc room) 0 = false ∧ s.isArmed (rp .ecc room) 1 = false

/-! ### Register accesses -/

/-- A host access of 8 bytes at a BAR0 offset reaches register `a` of a page: it is aligned, outside the MSI-X table, decodes, and the page answers,
is neither gated nor dark, and its bus runs within its limit (R22, R41, R544, R595, R598). -/
structure BarReach (s : State) (addr : Nat) (a : BarAt) : Prop where
  small   : addr < 2 ^ 32
  aligned : addr % 8 = 0
  outside : addr < 0x00F00000 ∨ 0x00F08100 ≤ addr
  decode  : s.decodeBar0 addr = some a
  answers : s.answers a = true
  heard   : s.silent a.page = false
  tame    : s.busWild a.page = false
  lit     : s.gated a.page = false ∧ s.darkAt a = false

/-- A register of the pages whose every register is plain: it is at 0x080 or above, and has the row `r` of the spec's table. -/
def PlainAt (a : BarAt) (r : RegRow) : Prop := a.page.page ∈ [Page.ecc, .swp, .dmp, .flu] ∧ 0x080 ≤ a.off ∧ regRow a.page.page a.off = some r

end Sys2Proof.Machine
end

