-- ==== Sys2Proof/Certificates/Slice0/Obligations.lean ====
section
/-!
DEFINITION. The statements for the provers, in the order of the spec's chapters.
-/

open Sys2Proof.Machine
open Sys2Proof (Instr)

/-- A step with a command at the front of the queue performs it with the queue's rest; with nothing in the queue one period of time passes (that it
does is the model's DESIGN CHOICE, log entry 4; the rates of the clocks are those of R200 and R308). -/
def Obligations.StepTakesFront : Prop :=
  (∀ (s : State) (c : Instr) (l : List Instr), step { s with pending := c :: l } = exec c { s with pending := l })
  ∧ (∀ s : State, s.pending = [] → step s = .next s.tick)

/-- After House reset memory, registers, Rooms, Bricks and Suites are in canonical form; no byte of memory and no register differs from what it reads
as untouched, no Suite is defined, nothing is in flight, and no command waits (R550, R588). -/
def Obligations.ResetIsWellFormed : Prop :=
  State.wf State.reset = true ∧ State.reset.pending = [] ∧ (∀ i, State.reset.suite i = none) ∧ (∀ a, State.reset.ldByte a = 0) 
  ∧ State.reset.pkts = [] ∧ State.reset.outst = [] ∧ State.reset.et = 0

/-- No command is refused and none faults: every command answers a next state from every state, as an access the engine turns away still is answered,
counted or ignored (R10, R22, R604). -/
def Obligations.EveryCommandAnswers : Prop :=
∀ (c : Instr) (s : State), Safe (exec c s)

/-- INT4, INT8, INT32 and INT64 are two's-complement integers: an element of w bits stands for the one integer between −2^(w−1) and 2^(w−1) − 1 that
is congruent to it modulo 2^w, and every integer of that range is the value of an element (R121). -/
def Obligations.IntegerFormats : Prop :=
  (Fmt.int4.width = 4 ∧ Fmt.int8.width = 8 ∧ Fmt.int32.width = 32 ∧ Fmt.int64.width = 64)
  ∧ ∀ f, f ∈ [Fmt.int4, .int8, .int32, .int64] →
    (∀ x, x < 2 ^ f.width → ∃ i : Int, decodeElem f x = Val.ofInt i ∧ -((2 ^ (f.width - 1) : Nat) : Int) ≤ i ∧ i < ((2 ^ (f.width - 1) : Nat) : Int)
      ∧ i % ((2 ^ f.width : Nat) : Int) = (x : Int))
    ∧ (∀ i : Int, -((2 ^ (f.width - 1) : Nat) : Int) ≤ i → i < ((2 ^ (f.width - 1) : Nat) : Int) → decodeElem f (unsgn f.width i) = Val.ofInt i)

/-- Two Stock values with the same anchor are added modulo 2^128: the stored sum wraps and OVF is set where the true sum lies outside the signed
range; UNF, NAN, PINF and NINF are the OR of the operands' flags, and so is OVF apart from this addition's own overflow. So in a Brick's accumulator,
and so where two records are combined (R133). -/
def Obligations.StockSums : Prop :=
  (∀ x y : BitVec 128, (stockAdd x y).1.toNat = (x.toNat + y.toNat) % 2 ^ 128
    ∧ (stockAdd x y).1.toInt % (2 ^ 128 : Int) = (x.toInt + y.toInt) % (2 ^ 128 : Int)
    ∧ ((stockAdd x y).2 = true ↔ (x.toInt + y.toInt < -(2 ^ 127 : Int) ∨ (2 ^ 127 : Int) ≤ x.toInt + y.toInt))
    ∧ ((stockAdd x y).2 = false → (stockAdd x y).1.toInt = x.toInt + y.toInt))
  ∧ (∀ (b : Brick) (now i : Nat) (n : BitVec 128) (f : StkFlags), i < 32 →
      (b.landOne now (.stk i n f)).stock i = (stockAdd (b.stock i) n).1
      ∧ (b.landOne now (.stk i n f)).flagsOf i = ⟨(b.flagsOf i).ovf || f.ovf || (stockAdd (b.stock i) n).2, (b.flagsOf i).unf || f.unf, (b.flagsOf i).nan || f.nan,
          (b.flagsOf i).pinf || f.pinf, (b.flagsOf i).ninf || f.ninf⟩)
  ∧ (∀ x y : StockRec, x.anchor = y.anchor → x.poison = false → y.poison = false →
      (x.combine y).1 = ⟨(stockAdd x.n y.n).1, x.count + y.count, false, ⟨x.flags.ovf || y.flags.ovf || (stockAdd x.n y.n).2, x.flags.unf || y.flags.unf,
        x.flags.nan || y.flags.nan, x.flags.pinf || y.flags.pinf, x.flags.ninf || y.flags.ninf⟩, x.anchor⟩)

/-- Every Brick instruction fires where it is its turn and everything it needs is there: R65, R66, R85, R91, R193. -/
def Obligations.BrickFires : Prop :=
∀ e ∈ brickOps, FiresWith e.1 e.2 fun _ _ => True

/-- A stepped issue that misses a token does not issue: no queue is popped, the Brick stops, and the error is raised with its capture (R65, R76, R79). -/
def Obligations.MissingTokenHalts : Prop :=
  ∀ e ∈ brickOps, ∀ (s : State) (room b : Nat) (t : Turn), s.turn room b e.2 = some t → t.u.mode = 0 → t.br.pred t.ins = true →
    s.injEmpty room b true = false → t.plan.missing ≠ 0 → tst (s.rd (rp .brk room) 0x090) 31 = false →
    Completes (e.1 room b) s fun s' =>
      s'.brick room b = { t.br with err := true } ∧ tst (s'.rd (rp .brk room) 0x028) 0 = true
        ∧ s'.rd (rp .brk room) 0x090 = setBit (brkWhere 1 (lowQueue t.plan.missing) t.br.active b t.plan.missing) 31
        ∧ s'.rd (rp .brk room) 0x098 = s.whereStep room ∧ s'.mem = s.mem
        ∧ ∃ r, s'.flying = s.flying ++ [r] ∧ r.code = Page.brk.cls * 256 + 1 ∧ r.halt = true ∧ r.injected = false

/-- The integer instructions, lane by lane, wrapping (R95, R111). -/
def Obligations.IntegerLanes : Prop :=
  FiresWith .iadd 0x60 (LanesAre fun w a b _ => (a + b) % 2 ^ w)
  ∧ FiresWith .isub 0x61 (LanesAre fun w a b _ => (a + 2 ^ w - b) % 2 ^ w)
  ∧ FiresWith .imul 0x62 (LanesAre fun w a b _ => a * b % 2 ^ w)
  ∧ FiresWith .andOp 0x63 (LanesAre fun _ a b _ => a &&& b)
  ∧ FiresWith .orOp 0x64 (LanesAre fun _ a b _ => a ||| b)
  ∧ FiresWith .xorOp 0x65 (LanesAre fun _ a b _ => a ^^^ b)
  ∧ FiresWith .shl 0x66 (LanesAre fun w a b _ => a * 2 ^ (b % w) % 2 ^ w)
  ∧ FiresWith .shr 0x67 (LanesAre fun w a b _ => a / 2 ^ (b % w))
  ∧ FiresWith .imin 0x69 (LanesAre fun w a b _ => if sgn w a ≤ sgn w b then a else b)
  ∧ FiresWith .imax 0x6A (LanesAre fun w a b _ => if sgn w a ≤ sgn w b then b else a)
  ∧ FiresWith .mov 0x6C (LanesAre fun _ a _ _ => a)

/-- The element-wise instructions that select, compare or change a sign, lane by lane (R95, R103, R111, R120). -/
def Obligations.ElementLanes : Prop :=
  FiresWith .neg 0x36 (fun t => LanesAre (fun w a _ _ => if (decodeElem t.ins.fm a).isNan then nanCode t.ins.fm else (a + 2 ^ (w - 1)) % 2 ^ w) t)
  ∧ FiresWith .abs 0x37 (fun t => LanesAre (fun w a _ _ => if (decodeElem t.ins.fm a).isNan then nanCode t.ins.fm else a % 2 ^ (w - 1)) t)
  ∧ FiresWith .sel 0x39 (fun t => LanesAre (fun w a b c => if 2 ^ (w - 1) ≤ c then a else b) t)
  ∧ FiresWith .min 0x34 (fun t => LanesAre (fun _ a b _ =>
      if (decodeElem t.ins.fm a).isNan then (if (decodeElem t.ins.fm b).isNan then nanCode t.ins.fm else b)
      else if (decodeElem t.ins.fm b).isNan ∨ orderedBefore (decodeElem t.ins.fm a) (decodeElem t.ins.fm b) then a else b) t)
  ∧ FiresWith .max 0x35 (fun t => LanesAre (fun _ a b _ =>
      if (decodeElem t.ins.fm a).isNan then (if (decodeElem t.ins.fm b).isNan then nanCode t.ins.fm else b)
      else if ¬ (decodeElem t.ins.fm b).isNan ∧ orderedBefore (decodeElem t.ins.fm a) (decodeElem t.ins.fm b) then b else a) t)
  ∧ FiresWith .cmp 0x38 (fun t => LanesAre (fun w a b _ =>
      if cmpCond (t.ins.auxF 2 0) (decodeElem t.ins.fm a) (decodeElem t.ins.fm b) then 2 ^ w - 1 else 0) t)
  ∧ FiresWith .icmp 0x6B (fun t => LanesAre (fun w a b _ => if icmpCond (t.ins.auxF 2 0) w a b then 2 ^ w - 1 else 0) t)

/-- FMA, ADD, SUB and MUL round the exact result of each lane once (R95, R103). -/
def Obligations.ArithmeticRoundsOnce : Prop :=
  FiresWith .fma 0x30 (RoundedLanes fun a b c => (a.mul b).add c)
  ∧ FiresWith .add 0x31 (RoundedLanes fun a b _ => a.add b)
  ∧ FiresWith .sub 0x32 (RoundedLanes fun a b _ => a.add b.neg)
  ∧ FiresWith .mul 0x33 (RoundedLanes fun a b _ => a.mul b)

/-- What the control, Cubby and immediate instructions give (R86, R87, R95, R109, R112). The integer forms of the accumulating instructions, and the
clears (R97, R99, R101, R105, R118). -/
def Obligations.ControlAndAccumulatorResults : Prop :=
  (FiresWith .nop 0x00 (fun _ ws => ws = [])
    ∧ FiresWith .jnz 0x01 (fun t ws => ws = [.reg t.ins.a (~~~ 0) (t.arg 0 - 1)])
    ∧ FiresWith .cld 0x70 (fun t ws => ws = t.dst (t.br.cubbyOf (((t.arg 0).toNat + t.ins.aux) % 256)))
    ∧ FiresWith .cst 0x71 (fun t ws => ws = [.cubby (((t.arg 0).toNat + t.ins.aux) % 256) (t.arg 1)])
    ∧ FiresWith .ldi 0x6D (fun t ws => t.ins.auxF 1 0 = 0 → ws = t.dst (BitVec.ofInt 64 (sgn 18 t.ins.imm)))
    ∧ (∀ (s : State) (room b : Nat) (t : Turn), FireOk s room b 0x01 t → t.ins.rep = 0 → Completes (.jnz room b) s fun s' =>
        ((s'.brick room b).ctx t.br.active).ip
          = if t.arg 0 = 1 then (if t.ins.last ∨ t.ctx.ip = 31 then 0 else t.ctx.ip + 1) else t.ins.auxF 4 0)
    ∧ (∀ (s : State) (room b : Nat) (t : Turn), FireOk s room b 0x02 t → Completes (.fold room b) s fun s' =>
        Fired s s' room b t (fun ws => ws = []) ∧ (s'.brick room b).fold = some (t.ins.auxF 1 0, t.u.now + 2))
    ∧ (∀ (s : State) (room b : Nat) (t : Turn), FireOk s room b 0x03 t → Completes (.stop room b) s fun s' =>
        Fired s s' room b t (fun ws => ws = []) ∧ (s'.brick room b).stopped = true))
  ∧
  ((∀ (s : State) (room b : Nat) (t : Turn), t.ins.fm = .int8 →
      (FireOk s room b 0x11 t → Completes (.macz room b) s fun s' => Fired s s' room b t fun ws => ws.length = 64 ∧ ∀ r c, r < 8 → c < 8 →
        ws[8 * r + c]? = some (.accSet (2 * t.ins.auxF 5 0 + 8 * r + c) (BitVec.ofInt 32 (sgn 8 (lane 8 (t.arg 0) r) * sgn 8 (lane 8 (t.arg 1) c)))))
      ∧ (FireOk s room b 0x10 t → Completes (.mac room b) s fun s' => Fired s s' room b t fun ws => ws.length = 64 ∧ ∀ r c, r < 8 → c < 8 →
        ws[8 * r + c]? = some (.accAddI (2 * t.ins.auxF 5 0 + 8 * r + c) (BitVec.ofInt 32 (sgn 8 (lane 8 (t.arg 0) r) * sgn 8 (lane 8 (t.arg 1) c)))))
      ∧ (FireOk s room b 0x13 t → Completes (.dotz room b) s fun s' => Fired s s' room b t fun ws =>
        ws = [.accSet (2 * t.ins.auxF 5 0) (BitVec.ofInt 32 ((List.range 8).map fun l => sgn 8 (lane 8 (t.arg 0) l) * sgn 8 (lane 8 (t.arg 1) l)).sum)]))
    ∧ FiresWith .stkadd 0x1A (fun t ws => ws = [.stk (t.ins.auxF 4 0) (t.arg 1 ++ t.arg 0) .none])
    ∧ FiresWith .accclr 0x20 (fun t ws => ws = (List.range t.ins.accs.2).map fun k => .accClr (t.ins.accs.1 + k)))

/-- What source A gives by its code, and what the issue takes from the queues for it (R62, R81). -/
def Obligations.SourceForms : Prop :=
  ∀ e ∈ brickOps, (0x31 ≤ e.2 ∧ e.2 ≤ 0x37 ∨ 0x60 ≤ e.2 ∧ e.2 ≤ 0x6C) → ∀ (s : State) (room b : Nat) (t : Turn), FireOk s room b e.2 t →
    (t.ins.a ≤ 0x1F → t.arg 0 = t.br.reg t.ins.a)
    ∧ (0x20 ≤ t.ins.a → t.ins.a ≤ 0x27 → ∃ k, (t.br.consumable (t.ins.a % 4) t.br.active t.u.now).head? = some k ∧ k.data = t.arg 0 ∧ k.void = false)
    ∧ (t.ins.a = 0x3E → t.arg 0 = 0)
    ∧ Completes (e.1 room b) s fun s' =>
        (isPop t.ins.a = false → isPop t.ins.b = false → isPop t.ins.c = false → ∀ q, (s'.brick room b).iqOf q = t.br.iqOf q)
        ∧ (isPop t.ins.a = true → isPop t.ins.b = false → isPop t.ins.c = false →
            (s'.brick room b).iqOf (t.ins.a % 4) = dropTag t.br.active 1 (t.br.iqOf (t.ins.a % 4))
            ∧ ∀ q, q ≠ t.ins.a % 4 → (s'.brick room b).iqOf q = t.br.iqOf q)

/-- A register result is seen from step s + L on and not before: by an issue whose turn comes after its landing step (R91). -/
def Obligations.ResultSeenAtLatency : Prop :=
  ∀ (s : State) (room b op : Nat) (t : Turn) (p : Pend) (i : Nat) (m v : Sys2Proof.W64), s.turn room b op = some t →
    (s.brick room b).pend = [p] → p.ws = [.reg i m v] → p.wait = 0 → p.delay = 0 → p.inj = 0 →
    t.br.reg i = (if p.land < t.u.now then ((s.brick room b).reg i &&& ~~~ m) ||| (v &&& m) else (s.brick room b).reg i)
      ∧ t.br.pend = (if p.land < t.u.now then [] else [p]) ∧ ∀ j, j ≠ i → t.br.reg j = (s.brick room b).reg j

/-- INSTRUCTION_RESULT writes a result that has landed and checked; a failed check writes nothing of it and stops the Brick (R91, R97, R99, R415).
What each kind of write does to the Brick when its result lands (R90, R91, R97, R99, R106, R112, R118, R139). -/
def Obligations.ResultsLand : Prop :=
  (∀ (s : State) (room b : Nat) (p : Pend), (s.brick room b).pend = [p] →
      (p.inj = 0 → p.wait = 0 → p.land + p.delay < s.landTime room (s.brick room b) →
        exec (.instructionResult room b 0) s
          = .next (s.setBrick room b { p.ws.foldl (fun x w => x.landOne (p.land + p.delay) w) (s.brick room b) with pend := [] }))
      ∧ (residueOp p.op = true → Completes (.instructionResult room b 1) s fun t =>
          t.brick room b = { s.brick room b with pend := [], err := true } ∧ tst (t.rd (rp .cvu room) 0x028) 1 = true ∧ t.mem = s.mem
            ∧ ∃ r, t.flying = s.flying ++ [r] ∧ r.code = Page.cvu.cls * 256 + 2 ∧ r.halt = true)
      ∧ (expdupOp p.op = true → Completes (.instructionResult room b 2) s fun t =>
          t.brick room b = { s.brick room b with pend := [], err := true } ∧ tst (t.rd (rp .cvu room) 0x028) 2 = true ∧ t.mem = s.mem
            ∧ ∃ r, t.flying = s.flying ++ [r] ∧ r.code = Page.cvu.cls * 256 + 3 ∧ r.halt = true))
  ∧
  (∀ (x : Brick) (n : Nat),
      (∀ i m v, ((x.landOne n (.reg i m v)).reg i = (x.reg i &&& ~~~ m) ||| (v &&& m)) ∧ ∀ j, j ≠ i → (x.landOne n (.reg i m v)).reg j = x.reg j)
      ∧ (∀ i v, (x.landOne n (.accSet i v)).accOf i = v ∧ (x.landOne n (.accSet i v)).flagsOf (i / 4) = .none
          ∧ ∀ j, j ≠ i → (x.landOne n (.accSet i v)).accOf j = x.accOf j)
      ∧ (∀ i v, (x.landOne n (.accAddI i v)).accOf i = x.accOf i + v ∧ ∀ j, j ≠ i → (x.landOne n (.accAddI i v)).accOf j = x.accOf j)
      ∧ (∀ i v, (x.landOne n (.accAdd i v)).accOf i = toFp32 ((ofFp32 (x.accOf i)).add v))
      ∧ (∀ i, (x.landOne n (.accClr i)).accOf i = 0 ∧ (x.landOne n (.accClr i)).flagsOf (i / 4) = .none)
      ∧ (∀ w v, (x.landOne n (.cubby w v)).cubbyOf w = v ∧ ∀ j, j ≠ w → (x.landOne n (.cubby w v)).cubbyOf j = x.cubbyOf j)
      ∧ (∀ q t, (x.landOne n (.oq q t)).oqOf q = x.oqOf q ++ [⟨t, n⟩] ∧ ∀ j, j ≠ q → (x.landOne n (.oq q t)).oqOf j = x.oqOf j))

/-- BRK_WIN_WRITE: accepted where the Suite is idle, on the Brick with the results that are due, bits 63:36 of a LANE_SET staying 0; dropped with
BRK_ACCESS_REFUSED where it is not, dropped without event by a dark Room (R22, R78). FOLD_RESUME: two steps after a FOLD the named context becomes
active at its saved slot; one that is not valid or is being loaded halts a stepped Suite (R85, R87, R175, R177, R202). -/
def Obligations.BrickWindowAndFold : Prop :=
  (∀ (s : State) (room k : Nat) (v : Sys2Proof.W64),
      (s.dark room = false → s.suiteIdle room = true → ∀ b, b = s.rdF (rp .brk room) 0x088 13 8 → ∀ f, f = (fun x : Brick => x.settle (s.landTime room x)) →
        (s.rdF (rp .brk room) 0x088 2 0 = 0 → k < 32 → exec (.brkWinWrite room k v) s = .next (s.modBrick room b fun x => (f x).setReg k v))
        ∧ (s.rdF (rp .brk room) 0x088 2 0 = 1 → k < 64 → exec (.brkWinWrite room k v) s
            = .next (s.modBrick room b fun x => ((f x).setAcc (2 * k) (v.setWidth 32)).setAcc (2 * k + 1) ((v >>> 32).setWidth 32)))
        ∧ (s.rdF (rp .brk room) 0x088 2 0 = 2 → k < 256 → exec (.brkWinWrite room k v) s = .next (s.modBrick room b fun x => (f x).setCubby k v))
        ∧ (s.rdF (rp .brk room) 0x088 2 0 = 3 → k < 132 → k % 33 = 32 → exec (.brkWinWrite room k v) s
            = .next (s.modBrick room b fun x => { f x with lanes := smSet 0 (f x).lanes (k / 33) (v &&& maskOf 35 0) }))
        ∧ (s.rdF (rp .brk room) 0x088 2 0 = 3 → k < 132 → k % 33 ≠ 32 → Completes (.brkWinWrite room k v) s fun t =>
            ((t.brick room b).ctx (k / 33)).word (k % 33) = v ∧ { t with bricks := s.bricks } = s
              ∧ ∀ r c, brickKey r c ≠ brickKey room b → t.brick r c = s.brick r c))
      ∧ (s.dark room = false → s.suiteIdle room = false → exec (.brkWinWrite room k v) s = .next (s.raise (rp .brk room) 8 false))
      ∧ (s.dark room = true → exec (.brkWinWrite room k v) s = .next s))
  ∧
  (∀ (s : State) (room b i : Nat) (u : Suite) (k n : Nat), s.suiteOf room = some i → s.suite i = some u → u.issuing = true → s.dark room = false →
      (s.brick room b).err = false → (s.brick room b).fold = some (k, n) →
      (n ≤ u.now → ((s.brick room b).ctx k).valid = true → s.slotLoading u room k = false → exec (.foldResume room b) s = .next (s.setBrick room b { s.brick room b with
        active := k, fold := none, stopped := false, rep := 0, lwait := .no,
        due := u.now + (decodeIns (((s.brick room b).ctx k).word ((s.brick room b).ctx k).ip)).wait }))
      ∧ (n ≤ u.now → (((s.brick room b).ctx k).valid = false ∨ s.slotLoading u room k = true) → u.mode = 0 → Completes (.foldResume room b) s fun t =>
          t.brick room b = { s.brick room b with err := true } ∧ tst (t.rd (rp .arr room) 0x028) 5 = true
            ∧ ∃ r, t.flying = s.flying ++ [r] ∧ r.code = Page.arr.cls * 256 + 0x21 ∧ r.halt = true)
      ∧ (u.now < n → exec (.foldResume room b) s = .next s))

/-- Hand operations on a Room Latch with no waiters: each is recorded and has its effect on that Latch alone (R317, R319, R320, R327). Hand operations
on a global Flue Latch with no waiters, and GLATCH (R310, R321, R327, R328). -/
def Obligations.LatchOperations : Prop :=
  (∀ (s : State) (room n pid : Nat), s.dark room = false → ∀ m, m = n % 64 → ∀ l, l = s.latch room m →
      (Completes (.latchClear false room n) s fun t => HandMade s t room m { l with flag := false })
      ∧ (Completes (.resetArrivals false room n) s fun t => HandMade s t room m { l with arrived := 0, early := 0, value := 0 })
      ∧ (l.flag = true → Completes (.latchSet false room n) s fun t => HandMade s t room m l)
      ∧ (l.flag = false → l.waits = [] → s.latchKind room m = 3 →
          Completes (.latchSet false room n) s fun t => HandMade s t room m { l with flag := true, gen := (l.gen + 1) % 65536 })
      ∧ (l.waits = [] → s.latchKind room m = 1 →
          Completes (.latchAdvance false room n) s fun t => HandMade s t room m { l with gen := (l.gen + 1) % 65536, arrived := l.early, early := 0 })
      ∧ (s.latchKind room m = 1 → pid < 73 → l.mask.testBit pid = true → l.arrived.testBit pid = false →
          l.mask &&& (l.arrived ||| 2 ^ pid) ≠ l.mask → s.isArmed (rp .lch room) 0 = false → s.isArmed (rp .lch room) 3 = false →
          Completes (.arriveAs false room n pid) s fun t => HandMade s t room m { l with arrived := l.arrived ||| 2 ^ pid }))
  ∧
  (∀ (s : State) (n : Nat), n < 256 → ∀ l, l = s.gl n →
      (Completes (.latchClear true 0 n) s fun t => HandMadeG s t n { l with flag := false })
      ∧ (s.suite (s.glCfg n 59 54) = none → Completes (.resetArrivals true 0 n) s fun t => HandMadeG s t n { l with arrived := 0, early := 0, value := 0 })
      ∧ (l.flag = true → Completes (.latchSet true 0 n) s fun t => HandMadeG s t n l)
      ∧ (l.waits = [] → s.glCfg n 63 62 = 3 →
          Completes (.latchAdvance true 0 n) s fun t => HandMadeG s t n { l with gen := (l.gen + 1) % 65536, flag := true })
      ∧ (l.waits = [] → s.glCfg n 63 62 = 2 → max 1 (s.glCfg n 47 24) ≤ l.value →
          exec (.glatch n) s = .next (s.setGl n { l with gen := (l.gen + 1) % 65536, value := l.value - max 1 (s.glCfg n 47 24) }))
      ∧ (s.glCfg n 63 62 = 2 → l.value < max 1 (s.glCfg n 47 24) → exec (.glatch n) s = .next s))

/-- Arrivals at a Room Latch of participants 80 to 127, with no injection armed: a barrier notes a participant of MASK whose ARRIVED bit is clear; a
counter counts; a Room of a Suite tests the Latch for completion only as the cycle ends, after all the arrivals of the cycle, and any other Room at
once; a barrier that every participant of MASK has reached, and for which nothing waits, then completes its generation; and an arrival at a disabled
Latch is refused with LATCH_BAD (R318 to R321, R335). LATCH_CONFIGURE of a Latch with no waiters: LCH_CFG written, the state cleared, GEN 0;
LATCH_TIMEOUT ends a Brick's expired wait, raising LATCH_TIMEOUT, unless the arrivals of this cycle have released it, and changes nothing where none
has expired (R317, R319, R322, R335). -/
def Obligations.LatchArrivalsAndMasks : Prop :=
  (∀ (s : State) (room n pid frm : Nat), n < 64 → 80 ≤ pid → pid < 128 → s.dark room = false → s.isArmed (rp .lch room) 0 = false →
      s.isArmed (rp .lch room) 3 = false → ∀ l, l = s.latch room n →
      (s.latchKind room n = 1 → l.mask.testBit pid = true → l.arrived.testBit pid = false → l.mask &&& (l.arrived ||| 2 ^ pid) ≠ l.mask →
        exec (.lchArrive room n pid frm) s = .next (s.setLatch room n { l with arrived := l.arrived ||| 2 ^ pid }))
      ∧ (s.latchKind room n = 1 → l.mask.testBit pid = true → l.arrived.testBit pid = false → l.mask &&& (l.arrived ||| 2 ^ pid) = l.mask →
        (((s.suiteOf room).bind s.suite).isSome = true → exec (.lchArrive room n pid frm) s = .next (s.setLatch room n { l with arrived := l.arrived ||| 2 ^ pid }))
        ∧ (((s.suiteOf room).bind s.suite).isSome = false → l.waits = [] → Completes (.lchArrive room n pid frm) s fun t =>
          t.latch room n = { l with arrived := l.early, early := 0, gen := (l.gen + 1) % 65536 } ∧ { t with rooms := s.rooms } = s))
      ∧ (s.latchKind room n = 1 → l.mask ≠ 0 → l.mask &&& l.arrived = l.mask → l.waits = [] → ∀ t, t = s.testLatch room n →
          t.latch room n = { l with arrived := l.early, early := 0, gen := (l.gen + 1) % 65536 } ∧ { t with rooms := s.rooms } = s)
      ∧ (s.latchKind room n = 2 → l.value + 1 < max 1 (s.latchTarget room n) →
        exec (.lchArrive room n pid frm) s = .next (s.setLatch room n { l with value := l.value + 1 }))
      ∧ (s.latchKind room n = 0 → Completes (.lchArrive room n pid frm) s fun t =>
          tst (t.rd (rp .lch room) 0x028) 3 = true ∧ t.rooms = s.rooms ∧ t.mem = s.mem ∧ t.bricks = s.bricks))
  ∧
  (∀ (s : State) (room n : Nat) (v : Sys2Proof.W64), n < 64 → s.dark room = false →
      ((s.latch room n).waits = [] → Completes (.latchConfigure false room n v) s fun t =>
        t.latch room n = { Latch.clear with mask := (s.latch room n).mask } ∧ t.rd (rp .lch room) (0x400 + 16 * n) = v &&& 0xC0FFFFFF00FFFFFF
          ∧ (∀ m, m ≠ n → t.latch room m = s.latch room m) ∧ (∀ o, o ≠ 0x400 + 16 * n → t.rd (rp .lch room) o = s.rd (rp .lch room) o)
          ∧ { t with rooms := s.rooms, regs := s.regs } = s)
      ∧ (∀ b w, w.who = .brick b → w.exp ≤ s.et → (s.latch room n).waits = [w] →
        (s.latch room n).ready (s.latchKind room n) (s.latchTarget room n) = false ∨ w.gen ≠ (s.latch room n).gen → Completes (.latchTimeout false room n) s fun t =>
        tst (t.rd (rp .lch room) 0x028) 1 = true ∧ t.latch room n = { s.latch room n with waits := [] } ∧ (t.brick room b).lwait = .ended
          ∧ (∀ r c, brickKey r c ≠ brickKey room b → t.brick r c = s.brick r c) ∧ t.mem = s.mem ∧ t.glatch = s.glatch)
      ∧ (firstExpired s.et (s.latch room n).waits = none → exec (.latchTimeout false room n) s = .next s))

/-- LSIG is the Brick's arrival at a Room Latch, and LWAIT at a Latch whose flag is set fires without a stall (R117, R320, R322). -/
def Obligations.LatchInstructions : Prop :=
  ∀ (s : State) (room b : Nat) (t : Turn), room < 2 ^ 20 → b < 64 → ∀ n, n = t.ins.auxF 5 0 → ∀ l, l = s.latch room n →
    (FireOk s room b 0x04 t → s.latchKind room n = 1 → l.mask.testBit b = true → l.arrived.testBit b = false →
      l.mask &&& (l.arrived ||| 2 ^ b) ≠ l.mask → s.isArmed (rp .lch room) 0 = false → s.isArmed (rp .lch room) 3 = false →
      Completes (.lsig room b) s fun s' => s'.latch room n = { l with arrived := l.arrived ||| 2 ^ b }
        ∧ (∀ m, m ≠ n → s'.latch room m = s.latch room m) ∧ s'.mem = s.mem ∧ s'.glatch = s.glatch
        ∧ ((s'.brick room b).ctx t.br.active).fire = (t.br.ctx t.br.active).fire + 1 ∧ (s'.brick room b).g = t.br.g)
    ∧ (FireOk s room b 0x05 t → t.u.mode = 0 → s.latchKind room n = 3 → l.flag = true →
      Completes (.lwait room b) s fun s' => Fired s s' room b t fun ws => ws = [])
    ∧ (FireOk s room b 0x05 t → t.u.mode ≠ 0 → t.br.lwait = .ended →
      Completes (.lwait room b) s fun s' => Fired s s' room b t fun ws => ws = [])
    ∧ (s.turn room b 0x05 = some t → t.br.pred t.ins = true → t.u.mode ≠ 0 → t.br.lwait = .no → (∀ p ∈ t.br.pend, ∀ w ∈ p.ws, t.ins.meets w = false) → s.latchKind room n = 1 →
      s.isArmed (rp .lch room) 1 = false → Completes (.lwait room b) s fun s' =>
        s'.brick room b = { t.br with lwait := .waiting, wfor := 2 } ∧ s'.regs = s.regs ∧ s'.mem = s.mem
          ∧ ∃ w, s'.latch room n = { l with waits := l.waits ++ [w] } ∧ w.who = .brick b)

/-- A token that arrives at a switch input of a stepped Suite enters the one input queue its LANE_SET names, at the end of its cycle, and finds a full
queue to be an overflow (R51, R55, R63). -/
def Obligations.LaneDelivers : Prop :=
  ∀ (s : State) (room b i src q : Nat) (u : Suite) (k : InTok), s.suiteOf room = some i → s.suite i = some u → u.lanesMove = true → u.mode = 0 →
    s.dark room = false → 1 ≤ src → src ≤ 4 → q < 4 → ∀ x, x = (s.brick room b).settle u.now →
    x.present src u.now true = some k → k.seam = false → flipToken k.tok 0 = k.tok → checkToken k.tok = .clean → s.dests room b x src k.tok.tag = [4 + q] →
    x.rivals src (4 + q) u.now true = [] → smGet 0 x.lastWin (12 + q) ≠ u.now + 1 →
    s.isArmed (rp .brk room) 4 = false → s.isArmed (rp .brk room) 5 = false →
    ((x.iqOf q).length < 8 → Completes (.laneTokenArrive room b src 0) s fun t =>
      (t.brick room b).iqOf q = x.iqOf q ++ [⟨k.tok, u.now⟩] ∧ (t.brick room b).inp = x.inp.erase k
        ∧ (∀ j, j ≠ q → (t.brick room b).iqOf j = x.iqOf j) ∧ (t.brick room b).oq = x.oq ∧ (t.brick room b).g = x.g
        ∧ (∀ r c, brickKey r c ≠ brickKey room b → t.brick r c = s.brick r c) ∧ { t with bricks := s.bricks } = s)
    ∧ (8 ≤ (x.iqOf q).length → Completes (.laneTokenArrive room b src 0) s fun t =>
      (t.brick room b).iq = x.iq ∧ (t.brick room b).inp = x.inp.erase k ∧ tst (t.rd (rp .brk room) 0x028) 3 = true ∧ t.mem = s.mem
        ∧ ∃ r, t.flying = s.flying ++ [r] ∧ r.code = Page.brk.cls * 256 + 4 ∧ r.halt = true)

/-- Entries at the head of a Suite's ring complete: NOP at once, raising CS_MARK where MARK is set; FENCE once no RUN is in progress; LATCH_WAIT once
its wait has ended well (R244, R246). HALT at the head of the ring: CODE is copied to CS_STATUS; a Suite with nothing to halt, behind whose entry no
CS.EXEC waits, has its stream stopped with cause 6, raising CS_ERROR; a running Suite's stall master is sent the HALT of the present cycle, from the
lead Room's HRT page (R246, R248, R311). The command unit: CS_TAIL_WRITE sets CS_TAIL; COMMAND_UNIT_DISABLE clears EN and keeps only the entry in
progress; COMMAND_UNIT_ENABLE of an idle unit sets EN and starts at CS_HEAD; ENTRY_FETCH reads ahead the next 64-byte entry; ENTRY_ISSUE begins an
entry whose STEP is ASAP one Flue latency and one cycle later, and leaves a step entry waiting before its step (R244, R245, R247, R264, R265). -/
def Obligations.CommandStream : Prop :=
  (∀ (s : State) (i : Nat) (u : Suite) (e : CsEntry) (l : List CsEntry), s.suite i = some u → u.entries = e :: l → e.hearth = none →
      (e.prog = 1 → e.op = 0 → tst (e.words.getD 0 0) 48 = false → Completes (.csNop i) s fun t => Popped s t i u l)
      ∧ (e.prog = 1 → e.op = 0 → tst (e.words.getD 0 0) 48 = true →
          Completes (.csNop i) s fun t => Popped (s.raise u.csPage 3 false) t i u l ∧ tst (t.rd u.csPage 0x028) 3 = true)
      ∧ (e.prog = 1 → e.op = 5 → u.run ≠ 2 → u.run ≠ 3 → Completes (.csFence i) s fun t => Popped s t i u l)
      ∧ (e.prog = 1 → e.op = 5 → u.run = 2 ∨ u.run = 3 → exec (.csFence i) s = .next s)
      ∧ (e.prog = 3 → e.op = 6 → e.t0 = 0 → Completes (.csLatchWait i) s fun t => Popped s t i u l))
  ∧
  (∀ (s : State) (i : Nat) (u : Suite) (e : CsEntry) (l : List CsEntry), s.suite i = some u → u.entries = e :: l → e.hearth = none →
      e.prog = 1 → e.op = 7 → s.rdF u.csPage 0x0C0 17 16 < 3 →
      (u.run = 0 ∨ u.run = 4 → u.execWaits = none → Completes (.csHalt i) s fun t =>
        t.rdF u.csPage 0x0C0 63 32 = fld (e.words.getD 1 0) 31 0 ∧ t.rdF u.csPage 0x0C0 17 16 = 3 ∧ t.rdF u.csPage 0x0C0 15 8 = 6
          ∧ tst (t.rd u.csPage 0x028) 2 = true ∧ t.suite i = some { u with entries := [] } ∧ t.mem = s.mem ∧ t.rooms = s.rooms ∧ t.bricks = s.bricks)
      ∧ (u.run ≠ 0 → u.run ≠ 4 → Completes (.csHalt i) s fun t =>
        t.rdF u.csPage 0x0C0 63 32 = fld (e.words.getD 1 0) 31 0
          ∧ t.suite i = some { u with halts := u.halts ++ [⟨u.clk, u.lead, 4, Page.hrt.cls * 256 + 3, s.et⟩], ckHalt := true
                                      entries := { e with prog := 2 } :: l }
          ∧ t.mem = s.mem ∧ t.rooms = s.rooms ∧ t.bricks = s.bricks))
  ∧
  (∀ (s : State) (i room : Nat) (v : Sys2Proof.W64) (u : Suite),
      (s.isLead room = true → s.dark room = false →
        exec (.csTailWrite room v) s = .next (s.wr (rp .hrt room) 0x0B8 (put 15 0 (fld v 15 0))))
      ∧ (s.suite i = some u → s.isLead u.lead = true → s.suiteId u.lead = i → s.dark u.lead = false → s.rdF u.csPage 0x0C0 17 16 < 3 →
        (Completes (.commandUnitDisable u.lead v) s fun t => t.rd u.csPage 0x0A0 = put 5 0 (fld v 5 0) ∧ t.rooms = s.rooms ∧ t.mem = s.mem
          ∧ t.suite i = some { u with entries := u.entries.filter fun e => e.hearth.isSome || e.prog != 0 })
        ∧ (u.entries = [] → Completes (.commandUnitEnable u.lead v) s fun t => t.rd u.csPage 0x0A0 = put 63 63 1 ||| put 5 0 (fld v 5 0)
          ∧ t.suite i = some { u with fetched := s.rdF u.csPage 0x0B0 15 0 } ∧ t.rooms = s.rooms ∧ t.mem = s.mem))
      ∧ (∀ a data, s.suite i = some u → s.csAuto u = true → u.entries.length < 8 → u.fetched ≠ s.rdF u.csPage 0x0B8 15 0 → data.length = 8 →
          s.decodeEa ((s.rd u.csPage 0x0A8).toNat + 64 * u.fetched) = .host a →
          Completes (.entryFetch i data false []) s fun t => t.suite i = some { u with entries := u.entries ++ [⟨data, 0, 0, none⟩], fetched := (u.fetched + 1) % 2 ^ s.rdF u.csPage 0x0A0 4 0 }
            ∧ t.rd u.csPage 0x0B0 = s.rd u.csPage 0x0B0 ∧ t.rooms = s.rooms ∧ t.mem = s.mem)
      ∧ (∀ e l, s.suite i = some u → u.entries = e :: l → e.prog = 0 → s.csAuto u = true → e.words ≠ [] → s.isArmed u.csPage 2 = false →
          s.csBad i u e = false →
          (e.step = asap → Completes (.entryIssue i) s fun t =>
            t.suite i = some { u with entries := { e with prog := 1, t0 := u.now + s.fl + 1 } :: l } ∧ t.rooms = s.rooms ∧ t.mem = s.mem)
          ∧ (e.step ≠ asap → e.step < u.runSteps.toNat → u.ended = false → u.step.toNat + s.fl + 16 < e.step → exec (.entryIssue i) s = .next s)
          ∧ (e.step ≠ asap → e.step < u.runSteps.toNat → u.ended = false → u.step.toNat + s.fl + 16 = e.step →
            Completes (.entryIssue i) s fun t =>
              t.suite i = some { u with entries := { e with prog := 1, t0 := u.now + s.fl + 16 } :: l } ∧ t.rooms = s.rooms ∧ t.mem = s.mem)))

/-- A RUN begins and ends: RUN of a loaded Suite with no load on its way starts every Brick at slot 0 of the named context, placed by its first
instruction's wait, with ARR_STEP, ARR_CYCLE, the stall counters, HAL_SLOT_USE and FLU_HALT.VALID clear; a stepped RUN whose steps are done ends
(R186, R246, R301, R330). -/
def Obligations.RunsBeginAndEnd : Prop :=
  ∀ (s : State) (i : Nat) (u : Suite), s.suite i = some u →
    (∀ e l k, u.entries = e :: l → e.hearth = none → e.prog = 1 → e.op = 2 → k = fld (e.words.getD 0 0) 49 48 →
      u.run = 1 → u.load = none → u.sweep.st = 0 → Completes (.csRun i) s fun t =>
        t.suite i = some { u with run := 2, step := 0, cycle := 0, ended := decide (u.mode = 0) && decide (u.runSteps = 0), haltNow := none, stall := [], runs := 0, frozenL := false, prog := 0,
                                  runCnt := u.runCnt + 1, winCnt := 0, entries := l }
        ∧ (∀ r b, r ∈ u.rooms → b < 64 → (t.brick r b).active = k ∧ (t.brick r b).started = true ∧ (t.brick r b).stopped = false
            ∧ (t.brick r b).due = u.now + (decodeIns (((s.brick r b).ctx k).word 0)).wait ∧ (t.brick r b).fold = none
            ∧ (t.brick r b).g = (s.brick r b).g ∧ (t.brick r b).acc = (s.brick r b).acc ∧ ∀ j, j < 4 → ((t.brick r b).ctx j).ip = 0)
        ∧ ((∀ x, x ∈ u.rooms → x < 16384) → ∀ r, r ∈ u.rooms → t.rd (rp .hal r) 0x098 = 0 ∧ t.rdF (rp .flu r) 0x088 0 0 = 0)
        ∧ (∀ r, r ∈ u.rooms → (t.room r).checkIdx = 0) ∧ t.mem = s.mem)
    ∧ (u.run = 2 → u.mode = 0 → u.runSteps ≤ u.step → (∀ f ∈ s.pkts, f.pkt.vc ≠ 0 ∨ f.port < 8) →
        exec (.runEnd i) s = .next (s.setSuite i { u with run := 1, ended := true }))
    ∧ (u.run = 2 → u.mode = 0 → u.step < u.runSteps → u.ended = false → exec (.runEnd i) s = .next s)

/-- A slot load is begun, checked and accepted: the LOAD entry at the head records slot, PURGE, PRESET, C and the image header; at C a load for which
no Room finds a cause of refusal or a blocking token is accepted, each Room marking the slots it fills in ARR_STATE; at C + 2FL every Room's loader
starts at the first line of its slot, and a load that a Room refused ends: no slot is marked any more, and the command stream is stopped with cause 4
(R178 to R180, R183, R246, R248). -/
def Obligations.LoadsAccepted : Prop :=
  ∀ (s : State) (i : Nat) (u : Suite), s.suite i = some u → (∀ r, r ∈ u.rooms → r < 16384) →
    (∀ e l, u.entries = e :: l → e.prog = 1 → e.op = 1 → e.step ≠ asap → u.load = none → s.dbgSweeps i = false →
      Completes (.csLoad i) s fun t => ∃ x, t.suite i = some { u with load := some x, entries := { e with prog := 2 } :: l }
        ∧ x.slot = fld (e.words.getD 0 0) 55 52 ∧ x.purge = tst (e.words.getD 0 0) 48 ∧ x.preset = tst (e.words.getD 0 0) 49
        ∧ x.c = e.t0 ∧ x.cstep = e.step ∧ x.hdr = e.words.tail ∧ x.phase = 0 ∧ t.mem = s.mem ∧ t.bricks = s.bricks ∧ t.rooms = s.rooms)
    ∧ (∀ l, u.load = some l → l.phase = 0 → l.c ≤ u.now → l.purge = false →
      (∀ r, r ∈ u.rooms → s.dark r = false ∧ ArrayClean s r ∧ s.isArmed (rp .arr r) 1 = false ∧ s.loadCauses u l r = [] ∧ s.blocker r l.slots u.laneNow = none) →
      Completes (.loadCheck i) s fun t => t.suite i = some { u with load := some { l with phase := 1, refused := none } }
        ∧ (∀ r, r ∈ u.rooms → t.rdF (rp .arr r) 0x080 15 12 = l.slots.foldl (fun m k => m ||| 2 ^ k) 0 % 16)
        ∧ { t with regs := s.regs, suites := s.suites } = s)
    ∧ (∀ l, u.load = some l → l.phase = 2 → l.c + 2 * s.fl ≤ u.now → u.run ≠ 2 ∨ u.frozen = false → l.slot ≠ 15 → l.refused = none → l.out = [] →
      Completes (.loadOutcome i) s fun t => t.suite i = some { u with load := some { l with phase := 3 } }
        ∧ (∀ r, r ∈ u.rooms → (t.room r).loader
            = some ⟨l.slot, s.slotOff r (l.slots.headD 0) / 64, 264 * l.slots.length, 0, [], if l.slots.isEmpty then some 0 else none, 0, false, 0, 0, false⟩)
        ∧ { t with rooms := s.rooms, suites := s.suites } = s)
    ∧ (∀ l c, u.load = some l → l.phase = 2 → l.c + 2 * s.fl ≤ u.now → u.run ≠ 2 ∨ u.frozen = false → l.refused = some c →
      (∀ r, r ∈ u.rooms → s.dark r = false) → Completes (.loadOutcome i) s fun t => ∃ x : State, t = x.csStop i 0x04 ∧ x.suite i = some { u with load := none }
        ∧ (∀ r, r ∈ u.rooms → x.rdF (rp .arr r) 0x080 15 12 = 0) ∧ { x with regs := s.regs, suites := s.suites } = s)

/-- A loader's clean line, in a bank-step that is the loader's own, takes the bank for the step, advances the loader by one line and folds the line
into SLOT_CHECK; the last line sets D eight cycles later, and marks the slot bad where the CRC differs (R180 to R182, R205). At D a slot whose
SLOT_CHECK held takes effect: in every Brick of the Room the named context holds the 32 words read and is valid with its slot, FIRE_COUNT and counters
clear, its LANE_SET is bits 35:0 of the 33rd, the other contexts stay, ARR_LOAD_STATUS reads done, and ARR_LOAD_DONE is raised (R174, R180, R181,
R201). CHECK_POINT of a listed step: ARR_FIRE_DIGEST takes the CRC of the 256 FIRE_COUNTs and the Room goes on to its next check point; where the
digest or HAL_SLOT_USE differs from the record ARR_CHECK_FAIL is raised and the Suite halts (R194, R202, R311). -/
def Obligations.SlotLoads : Prop :=
  (∀ (s : State) (room i : Nat) (u : Suite) (l : LoadSt) (ld : Loader), s.suiteOf room = some i → s.suite i = some u → u.load = some l →
      (s.room room).loader = some ld → ld.gone = false → 0 < ld.total → s.loaderTurn room u ld = true →
      ArrayClean s room → s.isArmed (rp .arr room) 0 = false → s.shelfDark room (64 * ld.next) = false → s.loaderRivals room u ld = [] →
      ∀ v, v = s.useBank room ld.bank → ∀ n, n = (if ld.lastAt = u.now + 1 then ld.lines + 1 else 1) → ∀ ws crc, ws = s.ldWords (shelfEA room (64 * ld.next)) 8 → crc = crcWords ld.crc ws →
      ((ld.total - 1) % 264 ≠ 0 → exec (.loaderRead room 0 false) s
          = .next (v.modRoom room fun x => { x with loader := some { ld with next := ld.next + 1, total := ld.total - 1, crc := crc, words := ws.reverse ++ ld.words, d := none, lastAt := u.now + 1, lines := n } }))
      ∧ (ld.total = 1 → ∀ k, k = l.slots.getD (l.slots.length - 1) 0 →
          (crc = s.recWord room (0x20 + 8 * k) → exec (.loaderRead room 0 false) s
            = .next (v.modRoom room fun x => { x with loader := some { ld with next := ld.next + 1, total := 0, crc := 0, words := ws.reverse ++ ld.words, d := some (u.now + 8), lastAt := u.now + 1, lines := n } }))
          ∧ (crc ≠ s.recWord room (0x20 + 8 * k) → exec (.loaderRead room 0 false) s
            = .next (v.modRoom room fun x => { x with loader := some { ld with next := ld.next + 1, total := 0, crc := 0, words := ws.reverse ++ ld.words, d := some (u.now + 8), bad := ld.bad ||| 2 ^ k, lastAt := u.now + 1, lines := n } }))))
  ∧
  (∀ (s : State) (room i : Nat) (u : Suite) (l : LoadSt) (ld : Loader) (d : Nat), room < 16384 → u.lead < 16384 → s.suiteOf room = some i →
      s.suite i = some u → u.load = some l → (s.room room).loader = some ld → ld.d = some d → ld.gone = false → ld.bad = 0 → d ≤ u.now →
      u.run ≠ 4 → u.run ≠ 2 ∨ u.frozen = false → l.slot < 4 → l.preset = false → (∀ e ∈ u.entries, e.hearth = none) →
      Completes (.loadEffective room) s fun t =>
        (∀ b w, b < 64 → w = (ld.words.reverse.drop (33 * b)).take 33 →
          (t.brick room b).ctx l.slot = ⟨smSetAll nopEnd [] ((List.range 32).zip w), true, 0, 0, []⟩
          ∧ smGet 0 (t.brick room b).lanes l.slot = w.getD 32 0 &&& maskOf 35 0 ∧ (∀ j, j ≠ l.slot → (t.brick room b).ctx j = (s.brick room b).ctx j))
        ∧ (∀ r b, r ≠ room → b < 64 → t.brick r b = s.brick r b) ∧ (t.room room).loader = none ∧ t.mem = s.mem
        ∧ t.rd (rp .arr room) 0x0B8 = l.status 0 ∧ tst (t.rd (rp .arr room) 0x028) 3 = true)
  ∧
  (∀ (s : State) (room i : Nat) (u : Suite) (c : CheckPt), s.suiteOf room = some i → s.suite i = some u →
      (s.room room).checks[(s.room room).checkIdx]? = some c → u.run = 2 → u.mode = 0 → u.frozen = false → u.pastHalt = false → c.step = u.step.toNat →
      s.isArmed (rp .arr room) 4 = false →
      (s.fireDigest room = c.digest → s.rd (rp .hal room) 0x098 = c.use → exec (.checkPoint room) s
        = .next ((s.wr (rp .arr room) 0x0D8 (s.fireDigest room)).setRoom room { s.room room with checkIdx := (s.room room).checkIdx + 1 }))
      ∧ (s.fireDigest room ≠ c.digest ∨ s.rd (rp .hal room) 0x098 ≠ c.use → Completes (.checkPoint room) s fun t =>
          tst (t.rd (rp .arr room) 0x028) 4 = true ∧ t.rd (rp .arr room) 0x0D8 = s.fireDigest room
            ∧ t.suite i = some { u with halts := u.halts ++ [⟨u.clk, room, 1, Page.arr.cls * 256 + 0x20, s.et⟩] }
            ∧ t.bricks = s.bricks ∧ t.mem = s.mem))

/-- The stall master: STALL_REQ issues the request that has reached it, naming the cycle FL later, and no second one within 4 cycles; FREEZE opens a
window from the named cycle for its length or until a release; RELEASE closes the open window of its cause and source; FIXED_STALL_END drops the
windows that are over and changes no coming cycle; PAUSE and RESUME through the lead Room ask for a HOST stall and its release; a HALT that has
reached the master is broadcast with H = t + 2FL; the words of FREEZE, RELEASE and HALT change nothing else where no Flue injection is armed (R188 to
R190, R198, R310, R311). SUITE_HALT at the end of cycle H, of a Suite with no load, Sweep or entry in progress, whose command stream is off, with
AUTO_HALT clear, no restart begun and no rate switch between its start cycle and its end: RUN becomes 4 with nothing left of stalls and messages,
every Room of the Suite holds the halt record (code, origin Room and slot, and the step), the lead Room raises FLU_SUITE_HALT, and Bricks and memory
stay as they stood; before H nothing happens (R311, R312, R314). -/
def Obligations.StallsAndHalts : Prop :=
  (∀ (s : State) (i : Nat) (u : Suite), s.suite i = some u →
      (∀ r, u.reqs = [r] → r.at_ ≤ u.clk →
        (u.lastIss = 0 ∨ u.lastIss + 4 ≤ u.clk → exec (.stallReq i) s = .next (s.setSuite i { u with reqs := [], lastIss := u.clk, msgs := u.msgs ++ [⟨r.release, r.cause, r.src, r.len, u.clk + s.fl⟩] }))
        ∧ (u.lastIss ≠ 0 → u.clk < u.lastIss + 4 → exec (.stallReq i) s = .next (s.setSuite i u)))
      ∧ (∀ m l, u.msgs = m :: l → m.release = false → exec (.freeze i) s
          = .next ((s.downWords i).setSuite i { u with msgs := l, wins := u.wins ++ [⟨m.cause, m.src, m.cycle, if m.len = 0 then none else some (m.cycle + m.len)⟩] }))
      ∧ (∀ m w l, u.msgs = [m] → m.release = true → u.wins = w :: l → w.cause = m.cause → w.src = m.src → w.stop = none →
          exec (.release i) s = .next ((s.downWords i).setSuite i { u with msgs := [], wins := { w with stop := some m.cycle } :: l }))
      ∧ Completes (.fixedStallEnd i) s (fun t => ∃ v, t = s.setSuite i v ∧ v = { u with wins := v.wins } ∧ (∀ w ∈ v.wins, w ∈ u.wins)
          ∧ ∀ c, u.clk ≤ c → (u.wins.any fun w => w.covers c) = v.wins.any fun w => w.covers c)
      ∧ (∀ r, u.halts = [r] → r.t + s.fl ≤ u.clk → u.haltAt = none →
          exec (.halt i) s = .next ((s.downWords i).setSuite i { u with halts := [], haltAt := some (r.t + 2 * s.fl, r) }))
      ∧ (∀ room, s.isLead room = true → s.dark room = false → s.suiteId room = i →
          exec (.pause room) s = .next (s.setSuite i { u with reqs := u.reqs ++ [⟨4, hostSrc, 0, false, u.clk + s.fl⟩] })
          ∧ exec (.resume room) s = .next (s.setSuite i { u with reqs := u.reqs ++ [⟨4, hostSrc, 0, true, u.clk + s.fl⟩] }))
      ∧ (∀ room, s.isLead room = false → exec (.pause room) s = .next s ∧ exec (.resume room) s = .next s)
      ∧ ((∀ r, r ∈ u.rooms → s.isArmed (rp .flu r) 0 = false ∧ s.isArmed (rp .flu r) 1 = false) → s.downWords i = s))
  ∧
  (∀ (s : State) (i h : Nat) (u : Suite) (r : HaltReq), i < 64 → s.suite i = some u → u.haltAt = some (h, r) →
      (u.clk < h → exec (.suiteHalt i) s = .next s)
      ∧ (h ≤ u.clk → s.switching i = false → u.load = none → u.sweep.st = 0 → u.entries = [] → tst (s.rd (gp .swpg) (swpgSuite i)) 63 = false →
          tst (s.rd (rp .hrt u.lead) 0x0A0) 63 = false → (∀ x, x ∈ u.rooms → x < 16384) → u.lead < 16384 → (s.restart i).st = 0 →
          Completes (.suiteHalt i) s fun t =>
            t.suite i = some { u with run := 4, haltAt := none, haltNow := some u.laneNow, halts := [], reqs := [], msgs := [], wins := [], frozenL := false }
            ∧ (∀ x, x ∈ u.rooms → t.rd (rp .flu x) 0x088 = put 63 48 r.code ||| put 47 34 r.room ||| put 33 30 r.slot ||| 1 ∧ t.rd (rp .flu x) 0x090 = u.step)
            ∧ tst (t.rd (rp .flu u.lead) 0x028) 2 = true ∧ t.bricks = s.bricks ∧ t.mem = s.mem ∧ t.rooms = s.rooms))

/-- Suite register writes and OR reductions: ARR_SEED_WRITE through the lead Room is carried by SUITE_REG, which sets the seed of the Suite; while the
Suite runs it is refused with ARR_ACCESS_REFUSED; OR_REDUCE brings a load's refusals to the lead Room FL cycles after C, and for the engine answers
whether a packet of the old routing version is anywhere in the Hall (R180, R198, R290, R310). -/
def Obligations.SuiteRegisters : Prop :=
  ∀ (s : State) (room i : Nat) (u : Suite) (v : Sys2Proof.W64), s.suite i = some u →
    (s.isLead room = true → s.dark room = false → s.suiteId room = i →
      (u.run ≠ 2 → u.run ≠ 3 → exec (.arrSeedWrite room v) s = .next (s.setSuite i { u with regMsgs := u.regMsgs ++ [(0x0A0, v)] }))
      ∧ (u.run = 2 ∨ u.run = 3 → Completes (.arrSeedWrite room v) s fun t => tst (t.rd (rp .arr room) 0x028) 6 = true ∧ t.suites = s.suites))
    ∧ (∀ l, u.regMsgs = (0x0A0, v) :: l → exec (.suiteReg i) s = .next ((s.downWords i).setSuite i { u with regMsgs := l, seed := v }))
    ∧ (∀ l, u.load = some l → l.phase = 1 → l.c + s.fl ≤ u.now →
        exec (.orReduce i false) s = .next (s.setSuite i { u with load := some { l with phase := 2 } }))
    ∧ exec (.orReduce i true) s = .next { s with busData := if s.pkts.any fun f => f.pkt.epoch != s.rdF (gp .halg) 0x080 0 0 then 1 else 0 }

/-- FLU_LATENCY_WRITE sets FL to a value from the measured requirement to 256 while no Suite is loaded, and is refused with an event otherwise; a
HEARTBEAT whose word arrives unharmed or with one wire upset clears the node's count of misses, and one upset wire is counted; FLU_WATCHDOG counts a
miss, and at WD_MISS in a row fires, clears the count and marks every Suite of the Wing, and every running Suite, suspect (R307, R309, R315, R316,
R331, R332). -/
def Obligations.FlueLatencyAndHeartbeats : Prop :=
  ∀ (s : State),
    (∀ v, s.anyLoaded = false → s.rim.flReq ≤ fld v 15 0 → fld v 15 0 ≤ 256 → Completes (.fluLatencyWrite v) s fun t =>
        t.fl = fld v 15 0 ∧ (∀ p o, regKey p o ≠ regKey (gp .flug) 0x080 → t.rd p o = s.rd p o) ∧ { t with regs := s.regs } = s)
    ∧ (∀ v, s.anyLoaded = true ∨ fld v 15 0 < s.rim.flReq ∨ 256 < fld v 15 0 → Completes (.fluLatencyWrite v) s fun t =>
        t.fl = s.fl ∧ tst (t.rd (gp .flug) 0x028) 1 = true ∧ t.suites = s.suites)
    ∧ (∀ node p, p = rp .flu (s.corridorInst node) → node < 0x8000 →
        exec (.heartbeat node 0) s = .next { s with rim := { s.rim with hbMiss := smSet 0 s.rim.hbMiss node 0 } }
        ∧ ∀ k, k < 39 → Completes (.heartbeat node (2 ^ k)) s fun t => tst (t.rd p 0x028) 0 = true
            ∧ t.rdF p 0x098 63 0 = min (s.rdF p 0x098 63 0 + 1) (2 ^ 64 - 1) ∧ smGet 0 t.rim.hbMiss node = 0 ∧ t.suites = s.suites)
    ∧ (∀ node, smGet 0 s.rim.hbMiss node + 1 < s.wdMiss →
        exec (.fluWatchdog node) s = .next { s with rim := { s.rim with hbMiss := smSet 0 s.rim.hbMiss node (smGet 0 s.rim.hbMiss node + 1) } })
    ∧ (∀ node, s.wdMiss ≤ smGet 0 s.rim.hbMiss node + 1 → Completes (.fluWatchdog node) s fun t =>
        tst (t.rd (gp .flug) 0x028) 0 = true ∧ smGet 0 t.rim.hbMiss node = 0 ∧ t.suites = s.suites ∧ t.bricks = s.bricks ∧ t.mem = s.mem
        ∧ (∀ i, i ∈ s.suitesInWing (if node < 0x8000 then physWing node else node - 0x8000) → t.rim.suspects.testBit i = true)
        ∧ ∀ i, i ∈ s.runningSuites → t.rim.suspects.testBit i = true)

/-- Register accesses obey the access codes: REGISTER_WRITE of a plain register changes its RW bits to the value and clears its W1C bits where the
value is 1; RC_READ returns what the register reads and clears its RC bits; EVENT_CLEAR clears the EVENT bits written 1; EVENT_INJECT arms a page's
stated injection; WHERE_REARM clears VALID; nothing else changes; and an access of another size or alignment raises PCH_ACCESS_BAD (R10, R11, R76,
R79, R595, R602, R604). -/
def Obligations.RegisterAccesses : Prop :=
  ∀ (s : State) (addr : Nat) (a : BarAt) (v : Sys2Proof.W64), BarReach s addr a → ∀ p, p = a.page →
    (∀ r, PlainAt a r → exec (.registerWrite addr 8 v) s
        = .next (s.wr p a.off (((s.rd p a.off &&& ~~~ (r.rw ||| r.rws)) ||| (v &&& (r.rw ||| r.rws))) &&& ~~~ (v &&& r.w1c))))
    ∧ (∀ r, PlainAt a r → Completes (.rcRead addr 8) s fun t => t.busData = s.barRead a ∧ t.rd p a.off = s.rd p a.off &&& ~~~ r.rc
        ∧ (∀ q o, regKey q o ≠ regKey p a.off → t.rd q o = s.rd q o) ∧ { t with regs := s.regs, busData := s.busData } = s)
    ∧ (∀ r, PlainAt a r → tst r.w1c 31 = true → tst (r.rw ||| r.rws) 31 = false → Completes (.whereRearm addr) s fun t =>
        tst (t.rd p a.off) 31 = false ∧ (∀ q o, regKey q o ≠ regKey p a.off → t.rd q o = s.rd q o) ∧ { t with regs := s.regs } = s)
    ∧ (addr % 4096 = 0x028 → a.off = 0x028 → ¬ (p = dbg ∧ s.dbgLocked) → Completes (.eventClear addr v) s fun t =>
        t.rd p 0x028 = s.rd p 0x028 &&& ~~~ v ∧ (∀ q o, regKey q o ≠ regKey p 0x028 → t.rd q o = s.rd q o)
        ∧ { t with regs := s.regs, injLat := s.injLat } = s)
    ∧ (∀ b, addr % 4096 = 0x038 → a.off = 0x038 → p.page ∈ [Page.ecc, .swp, .dmp, .flu] → b < 64 → tst p.page.injects b = true →
        Completes (.eventInject addr (put b b 1)) s fun t => t.isArmed p b = true ∧ (∀ c, c ≠ b → t.isArmed p c = s.isArmed p c)
          ∧ { t with armed := s.armed } = s)
    ∧ (∀ n size, n < 2 ^ 32 → size ≠ 8 ∨ n % 8 ≠ 0 → Completes (.registerWrite n size v) s fun t =>
        tst (t.rd (gp .pch) 0x028) 0 = true ∧ (∀ q o, q ≠ gp .pch → q.inst < 2 ^ 20 → o < 4096 → t.rd q o = s.rd q o) ∧ t.mem = s.mem ∧ t.rim = s.rim)

/-- The event tree's vectors: PCHE_ARM of a source still pending sends its vector again, masked ones waiting in the PBA; HOLDOFF_EXPIRY sends what has
waited for the hold-off to pass, and nothing where no source waits (R609, R610). -/
def Obligations.EventVectors : Prop :=
  ∀ (s : State) (src v : Nat), src < 320 → v = fld (s.rd (gp .pche) (0x400 + 8 * src)) 10 0 →
    tst (s.rd (gp .pche) (0x400 + 8 * src)) 63 = true → s.rdF (gp .pche) 0x0A8 15 0 = 0 →
    (s.srcPending src = true → s.holdoff src ≤ s.et → s.msixMasked v = false →
      exec (.pcheArm src) s = .next { s with out := s.out ++ [.msix v] })
    ∧ (s.srcPending src = true → s.holdoff src ≤ s.et → s.msixMasked v = true → v ∉ s.rim.pba →
      exec (.pcheArm src) s = .next { s with rim := { s.rim with pba := s.rim.pba ++ [v] } })
    ∧ (s.srcPending src = false → exec (.pcheArm src) s = .next s)
    ∧ (smGet 0 s.rim.msix src ≠ 0 → s.holdoff src ≤ s.et → src ∉ s.rim.msiWait → exec (.holdoffExpiry src) s
        = .next { s with rim := { s.rim with msix := smSet 0 s.rim.msix src 0, msiWait := s.rim.msiWait.filter fun k => k ≠ src } })
    ∧ (s.et < s.holdoff src → exec (.holdoffExpiry src) s = .next s)
    ∧ (smGet 0 s.rim.msix src ≠ 0 → s.holdoff src ≤ s.et → src ∈ s.rim.msiWait → s.srcPending src = true → s.msixMasked v = false →
        Completes (.holdoffExpiry src) s fun t => t.out = s.out ++ [.msix v] ∧ smGet 0 t.rim.msix src = 0 ∧ src ∉ t.rim.msiWait ∧ t.regs = s.regs)

/-- SHELF_BANK_STEP of a running stepped Suite: with one access placed in the bank-step it alone is served, a read filling its registers from the
Shelf's words and a write storing its word; with two, or one beside a scheduled requester, neither takes effect, SHF_CONFLICT is raised and the Suite
halts; with none nothing happens (R205, R206, R208, R311). The Shelf's upkeep: the oldest corrected line is written back in a bank-step of its bank
that nothing else has or waits for; a scrub round of clean lines, 4,096 Suite cycles after the one before, only moves on by one row; a quarter whose
FORCE_ON is newly set powers up and ramps, and when its ramp is done it holds zeros only; SHF_QCTRL is refused while the Suite is not idle; a bank
retired is copied into the spare, which then serves it (R212, R215, R217, R446, R454). -/
def Obligations.ShelfBanks : Prop :=
  (∀ (s : State) (room bank i : Nat) (u : Suite), s.suiteOf room = some i → s.suite i = some u → u.run = 2 → u.mode = 0 → u.frozen = false →
      u.pastHalt = false → s.isArmed (rp .shf room) 0 = false → ∀ due users, due = (s.room room).reqs.filter (fun q => q.bank = bank ∧ q.at_ = u.now) →
      users = s.schedUsers room bank u.step.toNat →
      (due = [] → exec (.shelfBankStep room bank 0 false) s = .next s)
      ∧ (∀ q, due = [q] → users = [] → q.void = false → s.shelfDark room (64 * q.line) = false → ArrayClean s room → q.cols = [] →
          (q.wr = [] → exec (.shelfBankStep room bank 0 false) s
            = .next (((s.modRoom room fun r => { r with reqs := r.reqs.filter fun x => x ≠ q }).dmpCount room 5 1).modBrick room q.who
                fun b => b.gotWords q 0 fun ws => q.rd.foldl (fun ws e => fillReg e.1 (~~~ 0) (s.ldWord (shelfEA room e.2)) ws) ws))
          ∧ (∀ off w, q.rd = [] → q.wr = [(off, w)] → Completes (.shelfBankStep room bank 0 false) s fun t =>
              t.mem = (s.stWord (shelfEA room off) w).mem ∧ t.regs = s.regs ∧ t.suites = s.suites ∧ q ∉ (t.room room).reqs))
      ∧ (∀ q l, due = q :: l → l ≠ [] ∨ users ≠ [] → Completes (.shelfBankStep room bank 0 false) s fun t =>
          tst (t.rd (rp .shf room) 0x028) 0 = true ∧ t.mem = s.mem
            ∧ t.suite i = some { u with halts := u.halts ++ [⟨u.clk, room, 2, Page.shf.cls * 256 + 1, s.et⟩] } ∧ q ∉ (t.room room).reqs))
  ∧
  (∀ (s : State) (room : Nat) (v : Sys2Proof.W64), ∀ p, p = rp .shf room →
      (∀ line l bank, (s.room room).wbacks = line :: l → bank = (lineBankRow line).1 → s.bankFree room bank = true →
          (∀ q ∈ (s.room room).reqs, q.bank = bank → s.bankNow room < q.at_) →
          exec (.eccWriteBack room) s = .next ((s.useBank room bank).modRoom room fun r => { r with wbacks := l }))
      ∧ ((s.room room).wbacks = [] → exec (.eccWriteBack room) s = .next s)
      ∧ (s.dark room = false → tst (s.rd (rp .ecc room) 0x090) 63 = true → s.shelfScrubDue room = true → ArrayClean s room → exec (.shelfScrub room [] []) s
            = .next ((s.wrF (rp .ecc room) 0x090 11 0 ((s.rdF (rp .ecc room) 0x090 11 0 + 1) % 3072)).modRoom room fun r => { r with scrubClk := s.suiteClk room }))
      ∧ (∀ errs late, s.dark room = true ∨ tst (s.rd (rp .ecc room) 0x090) 63 = false ∨ s.shelfScrubDue room = false → exec (.shelfScrub room errs late) s = .next s)
      ∧ (∀ j, s.dark room = false → s.suiteIdle room = true → j < 4 → tst v j = true → tst (s.rd p 0x088) j = false → tst (s.rd p 0x080) (4 + j) = false →
          (∀ k, k < 4 → k ≠ j → tst v k = tst (s.rd p 0x088) k) → Completes (.shfQctrlWrite room v) s fun t =>
            t.rd p 0x088 = put 4 0 (fld v 4 0) ∧ tst (t.rd p 0x080) (4 + j) = true ∧ tst (t.rd p 0x080) j = true
              ∧ (∀ k, k ≠ j → k ≠ 4 + j → tst (t.rd p 0x080) k = tst (s.rd p 0x080) k) ∧ { t with regs := s.regs } = s)
      ∧ (s.dark room = false → s.suiteIdle room = false → Completes (.shfQctrlWrite room v) s fun t =>
          tst (t.rd p 0x028) 5 = true ∧ t.rd p 0x088 = s.rd p 0x088 ∧ t.mem = s.mem)
      ∧ (∀ j, j < 4 → tst (s.rd p 0x080) j = true → Completes (.quarterRampDone room j) s fun t =>
          tst (t.rd p 0x080) j = false ∧ (∀ a, shelfEA room (0xC0000 * j) ≤ a → a < shelfEA room (0xC0000 * j) + 0xC0000 → t.ldByte a = 0)
            ∧ (∀ a, a < shelfEA room (0xC0000 * j) ∨ shelfEA room (0xC0000 * j) + 0xC0000 ≤ a → t.ldByte a = s.ldByte a) ∧ t.bricks = s.bricks)
      ∧ (s.dark room = false → tst v 7 = true → s.suiteIdle room = true → (s.room room).retiring = none → tst (s.rd p 0x080) 13 = false →
          Completes (.shfRetire room v) s fun t => (t.room room).retiring = some (fld v 3 0) ∧ tst (t.rd p 0x080) 14 = true ∧ t.mem = s.mem)
      ∧ (∀ bank bad, (s.room room).retiring = some bank → bank < 16 → Completes (.bankCopyDone room bad) s fun t =>
          (t.room room).retiring = none ∧ tst (t.rd p 0x080) 13 = true ∧ tst (t.rd p 0x080) 14 = false ∧ t.rdF p 0x080 11 8 = bank
            ∧ tst (t.rd p 0x028) 3 = true ∧ t.mem = s.mem))

/-- Stokes and floors. A STOKE entry at its step hands the Suite's Damper its Stoke and tells every Chimney of the Suite, LEVEL 0 withdrawing it; the
Stoke is active once every Chimney has reported ready; one that is not ready at t₀ + lead is late, with DMP_STOKE_LATE in each Wing that has not
reported; an active one ends HOLD_US after t₀ + lead; a rise of the profile sets every Wing's target; a tick forms EST_W and moves the floor; a held
floor starts to decay when its hold expires (R246, R483, R486 to R488, R493, R509, R518). -/
def Obligations.StokesAndFloors : Prop :=
  ∀ (s : State) (i : Nat) (u : Suite), s.suite i = some u →
    (∀ e l x lead level, u.entries = e :: l → e.hearth = none → e.prog = 1 → e.op = 3 → e.t0 ≤ u.now → x = e.words.getD 1 0 →
      lead = fld x 23 8 → level = min (fld x 7 0) 240 → Completes (.csStoke i) s fun t =>
        t.suite i = some { u with stoke := if level = 0 then [] else [⟨s.et, if lead = 0 then 20 else lead, level, 1, false⟩], entries := l }
        ∧ t.out = s.out ++ (s.suiteWings u).map (fun w => .chimney w 1 level) ∧ t.mem = s.mem ∧ t.bricks = s.bricks
        ∧ ∀ w, w ∈ s.suiteWings u → (t.dmp w).ready = false)
    ∧ (∀ w k, w < 64 → s.suiteOfPhys w = some i → u.stoke = [k] → k.st = 1 →
        ((∀ v, v ∈ s.suiteWings u → v = w ∨ (s.dmp v).ready = true) → Completes (.chimneyReady w) s fun t =>
          t.suite i = some { u with stoke := [{ k with st := 2 }] } ∧ (t.dmp w).ready = true ∧ t.mem = s.mem)
        ∧ ((∃ v, v ∈ s.suiteWings u ∧ v ≠ w ∧ (s.dmp v).ready = false) → Completes (.chimneyReady w) s fun t =>
          t.suite i = some u ∧ (t.dmp w).ready = true ∧ t.mem = s.mem))
    ∧ (∀ k, u.stoke = [k] → k.st = 1 → k.late = false → k.t0 + usToEt k.lead ≤ s.et → (∀ w, w ∈ s.suiteWings u → s.isArmed (dmpw w) 1 = false) →
        Completes (.dmpStokeLate i) s fun t => t.suite i = some { u with stoke := [{ k with late := true }] } ∧ t.mem = s.mem
          ∧ ∀ w, w ∈ s.suiteWings u → (s.dmp w).ready = false → tst (t.rd (dmpw w) 0x028) 1 = true)
    ∧ (∀ k hold, u.stoke = [k] → hold = s.floorHoldUs ((s.suiteWings u).headD 0) →
        (k.st = 2 → k.t0 + usToEt (k.lead + hold) ≤ s.et → Completes (.stokeEnd i) s fun t => t.suite i = some { u with stoke := [] }
          ∧ t.out = s.out ++ (s.suiteWings u).map (fun w => .chimney w 1 0) ∧ t.mem = s.mem)
        ∧ (s.et < k.t0 + usToEt (k.lead + hold) → exec (.stokeEnd i) s = .next s))
    ∧ (∀ start level, level < 4096 → u.run = 2 → u.mode = 0 → start ≤ u.step.toNat + s.lookahead i → (start, level) ∉ u.prof → 0 < level →
        (u.levelAt (start - 1) < level → Completes (.profileRise i start level) s fun t => (∃ m, t.suite i = some { u with prof := u.prof ++ [(start, level)], msgs := u.msgs ++ m })
          ∧ (∀ w, w ∈ s.suiteWings u → (t.dmp w).target = level * 64000 ∧ (t.dmp w).until_ = start) ∧ t.regs = s.regs ∧ t.mem = s.mem)
        ∧ (level ≤ u.levelAt (start - 1) → exec (.profileRise i start level) s = .next (s.setSuite i { u with prof := u.prof ++ [(start, level)] })))
    ∧ (∀ w d, w < 64 → d = s.dmp w → s.suiteOfPhys w = some i → d.tickAt + 64 ≤ u.clk → u.stoke = [] → d.target = 0 → u.frozen = false →
        Completes (.damperTick w) s fun t => ∀ x, x = (((s.wingRooms w).filter fun r => s.pwrState r = 2).map fun r => s.dmpNow r).sum →
          (t.dmp w).floor = max x (d.floor - tickSlope (s.slope w) (s.wingRate w)) ∧ (t.dmp w).estW = x ∧ (t.dmp w).target = 0 ∧ (t.dmp w).tickAt = u.clk
          ∧ (t.dmp w).held = none ∧ x ≤ (t.dmp w).est)
    ∧ (∀ w x, w < 64 → (s.dmp w).held = some x → x ≠ 0 →
        (x ≤ s.et → exec (.floorHoldExpiry w) s = .next (s.setDmp w { s.dmp w with held := some 0 }))
        ∧ (s.et < x → exec (.floorHoldExpiry w) s = .next s))

/-- The power budget. CAP_WRITE sets CAP_W where it lies within 8,000 to 27,000 W and covers the floors and the last P_fixed, and otherwise is refused
with DMP_ACCESS_REFUSED; so is a budget of a Suite with MIN_W above MAX_W or with floors that the cap cannot hold; with no injection armed a window of
1 ms or more sets DERATE_W to the least of its three parts and 27,000 W, and CAP_EFF to the lower of the cap and it, and before its time it does
nothing; DAMPER gives the Suite the throttle that its DMPG_SUITE_B holds: 64/64 where it is refused, THETA where it is delayed, none otherwise (R494,
R497 to R499, R510, R511, R527). Thermal response, with no injection armed. A sample becomes the Room's TEMP, and the highest its MAX. Where the Room
does not trip, a Room of no Suite only keeps the reading; a Suite that is not throttled and whose hottest Room lies below T_THR stays so, with THETA_T
0; one whose hottest Room reaches T_THR is throttled, and as that begins DMP_THERMAL_THROTTLE is raised. From 110 °C on a Room that is on or ramps
trips: STATE reads TRIPPED and DMP_THERMAL_TRIP is raised in its Wing's page (R504, R505, R509, R529). -/
def Obligations.DamperPowerAndHeat : Prop :=
  (∀ (s : State) (v : Sys2Proof.W64),
      (8000 ≤ fld v 15 0 → fld v 15 0 ≤ 27000 → s.minSum + s.rdF dmpg 0x090 63 32 ≤ fld v 15 0 →
          exec (.capWrite v) s = .next (s.wr dmpg 0x080 (v &&& maskOf 47 0)))
      ∧ (fld v 15 0 < 8000 ∨ 27000 < fld v 15 0 ∨ fld v 15 0 < s.minSum + s.rdF dmpg 0x090 63 32 → Completes (.capWrite v) s fun t =>
          tst (t.rd dmpg 0x028) 3 = true ∧ t.rd dmpg 0x080 = s.rd dmpg 0x080 ∧ t.mem = s.mem ∧ t.suites = s.suites)
      ∧ (∀ i, i < 64 → ∀ t, t = s.wr dmpg (0x400 + 16 * i) (v &&& (maskOf 63 48 ||| maskOf 33 0)) →
          (t.minW i ≤ t.maxW i → t.minSum + s.rdF dmpg 0x090 63 32 ≤ s.rdF dmpg 0x080 15 0 → exec (.suiteBudgetWrite i v) s = .next t)
          ∧ (t.maxW i < t.minW i ∨ s.rdF dmpg 0x080 15 0 < t.minSum + s.rdF dmpg 0x090 63 32 → Completes (.suiteBudgetWrite i v) s fun r =>
              tst (r.rd dmpg 0x028) 3 = true ∧ r.rd dmpg (0x400 + 16 * i) = s.rd dmpg (0x400 + 16 * i) ∧ r.mem = s.mem ∧ r.suites = s.suites))
      ∧ (s.rim.winEt + 156250 ≤ s.et → s.isArmed dmpg 1 = false → s.isArmed pwrg 1 = false → Completes .powerWindow s fun t =>
          t.rdF dmpg 0x088 15 0 = min 27000 (min (675 * s.rdF pwrg 0x080 15 0 / 100) (min (45 * s.rdF pwrg 0x088 15 0)
              (if 400 < s.rdF pwrg 0x088 31 16 then 27000 - 200 * (s.rdF pwrg 0x088 31 16 - 400) else 27000)))
          ∧ t.rdF dmpg 0x088 31 16 = min (s.rdF dmpg 0x080 15 0) (t.rdF dmpg 0x088 15 0) ∧ t.rim.winEt = s.et ∧ t.mem = s.mem ∧ t.bricks = s.bricks)
      ∧ (s.et < s.rim.winEt + 156250 → s.rim.winEt ≤ s.et → exec .powerWindow s = .next s)
      ∧ (∀ i u w th, i < 64 → s.suite i = some u → w = s.rd dmpg (0x408 + 16 * i) → th = (if fld w 63 61 = 3 then 64 else if fld w 63 61 = 2 then fld w 57 52 else 0) →
          exec (.damper i) s = .next (s.setSuite i { u with theta := th, budNext := if u.theta = th then u.budNext else u.clk }))
      ∧ (∀ i, s.suite i = none → exec (.damper i) s = .next s))
  ∧
  (∀ (s : State) (room phys w : Nat) (temp : Int) (t : State), room < 2 ^ 17 → w < 64 → -32768 ≤ temp → temp < 32768 →
      phys = (if room < 0x8000 then s.physOf room else room - 0x8000) → w = physWing phys → s.isArmed (dmpw w) 2 = false → s.isArmed (dmpw w) 3 = false →
      t = s.wr (pwr room) 0x090 (put 15 0 (unsgn 16 temp) ||| put 31 16 (unsgn 16 (max (sgn 16 (s.rdF (pwr room) 0x090 31 16)) temp))) →
      (temp < 1760 ∨ (s.pwrState room ≠ 1 ∧ s.pwrState room ≠ 2) →
        (∀ i u, i < 64 → room < 0x8000 → s.suiteOf room = some i → s.suite i = some u → (t.hottest u).1 < 16 * (s.rdF dmpg 0x098 7 0 : Int) → u.thermOn = false →
          Completes (.thermalSample room temp) s fun r => r.suite i = some { u with thermPer := 0, thetaT := 0 } ∧ r.mem = s.mem ∧ r.bricks = s.bricks
            ∧ r.rdF dmpg (0x408 + 16 * i) 51 48 = 0 ∧ ∀ q o, q.inst < 2 ^ 20 → o < 4096 → q ≠ dmpg → r.rd q o = t.rd q o)
        ∧ (∀ i u, i < 64 → room < 0x8000 → s.suiteOf room = some i → s.suite i = some u → 16 * (s.rdF dmpg 0x098 7 0 : Int) ≤ (t.hottest u).1 →
          Completes (.thermalSample room temp) s fun r => (∃ u', r.suite i = some u' ∧ u'.thermOn = true ∧ u'.theta = u.theta ∧ u'.run = u.run) ∧ r.mem = s.mem
            ∧ (u.thermOn = false → s.wingOf (t.hottest u).2 < 2 ^ 20 → tst (r.rd (dmpw (s.wingOf (t.hottest u).2)) 0x028) 2 = true))
        ∧ (0x8000 ≤ room ∨ s.suiteOf room = none → exec (.thermalSample room temp) s = .next t))
      ∧ (1760 ≤ temp → s.pwrState room = 1 ∨ s.pwrState room = 2 → (∀ i, s.suiteOf room = some i → i < 64) → Completes (.thermalSample room temp) s fun r =>
          r.pwrState room = 3 ∧ tst (r.rd (dmpw w) 0x028) 3 = true ∧ (s.pwrState room = 1 → r.mem = s.mem ∧ r.bricks = s.bricks)))

/-- Draught. Enabling it under its limits sets E to the equal split and otherwise is refused; JOB and PERIOD_MS change only while it is off; a new
total takes effect at once under the same limits; the end of a period forms COLD; STATUS keeps a peer's COLD; a GIVE is answered with what fits under
CEIL_W, which stays reserved until CONFIRM; TAKE lowers the giver's E, and CONFIRM raises the receiver's and releases the reservation; a message of
another job or of no peer is dropped (R500 to R503, R510). -/
def Obligations.DraughtExchange : Prop :=
  ∀ (s : State) (v : Sys2Proof.W64),
    (s.drOn = true → (tst v 63 = true → exec (.draughtEnable v) s = .next s)
        ∧ (tst v 63 = false → exec (.draughtEnable v) s = .next (s.wrF dmpg 0x0A0 63 63 0)))
    ∧ (s.drOn = false → tst v 63 = false → exec (.draughtEnable v) s = .next (s.wr dmpg 0x0A0 (v &&& (maskOf 47 32 ||| maskOf 15 0))))
    ∧ (∀ e, s.drOn = false → tst v 63 = true → e = drSplit (s.rd dmpg 0x0A8) →
        (fld (s.rd dmpg 0x0B0) 63 32 ≤ e → e ≤ fld (s.rd dmpg 0x0B0) 31 0 → ((s.jobSuites (fld v 47 32)).map s.minW).sum ≤ fld (s.rd dmpg 0x0B0) 63 32 →
          Completes (.draughtEnable v) s fun t => t.drOn = true ∧ t.drE = e ∧ t.rim.peers = [] ∧ t.rim.drEt = s.et ∧ t.rdF dmpg 0x0A0 47 32 = fld v 47 32
            ∧ t.mem = s.mem ∧ t.suites = s.suites)
        ∧ (e < fld (s.rd dmpg 0x0B0) 63 32 ∨ fld (s.rd dmpg 0x0B0) 31 0 < e ∨ fld (s.rd dmpg 0x0B0) 63 32 < ((s.jobSuites (fld v 47 32)).map s.minW).sum →
          Completes (.draughtEnable v) s fun t => tst (t.rd dmpg 0x028) 3 = true ∧ t.drOn = false ∧ t.drE = s.drE ∧ t.mem = s.mem ∧ t.suites = s.suites))
    ∧ (1 ≤ fld v 16 0 → fld v 16 0 ≤ 65536 → s.drOn = true →
        s.drFits (s.rdF dmpg 0x0A0 47 32) (v &&& (maskOf 63 32 ||| maskOf 16 0)) (s.rd dmpg 0x0B0) = true →
        Completes (.drTotalWrite v) s fun t => t.rd dmpg 0x0A8 = v &&& (maskOf 63 32 ||| maskOf 16 0) ∧ t.drE = fld v 63 32 / fld v 16 0 ∧ { t with regs := s.regs } = s)
    ∧ (1 ≤ fld v 16 0 → fld v 16 0 ≤ 65536 → s.drOn = false →
        exec (.drTotalWrite v) s = .next (s.wr dmpg 0x0A8 (v &&& (maskOf 63 32 ||| maskOf 16 0))))
    ∧ (fld v 16 0 = 0 ∨ 65536 < fld v 16 0 → Completes (.drTotalWrite v) s fun t =>
        tst (t.rd dmpg 0x028) 3 = true ∧ t.rd dmpg 0x0A8 = s.rd dmpg 0x0A8 ∧ t.drE = s.drE)
    ∧ (s.drOn = true → s.rim.drEt + s.drPeriod ≤ s.et → (∀ k, k < 4 → tst (s.rd dmpg (0x100 + 8 * k)) 63 = false) →
        Completes .draughtPeriod s fun t => t.rdF dmpg 0x0C0 31 16 = min 65535 (s.rim.coldEt * 65536 / (s.et - s.rim.drEt)) ∧ t.rim.coldEt = 0 ∧ t.rim.drEt = s.et
          ∧ t.drE = s.drE ∧ { t with regs := s.regs, rim := s.rim } = s)
    ∧ (s.drOn = false ∨ s.et < s.rim.drEt + s.drPeriod → exec .draughtPeriod s = .next s)
    ∧ (∀ n d t k, n < 2 ^ 20 → t = (s.yazTake n 0x30).1 → t.drPeerOf n = some k →
        (drField d 2 2 = t.rdF dmpg 0x0A0 47 32 → ∀ p a seq, p = t.drPeer k → seq = drField d 1 1 →
          (s.drNext n 1 = some d → drField d 0 1 = 1 →
            exec (.draughtStatus n) s = .next ((t.setPeer k { p with cold := drField d 8 2, at_ := some t.et }).yazDeliver n 300))
          ∧ (s.drNext n 2 = some d → t.drOn = true → p.give = none → a = min (drField d 4 4) (t.rdF dmpg 0x0B0 31 0 - t.drE - t.drReserved) → a ≠ 0 →
            exec (.give n) s = .next ((((t.setPeer k { p with resv := p.resv + a }).bump dmpg 0x0C8 47 32 1).drSend k 3 seq a).yazDeliver n 300))
          ∧ (s.drNext n 2 = some d → t.drOn = false ∨ p.give ≠ none → exec (.give n) s = .next ((t.drSend k 3 seq 0).yazDeliver n 300))
          ∧ (s.drNext n 3 = some d → p.give = some seq → a = drField d 4 4 → a ≠ 0 →
            exec (.take n) s = .next ((((t.setPeer k { p with give := none }).wrF dmpg 0x0C0 63 32 (t.drE - a)).drSend k 4 seq a).yazDeliver n 300))
          ∧ (s.drNext n 3 = some d → p.give ≠ some seq → exec (.take n) s = .next (t.yazDeliver n 300))
          ∧ (s.drNext n 4 = some d → a = min p.resv (drField d 4 4) →
            exec (.confirm n) s = .next (((t.wrF dmpg 0x0C0 63 32 (t.drE + a)).setPeer k { p with resv := p.resv - a }).yazDeliver n 300)))
        ∧ (drField d 2 2 ≠ t.rdF dmpg 0x0A0 47 32 →
          (s.drNext n 1 = some d → exec (.draughtStatus n) s = .next (t.yazDeliver n 300)) ∧ (s.drNext n 2 = some d → exec (.give n) s = .next (t.yazDeliver n 300))
          ∧ (s.drNext n 3 = some d → exec (.take n) s = .next (t.yazDeliver n 300)) ∧ (s.drNext n 4 = some d → exec (.confirm n) s = .next (t.yazDeliver n 300))))

/-- Sweep-out. A CHECKPOINT entry asks for one at the end of its step; at that step the Suite enters HOLD with its Rooms' SWP pages in STATE 1; once
quiet the target buffer's GEN is cleared and the images are written under the next generation; quiescence that takes too long fails it; the header,
written last, commits GEN; and HOLD ends at the released cycle, its time counted (R246, R463 to R467, R479, R480). A Sweep-out that fails raises
SWP_FAIL, shows STATE 5 in its Rooms' SWP pages, drops WINDOW, MIRROR and PREEMPT, and its Suite is released FL cycles on; GEN of both buffers and
memory stay as they were (R463, R467, R479). -/
def Obligations.SweepOuts : Prop :=
  (∀ (s : State) (i : Nat) (u : Suite), i < 64 → s.suite i = some u →
      (∀ e l w, u.entries = e :: l → e.prog = 1 → e.op = 4 → u.sweep.st = 0 → w = e.words.getD 1 0 → Completes (.csCheckpoint i) s fun t =>
        t.suite i = some { u with entries := { e with prog := 2 } :: l, sweep := ⟨1, if u.run ≠ 2 then u.step else if e.step = asap then u.step + 1 else BitVec.ofNat 64 (e.step + 1),
          0, if fld w 55 32 = 0 then 100 else fld w 55 32, tst w 63, tst (e.words.getD 0 0) 48, fld w 31 0, 0, 0, false, none⟩ } ∧ t.mem = s.mem ∧ t.rim = s.rim)
      ∧ (u.sweep.st = 1 → u.sweep.step.toNat ≤ u.step.toNat → u.load = none → (∀ r, r ∈ u.rooms → r < 2 ^ 20) → Completes (.sweepHold i) s fun t =>
          t.suite i = some { u with sweep := { u.sweep with st := 2, et0 := s.et } } ∧ (∀ r, r ∈ u.rooms → t.rdF (swp r) 0x080 63 61 = 1) ∧ t.mem = s.mem ∧ t.bricks = s.bricks)
      ∧ (u.sweep.st ≠ 1 ∨ u.step.toNat < u.sweep.step.toNat → exec (.sweepHold i) s = .next s)
      ∧ (∀ b, u.sweep.st = 2 → s.hallBusy u = false → s.streamsBusy i = false → b = s.sweepBuf i → s.bufOk i b = true → (∀ r, r ∈ u.rooms → r < 2 ^ 20) → u.lead < 2 ^ 20 →
          Completes (.quiescence i) s fun t => t.genOf i b = 0 ∧ t.genOf i (1 - b) = s.genOf i (1 - b)
            ∧ t.suite i = some { u with sweep := { u.sweep with st := 3, buf := b, gen := max (s.genOf i 0) (s.genOf i 1) + 1 } }
            ∧ (∃ m : SuiteImg, t.ckpt (2 * i + b) = some m ∧ m.step = u.step ∧ m.cycle = u.cycle ∧ m.rooms.map Prod.fst = u.rooms) ∧ t.bricks = s.bricks)
      ∧ (u.sweep.st = 2 → s.hallBusy u = true ∨ s.streamsBusy i = true → exec (.quiescence i) s = .next s)
      ∧ (u.sweep.st = 2 → s.hallBusy u = false → s.streamsBusy i = false → s.bufOk i (s.sweepBuf i) = false → exec (.quiescence i) s = .next (s.sweepFail i 4 false))
      ∧ (u.sweep.st = 2 → u.sweep.et0 + usToEt u.sweep.limit ≤ s.et →
          exec (.quiesceTimeout i) s = .next (s.sweepFail i (if s.hallBusy u then 1 else 2) false))
      ∧ (u.sweep.st ≠ 2 ∨ s.et < u.sweep.et0 + usToEt u.sweep.limit → exec (.quiesceTimeout i) s = .next s)
      ∧ (u.sweep.st = 3 → s.isArmed swpg 1 = false →
          exec (.sweepOutDone i true) s = .next (s.sweepFail i 4 false)
          ∧ ∀ b m, b = u.sweep.buf → b < 2 → s.ckpt (2 * i + b) = some m → u.entries = [] → u.sweep.preempt = false → u.sweep.gen < 2 ^ 32 → (∀ r, r ∈ u.rooms → r < 2 ^ 20) →
            Completes (.sweepOutDone i false) s fun t => t.genOf i b = u.sweep.gen ∧ tst (t.rd swpg 0x028) 0 = true
              ∧ t.mem = (s.stBytes (s.headerEA i b) (ckptHeader u.sweep.gen s.et u.sweep.tag u.rooms.length i m.step (crcWords 0 (m.rooms.map fun e => e.2.crc)) u.loadHdr)).mem
              ∧ t.suite i = some { u with sweep := if u.sweep.window then { u.sweep with st := 5 } else { u.sweep with st := 4, rel := some (u.clk + s.fl) } })
      ∧ (∀ c, u.sweep.rel = some c → u.sweep.st = 4 → c ≤ u.clk → u.sweep.mirror = false → (∀ r, r ∈ u.rooms → r < 2 ^ 20) → Completes (.holdRelease i) s fun t =>
          t.suite i = some { u with sweep := .none } ∧ t.rd swpg 0x0C8 = s.rd swpg 0x0C8 + BitVec.ofNat 64 (etToUs (s.et - u.sweep.et0)) ∧ t.mem = s.mem ∧ t.rim = s.rim)
      ∧ (∀ c, u.sweep.rel = some c → u.clk < c → exec (.holdRelease i) s = .next s))
  ∧
  (∀ (s : State) (i cause : Nat) (u : Suite), s.suite i = some u → u.entries = [] → (∀ r, r ∈ u.rooms → r < 2 ^ 20) → ∀ t, t = s.sweepFail i cause false →
      tst (t.rd swpg 0x028) 1 = true ∧ (∀ r, r ∈ u.rooms → t.rdF (swp r) 0x080 63 61 = 5) ∧ (∀ j b, j < 64 → t.genOf j b = s.genOf j b) ∧ t.mem = s.mem
      ∧ t.suite i = some { u with sweep := { u.sweep with mirror := false, window := false, preempt := false, st := 4, rel := some (u.clk + s.fl) } })

/-- Restarts and pre-emption. A SWPG_CMD that its Suite's state does not allow raises SWP_ACCESS_REFUSED and changes nothing else; PREEMPT asks for a
Sweep-out; SWEEP_IN fails with NO_CLEAN where the image is later than the clean ET, and is refused where no image has the GEN asked for; a ROOM_CRC
that differs fails the restart with IMAGE_CRC, and otherwise the image is restored and the roll call follows; RESUME arms the READY Suites of the job,
which leave HOLD at SWPG_RESUME_ET; ABORT ends a restart, a failed one keeping the ET from which its down time counts; a JOB_HALT of another ROUND is
dropped (R471 to R476, R479, R480). -/
def Obligations.Restarts : Prop :=
  ∀ (s : State) (i : Nat), i < 64 → ∀ q, q = s.restart i →
    (∀ u, s.suite i = some u → u.sweep.st = 0 → u.run ≠ 0 → u.run ≠ 4 → q.st = 0 →
        exec (.preempt i) s = .next (s.setSweep i ⟨1, if u.run = 2 then u.step + 1 else u.step, 0, 100, false, false, 0, 0, 0, true, none⟩))
    ∧ ((s.suite i = none ∨ q.st ≠ 0 ∨ ∃ u, s.suite i = some u ∧ (u.sweep.st ≠ 0 ∨ u.run = 0 ∨ u.run = 4)) → TurnedAway (.preempt i) s swpg 6)
    ∧ (∀ u src buf gen m, s.suite i = some u → src < 2 → buf < 2 → gen < 2 ^ 32 → q.st = 3 ∨ (q.st = 0 ∧ u.run = 0) → u.sweep.st = 0 → u.inReset = false →
        s.sweepSource i u src buf gen = some m →
        (∀ e, q.clean = some e → e < m.et → Completes (.sweepIn i src buf gen) s fun t => (t.restart i).st = 8 ∧ (t.restart i).cause = 7
          ∧ tst (t.rd swpg 0x028) 5 = true ∧ t.suites = s.suites ∧ t.mem = s.mem ∧ t.bricks = s.bricks)
        ∧ (q.clean = none → (∀ t, t = m.rooms.foldl (fun (t : State) (e : Nat × RoomImg) => t.restoreRoom e.1 e.2) (s.setRestart i { q with st := 4, img := some m }) →
              ∀ r, r ∈ u.rooms → t.loadCauses { u with run := 0 } ⟨15, false, false, 0, 0, m.loadHdr, none, 0, []⟩ r = []) → (∀ r, r ∈ u.rooms → r < 2 ^ 20) →
            Completes (.sweepIn i src buf gen) s fun t => (t.restart i).st = 5 ∧ (t.restart i).img = some m ∧ (∀ r, r ∈ u.rooms → t.rdF (swp r) 0x080 63 61 = 3)
              ∧ t.suites = s.suites ∧ t.mem = s.mem ∧ t.bricks = s.bricks))
    ∧ (∀ u src buf gen, s.suite i = some u → src < 2 → buf < 2 → gen < 2 ^ 32 → s.sweepSource i u src buf gen = none → TurnedAway (.sweepIn i src buf gen) s swpg 6)
    ∧ (∀ u m bad, s.suite i = some u → q.img = some m → q.st = 5 → s.dbgSweeps i = false → (∀ r, r ∈ u.rooms → s.isArmed (swp r) 0 = false) →
        ((∀ r, r ∈ bad → r ∉ u.rooms) → exec (.sweepInDone i bad) s = .next (((s.restore i m).setRestart i { (s.restore i m).restart i with st := 6, img := none }).rollStart i))
        ∧ (∀ r, r ∈ bad → r ∈ u.rooms → Completes (.sweepInDone i bad) s fun t => (t.restart i).st = 8 ∧ (t.restart i).cause = 5 ∧ tst (t.rd swpg 0x028) 5 = true
            ∧ t.suites = s.suites ∧ t.mem = s.mem ∧ t.bricks = s.bricks))
    ∧ (∀ gen first n k u, gen < 2 ^ 32 → s.suite i = some u → first = s.rdF swpg (swpgSuite i) 51 32 → n = s.rdF swpg (swpgSuite i) 54 52 + 1 → k < n →
        (s.yctx (first + k)).state ≠ 1 ∨ (s.yctx (first + k)).dkind ≠ 2 → TurnedAway (.sweepReturn i gen) s swpg 6)
    ∧ (∀ gen first n u h, gen < 2 ^ 32 → s.suite i = some u → first = s.rdF swpg (swpgSuite i) 51 32 → n = s.rdF swpg (swpgSuite i) 54 52 + 1 →
        (∀ k, k < n → (s.yctx (first + k)).state = 1 ∧ (s.yctx (first + k)).dkind = 2) → h = gen % 2 * mirrorHalf u.rooms.length n →
        exec (.sweepReturn i gen) s = .next (s.mirrorAll first n u.rooms.length gen 2 (fun r => (s.yctx (first + r % n)).dbase + h + 4096 + r / n * imageBytes)
          (fun k => (s.yctx (first + k)).dbase + h)))
    ∧ (q.st ≠ 7 → TurnedAway (.swpgResume i) s swpg 6)
    ∧ (q.st = 7 → Completes (.swpgResume i) s fun t => (∀ k, k ∈ s.jobSuites (s.jobOf i) → (s.restart k).st = 7 → t.restart k = { s.restart k with armed := true })
        ∧ (∀ k, k ∉ s.jobSuites (s.jobOf i) ∨ (s.restart k).st ≠ 7 → t.restart k = s.restart k) ∧ t.suites = s.suites ∧ t.mem = s.mem)
    ∧ (s.suite i = none ∨ q.st ≠ 0 → TurnedAway (.swpgHalt i) s swpg 6)
    ∧ (∀ u, s.suite i = some u → q.st = 0 → exec (.swpgHalt i) s = .next (s.startJobHalt i (Page.swpg.cls * 256) s.et))
    ∧ (q.st = 0 → TurnedAway (.swpgAbort i) s swpg 6)
    ∧ (∀ u, s.suite i = some u → q.st ≠ 0 → Completes (.swpgAbort i) s fun t => t.restart i = (if q.st = 8 then { Restart.idle with from_ := q.from_ } else .idle)
        ∧ t.suite i = some (if u.sweep.st = 7 then { u with run := 4, haltNow := some u.now, sweep := .none } else u) ∧ t.mem = s.mem ∧ t.bricks = s.bricks)
    ∧ (s.et < (s.rd swpg 0x090).toNat → exec .resumeEt s = .next s)
    ∧ (∀ u, s.suite i = some u → (s.rd swpg 0x090).toNat ≤ s.et → s.rim.restarts.map Prod.fst = [i] → q.armed = true → q.st = 7 → q.from_ = 0 →
        Completes .resumeEt s fun t => t.restart i = .idle ∧ t.suite i = some { u with sweep := .none } ∧ t.rim.struck = [] ∧ t.mem = s.mem ∧ t.bricks = s.bricks)
    ∧ (∀ n, n < 2 ^ 20 → (s.yazTake n 0x20).2 = none → exec (.jobHalt n) s = .next s)
    ∧ (∀ n e t, n < 2 ^ 20 → s.yazTake n 0x20 = (t, some e) →
        (∀ k, k ∈ t.jobSuites (leOf ((e.data.drop 0).take 2)) → t.roundOf k ≠ leOf ((e.data.drop 2).take 2)) → exec (.jobHalt n) s = .next (t.yazDeliver n 300))
    ∧ (∀ n e t job round hit, n < 2 ^ 20 → s.yazTake n 0x20 = (t, some e) → job = leOf ((e.data.drop 0).take 2) → round = leOf ((e.data.drop 2).take 2) →
        hit = (t.jobSuites job).filter (fun k => t.roundOf k = round) → hit ≠ [] →
        exec (.jobHalt n) s = .next ((((hit.foldl (fun x k => (x.haltForJob (Page.swpg.cls * 256 + 5) (leOf ((e.data.drop 8).take 8)) k).wrF swpg (swpgSuite k) 31 16 (round + 1)) t).forwardHalt
          (some n) e.data).raise swpg 4 false).yazDeliver n 300))

/-- Routing tables and their versions. A legal word of the inactive version, written while it has drained, takes its value, and any other write raises
HALL_RT_REFUSED; a flip is refused before the inactive version has drained; when it takes effect the other version is active and packets not yet
injected bear it; once no packet of the old version remains HALL_EPOCH_DONE follows, and after DRAIN_US with some left HALL_DRAIN_TIMEOUT (R287, R288,
R290, R302, R303, R305). -/
def Obligations.RoutingVersions : Prop :=
  ∀ (s : State),
    (∀ room off w v x, room < 2 ^ 20 → off < 4096 → rtVersion off = some v → x = (if off < 0x200 then w &&& maskOf 7 2 else w) →
      (v ≠ s.rtActive → s.rtDrained = true → rtLegal off x = true → (off < 0x200 → s.steppedRuns room = true → x = s.rtLink s.rtActive room (off % 32 / 8)) →
        Completes (.routingTableWrite room off w) s fun t => t.rtWord room off = x
          ∧ (∀ r o, regKey (hal r) o ≠ regKey (hal room) off → t.rtWord r o = s.rtWord r o) ∧ t.rtActive = s.rtActive ∧ { t with rim := s.rim } = s)
      ∧ (v = s.rtActive ∨ s.rtDrained = false ∨ rtLegal off x = false
          ∨ (off < 0x200 ∧ s.steppedRuns room = true ∧ x ≠ s.rtLink s.rtActive room (off % 32 / 8)) →
        TurnedAway (.routingTableWrite room off w) s (hal room) 8))
    ∧ (s.rtDrained = true → Completes .flip s fun t => t.rim.flip = (1, s.et) ∧ t.rtDrained = false ∧ tst (t.rd (gp .halg) 0x080) 4 = false
        ∧ t.rtActive = s.rtActive ∧ t.pkts = s.pkts ∧ t.mem = s.mem)
    ∧ (s.rtDrained = false → TurnedAway .flip s (gp .halg) 0)
    ∧ (s.rim.flip.1 = 1 → s.rim.flip.2 + ceilDiv (25 * s.fl) 192 ≤ s.et → s.isArmed (gp .halg) 2 = false → Completes .epochFlip s fun t =>
        t.rtActive = 1 - s.rtActive ∧ t.rim.flip = (2, s.et) ∧ (∀ f, f ∈ t.pkts → f.moved = false → f.ejected = false → 4 ≤ f.port → f.pkt.epoch = 1 - s.rtActive)
        ∧ (∀ f, f ∈ s.pkts → f.moved = true → f ∈ t.pkts) ∧ t.pkts.length = s.pkts.length ∧ t.mem = s.mem ∧ t.suites = s.suites)
    ∧ (s.rim.flip.1 ≠ 1 ∨ s.et < s.rim.flip.2 + ceilDiv (25 * s.fl) 192 → exec .epochFlip s = .next s)
    ∧ (s.rim.flip.1 = 2 → (∀ f, f ∈ s.pkts → f.pkt.epoch = s.rtActive) → Completes .hallEpochDone s fun t =>
        t.rtDrained = true ∧ tst (t.rd (gp .halg) 0x028) 1 = true ∧ t.rim.flip = (0, 0) ∧ t.rim.holdEla = false ∧ t.rtActive = s.rtActive ∧ t.pkts = s.pkts ∧ t.mem = s.mem)
    ∧ (∀ f, f ∈ s.pkts → f.pkt.epoch ≠ s.rtActive → exec .hallEpochDone s = .next s)
    ∧ (∀ f, s.rim.flip.1 = 2 → s.rim.flip.2 + usToEt (max 1 (s.rdF (gp .halg) 0x080 31 16)) ≤ s.et → f ∈ s.pkts → f.pkt.epoch ≠ s.rtActive →
        tst (s.rd (gp .halg) 0x080) 4 = false → Completes .hallDrainTimeout s fun t => tst (t.rd (gp .halg) 0x080) 4 = true ∧ tst (t.rd (gp .halg) 0x028) 2 = true
          ∧ t.rim.holdEla = false ∧ t.rim.flip = s.rim.flip ∧ t.rtDrained = s.rtDrained ∧ t.pkts = s.pkts ∧ t.mem = s.mem)
    ∧ (s.et < s.rim.flip.2 + usToEt (max 1 (s.rdF (gp .halg) 0x080 31 16)) → exec .hallDrainTimeout s = .next s)

/-- Digests and the roll call. A Suite's digest reaches the root, and with it the engine digest; a roll call sends the digest to the successor; the
predecessor's is compared with it, where an equal one ends the roll call with ROLL_CALL_OK and makes a restart that waits READY, and a different one
of a Suite of one Wing raises ROLL_CALL_MISMATCH; a bisection follows the half that differs; and a predecessor that stays silent times out (R397 to
R400, R404, R405, R474). -/
def Obligations.RollCalls : Prop :=
  ∀ (s : State) (i : Nat), i < 64 → ∀ a r, a = s.rd (gp .yzlg) (rcA i) → r = s.roll i →
    (Completes (.digest i) s fun t => t.rd (gp .yzlg) (rcDigest i) = s.suiteDigest i
        ∧ t.rd (gp .yzlg) 0xA00 = crcWords 0 ((List.range 64).map fun k => if k = i then s.suiteDigest i else s.rd (gp .yzlg) (rcDigest k))
        ∧ (∀ k, k < 64 → k ≠ i → t.rd (gp .yzlg) (rcDigest k) = s.rd (gp .yzlg) (rcDigest k)) ∧ { t with regs := s.regs } = s)
    ∧ (∀ v x d, x = s.wr (gp .yzlg) (rcA i) (v &&& (maskOf 62 62 ||| maskOf 55 0)) → d = s.rd (gp .yzlg) (rcDigest i) →
        (tst v 63 = false → exec (.rollCallGo i v) s = .next x)
        ∧ (tst v 63 = true → tst v 62 = false ∨ d = s.rd (gp .yzlg) (rcA i + 8) → r.early = none →
          exec (.rollCallGo i v) s = .next ((x.setRoll i ⟨d, s.et, false, 0, 0, 0, true, false, none⟩).yazCtl (fld v 19 0) 0x02 (leTo 1 i ++ leTo 1 0 ++ leTo 8 d.toNat))))
    ∧ (fld a 55 40 ≠ 0 → r.sentAt + usToEt (1000 * fld a 55 40) ≤ s.et → exec (.rollCallPeriod i) s = .next (s.rollStart i))
    ∧ (fld a 55 40 = 0 ∨ s.et < r.sentAt + usToEt (1000 * fld a 55 40) → exec (.rollCallPeriod i) s = .next s)
    ∧ (∀ d, s.isArmed (gp .yzlg) 3 = false →
        (d = r.digest → ∀ t, t = s.rollCompare i d → tst (t.rd (gp .yzlg) 0x028) 5 = true ∧ (t.roll i).active = false ∧ (t.roll i).got = true
          ∧ ((s.restart i).st = 6 → (t.restart i).st = 7) ∧ t.mem = s.mem ∧ t.suites = s.suites)
        ∧ (∀ u, d ≠ r.digest → s.suite i = some u → u.wings.length = 1 → ∀ t, t = s.rollCompare i d → tst (t.rd (gp .yzlg) 0x028) 3 = true
          ∧ (t.roll i).active = false ∧ t.restart i = s.restart i ∧ t.mem = s.mem ∧ t.suites = s.suites))
    ∧ (∀ n e t d, n < 2 ^ 20 → s.yazTake n 0x02 = (t, some e) → leOf (e.data.take 1) = i → d = w64 (leOf ((e.data.drop 2).take 8)) →
        (t.rdF (gp .yzlg) (rcA i) 39 20 = n → (t.roll i).active = true → (t.roll i).got = false → exec (.rollCall n) s = .next ((t.rollCompare i d).yazDeliver n 300))
        ∧ (t.rdF (gp .yzlg) (rcA i) 39 20 = n → (t.roll i).active = false ∨ (t.roll i).got = true →
            exec (.rollCall n) s = .next ((t.setRoll i { t.roll i with early := some d }).yazDeliver n 300))
        ∧ (t.rdF (gp .yzlg) (rcA i) 39 20 ≠ n → exec (.rollCall n) s = .next (t.yazDeliver n 300)))
    ∧ (∀ n e t u lo hi q d m, n < 2 ^ 20 → s.yazTake n 0x03 = (t, some e) → leOf ((e.data.drop 0).take 1) = i → q = leOf ((e.data.drop 1).take 1) →
        lo = leOf ((e.data.drop 2).take 1) → hi = leOf ((e.data.drop 3).take 1) → d = w64 (leOf ((e.data.drop 4).take 8)) → t.suite i = some u → m = t.roll i →
        (t.rdF (gp .yzlg) (rcA i) 39 20 = n → m.split = true → m.round = q → m.lo = lo → (m.lo + m.hi) / 2 = hi →
          exec (.rollSplit n) s = .next ((if d ≠ t.rangeDigest u lo hi then t.rollSplit i lo hi (q + 1) else t.rollSplit i hi m.hi (q + 1)).yazDeliver n 300))
        ∧ (t.rdF (gp .yzlg) (rcA i) 39 20 ≠ n ∨ m.split = false → t.rdF (gp .yzlg) (rcA i) 19 0 = n →
          exec (.rollSplit n) s = .next ((t.yazCtl n 0x03 (splitBytes i q lo hi (t.rangeDigest u lo hi))).yazDeliver n 300)))
    ∧ (r.active = true → r.got = false → r.sentAt + usToEt s.streamUs ≤ s.et → Completes (.rollCallTimeout i) s fun t =>
        tst (t.rd (gp .yzlg) 0x028) 4 = true ∧ (t.roll i).active = false ∧ t.restart i = s.restart i ∧ t.mem = s.mem ∧ t.suites = s.suites)
    ∧ (r.active = false ∨ r.got = true ∨ s.et < r.sentAt + usToEt s.streamUs → exec (.rollCallTimeout i) s = .next s)

/-- The Dumbwaiter's queues. Q_CFG is written while its queue is disabled and empty, and Q_TAIL moves on where the ring does not overfill, and
otherwise the write is refused; the next outstanding descriptor starts when its predecessor has issued its last request, its words read from its place
in the ring; one that is bad ends BAD_DESC with no data moved, one whose ring line is uncorrectable ECC_UE, and any other makes its reads and goes on
(R216, R218 to R224, R233, R234). A descriptor completes once its data has moved and every reply has come: STATUS and DETAIL go into its place in the
ring, Q_HEAD moves past it, the queue's count of completed descriptors rises, and one that failed raises DWT_DESC_FAIL with its status, queue and
index; one still at work stays (R218, R221 to R225, R234). -/
def Obligations.Descriptors : Prop :=
  (∀ (s : State) (room q : Nat), q < 8 →
      (∀ v n h tl, s.dark room = false → n = s.dwSize room q → h = s.dwHead room q → tl = s.dwTail room q →
        (fld v 11 0 < n → (tl + n - h % n) % n + (fld v 11 0 + n - tl % n) % n ≤ n - 1 →
          exec (.dwtQTailWrite room q v) s = .next (s.wr (rp .dwt room) (0x110 + 32 * q) (put 11 0 (fld v 11 0))))
        ∧ (n ≤ fld v 11 0 ∨ n - 1 < (tl + n - h % n) % n + (fld v 11 0 + n - tl % n) % n → TurnedAway (.dwtQTailWrite room q v) s (rp .dwt room) 1)
        ∧ (s.dwRuns room q = false → h = tl → exec (.dwtQCfgWrite room q v) s
            = .next (s.wr (rp .dwt room) (0x100 + 32 * q) (put 63 63 (fld v 63 63) ||| put 27 24 (fld v 27 24) ||| put 21 6 (fld v 21 6))))
        ∧ (s.dwRuns room q = true ∨ h ≠ tl → TurnedAway (.dwtQCfgWrite room q v) s (rp .dwt room) 2))
      ∧ (∀ v, s.dark room = true → exec (.dwtQTailWrite room q v) s = .next s ∧ exec (.dwtQCfgWrite room q v) s = .next s)
      ∧ (∀ (c : Nat → Nat → Instr) op, (c, op) ∈ [((fun a b => .dwtCopy a b : Nat → Nat → Instr), 1), (fun a b => .dwtTranspose a b, 2), (fun a b => .tileStore a b, 3), (fun a b => .tileLoad a b, 4),
            (fun a b => .tileWrap a b, 5), (fun a b => .dwtFill a b, 6), (fun a b => .dwtCheck a b, 7)] →
          (s.dwNext room q = none → exec (c room q) s = .next s)
          ∧ (∀ idx w0 t b, s.dwNext room q = some (idx, w0) → (t, b, false) = s.shelfLd room (s.dwOff room q idx) 64 (dwWho q) → s.dwMayStart room q [] = true →
            exec (c room q) s = .next (t.setDwList room q (t.dwList room q ++ [⟨idx, [], 7, 0, 0, 0, 2, [], [], none, false⟩])))
          ∧ ∀ idx w0 t b ws, s.dwNext room q = some (idx, w0) → (t, b, true) = s.shelfLd room (s.dwOff room q idx) 64 (dwWho q) → ws = wordsOf 8 b →
            (dwOp ws ≠ op ∨ s.dwMayStart room q ws = false → exec (c room q) s = .next s)
            ∧ (dwOp ws = op → s.dwMayStart room q ws = true → t.isArmed (rp .dwt room) 0 = false →
              (dwBad room ws (t.dwSched room ws) = true → idx ∉ (t.dwList room q).map DwDesc.idx →
                exec (c room q) s = .next (t.setDwList room q (t.dwList room q ++ [⟨idx, ws, 2, 0, 0, 0, 2, [], [], none, false⟩])))
              ∧ (dwBad room ws (t.dwSched room ws) = false → op ≠ 3 →
                exec (c room q) s = .next (((t.setDwList room q (t.dwList room q ++ [⟨idx, ws, 1, 0, 0, 0, if op = 4 then 0 else 1, dwSegs room ws, [], none, false⟩])).dwReads
                  room q idx 0 (dwSegs room ws)).dwGo room q idx))
              ∧ (∀ f, dwBad room ws (t.dwSched room ws) = false → op = 3 → dwElem ws = some f →
                exec (c room q) s = .next (if sparseModeOk (dwArgs ws / 64) (dwArgs ws % 8) f
                  then ((t.setDwList room q (t.dwList room q ++ [⟨idx, ws, 1, 0, 0, 0, 1, dwSegs room ws, [], none, false⟩])).dwReads room q idx 0 (dwSegs room ws)).dwGo room q idx
                  else (t.setDwList room q (t.dwList room q ++ [⟨idx, ws, 3, 0, 0, 0, 2, [], [], none, false⟩])).dwGo room q idx)))))
  ∧
  (∀ (s : State) (room q : Nat) (d : DwDesc) (rest : List DwDesc), q < 8 → s.dwList room q = d :: rest →
      (d.phase ≠ 2 ∨ d.waits ≠ 0 ∨ s.dark room = true → ∀ g, exec (.descriptorComplete room q g) s = .next s)
      ∧ (∀ x, d.phase = 2 → d.waits = 0 → s.dark room = false → d.chkBad = false → tst (d.words.getD 0 0) 35 = false → s.isArmed (rp .cvu room) 4 = false →
          s.isArmed (rp .cvu room) 5 = false → s.isArmed (rp .dwt room) 0 = false → fld (d.words.getD 7 0) 63 62 = 0 → (∀ i a rd, (s.room room).hearth.block ≠ .dwWait q i a rd) →
          x = s.shelfStW room (s.dwOff room q d.idx) (dwWho q) (setFld (setFld (d.words.getD 0 0) 15 8 d.detail) 7 0 d.status) →
          (x.room room).hearth.block = (s.room room).hearth.block → x.dwSize room q = s.dwSize room q →
          Completes (.descriptorComplete room q false) s fun t =>
            t.dwList room q = rest ∧ t.dwHead room q = (d.idx + 1) % s.dwSize room q % 4096
            ∧ t.rd (rp .dwt room) (0x118 + 32 * q) = x.rd (rp .dwt room) (0x118 + 32 * q) + 1 ∧ t.mem = x.mem ∧ t.bricks = x.bricks
            ∧ (d.status ≠ 1 → tst (t.rd (rp .dwt room) 0x028) 0 = true)
            ∧ (d.status ≠ 1 → tst (x.rd (rp .dwt room) 0x088) 31 = false →
                t.rd (rp .dwt room) 0x088 = setBit (put 63 56 d.status ||| put 55 53 q ||| put 52 41 d.idx) 31)))

/-- The Hearth executes. An integer instruction retires with its result, a jump or a taken branch at its target, a CSR instruction with the old value,
MRET at mepc in the mode it restores, WFI and a FENCE whose writes are acknowledged by going on; a Hearth that cannot execute, or has no instruction
of the kind a command is about, does nothing (R235, R239 to R241; the meaning of each operation is the ratified RISC-V specification's, assumption
log). A Hearth that is halted, blocked, dark or in HOLD executes nothing, whichever command asks it to, and each command about one kind of instruction
leaves the Hearth alone where another kind is at the pc (R240, R465). -/
def Obligations.HearthRuns : Prop :=
  (∀ (s f : State) (room : Nat) (op : Rv) (bits len : Nat), HearthAt s f room op bits len → ∀ h pc next, h = f.hearth room → pc = h.pc → next = pc + BitVec.ofNat 64 len →
      (∀ rd i, op = .lui rd i → RunsTo s f room rd i next) ∧ (∀ rd i, op = .auipc rd i → RunsTo s f room rd (pc + i) next)
      ∧ (∀ rd off, op = .jal rd off → RunsTo s f room rd next (pc + off)) ∧ (∀ rd a off, op = .jalr rd a off → RunsTo s f room rd next (clrBit (h.reg a + off) 0))
      ∧ (∀ f3 a b off, op = .branch f3 a b off → (rvTaken f3 (h.reg a) (h.reg b) = true → RunsTo s f room 0 0 (pc + off)) ∧ (rvTaken f3 (h.reg a) (h.reg b) = false → RunsTo s f room 0 0 next))
      ∧ (∀ f3 rd a alt i, op = .opImm f3 rd a alt i → RunsTo s f room rd (rvAlu f3 alt (h.reg a) i) next) ∧ (∀ f3 rd a alt i, op = .opImmW f3 rd a alt i → RunsTo s f room rd (rvAluW f3 alt (h.reg a) i) next)
      ∧ (∀ f3 rd a b alt, op = .op f3 rd a b alt → RunsTo s f room rd (rvAlu f3 alt (h.reg a) (h.reg b)) next)
      ∧ (∀ f3 rd a b alt, op = .opW f3 rd a b alt → RunsTo s f room rd (rvAluW f3 alt (h.reg a) (h.reg b)) next)
      ∧ (∀ f3 rd a b, op = .mulDiv f3 rd a b → RunsTo s f room rd (rvMul f3 (h.reg a) (h.reg b)) next) ∧ (∀ f3 rd a b, op = .mulDivW f3 rd a b → RunsTo s f room rd (rvMulW f3 (h.reg a) (h.reg b)) next)
      ∧ (∀ p q, op = .fence p q → p % 2 = 0 ∨ f.hearthWrites room = false → RunsTo s f room 0 0 (pc + 4) ∧ Completes (.hearthFence room) s fun t => Retired f t room 0 0 (pc + 4))
      ∧ (∀ p q, op = .fence p q → p % 2 = 1 → f.hearthWrites room = true → exec (.hearthFence room) s = .next f)
      ∧ (op = .wfi → h.machine = true → f.hearthMip room &&& h.getCsr 0x304 ≠ 0 → RunsTo s f room 0 0 (pc + 4))
      ∧ (op = .wfi → h.machine = true → f.hearthMip room &&& h.getCsr 0x304 = 0 → Completes (.hearthInstruction room false) s fun t =>
          t.hearth room = { h with block := .wfi } ∧ (∀ r, r ≠ room → t.room r = f.room r) ∧ { t with rooms := f.rooms } = f)
      ∧ (op = .mret → h.machine = true → Completes (.hearthInstruction room false) s fun t => (t.hearth room).pc = h.getCsr 0x341
          ∧ (t.hearth room).machine = decide (fld (h.getCsr 0x300) 12 11 = 3) ∧ fld ((t.hearth room).getCsr 0x300) 3 3 = fld (h.getCsr 0x300) 7 7
          ∧ fld ((t.hearth room).getCsr 0x300) 7 7 = 1 ∧ fld ((t.hearth room).getCsr 0x300) 12 11 = 0 ∧ (t.hearth room).x = h.x ∧ { t with rooms := f.rooms } = f)
      ∧ (∀ f3 rd a n, op = .csr f3 rd a n → h.machine = true → csrExists n = true → n ≠ 0x7C3 → f3 % 4 ≠ 1 → a = 0 → RunsTo s f room rd (f.csrVal room n) (pc + 4))
      ∧ (∀ f3 rd a n, op = .csr f3 rd a n → h.machine = true → n = 0x340 → f3 % 4 = 1 → f3 < 4 → Completes (.hearthInstruction room false) s fun t =>
          (t.hearth room).getCsr 0x340 = h.reg a ∧ (t.hearth room).reg rd = (if rd % 32 = 0 then 0 else h.getCsr 0x340) ∧ (t.hearth room).pc = pc + 4 ∧ { t with rooms := f.rooms } = f)
      ∧ (op.isX = true → exec (.hearthInstruction room false) s = .next s))
  ∧
  (∀ (s : State) (room : Nat),
      (s.hearthCan room = false → ∀ c, c ∈ [Instr.hearthInstruction room false, .hearthInstruction room true, .hearthLoad room, .hearthStore room, .hearthAmo room, .hearthSc room,
          .hearthFence room, .fenceI room, .csExec room, .chSend room, .chNext room, .chDone room, .chOpen room, .chClose room, .ltSig room, .ltWait room, .dwPush room, .dwWait room, .stoke room] →
        exec c s = .next s)
      ∧ (∀ f op bits len, HearthAt s f room op bits len →
        ((∀ a b c d, op ≠ .load a b c d) → exec (.hearthLoad room) s = .next s) ∧ ((∀ a b c d, op ≠ .store a b c d) → exec (.hearthStore room) s = .next s)
        ∧ ((∀ a b c d e, op ≠ .amo a b c d e) → exec (.hearthAmo room) s = .next s)
        ∧ ((∀ a b c d, op ≠ .sc a b c d) → (∀ a b c, op ≠ .lr a b c) → exec (.hearthSc room) s = .next s)
        ∧ ((∀ a b, op ≠ .fence a b) → exec (.hearthFence room) s = .next s) ∧ (op ≠ .fenceI → exec (.fenceI room) s = .next s)))

/-- Every exception of a Hearth enters Machine mode at the handler with mepc, mcause, mtval and mstatus written and HRT_EXCEPTION raised: a call, a
breakpoint, an illegal instruction, a CSR that User mode may not touch, does not exist or is not writable, an unaligned or refused access, and a fetch
that fails (R235 to R238, R241, R264; the causes are the ratified RISC-V specification's, assumption log). An interrupt is taken where its bits of mip
and mie are both set and interrupts are enabled, in the vectored mode at its own address; it wakes a Hearth that waits in WFI whether or not it is
taken, and one that is not pending and enabled changes nothing (R241, R243). A parity error of what an instruction reads halts the Hearth before the
instruction retires: nothing of it is written, CHK_HEARTH is noted and the Suite is asked to halt (R416); HEARTH_START begins at HRT_BOOT in Machine
mode with the integer registers zero, HEARTH_HALT stops it at an instruction boundary, and neither does anything in a Room that is dark (R240). -/
def Obligations.HearthTrapsAndStops : Prop :=
  ((∀ (s f : State) (room : Nat) (op : Rv) (bits len : Nat), HearthAt s f room op bits len → ∀ h c, h = f.hearth room → c = Instr.hearthInstruction room false →
      (op = .ecall → TrapsTo c s f room (if h.machine then 11 else 8) 0) ∧ (op = .ebreak → TrapsTo c s f room 3 h.pc) ∧ (op = .illegal → TrapsTo c s f room 2 (BitVec.ofNat 64 bits))
      ∧ (op = .mret → h.machine = false → TrapsTo c s f room 2 (BitVec.ofNat 64 bits))
      ∧ (op = .wfi → h.machine = false → tst (h.getCsr 0x300) 21 = true → TrapsTo c s f room 2 (BitVec.ofNat 64 bits))
      ∧ (∀ f3 rd a n, op = .csr f3 rd a n → h.machine = false ∨ csrExists n = false ∨ ((f3 % 4 = 1 ∨ a ≠ 0) ∧ csrWritable n = false) → TrapsTo c s f room 2 (BitVec.ofNat 64 bits))
      ∧ (∀ f3 rd a off, op = .load f3 rd a off → (h.reg a + off).toNat % rvBytes f3 ≠ 0 →
          TrapsTo c s f room 4 (h.reg a + off) ∧ TrapsTo (.hearthLoad room) s f room 4 (h.reg a + off))
      ∧ (∀ f3 rd a off, op = .load f3 rd a off → (h.reg a + off).toNat % rvBytes f3 = 0 → h.pmpOk h.dataMode (h.reg a + off).toNat (rvBytes f3) 0 = false →
          TrapsTo c s f room 5 (h.reg a + off) ∧ TrapsTo (.hearthLoad room) s f room 5 (h.reg a + off))
      ∧ (∀ f3 a b off, op = .store f3 a b off → (h.reg a + off).toNat % rvBytes f3 ≠ 0 →
          TrapsTo c s f room 6 (h.reg a + off) ∧ TrapsTo (.hearthStore room) s f room 6 (h.reg a + off))
      ∧ (∀ f3 a b off, op = .store f3 a b off → (h.reg a + off).toNat % rvBytes f3 = 0 → h.pmpOk h.dataMode (h.reg a + off).toNat (rvBytes f3) 1 = false →
          TrapsTo c s f room 7 (h.reg a + off) ∧ TrapsTo (.hearthStore room) s f room 7 (h.reg a + off))
      ∧ (∀ f5 rd a b d, op = .amo f5 rd a b d → (h.reg a).toNat % (if d then 8 else 4) ≠ 0 → TrapsTo (.hearthAmo room) s f room 6 (h.reg a))
      ∧ (∀ rd a b d, op = .sc rd a b d → (h.reg a).toNat % (if d then 8 else 4) ≠ 0 → TrapsTo (.hearthSc room) s f room 6 (h.reg a)))
    ∧ (∀ (s f : State) (room cause addr : Nat), s.hearthCan room = true → s.fetch room = (f, .trap cause addr) →
      TrapsTo (.hearthInstruction room false) s f room cause (BitVec.ofNat 64 addr)))
  ∧
  (∀ (s : State) (room cause : Nat) (h : Hearth), h = s.hearth room →
      (tst (s.hearthMip room &&& h.getCsr 0x304) cause = false → exec (.hearthInterrupt room cause) s = .next s)
      ∧ (tst (s.hearthMip room &&& h.getCsr 0x304) cause = true →
        (s.hearthCan room = true → (h.machine = false ∨ tst (h.getCsr 0x300) 3 = true → Completes (.hearthInterrupt room cause) s fun t => Trapped s t room true cause 0)
          ∧ (h.machine = true → tst (h.getCsr 0x300) 3 = false → exec (.hearthInterrupt room cause) s = .next s))
        ∧ (h.run = true → h.block = .wfi → s.dark room = false → (∀ u, (s.suiteOf room).bind s.suite = some u → u.holding = false) →
          (h.machine = true → tst (h.getCsr 0x300) 3 = false → Completes (.hearthInterrupt room cause) s fun t => Retired s t room 0 0 (h.pc + 4))
          ∧ (h.machine = false ∨ tst (h.getCsr 0x300) 3 = true → Completes (.hearthInterrupt room cause) s fun t =>
              (t.hearth room).machine = true ∧ (t.hearth room).getCsr 0x341 = h.pc + 4 ∧ (t.hearth room).getCsr 0x342 = put 63 63 1 ||| put 62 0 cause ∧ (t.hearth room).x = h.x))))
  ∧
  ((∀ (s f : State) (room : Nat) (op : Rv) (bits len : Nat), HearthAt s f room op bits len → op.isX = false → Completes (.hearthInstruction room true) s fun t =>
        t.hearth room = { f.hearth room with run := false } ∧ t.mem = f.mem ∧ t.bricks = f.bricks ∧ tst (t.rd (rp .cvu room) 0x028) 6 = true)
    ∧ (∀ (s : State) (room : Nat) (xu : Bool), s.dark room = true → exec (.hearthStart room xu) s = .next s ∧ exec (.hearthHalt room xu) s = .next s)
    ∧ (∀ (s : State) (room : Nat) (xu : Bool), s.dark room = false → tst (s.rd (hrt room) 0x080) 0 = false → Completes (.hearthStart room xu) s fun t =>
        t.hearth room = { s.hearth room with x := [], pc := BitVec.ofNat 64 (shelfEA room (s.rdF (hrt room) 0x088 21 2 * 4)), machine := true, resv := none, run := true, block := .no }
        ∧ tst (t.rd (hrt room) 0x080) 0 = true ∧ tst (t.rd (hrt room) 0x080) 1 = xu ∧ t.mem = s.mem)
    ∧ (∀ (s : State) (room : Nat) (xu : Bool), s.dark room = false → tst (s.rd (hrt room) 0x080) 0 = true → Completes (.hearthHalt room xu) s fun t =>
        (t.hearth room).run = false ∧ (t.hearth room).pc = (s.hearth room).pc ∧ (t.hearth room).x = (s.hearth room).x ∧ (t.hearth room).csr = (s.hearth room).csr
        ∧ tst (t.rd (hrt room) 0x080) 0 = false ∧ t.mem = s.mem))

/-- The Hearth's memory. A load of its own Shelf retires with the bytes, extended as its kind says; a store writes its bytes and no other byte; an AMO
does both; LR reserves, and SC stores where the reservation holds and fails anywhere else, ending it either way; an access of another place is a
request to it, posted for a store and awaited for a load; an address of nothing reads as zero and is noted; FENCE.I empties the instruction buffer
(R236 to R239). -/
def Obligations.HearthMemory : Prop :=
  ∀ (s f : State) (room : Nat) (op : Rv) (bits len : Nat), HearthAt s f room op bits len → ∀ h next, h = f.hearth room → next = h.pc + BitVec.ofNat 64 len →
    (∀ f3 rd r off a n, op = .load f3 rd r off → a = (h.reg r + off).toNat → n = rvBytes f3 → a % n = 0 → h.pmpOk h.dataMode a n 0 = true → a < 2 ^ 48 →
      (NearAt f room a n → Completes (.hearthLoad room) s (fun t => Retired f t room rd (rvExt n (decide (f3 < 4)) (leOf (f.ldBytes (shelfEA room (a % 0x400000)) n))) next))
      ∧ (ownShelf room a = false → f.targetOf room a = none → Completes (.hearthLoad room) s fun t => Retired (f.noteShelfUnmapped room 0 0x40) t room rd 0 next)
      ∧ (∀ dst g, ownShelf room a = false → f.targetOf room a = some dst →
          g = f.request room (mkRead dst (eidRoom room 4) (f.suiteId room) (a / 8 * 8) 8) (.hearthLoad room rd n (decide (f3 < 4)) a len) →
          Completes (.hearthLoad room) s fun t => t.hearth room = { g.hearth room with block := .reply } ∧ (∀ q, q ≠ room → t.room q = g.room q) ∧ { t with rooms := g.rooms } = g))
    ∧ (∀ f3 r q off a n data, op = .store f3 r q off → a = (h.reg r + off).toNat → n = rvBytes f3 → data = leTo n (h.reg q).toNat → a % n = 0 →
      h.pmpOk h.dataMode a n 1 = true → a < 2 ^ 48 →
      (NearAt f room a n → Completes (.hearthStore room) s fun t => Stored f t room (a % 0x400000) data ∧ (t.hearth room).pc = next ∧ (t.hearth room).x = h.x)
      ∧ (∀ dst, ownShelf room a = false → f.targetOf room a = some dst →
          Completes (.hearthStore room) s fun t => Retired (f.request room (mkWrite dst (eidRoom room 4) (f.suiteId room) a data) (.hearthStore room)) t room 0 0 next))
    ∧ (∀ f5 rd r q d a n old, op = .amo f5 rd r q d → a = (h.reg r).toNat → n = (if d then 8 else 4) → old = leOf (f.ldBytes (shelfEA room (a % 0x400000)) n) → a % n = 0 →
      h.pmpOk h.dataMode a n 0 = true → h.pmpOk h.dataMode a n 1 = true → a < 2 ^ 48 → NearAt f room a n → Completes (.hearthAmo room) s fun t =>
        Stored f t room (a % 0x400000) (leTo n (amoResult f5 n old (h.reg q).toNat)) ∧ (t.hearth room).pc = h.pc + 4
        ∧ (t.hearth room).reg rd = if rd % 32 = 0 then 0 else rvExt n true old)
    ∧ (∀ rd r q d a n, op = .sc rd r q d → a = (h.reg r).toNat → n = (if d then 8 else 4) → a % n = 0 → h.pmpOk h.dataMode a n 1 = true → a < 2 ^ 48 →
      (NearAt f room a n → h.resv = some (a % 0x400000, n) → Completes (.hearthSc room) s fun t => Stored f t room (a % 0x400000) (leTo n (h.reg q).toNat)
        ∧ (t.hearth room).pc = h.pc + 4 ∧ (t.hearth room).reg rd = 0 ∧ (t.hearth room).resv = none)
      ∧ (ownShelf room a = false ∨ h.resv ≠ some (a % 0x400000, n) → Completes (.hearthSc room) s fun t => t.mem = f.mem
        ∧ (t.hearth room).pc = h.pc + 4 ∧ ((t.hearth room).reg rd = if rd % 32 = 0 then 0 else 1) ∧ (t.hearth room).resv = none))
    ∧ (∀ rd r d a n g, op = .lr rd r d → g = (f.modHearth room fun h => { h with resv := none }) → a = (h.reg r).toNat → n = (if d then 8 else 4) → a % n = 0 → h.pmpOk h.dataMode a n 0 = true → a < 2 ^ 48 →
      NearAt g room a n → Completes (.hearthSc room) s fun t => (t.hearth room).resv = some (a % 0x400000, n) ∧ (t.hearth room).pc = h.pc + BitVec.ofNat 64 4 ∧ t.mem = f.mem
        ∧ (t.hearth room).reg rd = if rd % 32 = 0 then 0 else rvExt n true (leOf (f.ldBytes (shelfEA room (a % 0x400000)) n)))
    ∧ (op = .fenceI → Completes (.fenceI room) s fun t => (t.hearth room).ibuf = [] ∧ (t.hearth room).pc = h.pc + 4 ∧ (t.hearth room).x = h.x ∧ { t with rooms := f.rooms } = f)

/-- Xhearth. An Xhearth instruction in User mode without XU is illegal, and so is one of the command stream on a Hearth whose Suite's stream is not
its to perform; otherwise it retires with its value after its effect, or waits: for a completion after CS.EXEC, for an arrival after LT.WAIT, for a
descriptor after DW.WAIT (R242, R243, R252 to R255, R258, R324, R325). What the channel instructions do to a Room's channels. CH.SEND answers 4 for a
payload it cannot read or channel 63, 3 for one too long, 2 for a channel that is not OPEN and 1 for too few credits, and changes nothing; one that is
sent takes its credits and the next sequence number. CH.OPEN opens a receive ring empty with a new EPOCH, or asks its receiver to; CH.CLOSE closes
either; CH.DONE takes the head record's units; a DW.WAIT whose time is over returns 0xFF (R242, R251 to R253). -/
def Obligations.XhearthAndChannels : Prop :=
  (∀ (s f : State) (room f3 f7 rd r q bits len : Nat), HearthAt s f room (.x f3 f7 rd r q) bits len → ∀ h a b, h = f.hearth room → a = h.reg r → b = h.reg q →
      (f.xOk room = false → ∀ c, (f3, f7, c) ∈ [(0, 0, Instr.csFetch room [] false []), (0, 1, .csExec room), (1, 0, .chSend room), (1, 1, .chNext room), (1, 2, .chDone room),
          (1, 3, .chOpen room), (1, 4, .chClose room), (2, 0, .ltSig room), (2, 1, .ltWait room), (3, 0, .dwPush room), (3, 1, .dwWait room), (4, 0, .spPut room false), (4, 1, .stoke room)] →
        TrapsTo c s f room 2 (BitVec.ofNat 64 bits))
      ∧ (f.xOk room = true →
        (f3 = 0 → s.csMine room = none → (f7 = 0 → ∀ d e l, TrapsTo (.csFetch room d e l) s f room 2 (BitVec.ofNat 64 bits)) ∧ (f7 = 1 → TrapsTo (.csExec room) s f room 2 (BitVec.ofNat 64 bits)))
        ∧ (∀ u v d e l, f3 = 0 → f7 = 0 → s.csMine room = some u → f.csMine room = some v →
            (f.rdF (hrt room) 0x0B0 15 0 = f.rdF (hrt room) 0x0B8 15 0 ∨ f.rdF (hrt room) 0x0C0 17 16 = 3 ∨ tst (f.rd (hrt room) 0x0A0) 63 = false →
              RetiresAfter (.csFetch room d e l) s f room rd minusOne)
            ∧ (f.rdF (hrt room) 0x0B0 15 0 ≠ f.rdF (hrt room) 0x0B8 15 0 → f.rdF (hrt room) 0x0C0 17 16 ≠ 3 → tst (f.rd (hrt room) 0x0A0) 63 = true → csSizeOk (f.rd (hrt room) 0x0A0) = true →
              (∀ g, f.csRead v (f.suiteId room) d e l = (g, none) → RetiresAfter (.csFetch room d e l) s (g.drawWord.1.csFail (f.suiteId room) 0x03) room rd g.drawWord.2)
              ∧ (∀ g ws w n, f.csRead v (f.suiteId room) d e l = (g, some ws) → w = g.shelfStWs room a.toNat 0x40 ws →
                  n = (w.rdF (hrt room) 0x0B0 15 0 + 1) % 2 ^ fld (f.rd (hrt room) 0x0A0) 4 0 →
                  RetiresAfter (.csFetch room d e l) s ((w.wr (hrt room) 0x0B0 (BitVec.ofNat 64 n)).modSuite (f.suiteId room) fun u => { u with fetched := n }) room rd
                    (BitVec.ofNat 64 (fld (ws.getD 0 0) 63 56)))))
        ∧ (∀ u v, f3 = 0 → f7 = 1 → s.csMine room = some u → f.csMine room = some v →
            (f.rdF (hrt room) 0x0C0 17 16 = 3 → RetiresAfter (.csExec room) s f room rd (BitVec.ofNat 64 (f.rdF (hrt room) 0x0C0 15 8)))
            ∧ (∀ g ws, f.rdF (hrt room) 0x0C0 17 16 ≠ 3 → f.shelfLdWs room a.toNat 0x40 8 = (g, ws) → BlocksAfter (.csExec room) s
                (((g.modSuite (f.suiteId room) fun u => { u with entries := u.entries ++ [⟨ws, 0, 0, some rd⟩] }).csShow (f.suiteId room)).dmpCount room 7 1) room (.exec rd)))
        ∧ (∀ g st, f3 = 1 → f7 = 0 → f.chSend room a b = (g, st) → RetiresAfter (.chSend room) s g room rd (BitVec.ofNat 64 st))
        ∧ (∀ g, f3 = 1 → f7 = 1 → f.chNext room a (List.range 64) = (g, none) →
            RetiresAfter (.chNext room) s (g.modHearth room fun h => h.setCsr 0x7C1 64) room rd 0)
        ∧ (∀ g k o w v, f3 = 1 → f7 = 1 → f.chNext room a (List.range 64) = (g, some (k, o)) →
            (g.modHearth room fun h => (h.setCsr 0x7C1 (BitVec.ofNat 64 k)).setCsr 0x7C0 (BitVec.ofNat 64 o)).handlerOf room o = (w, v) → RetiresAfter (.chNext room) s w room rd v)
        ∧ (f3 = 1 → f7 = 2 → RetiresAfter (.chDone room) s (if a.toNat < 64 then f.chDone room a.toNat else f) room 0 0)
        ∧ (∀ g st, f3 = 1 → f7 = 3 → f.chOpen room a = (g, st) → RetiresAfter (.chOpen room) s g room rd (BitVec.ofNat 64 st))
        ∧ (f3 = 1 → f7 = 4 → RetiresAfter (.chClose room) s (f.chClose room a) room 0 0)
        ∧ (f3 = 2 → f7 = 0 → (tst a 8 = true → RetiresAfter (.ltSig room) s (f.gArriveRoom (fld a 7 0) room) room 0 0)
            ∧ (tst a 8 = false → latchOwn room a = true → RetiresAfter (.ltSig room) s (f.latchArrive room (fld a 5 0) 64 false false room) room 0 0)
            ∧ (tst a 8 = false → latchOwn room a = false → RetiresAfter (.ltSig room) s (f.request room (mkWrite (eidRoom (fld a 45 32) 0) (eidRoom room 4) (f.suiteId room)
                (pageAddr (fld a 45 32) 7 0x0A8) (leTo 8 (fld a 5 0 + 256 * fld a 30 24))) (.hearthStore room)) room 0 0))
        ∧ (∀ g, f3 = 2 → f7 = 1 → tst a 8 = false → latchOwn room a = true →
            (∀ o, f.latchWait room (fld a 5 0) (.hearth room rd) (some 64) (fld b 23 0) (decide (fld b 23 0 = 0)) = (g, some o) → RetiresAfter (.ltWait room) s g room rd (BitVec.ofNat 64 o))
            ∧ (f.latchWait room (fld a 5 0) (.hearth room rd) (some 64) (fld b 23 0) (decide (fld b 23 0 = 0)) = (g, none) → BlocksAfter (.ltWait room) s (g.dmpCount room 7 1) room .latch))
        ∧ (f3 = 3 → f7 = 0 → (f.dwTailWrite room (fld a 2 0) ((f.dwTail room (fld a 2 0) + 1) % f.dwSize room (fld a 2 0))).2 = false →
            RetiresAfter (.dwPush room) s f room rd minusOne)
        ∧ (∀ d g j, f3 = 3 → f7 = 0 → j = fld a 2 0 → (f.dwTailWrite room j ((f.dwTail room j + 1) % f.dwSize room j)).2 = true → 2 ≤ f.dwSize room j →
            f.shelfLdWs room b.toNat 0x40 8 = (g, d) →
            RetiresAfter (.dwPush room) s ((g.shelfStWs room (f.dwOff room j (f.dwTail room j)) 0x40 d).dwTailWrite room j ((f.dwTail room j + 1) % f.dwSize room j)).1 room rd
              (BitVec.ofNat 64 (f.dwTail room j)))
        ∧ (f3 = 3 → f7 = 1 → (f.dwOutstanding room (fld a 2 0) (fld b 11 0) = true →
              BlocksAfter (.dwWait room) s (f.dmpCount room 7 1) room (.dwWait (fld a 2 0) (fld b 11 0) (f.expiry (fld b 55 32)) rd))
            ∧ (f.dwOutstanding room (fld a 2 0) (fld b 11 0) = false → f.dwRuns room (fld a 2 0) = false → RetiresAfter (.dwWait room) s f room rd 0xFE)
            ∧ (∀ g v, f.dwOutstanding room (fld a 2 0) (fld b 11 0) = false → f.dwRuns room (fld a 2 0) = true →
                f.shelfLdW room (f.dwOff room (fld a 2 0) (fld b 11 0)) 0x40 = (g, v) → RetiresAfter (.dwWait room) s g room rd (BitVec.ofNat 64 (fld v 7 0))))
        ∧ (∀ bad g st, f3 = 4 → f7 = 0 → f.spPut room a b bad = (g, st) → RetiresAfter (.spPut room bad) s g room rd (BitVec.ofNat 64 st))
        ∧ (f3 = 4 → f7 = 1 → RetiresAfter (.stoke room) s (f.takeStoke (f.suiteId room) (fld a 23 8) (fld a 7 0)) room 0 0)))
  ∧
  (∀ (s : State) (room : Nat),
      (∀ x y c len p a b n charge, c = fld x 5 0 → len = fld x 41 32 → p = chn room → a = s.rd p (txA c) → b = s.rd p (txB c) → n = recUnits len →
        charge = n + (placeRec (ringUnits (fld a 57 55)) (fld b 31 16) n).2.1 →
        (c = 63 ∨ y.toNat % 8 ≠ 0 ∨ 0x300000 < y.toNat + len → s.chSend room x y = (s, 4))
        ∧ (c ≠ 63 → y.toNat % 8 = 0 → y.toNat + len ≤ 0x300000 → (992 < len → s.chSend room x y = (s, 3))
          ∧ (len ≤ 992 → (fld a 63 62 ≠ 2 → s.chSend room x y = (s, 2))
            ∧ (fld a 63 62 = 2 → (fld b 15 0 < charge → s.chSend room x y = (s, 1))
              ∧ (charge ≤ fld b 15 0 → (s.chSend room x y).2 = 0
                ∧ ((s.shelfLd room y.toNat len 0x40).1.isArmed p 0 = false → ∀ w, w = (s.chSend room x y).1.rd p (txB c) →
                    fld w 15 0 = fld b 15 0 - charge ∧ fld w 63 32 = (fld b 63 32 + 1) % 2 ^ 32 ∧ (s.chSend room x y).1.mem = (s.shelfLd room y.toNat len 0x40).1.mem))))))
      ∧ (∀ x k, k = fld x 5 0 → tst x 6 = true → (s.rdF (chn room) (rxA k) 63 62 = 1 → s.chOpen room x = (s, 2))
          ∧ (s.rdF (chn room) (rxA k) 63 62 ≠ 1 → (s.chOpen room x).2 = 0 ∧ (s.chOpen room x).1.rdF (chn room) (rxA k) 63 62 = 1
              ∧ (s.chOpen room x).1.rdF (chn room) (rxA k) 61 58 = (s.rdF (chn room) (rxA k) 61 58 + 1) % 16 ∧ (s.chOpen room x).1.rd (chn room) (rxB k) = 0))
      ∧ (∀ x k, k = fld x 5 0 → tst x 6 = false → (k = 63 → s.chOpen room x = (s, 3))
          ∧ (k ≠ 63 → (s.rdF (chn room) (txA k) 63 62 = 2 → s.chOpen room x = (s, 2))
            ∧ (s.rdF (chn room) (txA k) 63 62 ≠ 2 → (s.chOpen room x).2 = 0 ∧ (s.chOpen room x).1.rdF (chn room) (txA k) 63 62 = 1)))
      ∧ (∀ x, (tst x 6 = true → (s.chClose room x).rdF (chn room) (rxA (fld x 5 0)) 63 62 = 0) ∧ (tst x 6 = false → (s.chClose room x).rdF (chn room) (txA (fld x 5 0)) 63 62 = 0))
      ∧ (∀ r, s.rdF (chn room) (rxB r) 47 32 = 0 → s.chDone room r = s)
      ∧ (∀ r b total n, b = s.rd (chn room) (rxB r) → total = ringUnits (s.rdF (chn room) (rxA r) 54 52) → fld b 47 32 ≠ 0 →
          n = min (recUnits (fld (s.ldWord (shelfEA room (s.ringHeadOff room r))) 9 0)) (fld b 47 32) →
          (s.chDone room r).rdF (chn room) (rxB r) 47 32 = fld b 47 32 - n ∧ (s.chDone room r).rdF (chn room) (rxB r) 15 0 = (fld b 15 0 + n) % total % 2 ^ 16
          ∧ (s.chDone room r).rdF (chn room) (rxB r) 31 16 = fld b 31 16)
      ∧ (∀ q i t rd, (s.hearth room).block = .dwWait q i t rd →
          (s.et < t → exec (.dwWaitTimeout room) s = .next s)
          ∧ (t ≤ s.et → Completes (.dwWaitTimeout room) s fun u => ((u.hearth room).reg rd = if rd % 32 = 0 then 0 else 0xFF) ∧ (u.hearth room).block = .no
              ∧ (u.hearth room).pc = (s.hearth room).pc + 4 ∧ u.mem = s.mem))
      ∧ ((∀ q i t rd, (s.hearth room).block ≠ .dwWait q i t rd) → exec (.dwWaitTimeout room) s = .next s))

/-- The Hall. A packet that something keeps, or that an earlier one of its ordered channel is before, stays where it is; one whose header breaks R282
is refused at its injection, one without a route or turning from north or south to east or west is refused where it is, and every other ELA packet
moves to the next router, or to its endpoint, unchanged. AGE counts each 64 cycles a waiting ELA packet has waited, up to 63 (R275, R276, R282, R287
to R291). -/
def Obligations.HallMoves : Prop :=
  ∀ (s : State) (k : Nat),
    (s.pkts[k]? = none → (∀ fl m b n, exec (.hallRoute k fl m b n) s = .next s) ∧ exec (.ageIncrement k) s = .next s)
    ∧ (∀ f, s.pkts[k]? = some f →
      (f.ejected = true ∨ f.pkt.vc ≠ 1 ∨ 8 ≤ f.port ∨ s.behind k f false = true → exec (.ageIncrement k) s = .next s)
      ∧ (f.ejected = false → f.pkt.vc = 1 → f.port < 8 → s.behind k f false = false → Completes (.ageIncrement k) s fun t =>
          t = { s with pkts := s.pkts.set k { f with pkt := { f.pkt with age := min 63 (f.pkt.age + 1) } } })
      ∧ (f.ejected = true ∨ 8 ≤ f.port ∨ s.heldBack f = true ∨ s.behind k f false = true ∨ s.schWaits f 0 = true ∨ smGet 0 s.rim.clkStop (s.wingOf f.room) ≠ 0 →
          ∀ fl m b n, exec (.hallRoute k fl m b n) s = .next s)
      ∧ (f.ejected = false → f.port < 8 → s.heldBack f = false → s.behind k f false = false → s.schWaits f 0 = false → smGet 0 s.rim.clkStop (s.wingOf f.room) = 0 →
        (∀ port r, s.hop f.room f.pkt = some port → port < 4 → s.across f.pkt.epoch f.room port = some r → s.linkStops f.pkt.epoch f.room port r = false) →
        (∀ port, s.hop f.room f.pkt = some port → s.elaWaits k f port = false) →
        ∀ flips b n,
          (∀ m g, s.linkArrive k f flips = (g, none) → exec (.hallRoute k flips m b n) s = .next g)
          ∧ (∀ m g p, s.linkArrive k f flips = (g, some p) →
            (f.moved = false → p.bad = true ∨ g.streamBad f.room p = true → exec (.hallRoute k flips m b n) s = .next (g.refuse k f.room f.port 7 0x0B p))
            ∧ (f.moved = true ∨ (p.bad = false ∧ g.streamBad f.room p = false) →
              (g.hop f.room p = none → exec (.hallRoute k flips m b n) s = .next (g.refuse k f.room f.port 4 0x05 p))
              ∧ (∀ port, g.hop f.room p = some port → port < 4 → g.across p.epoch f.room port = none ∨ (f.moved = true ∧ port = f.port) →
                  exec (.hallRoute k flips m b n) s = .next (g.refuse k f.room f.port 4 0x05 p))
              ∧ (∀ port r, g.hop f.room p = some port → port = 1 ∨ port = 3 → f.moved = true → f.port = 0 ∨ f.port = 2 → g.across p.epoch f.room port = some r →
                  exec (.hallRoute k flips m b n) s = .next ((g.refuse k f.room f.port 5 0x06 p).bump (hal f.room) 0x0A0 15 0 1))
              ∧ (∀ port r, g.hop f.room p = some port → port < 4 → g.across p.epoch f.room port = some r → (f.moved = true → port ≠ f.port ∧ (f.port = 1 ∨ f.port = 3 ∨ port = 0 ∨ port = 2)) →
                  p.vc = 1 → m = false → Completes (.hallRoute k flips m b n) s fun t => ∃ q : State, t = (if f.moved = false ∧ f.port = 4 then q.resetHold f.room else q) ∧
                    q.pkts = g.pkts.set k { pkt := p, room := r, port := opposite port, ejected := false, moved := true, due := f.due + hopLatency (g.rtLink p.epoch f.room port), also := f.also }
                    ∧ q.mem = g.mem ∧ q.bricks = g.bricks ∧ q.suites = g.suites ∧ q.outst = g.outst)
              ∧ (∀ port, g.hop f.room p = some port → 4 ≤ port → p.vc = 1 → m = false → Completes (.hallRoute k flips m b n) s fun t => ∃ q : State, t = (if f.moved = false ∧ f.port = 4 then q.resetHold f.room else q) ∧
                    q.pkts = g.pkts.set k { f with pkt := p, ejected := true, moved := true } ++ g.streamOn f p
                    ∧ q.mem = g.mem ∧ q.bricks = g.bricks ∧ q.suites = g.suites ∧ q.outst = g.outst)))))

/-- The Hall's slots and its links' check values. At the step of a slot entry the unit's first SCH packet is injected if it is the one the entry is
for, the slot passes if there is none, and any other packet is dropped and is a violation; a step has one slot at most. The check values of a link's
two ends restart whenever they are compared, and two that differ are a detected error of CVU (R294, R295, R413). -/
def Obligations.HallSlotsAndLinks : Prop :=
  (∀ (s : State) (room i : Nat) (u : Suite) (r : RoomSt), r = s.room room → s.suiteOf room = some i → s.suite i = some u →
    (u.issuing = false ∨ u.mode ≠ 0 ∨ smGet 0 s.rim.slotAt room = u.now + 1 ∨ (∀ e, e ∈ r.slots → e.marks r.slotPer u.step.toNat = false) → exec (.hallSlot room) s = .next s)
    ∧ (∀ e g, u.issuing = true → u.mode = 0 → smGet 0 s.rim.slotAt room ≠ u.now + 1 → r.slots.find? (fun e => e.marks r.slotPer u.step.toNat) = some e →
      g = { s with rim := { s.rim with slotAt := smSet 0 s.rim.slotAt room (u.now + 1) } } →
      ((∀ f, f ∈ s.pkts → ¬ (f.room = room ∧ f.port = e.unit ∧ f.moved = false)) → exec (.hallSlot room) s = .next g)
      ∧ (∀ k f, s.pkts[k]? = some f → f.room = room → f.port = e.unit → f.moved = false →
          (∀ j h, j < k → s.pkts[j]? = some h → ¬ (h.room = room ∧ h.port = e.unit ∧ h.moved = false)) → s.isArmed (hal room) 0 = false →
          (s.overLimit f.pkt = true → exec (.hallSlot room) s = .next g) ∧ (s.overLimit f.pkt = false →
          (f.pkt.typ = 1 → f.pkt.dst = e.dst → f.pkt.flits ≤ e.flits → Completes (.hallSlot room) s fun t =>
              t.pkts = s.pkts.eraseIdx k ++ [{ f with port := 4, due := u.now + 2 }] ∧ t.rd (hal room) 0x098 = s.rd (hal room) 0x098 + 1 ∧ t.mem = s.mem ∧ t.suites = s.suites)
          ∧ (f.pkt.typ ≠ 1 ∨ f.pkt.dst ≠ e.dst ∨ e.flits < f.pkt.flits → Completes (.hallSlot room) s fun t =>
              t = (g.dropFlight k).slotViolation room 4 f.pkt false ∧ tst (t.rd (hal room) 0x028) 0 = true ∧ t.pkts = s.pkts.eraseIdx k)))))
  ∧ (∀ (s : State) (room net port : Nat), net < 2 → port < 4 →
    (s.across s.rtActive room port = none → exec (.linkCvuCompare room net port) s = .next s)
    ∧ (∀ r, s.across s.rtActive room port = some r → r ≠ room → s.isArmed (rp .cvu room) 0 = false →
      (s.rd (rp .cvu room) (0x100 + 8 * (6 * net + port)) = s.rd (rp .cvu r) (0x160 + 8 * (6 * net + opposite port)) → Completes (.linkCvuCompare room net port) s fun t =>
          t.rd (rp .cvu room) (0x100 + 8 * (6 * net + port)) = 0 ∧ t.rd (rp .cvu r) (0x160 + 8 * (6 * net + opposite port)) = 0 ∧ t.suites = s.suites ∧ t.pkts = s.pkts)
      ∧ (s.rd (rp .cvu room) (0x100 + 8 * (6 * net + port)) ≠ s.rd (rp .cvu r) (0x160 + 8 * (6 * net + opposite port)) → Completes (.linkCvuCompare room net port) s fun t =>
          tst (t.rd (rp .cvu room) 0x028) 0 = true ∧ t.rd (rp .cvu room) (0x100 + 8 * (6 * net + port)) = 0 ∧ t.pkts = s.pkts)))

/-- What the endpoints of the Hall do with a request. A packet that has not reached its endpoint, is not of the command's type or has an earlier one
of its channel before it waits; a Room held in reset refuses with RESET, another Suite's Room with NACK_SUITE, a page that access control does not
open with its own code; a Shelf port writes, reads or does a read-modify-write and answers with an ACK or the data; a message goes to the channel
port, a contribution to the Stockpot port, a stream's copy to the Room it has reached (R36, R228, R256, R258, R282 to R285, R299, R300, R615). -/
def Obligations.HallDelivers : Prop :=
  ∀ (s : State) (k : Nat),
    ((∀ f typ, s.pkts[k]? = some f → f.ejected = false ∨ s.behind k f true = true ∨ f.pkt.typ ≠ typ → ∀ c, (typ, c) ∈ [(1, Instr.hallWrite k), (2, .readReq k), (3, .readRsp k), (4, .atomic k),
        (5, .message k), (6, .reduce k false), (6, .reduce k true), (7, .stream k), (8, .ack k), (9, .nack k)] → exec c s = .next s)
    ∧ (s.pkts[k]? = none → ∀ c, c ∈ [Instr.hallWrite k, .readReq k, .readRsp k, .atomic k, .message k, .reduce k false, .stream k, .ack k, .nack k] → exec c s = .next s))
    ∧ (∀ f g p room off, g = s.dropFlight k → p = f.pkt → room = eidRoomOf p.dst → off = p.addr % 2 ^ 22 → eidIsRoom p.dst = true →
      (LandsAt s k f 1 →
        (eidUnit p.dst = 1 → exec (.hallWrite k) s = .next (State.portAnswer (g.shelfPort room off p.len (some p.data) p.suite (if p.vc = 0 then 0x42 else 0x43)) room p))
        ∧ (eidUnit p.dst = 1 → p.vc = 1 → g.dark room = false → g.suiteOf room = some p.suite → CleanShelf g room off p.data.length 0x43 → Completes (.hallWrite k) s fun t =>
            t.ldBytes (shelfEA room off) p.data.length = p.data ∧ (∀ a, a < shelfEA room off ∨ shelfEA room off + p.data.length ≤ a → t.ldByte a = s.ldByte a)
            ∧ t.pkts = (g.inject room (p.ack 0)).pkts ∧ t.regs = s.regs ∧ t.bricks = s.bricks ∧ t.suites = s.suites)
        ∧ (eidUnit p.dst = 0 → g.closedPort room = true → exec (.hallWrite k) s = .next (g.routerSend room (p.nack 0x04)))
        ∧ (eidUnit p.dst = 0 → g.closedPort room = false →
          (p.host = false → g.suiteOf room ≠ some p.suite → exec (.hallWrite k) s = .next (g.replyFrom room (p.nack 0x01)))
          ∧ (p.host = false → g.suiteOf room = some p.suite → tst (g.rd pch (0x100 + 8 * p.suite)) (pktSlot p) = false →
              exec (.hallWrite k) s = .next (g.replyFrom room (p.nack 0x0A)))
          ∧ (p.host = true → ¬ (pktSlot p = 7 ∧ pktOff p = 0x0A8) →
              exec (.hallWrite k) s = .next ((g.pageSet (pktPage room p) (BitVec.ofNat 64 (leOf (p.data.take 8))) false).replyFrom room (p.ack 0))))
        ∧ (2 ≤ eidUnit p.dst → g.closedPort room = true → exec (.hallWrite k) s = .next (g.routerSend room (p.nack 0x04))))
      ∧ (LandsAt s k f 2 → ∀ n, n = fld p.w2 9 0 →
        (eidUnit p.dst = 1 → exec (.readReq k) s = .next (State.portAnswer (g.shelfPort room off n none p.suite) room p))
        ∧ (eidUnit p.dst = 1 → p.typ = 2 → g.dark room = false → g.suiteOf room = some p.suite → CleanShelf g room off n 0x43 →
            exec (.readReq k) s = .next (g.inject room (p.rsp 0 (g.ldBytes (shelfEA room off) n))))
        ∧ (eidUnit p.dst = 1 → p.typ = 2 → g.dark room = false → g.suiteOf room ≠ some p.suite →
            (∀ w, w < 16 → g.winCovers room p.suite off n w = false) → exec (.readReq k) s = .next (g.inject room (p.nack 1)))
        ∧ (eidUnit p.dst = 0 → g.closedPort room = false → p.host = true →
            exec (.readReq k) s = .next ((g.readClear (pktPage room p)).replyFrom room (p.rsp 0 (leTo 8 (g.barRead (pktPage room p)).toNat)))))
      ∧ (LandsAt s k f 4 → eidUnit p.dst = 1 → g.dark room = false → g.suiteOf room = some p.suite → ∀ n old, n = (if tst p.w2 8 then 8 else 4) → CleanShelf g room off n 0x43 →
          old = leOf (g.ldBytes (shelfEA room off) n) → Completes (.atomic k) s fun t =>
            t.ldBytes (shelfEA room off) n = leTo n (amoResult (fld p.w2 4 0) n old (leOf p.data))
            ∧ (∀ a, a < shelfEA room off ∨ shelfEA room off + n ≤ a → t.ldByte a = s.ldByte a) ∧ t.pkts = (g.inject room (p.rsp 0 (leTo 8 old))).pkts ∧ t.regs = s.regs)
      ∧ (LandsAt s k f 5 → eidUnit p.dst = 2 → (g.closedPort room = true → exec (.message k) s = .next (g.routerSend room (p.nack 0x04)))
        ∧ (g.closedPort room = false → g.isArmed (hal room) 3 = false →
          (g.suiteOf room ≠ some p.suite → exec (.message k) s = .next ((g.halEvent room 3 4 p false).routerNack room 0x01 p))
          ∧ (g.suiteOf room = some p.suite → exec (.message k) s = .next (g.takeMsg room p))))
      ∧ (LandsAt s k f 6 → eidUnit p.dst = 3 → g.closedPort room = false → g.dark room = false → g.suiteOf room = some p.suite → ∀ bad,
          exec (.reduce k bad) s = .next (g.stpArrive room (fld p.w2 20 16) (fld p.w2 15 8) (toWords p.data) (some p) bad))
      ∧ (LandsAt s k f 7 → exec (.stream k) s = .next (g.streamCopy f room)))

/-- What a reply does at its requester. The request it answers is outstanding no more; one that answers none does nothing, and a dark Room discards
it; an awaited load is answered with its bytes, a refused one takes the access fault, a credit return adds to a channel's credits, a SYNC opens the
channel, a refused message of channel 63 goes to the Room's bounce ring too, and a refused message goes to the bounce ring with its credits back
(R236, R252, R253, R256, R279, R284, R285, R581). An ACK of KIND 1 returns its units to the credits of a channel, other than channel 63, and one of
KIND 2 opens the channel that asked for it with the ring's values (R252, R253, R284). -/
def Obligations.HallReplies : Prop :=
  (∀ (s : State) (k typ : Nat) (f : Flight) (g : State) (p : Pkt) (c : Instr), LandsAt s k f typ → g = s.dropFlight k → p = f.pkt →
      (typ, c) ∈ [(3, Instr.readRsp k), (8, .ack k), (9, .nack k)] → (typ = 8 → fld p.w2 15 8 = 0) →
      (g.outstOf p = none → exec c s = .next g)
      ∧ (∀ o w, g.outstOf p = some o → w = { g with outst := g.outst.filter fun x => !(decide (x.tag = o.tag) && decide (x.src = o.src)) } →
        (eidIsRoom p.dst = true → g.dark (eidRoomOf p.dst) = true → exec c s = .next w)
        ∧ (eidIsRoom p.dst = false ∨ g.dark (eidRoomOf p.dst) = false →
          (∀ room rd n sg a len, typ = 3 ∨ typ = 9 → o.use = .hearthLoad room rd n sg a len → (w.hearth room).block = .reply →
            (typ = 9 → Completes c s fun t => Trapped w t room false 5 (BitVec.ofNat 64 a))
            ∧ (typ = 3 → p.status ≠ 1 → Completes c s fun t =>
                ((t.hearth room).reg rd = if rd % 32 = 0 then 0 else rvExt n sg (leOf ((p.data.drop (a % 8)).take n))) ∧ (t.hearth room).block = .no
                ∧ (t.hearth room).pc = (w.hearth room).pc + BitVec.ofNat 64 len ∧ t.mem = s.mem ∧ t.outst = w.outst))
          ∧ (∀ room, o.use = .hearthStore room → (typ = 8 → p.status ≠ 1 → exec c s = .next w) ∧ (typ = 9 → Completes c s fun t => tst (t.rd (hrt room) 0x028) 1 = true ∧ t.mem = s.mem))
          ∧ (∀ room q idx, o.use = .dwtWrite room q idx → (typ = 8 → exec c s = .next (w.dwWriteReply room q idx true p.status)) ∧ (typ = 9 → exec c s = .next (w.dwWriteReply room q idx false p.code)))
          ∧ (∀ room q idx j, o.use = .dwtRead room q idx j → (typ = 3 → exec c s = .next (w.dwReadReply room q idx j (some p.data) p.status))
              ∧ (typ = 9 → exec c s = .next (w.dwReadReply room q idx j none p.code)))
          ∧ (∀ room pot, o.use = .stpDeliver room pot → (typ = 8 → exec c s = .next (w.stpReply room pot true)) ∧ (typ = 9 →
              (bounceReason p.code = 0 ∨ ((w.delivOf room pot).any fun d => decide (d.sync = 3)) = false → exec c s = .next (w.stpReply room pot false))
              ∧ (bounceReason p.code ≠ 0 → ((w.delivOf room pot).any fun d => decide (d.sync = 3)) = true →
                  exec c s = .next ((w.bounce room (bounceReason p.code) (eidRoomOf p.src) p.w2 p.data false).stpReply room pot false))))
          ∧ (∀ room ch charge, typ = 9 → o.use = .chanMsg room ch charge → bounceReason p.code ≠ 0 → exec c s = .next (w.msgNacked room ch charge p)))))
  ∧
  (∀ (s : State) (k : Nat) (f : Flight) (g : State) (p : Pkt) (room c : Nat), LandsAt s k f 8 → g = s.dropFlight k → p = f.pkt → room = eidRoomOf p.dst → c = fld p.w2 21 16 →
      eidIsRoom p.dst = true → g.dark room = false →
      (fld p.w2 15 8 = 1 → (c = 63 → exec (.ack k) s = .next g)
        ∧ (c ≠ 63 → Completes (.ack k) s fun t => fld (t.rd (chn room) (txB c)) 15 0 = min (fld (s.rd (chn room) (txB c)) 15 0 + fld p.w2 63 48) (2 ^ 16 - 1)
            ∧ fld (t.rd (chn room) (txB c)) 63 16 = fld (s.rd (chn room) (txB c)) 63 16 ∧ t.mem = s.mem ∧ t.pkts = g.pkts))
      ∧ (fld p.w2 15 8 = 2 → c ≠ 63 → (∀ o, g.outstOf p = some o → ∀ r pot, o.use ≠ .stpSync r pot) → Completes (.ack k) s fun t =>
          fld (t.rd (chn room) (txA c)) 63 62 = 2 ∧ fld (t.rd (chn room) (txA c)) 61 58 = fld p.w2 31 28 ∧ fld (t.rd (chn room) (txA c)) 57 55 = fld p.w2 27 25
          ∧ fld (t.rd (chn room) (txB c)) 31 16 = fld p.w2 47 32 ∧ fld (t.rd (chn room) (txB c)) 15 0 = fld p.w2 63 48 ∧ t.mem = s.mem))

/-- Stockpots. A write of STP_CFG with EN starts a disabled Stockpot of a legal VLEN with empty records, GEN 0 and STATE COLLECTING, leaves a running
one its records, and keeps one with VLEN 0 or above 256 disabled. A delivery to a channel that waits for space asks the target's ring again 2 µs after
it last asked, and 1 ms after its first SYNC_REQ the target is skipped, which STP_TARGET_SKIPPED shows; before those times nothing happens (R257,
R260, R261, R270). -/
def Obligations.Stockpots : Prop :=
  ∀ (s : State) (room p : Nat),
    (∀ v, (s.dark room = true → exec (.stockpotEnable room p v) s = .next s)
      ∧ (s.dark room = false →
        (fld v 40 32 = 0 ∨ 256 < fld v 40 32 → Completes (.stockpotEnable room p v) s fun t => t.stpState room p = 0 ∧ t.mem = s.mem ∧ t.rooms = s.rooms ∧ t.pkts = s.pkts)
        ∧ (fld v 40 32 ≠ 0 → fld v 40 32 ≤ 256 →
          (s.stpState room p ≠ 0 → Completes (.stockpotEnable room p v) s fun t =>
              t.stpState room p = s.stpState room p ∧ t.stpVlen room p = fld v 40 32 ∧ t.stpExpect room p = fld v 31 0 ∧ t.mem = s.mem ∧ t.rooms = s.rooms ∧ t.pkts = s.pkts)
          ∧ (s.stpState room p = 0 → ∀ g, g = s.wr (stp room) (stpOff p 0) (put 63 63 1 ||| put 62 61 (fld v 62 61) ||| put 40 32 (fld v 40 32) ||| put 31 0 (fld v 31 0)) →
              g.stpVlen room p = fld v 40 32 ∧ g.stpExpect room p = fld v 31 0
              ∧ Completes (.stockpotEnable room p v) s fun t => t = (g.stpEmpty room p).wr (stp room) (stpOff p 3) (put 47 45 1) ∧ t.stpState room p = 1
                  ∧ fld (t.rd (stp room) (stpOff p 3)) 63 48 = 0))))
    ∧ (s.delivOf room p = none → exec (.stpSyncRetry room p) s = .next s ∧ exec (.stpTargetTimeout room p) s = .next s)
    ∧ (∀ d, s.delivOf room p = some d →
        (d.sync ≠ 2 → exec (.stpSyncRetry room p) s = .next s ∧ exec (.stpTargetTimeout room p) s = .next s)
        ∧ (s.et < d.next → exec (.stpSyncRetry room p) s = .next s)
        ∧ (s.et < d.first + usToEt 1000 → exec (.stpTargetTimeout room p) s = .next s)
        ∧ (d.sync = 2 → d.next ≤ s.et → ∀ e, e = s.stpEntry room p d.tgt → Completes (.stpSyncRetry room p) s fun t =>
            t.delivOf room p = some { d with waits := 1, sync := 1, next := s.et + usToEt 2 } ∧ t.mem = s.mem
            ∧ t.outst = (s.stpSyncReq room p (fld e.1 61 48) (fld e.1 45 40)).outst ∧ t.pkts = (s.stpSyncReq room p (fld e.1 61 48) (fld e.1 45 40)).pkts)
        ∧ (d.sync = 2 → d.first + usToEt 1000 ≤ s.et → ∀ g, g = s.stpSkip room p →
            exec (.stpTargetTimeout room p) s = .next (g.stpRun room (g.stpFuel room))
            ∧ g.delivOf room p = some { d with tgt := d.tgt + 1, begun := false, waits := 0, sync := 0, refused := false } ∧ g.mem = s.mem
            ∧ (s.gated (stp room) = false → tst (g.rd (stp room) 0x028) 2 = true)))

/-- The Cellar. An access that reaches its controller is performed and answered, or waits behind one it overlaps or for a channel that retrains; one
no grant allows is refused with NACK_SUITE and noted, and one beyond the stack has no effect; a reservation is placed for an access that no other of
its gateway stands before. A grant changes unless it would overlap another or leave the stack; STRENGTH changes only while every region is disabled
and then recodes; the scrubber reads page after page and adapts its rate at a pass's end; a retired page moves to the lowest free spare; a remap entry
is set only while every region is disabled; the log's head never passes its tail (R336 to R341, R363, R439, R444, R445, R448, R450, R451). -/
def Obligations.CellarPages : Prop :=
  (∀ (s : State) (k : Nat), (s.rim.ring[k]? = none → (∀ e, exec (.cellarAccess k e) s = .next s) ∧ exec (.ringReservation k) s = .next s)
    ∧ (∀ a, s.rim.ring[k]? = some a →
      (∀ e, (s.rim.ring.take k).any (fun b => a.overlaps b) = true ∨ s.celWaits a.stack a.off a.len = true → exec (.cellarAccess k e) s = .next s)
      ∧ (∀ e g r, (s.rim.ring.take k).any (fun b => a.overlaps b) = false → s.celWaits a.stack a.off a.len = false →
          ({ s with rim := { s.rim with ring := s.rim.ring.eraseIdx k } } : State).cellarAccess a.stack a.off a.len a.data a.pkt.suite a.pkt.src false e = (g, r) →
          exec (.cellarAccess k e) s = .next (g.injectEdge a.pkt.dst (a.reply r)))
      ∧ ((∀ b ∈ s.rim.ring.take k, b.pkt.dst ≠ a.pkt.dst) → Completes (.ringReservation k) s fun t => t.rim.ring = s.rim.ring.set k { a with reserved := true } ∧ { t with rim := s.rim } = s)
      ∧ ((∃ b ∈ s.rim.ring.take k, b.pkt.dst = a.pkt.dst) → exec (.ringReservation k) s = .next s)))
  ∧ (∀ (s : State) (stack off len : Nat) (data : Option (List Sys2Proof.Byte)) (suite src : Nat) (errs : List Nat), s.isArmed (celPage stack) 0 = false →
    (cellarBytes ≤ off → (s.cellarAccess stack off len data suite src false errs).2 = .unmapped ∧ (s.cellarAccess stack off len data suite src false errs).1.mem = s.mem)
    ∧ (off < cellarBytes → s.cellarGranted stack off len suite data.isSome = false → ∀ t, t = (s.cellarAccess stack off len data suite src false errs).1 →
        (s.cellarAccess stack off len data suite src false errs).2 = .denied ∧ t.mem = s.mem ∧ tst (t.rd (celPage stack) 0x028) 0 = true))
  ∧ (∀ (s : State) (stack : Nat), exec (.cellarRefresh stack) s = .next s
    ∧ (∀ r v w, w = v &&& 0xFF00FFFFFFFF0000 → r < 32 →
      (tst w 63 = true → cellarBytes < regHi w → TurnedAway (.celRegionWrite stack r v) s (celPage stack) 1)
      ∧ (tst w 63 = false → Completes (.celRegionWrite stack r v) s fun t => t.regA stack r = w ∧ t.mem = s.mem ∧ t.rim = s.rim)
      ∧ (tst w 63 = true → regHi w ≤ cellarBytes → (∀ q, q < 32 → q ≠ r → tst (s.regA stack q) 63 = false) → Completes (.celRegionWrite stack r v) s fun t => t.regA stack r = w ∧ t.mem = s.mem)
      ∧ (∀ q, tst w 63 = true → q < 32 → q ≠ r → tst (s.regA stack q) 63 = true → fld w 47 32 ≠ 0 → fld (s.regA stack q) 47 32 ≠ 0 → regLo (s.regA stack q) < regHi w →
          regLo w < regHi (s.regA stack q) → TurnedAway (.celRegionWrite stack r v) s (celPage stack) 1))
    ∧ (∀ v p, p = ecccPage stack →
      (fld v 1 0 = fld (s.rd p 0x080) 1 0 → Completes (.eccCfgWrite stack v) s fun t => fld (t.rd p 0x080) 15 4 = fld v 15 4 ∧ fld (t.rd p 0x080) 3 0 = fld (s.rd p 0x080) 3 0 ∧ t.mem = s.mem)
      ∧ (fld v 1 0 ≠ fld (s.rd p 0x080) 1 0 → fld v 1 0 = 3 ∨ s.anyRegion stack = true → TurnedAway (.eccCfgWrite stack v) s p 5)
      ∧ (fld v 1 0 ≠ fld (s.rd p 0x080) 1 0 → fld v 1 0 ≠ 3 → s.anyRegion stack = false → Completes (.eccCfgWrite stack v) s fun t =>
          fld (t.rd p 0x080) 1 0 = fld v 1 0 ∧ tst (t.rd p 0x080) 3 = true ∧ fld (t.rd p 0x080) 15 4 = fld v 15 4 ∧ t.mem = s.mem))
    ∧ (tst (s.rd (ecccPage stack) 0x080) 3 = false → ∀ bad, exec (.recodeDone stack bad) s = .next s)
    ∧ (tst (s.rd (ecccPage stack) 0x080) 3 = true → Completes (.recodeDone stack []) s fun t => tst (t.rd (ecccPage stack) 0x080) 3 = false ∧ tst (t.rd (ecccPage stack) 0x098) 63 = true
        ∧ smGet 0 t.rim.scrubAt stack = 0 ∧ t.mem = s.mem)
    ∧ (∀ e n, n = smGet 0 s.rim.scrubAt stack → (∀ x, s.scrubDue stack = some x → s.spareOf stack (x % 2 ^ 26) = none → exec (.scrubRead stack e) s =
          .next (({ s with rim := { s.rim with scrubLate := s.rim.scrubLate.erase x } } : State).pageRead stack (x % 2 ^ 26) e 0 true).1)
      ∧ (s.scrubDue stack = none → cellarPages + 8192 ≤ n → exec (.scrubRead stack e) s = .next s)
      ∧ (s.scrubDue stack = none → n < cellarPages + 8192 → ∀ g, g = { s with rim := { s.rim with scrubAt := smSet 0 s.rim.scrubAt stack (n + 1) } } →
        ((s.spareOf stack (scrubPage n)).isSome = true ∨ (s.channelUp stack (scrubPage n) = false ∧ s.channelRetraining stack (scrubPage n) = false) → exec (.scrubRead stack e) s = .next g)
        ∧ ((s.spareOf stack (scrubPage n)).isSome = false → s.channelRetraining stack (scrubPage n) = true →
            exec (.scrubRead stack e) s = .next { g with rim := { g.rim with scrubLate := g.rim.scrubLate ++ [stack * 2 ^ 26 + scrubPage n] } })
        ∧ ((s.spareOf stack (scrubPage n)).isSome = false → s.channelUp stack (scrubPage n) = true → s.channelRetraining stack (scrubPage n) = false →
            exec (.scrubRead stack e) s = .next (g.pageRead stack (scrubPage n) e 0 true).1)))
    ∧ (∀ p w, p = ecccPage stack → w = s.rd p 0x098 → (smGet 0 s.rim.scrubAt stack < cellarPages + 8192 → exec (.scrubPassEnd stack) s = .next s)
      ∧ (cellarPages + 8192 ≤ smGet 0 s.rim.scrubAt stack → Completes (.scrubPassEnd stack) s fun t => smGet 0 t.rim.scrubAt stack = 0 ∧ tst (t.rd p 0x098) 63 = false
        ∧ t.rdF p 0x090 31 16 = 0 ∧ t.mem = s.mem
        ∧ (tst w 63 = false → fld w 62 48 < s.rdF p 0x090 31 16 → fld (t.rd p 0x098) 15 0 = min 16384 (2 * fld w 15 0))
        ∧ (tst w 63 = true → fld (t.rd p 0x098) 15 0 = fld w 15 0)))
    ∧ (s.fitted stack = false → ∀ v e, exec (.pageRetire stack v e) s = .next s)
    ∧ (s.fitted stack = true → ∀ v e, (tst v 63 = false → Completes (.pageRetire stack v e) s fun t => t.rdF (ecccPage stack) 0x0A0 25 0 = fld v 25 0 ∧ t.mem = s.mem ∧ t.rim = s.rim)
      ∧ (tst v 63 = true → s.isArmed (ecccPage stack) 3 = false → s.freeSpare stack = none → Completes (.pageRetire stack v e) s fun t =>
          tst (t.rd (ecccPage stack) 0x028) 3 = true ∧ t.rd (ecccPage stack) 0x0A0 = (put 62 60 3 ||| put 25 0 (fld v 25 0)) ∧ t.mem = s.mem ∧ t.rim = s.rim)
      ∧ (∀ i, tst v 63 = true → s.isArmed (ecccPage stack) 3 = false → s.freeSpare stack = some i → e = 0 → s.channelUp stack (fld v 25 0) = true → s.poisoned stack (fld v 25 0) = false →
          Completes (.pageRetire stack v e) s fun t => t.mem = (s.stBytes (cellarEA stack ((reservePage + i) * 2048)) (s.celLd stack (fld v 25 0 * 2048) 2048)).mem
            ∧ t.remapEnt stack i = (put 63 63 1 ||| put 25 0 (fld v 25 0)) ∧ tst (t.rd (ecccPage stack) 0x028) 2 = true
            ∧ fld (t.rd (ecccPage stack) 0x0A0) 62 60 = 1))
    ∧ (∀ v i w, i = s.rdF (ecccPage stack) 0x0A8 12 0 → w = v &&& 0xE000000003FFFFFF →
      (s.anyRegion stack = true → TurnedAway (.eccRemapWrite stack v) s (ecccPage stack) 5)
      ∧ (s.anyRegion stack = false → tst w 63 = false → Completes (.eccRemapWrite stack v) s fun t => t.remapEnt stack i = w ∧ t.mem = s.mem ∧ t.regs = s.regs)))
  ∧ (∀ (s : State) (v : Sys2Proof.W64) (head tail h : Nat), head = s.rdF (gp .eccg) 0x098 18 0 → tail = s.rdF (gp .eccg) 0x0A0 18 0 → h = fld v 18 0 →
    ((h + 524288 - head) % 524288 ≤ (tail + 524288 - head) % 524288 → Completes (.logHeadWrite v) s fun t => t.rdF (gp .eccg) 0x098 18 0 = h ∧ t.rd (gp .eccg) 0x0A0 = s.rd (gp .eccg) 0x0A0 ∧ t.mem = s.mem)
    ∧ ((tail + 524288 - head) % 524288 < (h + 524288 - head) % 524288 → TurnedAway (.logHeadWrite v) s (ecccPage (s.rdF (gp .eccg) 0x088 47 37)) 5))

/-- Chutes. Setting EN starts a disabled Chute on its list with its granted Suite, and clearing it empties the buffer; a write that would change the
Suite of an enabled one is refused. An entry read from the list is taken where it is of the command's KIND, fails the Chute where it is bad or its
read failed, and waits its turn behind those before it: MARK is counted and passes, GATE holds the list, CELLAR and LARDER await their data. Source
data fills the packet it belongs to, the front entry's packet leaves as ELA, or as SCH a packet whose step it is, and a tile that differs from its
CHECK fails the Chute at its end; a late packet asks for a CHUTE stall, and a starvation that lasts is reported. A Larder slot starts its session with
a credit; data in order is taken, other data fails the Chute, a CHECK that agrees releases its span, and an ABORT disables the slot and fails the
Chute (R344 to R351, R353, R355 to R359, R366). -/
def Obligations.ChuteStreams : Prop :=
  ∀ (s : State) (c : Nat) (errs : List Nat), c < 32 →
    (∀ (v : BitVec 64), (tst v 63 = false → exec (.chuteEnable c v) s = .next s) ∧ (tst v 63 = true → exec (.chuteDisable c v) s = .next s)
      ∧ (tst v 63 = true → tst (s.rd (chuP c) 0x080) 63 = true →
          (fld v 37 32 = s.chuSuite c → exec (.chuteEnable c v) s = .next s) ∧ (fld v 37 32 ≠ s.chuSuite c → TurnedAway (.chuteEnable c v) s (chuP c) 6))
      ∧ (tst v 63 = true → tst (s.rd (chuP c) 0x080) 63 = false → Completes (.chuteEnable c v) s fun t =>
          tst (t.rd (chuP c) 0x080) 63 = true ∧ t.chuSuite c = fld v 37 32 ∧ t.rdF (chuP c) 0x088 63 61 = 1 ∧ (t.chute c).entries = [] ∧ (t.chute c).slots = (s.chute c).slots
          ∧ t.mem = s.mem ∧ t.pkts = s.pkts)
      ∧ (tst v 63 = false → tst (s.rd (chuP c) 0x080) 63 = true → fld v 37 32 ≠ s.chuSuite c → TurnedAway (.chuteDisable c v) s (chuP c) 6)
      ∧ (tst v 63 = false → tst (s.rd (chuP c) 0x080) 63 = false ∨ fld v 37 32 = s.chuSuite c → Completes (.chuteDisable c v) s fun t =>
          tst (t.rd (chuP c) 0x080) 63 = false ∧ t.rdF (chuP c) 0x088 63 61 = 0 ∧ (t.chute c).entries = [] ∧ (t.chute c).slots = (s.chute c).slots ∧ (t.chute c).stalled = none
          ∧ t.mem = s.mem ∧ t.pkts = s.pkts)
      ∧ Completes (.chuListTailWrite c v) s fun t => t.rd (chuP c) 0x0A0 = put 19 0 (fld v 19 0) ∧ (t.chute c).entries = (s.chute c).entries ∧ t.mem = s.mem ∧ t.pkts = s.pkts)
    ∧ (∀ k cmd, (k, cmd) ∈ [(0, Instr.mark c errs), (1, .cellar c errs), (2, .larder c errs), (3, .gate c errs)] → (k = 3 → (s.chute c).gating = false) →
        (s.chuRuns c = false ∨ (s.chute c).gating = true ∨ (s.chuHead c + (s.chute c).entries.length) % s.chuSize c = s.chuTail c → exec cmd s = .next s)
        ∧ (∀ g idx r, s.chuFetch c errs = (g, some (idx, []), r) →
            (g.isArmed (chuP c) 2 = false → exec cmd s = .next (g.chuFail c 2 r.detail idx 0 false))
            ∧ (g.isArmed (chuP c) 2 = true → r = .eccUe → exec cmd s = .next ((g.disarm (chuP c) 2).chuFail c 2 2 idx 0 true)))
        ∧ (∀ g idx w r, s.chuFetch c errs = (g, some (idx, w), r) → w ≠ [] →
          (eKind w ≠ k → exec cmd s = .next s)
          ∧ (eKind w = k → g.isArmed (chuP c) 3 = false →
            (∀ d, g.chuBad c w = some d → exec cmd s = .next (g.chuFail c 3 d idx 0 false))
            ∧ (g.chuBad c w = none → (g.chute c).entries = [] → g.chuRuns c = true →
              (k = 0 → (g.chute c).gating = false → Completes cmd s fun t => tst (t.rd (chuP c) 0x028) 5 = true ∧ (t.chute c).entries = []
                ∧ t.rd (chuP c) 0x098 = put 19 0 ((g.chuHead c + 1) % g.chuSize c) ∧ t.mem = g.mem ∧ t.pkts = g.pkts)
              ∧ (k = 1 ∨ k = 2 → Completes cmd s fun t => (t.chute c).entries = [⟨idx, w, [], [], 0, 0, g.chuSch c⟩] ∧ t.rd (chuP c) 0x098 = g.rd (chuP c) 0x098 ∧ t.mem = g.mem ∧ t.pkts = g.pkts)
              ∧ (k = 3 → exec cmd s = .next (((g.setChute c { g.chute c with entries := [⟨idx, w, [], [], 0, 0, g.chuSch c⟩], gating := true }).chuGo c 1).chuWatch c))))))
    ∧ ((s.chute c).gating = true → exec (.gate c errs) s = .next ((s.chuGo c ((s.chute c).entries.length + 1)).chuWatch c))
    ∧ (∀ bit detail idx stream inj, bit < 7 → ∀ t, t = s.chuFail c bit detail idx stream inj →
        tst (t.rd (chuP c) 0x028) bit = true ∧ t.rdF (chuP c) 0x088 63 61 = 3 ∧ t.mem = s.mem ∧ t.pkts = s.pkts
        ∧ (t.chute c).entries = (s.chute c).entries ∧ (t.chute c).slots = (s.chute c).slots ∧ (t.chute c).starve = none ∧ (t.chute c).stalled = none)
    ∧ (s.chuRuns c = false ∨ firstNeed (s.chute c).entries 0 = none → exec (.chuteSourceData c errs) s = .next s)
    ∧ (∀ k e a n p, s.chuRuns c = true → firstNeed (s.chute c).entries 0 = some (k, e, a, n, p) →
        (s.chuRoomFor c n = false → exec (.chuteSourceData c errs) s = .next s)
        ∧ (s.chuRoomFor c n = true → eKind e.words = 1 → s.isArmed (chuP c) 2 = false → ∀ st off, s.decodeEa (eSource e.words + a) = .cellar st off →
            (s.celWaits st off n = true → exec (.chuteSourceData c errs) s = .next s) ∧ (s.celWaits st off n = false → ∀ g r,
            s.cellarAccess st off n none (s.chuSuite c) (chuEid c (eRoom e.words)) false errs = (g, r) →
            (∀ d, r = .ok d → exec (.chuteSourceData c errs) s = .next (((g.chuFill c k e p d).chuShow c).chuWatch c)
              ∧ (∀ m, eTile e.words = false → p = some m → Completes (.chuteSourceData c errs) s fun t =>
                  (t.chute c).entries = (g.chute c).entries.set k { e with got := smSet [] e.got m d } ∧ t.mem = g.mem ∧ t.pkts = g.pkts))
            ∧ ((∀ d, r ≠ .ok d) → exec (.chuteSourceData c errs) s = .next ((g.chuFail c 2 r.detail e.idx 0 false).chuShow c))))
        ∧ (s.chuRoomFor c n = true → eKind e.words = 2 → ∀ l, l = s.larder c (eSlot e.words) →
            (l.rel < l.cons + n → exec (.chuteSourceData c errs) s = .next s)
            ∧ (l.cons + n ≤ l.rel → ∀ m, eTile e.words = false → p = some m → Completes (.chuteSourceData c errs) s fun t =>
                (t.chute c).entries = (s.chute c).entries.set k { e with got := smSet [] e.got m (l.buf.take n) } ∧ (t.larder c (eSlot e.words)).cons = l.cons + n
                ∧ (t.larder c (eSlot e.words)).buf = l.buf.drop n ∧ t.mem = s.mem ∧ t.pkts = s.pkts)))
    ∧ (∀ bad, ((s.chute c).entries = [] ∨ s.chuRuns c = false ∨ (s.chuSch c = false ∧ (s.chute c).ready = false) → exec (.chutePacket c bad) s = .next s)
      ∧ (∀ u, s.suite (s.chuSuite c) = some u → s.chuSch c = true → s.chuRuns c = true → (∀ e, e ∈ (s.chute c).entries → e.sch = true) →
        (u.frozen = true ∨ (∀ e, e ∈ (s.chute c).entries → e.ready = false ∨ u.step.toNat ≠ eStart e.words + e.sent * eInterval e.words) → exec (.chutePacket c bad) s = .next s)
        ∧ (∀ k e p, u.frozen = false → (s.chute c).entries[k]? = some e → e.ready = true → u.step.toNat = eStart e.words + e.sent * eInterval e.words →
            (∀ j h, j < k → (s.chute c).entries[j]? = some h → h.ready = false ∨ u.step.toNat ≠ eStart h.words + h.sent * eInterval h.words) → p = s.chuPkt c e e.sent true →
            e.sent + 1 < e.total → Completes (.chutePacket c bad) s fun t => t.pkts = (s.injectEdge p.src p).pkts ∧ t.mem = s.mem
              ∧ (t.chute c).entries = (s.chute c).entries.set k { e with sent := e.sent + 1, got := smDel e.got e.sent }))
      ∧ (∀ e rest, (s.chute c).entries = e :: rest → s.chuRuns c = true → (s.chute c).ready = true →
        (∀ p, s.chuSch c = false → p = s.chuPkt c e e.sent false →
          (e.sent + 1 < e.total → Completes (.chutePacket c bad) s fun t => t.pkts = (s.injectEdge p.src p).pkts ∧ (t.chute c).entries = { e with sent := e.sent + 1, got := smDel e.got e.sent } :: rest
            ∧ t.rd (chuP c) 0x0B8 = s.rd (chuP c) 0x0B8 + BitVec.ofNat 64 p.len ∧ t.rd (chuP c) 0x098 = s.rd (chuP c) 0x098 ∧ t.mem = s.mem)
          ∧ (e.sent + 1 = e.total → rest = [] → s.isArmed (cvuxPage (64 + c)) 0 = false → eTile e.words = true → e.sum ≠ e.check → Completes (.chutePacket c bad) s fun t =>
              t.pkts = (s.injectEdge p.src p).pkts ∧ t.rdF (chuP c) 0x088 63 61 = 3 ∧ tst (t.rd (chuP c) 0x028) 2 = true ∧ t.mem = s.mem)
          ∧ (e.sent + 1 = e.total → rest = [] → s.isArmed (cvuxPage (64 + c)) 0 = false → eTile e.words = false → Completes (.chutePacket c bad) s fun t => t.pkts = (s.injectEdge p.src p).pkts ∧ (t.chute c).entries = []
            ∧ t.rd (chuP c) 0x098 = put 19 0 ((s.chuHead c + 1) % s.chuSize c) ∧ t.mem = s.mem ∧ (bad = true → t.rdF (chuP c) 0x088 63 61 = 3)))))
    ∧ (s.suite (s.chuSuite c) = none → exec (.starvationCheck c) s = .next s)
    ∧ (∀ u, s.suite (s.chuSuite c) = some u →
        (s.chuRuns c = false ∨ s.chuSch c = false ∨ ((∀ e, e ∈ (s.chute c).entries → e.sch = true) ∧ s.chuLate c (u.step.toNat + 2 * s.fl + 16) = false) → exec (.starvationCheck c) s = .next s)
        ∧ (s.chuRuns c = true → s.chuSch c = true → (∀ e, e ∈ (s.chute c).entries → e.sch = true) → (s.chute c).late = [] → (s.chute c).stalled = none →
            s.chuLate c (u.step.toNat + 2 * s.fl + 16) = true → Completes (.starvationCheck c) s fun t =>
            (t.chute c).stalled = some u.clk ∧ (t.chute c).late = [u.step.toNat + 2 * s.fl + 16] ∧ t.suite (s.chuSuite c) = some { u with reqs := u.reqs ++ [⟨5, chuSrc c, 0, false, u.clk + s.fl⟩] } ∧ t.mem = s.mem ∧ t.pkts = s.pkts))
    ∧ ((s.chute c).starve = none ∨ (s.chute c).told = true ∨ s.chuRuns c = false → exec (.chuteStarved c) s = .next s)
    ∧ (∀ b, (s.chute c).starve = some b → (s.chute c).told = false → s.chuRuns c = true → s.isArmed (chuP c) 0 = false →
        (s.et < b + usToEt (max 1 (s.rdF (chuP c) 0x0A8 23 0)) → exec (.chuteStarved c) s = .next s)
        ∧ (b + usToEt (max 1 (s.rdF (chuP c) 0x0A8 23 0)) ≤ s.et → Completes (.chuteStarved c) s fun t =>
            tst (t.rd (chuP c) 0x028) 0 = true ∧ t.rdF (chuP c) 0x088 63 61 = 2 ∧ (t.chute c).told = true ∧ t.mem = s.mem ∧ t.pkts = s.pkts))
    ∧ (∀ j, j < 4 →
      (∀ v, (tst v 63 = false → exec (.larderSlotEnable c j v) s = .next s)
        ∧ (tst v 63 = true → s.lsEn c j = true ∨ fld v 47 32 < 64 ∨ 1792 < fld v 47 32 ∨ 1024 * fld v 47 32 < s.spanLen c → TurnedAway (.larderSlotEnable c j v) s (chuP c) 6)
        ∧ (tst v 63 = true → (∀ k, k < 4 → s.lsEn c k = false) → 64 ≤ fld v 47 32 → fld v 47 32 ≤ 1792 → s.spanLen c ≤ 1024 * fld v 47 32 → Completes (.larderSlotEnable c j v) s fun t =>
            t.lsEn c j = true ∧ t.lsSession c j = (s.lsSession c j + 1) % 256 ∧ t.lsWindow c j = 1024 * fld v 47 32 ∧ t.lsStream c j = fld v 19 0 ∧ t.rd (chuP c) (0x108 + 16 * j) = 0
            ∧ t.larder c j = ⟨[], 0, 0, 1024 * fld v 47 32, s.et, 0, [], 0⟩ ∧ t.mem = s.mem ∧ t.pkts = s.pkts))
      ∧ (s.lsEn c j = false → exec (.creditPeriod c j) s = .next s)
      ∧ (s.lsEn c j = true → s.isArmed (chuP c) 1 = false → exec (.creditPeriod c j) s = .next (s.sendCredit c j)
          ∧ Completes (.creditPeriod c j) s fun t => (t.larder c j).limit = (s.larder c j).cons + s.lsWindow c j ∧ (t.larder c j).sentAt = s.et ∧ t.mem = s.mem ∧ t.regs = s.regs)
      ∧ (∀ ses off data, ses < 256 → s.isArmed (chuP c) 4 = false →
        (s.lsEn c j = false ∨ ses ≠ s.lsSession c j ∨ off ≠ (s.rd (chuP c) (0x108 + 16 * j)).toNat ∨ (s.larder c j).limit < off + data.length → Completes (.larderData c j ses off data) s fun t =>
            tst (t.rd (chuP c) 0x028) 4 = true ∧ t.rdF (chuP c) 0x088 63 61 = 3 ∧ (t.larder c j).buf = (s.larder c j).buf ∧ t.mem = s.mem)
        ∧ (s.lsEn c j = true → ses = s.lsSession c j → off = (s.rd (chuP c) (0x108 + 16 * j)).toNat → off + data.length ≤ (s.larder c j).limit → Completes (.larderData c j ses off data) s fun t =>
            (t.larder c j).buf = (s.larder c j).buf ++ data ∧ t.rd (chuP c) (0x108 + 16 * j) = s.rd (chuP c) (0x108 + 16 * j) + BitVec.ofNat 64 data.length ∧ t.mem = s.mem ∧ t.pkts = s.pkts))
      ∧ (∀ ses start crc, ses < 256 →
        (s.lsEn c j = false ∨ ses ≠ s.lsSession c j → exec (.larderCheck c j ses start crc) s = .next s)
        ∧ (s.lsEn c j = true → ses = s.lsSession c j → s.isArmed (cvuxPage (64 + c)) 0 = false →
          ((s.larder c j).done.head? = some (start, crc) → Completes (.larderCheck c j ses start crc) s fun t =>
              (t.larder c j).rel = start + s.spanLen c ∧ (t.larder c j).done = (s.larder c j).done.drop 1 ∧ t.mem = s.mem ∧ t.pkts = s.pkts)
          ∧ ((s.larder c j).done.head? ≠ some (start, crc) → Completes (.larderCheck c j ses start crc) s fun t =>
              t.rdF (chuP c) 0x088 63 61 = 3 ∧ (t.larder c j).rel = (s.larder c j).rel ∧ t.mem = s.mem)))
      ∧ (∀ ses, ses < 256 → (s.lsEn c j = false ∨ ses ≠ s.lsSession c j → exec (.abort c j ses) s = .next s)
          ∧ (s.lsEn c j = true → ses = s.lsSession c j → exec (.abort c j ses) s = .next ((s.wrF (chuP c) (0x100 + 16 * j) 63 63 0).chuFail c 1 0 (s.chuHead c) (s.lsStream c j) false))))

/-- Eaves ports. A change of MODE while a port of the engine is enabled is refused whole; any other write of EAV_CFG takes effect, a native port newly
enabled begins its training and a disabled one rests. Training steps follow one another, record the partner at step 4, end the attempt at the engine's
own ENGINE_ID, and fail after three attempts of 500 ms; a failed port tries again after 1 s. A native link comes up from step 6 once its BER estimates
have stayed below FEC_DEGRADE for 1 ms; a link goes down at a loss or above 100 uncorrectable codewords, and a lane's crossing of FEC_DEGRADE is
raised once. A PFC frame pauses the enabled priorities it names (R369, R371, R372, R375, R401 to R403, R570). -/
def Obligations.PortsTrain : Prop :=
  ∀ (s : State), (∀ q, s.gated (eav q) = false) →
    (∀ pos v old w, pos < 32 → old = s.rd ⟨.eav, pos⟩ 0x080 → w = v &&& (maskOf 27 7 ||| maskOf 3 0) →
      ∀ cmd, cmd ∈ [Instr.eavModeSet pos v, .portEnable pos v, .portDisable pos v] →
        (fld v 1 0 ≠ fld old 1 0 → fld old 3 2 ≠ 0 → TurnedAway cmd s ⟨.eav, pos⟩ 4)
        ∧ (fld v 1 0 = fld old 1 0 ∨ fld old 3 2 = 0 → Completes cmd s fun t =>
            t.rd ⟨.eav, pos⟩ 0x080 = w ∧ t.mem = s.mem ∧ t.pkts = s.pkts ∧ ∀ h, h < 2 →
              (tst v (2 + h) = true → tst old (2 + h) = false → fld v 1 0 = 1 →
                t.eavSt (2 * pos + h) 30 28 = 1 ∧ t.trainAt (128 + (2 * pos + h)) = s.et ∧ t.trainAt (2 * pos + h) = 0)
              ∧ (tst v (2 + h) = false → tst old (2 + h) = true → t.eavSt (2 * pos + h) 31 0 = 0)
              ∧ (tst v (2 + h) = tst old (2 + h) → t.eavSt (2 * pos + h) 31 0 = s.eavSt (2 * pos + h) 31 0)))
    ∧ (∀ p, p < 64 →
      (∀ g, g = s.trainMiss p → (s.trainAt p + 1 < 3 → g.eavSt p 30 28 = 1 ∧ g.trainAt p = s.trainAt p + 1 ∧ g.trainAt (128 + p) = s.et)
        ∧ (3 ≤ s.trainAt p + 1 → g.eavSt p 30 28 = 7 ∧ g.trainAt p = 0 ∧ g.trainAt (128 + p) = s.et ∧ tst (g.rd (eav p) 0x028) 2 = true) ∧ g.mem = s.mem ∧ g.pkts = s.pkts)
      ∧ (∀ engine partner mac native, engine < 2 ^ 16 → partner < 64 → mac < 2 ^ 48 →
        (s.training p = false ∨ s.eavSt p 30 28 = 6 → exec (.trainingStep p engine partner mac native) s = .next s)
        ∧ (s.training p = true → s.eavSt p 30 28 ≠ 6 → s.eavSt p 30 28 ≠ 4 → Completes (.trainingStep p engine partner mac native) s fun t =>
            t.eavSt p 30 28 = s.eavSt p 30 28 + 1 ∧ t.eavSt p 27 0 = s.eavSt p 27 0 ∧ t.mem = s.mem
            ∧ (s.eavSt p 30 28 = 5 → s.lanesGood p = true → s.trainAt (192 + p) = 0 → t.trainAt (192 + p) = s.et + 1) ∧ (s.eavSt p 30 28 = 5 → s.lanesGood p = false → t.trainAt (192 + p) = 0))
        ∧ (s.training p = true → s.eavSt p 30 28 = 4 →
          (engine ≠ s.engineId → native = true → Completes (.trainingStep p engine partner mac native) s fun t =>
              t.eavSt p 30 28 = 5 ∧ t.eavSt p 15 0 = engine ∧ t.eavSt p 27 22 = partner ∧ smGet 0 t.rim.partMac p = mac ∧ t.mem = s.mem)
          ∧ (engine = s.engineId ∨ native = false → s.trainAt p + 1 < 3 → Completes (.trainingStep p engine partner mac native) s fun t =>
              t.eavSt p 30 28 = 1 ∧ t.trainAt p = s.trainAt p + 1 ∧ t.mem = s.mem)))
      ∧ (s.training p = false ∨ s.et < s.trainAt (128 + p) + usToEt 500000 → exec (.trainingAttemptTimeout p) s = .next s)
      ∧ (s.training p = true → s.trainAt (128 + p) + usToEt 500000 ≤ s.et → exec (.trainingAttemptTimeout p) s = .next (s.trainMiss p))
      ∧ (s.portEn p = false ∨ s.eavMode p ≠ 1 ∨ s.eavSt p 30 28 ≠ 7 ∨ s.et < s.trainAt (128 + p) + usToEt 1000000 → exec (.trainingRetry p) s = .next s)
      ∧ (s.portEn p = true → s.eavMode p = 1 → s.eavSt p 30 28 = 7 → s.trainAt (128 + p) + usToEt 1000000 ≤ s.et → Completes (.trainingRetry p) s fun t =>
          t.eavSt p 30 28 = 1 ∧ t.trainAt (128 + p) = s.et ∧ t.trainAt p = s.trainAt p ∧ t.mem = s.mem)
      ∧ (s.linkUp p = true ∨ s.portEn p = false ∨ (s.eavMode p = 1 ∧ (s.eavSt p 30 28 ≠ 6 ∨ s.trainAt (192 + p) = 0 ∨ s.et < s.trainAt (192 + p) - 1 + usToEt 1000)) → exec (.eavLinkUp p) s = .next s)
      ∧ (s.linkUp p = false → s.portEn p = true → s.eavMode p ≠ 1 ∨ (s.eavSt p 30 28 = 6 ∧ s.trainAt (192 + p) ≠ 0 ∧ s.trainAt (192 + p) - 1 + usToEt 1000 ≤ s.et) → Completes (.eavLinkUp p) s fun t =>
          t.linkUp p = true ∧ t.trainAt p = 0 ∧ tst (t.rd (eav p) 0x028) 1 = true ∧ t.mem = s.mem)
      ∧ (∀ uncorr lost, (lost = false → uncorr ≤ 100 → exec (.eavLinkDown p uncorr lost) s = .next (s.bump (eav p) (0x0C0 + 8 * portHalf p) 31 16 uncorr))
          ∧ (s.linkUp p = false → exec (.eavLinkDown p uncorr lost) s = .next (s.bump (eav p) (0x0C0 + 8 * portHalf p) 31 16 uncorr))
          ∧ (lost = true ∨ 100 < uncorr → s.linkUp p = true → Completes (.eavLinkDown p uncorr lost) s fun t =>
              t.linkUp p = false ∧ tst (t.rd (eav p) 0x028) 0 = true ∧ (s.eavMode p = 1 → t.eavSt p 30 28 = 1 ∧ t.trainAt (128 + p) = s.et) ∧ t.mem = s.mem))
      ∧ (∀ lane ber rx k, lane < 8 → ber < 2 ^ 32 → rx < 2 ^ 16 → k = (s.portLanes p).getD lane (4 * portHalf p) → s.isArmed (eav p) 3 = false → Completes (.eavFecDegraded p lane ber rx) s fun t =>
          t.rd (eav p) (0x100 + 8 * k) = (put 15 0 rx ||| put 47 16 ber) ∧ t.mem = s.mem
          ∧ (s.laneBad p k = false → 100 * s.rdF (eav p) 0x0B0 7 0 < ber → tst (t.rd (eav p) 0x028) 3 = true)
          ∧ (s.laneBad p k = true ∨ ber ≤ 100 * s.rdF (eav p) 0x0B0 7 0 → t.rd (eav p) 0x028 = s.rd (eav p) 0x028))
      ∧ (s.trainAt (64 + p) = 0 ∨ s.linkUp p = false ∨ s.et < s.trainAt (64 + p) - 1 + usToEt (1000 * s.rdF (gp .srvg) 0x0A0 15 0) → exec (.fecDegradeTimeout p) s = .next s)
      ∧ (s.trainAt (64 + p) ≠ 0 → s.linkUp p = true → s.trainAt (64 + p) - 1 + usToEt (1000 * s.rdF (gp .srvg) 0x0A0 15 0) ≤ s.et → Completes (.fecDegradeTimeout p) s fun t =>
          t.linkUp p = false ∧ tst (t.rd (eav p) 0x028) 0 = true ∧ t.trainAt (64 + p) = 0 ∧ t.mem = s.mem)
      ∧ (∀ en times, Completes (.pfcFrame p en times) s fun t => t.regs = s.regs ∧ t.mem = s.mem ∧ ∀ k, k < 8 →
          (en.testBit k = true → s.pfcOn p k = true → smGet 0 t.rim.pfc (8 * p + k)
            = if times.getD k 0 % 65536 = 0 then 0 else s.et + ceilDiv (times.getD k 0 % 65536) (if s.eavMode p = 2 then 10 else 20))
          ∧ (en.testBit k = false ∨ s.pfcOn p k = false → smGet 0 t.rim.pfc (8 * p + k) = smGet 0 s.rim.pfc (8 * p + k))))

/-- RoCEv2 queue pairs and received frames. A descriptor of the command's OP is taken up from the send queue once the one before it is cut; one that
cannot be read or breaks its rules fails the stream. A QP's context that is not cached is fetched first. The next packet of a QP leaves within its
window; a timer that has run out sends again. An inbound packet for no open QP is counted as other; requests are taken in PSN order, later ones
answered with a sequence error, and a CNP halves the window. A frame with a bad FCS or length, for another address or of another type is counted and
discarded, and the others go where their type says; a tagged frame of a priority under PFC also fills that priority's receive buffer (R373 to R376,
R378, R379, R385, R392 to R394). -/
def Obligations.RoceContexts : Prop :=
  ∀ (s : State) (n : Nat) (x : YCtx), n < 2 ^ 20 → x = s.yctx n →
    (∀ op cmd, (op, cmd) ∈ [(0x10, Instr.roceSend n), (0x11, .roceWrite n), (0x12, .roceRead n), (0x01, .send n), (0x02, .control n)] →
      (x.state ≠ 1 ∨ x.fetch = x.pi ∨ x.cutting.isSome = true → exec cmd s = .next s)
      ∧ (x.state = 1 → x.fetch ≠ x.pi → x.cutting = none →
        (s.isHot n = false → exec cmd s = .next (s.ctxMiss n))
        ∧ (s.isHot n = true → ∀ g r, s.yazRead n (x.sqBase + 32 * (x.fetch % 2 ^ x.sqLog2)) 32 = (g, r) →
          (r = none → exec cmd s = .next (g.yazFail n 7 false))
          ∧ (∀ b, r = some b → descOk x.mode (toWords b) = false → exec cmd s = .next (g.yazFail n 6 false))
          ∧ (∀ b, r = some b → descOk x.mode (toWords b) = true →
            (fld ((toWords b).getD 0 0) 63 56 ≠ op → exec cmd s = .next s)
            ∧ (fld ((toWords b).getD 0 0) 63 56 = op → Completes cmd s fun t =>
                t.yctx n = { g.yctx n with fetch := ((g.yctx n).fetch + 1) % 65536, descs := (g.yctx n).descs ++ [⟨(g.yctx n).fetch, toWords b, 0⟩] }
                ∧ (∀ m, m ≠ n → t.yctx m = g.yctx m) ∧ t.mem = g.mem ∧ t.regs = g.regs ∧ t.pkts = g.pkts)))))
    ∧ (x.mode = 1 → (x.state ≠ 1 ∨ (x.sent.find? fun p => decide (p.at_ + s.rto x ≤ s.et)) = none → exec (.rtoExpiry n) s = .next s)
        ∧ (∀ p, x.state = 1 → (x.sent.find? fun p => decide (p.at_ + s.rto x ≤ s.et)) = some p →
            exec (.rtoExpiry n) s = .next ((s.setYctx n { x with backo := x.backo + 1 }).roceAgain n p.seq)))
    ∧ (x.mode ≠ 1 → (x.state ≠ 1 ∨ (x.sent.find? fun p => decide (p.at_ + s.rto x ≤ s.et)) = none → exec (.rtoExpiry n) s = .next s)
        ∧ (∀ p port, x.state = 1 → (x.sent.find? fun p => decide (p.at_ + s.rto x ≤ s.et)) = some p → (x.sent.find? fun q => q.seq = p.seq) = some p →
            nextPort (s.spraySet n) p.port = some port → p.tries + 1 < s.retryMax → Completes (.rtoExpiry n) s fun t =>
              (t.yctx n).sent = x.sent.map (fun q => if q.seq = p.seq then { p with port := port, at_ := s.et, tries := p.tries + 1 } else q)
              ∧ (t.yctx n).cwnd = clampWin (x.cwnd / 2) ∧ (t.yctx n).backo = x.backo + 1 ∧ (t.yctx n).state = 1 ∧ t.mem = s.mem ∧ t.pkts = s.pkts))
    ∧ (x.mode = 1 → x.state ≠ 1 ∨ s.linkUp x.qport = false ∨ x.cutting = none → exec (.pacedSend n) s = .next s)
    ∧ (x.mode = 1 → x.state = 1 → s.linkUp x.qport = true → ∀ d, x.cutting = some d →
        (s.isHot n = false → exec (.pacedSend n) s = .next (s.ctxMiss n))
        ∧ (s.isHot n = true → x.cwnd ≤ x.sent.length * 2 ^ 32 ∧ x.sent ≠ [] ∨ 256 * s.et < x.paced → exec (.pacedSend n) s = .next s)
        ∧ (s.isHot n = true → x.sent.length * 2 ^ 32 < x.cwnd ∨ x.sent = [] → x.paced ≤ 256 * s.et → d.op ≠ 0x12 → ∀ g r k, k = min 4096 (d.len - d.cut) →
            s.yazRead n (fld (d.words.getD 1 0) 47 0 + d.cut) k = (g, r) → (r = none → exec (.pacedSend n) s = .next (g.yazFail n 7 false))
            ∧ (∀ b, r = some b → g.yctx n = x → Completes (.pacedSend n) s fun t => (t.yctx n).seq = (x.seq + 1) % 2 ^ 24 ∧ (t.yctx n).state = 1
                ∧ (t.yctx n).sent = x.sent ++ [⟨x.seq, x.qport, s.et, 0, x.cls, decide (d.cut = 0), decide (d.len ≤ d.cut + k), 0,
                    roceOp (if d.op = 0x11 then 6 else 0) (decide (d.cut = 0)) (decide (d.len ≤ d.cut + k)), b, some d.idx⟩] ∧ t.mem = g.mem ∧ t.pkts = g.pkts)))
    ∧ (x.mode ≠ 1 →
        (x.state ≠ 1 ∨ (s.isHot n = true ∧ x.una + 256 ≤ x.seq) ∨ (s.isHot n = false ∧ x.ctl = [] ∧ x.cutting = none) → exec (.pacedSend n) s = .next s)
        ∧ (x.state = 1 → s.isHot n = false → x.ctl ≠ [] ∨ x.cutting ≠ none → exec (.pacedSend n) s = .next (s.ctxMiss n))
        ∧ (x.state = 1 → s.isHot n = true → x.seq < x.una + 256 →
          (nextPort (s.spraySet n) x.lastP = none → x.ctl ≠ [] ∨ x.cutting ≠ none → x.sent = [] → x.heldAt = none → exec (.pacedSend n) s = .next (s.setYctx n { x with heldAt := some s.et }))
          ∧ (∀ port m d rest, nextPort (s.spraySet n) x.lastP = some port → x.ctl = (m, d) :: rest → Completes (.pacedSend n) s fun t =>
              (t.yctx n).ctl = rest ∧ (t.yctx n).seq = x.seq + 1 ∧ (t.yctx n).lastP = port
              ∧ (t.yctx n).sent = x.sent ++ [⟨x.seq, port, s.et, 0, 0, true, true, 0, m, d, none⟩] ∧ t.mem = s.mem ∧ t.pkts = s.pkts)))
    ∧ (∀ port ce icrc op psn va rkey len synd data, port < 64 → psn < 2 ^ 24 → ∀ cmd g p, cmd = Instr.rocePacket port ce icrc op n psn va rkey len synd data →
        g = (s.touch n).modYctx n (fun x => { x with idle := s.et }) → p = (⟨op, n, psn, va, rkey, len, synd, data⟩ : RocePkt) →
        (icrc = false ∨ x.state ≠ 1 ∨ x.mode ≠ 1 → exec cmd s = .next ((if ce then s.ceMark port else s).otherFrame port))
        ∧ (icrc = true → x.state = 1 → x.mode = 1 → s.isHot n = false → Completes cmd s fun t => t.rim.roceWait = s.rim.roceWait ++ [(port, ce, p)] ∧ n ∈ t.rim.fills ∧ t.yctx n = x ∧ t.mem = s.mem)
        ∧ (icrc = true → x.state = 1 → x.mode = 1 → s.isHot n = true → ce = false →
          (op = 0x81 → Completes cmd s fun t => (t.yctx n).cwnd = clampWin (x.cwnd / 2) ∧ (t.yctx n).idle = s.et ∧ (t.yctx n).sent = x.sent ∧ t.mem = s.mem ∧ t.regs = s.regs)
          ∧ (op = 17 → (synd < 0x20 → exec cmd s = .next (g.roceAcked n psn)) ∧ (synd = 0x60 → exec cmd s = .next ((g.roceAcked n (psn + 2 ^ 24 - 1)).roceAgain n psn))
              ∧ (0x60 < synd → exec cmd s = .next (g.yazFail n 6 false)))
          ∧ (13 ≤ op → op ≤ 16 → exec cmd s = .next (g.roceRead n p))
          ∧ (op ∈ [0, 1, 2, 4, 6, 7, 8, 10, 12] → ∀ d, d = (psn + 2 ^ 24 - x.rcum % 2 ^ 24) % 2 ^ 24 →
              (d = 0 → exec cmd s = .next (g.roceRequest n p)
                ∧ (∀ m, op = 10 → g.mrEntry rkey = (m, none) → exec cmd s = .next (m.roceError n psn 0x62))
                ∧ (∀ m e, op = 10 → g.mrEntry rkey = (m, some e) → mrAllows e 0 va (max len data.length) = false → exec cmd s = .next (m.roceError n psn 0x62)))
              ∧ (d ≠ 0 → d < 2 ^ 23 → exec cmd s = .next (g.roceAck n x.rcum 0x60))
              ∧ (2 ^ 23 ≤ d → op ≠ 12 → exec cmd s = .next (g.roceAck n (x.rcum + 2 ^ 24 - 1) 0)))
          ∧ (op ∉ [0, 1, 2, 4, 6, 7, 8, 10, 12] → (op < 13 ∨ 17 < op) → op ≠ 0x81 → exec cmd s = .next (g.roceError n psn 0x61))))
    ∧ (∀ port fcs icrc f, port < 64 → ∀ cmd, cmd = Instr.ethFrameReceive port fcs icrc f →
        (s.linkUp port = false → exec cmd s = .next s)
        ∧ (s.linkUp port = true →
          (fcs = false → exec cmd s = .next (s.bump (eav port) (0x0C0 + 8 * portHalf port) 63 48 1))
          ∧ (∀ k, fcs = true → beAt f 12 2 = 0x8100 → k = beAt f 14 2 / 8192 → s.pfcOn port k = true → exec cmd s = .next ((s.ethFrame port fcs icrc f).rxTurn port k))
          ∧ ((beAt f 12 2 = 0x8100 → s.pfcOn port (beAt f 14 2 / 8192) = false) → fcs = true → f.length + 4 < 64 ∨ 9216 < f.length + 4 → exec cmd s = .next (s.otherFrame port))
          ∧ ((beAt f 12 2 = 0x8100 → s.pfcOn port (beAt f 14 2 / 8192) = false) → fcs = true → 64 ≤ f.length + 4 → f.length + 4 ≤ 9216 → ∀ o et b, o = (if beAt f 12 2 = 0x8100 then 16 else 12) → et = beAt f o 2 → b = f.drop (o + 2) →
            (et = 0x8808 → beAt b 0 2 = 0x0101 → exec cmd s = .next (s.pfcFrame port (beAt b 2 2) ((List.range 8).map fun k => beAt b (4 + 2 * k) 2)))
            ∧ (et ≠ 0x8808 → beAt f 0 6 ≠ s.portMac port → (f.headD 0).getLsbD 0 = false → exec cmd s = .next (s.otherFrame port))
            ∧ (beAt f 0 6 = s.portMac port →
              (et = 0x0806 → exec cmd s = .next (s.arpFrame port b))
              ∧ (et = 0x0800 → ip4Read b = none → exec cmd s = .next (s.otherFrame port))
              ∧ (et = 0x86DD → ip6Read b = none → exec cmd s = .next (s.otherFrame port))
              ∧ (et ∉ [0x8808, 0x0806, 0x0800, 0x86DD] → exec cmd s = .next (s.otherFrame port))
              ∧ (∀ i, (et = 0x0800 ∧ ip4Read b = some i) ∨ (et = 0x86DD ∧ ip6Read b = some i) → i.dst = s.portIp s.engineId port → i.proto = 17 →
                (udpRead i = none → exec cmd s = .next (s.otherFrame port))
                ∧ (∀ sp dp u, udpRead i = some (sp, dp, u) → i.ecn ≠ 3 →
                  (dp = s.rdF (gp .yzlg) 0x080 31 16 → exec cmd s = .next (s.yazPacket ⟨port, false, (List.range 5).map fun k => w64 (beAt u (8 * k) 8), u.drop 40⟩))
                  ∧ (dp ≠ s.rdF (gp .yzlg) 0x080 31 16 → dp = 4791 → exec cmd s = .next (s.rocePacket port false icrc (roceParse u)))
                  ∧ (dp ≠ s.rdF (gp .yzlg) 0x080 31 16 → dp ≠ 4791 → exec cmd s = .next (s.otherFrame port))))))))

/-- Yazal streams. A packet of the command's PTYPE has its PCHECK compared and its form checked, waits where its context is not cached, and is then
handled: DATA is answered with a RESET where the stream is not open, counted where its EPOCH or the receive window does not fit, acknowledged again
where it has come before, and accepted otherwise; an ACK frees what it covers; a RESET of the open epoch fails the context with PEER_RESET.
Acknowledgement delay, path hold, stream timeout and keepalive act at their times; a doorbell moves the producer index or is refused; a context that
is not cached is read from the store, and one is written only while it is not open (R380 to R384, R386, R388, R391 to R393, R404). -/
def Obligations.YazalStreams : Prop :=
  ∀ (s : State) (n : Nat) (x : YCtx), n < 2 ^ 20 → x = s.yctx n →
    (∀ port ce words data pt cmd, port < 64 → (pt, cmd) ∈ [(0, Instr.yazalData port ce words data), (1, .yazalAck port ce words), (2, .yazalReset port ce words)] →
      ∀ p g, p = (⟨port, ce, words, if pt = 0 then data else []⟩ : YIn) → g = ((if ce then s.ceMark port else s).cvuxItem (128 + port)).1.wr (cvuxPage (128 + port)) 0x108 (words.getD 4 0) →
      (fld (words.getD 0 0) 59 56 ≠ pt → exec cmd s = .next s)
      ∧ (fld (words.getD 0 0) 59 56 = pt → fld (words.getD 0 0) 51 32 = n → s.isArmed (cvuxPage (128 + port)) 0 = false →
        (pcheck s.engineId n (fld (words.getD 1 0) 63 32) p.data ≠ words.getD 4 0 → exec cmd s = .next (g.cvuxError (128 + port) n x.suite false false false))
        ∧ (pcheck s.engineId n (fld (words.getD 1 0) 63 32) p.data = words.getD 4 0 →
          (yazFormOk words p.data.length = false → exec cmd s = .next (g.bump (yzl (port / 2)) 0x090 63 48 1))
          ∧ (yazFormOk words p.data.length = true → ce = false →
            (s.isHot n = true → exec cmd s = .next ((g.touch n).yazHandle p))
            ∧ (s.isHot n = false → Completes cmd s fun t => t.rim.ctxWait = s.rim.ctxWait ++ [p] ∧ n ∈ t.rim.fills ∧ t.yctx n = x ∧ t.mem = s.mem ∧ t.pkts = s.pkts)
            ∧ (s.isHot n = true → ∀ r, r = g.touch n →
              (pt = 0 →
                (x.state ≠ 1 ∨ x.mode ≠ 0 ∨ fld (words.getD 0 0) 31 16 ≠ x.peer →
                  exec cmd s = .next (r.yazReset n port (fld (words.getD 0 0) 31 16) (fld (words.getD 3 0) 63 56) 1))
                ∧ (x.state = 1 → x.mode = 0 → fld (words.getD 0 0) 31 16 = x.peer →
                  (fld (words.getD 3 0) 63 56 ≠ x.epoch → exec cmd s = .next (r.bump (yzl (homeOf n)) 0x090 47 32 1))
                  ∧ (fld (words.getD 3 0) 63 56 = x.epoch → ∀ q u, q = seqNear x.rcum (fld (words.getD 1 0) 63 32) →
                      u = r.setYctx n { x with ce := min 255 x.ce, lastTs := fld (words.getD 1 0) 31 0, idle := s.et } →
                      (q.2 = true ∨ (x.rgot.any fun e => e.1 = q.1) = true → exec cmd s = .next (u.yazAckNow n port))
                      ∧ (q.2 = false → (x.rgot.any fun e => e.1 = q.1) = false → (if x.dkind = 3 then x.dseq else x.rcum) + 255 < q.1 →
                          exec cmd s = .next (u.bump (yzl (homeOf n)) 0x090 31 16 1))
                      ∧ (q.2 = false → (x.rgot.any fun e => e.1 = q.1) = false → q.1 ≤ (if x.dkind = 3 then x.dseq else x.rcum) + 255 → x.dkind = 1 ∨ x.dkind = 2 ∨ q.1 = x.rcum →
                          exec cmd s = .next (u.yazAccept n q.1 p)))))
              ∧ (pt = 1 → x.state ≠ 1 ∨ x.mode ≠ 0 ∨ fld (words.getD 0 0) 31 16 ≠ x.peer ∨ fld (words.getD 3 0) 63 56 ≠ x.epoch → exec cmd s = .next r)
              ∧ (pt = 1 → x.state = 1 → x.mode = 0 → fld (words.getD 0 0) 31 16 = x.peer → fld (words.getD 3 0) 63 56 = x.epoch → ∀ q, q = seqNear x.una (fld (words.getD 1 0) 63 32) →
                  (q.2 = true ∨ x.seq < q.1 → exec cmd s = .next r)
                  ∧ (q.2 = false → q.1 ≤ x.seq → Completes cmd s fun t => (∀ e, e ∈ (t.yctx n).sent → q.1 ≤ e.seq) ∧ (t.yctx n).seq = x.seq))
              ∧ (pt = 2 → (x.state ≠ 1 ∨ x.mode ≠ 0 ∨ fld (words.getD 3 0) 63 56 ≠ x.epoch → exec cmd s = .next r)
                ∧ (x.state = 1 → x.mode = 0 → fld (words.getD 3 0) 63 56 = x.epoch → exec cmd s = .next (r.yazFail n 3 false))))))))
    ∧ (∀ cause, cause < 32 → x.state = 1 → ∀ g, g = s.yazFail n cause false → (g.yctx n).state = 2 ∧ fld ((g.yctx n).w 0) 44 40 = cause ∧ tst (g.rd (yzl (homeOf n)) 0x028) 0 = true)
    ∧ (∀ port, port < 64 → (x.ackDue = none ∨ x.state ≠ 1 → exec (.ackDelay n port) s = .next s)
        ∧ (∀ b, x.ackDue = some b → (s.et < b → exec (.ackDelay n port) s = .next s)
          ∧ (b ≤ s.et → x.state = 1 → exec (.ackDelay n port) s = .next (s.yazAckNow n port)
              ∧ Completes (.ackDelay n port) s fun t => t.yctx n = { x with toAck := 0, ackDue := none, ce := 0, idle := s.et }
                  ∧ (∀ q o, regKey q o ≠ regKey (cvuxPage (128 + port)) 0x100 → t.rd q o = s.rd q o) ∧ t.mem = s.mem ∧ t.pkts = s.pkts)))
    ∧ (Completes (.pathHoldExpiry n) s fun t => t.yctx n = { x with excl := x.excl.filter fun e => decide (s.et < e.2) } ∧ (∀ m, m ≠ n → t.yctx m = s.yctx m) ∧ t.regs = s.regs
        ∧ t.mem = s.mem ∧ t.pkts = s.pkts)
    ∧ (∀ b, b = (if x.sent ≠ [] then some x.prog else x.heldAt) →
        (b = none ∨ x.state ≠ 1 → exec (.streamTimeout n) s = .next s)
        ∧ (∀ v, b = some v → s.et < v + usToEt s.streamUs → exec (.streamTimeout n) s = .next s)
        ∧ (∀ v, b = some v → x.state = 1 → v + usToEt s.streamUs ≤ s.et → exec (.streamTimeout n) s = .next (s.yazFail n 1 false)))
    ∧ (x.state ≠ 1 ∨ x.keep = false ∨ s.et < x.idle + usToEt s.keepUs → exec (.keepalive n) s = .next s)
    ∧ (x.state = 1 → x.keep = true → x.idle + usToEt s.keepUs ≤ s.et → Completes (.keepalive n) s fun t =>
        t.yctx n = { x with ctl := x.ctl ++ [(0x01, [])], idle := s.et } ∧ t.regs = s.regs ∧ t.mem = s.mem ∧ t.pkts = s.pkts)
    ∧ (n ∉ s.rim.fills → exec (.contextMissFill n) s = .next s)
    ∧ (n ∈ s.rim.fills → (∀ p, p ∈ s.rim.ctxWait → fld (p.words.getD 0 0) 51 32 ≠ n) → (∀ e, e ∈ s.rim.roceWait → e.2.2.qpn % 2 ^ 20 ≠ n) → (s.setMates n).length < 8 →
        ((∀ st off, s.decodeEa (s.ctxEA n) ≠ .cellar st off) → Completes (.contextMissFill n) s fun t =>
          t.isHot n = true ∧ t.rim.fills = s.rim.fills.filter (· ≠ n) ∧ t.yctx n = x ∧ t.regs = s.regs ∧ t.mem = s.mem)
        ∧ (∀ st off g d, s.decodeEa (s.ctxEA n) = .cellar st off → s.cellarAccess st off 256 none 0 0 true [] = (g, .ok d) → Completes (.contextMissFill n) s fun t =>
          t.isHot n = true ∧ t.rim.fills = s.rim.fills.filter (· ≠ n) ∧ t.yctx n = { x with cfg := (toWords d).take 8 } ∧ t.mem = s.mem))
    ∧ (s.rim.bells = [] → exec .doorbell s = .next s)
    ∧ (∀ b v l, s.rim.bells = (b, v) :: l → fld v 51 32 = n → s.isArmed (yzl (homeOf n)) 1 = false →
        (x.suite = b → x.state = 1 → (fld v 15 0 + 65536 - x.ci) % 65536 ≤ 2 ^ x.sqLog2 → Completes .doorbell s fun t =>
            t.yctx n = { x with pi := fld v 15 0 } ∧ t.rim.bells = l ∧ t.regs = s.regs ∧ t.mem = s.mem)
        ∧ (x.suite ≠ b ∨ x.state ≠ 1 ∨ 2 ^ x.sqLog2 < (fld v 15 0 + 65536 - x.ci) % 65536 → Completes .doorbell s fun t =>
            t.yctx n = x ∧ t.rim.bells = l ∧ tst (t.rd (yzl (homeOf n)) 0x028) 1 = true ∧ t.mem = s.mem))
    ∧ exec (.hello n) s = .next ((s.yazTake n 0x01).1.yazDeliver n 300)
    ∧ (x.state ≠ 1 ∨ (x.rgot.find? fun e => e.1 = x.dseq) = none → exec (.latchArrive n) s = .next s)
    ∧ (∀ q e, x.state = 1 → (x.rgot.find? fun e => e.1 = x.dseq) = some (q, e) →
        (e.cls ≠ 0 ∨ e.mtype ≠ 0x10 → exec (.latchArrive n) s = .next s)
        ∧ (e.cls = 0 → e.mtype = 0x10 → exec (.latchArrive n) s = .next (((s.yazDone n e).latchMsg n e).yazDeliver n 300)))
    ∧ (∀ v, fld v 19 0 = n →
        (tst v 63 = false → Completes (.contextWrite v) s fun t => t.rd (gp .yzlg) 0x0C0 = (put 62 62 (fld v 62 62) ||| put 19 0 n) ∧ t.yctx n = x ∧ t.mem = s.mem)
        ∧ (tst v 63 = true → tst v 62 = true → ∀ w, w = s.rd (gp .yzlg) 0x100 →
          (x.state = 1 → fld w 63 62 ≠ 0 → Completes (.contextWrite v) s fun t => tst (t.rd (gp .yzlg) 0x028) 2 = true ∧ t.yctx n = x ∧ t.mem = s.mem)
          ∧ (x.state ≠ 1 → fld w 63 62 = 1 → Completes (.contextWrite v) s fun t => (t.yctx n).state = 1 ∧ (t.yctx n).sent = [] ∧ (t.yctx n).descs = [] ∧ (t.yctx n).rgot = []
              ∧ (∀ k, 1 ≤ k → k < 8 → (t.yctx n).w k = s.rd (gp .yzlg) (0x100 + 8 * k)) ∧ (∀ m, m ≠ n → t.yctx m = s.yctx m) ∧ (s.isHot n = true → t.mem = s.mem))
          ∧ (x.state = 1 → fld w 63 62 = 0 → Completes (.contextWrite v) s fun t => (t.yctx n).state = 0 ∧ (t.yctx n).sent = [] ∧ (∀ m, m ≠ n → t.yctx m = s.yctx m) ∧ (s.isHot n = true → t.mem = s.mem)))
        ∧ (tst v 63 = true → tst v 62 = false → Completes (.contextWrite v) s fun t => (∀ k, k < 8 → t.rd (gp .yzlg) (0x100 + 8 * k) = x.w k) ∧ t.yctx n = x ∧ t.mem = s.mem))

/-- The silent-error defence. A running Suite whose progress count reaches PROGRESS_MS is recorded, with its bit, its event and its incident record;
an inspection package is installed or refused with its REASON, and a window that ends judges its Rooms and advances GROUP; one self-test runs at a
time, none for a record marked INJECTED or HAND, and its result and record follow; incident records take their SEQ and go to the log, or are lost
where the collector is full; old strikes expire; a unit above CE_LIMIT is recorded; and a running check value is written only while its stream is idle
(R414, R417, R419 to R425, R426, R429, R434, R435, R448). -/
def Obligations.GuardUnits : Prop :=
  ∀ (s : State),
    (∀ i, i < 64 →
      ((s.suite i = none ∨ s.rdF cvug 0x0A0 15 0 = 0 → exec (.suiteNoProgress i) s = .next s)
      ∧ (∀ u, s.suite i = some u → u.run ≠ 2 ∨ u.prog < 25000 * u.rate * s.rdF cvug 0x0A0 15 0 → exec (.suiteNoProgress i) s = .next s)
      ∧ (∀ u, s.suite i = some u → u.run = 2 → s.rdF cvug 0x0A0 15 0 ≠ 0 → 25000 * u.rate * s.rdF cvug 0x0A0 15 0 ≤ u.prog → Completes (.suiteNoProgress i) s fun t =>
          tst (t.rd cvug 0x028) 2 = true ∧ tst (t.rd cvug 0x0A8) i = true ∧ (∃ r, r ∈ t.flying ∧ r.code = Page.cvug.cls * 256 + 0x12) ∧ t.mem = s.mem))
      ∧ (∀ fails, (s.suite i = none → exec (.inspectionWindowEnd i fails) s = .next s)
        ∧ (∀ u, s.suite i = some u →
          (u.sweep.st ≠ 5 ∨ s.et < u.sweep.et0 + usToEt (s.rdF cvug 0x080 47 32) → exec (.inspectionWindowEnd i fails) s = .next s)
          ∧ (u.sweep.st = 5 → u.sweep.et0 + usToEt (s.rdF cvug 0x080 47 32) ≤ s.et → s.rim.inspNew = none →
            (tst (s.rd cvug 0x080) 63 = false ∨ s.rim.insp = none → exec (.inspectionWindowEnd i fails) s = .next (s.sweepRelease i))
            ∧ (tst (s.rd cvug 0x080) 63 = true → s.rim.insp ≠ none → s.isArmed cvug 0 = false → ∀ g, g = s.rdF cvug (0x400 + 8 * i) 5 0 →
              (fails = [] → Completes (.inspectionWindowEnd i fails) s fun t => t.rdF cvug (0x400 + 8 * i) 5 0 = (g + 1) % 64 ∧ t.rdF cvug (0x400 + 8 * i) 63 32 = (s.rdF cvug (0x400 + 8 * i) 63 32 + 1) % 2 ^ 32
                ∧ ∀ r, r ∈ u.rooms → rotGroup (s.physOf r) = g → smGet 0 t.rim.clean (s.physOf r) = s.et)
              ∧ (∀ k r, u.rooms[k]? = some r → rotGroup (s.physOf r) = g → k ∈ fails → Completes (.inspectionWindowEnd i fails) s fun t =>
                  tst (t.rd cvug 0x028) 0 = true ∧ t.rdF cvug (0x400 + 8 * i) 5 0 = (g + 1) % 64 ∧ t.mem = s.mem))))))
    ∧ (∀ v signed g, g = s.wr cvug 0x088 (v &&& maskOf 47 0) →
        (tst v 63 = false → exec (.inspInstall v signed) s = .next g)
        ∧ (tst v 63 = true →
          (g.inspReason (fld v 47 0) signed = 0 → Completes (.inspInstall v signed) s fun t => ∀ ver set_, ver = leOf (s.ldBytes (fld v 47 0 + 4) 4) → set_ = (⟨ver, g.inspEntries (fld v 47 0)⟩ : InspSet) →
            t.rd cvug 0x090 = (put 63 61 2 ||| put 31 0 ver) ∧ t.rim.flash.insp = some set_ ∧ t.rim.flash.inspMax = max s.rim.flash.inspMax ver
            ∧ (s.rim.insp = none → t.rim.insp = some set_ ∧ t.rim.inspNew = none) ∧ (s.rim.insp ≠ none → t.rim.insp = s.rim.insp ∧ t.rim.inspNew = some set_) ∧ t.mem = s.mem)
          ∧ (g.inspReason (fld v 47 0) signed ≠ 0 → Completes (.inspInstall v signed) s fun t => fld (t.rd cvug 0x090) 63 61 = 3 ∧ fld (t.rd cvug 0x090) 60 53 = g.inspReason (fld v 47 0) signed
            ∧ fld (t.rd cvug 0x090) 31 0 = s.rdF cvug 0x090 31 0 ∧ tst (t.rd cvug 0x028) 1 = true ∧ t.rim = s.rim ∧ t.mem = s.mem)))
    ∧ (∀ v ref fw, (tst (s.rd cvug 0x0B0) 63 = true ∨ (tst (s.rd cvug 0x098) 63 = true ∧ fw = false) →
          (tst v 63 = false → exec (.selfTest v ref fw) s = .next s) ∧ (tst v 63 = true → TurnedAway (.selfTest v ref fw) s cvug 7))
        ∧ (tst (s.rd cvug 0x0B0) 63 = false → fw = true → s.rim.quiet.contains ref = true → exec (.selfTest v ref fw) s = .next s)
        ∧ (tst (s.rd cvug 0x0B0) 63 = false → (tst (s.rd cvug 0x098) 63 = false ∧ fw = false) ∨ (fw = true ∧ s.rim.quiet.contains ref = false) → Completes (.selfTest v ref fw) s fun t =>
            t.rd cvug 0x0B0 = v &&& (maskOf 63 63 ||| maskOf 27 16 ||| maskOf 14 0) ∧ (tst v 63 = true → t.rim.testRef = ref % 2 ^ 32) ∧ t.mem = s.mem))
    ∧ (∀ result w, w = s.rd cvug 0x0B0 → result < 4 →
        (tst w 63 = false ∨ result = 0 → exec (.selftestDone result) s = .next s)
        ∧ (∀ r, s.logicalOf (fld w 14 0) = some r → stRoomKind (fld w 27 24) = true → s.suiteIdle r = false → exec (.selftestDone result) s = .next s)
        ∧ (tst w 63 = true → result ≠ 0 → (∀ r, s.logicalOf (fld w 14 0) = some r → stRoomKind (fld w 27 24) = true → s.suiteIdle r = true) → Completes (.selftestDone result) s fun t =>
            t.rd cvug 0x0B0 = clrBit (setFld w 30 28 result) 63 ∧ tst (t.rd cvug 0x028) 3 = true
            ∧ ∃ r, r ∈ t.flying ∧ r.code = Page.cvug.cls * 256 + 0x13 ∧ r.kind = (if result = 1 then 2 else 3) ∧ r.ref = s.rim.testRef))
    ∧ (∀ k, (s.flying[k]? = none → exec (.incidentRecord k) s = .next (s.logDrain 256))
        ∧ (∀ r, s.flying[k]? = some r →
          (256 ≤ s.collector.length → Completes (.incidentRecord k) s fun t => t.flying = s.flying.eraseIdx k ∧ t.incSeq = s.incSeq + 1 ∧ t.collector = s.collector ∧ tst (t.rd cvug 0x028) 6 = true ∧ t.mem = s.mem)
          ∧ (s.collector.length < 256 → s.rdF (gp .eccg) 0x088 47 12 = 0 → Completes (.incidentRecord k) s fun t =>
              t.flying = s.flying.eraseIdx k ∧ t.incSeq = s.incSeq + 1 ∧ t.collector = s.collector ++ [{ r with seq := s.incSeq }] ∧ t.mem = s.mem)
          ∧ (∀ base tail, s.collector = [] → base = s.rdF (gp .eccg) 0x088 47 12 * 4096 → tail = s.rdF (gp .eccg) 0x0A0 18 0 → base ≠ 0 → tst (s.rd (ecccPage (base / 2 ^ 37)) 0x080) 3 = false →
              (tail + 1) % 524288 ≠ s.rdF (gp .eccg) 0x098 18 0 → Completes (.incidentRecord k) s fun t => t.flying = s.flying.eraseIdx k ∧ t.incSeq = s.incSeq + 1 ∧ t.collector = []
                ∧ t.ldWords (base + 32 * tail) 4 = Incident.words { r with seq := s.incSeq } ∧ t.rdF (gp .eccg) 0x0A0 18 0 = (tail + 1) % 524288
                ∧ ∀ a, a < base + 32 * tail ∨ base + 32 * tail + 32 ≤ a → t.ldByte a = s.ldByte a)))
    ∧ (∀ kind inst rise,
        (rise ≤ s.rdF cvug 0x098 15 0 → exec (.ceRateCheck kind inst rise) s = .next s)
        ∧ (s.rdF cvug 0x098 15 0 < rise →
          (kind = 6 → s.seamRuns (inst / 4 % 64) (inst % 4) = true → exec (.ceRateCheck kind inst rise) s = .next s)
          ∧ (kind = 6 → s.seamRuns (inst / 4 % 64) (inst % 4) = false → exec (.ceRateCheck kind inst rise) s = .next (s.startSeam (inst / 4 % 64) (inst % 4)))
          ∧ (kind < 6 → Completes (.ceRateCheck kind inst rise) s fun t => t.mem = s.mem ∧ ∃ r, t.flying = s.flying ++ [r] ∧ r.kind = 0
              ∧ r.code = (cePage kind inst).1.page.cls * 256 + (cePage kind inst).2 ∧ r.halt = false)))
    ∧ (∀ phys w, w = packStrikes (s.liveStrikes phys) →
        (w = s.srvRd phys 0x090 → exec (.strikeExpiry phys) s = .next s) ∧ (w ≠ s.srvRd phys 0x090 → exec (.strikeExpiry phys) s = .next ((s.srvWr phys 0x090 w).survTouch false)))
    ∧ (∀ room k v, room < 0x10000 → k < 8 →
        (s.dark room = true → exec (.cvuRunWrite room k v) s = .next s)
        ∧ (s.dark room = false →
          (s.dwRuns room k = false ∨ s.suiteHalted room = true → exec (.cvuRunWrite room k v) s = .next (s.wr (rp .cvu room) (0x200 + 8 * k) v))
          ∧ (s.dwRuns room k = true → s.suiteHalted room = false → TurnedAway (.cvuRunWrite room k v) s (rp .cvu room) 7)))
    ∧ (∀ c k v, c < 32 →
        (k < 4 → s.lsEn c k = false → exec (.cvuRunWrite (0x10000 + c) k v) s = .next (s.wr (cvuxPage (64 + c)) (0x100 + 8 * k) v))
        ∧ (4 ≤ k ∨ s.lsEn c k = true → TurnedAway (.cvuRunWrite (0x10000 + c) k v) s (cvuxPage (64 + c)) 1))

/-- Bring-up, House resets and the Survey. Bring-up begins at power-on, passes from step to step, and ends READY, or FAILED with its cause where a
step fails or is not done by its time. A House reset takes its key, leaves flash and the source, and starts bring-up from step 2. A Room that is not
mapped is marked bad at once; due changes are committed into one copy of the Survey; and seams and channels retrain, come back, or after a third
failed attempt stay out (R550 to R552, R555, R556, R558, R566, R570, R571, R576, R588, R592, R601). -/
def Obligations.BringUp : Prop :=
  ∀ (s : State), (∀ k, s.gated (celPage k) = false) →
    (s.srvState ≠ 0 ∨ s.bringStep ≠ 0 ∨ s.rim.pinLow = true → exec .powerOn s = .next s)
    ∧ (s.srvState = 0 → s.bringStep = 0 → s.rim.pinLow = false → Completes .powerOn s fun t => t.bringStep = 1 ∧ t.srvState = 1 ∧ t.et = 0 ∧ t.rim.powered = true ∧ t.mem = s.mem)
    ∧ (∀ cause g, cause < 256 → g = s.bringFail cause → g.srvState = 4 ∧ g.rdF srvg 0x080 39 32 = cause ∧ g.bringStep = s.bringStep ∧ tst (g.rd srvg 0x028) 1 = true ∧ g.mem = s.mem)
    ∧ (s.bringing = false ∨ s.et ≤ msToEt (stepLimit s.bringStep) → exec .bringupTimeout s = .next s)
    ∧ (s.bringing = true → msToEt (stepLimit s.bringStep) < s.et → exec .bringupTimeout s = .next (s.bringFail 1))
    ∧ (∀ ok ns ws,
        (s.bringing = false → exec (.bringupStep ok ns ws) s = .next s)
        ∧ (s.bringing = true → msToEt (stepLimit s.bringStep) < s.et → exec (.bringupStep ok ns ws) s = .next (s.bringFail 1))
        ∧ (s.bringing = true → s.et ≤ msToEt (stepLimit s.bringStep) →
          (s.bringStep = 5 → s.rim.jtag.drive ≠ 0 → exec (.bringupStep ok ns ws) s = .next s)
          ∧ (s.bringStep ≠ 5 → ok = false → exec (.bringupStep ok ns ws) s = .next (s.bringFail 3))
          ∧ (ok = true →
            (s.bringStep = 1 → exec (.bringupStep ok ns ws) s = .next (s.setStep 2))
            ∧ (s.bringStep = 2 → ns.getD 0 0 % 4 = 0 → Completes (.bringupStep ok ns ws) s fun t => t.srvState = 4 ∧ t.rdF srvg 0x080 39 32 = 4)
            ∧ (s.bringStep = 2 → ns.getD 0 0 % 4 ≠ 0 → Completes (.bringupStep ok ns ws) s fun t => t.bringStep = 3 ∧ fld (t.rd clkg 0x080) 1 0 = ns.getD 0 0 % 4 ∧ t.mem = s.mem)
            ∧ (s.bringStep = 3 → ns.getD 0 0 = 0 → ns.getD 1 0 = 0 → Completes (.bringupStep ok ns ws) s fun t => t.srvState = 5 ∧ t.bringStep = 3 ∧ t.mem = s.mem)
            ∧ (s.bringStep = 12 → Completes (.bringupStep ok ns ws) s fun t => t.bringStep = 13 ∧ t.mem = s.mem
                ∧ ∀ k, k < 64 → t.rd ⟨.eav, k / 2⟩ (0x090 + 8 * (k % 2)) = smGet 0 s.rim.flash.macs k &&& maskOf 47 0)
            ∧ (s.bringStep = 13 → Completes (.bringupStep ok ns ws) s fun t => t.srvState = 3 ∧ tst (t.rd srvg 0x080) 63 = true ∧ tst (t.rd srvg 0x028) 0 = true ∧ t.mem = s.mem)
            ∧ (s.bringStep ∈ [4, 5, 6, 7, 8, 9, 10, 11] → (s.bringStep = 5 → s.rim.jtag.drive = 0) → ∀ t, s.bringWork ns ws = some t →
                exec (.bringupStep ok ns ws) s = .next (if t.bringing then t.setStep (t.bringStep + 1) else t)))))
    ∧ (∀ src g, src < 8 → g = s.houseReset src → (s.rim.powered = false → g = s)
        ∧ (s.rim.powered = true → g.mem = [] ∧ g.bricks = [] ∧ g.rooms = [] ∧ g.suites = [] ∧ g.pkts = [] ∧ g.et = 0 ∧ g.pending = s.pending ∧ g.rd (gp .rstg) 0x0A0 = BitVec.ofNat 64 src
            ∧ g.rim.flash.survA = s.rim.flash.survA ∧ g.rim.flash.survB = s.rim.flash.survB ∧ g.rim.flash.lastRst = src ∧ g.rim.jtag = s.rim.jtag
            ∧ (s.rim.pinLow = false → g.bringStep = 2 ∧ g.srvState = 1) ∧ (s.rim.pinLow = true → g.bringStep = 0 ∧ g.srvState = 0)))
    ∧ (∀ v, (fld v 15 0 ≠ 0x4853 → TurnedAway (.houseReset v) s (gp .rstg) 1)
        ∧ (fld v 15 0 = 0x4853 → s.rim.survNew = none → exec (.houseReset v) s = .next (s.houseReset 1))
        ∧ (fld v 15 0 = 0x4853 → s.rim.survNew ≠ none → exec (.houseReset v) s = .next (s.surveyCommit.houseReset 1)))
    ∧ exec .perst s = .next (s.houseReset 4) ∧ exec .porchWatchdog s = .next (s.houseReset 3)
    ∧ (s.rim.pinLow = true → exec .resetPin s = .next s)
    ∧ (s.rim.pinLow = false → exec .resetPin s = .next (State.houseReset { s with rim := { s.rim with pinLow := true } } 2))
    ∧ (s.rim.pinLow = false → exec .resetPinRise s = .next s)
    ∧ (s.rim.pinLow = true → Completes .resetPinRise s fun t => t.rim.pinLow = false ∧ t.bringStep = 2 ∧ t.et = 0 ∧ t.mem = s.mem)
    ∧ (∀ phys, (20736 ≤ phys → TurnedAway (.markBad phys) s srvg 8)
        ∧ (phys < 20736 → s.mapped phys = true → Completes (.markBad phys) s fun t => phys ∈ t.rim.badPend ∧ (∀ q, q ∈ s.rim.badPend → q ∈ t.rim.badPend) ∧ t.regs = s.regs ∧ t.mem = s.mem)
        ∧ (phys < 20736 → s.mapped phys = false → s.isBad phys = true → exec (.markBad phys) s = .next s)
        ∧ (phys < 20736 → s.mapped phys = false → s.isBad phys = false → Completes (.markBad phys) s fun t =>
            t.isBad phys = true ∧ tst (t.rd cvug 0x028) 5 = true ∧ t.rim.survNew ≠ none ∧ t.mem = s.mem))
    ∧ ((s.rim.survNew = none → exec .surveyCommit s = .next s) ∧ (∀ b, s.rim.survNew = some b → s.et < b → exec .surveyCommit s = .next s)
        ∧ (∀ b, s.rim.survNew = some b → b ≤ s.et → Completes .surveyCommit s fun t => t.rim.survNew = none ∧ t.mem = s.mem
            ∧ (∃ c, (if s.commitToB then t.rim.flash.survB else t.rim.flash.survA) = some c ∧ c.recs = s.rim.surv ∧ c.weights = s.rim.weights ∧ c.masks = s.remap ∧ t.rim.flash.scnt = c.gen)
            ∧ (if s.commitToB then t.rim.flash.survA = s.rim.flash.survA else t.rim.flash.survB = s.rim.flash.survB)))
    ∧ (Completes .commit s fun t => (∃ b, t.rim.survNew = some b ∧ b ≤ s.et) ∧ t.regs = s.regs ∧ t.mem = s.mem)
    ∧ (∀ w d, w < 64 → d < 4 →
        (wingBeside w d = none ∨ s.seamRetraining w d = true ∨ s.seamRuns w d = true → TurnedAway (.retrainSeam w d) s srvg 8)
        ∧ (wingBeside w d ≠ none → s.seamRetraining w d = false → s.seamRuns w d = false → Completes (.retrainSeam w d) s fun t =>
            t.seamRetraining w d = true ∧ t.rdF (halw w) (halwSeam d) 15 15 = 0 ∧ (∀ v, wingBeside w d = some v → t.seamRetraining v ((d + 2) % 4) = true) ∧ t.mem = s.mem)
        ∧ (s.isArmed srvg 7 = false →
          (s.seamRetraining w d = false → ∀ good, exec (.retrainAttemptEnd (0x1000 + 4 * w + d) good) s = .next s)
          ∧ (s.seamRetraining w d = true → wingBeside w d ≠ none → Completes (.retrainAttemptEnd (0x1000 + 4 * w + d) true) s fun t =>
              t.seamRetraining w d = false ∧ t.rdF (halw w) (halwSeam d) 15 15 = 1 ∧ t.rdF (halw w) (halwSeam d) 7 0 = 0x44 ∧ t.mem = s.mem)
          ∧ (s.seamRetraining w d = true → wingBeside w d ≠ none →
            (smGet 0 s.rim.retrTry (seamKey w d) + 1 < 3 → Completes (.retrainAttemptEnd (0x1000 + 4 * w + d) false) s fun t =>
                t.seamRetraining w d = true ∧ smGet 0 t.rim.retrTry (seamKey w d) = smGet 0 s.rim.retrTry (seamKey w d) + 1 ∧ t.regs = s.regs ∧ t.mem = s.mem)
            ∧ (3 ≤ smGet 0 s.rim.retrTry (seamKey w d) + 1 → Completes (.retrainAttemptEnd (0x1000 + 4 * w + d) false) s fun t =>
                t.seamRetraining w d = false ∧ tst (t.rd srvg 0x028) 7 = true ∧ smGet 0 t.rim.fenceAsk w ≠ 0 ∧ t.mem = s.mem))))
    ∧ (∀ stack ch k, stack < 48 → ch < 32 → k = stack * 32 + ch →
        (s.fitted stack = false ∨ s.rim.retrCh.contains k = true ∨ s.rim.outCh.contains k = true → TurnedAway (.retrainChannel stack ch) s srvg 8)
        ∧ (s.fitted stack = true → s.rim.retrCh.contains k = false → s.rim.outCh.contains k = false → Completes (.retrainChannel stack ch) s fun t =>
            t.rim.retrCh = s.rim.retrCh ++ [k] ∧ tst (t.rd (celPage stack) 0x080) ch = false ∧ tst (t.rd (celPage stack) 0x028) 2 = true ∧ t.mem = s.mem)
        ∧ (∀ errs, (s.fitted stack = false ∨ errs ≤ 16 → exec (.channelOutOfService stack ch errs) s = .next s)
            ∧ (s.fitted stack = true → 16 < errs → exec (.channelOutOfService stack ch errs) s = .next (s.startChannel stack ch)))
        ∧ (s.rim.retrCh.contains k = false → ∀ good, exec (.retrainAttemptEnd k good) s = .next s)
        ∧ (s.rim.retrCh.contains k = true → s.isArmed srvg 7 = false →
          (s.isArmed (ecccPage stack) 4 = false → Completes (.retrainAttemptEnd k true) s fun t =>
              k ∉ t.rim.retrCh ∧ tst (t.rd (celPage stack) 0x080) ch = true ∧ smGet 0 t.rim.retrTry k = 0 ∧ t.mem = s.mem)
          ∧ (smGet 0 s.rim.retrTry k + 1 < 3 → Completes (.retrainAttemptEnd k false) s fun t =>
              t.rim.retrCh = s.rim.retrCh ∧ smGet 0 t.rim.retrTry k = smGet 0 s.rim.retrTry k + 1 ∧ t.regs = s.regs ∧ t.mem = s.mem)
          ∧ (3 ≤ smGet 0 s.rim.retrTry k + 1 → Completes (.retrainAttemptEnd k false) s fun t => k ∉ t.rim.retrCh ∧ tst (t.rd srvg 0x028) 7 = true ∧ t.mem = s.mem)))

/-- Power delivery. A Room is powered only in a place that has one, under a Chimney that regulates, untripped and cooled; its header closes stage by
stage, and a good decoder makes it ON, a bad one opens it and marks the Room bad. Trims are refused outside their range or under a running Suite.
Input, output, sense and coolant samples are kept; an input out of range shuts the module down, a Chimney fault stands as STATE 3 until a RESTART and
asks for its Wing's fence, and a coolant fault or a leak is recorded and bars ROOM_ON until it is cleared (R513, R514, R516, R517, R519, R521, R522,
R524 to R526, R528 to R530). -/
def Obligations.PowerDelivery : Prop :=
  ∀ (s : State),
    (∀ room w, room < 2 ^ 16 → w = s.wingOf room →
      (s.pwrHeld room = true ∨ s.rdF (pwrw w) 0x080 63 61 ≠ 2 ∨ s.pwrState room = 3 ∨ s.rim.coolBad = true → TurnedAway (.roomOn room) s (pwr room) 1)
      ∧ (s.pwrHeld room = false → s.rdF (pwrw w) 0x080 63 61 = 2 → s.rim.coolBad = false →
        (s.pwrState room = 1 ∨ s.pwrState room = 2 → exec (.roomOn room) s = .next s)
        ∧ (s.pwrState room = 0 → Completes (.roomOn room) s fun t => t.pwrState room = 1 ∧ t.rdF (pwr room) 0x080 60 58 = 1 ∧ (t.room room).stage = s.et
            ∧ fld (t.rd (pwr room) 0x088) 7 0 = fld (s.srvRd (s.physOf room) 0x080) 47 40 ∧ fld (t.rd (pwr room) 0x088) 15 8 = fld (s.srvRd (s.physOf room) 0x080) 39 32 ∧ t.mem = s.mem))
      ∧ (s.suiteIdle room = false → TurnedAway (.roomOff room) s (pwr room) 1)
      ∧ (s.suiteIdle room = true → (s.pwrState room = 0 ∨ s.pwrState room = 3 → exec (.roomOff room) s = .next s)
          ∧ (s.pwrState room = 1 ∨ s.pwrState room = 2 → Completes (.roomOff room) s fun t => t.pwrState room = 0))
      ∧ (s.pwrState room ≠ 1 ∨ 4 ≤ s.rdF (pwr room) 0x080 60 58 ∨ s.et < (s.room room).stage + usToEt 2 → exec (.headerStage room) s = .next s)
      ∧ (s.pwrState room = 1 → s.rdF (pwr room) 0x080 60 58 < 4 → (s.room room).stage + usToEt 2 ≤ s.et → Completes (.headerStage room) s fun t =>
          t.rdF (pwr room) 0x080 60 58 = s.rdF (pwr room) 0x080 60 58 + 1 ∧ t.pwrState room = 1 ∧ (t.room room).stage = s.et ∧ t.mem = s.mem)
      ∧ (∀ bad, (s.pwrState room ≠ 1 ∨ s.rdF (pwr room) 0x080 60 58 ≠ 4 → exec (.roomPowerGood room bad) s = .next s)
        ∧ (s.pwrState room = 1 → s.rdF (pwr room) 0x080 60 58 = 4 → s.isArmed (rp .ecc room) 2 = false →
          (bad = false → Completes (.roomPowerGood room bad) s fun t => t.pwrState room = 2 ∧ tst (t.rd (pwr room) 0x028) 0 = true ∧ t.mem = s.mem)
          ∧ (bad = true → Completes (.roomPowerGood room bad) s fun t =>
              t.pwrState room = 0 ∧ tst (t.rd (rp .ecc room) 0x028) 2 = true ∧ t.isBad (s.physOf room) = true ∧ t.mem = s.mem)))
      ∧ (s.pwrState room ≠ 3 → exec (.tripClr room) s = .next s)
      ∧ (s.pwrState room = 3 → (1440 ≤ sgn 16 (s.rdF (pwr room) 0x090 15 0) → TurnedAway (.tripClr room) s (pwr room) 1)
          ∧ (sgn 16 (s.rdF (pwr room) 0x090 15 0) < 1440 → exec (.tripClr room) s = .next (s.wr (pwr room) 0x080 0)))
      ∧ (∀ v x, x = setFld (s.rd (pwr room) 0x088) 15 8 (fld v 15 8) →
          (s.suiteIdle room = false ∨ 8 < fld v 15 8 ∨ trimMv x < -50 ∨ 50 < trimMv x → TurnedAway (.vtrimWrite room v) s (pwr room) 1)
          ∧ (s.suiteIdle room = true → fld v 15 8 ≤ 8 → -50 ≤ trimMv x → trimMv x ≤ 50 → Completes (.vtrimWrite room v) s fun t =>
              fld (t.rd (pwr room) 0x088) 15 8 = fld v 15 8 ∧ fld (t.rd (pwr room) 0x088) 7 0 = fld (s.rd (pwr room) 0x088) 7 0 ∧ t.mem = s.mem))
      ∧ (Completes (.tmaxClear room) s fun t => t.rdF (pwr room) 0x090 31 16 = s.rdF (pwr room) 0x090 15 0 ∧ t.rdF (pwr room) 0x090 15 0 = s.rdF (pwr room) 0x090 15 0 ∧ t.mem = s.mem))
    ∧ (∀ vin iin, vin < 2 ^ 16 → iin < 2 ^ 16 → s.isArmed pwrg 0 = false → Completes (.inputSample vin iin) s fun t => t.rdF pwrg 0x080 15 0 = vin ∧ t.rdF pwrg 0x080 31 16 = iin ∧ t.mem = s.mem
        ∧ (3600 ≤ vin → vin < 4000 → (s.rdF pwrg 0x080 15 0 < 3600 ∨ 4000 ≤ s.rdF pwrg 0x080 15 0) → tst (t.rd pwrg 0x028) 0 = true)
        ∧ (3600 ≤ vin → vin ≤ 6200 → t.rim.vinBad = none) ∧ (vin < 3600 ∨ 6200 < vin → s.rim.vinBad = none → t.rim.vinBad = some s.et))
    ∧ (s.rim.vinBad = none → exec .inputShutdown s = .next s)
    ∧ (∀ b us, s.rim.vinBad = some b → us = (if s.rdF pwrg 0x080 15 0 < 3600 then 100 else 10) →
        (s.et < b + usToEt us → exec .inputShutdown s = .next s)
        ∧ (b + usToEt us ≤ s.et → Completes .inputShutdown s fun t => t.rim.powered = false ∧ t.mem = [] ∧ t.suites = [] ∧ t.rooms = [] ∧ t.bricks = [] ∧ t.pkts = [] ∧ t.regs = [] ∧ t.pending = s.pending
            ∧ t.rim.flash.survA = s.rim.flash.survA ∧ t.rim.flash.survB = s.rim.flash.survB))
    ∧ (∀ w, w < 64 →
      (∀ ph vout iout, ph < 64 → vout < 2 ^ 16 → iout < 2 ^ 12 → Completes (.chimneySample w ph vout iout) s fun t =>
          t.rdF (pwrw w) 0x080 59 54 = ph ∧ t.rdF (pwrw w) 0x080 31 16 = vout ∧ t.rdF (pwrw w) 0x080 11 0 = iout ∧ t.rdF (pwrw w) 0x080 63 61 = s.rdF (pwrw w) 0x080 63 61
          ∧ t.rd (pwrw w) 0x0A0 = s.rd (pwrw w) 0x0A0 + BitVec.ofNat 64 ((smGet 0 s.rim.energy w + vout * iout) / 400000) ∧ t.mem = s.mem)
      ∧ (∀ st temp, s.isArmed (pwrw w) 2 = false →
          (s.chimneyWarm w temp = false → exec (.pmbusPoll w st temp) s = .next (s.wr (pwrw w) 0x0A8 (put 31 16 temp ||| put 15 0 st)))
          ∧ (s.chimneyWarm w temp = true → Completes (.pmbusPoll w st temp) s fun t =>
              t.rd (pwrw w) 0x0A8 = (put 31 16 temp ||| put 15 0 st) ∧ tst (t.rd (pwrw w) 0x028) 2 = true ∧ t.mem = s.mem))
      ∧ (s.rdF (pwrw w) 0x080 63 61 = 0 ∨ s.rdF (pwrw w) 0x080 63 61 = 3 → exec (.pwrChimneyFault w) s = .next s)
      ∧ (s.rdF (pwrw w) 0x080 63 61 ≠ 0 → s.rdF (pwrw w) 0x080 63 61 ≠ 3 → Completes (.pwrChimneyFault w) s fun t =>
          t.rdF (pwrw w) 0x080 63 61 = 3 ∧ tst (t.rd (pwrw w) 0x028) 3 = true ∧ smGet 0 t.rim.fenceAsk w ≠ 0)
      ∧ (s.rdF (pwrw w) 0x080 63 61 ≠ 3 → ∀ still, exec (.chimneyRestart w still) s = .next s)
      ∧ (s.rdF (pwrw w) 0x080 63 61 = 3 → TurnedAway (.chimneyRestart w true) s (pwrw w) 4
          ∧ Completes (.chimneyRestart w false) s fun t => t.rdF (pwrw w) 0x080 63 61 = 1 ∧ smGet 0 t.rim.railTo w = s.railAt w (s.railRate w) ∧ t.mem = s.mem)
      ∧ (smGet 0 s.rim.railTo w = 0 → exec (.railReached w) s = .next s)
      ∧ (smGet 0 s.rim.railTo w ≠ 0 → smGet 0 s.rim.railTo w < 2 ^ 16 → Completes (.railReached w) s fun t =>
          t.rdF (pwrw w) 0x088 31 16 = smGet 0 s.rim.railTo w ∧ smGet 0 t.rim.railTo w = 0 ∧ t.mem = s.mem
          ∧ t.rdF (pwrw w) 0x080 63 61 = (if s.rdF (pwrw w) 0x080 63 61 = 1 then 2 else s.rdF (pwrw w) 0x080 63 61))
      ∧ (∀ q0 q1 q2 q3, q0 < 2 ^ 16 → q1 < 2 ^ 16 → q2 < 2 ^ 16 → q3 < 2 ^ 16 →
          (Completes (.senseCheck w q0 q1 q2 q3) s fun t => t.rd (pwrw w) 0x090 = ofLanes 16 [q0, q1, q2, q3] ∧ t.mem = s.mem)
          ∧ (s.isArmed (pwrw w) 0 = false → s.isArmed (pwrw w) 1 = false → s.rdF (pwrw w) 0x080 11 0 < 4 * s.rdF (pwrw w) 0x098 35 24 →
              exec (.senseCheck w q0 q1 q2 q3) s = .next (s.wr (pwrw w) 0x090 (ofLanes 16 [q0, q1, q2, q3])))
          ∧ (s.isArmed (pwrw w) 1 = true → tst (s.rd (pwrw w) 0x098) 0 = true → 4 * s.rdF (pwrw w) 0x098 35 24 ≤ s.rdF (pwrw w) 0x080 11 0 →
              Completes (.senseCheck w q0 q1 q2 q3) s fun t => tst (t.rd (pwrw w) 0x028) 1 = true ∧ smGet 0 t.rim.fenceAsk w ≠ 0)))
    ∧ (∀ flow tin tout l f ti, flow < 2 ^ 16 → tin < 2 ^ 16 → tout < 2 ^ 16 → l = (s.rim.flow ++ [(flow, tin, tout)]).drop (s.rim.flow.length + 1 - 10) → f = meanOf (l.map Prod.fst) →
        ti = meanOf (l.map fun e => e.2.1) → Completes (.coolantSample flow tin tout) s fun t => t.rim.flow = l ∧ t.rdF pwrg 0x088 15 0 = f % 2 ^ 16 ∧ t.rdF pwrg 0x088 31 16 = ti % 2 ^ 16 ∧ t.mem = s.mem
          ∧ (10 * s.rdF pwrg 0x090 7 0 ≤ f → t.rim.flowLow = none) ∧ (f < 10 * s.rdF pwrg 0x090 7 0 → s.rim.flowLow = none → t.rim.flowLow = some s.et)
          ∧ (ti ≤ 450 → t.rim.hotIn = none) ∧ (450 < ti → s.rim.hotIn = none → t.rim.hotIn = some s.et))
    ∧ (s.isArmed pwrg 2 = false → (s.rim.coolBad = true ∨ (s.rim.flowLow = none ∧ s.rim.hotIn = none) → exec .pwrCoolantFault s = .next s)
        ∧ (∀ b, s.rim.coolBad = false → s.rim.flowLow = some b ∨ s.rim.hotIn = some b → b + 156250000 ≤ s.et → Completes .pwrCoolantFault s fun t =>
            t.rim.coolBad = true ∧ tst (t.rd pwrg 0x028) 2 = true ∧ ∃ r, r ∈ t.flying ∧ r.code = Page.pwrg.cls * 256 + 0x12))
    ∧ (s.isArmed pwrg 3 = false → exec (.pwrLeak false) s = .next (s.wrF pwrg 0x088 63 63 0)
        ∧ (tst (s.rd pwrg 0x088) 63 = true → exec (.pwrLeak true) s = .next (s.wrF pwrg 0x088 63 63 1))
        ∧ (tst (s.rd pwrg 0x088) 63 = false → Completes (.pwrLeak true) s fun t =>
            t.rim.coolBad = true ∧ tst (t.rd pwrg 0x028) 3 = true
            ∧ ((∀ i u r, s.suite i = some u → r ∈ u.rooms → r < 16384) → tst (t.rd pwrg 0x088) 63 = true) ∧ ∃ r, r ∈ t.flying ∧ r.code = Page.pwrg.cls * 256 + 0x13))
    ∧ (s.rim.flowLow ≠ none ∨ s.rim.hotIn ≠ none ∨ tst (s.rd pwrg 0x088) 63 = true → TurnedAway .pwrgClear s pwrg 4)
    ∧ (s.rim.flowLow = none → s.rim.hotIn = none → tst (s.rd pwrg 0x088) 63 = false → exec .pwrgClear s = .next { s with rim := { s.rim with coolBad := false } })

/-- References, PLLs and rate switches. The active reference is replaced by a good one where AUTO says so; otherwise it is lost and READY clears. A
Wing that loses lock stops, resets its Suites, and runs again from a core that locks within 1 ms, or is fenced. A rate switch is refused above Fmax,
for no Suite, while one is pending or with a STEP out of place; accepted, it waits for its cores, and when its freeze is over the Suite runs at the
new rate. The clocks of the flash, the PMBus and the sensors stay on (R533, R534, R537, R539 to R542, R544, R546 to R548, R566). The Suite table and
the remap stage. DEFINE and DELETE wait for none: while one is in progress another is refused; a DEFINE that breaks R26 and a DELETE of no Suite, of
one with an arrangement or a running stream, or of one in reset are refused with the rule; otherwise the Suite enters or leaves the table. REMAP acts
only where a restart has reached it, applies only the remap that R561 allows and R563 gives, and halts first a running Suite whose links it would
change (R26, R27, R561, R563 to R567, R612, R613). -/
def Obligations.ClockSwitches : Prop :=
  (∀ (s : State),
      (∀ ref w g, ref < 2 → w = s.rd clkg 0x080 → g = s.wr clkg 0x080 (clrBit w ref) → s.isArmed clkg 0 = false →
          (ref ≠ fld w 3 3 → tst w (fld w 3 3) = true → exec (.clkRefFail ref) s = .next g)
          ∧ (ref ≠ fld w 3 3 → tst w (fld w 3 3) = false → exec (.clkRefFail ref) s = .next g.refLost)
          ∧ (ref = fld w 3 3 → tst w 5 = true → tst w (1 - ref) = true → Completes (.clkRefFail ref) s fun t =>
              fld (t.rd clkg 0x080) 3 3 = 1 - ref ∧ tst (t.rd clkg 0x080) ref = false ∧ tst (t.rd clkg 0x028) 0 = true ∧ t.mem = s.mem ∧ t.suites = s.suites)
          ∧ (ref = fld w 3 3 → tst w 5 = false ∨ tst w (1 - ref) = false → Completes (.clkRefFail ref) s fun t =>
              tst (t.rd srvg 0x080) 63 = false ∧ t.rim.refGone = true ∧ tst (t.rd clkg 0x028) 0 = true ∧ tst (t.rd clkg 0x028) 1 = true ∧ t.mem = s.mem))
      ∧ (∀ v, Completes (.refSelect v) s fun t => fld (t.rd clkg 0x080) 5 4 = fld v 5 4 ∧ fld (t.rd clkg 0x080) 1 0 = s.rdF clkg 0x080 1 0 ∧ t.mem = s.mem
          ∧ fld (t.rd clkg 0x080) 3 3 = if tst (s.rd clkg 0x080) (fld v 4 4) then fld v 4 4 else s.rdF clkg 0x080 3 3)
      ∧ (∀ w, w < 64 →
          (smGet 0 s.rim.clkStop w ≠ 0 → exec (.clkLockLost w) s = .next s)
          ∧ (smGet 0 s.rim.clkStop w = 0 → Completes (.clkLockLost w) s fun t => smGet 0 t.rim.clkStop w = s.et + 1 ∧ tst (t.rd (clkw w) 0x028) 0 = true ∧ ∃ r, r ∈ t.flying ∧ r.code = Page.clkw.cls * 256 + 1)
          ∧ (∀ core, core < 2 →
            (smGet 0 s.rim.clkStop w = 0 ∨ smGet 0 s.rim.clkStop w - 1 + usToEt 1000 < s.et → exec (.relock w core) s = .next s)
            ∧ (smGet 0 s.rim.clkStop w ≠ 0 → s.et ≤ smGet 0 s.rim.clkStop w - 1 + usToEt 1000 → Completes (.relock w core) s fun t =>
                smGet 0 t.rim.clkStop w = 0 ∧ tst (t.rd (clkw w) 0x080) (lockBit core) = true ∧ fld (t.rd (clkw w) 0x080) 45 45 = core ∧ t.mem = s.mem))
          ∧ (smGet 0 s.rim.clkStop w = 0 ∨ s.et < smGet 0 s.rim.clkStop w - 1 + usToEt 1000 → exec (.relockTimeout w) s = .next s)
          ∧ (smGet 0 s.rim.clkStop w ≠ 0 → smGet 0 s.rim.clkStop w - 1 + usToEt 1000 ≤ s.et → Completes (.relockTimeout w) s fun t => smGet 0 t.rim.fenceAsk w ≠ 0 ∧ t.regs = s.regs ∧ t.mem = s.mem)
          ∧ (s.suiteOfPhys w = none → exec (.coreLocked w) s = .next s)
          ∧ (∀ i, s.suiteOfPhys w = some i → (s.rateSw i = none → exec (.coreLocked w) s = .next s)
            ∧ (∀ r, s.rateSw i = some r → (r.phase ≠ 1 ∨ w ∈ r.locks → exec (.coreLocked w) s = .next s)
              ∧ (r.phase = 1 → w ∉ r.locks → Completes (.coreLocked w) s fun t => t.rateSw i = some { r with locks := r.locks ++ [w] }
                  ∧ tst (t.rd (clkw w) 0x080) (lockBit (1 - s.rdF (clkw w) 0x080 45 45)) = true ∧ t.mem = s.mem ∧ t.suites = s.suites))))
      ∧ (∀ i v off, i < 64 → off = 0x400 + 8 * i → s.isArmed clkg 3 = false →
          (tst v 63 = false → Completes (.rateSwitch i v) s fun t => fld (t.rd clkg off) 55 0 = fld v 55 0 ∧ t.rim = s.rim ∧ t.mem = s.mem)
          ∧ (tst v 63 = true → s.suite i = none → Completes (.rateSwitch i v) s fun t => tst (t.rd clkg 0x028) 3 = true ∧ tst (t.rd clkg off) 63 = false ∧ t.rim = s.rim ∧ t.mem = s.mem)
          ∧ (∀ u, tst v 63 = true → s.suite i = some u →
            (fld v 55 48 < 36 ∨ s.fmin u < fld v 55 48 → Completes (.rateSwitch i v) s fun t => tst (t.rd clkg 0x028) 3 = true ∧ t.rim = s.rim ∧ t.suites = s.suites ∧ t.mem = s.mem)
            ∧ (36 ≤ fld v 55 48 → fld v 55 48 ≤ s.fmin u →
              (s.rateSw i ≠ none → TurnedAway (.rateSwitch i v) s clkg 3)
              ∧ (s.rateSw i = none → fld v 47 0 ≠ stepAsap → u.mode ≠ 0 ∨ u.run ≠ 2 → Completes (.rateSwitch i v) s fun t =>
                  tst (t.rd clkg 0x028) 3 = true ∧ tst (t.rd clkg off) 63 = false ∧ t.rim = s.rim ∧ t.suites = s.suites ∧ t.mem = s.mem)
              ∧ (s.rateSw i = none → fld v 47 0 = stepAsap ∨ (u.mode = 0 ∧ u.run = 2) → Completes (.rateSwitch i v) s fun t =>
                  t.rateSw i = some ⟨fld v 55 48, if fld v 47 0 = stepAsap then none else some (fld v 47 0), [], 1, decide (u.run = 2)⟩ ∧ tst (t.rd clkg off) 63 = true
                  ∧ (∀ w, w ∈ s.suiteWings u → fld (t.rd (clkw w) 0x080) 55 48 = fld v 55 48 ∧ tst (t.rd (clkw w) 0x080) 44 = true) ∧ t.suites = s.suites ∧ t.mem = s.mem)))
          ∧ (∀ bad, (s.suite i = none ∨ s.rateSw i = none → exec (.clkSwitchDone i bad) s = .next s)
            ∧ (∀ u r, s.suite i = some u → s.rateSw i = some r →
              (r.phase ≠ 2 ∨ (u.wins.any fun w => decide (w.cause = 0) && w.covers u.clk) = true → exec (.clkSwitchDone i bad) s = .next s)
              ∧ (r.phase = 2 → (u.wins.any fun w => decide (w.cause = 0) && w.covers u.clk) = false → r.rate < 256 → (∀ w, w ∈ s.suiteWings u → s.isArmed (clkw w) 1 = false) → bad = [] →
                  Completes (.clkSwitchDone i bad) s fun t => t.suite i = some { u with rate := r.rate } ∧ t.rateSw i = none ∧ tst (t.rd clkg 0x028) 2 = true ∧ tst (t.rd clkg off) 63 = false
                    ∧ (∀ w, w ∈ s.suiteWings u → fld (t.rd (clkw w) 0x080) 63 56 = r.rate ∧ fld (t.rd (clkw w) 0x080) 55 48 = 0) ∧ (∀ j, j ≠ i → t.suite j = s.suite j) ∧ t.mem = s.mem))))
      ∧ (∀ v fixed, fixed = (put 4 4 1 ||| put 5 5 1 ||| put 10 10 1 : BitVec 64) →
          exec (.peripheralGate v true) s = .next (s.wr clkg 0x090 (v &&& maskOf 10 0))
          ∧ (Completes (.peripheralGate v false) s fun t => t.rd clkg 0x090 = (v &&& maskOf 10 0) ||| (s.rd clkg 0x090 &&& fixed) ∧ t.rim = s.rim ∧ t.mem = s.mem
              ∧ (s.rd clkg 0x090 &&& fixed &&& ~~~ v ≠ 0 → tst (t.rd clkg 0x028) 4 = true))))
  ∧
  (∀ (s : State),
      (∀ v, s.rim.pchsBusy ≠ none → TurnedAway (.define v) s (gp .pchs) 1 ∧ TurnedAway (.delete v) s (gp .pchs) 1)
      ∧ (∀ v i u, s.rim.pchsBusy = none → i = fld v 53 48 → u = Suite.fresh (fld v 14 12) (fld v 10 8) (fld v 6 4) (fld v 2 0) →
          (s.defineRule i u ≠ 0 → exec (.define v) s = .next (s.pchsRefuse i (s.defineRule i u)))
          ∧ (s.defineRule i u = 0 → Completes (.define v) s fun t => t.suite i = some u ∧ (∀ j, j ≠ i → t.suite j = s.suite j) ∧ fld (t.rd (gp .pchs) 0x088) 53 48 = i ∧ t.mem = s.mem ∧ t.pkts = s.pkts
              ∧ (t.rim.pchsBusy = none → tst (t.rd (gp .pchs) 0x028) 0 = true))
          ∧ (s.suite i = none → exec (.delete v) s = .next (s.pchsRefuse i 5))
          ∧ (∀ x, s.suite i = some x →
            (x.load ≠ none ∨ s.suiteLoaded x = true ∨ s.streamHalted x = false → exec (.delete v) s = .next (s.pchsRefuse i 6))
            ∧ (x.load = none → s.suiteLoaded x = false → s.streamHalted x = true → x.inReset = true → exec (.delete v) s = .next (s.pchsRefuse i 7))
            ∧ (x.load = none → s.suiteLoaded x = false → s.streamHalted x = true → x.inReset = false → Completes (.delete v) s fun t =>
                t.suite i = none ∧ ((∀ r, r ∈ x.rooms → s.pwrState r ≠ 2) → ∀ j, j ≠ i → t.suite j = s.suite j) ∧ tst (t.rd (gp .pchs) 0x028) 0 = true ∧ t.rd (gp .pchs) 0x088 = put 53 48 i)))
      ∧ (∀ i rule, i < 64 → rule < 256 → ∀ g, g = s.pchsRefuse i rule → g.rdF (gp .pchs) 0x088 53 48 = i ∧ g.rdF (gp .pchs) 0x088 7 0 = rule ∧ tst (g.rd (gp .pchs) 0x028) 1 = true ∧ g.suites = s.suites)
      ∧ (∀ masks failed us, ((∀ i, i < 64 → (s.restart i).st ≠ 2) → exec (.remap masks failed us) s = .next s)
          ∧ (∀ i g, i < 64 → (s.restart i).st = 2 → g = s.takePending → failed = 0 → g.askedRows = [] → ∀ m, m = maskList g.remap masks g.remap.fence →
            (g.remapValid m = false ∨ g.solved m = false → exec (.remap masks failed us) s = .next g)
            ∧ (g.remapValid m = true → g.solved m = true →
              (g.remapHits m ≠ [] → exec (.remap masks failed us) s = .next ((g.remapHits m).foldl (fun s i => s.startJobHalt i (Page.srvg.cls * 256) s.et) g))
              ∧ (g.remapHits m = [] → m = g.remap → exec (.remap masks failed us) s = .next g.agree)
              ∧ (g.remapHits m = [] → m ≠ g.remap → Completes (.remap masks failed us) s fun t => t = ((g.applyRemap m).remapDone us).agree ∧ t.remap = m ∧ tst (t.rd srvg 0x028) 5 = true)))))

/-- Resets of a Brick, a Room and a Suite, and the debug Sweep. A Brick reset is refused in a Room that is off, taken in by a Room reset, clears that
Brick alone otherwise, and halts a running stepped Suite; a Room reset halts its running Suite first, drains, gives up its packets after DRAIN_US, and
releases 64 cycles after it took hold; a Suite reset clears the Suite and ends with the last Room. A debug Sweep completes or fails with its cause,
and a trigger input acts where it is enabled (R578, R580, R581, R584, R585, R587, R590 to R592, R622 to R624, R630). -/
def Obligations.ScopedResets : Prop :=
  ∀ (s : State),
    (∀ room b, b < 64 →
      (s.roomOn room = false → TurnedAway (.goBrick room b) s (rst room) 3)
      ∧ (s.roomOn room = true → s.rstState room ≠ 0 → exec (.goBrick room b) s = .next s)
      ∧ (s.roomOn room = true → s.rstState room = 0 → Completes (.goBrick room b) s fun t =>
          t.brick room b = (s.brick room b).reset ∧ (∀ r c, brickKey r c ≠ brickKey room b → t.brick r c = s.brick r c) ∧ tst (t.rd (rst room) 0x028) 0 = true ∧ t.mem = s.mem ∧ t.pkts = s.pkts
          ∧ (∀ i u, s.suiteOf room = some i → s.suite i = some u → u.mode = 0 → u.run = 2 → tst (t.rd (rst room) 0x028) 2 = true)))
    ∧ (∀ room,
      (s.rstState room ≠ 0 → exec (.goRoom room) s = .next s)
      ∧ (s.rstState room = 0 → s.roomOn room = false → Completes (.goRoom room) s fun t =>
          tst (t.rd (rst room) 0x028) 0 = true ∧ t.rstState room = 0 ∧ t.rdF (rst room) 0x088 60 59 = 2 ∧ t.mem = s.mem ∧ t.rooms = s.rooms ∧ t.bricks = s.bricks)
      ∧ (s.rstState room = 0 → s.roomOn room = true → (∀ i u, s.suiteOf room = some i → s.suite i = some u → u.run ≠ 2) →
          exec (.goRoom room) s = .next (((s.wrF (rst room) 0x088 60 59 2).wrF (rst room) 0x088 63 61 1).resetBegin room))
      ∧ (∀ i u, s.rstState room = 0 → s.roomOn room = true → s.suiteOf room = some i → s.suite i = some u → u.run = 2 → Completes (.goRoom room) s fun t =>
          t.rstState room = 1 ∧ (t.room room).rstHalt = true ∧ tst (t.rd (rst room) 0x028) 4 = true ∧ t.mem = s.mem)
      ∧ (s.rstState room ≠ 1 ∨ (s.room room).rstHalt = true ∨ s.et < (s.room room).drain → exec (.rstDrainTimeout room) s = .next s)
      ∧ (s.rstState room = 1 → (s.room room).rstHalt = false → (s.room room).drain ≤ s.et → Completes (.rstDrainTimeout room) s fun t =>
          t.rstState room = 2 ∧ tst (t.rd (rst room) 0x028) 1 = true ∧ (∀ f, f ∈ t.pkts → f.waits room = false) ∧ (t.room room).resetAt = some (s.et + s.cyclesEt room 64))
      ∧ ((s.room room).resetAt = none ∨ s.rstState room ≠ 2 → exec (.roomResetRelease room) s = .next s)
      ∧ (∀ b, (s.room room).resetAt = some b → s.rstState room = 2 →
          (s.et < b → exec (.roomResetRelease room) s = .next s)
          ∧ (b ≤ s.et → Completes (.roomResetRelease room) s fun t => t.rstState room = 0 ∧ (t.room room).resetAt = none ∧ tst (t.rd (rst room) 0x028) 0 = true ∧ t.mem = s.mem ∧ t.pkts = s.pkts
            ∧ ∀ i u, s.suiteOf room = some i → s.suite i = some u → u.inReset = true → (∀ r, r ∈ u.rooms → r ≠ room → s.rstState r = 0) →
              t.suite i = some { u with inReset := false } ∧ tst (t.rd (gp .rstg) 0x098) i = false ∧ tst (t.rd (gp .rstg) 0x028) 0 = true)))
    ∧ (∀ v i, i = fld v 5 0 →
      (tst v 63 = false → exec (.suiteReset v) s = .next s)
      ∧ (tst v 63 = true → s.suite i = none → TurnedAway (.suiteReset v) s (gp .rstg) 1)
      ∧ (∀ u, tst v 63 = true → s.suite i = some u →
        (u.inReset = true → exec (.suiteReset v) s = .next s)
        ∧ (u.inReset = false → Completes (.suiteReset v) s fun t => t = s.suiteReset i ∧ ∃ x, t.suite i = some x ∧ x.run = 0 ∧ x.entries = [] ∧ x.rooms = u.rooms)))
    ∧ (tst (s.rd (gp .clkg) 0x090) 9 = true →
      (∀ bad, (tst (s.rd dbg 0x0B0) 62 = true ∨ s.dbgRooms = [] → exec (.debugSweepOut bad) s = .next s)
        ∧ (∀ r, tst (s.rd dbg 0x0B0) 62 = false → s.dbgRooms = [r] →
          (bad = 0 ∨ s.dbgImage 0 = none → Completes (.debugSweepOut bad) s fun t => tst (t.rd dbg 0x0B0) 63 = false ∧ tst (t.rd dbg 0x028) 3 = true ∧ t.mem = s.mem)
          ∧ (∀ a, bad ≠ 0 → s.dbgImage 0 = some a → Completes (.debugSweepOut bad) s fun t => tst (t.rd dbg 0x0B0) 63 = false ∧ tst (t.rd dbg 0x028) 2 = true
              ∧ smGet none t.rim.dbgImgs a = some (r, s.takeImage r (Sys2Proof.Config.freeAt s.free (2 ^ 40))))))
      ∧ (∀ bad crc, (tst (s.rd dbg 0x0B0) 62 = false ∨ s.dbgRooms = [] → exec (.debugSweepIn bad crc) s = .next s)
        ∧ (∀ r, tst (s.rd dbg 0x0B0) 62 = true → s.dbgRooms = [r] → s.isArmed dbg 3 = false →
          (bad = 0 ∨ s.dbgImage 0 = none → Completes (.debugSweepIn bad crc) s fun t => tst (t.rd dbg 0x0B0) 63 = false ∧ tst (t.rd dbg 0x028) 3 = true ∧ t.mem = s.mem ∧ t.bricks = s.bricks)
          ∧ (∀ a, bad ≠ 0 → s.dbgImage 0 = some a →
            (crc = 0 → Completes (.debugSweepIn bad crc) s fun t => tst (t.rd dbg 0x0B0) 63 = false ∧ tst (t.rd dbg 0x028) 3 = true ∧ t.mem = s.mem ∧ t.bricks = s.bricks)
            ∧ (crc ≠ 0 → exec (.debugSweepIn bad crc) s = .next (((s.putImage r (s.dbgImgAt r a)).wrF dbg 0x0B0 63 63 0).raise dbg 2 false)
              ∧ (∀ q img, smGet none s.rim.dbgImgs a = some (q, img) → s.dbgImgAt r a = img.move q r)
              ∧ (smGet none s.rim.dbgImgs a = none → s.dbgImgAt r a = s.imageAt r a)))))
      ∧ (∀ pin w, pin < 2 → w = s.rd dbg (0x0A0 + 8 * pin) →
        (s.dbgLocked = true ∨ fld w 63 62 ≠ 3 → exec (.trigInput pin) s = .next s)
        ∧ (s.dbgLocked = false → fld w 63 62 = 3 → ∀ g, g = s.raise dbg 0 false → tst (g.rd dbg 0x028) 0 = true
          ∧ (s.suite (fld w 59 54) = none → exec (.trigInput pin) s = .next g)
          ∧ (∀ u, s.suite (fld w 59 54) = some u → (u.run ≠ 2 → exec (.trigInput pin) s = .next g)
            ∧ (u.run = 2 → (fld w 61 60 = 1 → exec (.trigInput pin) s = .next (g.stallReq (fld w 59 54) 4 hostSrc 0))
              ∧ (fld w 61 60 = 2 → exec (.trigInput pin) s = .next (g.sendHalt (fld w 59 54) u.lead 15 0x1B01)))))))
    ∧ (tst (s.rd (gp .clkg) 0x090) 9 = false → ∀ pin, exec (.trigInput pin) s = .next s)

/-- The Porch. BAR2 reaches the staging SRAM in RECOVERY, nothing before bring-up, and otherwise the window, unless it is closed; an access no page
answers is reported after 20 µs; a request to host memory goes out, waits, or fails, and its completion answers the requester; a function-level reset
clears the function and leaves the engine. The mailbox services end with their result or REASON, a lock stays set, the management service reads and
asks, and pins and timers raise their events (R37, R551, R594 to R600, R616 to R618). -/
def Obligations.PorchServices : Prop :=
  ∀ (s : State),
    (∀ off n data, off < 2 ^ 36 →
      (s.srvState = 5 → exec (.bar2Access true off n data) s = .next (s.stageWrite off (data.take (2 ^ 24 - off)))
        ∧ exec (.bar2Access false off n data) s = .next (s.complete off ((List.range n).map fun k => if off + k < 2 ^ 24 then s.stageByte (off + k) else 0)))
      ∧ (s.srvState ≤ 1 → exec (.bar2Access true off n data) s = .next s ∧ exec (.bar2Access false off n data) s = .next (s.complete off (List.replicate n 0)))
      ∧ (1 < s.srvState → s.srvState ≠ 5 → s.isArmed pch 1 = false →
        (tst (s.rd pch 0x098) 63 = false → TurnedAway (.bar2Access true off n data) s pch 1
          ∧ Completes (.bar2Access false off n data) s fun t => tst (t.rd pch 0x028) 1 = true ∧ t.out = (s.trigEvent pch 1).out ++ [.completion off (List.replicate n 0)] ∧ t.mem = s.mem ∧ t.pkts = s.pkts)
        ∧ (tst (s.rd pch 0x098) 63 = true → 0 < n → n ≤ 992 → ∀ ea, ea = (s.rdF pch 0x098 47 30 * 2 ^ 30 + off) % 2 ^ 48 →
            exec (.bar2Access false off n data) s = .next (s.bar2Part false ea n off (data.take n))
            ∧ (data.length = n → exec (.bar2Access true off 0 data) s = .next (s.bar2Part true ea n off data))
            ∧ (∀ r o, s.decodeEa ea = .shelf r o → s.bar2Part false ea n off (data.take n)
                = s.requestEdge { mkRead (eidRoom r 1) porchEid (s.rdF pch 0x098 5 0) ea n with host := true } (.bar2Read off)))))
    ∧ (∀ addr write, addr < 2 ^ 32 → (s.decodeBar0 (addr / 8 * 8) = none → exec (.pchPageTimeout addr write) s = .next s)
      ∧ (∀ a, s.decodeBar0 (addr / 8 * 8) = some a → (s.answers a = false ∨ s.silent a.page = false → exec (.pchPageTimeout addr write) s = .next s)
        ∧ (s.answers a = true → s.silent a.page = true → Completes (.pchPageTimeout addr write) s fun t => tst (t.rd pch 0x028) 3 = true ∧ (write = false → t.busData = 0) ∧ (write = true → t.busData = s.busData) ∧ t.mem = s.mem)))
    ∧ (∀ k bme g, g = { s.wrF pch 0x0A8 17 17 (b2n bme) with rim := { s.rim with bme := bme } } →
      (s.rim.hostReqs[k]? = none → exec (.hostRequest k bme) s = .next g)
      ∧ (∀ h, s.rim.hostReqs[k]? = some h →
        (h.sent = true → exec (.hostRequest k bme) s = .next g)
        ∧ (h.sent = false → bme = false ∨ (h.pkt.typ ≠ 1 ∧ h.pkt.typ ≠ 2) → Completes (.hostRequest k bme) s fun t =>
            tst (t.rd pch 0x028) 2 = true ∧ t.rim.hostReqs = s.rim.hostReqs.eraseIdx k ∧ t.pkts = (s.injectEdge h.pkt.dst (h.reply none)).pkts ∧ t.out = (s.trigEvent pch 2).out ∧ t.mem = s.mem)
        ∧ (h.sent = false → bme = true → h.pkt.typ = 1 → Completes (.hostRequest k bme) s fun t => t.out = s.out ++ [.hostWrite ((s.rd pch 0x0A0).toNat + h.addr) h.pkt.data]
            ∧ t.rim.hostReqs = s.rim.hostReqs.eraseIdx k ∧ t.pkts = (s.injectEdge h.pkt.dst (h.pkt.ack 0)).pkts ∧ t.mem = s.mem)
        ∧ (h.sent = false → bme = true → h.pkt.typ = 2 →
          (512 ≤ (s.rim.hostReqs.filter fun x => x.sent).length → exec (.hostRequest k bme) s = .next g)
          ∧ ((s.rim.hostReqs.filter fun x => x.sent).length < 512 → Completes (.hostRequest k bme) s fun t =>
              t.out = s.out ++ [.hostRead ((s.rd pch 0x0A0).toNat + h.addr) (fld h.pkt.w2 9 0)] ∧ t.rim.hostReqs = s.rim.hostReqs.set k { h with sent := true } ∧ t.pkts = s.pkts ∧ t.mem = s.mem))))
    ∧ (∀ k ok data, (s.rim.hostReqs[k]? = none → exec (.hostCompletion k ok data) s = .next s)
      ∧ (∀ h, s.rim.hostReqs[k]? = some h → (h.sent = false → exec (.hostCompletion k ok data) s = .next s)
        ∧ (h.sent = true → s.isArmed pch 2 = false → Completes (.hostCompletion k ok data) s fun t => t.rim.hostReqs = s.rim.hostReqs.eraseIdx k ∧ t.mem = s.mem
            ∧ t.pkts = (s.injectEdge h.pkt.dst (h.reply (if ok then some data else none))).pkts ∧ (ok = false → tst (t.rd pch 0x028) 2 = true) ∧ (ok = true → t.regs = s.regs))))
    ∧ (Completes .functionLevelReset s fun t => t.rim.bme = false ∧ t.rim.msixTab = [] ∧ t.rim.pba = [] ∧ t.rim.hostReqs = (s.rim.hostReqs.filter fun h => !h.sent) ∧ t.mem = s.mem ∧ t.suites = s.suites
        ∧ t.bricks = s.bricks ∧ t.rooms = s.rooms)
    ∧ (∀ ver w, w = s.rd pch 0x0D8 →
        (s.srvState ≠ 5 ∨ tst w 63 = false → ∀ v, exec (.recoveryImage v ver) s = .next s)
        ∧ (s.srvState = 5 → tst w 63 = true →
          (1 ≤ fld w 24 0 → fld w 24 0 ≤ 2 ^ 24 → Completes (.recoveryImage true ver) s fun t => t.rim.flash.slotA = some ver ∧ t.rd pch 0x0D8 = (put 62 61 1 ||| put 24 0 (fld w 24 0)) ∧ t.mem = s.mem)
          ∧ (Completes (.recoveryImage false ver) s fun t => t.rim = s.rim ∧ t.rd pch 0x0D8 = (put 62 61 2 ||| put 24 0 (fld w 24 0)) ∧ t.mem = s.mem)))
    ∧ (∀ reason g, reason < 256 → g = s.mboxEnd reason → tst (g.rd pch 0x0B8) 63 = false ∧ fld (g.rd pch 0x0D0) 7 0 = reason ∧ fld (g.rd pch 0x0D0) 63 62 = (if reason = 0 then 2 else 3)
        ∧ tst (g.rd pch 0x028) 4 = true ∧ g.mem = s.mem ∧ g.rim = s.rim)
    ∧ (∀ v ver, (s.mboxAsked 1 = false → exec (.updateFw v ver) s = .next s)
      ∧ (s.mboxAsked 1 = true →
        (tst (s.rd pch 0x0B0) 1 = true → exec (.updateFw v ver) s = .next (s.mboxEnd 3))
        ∧ (tst (s.rd pch 0x0B0) 1 = false →
          (s.rd pch 0x0C8 = 0 ∨ (∀ st o, s.decodeEa (s.rd pch 0x0C0).toNat ≠ .cellar st o) → exec (.updateFw v ver) s = .next (s.mboxEnd 4))
          ∧ (∀ st o, s.decodeEa (s.rd pch 0x0C0).toNat = .cellar st o → (s.rd pch 0x0C0).toNat < 2 ^ 48 → o + (s.rd pch 0x0C8).toNat ≤ cellarBytes → s.rd pch 0x0C8 ≠ 0 →
            (v = false → exec (.updateFw v ver) s = .next (s.mboxEnd 1))
            ∧ (v = true → ver < s.rim.flash.fwMin → exec (.updateFw v ver) s = .next (s.mboxEnd 2))
            ∧ (v = true → s.rim.flash.fwMin ≤ ver → Completes (.updateFw v ver) s fun t => t.rim.flash.slotA = some ver
                ∧ t.rim.flash.slotB = (match s.rim.flash.slotA with | some x => some x | none => s.rim.flash.slotB) ∧ fld (t.rd pch 0x0D0) 63 62 = 2 ∧ tst (t.rd pch 0x028) 4 = true ∧ t.mem = s.mem)))))
    ∧ (s.mboxAsked 2 = false → exec .exportSurvey s = .next s)
    ∧ (s.mboxAsked 2 = true → ∀ a, a = (s.rd pch 0x0C0).toNat → (2 ^ 48 ≤ a → exec .exportSurvey s = .next (s.mboxEnd 4))
      ∧ (a < 2 ^ 48 →
        (∀ st o, s.decodeEa a = .cellar st o → cellarBytes < o + surveyBytes → exec .exportSurvey s = .next (s.mboxEnd 4))
        ∧ (∀ st o g d, s.decodeEa a = .cellar st o → o + surveyBytes ≤ cellarBytes → s.cellarAccess st o surveyBytes (some s.surveyImage) 0 porchEid true [] = (g, .ok d) →
            exec .exportSurvey s = .next (State.mboxEnd { g with free := g.free + 1 } 0))
        ∧ (∀ h, s.decodeEa a = .host h → s.rim.bme = false → exec .exportSurvey s = .next (s.mboxEnd 4))
        ∧ (∀ h, s.decodeEa a = .host h → s.rim.bme = true → Completes .exportSurvey s fun t =>
            t.out = (State.trigEvent { s with out := s.out ++ [.hostWrite ((s.rd pch 0x0A0).toNat + h) s.surveyImage] } pch 4).out ∧ fld (t.rd pch 0x0D0) 63 62 = 2 ∧ t.mem = s.mem)))
    ∧ (s.mboxAsked 3 = false → exec .mgmtCfg s = .next s)
    ∧ (s.mboxAsked 3 = true → Completes .mgmtCfg s fun t => t.rim.mgmt = (s.rd pch 0x0C0, s.rd pch 0x0C8) ∧ tst (t.rd pch 0x0B8) 63 = false ∧ fld (t.rd pch 0x0D0) 63 62 = 2 ∧ tst (t.rd pch 0x028) 4 = true ∧ t.mem = s.mem)
    ∧ (1 < s.srvState → Completes .fwLock s fun t => tst (t.rd pch 0x0B0) 1 = true ∧ tst (t.rd pch 0x0B0) 0 = tst (s.rd pch 0x0B0) 0 ∧ t.mem = s.mem)
    ∧ (1 < s.srvState → Completes .dbgLock s fun t => tst (t.rd pch 0x0B0) 0 = true ∧ tst (t.rd pch 0x0B0) 1 = tst (s.rd pch 0x0B0) 1 ∧ t.mem = s.mem)
    ∧ (∀ op a x y, (s.firmware = false ∨ 5 ≤ op → exec (.mgmtRequest op a x y) s = .next s)
      ∧ (s.firmware = true →
        (op = 0 → exec (.mgmtRequest op a x y) s = .next (s.hostRead (a / 8 * 8) 8))
        ∧ (op = 1 → exec (.mgmtRequest op a x y) s = .next (s.answer (s.ldWord (s.rdF (gp .eccg) 0x088 47 12 * 4096 + 8 * (a % 2097152)))))
        ∧ (op = 2 → exec (.mgmtRequest op a x y) s = .next (s.answer ((s.surveyRoom (a / 4 % 20736)).getD (a % 4) 0)))
        ∧ (op = 3 → tst (s.rd pch 0x0B8) 63 = true → exec (.mgmtRequest op a x y) s = .next s)
        ∧ (op = 3 → tst (s.rd pch 0x0B8) 63 = false → exec (.mgmtRequest op a x y) s = .next (((s.wr pch 0x0C0 x).wr pch 0x0C8 y).mboxCmd (put 63 63 1 ||| put 7 0 a)))
        ∧ (op = 4 → exec (.mgmtRequest op a x y) s = exec (.houseReset 0x4853) s)))
    ∧ (∀ cmd, (s.firmware = false ∨ cmd ∉ [0x79, 0x88, 0x89, 0x97, 0x8D] → exec (.rackPmbusCommand cmd) s = .next s)
        ∧ (s.firmware = true → cmd ∈ [0x88, 0x89, 0x97, 0x8D] → exec (.rackPmbusCommand cmd) s = .next (s.answer (Sys2Proof.Config.pmbusWord cmd (s.rackReading cmd))))
        ∧ (s.firmware = true → cmd = 0x79 → Completes (.rackPmbusCommand cmd) s fun t => t.busData &&& maskOf 63 16 = 0 ∧ t.regs = s.regs ∧ t.mem = s.mem))
    ∧ (∀ pin level, pin < 16 → (s.rim.gpio.testBit pin = level → exec (.gpioEdge pin level) s = .next s)
        ∧ (s.rim.gpio.testBit pin ≠ level → Completes (.gpioEdge pin level) s fun t => t.rim.gpio.testBit pin = level ∧ (∀ k, k ≠ pin → t.rim.gpio.testBit k = s.rim.gpio.testBit k)
            ∧ (tst (s.rd clkg 0x090) 2 = true → tst (t.rd (gp .gpio) 0x028) 0 = true) ∧ t.mem = s.mem))
    ∧ (∀ k, k < 4 → Completes (.timerExpired k) s fun t => smGet 0 t.rim.timers k = 0 ∧ (tst (s.rd clkg 0x090) 3 = true → tst (t.rd (gp .tim) 0x028) 0 = true) ∧ t.mem = s.mem)

/-- The test access port and observation. A reset forgets all it held; SAMPLE/PRELOAD and BYPASS act in every state; EXTEST, HIGHZ and CLAMP drive the
pins only before a Chimney is enabled or in RECOVERY, and elsewhere act as BYPASS and are reported; IDCODE answers the part; DBGACC reads and writes
BAR0 as the host does unless debug is locked. A sample shows the source observed, and its first match pulses the triggers (R620 to R623, R625 to
R627). -/
def Obligations.JtagInstructions : Prop :=
  ∀ (s : State),
    exec .jtagReset s = .next { s with rim := { s.rim with jtag := .fresh } }
    ∧ (Completes .bypass s fun t => t.rim.jtag = { s.rim.jtag with ir := 0xFF, drive := 0 } ∧ t.regs = s.regs ∧ t.mem = s.mem ∧ t.out = s.out)
    ∧ (Completes .idcode s fun t => t.busData = (put 31 28 1 ||| put 27 12 0x0102 ||| put 11 1 Sys2Proof.Config.jedec ||| 1) ∧ t.rim.jtag = { s.rim.jtag with ir := 0x02, drive := 0 } ∧ t.regs = s.regs ∧ t.mem = s.mem)
    ∧ (∀ pins vals, Completes (.samplePreload pins vals) s fun t => t.rim.jtag = { s.rim.jtag with ir := 0x01, drive := 0, seen := pins, cells := vals } ∧ t.regs = s.regs ∧ t.mem = s.mem ∧ t.out = s.out)
    ∧ (s.mayDrive = true →
      (∀ pins vals, Completes (.extest pins vals) s fun t => t.rim.jtag = { s.rim.jtag with ir := 0x00, drive := 1, seen := pins, cells := vals } ∧ t.out = s.out ++ [.pin "BSCAN" vals] ∧ t.regs = s.regs ∧ t.mem = s.mem)
      ∧ (Completes .clamp s fun t => t.rim.jtag = { s.rim.jtag with ir := 0x04, drive := 1 } ∧ t.out = s.out ++ [.pin "BSCAN" s.rim.jtag.cells] ∧ t.regs = s.regs ∧ t.mem = s.mem)
      ∧ (Completes .highz s fun t => t.rim.jtag = { s.rim.jtag with ir := 0x03, drive := 2 } ∧ t.out = s.out ∧ t.regs = s.regs ∧ t.mem = s.mem))
    ∧ (s.mayDrive = false → ∀ pins vals cmd, cmd ∈ [Instr.extest pins vals, .clamp, .highz] → Completes cmd s fun t =>
        t.rim.jtag = { s.rim.jtag with ir := 0xFF, drive := 0 } ∧ t.out = (s.trigEvent dbg 4).out ∧ t.mem = s.mem ∧ (tst (s.rd clkg 0x090) 9 = true → tst (t.rd dbg 0x028) 4 = true))
    ∧ (∀ op off data g, op < 4 → off < 2 ^ 32 → g = s.tap 0x10 0 →
        (op = 0 → exec (.dbgacc op off data) s = .next (g.accResult 0 0 off data))
        ∧ (op ≠ 0 → s.dbgLocked = true → exec (.dbgacc op off data) s = .next (g.accResult op 2 off data))
        ∧ (s.dbgLocked = false →
          (op = 3 → exec (.dbgacc op off data) s = .next (g.accResult 3 3 off data))
          ∧ (op = 1 → exec (.dbgacc op off data) s = .next ((g.hostRead off 8).accResult 1 (if off % 8 = 0 then 0 else 3) off (g.hostRead off 8).busData))
          ∧ (op = 2 → exec (.dbgacc op off data) s = .next ((g.hostWrite off 8 data).accResult 2 (if off % 8 = 0 then 0 else 3) off data)))
        ∧ (∀ st, st < 4 → (g.accResult op st off data).rim.jtag.acc = (put 63 62 op ||| put 61 60 st ||| put 31 0 off, data) ∧ (g.accResult op st off data).regs = s.regs))
    ∧ (tst (s.rd clkg 0x090) 9 = false → exec .observationSample s = .next (s.emit (.pin "OBS" 0)))
    ∧ (tst (s.rd clkg 0x090) 9 = true → ∀ v, s.observe = (s, v) → ∀ hit, hit = decide ((v ^^^ s.rd dbg 0x090) &&& s.rd dbg 0x098 = 0) →
        (hit = false ∨ s.rim.dbgMatch = true ∨ s.dbgLocked = true → Completes .observationSample s fun t =>
            t.out = s.out ++ obsPins (s.rd dbg 0x088) v s.dbgLocked ∧ t.rim.dbgLast = v ∧ t.rim.dbgMatch = hit ∧ t.regs = s.regs ∧ t.mem = s.mem)
        ∧ (hit = true → s.rim.dbgMatch = false → s.dbgLocked = false → Completes .observationSample s fun t => t.rim.dbgLast = v ∧ t.rim.dbgMatch = true ∧ t.mem = s.mem
            ∧ (∀ i, i < 2 → fld (s.rd dbg (0x0A0 + 8 * i)) 63 62 = 2 → tst (t.rd dbg 0x028) 1 = true ∧ .pin (trigName i) 1 ∈ t.out)))

/-- The words of a packet read back as the packet: a router that gathers the words it has checked and corrected has every field of the header, and
every payload byte, of the packet that was sent (R273, R274, R282). -/
def Obligations.PacketWordsRoundTrip : Prop :=
  ∀ p : Pkt, p.typ < 2 ^ 4 → p.epoch < 2 → p.vc < 2 → p.suite < 2 ^ 6 → p.len < 2 ^ 10 → p.dst < 2 ^ 20 → p.src < 2 ^ 20 → p.tag < 2 ^ 16 → p.addr < 2 ^ 48 → p.age < 2 ^ 6 →
    p.mcount < 2 ^ 6 → p.w3 &&& maskOf 51 0 = p.w3 → p.data.length = p.len →
    Pkt.ofHead (p.words.take 4) (ofWords (p.words.drop 4)) = p

/-- The token code: a token as sent is clean; with any one of its 75 wires upset, data, tag, VOID or check, its covered bits are recovered; with any
two upset it is uncorrectable (R49, R50). -/
def Obligations.TokenCodeCorrects : Prop :=
  ∀ (d : BitVec 64) (tag : Nat) (void : Bool), tag < 4 →
    checkToken (mkToken d tag void) = .clean
    ∧ (∀ i, i < 75 → ∃ x, checkToken (flipToken (mkToken d tag void) (2 ^ i)) = .corrected x ∧ tokenOfCovered x = mkToken d tag void)
    ∧ (∀ i j, i < 75 → j < 75 → i ≠ j → checkToken (flipToken (mkToken d tag void) (2 ^ i + 2 ^ j)) = .uncorrectable)
end

