-- ==== Sys2Proof/Laws/Bits.lean ====
section
/-!
SUPPORT. Laws of bit fields: reading a field written, and a field beside it.
-/

namespace Sys2Proof.Machine

theorem testBit_fld (x : W64) (hi lo i : Nat) : (fld x hi lo).testBit i = (decide (i < hi + 1 - lo) && x.getLsbD (lo + i)) := by
  simp [fld, BitVec.getLsbD, Nat.testBit_mod_two_pow]

theorem getLsbD_put (hi lo v i : Nat) :
    (put hi lo v).getLsbD i = (decide (i < 64) && decide (lo ≤ i) && decide (i - lo < hi + 1 - lo) && v.testBit (i - lo)) := by
  simp only [put, BitVec.getLsbD_ofNat, Nat.testBit_shiftLeft, Nat.testBit_mod_two_pow]
  cases decide (i < 64) <;> simp [Bool.and_assoc, ge_iff_le]

theorem getLsbD_maskOf (hi lo i : Nat) :
    (maskOf hi lo).getLsbD i = (decide (i < 64) && decide (lo ≤ i) && decide (i - lo < hi + 1 - lo)) := by
  simp [maskOf, BitVec.getLsbD_ofNat, Nat.testBit_shiftLeft, ge_iff_le, Bool.and_assoc]

theorem getLsbD_setFld (x : W64) (hi lo v i : Nat) :
    (setFld x hi lo v).getLsbD i
      = (decide (i < 64) && (if lo ≤ i ∧ i - lo < hi + 1 - lo then v.testBit (i - lo) else x.getLsbD i)) := by
  simp only [setFld, BitVec.getLsbD_or, BitVec.getLsbD_and, BitVec.getLsbD_not, getLsbD_put, getLsbD_maskOf]
  by_cases h : i < 64
  · by_cases h1 : lo ≤ i <;> by_cases h2 : i - lo < hi + 1 - lo <;> simp [h, h1, h2]
  · have : x.getLsbD i = false := BitVec.getLsbD_of_ge x i (by omega)
    simp [h]

/-- The field written. -/
theorem fld_setFld (x : W64) {hi lo v : Nat} (h : hi < 64) (hv : v < 2 ^ (hi + 1 - lo)) : fld (setFld x hi lo v) hi lo = v := by
  apply Nat.eq_of_testBit_eq
  intro i
  rw [testBit_fld, getLsbD_setFld]
  by_cases hi' : i < hi + 1 - lo
  · have : lo + i < 64 := by omega
    simp [hi', this]
  · have : v.testBit i = false := Nat.testBit_lt_two_pow (Nat.lt_of_lt_of_le hv (Nat.pow_le_pow_right (by decide) (by omega)))
    simp [hi', this]

/-- The field written takes the low bits that fit. -/
theorem fld_setFld_mod (x : W64) {hi lo : Nat} (v : Nat) (h : hi < 64) : fld (setFld x hi lo v) hi lo = v % 2 ^ (hi + 1 - lo) := by
  have : setFld x hi lo v = setFld x hi lo (v % 2 ^ (hi + 1 - lo)) := by unfold setFld put; rw [Nat.mod_mod]
  rw [this, fld_setFld x h (Nat.mod_lt _ (Nat.two_pow_pos _))]

/-- A field beside the one written. -/
theorem fld_setFld_ne (x : W64) {hi lo v a b : Nat} (ha : a < 64) (h : hi < b ∨ a < lo) : fld (setFld x hi lo v) a b = fld x a b := by
  apply Nat.eq_of_testBit_eq
  intro i
  rw [testBit_fld, testBit_fld, getLsbD_setFld]
  by_cases hi' : i < a + 1 - b
  · have h1 : b + i < 64 := by omega
    have h2 : ¬ (lo ≤ b + i ∧ b + i - lo < hi + 1 - lo) := by omega
    simp [hi', h1, h2]
  · simp [hi']

/-- A bit outside the field written. -/
theorem tst_setFld_ne (x : W64) {hi lo v i : Nat} (h : i < lo ∨ hi < i) : tst (setFld x hi lo v) i = tst x i := by
  simp only [tst, getLsbD_setFld]
  have h2 : ¬ (lo ≤ i ∧ i - lo < hi + 1 - lo) := by omega
  by_cases h3 : i < 64
  · simp [h2, h3]
  · simp [h3, BitVec.getLsbD_of_ge x i (by omega)]

theorem fld_put (v : Nat) {hi lo : Nat} (h : hi < 64) (hv : v < 2 ^ (hi + 1 - lo)) : fld (put hi lo v) hi lo = v := by
  apply Nat.eq_of_testBit_eq
  intro i
  rw [testBit_fld, getLsbD_put]
  by_cases hi' : i < hi + 1 - lo
  · have h2 : lo + i < 64 := by omega
    simp [hi', h2]
  · have : v.testBit i = false := Nat.testBit_lt_two_pow (Nat.lt_of_lt_of_le hv (Nat.pow_le_pow_right (by decide) (by omega)))
    simp [hi', this]

theorem tst_setBit (x : W64) {i : Nat} (h : i < 64) : tst (setBit x i) i = true := by
  simp [tst, setBit, getLsbD_put, h]

theorem tst_setBit_ne (x : W64) {i j : Nat} (h : j ≠ i) : tst (setBit x i) j = tst x j := by
  simp only [tst, setBit, BitVec.getLsbD_or, getLsbD_put]
  by_cases h1 : i ≤ j
  · have h2 : decide (j - i < i + 1 - i) = false := by simp; omega
    rw [h2]; simp
  · simp [h1]

theorem tst_setBit_of (x : W64) {i j : Nat} (h : tst x j = true) : tst (setBit x i) j = true := by
  simp only [tst, setBit, BitVec.getLsbD_or] at h ⊢
  simp [h]

theorem tst_clrBit (x : W64) (i : Nat) : tst (clrBit x i) i = false := by
  simp only [tst, clrBit, BitVec.getLsbD_and, BitVec.getLsbD_not, getLsbD_put]
  by_cases h : i < 64
  · simp [h]
  · simp [BitVec.getLsbD_of_ge x i (by omega)]

theorem tst_clrBit_ne (x : W64) {i j : Nat} (h : j ≠ i) : tst (clrBit x i) j = tst x j := by
  simp only [tst, clrBit, BitVec.getLsbD_and, BitVec.getLsbD_not, getLsbD_put]
  by_cases h1 : i ≤ j
  · have h2 : decide (j - i < i + 1 - i) = false := by simp; omega
    rw [h2]; simpa using BitVec.lt_of_getLsbD
  · simpa [h1] using BitVec.lt_of_getLsbD

/-- A count below its largest value rises by what is added. -/
theorem fld_bumpFld (x : W64) {hi lo n : Nat} (h : hi < 64) :
    fld (bumpFld x hi lo n) hi lo = min (fld x hi lo + n) (2 ^ (hi + 1 - lo) - 1) := by
  refine fld_setFld x h ?_
  have : 0 < 2 ^ (hi + 1 - lo) := Nat.two_pow_pos _
  omega

theorem fld_lt (x : W64) (hi lo : Nat) : fld x hi lo < 2 ^ (hi + 1 - lo) := Nat.mod_lt _ (Nat.two_pow_pos _)

/-- A field that a mask keeps whole. -/
theorem fld_and (x : W64) {m : W64} {hi lo : Nat} (hh : hi < 64) (h : m &&& maskOf hi lo = maskOf hi lo) : fld (x &&& m) hi lo = fld x hi lo := by
  refine Nat.eq_of_testBit_eq fun i => ?_
  rw [testBit_fld, testBit_fld, BitVec.getLsbD_and]
  by_cases hi' : i < hi + 1 - lo
  · have e := congrArg (fun y : W64 => y.getLsbD (lo + i)) h
    simp only [BitVec.getLsbD_and] at e
    rw [getLsbD_maskOf, decide_eq_true (show lo + i < 64 by omega), decide_eq_true (show lo ≤ lo + i by omega),
      decide_eq_true (show lo + i - lo < hi + 1 - lo by omega)] at e
    simp only [Bool.and_self, Bool.and_true] at e
    rw [e, Bool.and_true]
  · rw [decide_eq_false hi', Bool.false_and, Bool.false_and]

/-- A bit is its one-bit field. -/
theorem tst_fld (x : W64) (i : Nat) : tst x i = decide (fld x i i = 1) := by
  have h : i + 1 - i = 1 := by omega
  unfold tst fld
  rw [h, BitVec.getLsbD, Nat.testBit_eq_decide_div_mod_eq, Nat.shiftRight_eq_div_pow, Nat.pow_one]

/-- A bit that a mask keeps. -/
theorem tst_and (x : W64) {m : W64} {i : Nat} (h : tst m i = true) : tst (x &&& m) i = tst x i := by
  unfold tst at *; rw [BitVec.getLsbD_and, h, Bool.and_true]

/-- A bit that a mask drops. -/
theorem tst_and_drop (x : W64) {m : W64} {i : Nat} (h : tst m i = false) : tst (x &&& m) i = false := by
  unfold tst at *; rw [BitVec.getLsbD_and, h, Bool.and_false]

/-- A field of two words joined by or. -/
theorem fld_or (x y : W64) (hi lo : Nat) : fld (x ||| y) hi lo = fld x hi lo ||| fld y hi lo := by
  refine Nat.eq_of_testBit_eq fun i => ?_
  rw [Nat.testBit_or, testBit_fld, testBit_fld, testBit_fld, BitVec.getLsbD_or]
  cases decide (i < hi + 1 - lo) <;> simp

/-- A field other than the one put is zero. -/
theorem fld_put_ne (v : Nat) {hi lo a b : Nat} (h : hi < b ∨ a < lo) : fld (put hi lo v) a b = 0 := by
  refine Nat.eq_of_testBit_eq fun i => ?_
  rw [testBit_fld, getLsbD_put, Nat.zero_testBit]
  by_cases h1 : i < a + 1 - b
  · by_cases h2 : lo ≤ b + i
    · rw [decide_eq_false (show ¬ b + i - lo < hi + 1 - lo by omega)]; simp
    · rw [decide_eq_false h2]; simp
  · rw [decide_eq_false h1]; simp

/-- A field that leaves out the bit set. -/
theorem fld_setBit_ne (x : W64) {hi lo i : Nat} (h : i < lo ∨ hi < i) : fld (setBit x i) hi lo = fld x hi lo := by
  refine Nat.eq_of_testBit_eq fun m => ?_
  rw [testBit_fld, testBit_fld]
  by_cases hm : m < hi + 1 - lo
  · have e := tst_setBit_ne x (i := i) (j := lo + m) (by omega)
    unfold tst at e; rw [e]
  · rw [decide_eq_false hm, Bool.false_and, Bool.false_and]

/-- A field that leaves out the bit cleared. -/
theorem fld_clrBit_ne (x : W64) {hi lo i : Nat} (h : i < lo ∨ hi < i) : fld (clrBit x i) hi lo = fld x hi lo := by
  refine Nat.eq_of_testBit_eq fun m => ?_
  rw [testBit_fld, testBit_fld]
  by_cases hm : m < hi + 1 - lo
  · have e := tst_clrBit_ne x (i := i) (j := lo + m) (by omega)
    unfold tst at e; rw [e]
  · rw [decide_eq_false hm, Bool.false_and, Bool.false_and]

/-- The field put, cut to its width. -/
theorem fld_put_mod (v : Nat) {hi lo : Nat} (h : hi < 64) : fld (put hi lo v) hi lo = v % 2 ^ (hi + 1 - lo) := by
  refine Nat.eq_of_testBit_eq fun i => ?_
  rw [testBit_fld, getLsbD_put, Nat.testBit_mod_two_pow]
  by_cases hi' : i < hi + 1 - lo
  · rw [decide_eq_true (show lo + i < 64 by omega), decide_eq_true (show lo ≤ lo + i by omega), decide_eq_true (show lo + i - lo < hi + 1 - lo by omega),
      Nat.add_sub_cancel_left]; simp
  · rw [decide_eq_false hi', Bool.false_and, Bool.false_and]

end Sys2Proof.Machine
end

