-- ==== Sys2Proof/Laws/State.lean ====
section
/-!
SUPPORT. Frames of the updates of State: one lemma for each update and each field or reading it leaves alone.
-/

namespace Sys2Proof.Machine

/-! ### `wr` changes only `regs` -/

@[simp] theorem State.wr_et (s : State) (p : PageRef) (off : Nat) (v : W64) : (s.wr p off v).et = s.et := rfl
@[simp] theorem State.wr_etPhase (s : State) (p : PageRef) (off : Nat) (v : W64) : (s.wr p off v).etPhase = s.etPhase := rfl
@[simp] theorem State.wr_armed (s : State) (p : PageRef) (off : Nat) (v : W64) : (s.wr p off v).armed = s.armed := rfl
@[simp] theorem State.wr_injLat (s : State) (p : PageRef) (off : Nat) (v : W64) : (s.wr p off v).injLat = s.injLat := rfl
@[simp] theorem State.wr_mem (s : State) (p : PageRef) (off : Nat) (v : W64) : (s.wr p off v).mem = s.mem := rfl
@[simp] theorem State.wr_bricks (s : State) (p : PageRef) (off : Nat) (v : W64) : (s.wr p off v).bricks = s.bricks := rfl
@[simp] theorem State.wr_rooms (s : State) (p : PageRef) (off : Nat) (v : W64) : (s.wr p off v).rooms = s.rooms := rfl
@[simp] theorem State.wr_suites (s : State) (p : PageRef) (off : Nat) (v : W64) : (s.wr p off v).suites = s.suites := rfl
@[simp] theorem State.wr_glatch (s : State) (p : PageRef) (off : Nat) (v : W64) : (s.wr p off v).glatch = s.glatch := rfl
@[simp] theorem State.wr_pkts (s : State) (p : PageRef) (off : Nat) (v : W64) : (s.wr p off v).pkts = s.pkts := rfl
@[simp] theorem State.wr_outst (s : State) (p : PageRef) (off : Nat) (v : W64) : (s.wr p off v).outst = s.outst := rfl
@[simp] theorem State.wr_nextTag (s : State) (p : PageRef) (off : Nat) (v : W64) : (s.wr p off v).nextTag = s.nextTag := rfl
@[simp] theorem State.wr_flying (s : State) (p : PageRef) (off : Nat) (v : W64) : (s.wr p off v).flying = s.flying := rfl
@[simp] theorem State.wr_collector (s : State) (p : PageRef) (off : Nat) (v : W64) : (s.wr p off v).collector = s.collector := rfl
@[simp] theorem State.wr_incSeq (s : State) (p : PageRef) (off : Nat) (v : W64) : (s.wr p off v).incSeq = s.incSeq := rfl
@[simp] theorem State.wr_remap (s : State) (p : PageRef) (off : Nat) (v : W64) : (s.wr p off v).remap = s.remap := rfl
@[simp] theorem State.wr_c24 (s : State) (p : PageRef) (off : Nat) (v : W64) : (s.wr p off v).c24 = s.c24 := rfl
@[simp] theorem State.wr_rim (s : State) (p : PageRef) (off : Nat) (v : W64) : (s.wr p off v).rim = s.rim := rfl
@[simp] theorem State.wr_out (s : State) (p : PageRef) (off : Nat) (v : W64) : (s.wr p off v).out = s.out := rfl
@[simp] theorem State.wr_busData (s : State) (p : PageRef) (off : Nat) (v : W64) : (s.wr p off v).busData = s.busData := rfl
@[simp] theorem State.wr_free (s : State) (p : PageRef) (off : Nat) (v : W64) : (s.wr p off v).free = s.free := rfl
@[simp] theorem State.wr_pending (s : State) (p : PageRef) (off : Nat) (v : W64) : (s.wr p off v).pending = s.pending := rfl
@[simp] theorem State.wr_brick (s : State) (p : PageRef) (off : Nat) (v : W64) (i j : Nat) : (s.wr p off v).brick i j = s.brick i j := rfl
@[simp] theorem State.wr_room (s : State) (p : PageRef) (off : Nat) (v : W64) (i : Nat) : (s.wr p off v).room i = s.room i := rfl
@[simp] theorem State.wr_suite (s : State) (p : PageRef) (off : Nat) (v : W64) (i : Nat) : (s.wr p off v).suite i = s.suite i := rfl
@[simp] theorem State.wr_ldByte (s : State) (p : PageRef) (off : Nat) (v : W64) (i : Nat) : (s.wr p off v).ldByte i = s.ldByte i := rfl
@[simp] theorem State.wr_isArmed (s : State) (p : PageRef) (off : Nat) (v : W64) (q : PageRef) (i : Nat) : (s.wr p off v).isArmed q i = s.isArmed q i := rfl
@[simp] theorem State.wr_suiteOf (s : State) (p : PageRef) (off : Nat) (v : W64) (i : Nat) : (s.wr p off v).suiteOf i = s.suiteOf i := rfl

/-! ### `wrF` changes only `regs` -/

@[simp] theorem State.wrF_et (s : State) (p : PageRef) (off hi lo v : Nat) : (s.wrF p off hi lo v).et = s.et := rfl
@[simp] theorem State.wrF_etPhase (s : State) (p : PageRef) (off hi lo v : Nat) : (s.wrF p off hi lo v).etPhase = s.etPhase := rfl
@[simp] theorem State.wrF_armed (s : State) (p : PageRef) (off hi lo v : Nat) : (s.wrF p off hi lo v).armed = s.armed := rfl
@[simp] theorem State.wrF_injLat (s : State) (p : PageRef) (off hi lo v : Nat) : (s.wrF p off hi lo v).injLat = s.injLat := rfl
@[simp] theorem State.wrF_mem (s : State) (p : PageRef) (off hi lo v : Nat) : (s.wrF p off hi lo v).mem = s.mem := rfl
@[simp] theorem State.wrF_bricks (s : State) (p : PageRef) (off hi lo v : Nat) : (s.wrF p off hi lo v).bricks = s.bricks := rfl
@[simp] theorem State.wrF_rooms (s : State) (p : PageRef) (off hi lo v : Nat) : (s.wrF p off hi lo v).rooms = s.rooms := rfl
@[simp] theorem State.wrF_suites (s : State) (p : PageRef) (off hi lo v : Nat) : (s.wrF p off hi lo v).suites = s.suites := rfl
@[simp] theorem State.wrF_glatch (s : State) (p : PageRef) (off hi lo v : Nat) : (s.wrF p off hi lo v).glatch = s.glatch := rfl
@[simp] theorem State.wrF_pkts (s : State) (p : PageRef) (off hi lo v : Nat) : (s.wrF p off hi lo v).pkts = s.pkts := rfl
@[simp] theorem State.wrF_outst (s : State) (p : PageRef) (off hi lo v : Nat) : (s.wrF p off hi lo v).outst = s.outst := rfl
@[simp] theorem State.wrF_nextTag (s : State) (p : PageRef) (off hi lo v : Nat) : (s.wrF p off hi lo v).nextTag = s.nextTag := rfl
@[simp] theorem State.wrF_flying (s : State) (p : PageRef) (off hi lo v : Nat) : (s.wrF p off hi lo v).flying = s.flying := rfl
@[simp] theorem State.wrF_collector (s : State) (p : PageRef) (off hi lo v : Nat) : (s.wrF p off hi lo v).collector = s.collector := rfl
@[simp] theorem State.wrF_incSeq (s : State) (p : PageRef) (off hi lo v : Nat) : (s.wrF p off hi lo v).incSeq = s.incSeq := rfl
@[simp] theorem State.wrF_remap (s : State) (p : PageRef) (off hi lo v : Nat) : (s.wrF p off hi lo v).remap = s.remap := rfl
@[simp] theorem State.wrF_c24 (s : State) (p : PageRef) (off hi lo v : Nat) : (s.wrF p off hi lo v).c24 = s.c24 := rfl
@[simp] theorem State.wrF_rim (s : State) (p : PageRef) (off hi lo v : Nat) : (s.wrF p off hi lo v).rim = s.rim := rfl
@[simp] theorem State.wrF_out (s : State) (p : PageRef) (off hi lo v : Nat) : (s.wrF p off hi lo v).out = s.out := rfl
@[simp] theorem State.wrF_busData (s : State) (p : PageRef) (off hi lo v : Nat) : (s.wrF p off hi lo v).busData = s.busData := rfl
@[simp] theorem State.wrF_free (s : State) (p : PageRef) (off hi lo v : Nat) : (s.wrF p off hi lo v).free = s.free := rfl
@[simp] theorem State.wrF_pending (s : State) (p : PageRef) (off hi lo v : Nat) : (s.wrF p off hi lo v).pending = s.pending := rfl
@[simp] theorem State.wrF_brick (s : State) (p : PageRef) (off hi lo v : Nat) (i j : Nat) : (s.wrF p off hi lo v).brick i j = s.brick i j := rfl
@[simp] theorem State.wrF_room (s : State) (p : PageRef) (off hi lo v : Nat) (i : Nat) : (s.wrF p off hi lo v).room i = s.room i := rfl
@[simp] theorem State.wrF_suite (s : State) (p : PageRef) (off hi lo v : Nat) (i : Nat) : (s.wrF p off hi lo v).suite i = s.suite i := rfl
@[simp] theorem State.wrF_ldByte (s : State) (p : PageRef) (off hi lo v : Nat) (i : Nat) : (s.wrF p off hi lo v).ldByte i = s.ldByte i := rfl
@[simp] theorem State.wrF_isArmed (s : State) (p : PageRef) (off hi lo v : Nat) (q : PageRef) (i : Nat) : (s.wrF p off hi lo v).isArmed q i = s.isArmed q i := rfl
@[simp] theorem State.wrF_suiteOf (s : State) (p : PageRef) (off hi lo v : Nat) (i : Nat) : (s.wrF p off hi lo v).suiteOf i = s.suiteOf i := rfl

/-! ### `bump` changes only `regs` -/

@[simp] theorem State.bump_et (s : State) (p : PageRef) (off hi lo n : Nat) : (s.bump p off hi lo n).et = s.et := rfl
@[simp] theorem State.bump_etPhase (s : State) (p : PageRef) (off hi lo n : Nat) : (s.bump p off hi lo n).etPhase = s.etPhase := rfl
@[simp] theorem State.bump_armed (s : State) (p : PageRef) (off hi lo n : Nat) : (s.bump p off hi lo n).armed = s.armed := rfl
@[simp] theorem State.bump_injLat (s : State) (p : PageRef) (off hi lo n : Nat) : (s.bump p off hi lo n).injLat = s.injLat := rfl
@[simp] theorem State.bump_mem (s : State) (p : PageRef) (off hi lo n : Nat) : (s.bump p off hi lo n).mem = s.mem := rfl
@[simp] theorem State.bump_bricks (s : State) (p : PageRef) (off hi lo n : Nat) : (s.bump p off hi lo n).bricks = s.bricks := rfl
@[simp] theorem State.bump_rooms (s : State) (p : PageRef) (off hi lo n : Nat) : (s.bump p off hi lo n).rooms = s.rooms := rfl
@[simp] theorem State.bump_suites (s : State) (p : PageRef) (off hi lo n : Nat) : (s.bump p off hi lo n).suites = s.suites := rfl
@[simp] theorem State.bump_glatch (s : State) (p : PageRef) (off hi lo n : Nat) : (s.bump p off hi lo n).glatch = s.glatch := rfl
@[simp] theorem State.bump_pkts (s : State) (p : PageRef) (off hi lo n : Nat) : (s.bump p off hi lo n).pkts = s.pkts := rfl
@[simp] theorem State.bump_outst (s : State) (p : PageRef) (off hi lo n : Nat) : (s.bump p off hi lo n).outst = s.outst := rfl
@[simp] theorem State.bump_nextTag (s : State) (p : PageRef) (off hi lo n : Nat) : (s.bump p off hi lo n).nextTag = s.nextTag := rfl
@[simp] theorem State.bump_flying (s : State) (p : PageRef) (off hi lo n : Nat) : (s.bump p off hi lo n).flying = s.flying := rfl
@[simp] theorem State.bump_collector (s : State) (p : PageRef) (off hi lo n : Nat) : (s.bump p off hi lo n).collector = s.collector := rfl
@[simp] theorem State.bump_incSeq (s : State) (p : PageRef) (off hi lo n : Nat) : (s.bump p off hi lo n).incSeq = s.incSeq := rfl
@[simp] theorem State.bump_remap (s : State) (p : PageRef) (off hi lo n : Nat) : (s.bump p off hi lo n).remap = s.remap := rfl
@[simp] theorem State.bump_c24 (s : State) (p : PageRef) (off hi lo n : Nat) : (s.bump p off hi lo n).c24 = s.c24 := rfl
@[simp] theorem State.bump_rim (s : State) (p : PageRef) (off hi lo n : Nat) : (s.bump p off hi lo n).rim = s.rim := rfl
@[simp] theorem State.bump_out (s : State) (p : PageRef) (off hi lo n : Nat) : (s.bump p off hi lo n).out = s.out := rfl
@[simp] theorem State.bump_busData (s : State) (p : PageRef) (off hi lo n : Nat) : (s.bump p off hi lo n).busData = s.busData := rfl
@[simp] theorem State.bump_free (s : State) (p : PageRef) (off hi lo n : Nat) : (s.bump p off hi lo n).free = s.free := rfl
@[simp] theorem State.bump_pending (s : State) (p : PageRef) (off hi lo n : Nat) : (s.bump p off hi lo n).pending = s.pending := rfl
@[simp] theorem State.bump_brick (s : State) (p : PageRef) (off hi lo n : Nat) (i j : Nat) : (s.bump p off hi lo n).brick i j = s.brick i j := rfl
@[simp] theorem State.bump_room (s : State) (p : PageRef) (off hi lo n : Nat) (i : Nat) : (s.bump p off hi lo n).room i = s.room i := rfl
@[simp] theorem State.bump_suite (s : State) (p : PageRef) (off hi lo n : Nat) (i : Nat) : (s.bump p off hi lo n).suite i = s.suite i := rfl
@[simp] theorem State.bump_ldByte (s : State) (p : PageRef) (off hi lo n : Nat) (i : Nat) : (s.bump p off hi lo n).ldByte i = s.ldByte i := rfl
@[simp] theorem State.bump_isArmed (s : State) (p : PageRef) (off hi lo n : Nat) (q : PageRef) (i : Nat) : (s.bump p off hi lo n).isArmed q i = s.isArmed q i := rfl
@[simp] theorem State.bump_suiteOf (s : State) (p : PageRef) (off hi lo n : Nat) (i : Nat) : (s.bump p off hi lo n).suiteOf i = s.suiteOf i := rfl

/-! ### `disarm` changes only `armed` -/

@[simp] theorem State.disarm_et (s : State) (p : PageRef) (bit : Nat) : (s.disarm p bit).et = s.et := rfl
@[simp] theorem State.disarm_etPhase (s : State) (p : PageRef) (bit : Nat) : (s.disarm p bit).etPhase = s.etPhase := rfl
@[simp] theorem State.disarm_regs (s : State) (p : PageRef) (bit : Nat) : (s.disarm p bit).regs = s.regs := rfl
@[simp] theorem State.disarm_injLat (s : State) (p : PageRef) (bit : Nat) : (s.disarm p bit).injLat = s.injLat := rfl
@[simp] theorem State.disarm_mem (s : State) (p : PageRef) (bit : Nat) : (s.disarm p bit).mem = s.mem := rfl
@[simp] theorem State.disarm_bricks (s : State) (p : PageRef) (bit : Nat) : (s.disarm p bit).bricks = s.bricks := rfl
@[simp] theorem State.disarm_rooms (s : State) (p : PageRef) (bit : Nat) : (s.disarm p bit).rooms = s.rooms := rfl
@[simp] theorem State.disarm_suites (s : State) (p : PageRef) (bit : Nat) : (s.disarm p bit).suites = s.suites := rfl
@[simp] theorem State.disarm_glatch (s : State) (p : PageRef) (bit : Nat) : (s.disarm p bit).glatch = s.glatch := rfl
@[simp] theorem State.disarm_pkts (s : State) (p : PageRef) (bit : Nat) : (s.disarm p bit).pkts = s.pkts := rfl
@[simp] theorem State.disarm_outst (s : State) (p : PageRef) (bit : Nat) : (s.disarm p bit).outst = s.outst := rfl
@[simp] theorem State.disarm_nextTag (s : State) (p : PageRef) (bit : Nat) : (s.disarm p bit).nextTag = s.nextTag := rfl
@[simp] theorem State.disarm_flying (s : State) (p : PageRef) (bit : Nat) : (s.disarm p bit).flying = s.flying := rfl
@[simp] theorem State.disarm_collector (s : State) (p : PageRef) (bit : Nat) : (s.disarm p bit).collector = s.collector := rfl
@[simp] theorem State.disarm_incSeq (s : State) (p : PageRef) (bit : Nat) : (s.disarm p bit).incSeq = s.incSeq := rfl
@[simp] theorem State.disarm_remap (s : State) (p : PageRef) (bit : Nat) : (s.disarm p bit).remap = s.remap := rfl
@[simp] theorem State.disarm_c24 (s : State) (p : PageRef) (bit : Nat) : (s.disarm p bit).c24 = s.c24 := rfl
@[simp] theorem State.disarm_rim (s : State) (p : PageRef) (bit : Nat) : (s.disarm p bit).rim = s.rim := rfl
@[simp] theorem State.disarm_out (s : State) (p : PageRef) (bit : Nat) : (s.disarm p bit).out = s.out := rfl
@[simp] theorem State.disarm_busData (s : State) (p : PageRef) (bit : Nat) : (s.disarm p bit).busData = s.busData := rfl
@[simp] theorem State.disarm_free (s : State) (p : PageRef) (bit : Nat) : (s.disarm p bit).free = s.free := rfl
@[simp] theorem State.disarm_pending (s : State) (p : PageRef) (bit : Nat) : (s.disarm p bit).pending = s.pending := rfl
@[simp] theorem State.disarm_rd (s : State) (p : PageRef) (bit : Nat) (q : PageRef) (o : Nat) : (s.disarm p bit).rd q o = s.rd q o := rfl
@[simp] theorem State.disarm_brick (s : State) (p : PageRef) (bit : Nat) (i j : Nat) : (s.disarm p bit).brick i j = s.brick i j := rfl
@[simp] theorem State.disarm_room (s : State) (p : PageRef) (bit : Nat) (i : Nat) : (s.disarm p bit).room i = s.room i := rfl
@[simp] theorem State.disarm_suite (s : State) (p : PageRef) (bit : Nat) (i : Nat) : (s.disarm p bit).suite i = s.suite i := rfl
@[simp] theorem State.disarm_ldByte (s : State) (p : PageRef) (bit : Nat) (i : Nat) : (s.disarm p bit).ldByte i = s.ldByte i := rfl
@[simp] theorem State.disarm_suiteOf (s : State) (p : PageRef) (bit : Nat) (i : Nat) : (s.disarm p bit).suiteOf i = s.suiteOf i := rfl

/-! ### `setBrick` changes only `bricks` -/

@[simp] theorem State.setBrick_et (s : State) (r b : Nat) (x : Brick) : (s.setBrick r b x).et = s.et := rfl
@[simp] theorem State.setBrick_etPhase (s : State) (r b : Nat) (x : Brick) : (s.setBrick r b x).etPhase = s.etPhase := rfl
@[simp] theorem State.setBrick_regs (s : State) (r b : Nat) (x : Brick) : (s.setBrick r b x).regs = s.regs := rfl
@[simp] theorem State.setBrick_armed (s : State) (r b : Nat) (x : Brick) : (s.setBrick r b x).armed = s.armed := rfl
@[simp] theorem State.setBrick_injLat (s : State) (r b : Nat) (x : Brick) : (s.setBrick r b x).injLat = s.injLat := rfl
@[simp] theorem State.setBrick_mem (s : State) (r b : Nat) (x : Brick) : (s.setBrick r b x).mem = s.mem := rfl
@[simp] theorem State.setBrick_rooms (s : State) (r b : Nat) (x : Brick) : (s.setBrick r b x).rooms = s.rooms := rfl
@[simp] theorem State.setBrick_suites (s : State) (r b : Nat) (x : Brick) : (s.setBrick r b x).suites = s.suites := rfl
@[simp] theorem State.setBrick_glatch (s : State) (r b : Nat) (x : Brick) : (s.setBrick r b x).glatch = s.glatch := rfl
@[simp] theorem State.setBrick_pkts (s : State) (r b : Nat) (x : Brick) : (s.setBrick r b x).pkts = s.pkts := rfl
@[simp] theorem State.setBrick_outst (s : State) (r b : Nat) (x : Brick) : (s.setBrick r b x).outst = s.outst := rfl
@[simp] theorem State.setBrick_nextTag (s : State) (r b : Nat) (x : Brick) : (s.setBrick r b x).nextTag = s.nextTag := rfl
@[simp] theorem State.setBrick_flying (s : State) (r b : Nat) (x : Brick) : (s.setBrick r b x).flying = s.flying := rfl
@[simp] theorem State.setBrick_collector (s : State) (r b : Nat) (x : Brick) : (s.setBrick r b x).collector = s.collector := rfl
@[simp] theorem State.setBrick_incSeq (s : State) (r b : Nat) (x : Brick) : (s.setBrick r b x).incSeq = s.incSeq := rfl
@[simp] theorem State.setBrick_remap (s : State) (r b : Nat) (x : Brick) : (s.setBrick r b x).remap = s.remap := rfl
@[simp] theorem State.setBrick_c24 (s : State) (r b : Nat) (x : Brick) : (s.setBrick r b x).c24 = s.c24 := rfl
@[simp] theorem State.setBrick_rim (s : State) (r b : Nat) (x : Brick) : (s.setBrick r b x).rim = s.rim := rfl
@[simp] theorem State.setBrick_out (s : State) (r b : Nat) (x : Brick) : (s.setBrick r b x).out = s.out := rfl
@[simp] theorem State.setBrick_busData (s : State) (r b : Nat) (x : Brick) : (s.setBrick r b x).busData = s.busData := rfl
@[simp] theorem State.setBrick_free (s : State) (r b : Nat) (x : Brick) : (s.setBrick r b x).free = s.free := rfl
@[simp] theorem State.setBrick_pending (s : State) (r b : Nat) (x : Brick) : (s.setBrick r b x).pending = s.pending := rfl
@[simp] theorem State.setBrick_rd (s : State) (r b : Nat) (x : Brick) (q : PageRef) (o : Nat) : (s.setBrick r b x).rd q o = s.rd q o := rfl
@[simp] theorem State.setBrick_room (s : State) (r b : Nat) (x : Brick) (i : Nat) : (s.setBrick r b x).room i = s.room i := rfl
@[simp] theorem State.setBrick_suite (s : State) (r b : Nat) (x : Brick) (i : Nat) : (s.setBrick r b x).suite i = s.suite i := rfl
@[simp] theorem State.setBrick_ldByte (s : State) (r b : Nat) (x : Brick) (i : Nat) : (s.setBrick r b x).ldByte i = s.ldByte i := rfl
@[simp] theorem State.setBrick_isArmed (s : State) (r b : Nat) (x : Brick) (q : PageRef) (i : Nat) : (s.setBrick r b x).isArmed q i = s.isArmed q i := rfl
@[simp] theorem State.setBrick_suiteOf (s : State) (r b : Nat) (x : Brick) (i : Nat) : (s.setBrick r b x).suiteOf i = s.suiteOf i := rfl

/-! ### `modBrick` changes only `bricks` -/

@[simp] theorem State.modBrick_et (s : State) (r b : Nat) (f : Brick → Brick) : (s.modBrick r b f).et = s.et := rfl
@[simp] theorem State.modBrick_etPhase (s : State) (r b : Nat) (f : Brick → Brick) : (s.modBrick r b f).etPhase = s.etPhase := rfl
@[simp] theorem State.modBrick_regs (s : State) (r b : Nat) (f : Brick → Brick) : (s.modBrick r b f).regs = s.regs := rfl
@[simp] theorem State.modBrick_armed (s : State) (r b : Nat) (f : Brick → Brick) : (s.modBrick r b f).armed = s.armed := rfl
@[simp] theorem State.modBrick_injLat (s : State) (r b : Nat) (f : Brick → Brick) : (s.modBrick r b f).injLat = s.injLat := rfl
@[simp] theorem State.modBrick_mem (s : State) (r b : Nat) (f : Brick → Brick) : (s.modBrick r b f).mem = s.mem := rfl
@[simp] theorem State.modBrick_rooms (s : State) (r b : Nat) (f : Brick → Brick) : (s.modBrick r b f).rooms = s.rooms := rfl
@[simp] theorem State.modBrick_suites (s : State) (r b : Nat) (f : Brick → Brick) : (s.modBrick r b f).suites = s.suites := rfl
@[simp] theorem State.modBrick_glatch (s : State) (r b : Nat) (f : Brick → Brick) : (s.modBrick r b f).glatch = s.glatch := rfl
@[simp] theorem State.modBrick_pkts (s : State) (r b : Nat) (f : Brick → Brick) : (s.modBrick r b f).pkts = s.pkts := rfl
@[simp] theorem State.modBrick_outst (s : State) (r b : Nat) (f : Brick → Brick) : (s.modBrick r b f).outst = s.outst := rfl
@[simp] theorem State.modBrick_nextTag (s : State) (r b : Nat) (f : Brick → Brick) : (s.modBrick r b f).nextTag = s.nextTag := rfl
@[simp] theorem State.modBrick_flying (s : State) (r b : Nat) (f : Brick → Brick) : (s.modBrick r b f).flying = s.flying := rfl
@[simp] theorem State.modBrick_collector (s : State) (r b : Nat) (f : Brick → Brick) : (s.modBrick r b f).collector = s.collector := rfl
@[simp] theorem State.modBrick_incSeq (s : State) (r b : Nat) (f : Brick → Brick) : (s.modBrick r b f).incSeq = s.incSeq := rfl
@[simp] theorem State.modBrick_remap (s : State) (r b : Nat) (f : Brick → Brick) : (s.modBrick r b f).remap = s.remap := rfl
@[simp] theorem State.modBrick_c24 (s : State) (r b : Nat) (f : Brick → Brick) : (s.modBrick r b f).c24 = s.c24 := rfl
@[simp] theorem State.modBrick_rim (s : State) (r b : Nat) (f : Brick → Brick) : (s.modBrick r b f).rim = s.rim := rfl
@[simp] theorem State.modBrick_out (s : State) (r b : Nat) (f : Brick → Brick) : (s.modBrick r b f).out = s.out := rfl
@[simp] theorem State.modBrick_busData (s : State) (r b : Nat) (f : Brick → Brick) : (s.modBrick r b f).busData = s.busData := rfl
@[simp] theorem State.modBrick_free (s : State) (r b : Nat) (f : Brick → Brick) : (s.modBrick r b f).free = s.free := rfl
@[simp] theorem State.modBrick_pending (s : State) (r b : Nat) (f : Brick → Brick) : (s.modBrick r b f).pending = s.pending := rfl
@[simp] theorem State.modBrick_rd (s : State) (r b : Nat) (f : Brick → Brick) (q : PageRef) (o : Nat) : (s.modBrick r b f).rd q o = s.rd q o := rfl
@[simp] theorem State.modBrick_room (s : State) (r b : Nat) (f : Brick → Brick) (i : Nat) : (s.modBrick r b f).room i = s.room i := rfl
@[simp] theorem State.modBrick_suite (s : State) (r b : Nat) (f : Brick → Brick) (i : Nat) : (s.modBrick r b f).suite i = s.suite i := rfl
@[simp] theorem State.modBrick_ldByte (s : State) (r b : Nat) (f : Brick → Brick) (i : Nat) : (s.modBrick r b f).ldByte i = s.ldByte i := rfl
@[simp] theorem State.modBrick_isArmed (s : State) (r b : Nat) (f : Brick → Brick) (q : PageRef) (i : Nat) : (s.modBrick r b f).isArmed q i = s.isArmed q i := rfl
@[simp] theorem State.modBrick_suiteOf (s : State) (r b : Nat) (f : Brick → Brick) (i : Nat) : (s.modBrick r b f).suiteOf i = s.suiteOf i := rfl

/-! ### `setRoom` changes only `rooms` -/

@[simp] theorem State.setRoom_et (s : State) (r : Nat) (x : RoomSt) : (s.setRoom r x).et = s.et := rfl
@[simp] theorem State.setRoom_etPhase (s : State) (r : Nat) (x : RoomSt) : (s.setRoom r x).etPhase = s.etPhase := rfl
@[simp] theorem State.setRoom_regs (s : State) (r : Nat) (x : RoomSt) : (s.setRoom r x).regs = s.regs := rfl
@[simp] theorem State.setRoom_armed (s : State) (r : Nat) (x : RoomSt) : (s.setRoom r x).armed = s.armed := rfl
@[simp] theorem State.setRoom_injLat (s : State) (r : Nat) (x : RoomSt) : (s.setRoom r x).injLat = s.injLat := rfl
@[simp] theorem State.setRoom_mem (s : State) (r : Nat) (x : RoomSt) : (s.setRoom r x).mem = s.mem := rfl
@[simp] theorem State.setRoom_bricks (s : State) (r : Nat) (x : RoomSt) : (s.setRoom r x).bricks = s.bricks := rfl
@[simp] theorem State.setRoom_suites (s : State) (r : Nat) (x : RoomSt) : (s.setRoom r x).suites = s.suites := rfl
@[simp] theorem State.setRoom_glatch (s : State) (r : Nat) (x : RoomSt) : (s.setRoom r x).glatch = s.glatch := rfl
@[simp] theorem State.setRoom_pkts (s : State) (r : Nat) (x : RoomSt) : (s.setRoom r x).pkts = s.pkts := rfl
@[simp] theorem State.setRoom_outst (s : State) (r : Nat) (x : RoomSt) : (s.setRoom r x).outst = s.outst := rfl
@[simp] theorem State.setRoom_nextTag (s : State) (r : Nat) (x : RoomSt) : (s.setRoom r x).nextTag = s.nextTag := rfl
@[simp] theorem State.setRoom_flying (s : State) (r : Nat) (x : RoomSt) : (s.setRoom r x).flying = s.flying := rfl
@[simp] theorem State.setRoom_collector (s : State) (r : Nat) (x : RoomSt) : (s.setRoom r x).collector = s.collector := rfl
@[simp] theorem State.setRoom_incSeq (s : State) (r : Nat) (x : RoomSt) : (s.setRoom r x).incSeq = s.incSeq := rfl
@[simp] theorem State.setRoom_remap (s : State) (r : Nat) (x : RoomSt) : (s.setRoom r x).remap = s.remap := rfl
@[simp] theorem State.setRoom_c24 (s : State) (r : Nat) (x : RoomSt) : (s.setRoom r x).c24 = s.c24 := rfl
@[simp] theorem State.setRoom_rim (s : State) (r : Nat) (x : RoomSt) : (s.setRoom r x).rim = s.rim := rfl
@[simp] theorem State.setRoom_out (s : State) (r : Nat) (x : RoomSt) : (s.setRoom r x).out = s.out := rfl
@[simp] theorem State.setRoom_busData (s : State) (r : Nat) (x : RoomSt) : (s.setRoom r x).busData = s.busData := rfl
@[simp] theorem State.setRoom_free (s : State) (r : Nat) (x : RoomSt) : (s.setRoom r x).free = s.free := rfl
@[simp] theorem State.setRoom_pending (s : State) (r : Nat) (x : RoomSt) : (s.setRoom r x).pending = s.pending := rfl
@[simp] theorem State.setRoom_rd (s : State) (r : Nat) (x : RoomSt) (q : PageRef) (o : Nat) : (s.setRoom r x).rd q o = s.rd q o := rfl
@[simp] theorem State.setRoom_brick (s : State) (r : Nat) (x : RoomSt) (i j : Nat) : (s.setRoom r x).brick i j = s.brick i j := rfl
@[simp] theorem State.setRoom_suite (s : State) (r : Nat) (x : RoomSt) (i : Nat) : (s.setRoom r x).suite i = s.suite i := rfl
@[simp] theorem State.setRoom_ldByte (s : State) (r : Nat) (x : RoomSt) (i : Nat) : (s.setRoom r x).ldByte i = s.ldByte i := rfl
@[simp] theorem State.setRoom_isArmed (s : State) (r : Nat) (x : RoomSt) (q : PageRef) (i : Nat) : (s.setRoom r x).isArmed q i = s.isArmed q i := rfl
@[simp] theorem State.setRoom_suiteOf (s : State) (r : Nat) (x : RoomSt) (i : Nat) : (s.setRoom r x).suiteOf i = s.suiteOf i := rfl

/-! ### `modRoom` changes only `rooms` -/

@[simp] theorem State.modRoom_et (s : State) (r : Nat) (f : RoomSt → RoomSt) : (s.modRoom r f).et = s.et := rfl
@[simp] theorem State.modRoom_etPhase (s : State) (r : Nat) (f : RoomSt → RoomSt) : (s.modRoom r f).etPhase = s.etPhase := rfl
@[simp] theorem State.modRoom_regs (s : State) (r : Nat) (f : RoomSt → RoomSt) : (s.modRoom r f).regs = s.regs := rfl
@[simp] theorem State.modRoom_armed (s : State) (r : Nat) (f : RoomSt → RoomSt) : (s.modRoom r f).armed = s.armed := rfl
@[simp] theorem State.modRoom_injLat (s : State) (r : Nat) (f : RoomSt → RoomSt) : (s.modRoom r f).injLat = s.injLat := rfl
@[simp] theorem State.modRoom_mem (s : State) (r : Nat) (f : RoomSt → RoomSt) : (s.modRoom r f).mem = s.mem := rfl
@[simp] theorem State.modRoom_bricks (s : State) (r : Nat) (f : RoomSt → RoomSt) : (s.modRoom r f).bricks = s.bricks := rfl
@[simp] theorem State.modRoom_suites (s : State) (r : Nat) (f : RoomSt → RoomSt) : (s.modRoom r f).suites = s.suites := rfl
@[simp] theorem State.modRoom_glatch (s : State) (r : Nat) (f : RoomSt → RoomSt) : (s.modRoom r f).glatch = s.glatch := rfl
@[simp] theorem State.modRoom_pkts (s : State) (r : Nat) (f : RoomSt → RoomSt) : (s.modRoom r f).pkts = s.pkts := rfl
@[simp] theorem State.modRoom_outst (s : State) (r : Nat) (f : RoomSt → RoomSt) : (s.modRoom r f).outst = s.outst := rfl
@[simp] theorem State.modRoom_nextTag (s : State) (r : Nat) (f : RoomSt → RoomSt) : (s.modRoom r f).nextTag = s.nextTag := rfl
@[simp] theorem State.modRoom_flying (s : State) (r : Nat) (f : RoomSt → RoomSt) : (s.modRoom r f).flying = s.flying := rfl
@[simp] theorem State.modRoom_collector (s : State) (r : Nat) (f : RoomSt → RoomSt) : (s.modRoom r f).collector = s.collector := rfl
@[simp] theorem State.modRoom_incSeq (s : State) (r : Nat) (f : RoomSt → RoomSt) : (s.modRoom r f).incSeq = s.incSeq := rfl
@[simp] theorem State.modRoom_remap (s : State) (r : Nat) (f : RoomSt → RoomSt) : (s.modRoom r f).remap = s.remap := rfl
@[simp] theorem State.modRoom_c24 (s : State) (r : Nat) (f : RoomSt → RoomSt) : (s.modRoom r f).c24 = s.c24 := rfl
@[simp] theorem State.modRoom_rim (s : State) (r : Nat) (f : RoomSt → RoomSt) : (s.modRoom r f).rim = s.rim := rfl
@[simp] theorem State.modRoom_out (s : State) (r : Nat) (f : RoomSt → RoomSt) : (s.modRoom r f).out = s.out := rfl
@[simp] theorem State.modRoom_busData (s : State) (r : Nat) (f : RoomSt → RoomSt) : (s.modRoom r f).busData = s.busData := rfl
@[simp] theorem State.modRoom_free (s : State) (r : Nat) (f : RoomSt → RoomSt) : (s.modRoom r f).free = s.free := rfl
@[simp] theorem State.modRoom_pending (s : State) (r : Nat) (f : RoomSt → RoomSt) : (s.modRoom r f).pending = s.pending := rfl
@[simp] theorem State.modRoom_rd (s : State) (r : Nat) (f : RoomSt → RoomSt) (q : PageRef) (o : Nat) : (s.modRoom r f).rd q o = s.rd q o := rfl
@[simp] theorem State.modRoom_brick (s : State) (r : Nat) (f : RoomSt → RoomSt) (i j : Nat) : (s.modRoom r f).brick i j = s.brick i j := rfl
@[simp] theorem State.modRoom_suite (s : State) (r : Nat) (f : RoomSt → RoomSt) (i : Nat) : (s.modRoom r f).suite i = s.suite i := rfl
@[simp] theorem State.modRoom_ldByte (s : State) (r : Nat) (f : RoomSt → RoomSt) (i : Nat) : (s.modRoom r f).ldByte i = s.ldByte i := rfl
@[simp] theorem State.modRoom_isArmed (s : State) (r : Nat) (f : RoomSt → RoomSt) (q : PageRef) (i : Nat) : (s.modRoom r f).isArmed q i = s.isArmed q i := rfl
@[simp] theorem State.modRoom_suiteOf (s : State) (r : Nat) (f : RoomSt → RoomSt) (i : Nat) : (s.modRoom r f).suiteOf i = s.suiteOf i := rfl

/-! ### `setSuite` changes only `suites` -/

@[simp] theorem State.setSuite_et (s : State) (k : Nat) (u : Suite) : (s.setSuite k u).et = s.et := rfl
@[simp] theorem State.setSuite_etPhase (s : State) (k : Nat) (u : Suite) : (s.setSuite k u).etPhase = s.etPhase := rfl
@[simp] theorem State.setSuite_regs (s : State) (k : Nat) (u : Suite) : (s.setSuite k u).regs = s.regs := rfl
@[simp] theorem State.setSuite_armed (s : State) (k : Nat) (u : Suite) : (s.setSuite k u).armed = s.armed := rfl
@[simp] theorem State.setSuite_injLat (s : State) (k : Nat) (u : Suite) : (s.setSuite k u).injLat = s.injLat := rfl
@[simp] theorem State.setSuite_mem (s : State) (k : Nat) (u : Suite) : (s.setSuite k u).mem = s.mem := rfl
@[simp] theorem State.setSuite_bricks (s : State) (k : Nat) (u : Suite) : (s.setSuite k u).bricks = s.bricks := rfl
@[simp] theorem State.setSuite_rooms (s : State) (k : Nat) (u : Suite) : (s.setSuite k u).rooms = s.rooms := rfl
@[simp] theorem State.setSuite_glatch (s : State) (k : Nat) (u : Suite) : (s.setSuite k u).glatch = s.glatch := rfl
@[simp] theorem State.setSuite_pkts (s : State) (k : Nat) (u : Suite) : (s.setSuite k u).pkts = s.pkts := rfl
@[simp] theorem State.setSuite_outst (s : State) (k : Nat) (u : Suite) : (s.setSuite k u).outst = s.outst := rfl
@[simp] theorem State.setSuite_nextTag (s : State) (k : Nat) (u : Suite) : (s.setSuite k u).nextTag = s.nextTag := rfl
@[simp] theorem State.setSuite_flying (s : State) (k : Nat) (u : Suite) : (s.setSuite k u).flying = s.flying := rfl
@[simp] theorem State.setSuite_collector (s : State) (k : Nat) (u : Suite) : (s.setSuite k u).collector = s.collector := rfl
@[simp] theorem State.setSuite_incSeq (s : State) (k : Nat) (u : Suite) : (s.setSuite k u).incSeq = s.incSeq := rfl
@[simp] theorem State.setSuite_remap (s : State) (k : Nat) (u : Suite) : (s.setSuite k u).remap = s.remap := rfl
@[simp] theorem State.setSuite_c24 (s : State) (k : Nat) (u : Suite) : (s.setSuite k u).c24 = s.c24 := rfl
@[simp] theorem State.setSuite_rim (s : State) (k : Nat) (u : Suite) : (s.setSuite k u).rim = s.rim := rfl
@[simp] theorem State.setSuite_out (s : State) (k : Nat) (u : Suite) : (s.setSuite k u).out = s.out := rfl
@[simp] theorem State.setSuite_busData (s : State) (k : Nat) (u : Suite) : (s.setSuite k u).busData = s.busData := rfl
@[simp] theorem State.setSuite_free (s : State) (k : Nat) (u : Suite) : (s.setSuite k u).free = s.free := rfl
@[simp] theorem State.setSuite_pending (s : State) (k : Nat) (u : Suite) : (s.setSuite k u).pending = s.pending := rfl
@[simp] theorem State.setSuite_rd (s : State) (k : Nat) (u : Suite) (q : PageRef) (o : Nat) : (s.setSuite k u).rd q o = s.rd q o := rfl
@[simp] theorem State.setSuite_brick (s : State) (k : Nat) (u : Suite) (i j : Nat) : (s.setSuite k u).brick i j = s.brick i j := rfl
@[simp] theorem State.setSuite_room (s : State) (k : Nat) (u : Suite) (i : Nat) : (s.setSuite k u).room i = s.room i := rfl
@[simp] theorem State.setSuite_ldByte (s : State) (k : Nat) (u : Suite) (i : Nat) : (s.setSuite k u).ldByte i = s.ldByte i := rfl
@[simp] theorem State.setSuite_isArmed (s : State) (k : Nat) (u : Suite) (q : PageRef) (i : Nat) : (s.setSuite k u).isArmed q i = s.isArmed q i := rfl

/-! ### `stByte` changes only `mem` -/

@[simp] theorem State.stByte_et (s : State) (a : Nat) (v : Byte) : (s.stByte a v).et = s.et := rfl
@[simp] theorem State.stByte_etPhase (s : State) (a : Nat) (v : Byte) : (s.stByte a v).etPhase = s.etPhase := rfl
@[simp] theorem State.stByte_regs (s : State) (a : Nat) (v : Byte) : (s.stByte a v).regs = s.regs := rfl
@[simp] theorem State.stByte_armed (s : State) (a : Nat) (v : Byte) : (s.stByte a v).armed = s.armed := rfl
@[simp] theorem State.stByte_injLat (s : State) (a : Nat) (v : Byte) : (s.stByte a v).injLat = s.injLat := rfl
@[simp] theorem State.stByte_bricks (s : State) (a : Nat) (v : Byte) : (s.stByte a v).bricks = s.bricks := rfl
@[simp] theorem State.stByte_rooms (s : State) (a : Nat) (v : Byte) : (s.stByte a v).rooms = s.rooms := rfl
@[simp] theorem State.stByte_suites (s : State) (a : Nat) (v : Byte) : (s.stByte a v).suites = s.suites := rfl
@[simp] theorem State.stByte_glatch (s : State) (a : Nat) (v : Byte) : (s.stByte a v).glatch = s.glatch := rfl
@[simp] theorem State.stByte_pkts (s : State) (a : Nat) (v : Byte) : (s.stByte a v).pkts = s.pkts := rfl
@[simp] theorem State.stByte_outst (s : State) (a : Nat) (v : Byte) : (s.stByte a v).outst = s.outst := rfl
@[simp] theorem State.stByte_nextTag (s : State) (a : Nat) (v : Byte) : (s.stByte a v).nextTag = s.nextTag := rfl
@[simp] theorem State.stByte_flying (s : State) (a : Nat) (v : Byte) : (s.stByte a v).flying = s.flying := rfl
@[simp] theorem State.stByte_collector (s : State) (a : Nat) (v : Byte) : (s.stByte a v).collector = s.collector := rfl
@[simp] theorem State.stByte_incSeq (s : State) (a : Nat) (v : Byte) : (s.stByte a v).incSeq = s.incSeq := rfl
@[simp] theorem State.stByte_remap (s : State) (a : Nat) (v : Byte) : (s.stByte a v).remap = s.remap := rfl
@[simp] theorem State.stByte_c24 (s : State) (a : Nat) (v : Byte) : (s.stByte a v).c24 = s.c24 := rfl
@[simp] theorem State.stByte_rim (s : State) (a : Nat) (v : Byte) : (s.stByte a v).rim = s.rim := rfl
@[simp] theorem State.stByte_out (s : State) (a : Nat) (v : Byte) : (s.stByte a v).out = s.out := rfl
@[simp] theorem State.stByte_busData (s : State) (a : Nat) (v : Byte) : (s.stByte a v).busData = s.busData := rfl
@[simp] theorem State.stByte_free (s : State) (a : Nat) (v : Byte) : (s.stByte a v).free = s.free := rfl
@[simp] theorem State.stByte_pending (s : State) (a : Nat) (v : Byte) : (s.stByte a v).pending = s.pending := rfl
@[simp] theorem State.stByte_rd (s : State) (a : Nat) (v : Byte) (q : PageRef) (o : Nat) : (s.stByte a v).rd q o = s.rd q o := rfl
@[simp] theorem State.stByte_brick (s : State) (a : Nat) (v : Byte) (i j : Nat) : (s.stByte a v).brick i j = s.brick i j := rfl
@[simp] theorem State.stByte_room (s : State) (a : Nat) (v : Byte) (i : Nat) : (s.stByte a v).room i = s.room i := rfl
@[simp] theorem State.stByte_suite (s : State) (a : Nat) (v : Byte) (i : Nat) : (s.stByte a v).suite i = s.suite i := rfl
@[simp] theorem State.stByte_isArmed (s : State) (a : Nat) (v : Byte) (q : PageRef) (i : Nat) : (s.stByte a v).isArmed q i = s.isArmed q i := rfl
@[simp] theorem State.stByte_suiteOf (s : State) (a : Nat) (v : Byte) (i : Nat) : (s.stByte a v).suiteOf i = s.suiteOf i := rfl

/-! ### `stBytes` changes only `mem` -/

@[simp] theorem State.stBytes_et (s : State) (a : Nat) (v : List Byte) : (s.stBytes a v).et = s.et := rfl
@[simp] theorem State.stBytes_etPhase (s : State) (a : Nat) (v : List Byte) : (s.stBytes a v).etPhase = s.etPhase := rfl
@[simp] theorem State.stBytes_regs (s : State) (a : Nat) (v : List Byte) : (s.stBytes a v).regs = s.regs := rfl
@[simp] theorem State.stBytes_armed (s : State) (a : Nat) (v : List Byte) : (s.stBytes a v).armed = s.armed := rfl
@[simp] theorem State.stBytes_injLat (s : State) (a : Nat) (v : List Byte) : (s.stBytes a v).injLat = s.injLat := rfl
@[simp] theorem State.stBytes_bricks (s : State) (a : Nat) (v : List Byte) : (s.stBytes a v).bricks = s.bricks := rfl
@[simp] theorem State.stBytes_rooms (s : State) (a : Nat) (v : List Byte) : (s.stBytes a v).rooms = s.rooms := rfl
@[simp] theorem State.stBytes_suites (s : State) (a : Nat) (v : List Byte) : (s.stBytes a v).suites = s.suites := rfl
@[simp] theorem State.stBytes_glatch (s : State) (a : Nat) (v : List Byte) : (s.stBytes a v).glatch = s.glatch := rfl
@[simp] theorem State.stBytes_pkts (s : State) (a : Nat) (v : List Byte) : (s.stBytes a v).pkts = s.pkts := rfl
@[simp] theorem State.stBytes_outst (s : State) (a : Nat) (v : List Byte) : (s.stBytes a v).outst = s.outst := rfl
@[simp] theorem State.stBytes_nextTag (s : State) (a : Nat) (v : List Byte) : (s.stBytes a v).nextTag = s.nextTag := rfl
@[simp] theorem State.stBytes_flying (s : State) (a : Nat) (v : List Byte) : (s.stBytes a v).flying = s.flying := rfl
@[simp] theorem State.stBytes_collector (s : State) (a : Nat) (v : List Byte) : (s.stBytes a v).collector = s.collector := rfl
@[simp] theorem State.stBytes_incSeq (s : State) (a : Nat) (v : List Byte) : (s.stBytes a v).incSeq = s.incSeq := rfl
@[simp] theorem State.stBytes_remap (s : State) (a : Nat) (v : List Byte) : (s.stBytes a v).remap = s.remap := rfl
@[simp] theorem State.stBytes_c24 (s : State) (a : Nat) (v : List Byte) : (s.stBytes a v).c24 = s.c24 := rfl
@[simp] theorem State.stBytes_rim (s : State) (a : Nat) (v : List Byte) : (s.stBytes a v).rim = s.rim := rfl
@[simp] theorem State.stBytes_out (s : State) (a : Nat) (v : List Byte) : (s.stBytes a v).out = s.out := rfl
@[simp] theorem State.stBytes_busData (s : State) (a : Nat) (v : List Byte) : (s.stBytes a v).busData = s.busData := rfl
@[simp] theorem State.stBytes_free (s : State) (a : Nat) (v : List Byte) : (s.stBytes a v).free = s.free := rfl
@[simp] theorem State.stBytes_pending (s : State) (a : Nat) (v : List Byte) : (s.stBytes a v).pending = s.pending := rfl
@[simp] theorem State.stBytes_rd (s : State) (a : Nat) (v : List Byte) (q : PageRef) (o : Nat) : (s.stBytes a v).rd q o = s.rd q o := rfl
@[simp] theorem State.stBytes_brick (s : State) (a : Nat) (v : List Byte) (i j : Nat) : (s.stBytes a v).brick i j = s.brick i j := rfl
@[simp] theorem State.stBytes_room (s : State) (a : Nat) (v : List Byte) (i : Nat) : (s.stBytes a v).room i = s.room i := rfl
@[simp] theorem State.stBytes_suite (s : State) (a : Nat) (v : List Byte) (i : Nat) : (s.stBytes a v).suite i = s.suite i := rfl
@[simp] theorem State.stBytes_isArmed (s : State) (a : Nat) (v : List Byte) (q : PageRef) (i : Nat) : (s.stBytes a v).isArmed q i = s.isArmed q i := rfl
@[simp] theorem State.stBytes_suiteOf (s : State) (a : Nat) (v : List Byte) (i : Nat) : (s.stBytes a v).suiteOf i = s.suiteOf i := rfl

/-! ### `stWord` changes only `mem` -/

@[simp] theorem State.stWord_et (s : State) (a : Nat) (v : W64) : (s.stWord a v).et = s.et := rfl
@[simp] theorem State.stWord_etPhase (s : State) (a : Nat) (v : W64) : (s.stWord a v).etPhase = s.etPhase := rfl
@[simp] theorem State.stWord_regs (s : State) (a : Nat) (v : W64) : (s.stWord a v).regs = s.regs := rfl
@[simp] theorem State.stWord_armed (s : State) (a : Nat) (v : W64) : (s.stWord a v).armed = s.armed := rfl
@[simp] theorem State.stWord_injLat (s : State) (a : Nat) (v : W64) : (s.stWord a v).injLat = s.injLat := rfl
@[simp] theorem State.stWord_bricks (s : State) (a : Nat) (v : W64) : (s.stWord a v).bricks = s.bricks := rfl
@[simp] theorem State.stWord_rooms (s : State) (a : Nat) (v : W64) : (s.stWord a v).rooms = s.rooms := rfl
@[simp] theorem State.stWord_suites (s : State) (a : Nat) (v : W64) : (s.stWord a v).suites = s.suites := rfl
@[simp] theorem State.stWord_glatch (s : State) (a : Nat) (v : W64) : (s.stWord a v).glatch = s.glatch := rfl
@[simp] theorem State.stWord_pkts (s : State) (a : Nat) (v : W64) : (s.stWord a v).pkts = s.pkts := rfl
@[simp] theorem State.stWord_outst (s : State) (a : Nat) (v : W64) : (s.stWord a v).outst = s.outst := rfl
@[simp] theorem State.stWord_nextTag (s : State) (a : Nat) (v : W64) : (s.stWord a v).nextTag = s.nextTag := rfl
@[simp] theorem State.stWord_flying (s : State) (a : Nat) (v : W64) : (s.stWord a v).flying = s.flying := rfl
@[simp] theorem State.stWord_collector (s : State) (a : Nat) (v : W64) : (s.stWord a v).collector = s.collector := rfl
@[simp] theorem State.stWord_incSeq (s : State) (a : Nat) (v : W64) : (s.stWord a v).incSeq = s.incSeq := rfl
@[simp] theorem State.stWord_remap (s : State) (a : Nat) (v : W64) : (s.stWord a v).remap = s.remap := rfl
@[simp] theorem State.stWord_c24 (s : State) (a : Nat) (v : W64) : (s.stWord a v).c24 = s.c24 := rfl
@[simp] theorem State.stWord_rim (s : State) (a : Nat) (v : W64) : (s.stWord a v).rim = s.rim := rfl
@[simp] theorem State.stWord_out (s : State) (a : Nat) (v : W64) : (s.stWord a v).out = s.out := rfl
@[simp] theorem State.stWord_busData (s : State) (a : Nat) (v : W64) : (s.stWord a v).busData = s.busData := rfl
@[simp] theorem State.stWord_free (s : State) (a : Nat) (v : W64) : (s.stWord a v).free = s.free := rfl
@[simp] theorem State.stWord_pending (s : State) (a : Nat) (v : W64) : (s.stWord a v).pending = s.pending := rfl
@[simp] theorem State.stWord_rd (s : State) (a : Nat) (v : W64) (q : PageRef) (o : Nat) : (s.stWord a v).rd q o = s.rd q o := rfl
@[simp] theorem State.stWord_brick (s : State) (a : Nat) (v : W64) (i j : Nat) : (s.stWord a v).brick i j = s.brick i j := rfl
@[simp] theorem State.stWord_room (s : State) (a : Nat) (v : W64) (i : Nat) : (s.stWord a v).room i = s.room i := rfl
@[simp] theorem State.stWord_suite (s : State) (a : Nat) (v : W64) (i : Nat) : (s.stWord a v).suite i = s.suite i := rfl
@[simp] theorem State.stWord_isArmed (s : State) (a : Nat) (v : W64) (q : PageRef) (i : Nat) : (s.stWord a v).isArmed q i = s.isArmed q i := rfl
@[simp] theorem State.stWord_suiteOf (s : State) (a : Nat) (v : W64) (i : Nat) : (s.stWord a v).suiteOf i = s.suiteOf i := rfl

/-! ### `emit` changes only `out` -/

@[simp] theorem State.emit_et (s : State) (m : OutMsg) : (s.emit m).et = s.et := rfl
@[simp] theorem State.emit_etPhase (s : State) (m : OutMsg) : (s.emit m).etPhase = s.etPhase := rfl
@[simp] theorem State.emit_regs (s : State) (m : OutMsg) : (s.emit m).regs = s.regs := rfl
@[simp] theorem State.emit_armed (s : State) (m : OutMsg) : (s.emit m).armed = s.armed := rfl
@[simp] theorem State.emit_injLat (s : State) (m : OutMsg) : (s.emit m).injLat = s.injLat := rfl
@[simp] theorem State.emit_mem (s : State) (m : OutMsg) : (s.emit m).mem = s.mem := rfl
@[simp] theorem State.emit_bricks (s : State) (m : OutMsg) : (s.emit m).bricks = s.bricks := rfl
@[simp] theorem State.emit_rooms (s : State) (m : OutMsg) : (s.emit m).rooms = s.rooms := rfl
@[simp] theorem State.emit_suites (s : State) (m : OutMsg) : (s.emit m).suites = s.suites := rfl
@[simp] theorem State.emit_glatch (s : State) (m : OutMsg) : (s.emit m).glatch = s.glatch := rfl
@[simp] theorem State.emit_pkts (s : State) (m : OutMsg) : (s.emit m).pkts = s.pkts := rfl
@[simp] theorem State.emit_outst (s : State) (m : OutMsg) : (s.emit m).outst = s.outst := rfl
@[simp] theorem State.emit_nextTag (s : State) (m : OutMsg) : (s.emit m).nextTag = s.nextTag := rfl
@[simp] theorem State.emit_flying (s : State) (m : OutMsg) : (s.emit m).flying = s.flying := rfl
@[simp] theorem State.emit_collector (s : State) (m : OutMsg) : (s.emit m).collector = s.collector := rfl
@[simp] theorem State.emit_incSeq (s : State) (m : OutMsg) : (s.emit m).incSeq = s.incSeq := rfl
@[simp] theorem State.emit_remap (s : State) (m : OutMsg) : (s.emit m).remap = s.remap := rfl
@[simp] theorem State.emit_c24 (s : State) (m : OutMsg) : (s.emit m).c24 = s.c24 := rfl
@[simp] theorem State.emit_rim (s : State) (m : OutMsg) : (s.emit m).rim = s.rim := rfl
@[simp] theorem State.emit_busData (s : State) (m : OutMsg) : (s.emit m).busData = s.busData := rfl
@[simp] theorem State.emit_free (s : State) (m : OutMsg) : (s.emit m).free = s.free := rfl
@[simp] theorem State.emit_pending (s : State) (m : OutMsg) : (s.emit m).pending = s.pending := rfl
@[simp] theorem State.emit_rd (s : State) (m : OutMsg) (q : PageRef) (o : Nat) : (s.emit m).rd q o = s.rd q o := rfl
@[simp] theorem State.emit_brick (s : State) (m : OutMsg) (i j : Nat) : (s.emit m).brick i j = s.brick i j := rfl
@[simp] theorem State.emit_room (s : State) (m : OutMsg) (i : Nat) : (s.emit m).room i = s.room i := rfl
@[simp] theorem State.emit_suite (s : State) (m : OutMsg) (i : Nat) : (s.emit m).suite i = s.suite i := rfl
@[simp] theorem State.emit_ldByte (s : State) (m : OutMsg) (i : Nat) : (s.emit m).ldByte i = s.ldByte i := rfl
@[simp] theorem State.emit_isArmed (s : State) (m : OutMsg) (q : PageRef) (i : Nat) : (s.emit m).isArmed q i = s.isArmed q i := rfl
@[simp] theorem State.emit_suiteOf (s : State) (m : OutMsg) (i : Nat) : (s.emit m).suiteOf i = s.suiteOf i := rfl

/-! ### `answer` changes only `busData` -/

@[simp] theorem State.answer_et (s : State) (v : W64) : (s.answer v).et = s.et := rfl
@[simp] theorem State.answer_etPhase (s : State) (v : W64) : (s.answer v).etPhase = s.etPhase := rfl
@[simp] theorem State.answer_regs (s : State) (v : W64) : (s.answer v).regs = s.regs := rfl
@[simp] theorem State.answer_armed (s : State) (v : W64) : (s.answer v).armed = s.armed := rfl
@[simp] theorem State.answer_injLat (s : State) (v : W64) : (s.answer v).injLat = s.injLat := rfl
@[simp] theorem State.answer_mem (s : State) (v : W64) : (s.answer v).mem = s.mem := rfl
@[simp] theorem State.answer_bricks (s : State) (v : W64) : (s.answer v).bricks = s.bricks := rfl
@[simp] theorem State.answer_rooms (s : State) (v : W64) : (s.answer v).rooms = s.rooms := rfl
@[simp] theorem State.answer_suites (s : State) (v : W64) : (s.answer v).suites = s.suites := rfl
@[simp] theorem State.answer_glatch (s : State) (v : W64) : (s.answer v).glatch = s.glatch := rfl
@[simp] theorem State.answer_pkts (s : State) (v : W64) : (s.answer v).pkts = s.pkts := rfl
@[simp] theorem State.answer_outst (s : State) (v : W64) : (s.answer v).outst = s.outst := rfl
@[simp] theorem State.answer_nextTag (s : State) (v : W64) : (s.answer v).nextTag = s.nextTag := rfl
@[simp] theorem State.answer_flying (s : State) (v : W64) : (s.answer v).flying = s.flying := rfl
@[simp] theorem State.answer_collector (s : State) (v : W64) : (s.answer v).collector = s.collector := rfl
@[simp] theorem State.answer_incSeq (s : State) (v : W64) : (s.answer v).incSeq = s.incSeq := rfl
@[simp] theorem State.answer_remap (s : State) (v : W64) : (s.answer v).remap = s.remap := rfl
@[simp] theorem State.answer_c24 (s : State) (v : W64) : (s.answer v).c24 = s.c24 := rfl
@[simp] theorem State.answer_rim (s : State) (v : W64) : (s.answer v).rim = s.rim := rfl
@[simp] theorem State.answer_out (s : State) (v : W64) : (s.answer v).out = s.out := rfl
@[simp] theorem State.answer_free (s : State) (v : W64) : (s.answer v).free = s.free := rfl
@[simp] theorem State.answer_pending (s : State) (v : W64) : (s.answer v).pending = s.pending := rfl
@[simp] theorem State.answer_rd (s : State) (v : W64) (q : PageRef) (o : Nat) : (s.answer v).rd q o = s.rd q o := rfl
@[simp] theorem State.answer_brick (s : State) (v : W64) (i j : Nat) : (s.answer v).brick i j = s.brick i j := rfl
@[simp] theorem State.answer_room (s : State) (v : W64) (i : Nat) : (s.answer v).room i = s.room i := rfl
@[simp] theorem State.answer_suite (s : State) (v : W64) (i : Nat) : (s.answer v).suite i = s.suite i := rfl
@[simp] theorem State.answer_ldByte (s : State) (v : W64) (i : Nat) : (s.answer v).ldByte i = s.ldByte i := rfl
@[simp] theorem State.answer_isArmed (s : State) (v : W64) (q : PageRef) (i : Nat) : (s.answer v).isArmed q i = s.isArmed q i := rfl
@[simp] theorem State.answer_suiteOf (s : State) (v : W64) (i : Nat) : (s.answer v).suiteOf i = s.suiteOf i := rfl

/-! ### `record` changes only `flying` -/

@[simp] theorem State.record_et (s : State) (p : PageRef) (cause kind : Nat) (injected hand halt : Bool) (suite ref : Nat) (detail : W64) : (s.record p cause kind injected hand halt suite ref detail).et = s.et := rfl
@[simp] theorem State.record_etPhase (s : State) (p : PageRef) (cause kind : Nat) (injected hand halt : Bool) (suite ref : Nat) (detail : W64) : (s.record p cause kind injected hand halt suite ref detail).etPhase = s.etPhase := rfl
@[simp] theorem State.record_regs (s : State) (p : PageRef) (cause kind : Nat) (injected hand halt : Bool) (suite ref : Nat) (detail : W64) : (s.record p cause kind injected hand halt suite ref detail).regs = s.regs := rfl
@[simp] theorem State.record_armed (s : State) (p : PageRef) (cause kind : Nat) (injected hand halt : Bool) (suite ref : Nat) (detail : W64) : (s.record p cause kind injected hand halt suite ref detail).armed = s.armed := rfl
@[simp] theorem State.record_injLat (s : State) (p : PageRef) (cause kind : Nat) (injected hand halt : Bool) (suite ref : Nat) (detail : W64) : (s.record p cause kind injected hand halt suite ref detail).injLat = s.injLat := rfl
@[simp] theorem State.record_mem (s : State) (p : PageRef) (cause kind : Nat) (injected hand halt : Bool) (suite ref : Nat) (detail : W64) : (s.record p cause kind injected hand halt suite ref detail).mem = s.mem := rfl
@[simp] theorem State.record_bricks (s : State) (p : PageRef) (cause kind : Nat) (injected hand halt : Bool) (suite ref : Nat) (detail : W64) : (s.record p cause kind injected hand halt suite ref detail).bricks = s.bricks := rfl
@[simp] theorem State.record_rooms (s : State) (p : PageRef) (cause kind : Nat) (injected hand halt : Bool) (suite ref : Nat) (detail : W64) : (s.record p cause kind injected hand halt suite ref detail).rooms = s.rooms := rfl
@[simp] theorem State.record_suites (s : State) (p : PageRef) (cause kind : Nat) (injected hand halt : Bool) (suite ref : Nat) (detail : W64) : (s.record p cause kind injected hand halt suite ref detail).suites = s.suites := rfl
@[simp] theorem State.record_glatch (s : State) (p : PageRef) (cause kind : Nat) (injected hand halt : Bool) (suite ref : Nat) (detail : W64) : (s.record p cause kind injected hand halt suite ref detail).glatch = s.glatch := rfl
@[simp] theorem State.record_pkts (s : State) (p : PageRef) (cause kind : Nat) (injected hand halt : Bool) (suite ref : Nat) (detail : W64) : (s.record p cause kind injected hand halt suite ref detail).pkts = s.pkts := rfl
@[simp] theorem State.record_outst (s : State) (p : PageRef) (cause kind : Nat) (injected hand halt : Bool) (suite ref : Nat) (detail : W64) : (s.record p cause kind injected hand halt suite ref detail).outst = s.outst := rfl
@[simp] theorem State.record_nextTag (s : State) (p : PageRef) (cause kind : Nat) (injected hand halt : Bool) (suite ref : Nat) (detail : W64) : (s.record p cause kind injected hand halt suite ref detail).nextTag = s.nextTag := rfl
@[simp] theorem State.record_collector (s : State) (p : PageRef) (cause kind : Nat) (injected hand halt : Bool) (suite ref : Nat) (detail : W64) : (s.record p cause kind injected hand halt suite ref detail).collector = s.collector := rfl
@[simp] theorem State.record_incSeq (s : State) (p : PageRef) (cause kind : Nat) (injected hand halt : Bool) (suite ref : Nat) (detail : W64) : (s.record p cause kind injected hand halt suite ref detail).incSeq = s.incSeq := rfl
@[simp] theorem State.record_remap (s : State) (p : PageRef) (cause kind : Nat) (injected hand halt : Bool) (suite ref : Nat) (detail : W64) : (s.record p cause kind injected hand halt suite ref detail).remap = s.remap := rfl
@[simp] theorem State.record_c24 (s : State) (p : PageRef) (cause kind : Nat) (injected hand halt : Bool) (suite ref : Nat) (detail : W64) : (s.record p cause kind injected hand halt suite ref detail).c24 = s.c24 := rfl
@[simp] theorem State.record_rim (s : State) (p : PageRef) (cause kind : Nat) (injected hand halt : Bool) (suite ref : Nat) (detail : W64) : (s.record p cause kind injected hand halt suite ref detail).rim = s.rim := rfl
@[simp] theorem State.record_out (s : State) (p : PageRef) (cause kind : Nat) (injected hand halt : Bool) (suite ref : Nat) (detail : W64) : (s.record p cause kind injected hand halt suite ref detail).out = s.out := rfl
@[simp] theorem State.record_busData (s : State) (p : PageRef) (cause kind : Nat) (injected hand halt : Bool) (suite ref : Nat) (detail : W64) : (s.record p cause kind injected hand halt suite ref detail).busData = s.busData := rfl
@[simp] theorem State.record_free (s : State) (p : PageRef) (cause kind : Nat) (injected hand halt : Bool) (suite ref : Nat) (detail : W64) : (s.record p cause kind injected hand halt suite ref detail).free = s.free := rfl
@[simp] theorem State.record_pending (s : State) (p : PageRef) (cause kind : Nat) (injected hand halt : Bool) (suite ref : Nat) (detail : W64) : (s.record p cause kind injected hand halt suite ref detail).pending = s.pending := rfl
@[simp] theorem State.record_rd (s : State) (p : PageRef) (cause kind : Nat) (injected hand halt : Bool) (suite ref : Nat) (detail : W64) (q : PageRef) (o : Nat) : (s.record p cause kind injected hand halt suite ref detail).rd q o = s.rd q o := rfl
@[simp] theorem State.record_brick (s : State) (p : PageRef) (cause kind : Nat) (injected hand halt : Bool) (suite ref : Nat) (detail : W64) (i j : Nat) : (s.record p cause kind injected hand halt suite ref detail).brick i j = s.brick i j := rfl
@[simp] theorem State.record_room (s : State) (p : PageRef) (cause kind : Nat) (injected hand halt : Bool) (suite ref : Nat) (detail : W64) (i : Nat) : (s.record p cause kind injected hand halt suite ref detail).room i = s.room i := rfl
@[simp] theorem State.record_suite (s : State) (p : PageRef) (cause kind : Nat) (injected hand halt : Bool) (suite ref : Nat) (detail : W64) (i : Nat) : (s.record p cause kind injected hand halt suite ref detail).suite i = s.suite i := rfl
@[simp] theorem State.record_ldByte (s : State) (p : PageRef) (cause kind : Nat) (injected hand halt : Bool) (suite ref : Nat) (detail : W64) (i : Nat) : (s.record p cause kind injected hand halt suite ref detail).ldByte i = s.ldByte i := rfl
@[simp] theorem State.record_isArmed (s : State) (p : PageRef) (cause kind : Nat) (injected hand halt : Bool) (suite ref : Nat) (detail : W64) (q : PageRef) (i : Nat) : (s.record p cause kind injected hand halt suite ref detail).isArmed q i = s.isArmed q i := rfl
@[simp] theorem State.record_suiteOf (s : State) (p : PageRef) (cause kind : Nat) (injected hand halt : Bool) (suite ref : Nat) (detail : W64) (i : Nat) : (s.record p cause kind injected hand halt suite ref detail).suiteOf i = s.suiteOf i := rfl

/-! ### `inject` changes only `pkts` -/

@[simp] theorem State.inject_et (s : State) (r : Nat) (p : Pkt) : (s.inject r p).et = s.et := rfl
@[simp] theorem State.inject_etPhase (s : State) (r : Nat) (p : Pkt) : (s.inject r p).etPhase = s.etPhase := rfl
@[simp] theorem State.inject_regs (s : State) (r : Nat) (p : Pkt) : (s.inject r p).regs = s.regs := rfl
@[simp] theorem State.inject_armed (s : State) (r : Nat) (p : Pkt) : (s.inject r p).armed = s.armed := rfl
@[simp] theorem State.inject_injLat (s : State) (r : Nat) (p : Pkt) : (s.inject r p).injLat = s.injLat := rfl
@[simp] theorem State.inject_mem (s : State) (r : Nat) (p : Pkt) : (s.inject r p).mem = s.mem := rfl
@[simp] theorem State.inject_bricks (s : State) (r : Nat) (p : Pkt) : (s.inject r p).bricks = s.bricks := rfl
@[simp] theorem State.inject_rooms (s : State) (r : Nat) (p : Pkt) : (s.inject r p).rooms = s.rooms := rfl
@[simp] theorem State.inject_suites (s : State) (r : Nat) (p : Pkt) : (s.inject r p).suites = s.suites := rfl
@[simp] theorem State.inject_glatch (s : State) (r : Nat) (p : Pkt) : (s.inject r p).glatch = s.glatch := rfl
@[simp] theorem State.inject_outst (s : State) (r : Nat) (p : Pkt) : (s.inject r p).outst = s.outst := rfl
@[simp] theorem State.inject_nextTag (s : State) (r : Nat) (p : Pkt) : (s.inject r p).nextTag = s.nextTag := rfl
@[simp] theorem State.inject_flying (s : State) (r : Nat) (p : Pkt) : (s.inject r p).flying = s.flying := rfl
@[simp] theorem State.inject_collector (s : State) (r : Nat) (p : Pkt) : (s.inject r p).collector = s.collector := rfl
@[simp] theorem State.inject_incSeq (s : State) (r : Nat) (p : Pkt) : (s.inject r p).incSeq = s.incSeq := rfl
@[simp] theorem State.inject_remap (s : State) (r : Nat) (p : Pkt) : (s.inject r p).remap = s.remap := rfl
@[simp] theorem State.inject_c24 (s : State) (r : Nat) (p : Pkt) : (s.inject r p).c24 = s.c24 := rfl
@[simp] theorem State.inject_rim (s : State) (r : Nat) (p : Pkt) : (s.inject r p).rim = s.rim := rfl
@[simp] theorem State.inject_out (s : State) (r : Nat) (p : Pkt) : (s.inject r p).out = s.out := rfl
@[simp] theorem State.inject_busData (s : State) (r : Nat) (p : Pkt) : (s.inject r p).busData = s.busData := rfl
@[simp] theorem State.inject_free (s : State) (r : Nat) (p : Pkt) : (s.inject r p).free = s.free := rfl
@[simp] theorem State.inject_pending (s : State) (r : Nat) (p : Pkt) : (s.inject r p).pending = s.pending := rfl
@[simp] theorem State.inject_rd (s : State) (r : Nat) (p : Pkt) (q : PageRef) (o : Nat) : (s.inject r p).rd q o = s.rd q o := rfl
@[simp] theorem State.inject_brick (s : State) (r : Nat) (p : Pkt) (i j : Nat) : (s.inject r p).brick i j = s.brick i j := rfl
@[simp] theorem State.inject_room (s : State) (r : Nat) (p : Pkt) (i : Nat) : (s.inject r p).room i = s.room i := rfl
@[simp] theorem State.inject_suite (s : State) (r : Nat) (p : Pkt) (i : Nat) : (s.inject r p).suite i = s.suite i := rfl
@[simp] theorem State.inject_ldByte (s : State) (r : Nat) (p : Pkt) (i : Nat) : (s.inject r p).ldByte i = s.ldByte i := rfl
@[simp] theorem State.inject_isArmed (s : State) (r : Nat) (p : Pkt) (q : PageRef) (i : Nat) : (s.inject r p).isArmed q i = s.isArmed q i := rfl
@[simp] theorem State.inject_suiteOf (s : State) (r : Nat) (p : Pkt) (i : Nat) : (s.inject r p).suiteOf i = s.suiteOf i := rfl

/-! ### `routerSend` changes only `pkts` -/

@[simp] theorem State.routerSend_et (s : State) (r : Nat) (p : Pkt) : (s.routerSend r p).et = s.et := rfl
@[simp] theorem State.routerSend_etPhase (s : State) (r : Nat) (p : Pkt) : (s.routerSend r p).etPhase = s.etPhase := rfl
@[simp] theorem State.routerSend_regs (s : State) (r : Nat) (p : Pkt) : (s.routerSend r p).regs = s.regs := rfl
@[simp] theorem State.routerSend_armed (s : State) (r : Nat) (p : Pkt) : (s.routerSend r p).armed = s.armed := rfl
@[simp] theorem State.routerSend_injLat (s : State) (r : Nat) (p : Pkt) : (s.routerSend r p).injLat = s.injLat := rfl
@[simp] theorem State.routerSend_mem (s : State) (r : Nat) (p : Pkt) : (s.routerSend r p).mem = s.mem := rfl
@[simp] theorem State.routerSend_bricks (s : State) (r : Nat) (p : Pkt) : (s.routerSend r p).bricks = s.bricks := rfl
@[simp] theorem State.routerSend_rooms (s : State) (r : Nat) (p : Pkt) : (s.routerSend r p).rooms = s.rooms := rfl
@[simp] theorem State.routerSend_suites (s : State) (r : Nat) (p : Pkt) : (s.routerSend r p).suites = s.suites := rfl
@[simp] theorem State.routerSend_glatch (s : State) (r : Nat) (p : Pkt) : (s.routerSend r p).glatch = s.glatch := rfl
@[simp] theorem State.routerSend_outst (s : State) (r : Nat) (p : Pkt) : (s.routerSend r p).outst = s.outst := rfl
@[simp] theorem State.routerSend_nextTag (s : State) (r : Nat) (p : Pkt) : (s.routerSend r p).nextTag = s.nextTag := rfl
@[simp] theorem State.routerSend_flying (s : State) (r : Nat) (p : Pkt) : (s.routerSend r p).flying = s.flying := rfl
@[simp] theorem State.routerSend_collector (s : State) (r : Nat) (p : Pkt) : (s.routerSend r p).collector = s.collector := rfl
@[simp] theorem State.routerSend_incSeq (s : State) (r : Nat) (p : Pkt) : (s.routerSend r p).incSeq = s.incSeq := rfl
@[simp] theorem State.routerSend_remap (s : State) (r : Nat) (p : Pkt) : (s.routerSend r p).remap = s.remap := rfl
@[simp] theorem State.routerSend_c24 (s : State) (r : Nat) (p : Pkt) : (s.routerSend r p).c24 = s.c24 := rfl
@[simp] theorem State.routerSend_rim (s : State) (r : Nat) (p : Pkt) : (s.routerSend r p).rim = s.rim := rfl
@[simp] theorem State.routerSend_out (s : State) (r : Nat) (p : Pkt) : (s.routerSend r p).out = s.out := rfl
@[simp] theorem State.routerSend_busData (s : State) (r : Nat) (p : Pkt) : (s.routerSend r p).busData = s.busData := rfl
@[simp] theorem State.routerSend_free (s : State) (r : Nat) (p : Pkt) : (s.routerSend r p).free = s.free := rfl
@[simp] theorem State.routerSend_pending (s : State) (r : Nat) (p : Pkt) : (s.routerSend r p).pending = s.pending := rfl
@[simp] theorem State.routerSend_rd (s : State) (r : Nat) (p : Pkt) (q : PageRef) (o : Nat) : (s.routerSend r p).rd q o = s.rd q o := rfl
@[simp] theorem State.routerSend_brick (s : State) (r : Nat) (p : Pkt) (i j : Nat) : (s.routerSend r p).brick i j = s.brick i j := rfl
@[simp] theorem State.routerSend_room (s : State) (r : Nat) (p : Pkt) (i : Nat) : (s.routerSend r p).room i = s.room i := rfl
@[simp] theorem State.routerSend_suite (s : State) (r : Nat) (p : Pkt) (i : Nat) : (s.routerSend r p).suite i = s.suite i := rfl
@[simp] theorem State.routerSend_ldByte (s : State) (r : Nat) (p : Pkt) (i : Nat) : (s.routerSend r p).ldByte i = s.ldByte i := rfl
@[simp] theorem State.routerSend_isArmed (s : State) (r : Nat) (p : Pkt) (q : PageRef) (i : Nat) : (s.routerSend r p).isArmed q i = s.isArmed q i := rfl
@[simp] theorem State.routerSend_suiteOf (s : State) (r : Nat) (p : Pkt) (i : Nat) : (s.routerSend r p).suiteOf i = s.suiteOf i := rfl

/-! ### `srvWr` changes only `rim` -/

@[simp] theorem State.srvWr_et (s : State) (phys off : Nat) (v : W64) : (s.srvWr phys off v).et = s.et := rfl
@[simp] theorem State.srvWr_etPhase (s : State) (phys off : Nat) (v : W64) : (s.srvWr phys off v).etPhase = s.etPhase := rfl
@[simp] theorem State.srvWr_regs (s : State) (phys off : Nat) (v : W64) : (s.srvWr phys off v).regs = s.regs := rfl
@[simp] theorem State.srvWr_armed (s : State) (phys off : Nat) (v : W64) : (s.srvWr phys off v).armed = s.armed := rfl
@[simp] theorem State.srvWr_injLat (s : State) (phys off : Nat) (v : W64) : (s.srvWr phys off v).injLat = s.injLat := rfl
@[simp] theorem State.srvWr_mem (s : State) (phys off : Nat) (v : W64) : (s.srvWr phys off v).mem = s.mem := rfl
@[simp] theorem State.srvWr_bricks (s : State) (phys off : Nat) (v : W64) : (s.srvWr phys off v).bricks = s.bricks := rfl
@[simp] theorem State.srvWr_rooms (s : State) (phys off : Nat) (v : W64) : (s.srvWr phys off v).rooms = s.rooms := rfl
@[simp] theorem State.srvWr_suites (s : State) (phys off : Nat) (v : W64) : (s.srvWr phys off v).suites = s.suites := rfl
@[simp] theorem State.srvWr_glatch (s : State) (phys off : Nat) (v : W64) : (s.srvWr phys off v).glatch = s.glatch := rfl
@[simp] theorem State.srvWr_pkts (s : State) (phys off : Nat) (v : W64) : (s.srvWr phys off v).pkts = s.pkts := rfl
@[simp] theorem State.srvWr_outst (s : State) (phys off : Nat) (v : W64) : (s.srvWr phys off v).outst = s.outst := rfl
@[simp] theorem State.srvWr_nextTag (s : State) (phys off : Nat) (v : W64) : (s.srvWr phys off v).nextTag = s.nextTag := rfl
@[simp] theorem State.srvWr_flying (s : State) (phys off : Nat) (v : W64) : (s.srvWr phys off v).flying = s.flying := rfl
@[simp] theorem State.srvWr_collector (s : State) (phys off : Nat) (v : W64) : (s.srvWr phys off v).collector = s.collector := rfl
@[simp] theorem State.srvWr_incSeq (s : State) (phys off : Nat) (v : W64) : (s.srvWr phys off v).incSeq = s.incSeq := rfl
@[simp] theorem State.srvWr_remap (s : State) (phys off : Nat) (v : W64) : (s.srvWr phys off v).remap = s.remap := rfl
@[simp] theorem State.srvWr_c24 (s : State) (phys off : Nat) (v : W64) : (s.srvWr phys off v).c24 = s.c24 := rfl
@[simp] theorem State.srvWr_out (s : State) (phys off : Nat) (v : W64) : (s.srvWr phys off v).out = s.out := rfl
@[simp] theorem State.srvWr_busData (s : State) (phys off : Nat) (v : W64) : (s.srvWr phys off v).busData = s.busData := rfl
@[simp] theorem State.srvWr_free (s : State) (phys off : Nat) (v : W64) : (s.srvWr phys off v).free = s.free := rfl
@[simp] theorem State.srvWr_pending (s : State) (phys off : Nat) (v : W64) : (s.srvWr phys off v).pending = s.pending := rfl
@[simp] theorem State.srvWr_rd (s : State) (phys off : Nat) (v : W64) (q : PageRef) (o : Nat) : (s.srvWr phys off v).rd q o = s.rd q o := rfl
@[simp] theorem State.srvWr_brick (s : State) (phys off : Nat) (v : W64) (i j : Nat) : (s.srvWr phys off v).brick i j = s.brick i j := rfl
@[simp] theorem State.srvWr_room (s : State) (phys off : Nat) (v : W64) (i : Nat) : (s.srvWr phys off v).room i = s.room i := rfl
@[simp] theorem State.srvWr_suite (s : State) (phys off : Nat) (v : W64) (i : Nat) : (s.srvWr phys off v).suite i = s.suite i := rfl
@[simp] theorem State.srvWr_ldByte (s : State) (phys off : Nat) (v : W64) (i : Nat) : (s.srvWr phys off v).ldByte i = s.ldByte i := rfl
@[simp] theorem State.srvWr_isArmed (s : State) (phys off : Nat) (v : W64) (q : PageRef) (i : Nat) : (s.srvWr phys off v).isArmed q i = s.isArmed q i := rfl
@[simp] theorem State.srvWr_suiteOf (s : State) (phys off : Nat) (v : W64) (i : Nat) : (s.srvWr phys off v).suiteOf i = s.suiteOf i := rfl

/-! ### `survTouch` changes only `rim` -/

@[simp] theorem State.survTouch_et (s : State) (now : Bool) : (s.survTouch now).et = s.et := rfl
@[simp] theorem State.survTouch_etPhase (s : State) (now : Bool) : (s.survTouch now).etPhase = s.etPhase := rfl
@[simp] theorem State.survTouch_regs (s : State) (now : Bool) : (s.survTouch now).regs = s.regs := rfl
@[simp] theorem State.survTouch_armed (s : State) (now : Bool) : (s.survTouch now).armed = s.armed := rfl
@[simp] theorem State.survTouch_injLat (s : State) (now : Bool) : (s.survTouch now).injLat = s.injLat := rfl
@[simp] theorem State.survTouch_mem (s : State) (now : Bool) : (s.survTouch now).mem = s.mem := rfl
@[simp] theorem State.survTouch_bricks (s : State) (now : Bool) : (s.survTouch now).bricks = s.bricks := rfl
@[simp] theorem State.survTouch_rooms (s : State) (now : Bool) : (s.survTouch now).rooms = s.rooms := rfl
@[simp] theorem State.survTouch_suites (s : State) (now : Bool) : (s.survTouch now).suites = s.suites := rfl
@[simp] theorem State.survTouch_glatch (s : State) (now : Bool) : (s.survTouch now).glatch = s.glatch := rfl
@[simp] theorem State.survTouch_pkts (s : State) (now : Bool) : (s.survTouch now).pkts = s.pkts := rfl
@[simp] theorem State.survTouch_outst (s : State) (now : Bool) : (s.survTouch now).outst = s.outst := rfl
@[simp] theorem State.survTouch_nextTag (s : State) (now : Bool) : (s.survTouch now).nextTag = s.nextTag := rfl
@[simp] theorem State.survTouch_flying (s : State) (now : Bool) : (s.survTouch now).flying = s.flying := rfl
@[simp] theorem State.survTouch_collector (s : State) (now : Bool) : (s.survTouch now).collector = s.collector := rfl
@[simp] theorem State.survTouch_incSeq (s : State) (now : Bool) : (s.survTouch now).incSeq = s.incSeq := rfl
@[simp] theorem State.survTouch_remap (s : State) (now : Bool) : (s.survTouch now).remap = s.remap := rfl
@[simp] theorem State.survTouch_c24 (s : State) (now : Bool) : (s.survTouch now).c24 = s.c24 := rfl
@[simp] theorem State.survTouch_out (s : State) (now : Bool) : (s.survTouch now).out = s.out := rfl
@[simp] theorem State.survTouch_busData (s : State) (now : Bool) : (s.survTouch now).busData = s.busData := rfl
@[simp] theorem State.survTouch_free (s : State) (now : Bool) : (s.survTouch now).free = s.free := rfl
@[simp] theorem State.survTouch_pending (s : State) (now : Bool) : (s.survTouch now).pending = s.pending := rfl
@[simp] theorem State.survTouch_rd (s : State) (now : Bool) (q : PageRef) (o : Nat) : (s.survTouch now).rd q o = s.rd q o := rfl
@[simp] theorem State.survTouch_brick (s : State) (now : Bool) (i j : Nat) : (s.survTouch now).brick i j = s.brick i j := rfl
@[simp] theorem State.survTouch_room (s : State) (now : Bool) (i : Nat) : (s.survTouch now).room i = s.room i := rfl
@[simp] theorem State.survTouch_suite (s : State) (now : Bool) (i : Nat) : (s.survTouch now).suite i = s.suite i := rfl
@[simp] theorem State.survTouch_ldByte (s : State) (now : Bool) (i : Nat) : (s.survTouch now).ldByte i = s.ldByte i := rfl
@[simp] theorem State.survTouch_isArmed (s : State) (now : Bool) (q : PageRef) (i : Nat) : (s.survTouch now).isArmed q i = s.isArmed q i := rfl
@[simp] theorem State.survTouch_suiteOf (s : State) (now : Bool) (i : Nat) : (s.survTouch now).suiteOf i = s.suiteOf i := rfl

/-! ### `dmpCount` changes only `rooms` -/

@[simp] theorem State.dmpCount_et (s : State) (r c n : Nat) : (s.dmpCount r c n).et = s.et := rfl
@[simp] theorem State.dmpCount_etPhase (s : State) (r c n : Nat) : (s.dmpCount r c n).etPhase = s.etPhase := rfl
@[simp] theorem State.dmpCount_regs (s : State) (r c n : Nat) : (s.dmpCount r c n).regs = s.regs := rfl
@[simp] theorem State.dmpCount_armed (s : State) (r c n : Nat) : (s.dmpCount r c n).armed = s.armed := rfl
@[simp] theorem State.dmpCount_injLat (s : State) (r c n : Nat) : (s.dmpCount r c n).injLat = s.injLat := rfl
@[simp] theorem State.dmpCount_mem (s : State) (r c n : Nat) : (s.dmpCount r c n).mem = s.mem := rfl
@[simp] theorem State.dmpCount_bricks (s : State) (r c n : Nat) : (s.dmpCount r c n).bricks = s.bricks := rfl
@[simp] theorem State.dmpCount_suites (s : State) (r c n : Nat) : (s.dmpCount r c n).suites = s.suites := rfl
@[simp] theorem State.dmpCount_glatch (s : State) (r c n : Nat) : (s.dmpCount r c n).glatch = s.glatch := rfl
@[simp] theorem State.dmpCount_pkts (s : State) (r c n : Nat) : (s.dmpCount r c n).pkts = s.pkts := rfl
@[simp] theorem State.dmpCount_outst (s : State) (r c n : Nat) : (s.dmpCount r c n).outst = s.outst := rfl
@[simp] theorem State.dmpCount_nextTag (s : State) (r c n : Nat) : (s.dmpCount r c n).nextTag = s.nextTag := rfl
@[simp] theorem State.dmpCount_flying (s : State) (r c n : Nat) : (s.dmpCount r c n).flying = s.flying := rfl
@[simp] theorem State.dmpCount_collector (s : State) (r c n : Nat) : (s.dmpCount r c n).collector = s.collector := rfl
@[simp] theorem State.dmpCount_incSeq (s : State) (r c n : Nat) : (s.dmpCount r c n).incSeq = s.incSeq := rfl
@[simp] theorem State.dmpCount_remap (s : State) (r c n : Nat) : (s.dmpCount r c n).remap = s.remap := rfl
@[simp] theorem State.dmpCount_c24 (s : State) (r c n : Nat) : (s.dmpCount r c n).c24 = s.c24 := rfl
@[simp] theorem State.dmpCount_rim (s : State) (r c n : Nat) : (s.dmpCount r c n).rim = s.rim := rfl
@[simp] theorem State.dmpCount_out (s : State) (r c n : Nat) : (s.dmpCount r c n).out = s.out := rfl
@[simp] theorem State.dmpCount_busData (s : State) (r c n : Nat) : (s.dmpCount r c n).busData = s.busData := rfl
@[simp] theorem State.dmpCount_free (s : State) (r c n : Nat) : (s.dmpCount r c n).free = s.free := rfl
@[simp] theorem State.dmpCount_pending (s : State) (r c n : Nat) : (s.dmpCount r c n).pending = s.pending := rfl
@[simp] theorem State.dmpCount_rd (s : State) (r c n : Nat) (q : PageRef) (o : Nat) : (s.dmpCount r c n).rd q o = s.rd q o := rfl
@[simp] theorem State.dmpCount_brick (s : State) (r c n : Nat) (i j : Nat) : (s.dmpCount r c n).brick i j = s.brick i j := rfl
@[simp] theorem State.dmpCount_suite (s : State) (r c n : Nat) (i : Nat) : (s.dmpCount r c n).suite i = s.suite i := rfl
@[simp] theorem State.dmpCount_ldByte (s : State) (r c n : Nat) (i : Nat) : (s.dmpCount r c n).ldByte i = s.ldByte i := rfl
@[simp] theorem State.dmpCount_isArmed (s : State) (r c n : Nat) (q : PageRef) (i : Nat) : (s.dmpCount r c n).isArmed q i = s.isArmed q i := rfl
@[simp] theorem State.dmpCount_suiteOf (s : State) (r c n : Nat) (i : Nat) : (s.dmpCount r c n).suiteOf i = s.suiteOf i := rfl

/-! ### `modSuite` changes only `suites` -/

@[simp] theorem State.modSuite_et (s : State) (k : Nat) (f : Suite → Suite) : (s.modSuite k f).et = s.et := by
  unfold State.modSuite; split <;> rfl
@[simp] theorem State.modSuite_etPhase (s : State) (k : Nat) (f : Suite → Suite) : (s.modSuite k f).etPhase = s.etPhase := by
  unfold State.modSuite; split <;> rfl
@[simp] theorem State.modSuite_regs (s : State) (k : Nat) (f : Suite → Suite) : (s.modSuite k f).regs = s.regs := by
  unfold State.modSuite; split <;> rfl
@[simp] theorem State.modSuite_armed (s : State) (k : Nat) (f : Suite → Suite) : (s.modSuite k f).armed = s.armed := by
  unfold State.modSuite; split <;> rfl
@[simp] theorem State.modSuite_injLat (s : State) (k : Nat) (f : Suite → Suite) : (s.modSuite k f).injLat = s.injLat := by
  unfold State.modSuite; split <;> rfl
@[simp] theorem State.modSuite_mem (s : State) (k : Nat) (f : Suite → Suite) : (s.modSuite k f).mem = s.mem := by
  unfold State.modSuite; split <;> rfl
@[simp] theorem State.modSuite_bricks (s : State) (k : Nat) (f : Suite → Suite) : (s.modSuite k f).bricks = s.bricks := by
  unfold State.modSuite; split <;> rfl
@[simp] theorem State.modSuite_rooms (s : State) (k : Nat) (f : Suite → Suite) : (s.modSuite k f).rooms = s.rooms := by
  unfold State.modSuite; split <;> rfl
@[simp] theorem State.modSuite_glatch (s : State) (k : Nat) (f : Suite → Suite) : (s.modSuite k f).glatch = s.glatch := by
  unfold State.modSuite; split <;> rfl
@[simp] theorem State.modSuite_pkts (s : State) (k : Nat) (f : Suite → Suite) : (s.modSuite k f).pkts = s.pkts := by
  unfold State.modSuite; split <;> rfl
@[simp] theorem State.modSuite_outst (s : State) (k : Nat) (f : Suite → Suite) : (s.modSuite k f).outst = s.outst := by
  unfold State.modSuite; split <;> rfl
@[simp] theorem State.modSuite_nextTag (s : State) (k : Nat) (f : Suite → Suite) : (s.modSuite k f).nextTag = s.nextTag := by
  unfold State.modSuite; split <;> rfl
@[simp] theorem State.modSuite_flying (s : State) (k : Nat) (f : Suite → Suite) : (s.modSuite k f).flying = s.flying := by
  unfold State.modSuite; split <;> rfl
@[simp] theorem State.modSuite_collector (s : State) (k : Nat) (f : Suite → Suite) : (s.modSuite k f).collector = s.collector := by
  unfold State.modSuite; split <;> rfl
@[simp] theorem State.modSuite_incSeq (s : State) (k : Nat) (f : Suite → Suite) : (s.modSuite k f).incSeq = s.incSeq := by
  unfold State.modSuite; split <;> rfl
@[simp] theorem State.modSuite_remap (s : State) (k : Nat) (f : Suite → Suite) : (s.modSuite k f).remap = s.remap := by
  unfold State.modSuite; split <;> rfl
@[simp] theorem State.modSuite_c24 (s : State) (k : Nat) (f : Suite → Suite) : (s.modSuite k f).c24 = s.c24 := by
  unfold State.modSuite; split <;> rfl
@[simp] theorem State.modSuite_rim (s : State) (k : Nat) (f : Suite → Suite) : (s.modSuite k f).rim = s.rim := by
  unfold State.modSuite; split <;> rfl
@[simp] theorem State.modSuite_out (s : State) (k : Nat) (f : Suite → Suite) : (s.modSuite k f).out = s.out := by
  unfold State.modSuite; split <;> rfl
@[simp] theorem State.modSuite_busData (s : State) (k : Nat) (f : Suite → Suite) : (s.modSuite k f).busData = s.busData := by
  unfold State.modSuite; split <;> rfl
@[simp] theorem State.modSuite_free (s : State) (k : Nat) (f : Suite → Suite) : (s.modSuite k f).free = s.free := by
  unfold State.modSuite; split <;> rfl
@[simp] theorem State.modSuite_pending (s : State) (k : Nat) (f : Suite → Suite) : (s.modSuite k f).pending = s.pending := by
  unfold State.modSuite; split <;> rfl
@[simp] theorem State.modSuite_rd (s : State) (k : Nat) (f : Suite → Suite) (q : PageRef) (o : Nat) : (s.modSuite k f).rd q o = s.rd q o := by
  unfold State.rd; rw [State.modSuite_regs]
@[simp] theorem State.modSuite_brick (s : State) (k : Nat) (f : Suite → Suite) (i j : Nat) : (s.modSuite k f).brick i j = s.brick i j := by
  unfold State.brick; rw [State.modSuite_bricks]
@[simp] theorem State.modSuite_room (s : State) (k : Nat) (f : Suite → Suite) (i : Nat) : (s.modSuite k f).room i = s.room i := by
  unfold State.room; rw [State.modSuite_rooms]
@[simp] theorem State.modSuite_ldByte (s : State) (k : Nat) (f : Suite → Suite) (i : Nat) : (s.modSuite k f).ldByte i = s.ldByte i := by
  unfold State.ldByte; rw [State.modSuite_mem]
@[simp] theorem State.modSuite_isArmed (s : State) (k : Nat) (f : Suite → Suite) (q : PageRef) (i : Nat) : (s.modSuite k f).isArmed q i = s.isArmed q i := by
  unfold State.isArmed; rw [State.modSuite_armed]

/-! ### `trigEvent` changes only `out` -/

@[simp] theorem State.trigEvent_et (s : State) (p : PageRef) (bit : Nat) : (s.trigEvent p bit).et = s.et := by
  unfold State.trigEvent
  split
  · rfl
  · simp only [List.range, List.range.loop, List.foldl]
    repeat' split
    all_goals rfl
@[simp] theorem State.trigEvent_etPhase (s : State) (p : PageRef) (bit : Nat) : (s.trigEvent p bit).etPhase = s.etPhase := by
  unfold State.trigEvent
  split
  · rfl
  · simp only [List.range, List.range.loop, List.foldl]
    repeat' split
    all_goals rfl
@[simp] theorem State.trigEvent_regs (s : State) (p : PageRef) (bit : Nat) : (s.trigEvent p bit).regs = s.regs := by
  unfold State.trigEvent
  split
  · rfl
  · simp only [List.range, List.range.loop, List.foldl]
    repeat' split
    all_goals rfl
@[simp] theorem State.trigEvent_armed (s : State) (p : PageRef) (bit : Nat) : (s.trigEvent p bit).armed = s.armed := by
  unfold State.trigEvent
  split
  · rfl
  · simp only [List.range, List.range.loop, List.foldl]
    repeat' split
    all_goals rfl
@[simp] theorem State.trigEvent_injLat (s : State) (p : PageRef) (bit : Nat) : (s.trigEvent p bit).injLat = s.injLat := by
  unfold State.trigEvent
  split
  · rfl
  · simp only [List.range, List.range.loop, List.foldl]
    repeat' split
    all_goals rfl
@[simp] theorem State.trigEvent_mem (s : State) (p : PageRef) (bit : Nat) : (s.trigEvent p bit).mem = s.mem := by
  unfold State.trigEvent
  split
  · rfl
  · simp only [List.range, List.range.loop, List.foldl]
    repeat' split
    all_goals rfl
@[simp] theorem State.trigEvent_bricks (s : State) (p : PageRef) (bit : Nat) : (s.trigEvent p bit).bricks = s.bricks := by
  unfold State.trigEvent
  split
  · rfl
  · simp only [List.range, List.range.loop, List.foldl]
    repeat' split
    all_goals rfl
@[simp] theorem State.trigEvent_rooms (s : State) (p : PageRef) (bit : Nat) : (s.trigEvent p bit).rooms = s.rooms := by
  unfold State.trigEvent
  split
  · rfl
  · simp only [List.range, List.range.loop, List.foldl]
    repeat' split
    all_goals rfl
@[simp] theorem State.trigEvent_suites (s : State) (p : PageRef) (bit : Nat) : (s.trigEvent p bit).suites = s.suites := by
  unfold State.trigEvent
  split
  · rfl
  · simp only [List.range, List.range.loop, List.foldl]
    repeat' split
    all_goals rfl
@[simp] theorem State.trigEvent_glatch (s : State) (p : PageRef) (bit : Nat) : (s.trigEvent p bit).glatch = s.glatch := by
  unfold State.trigEvent
  split
  · rfl
  · simp only [List.range, List.range.loop, List.foldl]
    repeat' split
    all_goals rfl
@[simp] theorem State.trigEvent_pkts (s : State) (p : PageRef) (bit : Nat) : (s.trigEvent p bit).pkts = s.pkts := by
  unfold State.trigEvent
  split
  · rfl
  · simp only [List.range, List.range.loop, List.foldl]
    repeat' split
    all_goals rfl
@[simp] theorem State.trigEvent_outst (s : State) (p : PageRef) (bit : Nat) : (s.trigEvent p bit).outst = s.outst := by
  unfold State.trigEvent
  split
  · rfl
  · simp only [List.range, List.range.loop, List.foldl]
    repeat' split
    all_goals rfl
@[simp] theorem State.trigEvent_nextTag (s : State) (p : PageRef) (bit : Nat) : (s.trigEvent p bit).nextTag = s.nextTag := by
  unfold State.trigEvent
  split
  · rfl
  · simp only [List.range, List.range.loop, List.foldl]
    repeat' split
    all_goals rfl
@[simp] theorem State.trigEvent_flying (s : State) (p : PageRef) (bit : Nat) : (s.trigEvent p bit).flying = s.flying := by
  unfold State.trigEvent
  split
  · rfl
  · simp only [List.range, List.range.loop, List.foldl]
    repeat' split
    all_goals rfl
@[simp] theorem State.trigEvent_collector (s : State) (p : PageRef) (bit : Nat) : (s.trigEvent p bit).collector = s.collector := by
  unfold State.trigEvent
  split
  · rfl
  · simp only [List.range, List.range.loop, List.foldl]
    repeat' split
    all_goals rfl
@[simp] theorem State.trigEvent_incSeq (s : State) (p : PageRef) (bit : Nat) : (s.trigEvent p bit).incSeq = s.incSeq := by
  unfold State.trigEvent
  split
  · rfl
  · simp only [List.range, List.range.loop, List.foldl]
    repeat' split
    all_goals rfl
@[simp] theorem State.trigEvent_remap (s : State) (p : PageRef) (bit : Nat) : (s.trigEvent p bit).remap = s.remap := by
  unfold State.trigEvent
  split
  · rfl
  · simp only [List.range, List.range.loop, List.foldl]
    repeat' split
    all_goals rfl
@[simp] theorem State.trigEvent_c24 (s : State) (p : PageRef) (bit : Nat) : (s.trigEvent p bit).c24 = s.c24 := by
  unfold State.trigEvent
  split
  · rfl
  · simp only [List.range, List.range.loop, List.foldl]
    repeat' split
    all_goals rfl
@[simp] theorem State.trigEvent_rim (s : State) (p : PageRef) (bit : Nat) : (s.trigEvent p bit).rim = s.rim := by
  unfold State.trigEvent
  split
  · rfl
  · simp only [List.range, List.range.loop, List.foldl]
    repeat' split
    all_goals rfl
@[simp] theorem State.trigEvent_busData (s : State) (p : PageRef) (bit : Nat) : (s.trigEvent p bit).busData = s.busData := by
  unfold State.trigEvent
  split
  · rfl
  · simp only [List.range, List.range.loop, List.foldl]
    repeat' split
    all_goals rfl
@[simp] theorem State.trigEvent_free (s : State) (p : PageRef) (bit : Nat) : (s.trigEvent p bit).free = s.free := by
  unfold State.trigEvent
  split
  · rfl
  · simp only [List.range, List.range.loop, List.foldl]
    repeat' split
    all_goals rfl
@[simp] theorem State.trigEvent_pending (s : State) (p : PageRef) (bit : Nat) : (s.trigEvent p bit).pending = s.pending := by
  unfold State.trigEvent
  split
  · rfl
  · simp only [List.range, List.range.loop, List.foldl]
    repeat' split
    all_goals rfl
@[simp] theorem State.trigEvent_rd (s : State) (p : PageRef) (bit : Nat) (q : PageRef) (o : Nat) : (s.trigEvent p bit).rd q o = s.rd q o := by
  unfold State.rd; rw [State.trigEvent_regs]
@[simp] theorem State.trigEvent_brick (s : State) (p : PageRef) (bit : Nat) (i j : Nat) : (s.trigEvent p bit).brick i j = s.brick i j := by
  unfold State.brick; rw [State.trigEvent_bricks]
@[simp] theorem State.trigEvent_room (s : State) (p : PageRef) (bit : Nat) (i : Nat) : (s.trigEvent p bit).room i = s.room i := by
  unfold State.room; rw [State.trigEvent_rooms]
@[simp] theorem State.trigEvent_suite (s : State) (p : PageRef) (bit : Nat) (i : Nat) : (s.trigEvent p bit).suite i = s.suite i := by
  unfold State.suite; rw [State.trigEvent_suites]
@[simp] theorem State.trigEvent_ldByte (s : State) (p : PageRef) (bit : Nat) (i : Nat) : (s.trigEvent p bit).ldByte i = s.ldByte i := by
  unfold State.ldByte; rw [State.trigEvent_mem]
@[simp] theorem State.trigEvent_isArmed (s : State) (p : PageRef) (bit : Nat) (q : PageRef) (i : Nat) : (s.trigEvent p bit).isArmed q i = s.isArmed q i := by
  unfold State.isArmed; rw [State.trigEvent_armed]
@[simp] theorem State.trigEvent_suiteOf (s : State) (p : PageRef) (bit : Nat) (i : Nat) : (s.trigEvent p bit).suiteOf i = s.suiteOf i := by
  unfold State.suiteOf; unfold State.suiteOfWing; rw [State.trigEvent_suites]

/-! ### `raise` changes only `regs`, `injLat`, `out` -/

@[simp] theorem State.raise_et (s : State) (p : PageRef) (bit : Nat) (injected : Bool) : (s.raise p bit injected).et = s.et := by
  unfold State.raise
  split
  · rfl
  · split <;> simp
@[simp] theorem State.raise_etPhase (s : State) (p : PageRef) (bit : Nat) (injected : Bool) : (s.raise p bit injected).etPhase = s.etPhase := by
  unfold State.raise
  split
  · rfl
  · split <;> simp
@[simp] theorem State.raise_armed (s : State) (p : PageRef) (bit : Nat) (injected : Bool) : (s.raise p bit injected).armed = s.armed := by
  unfold State.raise
  split
  · rfl
  · split <;> simp
@[simp] theorem State.raise_mem (s : State) (p : PageRef) (bit : Nat) (injected : Bool) : (s.raise p bit injected).mem = s.mem := by
  unfold State.raise
  split
  · rfl
  · split <;> simp
@[simp] theorem State.raise_bricks (s : State) (p : PageRef) (bit : Nat) (injected : Bool) : (s.raise p bit injected).bricks = s.bricks := by
  unfold State.raise
  split
  · rfl
  · split <;> simp
@[simp] theorem State.raise_rooms (s : State) (p : PageRef) (bit : Nat) (injected : Bool) : (s.raise p bit injected).rooms = s.rooms := by
  unfold State.raise
  split
  · rfl
  · split <;> simp
@[simp] theorem State.raise_suites (s : State) (p : PageRef) (bit : Nat) (injected : Bool) : (s.raise p bit injected).suites = s.suites := by
  unfold State.raise
  split
  · rfl
  · split <;> simp
@[simp] theorem State.raise_glatch (s : State) (p : PageRef) (bit : Nat) (injected : Bool) : (s.raise p bit injected).glatch = s.glatch := by
  unfold State.raise
  split
  · rfl
  · split <;> simp
@[simp] theorem State.raise_pkts (s : State) (p : PageRef) (bit : Nat) (injected : Bool) : (s.raise p bit injected).pkts = s.pkts := by
  unfold State.raise
  split
  · rfl
  · split <;> simp
@[simp] theorem State.raise_outst (s : State) (p : PageRef) (bit : Nat) (injected : Bool) : (s.raise p bit injected).outst = s.outst := by
  unfold State.raise
  split
  · rfl
  · split <;> simp
@[simp] theorem State.raise_nextTag (s : State) (p : PageRef) (bit : Nat) (injected : Bool) : (s.raise p bit injected).nextTag = s.nextTag := by
  unfold State.raise
  split
  · rfl
  · split <;> simp
@[simp] theorem State.raise_flying (s : State) (p : PageRef) (bit : Nat) (injected : Bool) : (s.raise p bit injected).flying = s.flying := by
  unfold State.raise
  split
  · rfl
  · split <;> simp
@[simp] theorem State.raise_collector (s : State) (p : PageRef) (bit : Nat) (injected : Bool) : (s.raise p bit injected).collector = s.collector := by
  unfold State.raise
  split
  · rfl
  · split <;> simp
@[simp] theorem State.raise_incSeq (s : State) (p : PageRef) (bit : Nat) (injected : Bool) : (s.raise p bit injected).incSeq = s.incSeq := by
  unfold State.raise
  split
  · rfl
  · split <;> simp
@[simp] theorem State.raise_remap (s : State) (p : PageRef) (bit : Nat) (injected : Bool) : (s.raise p bit injected).remap = s.remap := by
  unfold State.raise
  split
  · rfl
  · split <;> simp
@[simp] theorem State.raise_c24 (s : State) (p : PageRef) (bit : Nat) (injected : Bool) : (s.raise p bit injected).c24 = s.c24 := by
  unfold State.raise
  split
  · rfl
  · split <;> simp
@[simp] theorem State.raise_rim (s : State) (p : PageRef) (bit : Nat) (injected : Bool) : (s.raise p bit injected).rim = s.rim := by
  unfold State.raise
  split
  · rfl
  · split <;> simp
@[simp] theorem State.raise_busData (s : State) (p : PageRef) (bit : Nat) (injected : Bool) : (s.raise p bit injected).busData = s.busData := by
  unfold State.raise
  split
  · rfl
  · split <;> simp
@[simp] theorem State.raise_free (s : State) (p : PageRef) (bit : Nat) (injected : Bool) : (s.raise p bit injected).free = s.free := by
  unfold State.raise
  split
  · rfl
  · split <;> simp
@[simp] theorem State.raise_pending (s : State) (p : PageRef) (bit : Nat) (injected : Bool) : (s.raise p bit injected).pending = s.pending := by
  unfold State.raise
  split
  · rfl
  · split <;> simp
@[simp] theorem State.raise_brick (s : State) (p : PageRef) (bit : Nat) (injected : Bool) (i j : Nat) : (s.raise p bit injected).brick i j = s.brick i j := by
  unfold State.brick; rw [State.raise_bricks]
@[simp] theorem State.raise_room (s : State) (p : PageRef) (bit : Nat) (injected : Bool) (i : Nat) : (s.raise p bit injected).room i = s.room i := by
  unfold State.room; rw [State.raise_rooms]
@[simp] theorem State.raise_suite (s : State) (p : PageRef) (bit : Nat) (injected : Bool) (i : Nat) : (s.raise p bit injected).suite i = s.suite i := by
  unfold State.suite; rw [State.raise_suites]
@[simp] theorem State.raise_ldByte (s : State) (p : PageRef) (bit : Nat) (injected : Bool) (i : Nat) : (s.raise p bit injected).ldByte i = s.ldByte i := by
  unfold State.ldByte; rw [State.raise_mem]
@[simp] theorem State.raise_isArmed (s : State) (p : PageRef) (bit : Nat) (injected : Bool) (q : PageRef) (i : Nat) : (s.raise p bit injected).isArmed q i = s.isArmed q i := by
  unfold State.isArmed; rw [State.raise_armed]
@[simp] theorem State.raise_suiteOf (s : State) (p : PageRef) (bit : Nat) (injected : Bool) (i : Nat) : (s.raise p bit injected).suiteOf i = s.suiteOf i := by
  unfold State.suiteOf; unfold State.suiteOfWing; rw [State.raise_suites]

/-! ### `capture` changes only `regs` -/

@[simp] theorem State.capture_et (s : State) (p : PageRef) (off : Nat) (v : W64) : (s.capture p off v).et = s.et := by
  unfold State.capture; split <;> rfl
@[simp] theorem State.capture_etPhase (s : State) (p : PageRef) (off : Nat) (v : W64) : (s.capture p off v).etPhase = s.etPhase := by
  unfold State.capture; split <;> rfl
@[simp] theorem State.capture_armed (s : State) (p : PageRef) (off : Nat) (v : W64) : (s.capture p off v).armed = s.armed := by
  unfold State.capture; split <;> rfl
@[simp] theorem State.capture_injLat (s : State) (p : PageRef) (off : Nat) (v : W64) : (s.capture p off v).injLat = s.injLat := by
  unfold State.capture; split <;> rfl
@[simp] theorem State.capture_mem (s : State) (p : PageRef) (off : Nat) (v : W64) : (s.capture p off v).mem = s.mem := by
  unfold State.capture; split <;> rfl
@[simp] theorem State.capture_bricks (s : State) (p : PageRef) (off : Nat) (v : W64) : (s.capture p off v).bricks = s.bricks := by
  unfold State.capture; split <;> rfl
@[simp] theorem State.capture_rooms (s : State) (p : PageRef) (off : Nat) (v : W64) : (s.capture p off v).rooms = s.rooms := by
  unfold State.capture; split <;> rfl
@[simp] theorem State.capture_suites (s : State) (p : PageRef) (off : Nat) (v : W64) : (s.capture p off v).suites = s.suites := by
  unfold State.capture; split <;> rfl
@[simp] theorem State.capture_glatch (s : State) (p : PageRef) (off : Nat) (v : W64) : (s.capture p off v).glatch = s.glatch := by
  unfold State.capture; split <;> rfl
@[simp] theorem State.capture_pkts (s : State) (p : PageRef) (off : Nat) (v : W64) : (s.capture p off v).pkts = s.pkts := by
  unfold State.capture; split <;> rfl
@[simp] theorem State.capture_outst (s : State) (p : PageRef) (off : Nat) (v : W64) : (s.capture p off v).outst = s.outst := by
  unfold State.capture; split <;> rfl
@[simp] theorem State.capture_nextTag (s : State) (p : PageRef) (off : Nat) (v : W64) : (s.capture p off v).nextTag = s.nextTag := by
  unfold State.capture; split <;> rfl
@[simp] theorem State.capture_flying (s : State) (p : PageRef) (off : Nat) (v : W64) : (s.capture p off v).flying = s.flying := by
  unfold State.capture; split <;> rfl
@[simp] theorem State.capture_collector (s : State) (p : PageRef) (off : Nat) (v : W64) : (s.capture p off v).collector = s.collector := by
  unfold State.capture; split <;> rfl
@[simp] theorem State.capture_incSeq (s : State) (p : PageRef) (off : Nat) (v : W64) : (s.capture p off v).incSeq = s.incSeq := by
  unfold State.capture; split <;> rfl
@[simp] theorem State.capture_remap (s : State) (p : PageRef) (off : Nat) (v : W64) : (s.capture p off v).remap = s.remap := by
  unfold State.capture; split <;> rfl
@[simp] theorem State.capture_c24 (s : State) (p : PageRef) (off : Nat) (v : W64) : (s.capture p off v).c24 = s.c24 := by
  unfold State.capture; split <;> rfl
@[simp] theorem State.capture_rim (s : State) (p : PageRef) (off : Nat) (v : W64) : (s.capture p off v).rim = s.rim := by
  unfold State.capture; split <;> rfl
@[simp] theorem State.capture_out (s : State) (p : PageRef) (off : Nat) (v : W64) : (s.capture p off v).out = s.out := by
  unfold State.capture; split <;> rfl
@[simp] theorem State.capture_busData (s : State) (p : PageRef) (off : Nat) (v : W64) : (s.capture p off v).busData = s.busData := by
  unfold State.capture; split <;> rfl
@[simp] theorem State.capture_free (s : State) (p : PageRef) (off : Nat) (v : W64) : (s.capture p off v).free = s.free := by
  unfold State.capture; split <;> rfl
@[simp] theorem State.capture_pending (s : State) (p : PageRef) (off : Nat) (v : W64) : (s.capture p off v).pending = s.pending := by
  unfold State.capture; split <;> rfl
@[simp] theorem State.capture_brick (s : State) (p : PageRef) (off : Nat) (v : W64) (i j : Nat) : (s.capture p off v).brick i j = s.brick i j := by
  unfold State.brick; rw [State.capture_bricks]
@[simp] theorem State.capture_room (s : State) (p : PageRef) (off : Nat) (v : W64) (i : Nat) : (s.capture p off v).room i = s.room i := by
  unfold State.room; rw [State.capture_rooms]
@[simp] theorem State.capture_suite (s : State) (p : PageRef) (off : Nat) (v : W64) (i : Nat) : (s.capture p off v).suite i = s.suite i := by
  unfold State.suite; rw [State.capture_suites]
@[simp] theorem State.capture_ldByte (s : State) (p : PageRef) (off : Nat) (v : W64) (i : Nat) : (s.capture p off v).ldByte i = s.ldByte i := by
  unfold State.ldByte; rw [State.capture_mem]
@[simp] theorem State.capture_isArmed (s : State) (p : PageRef) (off : Nat) (v : W64) (q : PageRef) (i : Nat) : (s.capture p off v).isArmed q i = s.isArmed q i := by
  unfold State.isArmed; rw [State.capture_armed]
@[simp] theorem State.capture_suiteOf (s : State) (p : PageRef) (off : Nat) (v : W64) (i : Nat) : (s.capture p off v).suiteOf i = s.suiteOf i := by
  unfold State.suiteOf; unfold State.suiteOfWing; rw [State.capture_suites]

/-! ### `captureStep` changes only `regs` -/

@[simp] theorem State.captureStep_et (s : State) (p : PageRef) (off : Nat) (v : W64) (soff : Nat) (step : W64) : (s.captureStep p off v soff step).et = s.et := by
  unfold State.captureStep; split <;> rfl
@[simp] theorem State.captureStep_etPhase (s : State) (p : PageRef) (off : Nat) (v : W64) (soff : Nat) (step : W64) : (s.captureStep p off v soff step).etPhase = s.etPhase := by
  unfold State.captureStep; split <;> rfl
@[simp] theorem State.captureStep_armed (s : State) (p : PageRef) (off : Nat) (v : W64) (soff : Nat) (step : W64) : (s.captureStep p off v soff step).armed = s.armed := by
  unfold State.captureStep; split <;> rfl
@[simp] theorem State.captureStep_injLat (s : State) (p : PageRef) (off : Nat) (v : W64) (soff : Nat) (step : W64) : (s.captureStep p off v soff step).injLat = s.injLat := by
  unfold State.captureStep; split <;> rfl
@[simp] theorem State.captureStep_mem (s : State) (p : PageRef) (off : Nat) (v : W64) (soff : Nat) (step : W64) : (s.captureStep p off v soff step).mem = s.mem := by
  unfold State.captureStep; split <;> rfl
@[simp] theorem State.captureStep_bricks (s : State) (p : PageRef) (off : Nat) (v : W64) (soff : Nat) (step : W64) : (s.captureStep p off v soff step).bricks = s.bricks := by
  unfold State.captureStep; split <;> rfl
@[simp] theorem State.captureStep_rooms (s : State) (p : PageRef) (off : Nat) (v : W64) (soff : Nat) (step : W64) : (s.captureStep p off v soff step).rooms = s.rooms := by
  unfold State.captureStep; split <;> rfl
@[simp] theorem State.captureStep_suites (s : State) (p : PageRef) (off : Nat) (v : W64) (soff : Nat) (step : W64) : (s.captureStep p off v soff step).suites = s.suites := by
  unfold State.captureStep; split <;> rfl
@[simp] theorem State.captureStep_glatch (s : State) (p : PageRef) (off : Nat) (v : W64) (soff : Nat) (step : W64) : (s.captureStep p off v soff step).glatch = s.glatch := by
  unfold State.captureStep; split <;> rfl
@[simp] theorem State.captureStep_pkts (s : State) (p : PageRef) (off : Nat) (v : W64) (soff : Nat) (step : W64) : (s.captureStep p off v soff step).pkts = s.pkts := by
  unfold State.captureStep; split <;> rfl
@[simp] theorem State.captureStep_outst (s : State) (p : PageRef) (off : Nat) (v : W64) (soff : Nat) (step : W64) : (s.captureStep p off v soff step).outst = s.outst := by
  unfold State.captureStep; split <;> rfl
@[simp] theorem State.captureStep_nextTag (s : State) (p : PageRef) (off : Nat) (v : W64) (soff : Nat) (step : W64) : (s.captureStep p off v soff step).nextTag = s.nextTag := by
  unfold State.captureStep; split <;> rfl
@[simp] theorem State.captureStep_flying (s : State) (p : PageRef) (off : Nat) (v : W64) (soff : Nat) (step : W64) : (s.captureStep p off v soff step).flying = s.flying := by
  unfold State.captureStep; split <;> rfl
@[simp] theorem State.captureStep_collector (s : State) (p : PageRef) (off : Nat) (v : W64) (soff : Nat) (step : W64) : (s.captureStep p off v soff step).collector = s.collector := by
  unfold State.captureStep; split <;> rfl
@[simp] theorem State.captureStep_incSeq (s : State) (p : PageRef) (off : Nat) (v : W64) (soff : Nat) (step : W64) : (s.captureStep p off v soff step).incSeq = s.incSeq := by
  unfold State.captureStep; split <;> rfl
@[simp] theorem State.captureStep_remap (s : State) (p : PageRef) (off : Nat) (v : W64) (soff : Nat) (step : W64) : (s.captureStep p off v soff step).remap = s.remap := by
  unfold State.captureStep; split <;> rfl
@[simp] theorem State.captureStep_c24 (s : State) (p : PageRef) (off : Nat) (v : W64) (soff : Nat) (step : W64) : (s.captureStep p off v soff step).c24 = s.c24 := by
  unfold State.captureStep; split <;> rfl
@[simp] theorem State.captureStep_rim (s : State) (p : PageRef) (off : Nat) (v : W64) (soff : Nat) (step : W64) : (s.captureStep p off v soff step).rim = s.rim := by
  unfold State.captureStep; split <;> rfl
@[simp] theorem State.captureStep_out (s : State) (p : PageRef) (off : Nat) (v : W64) (soff : Nat) (step : W64) : (s.captureStep p off v soff step).out = s.out := by
  unfold State.captureStep; split <;> rfl
@[simp] theorem State.captureStep_busData (s : State) (p : PageRef) (off : Nat) (v : W64) (soff : Nat) (step : W64) : (s.captureStep p off v soff step).busData = s.busData := by
  unfold State.captureStep; split <;> rfl
@[simp] theorem State.captureStep_free (s : State) (p : PageRef) (off : Nat) (v : W64) (soff : Nat) (step : W64) : (s.captureStep p off v soff step).free = s.free := by
  unfold State.captureStep; split <;> rfl
@[simp] theorem State.captureStep_pending (s : State) (p : PageRef) (off : Nat) (v : W64) (soff : Nat) (step : W64) : (s.captureStep p off v soff step).pending = s.pending := by
  unfold State.captureStep; split <;> rfl
@[simp] theorem State.captureStep_brick (s : State) (p : PageRef) (off : Nat) (v : W64) (soff : Nat) (step : W64) (i j : Nat) : (s.captureStep p off v soff step).brick i j = s.brick i j := by
  unfold State.brick; rw [State.captureStep_bricks]
@[simp] theorem State.captureStep_room (s : State) (p : PageRef) (off : Nat) (v : W64) (soff : Nat) (step : W64) (i : Nat) : (s.captureStep p off v soff step).room i = s.room i := by
  unfold State.room; rw [State.captureStep_rooms]
@[simp] theorem State.captureStep_suite (s : State) (p : PageRef) (off : Nat) (v : W64) (soff : Nat) (step : W64) (i : Nat) : (s.captureStep p off v soff step).suite i = s.suite i := by
  unfold State.suite; rw [State.captureStep_suites]
@[simp] theorem State.captureStep_ldByte (s : State) (p : PageRef) (off : Nat) (v : W64) (soff : Nat) (step : W64) (i : Nat) : (s.captureStep p off v soff step).ldByte i = s.ldByte i := by
  unfold State.ldByte; rw [State.captureStep_mem]
@[simp] theorem State.captureStep_isArmed (s : State) (p : PageRef) (off : Nat) (v : W64) (soff : Nat) (step : W64) (q : PageRef) (i : Nat) : (s.captureStep p off v soff step).isArmed q i = s.isArmed q i := by
  unfold State.isArmed; rw [State.captureStep_armed]
@[simp] theorem State.captureStep_suiteOf (s : State) (p : PageRef) (off : Nat) (v : W64) (soff : Nat) (step : W64) (i : Nat) : (s.captureStep p off v soff step).suiteOf i = s.suiteOf i := by
  unfold State.suiteOf; unfold State.suiteOfWing; rw [State.captureStep_suites]

/-! ### `sendHalt` changes only `suites` -/

@[simp] theorem State.sendHalt_et (s : State) (k room slot code : Nat) : (s.sendHalt k room slot code).et = s.et := by
  unfold State.sendHalt; simp
@[simp] theorem State.sendHalt_etPhase (s : State) (k room slot code : Nat) : (s.sendHalt k room slot code).etPhase = s.etPhase := by
  unfold State.sendHalt; simp
@[simp] theorem State.sendHalt_regs (s : State) (k room slot code : Nat) : (s.sendHalt k room slot code).regs = s.regs := by
  unfold State.sendHalt; simp
@[simp] theorem State.sendHalt_armed (s : State) (k room slot code : Nat) : (s.sendHalt k room slot code).armed = s.armed := by
  unfold State.sendHalt; simp
@[simp] theorem State.sendHalt_injLat (s : State) (k room slot code : Nat) : (s.sendHalt k room slot code).injLat = s.injLat := by
  unfold State.sendHalt; simp
@[simp] theorem State.sendHalt_mem (s : State) (k room slot code : Nat) : (s.sendHalt k room slot code).mem = s.mem := by
  unfold State.sendHalt; simp
@[simp] theorem State.sendHalt_bricks (s : State) (k room slot code : Nat) : (s.sendHalt k room slot code).bricks = s.bricks := by
  unfold State.sendHalt; simp
@[simp] theorem State.sendHalt_rooms (s : State) (k room slot code : Nat) : (s.sendHalt k room slot code).rooms = s.rooms := by
  unfold State.sendHalt; simp
@[simp] theorem State.sendHalt_glatch (s : State) (k room slot code : Nat) : (s.sendHalt k room slot code).glatch = s.glatch := by
  unfold State.sendHalt; simp
@[simp] theorem State.sendHalt_pkts (s : State) (k room slot code : Nat) : (s.sendHalt k room slot code).pkts = s.pkts := by
  unfold State.sendHalt; simp
@[simp] theorem State.sendHalt_outst (s : State) (k room slot code : Nat) : (s.sendHalt k room slot code).outst = s.outst := by
  unfold State.sendHalt; simp
@[simp] theorem State.sendHalt_nextTag (s : State) (k room slot code : Nat) : (s.sendHalt k room slot code).nextTag = s.nextTag := by
  unfold State.sendHalt; simp
@[simp] theorem State.sendHalt_flying (s : State) (k room slot code : Nat) : (s.sendHalt k room slot code).flying = s.flying := by
  unfold State.sendHalt; simp
@[simp] theorem State.sendHalt_collector (s : State) (k room slot code : Nat) : (s.sendHalt k room slot code).collector = s.collector := by
  unfold State.sendHalt; simp
@[simp] theorem State.sendHalt_incSeq (s : State) (k room slot code : Nat) : (s.sendHalt k room slot code).incSeq = s.incSeq := by
  unfold State.sendHalt; simp
@[simp] theorem State.sendHalt_remap (s : State) (k room slot code : Nat) : (s.sendHalt k room slot code).remap = s.remap := by
  unfold State.sendHalt; simp
@[simp] theorem State.sendHalt_c24 (s : State) (k room slot code : Nat) : (s.sendHalt k room slot code).c24 = s.c24 := by
  unfold State.sendHalt; simp
@[simp] theorem State.sendHalt_rim (s : State) (k room slot code : Nat) : (s.sendHalt k room slot code).rim = s.rim := by
  unfold State.sendHalt; simp
@[simp] theorem State.sendHalt_out (s : State) (k room slot code : Nat) : (s.sendHalt k room slot code).out = s.out := by
  unfold State.sendHalt; simp
@[simp] theorem State.sendHalt_busData (s : State) (k room slot code : Nat) : (s.sendHalt k room slot code).busData = s.busData := by
  unfold State.sendHalt; simp
@[simp] theorem State.sendHalt_free (s : State) (k room slot code : Nat) : (s.sendHalt k room slot code).free = s.free := by
  unfold State.sendHalt; simp
@[simp] theorem State.sendHalt_pending (s : State) (k room slot code : Nat) : (s.sendHalt k room slot code).pending = s.pending := by
  unfold State.sendHalt; simp
@[simp] theorem State.sendHalt_rd (s : State) (k room slot code : Nat) (q : PageRef) (o : Nat) : (s.sendHalt k room slot code).rd q o = s.rd q o := by
  unfold State.rd; rw [State.sendHalt_regs]
@[simp] theorem State.sendHalt_brick (s : State) (k room slot code : Nat) (i j : Nat) : (s.sendHalt k room slot code).brick i j = s.brick i j := by
  unfold State.brick; rw [State.sendHalt_bricks]
@[simp] theorem State.sendHalt_room (s : State) (k room slot code : Nat) (i : Nat) : (s.sendHalt k room slot code).room i = s.room i := by
  unfold State.room; rw [State.sendHalt_rooms]
@[simp] theorem State.sendHalt_ldByte (s : State) (k room slot code : Nat) (i : Nat) : (s.sendHalt k room slot code).ldByte i = s.ldByte i := by
  unfold State.ldByte; rw [State.sendHalt_mem]
@[simp] theorem State.sendHalt_isArmed (s : State) (k room slot code : Nat) (q : PageRef) (i : Nat) : (s.sendHalt k room slot code).isArmed q i = s.isArmed q i := by
  unfold State.isArmed; rw [State.sendHalt_armed]

/-! ### `hitHalt` changes only `regs`, `injLat`, `out`, `flying`, `suites` -/

@[simp] theorem State.hitHalt_et (s : State) (pg : Page) (room bit cause : Nat) (injected : Bool) (detail : W64) : (s.hitHalt pg room bit cause injected detail).et = s.et := by
  unfold State.hitHalt; dsimp only; split <;> simp
@[simp] theorem State.hitHalt_etPhase (s : State) (pg : Page) (room bit cause : Nat) (injected : Bool) (detail : W64) : (s.hitHalt pg room bit cause injected detail).etPhase = s.etPhase := by
  unfold State.hitHalt; dsimp only; split <;> simp
@[simp] theorem State.hitHalt_armed (s : State) (pg : Page) (room bit cause : Nat) (injected : Bool) (detail : W64) : (s.hitHalt pg room bit cause injected detail).armed = s.armed := by
  unfold State.hitHalt; dsimp only; split <;> simp
@[simp] theorem State.hitHalt_mem (s : State) (pg : Page) (room bit cause : Nat) (injected : Bool) (detail : W64) : (s.hitHalt pg room bit cause injected detail).mem = s.mem := by
  unfold State.hitHalt; dsimp only; split <;> simp
@[simp] theorem State.hitHalt_bricks (s : State) (pg : Page) (room bit cause : Nat) (injected : Bool) (detail : W64) : (s.hitHalt pg room bit cause injected detail).bricks = s.bricks := by
  unfold State.hitHalt; dsimp only; split <;> simp
@[simp] theorem State.hitHalt_rooms (s : State) (pg : Page) (room bit cause : Nat) (injected : Bool) (detail : W64) : (s.hitHalt pg room bit cause injected detail).rooms = s.rooms := by
  unfold State.hitHalt; dsimp only; split <;> simp
@[simp] theorem State.hitHalt_glatch (s : State) (pg : Page) (room bit cause : Nat) (injected : Bool) (detail : W64) : (s.hitHalt pg room bit cause injected detail).glatch = s.glatch := by
  unfold State.hitHalt; dsimp only; split <;> simp
@[simp] theorem State.hitHalt_pkts (s : State) (pg : Page) (room bit cause : Nat) (injected : Bool) (detail : W64) : (s.hitHalt pg room bit cause injected detail).pkts = s.pkts := by
  unfold State.hitHalt; dsimp only; split <;> simp
@[simp] theorem State.hitHalt_outst (s : State) (pg : Page) (room bit cause : Nat) (injected : Bool) (detail : W64) : (s.hitHalt pg room bit cause injected detail).outst = s.outst := by
  unfold State.hitHalt; dsimp only; split <;> simp
@[simp] theorem State.hitHalt_nextTag (s : State) (pg : Page) (room bit cause : Nat) (injected : Bool) (detail : W64) : (s.hitHalt pg room bit cause injected detail).nextTag = s.nextTag := by
  unfold State.hitHalt; dsimp only; split <;> simp
@[simp] theorem State.hitHalt_collector (s : State) (pg : Page) (room bit cause : Nat) (injected : Bool) (detail : W64) : (s.hitHalt pg room bit cause injected detail).collector = s.collector := by
  unfold State.hitHalt; dsimp only; split <;> simp
@[simp] theorem State.hitHalt_incSeq (s : State) (pg : Page) (room bit cause : Nat) (injected : Bool) (detail : W64) : (s.hitHalt pg room bit cause injected detail).incSeq = s.incSeq := by
  unfold State.hitHalt; dsimp only; split <;> simp
@[simp] theorem State.hitHalt_remap (s : State) (pg : Page) (room bit cause : Nat) (injected : Bool) (detail : W64) : (s.hitHalt pg room bit cause injected detail).remap = s.remap := by
  unfold State.hitHalt; dsimp only; split <;> simp
@[simp] theorem State.hitHalt_c24 (s : State) (pg : Page) (room bit cause : Nat) (injected : Bool) (detail : W64) : (s.hitHalt pg room bit cause injected detail).c24 = s.c24 := by
  unfold State.hitHalt; dsimp only; split <;> simp
@[simp] theorem State.hitHalt_rim (s : State) (pg : Page) (room bit cause : Nat) (injected : Bool) (detail : W64) : (s.hitHalt pg room bit cause injected detail).rim = s.rim := by
  unfold State.hitHalt; dsimp only; split <;> simp
@[simp] theorem State.hitHalt_busData (s : State) (pg : Page) (room bit cause : Nat) (injected : Bool) (detail : W64) : (s.hitHalt pg room bit cause injected detail).busData = s.busData := by
  unfold State.hitHalt; dsimp only; split <;> simp
@[simp] theorem State.hitHalt_free (s : State) (pg : Page) (room bit cause : Nat) (injected : Bool) (detail : W64) : (s.hitHalt pg room bit cause injected detail).free = s.free := by
  unfold State.hitHalt; dsimp only; split <;> simp
@[simp] theorem State.hitHalt_pending (s : State) (pg : Page) (room bit cause : Nat) (injected : Bool) (detail : W64) : (s.hitHalt pg room bit cause injected detail).pending = s.pending := by
  unfold State.hitHalt; dsimp only; split <;> simp
@[simp] theorem State.hitHalt_brick (s : State) (pg : Page) (room bit cause : Nat) (injected : Bool) (detail : W64) (i j : Nat) : (s.hitHalt pg room bit cause injected detail).brick i j = s.brick i j := by
  unfold State.brick; rw [State.hitHalt_bricks]
@[simp] theorem State.hitHalt_room (s : State) (pg : Page) (room bit cause : Nat) (injected : Bool) (detail : W64) (i : Nat) : (s.hitHalt pg room bit cause injected detail).room i = s.room i := by
  unfold State.room; rw [State.hitHalt_rooms]
@[simp] theorem State.hitHalt_ldByte (s : State) (pg : Page) (room bit cause : Nat) (injected : Bool) (detail : W64) (i : Nat) : (s.hitHalt pg room bit cause injected detail).ldByte i = s.ldByte i := by
  unfold State.ldByte; rw [State.hitHalt_mem]
@[simp] theorem State.hitHalt_isArmed (s : State) (pg : Page) (room bit cause : Nat) (injected : Bool) (detail : W64) (q : PageRef) (i : Nat) : (s.hitHalt pg room bit cause injected detail).isArmed q i = s.isArmed q i := by
  unfold State.isArmed; rw [State.hitHalt_armed]

/-! ### `hitDetect` changes only `regs`, `injLat`, `out`, `flying` -/

@[simp] theorem State.hitDetect_et (s : State) (pg : Page) (room bit cause : Nat) (injected : Bool) (detail : W64) : (s.hitDetect pg room bit cause injected detail).et = s.et := by
  unfold State.hitDetect; simp
@[simp] theorem State.hitDetect_etPhase (s : State) (pg : Page) (room bit cause : Nat) (injected : Bool) (detail : W64) : (s.hitDetect pg room bit cause injected detail).etPhase = s.etPhase := by
  unfold State.hitDetect; simp
@[simp] theorem State.hitDetect_armed (s : State) (pg : Page) (room bit cause : Nat) (injected : Bool) (detail : W64) : (s.hitDetect pg room bit cause injected detail).armed = s.armed := by
  unfold State.hitDetect; simp
@[simp] theorem State.hitDetect_mem (s : State) (pg : Page) (room bit cause : Nat) (injected : Bool) (detail : W64) : (s.hitDetect pg room bit cause injected detail).mem = s.mem := by
  unfold State.hitDetect; simp
@[simp] theorem State.hitDetect_bricks (s : State) (pg : Page) (room bit cause : Nat) (injected : Bool) (detail : W64) : (s.hitDetect pg room bit cause injected detail).bricks = s.bricks := by
  unfold State.hitDetect; simp
@[simp] theorem State.hitDetect_rooms (s : State) (pg : Page) (room bit cause : Nat) (injected : Bool) (detail : W64) : (s.hitDetect pg room bit cause injected detail).rooms = s.rooms := by
  unfold State.hitDetect; simp
@[simp] theorem State.hitDetect_suites (s : State) (pg : Page) (room bit cause : Nat) (injected : Bool) (detail : W64) : (s.hitDetect pg room bit cause injected detail).suites = s.suites := by
  unfold State.hitDetect; simp
@[simp] theorem State.hitDetect_glatch (s : State) (pg : Page) (room bit cause : Nat) (injected : Bool) (detail : W64) : (s.hitDetect pg room bit cause injected detail).glatch = s.glatch := by
  unfold State.hitDetect; simp
@[simp] theorem State.hitDetect_pkts (s : State) (pg : Page) (room bit cause : Nat) (injected : Bool) (detail : W64) : (s.hitDetect pg room bit cause injected detail).pkts = s.pkts := by
  unfold State.hitDetect; simp
@[simp] theorem State.hitDetect_outst (s : State) (pg : Page) (room bit cause : Nat) (injected : Bool) (detail : W64) : (s.hitDetect pg room bit cause injected detail).outst = s.outst := by
  unfold State.hitDetect; simp
@[simp] theorem State.hitDetect_nextTag (s : State) (pg : Page) (room bit cause : Nat) (injected : Bool) (detail : W64) : (s.hitDetect pg room bit cause injected detail).nextTag = s.nextTag := by
  unfold State.hitDetect; simp
@[simp] theorem State.hitDetect_collector (s : State) (pg : Page) (room bit cause : Nat) (injected : Bool) (detail : W64) : (s.hitDetect pg room bit cause injected detail).collector = s.collector := by
  unfold State.hitDetect; simp
@[simp] theorem State.hitDetect_incSeq (s : State) (pg : Page) (room bit cause : Nat) (injected : Bool) (detail : W64) : (s.hitDetect pg room bit cause injected detail).incSeq = s.incSeq := by
  unfold State.hitDetect; simp
@[simp] theorem State.hitDetect_remap (s : State) (pg : Page) (room bit cause : Nat) (injected : Bool) (detail : W64) : (s.hitDetect pg room bit cause injected detail).remap = s.remap := by
  unfold State.hitDetect; simp
@[simp] theorem State.hitDetect_c24 (s : State) (pg : Page) (room bit cause : Nat) (injected : Bool) (detail : W64) : (s.hitDetect pg room bit cause injected detail).c24 = s.c24 := by
  unfold State.hitDetect; simp
@[simp] theorem State.hitDetect_rim (s : State) (pg : Page) (room bit cause : Nat) (injected : Bool) (detail : W64) : (s.hitDetect pg room bit cause injected detail).rim = s.rim := by
  unfold State.hitDetect; simp
@[simp] theorem State.hitDetect_busData (s : State) (pg : Page) (room bit cause : Nat) (injected : Bool) (detail : W64) : (s.hitDetect pg room bit cause injected detail).busData = s.busData := by
  unfold State.hitDetect; simp
@[simp] theorem State.hitDetect_free (s : State) (pg : Page) (room bit cause : Nat) (injected : Bool) (detail : W64) : (s.hitDetect pg room bit cause injected detail).free = s.free := by
  unfold State.hitDetect; simp
@[simp] theorem State.hitDetect_pending (s : State) (pg : Page) (room bit cause : Nat) (injected : Bool) (detail : W64) : (s.hitDetect pg room bit cause injected detail).pending = s.pending := by
  unfold State.hitDetect; simp
@[simp] theorem State.hitDetect_brick (s : State) (pg : Page) (room bit cause : Nat) (injected : Bool) (detail : W64) (i j : Nat) : (s.hitDetect pg room bit cause injected detail).brick i j = s.brick i j := by
  unfold State.brick; rw [State.hitDetect_bricks]
@[simp] theorem State.hitDetect_room (s : State) (pg : Page) (room bit cause : Nat) (injected : Bool) (detail : W64) (i : Nat) : (s.hitDetect pg room bit cause injected detail).room i = s.room i := by
  unfold State.room; rw [State.hitDetect_rooms]
@[simp] theorem State.hitDetect_suite (s : State) (pg : Page) (room bit cause : Nat) (injected : Bool) (detail : W64) (i : Nat) : (s.hitDetect pg room bit cause injected detail).suite i = s.suite i := by
  unfold State.suite; rw [State.hitDetect_suites]
@[simp] theorem State.hitDetect_ldByte (s : State) (pg : Page) (room bit cause : Nat) (injected : Bool) (detail : W64) (i : Nat) : (s.hitDetect pg room bit cause injected detail).ldByte i = s.ldByte i := by
  unfold State.ldByte; rw [State.hitDetect_mem]
@[simp] theorem State.hitDetect_isArmed (s : State) (pg : Page) (room bit cause : Nat) (injected : Bool) (detail : W64) (q : PageRef) (i : Nat) : (s.hitDetect pg room bit cause injected detail).isArmed q i = s.isArmed q i := by
  unfold State.isArmed; rw [State.hitDetect_armed]
@[simp] theorem State.hitDetect_suiteOf (s : State) (pg : Page) (room bit cause : Nat) (injected : Bool) (detail : W64) (i : Nat) : (s.hitDetect pg room bit cause injected detail).suiteOf i = s.suiteOf i := by
  unfold State.suiteOf; unfold State.suiteOfWing; rw [State.hitDetect_suites]

end Sys2Proof.Machine
end

