-- ==== Sys2Proof/Laws/Store.lean ====
section
/-!
SUPPORT. Laws of sparse maps: a read after a write, and the canonical form.
-/

namespace Sys2Proof.Machine

variable {α : Type}

@[simp] theorem smGet_nil (d : α) (k : Nat) : smGet d [] k = d := rfl

theorem smGet_smDel_self (d : α) (m : SMap α) (k : Nat) : smGet d (smDel m k) k = d := by
  induction m with
  | nil => rfl
  | cons e m ih =>
    unfold smDel at ih ⊢
    by_cases h : e.1 = k
    · rwa [List.filter_cons_of_neg (by simp [h])]
    · rw [List.filter_cons_of_pos (by simp [h])]
      simpa only [smGet, h, if_false] using ih

theorem smGet_smDel_ne (d : α) (m : SMap α) {k j : Nat} (h : j ≠ k) : smGet d (smDel m k) j = smGet d m j := by
  induction m with
  | nil => rfl
  | cons e m ih =>
    unfold smDel at ih ⊢
    by_cases hk : e.1 = k
    · have : ¬ e.1 = j := fun hj => h (hj.symm.trans hk)
      rw [List.filter_cons_of_neg (by simp [hk]), ih]
      simp only [smGet, this, if_false]
    · rw [List.filter_cons_of_pos (by simp [hk])]
      simp only [smGet, ih]

theorem smGet_smIns_self (d : α) (m : SMap α) (k : Nat) (v : α) (h : ∀ e ∈ m, e.1 ≠ k) : smGet d (smIns k v m) k = v := by
  induction m with
  | nil => simp [smIns, smGet]
  | cons e m ih =>
    have he : e.1 ≠ k := h e (List.mem_cons_self ..)
    have hm : ∀ f ∈ m, f.1 ≠ k := fun f hf => h f (List.mem_cons_of_mem _ hf)
    unfold smIns
    split
    · simp [smGet]
    · simp [smGet, he, ih hm]

theorem smGet_smIns_ne (d : α) (m : SMap α) {k j : Nat} (v : α) (h : j ≠ k) : smGet d (smIns k v m) j = smGet d m j := by
  have hk : k ≠ j := fun e => h e.symm
  induction m with
  | nil => simp [smIns, smGet, hk]
  | cons e m ih =>
    unfold smIns
    split
    · simp [smGet, hk]
    · simp [smGet, ih]

theorem smDel_key_ne (m : SMap α) (k : Nat) : ∀ e ∈ smDel m k, e.1 ≠ k := by
  intro e he
  simpa using (List.mem_filter.mp he).2

/-! ### Rising indices -/

theorem smRising_tail {e : Nat × α} {m : SMap α} (h : smRising (e :: m) = true) : smRising m = true := by
  cases m with
  | nil => rfl
  | cons f m => simp [smRising] at h; exact h.2

theorem smRising_lt {e : Nat × α} {m : SMap α} (h : smRising (e :: m) = true) : ∀ f ∈ m, e.1 < f.1 := by
  induction m generalizing e with
  | nil => intro f hf; cases hf
  | cons g m ih =>
    simp [smRising] at h
    intro f hf
    cases hf with
    | head => exact h.1
    | tail _ hf => exact Nat.lt_trans h.1 (ih h.2 f hf)

theorem smRising_cons {e : Nat × α} {m : SMap α} (hm : smRising m = true) (h : ∀ f ∈ m, e.1 < f.1) : smRising (e :: m) = true := by
  cases m with
  | nil => rfl
  | cons f m => simp [smRising, hm, h f (List.mem_cons_self ..)]

theorem smRising_filter (p : Nat × α → Bool) {m : SMap α} (h : smRising m = true) : smRising (m.filter p) = true := by
  induction m with
  | nil => rfl
  | cons e m ih =>
    have ht := ih (smRising_tail h)
    rw [List.filter_cons]
    split
    · exact smRising_cons ht fun f hf => smRising_lt h f (List.mem_filter.mp hf).1
    · exact ht

theorem mem_smIns {k : Nat} {v : α} {m : SMap α} {e : Nat × α} (h : e ∈ smIns k v m) : e = (k, v) ∨ e ∈ m := by
  induction m with
  | nil => simpa [smIns] using h
  | cons f m ih =>
    unfold smIns at h
    split at h
    · simpa using h
    · cases h with
      | head => exact .inr (List.mem_cons_self ..)
      | tail _ h => exact (ih h).imp id (List.mem_cons_of_mem _)

theorem smRising_smIns {k : Nat} {v : α} {m : SMap α} (h : smRising m = true) (hk : ∀ e ∈ m, e.1 ≠ k) : smRising (smIns k v m) = true := by
  induction m with
  | nil => rfl
  | cons e m ih =>
    have he : e.1 ≠ k := hk e (List.mem_cons_self ..)
    unfold smIns
    split
    · next hlt =>
      refine smRising_cons h fun f hf => ?_
      cases hf with
      | head => exact hlt
      | tail _ hf => exact Nat.lt_trans hlt (smRising_lt h f hf)
    · next hge =>
      refine smRising_cons (ih (smRising_tail h) fun f hf => hk f (List.mem_cons_of_mem _ hf)) fun f hf => ?_
      rcases mem_smIns hf with rfl | hf
      · show e.1 < k
        omega
      · exact smRising_lt h f hf

/-! ### Writes -/

variable [DecidableEq α]

/-- A read of the index written. -/
@[simp] theorem smGet_smSet_self (d : α) (m : SMap α) (k : Nat) (v : α) : smGet d (smSet d m k v) k = v := by
  unfold smSet
  split
  · next h => rw [smGet_smDel_self, h]
  · exact smGet_smIns_self d _ k v (smDel_key_ne m k)

/-- A read of another index. -/
theorem smGet_smSet_ne (d e : α) (m : SMap α) {k j : Nat} (v : α) (h : j ≠ k) : smGet d (smSet e m k v) j = smGet d m j := by
  unfold smSet
  split
  · exact smGet_smDel_ne d m h
  · rw [smGet_smIns_ne _ _ _ h, smGet_smDel_ne d m h]

/-- Putting an entry in and taking its index out. -/
theorem smDel_smIns (m : SMap α) (k : Nat) (v : α) : smDel (smIns k v m) k = smDel m k := by
  induction m with
  | nil => simp [smIns, smDel]
  | cons e m ih =>
    unfold smIns
    split
    · simp [smDel]
    · unfold smDel at ih ⊢
      rw [List.filter_cons, List.filter_cons, ih]

/-- Of two writes of one index the second stands. -/
@[simp] theorem smSet_smSet (d : α) (m : SMap α) (k : Nat) (v w : α) : smSet d (smSet d m k v) k w = smSet d m k w := by
  have h : smDel (smSet d m k v) k = smDel m k := by
    unfold smSet
    split
    · simp [smDel]
    · rw [smDel_smIns]; simp [smDel]
  unfold smSet at h ⊢
  rw [h]

/-- A write keeps the canonical form. -/
theorem smSet_wf (d : Nat → α) {m : SMap α} (k : Nat) (v : α) (h : smWf d m = true) : smWf d (smSet (d k) m k v) = true := by
  simp only [smWf, Bool.and_eq_true, List.all_eq_true, decide_eq_true_eq] at h ⊢
  obtain ⟨hr, hd⟩ := h
  have hdel : smRising (smDel m k) = true := smRising_filter _ hr
  have hmem : ∀ e ∈ smDel m k, e ∈ m := fun e he => (List.mem_filter.mp he).1
  unfold smSet
  split
  · exact ⟨hdel, fun e he => hd e (hmem e he)⟩
  · next hv =>
    refine ⟨smRising_smIns hdel (smDel_key_ne m k), fun e he => ?_⟩
    rcases mem_smIns he with rfl | he
    · exact hv
    · exact hd e (hmem e he)

/-- So do several writes. -/
theorem smSetAll_wf (d : α) {m : SMap α} (l : List (Nat × α)) (h : smWf (fun _ => d) m = true) :
    smWf (fun _ => d) (smSetAll d m l) = true := by
  induction l generalizing m with
  | nil => exact h
  | cons e l ih => exact ih (smSet_wf (fun _ => d) e.1 e.2 h)

/-- Dropping entries keeps it. -/
theorem smDrop_wf (d : Nat → α) (p : Nat → Bool) {m : SMap α} (h : smWf d m = true) : smWf d (smDrop p m) = true := by
  simp only [smWf, Bool.and_eq_true, List.all_eq_true, decide_eq_true_eq] at h ⊢
  exact ⟨smRising_filter _ h.1, fun e he => h.2 e (List.mem_filter.mp he).1⟩

omit [DecidableEq α] in
theorem smDrop_gets (d : α) (p : Nat → Bool) (m : SMap α) (k : Nat) :
    smGet d (smDrop p m) k = if p k then d else smGet d m k := by
  induction m with
  | nil => simp [smDrop]
  | cons e m ih =>
    simp only [smDrop, List.filter_cons] at ih ⊢
    by_cases hk : e.1 = k
    · subst hk
      by_cases hp : p e.1 = true
      · simp [hp] at ih ⊢; exact ih
      · simp [hp, smGet]
    · by_cases hp : p e.1 = true
      · simpa [hp, smGet, hk] using ih
      · simpa [hp, smGet, hk] using ih

end Sys2Proof.Machine
end

