-- ==== Sys2Proof/Laws/Regs.lean ====
section
/-!
SUPPORT. Laws of registers, Rooms, Bricks, Suites and events: what a read gives after a write, and what raising an event, capturing a WHERE
and halting do.
-/

namespace Sys2Proof.Machine

/-! ### Keys -/

theorem Page.idx_get (p : Page) : allPages[p.idx]? = some p := by cases p <;> rfl

theorem Page.idx_inj {p q : Page} (h : p.idx = q.idx) : p = q := by
  have hp := p.idx_get
  rw [h, q.idx_get] at hp
  exact (Option.some.inj hp).symm

/-- Registers of one page at different offsets have different keys. -/
theorem regKey_off {p : PageRef} {a b : Nat} (h : a ≠ b) : regKey p a ≠ regKey p b := by
  unfold regKey; omega

/-- Registers of different pages have different keys, instances being below 2^20 and offsets below 4,096. -/
theorem regKey_page {p q : PageRef} {a b : Nat} (hp : p.inst < 2 ^ 20) (hq : q.inst < 2 ^ 20) (ha : a < 4096) (hb : b < 4096) (h : p ≠ q) :
    regKey p a ≠ regKey q b := by
  intro e
  unfold regKey at e
  have h1 : p.page.idx = q.page.idx := by omega
  have h2 : p.inst = q.inst := by rw [h1] at e; omega
  have h3 : p.page = q.page := Page.idx_inj h1
  exact h (by cases p; cases q; cases h2; cases h3; rfl)

/-! ### Registers -/

/-- Registers of two pages of one instance have different keys. -/
theorem regKey_inst {p q : Page} {n a b : Nat} (ha : a < 4096) (hb : b < 4096) (h : p ≠ q) : regKey (rp p n) a ≠ regKey (rp q n) b := by
  intro e
  have h1 : p.idx ≠ q.idx := fun e => h (Page.idx_inj e)
  unfold regKey rp at e
  dsimp only at e
  generalize p.idx = x at *
  generalize q.idx = y at *
  omega

@[simp] theorem State.rd_wr_self (s : State) (p : PageRef) (o : Nat) (v : W64) : (s.wr p o v).rd p o = v := by
  simp [State.rd, State.wr]

theorem State.rd_wr_key (s : State) {p q : PageRef} {o a : Nat} (v : W64) (h : regKey q a ≠ regKey p o) : (s.wr p o v).rd q a = s.rd q a := by
  simp [State.rd, State.wr, smGet_smSet_ne _ _ _ _ h]

theorem State.rd_wr_off (s : State) {p : PageRef} {o a : Nat} (v : W64) (h : a ≠ o) : (s.wr p o v).rd p a = s.rd p a :=
  s.rd_wr_key v (regKey_off h)

theorem State.rdF_wrF_self (s : State) (p : PageRef) (o : Nat) {hi lo v : Nat} (h : hi < 64) (hv : v < 2 ^ (hi + 1 - lo)) :
    (s.wrF p o hi lo v).rdF p o hi lo = v := by
  simp [State.rdF, State.wrF, fld_setFld _ h hv]

theorem State.rd_wrF_off (s : State) {p : PageRef} {o a : Nat} (hi lo v : Nat) (h : a ≠ o) : (s.wrF p o hi lo v).rd p a = s.rd p a :=
  s.rd_wr_off _ h

theorem State.rd_bump_off (s : State) {p : PageRef} {o a : Nat} (hi lo n : Nat) (h : a ≠ o) : (s.bump p o hi lo n).rd p a = s.rd p a :=
  s.rd_wr_off _ h

/-! ### Rooms, Bricks, Suites, memory -/

@[simp] theorem State.room_setRoom (s : State) (r : Nat) (x : RoomSt) : (s.setRoom r x).room r = x := by
  simp [State.room, State.setRoom]

theorem State.room_setRoom_ne (s : State) {r q : Nat} (x : RoomSt) (h : q ≠ r) : (s.setRoom r x).room q = s.room q := by
  simp [State.room, State.setRoom, smGet_smSet_ne _ _ _ _ h]

@[simp] theorem State.room_modRoom (s : State) (r : Nat) (f : RoomSt → RoomSt) : (s.modRoom r f).room r = f (s.room r) :=
  s.room_setRoom r _

theorem State.room_modRoom_ne (s : State) {r q : Nat} (f : RoomSt → RoomSt) (h : q ≠ r) : (s.modRoom r f).room q = s.room q :=
  s.room_setRoom_ne _ h

@[simp] theorem State.brick_setBrick (s : State) (r b : Nat) (x : Brick) : (s.setBrick r b x).brick r b = x := by
  simp [State.brick, State.setBrick]

theorem State.brick_setBrick_ne (s : State) {r b q c : Nat} (x : Brick) (h : brickKey q c ≠ brickKey r b) :
    (s.setBrick r b x).brick q c = s.brick q c := by
  simp [State.brick, State.setBrick, smGet_smSet_ne _ _ _ _ h]

@[simp] theorem State.brick_modBrick (s : State) (r b : Nat) (f : Brick → Brick) : (s.modBrick r b f).brick r b = f (s.brick r b) :=
  s.brick_setBrick r b _

@[simp] theorem State.suite_setSuite (s : State) (k : Nat) (u : Suite) : (s.setSuite k u).suite k = some u := by
  simp [State.suite, State.setSuite]

theorem State.suite_setSuite_ne (s : State) {k j : Nat} (u : Suite) (h : j ≠ k) : (s.setSuite k u).suite j = s.suite j := by
  simp [State.suite, State.setSuite, smGet_smSet_ne _ _ _ _ h]

theorem State.modSuite_of (s : State) {k : Nat} {u : Suite} (f : Suite → Suite) (h : s.suite k = some u) : s.modSuite k f = s.setSuite k (f u) := by
  simp [State.modSuite, h]

theorem State.suite_modSuite (s : State) {k : Nat} {u : Suite} (f : Suite → Suite) (h : s.suite k = some u) : (s.modSuite k f).suite k = some (f u) := by
  simp [s.modSuite_of f h]

@[simp] theorem State.ldByte_stByte (s : State) (a : Nat) (v : Byte) : (s.stByte a v).ldByte a = v := by
  simp [State.ldByte, State.stByte]

theorem State.ldByte_stByte_ne (s : State) {a b : Nat} (v : Byte) (h : b ≠ a) : (s.stByte a v).ldByte b = s.ldByte b := by
  simp [State.ldByte, State.stByte, smGet_smSet_ne _ _ _ _ h]

/-! ### Events -/

/-- Raising an event sets its EVENT bit. -/
theorem State.raise_sets (s : State) {p : PageRef} {bit : Nat} (injected : Bool) (hg : s.gated p = false) (hb : bit < 64) :
    tst ((s.raise p bit injected).rd p 0x028) bit = true := by
  unfold State.raise
  have h : regKey p 0x028 ≠ regKey p 0x040 := regKey_off (by decide)
  split
  · next h' => simp [hg] at h'
  · dsimp only
    split <;> simp [State.rd, State.wr, smGet_smSet_ne _ _ _ _ h, tst_setBit _ hb]

/-- Raising an event clears no EVENT bit of its page. -/
theorem State.raise_keeps (s : State) {p : PageRef} {bit i : Nat} (injected : Bool) (h : tst (s.rd p 0x028) i = true) :
    tst ((s.raise p bit injected).rd p 0x028) i = true := by
  unfold State.raise
  have hk : regKey p 0x028 ≠ regKey p 0x040 := regKey_off (by decide)
  split
  · exact h
  · dsimp only
    split <;> simp only [State.rd, State.wr, smGet_smSet_ne _ _ _ _ hk, smGet_smSet_self]
    all_goals exact tst_setBit_of _ (by simpa [State.rd] using h)

/-- Raising an event writes EVENT and EVENT_COUNT of its page and no other register. -/
theorem State.raise_rd (s : State) {p q : PageRef} {bit o : Nat} (injected : Bool) (h1 : regKey q o ≠ regKey p 0x028) (h2 : regKey q o ≠ regKey p 0x040) :
    (s.raise p bit injected).rd q o = s.rd q o := by
  unfold State.raise
  split
  · rfl
  · dsimp only
    split <;> simp [State.rd, State.wr, smGet_smSet_ne _ _ _ _ h1, smGet_smSet_ne _ _ _ _ h2]

theorem State.raise_rd_off (s : State) {p : PageRef} {bit o : Nat} (injected : Bool) (h1 : o ≠ 0x028) (h2 : o ≠ 0x040) :
    (s.raise p bit injected).rd p o = s.rd p o :=
  s.raise_rd injected (regKey_off h1) (regKey_off h2)

/-- A WHERE register that holds a capture keeps it; an open one takes the value with VALID set (R76). -/
theorem State.capture_rd (s : State) (p : PageRef) (o : Nat) (v : W64) :
    (s.capture p o v).rd p o = if tst (s.rd p o) 31 then s.rd p o else setBit v 31 := by
  unfold State.capture; split <;> simp

theorem State.capture_rd_off (s : State) {p : PageRef} {o a : Nat} (v : W64) (h : a ≠ o) : (s.capture p o v).rd p a = s.rd p a := by
  unfold State.capture
  split
  · rfl
  · exact s.rd_wr_off _ h

theorem State.captureStep_rd (s : State) (p : PageRef) {o so : Nat} (v st : W64) (h : o ≠ so) :
    (s.captureStep p o v so st).rd p o = if tst (s.rd p o) 31 then s.rd p o else setBit v 31 := by
  unfold State.captureStep
  split
  · rfl
  · rw [State.rd_wr_off _ _ h, State.rd_wr_self]

theorem State.captureStep_rd_off (s : State) {p : PageRef} {o so a : Nat} (v st : W64) (h : a ≠ o) (h' : a ≠ so) :
    (s.captureStep p o v so st).rd p a = s.rd p a := by
  unfold State.captureStep
  split
  · rfl
  · rw [State.rd_wr_off _ _ h', State.rd_wr_off _ _ h]

/-- The registers after an event that halts are those after it is raised. -/
@[simp] theorem State.hitHalt_rd (s : State) (pg : Page) (room bit cause : Nat) (injected : Bool) (d : W64) (q : PageRef) (o : Nat) :
    (s.hitHalt pg room bit cause injected d).rd q o = (s.raise (rp pg room) bit injected).rd q o := by
  unfold State.hitHalt; dsimp only; split <;> simp

/-- A detected error of a page leaves a record on its way to the collector (R412, R428). -/
theorem State.hitHalt_records (s : State) (pg : Page) (room bit cause : Nat) (injected : Bool) (d : W64) :
    ∃ r : Incident, (s.hitHalt pg room bit cause injected d).flying = s.flying ++ [r] ∧ r.code = pg.cls * 256 + cause ∧ r.halt = true ∧ r.injected = injected := by
  unfold State.hitHalt
  dsimp only
  split <;> simp [State.record, rp]

@[simp] theorem State.hitDetect_rd (s : State) (pg : Page) (room bit cause : Nat) (injected : Bool) (d : W64) (q : PageRef) (o : Nat) :
    (s.hitDetect pg room bit cause injected d).rd q o = (s.raise (rp pg room) bit injected).rd q o := by
  unfold State.hitDetect; simp

/-- HALT reaches a running Suite's stall master: one more request, made in the Suite's present cycle (R311). -/
theorem State.sendHalt_suite (s : State) {k room slot code : Nat} {u : Suite} (h : s.suite k = some u) (hr : u.run ≠ 0 ∧ u.run ≠ 4) :
    (s.sendHalt k room slot code).suite k = some { u with halts := u.halts ++ [⟨u.clk, room, slot, code, s.et⟩] } := by
  unfold State.sendHalt
  rw [s.suite_modSuite _ h]
  simp [hr.1, hr.2]

theorem State.hitHalt_suite (s : State) (pg : Page) {room i : Nat} {u : Suite} (bit cause : Nat) (injected : Bool) (d : W64)
    (hi : s.suiteOf room = some i) (h : s.suite i = some u) (hr : u.run ≠ 0 ∧ u.run ≠ 4) :
    (s.hitHalt pg room bit cause injected d).suite i
      = some { u with halts := u.halts ++ [⟨u.clk, room, pg.slot, pg.cls * 256 + cause, s.et⟩] } := by
  unfold State.hitHalt
  simp only [State.record_suiteOf, State.raise_suiteOf, hi]
  rw [State.sendHalt_suite (u := u) _ (by simpa using h) hr]
  simp

/-- A register write changes the register file alone. -/
theorem State.wr_regsOut (s : State) (p : PageRef) (o : Nat) (v : W64) (r : SMap W64) : { s.wr p o v with regs := r } = { s with regs := r } := rfl

end Sys2Proof.Machine
end

