-- ==== Sys2Proof/Laws/Folds.lean ====
section
/-!
SUPPORT. What a fold over Rooms, Bricks or entries keeps and reaches.
-/

namespace Sys2Proof.Machine

/-- What every step of a fold keeps, the fold keeps. -/
theorem foldl_keeps {σ α : Type} (P : σ → Prop) (f : σ → α → σ) {l : List α} (h : ∀ s a, a ∈ l → P s → P (f s a)) {s : σ} (hs : P s) :
    P (l.foldl f s) := by
  induction l generalizing s with
  | nil => exact hs
  | cons a l ih => exact ih (fun s b hb => h s b (List.mem_cons_of_mem _ hb)) (h s a List.mem_cons_self hs)

/-- What the step of one member brings about, and every step keeps, holds after the fold. -/
theorem foldl_reaches {σ α : Type} (P : σ → Prop) (f : σ → α → σ) {l : List α} {a : α} (ha : a ∈ l) (hr : ∀ s, P (f s a))
    (h : ∀ s b, b ∈ l → P s → P (f s b)) (s : σ) : P (l.foldl f s) := by
  induction l generalizing s with
  | nil => cases ha
  | cons b l ih =>
    rcases List.mem_cons.mp ha with rfl | hm
    · exact foldl_keeps P f (fun s c hc => h s c (List.mem_cons_of_mem _ hc)) (hr s)
    · exact ih hm (fun s c hc => h s c (List.mem_cons_of_mem _ hc)) _

/-- A fold with an invariant `Q`, which the reaching step may use. -/
theorem foldl_reaches_of {σ α : Type} (Q P : σ → Prop) (f : σ → α → σ) {l : List α} {a : α} (ha : a ∈ l) (hr : ∀ s, Q s → P (f s a))
    (h : ∀ s b, b ∈ l → Q s → P s → P (f s b)) (hq : ∀ s b, b ∈ l → Q s → Q (f s b)) {s : σ} (hs : Q s) : P (l.foldl f s) := by
  induction l generalizing s with
  | nil => cases ha
  | cons b l ih =>
    rcases List.mem_cons.mp ha with rfl | hm
    · exact (foldl_keeps (fun s => Q s ∧ P s) f (fun s c hc hp => ⟨hq s c (List.mem_cons_of_mem _ hc) hp.1, h s c (List.mem_cons_of_mem _ hc) hp.1 hp.2⟩)
        ⟨hq s a List.mem_cons_self hs, hr s hs⟩).2
    · exact ih hm (fun s c hc => h s c (List.mem_cons_of_mem _ hc)) (fun s c hc => hq s c (List.mem_cons_of_mem _ hc)) (hq s b List.mem_cons_self hs)

/-- A fold in which one member alone acts. -/
theorem foldl_only {σ α : Type} (f : σ → α → σ) {l : List α} {b : α} (hn : l.Nodup) (hb : b ∈ l) (h : ∀ c, c ∈ l → c ≠ b → ∀ x, f x c = x) (s : σ) :
    l.foldl f s = f s b := by
  have idle : ∀ m : List α, (∀ c, c ∈ m → ∀ x, f x c = x) → ∀ x, m.foldl f x = x := by
    intro m hm
    induction m with
    | nil => intro x; rfl
    | cons c m ih => intro x; rw [List.foldl_cons, hm c List.mem_cons_self]; exact ih (fun d hd => hm d (List.mem_cons_of_mem _ hd)) x
  induction l generalizing s with
  | nil => cases hb
  | cons c l ih =>
    rw [List.nodup_cons] at hn
    rcases List.mem_cons.mp hb with rfl | hm
    · exact idle l (fun d hd => h d (List.mem_cons_of_mem _ hd) (fun e => hn.1 (e ▸ hd))) _
    · have : c ≠ b := fun e => hn.1 (e ▸ hm)
      rw [List.foldl_cons, h c List.mem_cons_self this]
      exact ih hn.2 hm (fun d hd => h d (List.mem_cons_of_mem _ hd)) s

end Sys2Proof.Machine
end

