-- ==== Sys2Proof/Laws/Frames.lean ====
section
/-!
SUPPORT. Frames of operations of the families: what each leaves alone.
-/

namespace Sys2Proof.Machine

/-! ### `setLatch` changes only `rooms` -/

@[simp] theorem State.setLatch_et (s : State) (r n : Nat) (l : Latch) : (s.setLatch r n l).et = s.et := rfl
@[simp] theorem State.setLatch_etPhase (s : State) (r n : Nat) (l : Latch) : (s.setLatch r n l).etPhase = s.etPhase := rfl
@[simp] theorem State.setLatch_regs (s : State) (r n : Nat) (l : Latch) : (s.setLatch r n l).regs = s.regs := rfl
@[simp] theorem State.setLatch_armed (s : State) (r n : Nat) (l : Latch) : (s.setLatch r n l).armed = s.armed := rfl
@[simp] theorem State.setLatch_injLat (s : State) (r n : Nat) (l : Latch) : (s.setLatch r n l).injLat = s.injLat := rfl
@[simp] theorem State.setLatch_mem (s : State) (r n : Nat) (l : Latch) : (s.setLatch r n l).mem = s.mem := rfl
@[simp] theorem State.setLatch_bricks (s : State) (r n : Nat) (l : Latch) : (s.setLatch r n l).bricks = s.bricks := rfl
@[simp] theorem State.setLatch_suites (s : State) (r n : Nat) (l : Latch) : (s.setLatch r n l).suites = s.suites := rfl
@[simp] theorem State.setLatch_glatch (s : State) (r n : Nat) (l : Latch) : (s.setLatch r n l).glatch = s.glatch := rfl
@[simp] theorem State.setLatch_pkts (s : State) (r n : Nat) (l : Latch) : (s.setLatch r n l).pkts = s.pkts := rfl
@[simp] theorem State.setLatch_outst (s : State) (r n : Nat) (l : Latch) : (s.setLatch r n l).outst = s.outst := rfl
@[simp] theorem State.setLatch_nextTag (s : State) (r n : Nat) (l : Latch) : (s.setLatch r n l).nextTag = s.nextTag := rfl
@[simp] theorem State.setLatch_flying (s : State) (r n : Nat) (l : Latch) : (s.setLatch r n l).flying = s.flying := rfl
@[simp] theorem State.setLatch_collector (s : State) (r n : Nat) (l : Latch) : (s.setLatch r n l).collector = s.collector := rfl
@[simp] theorem State.setLatch_incSeq (s : State) (r n : Nat) (l : Latch) : (s.setLatch r n l).incSeq = s.incSeq := rfl
@[simp] theorem State.setLatch_remap (s : State) (r n : Nat) (l : Latch) : (s.setLatch r n l).remap = s.remap := rfl
@[simp] theorem State.setLatch_c24 (s : State) (r n : Nat) (l : Latch) : (s.setLatch r n l).c24 = s.c24 := rfl
@[simp] theorem State.setLatch_rim (s : State) (r n : Nat) (l : Latch) : (s.setLatch r n l).rim = s.rim := rfl
@[simp] theorem State.setLatch_out (s : State) (r n : Nat) (l : Latch) : (s.setLatch r n l).out = s.out := rfl
@[simp] theorem State.setLatch_busData (s : State) (r n : Nat) (l : Latch) : (s.setLatch r n l).busData = s.busData := rfl
@[simp] theorem State.setLatch_free (s : State) (r n : Nat) (l : Latch) : (s.setLatch r n l).free = s.free := rfl
@[simp] theorem State.setLatch_pending (s : State) (r n : Nat) (l : Latch) : (s.setLatch r n l).pending = s.pending := rfl
@[simp] theorem State.setLatch_rd (s : State) (r n : Nat) (l : Latch) (q : PageRef) (o : Nat) : (s.setLatch r n l).rd q o = s.rd q o := by
  unfold State.rd; rw [State.setLatch_regs]
@[simp] theorem State.setLatch_brick (s : State) (r n : Nat) (l : Latch) (i j : Nat) : (s.setLatch r n l).brick i j = s.brick i j := by
  unfold State.brick; rw [State.setLatch_bricks]
@[simp] theorem State.setLatch_suite (s : State) (r n : Nat) (l : Latch) (i : Nat) : (s.setLatch r n l).suite i = s.suite i := by
  unfold State.suite; rw [State.setLatch_suites]
@[simp] theorem State.setLatch_isArmed (s : State) (r n : Nat) (l : Latch) (q : PageRef) (i : Nat) : (s.setLatch r n l).isArmed q i = s.isArmed q i := by
  unfold State.isArmed; rw [State.setLatch_armed]
@[simp] theorem State.setLatch_suiteOf (s : State) (r n : Nat) (l : Latch) (i : Nat) : (s.setLatch r n l).suiteOf i = s.suiteOf i := by
  unfold State.suiteOf; unfold State.suiteOfWing; rw [State.setLatch_suites]

/-! ### `setGl` changes only `glatch` -/

@[simp] theorem State.setGl_et (s : State) (n : Nat) (l : Latch) : (s.setGl n l).et = s.et := rfl
@[simp] theorem State.setGl_etPhase (s : State) (n : Nat) (l : Latch) : (s.setGl n l).etPhase = s.etPhase := rfl
@[simp] theorem State.setGl_regs (s : State) (n : Nat) (l : Latch) : (s.setGl n l).regs = s.regs := rfl
@[simp] theorem State.setGl_armed (s : State) (n : Nat) (l : Latch) : (s.setGl n l).armed = s.armed := rfl
@[simp] theorem State.setGl_injLat (s : State) (n : Nat) (l : Latch) : (s.setGl n l).injLat = s.injLat := rfl
@[simp] theorem State.setGl_mem (s : State) (n : Nat) (l : Latch) : (s.setGl n l).mem = s.mem := rfl
@[simp] theorem State.setGl_bricks (s : State) (n : Nat) (l : Latch) : (s.setGl n l).bricks = s.bricks := rfl
@[simp] theorem State.setGl_rooms (s : State) (n : Nat) (l : Latch) : (s.setGl n l).rooms = s.rooms := rfl
@[simp] theorem State.setGl_suites (s : State) (n : Nat) (l : Latch) : (s.setGl n l).suites = s.suites := rfl
@[simp] theorem State.setGl_pkts (s : State) (n : Nat) (l : Latch) : (s.setGl n l).pkts = s.pkts := rfl
@[simp] theorem State.setGl_outst (s : State) (n : Nat) (l : Latch) : (s.setGl n l).outst = s.outst := rfl
@[simp] theorem State.setGl_nextTag (s : State) (n : Nat) (l : Latch) : (s.setGl n l).nextTag = s.nextTag := rfl
@[simp] theorem State.setGl_flying (s : State) (n : Nat) (l : Latch) : (s.setGl n l).flying = s.flying := rfl
@[simp] theorem State.setGl_collector (s : State) (n : Nat) (l : Latch) : (s.setGl n l).collector = s.collector := rfl
@[simp] theorem State.setGl_incSeq (s : State) (n : Nat) (l : Latch) : (s.setGl n l).incSeq = s.incSeq := rfl
@[simp] theorem State.setGl_remap (s : State) (n : Nat) (l : Latch) : (s.setGl n l).remap = s.remap := rfl
@[simp] theorem State.setGl_c24 (s : State) (n : Nat) (l : Latch) : (s.setGl n l).c24 = s.c24 := rfl
@[simp] theorem State.setGl_rim (s : State) (n : Nat) (l : Latch) : (s.setGl n l).rim = s.rim := rfl
@[simp] theorem State.setGl_out (s : State) (n : Nat) (l : Latch) : (s.setGl n l).out = s.out := rfl
@[simp] theorem State.setGl_busData (s : State) (n : Nat) (l : Latch) : (s.setGl n l).busData = s.busData := rfl
@[simp] theorem State.setGl_free (s : State) (n : Nat) (l : Latch) : (s.setGl n l).free = s.free := rfl
@[simp] theorem State.setGl_pending (s : State) (n : Nat) (l : Latch) : (s.setGl n l).pending = s.pending := rfl
@[simp] theorem State.setGl_rd (s : State) (n : Nat) (l : Latch) (q : PageRef) (o : Nat) : (s.setGl n l).rd q o = s.rd q o := by
  unfold State.rd; rw [State.setGl_regs]
@[simp] theorem State.setGl_brick (s : State) (n : Nat) (l : Latch) (i j : Nat) : (s.setGl n l).brick i j = s.brick i j := by
  unfold State.brick; rw [State.setGl_bricks]
@[simp] theorem State.setGl_room (s : State) (n : Nat) (l : Latch) (i : Nat) : (s.setGl n l).room i = s.room i := by
  unfold State.room; rw [State.setGl_rooms]
@[simp] theorem State.setGl_suite (s : State) (n : Nat) (l : Latch) (i : Nat) : (s.setGl n l).suite i = s.suite i := by
  unfold State.suite; rw [State.setGl_suites]
@[simp] theorem State.setGl_isArmed (s : State) (n : Nat) (l : Latch) (q : PageRef) (i : Nat) : (s.setGl n l).isArmed q i = s.isArmed q i := by
  unfold State.isArmed; rw [State.setGl_armed]
@[simp] theorem State.setGl_suiteOf (s : State) (n : Nat) (l : Latch) (i : Nat) : (s.setGl n l).suiteOf i = s.suiteOf i := by
  unfold State.suiteOf; unfold State.suiteOfWing; rw [State.setGl_suites]

/-! ### `lchEvent` changes only `regs`, `injLat`, `out`, `flying`, `suites` -/

@[simp] theorem State.lchEvent_et (s : State) (r bit : Nat) (w : W64) (halts hand injected : Bool) : (s.lchEvent r bit w halts hand injected).et = s.et := by
  unfold State.lchEvent; dsimp only; split <;> split <;> (try split) <;> simp
@[simp] theorem State.lchEvent_etPhase (s : State) (r bit : Nat) (w : W64) (halts hand injected : Bool) : (s.lchEvent r bit w halts hand injected).etPhase = s.etPhase := by
  unfold State.lchEvent; dsimp only; split <;> split <;> (try split) <;> simp
@[simp] theorem State.lchEvent_armed (s : State) (r bit : Nat) (w : W64) (halts hand injected : Bool) : (s.lchEvent r bit w halts hand injected).armed = s.armed := by
  unfold State.lchEvent; dsimp only; split <;> split <;> (try split) <;> simp
@[simp] theorem State.lchEvent_mem (s : State) (r bit : Nat) (w : W64) (halts hand injected : Bool) : (s.lchEvent r bit w halts hand injected).mem = s.mem := by
  unfold State.lchEvent; dsimp only; split <;> split <;> (try split) <;> simp
@[simp] theorem State.lchEvent_bricks (s : State) (r bit : Nat) (w : W64) (halts hand injected : Bool) : (s.lchEvent r bit w halts hand injected).bricks = s.bricks := by
  unfold State.lchEvent; dsimp only; split <;> split <;> (try split) <;> simp
@[simp] theorem State.lchEvent_rooms (s : State) (r bit : Nat) (w : W64) (halts hand injected : Bool) : (s.lchEvent r bit w halts hand injected).rooms = s.rooms := by
  unfold State.lchEvent; dsimp only; split <;> split <;> (try split) <;> simp
@[simp] theorem State.lchEvent_glatch (s : State) (r bit : Nat) (w : W64) (halts hand injected : Bool) : (s.lchEvent r bit w halts hand injected).glatch = s.glatch := by
  unfold State.lchEvent; dsimp only; split <;> split <;> (try split) <;> simp
@[simp] theorem State.lchEvent_pkts (s : State) (r bit : Nat) (w : W64) (halts hand injected : Bool) : (s.lchEvent r bit w halts hand injected).pkts = s.pkts := by
  unfold State.lchEvent; dsimp only; split <;> split <;> (try split) <;> simp
@[simp] theorem State.lchEvent_outst (s : State) (r bit : Nat) (w : W64) (halts hand injected : Bool) : (s.lchEvent r bit w halts hand injected).outst = s.outst := by
  unfold State.lchEvent; dsimp only; split <;> split <;> (try split) <;> simp
@[simp] theorem State.lchEvent_nextTag (s : State) (r bit : Nat) (w : W64) (halts hand injected : Bool) : (s.lchEvent r bit w halts hand injected).nextTag = s.nextTag := by
  unfold State.lchEvent; dsimp only; split <;> split <;> (try split) <;> simp
@[simp] theorem State.lchEvent_collector (s : State) (r bit : Nat) (w : W64) (halts hand injected : Bool) : (s.lchEvent r bit w halts hand injected).collector = s.collector := by
  unfold State.lchEvent; dsimp only; split <;> split <;> (try split) <;> simp
@[simp] theorem State.lchEvent_incSeq (s : State) (r bit : Nat) (w : W64) (halts hand injected : Bool) : (s.lchEvent r bit w halts hand injected).incSeq = s.incSeq := by
  unfold State.lchEvent; dsimp only; split <;> split <;> (try split) <;> simp
@[simp] theorem State.lchEvent_remap (s : State) (r bit : Nat) (w : W64) (halts hand injected : Bool) : (s.lchEvent r bit w halts hand injected).remap = s.remap := by
  unfold State.lchEvent; dsimp only; split <;> split <;> (try split) <;> simp
@[simp] theorem State.lchEvent_c24 (s : State) (r bit : Nat) (w : W64) (halts hand injected : Bool) : (s.lchEvent r bit w halts hand injected).c24 = s.c24 := by
  unfold State.lchEvent; dsimp only; split <;> split <;> (try split) <;> simp
@[simp] theorem State.lchEvent_rim (s : State) (r bit : Nat) (w : W64) (halts hand injected : Bool) : (s.lchEvent r bit w halts hand injected).rim = s.rim := by
  unfold State.lchEvent; dsimp only; split <;> split <;> (try split) <;> simp
@[simp] theorem State.lchEvent_busData (s : State) (r bit : Nat) (w : W64) (halts hand injected : Bool) : (s.lchEvent r bit w halts hand injected).busData = s.busData := by
  unfold State.lchEvent; dsimp only; split <;> split <;> (try split) <;> simp
@[simp] theorem State.lchEvent_free (s : State) (r bit : Nat) (w : W64) (halts hand injected : Bool) : (s.lchEvent r bit w halts hand injected).free = s.free := by
  unfold State.lchEvent; dsimp only; split <;> split <;> (try split) <;> simp
@[simp] theorem State.lchEvent_pending (s : State) (r bit : Nat) (w : W64) (halts hand injected : Bool) : (s.lchEvent r bit w halts hand injected).pending = s.pending := by
  unfold State.lchEvent; dsimp only; split <;> split <;> (try split) <;> simp
@[simp] theorem State.lchEvent_brick (s : State) (r bit : Nat) (w : W64) (halts hand injected : Bool) (i j : Nat) : (s.lchEvent r bit w halts hand injected).brick i j = s.brick i j := by
  unfold State.brick; rw [State.lchEvent_bricks]
@[simp] theorem State.lchEvent_room (s : State) (r bit : Nat) (w : W64) (halts hand injected : Bool) (i : Nat) : (s.lchEvent r bit w halts hand injected).room i = s.room i := by
  unfold State.room; rw [State.lchEvent_rooms]
@[simp] theorem State.lchEvent_isArmed (s : State) (r bit : Nat) (w : W64) (halts hand injected : Bool) (q : PageRef) (i : Nat) : (s.lchEvent r bit w halts hand injected).isArmed q i = s.isArmed q i := by
  unfold State.isArmed; rw [State.lchEvent_armed]

/-! ### `lchgEvent` changes only `regs`, `injLat`, `out`, `flying`, `suites` -/

@[simp] theorem State.lchgEvent_et (s : State) (n bit : Nat) (w : W64) (halts hand injected : Bool) : (s.lchgEvent n bit w halts hand injected).et = s.et := by
  unfold State.lchgEvent; dsimp only; split <;> split <;> (try split) <;> simp
@[simp] theorem State.lchgEvent_etPhase (s : State) (n bit : Nat) (w : W64) (halts hand injected : Bool) : (s.lchgEvent n bit w halts hand injected).etPhase = s.etPhase := by
  unfold State.lchgEvent; dsimp only; split <;> split <;> (try split) <;> simp
@[simp] theorem State.lchgEvent_armed (s : State) (n bit : Nat) (w : W64) (halts hand injected : Bool) : (s.lchgEvent n bit w halts hand injected).armed = s.armed := by
  unfold State.lchgEvent; dsimp only; split <;> split <;> (try split) <;> simp
@[simp] theorem State.lchgEvent_mem (s : State) (n bit : Nat) (w : W64) (halts hand injected : Bool) : (s.lchgEvent n bit w halts hand injected).mem = s.mem := by
  unfold State.lchgEvent; dsimp only; split <;> split <;> (try split) <;> simp
@[simp] theorem State.lchgEvent_bricks (s : State) (n bit : Nat) (w : W64) (halts hand injected : Bool) : (s.lchgEvent n bit w halts hand injected).bricks = s.bricks := by
  unfold State.lchgEvent; dsimp only; split <;> split <;> (try split) <;> simp
@[simp] theorem State.lchgEvent_rooms (s : State) (n bit : Nat) (w : W64) (halts hand injected : Bool) : (s.lchgEvent n bit w halts hand injected).rooms = s.rooms := by
  unfold State.lchgEvent; dsimp only; split <;> split <;> (try split) <;> simp
@[simp] theorem State.lchgEvent_glatch (s : State) (n bit : Nat) (w : W64) (halts hand injected : Bool) : (s.lchgEvent n bit w halts hand injected).glatch = s.glatch := by
  unfold State.lchgEvent; dsimp only; split <;> split <;> (try split) <;> simp
@[simp] theorem State.lchgEvent_pkts (s : State) (n bit : Nat) (w : W64) (halts hand injected : Bool) : (s.lchgEvent n bit w halts hand injected).pkts = s.pkts := by
  unfold State.lchgEvent; dsimp only; split <;> split <;> (try split) <;> simp
@[simp] theorem State.lchgEvent_outst (s : State) (n bit : Nat) (w : W64) (halts hand injected : Bool) : (s.lchgEvent n bit w halts hand injected).outst = s.outst := by
  unfold State.lchgEvent; dsimp only; split <;> split <;> (try split) <;> simp
@[simp] theorem State.lchgEvent_nextTag (s : State) (n bit : Nat) (w : W64) (halts hand injected : Bool) : (s.lchgEvent n bit w halts hand injected).nextTag = s.nextTag := by
  unfold State.lchgEvent; dsimp only; split <;> split <;> (try split) <;> simp
@[simp] theorem State.lchgEvent_collector (s : State) (n bit : Nat) (w : W64) (halts hand injected : Bool) : (s.lchgEvent n bit w halts hand injected).collector = s.collector := by
  unfold State.lchgEvent; dsimp only; split <;> split <;> (try split) <;> simp
@[simp] theorem State.lchgEvent_incSeq (s : State) (n bit : Nat) (w : W64) (halts hand injected : Bool) : (s.lchgEvent n bit w halts hand injected).incSeq = s.incSeq := by
  unfold State.lchgEvent; dsimp only; split <;> split <;> (try split) <;> simp
@[simp] theorem State.lchgEvent_remap (s : State) (n bit : Nat) (w : W64) (halts hand injected : Bool) : (s.lchgEvent n bit w halts hand injected).remap = s.remap := by
  unfold State.lchgEvent; dsimp only; split <;> split <;> (try split) <;> simp
@[simp] theorem State.lchgEvent_c24 (s : State) (n bit : Nat) (w : W64) (halts hand injected : Bool) : (s.lchgEvent n bit w halts hand injected).c24 = s.c24 := by
  unfold State.lchgEvent; dsimp only; split <;> split <;> (try split) <;> simp
@[simp] theorem State.lchgEvent_rim (s : State) (n bit : Nat) (w : W64) (halts hand injected : Bool) : (s.lchgEvent n bit w halts hand injected).rim = s.rim := by
  unfold State.lchgEvent; dsimp only; split <;> split <;> (try split) <;> simp
@[simp] theorem State.lchgEvent_busData (s : State) (n bit : Nat) (w : W64) (halts hand injected : Bool) : (s.lchgEvent n bit w halts hand injected).busData = s.busData := by
  unfold State.lchgEvent; dsimp only; split <;> split <;> (try split) <;> simp
@[simp] theorem State.lchgEvent_free (s : State) (n bit : Nat) (w : W64) (halts hand injected : Bool) : (s.lchgEvent n bit w halts hand injected).free = s.free := by
  unfold State.lchgEvent; dsimp only; split <;> split <;> (try split) <;> simp
@[simp] theorem State.lchgEvent_pending (s : State) (n bit : Nat) (w : W64) (halts hand injected : Bool) : (s.lchgEvent n bit w halts hand injected).pending = s.pending := by
  unfold State.lchgEvent; dsimp only; split <;> split <;> (try split) <;> simp
@[simp] theorem State.lchgEvent_brick (s : State) (n bit : Nat) (w : W64) (halts hand injected : Bool) (i j : Nat) : (s.lchgEvent n bit w halts hand injected).brick i j = s.brick i j := by
  unfold State.brick; rw [State.lchgEvent_bricks]
@[simp] theorem State.lchgEvent_room (s : State) (n bit : Nat) (w : W64) (halts hand injected : Bool) (i : Nat) : (s.lchgEvent n bit w halts hand injected).room i = s.room i := by
  unfold State.room; rw [State.lchgEvent_rooms]
@[simp] theorem State.lchgEvent_isArmed (s : State) (n bit : Nat) (w : W64) (halts hand injected : Bool) (q : PageRef) (i : Nat) : (s.lchgEvent n bit w halts hand injected).isArmed q i = s.isArmed q i := by
  unfold State.isArmed; rw [State.lchgEvent_armed]

/-! ### `gSet` changes only `regs` -/

@[simp] theorem State.gSet_et (s : State) (r n k : Nat) (v : Bool) : (s.gSet r n k v).et = s.et := rfl
@[simp] theorem State.gSet_etPhase (s : State) (r n k : Nat) (v : Bool) : (s.gSet r n k v).etPhase = s.etPhase := rfl
@[simp] theorem State.gSet_armed (s : State) (r n k : Nat) (v : Bool) : (s.gSet r n k v).armed = s.armed := rfl
@[simp] theorem State.gSet_injLat (s : State) (r n k : Nat) (v : Bool) : (s.gSet r n k v).injLat = s.injLat := rfl
@[simp] theorem State.gSet_mem (s : State) (r n k : Nat) (v : Bool) : (s.gSet r n k v).mem = s.mem := rfl
@[simp] theorem State.gSet_bricks (s : State) (r n k : Nat) (v : Bool) : (s.gSet r n k v).bricks = s.bricks := rfl
@[simp] theorem State.gSet_rooms (s : State) (r n k : Nat) (v : Bool) : (s.gSet r n k v).rooms = s.rooms := rfl
@[simp] theorem State.gSet_suites (s : State) (r n k : Nat) (v : Bool) : (s.gSet r n k v).suites = s.suites := rfl
@[simp] theorem State.gSet_glatch (s : State) (r n k : Nat) (v : Bool) : (s.gSet r n k v).glatch = s.glatch := rfl
@[simp] theorem State.gSet_pkts (s : State) (r n k : Nat) (v : Bool) : (s.gSet r n k v).pkts = s.pkts := rfl
@[simp] theorem State.gSet_outst (s : State) (r n k : Nat) (v : Bool) : (s.gSet r n k v).outst = s.outst := rfl
@[simp] theorem State.gSet_nextTag (s : State) (r n k : Nat) (v : Bool) : (s.gSet r n k v).nextTag = s.nextTag := rfl
@[simp] theorem State.gSet_flying (s : State) (r n k : Nat) (v : Bool) : (s.gSet r n k v).flying = s.flying := rfl
@[simp] theorem State.gSet_collector (s : State) (r n k : Nat) (v : Bool) : (s.gSet r n k v).collector = s.collector := rfl
@[simp] theorem State.gSet_incSeq (s : State) (r n k : Nat) (v : Bool) : (s.gSet r n k v).incSeq = s.incSeq := rfl
@[simp] theorem State.gSet_remap (s : State) (r n k : Nat) (v : Bool) : (s.gSet r n k v).remap = s.remap := rfl
@[simp] theorem State.gSet_c24 (s : State) (r n k : Nat) (v : Bool) : (s.gSet r n k v).c24 = s.c24 := rfl
@[simp] theorem State.gSet_rim (s : State) (r n k : Nat) (v : Bool) : (s.gSet r n k v).rim = s.rim := rfl
@[simp] theorem State.gSet_out (s : State) (r n k : Nat) (v : Bool) : (s.gSet r n k v).out = s.out := rfl
@[simp] theorem State.gSet_busData (s : State) (r n k : Nat) (v : Bool) : (s.gSet r n k v).busData = s.busData := rfl
@[simp] theorem State.gSet_free (s : State) (r n k : Nat) (v : Bool) : (s.gSet r n k v).free = s.free := rfl
@[simp] theorem State.gSet_pending (s : State) (r n k : Nat) (v : Bool) : (s.gSet r n k v).pending = s.pending := rfl
@[simp] theorem State.gSet_brick (s : State) (r n k : Nat) (v : Bool) (i j : Nat) : (s.gSet r n k v).brick i j = s.brick i j := by
  unfold State.brick; rw [State.gSet_bricks]
@[simp] theorem State.gSet_room (s : State) (r n k : Nat) (v : Bool) (i : Nat) : (s.gSet r n k v).room i = s.room i := by
  unfold State.room; rw [State.gSet_rooms]
@[simp] theorem State.gSet_suite (s : State) (r n k : Nat) (v : Bool) (i : Nat) : (s.gSet r n k v).suite i = s.suite i := by
  unfold State.suite; rw [State.gSet_suites]
@[simp] theorem State.gSet_isArmed (s : State) (r n k : Nat) (v : Bool) (q : PageRef) (i : Nat) : (s.gSet r n k v).isArmed q i = s.isArmed q i := by
  unfold State.isArmed; rw [State.gSet_armed]
@[simp] theorem State.gSet_suiteOf (s : State) (r n k : Nat) (v : Bool) (i : Nat) : (s.gSet r n k v).suiteOf i = s.suiteOf i := by
  unfold State.suiteOf; unfold State.suiteOfWing; rw [State.gSet_suites]

/-! ### `timeoutEvent` changes only `regs`, `injLat`, `out`, `flying`, `suites` -/

@[simp] theorem State.timeoutEvent_et (s : State) (r n : Nat) (w : Wait) (injected : Bool) : (s.timeoutEvent r n w injected).et = s.et := by
  unfold State.timeoutEvent; dsimp only; split <;> simp
@[simp] theorem State.timeoutEvent_etPhase (s : State) (r n : Nat) (w : Wait) (injected : Bool) : (s.timeoutEvent r n w injected).etPhase = s.etPhase := by
  unfold State.timeoutEvent; dsimp only; split <;> simp
@[simp] theorem State.timeoutEvent_armed (s : State) (r n : Nat) (w : Wait) (injected : Bool) : (s.timeoutEvent r n w injected).armed = s.armed := by
  unfold State.timeoutEvent; dsimp only; split <;> simp
@[simp] theorem State.timeoutEvent_mem (s : State) (r n : Nat) (w : Wait) (injected : Bool) : (s.timeoutEvent r n w injected).mem = s.mem := by
  unfold State.timeoutEvent; dsimp only; split <;> simp
@[simp] theorem State.timeoutEvent_bricks (s : State) (r n : Nat) (w : Wait) (injected : Bool) : (s.timeoutEvent r n w injected).bricks = s.bricks := by
  unfold State.timeoutEvent; dsimp only; split <;> simp
@[simp] theorem State.timeoutEvent_rooms (s : State) (r n : Nat) (w : Wait) (injected : Bool) : (s.timeoutEvent r n w injected).rooms = s.rooms := by
  unfold State.timeoutEvent; dsimp only; split <;> simp
@[simp] theorem State.timeoutEvent_glatch (s : State) (r n : Nat) (w : Wait) (injected : Bool) : (s.timeoutEvent r n w injected).glatch = s.glatch := by
  unfold State.timeoutEvent; dsimp only; split <;> simp
@[simp] theorem State.timeoutEvent_pkts (s : State) (r n : Nat) (w : Wait) (injected : Bool) : (s.timeoutEvent r n w injected).pkts = s.pkts := by
  unfold State.timeoutEvent; dsimp only; split <;> simp
@[simp] theorem State.timeoutEvent_outst (s : State) (r n : Nat) (w : Wait) (injected : Bool) : (s.timeoutEvent r n w injected).outst = s.outst := by
  unfold State.timeoutEvent; dsimp only; split <;> simp
@[simp] theorem State.timeoutEvent_nextTag (s : State) (r n : Nat) (w : Wait) (injected : Bool) : (s.timeoutEvent r n w injected).nextTag = s.nextTag := by
  unfold State.timeoutEvent; dsimp only; split <;> simp
@[simp] theorem State.timeoutEvent_collector (s : State) (r n : Nat) (w : Wait) (injected : Bool) : (s.timeoutEvent r n w injected).collector = s.collector := by
  unfold State.timeoutEvent; dsimp only; split <;> simp
@[simp] theorem State.timeoutEvent_incSeq (s : State) (r n : Nat) (w : Wait) (injected : Bool) : (s.timeoutEvent r n w injected).incSeq = s.incSeq := by
  unfold State.timeoutEvent; dsimp only; split <;> simp
@[simp] theorem State.timeoutEvent_remap (s : State) (r n : Nat) (w : Wait) (injected : Bool) : (s.timeoutEvent r n w injected).remap = s.remap := by
  unfold State.timeoutEvent; dsimp only; split <;> simp
@[simp] theorem State.timeoutEvent_c24 (s : State) (r n : Nat) (w : Wait) (injected : Bool) : (s.timeoutEvent r n w injected).c24 = s.c24 := by
  unfold State.timeoutEvent; dsimp only; split <;> simp
@[simp] theorem State.timeoutEvent_rim (s : State) (r n : Nat) (w : Wait) (injected : Bool) : (s.timeoutEvent r n w injected).rim = s.rim := by
  unfold State.timeoutEvent; dsimp only; split <;> simp
@[simp] theorem State.timeoutEvent_busData (s : State) (r n : Nat) (w : Wait) (injected : Bool) : (s.timeoutEvent r n w injected).busData = s.busData := by
  unfold State.timeoutEvent; dsimp only; split <;> simp
@[simp] theorem State.timeoutEvent_free (s : State) (r n : Nat) (w : Wait) (injected : Bool) : (s.timeoutEvent r n w injected).free = s.free := by
  unfold State.timeoutEvent; dsimp only; split <;> simp
@[simp] theorem State.timeoutEvent_pending (s : State) (r n : Nat) (w : Wait) (injected : Bool) : (s.timeoutEvent r n w injected).pending = s.pending := by
  unfold State.timeoutEvent; dsimp only; split <;> simp
@[simp] theorem State.timeoutEvent_brick (s : State) (r n : Nat) (w : Wait) (injected : Bool) (i j : Nat) : (s.timeoutEvent r n w injected).brick i j = s.brick i j := by
  unfold State.brick; rw [State.timeoutEvent_bricks]
@[simp] theorem State.timeoutEvent_room (s : State) (r n : Nat) (w : Wait) (injected : Bool) (i : Nat) : (s.timeoutEvent r n w injected).room i = s.room i := by
  unfold State.room; rw [State.timeoutEvent_rooms]
@[simp] theorem State.timeoutEvent_isArmed (s : State) (r n : Nat) (w : Wait) (injected : Bool) (q : PageRef) (i : Nat) : (s.timeoutEvent r n w injected).isArmed q i = s.isArmed q i := by
  unfold State.isArmed; rw [State.timeoutEvent_armed]

/-! ### `stallRelease` changes only `suites` -/

@[simp] theorem State.stallRelease_et (s : State) (k cause src : Nat) : (s.stallRelease k cause src).et = s.et := by
  unfold State.stallRelease; simp
@[simp] theorem State.stallRelease_etPhase (s : State) (k cause src : Nat) : (s.stallRelease k cause src).etPhase = s.etPhase := by
  unfold State.stallRelease; simp
@[simp] theorem State.stallRelease_regs (s : State) (k cause src : Nat) : (s.stallRelease k cause src).regs = s.regs := by
  unfold State.stallRelease; simp
@[simp] theorem State.stallRelease_armed (s : State) (k cause src : Nat) : (s.stallRelease k cause src).armed = s.armed := by
  unfold State.stallRelease; simp
@[simp] theorem State.stallRelease_injLat (s : State) (k cause src : Nat) : (s.stallRelease k cause src).injLat = s.injLat := by
  unfold State.stallRelease; simp
@[simp] theorem State.stallRelease_mem (s : State) (k cause src : Nat) : (s.stallRelease k cause src).mem = s.mem := by
  unfold State.stallRelease; simp
@[simp] theorem State.stallRelease_bricks (s : State) (k cause src : Nat) : (s.stallRelease k cause src).bricks = s.bricks := by
  unfold State.stallRelease; simp
@[simp] theorem State.stallRelease_rooms (s : State) (k cause src : Nat) : (s.stallRelease k cause src).rooms = s.rooms := by
  unfold State.stallRelease; simp
@[simp] theorem State.stallRelease_glatch (s : State) (k cause src : Nat) : (s.stallRelease k cause src).glatch = s.glatch := by
  unfold State.stallRelease; simp
@[simp] theorem State.stallRelease_pkts (s : State) (k cause src : Nat) : (s.stallRelease k cause src).pkts = s.pkts := by
  unfold State.stallRelease; simp
@[simp] theorem State.stallRelease_outst (s : State) (k cause src : Nat) : (s.stallRelease k cause src).outst = s.outst := by
  unfold State.stallRelease; simp
@[simp] theorem State.stallRelease_nextTag (s : State) (k cause src : Nat) : (s.stallRelease k cause src).nextTag = s.nextTag := by
  unfold State.stallRelease; simp
@[simp] theorem State.stallRelease_flying (s : State) (k cause src : Nat) : (s.stallRelease k cause src).flying = s.flying := by
  unfold State.stallRelease; simp
@[simp] theorem State.stallRelease_collector (s : State) (k cause src : Nat) : (s.stallRelease k cause src).collector = s.collector := by
  unfold State.stallRelease; simp
@[simp] theorem State.stallRelease_incSeq (s : State) (k cause src : Nat) : (s.stallRelease k cause src).incSeq = s.incSeq := by
  unfold State.stallRelease; simp
@[simp] theorem State.stallRelease_remap (s : State) (k cause src : Nat) : (s.stallRelease k cause src).remap = s.remap := by
  unfold State.stallRelease; simp
@[simp] theorem State.stallRelease_c24 (s : State) (k cause src : Nat) : (s.stallRelease k cause src).c24 = s.c24 := by
  unfold State.stallRelease; simp
@[simp] theorem State.stallRelease_rim (s : State) (k cause src : Nat) : (s.stallRelease k cause src).rim = s.rim := by
  unfold State.stallRelease; simp
@[simp] theorem State.stallRelease_out (s : State) (k cause src : Nat) : (s.stallRelease k cause src).out = s.out := by
  unfold State.stallRelease; simp
@[simp] theorem State.stallRelease_busData (s : State) (k cause src : Nat) : (s.stallRelease k cause src).busData = s.busData := by
  unfold State.stallRelease; simp
@[simp] theorem State.stallRelease_free (s : State) (k cause src : Nat) : (s.stallRelease k cause src).free = s.free := by
  unfold State.stallRelease; simp
@[simp] theorem State.stallRelease_pending (s : State) (k cause src : Nat) : (s.stallRelease k cause src).pending = s.pending := by
  unfold State.stallRelease; simp
@[simp] theorem State.stallRelease_rd (s : State) (k cause src : Nat) (q : PageRef) (o : Nat) : (s.stallRelease k cause src).rd q o = s.rd q o := by
  unfold State.rd; rw [State.stallRelease_regs]
@[simp] theorem State.stallRelease_brick (s : State) (k cause src : Nat) (i j : Nat) : (s.stallRelease k cause src).brick i j = s.brick i j := by
  unfold State.brick; rw [State.stallRelease_bricks]
@[simp] theorem State.stallRelease_room (s : State) (k cause src : Nat) (i : Nat) : (s.stallRelease k cause src).room i = s.room i := by
  unfold State.room; rw [State.stallRelease_rooms]
@[simp] theorem State.stallRelease_isArmed (s : State) (k cause src : Nat) (q : PageRef) (i : Nat) : (s.stallRelease k cause src).isArmed q i = s.isArmed q i := by
  unfold State.isArmed; rw [State.stallRelease_armed]

/-! ### `stallReq` changes only `suites` -/

@[simp] theorem State.stallReq_et (s : State) (k cause src len : Nat) : (s.stallReq k cause src len).et = s.et := by
  unfold State.stallReq; simp
@[simp] theorem State.stallReq_etPhase (s : State) (k cause src len : Nat) : (s.stallReq k cause src len).etPhase = s.etPhase := by
  unfold State.stallReq; simp
@[simp] theorem State.stallReq_regs (s : State) (k cause src len : Nat) : (s.stallReq k cause src len).regs = s.regs := by
  unfold State.stallReq; simp
@[simp] theorem State.stallReq_armed (s : State) (k cause src len : Nat) : (s.stallReq k cause src len).armed = s.armed := by
  unfold State.stallReq; simp
@[simp] theorem State.stallReq_injLat (s : State) (k cause src len : Nat) : (s.stallReq k cause src len).injLat = s.injLat := by
  unfold State.stallReq; simp
@[simp] theorem State.stallReq_mem (s : State) (k cause src len : Nat) : (s.stallReq k cause src len).mem = s.mem := by
  unfold State.stallReq; simp
@[simp] theorem State.stallReq_bricks (s : State) (k cause src len : Nat) : (s.stallReq k cause src len).bricks = s.bricks := by
  unfold State.stallReq; simp
@[simp] theorem State.stallReq_rooms (s : State) (k cause src len : Nat) : (s.stallReq k cause src len).rooms = s.rooms := by
  unfold State.stallReq; simp
@[simp] theorem State.stallReq_glatch (s : State) (k cause src len : Nat) : (s.stallReq k cause src len).glatch = s.glatch := by
  unfold State.stallReq; simp
@[simp] theorem State.stallReq_pkts (s : State) (k cause src len : Nat) : (s.stallReq k cause src len).pkts = s.pkts := by
  unfold State.stallReq; simp
@[simp] theorem State.stallReq_outst (s : State) (k cause src len : Nat) : (s.stallReq k cause src len).outst = s.outst := by
  unfold State.stallReq; simp
@[simp] theorem State.stallReq_nextTag (s : State) (k cause src len : Nat) : (s.stallReq k cause src len).nextTag = s.nextTag := by
  unfold State.stallReq; simp
@[simp] theorem State.stallReq_flying (s : State) (k cause src len : Nat) : (s.stallReq k cause src len).flying = s.flying := by
  unfold State.stallReq; simp
@[simp] theorem State.stallReq_collector (s : State) (k cause src len : Nat) : (s.stallReq k cause src len).collector = s.collector := by
  unfold State.stallReq; simp
@[simp] theorem State.stallReq_incSeq (s : State) (k cause src len : Nat) : (s.stallReq k cause src len).incSeq = s.incSeq := by
  unfold State.stallReq; simp
@[simp] theorem State.stallReq_remap (s : State) (k cause src len : Nat) : (s.stallReq k cause src len).remap = s.remap := by
  unfold State.stallReq; simp
@[simp] theorem State.stallReq_c24 (s : State) (k cause src len : Nat) : (s.stallReq k cause src len).c24 = s.c24 := by
  unfold State.stallReq; simp
@[simp] theorem State.stallReq_rim (s : State) (k cause src len : Nat) : (s.stallReq k cause src len).rim = s.rim := by
  unfold State.stallReq; simp
@[simp] theorem State.stallReq_out (s : State) (k cause src len : Nat) : (s.stallReq k cause src len).out = s.out := by
  unfold State.stallReq; simp
@[simp] theorem State.stallReq_busData (s : State) (k cause src len : Nat) : (s.stallReq k cause src len).busData = s.busData := by
  unfold State.stallReq; simp
@[simp] theorem State.stallReq_free (s : State) (k cause src len : Nat) : (s.stallReq k cause src len).free = s.free := by
  unfold State.stallReq; simp
@[simp] theorem State.stallReq_pending (s : State) (k cause src len : Nat) : (s.stallReq k cause src len).pending = s.pending := by
  unfold State.stallReq; simp
@[simp] theorem State.stallReq_rd (s : State) (k cause src len : Nat) (q : PageRef) (o : Nat) : (s.stallReq k cause src len).rd q o = s.rd q o := by
  unfold State.rd; rw [State.stallReq_regs]
@[simp] theorem State.stallReq_brick (s : State) (k cause src len : Nat) (i j : Nat) : (s.stallReq k cause src len).brick i j = s.brick i j := by
  unfold State.brick; rw [State.stallReq_bricks]
@[simp] theorem State.stallReq_room (s : State) (k cause src len : Nat) (i : Nat) : (s.stallReq k cause src len).room i = s.room i := by
  unfold State.room; rw [State.stallReq_rooms]
@[simp] theorem State.stallReq_isArmed (s : State) (k cause src len : Nat) (q : PageRef) (i : Nat) : (s.stallReq k cause src len).isArmed q i = s.isArmed q i := by
  unfold State.isArmed; rw [State.stallReq_armed]

/-! ### `csShow` changes only `regs` -/

@[simp] theorem State.csShow_et (s : State) (k : Nat) : (s.csShow k).et = s.et := by
  unfold State.csShow; split; (rfl); dsimp only; split; (rfl); split <;> rfl
@[simp] theorem State.csShow_etPhase (s : State) (k : Nat) : (s.csShow k).etPhase = s.etPhase := by
  unfold State.csShow; split; (rfl); dsimp only; split; (rfl); split <;> rfl
@[simp] theorem State.csShow_armed (s : State) (k : Nat) : (s.csShow k).armed = s.armed := by
  unfold State.csShow; split; (rfl); dsimp only; split; (rfl); split <;> rfl
@[simp] theorem State.csShow_injLat (s : State) (k : Nat) : (s.csShow k).injLat = s.injLat := by
  unfold State.csShow; split; (rfl); dsimp only; split; (rfl); split <;> rfl
@[simp] theorem State.csShow_mem (s : State) (k : Nat) : (s.csShow k).mem = s.mem := by
  unfold State.csShow; split; (rfl); dsimp only; split; (rfl); split <;> rfl
@[simp] theorem State.csShow_bricks (s : State) (k : Nat) : (s.csShow k).bricks = s.bricks := by
  unfold State.csShow; split; (rfl); dsimp only; split; (rfl); split <;> rfl
@[simp] theorem State.csShow_rooms (s : State) (k : Nat) : (s.csShow k).rooms = s.rooms := by
  unfold State.csShow; split; (rfl); dsimp only; split; (rfl); split <;> rfl
@[simp] theorem State.csShow_suites (s : State) (k : Nat) : (s.csShow k).suites = s.suites := by
  unfold State.csShow; split; (rfl); dsimp only; split; (rfl); split <;> rfl
@[simp] theorem State.csShow_glatch (s : State) (k : Nat) : (s.csShow k).glatch = s.glatch := by
  unfold State.csShow; split; (rfl); dsimp only; split; (rfl); split <;> rfl
@[simp] theorem State.csShow_pkts (s : State) (k : Nat) : (s.csShow k).pkts = s.pkts := by
  unfold State.csShow; split; (rfl); dsimp only; split; (rfl); split <;> rfl
@[simp] theorem State.csShow_outst (s : State) (k : Nat) : (s.csShow k).outst = s.outst := by
  unfold State.csShow; split; (rfl); dsimp only; split; (rfl); split <;> rfl
@[simp] theorem State.csShow_nextTag (s : State) (k : Nat) : (s.csShow k).nextTag = s.nextTag := by
  unfold State.csShow; split; (rfl); dsimp only; split; (rfl); split <;> rfl
@[simp] theorem State.csShow_flying (s : State) (k : Nat) : (s.csShow k).flying = s.flying := by
  unfold State.csShow; split; (rfl); dsimp only; split; (rfl); split <;> rfl
@[simp] theorem State.csShow_collector (s : State) (k : Nat) : (s.csShow k).collector = s.collector := by
  unfold State.csShow; split; (rfl); dsimp only; split; (rfl); split <;> rfl
@[simp] theorem State.csShow_incSeq (s : State) (k : Nat) : (s.csShow k).incSeq = s.incSeq := by
  unfold State.csShow; split; (rfl); dsimp only; split; (rfl); split <;> rfl
@[simp] theorem State.csShow_remap (s : State) (k : Nat) : (s.csShow k).remap = s.remap := by
  unfold State.csShow; split; (rfl); dsimp only; split; (rfl); split <;> rfl
@[simp] theorem State.csShow_c24 (s : State) (k : Nat) : (s.csShow k).c24 = s.c24 := by
  unfold State.csShow; split; (rfl); dsimp only; split; (rfl); split <;> rfl
@[simp] theorem State.csShow_rim (s : State) (k : Nat) : (s.csShow k).rim = s.rim := by
  unfold State.csShow; split; (rfl); dsimp only; split; (rfl); split <;> rfl
@[simp] theorem State.csShow_out (s : State) (k : Nat) : (s.csShow k).out = s.out := by
  unfold State.csShow; split; (rfl); dsimp only; split; (rfl); split <;> rfl
@[simp] theorem State.csShow_busData (s : State) (k : Nat) : (s.csShow k).busData = s.busData := by
  unfold State.csShow; split; (rfl); dsimp only; split; (rfl); split <;> rfl
@[simp] theorem State.csShow_free (s : State) (k : Nat) : (s.csShow k).free = s.free := by
  unfold State.csShow; split; (rfl); dsimp only; split; (rfl); split <;> rfl
@[simp] theorem State.csShow_pending (s : State) (k : Nat) : (s.csShow k).pending = s.pending := by
  unfold State.csShow; split; (rfl); dsimp only; split; (rfl); split <;> rfl
@[simp] theorem State.csShow_brick (s : State) (k : Nat) (i j : Nat) : (s.csShow k).brick i j = s.brick i j := by
  unfold State.brick; rw [State.csShow_bricks]
@[simp] theorem State.csShow_room (s : State) (k : Nat) (i : Nat) : (s.csShow k).room i = s.room i := by
  unfold State.room; rw [State.csShow_rooms]
@[simp] theorem State.csShow_suite (s : State) (k : Nat) (i : Nat) : (s.csShow k).suite i = s.suite i := by
  unfold State.suite; rw [State.csShow_suites]
@[simp] theorem State.csShow_isArmed (s : State) (k : Nat) (q : PageRef) (i : Nat) : (s.csShow k).isArmed q i = s.isArmed q i := by
  unfold State.isArmed; rw [State.csShow_armed]
@[simp] theorem State.csShow_suiteOf (s : State) (k : Nat) (i : Nat) : (s.csShow k).suiteOf i = s.suiteOf i := by
  unfold State.suiteOf; unfold State.suiteOfWing; rw [State.csShow_suites]

end Sys2Proof.Machine
end

