-- ==== Sys2Proof/Laws/Stream.lean ====
section
/-!
SUPPORT. What the command stream's shared operations do.
-/

namespace Sys2Proof.Machine

/-- `csShow` writes CS_STATUS and CS_ENTRY of the lead Room and no other register. -/
theorem State.csShow_rd (s : State) {i : Nat} {u : Suite} (h : s.suite i = some u) {q : PageRef} {o : Nat}
    (h1 : regKey q o ≠ regKey u.csPage 0x0C0) (h2 : regKey q o ≠ regKey u.csPage 0x0C8) : (s.csShow i).rd q o = s.rd q o := by
  unfold State.csShow
  simp only [h]
  split
  · rfl
  · split
    · rw [State.rd_wr_key _ _ h2]; exact State.rd_wr_key _ _ h1
    · rw [State.rd_wr_key _ _ h2]; exact (State.rd_wr_key _ _ h1).trans (State.rd_wr_key _ _ h1)

/-- `csShow` keeps CODE of CS_STATUS. -/
theorem State.csShow_code (s : State) {i : Nat} {u : Suite} (h : s.suite i = some u) {a b : Nat} (ha : a < 64) (hb : 17 < b) :
    (s.csShow i).rdF u.csPage 0x0C0 a b = s.rdF u.csPage 0x0C0 a b := by
  unfold State.csShow
  simp only [h]
  split
  · rfl
  · split
    · unfold State.rdF State.wrF
      rw [State.rd_wr_off _ _ (by decide), State.rd_wr_self, fld_setFld_ne _ ha (by omega)]
    · unfold State.rdF State.wrF
      rw [State.rd_wr_off _ _ (by decide), State.rd_wr_self, fld_setFld_ne _ ha (by omega), State.rd_wr_self, fld_setFld_ne _ ha (by omega)]

theorem State.csPop_popped (s : State) {i : Nat} {u : Suite} {e : CsEntry} {l : List CsEntry} (h : s.suite i = some u) (he : u.entries = e :: l)
    (hh : e.hearth = none) : Popped s (s.csPop i) i u l := by
  have h1 : s.modSuite i (fun v => { v with entries := l }) = s.setSuite i { u with entries := l } := s.modSuite_of _ h
  have hp : s.csPop i
      = ((s.setSuite i { u with entries := l }).wr u.csPage 0x0B0
          (BitVec.ofNat 64 ((s.rdF u.csPage 0x0B0 15 0 + 1) % 2 ^ s.rdF u.csPage 0x0A0 4 0))).csShow i := by
    unfold State.csPop
    simp only [h, he, hh]
    rw [h1]
    rfl
  have hu : ∀ v, ((s.setSuite i { u with entries := l }).wr u.csPage 0x0B0 v).suite i = some { u with entries := l } := by intro v; simp
  rw [hp]
  refine ⟨(State.csShow_suite ..).trans (hu _), fun j hj => by simp [State.suite_setSuite_ne _ _ hj], ?_, fun q o a b c => ?_, ?_⟩
  · rw [State.csShow_rd _ (hu _) (q := u.csPage) (o := 0x0B0) (regKey_off (by decide)) (regKey_off (by decide))]; simp
  · rw [State.csShow_rd _ (hu _) b c, State.rd_wr_key _ _ a]; simp
  · generalize hx : (s.setSuite i { u with entries := l }).wr u.csPage 0x0B0 _ = x
    have h0 : { x with suites := s.suites, regs := s.regs } = s := by rw [← hx]; rfl
    rw [← h0]
    simp only [State.mk.injEq]
    simp

end Sys2Proof.Machine
end

