-- ==== Sys2Proof/Laws/Loads.lean ====
section
/-!
SUPPORT. The checks of a load do not read ARR_STATE, which marks the slots a load fills.
-/

namespace Sys2Proof.Machine

/-- A word from the parent changes no Suite, Brick, Room or byte: only the FLU page of the Room, its injections, the records and the suspects
(R307, R315). -/
theorem State.downWord_only (s : State) (i r : Nat) :
    (s.downWord i r).suites = s.suites ∧ (s.downWord i r).bricks = s.bricks ∧ (s.downWord i r).rooms = s.rooms ∧ (s.downWord i r).mem = s.mem := by
  unfold State.downWord
  dsimp only
  split
  · simp [State.suspect, State.disarm]
  · split <;> simp [State.disarm]

/-- A message to a Suite changes no Suite, Brick, Room or byte by its words alone. -/
theorem State.downWords_only (s : State) (i : Nat) :
    (s.downWords i).suites = s.suites ∧ (s.downWords i).bricks = s.bricks ∧ (s.downWords i).rooms = s.rooms ∧ (s.downWords i).mem = s.mem := by
  unfold State.downWords
  split
  · refine foldl_keeps (fun t : State => t.suites = s.suites ∧ t.bricks = s.bricks ∧ t.rooms = s.rooms ∧ t.mem = s.mem) _ (fun t r _ h => ?_) ⟨rfl, rfl, rfl, rfl⟩
    obtain ⟨h1, h2, h3, h4⟩ := t.downWord_only i r
    exact ⟨h1.trans h.1, h2.trans h.2.1, h3.trans h.2.2.1, h4.trans h.2.2.2⟩
  · exact ⟨rfl, rfl, rfl, rfl⟩

@[simp] theorem State.downWords_suite (s : State) (i j : Nat) : (s.downWords i).suite j = s.suite j := by
  unfold State.suite; rw [(s.downWords_only i).1]

/-- Where no Flue injection is armed a message changes nothing by its words. -/
theorem State.downWords_id (s : State) (i : Nat)
    (h : ∀ u, s.suite i = some u → ∀ r, r ∈ u.rooms → s.isArmed (rp .flu r) 0 = false ∧ s.isArmed (rp .flu r) 1 = false) : s.downWords i = s := by
  unfold State.downWords
  split
  · next u hu =>
    refine foldl_keeps (fun t : State => t = s) _ (fun t r hr e => ?_) rfl
    subst e
    unfold State.downWord
    simp [h u hu r hr]
  · rfl

/-- A codeword without an upset bit is clean. -/
@[simp] theorem shelfVerdict_zero : shelfVerdict 0 = (0, false, 0) := rfl

/-- So is half a page, and a page. -/
@[simp] theorem pageVerdict_zero (t : Nat) : pageVerdict t 0 = (0, false, 0) := rfl

@[simp] theorem State.pageOut_zero (s : State) (stack : Nat) : s.pageOut stack 0 = ((0, false, 0), (0, false, 0)) := by
  unfold State.pageOut; rw [Nat.zero_mod, Nat.zero_div, Nat.zero_mod, pageVerdict_zero]

/-- A line of a clean array reads without an error. -/
theorem ArrayClean.line {s : State} {room : Nat} (h : ArrayClean s room) (line who : Nat) : s.lineCheck room line who 0 false = (s, true) := by
  unfold State.lineCheck
  simp [h.bad, h.back, h.armed]

/-- So do its lines together. -/
theorem ArrayClean.lines {s : State} {room : Nat} (h : ArrayClean s room) (who : Nat) (ls : List Nat) : s.linesCheck room who ls = (s, true) := by
  induction ls with
  | nil => rfl
  | cons l ls ih => unfold State.linesCheck; rw [h.line]; exact ih

theorem State.ldBytes_of (s t : State) (h : t.mem = s.mem) (a n : Nat) : t.ldBytes a n = s.ldBytes a n := by
  induction n generalizing a with
  | zero => rfl
  | succ n ih => simp only [State.ldBytes, ih]; unfold State.ldByte; rw [h]

theorem State.ldWord_of (s t : State) (h : t.mem = s.mem) (a : Nat) : t.ldWord a = s.ldWord a := by
  unfold State.ldWord; rw [s.ldBytes_of t h]

theorem State.ldWords_of (s t : State) (h : t.mem = s.mem) (a n : Nat) : t.ldWords a n = s.ldWords a n := by
  induction n generalizing a with
  | zero => rfl
  | succ n ih => simp only [State.ldWords, ih, s.ldWord_of t h]

/-- What a load's checks read of a state: two states that agree on it are checked alike. -/
structure LoadView (s t : State) (room : Nat) : Prop where
  mem : t.mem = s.mem
  bricks : t.bricks = s.bricks
  suites : t.suites = s.suites
  rim : t.rim = s.rim
  remap : t.remap = s.remap
  img : ∀ r, r < 16384 → t.rd (rp .arr r) 0x0B0 = s.rd (rp .arr r) 0x0B0
  brk : ∀ r, r < 16384 → t.rd (rp .brk r) 0x080 = s.rd (rp .brk r) 0x080
  pwr : ∀ r, r < 16384 → t.rd (rp .pwr r) 0x080 = s.rd (rp .pwr r) 0x080
  fl : t.rd (gp .flug) 0x080 = s.rd (gp .flug) 0x080
  bound : room < 16384

variable {s t : State} {room : Nat} (h : LoadView s t room)
include h

theorem LoadView.recNum (o n : Nat) : t.recNum room o n = s.recNum room o n := by
  unfold State.recNum State.imgBase; rw [h.img _ h.bound, s.ldBytes_of t h.mem]

theorem LoadView.recWord (o : Nat) : t.recWord room o = s.recWord room o := by
  unfold State.recWord State.imgBase; rw [h.img _ h.bound, s.ldWord_of t h.mem]

theorem LoadView.recSched : t.recSched room = s.recSched room := by
  unfold State.recSched; simp only [h.recNum, h.recWord]

theorem LoadView.recHall : t.recHall room = s.recHall room := by
  unfold State.recHall; simp only [h.recNum, h.recWord]

theorem LoadView.recProf : t.recProf room = s.recProf room := by
  unfold State.recProf; simp only [h.recNum, h.recWord]

theorem LoadView.slotWords (k b : Nat) : t.slotWords room k b = s.slotWords room k b := by
  unfold State.slotWords State.slotOff State.imgBase; rw [h.img _ h.bound, s.ldWords_of t h.mem]; simp only [h.recNum]

theorem LoadView.suiteOf (r : Nat) : t.suiteOf r = s.suiteOf r := by
  unfold State.suiteOf State.suiteOfWing; rw [h.suites]

theorem LoadView.link (b d : Nat) : t.link room b d = s.link room b d := by
  unfold State.link State.hopExtra State.rdF; simp only [h.suiteOf, h.brk _ h.bound]

theorem LoadView.slotOk (k : Nat) (st : Bool) : t.slotOk room k st = s.slotOk room k st := by
  unfold State.slotOk State.laneSetOk; simp only [h.slotWords, h.link]

theorem LoadView.fmin (u : Suite) : t.fmin u = s.fmin u := by
  have : ∀ r, t.fmax r = s.fmax r := fun r => by unfold State.fmax State.srvRd State.physOf; rw [h.rim, h.remap]
  unfold State.fmin; rw [show t.fmax = s.fmax from funext this]

theorem LoadView.brick (r b : Nat) : t.brick r b = s.brick r b := by unfold State.brick; rw [h.bricks]

/-- The causes found are the same. -/
theorem LoadView.causes (u : Suite) (l : LoadSt) (hu : ∀ r, r ∈ u.rooms → r < 16384) : t.loadCauses u l room = s.loadCauses u l room := by
  have hon : (u.rooms.any fun r => !t.roomOn r) = (u.rooms.any fun r => !s.roomOn r) := by
    rw [Bool.eq_iff_iff]
    simp only [List.any_eq_true]
    have : ∀ r ∈ u.rooms, t.roomOn r = s.roomOn r := fun r hr => by unfold State.roomOn State.rdF; rw [h.pwr _ (hu r hr)]
    exact ⟨fun ⟨r, hr, e⟩ => ⟨r, hr, by rw [← this r hr]; exact e⟩, fun ⟨r, hr, e⟩ => ⟨r, hr, by rw [this r hr]; exact e⟩⟩
  have hfl : t.fl = s.fl := by unfold State.fl State.rdF; rw [h.fl]
  unfold State.loadCauses
  simp only [h.recNum, h.recSched, h.recHall, h.recProf, h.slotOk, h.fmin, h.brick, hfl, hon]
  unfold State.rdF
  rw [h.brk _ h.bound]

theorem LoadView.blocker (tags : List Nat) (now : Nat) : t.blocker room tags now = s.blocker room tags now := by
  unfold State.blocker; simp only [h.brick]

end Sys2Proof.Machine
end

