-- ==== Sys2Proof/Laws/Memory.lean ====
section
/-!
SUPPORT. Laws of engine memory: what a read gives after a write, and that every operation keeps the canonical form.
-/

namespace Sys2Proof.Machine

/-! ### The canonical form -/

theorem Memory.wf_nil : Memory.wf [] = true := rfl

theorem Memory.wf_set {m : List Host.Cell} (a : Nat) (v : Byte) (h : Memory.wf m = true) : Memory.wf (smSet 0 m a v) = true :=
  smSet_wf (fun _ => 0) a v h

theorem Memory.wf_drop {m : List Host.Cell} (p : Nat → Bool) (h : Memory.wf m = true) : Memory.wf (smDrop p m) = true :=
  smDrop_wf _ p h

theorem Memory.wf_stBytesM {m : List Host.Cell} (a : Nat) (vs : List Byte) (h : Memory.wf m = true) : Memory.wf (stBytesM m a vs) = true := by
  induction vs generalizing m a with
  | nil => exact h
  | cons v vs ih => exact ih (a + 1) (Memory.wf_set a v h)

theorem State.stByte_wf (s : State) (a : Nat) (v : Byte) (h : Memory.wf s.mem = true) : Memory.wf (s.stByte a v).mem = true :=
  Memory.wf_set a v h

theorem State.stBytes_wf (s : State) (a : Nat) (vs : List Byte) (h : Memory.wf s.mem = true) : Memory.wf (s.stBytes a vs).mem = true :=
  Memory.wf_stBytesM a vs h

theorem State.stWord_wf (s : State) (a : Nat) (v : W64) (h : Memory.wf s.mem = true) : Memory.wf (s.stWord a v).mem = true :=
  s.stBytes_wf a _ h

theorem State.stWords_wf (s : State) (a : Nat) (vs : List W64) (h : Memory.wf s.mem = true) : Memory.wf (s.stWords a vs).mem = true := by
  induction vs generalizing s a with
  | nil => exact h
  | cons v vs ih => exact ih (s.stWord a v) (a + 8) (s.stWord_wf a v h)

theorem State.reset_mem_wf : Memory.wf State.reset.mem = true := rfl

/-! ### Registers keep theirs -/

theorem keyReset_of {k : Nat} {p : Page} (h : allPages[k / 2 ^ 32]? = some p) : keyReset k = regReset p (k % 4096) := by
  unfold keyReset
  split
  · next q hq => rw [hq] at h; cases h; rfl
  · next hq => rw [hq] at h; cases h

theorem regReset_key (p : PageRef) {o : Nat} (hp : p.inst < 2 ^ 20) (ho : o < 4096) : keyReset (regKey p o) = regReset p.page o := by
  have h1 : regKey p o / 2 ^ 32 = p.page.idx := by unfold regKey; omega
  have h2 : regKey p o % 4096 = o := by unfold regKey; omega
  have h : allPages[regKey p o / 2 ^ 32]? = some p.page := by rw [h1, Page.idx_get]
  rw [keyReset_of h, h2]

/-- A register write keeps the canonical form of the register file. -/
theorem State.wr_wf (s : State) {p : PageRef} {o : Nat} (v : W64) (hp : p.inst < 2 ^ 20) (ho : o < 4096) (h : Registers.wf s.regs = true) :
    Registers.wf (s.wr p o v).regs = true := by
  unfold State.wr Registers.wf at *
  rw [← regReset_key p hp ho]
  exact smSet_wf keyReset _ v h

/-! ### Reads -/

theorem smGet_stBytesM_ne (m : List Host.Cell) {a b : Nat} (vs : List Byte) (h : b < a ∨ a + vs.length ≤ b) :
    smGet 0 (stBytesM m a vs) b = smGet 0 m b := by
  induction vs generalizing m a with
  | nil => rfl
  | cons v vs ih =>
    simp only [List.length_cons] at h
    have hb : b ≠ a := by omega
    rw [stBytesM, ih _ (by omega), smGet_smSet_ne _ _ _ _ hb]

theorem smGet_stBytesM_at (m : List Host.Cell) (a : Nat) (vs : List Byte) {i : Nat} (h : i < vs.length) :
    smGet 0 (stBytesM m a vs) (a + i) = vs.getD i 0 := by
  induction vs generalizing m a i with
  | nil => simp at h
  | cons v vs ih =>
    rw [stBytesM]
    cases i with
    | zero =>
      rw [smGet_stBytesM_ne _ _ (.inl (by omega))]
      simp
    | succ i =>
      have := ih (smSet 0 m a v) (a + 1) (i := i) (by simpa using h)
      rw [show a + (i + 1) = a + 1 + i by omega, this]
      simp

/-- A byte inside a write. -/
theorem State.ldByte_stBytes (s : State) (a : Nat) (vs : List Byte) {i : Nat} (h : i < vs.length) : (s.stBytes a vs).ldByte (a + i) = vs.getD i 0 :=
  smGet_stBytesM_at s.mem a vs h

/-- A byte outside a write. -/
theorem State.ldByte_stBytes_ne (s : State) {a b : Nat} (vs : List Byte) (h : b < a ∨ a + vs.length ≤ b) : (s.stBytes a vs).ldByte b = s.ldByte b :=
  smGet_stBytesM_ne s.mem vs h

theorem leTo_length (n v : Nat) : (leTo n v).length = n := by
  induction n generalizing v with
  | zero => rfl
  | succ n ih => simp [leTo, ih]

theorem leOf_leTo (n v : Nat) : leOf (leTo n v) = v % 256 ^ n := by
  induction n generalizing v with
  | zero => simp [leTo, leOf, Nat.mod_one]
  | succ n ih =>
    simp only [leTo, leOf, ih, BitVec.toNat_ofNat]
    rw [show 256 ^ (n + 1) = 256 * 256 ^ n by rw [Nat.pow_succ, Nat.mul_comm], Nat.mod_mul]

theorem State.ldBytes_stBytes (s : State) (a : Nat) (vs : List Byte) : (s.stBytes a vs).ldBytes a vs.length = vs := by
  have key : ∀ (t : State) (k : Nat) (ws : List Byte), (∀ i, i < ws.length → t.ldByte (k + i) = ws.getD i 0) → t.ldBytes k ws.length = ws := by
    intro t k ws
    induction ws generalizing k with
    | nil => intro _; rfl
    | cons w ws ih =>
      intro h
      simp only [List.length_cons, State.ldBytes]
      congr 1
      · simpa using h 0 (by simp)
      · refine ih (k + 1) fun i hi => ?_
        have := h (i + 1) (by simpa using hi)
        rw [show k + 1 + i = k + (i + 1) by omega, this]
        simp
  exact key _ a vs fun i hi => s.ldByte_stBytes a vs hi

/-- A word read where it was written. -/
@[simp] theorem State.ldWord_stWord (s : State) (a : Nat) (v : W64) : (s.stWord a v).ldWord a = v := by
  unfold State.ldWord State.stWord
  have h := s.ldBytes_stBytes a (leTo 8 v.toNat)
  rw [leTo_length] at h
  rw [h, leOf_leTo]
  have : v.toNat % 256 ^ 8 = v.toNat := Nat.mod_eq_of_lt (by have := v.isLt; omega)
  rw [this]
  simp

theorem State.ldByte_stWord_ne (s : State) {a b : Nat} (v : W64) (h : b < a ∨ a + 8 ≤ b) : (s.stWord a v).ldByte b = s.ldByte b :=
  s.ldByte_stBytes_ne _ (by rwa [leTo_length])

end Sys2Proof.Machine
end

