-- ==== Sys2Proof/Laws/Hearth.lean ====
section
/-!
SUPPORT. What an instruction of a Hearth does when it retires and when it traps, and what the commands of a Hearth find (R235 to R241).
-/

namespace Sys2Proof.Machine

theorem dmpCount_rest (s : State) (room c n : Nat) : { s.dmpCount room c n with rooms := s.rooms } = s := rfl

/-- Retiring an instruction does exactly what `Retired` says. -/
theorem rvRetire_retired (f : State) (room rd : Nat) (v pc : W64) : Retired f (f.rvRetire room rd v pc) room rd v pc := by
  have hh : (f.rvRetire room rd v pc).hearth room = { f.hearth room with x := if rd % 32 = 0 then (f.hearth room).x else smSet 0 (f.hearth room).x (rd % 32) v, pc := pc, block := .no, instret := (f.hearth room).instret + 1 } := by
    unfold State.rvRetire State.dmpCount State.modHearth State.hearth
    rw [State.room_modRoom, State.room_modRoom]
  refine ⟨?_, fun r hr => ?_, by rw [hh], by rw [hh], by rw [hh], fun r hr => ?_, rfl⟩
  · rw [hh]; unfold Hearth.reg; dsimp only
    split
    · rfl
    · exact smGet_smSet_self _ _ _ _
  · rw [hh]; unfold Hearth.reg; dsimp only
    by_cases h0 : rd % 32 = 0
    · rw [if_pos h0]
    · rw [if_neg h0]
      by_cases h1 : r % 32 = 0
      · rw [if_pos h1, if_pos h1]
      · rw [if_neg h1, if_neg h1]; exact smGet_smSet_ne _ _ _ _ hr
  · unfold State.rvRetire State.dmpCount State.modHearth
    rw [State.room_modRoom_ne _ _ hr, State.room_modRoom_ne _ _ hr]

/-- The command about an instruction that is at the pc performs it. -/
theorem run_at {s f : State} {room : Nat} {op : Rv} {bits len : Nat} (ha : HearthAt s f room op bits len) (sel : Rv → Bool) (k : State → Rv → Nat → Nat → State)
    (hs : sel op = true) : s.hearthRun room false sel k = k f op bits len := by
  have ho : ¬ (op.releases bits = true ∧ f.hearthWrites room = true) := by
    rintro ⟨h1, h2⟩; rcases ha.order with h | h
    · rw [h] at h1; cases h1
    · rw [h] at h2; cases h2
  unfold State.hearthRun
  simp only [ha.can, ha.fetch, ha.quiet, hs, ho, Bool.not_true, Bool.false_eq_true, if_false, Bool.false_and, or_self]

/-- The command about another kind of instruction does nothing. -/
theorem run_skip {s f : State} {room : Nat} {op : Rv} {bits len : Nat} (ha : HearthAt s f room op bits len) (sel : Rv → Bool) (k : State → Rv → Nat → Nat → State)
    (hs : sel op = false) (p : Bool) : s.hearthRun room p sel k = s := by
  unfold State.hearthRun
  simp only [ha.can, ha.fetch, hs, Bool.not_true, Bool.false_eq_true, if_false, Bool.not_false, if_true, true_or]

theorem run_not {s : State} {room : Nat} (h : s.hearthCan room = false) (p : Bool) (sel : Rv → Bool) (k : State → Rv → Nat → Nat → State) : s.hearthRun room p sel k = s := by
  unfold State.hearthRun; rw [h]; rfl

theorem hearth_modHearth (s : State) (room : Nat) (g : Hearth → Hearth) : (s.modHearth room g).hearth room = g (s.hearth room) := by
  unfold State.modHearth State.hearth; rw [State.room_modRoom]

theorem run_atP {s f : State} {room : Nat} {op : Rv} {bits len : Nat} (ha : HearthAt s f room op bits len) (sel : Rv → Bool) (k : State → Rv → Nat → Nat → State)
    (hs : sel op = true) : s.hearthRun room true sel k = f.hearthParity room false := by
  have ho : ¬ (op.releases bits = true ∧ f.hearthWrites room = true) := by
    rintro ⟨h1, h2⟩; rcases ha.order with h | h
    · rw [h] at h1; cases h1
    · rw [h] at h2; cases h2
  unfold State.hearthRun
  simp only [ha.can, ha.fetch, ha.quiet, hs, ho, Bool.not_true, Bool.false_eq_true, if_false, Bool.false_and, or_false, or_self, if_true]

/-- What entering a trap does to the Hearth. -/
def trapped (h : Hearth) (interrupt : Bool) (cause : Nat) (tval : W64) : Hearth :=
    let st := h.getCsr 0x300
    let tv := h.getCsr 0x305
    let base := tv &&& ~~~ maskOf 1 0
    let h := h.setCsr 0x300 (setFld (setFld (setFld st 7 7 (fld st 3 3)) 3 3 0) 12 11 (if h.machine then 3 else 0))
    let h := ((h.setCsr 0x341 h.pc).setCsr 0x342 (put 63 63 (b2n interrupt) ||| put 62 0 cause)).setCsr 0x343 tval
    { h with machine := true, block := .no, pc := if interrupt ∧ fld tv 1 0 = 1 then base + BitVec.ofNat 64 (4 * cause) else base }

theorem trapped_facts (h h' : Hearth) (i : Bool) (c : Nat) (v : W64) (e : h' = trapped h i c v) : h'.machine = true
    ∧ h'.pc = (h.getCsr 0x305 &&& ~~~ maskOf 1 0) + (if i ∧ fld (h.getCsr 0x305) 1 0 = 1 then BitVec.ofNat 64 (4 * c) else 0)
    ∧ h'.getCsr 0x341 = h.pc ∧ h'.getCsr 0x342 = put 63 63 (b2n i) ||| put 62 0 c ∧ h'.getCsr 0x343 = v ∧ tst (h'.getCsr 0x300) 3 = false
    ∧ fld (h'.getCsr 0x300) 7 7 = fld (h.getCsr 0x300) 3 3 ∧ fld (h'.getCsr 0x300) 12 11 = (if h.machine then 3 else 0) ∧ h'.x = h.x := by
  subst e
  have c0 : (trapped h i c v).getCsr 0x300 = setFld (setFld (setFld (h.getCsr 0x300) 7 7 (fld (h.getCsr 0x300) 3 3)) 3 3 0) 12 11 (if h.machine then 3 else 0) := by
    unfold trapped Hearth.setCsr; dsimp only; unfold Hearth.getCsr; dsimp only
    rw [smGet_smSet_ne _ _ _ _ (by decide), smGet_smSet_ne _ _ _ _ (by decide), smGet_smSet_ne _ _ _ _ (by decide), smGet_smSet_self]
  refine ⟨rfl, ?_, ?_, ?_, ?_, ?_, ?_, ?_, rfl⟩
  · unfold trapped; dsimp only; split <;> simp
  · unfold trapped Hearth.setCsr; dsimp only; unfold Hearth.getCsr; dsimp only
    rw [smGet_smSet_ne _ _ _ _ (by decide), smGet_smSet_ne _ _ _ _ (by decide), smGet_smSet_self]
  · unfold trapped Hearth.setCsr; dsimp only; unfold Hearth.getCsr; dsimp only
    rw [smGet_smSet_ne _ _ _ _ (by decide), smGet_smSet_self]
  · unfold trapped Hearth.setCsr; dsimp only; unfold Hearth.getCsr; dsimp only
    rw [smGet_smSet_self]
  · rw [c0]
    have : fld (setFld (setFld (setFld (h.getCsr 0x300) 7 7 (fld (h.getCsr 0x300) 3 3)) 3 3 0) 12 11 (if h.machine then 3 else 0)) 3 3 = 0 := by
      rw [fld_setFld_ne _ (by omega) (by omega), fld_setFld _ (by omega) (by decide)]
    rw [tst_fld, this]; rfl
  · have h3 : fld (h.getCsr 0x300) 3 3 < 2 ^ (7 + 1 - 7) := fld_lt _ 3 3
    rw [c0, fld_setFld_ne _ (by omega) (by omega), fld_setFld_ne _ (by omega) (by omega), fld_setFld _ (by omega) h3]
  · rw [c0, fld_setFld _ (by omega) (by split <;> decide)]

/-- Entering a trap does what `Trapped` says. -/
theorem hearthTrap_trapped (f : State) (room c : Nat) (v : W64) (i : Bool) : Trapped f (f.hearthTrap room c v i) room i c v := by
  obtain ⟨g, hg⟩ : ∃ g, g = f.modHearth room (fun h => trapped h i c v) := ⟨_, rfl⟩
  have hh : (f.hearthTrap room c v i) = if i then g else (g.wr (hrt room) 0x098 (put 63 56 c ||| put 47 0 v.toNat)).raise (hrt room) 0 false := by
    rw [hg]; rfl
  have hr : (f.hearthTrap room c v i).rooms = g.rooms := by rw [hh]; cases i <;> simp
  have hq : (f.hearthTrap room c v i).hearth room = trapped (f.hearth room) i c v := by
    unfold State.hearth State.room; rw [hr]; show g.hearth room = _; rw [hg, hearth_modHearth]; rfl
  obtain ⟨a1, a2, a3, a4, a5, a6, a7, a8, a9⟩ := trapped_facts _ _ i c v hq
  refine ⟨a1, a2, a3, a4, a5, a6, a7, a8, a9, fun r hr' => ?_, ?_, ?_, ?_, ?_⟩
  · unfold State.room; rw [hr]; show g.room r = _; rw [hg]; unfold State.modHearth; rw [State.room_modRoom_ne _ _ hr']; rfl
  all_goals rw [hh]; cases i <;> simp [hg, State.modHearth]

theorem trapsTo {c : Instr} {s f : State} {room n : Nat} {v : W64} (h : exec c s = .next (f.hearthTrap room n v false)) : TrapsTo c s f room n v := by
  refine ⟨_, h, hearthTrap_trapped f room n v false, ?_, ?_⟩
  · unfold State.hearthTrap; dsimp only; rw [if_neg (by decide), State.raise_rd_off _ _ (by decide) (by decide), State.rd_wr_self]
  · unfold State.hearthTrap; dsimp only; rw [if_neg (by decide)]
    exact State.raise_sets _ _ rfl (by decide)

theorem linesCheck_clean {f : State} {room who : Nat} (L : List Nat) (h : ∀ l, l ∈ L → f.lineCheck room l who 0 false = (f, true)) : f.linesCheck room who L = (f, true) := by
  induction L with
  | nil => rfl
  | cons a l ih =>
    unfold State.linesCheck; rw [h a List.mem_cons_self]
    exact ih fun b hb => h b (List.mem_cons_of_mem _ hb)

/-- What a lit range is: it decodes, and its first byte is not dark. -/
theorem shelfLit_spec {s : State} {room off n : Nat} (h : s.shelfLit room off n = true) : off + max n 1 ≤ 0x300000 ∧ s.shelfDark room off = false := by
  unfold State.shelfLit at h
  simp only [Bool.and_eq_true, decide_eq_true_eq, Bool.not_eq_true'] at h
  exact ⟨h.1.1, h.1.2⟩

theorem NearAt.near {f : State} {room a n : Nat} (h : NearAt f room a n) : a % 0x400000 < 0x300000 := by have := (shelfLit_spec h.lit).1; omega
theorem NearAt.on {f : State} {room a n : Nat} (h : NearAt f room a n) : f.shelfDark room (a % 0x400000) = false := (shelfLit_spec h.lit).2
theorem CleanShelf.near {s : State} {room off n who : Nat} (h : CleanShelf s room off n who) : off < 0x300000 := by have := (shelfLit_spec h.lit).1; omega
theorem CleanShelf.on {s : State} {room off n who : Nat} (h : CleanShelf s room off n who) : s.shelfDark room off = false := (shelfLit_spec h.lit).2

theorem shelfLd_near {f : State} {room a n : Nat} (h : NearAt f room a n) :
    f.shelfLd room (a % 0x400000) n 0x40 = (f, f.ldBytes (shelfEA room (a % 0x400000)) n, true) := by
  unfold State.shelfLd
  rw [if_pos h.lit, linesCheck_clean _ h.clean]; rfl

theorem shelfSt_near {f : State} {room a n : Nat} (h : NearAt f room a n) (vs : List Byte) (hv : vs.length = n) :
    f.shelfSt room (a % 0x400000) 0x40 vs = ((f.stBytes (shelfEA room (a % 0x400000)) vs).dropBacks room (a % 0x400000) vs.length, true) := by
  unfold State.shelfSt
  rw [hv, if_pos h.lit, linesCheck_clean]; rfl
  intro l hl; exact h.clean l (List.mem_filter.1 hl).1

theorem dropBacks_facts (s : State) (room off n : Nat) : { s.dropBacks room off n with rooms := s.rooms } = s ∧ ((s.dropBacks room off n).hearth room).x = (s.hearth room).x
    ∧ ((s.dropBacks room off n).hearth room).pc = (s.hearth room).pc := by
  refine ⟨rfl, ?_, ?_⟩ <;> (unfold State.dropBacks State.hearth; rw [State.room_modRoom])

/-- What `Stored` says holds after a store, whatever it does to the Rooms. -/
theorem stored_after {f t : State} {room off : Nat} {data : List Byte} (hr : { t with rooms := f.rooms } = f.stBytes (shelfEA room off) data) :
    Stored f t room off data := by
  have hm : t.mem = (f.stBytes (shelfEA room off) data).mem := by
    have := congrArg State.mem hr; exact this
  refine ⟨?_, fun x hx => ?_, ?_, ?_, ?_, ?_, ?_⟩
  · rw [State.ldBytes_of _ t hm]; exact State.ldBytes_stBytes _ _ _
  · rw [show t.ldByte x = (f.stBytes (shelfEA room off) data).ldByte x by unfold State.ldByte; rw [hm]]
    exact State.ldByte_stBytes_ne _ _ hx
  · have := congrArg State.regs hr; exact this
  · have := congrArg State.bricks hr; exact this
  · have := congrArg State.suites hr; exact this
  · have := congrArg State.outst hr; exact this
  · have := congrArg State.pkts hr; exact this

/-- A read of a clean range answers its bytes and changes nothing. -/
theorem shelfLd_clean {s : State} {room off n who : Nat} (h : CleanShelf s room off n who) : s.shelfLd room off n who = (s, s.ldBytes (shelfEA room off) n, true) := by
  unfold State.shelfLd
  rw [if_pos h.lit, linesCheck_clean _ h.clean]; rfl

/-- A write of a clean range writes its bytes. -/
theorem shelfSt_clean {s : State} {room off who : Nat} (vs : List Byte) (h : CleanShelf s room off vs.length who) :
    s.shelfSt room off who vs = ((s.stBytes (shelfEA room off) vs).dropBacks room off vs.length, true) := by
  unfold State.shelfSt
  rw [if_pos h.lit, linesCheck_clean]; rfl
  intro l hl; exact h.clean l (List.mem_filter.1 hl).1

/-- A write that cancels write-backs leaves a Room as dark as it was. -/
theorem dropBacks_dark (s : State) (room off n r : Nat) : (s.dropBacks room off n).dark r = s.dark r := by
  have h : ((s.dropBacks room off n).room r).rstHalt = (s.room r).rstHalt := by
    unfold State.dropBacks
    by_cases hr : r = room
    · subst hr; rw [State.room_modRoom]
    · rw [State.room_modRoom_ne _ _ hr]
  unfold State.dark; rw [h]; rfl

end Sys2Proof.Machine
end

