-- ==== Sys2Proof/Laws/Issue.lean ====
section
/-!
SUPPORT. Laws of the issue of a Brick instruction: what a full fire changes and what it leaves.
-/

namespace Sys2Proof.Machine

/-- A result joins those in flight at the end, or nothing does. -/
theorem Brick.addPend_pend (x : Brick) (i : Ins) (now inj wait : Nat) (ws : List BWrite) :
    (x.addPend i now inj wait ws).pend
      = x.pend ++ (if ws = [] ∧ wait = 0 then [] else
          [{ id := x.nextId, land := now + i.latency - 1, ctx := x.active, op := i.op, wait, delay := 0, inj, ws }]) := by
  unfold Brick.addPend
  split <;> simp [*]

theorem Brick.addPend_active (x : Brick) (i : Ins) (now inj wait : Nat) (ws : List BWrite) : (x.addPend i now inj wait ws).active = x.active := by
  unfold Brick.addPend; split <;> rfl

theorem Brick.addPend_ctx (x : Brick) (i : Ins) (now inj wait : Nat) (ws : List BWrite) (k : Nat) : (x.addPend i now inj wait ws).ctx k = x.ctx k := by
  unfold Brick.addPend Brick.ctx; split <;> rfl

/-- Issue counts one fire of the active context (R193). -/
theorem Brick.advance_fire (x : Brick) (i : Ins) (c : SlotCnt) (j : Option Nat) (now : Nat) :
    ((x.advance i c j now).ctx x.active).fire = (x.ctx x.active).fire + 1 := by
  simp [Brick.advance, Brick.ctx, Brick.setCtx]

theorem State.countIssue_brick (s : State) (room k : Nat) (i : Ins) (v : Bool) (r c : Nat) : (s.countIssue room k i v).brick r c = s.brick r c := by
  unfold State.countIssue; dsimp only; split <;> simp

theorem State.countIssue_mem (s : State) (room k : Nat) (i : Ins) (v : Bool) : (s.countIssue room k i v).mem = s.mem := by
  unfold State.countIssue; dsimp only; split <;> simp

theorem State.countIssue_room (s : State) {room r : Nat} (k : Nat) (i : Ins) (v : Bool) (h : r ≠ room) :
    (s.countIssue room k i v).room r = s.room r := by
  unfold State.countIssue State.dmpCount
  dsimp only
  split <;> simp [State.room_modRoom_ne _ _ h]

theorem State.countIssue_glatch (s : State) (room k : Nat) (i : Ins) (v : Bool) : (s.countIssue room k i v).glatch = s.glatch := by
  unfold State.countIssue; dsimp only; split <;> simp

theorem State.countIssue_pkts (s : State) (room k : Nat) (i : Ins) (v : Bool) : (s.countIssue room k i v).pkts = s.pkts := by
  unfold State.countIssue; dsimp only; split <;> simp

theorem State.countIssue_rim (s : State) (room k : Nat) (i : Ins) (v : Bool) : (s.countIssue room k i v).rim = s.rim := by
  unfold State.countIssue; dsimp only; split <;> simp

theorem State.countIssue_remap (s : State) (room k : Nat) (i : Ins) (v : Bool) : (s.countIssue room k i v).remap = s.remap := by
  unfold State.countIssue; dsimp only; split <;> simp

theorem State.countIssue_et (s : State) (room k : Nat) (i : Ins) (v : Bool) : (s.countIssue room k i v).et = s.et := by
  unfold State.countIssue; dsimp only; split <;> simp

theorem State.countIssue_pending (s : State) (room k : Nat) (i : Ins) (v : Bool) : (s.countIssue room k i v).pending = s.pending := by
  unfold State.countIssue; dsimp only; split <;> simp

/-- Accesses that do not decode change registers and notices only. -/
theorem State.noteShelfUnmapped_rest (s : State) (room off who : Nat) :
    (s.noteShelfUnmapped room off who).bricks = s.bricks ∧ (s.noteShelfUnmapped room off who).mem = s.mem
      ∧ (s.noteShelfUnmapped room off who).rooms = s.rooms ∧ (s.noteShelfUnmapped room off who).glatch = s.glatch
      ∧ (s.noteShelfUnmapped room off who).pkts = s.pkts ∧ (s.noteShelfUnmapped room off who).rim = s.rim
      ∧ (s.noteShelfUnmapped room off who).remap = s.remap ∧ (s.noteShelfUnmapped room off who).et = s.et
      ∧ (s.noteShelfUnmapped room off who).suites = s.suites := by
  unfold State.noteShelfUnmapped; simp

theorem State.noteUnmappedAll_rest (s : State) (room who : Nat) (rs : List BankReq) :
    (s.noteUnmappedAll room who rs).bricks = s.bricks ∧ (s.noteUnmappedAll room who rs).mem = s.mem
      ∧ (s.noteUnmappedAll room who rs).rooms = s.rooms ∧ (s.noteUnmappedAll room who rs).glatch = s.glatch
      ∧ (s.noteUnmappedAll room who rs).pkts = s.pkts ∧ (s.noteUnmappedAll room who rs).rim = s.rim
      ∧ (s.noteUnmappedAll room who rs).remap = s.remap ∧ (s.noteUnmappedAll room who rs).et = s.et
      ∧ (s.noteUnmappedAll room who rs).suites = s.suites := by
  unfold State.noteUnmappedAll
  generalize rs.filter (fun r => !r.decodes) = l
  induction l generalizing s with
  | nil => simp
  | cons r l ih =>
    simp only [List.foldl_cons]
    have h := s.noteShelfUnmapped_rest room r.off who
    obtain ⟨a, b, c, d, e, f, g, i, j⟩ := ih (s.noteShelfUnmapped room r.off who)
    exact ⟨a.trans h.1, b.trans h.2.1, c.trans h.2.2.1, d.trans h.2.2.2.1, e.trans h.2.2.2.2.1, f.trans h.2.2.2.2.2.1,
      g.trans h.2.2.2.2.2.2.1, i.trans h.2.2.2.2.2.2.2.1, j.trans h.2.2.2.2.2.2.2.2⟩

theorem State.noteUnmappedAll_pending (s : State) (room who : Nat) (rs : List BankReq) : (s.noteUnmappedAll room who rs).pending = s.pending := by
  unfold State.noteUnmappedAll
  generalize rs.filter (fun r => !r.decodes) = l
  induction l generalizing s with
  | nil => rfl
  | cons r l ih => rw [List.foldl_cons, ih]; unfold State.noteShelfUnmapped; simp

theorem State.countIssue_latches (s : State) (room r k : Nat) (i : Ins) (v : Bool) : ((s.countIssue room k i v).room r).latches = (s.room r).latches := by
  unfold State.countIssue State.dmpCount
  dsimp only
  by_cases h : r = room
  · subst h; split <;> simp
  · split <;> simp [State.room_modRoom_ne _ _ h]

/-- The counts of an issue write no register but BRK_VOID_FIRES. -/
theorem State.countIssue_rd (s : State) (room k : Nat) (i : Ins) (v : Bool) {q : PageRef} {o : Nat} (h : regKey q o ≠ regKey (rp .brk room) 0x0B0) :
    (s.countIssue room k i v).rd q o = s.rd q o := by
  unfold State.countIssue
  dsimp only
  split <;> simp [State.rd_wr_key _ _ h]

theorem State.noteUnmappedAll_rd (s : State) (room who : Nat) (rs : List BankReq) {q : PageRef} {o : Nat}
    (h : ∀ k, k < 4096 → regKey q o ≠ regKey (rp .shf room) k) : (s.noteUnmappedAll room who rs).rd q o = s.rd q o := by
  unfold State.noteUnmappedAll
  generalize rs.filter (fun r => !r.decodes) = l
  induction l generalizing s with
  | nil => rfl
  | cons r l ih =>
    rw [List.foldl_cons, ih]
    unfold State.noteShelfUnmapped State.captureStep State.bump
    dsimp only
    split
    · rw [State.rd_wr_key _ _ (h _ (by decide)), State.raise_rd _ _ (h _ (by decide)) (h _ (by decide))]
    · rw [State.rd_wr_key _ _ (h _ (by decide)), State.rd_wr_key _ _ (h _ (by decide)), State.rd_wr_key _ _ (h _ (by decide)),
        State.raise_rd _ _ (h _ (by decide)) (h _ (by decide))]

theorem State.countIssue_armed (s : State) (room k : Nat) (i : Ins) (v : Bool) : (s.countIssue room k i v).armed = s.armed := by
  unfold State.countIssue; dsimp only; split <;> simp

theorem State.noteUnmappedAll_armed (s : State) (room who : Nat) (rs : List BankReq) : (s.noteUnmappedAll room who rs).armed = s.armed := by
  unfold State.noteUnmappedAll
  generalize rs.filter (fun r => !r.decodes) = l
  induction l generalizing s with
  | nil => rfl
  | cons r l ih => rw [List.foldl_cons, ih]; unfold State.noteShelfUnmapped; simp

/-- The issue of an instruction outside the MAC family disarms no injection. -/
theorem State.fireFull_armed (s : State) (room b : Nat) (t : Turn) (p : Plan) (o : FireOut) (n : Nat) (h : t.ins.macFamily = false) :
    (s.fireFull room b t p o n).armed = s.armed := by
  have h0 : s.issueInj room b t.ins = 0 := by simp [State.issueInj, h]
  unfold State.fireFull
  dsimp only
  rw [State.countIssue_armed, State.noteUnmappedAll_armed]
  simp [h0]

theorem State.fireFull_pending (s : State) (room b : Nat) (t : Turn) (p : Plan) (o : FireOut) (n : Nat) :
    (s.fireFull room b t p o n).pending = s.pending := by
  unfold State.fireFull
  dsimp only
  rw [State.countIssue_pending, State.noteUnmappedAll_pending]
  split <;> simp

/-- The issue that has everything it needs is a full fire. -/
theorem State.issueTurn_fire {s : State} {room b op : Nat} {t : Turn} (eff : FireIn → FireOut) (h : FireOk s room b op t) :
    s.issueTurn room b t eff
      = ({ s with free := s.free + 1 } : State).fireFull room b t t.plan (eff (t.fireIn room b t.plan s.free)) s.free := by
  have hp : planOf t.br t.ins (smGet SlotCnt.fresh t.ctx.cnts t.ctx.ip) t.u.now false (decide (t.u.mode = 0)) false = t.plan := rfl
  have hfull : t.ins.queues.filter (fun q => decide (t.br.free q t.u.now (decide (t.u.mode = 0)) < t.ins.words)) = [] := by
    rw [List.filter_eq_nil_iff]
    intro q hq
    have := h.space q hq
    simp; omega
  have hheld : (!decide (t.u.mode = 0) && t.br.pend.any fun q => q.ws.any t.ins.meets) = false := by
    rcases h.ready with h0 | h0
    · simp [h0]
    · simp only [Bool.and_eq_false_iff, List.any_eq_false]
      right
      intro q hq
      simp only [List.all_eq_true, Bool.not_eq_true'] at h0
      simp only [List.any_eq_true, not_exists, not_and, Bool.not_eq_true]
      exact fun w hw => h0 q hq w hw
  have hlim : (!decide (t.u.mode = 0) && decide (s.dmpBars room t.ins.dmpClass ≠ 0)) = false := by
    rcases h.limit with h0 | h0 <;> simp [h0]
  unfold State.issueTurn
  simp only [h.pred, h.noInj, Bool.not_true, hp, h.tokens, h.single, hfull, hheld, Bool.and_false, Bool.false_eq_true, false_and, if_false,
    ne_eq, not_true_eq_false, hlim]
  unfold State.fireTurn
  simp [h.data]

/-- The Brick after a full fire. -/
theorem State.fireFull_brick (s : State) (room b : Nat) (t : Turn) (p : Plan) (o : FireOut) (n : Nat) :
    (s.fireFull room b t p o n).brick room b = t.fired p o (s.issueInj room b t.ins) n := by
  unfold State.fireFull
  dsimp only
  rw [State.countIssue_brick]
  have h := State.noteUnmappedAll_rest
  unfold State.brick at *
  rw [(h ..).1]
  split <;> simp [State.setBrick]

/-- Nothing outside the Brick, and the counts and requests of its Room, changes with a full fire. -/
theorem State.fireFull_outside (s : State) (room b : Nat) (t : Turn) (p : Plan) (o : FireOut) (n : Nat) :
    SameOutside s (s.fireFull room b t p o n) room b := by
  unfold State.fireFull
  dsimp only
  have h := State.noteUnmappedAll_rest
  refine ⟨?_, fun r c hk => ?_, fun r hr => ?_, ?_, ?_, ?_, ?_, ?_, ?_, fun hroom q k hq hk h1 h2 => ?_⟩
  · rw [State.countIssue_mem, (h ..).2.1]; split <;> simp
  · rw [State.countIssue_brick, State.brick, (h ..).1]
    split <;> simp [State.setBrick, State.brick, smGet_smSet_ne _ _ _ _ hk]
  · rw [State.countIssue_room _ _ _ _ hr, State.room, (h ..).2.2.1, ← State.room, State.room_modRoom_ne _ _ hr]; split <;> simp
  · rw [State.countIssue_glatch, (h ..).2.2.2.1]; split <;> simp
  · rw [State.countIssue_pkts, (h ..).2.2.2.2.1]; split <;> simp
  · rw [State.countIssue_rim, (h ..).2.2.2.2.2.1]; split <;> simp
  · rw [State.countIssue_remap, (h ..).2.2.2.2.2.2.1]; split <;> simp
  · rw [State.countIssue_et, (h ..).2.2.2.2.2.2.2.1]; split <;> simp
  · rw [State.countIssue_latches, State.room, (h ..).2.2.1, ← State.room]; split <;> simp
  · rw [State.countIssue_rd _ _ _ _ _ (regKey_page (p := q) (q := rp .brk room) hq hroom hk (by decide) h1),
      State.noteUnmappedAll_rd _ _ _ _ fun _ hj => regKey_page (p := q) (q := rp .shf room) hq hroom hk hj h2]
    split <;> simp

/-! ### Landing -/

@[simp] theorem Brick.landOne_pend (x : Brick) (n : Nat) (w : BWrite) : (x.landOne n w).pend = x.pend := by cases w <;> rfl

/-- Writing a result leaves the results in flight as they are. -/
theorem Brick.land_pend (x : Brick) (n : Nat) (ws : List BWrite) : (ws.foldl (fun b w => b.landOne n w) x).pend = x.pend := by
  induction ws generalizing x with
  | nil => rfl
  | cons w ws ih => rw [List.foldl_cons, ih, Brick.landOne_pend]

/-! ### Whose turn it is -/

/-- What having the turn means: the Suite that owns the Room issues, and the word at the active context's slot has the opcode (R65, R85). -/
theorem State.turn_spec {s : State} {room b op : Nat} {t : Turn} (h : s.turn room b op = some t) :
    s.suiteOf room = some t.suite ∧ s.suite t.suite = some t.u ∧ t.br = (s.brick room b).settle t.u.now ∧ t.ctx = t.br.ctx t.br.active
      ∧ t.ins = decodeIns (smGet nopEnd t.ctx.code t.ctx.ip) ∧ t.ins.op = op ∧ t.u.issuing = true ∧ s.dark room = false := by
  unfold State.turn at h
  split at h
  · cases h
  · next i hi =>
    split at h
    · cases h
    · next u hu =>
      dsimp only at h
      have hc := Option.ite_none_right_eq_some.mp h
      obtain ⟨hc, h⟩ := hc
      simp only [Option.some.injEq] at h
      subst h
      simp only [Bool.and_eq_true, decide_eq_true_eq, Bool.not_eq_true'] at hc
      exact ⟨hi, hu, rfl, rfl, rfl, hc.1.2, hc.1.1.1.1.1.1.1.1.1, hc.1.1.1.1.1.1.1.1.2⟩

/-! ### What the pops leave -/

theorem Brick.setIq_iq (x : Brick) (q : Nat) (l : List QTok) : ∃ m, x.setIq q l = { x with iq := m } := ⟨_, rfl⟩

theorem Brick.popAll_iq (x : Brick) (k : Nat) (null : Bool) (ds : List Dem) : ∃ m, x.popAll k null ds = { x with iq := m } := by
  induction ds generalizing x with
  | nil => exact ⟨x.iq, rfl⟩
  | cons d ds ih =>
    obtain ⟨m, h⟩ := ih (x.setIq (queueOf d.code) (dropTag k (if isPop d.code && !(null && d.keep) then d.pop else 0) (x.iqOf (queueOf d.code))))
    exact ⟨m, h⟩

theorem planMerge_iq (x : Brick) (i : Ins) (now : Nat) (st e : Bool) : ∃ m, (planMerge x i now st e).after = { x with iq := m } := by
  unfold planMerge
  dsimp only
  split
  · split
    · exact ⟨x.iq, rfl⟩
    · split <;> exact ⟨_, rfl⟩
  · split
    · split <;> exact ⟨_, rfl⟩
    · split
      · split <;> exact ⟨_, rfl⟩
      all_goals exact ⟨_, rfl⟩

theorem Brick.ite_iq {c : Prop} [Decidable c] {x y z : Brick} (hy : ∃ m, y = { x with iq := m }) (hz : ∃ m, z = { x with iq := m }) :
    ∃ m, (if c then y else z) = { x with iq := m } := by
  split <;> assumption

theorem Brick.pop1_iq {x y : Brick} (q k : Nat) (h : ∃ m, y = { x with iq := m }) : ∃ m, y.pop1 q k = { x with iq := m } := by
  obtain ⟨m, rfl⟩ := h
  exact ⟨_, rfl⟩

theorem planMask_iq (x : Brick) (i : Ins) (n : SlotCnt) (now : Nat) : ∃ m, (planMask x i n now).after = { x with iq := m } := by
  unfold planMask
  dsimp only
  have h0 : ∃ m, x = { x with iq := m } := ⟨x.iq, rfl⟩
  split
  · exact h0
  · rw [apply_ite Plan.after]
    exact Brick.ite_iq h0 (Brick.ite_iq (Brick.pop1_iq _ _ (Brick.ite_iq (Brick.pop1_iq _ _ h0) h0)) (Brick.ite_iq (Brick.pop1_iq _ _ h0) h0))

/-- An issue takes tokens from the input queues and changes nothing else of the Brick by taking them (R65). -/
theorem planOf_iq (x : Brick) (i : Ins) (n : SlotCnt) (now : Nat) (null st e : Bool) : ∃ m, (planOf x i n now null st e).after = { x with iq := m } := by
  unfold planOf
  split
  · exact planMerge_iq ..
  · split
    · exact planMask_iq ..
    · exact Brick.popAll_iq ..

/-- An issue leaves the registers, accumulators, flags, Cubby, output queues and LANE_SET words of its Brick as they stood: what it gives is
written when its result lands (R91). -/
theorem Turn.fired_frame (t : Turn) (o : FireOut) (inj n : Nat) :
    let x := t.fired t.plan o inj n
    x.g = t.br.g ∧ x.acc = t.br.acc ∧ x.sflags = t.br.sflags ∧ x.cubby = t.br.cubby ∧ x.oq = t.br.oq ∧ x.lanes = t.br.lanes ∧ x.inp = t.br.inp
      ∧ x.active = t.br.active ∧ x.err = t.br.err := by
  obtain ⟨m, hm⟩ := planOf_iq t.br t.ins (smGet SlotCnt.fresh t.ctx.cnts t.ctx.ip) t.u.now false (decide (t.u.mode = 0)) false
  change t.plan.after = _ at hm
  simp only [Turn.fired, Brick.advance, Brick.setCtx, Brick.addPend, hm]
  split <;> simp

/-- The results in flight after a full fire (R91). -/
theorem Turn.fired_pend (t : Turn) (o : FireOut) (inj n : Nat) :
    (t.fired t.plan o inj n).pend = t.br.pend ++ (if t.writes o n = [] ∧ o.waits = 0 then [] else
      [{ id := t.br.nextId, land := t.u.now + t.ins.latency - 1, ctx := t.br.active, op := t.ins.op, wait := o.waits, delay := 0, inj,
         ws := t.writes o n }]) := by
  obtain ⟨m, hm⟩ := planOf_iq t.br t.ins (smGet SlotCnt.fresh t.ctx.cnts t.ctx.ip) t.u.now false (decide (t.u.mode = 0)) false
  change t.plan.after = _ at hm
  simp only [Turn.fired, Brick.advance, Brick.setCtx, Brick.addPend, hm]
  split <;> simp

/-- A full fire counts once in FIRE_COUNT of the active context (R193). -/
theorem Turn.fired_count (t : Turn) (o : FireOut) (inj n : Nat) :
    ((t.fired t.plan o inj n).ctx t.br.active).fire = (t.br.ctx t.br.active).fire + 1 := by
  obtain ⟨m, hm⟩ := planOf_iq t.br t.ins (smGet SlotCnt.fresh t.ctx.cnts t.ctx.ip) t.u.now false (decide (t.u.mode = 0)) false
  change t.plan.after = _ at hm
  simp only [Turn.fired, Brick.advance, Brick.setCtx, Brick.addPend, hm, Brick.ctx]
  split <;> simp

/-- The next issue is placed no earlier than the issue interval after this one (R85). -/
theorem Turn.fired_due (t : Turn) (o : FireOut) (inj n : Nat) :
    t.u.now + t.ins.interval ≤ (t.fired t.plan o inj n).due ∧ (t.fired t.plan o inj n).issued = some t.u.now := by
  simp only [Turn.fired, Brick.advance, Brick.setCtx]
  exact ⟨Nat.le_add_right _ _, trivial⟩

/-- The input queues after a full fire are those after its pops (R65). -/
theorem Turn.fired_iqOf (t : Turn) (p : Plan) (o : FireOut) (inj n q : Nat) : (t.fired p o inj n).iqOf q = p.after.iqOf q := by
  simp only [Turn.fired, Brick.advance, Brick.setCtx, Brick.addPend, Brick.iqOf]
  split <;> rfl

/-- The slot a context goes on to after a full fire (R85, R86). -/
theorem Turn.fired_ip (t : Turn) (o : FireOut) (inj n : Nat) :
    ((t.fired t.plan o inj n).ctx t.br.active).ip
      = if o.jump.isNone && decide (t.br.rep < t.ins.rep) then (t.br.ctx t.br.active).ip else nextSlot t.ins (t.br.ctx t.br.active).ip o.jump := by
  obtain ⟨m, hm⟩ := planOf_iq t.br t.ins (smGet SlotCnt.fresh t.ctx.cnts t.ctx.ip) t.u.now false (decide (t.u.mode = 0)) false
  change t.plan.after = _ at hm
  simp only [Turn.fired, Brick.advance, Brick.setCtx, Brick.addPend, hm, Brick.ctx]
  split <;> simp

/-- The issue of a Brick instruction that has everything it needs. -/
theorem State.brickIssue_fire {s : State} {room b op : Nat} {t : Turn} (eff : FireIn → FireOut) (h : FireOk s room b op t) :
    s.brickIssue room b op eff
      = ({ s with free := s.free + 1 } : State).fireFull room b t t.plan (eff (t.fireIn room b t.plan s.free)) s.free := by
  unfold State.brickIssue
  rw [h.turn]
  exact State.issueTurn_fire eff h

/-- A Brick instruction that has everything it needs fires, and its result makes the writes of its effect. -/
theorem State.brickIssue_fired {s : State} {room b op : Nat} {t : Turn} {P : List BWrite → Prop} (eff : FireIn → FireOut)
    (h : FireOk s room b op t) (hP : P (t.writes (eff (t.fireIn room b t.plan s.free)) s.free)) :
    Fired s (s.brickIssue room b op eff) room b t P := by
  rw [State.brickIssue_fire eff h]
  have hb := State.fireFull_brick ({ s with free := s.free + 1 } : State) room b t t.plan (eff (t.fireIn room b t.plan s.free)) s.free
  have hf := t.fired_frame (eff (t.fireIn room b t.plan s.free)) (({ s with free := s.free + 1 } : State).issueInj room b t.ins) s.free
  have ho := State.fireFull_outside ({ s with free := s.free + 1 } : State) room b t t.plan (eff (t.fireIn room b t.plan s.free)) s.free
  obtain ⟨h1, h2, h3, h4, h5, h6, h7, h8, h9⟩ := hf
  constructor
  case count => rw [hb]; exact t.fired_count ..
  case regs => rw [hb]; exact h1
  case accs => rw [hb]; exact ⟨h2, h3⟩
  case cubby => rw [hb]; exact h4
  case oqs => rw [hb]; exact h5
  case lanes => rw [hb]; exact ⟨h6, h7⟩
  case active => rw [hb]; exact ⟨h8, h9⟩
  case pace => rw [hb]; exact t.fired_due ..
  case queue => exact State.fireFull_pending ..
  case outside => exact ⟨ho.mem, ho.bricks, ho.rooms, ho.glatch, ho.pkts, ho.rim, ho.remap, ho.et, ho.latches, ho.regs⟩
  case flight =>
    rw [hb, t.fired_pend]
    refine ⟨_, rfl, ?_, ?_, ?_⟩
    · split <;> simp
    · split <;> simp
    · split
      · next hw => simpa [hw.1] using hw.1 ▸ hP
      · simpa using hP

end Sys2Proof.Machine
end

