-- ==== Sys2Proof/Laws/Lanes.lean ====
section
/-!
SUPPORT. Laws of lanes: a word packed from its lanes reads back, lane by lane.
-/

namespace Sys2Proof.Machine

theorem packLanes_lt (w : Nat) (vs : List Nat) : packLanes w vs < 2 ^ (w * vs.length) := by
  induction vs with
  | nil => simp [packLanes]
  | cons v vs ih =>
    have h1 : v % 2 ^ w < 2 ^ w := Nat.mod_lt _ (Nat.two_pow_pos _)
    have h2 : 2 ^ w * (packLanes w vs + 1) ≤ 2 ^ w * 2 ^ (w * vs.length) := Nat.mul_le_mul_left _ ih
    have h3 : 2 ^ (w * (vs.length + 1)) = 2 ^ w * 2 ^ (w * vs.length) := by rw [Nat.mul_succ, Nat.pow_add, Nat.mul_comm]
    simp only [packLanes, List.length_cons, h3]
    rw [Nat.mul_add, Nat.mul_one] at h2
    omega

/-- The lanes of a packed number. -/
theorem packLanes_lane (w : Nat) (vs : List Nat) (l : Nat) (h : l < vs.length) : (packLanes w vs >>> (w * l)) % 2 ^ w = vs[l] % 2 ^ w := by
  induction vs generalizing l with
  | nil => simp at h
  | cons v vs ih =>
    cases l with
    | zero => simp [packLanes, Nat.add_mul_mod_self_left]
    | succ l =>
      have hl : l < vs.length := by simpa using h
      have e : (v :: vs)[l + 1] = vs[l] := rfl
      rw [e, ← ih l hl]
      simp only [packLanes, Nat.mul_succ, Nat.shiftRight_eq_div_pow, Nat.pow_add]
      congr 1
      rw [Nat.mul_comm (2 ^ (w * l)) (2 ^ w), ← Nat.div_div_eq_div_mul, Nat.add_mul_div_left _ _ (Nat.two_pow_pos w),
        Nat.div_eq_of_lt (Nat.mod_lt _ (Nat.two_pow_pos _)), Nat.zero_add]

/-- A lane of a word packed from its lanes (R47). -/
theorem lane_ofLanes {w l : Nat} {vs : List Nat} (hw : w * vs.length ≤ 64) (h : l < vs.length) : lane w (ofLanes w vs) l = vs[l] % 2 ^ w := by
  have h1 : packLanes w vs < 2 ^ 64 := Nat.lt_of_lt_of_le (packLanes_lt w vs) (Nat.pow_le_pow_right (by decide) hw)
  simp only [lane, ofLanes, BitVec.toNat_ofNat, Nat.mod_eq_of_lt h1]
  exact packLanes_lane w vs l h

theorem lane_lt (w : Nat) (x : W64) (i : Nat) : lane w x i < 2 ^ w := Nat.mod_lt _ (Nat.two_pow_pos _)

theorem lane_and (w : Nat) (x y : W64) (i : Nat) : lane w (x &&& y) i = (lane w x i &&& lane w y i) := by
  simp [lane, Nat.shiftRight_and_distrib, Nat.and_mod_two_pow]

theorem lane_or (w : Nat) (x y : W64) (i : Nat) : lane w (x ||| y) i = (lane w x i ||| lane w y i) := by
  simp [lane, Nat.shiftRight_or_distrib, Nat.or_mod_two_pow]

theorem lane_xor (w : Nat) (x y : W64) (i : Nat) : lane w (x ^^^ y) i = (lane w x i ^^^ lane w y i) := by
  simp [lane, Nat.shiftRight_xor_distrib, Nat.xor_mod_two_pow]

/-- Every format fills a token (R47). -/
theorem Fmt.lanes_width (f : Fmt) : f.width * f.lanes = 64 := by cases f <;> rfl

/-- The number a two's complement value stands for, its residue (R111). -/
theorem sgn_emod (w n : Nat) : sgn w n % ((2 ^ w : Nat) : Int) = ((n % 2 ^ w : Nat) : Int) := by
  unfold sgn
  dsimp only
  split
  · simp
  · simp

theorem unsgn_lt (w : Nat) (i : Int) : unsgn w i < 2 ^ w := by
  unfold unsgn
  have h : (0 : Int) < ((2 ^ w : Nat) : Int) := by exact_mod_cast Nat.two_pow_pos w
  have := Int.emod_lt_of_pos i h
  have := Int.emod_nonneg i (Int.ne_of_gt h)
  omega

theorem unsgn_sgn {w n : Nat} (h : n < 2 ^ w) : unsgn w (sgn w n) = n := by
  rw [unsgn, sgn_emod, Nat.mod_eq_of_lt h, Int.toNat_natCast]

theorem unsgn_add (w a b : Nat) : unsgn w (sgn w a + sgn w b) = (a + b) % 2 ^ w := by
  have h : (sgn w a + sgn w b) % ((2 ^ w : Nat) : Int) = (((a + b) % 2 ^ w : Nat) : Int) := by
    rw [Int.add_emod, sgn_emod, sgn_emod]; push_cast; rw [← Int.add_emod]
  rw [unsgn, h, Int.toNat_natCast]

theorem unsgn_mul (w a b : Nat) : unsgn w (sgn w a * sgn w b) = a * b % 2 ^ w := by
  have h : (sgn w a * sgn w b) % ((2 ^ w : Nat) : Int) = ((a * b % 2 ^ w : Nat) : Int) := by
    rw [Int.mul_emod, sgn_emod, sgn_emod]; push_cast; rw [← Int.mul_emod]
  rw [unsgn, h, Int.toNat_natCast]

theorem unsgn_sub {w a b : Nat} (hb : b < 2 ^ w) : unsgn w (sgn w a - sgn w b) = (a + 2 ^ w - b) % 2 ^ w := by
  have h : (sgn w a - sgn w b) % ((2 ^ w : Nat) : Int) = (((a + 2 ^ w - b) % 2 ^ w : Nat) : Int) := by
    rw [Int.sub_emod, sgn_emod, sgn_emod, Nat.mod_eq_of_lt hb]
    have : ((a + 2 ^ w - b : Nat) : Int) = (a : Int) - b + ((2 ^ w : Nat) : Int) := by omega
    rw [Int.natCast_emod, Int.natCast_emod, this, Int.add_emod_right, Int.emod_sub_emod]
  rw [unsgn, h, Int.toNat_natCast]

/-- The word an element-wise instruction gives, lane by lane (R47, R95). -/
theorem FireIn.lanes_lane (x : FireIn) (f : Nat → Nat → Nat → Nat → Nat) {l : Nat} (h : l < x.ins.fm.lanes) :
    lane x.ins.fm.width ((x.lanes f).words.getD 0 0) l
      = f l (lane x.ins.fm.width (x.val 0) l) (lane x.ins.fm.width (x.val 1) l) (lane x.ins.fm.width (x.val 2) l) % 2 ^ x.ins.fm.width := by
  simp only [FireIn.lanes, FireIn.out, List.getD_cons_zero]
  rw [lane_ofLanes (by simp [Fmt.lanes_width]) (by simpa using h)]
  simp

/-! ### Codes of a format -/

theorem signBit_le (f : FloatFmt) (neg : Bool) : signBit f neg ≤ 2 ^ (f.w - 1) := by
  unfold signBit; split <;> simp

theorem encodeFloat_lt (f : FloatFmt) (r : Rounding) (v : Val) (hw : 0 < f.w) (hm : f.maxC < 2 ^ (f.w - 1))
    (hi : ∀ i, f.infC = some i → i < 2 ^ (f.w - 1)) (hn : ∀ i, f.nanC = some i → i < 2 ^ (f.w - 1)) : encodeFloat f r v < 2 ^ f.w := by
  have h2 : 2 ^ f.w = 2 ^ (f.w - 1) + 2 ^ (f.w - 1) := by
    rw [← Nat.two_mul, ← Nat.pow_succ', Nat.succ_eq_add_one, Nat.sub_add_cancel hw]
  have hnan : ∀ i, f.nanC = some i → i < 2 ^ f.w := fun i h => by have := hn i h; omega
  have hs : ∀ neg k, k < 2 ^ (f.w - 1) → signBit f neg + k < 2 ^ f.w := fun neg k h => by have := signBit_le f neg; omega
  cases v with
  | nan =>
    simp only [encodeFloat]
    cases h : f.nanC with
    | none => exact Nat.two_pow_pos _
    | some i => exact hnan i h
  | inf neg =>
    simp only [encodeFloat]
    split
    · next h => exact hs _ _ (hi _ h)
    · next h => split
                · exact hs _ _ hm
                · exact hnan _ h
    · exact hs _ _ hm
  | fin neg m e =>
    simp only [encodeFloat]
    split
    · next h => exact hs _ _ (Nat.lt_of_le_of_lt h hm)
    · split
      · exact hs _ _ hm
      · split
        · next h => exact hs _ _ (hi _ h)
        · next h => exact hnan _ h
        · exact hs _ _ hm

theorem encodeInt_lt (w : Nat) (r : Rounding) (v : Val) (hw : 0 < w) : encodeInt w r v < 2 ^ w := by
  have h2 : 2 ^ w = 2 ^ (w - 1) + 2 ^ (w - 1) := by
    rw [← Nat.two_mul, ← Nat.pow_succ', Nat.succ_eq_add_one, Nat.sub_add_cancel hw]
  have hp : 0 < 2 ^ (w - 1) := Nat.two_pow_pos _
  cases v with
  | nan => simp only [encodeInt]; omega
  | inf neg => simp only [encodeInt]; split <;> omega
  | fin neg m e =>
    simp only [encodeInt]
    split
    · exact unsgn_lt _ _
    · omega

/-- The code of an element fits its format (R47, R119). -/
theorem encodeElem_lt (f : Fmt) (r : Rounding) (v : Val) : encodeElem f r v < 2 ^ f.width := by
  have hf : ∀ ff, f.float = some ff → encodeFloat ff r v < 2 ^ f.width := by
    intro ff h
    have hw : ff.w = f.width := by cases f <;> cases h <;> rfl
    rw [← hw]
    refine encodeFloat_lt ff r v ?_ ?_ ?_ ?_ <;> cases f <;> cases h <;> simp [ffFp32]
  have hi : ∀ v, encodeInt f.width r v < 2 ^ f.width := fun v => encodeInt_lt _ _ _ (by cases f <;> decide)
  unfold encodeElem
  split
  · next ff h => exact hf ff h
  · split
    · exact encodeInt_lt 8 _ _ (by decide)
    · exact hi _

theorem nanCode_lt (f : Fmt) : nanCode f < 2 ^ f.width := encodeElem_lt f rne .nan

/-- A sign bit flipped is half the range added (R119). -/
theorem xor_top {w a : Nat} (hw : 0 < w) (h : a < 2 ^ w) : (a ^^^ 2 ^ (w - 1)) % 2 ^ w = (a + 2 ^ (w - 1)) % 2 ^ w := by
  obtain ⟨k, rfl⟩ : ∃ k, w = k + 1 := ⟨w - 1, by omega⟩
  have e : k + 1 - 1 = k := rfl
  rw [e]
  have hx : a ^^^ 2 ^ k < 2 ^ (k + 1) := Nat.xor_lt_two_pow h (Nat.pow_lt_pow_right (by decide) (by omega))
  rw [Nat.mod_eq_of_lt hx]
  by_cases hc : a < 2 ^ k
  · have : a ^^^ 2 ^ k = a + 2 ^ k := by
      have := Nat.two_pow_add_eq_or_of_lt hc 1
      apply Nat.eq_of_testBit_eq
      intro i
      rw [Nat.add_comm, ← Nat.mul_one (2 ^ k), this, Nat.testBit_or, Nat.testBit_xor, Nat.mul_one, Nat.testBit_two_pow]
      by_cases hi : k = i
      · subst hi; simp [Nat.testBit_lt_two_pow hc]
      · simp [hi]
    rw [this, Nat.mod_eq_of_lt (by rw [Nat.pow_succ]; omega)]
  · have ha : a = 2 ^ k + (a - 2 ^ k) := by omega
    have hl : a - 2 ^ k < 2 ^ k := by rw [Nat.pow_succ] at h; omega
    have : a ^^^ 2 ^ k = a - 2 ^ k := by
      have h3 := Nat.two_pow_add_eq_or_of_lt hl 1
      rw [Nat.mul_one] at h3
      apply Nat.eq_of_testBit_eq
      intro i
      rw [Nat.testBit_xor, Nat.testBit_two_pow]
      conv => lhs; rw [ha, h3, Nat.testBit_or, Nat.testBit_two_pow]
      by_cases hi : k = i
      · subst hi; simp [Nat.testBit_lt_two_pow hl]
      · simp [hi]
    rw [this]
    have : a + 2 ^ k = (a - 2 ^ k) + 2 ^ (k + 1) := by rw [Nat.pow_succ]; omega
    rw [this, Nat.add_mod_right, Nat.mod_eq_of_lt (by rw [Nat.pow_succ]; omega)]

end Sys2Proof.Machine
end

