-- ==== Sys2Proof/Laws/Latch.lean ====
section
/-!
SUPPORT. Laws of Latches: reading one written, and what an event of their page does.
-/

namespace Sys2Proof.Machine

@[simp] theorem State.latch_setLatch (s : State) (r n : Nat) (l : Latch) : (s.setLatch r n l).latch r n = l := by
  simp [State.latch, State.setLatch]

theorem State.latch_setLatch_ne (s : State) {r n m : Nat} (l : Latch) (h : m ≠ n) : (s.setLatch r n l).latch r m = s.latch r m := by
  simp [State.latch, State.setLatch, smGet_smSet_ne _ _ _ _ h]

theorem State.room_setLatch_ne (s : State) {r q n : Nat} (l : Latch) (h : q ≠ r) : (s.setLatch r n l).room q = s.room q :=
  s.room_modRoom_ne _ h

@[simp] theorem State.gl_setGl (s : State) (n : Nat) (l : Latch) : (s.setGl n l).gl n = l := by
  simp [State.gl, State.setGl]

/-- Of two replacements of one global Latch the second stands. -/
@[simp] theorem State.setGl_setGl (s : State) (n : Nat) (k l : Latch) : (s.setGl n k).setGl n l = s.setGl n l := by
  simp [State.setGl]

theorem State.gl_setGl_ne (s : State) {n m : Nat} (l : Latch) (h : m ≠ n) : (s.setGl n l).gl m = s.gl m := by
  simp [State.gl, State.setGl, smGet_smSet_ne _ _ _ _ h]

@[simp] theorem State.latch_of_rooms (s : State) (r n : Nat) {t : State} (h : t.rooms = s.rooms) : t.latch r n = s.latch r n := by
  unfold State.latch State.room; rw [h]

/-- An event of a LCH page raises its bit (R335). -/
theorem State.lchEvent_raises (s : State) {r bit : Nat} (w : W64) (halts hand injected : Bool) (hb : bit < 64) :
    tst ((s.lchEvent r bit w halts hand injected).rd (rp .lch r) 0x028) bit = true := by
  unfold State.lchEvent
  dsimp only
  have h (u : State) : tst ((u.raise (rp .lch r) bit injected).rd (rp .lch r) 0x028) bit = true := State.raise_sets _ _ rfl hb
  split <;> split <;> (try split) <;> simp [h]

/-- An event of a LCH page writes EVENT, EVENT_COUNT and its WHERE registers only. -/
theorem State.lchEvent_rd (s : State) {r bit : Nat} (w : W64) (halts hand injected : Bool) {o : Nat} (h1 : o ≠ 0x028) (h2 : o ≠ 0x040)
    (h3 : o ≠ 0x080) (h4 : o ≠ 0x088) : (s.lchEvent r bit w halts hand injected).rd (rp .lch r) o = s.rd (rp .lch r) o := by
  unfold State.lchEvent
  dsimp only
  have h (u : State) : ((u.captureStep (rp .lch r) 0x080 w 0x088 (u.whereStep r)).raise (rp .lch r) bit injected).rd (rp .lch r) o = u.rd (rp .lch r) o := by
    rw [State.raise_rd_off _ _ h1 h2, State.captureStep_rd_off _ _ _ h3 h4]
  split <;> split <;> (try split) <;> simp [h]

theorem State.lchEvent_suites_of (s : State) (r bit : Nat) (w : W64) (hand injected : Bool) : (s.lchEvent r bit w false hand injected).suites = s.suites := by
  cases hand <;> simp [State.lchEvent]

theorem State.lchgEvent_suites_of (s : State) (n bit : Nat) (w : W64) (hand injected : Bool) : (s.lchgEvent n bit w false hand injected).suites = s.suites := by
  unfold State.lchgEvent
  cases hand
  · simp only [Bool.or_self, Bool.false_eq_true, if_false]; split <;> simp
  · simp only [Bool.or_true, if_true, Bool.false_eq_true, if_false]; split <;> simp

/-- A hand operation's event leaves an incident record marked as one (R327). -/
theorem State.lchEvent_hand (s : State) (r bit : Nat) (w : W64) (injected : Bool) :
    ∃ x : Incident, (s.lchEvent r bit w false true injected).flying = s.flying ++ [x] ∧ x.code = Page.lch.cls * 256 + (bit + 1) ∧ x.hand = true := by
  have e : s.lchEvent r bit w false true injected
      = ((s.captureStep (rp .lch r) 0x080 w 0x088 (s.whereStep r)).raise (rp .lch r) bit injected).record (rp .lch r) (bit + 1) 1 injected true false
          (((s.captureStep (rp .lch r) 0x080 w 0x088 (s.whereStep r)).raise (rp .lch r) bit injected).suiteId r) noRef (setBit w 31) := rfl
  rw [e]
  have h : ((s.captureStep (rp .lch r) 0x080 w 0x088 (s.whereStep r)).raise (rp .lch r) bit injected).flying = s.flying := by rw [State.raise_flying, State.captureStep_flying]
  exact ⟨_, congrArg (· ++ [_]) h, rfl, rfl⟩

theorem State.lchgEvent_raises (s : State) {n bit : Nat} (w : W64) (halts hand injected : Bool) (hb : bit < 64) :
    tst ((s.lchgEvent n bit w halts hand injected).rd (glPage n) 0x028) bit = true := by
  unfold State.lchgEvent
  dsimp only
  have h (u : State) : tst ((u.raise (glPage n) bit injected).rd (glPage n) 0x028) bit = true := State.raise_sets _ _ rfl hb
  split <;> split <;> (try split) <;> simp [h]

theorem State.lchgEvent_rd (s : State) {n bit : Nat} (w : W64) (halts hand injected : Bool) {o : Nat} (h1 : o ≠ 0x028) (h2 : o ≠ 0x040)
    (h3 : o ≠ 0x080) : (s.lchgEvent n bit w halts hand injected).rd (glPage n) o = s.rd (glPage n) o := by
  unfold State.lchgEvent
  dsimp only
  have h (u : State) : ((u.capture (glPage n) 0x080 w).raise (glPage n) bit injected).rd (glPage n) o = u.rd (glPage n) o := by
    rw [State.raise_rd_off _ _ h1 h2, State.capture_rd_off _ _ h3]
  split <;> split <;> (try split) <;> simp [h]

theorem State.lchgEvent_hand (s : State) (n bit : Nat) (w : W64) (injected : Bool) :
    ∃ x : Incident, (s.lchgEvent n bit w false true injected).flying = s.flying ++ [x] ∧ x.code = Page.lchg.cls * 256 + (bit + 1) ∧ x.hand = true := by
  have e : s.lchgEvent n bit w false true injected
      = (match (((s.capture (glPage n) 0x080 w).raise (glPage n) bit injected).record (glPage n) (bit + 1) 1 injected true false
          (s.glCfg n 59 54) noRef (setBit w 31)).suite (s.glCfg n 59 54) with
        | some _ => ((s.capture (glPage n) 0x080 w).raise (glPage n) bit injected).record (glPage n) (bit + 1) 1 injected true false
          (s.glCfg n 59 54) noRef (setBit w 31)
        | none => ((s.capture (glPage n) 0x080 w).raise (glPage n) bit injected).record (glPage n) (bit + 1) 1 injected true false
          (s.glCfg n 59 54) noRef (setBit w 31)) := rfl
  have e2 : s.lchgEvent n bit w false true injected
      = ((s.capture (glPage n) 0x080 w).raise (glPage n) bit injected).record (glPage n) (bit + 1) 1 injected true false
          (s.glCfg n 59 54) noRef (setBit w 31) := by rw [e]; split <;> rfl
  rw [e2]
  have h : ((s.capture (glPage n) 0x080 w).raise (glPage n) bit injected).flying = s.flying := by rw [State.raise_flying, State.capture_flying]
  exact ⟨_, congrArg (· ++ [_]) h, rfl, rfl⟩

/-- A timeout raises LATCH_TIMEOUT (R322, R335). -/
theorem State.timeoutEvent_raises (s : State) (r n : Nat) (w : Wait) (injected : Bool) :
    tst ((s.timeoutEvent r n w injected).rd (rp .lch r) 0x028) 1 = true := by
  unfold State.timeoutEvent
  dsimp only
  have h (u : State) (x : W64) (b : Bool) : tst ((u.lchEvent r 1 x b false injected).rd (rp .lch r) 0x028) 1 = true := State.lchEvent_raises _ _ _ _ _ (by decide)
  split
  · exact h _ _ _
  · rw [State.rd_wr_off _ _ (by decide), State.rd_wr_off _ _ (by decide)]; exact h _ _ _

end Sys2Proof.Machine
end

