-- ==== Sys2Proof/Laws/Results.lean ====
section
/-!
SUPPORT. Laws of the results of Brick instructions: a word for DST, and its lanes.
-/

namespace Sys2Proof.Machine

@[simp] theorem Turn.fireIn_ins (t : Turn) (room b : Nat) (p : Plan) (n : Nat) : (t.fireIn room b p n).ins = t.ins := rfl

@[simp] theorem Turn.fireIn_br (t : Turn) (room b : Nat) (p : Plan) (n : Nat) : (t.fireIn room b p n).br = t.br := rfl

@[simp] theorem Turn.fireIn_val (t : Turn) (room b n k : Nat) : (t.fireIn room b t.plan n).val k = t.arg k := rfl

/-- The writes of a result of one word (R82, R90). -/
theorem Turn.writes_out (t : Turn) (room b n m : Nat) (w : W64) : t.writes ((t.fireIn room b t.plan n).out [w]) m = t.dst w := by
  have hon : (if t.ins.pmode = 3 then laneMask t.ins.fm.width (t.br.reg t.ins.preg) else ~~~ (0 : W64)) = t.on := rfl
  have hk : t.on &&& ~~~ (0 : W64) = t.on := by
    apply BitVec.eq_of_getLsbD_eq
    intro i hi
    simp only [BitVec.getLsbD_and, BitVec.getLsbD_not, hi]
    simp
  simp only [Turn.writes, FireIn.out, Turn.toks, dstWrites, Turn.fireIn_ins, List.map_nil, List.nil_append, List.append_nil, List.length_singleton,
    List.range_one, List.map_cons, Nat.add_zero, List.getD_cons_zero, hon, hk]
  unfold Turn.dst
  split
  · rfl
  · simp only [dstQueues]
    split
    · simp
    · split
      · simp
      · split <;> simp

/-- The writes of a result that is not for DST (R97, R112). -/
theorem Turn.writes_write (t : Turn) (room b n m : Nat) (ws : List BWrite) : t.writes ((t.fireIn room b t.plan n).write ws) m = ws := by
  simp [Turn.writes, FireIn.write, FireIn.out, Turn.toks, dstWrites]

/-- An element-wise instruction gives one word for DST whose lanes are its function of the lanes of its operands (R47, R95). -/
theorem Turn.writes_lanes (t : Turn) (room b n m : Nat) (f : Nat → Nat → Nat → Nat → Nat) (g : Nat → Nat → Nat → Nat → Nat)
    (h : ∀ l a b c, a < 2 ^ t.ins.fm.width → b < 2 ^ t.ins.fm.width → c < 2 ^ t.ins.fm.width → f l a b c % 2 ^ t.ins.fm.width = g t.ins.fm.width a b c) :
    LanesAre g t (t.writes ((t.fireIn room b t.plan n).lanes f) m) := by
  refine ⟨((t.fireIn room b t.plan n).lanes f).words.getD 0 0, ?_, fun l hl => ?_⟩
  · exact t.writes_out room b n m _
  · rw [← h l _ _ _ (lane_lt ..) (lane_lt ..) (lane_lt ..)]
    exact (t.fireIn room b t.plan n).lanes_lane f hl

/-- An instruction on whole words gives one word for DST (R95). -/
theorem Turn.writes_word (t : Turn) (room b n m : Nat) (w : W64) (g : Nat → Nat → Nat → Nat → Nat)
    (h : ∀ l, lane t.ins.fm.width w l
      = g t.ins.fm.width (lane t.ins.fm.width (t.arg 0) l) (lane t.ins.fm.width (t.arg 1) l) (lane t.ins.fm.width (t.arg 2) l)) :
    LanesAre g t (t.writes ((t.fireIn room b t.plan n).out [w]) m) :=
  ⟨w, t.writes_out room b n m w, fun l _ => h l⟩

/-! ### Tokens entering an input queue -/

/-- With no injection armed a token enters by the outcome of its own check (R50, R79). -/
theorem State.enterIq_of (s : State) (room b q src now : Nat) (t : Token) (stepped : Bool) (h4 : s.isArmed (rp .brk room) 4 = false)
    (h5 : s.isArmed (rp .brk room) 5 = false) :
    s.enterIq room b q src t stepped now = s.enterChecked room b q src t stepped now false false (checkToken t) := by
  unfold State.enterIq
  simp only [h4, h5, Bool.and_false, Bool.false_eq_true, if_false]

/-- A token whose check is clean enters as it is (R50). -/
theorem State.enterChecked_clean (s : State) (room b q src now : Nat) (t : Token) (stepped ce ue : Bool) (h : checkToken t = .clean) :
    s.enterChecked room b q src t stepped now ce ue (checkToken t) = s.putIq room b q t stepped now := by
  have key : ∀ c, c = CheckOut.clean → s.enterChecked room b q src t stepped now ce ue c = s.putIq room b q t stepped now := by
    intro c hc; subst hc; rfl
  exact key _ h

/-- A token enters behind those of its queue, or finds the queue of a stepped Suite full (R55, R63). -/
theorem State.putIq_eq (s : State) (room b q now : Nat) (t : Token) :
    s.putIq room b q t true now
      = if 8 ≤ ((s.brick room b).iqOf q).length then s.brkError room b 3 4 q t.tag 0 false
        else s.modBrick room b fun br => br.setIq q (br.iqOf q ++ [⟨t, now⟩]) := by
  simp only [State.putIq, Bool.and_true, decide_eq_true_eq]

end Sys2Proof.Machine
end

