-- ==== Sys2Proof/Laws/Turned.lean ====
section
/-!
SUPPORT. A command that only raises an event is turned away.
-/

namespace Sys2Proof.Machine

/-- A command whose whole effect is an event is turned away. -/
theorem turned_raise {c : Instr} {s : State} {p : PageRef} {bit : Nat} {injected : Bool} (h : exec c s = .next (s.raise p bit injected)) (hg : s.gated p = false)
    (hb : bit < 64) : TurnedAway c s p bit :=
  ⟨_, h, State.raise_sets _ _ hg hb, State.raise_suites _ _ _ _, State.raise_rooms _ _ _ _, State.raise_bricks _ _ _ _, State.raise_mem _ _ _ _,
    State.raise_rim _ _ _ _, State.raise_remap _ _ _ _⟩

/-- A command whose whole effect is an event and its capture is turned away. -/
theorem turned_capture {c : Instr} {s : State} {p : PageRef} {bit off : Nat} {w : W64} {injected : Bool}
    (h : exec c s = .next ((s.capture p off w).raise p bit injected)) (hg : ∀ t : State, t.gated p = false) (hb : bit < 64) :
    TurnedAway c s p bit := by
  refine ⟨_, h, State.raise_sets _ _ (hg _) hb, ?_⟩
  simp [State.capture]
  split <;> simp

end Sys2Proof.Machine
end

