-- ==== Sys2Proof/WellFormed.lean ====
section
/-!
DEFINITION. Which commands are well formed: every index they name is one the engine has.  A meaning is given for ill-formed commands too; what it
answers there says nothing about the engine.
-/

namespace Sys2Proof

/-- A Room index: a logical Room (R8), or a physical one as 0x8000 + index where a page is reached by the physical window (R41). -/
def roomOk (r : Nat) : Bool := decide (r < 16384) || (decide (0x8000 ≤ r) && decide (r < 0x8000 + 20736))

/-- The indices of a command are in range: Rooms (R8), Bricks (R9), Suites (R26), Wings (R6), Cellar stacks (R14), Chutes (R345), Eaves ports (R370),
Dumbwaiter queues (R219), Stockpots (R257), Latches (R317), participants (R318), Shelf banks (R204). -/
def Instr.wf : Instr → Bool
  | .registerWrite _ size _ => decide (size = 4 ∨ size = 8)
  | .rcRead _ size => decide (size = 4 ∨ size = 8)
  | .eventClear _ _ => true
  | .eventInject _ _ => true
  | .whereRearm _ => true
  | .laneTokenArrive room b _ _ => roomOk room && decide (b < 64)
  | .nop room b => roomOk room && decide (b < 64)
  | .jnz room b => roomOk room && decide (b < 64)
  | .fold room b => roomOk room && decide (b < 64)
  | .foldResume room b => roomOk room && decide (b < 64)
  | .stop room b => roomOk room && decide (b < 64)
  | .lsig room b => roomOk room && decide (b < 64)
  | .lwait room b => roomOk room && decide (b < 64)
  | .mac room b => roomOk room && decide (b < 64)
  | .macz room b => roomOk room && decide (b < 64)
  | .dot room b => roomOk room && decide (b < 64)
  | .dotz room b => roomOk room && decide (b < 64)
  | .macs24 room b => roomOk room && decide (b < 64)
  | .macs48 room b => roomOk room && decide (b < 64)
  | .stkmac room b => roomOk room && decide (b < 64)
  | .stkin room b => roomOk room && decide (b < 64)
  | .stkadd room b => roomOk room && decide (b < 64)
  | .stkdrain room b => roomOk room && decide (b < 64)
  | .stkcvt room b => roomOk room && decide (b < 64)
  | .accclr room b => roomOk room && decide (b < 64)
  | .drain room b => roomOk room && decide (b < 64)
  | .drainc room b => roomOk room && decide (b < 64)
  | .mxq room b => roomOk room && decide (b < 64)
  | .fma room b => roomOk room && decide (b < 64)
  | .add room b => roomOk room && decide (b < 64)
  | .sub room b => roomOk room && decide (b < 64)
  | .mul room b => roomOk room && decide (b < 64)
  | .min room b => roomOk room && decide (b < 64)
  | .max room b => roomOk room && decide (b < 64)
  | .neg room b => roomOk room && decide (b < 64)
  | .abs room b => roomOk room && decide (b < 64)
  | .cmp room b => roomOk room && decide (b < 64)
  | .sel room b => roomOk room && decide (b < 64)
  | .cvt room b => roomOk room && decide (b < 64)
  | .exp2 room b => roomOk room && decide (b < 64)
  | .log2 room b => roomOk room && decide (b < 64)
  | .rcp room b => roomOk room && decide (b < 64)
  | .rsqrt room b => roomOk room && decide (b < 64)
  | .tanh room b => roomOk room && decide (b < 64)
  | .erf room b => roomOk room && decide (b < 64)
  | .iadd room b => roomOk room && decide (b < 64)
  | .isub room b => roomOk room && decide (b < 64)
  | .imul room b => roomOk room && decide (b < 64)
  | .andOp room b => roomOk room && decide (b < 64)
  | .orOp room b => roomOk room && decide (b < 64)
  | .xorOp room b => roomOk room && decide (b < 64)
  | .shl room b => roomOk room && decide (b < 64)
  | .shr room b => roomOk room && decide (b < 64)
  | .sra room b => roomOk room && decide (b < 64)
  | .imin room b => roomOk room && decide (b < 64)
  | .imax room b => roomOk room && decide (b < 64)
  | .icmp room b => roomOk room && decide (b < 64)
  | .mov room b => roomOk room && decide (b < 64)
  | .ldi room b => roomOk room && decide (b < 64)
  | .cld room b => roomOk room && decide (b < 64)
  | .cst room b => roomOk room && decide (b < 64)
  | .lut room b => roomOk room && decide (b < 64)
  | .sld room b => roomOk room && decide (b < 64)
  | .sst room b => roomOk room && decide (b < 64)
  | .sldt room b => roomOk room && decide (b < 64)
  | .slds room b => roomOk room && decide (b < 64)
  | .gath room b => roomOk room && decide (b < 64)
  | .scat room b => roomOk room && decide (b < 64)
  | .spxp room b => roomOk room && decide (b < 64)
  | .rand room b => roomOk room && decide (b < 64)
  | .rmask room b => roomOk room && decide (b < 64)
  | .steer room b => roomOk room && decide (b < 64)
  | .merge room b => roomOk room && decide (b < 64)
  | .instructionResult room b _ => roomOk room && decide (b < 64)
  | .brkWinWrite room _ _ => roomOk room
  | .csLoad suite => decide (suite < 64)
  | .loadCheck suite => decide (suite < 64)
  | .loadOutcome suite => decide (suite < 64)
  | .loaderRead room _ _ => roomOk room
  | .loadEffective room => roomOk room
  | .quarterRampDone room _ => roomOk room
  | .csRun suite => decide (suite < 64)
  | .runEnd suite => decide (suite < 64)
  | .checkPoint room => roomOk room
  | .csNop suite => decide (suite < 64)
  | .csStoke suite => decide (suite < 64)
  | .csCheckpoint suite => decide (suite < 64)
  | .csFence suite => decide (suite < 64)
  | .csLatchWait suite => decide (suite < 64)
  | .csHalt suite => decide (suite < 64)
  | .entryFetch suite _ _ _ => decide (suite < 64)
  | .entryIssue suite => decide (suite < 64)
  | .commandUnitEnable room _ => roomOk room
  | .commandUnitDisable room _ => roomOk room
  | .csTailWrite room _ => roomOk room
  | .pause room => roomOk room
  | .resume room => roomOk room
  | .arrSeedWrite room _ => roomOk room
  | .freeze suite => decide (suite < 64)
  | .release suite => decide (suite < 64)
  | .stallReq suite => decide (suite < 64)
  | .halt suite => decide (suite < 64)
  | .suiteHalt suite => decide (suite < 64)
  | .suiteReg suite => decide (suite < 64)
  | .orReduce suite _ => decide (suite < 64)
  | .damper suite => decide (suite < 64)
  | .epochFlip => true
  | .glatch _ => true
  | .digest suite => decide (suite < 64)
  | .heartbeat _ _ => true
  | .fluWatchdog _ => true
  | .fluLatencyWrite _ => true
  | .shelfBankStep room bank _ _ => roomOk room && decide (bank < 16)
  | .eccWriteBack room => roomOk room
  | .shfQctrlWrite room _ => roomOk room
  | .shfRetire room _ => roomOk room
  | .bankCopyDone room _ => roomOk room
  | .dwtQTailWrite room q _ => roomOk room && decide (q < 8)
  | .dwtQCfgWrite room q _ => roomOk room && decide (q < 8)
  | .dwtCopy room q => roomOk room && decide (q < 8)
  | .dwtTranspose room q => roomOk room && decide (q < 8)
  | .tileStore room q => roomOk room && decide (q < 8)
  | .tileLoad room q => roomOk room && decide (q < 8)
  | .tileWrap room q => roomOk room && decide (q < 8)
  | .dwtFill room q => roomOk room && decide (q < 8)
  | .dwtCheck room q => roomOk room && decide (q < 8)
  | .descriptorComplete room q _ => roomOk room && decide (q < 8)
  | .hearthInstruction room _ => roomOk room
  | .hearthLoad room => roomOk room
  | .hearthStore room => roomOk room
  | .hearthAmo room => roomOk room
  | .hearthSc room => roomOk room
  | .hearthFence room => roomOk room
  | .fenceI room => roomOk room
  | .hearthInterrupt room _ => roomOk room
  | .hearthStart room _ => roomOk room
  | .hearthHalt room _ => roomOk room
  | .csFetch room _ _ _ => roomOk room
  | .csExec room => roomOk room
  | .chSend room => roomOk room
  | .chNext room => roomOk room
  | .chDone room => roomOk room
  | .chOpen room => roomOk room
  | .chClose room => roomOk room
  | .ltSig room => roomOk room
  | .ltWait room => roomOk room
  | .dwPush room => roomOk room
  | .dwWait room => roomOk room
  | .dwWaitTimeout room => roomOk room
  | .spPut room _ => roomOk room
  | .stoke room => roomOk room
  | .stockpotEnable room p _ => roomOk room && decide (p < 32)
  | .stpSyncRetry room p => roomOk room && decide (p < 32)
  | .stpTargetTimeout room p => roomOk room && decide (p < 32)
  | .hallRoute _ _ _ _ _ => true
  | .hallWrite _ => true
  | .readReq _ => true
  | .readRsp _ => true
  | .atomic _ => true
  | .message _ => true
  | .reduce _ _ => true
  | .stream _ => true
  | .ack _ => true
  | .nack _ => true
  | .hallSlot room => roomOk room
  | .ageIncrement _ => true
  | .linkCvuCompare room net port => roomOk room && decide (net < 2) && decide (port < 4)
  | .routingTableWrite room _ _ => roomOk room
  | .flip => true
  | .hallEpochDone => true
  | .hallDrainTimeout => true
  | .latchConfigure glob room n _ => roomOk room && decide (n < if glob then 256 else 64)
  | .lchArrive room n pid _ => roomOk room && decide (n < 64) && decide (pid < 128)
  | .latchSet glob room n => roomOk room && decide (n < if glob then 256 else 64)
  | .latchClear glob room n => roomOk room && decide (n < if glob then 256 else 64)
  | .latchAdvance glob room n => roomOk room && decide (n < if glob then 256 else 64)
  | .arriveAs glob room n pid => roomOk room && decide (n < if glob then 256 else 64) && decide (pid < 128)
  | .resetArrivals glob room n => roomOk room && decide (n < if glob then 256 else 64)
  | .latchTimeout glob room n => roomOk room && decide (n < if glob then 256 else 64)
  | .cellarAccess _ _ => true
  | .cellarRefresh _stack => decide (_stack < 48)
  | .ringReservation _ => true
  | .celRegionWrite stack _ _ => decide (stack < 48)
  | .chuteEnable c _ => decide (c < 32)
  | .chuteDisable c _ => decide (c < 32)
  | .chuListTailWrite c _ => decide (c < 32)
  | .mark c _ => decide (c < 32)
  | .cellar c _ => decide (c < 32)
  | .larder c _ => decide (c < 32)
  | .gate c _ => decide (c < 32)
  | .chuteSourceData c _ => decide (c < 32)
  | .chutePacket c _ => decide (c < 32)
  | .starvationCheck c => decide (c < 32)
  | .chuteStarved c => decide (c < 32)
  | .larderSlotEnable c _ _ => decide (c < 32)
  | .creditPeriod c _ => decide (c < 32)
  | .larderData c _ _ _ _ => decide (c < 32)
  | .larderCheck c _ _ _ _ => decide (c < 32)
  | .abort c _ _ => decide (c < 32)
  | .eavModeSet pos _ => decide (pos < 32)
  | .portEnable pos _ => decide (pos < 32)
  | .portDisable pos _ => decide (pos < 32)
  | .trainingStep port _ _ _ _ => decide (port < 64)
  | .trainingAttemptTimeout port => decide (port < 64)
  | .trainingRetry port => decide (port < 64)
  | .eavLinkUp port => decide (port < 64)
  | .eavLinkDown port _ _ => decide (port < 64)
  | .eavFecDegraded port _ _ _ => decide (port < 64)
  | .fecDegradeTimeout port => decide (port < 64)
  | .ethFrameReceive port _ _ frame => decide (port < 64) && decide (frame.length < 65536)
  | .pfcFrame port _ _ => decide (port < 64)
  | .yazalData port _ _ _ => decide (port < 64)
  | .yazalAck port _ _ => decide (port < 64)
  | .yazalReset port _ _ => decide (port < 64)
  | .ackDelay _ port => decide (port < 64)
  | .rtoExpiry _ => true
  | .pathHoldExpiry _ => true
  | .streamTimeout _ => true
  | .keepalive _ => true
  | .contextMissFill _ => true
  | .doorbell => true
  | .send _ => true
  | .control _ => true
  | .roceSend _ => true
  | .roceWrite _ => true
  | .roceRead _ => true
  | .rocePacket port _ _ _ _ _ _ _ _ _ _ => decide (port < 64)
  | .hello _ => true
  | .latchArrive _ => true
  | .jobHalt _ => true
  | .contextWrite _ => true
  | .rollCallGo suite _ => decide (suite < 64)
  | .rollCallPeriod suite => decide (suite < 64)
  | .rollCall _ => true
  | .rollSplit _ => true
  | .rollCallTimeout suite => decide (suite < 64)
  | .suiteNoProgress suite => decide (suite < 64)
  | .inspInstall _ _ => true
  | .inspectionWindowEnd suite _ => decide (suite < 64)
  | .selfTest _ _ _ => true
  | .selftestDone _ => true
  | .incidentRecord _ => true
  | .ceRateCheck _ _ _ => true
  | .strikeExpiry phys => decide (phys < 20736)
  | .cvuRunWrite _ _ _ => true
  | .eccCfgWrite stack _ => decide (stack < 48)
  | .recodeDone stack _ => decide (stack < 48)
  | .scrubRead stack _ => decide (stack < 48)
  | .scrubPassEnd stack => decide (stack < 48)
  | .shelfScrub room _ _ => roomOk room
  | .pageRetire stack _ _ => decide (stack < 48)
  | .eccRemapWrite stack _ => decide (stack < 48)
  | .logHeadWrite _ => true
  | .sweepHold suite => decide (suite < 64)
  | .quiescence suite => decide (suite < 64)
  | .quiesceTimeout suite => decide (suite < 64)
  | .sweepOutDone suite _ => decide (suite < 64)
  | .holdRelease suite => decide (suite < 64)
  | .preempt suite => decide (suite < 64)
  | .sweepIn suite _ _ _ => decide (suite < 64)
  | .sweepReturn suite _ => decide (suite < 64)
  | .swpgResume suite => decide (suite < 64)
  | .swpgHalt suite => decide (suite < 64)
  | .swpgAbort suite => decide (suite < 64)
  | .sweepInDone suite _ => decide (suite < 64)
  | .resumeEt => true
  | .damperTick wing => decide (wing < 64)
  | .profileRise suite _ _ => decide (suite < 64)
  | .floorHoldExpiry wing => decide (wing < 64)
  | .chimneyReady wing => decide (wing < 64)
  | .dmpStokeLate suite => decide (suite < 64)
  | .stokeEnd suite => decide (suite < 64)
  | .powerWindow => true
  | .capWrite _ => true
  | .suiteBudgetWrite suite _ => decide (suite < 64)
  | .draughtEnable _ => true
  | .drTotalWrite _ => true
  | .draughtPeriod => true
  | .draughtStatus _ => true
  | .give _ => true
  | .take _ => true
  | .confirm _ => true
  | .thermalSample room _ => roomOk room
  | .powerOn => true
  | .bringupStep _ _ _ => true
  | .bringupTimeout => true
  | .inputSample _ _ => true
  | .inputShutdown => true
  | .chimneySample wing _ _ _ => decide (wing < 64)
  | .pmbusPoll wing _ _ => decide (wing < 64)
  | .pwrChimneyFault wing => decide (wing < 64)
  | .chimneyRestart wing _ => decide (wing < 64)
  | .railReached wing => decide (wing < 64)
  | .senseCheck wing _ _ _ _ => decide (wing < 64)
  | .roomOn room => roomOk room
  | .roomOff room => roomOk room
  | .headerStage room => roomOk room
  | .roomPowerGood room _ => roomOk room
  | .tripClr room => roomOk room
  | .vtrimWrite room _ => roomOk room
  | .tmaxClear room => roomOk room
  | .coolantSample _ _ _ => true
  | .pwrCoolantFault => true
  | .pwrLeak _ => true
  | .pwrgClear => true
  | .clkRefFail _ => true
  | .refSelect _ => true
  | .clkLockLost wing => decide (wing < 64)
  | .relock wing _ => decide (wing < 64)
  | .relockTimeout wing => decide (wing < 64)
  | .rateSwitch suite _ => decide (suite < 64)
  | .coreLocked wing => decide (wing < 64)
  | .clkSwitchDone suite _ => decide (suite < 64)
  | .peripheralGate _ _ => true
  | .surveyCommit => true
  | .markBad phys => decide (phys < 20736)
  | .retrainSeam wing _ => decide (wing < 64)
  | .retrainChannel stack ch => decide (stack < 48) && decide (ch < 32)
  | .commit => true
  | .channelOutOfService stack ch _ => decide (stack < 48) && decide (ch < 32)
  | .retrainAttemptEnd _ _ => true
  | .remap _ _ _ => true
  | .goBrick room b => roomOk room && decide (b < 64)
  | .goRoom room => roomOk room
  | .rstDrainTimeout room => roomOk room
  | .roomResetRelease room => roomOk room
  | .suiteReset _ => true
  | .houseReset _ => true
  | .resetPin => true
  | .perst => true
  | .porchWatchdog => true
  | .bar2Access _ off _ _ => decide (off < 2 ^ 36)
  | .pchPageTimeout _ _ => true
  | .hostRequest _ _ => true
  | .hostCompletion _ _ _ => true
  | .pcheArm _ => true
  | .holdoffExpiry _ => true
  | .functionLevelReset => true
  | .recoveryImage _ _ => true
  | .updateFw _ _ => true
  | .exportSurvey => true
  | .mgmtCfg => true
  | .fwLock => true
  | .dbgLock => true
  | .mgmtRequest _ _ _ _ => true
  | .rackPmbusCommand _ => true
  | .gpioEdge _ _ => true
  | .timerExpired _ => true
  | .define _ => true
  | .delete _ => true
  | .trigInput pin => decide (pin < 2)
  | .debugSweepOut _ => true
  | .debugSweepIn _ _ => true
  | .jtagReset => true
  | .extest _ _ => true
  | .samplePreload _ _ => true
  | .idcode => true
  | .highz => true
  | .clamp => true
  | .dbgacc _ _ _ => true
  | .bypass => true
  | .fixedStallEnd suite => decide (suite < 64)
  | .observationSample => true
  | .resetPinRise => true
  | .pacedSend _ => true

end Sys2Proof
end

