-- ==== Sys2Proof/Tests/Slice0.lean ====
section
/-!
SUPPORT. Tests: terms that the well-formedness checks refuse, and for the statements small states that meet their hypotheses, with what the
command leaves there.  The expected values are worked out by hand from the rules cited.
-/

open Sys2Proof.Machine
open Sys2Proof (Instr W64 Byte)

namespace Sys2Proof.Tests

set_option Elab.async false


/-! ### Small states -/

/-- The state after a command, looked at by `p`; false if it does not answer one. -/
def after (c : Instr) (s : State) (p : State → Bool) : Bool :=
  match exec c s with
  | .next t => p t
  | .fault _ => false
  | .refused _ => false

/-- Whether a command leaves the state as it is. -/
def idles (c : Instr) (s : State) : Bool := after c s fun t => decide (t = s)

/-- Whether a command raises event `bit` of page `p` and leaves Suites, Rooms, Bricks and memory alone. -/
def turnsAway (c : Instr) (s : State) (p : PageRef) (bit : Nat) : Bool :=
  after c s fun t => tst (t.rd p 0x028) bit && decide (t.suites = s.suites) && decide (t.rooms = s.rooms) && decide (t.bricks = s.bricks)
    && decide (t.mem = s.mem) && decide (t.remap = s.remap)

/-- Room 0 powered. -/
def roomOn0 : State := State.reset.wr (rp .pwr 0) 0x080 (put 63 61 2)

/-- A Suite of Wing 0 in state `run`, stepped (0) or elastic (1). -/
def suite0 (mode run : Nat) : Suite := { Suite.fresh 0 0 0 0 with mode := mode, run := run }

/-- Room 0 powered in Suite 0. -/
def inSuite0 (u : Suite) : State := roomOn0.setSuite 0 u

/-- Room 0 with an arrangement, its Suite loading. -/
def busyRoom : State := (inSuite0 (suite0 0 5)).modRoom 0 fun r => { r with hasArr := true }

/-- A Brick instruction word with END set. -/
def brickWord (op fmt a b c d aux : Nat) : W64 :=
  put 63 56 op ||| put 55 52 fmt ||| put 51 46 a ||| put 45 40 b ||| put 39 34 c ||| put 33 28 d ||| put 27 20 aux ||| put 6 6 1

/-- A started Brick with one word in slot 0 of context 0 and three registers. -/
def brickAt (w x y z : W64) : Brick :=
  { Brick.empty with started := true, g := smSetAll 0 [] [(0, x), (1, y), (2, z)], ctxs := [(0, { Ctx.empty with code := [(0, w)], valid := true })] }

/-- Brick 0 of Room 0 in a running Suite. -/
def brickRuns (mode : Nat) (b : Brick) : State := (inSuite0 (suite0 mode 2)).setBrick 0 0 b

/-- The conditions of `FireOk` for a stepped Suite, computed. -/
def fires (s : State) (room b op : Nat) : Bool :=
  match s.turn room b op with
  | none => false
  | some t => t.br.pred t.ins && !s.injEmpty room b (decide (t.u.mode = 0)) && decide (t.plan.missing = 0) && !t.plan.void && !t.plan.both
      && (t.ins.queues.all fun q => decide (t.ins.words ≤ t.br.free q t.u.now (decide (t.u.mode = 0)))) && decide (t.u.mode = 0)

theorem fireOk_of_fires {s : State} {room b op : Nat} (h : fires s room b op = true) : ∃ t, FireOk s room b op t := by
  unfold fires at h
  split at h
  · cases h
  · rename_i t ht
    simp only [Bool.and_eq_true, Bool.not_eq_true', decide_eq_true_eq, List.all_eq_true] at h
    obtain ⟨⟨⟨⟨⟨⟨h1, h2⟩, h3⟩, h4⟩, h5⟩, h6⟩, h7⟩ := h
    exact ⟨t, ⟨ht, h1, h2, h3, h4, h5, h6, .inl h7, .inl h7⟩⟩

/-- Register `i` of Brick 0 of Room 0 once the results of a command have landed. -/
def lands (c : Instr) (s : State) (i : Nat) (v : W64) : Bool := after c s fun t => decide (((t.brick 0 0).settle 100).reg i = v)

/-- Two small tokens for merging. -/
def mergeBrick : Brick :=
  { brickAt (brickWord 0xB1 0 0x20 0x21 0x22 3 0) 0 0 0 with
    iq := [(0, [⟨mkToken 11 0 false, 0⟩]), (1, [⟨mkToken 12 0 false, 0⟩]), (2, [⟨mkToken 1 0 false, 0⟩])] }

/-! ### Steps, values -/

theorem test_step_front : step { roomOn0 with pending := [.jtagReset, .perst] } = exec .jtagReset { roomOn0 with pending := [.perst] } := by rfl

theorem test_step_idle : State.reset.pending = [] ∧ step State.reset = .next State.reset.tick := ⟨rfl, rfl⟩

theorem test_int_formats : decodeElem .int4 8 = Val.ofInt (-8) ∧ decodeElem .int8 0x7F = Val.ofInt 127 ∧ decodeElem .int32 0xFFFFFFFF = Val.ofInt (-1)
    ∧ decodeElem .int64 (2 ^ 63) = Val.ofInt (-(2 ^ 63 : Int)) := by decide +kernel

theorem test_stock_add_wraps : stockAdd (BitVec.ofNat 128 (2 ^ 127 - 1)) 1 = (BitVec.ofNat 128 (2 ^ 127), true) ∧ stockAdd 5 7 = (12, false) := by
  decide +kernel

/-! ### Brick instructions -/

theorem test_brick_ops_fire :
    (brickOps.all fun e => decide (e.2 = 0xB1) || fires (brickRuns 0 (brickAt (brickWord e.2 9 0 1 2 3 0) 5 7 0)) 0 0 e.2) = true := by decide +kernel

theorem test_merge_fires : fires (brickRuns 0 { mergeBrick with iq := mergeBrick.iq.map fun e => (e.1, e.2.map fun q => { q with ent := 0 }) , due := 1 } |>.modSuite 0
    fun u => { u with now := 1 }) 0 0 0xB1 = true := by decide +kernel

/-- A Brick that runs the word `w` in a stepped Suite, its registers 5, 7 and −1 in lane 0. -/
def onWord (w : W64) : State := brickRuns 0 (brickAt w 5 7 0xFFFFFFFF)

theorem test_missing_token :
    (fires (onWord (brickWord 0x60 0xC 0x20 1 0x3F 3 0)) 0 0 0x60 = false)
    ∧ (after (.iadd 0 0) (onWord (brickWord 0x60 0xC 0x20 1 0x3F 3 0)) (fun t => (t.brick 0 0).err && tst (t.rd (rp .brk 0) 0x028) 0
    && decide (t.rd (rp .brk 0) 0x090 = setBit (brkWhere 1 0 0 0 1) 31) && decide (t.flying.map Incident.code = [0x101])) = true) := by decide +kernel

theorem test_integer_lanes :
    (lands (.iadd 0 0) (onWord (brickWord 0x60 0xC 0 2 0x3F 3 0)) 3 4)
    ∧ (lands (.isub 0 0) (onWord (brickWord 0x61 0xC 0 1 0x3F 3 0)) 3 0xFFFFFFFE)
    ∧ (lands (.imul 0 0) (onWord (brickWord 0x62 0xC 0 2 0x3F 3 0)) 3 0xFFFFFFFB)
    ∧ (lands (.andOp 0 0) (onWord (brickWord 0x63 0xC 0 1 0x3F 3 0)) 3 5)
    ∧ (lands (.orOp 0 0) (onWord (brickWord 0x64 0xC 0 1 0x3F 3 0)) 3 7)
    ∧ (lands (.xorOp 0 0) (onWord (brickWord 0x65 0xC 0 1 0x3F 3 0)) 3 2)
    ∧ (lands (.shl 0 0) (onWord (brickWord 0x66 0xC 2 0 0x3F 3 0)) 3 0xFFFFFFE0)
    ∧ (lands (.shr 0 0) (onWord (brickWord 0x67 0xC 2 0 0x3F 3 0)) 3 0x07FFFFFF)
    ∧ (lands (.sra 0 0) (onWord (brickWord 0x68 0xC 2 0 0x3F 3 0)) 3 0xFFFFFFFF)
    ∧ (lands (.imin 0 0) (onWord (brickWord 0x69 0xC 0 2 0x3F 3 0)) 3 0xFFFFFFFF)
    ∧ (lands (.imax 0 0) (onWord (brickWord 0x6A 0xC 0 2 0x3F 3 0)) 3 5)
    ∧ (lands (.mov 0 0) (onWord (brickWord 0x6C 0xC 1 0x3F 0x3F 3 0)) 3 7) := by decide +kernel

/-- A Brick that runs the word `w` with BF16 1.5 and 2.0 in lane 0 of its registers, FP32 −2.0 in register 2. -/
def onFloat (w : W64) : State := brickRuns 0 (brickAt w 0x3FC00000 0x40000000 0xC0000000)

theorem test_element_lanes :
    (lands (.add 0 0) (onFloat (brickWord 0x31 0 0 1 0x3F 3 0)) 3 0x40600000)
    ∧ (lands (.sub 0 0) (onFloat (brickWord 0x32 0 0 1 0x3F 3 0)) 3 0xBF000000)
    ∧ (lands (.mul 0 0) (onFloat (brickWord 0x33 0 0 1 0x3F 3 0)) 3 0x40400000)
    ∧ (lands (.fma 0 0) (onFloat (brickWord 0x30 0 0 1 2 3 0)) 3 0x3F800000)
    ∧ (lands (.neg 0 0) (onFloat (brickWord 0x36 0 0 0x3F 0x3F 3 0)) 3 0x80000000BFC00000)
    ∧ (lands (.abs 0 0) (onFloat (brickWord 0x37 0 2 0x3F 0x3F 3 0)) 3 0x40000000)
    ∧ (lands (.min 0 0) (onFloat (brickWord 0x34 0 0 2 0x3F 3 0)) 3 0xC0000000)
    ∧ (lands (.max 0 0) (onFloat (brickWord 0x35 0 0 2 0x3F 3 0)) 3 0x3FC00000)
    ∧ (lands (.sel 0 0) (onFloat (brickWord 0x39 0 0 1 2 3 0)) 3 0x3FC00000) := by decide +kernel

theorem test_control :
    (after (.nop 0 0) (onWord (brickWord 0 0 0x3F 0x3F 0x3F 0x3F 0)) (fun t => decide (((t.brick 0 0).ctx 0).fire = 1 ∧ (t.brick 0 0).pend = [])))
    ∧ (lands (.jnz 0 0) (onWord (brickWord 1 0 0 0x3F 0x3F 0x3F 9)) 0 4)
    ∧ (after (.jnz 0 0) (onWord (brickWord 1 0 0 0x3F 0x3F 0x3F 9)) (fun t => decide (((t.brick 0 0).ctx 0).ip = 9)))
    ∧ (after (.fold 0 0) (onWord (brickWord 2 0 0x3F 0x3F 0x3F 0x3F 1)) (fun t => decide ((t.brick 0 0).fold = some (1, 2))))
    ∧ (after (.stop 0 0) (onWord (brickWord 3 0 0x3F 0x3F 0x3F 0x3F 0)) (fun t => (t.brick 0 0).stopped))
    ∧ (lands (.ldi 0 0) (onWord (brickWord 0x6D 0xC 0x3F 0x3F 0x3F 3 0)) 3 (BitVec.ofInt 64 (-1)))
    ∧ (after (.cst 0 0) (onWord (brickWord 0x71 0 0 1 0x3F 0x3F 2)) (fun t => decide (((t.brick 0 0).settle 100).cubbyOf 7 = 7))) := by decide +kernel

theorem test_accumulators :
    (after (.macz 0 0) (onWord (brickWord 0x11 0xA 0 1 0x3F 0x3F 0)) (fun t => decide (((t.brick 0 0).settle 100).accOf 0 = 35)))
    ∧ (after (.dotz 0 0) (onWord (brickWord 0x13 0xA 0 2 0x3F 0x3F 0)) (fun t => decide (((t.brick 0 0).settle 100).accOf 0 = BitVec.ofInt 32 (-5)))) := by decide +kernel

/-- A result on its way: register 3 takes 9 at the end of step 4, checked as `inj` says. -/
def resultAt (inj : Nat) : Pend := { id := 0, land := 4, ctx := 0, op := 0x60, wait := 0, delay := 0, inj := inj, ws := [.reg 3 (~~~ 0) 9] }

/-- A Brick at step `now` with one result on its way. -/
def resultState (inj now : Nat) : State :=
  ((inSuite0 { suite0 0 2 with now := now }).setBrick 0 0 { brickAt (brickWord 0x60 0xC 3 1 0x3F 4 0) 5 7 0 with pend := [resultAt inj], due := now })

theorem test_results_land :
    (((resultState 0 4).turn 0 0 0x60).map (fun t => t.br.reg 3) = some 0)
    ∧ (((resultState 0 5).turn 0 0 0x60).map (fun t => t.br.reg 3) = some 9)
    ∧ (after (.instructionResult 0 0 0) (resultState 0 5) (fun t => decide ((t.brick 0 0).reg 3 = 9 ∧ (t.brick 0 0).pend = [])))
    ∧ (after (.instructionResult 0 0 1) (resultState 0 5) (fun t => decide ((t.brick 0 0).reg 3 = 0) && (t.brick 0 0).err && tst (t.rd (rp .cvu 0) 0x028) 1))
    ∧ (after (.instructionResult 0 0 2) (resultState 0 5) (fun t => decide ((t.brick 0 0).reg 3 = 0) && (t.brick 0 0).err && tst (t.rd (rp .cvu 0) 0x028) 2)) := by decide +kernel

/-- A Brick that has folded to context 1 and goes on there from step 2. -/
def foldState (now : Nat) (valid : Bool) : State :=
  (inSuite0 { suite0 0 2 with now := now }).setBrick 0 0
    { brickAt (brickWord 0x60 0xC 0 1 0x3F 3 0) 5 7 0 with fold := some (1, 2), ctxs := [(1, { Ctx.empty with valid := valid })] }

theorem test_window_and_fold :
    (after (.brkWinWrite 0 31 9) roomOn0 (fun t => decide ((t.brick 0 0).reg 31 = 9)))
    ∧ (after (.brkWinWrite 0 31 9) (roomOn0.wrF (rp .brk 0) 0x088 2 0 1) (fun t => decide ((t.brick 0 0).accOf 62 = 9 ∧ (t.brick 0 0).accOf 63 = 0)))
    ∧ (after (.brkWinWrite 0 255 9) (roomOn0.wrF (rp .brk 0) 0x088 2 0 2) (fun t => decide ((t.brick 0 0).cubbyOf 255 = 9)))
    ∧ (after (.brkWinWrite 0 131 9) (roomOn0.wrF (rp .brk 0) 0x088 2 0 3) (fun t => decide ((t.brick 0 0).laneSet 3 = 9)))
    ∧ (turnsAway (.brkWinWrite 0 0 9) busyRoom (rp .brk 0) 8)
    ∧ (idles (.brkWinWrite 0 0 9) State.reset)
    ∧ (after (.foldResume 0 0) (foldState 2 true) (fun t => decide ((t.brick 0 0).active = 1 ∧ (t.brick 0 0).fold = none ∧ (t.brick 0 0).due = 2)))
    ∧ (after (.foldResume 0 0) (foldState 2 false) (fun t => (t.brick 0 0).err && tst (t.rd (rp .arr 0) 0x028) 5))
    ∧ (idles (.foldResume 0 0) (foldState 1 true)) := by decide +kernel

/-- Room Latch `n` of kind `kind` with a target, holding `l`. -/
def latchState (n kind target : Nat) (l : Latch) : State :=
  (roomOn0.wr (rp .lch 0) (0x400 + 16 * n) (put 63 62 kind ||| put 23 0 target)).setLatch 0 n l

/-- A barrier of two participants, 0 and 72, `arrived` of them here. -/
def barrier (arrived : Nat) : Latch := { Latch.clear with mask := 2 ^ 72 + 1, arrived := arrived }

theorem test_latch_operations :
    (after (.latchClear false 0 63) (latchState 63 3 0 { Latch.clear with flag := true }) (fun t => tst (t.rd (rp .lch 0) 0x028) 4 && !(t.latch 0 63).flag))
    ∧ (after (.latchSet false 0 63) (latchState 63 3 0 .clear) (fun t => (t.latch 0 63).flag && decide ((t.latch 0 63).gen = 1)))
    ∧ (after (.latchAdvance false 0 5) (latchState 5 1 0 { barrier 1 with early := 2 ^ 72 }) (fun t => decide (t.latch 0 5 = { barrier (2 ^ 72) with gen := 1 })))
    ∧ (after (.arriveAs false 0 5 72) (latchState 5 1 0 (barrier 0)) (fun t => decide ((t.latch 0 5).arrived = 2 ^ 72)))
    ∧ (after (.resetArrivals false 0 5) (latchState 5 1 0 (barrier 1)) (fun t => decide ((t.latch 0 5).arrived = 0)))
    ∧ (after (.latchSet true 0 255) (State.reset.setGl 255 { Latch.clear with flag := true }) (fun t => tst (t.rd (glPage 255) 0x028) 4 && (t.gl 255).flag))
    ∧ (after (.latchClear true 0 255) (State.reset.setGl 255 { Latch.clear with flag := true }) (fun t => !(t.gl 255).flag))
    ∧ (after (.glatch 3) ((State.reset.wrF (glPage 3) (0x400 + 72) 63 62 2).setGl 3 { Latch.clear with value := 3 }) (fun t => decide (t.gl 3 = { Latch.clear with value := 2, gen := 1 }))) := by decide +kernel

theorem test_latch_arrivals :
    (after (.lchArrive 0 5 80 0) (latchState 5 1 0 { Latch.clear with mask := 2 ^ 80 + 2 ^ 81 }) (fun t => decide ((t.latch 0 5).arrived = 2 ^ 80 ∧ (t.latch 0 5).gen = 0)))
    ∧ (after (.lchArrive 0 5 81 0) (latchState 5 1 0 { Latch.clear with mask := 2 ^ 80 + 2 ^ 81, arrived := 2 ^ 80 }) (fun t => decide ((t.latch 0 5).arrived = 0 ∧ (t.latch 0 5).gen = 1)))
    ∧ (after (.lchArrive 0 5 127 0) (latchState 5 2 2 .clear) (fun t => decide ((t.latch 0 5).value = 1)))
    ∧ (turnsAway (.lchArrive 0 5 80 0) roomOn0 (rp .lch 0) 3)
    ∧ (after (.latchConfigure false 0 63 (put 63 62 1 ||| put 23 0 7)) (latchState 63 3 0 { Latch.clear with flag := true, gen := 4, mask := 3 })
    (fun t => decide (t.latch 0 63 = { Latch.clear with mask := 3 } ∧ t.latchKind 0 63 = 1 ∧ t.latchTarget 0 63 = 7)))
    ∧ (after (.latchTimeout false 0 5) (latchState 5 1 0 { barrier 0 with waits := [⟨.brick 3, 1, 0, false⟩] })
    (fun t => tst (t.rd (rp .lch 0) 0x028) 1 && decide ((t.latch 0 5).waits = [] ∧ (t.brick 0 3).lwait = .ended)))
    ∧ (idles (.latchTimeout false 0 5) roomOn0) := by decide +kernel

/-- A running Brick with the word `w`, and Latch 5 of kind `kind`. -/
def latchBrick (mode kind : Nat) (w : W64) (l : Latch) : State :=
  ((brickRuns mode (brickAt w 0 0 0)).wr (rp .lch 0) 0x450 (put 63 62 kind)).setLatch 0 5 l

theorem test_latch_instructions :
    (fires (latchBrick 0 1 (brickWord 4 0 0x3F 0x3F 0x3F 0x3F 5) (barrier 0)) 0 0 4)
    ∧ (after (.lsig 0 0) (latchBrick 0 1 (brickWord 4 0 0x3F 0x3F 0x3F 0x3F 5) (barrier 0)) (fun t => decide ((t.latch 0 5).arrived = 1)))
    ∧ (fires (latchBrick 0 3 (brickWord 5 0 0x3F 0x3F 0x3F 0x3F 5) { Latch.clear with flag := true }) 0 0 5)
    ∧ (after (.lwait 0 0) (latchBrick 0 3 (brickWord 5 0 0x3F 0x3F 0x3F 0x3F 5) { Latch.clear with flag := true }) (fun t => decide (((t.brick 0 0).ctx 0).fire = 1)))
    ∧ (after (.lwait 0 0) (latchBrick 1 1 (brickWord 5 0 0x3F 0x3F 0x3F 0x3F 5) (barrier 0)) (fun t => decide ((t.brick 0 0).lwait = .waiting ∧ (t.latch 0 5).waits.map Wait.who = [.brick 0]))) := by decide +kernel

/-- A token waits at the switch's north input for input queue 3, which holds `held`. -/
def laneState (held : List QTok) : State :=
  (inSuite0 { suite0 0 2 with now := 1 }).setBrick 0 0
    { Brick.empty with lanes := [(0, put 31 28 1)], inp := [⟨1, mkToken 9 0 false, 1, false⟩], iq := smSet [] [] 3 held }

theorem test_lane_delivers :
    ((laneState []).dests 0 0 ((laneState []).brick 0 0) 1 0 = [7])
    ∧ (after (.laneTokenArrive 0 0 1 0) (laneState []) (fun t => decide ((t.brick 0 0).iqOf 3 = [⟨mkToken 9 0 false, 1⟩] ∧ (t.brick 0 0).inp = [])))
    ∧ (after (.laneTokenArrive 0 0 1 0) (laneState (List.replicate 8 ⟨mkToken 1 0 false, 0⟩)) (fun t => tst (t.rd (rp .brk 0) 0x028) 3 && decide (((t.brick 0 0).iqOf 3).length = 8))) := by decide +kernel
/-! ### Suites -/

/-- A command stream entry with opcode `op` and the flag bits `lo` in its first word, its second word `w1`. -/
def entryOf (op lo prog : Nat) (w1 : W64) : CsEntry := ⟨[put 63 56 op ||| BitVec.ofNat 64 lo, w1, 0, 0, 0, 0, 0, 0], prog, 0, none⟩

/-- Suite 0 in state `run` with one entry in a ring of 16 entries. -/
def streamState (run : Nat) (e : CsEntry) : State :=
  (inSuite0 { suite0 0 run with entries := [e] }).wr (rp .hrt 0) 0x0A0 (put 63 63 1 ||| put 5 0 4)

theorem test_stream_entries :
    ((entryOf 0 0 1 0).op = 0)
    ∧ (after (.csNop 0) (streamState 1 (entryOf 0 0 1 0)) (fun t => decide ((t.suite 0).map Suite.entries = some [] ∧ t.rd (rp .hrt 0) 0x0B0 = 1)))
    ∧ (after (.csNop 0) (streamState 1 (entryOf 0 (2 ^ 48) 1 0)) (fun t => tst (t.rd (rp .hrt 0) 0x028) 3))
    ∧ (after (.csFence 0) (streamState 1 (entryOf 5 0 1 0)) (fun t => decide ((t.suite 0).map Suite.entries = some [])))
    ∧ (idles (.csFence 0) (streamState 2 (entryOf 5 0 1 0)))
    ∧ (after (.csLatchWait 0) (streamState 1 (entryOf 6 0 3 0)) (fun t => decide ((t.suite 0).map Suite.entries = some [])))
    ∧ (after (.csHalt 0) (streamState 4 (entryOf 7 0 1 9)) (fun t => decide (t.rdF (rp .hrt 0) 0x0C0 63 32 = 9 ∧ t.rdF (rp .hrt 0) 0x0C0 15 8 = 6)))
    ∧ (after (.csHalt 0) (streamState 2 (entryOf 7 0 1 9)) (fun t => decide ((t.suite 0).map (fun u => u.halts.map HaltReq.code) = some [0x503]))) := by decide +kernel

theorem test_stream_unit :
    ((inSuite0 (suite0 0 1)).isLead 0 = true)
    ∧ (after (.csTailWrite 0 (BitVec.ofNat 64 0x1FFFF)) (inSuite0 (suite0 0 1)) (fun t => decide (t.rd (rp .hrt 0) 0x0B8 = 0xFFFF)))
    ∧ (after (.commandUnitDisable 0 3) (streamState 1 (entryOf 0 0 0 0)) (fun t => decide (t.rd (rp .hrt 0) 0x0A0 = 3 ∧ (t.suite 0).map Suite.entries = some [])))
    ∧ (after (.commandUnitEnable 0 3) (inSuite0 (suite0 0 1)) (fun t => decide (t.rd (rp .hrt 0) 0x0A0 = put 63 63 1 ||| 3)))
    ∧ (after (.entryIssue 0) (streamState 1 (entryOf 0 0xFFFFFFFFFFFF 0 0)) (fun t => decide ((t.suite 0).map (fun u => u.entries.map CsEntry.prog) = some [1]))) := by decide +kernel

theorem test_entry_fetch :
    (((streamState 1 (entryOf 0 0 0 0)).wr (rp .hrt 0) 0x0A8 0x800000000000).decodeEa 0x800000000000 = .host 0)
    ∧ (after (.entryFetch 0 [1, 2, 3, 4, 5, 6, 7, 8] false []) (((streamState 1 (entryOf 0 0 0 0)).wr (rp .hrt 0) 0x0A8 0x800000000000).wr (rp .hrt 0) 0x0B8 2)
    (fun t => decide ((t.suite 0).map (fun u => (u.entries.length, u.fetched)) = some (2, 1)))) := by decide +kernel

theorem test_run :
    ((entryOf 2 (2 ^ 48) 1 0).op = 2 ∧ ((streamState 1 (entryOf 2 (2 ^ 48) 1 0)).suite 0).map (fun u => (u.run, u.load, u.sweep.st)) = some (1, none, 0))
    ∧ (after (.runEnd 0) (inSuite0 { suite0 0 2 with step := 5, runSteps := 5 }) (fun t => decide ((t.suite 0).map Suite.run = some 1)))
    ∧ (idles (.runEnd 0) (inSuite0 { suite0 0 2 with step := 4, runSteps := 5 })) := by decide +kernel

/-- A load of slot 2 that has come to `phase`. -/
def loadOf (phase : Nat) : LoadSt := ⟨2, false, false, 4, 9, [0, 0, 0, 0, 0, 0, 0], none, phase, []⟩

theorem test_loads :
    (after (.csLoad 0) (inSuite0 { suite0 0 2 with entries := [entryOf 1 (2 * 2 ^ 52 + 9) 1 0] }) (fun t => decide ((t.suite 0).map (fun u => u.load.map LoadSt.slot) = some (some 2))))
    ∧ (idles (.loadOutcome 0) (inSuite0 { suite0 1 1 with now := 259, load := some (loadOf 2) }))
    ∧ ((loadOf 2).c + 2 * State.reset.fl = 260 ∧ (suite0 1 1).run ≠ 2 ∧ (loadOf 2).refused = none)
    ∧ ((suite0 0 1).rooms.all (fun r => decide (r < 16384)) = true) := by decide +kernel

/-- Room 0 reading the lines of a load, `left` of them to come. -/
def loaderState (left : Nat) : State :=
  (inSuite0 { suite0 1 1 with now := 4, load := some (loadOf 3) }).modRoom 0 fun r =>
    { r with loader := some ⟨2, 0, left, 0, [], none, 0, false, 0, 0, false⟩, quarters := 15 }

theorem test_loader :
    ((loaderState 264).loaderTurn 0 { suite0 1 1 with now := 4, load := some (loadOf 3) } ⟨2, 0, 264, 0, [], none, 0, false, 0, 0, false⟩ = true)
    ∧ ((loadOf 3).slots = [2])
    ∧ (after (.loadEffective 0) ((loaderState 0).modRoom 0 fun r => { r with loader := some ⟨2, 0, 0, 0, List.replicate 2112 7, some 4, 0, false, 0, 0, false⟩ })
    (fun t => decide (((t.brick 0 63).ctx 2).valid = true ∧ (t.brick 0 63).laneSet 2 = 7 ∧ ((t.brick 0 63).ctx 2).word 31 = 7) && tst (t.rd (rp .arr 0) 0x028) 3)) := by decide +kernel

/-- A running Suite at its check point, which expects `digest`. -/
def checkState (digest : W64) : State :=
  (inSuite0 { suite0 0 2 with step := 3 }).modRoom 0 fun r => { r with checks := [⟨3, digest, 0⟩] }

theorem test_check_point :
    ((checkState 5).suiteOf 0 = some 0 ∧ (checkState 5).isArmed (rp .arr 0) 4 = false)
    ∧ (((checkState 5).room 0).checks[((checkState 5).room 0).checkIdx]? = some ⟨3, 5, 0⟩)
    ∧ (idles (.checkPoint 0) ((checkState 5).setSuite 0 { suite0 0 2 with step := 2 })) := by decide +kernel

theorem test_stalls :
    (after (.stallReq 0) (inSuite0 { suite0 0 2 with clk := 9, reqs := [⟨6, 3, 0, false, 9⟩] }) (fun t => decide ((t.suite 0).map Suite.msgs = some [⟨false, 6, 3, 0, 9 + t.fl⟩])))
    ∧ (after (.stallReq 0) (inSuite0 { suite0 0 2 with clk := 9, lastIss := 6, reqs := [⟨6, 3, 0, false, 9⟩] }) (fun t => decide ((t.suite 0).map Suite.msgs = some [])))
    ∧ (after (.freeze 0) (inSuite0 { suite0 0 2 with msgs := [⟨false, 6, 3, 4, 9⟩] }) (fun t => decide ((t.suite 0).map Suite.wins = some [⟨6, 3, 9, some 13⟩])))
    ∧ (after (.release 0) (inSuite0 { suite0 0 2 with msgs := [⟨true, 6, 3, 0, 20⟩], wins := [⟨6, 3, 9, none⟩] }) (fun t => decide ((t.suite 0).map Suite.wins = some [⟨6, 3, 9, some 20⟩])))
    ∧ (after (.fixedStallEnd 0) (inSuite0 { suite0 0 2 with clk := 13, wins := [⟨0, 3, 9, some 13⟩] }) (fun t => decide ((t.suite 0).map Suite.wins = some [])))
    ∧ (after (.pause 0) (inSuite0 (suite0 0 2)) (fun t => decide ((t.suite 0).map (fun u => u.reqs.map StallReq.release) = some [false])))
    ∧ (after (.resume 0) (inSuite0 (suite0 0 2)) (fun t => decide ((t.suite 0).map (fun u => u.reqs.map StallReq.release) = some [true])))
    ∧ (idles (.pause 1) (inSuite0 (suite0 0 2))) := by decide +kernel

theorem test_halts :
    (after (.halt 0) (inSuite0 { suite0 0 2 with clk := 200, halts := [⟨7, 0, 1, 0x0101, 0⟩] }) (fun t => decide ((t.suite 0).map (fun u => u.haltAt.map Prod.fst) = some (some (7 + 2 * t.fl)))))
    ∧ (tst (((inSuite0 (suite0 0 2)).wr (gp .swpg) (swpgSuite 0) 0).rd (gp .swpg) (swpgSuite 0)) 63 = false ∧ tst ((inSuite0 (suite0 0 2)).rd (rp .hrt 0) 0x0A0) 63 = false
    ∧ ((inSuite0 (suite0 0 2)).restart 0).st = 0 ∧ (suite0 0 2).lead = 0)
    ∧ (idles (.suiteHalt 0) (inSuite0 { suite0 0 2 with clk := 199, haltAt := some (200, ⟨7, 0, 1, 0x0101, 0⟩) })) := by decide +kernel

theorem test_suite_registers :
    (after (.arrSeedWrite 0 9) (inSuite0 (suite0 0 1)) (fun t => decide ((t.suite 0).map Suite.regMsgs = some [(0x0A0, 9)])))
    ∧ (turnsAway (.arrSeedWrite 0 9) (inSuite0 (suite0 0 2)) (rp .arr 0) 6)
    ∧ (after (.suiteReg 0) (inSuite0 { suite0 0 1 with regMsgs := [(0x0A0, 9)] }) (fun t => decide ((t.suite 0).map Suite.seed = some 9)))
    ∧ (after (.orReduce 0 false) (inSuite0 { suite0 0 1 with now := 600, load := some (loadOf 1) }) (fun t => decide ((t.suite 0).map (fun u => u.load.map LoadSt.phase) = some (some 2))))
    ∧ (after (.orReduce 0 true) State.reset (fun t => decide (t.busData = 0))) := by decide +kernel

theorem test_flue :
    (after (.fluLatencyWrite 128) State.reset (fun t => decide (t.fl = 128)))
    ∧ (after (.fluLatencyWrite 256) State.reset (fun t => decide (t.fl = 256)))
    ∧ (turnsAway (.fluLatencyWrite 127) State.reset (gp .flug) 1)
    ∧ (turnsAway (.fluLatencyWrite 257) State.reset (gp .flug) 1)
    ∧ (after (.heartbeat 5 0) { State.reset with rim := { Rim.empty with hbMiss := [(5, 2)] } } (fun t => decide (t.rim.hbMiss = [])))
    ∧ (after (.heartbeat 5 (2 ^ 38)) State.reset (fun t => decide (t.rdF (rp .flu (t.corridorInst 5)) 0x098 63 0 = 1)))
    ∧ (after (.fluWatchdog 5) State.reset (fun t => decide (t.rim.hbMiss = [(5, 1)])))
    ∧ (after (.fluWatchdog 5) { State.reset with rim := { Rim.empty with hbMiss := [(5, State.reset.wdMiss - 1)] } } (fun t => tst (t.rd (gp .flug) 0x028) 0 && decide (t.rim.hbMiss = []))) := by decide +kernel

/-! ### Registers and events -/

/-- Room 0 powered under firmware, its Wing's Chimney regulating and a remap written. -/
def ready : State :=
  let s := (roomOn0.wr (gp .srvg) 0x080 (put 63 63 1 ||| put 62 60 3)).wr (pwrw 0) 0x080 (put 63 61 2)
  { s with rim := { s.rim with mapOk := true } }

theorem test_register_reach :
    (ready.decodeBar0 0x400080A0 = some ⟨rp .ecc 0, 2, 0, 0x0A0⟩)
    ∧ (ready.answers ⟨rp .ecc 0, 2, 0, 0x0A0⟩ = true ∧ ready.silent (rp .ecc 0) = false ∧ ready.busWild (rp .ecc 0) = false ∧ ready.darkPage (rp .ecc 0) = false)
    ∧ (after (.eventInject 0x40008038 1) ready (fun t => t.isArmed (rp .ecc 0) 0))
    ∧ (after (.eventClear 0x40008028 1) (ready.wr (rp .ecc 0) 0x028 3) (fun t => decide (t.rd (rp .ecc 0) 0x028 = 2)))
    ∧ (after (.registerWrite 0x40008028 2 1) ready (fun t => tst (t.rd (gp .pch) 0x028) 0))
    ∧ (after (.registerWrite 0x4000802C 8 1) ready (fun t => tst (t.rd (gp .pch) 0x028) 0))
    ∧ (after (.rcRead 0x40008028 8) (ready.wr (rp .ecc 0) 0x028 3) (fun t => decide (t.busData = 3 ∧ t.rd (rp .ecc 0) 0x028 = 3))) := by decide +kernel

/-! ### Shelf -/

/-- Running Suite 0 with one access to bank 0 placed in this step. -/
def bankState (rd : List (Nat × Nat)) (wr : List (Nat × W64)) : State :=
  let s := (inSuite0 (suite0 0 2)).wr (rp .shf 0) 0x080 (put 7 4 15)
  (s.stWord (shelfEA 0 0) 0x77).modRoom 0 fun r => { r with reqs := [⟨0, 0, 0, rd, wr, [], 0, false, false, 0⟩], quarters := 15 }

theorem test_shelf_banks :
    ((bankState [] []).shelfDark 0 0 = false)
    ∧ (idles (.shelfBankStep 0 1 0 false) (bankState [(3, 0)] []))
    ∧ (after (.shelfBankStep 0 0 0 false) (bankState [] [(8, 9)]) (fun t => decide (t.ldWord (shelfEA 0 8) = 9 ∧ t.ldWord (shelfEA 0 0) = 0x77 ∧ (t.room 0).reqs = [])))
    ∧ (after (.shelfBankStep 0 0 0 false) ((bankState [(3, 0)] []).modRoom 0 fun r => { r with reqs := r.reqs ++ [⟨1, 0, 0, [], [(8, 9)], [], 0, false, false, 0⟩] })
    (fun t => tst (t.rd (rp .shf 0) 0x028) 0 && decide (t.ldWord (shelfEA 0 8) = 0 ∧ (t.suite 0).map (fun u => u.halts.length) = some 1))) := by decide +kernel

theorem test_shelf_upkeep :
    (after (.eccWriteBack 0) (roomOn0.modRoom 0 fun r => { r with wbacks := [4, 5] }) (fun t => decide ((t.room 0).wbacks = [5])))
    ∧ (after (.shelfScrub 0 [] []) ((inSuite0 { suite0 0 2 with clk := 4096 }).wrF (rp .ecc 0) 0x090 63 63 1) (fun t => decide (t.rdF (rp .ecc 0) 0x090 11 0 = 1)))
    ∧ (after (.shfQctrlWrite 0 1) (roomOn0.wr (rp .shf 0) 0x080 0) (fun t => decide (t.rdF (rp .shf 0) 0x088 4 0 = 1) && tst (t.rd (rp .shf 0) 0x080) 4))
    ∧ (turnsAway (.shfQctrlWrite 0 1) busyRoom (rp .shf 0) 5)
    ∧ (after (.quarterRampDone 0 3) ((roomOn0.wr (rp .shf 0) 0x080 8).stWord (shelfEA 0 0x2FFFF8) 5) (fun t => decide (t.ldWord (shelfEA 0 0x2FFFF8) = 0)))
    ∧ (after (.shfRetire 0 0x8F) (roomOn0.wr (rp .shf 0) 0x080 0) (fun t => decide ((t.room 0).retiring = some 15)))
    ∧ (after (.bankCopyDone 0 []) (roomOn0.modRoom 0 fun r => { r with retiring := some 15 }) (fun t => decide ((t.room 0).retiring = none ∧ t.rdF (rp .shf 0) 0x080 11 8 = 15))) := by decide +kernel
/-! ### Events, power and heat -/

/-- Event source 5 enabled with vector 7, and pending or not. -/
def srcState (pending : Bool) : State :=
  let s := State.reset.wr (gp .pche) 0x428 (put 63 63 1 ||| put 10 0 7)
  { s with rim := { s.rim with msix := [(5, 1)], msixTab := smSetAll 0 s.rim.msixTab [(31, 0)], msiWait := if pending then [5] else [] } }

theorem test_event_vectors :
    ((srcState false).srcPending 5 = false ∧ (srcState false).rdF (gp .pche) 0x0A8 15 0 = 0)
    ∧ (idles (.pcheArm 5) (srcState false))
    ∧ (after (.holdoffExpiry 5) (srcState false) (fun t => decide (t.rim.msix = [])))
    ∧ (idles (.holdoffExpiry 5) { srcState false with rim := { (srcState false).rim with msix := [(5, 9)] } }) := by decide +kernel

/-- Suite 0 with a Stoke in state `st`. -/
def stokeState (st : Nat) : State := inSuite0 { suite0 0 1 with stoke := [⟨0, 20, 100, st, false⟩] }

theorem test_stokes :
    (after (.csStoke 0) (inSuite0 { suite0 0 1 with entries := [entryOf 3 0 1 (put 23 8 20 ||| put 7 0 241)] })
    (fun t => decide ((t.suite 0).map Suite.stoke = some [⟨0, 20, 240, 1, false⟩] ∧ t.out = [.chimney 0 1 240])))
    ∧ (after (.chimneyReady 0) (stokeState 1) (fun t => decide ((t.suite 0).map (fun u => u.stoke.map StokeSt.st) = some [2]) && (t.dmp 0).ready))
    ∧ (after (.dmpStokeLate 0) { stokeState 1 with et := usToEt 20 } (fun t => tst (t.rd (dmpw 0) 0x028) 1))
    ∧ (idles (.dmpStokeLate 0) { stokeState 1 with et := usToEt 20 - 1 })
    ∧ (after (.stokeEnd 0) { stokeState 2 with et := usToEt 1020 } (fun t => decide ((t.suite 0).map Suite.stoke = some [])))
    ∧ (idles (.stokeEnd 0) { stokeState 2 with et := usToEt 20 - 1 })
    ∧ (after (.floorHoldExpiry 0) { State.reset.setDmp 0 { WingDmp.rest with held := some 8 } with et := 8 } (fun t => decide ((t.dmp 0).held = some 0)))
    ∧ (idles (.floorHoldExpiry 0) { State.reset.setDmp 0 { WingDmp.rest with held := some 8 } with et := 7 })
    ∧ (after (.profileRise 0 9 4095) (inSuite0 (suite0 0 2)) (fun t => decide ((t.dmp 0).target = 4095 * 64000 ∧ (t.suite 0).map Suite.prof = some [(9, 4095)]))) := by decide +kernel

theorem test_power_budget :
    (after (.capWrite 8000) State.reset (fun t => decide (t.rd dmpg 0x080 = 8000)))
    ∧ (after (.capWrite 27000) State.reset (fun t => decide (t.rd dmpg 0x080 = 27000)))
    ∧ (turnsAway (.capWrite 7999) State.reset dmpg 3)
    ∧ (turnsAway (.capWrite 27001) State.reset dmpg 3)
    ∧ (turnsAway (.suiteBudgetWrite 0 (put 15 0 5 ||| put 31 16 4)) State.reset dmpg 3)
    ∧ (after .powerWindow { ((State.reset.wr pwrg 0x080 4800).wr pwrg 0x088 (put 15 0 200 ||| put 31 16 400)) with et := 156250 } (fun t => decide (t.rdF dmpg 0x088 15 0 = 9000 ∧ t.rim.winEt = 156250)))
    ∧ (after .powerWindow { ((State.reset.wr pwrg 0x080 4800).wr pwrg 0x088 (put 15 0 800 ||| put 31 16 401)) with et := 156250 } (fun t => decide (t.rdF dmpg 0x088 15 0 = 26800)))
    ∧ (idles .powerWindow { State.reset with et := 156249 })
    ∧ (after (.damper 0) ((inSuite0 (suite0 0 2)).wr dmpg 0x408 (put 63 61 3)) (fun t => decide ((t.suite 0).map Suite.theta = some 64))) := by decide +kernel

theorem test_heat :
    (after (.thermalSample 0 1759) roomOn0 (fun t => decide (t.rdF (pwr 0) 0x090 15 0 = 1759 ∧ t.rdF (pwr 0) 0x090 31 16 = 1759 ∧ t.pwrState 0 = 2)))
    ∧ (after (.thermalSample 0 (-1)) roomOn0 (fun t => decide (t.rdF (pwr 0) 0x090 15 0 = 65535)))
    ∧ (after (.thermalSample 0 1760) (State.reset.wr (pwr 0) 0x080 (put 63 61 1)) (fun t => decide (t.pwrState 0 = 3) && tst (t.rd (dmpw 0) 0x028) 3)) := by decide +kernel

/-- Draught on with E = 10,000 W, one peer on stream 3 of job 4. -/
def draughtState : State :=
  ((((State.reset.wr dmpg 0x0A0 (put 63 63 1 ||| put 47 32 4 ||| put 15 0 100)).wr dmpg 0x0A8 (put 63 32 20000 ||| put 16 0 2)).wr dmpg 0x0B0 (put 63 32 0 ||| put 31 0 15000)).wr dmpg 0x0C0 (put 63 32 10000)).wr
    dmpg 0x100 (put 63 63 1 ||| put 19 0 3)

theorem test_draught :
    (draughtState.drOn = true ∧ draughtState.drE = 10000 ∧ drSplit (put 63 32 20000 ||| put 16 0 2) = 10000)
    ∧ (idles (.draughtEnable (put 63 63 1)) draughtState)
    ∧ (after (.draughtEnable 0) draughtState (fun t => !t.drOn))
    ∧ (after (.draughtEnable (put 63 63 1 ||| put 47 32 4)) ((State.reset.wr dmpg 0x0A8 (put 63 32 20000 ||| put 16 0 2)).wr dmpg 0x0B0 (put 31 0 15000)) (fun t => t.drOn && decide (t.drE = 10000)))
    ∧ (turnsAway (.draughtEnable (put 63 63 1)) ((State.reset.wr dmpg 0x0A8 (put 63 32 20000 ||| put 16 0 1)).wr dmpg 0x0B0 (put 31 0 15000)) dmpg 3)
    ∧ (turnsAway (.drTotalWrite (put 63 32 5)) State.reset dmpg 3)
    ∧ (turnsAway (.drTotalWrite (put 63 32 5 ||| put 16 0 65537)) State.reset dmpg 3)
    ∧ (after (.drTotalWrite (put 63 32 30000 ||| put 16 0 3)) draughtState (fun t => decide (t.drE = 10000)))
    ∧ (after .draughtPeriod { ((draughtState.wr dmpg 0x100 0).wrF dmpg 0x0A0 15 0 1) with et := 10 * draughtState.drPeriod } (fun t => decide (t.rim.drEt = t.et)))
    ∧ (idles .draughtPeriod State.reset) := by decide +kernel

/-! ### Sweep, restart, routing, roll call -/

theorem test_sweeps :
    (after (.csCheckpoint 0) (inSuite0 { suite0 0 2 with step := 7, entries := [entryOf 4 0xFFFFFFFFFFFF 1 0] }) (fun t => decide ((t.suite 0).map (fun u => (u.sweep.st, u.sweep.step, u.sweep.limit)) = some (1, 8, 100))))
    ∧ (idles (.sweepHold 0) (inSuite0 { suite0 0 2 with step := 7, sweep := { SweepSt.none with st := 1, step := 8 } }))
    ∧ (idles (.quiesceTimeout 0) (inSuite0 { suite0 0 2 with sweep := { SweepSt.none with st := 2, limit := 100 } }))
    ∧ (idles (.holdRelease 0) (inSuite0 { suite0 0 2 with clk := 8, sweep := { SweepSt.none with st := 4, rel := some 9 } }))
    ∧ (after (.preempt 0) (inSuite0 { suite0 0 2 with step := 7 }) (fun t => decide ((t.suite 0).map (fun u => (u.sweep.preempt, u.sweep.step)) = some (true, 8))))
    ∧ (turnsAway (.preempt 0) (inSuite0 (suite0 0 0)) swpg 6) := by decide +kernel

theorem test_restarts :
    (turnsAway (.sweepIn 0 0 1 0xFFFFFFFF) (inSuite0 (suite0 0 0)) swpg 6)
    ∧ (turnsAway (.sweepReturn 0 5) (inSuite0 (suite0 0 0)) swpg 6)
    ∧ (turnsAway (.swpgResume 0) (inSuite0 (suite0 0 0)) swpg 6)
    ∧ (turnsAway (.swpgHalt 0) State.reset swpg 6)
    ∧ (turnsAway (.swpgAbort 0) (inSuite0 (suite0 0 0)) swpg 6)
    ∧ (after (.swpgAbort 0) ((inSuite0 (suite0 0 0)).setRestart 0 { Restart.idle with st := 5 }) (fun t => decide (t.restart 0 = .idle)))
    ∧ (after (.swpgResume 0) (((inSuite0 (suite0 0 0)).wrF swpg (swpgSuite 0) 63 63 1).setRestart 0 { Restart.idle with st := 7 }) (fun t => (t.restart 0).armed))
    ∧ (idles .resumeEt (State.reset.wr swpg 0x090 9))
    ∧ (idles (.jobHalt 3) State.reset) := by decide +kernel

theorem test_routing :
    (rtVersion 0x100 = some 0 ∧ rtVersion 0x138 = some 1 ∧ rtVersion 0x200 = some 0 ∧ rtVersion 0x2F8 = some 1 ∧ rtLegal 0x138 0 = true ∧ rtLegal 0x138 0x78 = false ∧ State.reset.rtActive = 0 ∧ State.reset.rtDrained = true)
    ∧ (turnsAway (.routingTableWrite 0 0x100 0) State.reset (hal 0) 8)
    ∧ (turnsAway (.routingTableWrite 0 0x138 0x78) State.reset (hal 0) 8)
    ∧ (after (.routingTableWrite 0 0x138 0x80) State.reset (fun t => decide (t.rtWord 0 0x138 = 0x80 ∧ t.rtActive = 0)))
    ∧ (after .flip State.reset (fun t => decide (t.rim.flip = (1, 0)) && !t.rtDrained))
    ∧ (turnsAway .flip (State.reset.wr (gp .halg) 0x080 0) (gp .halg) 0)
    ∧ (idles .epochFlip State.reset)
    ∧ (after .epochFlip { State.reset with rim := { Rim.empty with flip := (1, 0) }, et := 1000 } (fun t => decide (t.rtActive = 1 ∧ t.rim.flip = (2, 1000))))
    ∧ (after .hallEpochDone { State.reset with rim := { Rim.empty with flip := (2, 5) } } (fun t => t.rtDrained && tst (t.rd (gp .halg) 0x028) 1)) := by decide +kernel

theorem test_roll_calls :
    (idles (.rollCallPeriod 0) State.reset)
    ∧ (idles (.rollCallTimeout 0) State.reset)
    ∧ (after (.rollCallTimeout 63) { State.reset.setRoll 63 ⟨5, 0, false, 0, 0, 0, true, false, none⟩ with et := usToEt State.reset.streamUs }
    (fun t => tst (t.rd (gp .yzlg) 0x028) 4 && !(t.roll 63).active))
    ∧ (after (.rollCallGo 0 5) State.reset (fun t => decide (t.rd (gp .yzlg) (rcA 0) = 5))) := by decide +kernel

/-! ### The Dumbwaiter -/

/-- Queue 0 of Room 0 enabled, of eight entries (SIZE 3) or as R219 codes it, with one descriptor word at its head. -/
def dwState (w0 : W64) : State :=
  let s := (((inSuite0 (suite0 0 1)).wr (rp .shf 0) 0x080 (put 7 4 15)).wr (rp .dwt 0) 0x100 (put 63 63 1 ||| put 27 24 3)).wr (rp .dwt 0) 0x110 1
  s.stWord (shelfEA 0 0) w0

theorem test_descriptors :
    (((dwState (put 63 56 1)).dwNext 0 0).map Prod.fst = some 0 ∧ dwOp [put 63 56 1] = 1)
    ∧ (turnsAway (.dwtQCfgWrite 0 0 0) (dwState 0) (rp .dwt 0) 2)
    ∧ (after (.dwtQCfgWrite 0 7 (put 63 63 1)) roomOn0 (fun t => tst (t.dwCfg 0 7) 63))
    ∧ (after (.dwtQTailWrite 0 0 2) (dwState 0) (fun t => decide (t.dwTail 0 0 = 2)))
    ∧ (turnsAway (.dwtQTailWrite 0 0 4095) (dwState 0) (rp .dwt 0) 1)
    ∧ (idles (.dwtQTailWrite 0 0 2) State.reset)
    ∧ (idles (.dwtCopy 0 1) (dwState 0))
    ∧ (idles (.descriptorComplete 0 0 false) ((dwState 0).setDwList 0 0 [⟨0, [], 0, 0, 1, 0, 2, [], [], none, false⟩])) := by decide +kernel

/-! ### The Hearth -/

/-- The Hearth of Room 0 running in Machine mode at the start of its Shelf, the word `w` there, x2 holding `a` and x3 holding 7. -/
def hearthState (w : W64) (a : W64) : State :=
  let s := (inSuite0 (suite0 0 1)).wr (rp .shf 0) 0x080 (put 7 4 15)
  (s.stWord (shelfEA 0 0) w).modHearth 0 fun h => { h with run := true, pc := BitVec.ofNat 64 (shelfEA 0 0), x := smSetAll 0 [] [(2, a), (3, 7)] }

/-- Whether the Hearth has `op` at its pc. -/
def hearthAt (s : State) (op : Rv) (bits : Nat) : Bool := s.hearthCan 0 && !s.isArmed (rp .cvu 0) 6 && decide ((s.fetch 0).2 = .ok op bits 4)

/-- Whether the Hearth retires its instruction with `v` in `rd` and goes on at offset `pc` of its Shelf. -/
def retires (c : Instr) (s : State) (rd : Nat) (v : W64) (pc : Nat) : Bool :=
  after c s fun t => decide ((t.hearth 0).reg rd = v ∧ (t.hearth 0).pc = BitVec.ofNat 64 (shelfEA 0 pc) ∧ (t.hearth 0).instret = 1)

/-- Whether the Hearth takes an exception with a cause and a value. -/
def traps (c : Instr) (s : State) (cause tval : W64) : Bool :=
  after c s fun t => decide ((t.hearth 0).getCsr 0x342 = cause ∧ (t.hearth 0).getCsr 0x343 = tval ∧ (t.hearth 0).getCsr 0x341 = BitVec.ofNat 64 (shelfEA 0 0))
    && tst (t.rd (hrt 0) 0x028) 0

theorem test_hearth_at :
    (hearthAt (hearthState 0x00500093 0) (.opImm 0 1 0 false 5) 0x00500093)
    ∧ (retires (.hearthInstruction 0 false) (hearthState 0x00500093 0) 1 5 4)
    ∧ (retires (.hearthInstruction 0 false) (hearthState 0x000010B7 0) 1 0x1000 4)
    ∧ (retires (.hearthInstruction 0 false) (hearthState 0x008000EF 0) 1 (BitVec.ofNat 64 (shelfEA 0 4)) 8)
    ∧ (retires (.hearthInstruction 0 false) (hearthState 0x00210463 0) 1 0 8)
    ∧ (retires (.hearthInstruction 0 false) (hearthState 0x00310463 0) 1 0 4)
    ∧ (retires (.hearthInstruction 0 false) (hearthState 0x023100B3 6) 1 42 4)
    ∧ (retires (.hearthFence 0) (hearthState 0x0330000F 0) 1 0 4)
    ∧ (retires (.fenceI 0) (hearthState 0x0000100F 0) 1 0 4)
    ∧ (idles (.hearthInstruction 0 false) State.reset) := by decide +kernel

theorem test_hearth_traps :
    (traps (.hearthInstruction 0 false) (hearthState 0x00000073 0) 11 0)
    ∧ (traps (.hearthInstruction 0 false) (hearthState 0x00100073 0) 3 (BitVec.ofNat 64 (shelfEA 0 0)))
    ∧ (traps (.hearthInstruction 0 false) (hearthState 0xFFFFFFFF 0) 2 0xFFFFFFFF)
    ∧ (traps (.hearthLoad 0) (hearthState 0x00812083 1) 4 9)
    ∧ (traps (.hearthStore 0) (hearthState 0x00312423 2) 6 10)
    ∧ (idles (.hearthInterrupt 0 19) (hearthState 0 0))
    ∧ (after (.hearthInterrupt 0 19) ((((hearthState 0 0).wr (rp .stp 0) 0x028 8).wr (rp .stp 0) 0x030 8).modHearth 0 fun h => ((h.setCsr 0x300 8).setCsr 0x304 0x80000).setCsr 0x305 0x101)
    (fun t => decide ((t.hearth 0).getCsr 0x342 = put 63 63 1 ||| 19 ∧ (t.hearth 0).pc = 0x14C)))
    ∧ (after (.hearthInstruction 0 true) (hearthState 0x00500093 0) (fun t => !(t.hearth 0).run && tst (t.rd (rp .cvu 0) 0x028) 6))
    ∧ (after (.hearthStart 0 true) ((inSuite0 (suite0 0 1)).wr (hrt 0) 0x088 8) (fun t => (t.hearth 0).run && decide ((t.hearth 0).pc = BitVec.ofNat 64 (shelfEA 0 8))))
    ∧ (after (.hearthHalt 0 false) ((hearthState 0 0).wr (hrt 0) 0x080 1) (fun t => !(t.hearth 0).run))
    ∧ (idles (.hearthStart 0 true) State.reset) := by decide +kernel

theorem test_hearth_memory :
    (retires (.hearthLoad 0) (hearthState 0x00812083 (BitVec.ofNat 64 (shelfEA 0 0) - 8)) 1 0x00812083 4)
    ∧ (after (.hearthStore 0) (hearthState 0x00312423 (BitVec.ofNat 64 (shelfEA 0 0x2FFFF4))) (fun t => decide (t.ldBytes (shelfEA 0 0x2FFFFC) 4 = [7, 0, 0, 0])))
    ∧ (retires (.hearthAmo 0) (hearthState 0x003120AF (BitVec.ofNat 64 (shelfEA 0 0x40))) 1 0 4)
    ∧ (after (.hearthAmo 0) (hearthState 0x003120AF (BitVec.ofNat 64 (shelfEA 0 0x40))) (fun t => decide (t.ldBytes (shelfEA 0 0x40) 4 = [7, 0, 0, 0])))
    ∧ (retires (.hearthSc 0) (hearthState 0x183120AF (BitVec.ofNat 64 (shelfEA 0 0x40))) 1 1 4)
    ∧ (after (.hearthSc 0) ((hearthState 0x183120AF (BitVec.ofNat 64 (shelfEA 0 0x40))).modHearth 0 fun h => { h with resv := some (0x40, 4) }) (fun t => decide ((t.hearth 0).reg 1 = 0 ∧ t.ldBytes (shelfEA 0 0x40) 4 = [7, 0, 0, 0])))
    ∧ (after (.hearthSc 0) (hearthState 0x100120AF (BitVec.ofNat 64 (shelfEA 0 0x40))) (fun t => decide ((t.hearth 0).resv = some (0x40, 4)))) := by decide +kernel

theorem test_channels :
    ((State.reset.chSend 0 63 0).2 = 4 ∧ (State.reset.chSend 0 1 4).2 = 4 ∧ (State.reset.chSend 0 (put 41 32 993) 0).2 = 3 ∧ (State.reset.chSend 0 1 0).2 = 2)
    ∧ (((State.reset.wr (chn 0) (txA 1) (put 63 62 2)).chSend 0 1 0).2 = 1)
    ∧ ((State.reset.chOpen 0 (put 6 6 1)).2 = 0 ∧ (State.reset.chOpen 0 63).2 = 3 ∧ ((State.reset.wr (chn 0) (txA 1) (put 63 62 2)).chOpen 0 1).2 = 2)
    ∧ (after (.dwWaitTimeout 0) { ((hearthState 0 0).modHearth 0 fun h => { h with block := .dwWait 0 3 9 1 }) with et := 9 } (fun t => decide ((t.hearth 0).reg 1 = 0xFF ∧ (t.hearth 0).block = .no)))
    ∧ (idles (.dwWaitTimeout 0) { ((hearthState 0 0).modHearth 0 fun h => { h with block := .dwWait 0 3 9 1 }) with et := 8 }) := by decide +kernel

/-- The Hearth at an Xhearth instruction with function fields, `rd` x1, `rs1` x2 and `rs2` x3. -/
def xState (f3 f7 : Nat) (a : W64) : State := hearthState (put 31 25 f7 ||| put 24 20 3 ||| put 19 15 2 ||| put 14 12 f3 ||| put 11 7 1 ||| put 6 0 0x0B) a

theorem test_xhearth :
    ([(0, 0), (0, 1), (1, 0), (1, 1), (1, 2), (1, 3), (1, 4), (2, 0), (2, 1), (3, 0), (3, 1), (4, 0), (4, 1)].all (fun e => decide (((xState e.1 e.2 0).fetch 0).2
    = .ok (.x e.1 e.2 1 2 3) (e.2 * 2 ^ 25 + 3 * 2 ^ 20 + 2 * 2 ^ 15 + e.1 * 2 ^ 12 + 0x8B) 4) && (xState e.1 e.2 0).xOk 0))
    ∧ (traps (.csFetch 0 [] false []) (xState 0 0 0) 2 0x0031008B)
    ∧ (retires (.chSend 0) (xState 1 0 63) 1 4 4)
    ∧ (retires (.chNext 0) (xState 1 1 0) 1 0 4)
    ∧ (retires (.chDone 0) (xState 1 2 0) 1 0 4)
    ∧ (retires (.chOpen 0) (xState 1 3 63) 1 3 4)
    ∧ (retires (.chClose 0) (xState 1 4 0) 1 0 4)
    ∧ (retires (.ltSig 0) (xState 2 0 0) 1 0 4)
    ∧ (retires (.dwWait 0) (xState 3 1 0) 1 0xFE 4)
    ∧ (retires (.stoke 0) (xState 4 1 0) 1 0 4) := by decide +kernel

/-- Router words of Rooms 0 and 1: Room 0 sends x = 0 to itself and x = 1 east by a link in use; Room 1 takes x = 1. -/
def routed (s : State) : State :=
  { s with rim := { s.rim with rtOver := smSetAll none [] [(regKey (hal 0) 0x200, some 0x20), (regKey (hal 0) 0x240, some 0), (regKey (hal 0) 0x108, some 0x80),
      (regKey (hal 1) 0x200, some 4), (regKey (hal 1) 0x240, some 0), (regKey (hal 1) 0x118, some 0x80)] } }

/-- One packet in the Hall of a routed module whose Wing 0 regulates and whose Room 0 is powered in Suite 0. -/
def inHall (p : Pkt) (room port : Nat) (ejected moved : Bool) : State :=
  { (routed (inSuite0 (suite0 1 1))).wr (pwrw 0) 0x080 (put 63 61 2) with pkts := [{ pkt := p, room, port, ejected, moved, due := 0 }] }

/-- A WRITE of 8 bytes to the Shelf of Room `room`, at 0x40. -/
def write8 (room : Nat) : Pkt := mkWrite (eidRoom room 1) (eidRoom 0 4) 0 0x40 [1, 2, 3, 4, 5, 6, 7, 8]

theorem test_hall_moves :
    (after (.hallRoute 0 [] false false 0) (inHall (write8 0) 0 4 false false) (fun t => decide (t.pkts.map (fun f => (f.room, f.ejected, f.pkt)) = [(0, true, write8 0)])))
    ∧ (after (.hallRoute 0 [] false false 0) (inHall (write8 1) 0 4 false false) (fun t => decide (t.pkts.map (fun f => (f.room, f.port, f.ejected)) = [(1, 3, false)])))
    ∧ (after (.hallRoute 0 [] false false 0) (inHall { write8 0 with addr := 0x41 } 0 4 false false) (fun t => decide (t.pkts.map (fun f => f.pkt.code) = [0x0B]) && tst (t.rd (hal 0) 0x028) 7))
    ∧ (after (.hallRoute 0 [] false false 0) (inHall (write8 2) 0 4 false false) (fun t => decide (t.pkts.map (fun f => f.room) = [0]) && tst (t.rd (hal 0) 0x028) 4))
    ∧ (after (.hallRoute 0 [(0, 3)] false false 0) (inHall (write8 0) 0 1 false true) (fun t => decide (t.pkts.length ≤ 1)))
    ∧ (after (.ageIncrement 0) (inHall { write8 0 with age := 63 } 0 4 false false) (fun t => decide (t.pkts.map (fun f => f.pkt.age) = [63])))
    ∧ (after (.ageIncrement 0) (inHall (write8 0) 0 4 false false) (fun t => decide (t.pkts.map (fun f => f.pkt.age) = [1])))
    ∧ (idles (.ageIncrement 0) (inHall (write8 0) 0 4 true true))
    ∧ (idles (.hallRoute 1 [] false false 0) (inHall (write8 0) 0 4 false false)) := by decide +kernel

/-- A stepped Suite at step 0, its Room 0 with a slot at step 0 for unit 8 of `flits` flits to `dst`, and a packet that waits there. -/
def slotState (p : Pkt) (flits dst : Nat) : State :=
  { (inSuite0 (suite0 0 2)).modRoom 0 (fun r => { r with slots := [⟨flits, 8, 0, dst⟩] }) with pkts := [{ pkt := p, room := 0, port := 8, ejected := false, moved := false, due := 0 }] }

theorem test_hall_slots :
    (after (.hallSlot 0) (slotState (write8 1) 1 (eidRoom 1 1)) (fun t => decide (t.pkts.map (fun f => (f.port, f.due)) = [(4, 2)] ∧ t.rd (hal 0) 0x098 = 1)))
    ∧ (after (.hallSlot 0) (slotState (write8 1) 1 (eidRoom 2 1)) (fun t => decide (t.pkts = []) && tst (t.rd (hal 0) 0x028) 0))
    ∧ (after (.hallSlot 0) (slotState (write8 1) 0 (eidRoom 1 1)) (fun t => decide (t.pkts = []) && tst (t.rd (hal 0) 0x028) 0))
    ∧ (after (.hallSlot 0) { slotState (write8 1) 1 (eidRoom 1 1) with pkts := [] } (fun t => decide (t.pkts = [] ∧ smGet 0 t.rim.slotAt 0 = 1)))
    ∧ (idles (.hallSlot 0) { slotState (write8 1) 1 (eidRoom 1 1) with rim := { State.reset.rim with slotAt := [(0, 1)] } })
    ∧ (after (.linkCvuCompare 0 1 1) (((routed State.reset).wr (rp .cvu 0) 0x138 5).wr (rp .cvu 1) 0x1A8 5) (fun t => decide (t.rd (rp .cvu 0) 0x138 = 0) && !tst (t.rd (rp .cvu 0) 0x028) 0))
    ∧ (after (.linkCvuCompare 0 1 1) (((routed State.reset).wr (rp .cvu 0) 0x138 5).wr (rp .cvu 1) 0x1A8 4) (fun t => tst (t.rd (rp .cvu 0) 0x028) 0)) := by decide +kernel

/-- A packet at its endpoint in Room 0. -/
def arrived (p : Pkt) : State := inHall p 0 0 true true

theorem test_hall_delivers :
    (after (.hallWrite 0) (arrived (write8 0)) (fun t => decide (t.ldBytes (shelfEA 0 0x40) 8 = [1, 2, 3, 4, 5, 6, 7, 8] ∧ t.pkts.map (fun f => f.pkt.typ) = [8])))
    ∧ (after (.hallWrite 0) (arrived { write8 0 with suite := 1 }) (fun t => decide (t.mem = [] ∧ t.pkts.map (fun f => (f.pkt.typ, f.pkt.code)) = [(9, 1)])))
    ∧ (after (.hallWrite 0) (arrived { write8 0 with dst := eidRoom 0 0, suite := 1, addr := 0x1080 }) (fun t => decide (t.pkts.map (fun f => (f.pkt.typ, f.pkt.code)) = [(9, 1)])))
    ∧ (after (.readReq 0) ((arrived (mkRead (eidRoom 0 1) (eidRoom 1 4) 0 0x40 8)).stWord (shelfEA 0 0x40) 9) (fun t => decide (t.pkts.map (fun f => (f.pkt.typ, f.pkt.data)) = [(3, [9, 0, 0, 0, 0, 0, 0, 0])])))
    ∧ (after (.atomic 0) ((arrived { Pkt.mk0 4 (eidRoom 0 1) (eidRoom 1 4) 0 with addr := 0x40, len := 8, w2 := put 8 8 1, data := leTo 8 7 }).stWord (shelfEA 0 0x40) 9)
    (fun t => decide (t.ldBytes (shelfEA 0 0x40) 8 = leTo 8 16 ∧ t.pkts.map (fun f => (f.pkt.typ, f.pkt.data)) = [(3, leTo 8 9)])))
    ∧ (after (.message 0) (arrived { Pkt.mk0 5 (eidRoom 0 2) (eidRoom 1 2) 1 with len := 8, data := leTo 8 7 }) (fun t => decide (t.pkts.map (fun f => (f.pkt.typ, f.pkt.code)) = [(9, 1)]) && tst (t.rd (hal 0) 0x028) 3))
    ∧ (after (.message 0) (arrived { Pkt.mk0 5 (eidRoom 0 2) (eidRoom 1 2) 0 with len := 8, data := leTo 8 7 }) (fun t => decide (t.pkts.map (fun f => f.pkt.typ) = [9])))
    ∧ (after (.reduce 0 false) (arrived { Pkt.mk0 6 (eidRoom 0 3) (eidRoom 1 4) 0 with len := 24, w2 := 1, data := List.replicate 24 0 }) (fun t => decide (t.pkts.map (fun f => f.pkt.typ) = [9])))
    ∧ (after (.stream 0) (arrived { Pkt.mk0 7 (eidRoom 0 1) (eidRoom 1 4) 0 with addr := 0x40, len := 8, data := leTo 8 7 }) (fun t => decide (t.ldBytes (shelfEA 0 0x40) 8 = leTo 8 7)))
    ∧ (idles (.hallWrite 0) (inHall (write8 0) 0 0 false true)) := by decide +kernel

/-- A reply at the Hearth of Room 0, whose load of 4 bytes at 0x44 of Room 1 awaits it. -/
def replied (p : Pkt) : State :=
  { (arrived { p with tag := 7 }).modHearth 0 (fun h => { h with block := .reply }) with outst := [⟨7, eidRoom 0 4, .hearthLoad 0 1 4 true 0x44 4⟩] }

theorem test_hall_replies :
    (after (.readRsp 0) (replied ((mkRead (eidRoom 1 1) (eidRoom 0 4) 0 0x40 8).rsp 0 [0, 0, 0, 0, 0xFF, 0xFF, 0xFF, 0xFF])) (fun t => decide ((t.hearth 0).reg 1 = 0xFFFFFFFFFFFFFFFF ∧ (t.hearth 0).block = .no ∧ t.outst = [])))
    ∧ (after (.nack 0) (replied ((mkRead (eidRoom 1 1) (eidRoom 0 4) 0 0x40 8).nack 1)) (fun t => decide ((t.hearth 0).getCsr 0x342 = 5 ∧ (t.hearth 0).getCsr 0x343 = 0x44)))
    ∧ (after (.ack 0) { replied ((write8 1).ack 0) with outst := [⟨7, eidRoom 0 4, .hearthStore 0⟩] } (fun t => decide (t.outst = [] ∧ t.regs = (replied ((write8 1).ack 0)).regs)))
    ∧ (after (.ack 0) { replied ((write8 1).ack 0) with outst := [] } (fun t => decide (t.pkts = [])))
    ∧ (after (.ack 0) ((arrived { Pkt.mk0 8 (eidRoom 0 2) (eidRoom 1 2) 0 with w2 := put 15 8 1 ||| put 21 16 5 ||| put 63 48 9 }).wr (chn 0) (txB 5) (put 15 0 0xFFFA)) (fun t => decide (fld (t.rd (chn 0) (txB 5)) 15 0 = 0xFFFF)))
    ∧ (after (.ack 0) (arrived { Pkt.mk0 8 (eidRoom 0 2) (eidRoom 1 2) 0 with w2 := put 15 8 2 ||| put 21 16 62 ||| put 31 28 3 ||| put 47 32 4 ||| put 63 48 8 })
    (fun t => decide (fld (t.rd (chn 0) (txA 62)) 63 62 = 2 ∧ fld (t.rd (chn 0) (txA 62)) 61 58 = 3 ∧ fld (t.rd (chn 0) (txB 62)) 31 16 = 4 ∧ fld (t.rd (chn 0) (txB 62)) 15 0 = 8))) := by decide +kernel

/-- Room 0 delivering Stockpot 3 to a ring that has no space. -/
def delivering (et : Nat) : State := { roomOn0.modRoom 0 (fun r => { r with deliv := [⟨3, 0, true, 1, 2, 0, 312, false⟩] }) with et := et }

theorem test_stockpots :
    (after (.stockpotEnable 0 3 (put 63 63 1 ||| put 40 32 1 ||| 5)) roomOn0 (fun t => decide (t.stpState 0 3 = 1 ∧ t.stpVlen 0 3 = 1 ∧ t.stpExpect 0 3 = 5)))
    ∧ (after (.stockpotEnable 0 3 (put 63 63 1 ||| put 40 32 257)) roomOn0 (fun t => decide (t.stpState 0 3 = 0)))
    ∧ (after (.stockpotEnable 0 3 (put 63 63 1 ||| put 40 32 0)) roomOn0 (fun t => decide (t.stpState 0 3 = 0)))
    ∧ (idles (.stpSyncRetry 0 3) (delivering 311))
    ∧ (after (.stpSyncRetry 0 3) (delivering 312) (fun t => decide (t.delivOf 0 3 = some ⟨3, 0, true, 1, 1, 0, 625, false⟩)))
    ∧ (idles (.stpTargetTimeout 0 3) (delivering 156249))
    ∧ (after (.stpTargetTimeout 0 3) (delivering 156250) (fun t => tst (t.rd (stp 0) 0x028) 2))
    ∧ (idles (.stpTargetTimeout 0 3) roomOn0) := by decide +kernel

/-- Stack 0 with its channels up and its first 2 MiB granted to Suite 0. -/
def celState : State := ((inSuite0 (suite0 1 1)).wr (celPage 0) 0x080 0xFFFFFFFF).wr (celPage 0) 0x400 (put 63 63 1 ||| put 62 62 1 ||| put 47 32 1)

/-- An access of 8 bytes at 0x40 of stack 0 on the ring, by a WRITE or READ_REQ of Suite `suite`. -/
def ringAcc (suite : Nat) (data : Option (List Byte)) : RingAcc := ⟨0, 0x40, 8, data, { mkRead (eidEaves 0 0 0) (eidRoom 0 4) suite 0x40 8 with typ := if data.isSome then 1 else 2 }, false⟩

/-- `celState` with accesses on the ring. -/
def onRing (l : List RingAcc) : State := { celState with rim := { celState.rim with ring := l } }

theorem test_cellar_accesses :
    (after (.cellarAccess 0 []) (onRing [ringAcc 0 (some (leTo 8 7))]) (fun t => decide (t.ldBytes (cellarEA 0 0x40) 8 = leTo 8 7 ∧ t.rim.ring = [] ∧ t.pkts.map (fun f => f.pkt.typ) = [8])))
    ∧ (after (.cellarAccess 0 []) (onRing [ringAcc 1 (some (leTo 8 7))]) (fun t => decide (t.mem = [] ∧ t.pkts.map (fun f => (f.pkt.typ, f.pkt.code)) = [(9, 1)]) && tst (t.rd (celPage 0) 0x028) 0))
    ∧ (after (.cellarAccess 0 []) ((onRing [ringAcc 0 none]).stWord (cellarEA 0 0x40) 9) (fun t => decide (t.pkts.map (fun f => (f.pkt.typ, f.pkt.data)) = [(3, leTo 8 9)])))
    ∧ (idles (.cellarAccess 1 []) (onRing [ringAcc 0 none, ringAcc 0 none]))
    ∧ (after (.ringReservation 0) (onRing [ringAcc 0 none]) (fun t => decide (t.rim.ring = [{ ringAcc 0 none with reserved := true }])))
    ∧ ((celState.cellarAccess 0 cellarBytes 8 none 0 0 false []).2 = .unmapped)
    ∧ ((celState.cellarAccess 0 0x200000 8 none 0 0 false []).2 = .denied) := by decide +kernel

theorem test_cellar_upkeep :
    (turnsAway (.celRegionWrite 0 1 (put 63 63 1 ||| put 47 32 1)) celState (celPage 0) 1)
    ∧ (after (.celRegionWrite 0 1 (put 63 63 1 ||| put 31 16 1 ||| put 47 32 1)) celState (fun t => decide (t.regA 0 1 = (put 63 63 1 ||| put 31 16 1 ||| put 47 32 1))))
    ∧ (turnsAway (.celRegionWrite 0 1 (put 63 63 1 ||| put 31 16 45776 ||| put 47 32 1)) State.reset (celPage 0) 1)
    ∧ (after (.celRegionWrite 0 1 (put 63 63 1 ||| put 31 16 45775 ||| put 47 32 1)) State.reset (fun t => decide (t.regA 0 1 = (put 63 63 1 ||| put 31 16 45775 ||| put 47 32 1))))
    ∧ (turnsAway (.eccCfgWrite 0 1) (celState.wr (ecccPage 0) 0x080 0) (ecccPage 0) 5)
    ∧ (after (.eccCfgWrite 0 1) (State.reset.wr (ecccPage 0) 0x080 0) (fun t => decide (fld (t.rd (ecccPage 0) 0x080) 3 0 = 9)))
    ∧ (after (.recodeDone 0 []) (State.reset.wr (ecccPage 0) 0x080 9) (fun t => decide (fld (t.rd (ecccPage 0) 0x080) 3 0 = 1) && tst (t.rd (ecccPage 0) 0x098) 63))
    ∧ (after (.scrubRead 0 0) celState (fun t => decide (smGet 0 t.rim.scrubAt 0 = 1)))
    ∧ (after (.scrubPassEnd 0) ((({ celState with rim := { celState.rim with scrubAt := [(0, cellarPages + 8192)] } } : State).wr (ecccPage 0) 0x090 (put 31 16 3)).wr (ecccPage 0) 0x098 (put 15 0 4))
    (fun t => decide (smGet 0 t.rim.scrubAt 0 = 0 ∧ fld (t.rd (ecccPage 0) 0x098) 15 0 = 8)))
    ∧ (idles (.scrubPassEnd 0) { celState with rim := { celState.rim with scrubAt := [(0, cellarPages + 8191)] } })
    ∧ (after (.pageRetire 0 9 0) celState (fun t => decide (t.rdF (ecccPage 0) 0x0A0 25 0 = 9)))
    ∧ (idles (.pageRetire 48 (put 63 63 1) 0) celState)
    ∧ (turnsAway (.eccRemapWrite 0 9) celState (ecccPage 0) 5)
    ∧ (after (.eccRemapWrite 0 9) (State.reset.wr (ecccPage 0) 0x0A8 5) (fun t => decide (t.remapEnt 0 5 = 9)))
    ∧ (after (.logHeadWrite 3) ((State.reset.wr (gp .eccg) 0x098 524287).wr (gp .eccg) 0x0A0 3) (fun t => decide (t.rdF (gp .eccg) 0x098 18 0 = 3)))
    ∧ (turnsAway (.logHeadWrite 4) ((State.reset.wr (gp .eccg) 0x098 524287).wr (gp .eccg) 0x0A0 3) (ecccPage 0) 5)
    ∧ (idles (.cellarRefresh 0) State.reset) := by decide +kernel

/-- Chute 0 enabled for Suite 0 and running its list of 16 at 0x1000 of stack 0, whose head holds one entry. -/
def chuState (words : List W64) : State :=
  ((((celState.wr (chuP 0) 0x080 (put 63 63 1)).wr (chuP 0) 0x088 (put 63 61 1)).wr (chuP 0) 0x090 (put 60 56 4 ||| BitVec.ofNat 64 (cellarEA 0 0x1000))).wr (chuP 0) 0x0A0 1).stWords (cellarEA 0 0x1000) words

/-- A CELLAR (1) or LARDER (2) entry of `n` packets of 8 bytes to 0x40 of Room 0. -/
def chuEntry (kind n : Nat) : List W64 := [put 63 62 kind ||| put 50 44 1 ||| put 19 0 n, 0, if kind = 1 then BitVec.ofNat 64 (cellarEA 0 0x2000) else 0, 0x40]

/-- Chute 0 with one entry taken, whose first packet's data `got` may have come. -/
def chuTaken (kind n : Nat) (got : SMap (List Byte)) : State :=
  (chuState (chuEntry kind n)).setChute 0 { ChuSt.empty with entries := [⟨0, chuEntry kind n, [], got, 0, 0, false⟩] }

theorem test_chute_lists :
    (after (.chuteEnable 0 (put 63 63 1 ||| 3)) State.reset (fun t => decide (t.rdF (chuP 0) 0x088 63 61 = 1) && tst (t.rd (chuP 0) 0x080) 63))
    ∧ (turnsAway (.chuteEnable 0 (put 63 63 1 ||| put 37 32 5)) (chuState []) (chuP 0) 6)
    ∧ (after (.chuteDisable 0 0) (chuTaken 1 2 []) (fun t => decide ((t.chute 0).entries = []) && !tst (t.rd (chuP 0) 0x080) 63))
    ∧ (after (.chuListTailWrite 0 0xFFFFF) State.reset (fun t => decide (t.rd (chuP 0) 0x0A0 = 0xFFFFF)))
    ∧ (after (.mark 0 []) (chuState [0, 0, 0, 0]) (fun t => tst (t.rd (chuP 0) 0x028) 5 && decide (t.rd (chuP 0) 0x098 = 1)))
    ∧ (after (.cellar 0 []) (chuState (chuEntry 1 2)) (fun t => decide ((t.chute 0).entries.map (fun e => e.words) = [chuEntry 1 2])))
    ∧ (after (.larder 0 []) (chuState (chuEntry 2 1)) (fun t => decide ((t.chute 0).entries.map (fun e => e.words) = [chuEntry 2 1])))
    ∧ (after (.gate 0 []) (chuState [put 63 62 3, 0, 0, 0]) (fun t => decide ((t.chute 0).entries = []) || (t.chute 0).gating))
    ∧ (after (.cellar 0 []) (chuState (chuEntry 1 0)) (fun t => decide (t.rdF (chuP 0) 0x088 63 61 = 3) && tst (t.rd (chuP 0) 0x028) 3))
    ∧ (idles (.mark 0 []) (chuState (chuEntry 1 2)))
    ∧ (idles (.mark 0 []) State.reset) := by decide +kernel

theorem test_chute_streams :
    (after (.chuteSourceData 0 []) ((chuTaken 1 2 []).stWord (cellarEA 0 0x2000) 9) (fun t => decide ((t.chute 0).entries.map (fun e => e.got) = [[(0, leTo 8 9)]])))
    ∧ (after (.chuteSourceData 0 []) ((chuTaken 2 1 []).setLarder 0 0 ⟨leTo 8 9, 0, 8, 8, 0, 0, [], 0⟩) (fun t => decide ((t.chute 0).entries.map (fun e => e.got) = [[(0, leTo 8 9)]] ∧ (t.larder 0 0).cons = 8 ∧ (t.larder 0 0).buf = [])))
    ∧ (idles (.chuteSourceData 0 []) ((chuTaken 2 1 []).setLarder 0 0 ⟨leTo 8 9, 0, 7, 8, 0, 0, [], 0⟩))
    ∧ (after (.chutePacket 0 false) (chuTaken 1 2 [(0, leTo 8 9)]) (fun t => decide (t.pkts.map (fun f => (f.pkt.typ, f.pkt.data)) = [(7, leTo 8 9)] ∧ (t.chute 0).entries.map (fun e => e.sent) = [1])))
    ∧ (after (.chutePacket 0 false) (chuTaken 1 1 [(0, leTo 8 9)]) (fun t => decide (t.pkts.map (fun f => f.pkt.data) = [leTo 8 9] ∧ (t.chute 0).entries = [] ∧ t.rd (chuP 0) 0x098 = 1)))
    ∧ (idles (.chutePacket 0 false) (chuTaken 1 2 []))
    ∧ (idles (.starvationCheck 0) (chuTaken 1 2 []))
    ∧ (after (.chuteStarved 0) { ((chuState []).wr (chuP 0) 0x0A8 1).setChute 0 { ChuSt.empty with starve := some 0 } with et := 157 } (fun t => tst (t.rd (chuP 0) 0x028) 0 && decide (t.rdF (chuP 0) 0x088 63 61 = 2)))
    ∧ (idles (.chuteStarved 0) { ((chuState []).wr (chuP 0) 0x0A8 1).setChute 0 { ChuSt.empty with starve := some 0 } with et := 156 }) := by decide +kernel

/-- Larder slot 1 of Chute 0 in session 1 with a window of 262,144 bytes, none received. -/
def larderState : State := (((chuState []).wr (chuP 0) 0x110 (put 63 63 1 ||| put 55 48 1 ||| put 47 32 256))).setLarder 0 1 ⟨[], 0, 0, 262144, 0, 0, [], 0⟩

theorem test_larder :
    (after (.larderSlotEnable 0 1 (put 63 63 1 ||| put 47 32 256)) (chuState []) (fun t => t.lsEn 0 1 && decide (t.lsSession 0 1 = 1 ∧ t.lsWindow 0 1 = 262144)))
    ∧ (turnsAway (.larderSlotEnable 0 1 (put 63 63 1 ||| put 47 32 63)) (chuState []) (chuP 0) 6)
    ∧ (turnsAway (.larderSlotEnable 0 1 (put 63 63 1 ||| put 47 32 1793)) (chuState []) (chuP 0) 6)
    ∧ (turnsAway (.larderSlotEnable 0 1 (put 63 63 1 ||| put 47 32 256)) larderState (chuP 0) 6)
    ∧ (after (.creditPeriod 0 1) { larderState with et := 9 } (fun t => decide ((t.larder 0 1).limit = 262144 ∧ (t.larder 0 1).sentAt = 9)))
    ∧ (after (.larderData 0 1 1 0 [1, 2]) larderState (fun t => decide ((t.larder 0 1).buf = [1, 2] ∧ t.rd (chuP 0) 0x118 = 2)))
    ∧ (after (.larderData 0 1 1 1 [1, 2]) larderState (fun t => decide (t.rdF (chuP 0) 0x088 63 61 = 3) && tst (t.rd (chuP 0) 0x028) 4))
    ∧ (after (.larderCheck 0 1 1 0 7) (larderState.setLarder 0 1 ⟨[], 262144, 0, 524288, 0, 262144, [(0, 7)], 0⟩) (fun t => decide ((t.larder 0 1).rel = 262144 ∧ (t.larder 0 1).done = [])))
    ∧ (after (.larderCheck 0 1 1 0 6) (larderState.setLarder 0 1 ⟨[], 262144, 0, 524288, 0, 262144, [(0, 7)], 0⟩) (fun t => decide (t.rdF (chuP 0) 0x088 63 61 = 3 ∧ (t.larder 0 1).rel = 0)))
    ∧ (after (.abort 0 1 1) larderState (fun t => !t.lsEn 0 1 && tst (t.rd (chuP 0) 0x028) 1))
    ∧ (idles (.abort 0 1 2) larderState) := by decide +kernel

/-- Port 0 of a native engine, enabled, in training step `step` since ET 0, with `tries` attempts behind it. -/
def portState (step tries : Nat) : State :=
  let s := ((State.reset.wr (eav 0) 0x080 (put 2 2 1 ||| 1)).wr (eav 0) 0x088 (put 30 28 step)).wr (eav 0) 0x0B0 50
  { s.setTrainAt 0 tries with et := 156250000 }

theorem test_ports_train :
    (turnsAway (.eavModeSet 0 (put 2 2 1 ||| 2)) (portState 6 0) (eav 0) 4)
    ∧ (after (.portEnable 0 (put 2 2 1 ||| 1)) (State.reset.wr (eav 0) 0x080 1) (fun t => decide (t.eavSt 0 30 28 = 1 ∧ t.trainAt 128 = 0)))
    ∧ (after (.portDisable 0 1) (portState 6 0) (fun t => decide (t.eavSt 0 31 0 = 0)))
    ∧ (after (.trainingStep 0 9 1 0 true) (portState 1 0) (fun t => decide (t.eavSt 0 30 28 = 2)))
    ∧ (after (.trainingStep 0 9 1 0xABC true) (portState 4 0) (fun t => decide (t.eavSt 0 30 28 = 5 ∧ t.eavSt 0 15 0 = 9 ∧ t.eavSt 0 27 22 = 1 ∧ smGet 0 t.rim.partMac 0 = 0xABC)))
    ∧ (after (.trainingStep 0 9 1 0 false) (portState 4 1) (fun t => decide (t.eavSt 0 30 28 = 1 ∧ t.trainAt 0 = 2)))
    ∧ (after (.trainingStep 0 9 1 0 false) (portState 4 2) (fun t => decide (t.eavSt 0 30 28 = 7 ∧ t.trainAt 0 = 0) && tst (t.rd (eav 0) 0x028) 2))
    ∧ (after (.trainingStep 0 9 1 0 true) (portState 5 0) (fun t => decide (t.eavSt 0 30 28 = 6 ∧ t.trainAt 192 = 156250001)))
    ∧ (idles (.trainingStep 0 9 1 0 true) (portState 6 0))
    ∧ (after (.trainingAttemptTimeout 0) (portState 3 0) (fun t => decide (t.eavSt 0 30 28 = 1 ∧ t.trainAt 0 = 1)))
    ∧ (idles (.trainingAttemptTimeout 0) { portState 3 0 with et := usToEt 500000 - 1 })
    ∧ (after (.trainingRetry 0) (portState 7 0) (fun t => decide (t.eavSt 0 30 28 = 1)))
    ∧ (idles (.trainingRetry 0) { portState 7 0 with et := usToEt 1000000 - 1 })
    ∧ (idles (.eavLinkUp 0) (portState 6 0))
    ∧ (after (.eavLinkUp 0) ((portState 6 0).setTrainAt 192 1) (fun t => t.linkUp 0 && tst (t.rd (eav 0) 0x028) 1))
    ∧ (after (.eavLinkDown 0 100 false) ((portState 6 0).setEavSt 0 31 31 1) (fun t => t.linkUp 0))
    ∧ (after (.eavLinkDown 0 101 false) ((portState 6 0).setEavSt 0 31 31 1) (fun t => !t.linkUp 0 && tst (t.rd (eav 0) 0x028) 0 && decide (t.eavSt 0 30 28 = 1)))
    ∧ (after (.eavFecDegraded 0 1 5001 7) (portState 6 0) (fun t => decide (t.rd (eav 0) 0x108 = (put 47 16 5001 ||| 7)) && tst (t.rd (eav 0) 0x028) 3))
    ∧ (after (.eavFecDegraded 0 1 5000 7) (portState 6 0) (fun t => decide (t.rd (eav 0) 0x028 = (portState 6 0).rd (eav 0) 0x028)))
    ∧ (after (.fecDegradeTimeout 0) (((portState 6 0).setEavSt 0 31 31 1).setTrainAt 64 1) (fun t => !t.linkUp 0))
    ∧ (after (.pfcFrame 0 8 [0, 0, 0, 21]) ((portState 6 0).wr (eav 0) 0x080 (put 7 7 1 ||| put 11 11 1 ||| put 2 2 1 ||| 1)) (fun t => decide (smGet 0 t.rim.pfc 3 = 156250002))) := by decide +kernel

/-- Context 32 open with word 0 `w0`, cached, in Suite 0, its producer one ahead; its send queue of 16 lies at 0x1000 of stack 0. -/
def ctxState (w0 : W64) (f : YCtx → YCtx) : State :=
  (((((celState.setHot 0 [32]).setYctx 32 (f { YCtx.empty with cfg := [put 63 62 1 ||| w0, put 55 52 4 ||| BitVec.ofNat 64 (cellarEA 0 0x1000)], pi := 1 })).wr (eav 0) 0x080 (put 2 2 1 ||| 2)).setEavSt 0 31 31 1))

theorem test_descriptors_of_streams :
    (after (.send 32) ((ctxState 0 id).stWords (cellarEA 0 0x1000) [put 63 56 1 ||| 8, BitVec.ofNat 64 (cellarEA 0 0x2000), 0, 0]) (fun t => decide (((t.yctx 32).fetch, (t.yctx 32).descs.length) = (1, 1))))
    ∧ (after (.control 32) ((ctxState 0 id).stWords (cellarEA 0 0x1000) [put 63 56 2 ||| put 55 48 0x80 ||| 8, 0, 0, 0]) (fun t => decide (((t.yctx 32).fetch, (t.yctx 32).descs.length) = (1, 1))))
    ∧ (after (.roceSend 32) ((ctxState (put 61 61 1) id).stWords (cellarEA 0 0x1000) [put 63 56 0x10 ||| 8, BitVec.ofNat 64 (cellarEA 0 0x2000), 0, 0]) (fun t => decide ((t.yctx 32).descs.length = 1)))
    ∧ (after (.roceWrite 32) ((ctxState (put 61 61 1) id).stWords (cellarEA 0 0x1000) [put 63 56 0x11 ||| 8, BitVec.ofNat 64 (cellarEA 0 0x2000), 0, 0]) (fun t => decide ((t.yctx 32).descs.length = 1)))
    ∧ (after (.roceRead 32) ((ctxState (put 61 61 1) id).stWords (cellarEA 0 0x1000) [put 63 56 0x12 ||| 8, BitVec.ofNat 64 (cellarEA 0 0x2000), 0, 0]) (fun t => decide ((t.yctx 32).descs.length = 1)))
    ∧ (after (.send 32) ((ctxState 0 id).stWords (cellarEA 0 0x1000) [put 63 56 3 ||| 8, 0, 0, 0]) (fun t => decide (((t.yctx 32).state, fld ((t.yctx 32).w 0) 44 40) = (2, 6))))
    ∧ (idles (.send 32) (ctxState 0 fun x => { x with fetch := 1 }))
    ∧ (after (.pacedSend 32) ((ctxState (put 61 61 1) fun x => { x with descs := [⟨0, [put 63 56 0x10 ||| 8, BitVec.ofNat 64 (cellarEA 0 0x2000), 0, 0], 0⟩] }).stWord (cellarEA 0 0x2000) 9)
    (fun t => decide ((t.yctx 32).sent.map (fun e => (e.seq, e.data)) = [(0, leTo 8 9)] ∧ (t.yctx 32).seq = 1)))
    ∧ (idles (.pacedSend 32) (ctxState (put 61 61 1) id))
    ∧ (after (.rtoExpiry 32) { (ctxState (put 61 61 1) fun x => { x with sent := [⟨0, 0, 0, 0, 0, true, true, 0, 4, [1], some 0⟩] }) with et := 10 ^ 12 } (fun t => decide ((t.yctx 32).backo = 1)))
    ∧ (idles (.rtoExpiry 32) (ctxState (put 61 61 1) fun x => { x with sent := [⟨0, 0, 0, 0, 0, true, true, 0, 4, [1], some 0⟩] })) := by decide +kernel

theorem test_roce_packets :
    (after (.rocePacket 0 false true 0x81 32 0 0 0 0 0 []) (ctxState (put 61 61 1) id) (fun t => decide ((t.yctx 32).cwnd = 8 * 2 ^ 32)))
    ∧ (after (.rocePacket 0 false true 17 32 0 0 0 0 0 []) (ctxState (put 61 61 1) fun x => { x with seq := 1, sent := [⟨0, 0, 0, 0, 0, true, true, 0, 4, [1], none⟩] }) (fun t => decide ((t.yctx 32).sent = [])))
    ∧ (after (.rocePacket 0 false true 17 32 0 0 0 0 0x61 []) (ctxState (put 61 61 1) id) (fun t => decide ((t.yctx 32).state = 2)))
    ∧ (after (.rocePacket 0 false true 10 32 5 0x40 0 8 0 (leTo 8 9)) (ctxState (put 61 61 1) id) (fun t => decide (t.mem = [] ∧ (t.yctx 32).rcum = 0 ∧ (t.yctx 32).state = 1)))
    ∧ (after (.rocePacket 0 false false 10 32 0 0x40 0 8 0 (leTo 8 9)) (ctxState (put 61 61 1) id) (fun t => decide (t.yctx 32 = (ctxState (put 61 61 1) id).yctx 32)))
    ∧ (after (.rocePacket 0 false true 0x81 32 0 0 0 0 0 []) ((ctxState (put 61 61 1) id).setHot 0 []) (fun t => decide (t.rim.roceWait.length = 1 ∧ t.rim.fills = [32])))
    ∧ (after (.ethFrameReceive 0 false false []) (ctxState 0 id) (fun t => decide (fld (t.rd (eav 0) 0x0C0) 63 48 = 1)))
    ∧ (after (.ethFrameReceive 0 true false (List.replicate 59 0)) (ctxState 0 id) (fun t => decide (fld (t.rd (eav 0) 0x0C0) 63 48 = 0)))
    ∧ (idles (.ethFrameReceive 0 true false []) State.reset) := by decide +kernel

/-- Words of a Yazal packet of type `pt` for context 32, SEQ `seq`, with its PCHECK; DATA of one 8-byte message. -/
def yazWords (pt seq : Nat) (data : List Byte) : List W64 :=
  [put 63 60 1 ||| put 59 56 pt ||| put 51 32 32 ||| (if pt = 0 then put 55 54 0 ||| put 53 52 3 else 0), put 63 32 seq, BitVec.ofNat 64 data.length, if pt = 0 then put 55 48 0x80 else 0, pcheck 0 32 seq data]

theorem test_yazal_packets :
    (after (.yazalData 0 false (yazWords 0 0 (leTo 8 9)) (leTo 8 9)) ((ctxState 0 id).setHot 0 []) (fun t => decide (t.rim.ctxWait.length = 1 ∧ t.rim.fills = [32])))
    ∧ (after (.yazalData 0 false (yazWords 0 0 (leTo 8 9)) (leTo 8 9)) (ctxState 0 fun x => { x with cfg := [] }) (fun t => decide (t.yctx 32 = { YCtx.empty with pi := 1 } ∧ t.mem = [])))
    ∧ (after (.yazalData 0 false (yazWords 0 (2 ^ 32 - 1) (leTo 8 9)) (leTo 8 9)) (ctxState 0 id) (fun t => decide ((t.yctx 32).rcum = 0 ∧ (t.yctx 32).rgot = [])))
    ∧ (after (.yazalData 0 false (yazWords 0 256 (leTo 8 9)) (leTo 8 9)) (ctxState 0 id) (fun t => decide ((t.yctx 32).rgot = [] ∧ fld (t.rd (yzl 0) 0x090) 31 16 = 1)))
    ∧ (after (.yazalAck 0 false (yazWords 1 1 [])) (ctxState 0 fun x => { x with seq := 1, sent := [⟨0, 0, 0, 0, 0, true, true, 0, 4, [1], none⟩] }) (fun t => decide ((t.yctx 32).sent = [] ∧ (t.yctx 32).seq = 1)))
    ∧ (idles (.yazalAck 0 false (yazWords 0 1 [])) (ctxState 0 id))
    ∧ (after (.yazalReset 0 false (yazWords 2 0 [])) (ctxState 0 id) (fun t => decide (((t.yctx 32).state, fld ((t.yctx 32).w 0) 44 40) = (2, 3))))
    ∧ (after (.yazalAck 0 false ((yazWords 1 1 []).set 4 0)) (ctxState 0 id) (fun t => decide ((t.yctx 32).state = 1))) := by decide +kernel

theorem test_yazal_timers :
    (after (.ackDelay 32 0) (ctxState 0 fun x => { x with ackDue := some 0, toAck := 1 }) (fun t => decide (((t.yctx 32).toAck, (t.yctx 32).ackDue) = (0, none))))
    ∧ (idles (.ackDelay 32 0) (ctxState 0 fun x => { x with ackDue := some 1, toAck := 1 }))
    ∧ (after (.pathHoldExpiry 32) (ctxState 0 fun x => { x with excl := [(3, 0), (4, 1)] }) (fun t => decide ((t.yctx 32).excl = [(4, 1)])))
    ∧ (after (.streamTimeout 32) { (ctxState 0 fun x => { x with heldAt := some 0 }) with et := 10 ^ 13 } (fun t => decide (((t.yctx 32).state, fld ((t.yctx 32).w 0) 44 40) = (2, 1))))
    ∧ (idles (.streamTimeout 32) (ctxState 0 id))
    ∧ (after (.keepalive 32) { ctxState (put 39 39 1) id with et := 10 ^ 13 } (fun t => decide ((t.yctx 32).ctl = [(0x01, [])])))
    ∧ (idles (.keepalive 32) (ctxState (put 39 39 1) fun x => { x with idle := 1 }))
    ∧ (after (.contextMissFill 32) { ctxState 0 id with rim := { ((ctxState 0 id).setHot 0 []).rim with fills := [32] } } (fun t => t.isHot 32 && decide (t.rim.fills = [])))
    ∧ (after .doorbell { ctxState 0 id with rim := { (ctxState 0 id).rim with bells := [(0, put 51 32 32 ||| 16)] } } (fun t => decide ((t.yctx 32).pi = 16 ∧ t.rim.bells = [])))
    ∧ (after .doorbell { ctxState 0 id with rim := { (ctxState 0 id).rim with bells := [(0, put 51 32 32 ||| 17)] } } (fun t => decide ((t.yctx 32).pi = 1 ∧ t.rim.bells = []) && tst (t.rd (yzl 0) 0x028) 1))
    ∧ (idles .doorbell (ctxState 0 id))
    ∧ (idles (.latchArrive 32) (ctxState 0 id))
    ∧ (after (.contextWrite (put 63 62 3 ||| 32)) ((ctxState 0 fun x => { x with cfg := [] }).wr (gp .yzlg) 0x100 (put 63 62 1)) (fun t => decide ((t.yctx 32).state = 1)))
    ∧ (after (.contextWrite (put 63 62 3 ||| 32)) ((ctxState 0 id).wr (gp .yzlg) 0x100 (put 63 62 1)) (fun t => tst (t.rd (gp .yzlg) 0x028) 2))
    ∧ (after (.contextWrite (put 63 62 3 ||| 32)) (ctxState 0 id) (fun t => decide ((t.yctx 32).state = 0))) := by decide +kernel

/-- Suite 0 running at rate 48, its progress count at `p`; PROGRESS_MS is 1. -/
def slow (p : Nat) : State := (inSuite0 { suite0 1 2 with prog := p }).wr cvug 0x0A0 1

/-- Suite 0 in its inspection window of 2 µs since ET 0, the inspection set installed. -/
def inspecting (et : Nat) : State :=
  let s := (inSuite0 { suite0 1 4 with sweep := { SweepSt.none with st := 5 } }).wr cvug 0x080 (put 63 63 1 ||| put 47 32 2)
  { s with et := et, rim := { s.rim with insp := some ⟨1, []⟩ } }

theorem test_guard :
    (after (.suiteNoProgress 0) (slow 1200000) (fun t => tst (t.rd cvug 0x028) 2 && tst (t.rd cvug 0x0A8) 0 && decide (t.flying.length = 1)))
    ∧ (idles (.suiteNoProgress 0) (slow 1199999))
    ∧ (idles (.inspectionWindowEnd 0 []) (inspecting 312))
    ∧ (after (.inspectionWindowEnd 0 []) (inspecting 313) (fun t => decide (t.rdF cvug 0x400 5 0 = 1 ∧ t.rdF cvug 0x400 63 32 = 1)))
    ∧ (after (.inspInstall (put 63 63 1) false) State.reset (fun t => decide (fld (t.rd cvug 0x090) 63 61 = 3) && tst (t.rd cvug 0x028) 1))
    ∧ (after (.selfTest (put 63 63 1 ||| 5) 9 false) (State.reset.wr cvug 0x098 0) (fun t => decide (t.rd cvug 0x0B0 = (put 63 63 1 ||| 5) ∧ t.rim.testRef = 9)))
    ∧ (turnsAway (.selfTest (put 63 63 1) 9 false) (State.reset.wr cvug 0x0B0 (put 63 63 1)) cvug 7)
    ∧ (idles (.selfTest (put 63 63 1) 9 true) { State.reset with rim := { State.reset.rim with quiet := [9] } })
    ∧ (after (.selftestDone 1) (State.reset.wr cvug 0x0B0 (put 63 63 1 ||| put 27 24 15)) (fun t => decide (fld (t.rd cvug 0x0B0) 30 28 = 1 ∧ t.flying.map Incident.kind = [2]) && tst (t.rd cvug 0x028) 3))
    ∧ (idles (.selftestDone 0) (State.reset.wr cvug 0x0B0 (put 63 63 1)))
    ∧ (after (.incidentRecord 0) { State.reset with flying := [default] } (fun t => decide (t.flying = [] ∧ t.incSeq = State.reset.incSeq + 1 ∧ t.collector.length = 1)))
    ∧ (after (.incidentRecord 0) { State.reset with flying := [default], collector := List.replicate 256 default } (fun t => decide (t.flying = [] ∧ t.collector.length = 256) && tst (t.rd cvug 0x028) 6))
    ∧ (after (.incidentRecord 0) ({ State.reset with flying := [default] }.wr (gp .eccg) 0x088 0x1000) (fun t => decide (t.collector = [] ∧ t.rdF (gp .eccg) 0x0A0 18 0 = 1)))
    ∧ (after (.ceRateCheck 0 0 5) (State.reset.wr cvug 0x098 4) (fun t => decide (t.flying.map Incident.kind = [0])))
    ∧ (idles (.ceRateCheck 0 0 4) (State.reset.wr cvug 0x098 4))
    ∧ (after (.cvuRunWrite 0 1 7) roomOn0 (fun t => decide (t.rd (rp .cvu 0) 0x208 = 7)))
    ∧ (after (.cvuRunWrite 0x10003 1 7) State.reset (fun t => decide (t.rd (cvuxPage 67) 0x108 = 7)))
    ∧ (turnsAway (.cvuRunWrite 0x10003 4 7) State.reset (cvuxPage 67) 1) := by decide +kernel

/-- Bring-up in step `n` at ET `et`. -/
def bringsUp (n et : Nat) : State := { State.reset.setStep n with et := et, rim := { State.reset.rim with powered := true } }

theorem test_bring_up :
    (after .powerOn State.reset (fun t => decide (t.bringStep = 1 ∧ t.srvState = 1) && t.rim.powered))
    ∧ (idles .powerOn { State.reset with rim := { State.reset.rim with pinLow := true } })
    ∧ (after (.bringupStep true [] []) (bringsUp 1 15625000) (fun t => decide (t.bringStep = 2 ∧ t.srvState = 1)))
    ∧ (after (.bringupStep true [] []) (bringsUp 1 15625001) (fun t => decide (t.srvState = 4 ∧ t.rdF srvg 0x080 39 32 = 1)))
    ∧ (after (.bringupStep false [] []) (bringsUp 1 0) (fun t => decide (t.srvState = 4 ∧ t.rdF srvg 0x080 39 32 = 3)))
    ∧ (after (.bringupStep true [0] []) (bringsUp 2 0) (fun t => decide (t.srvState = 4 ∧ t.rdF srvg 0x080 39 32 = 4)))
    ∧ (after (.bringupStep true [2] []) (bringsUp 2 0) (fun t => decide (t.bringStep = 3 ∧ fld (t.rd clkg 0x080) 1 0 = 2)))
    ∧ (after (.bringupStep true [0, 0] []) (bringsUp 3 0) (fun t => decide (t.srvState = 5)))
    ∧ (after (.bringupStep true [] []) (bringsUp 13 0) (fun t => decide (t.srvState = 3) && tst (t.rd srvg 0x080) 63 && tst (t.rd srvg 0x028) 0))
    ∧ (after .bringupTimeout (bringsUp 4 781250001) (fun t => decide (t.srvState = 4)))
    ∧ (idles .bringupTimeout (bringsUp 4 781250000))
    ∧ (turnsAway (.houseReset 0x4852) (bringsUp 3 0) (gp .rstg) 1)
    ∧ (after (.houseReset 0x4853) ({ bringsUp 3 9 with mem := [(5, 1)] }) (fun t => decide (t.bringStep = 2 ∧ t.et = 0 ∧ t.mem = [] ∧ t.rd (gp .rstg) 0x0A0 = 1)))
    ∧ (after .perst (bringsUp 3 9) (fun t => decide (t.rd (gp .rstg) 0x0A0 = 4)))
    ∧ (after .porchWatchdog (bringsUp 3 9) (fun t => decide (t.rd (gp .rstg) 0x0A0 = 3)))
    ∧ (after .resetPin (bringsUp 3 9) (fun t => decide (t.srvState = 0 ∧ t.bringStep = 0) && t.rim.pinLow))
    ∧ (after .resetPinRise { bringsUp 0 9 with rim := { (bringsUp 0 9).rim with pinLow := true } } (fun t => decide (t.bringStep = 2) && !t.rim.pinLow))
    ∧ (turnsAway (.markBad 20736) State.reset srvg 8)
    ∧ (after .commit State.reset (fun t => t.rim.survNew.isSome))
    ∧ (after .surveyCommit { State.reset with rim := { State.reset.rim with survNew := some 5 }, et := 5 } (fun t => decide (t.rim.survNew = none) && (t.rim.flash.survA.isSome || t.rim.flash.survB.isSome)))
    ∧ (idles .surveyCommit { State.reset with rim := { State.reset.rim with survNew := some 5 }, et := 4 })
    ∧ (turnsAway (.retrainSeam 0 0) State.reset srvg 8)
    ∧ (turnsAway (.retrainChannel 48 0) celState srvg 8)
    ∧ (after (.retrainChannel 0 31) celState (fun t => decide (t.rim.retrCh = [31] ∧ t.rd (celPage 0) 0x080 = 0x7FFFFFFF) && tst (t.rd (celPage 0) 0x028) 2))
    ∧ (after (.channelOutOfService 0 31 17) celState (fun t => decide (t.rim.retrCh = [31])))
    ∧ (idles (.channelOutOfService 0 31 16) celState)
    ∧ (after (.retrainAttemptEnd 31 true) { celState.wr (celPage 0) 0x080 0x7FFFFFFF with rim := { celState.rim with retrCh := [31] } } (fun t => decide (t.rim.retrCh = []) && tst (t.rd (celPage 0) 0x080) 31))
    ∧ (after (.retrainAttemptEnd 31 false) { celState with rim := { celState.rim with retrCh := [31], retrTry := [(31, 1)] } } (fun t => decide (t.rim.retrCh = [31] ∧ smGet 0 t.rim.retrTry 31 = 2)))
    ∧ (after (.retrainAttemptEnd 31 false) { celState with rim := { celState.rim with retrCh := [31], retrTry := [(31, 2)] } } (fun t => decide (t.rim.retrCh = []) && tst (t.rd srvg 0x028) 7))
    ∧ (after (.retrainSeam 0 1) (State.reset.wr (halw 0) (halwSeam 1) (put 15 15 1)) (fun t => t.seamRetraining 0 1 && t.seamRetraining 1 3)) := by decide +kernel

/-- Room 0 in power state `st`, its Wing's Chimney regulating. -/
def powerState (st : Nat) : State := (State.reset.wr (pwr 0) 0x080 (put 63 61 st)).wr (pwrw 0) 0x080 (put 63 61 2)

theorem test_power :
    (after (.roomOn 0) (let s := (powerState 0).setSuite 0 (suite0 1 0); { s with rim := { s.rim with mapOk := true } }) (fun t => decide (t.pwrState 0 = 1 ∧ t.rdF (pwr 0) 0x080 60 58 = 1)))
    ∧ (turnsAway (.roomOn 0) (powerState 3) (pwr 0) 1)
    ∧ (turnsAway (.roomOn 0) ((powerState 0).wr (pwrw 0) 0x080 (put 63 61 1)) (pwr 0) 1)
    ∧ (after (.roomOff 0) (powerState 2) (fun t => decide (t.pwrState 0 = 0)))
    ∧ (turnsAway (.roomOff 0) (busyRoom) (pwr 0) 1)
    ∧ (after (.headerStage 0) { (powerState 1).wrF (pwr 0) 0x080 60 58 3 with et := 313 } (fun t => decide (t.rdF (pwr 0) 0x080 60 58 = 4)))
    ∧ (idles (.headerStage 0) { (powerState 1).wrF (pwr 0) 0x080 60 58 3 with et := 312 })
    ∧ (after (.roomPowerGood 0 false) ((powerState 1).wrF (pwr 0) 0x080 60 58 4) (fun t => decide (t.pwrState 0 = 2) && tst (t.rd (pwr 0) 0x028) 0))
    ∧ (after (.roomPowerGood 0 true) ((powerState 1).wrF (pwr 0) 0x080 60 58 4) (fun t => decide (t.pwrState 0 = 0) && t.isBad (t.physOf 0)))
    ∧ (after (.tripClr 0) ((powerState 3).wr (pwr 0) 0x090 1439) (fun t => decide (t.pwrState 0 = 0)))
    ∧ (turnsAway (.tripClr 0) ((powerState 3).wr (pwr 0) 0x090 1440) (pwr 0) 1)
    ∧ (after (.vtrimWrite 0 (put 15 8 8)) (powerState 2) (fun t => decide (fld (t.rd (pwr 0) 0x088) 15 8 = 8)))
    ∧ (turnsAway (.vtrimWrite 0 (put 15 8 9)) (powerState 2) (pwr 0) 1)
    ∧ (after (.tmaxClear 0) ((powerState 2).wr (pwr 0) 0x090 (put 31 16 900 ||| 700)) (fun t => decide (t.rdF (pwr 0) 0x090 31 16 = 700)))
    ∧ (after (.inputSample 3600 5) State.reset (fun t => decide (t.rim.vinBad = none) && tst (t.rd pwrg 0x028) 0))
    ∧ (after (.inputSample 6201 5) State.reset (fun t => decide (t.rim.vinBad = some 0)))
    ∧ (after .inputShutdown { (State.reset.wr pwrg 0x080 6201) with rim := { State.reset.rim with powered := true, vinBad := some 0 }, et := usToEt 10 } (fun t => !t.rim.powered))
    ∧ (idles .inputShutdown { (State.reset.wr pwrg 0x080 6201) with rim := { State.reset.rim with powered := true, vinBad := some 0 }, et := usToEt 10 - 1 })
    ∧ (after (.chimneySample 0 63 65535 4095) (powerState 0) (fun t => decide (t.rdF (pwrw 0) 0x080 59 54 = 63 ∧ t.rdF (pwrw 0) 0x080 11 0 = 4095)))
    ∧ (after (.pwrChimneyFault 0) (powerState 0) (fun t => decide (t.rdF (pwrw 0) 0x080 63 61 = 3 ∧ smGet 0 t.rim.fenceAsk 0 ≠ 0)))
    ∧ (after (.chimneyRestart 0 false) ((powerState 0).wr (pwrw 0) 0x080 (put 63 61 3)) (fun t => decide (t.rdF (pwrw 0) 0x080 63 61 = 1)))
    ∧ (turnsAway (.chimneyRestart 0 true) ((powerState 0).wr (pwrw 0) 0x080 (put 63 61 3)) (pwrw 0) 4)
    ∧ (after (.railReached 0) { (powerState 0).wr (pwrw 0) 0x080 (put 63 61 1) with rim := { State.reset.rim with railTo := [(0, 700)] } } (fun t => decide (t.rdF (pwrw 0) 0x080 63 61 = 2 ∧ t.rdF (pwrw 0) 0x088 31 16 = 700)))
    ∧ (after (.senseCheck 0 1 2 3 65535) (powerState 0) (fun t => decide (t.rd (pwrw 0) 0x090 = 0xFFFF000300020001)))
    ∧ (after (.coolantSample 5 450 500) State.reset (fun t => decide (t.rim.hotIn = none ∧ t.rim.flow = [(5, 450, 500)])))
    ∧ (after (.coolantSample 5 451 500) State.reset (fun t => decide (t.rim.hotIn = some 0)))
    ∧ (after .pwrCoolantFault { State.reset with rim := { State.reset.rim with hotIn := some 0 }, et := 156250000 } (fun t => t.rim.coolBad && tst (t.rd pwrg 0x028) 2))
    ∧ (idles .pwrCoolantFault { State.reset with rim := { State.reset.rim with flowLow := none, hotIn := none }, et := 156249999 })
    ∧ (after (.pwrLeak true) State.reset (fun t => t.rim.coolBad && tst (t.rd pwrg 0x088) 63 && tst (t.rd pwrg 0x028) 3))
    ∧ (after .pwrgClear { State.reset with rim := { State.reset.rim with coolBad := true } } (fun t => !t.rim.coolBad))
    ∧ (turnsAway .pwrgClear (State.reset.wr pwrg 0x088 (put 63 63 1)) pwrg 4) := by decide +kernel

/-- Suite 0 with a rate switch to 40 in phase `ph`. -/
def switching (ph : Nat) : State := (inSuite0 (suite0 1 1)).setRateSw 0 (some ⟨40, none, [], ph, false⟩)

theorem test_clocks :
    (after (.clkRefFail 0) (State.reset.wr clkg 0x080 (put 5 5 1 ||| 3)) (fun t => decide (fld (t.rd clkg 0x080) 3 3 = 1) && !tst (t.rd clkg 0x080) 0 && tst (t.rd clkg 0x028) 0))
    ∧ (after (.clkRefFail 0) (State.reset.wr clkg 0x080 3) (fun t => t.rim.refGone && tst (t.rd clkg 0x028) 1))
    ∧ (after (.refSelect (put 4 4 1)) (State.reset.wr clkg 0x080 3) (fun t => decide (fld (t.rd clkg 0x080) 4 3 = 3)))
    ∧ (after (.clkLockLost 0) State.reset (fun t => decide (smGet 0 t.rim.clkStop 0 = 1) && tst (t.rd (clkw 0) 0x028) 0))
    ∧ (after (.relock 0 1) { State.reset with rim := { State.reset.rim with clkStop := [(0, 1)] }, et := usToEt 1000 } (fun t => decide (smGet 0 t.rim.clkStop 0 = 0) && tst (t.rd (clkw 0) 0x080) 46))
    ∧ (idles (.relock 0 1) { State.reset with rim := { State.reset.rim with clkStop := [(0, 1)] }, et := usToEt 1000 + 1 })
    ∧ (after (.relockTimeout 0) { State.reset with rim := { State.reset.rim with clkStop := [(0, 1)] }, et := usToEt 1000 } (fun t => decide (smGet 0 t.rim.fenceAsk 0 ≠ 0)))
    ∧ (idles (.relockTimeout 0) { State.reset with rim := { State.reset.rim with clkStop := [(0, 1)] }, et := usToEt 1000 - 1 })
    ∧ (after (.coreLocked 0) (switching 1) (fun t => decide ((t.rateSw 0).map (fun r => r.locks) = some [0]) && tst (t.rd (clkw 0) 0x080) 46))
    ∧ (idles (.coreLocked 0) (switching 2))
    ∧ (after (.rateSwitch 0 (put 63 63 1 ||| put 55 48 35)) (inSuite0 (suite0 1 1)) (fun t => decide (t.rateSw 0 = none) && tst (t.rd clkg 0x028) 3))
    ∧ (after (.rateSwitch 1 (put 63 63 1 ||| put 55 48 40)) (inSuite0 (suite0 1 1)) (fun t => tst (t.rd clkg 0x028) 3))
    ∧ (after (.clkSwitchDone 0 []) (switching 2) (fun t => decide (t.rateSw 0 = none ∧ (t.suite 0).map (fun u => u.rate) = some 40) && tst (t.rd clkg 0x028) 2))
    ∧ (idles (.clkSwitchDone 0 []) (switching 1))
    ∧ (after (.peripheralGate 0 false) State.reset (fun t => decide (t.rd clkg 0x090 = State.reset.rd clkg 0x090 &&& 0x430))) := by decide +kernel

theorem test_suite_table :
    (after (.delete 0) (inSuite0 (suite0 1 0)) (fun t => decide (t.suite 0 = none) && tst (t.rd (gp .pchs) 0x028) 0))
    ∧ (after (.delete 0) (inSuite0 (suite0 1 5)) (fun t => decide (t.rd (gp .pchs) 0x088 = 6) && tst (t.rd (gp .pchs) 0x028) 1))
    ∧ (after (.delete 0) State.reset (fun t => decide (t.rd (gp .pchs) 0x088 = 5)))
    ∧ (after (.define (put 14 12 1)) State.reset (fun t => decide (t.rd (gp .pchs) 0x088 = 1 ∧ t.suites = [])))
    ∧ (after (.define (put 53 48 1)) (inSuite0 (suite0 1 0)) (fun t => decide (t.rd (gp .pchs) 0x088 = (put 53 48 1 ||| 2))))
    ∧ (turnsAway (.delete 0) { inSuite0 (suite0 1 0) with rim := { State.reset.rim with pchsBusy := some 0 } } (gp .pchs) 1)
    ∧ (idles (.remap [] 0 0) State.reset) := by decide +kernel

theorem test_resets :
    (after (.goBrick 0 63) roomOn0 (fun t => decide (t.brick 0 63 = (roomOn0.brick 0 63).reset) && tst (t.rd (rst 0) 0x028) 0))
    ∧ (turnsAway (.goBrick 0 0) State.reset (rst 0) 3)
    ∧ (after (.goRoom 0) (inSuite0 (suite0 0 2)) (fun t => decide (t.rstState 0 = 1) && (t.room 0).rstHalt && tst (t.rd (rst 0) 0x028) 4))
    ∧ (after (.goRoom 0) State.reset (fun t => tst (t.rd (rst 0) 0x028) 0))
    ∧ (after (.rstDrainTimeout 0) { (roomOn0.wr (rst 0) 0x088 (put 63 61 1)).modRoom 0 (fun r => { r with drain := 5 }) with et := 5 } (fun t => decide (t.rstState 0 = 2) && tst (t.rd (rst 0) 0x028) 1))
    ∧ (idles (.rstDrainTimeout 0) { (roomOn0.wr (rst 0) 0x088 (put 63 61 1)).modRoom 0 (fun r => { r with drain := 5 }) with et := 4 })
    ∧ (after (.roomResetRelease 0) { (roomOn0.wr (rst 0) 0x088 (put 63 61 2)).modRoom 0 (fun r => { r with resetAt := some 5 }) with et := 5 } (fun t => decide (t.rstState 0 = 0 ∧ (t.room 0).resetAt = none)))
    ∧ (idles (.roomResetRelease 0) { (roomOn0.wr (rst 0) 0x088 (put 63 61 2)).modRoom 0 (fun r => { r with resetAt := some 5 }) with et := 4 })
    ∧ (turnsAway (.suiteReset (put 63 63 1)) State.reset (gp .rstg) 1)
    ∧ (after (.trigInput 1) ((inSuite0 (suite0 1 2)).wr dbg 0x0A8 (put 63 62 3 ||| put 61 60 2)) (fun t => tst (t.rd dbg 0x028) 0))
    ∧ (idles (.trigInput 1) State.reset)
    ∧ (idles (.debugSweepOut 0) State.reset)
    ∧ (idles (.debugSweepIn 0 0) State.reset) := by decide +kernel

/-- The Porch in state READY. -/
def porchReady : State := State.reset.wr srvg 0x080 (put 63 63 1 ||| put 62 60 3)

theorem test_porch :
    (after (.bar2Access true 4 0 [7]) (State.reset.wr srvg 0x080 (put 62 60 5)) (fun t => decide (t.stageByte 4 = 7)))
    ∧ (after (.bar2Access false 4 2 []) State.reset (fun t => decide (t.out = [.completion 4 [0, 0]])))
    ∧ (turnsAway (.bar2Access true 4 0 [7]) (porchReady.wr pch 0x098 0) pch 1)
    ∧ (after (.bar2Access false 0x40 8 []) (((porchReady.wr pch 0x098 (put 63 63 1)).wr (celPage 0) 0x080 0xFFFFFFFF).wr (celPage 0) 0x400 (put 63 63 1 ||| put 62 62 1 ||| put 47 32 1)) (fun t => decide (t.mem = [])))
    ∧ (after (.pchPageTimeout (0x2000000 + 0x80) false) porchReady (fun t => decide (t.mem = [])))
    ∧ (after (.hostRequest 0 true) { porchReady with rim := { porchReady.rim with hostReqs := [⟨write8 0, 0x40, false⟩] } } (fun t => decide (t.out = [.hostWrite 0x40 [1, 2, 3, 4, 5, 6, 7, 8]] ∧ t.rim.hostReqs = [])))
    ∧ (after (.hostRequest 0 true) { porchReady with rim := { porchReady.rim with hostReqs := [⟨mkRead 0 0 0 0x40 8, 0x40, false⟩] } } (fun t => decide (t.out = [.hostRead 0x40 8] ∧ t.rim.hostReqs.map (fun h => h.sent) = [true])))
    ∧ (after (.hostCompletion 0 true [9]) { porchReady with rim := { porchReady.rim with hostReqs := [⟨mkRead 0 0 0 0x40 8, 0x40, true⟩] } } (fun t => decide (t.rim.hostReqs = [] ∧ t.pkts.length = 1)))
    ∧ (after .functionLevelReset { porchReady with rim := { porchReady.rim with bme := true } } (fun t => !t.rim.bme))
    ∧ (after (.recoveryImage true 3) ((State.reset.wr srvg 0x080 (put 62 60 5)).wr pch 0x0D8 (put 63 63 1 ||| 1)) (fun t => decide (t.rim.flash.slotA = some 3)))
    ∧ (after (.updateFw true 3) (((porchReady.wr pch 0x0B8 (put 63 63 1 ||| 1)).wr pch 0x0C0 0x40).wr pch 0x0C8 8) (fun t => decide (t.rim.flash.slotA = some 3 ∧ fld (t.rd pch 0x0D0) 63 62 = 2)))
    ∧ (after (.updateFw true 3) ((porchReady.wr pch 0x0B8 (put 63 63 1 ||| 1)).wr pch 0x0B0 2) (fun t => decide (fld (t.rd pch 0x0D0) 7 0 = 3)))
    ∧ (after .exportSurvey ((porchReady.wr pch 0x0B8 (put 63 63 1 ||| 2)).wr pch 0x0C0 0xFFFFFFFFFFFFFFFF) (fun t => decide (fld (t.rd pch 0x0D0) 7 0 = 4)))
    ∧ (after .mgmtCfg (((porchReady.wr pch 0x0B8 (put 63 63 1 ||| 3)).wr pch 0x0C0 5).wr pch 0x0C8 6) (fun t => decide (t.rim.mgmt = (5, 6)) && tst (t.rd pch 0x028) 4))
    ∧ (after .fwLock porchReady (fun t => tst (t.rd pch 0x0B0) 1))
    ∧ (after .dbgLock porchReady (fun t => tst (t.rd pch 0x0B0) 0))
    ∧ (after (.mgmtRequest 3 1 5 6) porchReady (fun t => decide (t.rd pch 0x0C0 = 5 ∧ t.rd pch 0x0C8 = 6)))
    ∧ (idles (.mgmtRequest 5 0 0 0) porchReady)
    ∧ (idles (.rackPmbusCommand 0x78) porchReady)
    ∧ (after (.gpioEdge 15 true) porchReady (fun t => t.rim.gpio.testBit 15))
    ∧ (after (.timerExpired 3) { porchReady with rim := { porchReady.rim with timers := [(3, 9)] } } (fun t => decide (smGet 0 t.rim.timers 3 = 0))) := by decide +kernel

theorem test_jtag :
    (after .jtagReset { State.reset with rim := { State.reset.rim with jtag := ⟨3, 5, 6, 2, (1, 2)⟩ } } (fun t => decide (t.rim.jtag = .fresh)))
    ∧ (after (.samplePreload 3 5) porchReady (fun t => decide (t.rim.jtag.seen = 3 ∧ t.rim.jtag.cells = 5)))
    ∧ (after (.extest 3 5) State.reset (fun t => decide (t.rim.jtag.drive = 1 ∧ t.out = [.pin "BSCAN" 5])))
    ∧ (after .highz ((powerState 0).wr srvg 0x080 (put 62 60 3)) (fun t => decide (t.rim.jtag.drive = 0 ∧ t.rim.jtag.ir = 0xFF)))
    ∧ (after (.dbgacc 1 0x80 0) (porchReady.wr pch 0x0B0 1) (fun t => decide (t.rim.jtag.acc = (put 63 62 1 ||| put 61 60 2 ||| 0x80, 0))))
    ∧ (after .observationSample (State.reset.wr clkg 0x090 0) (fun t => decide (t.out = [.pin "OBS" 0]))) := by decide +kernel
/-! ### Well-formedness: one term for each check of a command, ill-formed by that check alone -/

theorem test_wf_refused_0 : ([.registerWrite 0 2 0, .rcRead 0 2, .laneTokenArrive 16384 0 0 0, .laneTokenArrive 0 64 0 0, .nop 16384 0, .nop 0 64, .jnz 16384 0, .jnz 0 64,
    .fold 16384 0, .fold 0 64, .foldResume 16384 0, .foldResume 0 64, .stop 16384 0, .stop 0 64, .lsig 16384 0, .lsig 0 64, .lwait 16384 0,
    .lwait 0 64, .mac 16384 0, .mac 0 64, .macz 16384 0, .macz 0 64, .dot 16384 0, .dot 0 64, .dotz 16384 0, .dotz 0 64, .macs24 16384 0,
    .macs24 0 64, .macs48 16384 0, .macs48 0 64, .stkmac 16384 0, .stkmac 0 64, .stkin 16384 0, .stkin 0 64, .stkadd 16384 0, .stkadd 0 64,
    .stkdrain 16384 0, .stkdrain 0 64, .stkcvt 16384 0, .stkcvt 0 64] : List Instr).all  (fun c => !c.wf) = true := by
  decide +kernel

theorem test_wf_refused_1 : ([.accclr 16384 0, .accclr 0 64, .drain 16384 0, .drain 0 64, .drainc 16384 0, .drainc 0 64, .mxq 16384 0, .mxq 0 64, .fma 16384 0, .fma 0 64,
    .add 16384 0, .add 0 64, .sub 16384 0, .sub 0 64, .mul 16384 0, .mul 0 64, .min 16384 0, .min 0 64, .max 16384 0, .max 0 64, .neg 16384 0,
    .neg 0 64, .abs 16384 0, .abs 0 64, .cmp 16384 0, .cmp 0 64, .sel 16384 0, .sel 0 64, .cvt 16384 0, .cvt 0 64, .exp2 16384 0, .exp2 0 64,
    .log2 16384 0, .log2 0 64, .rcp 16384 0, .rcp 0 64, .rsqrt 16384 0, .rsqrt 0 64, .tanh 16384 0, .tanh 0 64] : List Instr).all  (fun c => !c.wf) = true := by
  decide +kernel

theorem test_wf_refused_2 : ([.erf 16384 0, .erf 0 64, .iadd 16384 0, .iadd 0 64, .isub 16384 0, .isub 0 64, .imul 16384 0, .imul 0 64, .andOp 16384 0, .andOp 0 64,
    .orOp 16384 0, .orOp 0 64, .xorOp 16384 0, .xorOp 0 64, .shl 16384 0, .shl 0 64, .shr 16384 0, .shr 0 64, .sra 16384 0, .sra 0 64, .imin 16384 0,
    .imin 0 64, .imax 16384 0, .imax 0 64, .icmp 16384 0, .icmp 0 64, .mov 16384 0, .mov 0 64, .ldi 16384 0, .ldi 0 64, .cld 16384 0, .cld 0 64,
    .cst 16384 0, .cst 0 64, .lut 16384 0, .lut 0 64, .sld 16384 0, .sld 0 64, .sst 16384 0, .sst 0 64] : List Instr).all  (fun c => !c.wf) = true := by
  decide +kernel

theorem test_wf_refused_3 : ([.sldt 16384 0, .sldt 0 64, .slds 16384 0, .slds 0 64, .gath 16384 0, .gath 0 64, .scat 16384 0, .scat 0 64, .spxp 16384 0, .spxp 0 64,
    .rand 16384 0, .rand 0 64, .rmask 16384 0, .rmask 0 64, .steer 16384 0, .steer 0 64, .merge 16384 0, .merge 0 64, .instructionResult 16384 0 0,
    .instructionResult 0 64 0, .brkWinWrite 16384 0 0, .csLoad 64, .loadCheck 64, .loadOutcome 64, .loaderRead 16384 0 false, .loadEffective 16384,
    .quarterRampDone 16384 0, .csRun 64, .runEnd 64, .checkPoint 16384, .csNop 64, .csStoke 64, .csCheckpoint 64, .csFence 64, .csLatchWait 64,
    .csHalt 64, .entryFetch 64 [] false [], .entryIssue 64, .commandUnitEnable 16384 0, .commandUnitDisable 16384 0] : List Instr).all  (fun c => !c.wf) = true := by
  decide +kernel

theorem test_wf_refused_4 : ([.csTailWrite 16384 0, .pause 16384, .resume 16384, .arrSeedWrite 16384 0, .freeze 64, .release 64, .stallReq 64, .halt 64, .suiteHalt 64,
    .suiteReg 64, .orReduce 64 false, .damper 64, .digest 64, .shelfBankStep 16384 0 0 false, .shelfBankStep 0 16 0 false, .eccWriteBack 16384,
    .shfQctrlWrite 16384 0, .shfRetire 16384 0, .bankCopyDone 16384 [], .dwtQTailWrite 16384 0 0, .dwtQTailWrite 0 8 0, .dwtQCfgWrite 16384 0 0,
    .dwtQCfgWrite 0 8 0, .dwtCopy 16384 0, .dwtCopy 0 8, .dwtTranspose 16384 0, .dwtTranspose 0 8, .tileStore 16384 0, .tileStore 0 8,
    .tileLoad 16384 0, .tileLoad 0 8, .tileWrap 16384 0, .tileWrap 0 8, .dwtFill 16384 0, .dwtFill 0 8, .dwtCheck 16384 0, .dwtCheck 0 8,
    .descriptorComplete 16384 0 false, .descriptorComplete 0 8 false, .hearthInstruction 16384 false] : List Instr).all  (fun c => !c.wf) = true := by
  decide +kernel

theorem test_wf_refused_5 : ([.hearthLoad 16384, .hearthStore 16384, .hearthAmo 16384, .hearthSc 16384, .hearthFence 16384, .fenceI 16384, .hearthInterrupt 16384 0,
    .hearthStart 16384 false, .hearthHalt 16384 false, .csFetch 16384 [] false [], .csExec 16384, .chSend 16384, .chNext 16384, .chDone 16384,
    .chOpen 16384, .chClose 16384, .ltSig 16384, .ltWait 16384, .dwPush 16384, .dwWait 16384, .dwWaitTimeout 16384, .spPut 16384 false, .stoke 16384,
    .stockpotEnable 16384 0 0, .stockpotEnable 0 32 0, .stpSyncRetry 16384 0, .stpSyncRetry 0 32, .stpTargetTimeout 16384 0, .stpTargetTimeout 0 32,
    .hallSlot 16384, .linkCvuCompare 16384 0 0, .linkCvuCompare 0 2 0, .linkCvuCompare 0 0 4, .routingTableWrite 16384 0 0,
    .latchConfigure false 16384 0 0, .latchConfigure false 0 64 0, .latchConfigure true 0 256 0, .lchArrive 16384 0 0 0, .lchArrive 0 64 0 0,
    .lchArrive 0 0 128 0] : List Instr).all  (fun c => !c.wf) = true := by
  decide +kernel

theorem test_wf_refused_6 : ([.latchSet false 16384 0, .latchSet false 0 64, .latchSet true 0 256, .latchClear false 16384 0, .latchClear false 0 64, .latchClear true 0 256,
    .latchAdvance false 16384 0, .latchAdvance false 0 64, .latchAdvance true 0 256, .arriveAs false 16384 0 0, .arriveAs false 0 64 0,
    .arriveAs true 0 256 0, .arriveAs false 0 0 128, .resetArrivals false 16384 0, .resetArrivals false 0 64, .resetArrivals true 0 256,
    .latchTimeout false 16384 0, .latchTimeout false 0 64, .latchTimeout true 0 256, .cellarRefresh 48, .celRegionWrite 48 0 0, .chuteEnable 32 0,
    .chuteDisable 32 0, .chuListTailWrite 32 0, .mark 32 [], .cellar 32 [], .larder 32 [], .gate 32 [], .chuteSourceData 32 [], .chutePacket 32 false,
    .starvationCheck 32, .chuteStarved 32, .larderSlotEnable 32 0 0, .creditPeriod 32 0, .larderData 32 0 0 0 [], .larderCheck 32 0 0 0 0,
    .abort 32 0 0, .eavModeSet 32 0, .portEnable 32 0, .portDisable 32 0] : List Instr).all  (fun c => !c.wf) = true := by
  decide +kernel

theorem test_wf_refused_7 : ([.trainingStep 64 0 0 0 false, .trainingAttemptTimeout 64, .trainingRetry 64, .eavLinkUp 64, .eavLinkDown 64 0 false, .eavFecDegraded 64 0 0 0,
    .fecDegradeTimeout 64, .ethFrameReceive 64 false false [], .ethFrameReceive 0 false false (List.replicate 65536 0), .pfcFrame 64 0 [],
    .yazalData 64 false [] [], .yazalAck 64 false [], .yazalReset 64 false [], .ackDelay 0 64, .rocePacket 64 false false 0 0 0 0 0 0 0 [],
    .rollCallGo 64 0, .rollCallPeriod 64, .rollCallTimeout 64, .suiteNoProgress 64, .inspectionWindowEnd 64 [], .strikeExpiry 20736,
    .eccCfgWrite 48 0, .recodeDone 48 [], .scrubRead 48 0, .scrubPassEnd 48, .shelfScrub 16384 [] [], .pageRetire 48 0 0, .eccRemapWrite 48 0,
    .sweepHold 64, .quiescence 64, .quiesceTimeout 64, .sweepOutDone 64 false, .holdRelease 64, .preempt 64, .sweepIn 64 0 0 0, .sweepReturn 64 0,
    .swpgResume 64, .swpgHalt 64, .swpgAbort 64, .sweepInDone 64 []] : List Instr).all  (fun c => !c.wf) = true := by
  decide +kernel

theorem test_wf_refused_8 : ([.damperTick 64, .profileRise 64 0 0, .floorHoldExpiry 64, .chimneyReady 64, .dmpStokeLate 64, .stokeEnd 64, .suiteBudgetWrite 64 0,
    .thermalSample 16384 0, .chimneySample 64 0 0 0, .pmbusPoll 64 0 0, .pwrChimneyFault 64, .chimneyRestart 64 false, .railReached 64,
    .senseCheck 64 0 0 0 0, .roomOn 16384, .roomOff 16384, .headerStage 16384, .roomPowerGood 16384 false, .tripClr 16384, .vtrimWrite 16384 0,
    .tmaxClear 16384, .clkLockLost 64, .relock 64 0, .relockTimeout 64, .rateSwitch 64 0, .coreLocked 64, .clkSwitchDone 64 [], .markBad 20736,
    .retrainSeam 64 0, .retrainChannel 48 0, .retrainChannel 0 32, .channelOutOfService 48 0 0, .channelOutOfService 0 32 0, .goBrick 16384 0,
    .goBrick 0 64, .goRoom 16384, .rstDrainTimeout 16384, .roomResetRelease 16384, .bar2Access false 68719476736 0 [], .trigInput 2] : List Instr).all  (fun c => !c.wf) = true := by
  decide +kernel

theorem test_wf_refused_9 : ([.fixedStallEnd 64] : List Instr).all  (fun c => !c.wf) = true := by
  decide +kernel

/-! The same commands with every index at its least value. -/

theorem test_wf_passes_0 : ([.registerWrite 0 8 0, .rcRead 0 8, .laneTokenArrive 0 0 0 0, .nop 0 0, .jnz 0 0, .fold 0 0, .foldResume 0 0, .stop 0 0, .lsig 0 0, .lwait 0 0,
    .mac 0 0, .macz 0 0, .dot 0 0, .dotz 0 0, .macs24 0 0, .macs48 0 0, .stkmac 0 0, .stkin 0 0, .stkadd 0 0, .stkdrain 0 0, .stkcvt 0 0, .accclr 0 0,
    .drain 0 0, .drainc 0 0, .mxq 0 0, .fma 0 0, .add 0 0, .sub 0 0, .mul 0 0, .min 0 0, .max 0 0, .neg 0 0, .abs 0 0, .cmp 0 0, .sel 0 0, .cvt 0 0,
    .exp2 0 0, .log2 0 0, .rcp 0 0, .rsqrt 0 0] : List Instr).all  (Instr.wf) = true := by
  decide +kernel

theorem test_wf_passes_1 : ([.tanh 0 0, .erf 0 0, .iadd 0 0, .isub 0 0, .imul 0 0, .andOp 0 0, .orOp 0 0, .xorOp 0 0, .shl 0 0, .shr 0 0, .sra 0 0, .imin 0 0, .imax 0 0,
    .icmp 0 0, .mov 0 0, .ldi 0 0, .cld 0 0, .cst 0 0, .lut 0 0, .sld 0 0, .sst 0 0, .sldt 0 0, .slds 0 0, .gath 0 0, .scat 0 0, .spxp 0 0, .rand 0 0,
    .rmask 0 0, .steer 0 0, .merge 0 0, .instructionResult 0 0 0, .brkWinWrite 0 0 0, .csLoad 0, .loadCheck 0, .loadOutcome 0, .loaderRead 0 0 false,
    .loadEffective 0, .quarterRampDone 0 0, .csRun 0, .runEnd 0] : List Instr).all  (Instr.wf) = true := by
  decide +kernel

theorem test_wf_passes_2 : ([.checkPoint 0, .csNop 0, .csStoke 0, .csCheckpoint 0, .csFence 0, .csLatchWait 0, .csHalt 0, .entryFetch 0 [] false [], .entryIssue 0,
    .commandUnitEnable 0 0, .commandUnitDisable 0 0, .csTailWrite 0 0, .pause 0, .resume 0, .arrSeedWrite 0 0, .freeze 0, .release 0, .stallReq 0,
    .halt 0, .suiteHalt 0, .suiteReg 0, .orReduce 0 false, .damper 0, .digest 0, .shelfBankStep 0 0 0 false, .eccWriteBack 0, .shfQctrlWrite 0 0,
    .shfRetire 0 0, .bankCopyDone 0 [], .dwtQTailWrite 0 0 0, .dwtQCfgWrite 0 0 0, .dwtCopy 0 0, .dwtTranspose 0 0, .tileStore 0 0, .tileLoad 0 0,
    .tileWrap 0 0, .dwtFill 0 0, .dwtCheck 0 0, .descriptorComplete 0 0 false, .hearthInstruction 0 false] : List Instr).all  (Instr.wf) = true := by
  decide +kernel

theorem test_wf_passes_3 : ([.hearthLoad 0, .hearthStore 0, .hearthAmo 0, .hearthSc 0, .hearthFence 0, .fenceI 0, .hearthInterrupt 0 0, .hearthStart 0 false,
    .hearthHalt 0 false, .csFetch 0 [] false [], .csExec 0, .chSend 0, .chNext 0, .chDone 0, .chOpen 0, .chClose 0, .ltSig 0, .ltWait 0, .dwPush 0,
    .dwWait 0, .dwWaitTimeout 0, .spPut 0 false, .stoke 0, .stockpotEnable 0 0 0, .stpSyncRetry 0 0, .stpTargetTimeout 0 0, .hallSlot 0,
    .linkCvuCompare 0 0 0, .routingTableWrite 0 0 0, .latchConfigure false 0 0 0, .lchArrive 0 0 0 0, .latchSet false 0 0, .latchClear false 0 0,
    .latchAdvance false 0 0, .arriveAs false 0 0 0, .resetArrivals false 0 0, .latchTimeout false 0 0, .cellarRefresh 0, .celRegionWrite 0 0 0,
    .chuteEnable 0 0] : List Instr).all  (Instr.wf) = true := by
  decide +kernel

theorem test_wf_passes_4 : ([.chuteDisable 0 0, .chuListTailWrite 0 0, .mark 0 [], .cellar 0 [], .larder 0 [], .gate 0 [], .chuteSourceData 0 [], .chutePacket 0 false,
    .starvationCheck 0, .chuteStarved 0, .larderSlotEnable 0 0 0, .creditPeriod 0 0, .larderData 0 0 0 0 [], .larderCheck 0 0 0 0 0, .abort 0 0 0,
    .eavModeSet 0 0, .portEnable 0 0, .portDisable 0 0, .trainingStep 0 0 0 0 false, .trainingAttemptTimeout 0, .trainingRetry 0, .eavLinkUp 0,
    .eavLinkDown 0 0 false, .eavFecDegraded 0 0 0 0, .fecDegradeTimeout 0, .ethFrameReceive 0 false false [], .pfcFrame 0 0 [],
    .yazalData 0 false [] [], .yazalAck 0 false [], .yazalReset 0 false [], .ackDelay 0 0, .rocePacket 0 false false 0 0 0 0 0 0 0 [],
    .rollCallGo 0 0, .rollCallPeriod 0, .rollCallTimeout 0, .suiteNoProgress 0, .inspectionWindowEnd 0 [], .strikeExpiry 0, .eccCfgWrite 0 0,
    .recodeDone 0 []] : List Instr).all  (Instr.wf) = true := by
  decide +kernel

theorem test_wf_passes_5 : ([.scrubRead 0 0, .scrubPassEnd 0, .shelfScrub 0 [] [], .pageRetire 0 0 0, .eccRemapWrite 0 0, .sweepHold 0, .quiescence 0, .quiesceTimeout 0,
    .sweepOutDone 0 false, .holdRelease 0, .preempt 0, .sweepIn 0 0 0 0, .sweepReturn 0 0, .swpgResume 0, .swpgHalt 0, .swpgAbort 0,
    .sweepInDone 0 [], .damperTick 0, .profileRise 0 0 0, .floorHoldExpiry 0, .chimneyReady 0, .dmpStokeLate 0, .stokeEnd 0, .suiteBudgetWrite 0 0,
    .thermalSample 0 0, .chimneySample 0 0 0 0, .pmbusPoll 0 0 0, .pwrChimneyFault 0, .chimneyRestart 0 false, .railReached 0, .senseCheck 0 0 0 0 0,
    .roomOn 0, .roomOff 0, .headerStage 0, .roomPowerGood 0 false, .tripClr 0, .vtrimWrite 0 0, .tmaxClear 0, .clkLockLost 0, .relock 0 0] : List Instr).all  (Instr.wf) = true := by
  decide +kernel

theorem test_wf_passes_6 : ([.relockTimeout 0, .rateSwitch 0 0, .coreLocked 0, .clkSwitchDone 0 [], .markBad 0, .retrainSeam 0 0, .retrainChannel 0 0,
    .channelOutOfService 0 0 0, .goBrick 0 0, .goRoom 0, .rstDrainTimeout 0, .roomResetRelease 0, .bar2Access false 0 0 [], .trigInput 0,
    .fixedStallEnd 0] : List Instr).all  (Instr.wf) = true := by
  decide +kernel

end Sys2Proof.Tests
end

/-! ## Every command answers (O3) -/

namespace Sys2Proof.Machine

theorem safe_next (t : State) : Safe (.next t) := ⟨t, rfl⟩

/-- Settles O3, by cases on the command: one whose meaning tests nothing answers outright, and of each of the others every branch ends in a next state
(where a command's moment has not come that is the state itself: the model's choice, log entry 6). -/
theorem everyCommandAnswers : Obligations.EveryCommandAnswers := by
  intro c s
  cases c with
  -- Bricks, lanes and Latches
  | laneTokenArrive room b src flip => change Safe (execLaneTokenArrive room b src flip s); fun_cases execLaneTokenArrive <;> exact safe_next _
  | foldResume room b => change Safe (execFoldResume room b s); fun_cases execFoldResume <;> exact safe_next _
  | instructionResult room b chk => change Safe (execInstructionResult room b chk s); fun_cases execInstructionResult <;> exact safe_next _
  | brkWinWrite room k v => change Safe (execBrkWinWrite room k v s); fun_cases execBrkWinWrite <;> exact safe_next _
  | lsig room b => change Safe (execLsig room b s); fun_cases execLsig <;> exact safe_next _
  | lwait room b => change Safe (execLwait room b s); fun_cases execLwait <;> exact safe_next _
  | glatch n => change Safe (execGlatch n s); fun_cases execGlatch <;> exact safe_next _
  | latchConfigure glob room n v => change Safe (execLatchConfigure glob room n v s); fun_cases execLatchConfigure <;> exact safe_next _
  | lchArrive room n pid frm => change Safe (execLchArrive room n pid frm s); fun_cases execLchArrive <;> exact safe_next _
  | latchSet glob room n => change Safe (execLatchSet glob room n s); fun_cases execLatchSet <;> exact safe_next _
  | latchClear glob room n => change Safe (execLatchClear glob room n s); fun_cases execLatchClear <;> exact safe_next _
  | latchAdvance glob room n => change Safe (execLatchAdvance glob room n s); fun_cases execLatchAdvance <;> exact safe_next _
  | arriveAs glob room n pid => change Safe (execArriveAs glob room n pid s); fun_cases execArriveAs <;> exact safe_next _
  | resetArrivals glob room n => change Safe (execResetArrivals glob room n s); fun_cases execResetArrivals <;> exact safe_next _
  | latchTimeout glob room n => change Safe (execLatchTimeout glob room n s); fun_cases execLatchTimeout <;> exact safe_next _
  -- Flue, Shelf and arrangements
  | pause room => change Safe (execPause room s); fun_cases execPause <;> exact safe_next _
  | resume room => change Safe (execResume room s); fun_cases execResume <;> exact safe_next _
  | arrSeedWrite room v => change Safe (execArrSeedWrite room v s); fun_cases execArrSeedWrite <;> exact safe_next _
  | suiteHalt suite => change Safe (execSuiteHalt suite s); fun_cases execSuiteHalt <;> exact safe_next _
  | orReduce suite engine => change Safe (execOrReduce suite engine s); fun_cases execOrReduce <;> exact safe_next _
  | heartbeat node flip => change Safe (execHeartbeat node flip s); fun_cases execHeartbeat <;> exact safe_next _
  | fluWatchdog node => change Safe (execFluWatchdog node s); fun_cases execFluWatchdog <;> exact safe_next _
  | fluLatencyWrite v => change Safe (execFluLatencyWrite v s); fun_cases execFluLatencyWrite <;> exact safe_next _
  | quarterRampDone room j => change Safe (execQuarterRampDone room j s); fun_cases execQuarterRampDone <;> exact safe_next _
  | shelfBankStep room bank errs addr => change Safe (execShelfBankStep room bank errs addr s); fun_cases execShelfBankStep <;> exact safe_next _
  | eccWriteBack room => change Safe (execEccWriteBack room s); fun_cases execEccWriteBack <;> exact safe_next _
  | shfQctrlWrite room v => change Safe (execShfQctrlWrite room v s); fun_cases execShfQctrlWrite <;> exact safe_next _
  | bankCopyDone room badRows => change Safe (execBankCopyDone room badRows s); fun_cases execBankCopyDone <;> exact safe_next _
  | shelfScrub room errs late => change Safe (execShelfScrub room errs late s); fun_cases execShelfScrub <;> exact safe_next _
  | csLoad suite => change Safe (execCsLoad suite s); fun_cases execCsLoad <;> exact safe_next _
  | loadCheck suite => change Safe (execLoadCheck suite s); fun_cases execLoadCheck <;> exact safe_next _
  | loadOutcome suite => change Safe (execLoadOutcome suite s); fun_cases execLoadOutcome <;> exact safe_next _
  | loaderRead room errs addr => change Safe (execLoaderRead room errs addr s); fun_cases execLoaderRead <;> exact safe_next _
  | loadEffective room => change Safe (execLoadEffective room s); fun_cases execLoadEffective <;> exact safe_next _
  | csRun suite => change Safe (execCsRun suite s); fun_cases execCsRun <;> exact safe_next _
  | runEnd suite => change Safe (execRunEnd suite s); fun_cases execRunEnd <;> exact safe_next _
  | checkPoint room => change Safe (execCheckPoint room s); fun_cases execCheckPoint <;> exact safe_next _
  | csNop suite => change Safe (execCsNop suite s); fun_cases execCsNop <;> exact safe_next _
  | csFence suite => change Safe (execCsFence suite s); fun_cases execCsFence <;> exact safe_next _
  | csLatchWait suite => change Safe (execCsLatchWait suite s); fun_cases execCsLatchWait <;> exact safe_next _
  | csHalt suite => change Safe (execCsHalt suite s); fun_cases execCsHalt <;> exact safe_next _
  | entryFetch suite data fail errs => change Safe (execEntryFetch suite data fail errs s); fun_cases execEntryFetch <;> exact safe_next _
  | entryIssue suite => change Safe (execEntryIssue suite s); fun_cases execEntryIssue <;> exact safe_next _
  | commandUnitEnable room v => change Safe (execCommandUnitEnable room v s); fun_cases execCommandUnitEnable <;> exact safe_next _
  | commandUnitDisable room v => change Safe (execCommandUnitDisable room v s); fun_cases execCommandUnitDisable <;> exact safe_next _
  | csTailWrite room v => change Safe (execCsTailWrite room v s); fun_cases execCsTailWrite <;> exact safe_next _
  -- The DWT, the Hearth and Stockpots
  | dwtQTailWrite room q v => change Safe (execDwtQTailWrite room q v s); fun_cases execDwtQTailWrite <;> exact safe_next _
  | dwtQCfgWrite room q v => change Safe (execDwtQCfgWrite room q v s); fun_cases execDwtQCfgWrite <;> exact safe_next _
  | descriptorComplete room q guard => change Safe (execDescriptorComplete room q guard s); fun_cases execDescriptorComplete <;> exact safe_next _
  | stockpotEnable room p v => change Safe (execStockpotEnable room p v s); fun_cases execStockpotEnable <;> exact safe_next _
  | stpSyncRetry room p => change Safe (execStpSyncRetry room p s); fun_cases execStpSyncRetry <;> exact safe_next _
  | stpTargetTimeout room p => change Safe (execStpTargetTimeout room p s); fun_cases execStpTargetTimeout <;> exact safe_next _
  | hearthInterrupt room cause => change Safe (execHearthInterrupt room cause s); fun_cases execHearthInterrupt <;> exact safe_next _
  -- The Hall
  | epochFlip => change Safe (execEpochFlip s); fun_cases execEpochFlip <;> exact safe_next _
  | routingTableWrite room off w => change Safe (execRoutingTableWrite room off w s); fun_cases execRoutingTableWrite <;> exact safe_next _
  | hallEpochDone => change Safe (execHallEpochDone s); fun_cases execHallEpochDone <;> exact safe_next _
  | hallDrainTimeout => change Safe (execHallDrainTimeout s); fun_cases execHallDrainTimeout <;> exact safe_next _
  | hallRoute k flips merge bad stall => change Safe (execHallRoute k flips merge bad stall s); fun_cases execHallRoute <;> exact safe_next _
  | hallSlot room => change Safe (execHallSlot room s); fun_cases execHallSlot <;> exact safe_next _
  | ageIncrement k => change Safe (execAgeIncrement k s); fun_cases execAgeIncrement <;> exact safe_next _
  | linkCvuCompare room net port => change Safe (execLinkCvuCompare room net port s); fun_cases execLinkCvuCompare <;> exact safe_next _
  -- Cellars and Chutes
  | cellarAccess k errs => change Safe (execCellarAccess k errs s); fun_cases execCellarAccess <;> exact safe_next _
  | ringReservation k => change Safe (execRingReservation k s); fun_cases execRingReservation <;> exact safe_next _
  | celRegionWrite stack r v => change Safe (execCelRegionWrite stack r v s); fun_cases execCelRegionWrite <;> exact safe_next _
  | eccCfgWrite stack v => change Safe (execEccCfgWrite stack v s); fun_cases execEccCfgWrite <;> exact safe_next _
  | recodeDone stack bad => change Safe (execRecodeDone stack bad s); fun_cases execRecodeDone <;> exact safe_next _
  | scrubRead stack e => change Safe (execScrubRead stack e s); fun_cases execScrubRead <;> exact safe_next _
  | scrubPassEnd stack => change Safe (execScrubPassEnd stack s); fun_cases execScrubPassEnd <;> exact safe_next _
  | pageRetire stack v e => change Safe (execPageRetire stack v e s); fun_cases execPageRetire <;> exact safe_next _
  | eccRemapWrite stack v => change Safe (execEccRemapWrite stack v s); fun_cases execEccRemapWrite <;> exact safe_next _
  | logHeadWrite v => change Safe (execLogHeadWrite v s); fun_cases execLogHeadWrite <;> exact safe_next _
  | chuteEnable c v => change Safe (execChuteEnable c v s); fun_cases execChuteEnable <;> exact safe_next _
  | chuteDisable c v => change Safe (execChuteDisable c v s); fun_cases execChuteDisable <;> exact safe_next _
  | gate c errs => change Safe (execGate c errs s); fun_cases execGate <;> exact safe_next _
  | chuteSourceData c errs => change Safe (execChuteSourceData c errs s); fun_cases execChuteSourceData <;> exact safe_next _
  | chutePacket c bad => change Safe (execChutePacket c bad s); fun_cases execChutePacket <;> exact safe_next _
  | starvationCheck c => change Safe (execStarvationCheck c s); fun_cases execStarvationCheck <;> exact safe_next _
  | chuteStarved c => change Safe (execChuteStarved c s); fun_cases execChuteStarved <;> exact safe_next _
  | larderSlotEnable c j v => change Safe (execLarderSlotEnable c j v s); fun_cases execLarderSlotEnable <;> exact safe_next _
  | creditPeriod c j => change Safe (execCreditPeriod c j s); fun_cases execCreditPeriod <;> exact safe_next _
  | abort c j session => change Safe (execAbort c j session s); fun_cases execAbort <;> exact safe_next _
  -- Eaves, Yazal and RoCE
  | trainingStep port engine partner mac native => change Safe (execTrainingStep port engine partner mac native s); fun_cases execTrainingStep <;> exact safe_next _
  | trainingAttemptTimeout port => change Safe (execTrainingAttemptTimeout port s); fun_cases execTrainingAttemptTimeout <;> exact safe_next _
  | trainingRetry port => change Safe (execTrainingRetry port s); fun_cases execTrainingRetry <;> exact safe_next _
  | eavLinkUp port => change Safe (execEavLinkUp port s); fun_cases execEavLinkUp <;> exact safe_next _
  | eavLinkDown port uncorr lost => change Safe (execEavLinkDown port uncorr lost s); fun_cases execEavLinkDown <;> exact safe_next _
  | eavFecDegraded port lane ber rx => change Safe (execEavFecDegraded port lane ber rx s); fun_cases execEavFecDegraded <;> exact safe_next _
  | fecDegradeTimeout port => change Safe (execFecDegradeTimeout port s); fun_cases execFecDegradeTimeout <;> exact safe_next _
  | ackDelay n port => change Safe (execAckDelay n port s); fun_cases execAckDelay <;> exact safe_next _
  | streamTimeout n => change Safe (execStreamTimeout n s); fun_cases execStreamTimeout <;> exact safe_next _
  | keepalive n => change Safe (execKeepalive n s); fun_cases execKeepalive <;> exact safe_next _
  | doorbell => change Safe (execDoorbell s); fun_cases execDoorbell <;> exact safe_next _
  | latchArrive n => change Safe (execLatchArrive n s); fun_cases execLatchArrive <;> exact safe_next _
  | rtoExpiry n => change Safe (execRtoExpiry n s); fun_cases execRtoExpiry <;> exact safe_next _
  | contextMissFill n => change Safe (execContextMissFill n s); fun_cases execContextMissFill <;> exact safe_next _
  -- The silent-error defence
  | rollCallPeriod suite => change Safe (execRollCallPeriod suite s); fun_cases execRollCallPeriod <;> exact safe_next _
  | rollCall n => change Safe (execRollCall n s); fun_cases execRollCall <;> exact safe_next _
  | rollSplit n => change Safe (execRollSplit n s); fun_cases execRollSplit <;> exact safe_next _
  | rollCallTimeout suite => change Safe (execRollCallTimeout suite s); fun_cases execRollCallTimeout <;> exact safe_next _
  | inspInstall v signed => change Safe (execInspInstall v signed s); fun_cases execInspInstall <;> exact safe_next _
  | inspectionWindowEnd suite fails => change Safe (execInspectionWindowEnd suite fails s); fun_cases execInspectionWindowEnd <;> exact safe_next _
  | selfTest v ref firmware => change Safe (execSelfTest v ref firmware s); fun_cases execSelfTest <;> exact safe_next _
  | selftestDone result => change Safe (execSelftestDone result s); fun_cases execSelftestDone <;> exact safe_next _
  | incidentRecord k => change Safe (execIncidentRecord k s); fun_cases execIncidentRecord <;> exact safe_next _
  | ceRateCheck kind inst rise => change Safe (execCeRateCheck kind inst rise s); fun_cases execCeRateCheck <;> exact safe_next _
  | cvuRunWrite unit k v => change Safe (execCvuRunWrite unit k v s); fun_cases execCvuRunWrite <;> exact safe_next _
  -- Sweep
  | csCheckpoint suite => change Safe (execCsCheckpoint suite s); fun_cases execCsCheckpoint <;> exact safe_next _
  | jobHalt n => change Safe (execJobHalt n s); fun_cases execJobHalt <;> exact safe_next _
  | sweepHold suite => change Safe (execSweepHold suite s); fun_cases execSweepHold <;> exact safe_next _
  | quiescence suite => change Safe (execQuiescence suite s); fun_cases execQuiescence <;> exact safe_next _
  | quiesceTimeout suite => change Safe (execQuiesceTimeout suite s); fun_cases execQuiesceTimeout <;> exact safe_next _
  | sweepOutDone suite fail => change Safe (execSweepOutDone suite fail s); fun_cases execSweepOutDone <;> exact safe_next _
  | holdRelease suite => change Safe (execHoldRelease suite s); fun_cases execHoldRelease <;> exact safe_next _
  | sweepInDone suite bad => change Safe (execSweepInDone suite bad s); fun_cases execSweepInDone <;> exact safe_next _
  | resumeEt => change Safe (execResumeEt s); fun_cases execResumeEt <;> exact safe_next _
  -- Power, Damper, Chimneys and clocks
  | csStoke suite => change Safe (execCsStoke suite s); fun_cases execCsStoke <;> exact safe_next _
  | damperTick wing => change Safe (execDamperTick wing s); fun_cases execDamperTick <;> exact safe_next _
  | profileRise suite start level => change Safe (execProfileRise suite start level s); fun_cases execProfileRise <;> exact safe_next _
  | chimneyReady wing => change Safe (execChimneyReady wing s); fun_cases execChimneyReady <;> exact safe_next _
  | dmpStokeLate suite => change Safe (execDmpStokeLate suite s); fun_cases execDmpStokeLate <;> exact safe_next _
  | stokeEnd suite => change Safe (execStokeEnd suite s); fun_cases execStokeEnd <;> exact safe_next _
  | powerWindow => change Safe (execPowerWindow s); fun_cases execPowerWindow <;> exact safe_next _
  | draughtEnable v => change Safe (execDraughtEnable v s); fun_cases execDraughtEnable <;> exact safe_next _
  | draughtPeriod => change Safe (execDraughtPeriod s); fun_cases execDraughtPeriod <;> exact safe_next _
  | inputShutdown => change Safe (execInputShutdown s); fun_cases execInputShutdown <;> exact safe_next _
  | pwrChimneyFault wing => change Safe (execPwrChimneyFault wing s); fun_cases execPwrChimneyFault <;> exact safe_next _
  | railReached wing => change Safe (execRailReached wing s); fun_cases execRailReached <;> exact safe_next _
  | senseCheck wing q0 q1 q2 q3 => change Safe (execSenseCheck wing q0 q1 q2 q3 s); fun_cases execSenseCheck <;> exact safe_next _
  | roomPowerGood room decoderBad => change Safe (execRoomPowerGood room decoderBad s); fun_cases execRoomPowerGood <;> exact safe_next _
  | clkRefFail ref => change Safe (execClkRefFail ref s); fun_cases execClkRefFail <;> exact safe_next _
  | clkLockLost wing => change Safe (execClkLockLost wing s); fun_cases execClkLockLost <;> exact safe_next _
  | relock wing core => change Safe (execRelock wing core s); fun_cases execRelock <;> exact safe_next _
  | rateSwitch suite v => change Safe (execRateSwitch suite v s); fun_cases execRateSwitch <;> exact safe_next _
  | coreLocked wing => change Safe (execCoreLocked wing s); fun_cases execCoreLocked <;> exact safe_next _
  | clkSwitchDone suite bad => change Safe (execClkSwitchDone suite bad s); fun_cases execClkSwitchDone <;> exact safe_next _
  | peripheralGate v firmware => change Safe (execPeripheralGate v firmware s); fun_cases execPeripheralGate <;> exact safe_next _
  -- Bring-up, Survey, remap and resets
  | powerOn => change Safe (execPowerOn s); fun_cases execPowerOn <;> exact safe_next _
  | bringupStep ok ns ws => change Safe (execBringupStep ok ns ws s); fun_cases execBringupStep <;> exact safe_next _
  | houseReset v => change Safe (execHouseReset v s); fun_cases execHouseReset <;> exact safe_next _
  | resetPin => change Safe (execResetPin s); fun_cases execResetPin <;> exact safe_next _
  | resetPinRise => change Safe (execResetPinRise s); fun_cases execResetPinRise <;> exact safe_next _
  | retrainAttemptEnd target good => change Safe (execRetrainAttemptEnd target good s); fun_cases execRetrainAttemptEnd <;> exact safe_next _
  | remap masks failed us => change Safe (execRemap masks failed us s); fun_cases execRemap <;> exact safe_next _
  | define v => change Safe (execDefine v s); fun_cases execDefine <;> exact safe_next _
  | delete v => change Safe (execDelete v s); fun_cases execDelete <;> exact safe_next _
  | goBrick room b => change Safe (execGoBrick room b s); fun_cases execGoBrick <;> exact safe_next _
  | rstDrainTimeout room => change Safe (execRstDrainTimeout room s); fun_cases execRstDrainTimeout <;> exact safe_next _
  | roomResetRelease room => change Safe (execRoomResetRelease room s); fun_cases execRoomResetRelease <;> exact safe_next _
  | suiteReset v => change Safe (execSuiteReset v s); fun_cases execSuiteReset <;> exact safe_next _
  -- The Porch and debug access
  | holdoffExpiry src => change Safe (execHoldoffExpiry src s); fun_cases execHoldoffExpiry <;> exact safe_next _
  | bar2Access write off n data => change Safe (execBar2Access write off n data s); fun_cases execBar2Access <;> exact safe_next _
  | pchPageTimeout addr write => change Safe (execPchPageTimeout addr write s); fun_cases execPchPageTimeout <;> exact safe_next _
  | hostRequest k bme => change Safe (execHostRequest k bme s); fun_cases execHostRequest <;> exact safe_next _
  | hostCompletion k ok data => change Safe (execHostCompletion k ok data s); fun_cases execHostCompletion <;> exact safe_next _
  | recoveryImage verifies version => change Safe (execRecoveryImage verifies version s); fun_cases execRecoveryImage <;> exact safe_next _
  | updateFw verifies version => change Safe (execUpdateFw verifies version s); fun_cases execUpdateFw <;> exact safe_next _
  | exportSurvey => change Safe (execExportSurvey s); fun_cases execExportSurvey <;> exact safe_next _
  | mgmtCfg => change Safe (execMgmtCfg s); fun_cases execMgmtCfg <;> exact safe_next _
  | mgmtRequest op a x y => change Safe (execMgmtRequest op a x y s); fun_cases execMgmtRequest <;> exact safe_next _
  | rackPmbusCommand cmd => change Safe (execRackPmbusCommand cmd s); fun_cases execRackPmbusCommand <;> exact safe_next _
  | gpioEdge pin level => change Safe (execGpioEdge pin level s); fun_cases execGpioEdge <;> exact safe_next _
  | trigInput pin => change Safe (execTrigInput pin s); fun_cases execTrigInput <;> exact safe_next _
  | debugSweepOut bad => change Safe (execDebugSweepOut bad s); fun_cases execDebugSweepOut <;> exact safe_next _
  | debugSweepIn bad crc => change Safe (execDebugSweepIn bad crc s); fun_cases execDebugSweepIn <;> exact safe_next _
  | extest pins vals => change Safe (execExtest pins vals s); fun_cases execExtest <;> exact safe_next _
  | clamp => change Safe (execClamp s); fun_cases execClamp <;> exact safe_next _
  | dbgacc op off data => change Safe (execDbgacc op off data s); fun_cases execDbgacc <;> exact safe_next _
  | observationSample => change Safe (execObservationSample s); fun_cases execObservationSample <;> exact safe_next _
  -- Every other command is one update of the state.
  | _ => exact safe_next _

end Sys2Proof.Machine

/-! ## Register accesses (O27): what an access code leaves of a register, the one register an access reaches, and the bad access -/

namespace Sys2Proof.Machine

/-! ### What an access code leaves -/

/-- A register as an 8-byte write of `v` leaves it: RW and RWS bits take the value, W1C bits clear where it is 1, the rest stays (R10, R11). -/
def RegRow.written (r : RegRow) (old v : W64) : W64 := ((old &&& ~~~ (r.rw ||| r.rws)) ||| (v &&& (r.rw ||| r.rws))) &&& ~~~ (v &&& r.w1c)

theorem tst_written_w1c {r : RegRow} {i : Nat} (old : W64) {v : W64} (hr : tst r.w1c i = true) (hv : tst v i = true) : tst (r.written old v) i = false := by
  unfold tst at *
  simp [RegRow.written, hr, hv]

theorem State.regPut_of_row (s : State) {p : PageRef} {off : Nat} {r : RegRow} (v : W64) (h : regRow p.page off = some r) :
    s.regPut p off v = s.wr p off (r.written (s.rd p off) v) := by
  simp only [State.regPut, h, RegRow.written]

/-! ### Pages whose every register is plain -/

/-- A page of a Room window with no command behind its registers, and no injection that is more than armed. -/
structure PageRef.Plain (p : PageRef) : Prop where
  inRoom    : p.page.inRoom = true
  notDbg    : p ≠ dbg
  roomPut   : ∀ (s : State) (off : Nat) (v : W64), s.roomPut p off v = s.regPut p off v
  injectNow : ∀ (s : State) (b : Nat), s.injectNow p b = none
  injectRun : ∀ (s : State) (b : Nat), s.injectRun p b = s

theorem PageRef.plain_of_mem {p : PageRef} (h : p.page ∈ [Page.ecc, .swp, .dmp, .flu]) : p.Plain := by
  obtain ⟨page, inst⟩ := p
  simp only [List.mem_cons, List.not_mem_nil, or_false] at h
  obtain rfl | rfl | rfl | rfl := h <;> exact ⟨rfl, by simp [dbg, gp], fun _ _ _ => rfl, fun _ _ => rfl, fun _ _ => rfl⟩

/-! ### The access reaches its register -/

section
variable {s : State} {addr : Nat} {a : BarAt}

/-- A write that reaches a register gets past every decoder check, to the page (R595). -/
theorem BarReach.hostWrite (h : BarReach s addr a) (v : W64) : s.hostWrite addr 8 v = s.pageSet a v false := by
  obtain ⟨small, aligned, outside, decode, answers, heard, tame, -⟩ := h
  have noMsix : ¬ (s.rdF (gp .srvg) 0x080 62 60 ≠ 5 ∧ 1 < s.rdF (gp .srvg) 0x080 62 60 ∧ 0x00F00000 ≤ addr ∧ addr < 0x00F08000) := by omega
  simp only [State.hostWrite, Nat.mod_eq_of_lt small, aligned, noMsix, decode, answers, heard, tame]
  simp

/-- A read that reaches a register answers its value and clears its RC bits (R10, R595). -/
theorem BarReach.hostRead (h : BarReach s addr a) : s.hostRead addr 8 = (s.readClear a).answer (s.barRead a) := by
  obtain ⟨small, aligned, outside, decode, answers, heard, tame, -⟩ := h
  have noMsix : ¬ (s.rdF (gp .srvg) 0x080 62 60 ≠ 5 ∧ 1 < s.rdF (gp .srvg) 0x080 62 60 ∧ 0x00F00000 ≤ addr ∧ addr < 0x00F08100) := by omega
  have whole : addr / 8 * 8 = addr := by omega
  simp only [State.hostRead, Nat.mod_eq_of_lt small, aligned, noMsix, whole, decode, answers, heard, tame]
  simp [aligned]

/-- A write of a plain register follows its access codes alone. -/
theorem BarReach.write_plain (h : BarReach s addr a) {r : RegRow} (hr : PlainAt a r) (v : W64) :
    s.hostWrite addr 8 v = s.wr a.page a.off (r.written (s.rd a.page a.off) v) := by
  obtain ⟨page, above, row⟩ := hr
  obtain ⟨lit, light⟩ := h.lit
  have plain := PageRef.plain_of_mem page
  rw [h.hostWrite, ← s.regPut_of_row v row, ← plain.roomPut]
  simp [State.pageSet, lit, light, Nat.not_lt.mpr above, row, plain.inRoom]

theorem BarReach.readClear_plain (h : BarReach s addr a) {r : RegRow} (hr : PlainAt a r) :
    s.readClear a = if r.rc = 0 then s else s.wr a.page a.off (s.rd a.page a.off &&& ~~~ r.rc) := by
  obtain ⟨-, -, row⟩ := hr
  obtain ⟨lit, light⟩ := h.lit
  simp [State.readClear, lit, light, row]

theorem BarReach.write_event (h : BarReach s addr a) (v : W64) (ho : a.off = 0x028) (hd : ¬ (a.page = dbg ∧ s.dbgLocked)) :
    s.hostWrite addr 8 v = s.eventClear a.page v := by
  obtain ⟨lit, light⟩ := h.lit
  rw [h.hostWrite]
  simp only [State.pageSet, lit, light, ho, hd]
  simp

theorem BarReach.write_inject (h : BarReach s addr a) (v : W64) (ho : a.off = 0x038) (hd : a.page ≠ dbg) :
    s.hostWrite addr 8 v = s.injectWrite a.page v := by
  obtain ⟨lit, light⟩ := h.lit
  rw [h.hostWrite]
  simp [State.pageSet, lit, light, ho, hd]

end

/-! ### Injection -/

/-- An injection armed (R79). -/
def State.arm (s : State) (p : PageRef) (b : Nat) : State := { s with armed := smSet 0 s.armed (pageKey p) (setBit (smGet 0 s.armed (pageKey p)) b) }

theorem State.isArmed_arm (s : State) (p : PageRef) {b : Nat} (h : b < 64) : (s.arm p b).isArmed p b = true := by
  simp [State.arm, State.isArmed, tst_setBit _ h]

theorem State.isArmed_arm_ne (s : State) (p : PageRef) {b c : Nat} (h : c ≠ b) : (s.arm p b).isArmed p c = s.isArmed p c := by
  simp [State.arm, State.isArmed, tst_setBit_ne _ h]

theorem tst_put_one {b : Nat} (h : b < 64) : tst (put b b 1) b = true := by
  rw [tst_fld, fld_put 1 h (by simp), decide_eq_true rfl]

theorem tst_put_one_ne {b c : Nat} (h : c ≠ b) : tst (put b b 1) c = false := by
  rw [tst_fld, fld_put_ne 1 (by omega), decide_eq_false (by decide)]

/-- One bit written to EVENT_INJECT of a plain page arms the injection of that bit and no other. -/
theorem PageRef.Plain.injectWrite_one {p : PageRef} (plain : p.Plain) (s : State) {b : Nat} (hb : b < 64) (hi : tst p.page.injects b = true) :
    s.injectWrite p (put b b 1) = s.arm p b := by
  have one : tst (put b b 1 &&& p.page.injects) b = true := by rw [tst_and _ hi, tst_put_one hb]
  have others : ∀ c, c ≠ b → tst (put b b 1 &&& p.page.injects) c = false := fun c hc => by
    rw [BitVec.and_comm, tst_and_drop _ (tst_put_one_ne hc)]
  unfold State.injectWrite
  rw [foldl_only _ List.nodup_range (List.mem_range.mpr hb) (fun c _ hc x => by simp [others c hc])]
  simp [one, plain.injectNow, plain.injectRun, State.arm]

/-! ### A bad access -/

theorem State.capture_rd_key (s : State) {p q : PageRef} {o a : Nat} (v : W64) (h : regKey q a ≠ regKey p o) : (s.capture p o v).rd q a = s.rd q a := by
  unfold State.capture
  split
  · rfl
  · exact s.rd_wr_key _ h

theorem State.badAccess_event (s : State) (bar off : Nat) : tst ((s.badAccess bar off).rd (gp .pch) 0x028) 0 = true :=
  State.raise_sets _ false rfl (by decide)

/-- A bad access changes registers of the PCH page alone. -/
theorem State.badAccess_rd (s : State) (bar off : Nat) {q : PageRef} {o : Nat} (hq : q ≠ gp .pch) (hi : q.inst < 2 ^ 20) (ho : o < 4096) :
    (s.badAccess bar off).rd q o = s.rd q o := by
  have apart : ∀ b, b < 4096 → regKey q o ≠ regKey (gp .pch) b := fun b hb => regKey_page hi (by decide) ho hb hq
  unfold State.badAccess
  rw [State.raise_rd _ false (apart _ (by decide)) (apart _ (by decide)), State.bump, State.rd_wr_key _ _ (apart _ (by decide)),
    State.capture_rd_key _ _ (apart _ (by decide))]

theorem State.badAccess_mem (s : State) (bar off : Nat) : (s.badAccess bar off).mem = s.mem := by simp [State.badAccess]

theorem State.badAccess_rim (s : State) (bar off : Nat) : (s.badAccess bar off).rim = s.rim := by simp [State.badAccess]

theorem State.hostWrite_bad (s : State) {n size : Nat} (v : W64) (hn : n < 2 ^ 32) (h : size ≠ 8 ∨ n % 8 ≠ 0) : s.hostWrite n size v = s.badAccess 0 n := by
  simp only [State.hostWrite, Nat.mod_eq_of_lt hn, if_pos h]

/-! ### The commands -/

section
variable {s : State} {addr : Nat} {a : BarAt}

theorem rcRead_plain (h : BarReach s addr a) {r : RegRow} (hr : PlainAt a r) :
    Completes (.rcRead addr 8) s fun t => t.busData = s.barRead a ∧ t.rd a.page a.off = s.rd a.page a.off &&& ~~~ r.rc
      ∧ (∀ q o, regKey q o ≠ regKey a.page a.off → t.rd q o = s.rd q o) ∧ { t with regs := s.regs, busData := s.busData } = s := by
  refine ⟨(s.readClear a).answer (s.barRead a), congrArg Host.Outcome.next h.hostRead, rfl, ?_⟩
  rw [h.readClear_plain hr]
  by_cases hrc : r.rc = 0
  · rw [if_pos hrc, hrc]
    exact ⟨BitVec.and_allOnes.symm, fun _ _ _ => rfl, rfl⟩
  · rw [if_neg hrc]
    exact ⟨s.rd_wr_self .., fun q o hk => s.rd_wr_key _ hk, rfl⟩

theorem whereRearm_plain (h : BarReach s addr a) {r : RegRow} (hr : PlainAt a r) (hw : tst r.w1c 31 = true) :
    Completes (.whereRearm addr) s fun t => tst (t.rd a.page a.off) 31 = false
      ∧ (∀ q o, regKey q o ≠ regKey a.page a.off → t.rd q o = s.rd q o) ∧ { t with regs := s.regs } = s := by
  refine ⟨_, congrArg Host.Outcome.next (h.write_plain hr (put 31 31 1)), ?_, fun q o hk => s.rd_wr_key _ hk, rfl⟩
  rw [State.rd_wr_self]
  exact tst_written_w1c _ hw (by decide)

/-- EVENT_CLEAR and EVENT_INJECT name a page by an offset within it and reach the register at a fixed offset of that page. -/
theorem pageBase_add_offset {off : Nat} (h : addr % 4096 = off) : addr / 0x1000 * 0x1000 + off = addr := by omega

theorem eventClear_page (h : BarReach s addr a) (v : W64) (hm : addr % 4096 = 0x028) (ho : a.off = 0x028) (hd : ¬ (a.page = dbg ∧ s.dbgLocked)) :
    Completes (.eventClear addr v) s fun t => t.rd a.page 0x028 = s.rd a.page 0x028 &&& ~~~ v
      ∧ (∀ q o, regKey q o ≠ regKey a.page 0x028 → t.rd q o = s.rd q o) ∧ { t with regs := s.regs, injLat := s.injLat } = s := by
  have written : s.hostWrite (addr / 0x1000 * 0x1000 + 0x028) 8 v = s.eventClear a.page v := by
    rw [pageBase_add_offset hm, h.write_event v ho hd]
  exact ⟨_, congrArg Host.Outcome.next written, s.rd_wr_self .., fun q o hk => s.rd_wr_key _ hk, rfl⟩

theorem eventInject_plain (h : BarReach s addr a) {b : Nat} (hm : addr % 4096 = 0x038) (ho : a.off = 0x038)
    (plain : a.page.Plain) (hb : b < 64) (hi : tst a.page.page.injects b = true) :
    Completes (.eventInject addr (put b b 1)) s fun t => t.isArmed a.page b = true ∧ (∀ c, c ≠ b → t.isArmed a.page c = s.isArmed a.page c)
      ∧ { t with armed := s.armed } = s := by
  have written : s.hostWrite (addr / 0x1000 * 0x1000 + 0x038) 8 (put b b 1) = s.arm a.page b := by
    rw [pageBase_add_offset hm, h.write_inject _ ho plain.notDbg, plain.injectWrite_one s hb hi]
  exact ⟨_, congrArg Host.Outcome.next written, s.isArmed_arm a.page hb, fun c hc => s.isArmed_arm_ne a.page hc, rfl⟩

theorem registerWrite_bad {n size : Nat} (v : W64) (hn : n < 2 ^ 32) (h : size ≠ 8 ∨ n % 8 ≠ 0) :
    Completes (.registerWrite n size v) s fun t => tst (t.rd (gp .pch) 0x028) 0 = true
      ∧ (∀ q o, q ≠ gp .pch → q.inst < 2 ^ 20 → o < 4096 → t.rd q o = s.rd q o) ∧ t.mem = s.mem ∧ t.rim = s.rim :=
  ⟨_, congrArg Host.Outcome.next (s.hostWrite_bad v hn h), s.badAccess_event 0 n, fun _ _ hq hi ho => s.badAccess_rd 0 n hq hi ho,
    s.badAccess_mem 0 n, s.badAccess_rim 0 n⟩

end

/-- Settles O27: an access that reaches a register is a write of that register by its row's access codes, EVENT clears and EVENT_INJECT arms by their
own lemmas, and the remaining accesses are bad ones. -/
theorem registerAccesses : Obligations.RegisterAccesses := by
  unfold Obligations.RegisterAccesses
  rintro s addr a v h p rfl
  exact ⟨fun r hr => congrArg Host.Outcome.next (h.write_plain hr v),
    fun r hr => rcRead_plain h hr,
    fun r hr hw _ => whereRearm_plain h hr hw,
    fun hm ho hd => eventClear_page h v hm ho hd,
    fun b hm ho plain hb hi => eventInject_plain h hm ho (PageRef.plain_of_mem plain) hb hi,
    fun n size hn hbad => registerWrite_bad v hn hbad⟩

end Sys2Proof.Machine

/-! ## The Brick window and folding (O15): where a write of the window lands, and what becomes of a pending FOLD -/

namespace Sys2Proof.Machine

/-! ### The window -/

@[simp] theorem Brick.ctx_setCtx (x : Brick) (k : Nat) (c : Ctx) : (x.setCtx k c).ctx k = c := by simp [Brick.ctx, Brick.setCtx]

/-- The window of a Room, its Suite idle, writes the space and Brick that BRK_SEL names, the results due landed first (R78). -/
theorem brkWinWrite_idle {s : State} {room : Nat} (lit : s.dark room = false) (idle : s.suiteIdle room = true) (k : Nat) (v : W64) :
    exec (.brkWinWrite room k v) s = .next (s.modBrick room (s.rdF (rp .brk room) 0x088 13 8) fun x =>
      (x.settle (s.landTime room x)).winWrite (s.rdF (rp .brk room) 0x088 2 0) k v) := by
  change execBrkWinWrite room k v s = _
  simp [execBrkWinWrite, lit, idle]

theorem brkWinWrite_busy {s : State} {room : Nat} (lit : s.dark room = false) (busy : s.suiteIdle room = false) (k : Nat) (v : W64) :
    exec (.brkWinWrite room k v) s = .next (s.raise (rp .brk room) 8 false) := by
  change execBrkWinWrite room k v s = _
  simp [execBrkWinWrite, lit, busy]

theorem brkWinWrite_dark {s : State} {room : Nat} (dark : s.dark room = true) (k : Nat) (v : W64) : exec (.brkWinWrite room k v) s = .next s := by
  change execBrkWinWrite room k v s = _
  simp [execBrkWinWrite, dark]

theorem Brick.winWrite_reg (x : Brick) {k : Nat} (v : W64) (h : k < 32) : x.winWrite 0 k v = x.setReg k v := by
  simp [Brick.winWrite, h]

theorem Brick.winWrite_acc (x : Brick) {k : Nat} (v : W64) (h : k < 64) :
    x.winWrite 1 k v = (x.setAcc (2 * k) (v.setWidth 32)).setAcc (2 * k + 1) ((v >>> 32).setWidth 32) := by
  simp [Brick.winWrite, h]

theorem Brick.winWrite_cubby (x : Brick) {k : Nat} (v : W64) (h : k < 256) : x.winWrite 2 k v = x.setCubby k v := by
  simp [Brick.winWrite, h]

theorem Brick.winWrite_lanes (x : Brick) {k : Nat} (v : W64) (h : k < 132) (hl : k % 33 = 32) :
    x.winWrite 3 k v = { x with lanes := smSet 0 x.lanes (k / 33) (v &&& maskOf 35 0) } := by
  simp [Brick.winWrite, h, hl]

/-- An instruction word written through the window is the word its context then holds. -/
theorem Brick.winWrite_word (x : Brick) {k : Nat} (v : W64) (h : k < 132) (hl : k % 33 ≠ 32) :
    ((x.winWrite 3 k v).ctx (k / 33)).word (k % 33) = v := by
  simp [Brick.winWrite, Ctx.word, h, hl]

theorem State.brick_modBrick_ne (s : State) {r b q c : Nat} (f : Brick → Brick) (h : brickKey q c ≠ brickKey r b) :
    (s.modBrick r b f).brick q c = s.brick q c :=
  s.brick_setBrick_ne _ h

/-! ### FOLD -/

theorem foldResume_of {s : State} {room b i k n : Nat} {u : Suite} (own : s.suiteOf room = some i) (defined : s.suite i = some u)
    (issuing : u.issuing = true) (lit : s.dark room = false) (sound : (s.brick room b).err = false) (fold : (s.brick room b).fold = some (k, n)) :
    exec (.foldResume room b) s
      = .next (if u.now < n then s
        else if ((s.brick room b).ctx k).valid && !s.slotLoading u room k then s.setBrick room b ((s.brick room b).resume k u.now)
        else if u.mode = 0 then s.foldUnready room b k else s) := by
  change execFoldResume room b s = _
  simp [execFoldResume, own, defined, issuing, lit, sound, fold, apply_ite Host.Outcome.next]

/-- A FOLD to an unready slot stops the Brick and halts its Suite (R177, R202). -/
theorem State.foldUnready_halts (s : State) (room b k : Nat) :
    (s.foldUnready room b k).brick room b = { s.brick room b with err := true } ∧ tst ((s.foldUnready room b k).rd (rp .arr room) 0x028) 5 = true
      ∧ ∃ r, (s.foldUnready room b k).flying = s.flying ++ [r] ∧ r.code = Page.arr.cls * 256 + 0x21 ∧ r.halt = true := by
  simp only [State.foldUnready, State.stopErr, State.brick_modBrick, State.modBrick_rd, State.modBrick_flying, State.hitHalt_brick,
    State.captureStep_brick, State.hitHalt_rd]
  refine ⟨trivial, State.raise_sets _ _ rfl (by decide), ?_⟩
  obtain ⟨r, sent, code, halt, -⟩ := State.hitHalt_records _ .arr room 5 0x21 false _
  exact ⟨r, sent.trans (by rw [State.captureStep_flying]), code, halt⟩

/-- Settles O15: the window by the space BRK_SEL names, FOLD_RESUME by whether its step has come and its slot is ready. -/
theorem brickWindowAndFold : Obligations.BrickWindowAndFold := by
  unfold Obligations.BrickWindowAndFold
  refine ⟨fun s room k v => ⟨?_, fun lit busy => brkWinWrite_busy lit busy k v, fun dark => brkWinWrite_dark dark k v⟩, ?_⟩
  · rintro lit idle b rfl f rfl
    have written := brkWinWrite_idle lit idle k v
    refine ⟨fun sel hk => ?_, fun sel hk => ?_, fun sel hk => ?_, fun sel hk hl => ?_, fun sel hk hl => ?_⟩ <;> rw [sel] at written
    · simpa only [Brick.winWrite_reg _ v hk] using written
    · simpa only [Brick.winWrite_acc _ v hk] using written
    · simpa only [Brick.winWrite_cubby _ v hk] using written
    · simpa only [Brick.winWrite_lanes _ v hk hl] using written
    · refine ⟨_, written, ?_, rfl, fun r c h => State.brick_modBrick_ne s _ h⟩
      rw [State.brick_modBrick, Brick.winWrite_word _ v hk hl]
  · intro s room b i u k n own defined issuing lit sound fold
    have resumed := foldResume_of own defined issuing lit sound fold
    refine ⟨fun due valid free => ?_, fun due unready stepped => ?_, fun early => ?_⟩
    · simpa [Nat.not_lt.mpr due, valid, free, Brick.resume] using resumed
    · have bad : (((s.brick room b).ctx k).valid && !s.slotLoading u room k) = false := by
        rcases unready with h | h <;> simp [h]
      refine ⟨s.foldUnready room b k, ?_, s.foldUnready_halts room b k⟩
      simpa [Nat.not_lt.mpr due, bad, stepped] using resumed
    · simpa [early] using resumed

end Sys2Proof.Machine

/-! ## Endpoints of the Hall (O44): a delivery waits or takes its packet, and what the unit it reaches then answers -/

namespace Sys2Proof.Machine

/-! ### Landing -/

/-- A flight that lands is taken out of the Hall, and its endpoint acts on it. -/
theorem State.landing_of_landsAt {s : State} {k typ : Nat} {f : Flight} (h : LandsAt s k f typ) (go : State → Flight → State) :
    s.landing k typ go = go (s.dropFlight k) f := by
  simp [State.landing, h.at_, h.there, h.typ, h.first, h.due]

/-- A flight that has not reached its endpoint, follows another of its channel or is of another type is left where it is. -/
theorem State.landing_waits {s : State} {k typ : Nat} {f : Flight} (at_ : s.pkts[k]? = some f)
    (waits : f.ejected = false ∨ s.behind k f true = true ∨ f.pkt.typ ≠ typ) (go : State → Flight → State) : s.landing k typ go = s := by
  rcases waits with h | h | h <;> simp [State.landing, at_, h]

theorem State.landing_none {s : State} {k : Nat} (h : s.pkts[k]? = none) (typ : Nat) (go : State → Flight → State) : s.landing k typ go = s := by
  simp [State.landing, h]

/-- The commands that deliver flight `k`, each with the type of packet it takes (R282 to R285). -/
def hallDeliveries (k : Nat) : List (Nat × Instr) :=
  [(1, .hallWrite k), (2, .readReq k), (3, .readRsp k), (4, .atomic k), (5, .message k), (6, .reduce k false), (6, .reduce k true), (7, .stream k),
    (8, .ack k), (9, .nack k)]

/-- An ACK is delivered as its KIND says, and each KIND is a landing of type 8. -/
theorem ack_lands (s : State) (k : Nat) : ∃ go, exec (.ack k) s = .next (s.landing k 8 go) := by
  change ∃ go, execAck k s = _
  unfold execAck
  split
  · exact ⟨_, rfl⟩
  · exact ⟨_, rfl⟩
  · exact ⟨_, rfl⟩

theorem hallDelivery_lands {k typ : Nat} {c : Instr} (h : (typ, c) ∈ hallDeliveries k) (s : State) :
    ∃ go, exec c s = .next (s.landing k typ go) := by
  simp only [hallDeliveries, List.mem_cons, Prod.mk.injEq, List.not_mem_nil, or_false] at h
  rcases h with ⟨rfl, rfl⟩ | ⟨rfl, rfl⟩ | ⟨rfl, rfl⟩ | ⟨rfl, rfl⟩ | ⟨rfl, rfl⟩ | ⟨rfl, rfl⟩
    | ⟨rfl, rfl⟩ | ⟨rfl, rfl⟩ | ⟨rfl, rfl⟩ | ⟨rfl, rfl⟩
  · exact ⟨_, rfl⟩
  · exact ⟨_, rfl⟩
  · exact ⟨_, rfl⟩
  · exact ⟨_, rfl⟩
  · exact ⟨_, rfl⟩
  · exact ⟨_, rfl⟩
  · exact ⟨_, rfl⟩
  · exact ⟨_, rfl⟩
  · exact ack_lands s k
  · exact ⟨_, rfl⟩

theorem hallDelivery_waits {s : State} {k typ : Nat} {f : Flight} {c : Instr} (h : (typ, c) ∈ hallDeliveries k) (at_ : s.pkts[k]? = some f)
    (waits : f.ejected = false ∨ s.behind k f true = true ∨ f.pkt.typ ≠ typ) : exec c s = .next s := by
  obtain ⟨go, eq⟩ := hallDelivery_lands h s
  rw [eq, State.landing_waits at_ waits]

theorem hallDelivery_none {s : State} {k typ : Nat} {c : Instr} (h : (typ, c) ∈ hallDeliveries k) (none : s.pkts[k]? = none) : exec c s = .next s := by
  obtain ⟨go, eq⟩ := hallDelivery_lands h s
  rw [eq, State.landing_none none]

/-! ### What turns a request away -/

theorem State.closedPort_of_lit {g : State} {room : Nat} (lit : g.dark room = false) : g.closedPort room = false := by
  simp [State.closedPort, lit]

theorem State.replyFrom_of_lit {g : State} {room : Nat} (lit : g.dark room = false) (q : Pkt) : g.replyFrom room q = g.inject room q := by
  simp [State.replyFrom, lit]

/-- A Room's own Suite meets no window check (R228). -/
theorem State.winRefuses_own {g : State} {room suite : Nat} (own : g.suiteOf room = some suite) (off len : Nat) (write : Bool) :
    g.winRefuses room suite off len write = none := by
  simp [State.winRefuses, own]

/-- Another Suite's request that no window covers is refused with NACK_SUITE (R228). -/
theorem State.winRefuses_uncovered {g : State} {room suite off len : Nat} (foreign : g.suiteOf room ≠ some suite)
    (bare : ∀ w, w < 16 → g.winCovers room suite off len w = false) (write : Bool) : g.winRefuses room suite off len write = some 1 := by
  have none_of : ∀ q : Nat → Bool, ((List.range 16).any fun w => g.winCovers room suite off len w && q w) = false := fun q => by
    simp only [List.any_eq_false, List.mem_range]
    intro w hw
    simp [bare w hw]
  simp only [State.winRefuses, if_neg foreign, Bool.and_assoc, none_of]
  simp

theorem State.guarded_closed {g : State} {f : Flight} (closed : g.closedPort (eidRoomOf f.pkt.dst) = true) (go : State → State) :
    g.guarded f go = g.routerSend (eidRoomOf f.pkt.dst) (f.pkt.nack 0x04) := by
  simp [State.guarded, closed]

/-- With no refusal injected, a request of the Room's own Suite is served. -/
theorem State.guarded_own {g : State} {f : Flight} (opened : g.closedPort (eidRoomOf f.pkt.dst) = false)
    (quiet : eidUnit f.pkt.dst = 2 → g.isArmed (hal (eidRoomOf f.pkt.dst)) 3 = false) (own : g.suiteOf (eidRoomOf f.pkt.dst) = some f.pkt.suite)
    (go : State → State) : g.guarded f go = go g := by
  by_cases unit : eidUnit f.pkt.dst = 2
  · simp [State.guarded, opened, own, quiet unit]
  · simp [State.guarded, opened, own, unit]

/-- With no refusal injected, another Suite's request is refused with NACK_SUITE (R300). -/
theorem State.guarded_foreign {g : State} {f : Flight} (opened : g.closedPort (eidRoomOf f.pkt.dst) = false)
    (quiet : g.isArmed (hal (eidRoomOf f.pkt.dst)) 3 = false) (foreign : g.suiteOf (eidRoomOf f.pkt.dst) ≠ some f.pkt.suite) (go : State → State) :
    g.guarded f go = (g.halEvent (eidRoomOf f.pkt.dst) 3 4 f.pkt false).routerNack (eidRoomOf f.pkt.dst) 0x01 f.pkt := by
  simp [State.guarded, opened, quiet, foreign]

theorem State.pageRefuses_host {p : Pkt} (host : p.host = true) (g : State) (room : Nat) (write : Bool) : g.pageRefuses room p write = none := by
  simp [State.pageRefuses, host]

theorem State.pageRefuses_foreign {g : State} {room : Nat} {p : Pkt} (engine : p.host = false) (foreign : g.suiteOf room ≠ some p.suite) (write : Bool) :
    g.pageRefuses room p write = some 0x01 := by
  simp [State.pageRefuses, engine, foreign]

/-- A page that page access control keeps from being written (R615). -/
theorem State.pageRefuses_shut {g : State} {room : Nat} {p : Pkt} (engine : p.host = false) (own : g.suiteOf room = some p.suite)
    (shut : tst (g.rd pch (0x100 + 8 * p.suite)) (pktSlot p) = false) : g.pageRefuses room p true = some 0x0A := by
  simp [State.pageRefuses, engine, own, shut]

/-! ### The page decoder -/

theorem State.pageWrite_refused {g : State} {room c : Nat} {p : Pkt} (h : g.pageRefuses room p true = some c) :
    g.pageWrite room p = g.replyFrom room (p.nack c) := by
  simp [State.pageWrite, h]

theorem State.pageWrite_host {p : Pkt} (host : p.host = true) (plain : ¬ (pktSlot p = 7 ∧ pktOff p = 0x0A8)) (g : State) (room : Nat) :
    g.pageWrite room p = (g.pageSet (pktPage room p) (BitVec.ofNat 64 (leOf (p.data.take 8))) false).replyFrom room (p.ack 0) := by
  simp [State.pageWrite, State.pageRefuses_host host, plain, host]

theorem State.pageGet_host {p : Pkt} (host : p.host = true) (g : State) (room : Nat) :
    g.pageGet room p = (g.readClear (pktPage room p)).replyFrom room (p.rsp 0 (leTo 8 (g.barRead (pktPage room p)).toNat)) := by
  simp [State.pageGet, State.pageRefuses_host host, host]

/-! ### The Shelf port -/

/-- A store in a clean range changes the bytes stored and no other, and leaves every Room as dark as it was. -/
theorem shelfSt_stored {g : State} {room off who : Nat} {vs : List Byte} (clean : CleanShelf g room off vs.length who) :
    ∃ t, g.shelfSt room off who vs = (t, true) ∧ Stored g t room off vs ∧ ∀ r, t.dark r = g.dark r := by
  refine ⟨_, shelfSt_clean vs clean, stored_after (f := g) ?_, fun r => dropBacks_dark _ room off vs.length r⟩
  rw [← State.stBytes_rooms g (shelfEA room off) vs]
  exact (dropBacks_facts _ room off vs.length).1

/-- What a packet sent from a Room carries is read from registers and Suites alone. -/
theorem State.inject_pkts_of {g t : State} (regs : t.regs = g.regs) (suites : t.suites = g.suites) (pkts : t.pkts = g.pkts) (room : Nat) (q : Pkt) :
    (t.inject room q).pkts = (g.inject room q).pkts := by
  simp only [State.inject, State.senderSuite, State.suiteId, State.suiteOf, State.suiteOfWing, State.rdF, State.rd, regs, suites, pkts]

/-- An answer sent after a store leaves the store as it was, and is the answer that would have been sent before it. -/
theorem Stored.injected {g t : State} {room off : Nat} {vs : List Byte} (stored : Stored g t room off vs) (q : Pkt) :
    (t.inject room q).ldBytes (shelfEA room off) vs.length = vs
      ∧ (∀ a, a < shelfEA room off ∨ shelfEA room off + vs.length ≤ a → (t.inject room q).ldByte a = g.ldByte a)
      ∧ (t.inject room q).pkts = (g.inject room q).pkts ∧ (t.inject room q).regs = g.regs ∧ (t.inject room q).bricks = g.bricks
      ∧ (t.inject room q).suites = g.suites := by
  obtain ⟨regs, bricks, suites, -, pkts⟩ := stored.state
  exact ⟨(State.ldBytes_of t (t.inject room q) rfl _ _).trans stored.bytes, stored.others, State.inject_pkts_of regs suites pkts room q, regs, bricks, suites⟩

@[simp] theorem State.portAnswer_nack (g : State) (c room : Nat) (p : Pkt) : State.portAnswer (g, .nack c) room p = g.replyFrom room (p.nack c) := rfl

theorem State.portAnswer_write {p : Pkt} (typ : p.typ = 1) (g : State) (st room : Nat) (d : List Byte) :
    State.portAnswer (g, .ok st d) room p = g.replyFrom room (p.ack st) := by
  simp [State.portAnswer, typ]

theorem State.portAnswer_read {p : Pkt} (typ : p.typ = 2) (g : State) (st room : Nat) (d : List Byte) :
    State.portAnswer (g, .ok st d) room p = g.replyFrom room (p.rsp st d) := by
  simp [State.portAnswer, typ]

theorem State.shelfPort_store {g t : State} {room off len suite who : Nat} {vs : List Byte} (lit : g.dark room = false) (own : g.suiteOf room = some suite)
    (clean : CleanShelf g room off vs.length who) (stored : g.shelfSt room off who vs = (t, true)) :
    g.shelfPort room off len (some vs) suite who = (t, .ok 0 []) := by
  simp [State.shelfPort, lit, State.winRefuses_own own, clean.lit, stored]

theorem State.shelfPort_load {g : State} {room off len suite who : Nat} (lit : g.dark room = false) (own : g.suiteOf room = some suite)
    (clean : CleanShelf g room off len who) : g.shelfPort room off len none suite who = (g, .ok 0 (g.ldBytes (shelfEA room off) len)) := by
  simp [State.shelfPort, lit, State.winRefuses_own own, clean.lit, shelfLd_clean clean]

theorem State.shelfPort_uncovered {g : State} {room off len suite : Nat} (lit : g.dark room = false) (foreign : g.suiteOf room ≠ some suite)
    (bare : ∀ w, w < 16 → g.winCovers room suite off len w = false) (who : Nat) : g.shelfPort room off len none suite who = (g, .nack 1) := by
  simp [State.shelfPort, lit, State.winRefuses_uncovered foreign bare]

/-- A read-modify-write in a clean range answers the old value and leaves the new one (R228, R238). -/
theorem State.portAtomic_clean {g : State} {room : Nat} {p : Pkt} {n : Nat} (lit : g.dark room = false) (own : g.suiteOf room = some p.suite)
    (size : n = if tst p.w2 8 then 8 else 4) (clean : CleanShelf g room (p.addr % 2 ^ 22) n 0x43) :
    g.portAtomic room p = ((g.shelfSt room (p.addr % 2 ^ 22) 0x43
      (leTo n (amoResult (fld p.w2 4 0) n (leOf (g.ldBytes (shelfEA room (p.addr % 2 ^ 22)) n)) (leOf p.data)))).1).replyFrom room
        (p.rsp 0 (leTo 8 (leOf (g.ldBytes (shelfEA room (p.addr % 2 ^ 22)) n)))) := by
  have near : ¬ 0x300000 ≤ p.addr % 2 ^ 22 := Nat.not_le.mpr clean.near
  simp only [State.portAtomic, ← size, State.closedPort_of_lit lit, State.winRefuses_own own, shelfLd_clean clean, near, clean.on]
  simp

/-! ### The commands -/

section
variable {s : State} {k n : Nat} {f : Flight}

/-! A WRITE by the unit it reaches (R282, R300). -/

theorem hallWrite_page (h : LandsAt s k f 1) (isRoom : eidIsRoom f.pkt.dst = true) (unit : eidUnit f.pkt.dst = 0) :
    exec (.hallWrite k) s = .next (if (s.dropFlight k).closedPort (eidRoomOf f.pkt.dst)
      then (s.dropFlight k).routerSend (eidRoomOf f.pkt.dst) (f.pkt.nack 0x04) else (s.dropFlight k).pageWrite (eidRoomOf f.pkt.dst) f.pkt) := by
  change execHallWrite k s = _
  rw [execHallWrite, State.landing_of_landsAt h]
  simp [isRoom, unit]

theorem hallWrite_shelf (h : LandsAt s k f 1) (isRoom : eidIsRoom f.pkt.dst = true) (unit : eidUnit f.pkt.dst = 1) :
    exec (.hallWrite k) s = .next (State.portAnswer ((s.dropFlight k).shelfPort (eidRoomOf f.pkt.dst) (f.pkt.addr % 2 ^ 22) f.pkt.len (some f.pkt.data)
      f.pkt.suite (if f.pkt.vc = 0 then 0x42 else 0x43)) (eidRoomOf f.pkt.dst) f.pkt) := by
  change execHallWrite k s = _
  rw [execHallWrite, State.landing_of_landsAt h]
  simp [isRoom, unit]

theorem hallWrite_port (h : LandsAt s k f 1) (isRoom : eidIsRoom f.pkt.dst = true) (unit : 2 ≤ eidUnit f.pkt.dst) :
    exec (.hallWrite k) s = .next ((s.dropFlight k).guarded f fun s => s.misplaced f) := by
  change execHallWrite k s = _
  rw [execHallWrite, State.landing_of_landsAt h]
  obtain ⟨u, eq⟩ := Nat.exists_eq_add_of_le' unit
  simp [isRoom, eq]

/-! A READ_REQ by the unit it reaches (R282, R300). -/

theorem readReq_page (h : LandsAt s k f 2) (isRoom : eidIsRoom f.pkt.dst = true) (unit : eidUnit f.pkt.dst = 0)
    (opened : (s.dropFlight k).closedPort (eidRoomOf f.pkt.dst) = false) :
    exec (.readReq k) s = .next ((s.dropFlight k).pageGet (eidRoomOf f.pkt.dst) f.pkt) := by
  change execReadReq k s = _
  rw [execReadReq, State.landing_of_landsAt h]
  simp [isRoom, unit, opened]

theorem readReq_shelf (h : LandsAt s k f 2) (isRoom : eidIsRoom f.pkt.dst = true) (unit : eidUnit f.pkt.dst = 1) :
    exec (.readReq k) s = .next (State.portAnswer ((s.dropFlight k).shelfPort (eidRoomOf f.pkt.dst) (f.pkt.addr % 2 ^ 22) (fld f.pkt.w2 9 0) none
      f.pkt.suite) (eidRoomOf f.pkt.dst) f.pkt) := by
  change execReadReq k s = _
  rw [execReadReq, State.landing_of_landsAt h]
  simp [isRoom, unit]

/-! The other requests, each at the one unit that takes it (R228, R256, R258, R299). -/

theorem atomic_shelf (h : LandsAt s k f 4) (isRoom : eidIsRoom f.pkt.dst = true) (unit : eidUnit f.pkt.dst = 1) :
    exec (.atomic k) s = .next ((s.dropFlight k).portAtomic (eidRoomOf f.pkt.dst) f.pkt) := by
  change execAtomic k s = _
  rw [execAtomic, State.landing_of_landsAt h]
  simp [isRoom, unit]

theorem message_port (h : LandsAt s k f 5) (isRoom : eidIsRoom f.pkt.dst = true) (unit : eidUnit f.pkt.dst = 2) :
    exec (.message k) s = .next ((s.dropFlight k).guarded f fun s => s.takeMsg (eidRoomOf f.pkt.dst) f.pkt) := by
  change execMessage k s = _
  rw [execMessage, State.landing_of_landsAt h]
  simp [isRoom, unit]

theorem reduce_port (h : LandsAt s k f 6) (isRoom : eidIsRoom f.pkt.dst = true) (unit : eidUnit f.pkt.dst = 3) (bad : Bool)
    (lit : (s.dropFlight k).dark (eidRoomOf f.pkt.dst) = false) (own : (s.dropFlight k).suiteOf (eidRoomOf f.pkt.dst) = some f.pkt.suite) :
    exec (.reduce k bad) s = .next ((s.dropFlight k).stpArrive (eidRoomOf f.pkt.dst) (fld f.pkt.w2 20 16) (fld f.pkt.w2 15 8) (toWords f.pkt.data)
      (some f.pkt) bad) := by
  change execReduce k bad s = _
  rw [execReduce, State.landing_of_landsAt h]
  dsimp only
  rw [State.guarded_own (State.closedPort_of_lit lit) (fun two => absurd (unit.symm.trans two) (by decide)) own]
  simp [isRoom, unit, lit]

theorem stream_copied (h : LandsAt s k f 7) (isRoom : eidIsRoom f.pkt.dst = true) :
    exec (.stream k) s = .next ((s.dropFlight k).streamCopy f (eidRoomOf f.pkt.dst)) := by
  change execStream k s = _
  rw [execStream, State.landing_of_landsAt h]
  simp [isRoom]

/-- A clean WRITE at its Suite's own Shelf stores its data and answers an ACK (R36, R284). -/
theorem hallWrite_stores (h : LandsAt s k f 1) (isRoom : eidIsRoom f.pkt.dst = true) (unit : eidUnit f.pkt.dst = 1) (vc : f.pkt.vc = 1)
    (lit : (s.dropFlight k).dark (eidRoomOf f.pkt.dst) = false) (own : (s.dropFlight k).suiteOf (eidRoomOf f.pkt.dst) = some f.pkt.suite)
    (clean : CleanShelf (s.dropFlight k) (eidRoomOf f.pkt.dst) (f.pkt.addr % 2 ^ 22) f.pkt.data.length 0x43) :
    ∃ t, exec (.hallWrite k) s = .next (t.inject (eidRoomOf f.pkt.dst) (f.pkt.ack 0))
      ∧ Stored (s.dropFlight k) t (eidRoomOf f.pkt.dst) (f.pkt.addr % 2 ^ 22) f.pkt.data := by
  obtain ⟨t, eq, stored, dark⟩ := shelfSt_stored clean
  refine ⟨t, ?_, stored⟩
  rw [hallWrite_shelf h isRoom unit, vc, if_neg (by decide), State.shelfPort_store lit own clean eq, State.portAnswer_write h.typ,
    State.replyFrom_of_lit ((dark _).trans lit)]

/-- A clean ATOMIC at its Suite's own Shelf leaves the new value and answers the old one (R228, R238). -/
theorem atomic_modifies {old : Nat} (h : LandsAt s k f 4) (isRoom : eidIsRoom f.pkt.dst = true) (unit : eidUnit f.pkt.dst = 1)
    (lit : (s.dropFlight k).dark (eidRoomOf f.pkt.dst) = false) (own : (s.dropFlight k).suiteOf (eidRoomOf f.pkt.dst) = some f.pkt.suite)
    (size : n = if tst f.pkt.w2 8 then 8 else 4) (clean : CleanShelf (s.dropFlight k) (eidRoomOf f.pkt.dst) (f.pkt.addr % 2 ^ 22) n 0x43)
    (was : old = leOf ((s.dropFlight k).ldBytes (shelfEA (eidRoomOf f.pkt.dst) (f.pkt.addr % 2 ^ 22)) n)) :
    ∃ t, exec (.atomic k) s = .next (t.inject (eidRoomOf f.pkt.dst) (f.pkt.rsp 0 (leTo 8 old)))
      ∧ Stored (s.dropFlight k) t (eidRoomOf f.pkt.dst) (f.pkt.addr % 2 ^ 22) (leTo n (amoResult (fld f.pkt.w2 4 0) n old (leOf f.pkt.data))) := by
  obtain ⟨t, eq, stored, dark⟩ := shelfSt_stored (vs := leTo n (amoResult (fld f.pkt.w2 4 0) n old (leOf f.pkt.data))) ((leTo_length n _).symm ▸ clean)
  refine ⟨t, ?_, stored⟩
  rw [atomic_shelf h isRoom unit, State.portAtomic_clean lit own size clean, ← was, eq, State.replyFrom_of_lit ((dark _).trans lit)]

end

/-- Settles O44: a delivery waits or lands, and a request that lands is answered by the lemma of its command and unit. -/
theorem hallDelivers : Obligations.HallDelivers := by
  unfold Obligations.HallDelivers
  refine fun s k => ⟨⟨fun f typ at_ waits c hc => hallDelivery_waits hc at_ waits, fun none c hc => ?_⟩, ?_⟩
  · obtain ⟨typ, mem⟩ : ∃ typ, (typ, c) ∈ hallDeliveries k := by
      simp only [List.mem_cons, List.not_mem_nil, or_false] at hc
      rcases hc with rfl | rfl | rfl | rfl | rfl | rfl | rfl | rfl | rfl <;> simp [hallDeliveries]
    exact hallDelivery_none mem none
  rintro f g p room off rfl rfl rfl rfl isRoom
  refine ⟨fun h => ⟨hallWrite_shelf h isRoom, ?_, ?_, ?_, ?_⟩, fun h => ?_, ?_, ?_, ?_, fun h => stream_copied h isRoom⟩
  · intro unit vc lit own clean
    obtain ⟨t, eq, stored⟩ := hallWrite_stores h isRoom unit vc lit own clean
    exact ⟨_, eq, stored.injected _⟩
  · intro unit closed
    rw [hallWrite_page h isRoom unit, if_pos closed]
  · intro unit opened
    rw [hallWrite_page h isRoom unit, if_neg (by simp [opened])]
    exact ⟨fun engine foreign => by rw [State.pageWrite_refused (State.pageRefuses_foreign engine foreign true)],
      fun engine own shut => by rw [State.pageWrite_refused (State.pageRefuses_shut engine own shut)],
      fun host plain => by rw [State.pageWrite_host host plain]⟩
  · intro unit closed
    rw [hallWrite_port h isRoom unit, State.guarded_closed closed]
  · rintro n rfl
    refine ⟨readReq_shelf h isRoom, fun unit typ lit own clean => ?_, fun unit typ lit foreign bare => ?_, fun unit opened host => ?_⟩
    · rw [readReq_shelf h isRoom unit, State.shelfPort_load lit own clean, State.portAnswer_read typ, State.replyFrom_of_lit lit]
    · rw [readReq_shelf h isRoom unit, State.shelfPort_uncovered lit foreign bare, State.portAnswer_nack, State.replyFrom_of_lit lit]
    · rw [readReq_page h isRoom unit opened, State.pageGet_host host]
  · intro h unit lit own n old size clean was
    obtain ⟨t, eq, stored⟩ := atomic_modifies h isRoom unit lit own size clean was
    obtain ⟨bytes, others, pkts, regs, -⟩ := stored.injected (f.pkt.rsp 0 (leTo 8 old))
    rw [leTo_length] at bytes others
    exact ⟨_, eq, bytes, others, pkts, regs⟩
  · intro h unit
    rw [message_port h isRoom unit]
    exact ⟨fun closed => by rw [State.guarded_closed closed], fun opened quiet =>
      ⟨fun foreign => by rw [State.guarded_foreign opened quiet foreign], fun own => by rw [State.guarded_own opened (fun _ => quiet) own]⟩⟩
  · intro h unit opened lit own bad
    exact reduce_port h isRoom unit bad lit own

end Sys2Proof.Machine

/-! ## The Porch (O57): its errors and mailbox answers, then each service by the lemma of its command -/

namespace Sys2Proof.Machine

/-! ### Trigger pulses -/

/-- Whether trigger output `i` is set to pulse on an event of a page (R623). -/
abbrev State.pulsesOn (s : State) (p : PageRef) (bit i : Nat) : Prop :=
  fld (s.rd dbg (0x0A0 + 8 * i)) 63 62 = 1 ∧ fld (s.rd dbg (0x0A0 + 8 * i)) 37 32 = bit ∧ s.namesPage p (fld (s.rd dbg (0x0A0 + 8 * i)) 19 0)

/-- The pulses of the trigger outputs that an event of a page sends out (R622, R623). -/
def State.pulses (s : State) (p : PageRef) (bit : Nat) : List OutMsg :=
  if tst (s.rd pch 0x0B0) 0 || !tst (s.rd clkg 0x090) 9 then []
  else ((List.range 2).filter fun i => decide (s.pulsesOn p bit i)).map fun i => .pin (trigName i) 1

/-- Messages sent one by one, each on a condition that sending does not change. -/
theorem foldl_send (c : State → Nat → Prop) [∀ s i, Decidable (c s i)] (m : Nat → OutMsg) (hc : ∀ (s : State) o i, c { s with out := o } i ↔ c s i) :
    ∀ (l : List Nat) (s : State), l.foldl (fun s i => if c s i then { s with out := s.out ++ [m i] } else s) s
      = { s with out := s.out ++ (l.filter fun i => decide (c s i)).map m }
  | [], s => by simp
  | i :: l, s => by
    rw [List.foldl_cons, foldl_send c m hc l]
    by_cases h : c s i
    · simp [h, hc]
    · simp [h]

theorem State.trigEvent_pulses (s : State) (p : PageRef) (bit : Nat) : s.trigEvent p bit = { s with out := s.out ++ s.pulses p bit } := by
  unfold State.trigEvent State.pulses
  split
  · next h => simp [show tst (s.rd pch 0x0B0) 0 || !tst (s.rd clkg 0x090) 9 from h]
  · next h =>
    rw [if_neg (show ¬ (tst (s.rd pch 0x0B0) 0 || !tst (s.rd clkg 0x090) 9) from h)]
    exact foldl_send _ (fun i => .pin (trigName i) 1) (fun _ _ _ => Iff.rfl) _ s

theorem State.trigEvent_out (s : State) (p : PageRef) (bit : Nat) : (s.trigEvent p bit).out = s.out ++ s.pulses p bit := by
  rw [State.trigEvent_pulses]

theorem State.raise_out (s : State) {p : PageRef} (ungated : s.gated p = false) (bit : Nat) (injected : Bool) :
    (s.raise p bit injected).out = s.out ++ s.pulses p bit := by
  rw [← State.trigEvent_out]
  cases injected <;> simp [State.raise, ungated]

/-! ### What writes of the PCH page leave alone -/

/-- From `s` to `t` no register has changed but those of the PCH page, and of these PCH_SEC has not. -/
def State.PchWrites (s t : State) : Prop := ∀ q o, q.inst < 2 ^ 20 → o < 4096 → q ≠ pch ∨ o = 0x0B0 → t.rd q o = s.rd q o

theorem State.PchWrites.trans {s t u : State} (h : s.PchWrites t) (k : t.PchWrites u) : s.PchWrites u := fun q o hi ho hq =>
  (k q o hi ho hq).trans (h q o hi ho hq)

theorem pch_key_apart {q : PageRef} {o w : Nat} (hi : q.inst < 2 ^ 20) (ho : o < 4096) (hw : w < 4096) (sec : w ≠ 0x0B0) (hq : q ≠ pch ∨ o = 0x0B0) :
    regKey q o ≠ regKey pch w := by
  by_cases page : q = pch
  · subst page
    exact regKey_off (by rintro rfl; exact sec (hq.resolve_left (fun h => h rfl)))
  · exact regKey_page hi (by decide) ho hw page

theorem State.pchWrites_wr (s : State) {w : Nat} (v : W64) (hw : w < 4096) (sec : w ≠ 0x0B0) : s.PchWrites (s.wr pch w v) := fun _ _ hi ho hq =>
  s.rd_wr_key v (pch_key_apart hi ho hw sec hq)

theorem State.pchWrites_capture (s : State) {w : Nat} (v : W64) (hw : w < 4096) (sec : w ≠ 0x0B0) : s.PchWrites (s.capture pch w v) := fun _ _ hi ho hq =>
  s.capture_rd_key v (pch_key_apart hi ho hw sec hq)

theorem State.pchWrites_raise (s : State) (bit : Nat) (injected : Bool) : s.PchWrites (s.raise pch bit injected) := fun _ _ hi ho hq =>
  s.raise_rd injected (pch_key_apart hi ho (by decide) (by decide) hq) (pch_key_apart hi ho (by decide) (by decide) hq)

theorem State.PchWrites.pulses {s t : State} (h : s.PchWrites t) (bit : Nat) : t.pulses pch bit = s.pulses pch bit := by
  have sec : t.rd pch 0x0B0 = s.rd pch 0x0B0 := h _ _ (by decide) (by decide) (.inr rfl)
  have clock : t.rd clkg 0x090 = s.rd clkg 0x090 := h _ _ (by decide) (by decide) (.inl (by decide))
  have trig0 : t.rd dbg 0x0A0 = s.rd dbg 0x0A0 := h _ _ (by decide) (by decide) (.inl (by decide))
  have trig1 : t.rd dbg 0x0A8 = s.rd dbg 0x0A8 := h _ _ (by decide) (by decide) (.inl (by decide))
  have range : List.range 2 = [0, 1] := rfl
  have named : ∀ (x : State) (n : Nat), x.namesPage pch n = decide (n = pch.bar0Page) := fun x n => by simp [State.namesPage, pch, gp, Page.inRoom]
  simp only [State.pulses, State.pulsesOn, sec, clock, range, List.filter_cons, List.filter_nil, named, Nat.mul_zero, Nat.add_zero, Nat.mul_one,
    trig0, trig1, Nat.reduceAdd]

/-- What enters the Hall from an edge is read from Suites and from registers of other pages. -/
theorem State.PchWrites.injectEdge_pkts {s t : State} (h : s.PchWrites t) (suites : t.suites = s.suites) (pkts : t.pkts = s.pkts) (e : Nat) (p : Pkt) :
    (t.injectEdge e p).pkts = (s.injectEdge e p).pkts := by
  have epoch : t.rd (gp .halg) 0x080 = s.rd (gp .halg) 0x080 := h _ _ (by decide) (by decide) (.inl (by decide))
  have status : t.rd (gp .srvg) 0x080 = s.rd (gp .srvg) 0x080 := h _ _ (by decide) (by decide) (.inl (by decide))
  have fence : t.fence = s.fence := by rw [State.fence, State.fence, State.rdF, State.rdF, State.rdF, State.rdF, status]
  have room : t.eavesRoom e = s.eavesRoom e := by rw [State.eavesRoom, State.eavesRoom, fence]
  simp only [State.injectEdge, State.rdF, State.suite, room, epoch, suites, pkts]

/-! ### An error of the Porch -/

/-- An error shown in the PCH page: captured in PCH_WHERE, counted in a field of PCH_COUNT and raised (R619). -/
def State.pchError (s : State) (w : W64) (hi lo bit : Nat) (injected : Bool) : State :=
  ((s.capture pch 0x0E0 w).bump pch 0x0E8 hi lo 1).raise pch bit injected

section
variable (s : State) (w : W64) (hi lo bit : Nat) (injected : Bool)

@[simp] theorem State.pchError_mem : (s.pchError w hi lo bit injected).mem = s.mem := by simp [State.pchError]
@[simp] theorem State.pchError_suites : (s.pchError w hi lo bit injected).suites = s.suites := by simp [State.pchError]
@[simp] theorem State.pchError_rooms : (s.pchError w hi lo bit injected).rooms = s.rooms := by simp [State.pchError]
@[simp] theorem State.pchError_bricks : (s.pchError w hi lo bit injected).bricks = s.bricks := by simp [State.pchError]
@[simp] theorem State.pchError_rim : (s.pchError w hi lo bit injected).rim = s.rim := by simp [State.pchError]
@[simp] theorem State.pchError_remap : (s.pchError w hi lo bit injected).remap = s.remap := by simp [State.pchError]
@[simp] theorem State.pchError_pkts : (s.pchError w hi lo bit injected).pkts = s.pkts := by simp [State.pchError]
@[simp] theorem State.pchError_busData : (s.pchError w hi lo bit injected).busData = s.busData := by simp [State.pchError]

theorem State.pchError_event {bit : Nat} (h : bit < 64) : tst ((s.pchError w hi lo bit injected).rd pch 0x028) bit = true :=
  State.raise_sets _ injected rfl h

theorem State.pchWrites_counted : s.PchWrites ((s.capture pch 0x0E0 w).bump pch 0x0E8 hi lo 1) :=
  (s.pchWrites_capture w (by decide) (by decide)).trans (State.pchWrites_wr _ _ (by decide) (by decide))

theorem State.pchWrites_pchError : s.PchWrites (s.pchError w hi lo bit injected) :=
  (s.pchWrites_counted w hi lo).trans (State.pchWrites_raise _ bit injected)

theorem State.pchError_out : (s.pchError w hi lo bit injected).out = s.out ++ s.pulses pch bit := by
  rw [State.pchError, State.raise_out _ rfl, (s.pchWrites_counted w hi lo).pulses]
  simp

end

/-! ### BAR2 (R37, R596, R598) -/

section
variable {s : State} {off n m : Nat} {data : List Byte}

theorem bar2Access_staging (small : off < 2 ^ 36) (recovery : s.srvState = 5) (write : Bool) (n : Nat) (data : List Byte) :
    exec (.bar2Access write off n data) s = .next (if write then s.stageWrite off (data.take (2 ^ 24 - off))
      else s.complete off ((List.range n).map fun k => if off + k < 2 ^ 24 then s.stageByte (off + k) else 0)) := by
  have st : s.rdF (gp .srvg) 0x080 62 60 = 5 := recovery
  change execBar2Access write off n data s = _
  cases write <;> simp [-Nat.reducePow, execBar2Access, Nat.mod_eq_of_lt small, st]

theorem bar2Access_early (small : off < 2 ^ 36) (early : s.srvState ≤ 1) (write : Bool) (n : Nat) (data : List Byte) :
    exec (.bar2Access write off n data) s = .next (if write then s else s.complete off (List.replicate n 0)) := by
  have st : s.rdF (gp .srvg) 0x080 62 60 ≤ 1 := early
  have notFive : s.rdF (gp .srvg) 0x080 62 60 ≠ 5 := by omega
  change execBar2Access write off n data s = _
  cases write <;> simp [-Nat.reducePow, execBar2Access, Nat.mod_eq_of_lt small, st, notFive]

theorem bar2Access_closed (small : off < 2 ^ 36) (up : 1 < s.srvState) (notFive : s.srvState ≠ 5) (quiet : s.isArmed pch 1 = false)
    (closed : tst (s.rd pch 0x098) 63 = false) (write : Bool) (n : Nat) (data : List Byte) :
    exec (.bar2Access write off n data) s
      = .next (if write then s.bar2Unmapped off false else (s.bar2Unmapped off false).complete off (List.replicate n 0)) := by
  have st : ¬ s.rdF (gp .srvg) 0x080 62 60 ≤ 1 := Nat.not_le.mpr up
  have st' : s.rdF (gp .srvg) 0x080 62 60 ≠ 5 := notFive
  change execBar2Access write off n data s = _
  cases write <;> simp [-Nat.reducePow, execBar2Access, Nat.mod_eq_of_lt small, st, st', quiet, closed]

/-- A range of one step at most is not cut. -/
theorem cutRange_whole {step n : Nat} (a : Nat) (pos : 0 < n) (fits : n ≤ step) : cutRange false step a (n + 1) n = [(a, n)] := by
  obtain ⟨m, rfl⟩ := Nat.exists_eq_add_of_le' pos
  simp [cutRange, Nat.min_eq_left fits]

/-- The part of an access that is not cut begins at the access's own offset. -/
theorem State.foldl_bar2Part_one (s : State) (write : Bool) (base size off m : Nat) (data : List Byte) :
    [(off, m)].foldl (fun s' e => State.bar2Part s' write ((base + e.1) % size) e.2 e.1 ((data.drop (e.1 - off)).take e.2)) s
      = s.bar2Part write ((base + off) % size) m off (data.take m) := by
  rw [List.foldl_cons, List.foldl_nil, Nat.sub_self, List.drop_zero]

theorem bar2Access_window (small : off < 2 ^ 36) (up : 1 < s.srvState) (notFive : s.srvState ≠ 5) (quiet : s.isArmed pch 1 = false)
    (opened : tst (s.rd pch 0x098) 63 = true) (write : Bool) (size : (if write then data.length else n) = m) (pos : 0 < m) (fits : m ≤ 992) :
    exec (.bar2Access write off n data) s
      = .next (s.bar2Part write ((s.rdF pch 0x098 47 30 * 2 ^ 30 + off) % 2 ^ 48) m off (data.take m)) := by
  have st : ¬ s.rdF (gp .srvg) 0x080 62 60 ≤ 1 := Nat.not_le.mpr up
  have st' : s.rdF (gp .srvg) 0x080 62 60 ≠ 5 := notFive
  change execBar2Access write off n data s = _
  have cut : execBar2Access write off n data s = .next ((cutRange false 992 off (m + 1) m).foldl (fun s' e =>
      s'.bar2Part write ((s.rdF pch 0x098 47 30 * 2 ^ 30 + e.1) % 2 ^ 48) e.2 e.1 ((data.drop (e.1 - off)).take e.2)) s) := by
    simp [-Nat.reducePow, execBar2Access, Nat.mod_eq_of_lt small, st, st', quiet, opened, size]
  rw [cut, cutRange_whole off pos fits, State.foldl_bar2Part_one]

theorem State.bar2Part_shelf {ea r o : Nat} (at_ : s.decodeEa ea = .shelf r o) (n off : Nat) (data : List Byte) :
    s.bar2Part false ea n off data = s.requestEdge { mkRead (eidRoom r 1) porchEid (s.rdF pch 0x098 5 0) ea n with host := true } (.bar2Read off) := by
  simp [State.bar2Part, at_]

/-- EA_UNMAPPED is the only trace of an access through the closed window. -/
theorem bar2Access_turnedAway (small : off < 2 ^ 36) (up : 1 < s.srvState) (notFive : s.srvState ≠ 5) (quiet : s.isArmed pch 1 = false)
    (closed : tst (s.rd pch 0x098) 63 = false) (n : Nat) (data : List Byte) : TurnedAway (.bar2Access true off n data) s pch 1 :=
  ⟨_, bar2Access_closed small up notFive quiet closed true n data, State.pchError_event _ _ _ _ _ (by decide), State.pchError_suites ..,
    State.pchError_rooms .., State.pchError_bricks .., State.pchError_mem .., State.pchError_rim .., State.pchError_remap ..⟩

/-- A read through the closed window answers zeros (R596). -/
theorem bar2Access_zeros (small : off < 2 ^ 36) (up : 1 < s.srvState) (notFive : s.srvState ≠ 5) (quiet : s.isArmed pch 1 = false)
    (closed : tst (s.rd pch 0x098) 63 = false) (n : Nat) (data : List Byte) :
    Completes (.bar2Access false off n data) s fun t => tst (t.rd pch 0x028) 1 = true
      ∧ t.out = (s.trigEvent pch 1).out ++ [.completion off (List.replicate n 0)] ∧ t.mem = s.mem ∧ t.pkts = s.pkts := by
  refine ⟨_, bar2Access_closed small up notFive quiet closed false n data, State.pchError_event _ _ _ _ _ (by decide), ?_,
    State.pchError_mem .., State.pchError_pkts ..⟩
  rw [State.trigEvent_out]
  exact congrArg (· ++ [OutMsg.completion off (List.replicate n 0)]) (State.pchError_out s _ _ _ _ _)

end

/-! ### A page that does not answer (R595) -/

theorem pchPageTimeout_undecoded {s : State} {addr : Nat} (small : addr < 2 ^ 32) (none : s.decodeBar0 (addr / 8 * 8) = none) (write : Bool) :
    exec (.pchPageTimeout addr write) s = .next s := by
  change execPchPageTimeout addr write s = _
  simp [-Nat.reducePow, execPchPageTimeout, Nat.mod_eq_of_lt small, none]

theorem pchPageTimeout_answered {s : State} {addr : Nat} {a : BarAt} (small : addr < 2 ^ 32) (at_ : s.decodeBar0 (addr / 8 * 8) = some a)
    (heard : s.answers a = false ∨ s.silent a.page = false) (write : Bool) : exec (.pchPageTimeout addr write) s = .next s := by
  change execPchPageTimeout addr write s = _
  rcases heard with h | h <;> simp [-Nat.reducePow, execPchPageTimeout, Nat.mod_eq_of_lt small, at_, h]

theorem pchPageTimeout_silent {s : State} {addr : Nat} {a : BarAt} (small : addr < 2 ^ 32) (at_ : s.decodeBar0 (addr / 8 * 8) = some a)
    (answers : s.answers a = true) (silent : s.silent a.page = true) (write : Bool) :
    Completes (.pchPageTimeout addr write) s fun t => tst (t.rd pch 0x028) 3 = true ∧ (write = false → t.busData = 0)
      ∧ (write = true → t.busData = s.busData) ∧ t.mem = s.mem := by
  have timedOut : exec (.pchPageTimeout addr write) s = .next (if write then s.pageTimeout addr else (s.pageTimeout addr).answer 0) := by
    change execPchPageTimeout addr write s = _
    simp [-Nat.reducePow, execPchPageTimeout, Nat.mod_eq_of_lt small, at_, answers, silent]
  have event : tst ((s.pageTimeout addr).rd pch 0x028) 3 = true := State.pchError_event s _ _ _ _ (by decide)
  have mem : (s.pageTimeout addr).mem = s.mem := State.pchError_mem ..
  have busData : (s.pageTimeout addr).busData = s.busData := State.pchError_busData ..
  cases write with
  | true => exact ⟨_, timedOut, event, nofun, fun _ => busData, mem⟩
  | false => exact ⟨_, timedOut, event, fun _ => rfl, nofun, mem⟩

/-! ### Host memory (R594, R597) -/

/-- Bus Master Enable taken from the function's configuration (R594). -/
def State.busMaster (s : State) (bme : Bool) : State := { s.wrF pch 0x0A8 17 17 (b2n bme) with rim := { s.rim with bme := bme } }

/-- The requests to host memory replaced. -/
def State.withHostReqs (s : State) (l : List HostReq) : State := { s with rim := { s.rim with hostReqs := l } }

theorem State.pchWrites_busMaster (s : State) (bme : Bool) : s.PchWrites (s.busMaster bme) := s.pchWrites_wr _ (by decide) (by decide)

theorem State.pchWrites_gone (s : State) (bme : Bool) (l : List HostReq) : s.PchWrites ((s.busMaster bme).withHostReqs l) := s.pchWrites_busMaster bme

/-- What a failed request to host memory leaves: PCH_HOST_ERR raised, the refusal on its way to the requester, the rest unchanged (R597). -/
theorem State.hostFail_effect (s : State) (h : HostReq) (injected : Bool) :
    tst ((s.hostFail h injected).rd pch 0x028) 2 = true ∧ (s.hostFail h injected).pkts = (s.injectEdge h.pkt.dst (h.reply none)).pkts
      ∧ (s.hostFail h injected).out = s.out ++ s.pulses pch 2 ∧ (s.hostFail h injected).mem = s.mem ∧ (s.hostFail h injected).rim = s.rim := by
  have drawn : s.PchWrites s.drawNat.1 := fun _ _ _ _ _ => rfl
  exact ⟨State.pchError_event _ _ _ _ injected (by decide),
    (drawn.trans (State.pchWrites_pchError _ _ _ _ 2 injected)).injectEdge_pkts (State.pchError_suites ..) (State.pchError_pkts ..) _ _,
    State.pchError_out s.drawNat.1 _ _ _ 2 injected, State.pchError_mem .., State.pchError_rim ..⟩

theorem State.hostFail_engine (s : State) (h : HostReq) (injected : Bool) : (s.hostFail h injected).suites = s.suites
    ∧ (s.hostFail h injected).bricks = s.bricks ∧ (s.hostFail h injected).rooms = s.rooms :=
  ⟨State.pchError_suites .., State.pchError_bricks .., State.pchError_rooms ..⟩

section
variable {s : State} {k : Nat} {bme : Bool} {h : HostReq}

theorem hostRequest_none (none : s.rim.hostReqs[k]? = none) (bme : Bool) : exec (.hostRequest k bme) s = .next (s.busMaster bme) := by
  change execHostRequest k bme s = _
  simp [execHostRequest, State.busMaster, none]

theorem hostRequest_sent (at_ : s.rim.hostReqs[k]? = some h) (sent : h.sent = true) (bme : Bool) :
    exec (.hostRequest k bme) s = .next (s.busMaster bme) := by
  change execHostRequest k bme s = _
  simp [execHostRequest, State.busMaster, at_, sent]

theorem hostRequest_full (at_ : s.rim.hostReqs[k]? = some h) (unsent : h.sent = false) (read : h.pkt.typ = 2)
    (full : 512 ≤ (s.rim.hostReqs.filter fun x => x.sent).length) : exec (.hostRequest k true) s = .next (s.busMaster true) := by
  change execHostRequest k true s = _
  simp [execHostRequest, State.busMaster, at_, unsent, read, full]

/-- A request that Bus Master Enable, or its type, does not let out fails (R597). -/
theorem hostRequest_fails (at_ : s.rim.hostReqs[k]? = some h) (unsent : h.sent = false) (barred : bme = false ∨ (h.pkt.typ ≠ 1 ∧ h.pkt.typ ≠ 2)) :
    Completes (.hostRequest k bme) s fun t => tst (t.rd pch 0x028) 2 = true ∧ t.rim.hostReqs = s.rim.hostReqs.eraseIdx k
      ∧ t.pkts = (s.injectEdge h.pkt.dst (h.reply none)).pkts ∧ t.out = (s.trigEvent pch 2).out ∧ t.mem = s.mem := by
  have failed : exec (.hostRequest k bme) s = .next (((s.busMaster bme).withHostReqs (s.rim.hostReqs.eraseIdx k)).hostFail h false) := by
    change execHostRequest k bme s = _
    rcases barred with low | ⟨notWrite, notRead⟩
    · simp [execHostRequest, State.busMaster, State.withHostReqs, at_, unsent, low]
    · simp [execHostRequest, State.busMaster, State.withHostReqs, at_, unsent, notWrite, notRead]
  obtain ⟨event, pkts, out, mem, rim⟩ := ((s.busMaster bme).withHostReqs (s.rim.hostReqs.eraseIdx k)).hostFail_effect h false
  have beside := s.pchWrites_gone bme (s.rim.hostReqs.eraseIdx k)
  refine ⟨_, failed, event, congrArg Rim.hostReqs rim, pkts.trans (beside.injectEdge_pkts rfl rfl _ _), ?_, mem⟩
  rw [out, beside.pulses, State.trigEvent_out]
  rfl

/-- A posted write goes out and is acknowledged at once (R597). -/
theorem hostRequest_posts (at_ : s.rim.hostReqs[k]? = some h) (unsent : h.sent = false) (write : h.pkt.typ = 1) :
    Completes (.hostRequest k true) s fun t => t.out = s.out ++ [.hostWrite ((s.rd pch 0x0A0).toNat + h.addr) h.pkt.data]
      ∧ t.rim.hostReqs = s.rim.hostReqs.eraseIdx k ∧ t.pkts = (s.injectEdge h.pkt.dst (h.pkt.ack 0)).pkts ∧ t.mem = s.mem := by
  have hostBase : (s.busMaster true).rd pch 0x0A0 = s.rd pch 0x0A0 := State.rd_wr_off _ _ (by decide)
  have posted : exec (.hostRequest k true) s = .next ((((s.busMaster true).withHostReqs (s.rim.hostReqs.eraseIdx k)).emit
      (.hostWrite (((s.busMaster true).rd pch 0x0A0).toNat + h.addr) h.pkt.data)).injectEdge h.pkt.dst (h.pkt.ack 0)) := by
    change execHostRequest k true s = _
    simp [execHostRequest, State.busMaster, State.withHostReqs, HostReq.reply, at_, unsent, write]
  rw [hostBase] at posted
  exact ⟨_, posted, rfl, rfl, State.PchWrites.injectEdge_pkts (s.pchWrites_busMaster true) rfl rfl _ _, rfl⟩

/-- A read goes out, and waits for its completion (R597). -/
theorem hostRequest_reads (at_ : s.rim.hostReqs[k]? = some h) (unsent : h.sent = false) (read : h.pkt.typ = 2)
    (room : (s.rim.hostReqs.filter fun x => x.sent).length < 512) :
    Completes (.hostRequest k true) s fun t => t.out = s.out ++ [.hostRead ((s.rd pch 0x0A0).toNat + h.addr) (fld h.pkt.w2 9 0)]
      ∧ t.rim.hostReqs = s.rim.hostReqs.set k { h with sent := true } ∧ t.pkts = s.pkts ∧ t.mem = s.mem := by
  have hostBase : (s.busMaster true).rd pch 0x0A0 = s.rd pch 0x0A0 := State.rd_wr_off _ _ (by decide)
  have asked : exec (.hostRequest k true) s = .next (((s.busMaster true).withHostReqs (s.rim.hostReqs.set k { h with sent := true })).emit
      (.hostRead (((s.busMaster true).rd pch 0x0A0).toNat + h.addr) (fld h.pkt.w2 9 0))) := by
    change execHostRequest k true s = _
    simp [execHostRequest, State.busMaster, State.withHostReqs, at_, unsent, read, Nat.not_le.mpr room]
  rw [hostBase] at asked
  exact ⟨_, asked, rfl, rfl, rfl, rfl⟩

theorem hostCompletion_none (none : s.rim.hostReqs[k]? = none) (ok : Bool) (data : List Byte) : exec (.hostCompletion k ok data) s = .next s := by
  change execHostCompletion k ok data s = _
  simp [execHostCompletion, none]

theorem hostCompletion_unsent (at_ : s.rim.hostReqs[k]? = some h) (unsent : h.sent = false) (ok : Bool) (data : List Byte) :
    exec (.hostCompletion k ok data) s = .next s := by
  change execHostCompletion k ok data s = _
  simp [execHostCompletion, at_, unsent]

/-- A completion answers the requester: with its data, or as a failed request (R597). -/
theorem hostCompletion_answers (at_ : s.rim.hostReqs[k]? = some h) (sent : h.sent = true) (quiet : s.isArmed pch 2 = false) (ok : Bool) (data : List Byte) :
    Completes (.hostCompletion k ok data) s fun t => t.rim.hostReqs = s.rim.hostReqs.eraseIdx k ∧ t.mem = s.mem
      ∧ t.pkts = (s.injectEdge h.pkt.dst (h.reply (if ok then some data else none))).pkts ∧ (ok = false → tst (t.rd pch 0x028) 2 = true)
      ∧ (ok = true → t.regs = s.regs) := by
  have completed : exec (.hostCompletion k ok data) s = .next (if ok
      then (s.withHostReqs (s.rim.hostReqs.eraseIdx k)).injectEdge h.pkt.dst (h.reply (some data))
      else (s.withHostReqs (s.rim.hostReqs.eraseIdx k)).hostFail h false) := by
    change execHostCompletion k ok data s = _
    simp [execHostCompletion, State.withHostReqs, at_, sent, quiet]
  cases ok with
  | true => exact ⟨_, completed, rfl, rfl, rfl, nofun, fun _ => rfl⟩
  | false =>
    obtain ⟨event, pkts, -, mem, rim⟩ := (s.withHostReqs (s.rim.hostReqs.eraseIdx k)).hostFail_effect h false
    exact ⟨_, completed, congrArg Rim.hostReqs rim, mem, pkts, fun _ => event, nofun⟩

end

/-- A function-level reset clears the function and fails the reads in flight; the engine goes on (R594, R597). -/
theorem functionLevelReset_clears (s : State) : Completes .functionLevelReset s fun t => t.rim.bme = false ∧ t.rim.msixTab = [] ∧ t.rim.pba = []
    ∧ t.rim.hostReqs = (s.rim.hostReqs.filter fun h => !h.sent) ∧ t.mem = s.mem ∧ t.suites = s.suites ∧ t.bricks = s.bricks ∧ t.rooms = s.rooms := by
  refine ⟨_, rfl, ?_⟩
  refine foldl_keeps (fun t : State => t.rim.bme = false ∧ t.rim.msixTab = [] ∧ t.rim.pba = [] ∧ t.rim.hostReqs = (s.rim.hostReqs.filter fun h => !h.sent)
    ∧ t.mem = s.mem ∧ t.suites = s.suites ∧ t.bricks = s.bricks ∧ t.rooms = s.rooms) _ (fun t h _ kept => ?_) ⟨rfl, rfl, rfl, rfl, rfl, rfl, rfl, rfl⟩
  obtain ⟨-, -, -, mem, rim⟩ := t.hostFail_effect h false
  obtain ⟨suites, bricks, rooms⟩ := t.hostFail_engine h false
  rwa [rim, mem, suites, bricks, rooms]

/-! ### Recovery (R551, R598) -/

section
variable {s : State}

theorem recoveryImage_idle (idle : s.srvState ≠ 5 ∨ tst (s.rd pch 0x0D8) 63 = false) (verifies : Bool) (version : Nat) :
    exec (.recoveryImage verifies version) s = .next s := by
  change execRecoveryImage verifies version s = _
  rcases idle with state | go
  · have st : s.rdF (gp .srvg) 0x080 62 60 ≠ 5 := state
    simp [execRecoveryImage, st]
  · simp [execRecoveryImage, go]

/-- An image of a legal length that verifies is written to slot A (R551, R618). -/
theorem recoveryImage_written (recovery : s.srvState = 5) (go : tst (s.rd pch 0x0D8) 63 = true) (version : Nat)
    (sized : 1 ≤ fld (s.rd pch 0x0D8) 24 0) (fits : fld (s.rd pch 0x0D8) 24 0 ≤ 2 ^ 24) :
    Completes (.recoveryImage true version) s fun t => t.rim.flash.slotA = some version
      ∧ t.rd pch 0x0D8 = (put 62 61 1 ||| put 24 0 (fld (s.rd pch 0x0D8) 24 0)) ∧ t.mem = s.mem := by
  have st : s.rdF (gp .srvg) 0x080 62 60 = 5 := recovery
  refine ⟨{ s.wr pch 0x0D8 (put 62 61 1 ||| put 24 0 (fld (s.rd pch 0x0D8) 24 0)) with
    rim := { s.rim with flash := { s.rim.flash with slotA := some version } } }, ?_, rfl, s.rd_wr_self .., rfl⟩
  change execRecoveryImage true version s = _
  simp [-Nat.reducePow, execRecoveryImage, st, go, sized, fits]

theorem recoveryImage_rejected (recovery : s.srvState = 5) (go : tst (s.rd pch 0x0D8) 63 = true) (version : Nat) :
    Completes (.recoveryImage false version) s fun t => t.rim = s.rim
      ∧ t.rd pch 0x0D8 = (put 62 61 2 ||| put 24 0 (fld (s.rd pch 0x0D8) 24 0)) ∧ t.mem = s.mem := by
  have st : s.rdF (gp .srvg) 0x080 62 60 = 5 := recovery
  refine ⟨s.wr pch 0x0D8 (put 62 61 2 ||| put 24 0 (fld (s.rd pch 0x0D8) 24 0)), ?_, rfl, s.rd_wr_self .., rfl⟩
  change execRecoveryImage false version s = _
  simp [execRecoveryImage, st, go]

end

/-! ### The mailbox (R616 to R618) -/

/-- A service with its outcome written, its event still to come. -/
def State.mboxDone (s : State) (reason : Nat) : State :=
  (s.wrF pch 0x0B8 63 63 0).wr pch 0x0D0 (if reason = 0 then put 63 62 2 else put 63 62 3 ||| put 7 0 reason)

theorem State.pchWrites_mboxDone (s : State) (reason : Nat) : s.PchWrites (s.mboxDone reason) :=
  (s.pchWrites_wr _ (by decide) (by decide)).trans (State.pchWrites_wr _ _ (by decide) (by decide))

theorem State.mboxEnd_out (s : State) (reason : Nat) : (s.mboxEnd reason).out = s.out ++ s.pulses pch 4 := by
  change ((s.mboxDone reason).raise pch 4 false).out = _
  rw [State.raise_out _ rfl, (s.pchWrites_mboxDone reason).pulses]
  rfl

/-- What a service that has ended leaves in the mailbox: GO is 0, and STATUS holds DONE, or REFUSED with the REASON. -/
theorem State.mboxEnd_shows (s : State) {reason : Nat} (small : reason < 256) :
    tst ((s.mboxEnd reason).rd pch 0x0B8) 63 = false ∧ fld ((s.mboxEnd reason).rd pch 0x0D0) 7 0 = reason
      ∧ fld ((s.mboxEnd reason).rd pch 0x0D0) 63 62 = (if reason = 0 then 2 else 3) ∧ tst ((s.mboxEnd reason).rd pch 0x028) 4 = true
      ∧ (s.mboxEnd reason).mem = s.mem ∧ (s.mboxEnd reason).rim = s.rim := by
  have command : (s.mboxEnd reason).rd pch 0x0B8 = setFld (s.rd pch 0x0B8) 63 63 0 :=
    (State.raise_rd_off _ false (by decide) (by decide)).trans ((State.rd_wr_off _ _ (by decide)).trans (s.rd_wr_self ..))
  have status : (s.mboxEnd reason).rd pch 0x0D0 = if reason = 0 then put 63 62 2 else put 63 62 3 ||| put 7 0 reason :=
    (State.raise_rd_off _ false (by decide) (by decide)).trans (State.rd_wr_self ..)
  rw [command, status]
  refine ⟨?_, ?_, ?_, State.raise_sets _ false rfl (by decide), State.raise_mem .., State.raise_rim ..⟩
  · rw [tst_fld, fld_setFld _ (by decide) (by decide), decide_eq_false (by decide)]
  · split
    · next zero => rw [zero]; decide
    · rw [fld_or, fld_put_ne _ (by decide), fld_put _ (by decide) small, Nat.zero_or]
  · split
    · decide
    · rw [fld_or, fld_put _ (by decide) (by decide), fld_put_ne _ (by decide), Nat.or_zero]

section
variable {s : State} {verifies : Bool} {version st off : Nat}

theorem updateFw_unasked (unasked : s.mboxAsked 1 = false) (verifies : Bool) (version : Nat) : exec (.updateFw verifies version) s = .next s := by
  change execUpdateFw verifies version s = _
  simp [execUpdateFw, unasked]

theorem updateFw_locked (asked : s.mboxAsked 1 = true) (locked : tst (s.rd pch 0x0B0) 1 = true) (verifies : Bool) (version : Nat) :
    exec (.updateFw verifies version) s = .next (s.mboxEnd 3) := by
  change execUpdateFw verifies version s = _
  simp [execUpdateFw, asked, locked]

theorem updateFw_nowhere (asked : s.mboxAsked 1 = true) (unlocked : tst (s.rd pch 0x0B0) 1 = false)
    (nowhere : s.rd pch 0x0C8 = 0 ∨ ∀ st o, s.decodeEa (s.rd pch 0x0C0).toNat ≠ .cellar st o) (verifies : Bool) (version : Nat) :
    exec (.updateFw verifies version) s = .next (s.mboxEnd 4) := by
  change execUpdateFw verifies version s = _
  rcases nowhere with empty | outside
  · simp [execUpdateFw, asked, unlocked, empty]
  · cases at_ : s.decodeEa (s.rd pch 0x0C0).toNat with
    | cellar st o => exact absurd at_ (outside st o)
    | _ => simp [execUpdateFw, asked, unlocked, at_]

/-- The firmware store after an update: a slot A that holds an image is kept as slot B (R617). -/
def Flash.updated (f : Flash) (version : Nat) : Flash := { f with slotB := f.slotA.or f.slotB, slotA := some version }

/-- An image that lies whole in a Cellar is refused where it does not verify or is too old, and written otherwise (R616, R617). -/
theorem updateFw_image (asked : s.mboxAsked 1 = true) (unlocked : tst (s.rd pch 0x0B0) 1 = false)
    (at_ : s.decodeEa (s.rd pch 0x0C0).toNat = .cellar st off) (small : (s.rd pch 0x0C0).toNat < 2 ^ 48)
    (fits : off + (s.rd pch 0x0C8).toNat ≤ cellarBytes) (sized : s.rd pch 0x0C8 ≠ 0) (verifies : Bool) (version : Nat) :
    exec (.updateFw verifies version) s = .next (if verifies = false then s.mboxEnd 1 else if version < s.rim.flash.fwMin then s.mboxEnd 2
      else State.mboxEnd { s with rim := { s.rim with flash := s.rim.flash.updated version } } 0) := by
  change execUpdateFw verifies version s = _
  have notZero : s.rd pch 0x0C8 ≠ 0#64 := sized
  cases slot : s.rim.flash.slotA <;>
    simp [-Nat.reducePow, execUpdateFw, asked, unlocked, at_, small, fits, notZero, Flash.updated, slot, apply_ite Host.Outcome.next]

/-- The update ends done, with slot A the new image and slot B the last that slot A held (R617). -/
theorem updateFw_written (asked : s.mboxAsked 1 = true) (unlocked : tst (s.rd pch 0x0B0) 1 = false)
    (at_ : s.decodeEa (s.rd pch 0x0C0).toNat = .cellar st off) (small : (s.rd pch 0x0C0).toNat < 2 ^ 48)
    (fits : off + (s.rd pch 0x0C8).toNat ≤ cellarBytes) (sized : s.rd pch 0x0C8 ≠ 0) (recent : s.rim.flash.fwMin ≤ version) :
    Completes (.updateFw true version) s fun t => t.rim.flash = s.rim.flash.updated version ∧ fld (t.rd pch 0x0D0) 63 62 = 2
      ∧ tst (t.rd pch 0x028) 4 = true ∧ t.mem = s.mem := by
  obtain ⟨-, -, done, event, mem, rim⟩ :=
    State.mboxEnd_shows { s with rim := { s.rim with flash := s.rim.flash.updated version } } (reason := 0) (by decide)
  refine ⟨_, ?_, congrArg Rim.flash rim, done, event, mem⟩
  rw [updateFw_image asked unlocked at_ small fits sized, if_neg (by decide), if_neg (Nat.not_lt.mpr recent)]

end

/-! ### The Survey exported, and the management ports (R555, R599, R616) -/

section
variable {s : State} {st off : Nat}

theorem exportSurvey_unasked (unasked : s.mboxAsked 2 = false) : exec .exportSurvey s = .next s := by
  change execExportSurvey s = _
  simp only [execExportSurvey, unasked]
  rfl

theorem exportSurvey_beyond (asked : s.mboxAsked 2 = true) (beyond : 2 ^ 48 ≤ (s.rd pch 0x0C0).toNat) : exec .exportSurvey s = .next (s.mboxEnd 4) := by
  change execExportSurvey s = _
  simp only [execExportSurvey, asked, if_pos beyond]
  rfl

theorem exportSurvey_overrun (asked : s.mboxAsked 2 = true) (small : (s.rd pch 0x0C0).toNat < 2 ^ 48)
    (at_ : s.decodeEa (s.rd pch 0x0C0).toNat = .cellar st off) (overruns : cellarBytes < off + surveyBytes) : exec .exportSurvey s = .next (s.mboxEnd 4) := by
  change execExportSurvey s = _
  simp only [execExportSurvey, asked, if_neg (Nat.not_le.mpr small), at_, if_pos overruns]
  rfl

theorem exportSurvey_cellar {g : State} {d : List Byte} (asked : s.mboxAsked 2 = true) (small : (s.rd pch 0x0C0).toNat < 2 ^ 48)
    (at_ : s.decodeEa (s.rd pch 0x0C0).toNat = .cellar st off) (fits : off + surveyBytes ≤ cellarBytes)
    (written : s.cellarAccess st off surveyBytes (some s.surveyImage) 0 porchEid true [] = (g, .ok d)) :
    exec .exportSurvey s = .next (State.mboxEnd { g with free := g.free + 1 } 0) := by
  change execExportSurvey s = _
  simp only [execExportSurvey, asked, if_neg (Nat.not_le.mpr small), at_, if_neg (Nat.not_lt.mpr fits), written]
  rfl

theorem exportSurvey_barred {h : Nat} (asked : s.mboxAsked 2 = true) (small : (s.rd pch 0x0C0).toNat < 2 ^ 48)
    (at_ : s.decodeEa (s.rd pch 0x0C0).toNat = .host h) (low : s.rim.bme = false) : exec .exportSurvey s = .next (s.mboxEnd 4) := by
  change execExportSurvey s = _
  simp only [execExportSurvey, asked, if_neg (Nat.not_le.mpr small), at_, low]
  rfl

/-- The Survey goes out to host memory, and the service ends done (R597, R616). -/
theorem exportSurvey_host {h : Nat} (asked : s.mboxAsked 2 = true) (small : (s.rd pch 0x0C0).toNat < 2 ^ 48)
    (at_ : s.decodeEa (s.rd pch 0x0C0).toNat = .host h) (high : s.rim.bme = true) :
    Completes .exportSurvey s fun t =>
      t.out = (State.trigEvent { s with out := s.out ++ [.hostWrite ((s.rd pch 0x0A0).toNat + h) s.surveyImage] } pch 4).out
        ∧ fld (t.rd pch 0x0D0) 63 62 = 2 ∧ t.mem = s.mem := by
  have sent : exec .exportSurvey s
      = .next (State.mboxEnd ({ s with free := s.free + 1 }.emit (.hostWrite ((s.rd pch 0x0A0).toNat + h) s.surveyImage)) 0) := by
    change execExportSurvey s = _
    simp only [execExportSurvey, asked, if_neg (Nat.not_le.mpr small), at_, if_pos high]
    rfl
  obtain ⟨-, -, done, -, mem, -⟩ :=
    State.mboxEnd_shows ({ s with free := s.free + 1 }.emit (.hostWrite ((s.rd pch 0x0A0).toNat + h) s.surveyImage)) (reason := 0) (by decide)
  refine ⟨_, sent, ?_, done, mem⟩
  rw [State.mboxEnd_out, State.trigEvent_out]
  rfl

theorem mgmtCfg_unasked (unasked : s.mboxAsked 3 = false) : exec .mgmtCfg s = .next s := by
  change execMgmtCfg s = _
  simp [execMgmtCfg, unasked]

theorem mgmtCfg_set (asked : s.mboxAsked 3 = true) : Completes .mgmtCfg s fun t => t.rim.mgmt = (s.rd pch 0x0C0, s.rd pch 0x0C8)
    ∧ tst (t.rd pch 0x0B8) 63 = false ∧ fld (t.rd pch 0x0D0) 63 62 = 2 ∧ tst (t.rd pch 0x028) 4 = true ∧ t.mem = s.mem := by
  have set : exec .mgmtCfg s = .next (State.mboxEnd { s with rim := { s.rim with mgmt := (s.rd pch 0x0C0, s.rd pch 0x0C8) } } 0) := by
    change execMgmtCfg s = _
    simp [execMgmtCfg, asked]
  obtain ⟨ended, -, done, event, mem, rim⟩ :=
    State.mboxEnd_shows { s with rim := { s.rim with mgmt := (s.rd pch 0x0C0, s.rd pch 0x0C8) } } (reason := 0) (by decide)
  exact ⟨_, set, congrArg Rim.mgmt rim, ended, done, event, mem⟩

/-! ### The locks of PCH_SEC (R617) -/

/-- From bring-up on PCH_SEC answers the host in every STATE. -/
theorem barReach_sec (up : 1 < s.srvState) : BarReach s 0x0B0 ⟨pch, 0, 0, 0x0B0⟩ where
  small := by decide
  aligned := by decide
  outside := by decide
  decode := rfl
  answers := by
    have st : ¬ s.rdF (gp .srvg) 0x080 62 60 ≤ 1 := Nat.not_le.mpr up
    simp [State.answers, st, pch]
  heard := by simp [State.silent, pch, gp, Page.inRoom]
  tame := by simp [State.busWild, pch, gp]
  lit := ⟨rfl, by simp [State.darkAt, State.darkPage, pch, gp, Page.roomDomain]⟩

/-- A write of PCH_SEC sets the locks it names, and clears none. -/
theorem hostWrite_sec (up : 1 < s.srvState) (v : W64) : s.hostWrite 0x0B0 8 v = s.wr pch 0x0B0 (s.rd pch 0x0B0 ||| (v &&& maskOf 1 0)) := by
  have reach := barReach_sec up
  obtain ⟨lit, light⟩ := reach.lit
  have row : (regRow pch.page 0x0B0).isNone = false := by decide
  rw [reach.hostWrite]
  unfold State.pageSet
  dsimp only
  rw [if_neg (by simp [lit, light]), if_neg (by decide), if_neg (by simp [row]), if_neg (by decide)]
  rfl

theorem tst_or (x y : W64) (i : Nat) : tst (x ||| y) i = (tst x i || tst y i) := BitVec.getLsbD_or

/-- A lock set is set, and the other stays as it was. -/
theorem hostWrite_sec_lock (up : 1 < s.srvState) {v : W64} {i j : Nat} (sets : tst (v &&& maskOf 1 0) i = true) (other : tst (v &&& maskOf 1 0) j = false) :
    tst ((s.hostWrite 0x0B0 8 v).rd pch 0x0B0) i = true ∧ tst ((s.hostWrite 0x0B0 8 v).rd pch 0x0B0) j = tst (s.rd pch 0x0B0) j
      ∧ (s.hostWrite 0x0B0 8 v).mem = s.mem := by
  rw [hostWrite_sec up, State.rd_wr_self, tst_or, tst_or, sets, other, Bool.or_true, Bool.or_false]
  exact ⟨rfl, rfl, rfl⟩

theorem fwLock_sets (up : 1 < s.srvState) : Completes .fwLock s fun t => tst (t.rd pch 0x0B0) 1 = true
    ∧ tst (t.rd pch 0x0B0) 0 = tst (s.rd pch 0x0B0) 0 ∧ t.mem = s.mem :=
  ⟨_, rfl, hostWrite_sec_lock up (by decide) (by decide)⟩

theorem dbgLock_sets (up : 1 < s.srvState) : Completes .dbgLock s fun t => tst (t.rd pch 0x0B0) 0 = true
    ∧ tst (t.rd pch 0x0B0) 1 = tst (s.rd pch 0x0B0) 1 ∧ t.mem = s.mem :=
  ⟨_, rfl, hostWrite_sec_lock up (by decide) (by decide)⟩

end

/-! ### The management service and the rack's PMBus port (R516, R599) -/

section
variable {s : State}

theorem mgmtRequest_unserved {op : Nat} (unserved : s.firmware = false ∨ 5 ≤ op) (a : Nat) (x y : W64) : exec (.mgmtRequest op a x y) s = .next s := by
  change execMgmtRequest op a x y s = _
  rcases unserved with off | other
  · simp [execMgmtRequest, off]
  · obtain ⟨n, rfl⟩ := Nat.exists_eq_add_of_le' other
    simp [execMgmtRequest]

theorem mgmtRequest_served (on : s.firmware = true) (op a : Nat) (x y : W64) :
    (op = 0 → exec (.mgmtRequest op a x y) s = .next (s.hostRead (a / 8 * 8) 8))
      ∧ (op = 1 → exec (.mgmtRequest op a x y) s = .next (s.answer (s.ldWord (s.rdF (gp .eccg) 0x088 47 12 * 4096 + 8 * (a % 2097152)))))
      ∧ (op = 2 → exec (.mgmtRequest op a x y) s = .next (s.answer ((s.surveyRoom (a / 4 % 20736)).getD (a % 4) 0)))
      ∧ (op = 3 → tst (s.rd pch 0x0B8) 63 = true → exec (.mgmtRequest op a x y) s = .next s)
      ∧ (op = 3 → tst (s.rd pch 0x0B8) 63 = false →
          exec (.mgmtRequest op a x y) s = .next (((s.wr pch 0x0C0 x).wr pch 0x0C8 y).mboxCmd (put 63 63 1 ||| put 7 0 a)))
      ∧ (op = 4 → exec (.mgmtRequest op a x y) s = exec (.houseReset 0x4853) s) := by
  change (op = 0 → execMgmtRequest op a x y s = _) ∧ (op = 1 → execMgmtRequest op a x y s = _) ∧ (op = 2 → execMgmtRequest op a x y s = _)
    ∧ (op = 3 → _ → execMgmtRequest op a x y s = _) ∧ (op = 3 → _ → execMgmtRequest op a x y s = _) ∧ (op = 4 → execMgmtRequest op a x y s = _)
  refine ⟨?_, ?_, ?_, ?_, ?_, ?_⟩ <;> rintro rfl <;> simp only [execMgmtRequest, on]
  · rfl
  · rfl
  · rfl
  · exact fun busy => by rw [busy]; rfl
  · exact fun idle => by rw [idle]; rfl
  · rfl

theorem rackPmbusCommand_unserved {cmd : Nat} (unserved : s.firmware = false ∨ cmd ∉ [0x79, 0x88, 0x89, 0x97, 0x8D]) :
    exec (.rackPmbusCommand cmd) s = .next s := by
  change execRackPmbusCommand cmd s = _
  rcases unserved with off | other
  · simp [execRackPmbusCommand, off]
  · simp only [List.mem_cons, List.not_mem_nil, or_false, not_or] at other
    simp [execRackPmbusCommand, other]

theorem rackPmbusCommand_reading {cmd : Nat} (on : s.firmware = true) (reading : cmd ∈ [0x88, 0x89, 0x97, 0x8D]) :
    exec (.rackPmbusCommand cmd) s = .next (s.answer (Config.pmbusWord cmd (s.rackReading cmd))) := by
  change execRackPmbusCommand cmd s = _
  simp only [List.mem_cons, List.not_mem_nil, or_false] at reading
  have notStatus : cmd ≠ 0x79 := by omega
  simp [execRackPmbusCommand, on, notStatus, reading]

/-- STATUS_WORD is answered in 16 bits, whatever they are (R516). -/
theorem rackPmbusCommand_status (on : s.firmware = true) :
    Completes (.rackPmbusCommand 0x79) s fun t => t.busData &&& maskOf 63 16 = 0 ∧ t.regs = s.regs ∧ t.mem = s.mem := by
  have answered : exec (.rackPmbusCommand 0x79) s = .next (s.drawWord.1.answer (s.drawWord.2 &&& maskOf 15 0)) := by
    change execRackPmbusCommand 0x79 s = _
    simp [execRackPmbusCommand, on]
  have apart : maskOf 15 0 &&& maskOf 63 16 = 0 := by decide
  refine ⟨_, answered, ?_, rfl, rfl⟩
  change s.drawWord.2 &&& maskOf 15 0 &&& maskOf 63 16 = 0
  rw [BitVec.and_assoc, apart]
  exact BitVec.and_zero

end

/-! ### Pins and timers (R600) -/

/-- Bit `j` of a number above its lowest `k` bits comes from the quotient alone. -/
theorem testBit_above {k r : Nat} (small : r < 2 ^ k) (q j : Nat) : (2 ^ k * q + r).testBit (k + j) = q.testBit j := by
  rw [Nat.testBit_two_pow_mul_add q small, if_neg (by omega), Nat.add_sub_cancel_left]

theorem testBit_at {k r : Nat} (small : r < 2 ^ k) (q : Nat) : (2 ^ k * q + r).testBit k = decide (q % 2 = 1) :=
  (testBit_above small q 0).trans (Nat.testBit_zero q)

/-- Two numbers that differ in bit `k` alone: the quotients by 2^k share their half. -/
theorem testBit_ne_of_half {k p q r : Nat} (small : r < 2 ^ k) (half : p / 2 = q / 2) {j : Nat} (ne : j ≠ k) :
    (2 ^ k * p + r).testBit j = (2 ^ k * q + r).testBit j := by
  rcases Nat.lt_or_gt_of_ne ne with below | above
  · rw [Nat.testBit_two_pow_mul_add p small, Nat.testBit_two_pow_mul_add q small, if_pos below, if_pos below]
  · obtain ⟨m, rfl⟩ : ∃ m, j = k + (m + 1) := ⟨j - k - 1, by omega⟩
    rw [testBit_above small, testBit_above small, Nat.testBit_add_one, Nat.testBit_add_one, half]

/-- The input pins with pin `k` brought to a level that it does not have. -/
def toLevel (level : Bool) (pins k : Nat) : Nat := if level then pins + 2 ^ k else pins - 2 ^ k

theorem testBit_toLevel {level : Bool} {pins k : Nat} (edge : pins.testBit k ≠ level) :
    (toLevel level pins k).testBit k = level ∧ ∀ j, j ≠ k → (toLevel level pins k).testBit j = pins.testBit j := by
  have small : pins % 2 ^ k < 2 ^ k := Nat.mod_lt _ (Nat.two_pow_pos k)
  have split : 2 ^ k * (pins / 2 ^ k) + pins % 2 ^ k = pins := Nat.div_add_mod pins (2 ^ k)
  generalize pins / 2 ^ k = q at split
  generalize pins % 2 ^ k = r at small split
  subst split
  rw [testBit_at small] at edge
  obtain ⟨p, moved, parity, half⟩ : ∃ p, toLevel level (2 ^ k * q + r) k = 2 ^ k * p + r ∧ decide (p % 2 = 1) = level ∧ p / 2 = q / 2 := by
    cases level with
    | true =>
      have even : q % 2 = 0 := by simpa using edge
      refine ⟨q + 1, ?_, decide_eq_true (by omega), by omega⟩
      rw [toLevel, if_pos rfl, Nat.mul_add_one]
      omega
    | false =>
      have odd : q % 2 = 1 := by simpa using edge
      obtain ⟨p, rfl⟩ : ∃ p, q = p + 1 := ⟨q - 1, by omega⟩
      refine ⟨p, ?_, decide_eq_false (by omega), by omega⟩
      rw [toLevel, if_neg (by decide), Nat.mul_add_one]
      omega
  rw [moved]
  exact ⟨(testBit_at small p).trans parity, fun j ne => testBit_ne_of_half small half ne⟩

theorem gpioEdge_level {s : State} {pin : Nat} {level : Bool} (small : pin < 16) (same : s.rim.gpio.testBit pin = level) :
    exec (.gpioEdge pin level) s = .next s := by
  change execGpioEdge pin level s = _
  simp [execGpioEdge, Nat.mod_eq_of_lt small, same]

theorem gpioEdge_moves {s : State} {pin : Nat} {level : Bool} (small : pin < 16) (edge : s.rim.gpio.testBit pin ≠ level) :
    Completes (.gpioEdge pin level) s fun t => t.rim.gpio.testBit pin = level ∧ (∀ k, k ≠ pin → t.rim.gpio.testBit k = s.rim.gpio.testBit k)
      ∧ (tst (s.rd clkg 0x090) 2 = true → tst (t.rd (gp .gpio) 0x028) 0 = true) ∧ t.mem = s.mem := by
  have moved : exec (.gpioEdge pin level) s
      = .next (State.raise { s with rim := { s.rim with gpio := toLevel level s.rim.gpio pin } } (gp .gpio) 0 false) := by
    change execGpioEdge pin level s = _
    simp [execGpioEdge, toLevel, Nat.mod_eq_of_lt small, edge]
  obtain ⟨there, others⟩ := testBit_toLevel edge
  refine ⟨_, moved, ?_, ?_, fun clocked => State.raise_sets _ false ?_ (by decide), State.raise_mem ..⟩
  · rw [State.raise_rim]; exact there
  · rw [State.raise_rim]; exact others
  · change (!tst (s.rd clkg 0x090) 2) = false
    rw [clocked]; rfl

theorem timerExpired_stops {k : Nat} (small : k < 4) (s : State) : Completes (.timerExpired k) s fun t => smGet 0 t.rim.timers k = 0
    ∧ (tst (s.rd clkg 0x090) 3 = true → tst (t.rd (gp .tim) 0x028) 0 = true) ∧ t.mem = s.mem := by
  refine ⟨_, rfl, ?_, fun clocked => State.raise_sets _ false ?_ (by decide), State.raise_mem ..⟩
  · rw [State.raise_rim, Nat.mod_eq_of_lt small]
    exact smGet_smSet_self 0 s.rim.timers k 0
  · change (!tst (s.rd clkg 0x090) 3) = false
    rw [clocked]; rfl

/-! ### The statement -/

/-- Settles O57: each access, request and service by the lemma of its command and case. -/
theorem porchServices : Obligations.PorchServices := by
  unfold Obligations.PorchServices
  refine fun s => ⟨?bar2, ?timeout, ?request, ?completion, functionLevelReset_clears s, ?recovery, ?ended, ?update, exportSurvey_unasked, ?exported,
    mgmtCfg_unasked, mgmtCfg_set, fwLock_sets, dbgLock_sets,
    fun op a x y => ⟨fun unserved => mgmtRequest_unserved unserved a x y, fun on => mgmtRequest_served on op a x y⟩, ?rack,
    fun pin level small => ⟨gpioEdge_level small, gpioEdge_moves small⟩, fun k small => timerExpired_stops small s⟩
  case bar2 =>
    intro off n data small
    refine ⟨fun recovery => ⟨bar2Access_staging small recovery true n data, bar2Access_staging small recovery false n data⟩,
      fun early => ⟨bar2Access_early small early true n data, bar2Access_early small early false n data⟩, fun up notFive quiet => ⟨fun closed =>
        ⟨bar2Access_turnedAway small up notFive quiet closed n data, bar2Access_zeros small up notFive quiet closed n data⟩, ?_⟩⟩
    rintro opened pos fits ea rfl
    refine ⟨bar2Access_window small up notFive quiet opened false rfl pos fits, fun length => ?_, fun r o at_ => State.bar2Part_shelf at_ n off _⟩
    have whole : data.take n = data := List.take_of_length_le (Nat.le_of_eq length)
    rw [bar2Access_window (n := 0) small up notFive quiet opened true length pos fits, whole]
  case timeout =>
    exact fun addr write small => ⟨fun none => pchPageTimeout_undecoded small none write,
      fun a at_ => ⟨fun heard => pchPageTimeout_answered small at_ heard write, fun answers silent => pchPageTimeout_silent small at_ answers silent write⟩⟩
  case request =>
    rintro k bme g rfl
    refine ⟨fun none => hostRequest_none none bme, fun h at_ => ⟨fun sent => hostRequest_sent at_ sent bme, hostRequest_fails at_, ?_, ?_⟩⟩
    · rintro unsent rfl write
      exact hostRequest_posts at_ unsent write
    · rintro unsent rfl read
      exact ⟨hostRequest_full at_ unsent read, hostRequest_reads at_ unsent read⟩
  case completion =>
    exact fun k ok data => ⟨fun none => hostCompletion_none none ok data, fun h at_ =>
      ⟨fun unsent => hostCompletion_unsent at_ unsent ok data, fun sent quiet => hostCompletion_answers at_ sent quiet ok data⟩⟩
  case recovery =>
    rintro ver w rfl
    exact ⟨fun idle v => recoveryImage_idle idle v ver, fun recovery go =>
      ⟨fun pos fits => recoveryImage_written recovery go ver pos fits, recoveryImage_rejected recovery go ver⟩⟩
  case ended =>
    rintro reason g small rfl
    exact s.mboxEnd_shows small
  case update =>
    refine fun v ver => ⟨fun unasked => updateFw_unasked unasked v ver, fun asked => ⟨fun locked => updateFw_locked asked locked v ver, fun unlocked =>
      ⟨fun nowhere => updateFw_nowhere asked unlocked nowhere v ver, fun st o at_ small fits sized => ?_⟩⟩⟩
    refine ⟨?_, ?_, ?_⟩
    · rintro rfl
      rw [updateFw_image asked unlocked at_ small fits sized, if_pos rfl]
    · rintro rfl old
      rw [updateFw_image asked unlocked at_ small fits sized, if_neg (by decide), if_pos old]
    · rintro rfl recent
      obtain ⟨t, eq, flash, done, event, mem⟩ := updateFw_written asked unlocked at_ small fits sized recent
      refine ⟨t, eq, congrArg Flash.slotA flash, (congrArg Flash.slotB flash).trans ?_, done, event, mem⟩
      change s.rim.flash.slotA.or s.rim.flash.slotB = _
      cases s.rim.flash.slotA <;> rfl
  case exported =>
    rintro asked a rfl
    exact ⟨exportSurvey_beyond asked, fun small => ⟨fun st o at_ overruns => exportSurvey_overrun asked small at_ overruns,
      fun st o g d at_ fits written => exportSurvey_cellar asked small at_ fits written, fun h at_ low => exportSurvey_barred asked small at_ low,
      fun h at_ high => exportSurvey_host asked small at_ high⟩⟩
  case rack =>
    refine fun cmd => ⟨rackPmbusCommand_unserved, rackPmbusCommand_reading, ?_⟩
    rintro on rfl
    exact rackPmbusCommand_status on

end Sys2Proof.Machine

/-! ## Issue of a Brick instruction (O6, O7, O12): it fires, stops for want of a token, and takes its sources from the queues -/

namespace Sys2Proof.Machine

/-! ### Every Brick instruction is an issue -/

/-- A Brick instruction is the issue of its opcode with an effect of its own (R65, R95). -/
theorem brickOps_issue {e : (Nat → Nat → Instr) × Nat} (h : e ∈ brickOps) :
    ∃ eff, ∀ s room b, exec (e.1 room b) s = .next (s.brickIssue room b e.2 eff) := by
  revert e h
  simp only [brickOps, List.forall_mem_append, List.forall_mem_cons, List.not_mem_nil, false_imp_iff, implies_true, and_true]
  repeat' apply And.intro
  all_goals exact ⟨_, fun _ _ _ => rfl⟩

/-- A Brick instruction that has everything it needs fires, whatever its effect. -/
theorem brickOps_fires {e : (Nat → Nat → Instr) × Nat} (h : e ∈ brickOps) : FiresWith e.1 e.2 fun _ _ => True := by
  obtain ⟨eff, issues⟩ := brickOps_issue h
  exact fun s room b t ok => ⟨_, issues s room b, State.brickIssue_fired eff ok trivial⟩

/-- Settles O6: every Brick instruction is an issue, and an issue that has everything it needs is a full fire. -/
theorem brickFires : Obligations.BrickFires := fun _ h => brickOps_fires h

/-! ### An issue without its token (R65, R76, R79) -/

@[simp] theorem State.brkError_brick (s : State) (room b bit cause unit ctx qmask : Nat) (injected : Bool) (r c : Nat) :
    (s.brkError room b bit cause unit ctx qmask injected).brick r c = s.brick r c := by simp [State.brkError]

@[simp] theorem State.brkError_mem (s : State) (room b bit cause unit ctx qmask : Nat) (injected : Bool) :
    (s.brkError room b bit cause unit ctx qmask injected).mem = s.mem := by simp [State.brkError]

theorem State.brkError_event (s : State) (room b cause unit ctx qmask : Nat) (injected : Bool) {bit : Nat} (h : bit < 64) :
    tst ((s.brkError room b bit cause unit ctx qmask injected).rd (rp .brk room) 0x028) bit = true := by
  rw [State.brkError, State.hitHalt_rd]
  exact State.raise_sets _ _ rfl h

/-- The WHERE registers, re-armed, hold the error and its step (R76). -/
theorem State.brkError_where (s : State) {room : Nat} (b bit cause unit ctx qmask : Nat) (injected : Bool)
    (armed : tst (s.rd (rp .brk room) 0x090) 31 = false) :
    (s.brkError room b bit cause unit ctx qmask injected).rd (rp .brk room) 0x090 = setBit (brkWhere cause unit ctx b qmask) 31
      ∧ (s.brkError room b bit cause unit ctx qmask injected).rd (rp .brk room) 0x098 = s.whereStep room := by
  simp only [State.brkError, State.hitHalt_rd, State.raise_rd_off _ injected (show 0x090 ≠ 40 by decide) (show 0x090 ≠ 64 by decide),
    State.raise_rd_off _ injected (show 0x098 ≠ 40 by decide) (show 0x098 ≠ 64 by decide)]
  refine ⟨?_, ?_⟩
  · rw [State.captureStep_rd _ _ _ _ (by decide), armed, if_neg Bool.false_ne_true]
  · rw [State.captureStep, armed, if_neg Bool.false_ne_true, State.rd_wr_self]

theorem State.brkError_records (s : State) (room b bit cause unit ctx qmask : Nat) (injected : Bool) :
    ∃ r, (s.brkError room b bit cause unit ctx qmask injected).flying = s.flying ++ [r] ∧ r.code = Page.brk.cls * 256 + cause ∧ r.halt = true
      ∧ r.injected = injected := by
  obtain ⟨r, sent, rest⟩ := State.hitHalt_records (s.captureStep (rp .brk room) 0x090 (brkWhere cause unit ctx b qmask) 0x098 (s.whereStep room))
    .brk room bit cause injected (setBit (brkWhere cause unit ctx b qmask) 31)
  exact ⟨r, sent.trans (by rw [State.captureStep_flying]), rest⟩

/-- A stepped issue that its predicate allows and that misses a token does not go on: the Brick stops with its error (R65). -/
theorem State.issueTurn_missing {s : State} {room b : Nat} {t : Turn} (eff : FireIn → FireOut) (stepped : t.u.mode = 0) (pred : t.br.pred t.ins = true)
    (quiet : s.injEmpty room b true = false) (missing : t.plan.missing ≠ 0) :
    s.issueTurn room b t eff
      = ((s.setBrick room b t.br).brkError room b 0 1 (lowQueue t.plan.missing) t.br.active t.plan.missing false).stopErr room b := by
  have plan : planOf t.br t.ins (smGet SlotCnt.fresh t.ctx.cnts t.ctx.ip) t.u.now false true false = t.plan := by simp [Turn.plan, stepped]
  simp [State.issueTurn, stepped, pred, quiet, plan, missing]

/-- Settles O7: every Brick instruction is an issue, and one of a stepped Suite that misses a token stops the Brick. -/
theorem missingTokenHalts : Obligations.MissingTokenHalts := by
  intro e h s room b t turn stepped pred quiet missing armed
  obtain ⟨eff, issues⟩ := brickOps_issue h
  have stops : exec (e.1 room b) s
      = .next (((s.setBrick room b t.br).brkError room b 0 1 (lowQueue t.plan.missing) t.br.active t.plan.missing false).stopErr room b) := by
    rw [issues, State.brickIssue, turn]
    exact congrArg Host.Outcome.next (State.issueTurn_missing eff stepped pred quiet missing)
  obtain ⟨captured, step⟩ := State.brkError_where (s.setBrick room b t.br) b 0 1 (lowQueue t.plan.missing) t.br.active t.plan.missing false armed
  refine ⟨_, stops, ?_, State.brkError_event _ room b 1 _ _ _ false (by decide), captured, step, ?_, State.brkError_records ..⟩
  · simp [State.stopErr]
  · simp [State.stopErr]

/-! ### The sources of an instruction (R62, R81) -/

@[simp] theorem Brick.iqOf_setIq (x : Brick) (q : Nat) (l : List QTok) : (x.setIq q l).iqOf q = l := by simp [Brick.iqOf, Brick.setIq]

theorem Brick.iqOf_setIq_ne (x : Brick) {q j : Nat} (l : List QTok) (h : j ≠ q) : (x.setIq q l).iqOf j = x.iqOf j := smGet_smSet_ne _ _ _ _ h

/-- Sources that do not pop leave every input queue as it was. -/
theorem Brick.popAll_unpopped (x : Brick) (k : Nat) (null : Bool) {ds : List Dem} (h : ∀ d ∈ ds, isPop d.code = false) (q : Nat) :
    (x.popAll k null ds).iqOf q = x.iqOf q := by
  induction ds generalizing x with
  | nil => rfl
  | cons d ds ih =>
    obtain ⟨hd, hds⟩ := List.forall_mem_cons.mp h
    rw [Brick.popAll, ih _ hds, hd]
    by_cases hq : q = queueOf d.code
    · rw [hq, Brick.iqOf_setIq, Bool.false_and, if_neg Bool.false_ne_true, dropTag]
    · rw [Brick.iqOf_setIq_ne _ _ hq]

/-- A source that pops takes one token of its queue, and further sources that do not pop leave it at that. -/
theorem Brick.popAll_first (x : Brick) (k : Nat) {c : Nat} {ds : List Dem} (hc : isPop c = true) (h : ∀ d ∈ ds, isPop d.code = false) :
    (x.popAll k false (dem1 c :: ds)).iqOf (queueOf c) = dropTag k 1 (x.iqOf (queueOf c))
      ∧ ∀ q, q ≠ queueOf c → (x.popAll k false (dem1 c :: ds)).iqOf q = x.iqOf q := by
  have popped : ∀ q, (x.popAll k false (dem1 c :: ds)).iqOf q = (x.setIq (queueOf c) (dropTag k 1 (x.iqOf (queueOf c)))).iqOf q := fun q => by
    rw [Brick.popAll, Brick.popAll_unpopped _ _ _ h]
    simp [dem1, hc]
  refine ⟨?_, fun q hq => ?_⟩
  · rw [popped, Brick.iqOf_setIq]
  · rw [popped, Brick.iqOf_setIq_ne _ _ hq]

theorem isQueue_iff {c : Nat} : isQueue c = true ↔ 0x20 ≤ c ∧ c ≤ 0x27 := decide_eq_true_iff

theorem isQueue_eq_false {c : Nat} (h : ¬ (0x20 ≤ c ∧ c ≤ 0x27)) : isQueue c = false := decide_eq_false h

/-- The first source of an issue reads the oldest token its queue gives. -/
theorem Brick.fetch_first (x : Brick) (k now c : Nat) : x.fetch [] k now (dem1 c) = (x.consumable (queueOf c) k now).take 1 := by
  simp [Brick.fetch, dem1, popsBefore]

/-- An issue that misses no token has the one its first source reads. -/
theorem Brick.consumable_of_missing {x : Brick} {k now c : Nat} {ds : List Dem} (hc : isQueue c = true)
    (missing : x.missing k now false [] (dem1 c :: ds) = 0) : ∃ u l, x.consumable (queueOf c) k now = u :: l := by
  obtain ⟨here, -⟩ := Nat.or_eq_zero_iff.mp missing
  rw [Brick.fetch_first] at here
  cases queue : x.consumable (queueOf c) k now with
  | nil => simp [queue, dem1, hc] at here
  | cons u l => exact ⟨u, l, rfl⟩

/-- An instruction of opcode 0x31 to 0x37 or 0x60 to 0x6C, element-wise or integer, which reads A, B and C once each (R95). -/
def Ins.ReadsAbc (i : Ins) : Prop := 0x31 ≤ i.op ∧ i.op ≤ 0x37 ∨ 0x60 ≤ i.op ∧ i.op ≤ 0x6C

theorem Ins.ReadsAbc.demands {i : Ins} (h : i.ReadsAbc) (n : SlotCnt) : demands i n = [dem1 i.a, dem1 i.b, dem1 i.c] := by
  unfold Ins.ReadsAbc at h
  unfold Machine.demands
  split
  case h_11 => rfl
  all_goals omega

section
variable {s : State} {room b op : Nat} {t : Turn}

/-- The plan of an issue whose sources are A, B and C (R65, R81). -/
theorem Turn.plan_abc (h : t.ins.ReadsAbc) :
    t.plan.missing = t.br.missing t.br.active t.u.now false [] [dem1 t.ins.a, dem1 t.ins.b, dem1 t.ins.c]
      ∧ t.plan.vals = t.br.values t.br.active t.u.now [] [dem1 t.ins.a, dem1 t.ins.b, dem1 t.ins.c]
      ∧ t.plan.void = t.br.anyVoid t.br.active t.u.now [] [dem1 t.ins.a, dem1 t.ins.b, dem1 t.ins.c]
      ∧ t.plan.after = t.br.popAll t.br.active false [dem1 t.ins.a, dem1 t.ins.b, dem1 t.ins.c] := by
  have fixed : t.plan = planFixed t.br t.ins (smGet SlotCnt.fresh t.ctx.cnts t.ctx.ip) t.u.now false false := by
    unfold Ins.ReadsAbc at h
    rw [Turn.plan, planOf, if_neg (by omega), if_neg (by omega)]
  rw [fixed, planFixed, h.demands]
  exact ⟨rfl, rfl, rfl, rfl⟩

/-- The first word that source A gives. -/
theorem Turn.arg_abc (h : t.ins.ReadsAbc) :
    t.arg 0 = (if isQueue t.ins.a then (t.br.fetch [] t.br.active t.u.now (dem1 t.ins.a)).map Token.data
      else if t.ins.a ≤ 0x1F then [t.br.reg t.ins.a] else [0]).getD 0 0 := by
  obtain ⟨-, vals, -⟩ := t.plan_abc h
  rw [Turn.arg, vals]
  rfl

/-- A queue code gives the oldest token its queue has for the active context, which is not void (R62, R68). -/
theorem FireOk.sourceA_token (ok : FireOk s room b op t) (h : t.ins.ReadsAbc) (queue : isQueue t.ins.a = true) :
    ∃ k, (t.br.consumable (queueOf t.ins.a) t.br.active t.u.now).head? = some k ∧ k.data = t.arg 0 ∧ k.void = false := by
  obtain ⟨missing, -, void, -⟩ := t.plan_abc h
  obtain ⟨k, l, there⟩ := Brick.consumable_of_missing queue (missing.symm.trans ok.tokens)
  have read : t.br.fetch [] t.br.active t.u.now (dem1 t.ins.a) = [k] := by rw [Brick.fetch_first, there, List.take_succ_cons, List.take_zero]
  refine ⟨k, by rw [there, List.head?_cons], ?_, ?_⟩
  · rw [t.arg_abc h, if_pos queue, read]; rfl
  · have clean := void.symm.trans ok.data
    rw [Brick.anyVoid, Bool.or_eq_false_iff, read] at clean
    simpa [dem1, queue] using clean.1

/-- The input queues after the issue are those that the pops of A, B and C leave. -/
theorem FireOk.iqOf_after (ok : FireOk s room b op t) (h : t.ins.ReadsAbc) (eff : FireIn → FireOut) (q : Nat) :
    ((s.brickIssue room b op eff).brick room b).iqOf q
      = (t.br.popAll t.br.active false [dem1 t.ins.a, dem1 t.ins.b, dem1 t.ins.c]).iqOf q := by
  obtain ⟨-, -, -, after⟩ := t.plan_abc h
  rw [State.brickIssue_fire eff ok, State.fireFull_brick, Turn.fired_iqOf, after]

end

/-- Settles O12: source A by its code, the queues by which of the three sources pop. -/
theorem sourceForms : Obligations.SourceForms := by
  intro e h abc s room b t ok
  obtain ⟨-, -, -, -, -, op, -⟩ := State.turn_spec ok.turn
  have abc : t.ins.ReadsAbc := by rwa [← op] at abc
  obtain ⟨eff, issues⟩ := brickOps_issue h
  refine ⟨fun reg => ?_, fun low high => ok.sourceA_token abc (isQueue_iff.mpr ⟨low, high⟩), fun zero => ?_, _, issues s room b, fun na nb nc q => ?_,
    fun pa nb nc => ?_⟩
  · rw [t.arg_abc abc, isQueue_eq_false (by omega), if_neg Bool.false_ne_true, if_pos reg]; rfl
  · rw [t.arg_abc abc, isQueue_eq_false (by omega), if_neg Bool.false_ne_true, if_neg (by omega)]; rfl
  · rw [ok.iqOf_after abc, Brick.popAll_unpopped _ _ _ (by simp [dem1, na, nb, nc])]
  · obtain ⟨taken, others⟩ := t.br.popAll_first t.br.active pa (ds := [dem1 t.ins.b, dem1 t.ins.c]) (by simp [dem1, nb, nc])
    exact ⟨(ok.iqOf_after abc eff _).trans taken, fun q hq => (ok.iqOf_after abc eff q).trans (others q hq)⟩

end Sys2Proof.Machine

/-! ## Arrival by a lane (O19): a token leaves its switch input for the one queue its LANE_SET names -/

namespace Sys2Proof.Machine

/-! ### Leaving the input -/

/-- A token taken from a port of the switch leaves its input; queues and registers stand. -/
theorem Brick.take_port (x : Brick) (k : InTok) {src : Nat} (port : src ≤ 4) (now : Nat) :
    (x.take k src now).inp = x.inp.erase k ∧ (x.take k src now).iq = x.iq ∧ (x.take k src now).oq = x.oq ∧ (x.take k src now).g = x.g := by
  rw [Brick.take, if_neg (by omega)]
  exact ⟨rfl, rfl, rfl, rfl⟩

/-- The token present at an input of a stepped Suite, no seam crossed and no wire upset, is taken from it and routed (R50, R51). -/
theorem laneTokenArrive_stepped {s : State} {room b i src : Nat} {u : Suite} {k : InTok} {x : Brick} (own : s.suiteOf room = some i)
    (defined : s.suite i = some u) (moves : u.lanesMove = true) (stepped : u.mode = 0) (seen : x = (s.brick room b).settle u.now)
    (present : x.present src u.now true = some k) (inside : k.seam = false) (intact : flipToken k.tok 0 = k.tok) :
    exec (.laneTokenArrive room b src 0) s = .next ((s.setBrick room b (x.take k src u.now)).route room b src k.tok true u.now x) := by
  subst seen
  change execLaneTokenArrive room b src 0 s = _
  simp [execLaneTokenArrive, own, defined, moves, stepped, present, intact, inside, InTok.routed]

/-! ### Entering the queue -/

/-- A token bound for one destination, which no other token contests in this cycle, is delivered to it (R51, R55, R56). -/
theorem State.route_uncontested {s : State} {room b src d now : Nat} {t : Token} {x : Brick} (one : s.dests room b x src t.tag = [d])
    (alone : x.rivals src d now true = []) (first : smGet 0 x.lastWin (8 + d) ≠ now + 1) :
    s.route room b src t true now x = s.deliver room b d src t true now := by
  simp [State.route, one, State.spread, alone, first]

/-- A clean token for an input queue of a lit Room, with no injection armed, is put there (R50, R55). -/
theorem State.deliver_queue {s : State} {room b src q now : Nat} {t : Token} (lit : s.dark room = false) (clean : checkToken t = .clean)
    (h4 : s.isArmed (rp .brk room) 4 = false) (h5 : s.isArmed (rp .brk room) 5 = false) :
    s.deliver room b (4 + q) src t true now = s.putIq room b q t true now := by
  rw [State.deliver, if_pos (by omega), lit, if_neg Bool.false_ne_true, Nat.add_sub_cancel_left, State.enterIq_of _ _ _ _ _ _ _ _ h4 h5,
    State.enterChecked_clean _ _ _ _ _ _ _ _ _ _ clean]

/-- Settles O19: the token leaves its input for the queue, and joins it or finds it full. -/
theorem laneDelivers : Obligations.LaneDelivers := by
  intro s room b i src q u k own defined moves stepped lit _ port _ x seen present inside intact clean one alone first h4 h5
  obtain ⟨inp, iq, oq, g⟩ := x.take_port k port u.now
  have same : ∀ j, (x.take k src u.now).iqOf j = x.iqOf j := fun j => congrArg (smGet [] · j) iq
  have arrives := laneTokenArrive_stepped own defined moves stepped seen present inside intact
  rw [State.route_uncontested (s := s.setBrick ..) one alone (by rwa [← Nat.add_assoc]), State.deliver_queue (s := s.setBrick ..) lit clean h4 h5,
    State.putIq_eq, State.brick_setBrick, same] at arrives
  refine ⟨fun space => ?_, fun full => ?_⟩
  · rw [if_neg (Nat.not_le.mpr space)] at arrives
    refine ⟨_, arrives, ?_, ?_, fun j hj => ?_, ?_, ?_, fun r c hk => ?_, rfl⟩
    · rw [State.brick_modBrick, State.brick_setBrick, Brick.iqOf_setIq, same]
    · rw [State.brick_modBrick, State.brick_setBrick]; exact inp
    · rw [State.brick_modBrick, State.brick_setBrick, Brick.iqOf_setIq_ne _ _ hj, same]
    · rw [State.brick_modBrick, State.brick_setBrick]; exact oq
    · rw [State.brick_modBrick, State.brick_setBrick]; exact g
    · rw [State.brick_modBrick_ne _ _ hk, State.brick_setBrick_ne _ _ hk]
  · rw [if_pos full] at arrives
    obtain ⟨r, sent, code, halt, -⟩ := State.brkError_records (s.setBrick room b (x.take k src u.now)) room b 3 4 q k.tok.tag 0 false
    refine ⟨_, arrives, ?_, ?_, State.brkError_event _ room b 4 _ _ _ false (by decide), State.brkError_mem .., r, sent, code, halt⟩
    · rw [State.brkError_brick, State.brick_setBrick]; exact iq
    · rw [State.brkError_brick, State.brick_setBrick]; exact inp

end Sys2Proof.Machine

/-! ## The token code (O60): it is linear, so what a check finds depends on the upset wires alone -/

namespace Sys2Proof.Machine

/-! ### Linearity -/

theorem xor_xor_xor_comm (a b c d : Nat) : a ^^^ b ^^^ (c ^^^ d) = a ^^^ c ^^^ (b ^^^ d) := by ac_rfl

theorem bne_bne_bne_comm (a b c d : Bool) : ((a != b) != (c != d)) = ((a != c) != (b != d)) := by decide +revert

theorem testBit_xor_bne (x y i : Nat) : (x ^^^ y).testBit i = (x.testBit i != y.testBit i) := Nat.testBit_xor ..

/-- The place that a covered bit adds to the sum. -/
theorem place_xor (a b : Bool) (p : Nat) : (if a != b then p else 0) = (if a then p else 0) ^^^ (if b then p else 0) := by
  cases a <;> cases b
  · exact (Nat.zero_xor 0).symm
  · exact (Nat.zero_xor p).symm
  · exact (Nat.xor_zero p).symm
  · exact (Nat.xor_self p).symm

theorem hammingSum_xor (x y : Nat) (ps : List Nat) (i : Nat) : hammingSum (x ^^^ y) ps i = hammingSum x ps i ^^^ hammingSum y ps i := by
  induction ps generalizing i with
  | nil => exact (Nat.zero_xor 0).symm
  | cons p ps ih =>
    unfold hammingSum
    rw [ih, testBit_xor_bne, place_xor, xor_xor_xor_comm]

theorem parityN_xor (x y n : Nat) : parityN (x ^^^ y) n = (parityN x n != parityN y n) := by
  induction n with
  | zero => rfl
  | succ n ih =>
    unfold parityN
    rw [ih, testBit_xor_bne, bne_bne_bne_comm]

/-- The syndrome that the decoder of covered bits `x` and `k + 1` check bits `c` works from (R50). -/
def hammingSyn (ps : List Nat) (k x c : Nat) : Nat := (hammingSum x ps 0 % 2 ^ k) ^^^ (c % 2 ^ k)

/-- Whether the received bits have odd parity (R50). -/
def hammingOdd (ps : List Nat) (k x c : Nat) : Bool := parityN x ps.length != (parityN (c % 2 ^ k) k != c.testBit k)

theorem b2n_le_one (b : Bool) : b2n b ≤ 1 := by cases b <;> decide

section
variable (ps : List Nat) (k x e c f : Nat)

theorem hammingSyn_xor : hammingSyn ps k (x ^^^ e) (c ^^^ f) = hammingSyn ps k x c ^^^ hammingSyn ps k e f := by
  unfold hammingSyn
  rw [hammingSum_xor, Nat.xor_mod_two_pow, Nat.xor_mod_two_pow, xor_xor_xor_comm]

theorem hammingOdd_xor : hammingOdd ps k (x ^^^ e) (c ^^^ f) = (hammingOdd ps k x c != hammingOdd ps k e f) := by
  unfold hammingOdd
  rw [parityN_xor, Nat.xor_mod_two_pow, parityN_xor, testBit_xor_bne, bne_bne_bne_comm (parityN (c % 2 ^ k) k), bne_bne_bne_comm]

/-! ### The decoder -/

/-- The check bits as sent make the syndrome zero. -/
theorem hammingSyn_check : hammingSyn ps k x (hammingCheck ps (k + 1) x) = 0 := by
  simp [hammingSyn, hammingCheck]

/-- The last check bit as sent makes the parity even. -/
theorem hammingOdd_check : hammingOdd ps k x (hammingCheck ps (k + 1) x) = false := by
  have small : hammingSum x ps 0 % 2 ^ k < 2 ^ k := Nat.mod_lt _ (Nat.two_pow_pos k)
  simp only [hammingOdd, hammingCheck, Nat.add_sub_cancel, Nat.add_mul_mod_self_right, Nat.mod_mod]
  rw [Nat.add_comm, Nat.mul_comm, testBit_at small]
  cases parityN x ps.length <;> cases parityN (hammingSum x ps 0 % 2 ^ k) k <;> rfl

theorem hammingCheck_lt : hammingCheck ps (k + 1) x < 2 ^ (k + 1) := by
  have small : hammingSum x ps 0 % 2 ^ k < 2 ^ k := Nat.mod_lt _ (Nat.two_pow_pos k)
  have top := Nat.mul_le_mul_right (2 ^ k) (b2n_le_one (parityN x ps.length != parityN (hammingSum x ps 0 % 2 ^ k) k))
  simp only [hammingCheck, Nat.add_sub_cancel, Nat.pow_succ]
  omega

/-- What the decoder finds in a codeword with the bits `e` and `f` upset is what it finds in these bits alone, put on the codeword. -/
theorem hammingDecode_upset : hammingDecode ps (k + 1) (x ^^^ e) (hammingCheck ps (k + 1) x ^^^ f)
    = (hammingDecode ps (k + 1) e f).sort .clean (fun y => .corrected (x ^^^ y)) .uncorrectable := by
  have syn : hammingSyn ps k (x ^^^ e) (hammingCheck ps (k + 1) x ^^^ f) = hammingSyn ps k e f := by
    rw [hammingSyn_xor, hammingSyn_check, Nat.zero_xor]
  have odd : hammingOdd ps k (x ^^^ e) (hammingCheck ps (k + 1) x ^^^ f) = hammingOdd ps k e f := by
    rw [hammingOdd_xor, hammingOdd_check, Bool.false_bne]
  unfold hammingSyn at syn
  unfold hammingOdd at odd
  simp only [hammingDecode, Nat.add_sub_cancel, syn, odd]
  split
  · split <;> rfl
  · split
    · rfl
    · split
      · simp [CheckOut.sort, Nat.xor_assoc]
      · split <;> rfl

/-- With even parity the decoder corrects nothing: the syndrome says whether the bits are clean (R50). -/
theorem hammingDecode_even (even : hammingOdd ps k x c = false) :
    hammingDecode ps (k + 1) x c = if hammingSyn ps k x c = 0 then .clean else .uncorrectable := by
  unfold hammingOdd at even
  by_cases syn : hammingSyn ps k x c = 0
  · rw [if_pos syn]
    unfold hammingSyn at syn
    simp only [hammingDecode, Nat.add_sub_cancel, syn, even, if_true, Bool.false_eq_true, if_false]
  · rw [if_neg syn]
    unfold hammingSyn at syn
    simp only [hammingDecode, Nat.add_sub_cancel, syn, even, Bool.not_false, if_true, if_false]

theorem hammingDecode_check : hammingDecode ps (k + 1) x (hammingCheck ps (k + 1) x) = .clean := by
  rw [hammingDecode_even _ _ _ _ (hammingOdd_check ps k x), if_pos (hammingSyn_check ps k x)]

end

/-! ### The wires of a token -/

theorem coveredBits_eq (d : W64) {tag : Nat} (h : tag < 4) (void : Bool) : coveredBits d tag void = 2 ^ 64 * (4 * b2n void + tag) + d.toNat := by
  rw [coveredBits, Nat.mod_eq_of_lt h]
  omega

theorem coveredBits_lt (d : W64) (tag : Nat) (void : Bool) : coveredBits d tag void < 2 ^ 67 := by
  have := d.isLt
  have := b2n_le_one void
  unfold coveredBits
  omega

/-- The covered bits of the fields that covered bits hold. -/
theorem coveredBits_fields {x : Nat} (h : x < 2 ^ 67) : coveredBits (BitVec.ofNat 64 x) (x / 2 ^ 64 % 4) (x.testBit 66) = x := by
  simp only [coveredBits, BitVec.toNat_ofNat, Nat.testBit_eq_decide_div_mod_eq, b2n, decide_eq_true_eq]
  split <;> omega

/-- A token as sent is the token of its covered bits. -/
theorem tokenOfCovered_coveredBits (d : W64) {tag : Nat} (h : tag < 4) (void : Bool) : tokenOfCovered (coveredBits d tag void) = mkToken d tag void := by
  have top : ∀ b, decide (b2n b % 2 = 1) = b := by decide
  have data : BitVec.ofNat 64 (2 ^ 64 * (4 * b2n void + tag) + d.toNat) = d := by
    apply BitVec.eq_of_toNat_eq
    rw [BitVec.toNat_ofNat, Nat.mul_add_mod, Nat.mod_eq_of_lt d.isLt]
  have tags : (2 ^ 64 * (4 * b2n void + tag) + d.toNat) / 2 ^ 64 % 4 = tag := by
    rw [Nat.mul_add_div (Nat.two_pow_pos 64), Nat.div_eq_of_lt d.isLt]
    omega
  have voids : (2 ^ 64 * (4 * b2n void + tag) + d.toNat).testBit 66 = void :=
    (testBit_above d.isLt _ 2).trans ((testBit_at (k := 2) h (b2n void)).trans (top void))
  rw [coveredBits_eq d h, tokenOfCovered, data, tags, voids]

theorem mkToken_check (d : W64) (tag : Nat) (void : Bool) :
    (mkToken d tag void).check.toNat = hammingCheck hammingPlaces 8 (coveredBits d tag void) := by
  have small : hammingCheck hammingPlaces 8 (coveredBits d tag void) < 2 ^ 8 := hammingCheck_lt hammingPlaces 7 _
  rw [mkToken, tokenCheck, BitVec.toNat_ofNat, Nat.mod_eq_of_lt small]

theorem coveredBits_tag (d : W64) (tag : Nat) (void : Bool) : coveredBits d (tag % 4) void = coveredBits d tag void := by
  rw [coveredBits, Nat.mod_mod, coveredBits]

theorem checkToken_mkToken (d : W64) (tag : Nat) (void : Bool) : checkToken (mkToken d tag void) = .clean := by
  have covered : coveredBits (mkToken d tag void).data (mkToken d tag void).tag (mkToken d tag void).void = coveredBits d tag void := coveredBits_tag d tag void
  rw [checkToken, covered, mkToken_check, hammingDecode_check]

/-- The check of a token with the wires of `m` upset finds what it finds in these wires alone. -/
theorem checkToken_flipToken (d : W64) (tag : Nat) (void : Bool) {m : Nat} (h : m < 2 ^ 75) :
    checkToken (flipToken (mkToken d tag void) m)
      = (hammingDecode hammingPlaces 8 (m % 2 ^ 67) (m / 2 ^ 67)).sort .clean (fun y => .corrected (coveredBits d tag void ^^^ y)) .uncorrectable := by
  have covered : coveredBits d (tag % 4) void ^^^ m % 2 ^ 67 < 2 ^ 67 := Nat.xor_lt_two_pow (coveredBits_lt ..) (Nat.mod_lt _ (Nat.two_pow_pos 67))
  have check : ((mkToken d tag void).check ^^^ BitVec.ofNat 8 (m / 2 ^ 67)).toNat
      = hammingCheck hammingPlaces 8 (coveredBits d tag void) ^^^ m / 2 ^ 67 := by
    rw [BitVec.toNat_xor, mkToken_check, BitVec.toNat_ofNat, Nat.mod_eq_of_lt (by omega)]
  rw [← hammingDecode_upset, ← check, ← coveredBits_tag]
  exact congrArg (hammingDecode hammingPlaces 8 · _) (coveredBits_fields covered)

/-- One wire upset is found and put right: nothing of it stays on the covered bits. -/
theorem hammingDecode_wire : ∀ i < 75, hammingDecode hammingPlaces 8 (2 ^ i % 2 ^ 67) (2 ^ i / 2 ^ 67) = .corrected 0 := by decide +kernel

/-- The syndrome of the wires `m`. -/
def wireSyn (m : Nat) : Nat := hammingSyn hammingPlaces 7 (m % 2 ^ 67) (m / 2 ^ 67)

/-- Whether the wires `m` upset the parity. -/
def wireOdd (m : Nat) : Bool := hammingOdd hammingPlaces 7 (m % 2 ^ 67) (m / 2 ^ 67)

theorem wireSyn_xor (m n : Nat) : wireSyn (m ^^^ n) = wireSyn m ^^^ wireSyn n := by
  rw [wireSyn, Nat.xor_mod_two_pow, Nat.xor_div_two_pow, hammingSyn_xor]; rfl

theorem wireOdd_xor (m n : Nat) : wireOdd (m ^^^ n) = (wireOdd m != wireOdd n) := by
  rw [wireOdd, Nat.xor_mod_two_pow, Nat.xor_div_two_pow, hammingOdd_xor]; rfl

/-- The places of the wires: that of each covered bit, a power of two for a check bit, and 0 for the parity (R49). -/
def wirePlaces : List Nat := hammingPlaces ++ (List.range 7).map (2 ^ ·) ++ [0]

/-- The syndrome of a wire is its place, which no other wire has. -/
theorem idxOf_wireSyn : ∀ i < 75, wirePlaces.idxOf (wireSyn (2 ^ i)) = i := by decide +kernel

theorem wireOdd_wire : ∀ i < 75, wireOdd (2 ^ i) = true := by decide +kernel

theorem wireSyn_inj {i j : Nat} (hi : i < 75) (hj : j < 75) (same : wireSyn (2 ^ i) = wireSyn (2 ^ j)) : i = j := by
  rw [← idxOf_wireSyn i hi, same, idxOf_wireSyn j hj]

theorem eq_of_xor_zero {a b : Nat} (h : a ^^^ b = 0) : a = b := by
  rw [← Nat.xor_zero a, ← Nat.xor_self b, ← Nat.xor_assoc, h, Nat.zero_xor]

/-- Two powers of two are added without a carry. -/
theorem two_pow_add_of_lt {i j : Nat} (lt : i < j) : 2 ^ j + 2 ^ i = 2 ^ j ^^^ 2 ^ i := by
  have disjoint := Nat.two_pow_add_eq_or_of_lt (Nat.pow_lt_pow_right (by decide : 1 < 2) lt) 1
  rw [Nat.mul_one] at disjoint
  rw [disjoint]
  refine Nat.eq_of_testBit_eq fun n => ?_
  rw [Nat.testBit_or, testBit_xor_bne, Nat.testBit_two_pow, Nat.testBit_two_pow]
  by_cases h : j = n
  · rw [decide_eq_true h, decide_eq_false (show i ≠ n by omega)]; rfl
  · rw [decide_eq_false h, Bool.false_or, Bool.false_bne]

theorem two_pow_add_eq_xor {i j : Nat} (ne : i ≠ j) : 2 ^ i + 2 ^ j = 2 ^ i ^^^ 2 ^ j := by
  rcases Nat.lt_or_gt_of_ne ne with lt | gt
  · rw [Nat.add_comm, Nat.xor_comm, two_pow_add_of_lt lt]
  · exact two_pow_add_of_lt gt

/-- Two wires upset cannot be put right. -/
theorem hammingDecode_wires {i j : Nat} (hi : i < 75) (hj : j < 75) (ne : i ≠ j) :
    hammingDecode hammingPlaces 8 ((2 ^ i + 2 ^ j) % 2 ^ 67) ((2 ^ i + 2 ^ j) / 2 ^ 67) = .uncorrectable := by
  have syn : wireSyn (2 ^ i + 2 ^ j) ≠ 0 := by
    rw [two_pow_add_eq_xor ne, wireSyn_xor]
    exact fun zero => ne (wireSyn_inj hi hj (eq_of_xor_zero zero))
  have even : wireOdd (2 ^ i + 2 ^ j) = false := by
    rw [two_pow_add_eq_xor ne, wireOdd_xor, wireOdd_wire i hi, wireOdd_wire j hj]; rfl
  exact (hammingDecode_even hammingPlaces 7 _ _ even).trans (if_neg syn)

/-- Settles O60: the check of an upset token finds what it finds in the upset wires, which is put right for one and beyond repair for two. -/
theorem tokenCodeCorrects : Obligations.TokenCodeCorrects := by
  intro d tag void small
  have wire : ∀ i, i < 75 → 2 ^ i < 2 ^ 75 := fun i hi => Nat.pow_lt_pow_right (by decide) hi
  refine ⟨checkToken_mkToken d tag void, fun i hi => ⟨coveredBits d tag void, ?_, tokenOfCovered_coveredBits d small void⟩, fun i j hi hj ne => ?_⟩
  · rw [checkToken_flipToken d tag void (wire i hi), hammingDecode_wire i hi]
    exact congrArg CheckOut.corrected (Nat.xor_zero _)
  · have two : 2 ^ i + 2 ^ j < 2 ^ 75 := two_pow_add_eq_xor ne ▸ Nat.xor_lt_two_pow (wire i hi) (wire j hj)
    rw [checkToken_flipToken d tag void two, hammingDecode_wires hi hj ne]; rfl

end Sys2Proof.Machine

/-! ## Results lane by lane (O8, O9, O10): the word an instruction gives has its function of the operand lanes in each lane -/

namespace Sys2Proof.Machine

/-! ### An instruction fires with the writes of its effect -/

theorem Ins.auxF_lt (i : Ins) (hi lo : Nat) : i.auxF hi lo < 2 ^ (hi + 1 - lo) := Nat.mod_lt _ (Nat.two_pow_pos _)

theorem FireOk.op_eq {s : State} {room b op : Nat} {t : Turn} (ok : FireOk s room b op t) : t.ins.op = op := by
  obtain ⟨-, -, -, -, -, h, -⟩ := State.turn_spec ok.turn
  exact h

/-- A Brick instruction fires with what the writes of its effect satisfy. -/
theorem firesWith_of_writes {c : Nat → Nat → Instr} {op : Nat} {P : Turn → List BWrite → Prop} (eff : FireIn → FireOut)
    (gives : ∀ (t : Turn) (room b n : Nat), t.ins.op = op → P t (t.writes (eff (t.fireIn room b t.plan n)) n))
    (issues : ∀ s room b, exec (c room b) s = .next (s.brickIssue room b op eff) := by intros; rfl) : FiresWith c op P := by
  intro s room b t ok
  exact ⟨_, issues s room b, State.brickIssue_fired eff ok (gives t room b s.free ok.op_eq)⟩

/-! ### Integer lanes (R95, R111) -/

/-- An integer instruction gives the residue of its function of the signed lanes. -/
theorem Turn.writes_ints (t : Turn) (room b n m : Nat) (f : Int → Int → Int) (g : Nat → Nat → Nat → Nat → Nat)
    (h : ∀ x y z, x < 2 ^ t.ins.fm.width → y < 2 ^ t.ins.fm.width →
      unsgn t.ins.fm.width (f (sgn t.ins.fm.width x) (sgn t.ins.fm.width y)) = g t.ins.fm.width x y z) :
    LanesAre g t (t.writes ((t.fireIn room b t.plan n).ints f) m) :=
  t.writes_lanes room b n m _ g fun _ x y z hx hy _ => (Nat.mod_eq_of_lt (unsgn_lt ..)).trans (h x y z hx hy)

theorem unsgn_min {w x y : Nat} (hx : x < 2 ^ w) (hy : y < 2 ^ w) : unsgn w (min (sgn w x) (sgn w y)) = if sgn w x ≤ sgn w y then x else y := by
  rw [Int.min_def, apply_ite (unsgn w), unsgn_sgn hx, unsgn_sgn hy]

theorem unsgn_max {w x y : Nat} (hx : x < 2 ^ w) (hy : y < 2 ^ w) : unsgn w (max (sgn w x) (sgn w y)) = if sgn w x ≤ sgn w y then y else x := by
  rw [Int.max_def, apply_ite (unsgn w), unsgn_sgn hx, unsgn_sgn hy]

/-- A lane shifted left wraps. -/
theorem shiftLeft_lane (w x k : Nat) : x <<< k % 2 ^ w % 2 ^ w = x * 2 ^ k % 2 ^ w := by rw [Nat.mod_mod, Nat.shiftLeft_eq]

/-- A lane shifted right stays in its width. -/
theorem shiftRight_lane {w x : Nat} (hx : x < 2 ^ w) (k : Nat) : (x >>> k) % 2 ^ w = x / 2 ^ k := by
  rw [Nat.shiftRight_eq_div_pow, Nat.mod_eq_of_lt (Nat.lt_of_le_of_lt (Nat.div_le_self ..) hx)]

/-- Settles O8: each instruction by what its function of integers or words does to a lane. -/
theorem integerLanes : Obligations.IntegerLanes := by
  refine ⟨firesWith_of_writes iaddEff fun t room b n _ => t.writes_ints room b n n _ _ fun x y _ _ _ => unsgn_add _ x y,
    firesWith_of_writes isubEff fun t room b n _ => t.writes_ints room b n n _ _ fun x y _ _ hy => unsgn_sub hy,
    firesWith_of_writes imulEff fun t room b n _ => t.writes_ints room b n n _ _ fun x y _ _ _ => unsgn_mul _ x y,
    firesWith_of_writes andEff fun t room b n _ => t.writes_word room b n n _ _ fun _ => lane_and ..,
    firesWith_of_writes orEff fun t room b n _ => t.writes_word room b n n _ _ fun _ => lane_or ..,
    firesWith_of_writes xorEff fun t room b n _ => t.writes_word room b n n _ _ fun _ => lane_xor ..,
    firesWith_of_writes shlEff fun t room b n _ =>
      t.writes_lanes room b n n _ _ fun _ _ _ _ _ _ _ => shiftLeft_lane ..,
    firesWith_of_writes shrEff fun t room b n _ =>
      t.writes_lanes room b n n _ _ fun _ _ _ _ hx _ _ => shiftRight_lane hx _,
    firesWith_of_writes iminEff fun t room b n _ => t.writes_ints room b n n _ _ fun _ _ _ hx hy => unsgn_min hx hy,
    firesWith_of_writes imaxEff fun t room b n _ => t.writes_ints room b n n _ _ fun _ _ _ hx hy => unsgn_max hx hy,
    firesWith_of_writes movEff fun t room b n _ => t.writes_word room b n n _ _ fun _ => rfl⟩

/-! ### Element lanes (R95, R103, R111, R120) -/

theorem Fmt.width_pos (f : Fmt) : 0 < f.width := by cases f <;> decide

/-- A lane of all ones or of zero fits its width. -/
theorem allOnes_mod (w : Nat) (p : Bool) : allOnes w p % 2 ^ w = if p then 2 ^ w - 1 else 0 := by
  refine Nat.mod_eq_of_lt ?_
  have := Nat.two_pow_pos w
  unfold allOnes
  split <;> omega

/-- The top bit of a lane is set where the lane is half the range or more. -/
theorem testBit_top {w c : Nat} (hw : 0 < w) (hc : c < 2 ^ w) : c.testBit (w - 1) = true ↔ 2 ^ (w - 1) ≤ c := by
  obtain ⟨k, rfl⟩ : ∃ k, w = k + 1 := ⟨w - 1, by omega⟩
  rw [Nat.pow_succ] at hc
  refine ⟨fun h => Nat.ge_two_pow_of_testBit h, fun h => ?_⟩
  rw [Nat.add_sub_cancel] at h ⊢
  have one : c / 2 ^ k = 1 := Nat.div_eq_of_lt_le (by omega) (by omega)
  rw [Nat.testBit_eq_decide_div_mod_eq, one]
  rfl

/-- MIN and MAX give one of their operands or the canonical NaN, which all fit the format. -/
theorem minMax_mod (f : Fmt) (wantMin : Bool) {x y : Nat} (hx : x < 2 ^ f.width) (hy : y < 2 ^ f.width) :
    minMax f wantMin x y % 2 ^ f.width = minMax f wantMin x y := by
  refine Nat.mod_eq_of_lt ?_
  have := nanCode_lt f
  unfold minMax
  dsimp only
  split
  · assumption
  · split
    · assumption
    · split
      · assumption
      · split <;> assumption

/-- MIN as its rule has it: of two numbers the one ordered before, of a number and a NaN the number (R103). -/
theorem minMax_min (f : Fmt) (x y : Nat) : minMax f true x y
    = if (decodeElem f x).isNan then (if (decodeElem f y).isNan then nanCode f else y)
      else if (decodeElem f y).isNan ∨ orderedBefore (decodeElem f x) (decodeElem f y) then x else y := by
  unfold minMax
  dsimp only
  cases (decodeElem f x).isNan <;> cases (decodeElem f y).isNan <;> simp

/-- MAX as its rule has it (R103). -/
theorem minMax_max (f : Fmt) (x y : Nat) : minMax f false x y
    = if (decodeElem f x).isNan then (if (decodeElem f y).isNan then nanCode f else y)
      else if ¬ (decodeElem f y).isNan ∧ orderedBefore (decodeElem f x) (decodeElem f y) then y else x := by
  unfold minMax
  dsimp only
  cases (decodeElem f x).isNan <;> cases (decodeElem f y).isNan <;> cases orderedBefore (decodeElem f x) (decodeElem f y) <;> simp

/-- NEG of a lane: the canonical NaN of a NaN, else half the range added (R120). -/
theorem negLane_mod (f : Fmt) {x : Nat} (hx : x < 2 ^ f.width) :
    (if (decodeElem f x).isNan then nanCode f else x ^^^ 2 ^ (f.width - 1)) % 2 ^ f.width
      = if (decodeElem f x).isNan then nanCode f else (x + 2 ^ (f.width - 1)) % 2 ^ f.width := by
  split
  · exact Nat.mod_eq_of_lt (nanCode_lt f)
  · exact xor_top f.width_pos hx

/-- ABS of a lane: the canonical NaN of a NaN, else its bits below the sign (R120). -/
theorem absLane_mod (f : Fmt) (x : Nat) :
    (if (decodeElem f x).isNan then nanCode f else x % 2 ^ (f.width - 1)) % 2 ^ f.width
      = if (decodeElem f x).isNan then nanCode f else x % 2 ^ (f.width - 1) := by
  split
  · exact Nat.mod_eq_of_lt (nanCode_lt f)
  · have low : x % 2 ^ (f.width - 1) < 2 ^ (f.width - 1) := Nat.mod_lt _ (Nat.two_pow_pos _)
    exact Nat.mod_eq_of_lt (Nat.lt_of_lt_of_le low (Nat.pow_le_pow_right (by decide) (Nat.sub_le ..)))

/-- SEL of a lane by the sign of the mask lane (R95). -/
theorem selLane_mod {w x y z : Nat} (hw : 0 < w) (hx : x < 2 ^ w) (hy : y < 2 ^ w) (hz : z < 2 ^ w) :
    (if z.testBit (w - 1) then x else y) % 2 ^ w = if 2 ^ (w - 1) ≤ z then x else y := by
  simp only [testBit_top hw hz]
  split
  · exact Nat.mod_eq_of_lt hx
  · exact Nat.mod_eq_of_lt hy

/-- Settles O9: each instruction by what it does to a lane. -/
theorem elementLanes : Obligations.ElementLanes := by
  refine ⟨firesWith_of_writes negEff fun t room b n _ => t.writes_lanes room b n n _ _ fun _ _ _ _ hx _ _ => negLane_mod _ hx,
    firesWith_of_writes absEff fun t room b n _ => t.writes_lanes room b n n _ _ fun _ x _ _ _ _ _ => absLane_mod _ x,
    firesWith_of_writes selEff fun t room b n _ =>
      t.writes_lanes room b n n _ _ fun _ _ _ _ hx hy hz => selLane_mod (Fmt.width_pos _) hx hy hz,
    firesWith_of_writes minEff fun t room b n _ =>
      t.writes_lanes room b n n _ _ fun _ x y _ hx hy _ => (minMax_mod _ true hx hy).trans (minMax_min _ x y),
    firesWith_of_writes maxEff fun t room b n _ =>
      t.writes_lanes room b n n _ _ fun _ x y _ hx hy _ => (minMax_mod _ false hx hy).trans (minMax_max _ x y),
    firesWith_of_writes cmpEff fun t room b n _ => t.writes_lanes room b n n _ _ fun _ _ _ _ _ _ _ => allOnes_mod ..,
    firesWith_of_writes icmpEff fun t room b n _ => t.writes_lanes room b n n _ _ fun _ _ _ _ _ _ _ => allOnes_mod ..⟩

/-! ### Floating-point lanes (R95, R103) -/

/-- The exact value `v` of the operand codes of lane `l`, rounded as RND says (R103, R123). -/
def FireIn.rounded (x : FireIn) (v : Val → Val → Val → Val) (l a b c : Nat) : Nat :=
  encodeElem x.ins.fm (x.rnd x.ins.fm l) (v (decodeElem x.ins.fm a) (decodeElem x.ins.fm b) (decodeElem x.ins.fm c))

/-- A floating-point instruction gives a word whose lanes are its exact value of the operand lanes, rounded once. -/
theorem Turn.writes_rounded (t : Turn) (room b n m : Nat) (v : Val → Val → Val → Val) :
    RoundedLanes v t (t.writes ((t.fireIn room b t.plan n).lanes ((t.fireIn room b t.plan n).rounded v)) m) := by
  refine ⟨_, t.writes_out room b n m _, fun l hl => ⟨((t.fireIn room b t.plan n).rnd t.ins.fm l).draw, fun nearest => ?_, ?_⟩⟩
  · exact if_neg (by rw [Turn.fireIn_ins]; omega)
  · rw [← Nat.mod_eq_of_lt (encodeElem_lt t.ins.fm _ _)]
    exact (t.fireIn room b t.plan n).lanes_lane ((t.fireIn room b t.plan n).rounded v) hl

/-- Settles O10: each instruction by its exact value, which is rounded where its word is packed and nowhere else. -/
theorem arithmeticRoundsOnce : Obligations.ArithmeticRoundsOnce :=
  ⟨firesWith_of_writes fmaEff fun t room b n _ => t.writes_rounded room b n n fun x y z => (x.mul y).add z,
    firesWith_of_writes addEff fun t room b n _ => t.writes_rounded room b n n fun x y _ => x.add y,
    firesWith_of_writes subEff fun t room b n _ => t.writes_rounded room b n n fun x y _ => x.add y.neg,
    firesWith_of_writes mulEff fun t room b n _ => t.writes_rounded room b n n fun x y _ => x.mul y⟩

end Sys2Proof.Machine

/-! ## Control, Cubby and accumulator results (O11) -/

namespace Sys2Proof.Machine

/-! ### Control -/

section
variable {s : State} {room b op : Nat} {t : Turn}

/-- The Brick after an issue that has everything it needs. -/
theorem FireOk.brick_after (ok : FireOk s room b op t) (eff : FireIn → FireOut) : ∃ inj,
    (s.brickIssue room b op eff).brick room b = t.fired t.plan (eff (t.fireIn room b t.plan s.free)) inj s.free :=
  ⟨_, by rw [State.brickIssue_fire eff ok, State.fireFull_brick]⟩

/-- Without a repeat the context goes on to the slot its instruction names or to the next one (R85, R86). -/
theorem FireOk.ip_after (ok : FireOk s room b op t) (eff : FireIn → FireOut) (once : t.ins.rep = 0) :
    (((s.brickIssue room b op eff).brick room b).ctx t.br.active).ip = nextSlot t.ins t.ctx.ip (eff (t.fireIn room b t.plan s.free)).jump := by
  obtain ⟨inj, after⟩ := ok.brick_after eff
  obtain ⟨-, -, -, ctx, -⟩ := State.turn_spec ok.turn
  have last : ¬ t.br.rep < t.ins.rep := by omega
  simp [after, Turn.fired_ip, last, ctx]

/-- JNZ branches unless its register was 1 (R86). -/
theorem jnz_slot (ok : FireOk s room b 0x01 t) (once : t.ins.rep = 0) :
    (((s.brickIssue room b 0x01 jnzEff).brick room b).ctx t.br.active).ip
      = if t.arg 0 = 1 then (if t.ins.last ∨ t.ctx.ip = 31 then 0 else t.ctx.ip + 1) else t.ins.auxF 4 0 := by
  have jump : (jnzEff (t.fireIn room b t.plan s.free)).jump = if t.arg 0 - 1 = 0 then none else some (t.ins.auxF 4 0) := rfl
  have zero : t.arg 0 - 1 = 0 ↔ t.arg 0 = 1 := by bv_omega
  rw [ok.ip_after _ once, jump]
  simp only [zero]
  split
  · rfl
  · exact Nat.mod_eq_of_lt (t.ins.auxF_lt 4 0)

end

/-- LDI of part 0 gives its immediate sign-extended (R109). -/
theorem Turn.writes_ldi (t : Turn) (room b n m : Nat) (low : t.ins.auxF 1 0 = 0) :
    t.writes (ldiEff (t.fireIn room b t.plan n)) m = t.dst (BitVec.ofInt 64 (sgn 18 t.ins.imm)) := by
  have whole : ldiEff (t.fireIn room b t.plan n) = (t.fireIn room b t.plan n).out [BitVec.ofInt 64 (sgn 18 t.ins.imm)] := if_pos low
  rw [whole, Turn.writes_out]

/-! ### Integer products (R97, R99, R101) -/

/-- A matrix listed row by row has `n × m` entries. -/
theorem length_rows {α : Type} (m n : Nat) (g : Nat → Nat → α) : ((List.range m).flatMap fun r => (List.range n).map (g r)).length = n * m := by
  induction m with
  | zero => rfl
  | succ m ih =>
    rw [List.range_succ, List.flatMap_append, List.length_append, ih, List.flatMap_singleton, List.length_map, List.length_range, Nat.mul_succ]

/-- Entry `n × r + c` of a matrix listed row by row. -/
theorem getElem?_rows {α : Type} {m n : Nat} (g : Nat → Nat → α) {r c : Nat} (hr : r < m) (hc : c < n) :
    ((List.range m).flatMap fun r => (List.range n).map (g r))[n * r + c]? = some (g r c) := by
  induction m with
  | zero => omega
  | succ m ih =>
    rw [List.range_succ, List.flatMap_append, List.flatMap_singleton]
    by_cases last : r = m
    · subst last
      rw [List.getElem?_append_right (by rw [length_rows]; omega), length_rows, Nat.add_sub_cancel_left]
      simp [hc]
    · have before : n * (r + 1) ≤ n * m := Nat.mul_le_mul_left n (by omega)
      rw [List.getElem?_append_left (by rw [length_rows]; rw [Nat.mul_succ] at before; omega)]
      exact ih (by omega)

/-- The product of two INT8 lanes is that of their integers, whatever the scales (R99). -/
theorem Ins.prod_int8 {i : Ins} (int8 : i.fm = .int8) (x y sa sb : Nat) : i.prod x y sa sb = .int (sgn 8 x * sgn 8 y) := by
  rw [Ins.prod, int8, if_pos (.inl rfl)]; rfl

/-- The exact sum of integer products is their sum (R101). -/
theorem Prod.foldl_add_int (l : List Int) (a : Int) : (l.map Prod.int).foldl Prod.add (.int a) = .int (a + l.sum) := by
  induction l generalizing a with
  | nil => simp
  | cons v l ih => rw [List.map_cons, List.foldl_cons, Prod.add, ih, List.sum_cons, Int.add_assoc]

theorem FireIn.write_extra (x : FireIn) (ws : List BWrite) : (x.write ws).extra = ws := rfl

section
variable (t : Turn) (room b n m : Nat)

/-- MAC and MACZ of INT8: 64 products, row by row (R97). -/
theorem Turn.writes_mac_int8 (int8 : t.ins.fm = .int8) (ovr : Bool) :
    t.writes (macEff ovr (t.fireIn room b t.plan n)) m = (List.range 8).flatMap fun r => (List.range 8).map fun c =>
      (Prod.int (sgn 8 (lane 8 (t.arg 0) r) * sgn 8 (lane 8 (t.arg 1) c))).write ovr (t.ins.accs.1 + r * 8 + c) := by
  refine (t.writes_write room b n m _).trans ?_
  simp [FireIn.write_extra, int8, Ins.prod_int8 int8, macShape, Fmt.width]

/-- DOT and DOTZ of INT8: the sum of the eight products (R101). -/
theorem Turn.writes_dot_int8 (int8 : t.ins.fm = .int8) (ovr : Bool) :
    t.writes (dotEff ovr (t.fireIn room b t.plan n)) m
      = [(Prod.int ((List.range 8).map fun l => sgn 8 (lane 8 (t.arg 0) l) * sgn 8 (lane 8 (t.arg 1) l)).sum).write ovr t.ins.accs.1] := by
  have products : ∀ sa sb, ((List.range t.ins.fm.lanes).map fun l =>
      t.ins.prod (lane t.ins.fm.width (t.arg 0) l) (lane t.ins.fm.width (t.arg 1) l) sa sb)
      = ((List.range 8).map fun l => sgn 8 (lane 8 (t.arg 0) l) * sgn 8 (lane 8 (t.arg 1) l)).map Prod.int := by
    intro sa sb
    simp only [Ins.prod_int8 int8, List.map_map]
    rw [int8]; rfl
  refine (t.writes_write room b n m _).trans ?_
  simp only [FireIn.write_extra, Turn.fireIn_ins, Turn.fireIn_val, products]
  rw [List.range_succ_eq_map, List.map_cons, List.map_cons, List.sum_cons, ← Prod.foldl_add_int]

end

/-- The accumulators of MAC, MACZ, DOT and DOTZ begin at AUX[5:0] × 2 (R97, R101). -/
theorem Ins.accs_mac {i : Ins} (h : 0x10 ≤ i.op ∧ i.op ≤ 0x13) : i.accs.1 = 2 * i.auxF 5 0 := by
  unfold Ins.accs
  obtain h | h | h | h : i.op = 0x10 ∨ i.op = 0x11 ∨ i.op = 0x12 ∨ i.op = 0x13 := by omega
  all_goals
    rw [h]
    rfl

/-- Write 8 × r + c of an INT8 MAC or MACZ is that of the product of lanes r and c (R97). -/
theorem Turn.mac_int8_entry (t : Turn) (room b n : Nat) (int8 : t.ins.fm = .int8) (h : 0x10 ≤ t.ins.op ∧ t.ins.op ≤ 0x13) (ovr : Bool) :
    (t.writes (macEff ovr (t.fireIn room b t.plan n)) n).length = 64 ∧ ∀ r c, r < 8 → c < 8 →
      (t.writes (macEff ovr (t.fireIn room b t.plan n)) n)[8 * r + c]?
        = some ((Prod.int (sgn 8 (lane 8 (t.arg 0) r) * sgn 8 (lane 8 (t.arg 1) c))).write ovr (2 * t.ins.auxF 5 0 + 8 * r + c)) := by
  rw [t.writes_mac_int8 room b n n int8, Ins.accs_mac h]
  refine ⟨length_rows 8 8 _, fun r c hr hc => ?_⟩
  rw [getElem?_rows _ hr hc, Nat.mul_comm r 8]

/-- Settles O11: the control instructions by what they give and where they go on, the accumulating ones by their products. -/
theorem controlAndAccumulatorResults : Obligations.ControlAndAccumulatorResults := by
  refine ⟨⟨firesWith_of_writes (fun x => x.out []) fun t room b n _ => t.writes_write room b n n [],
    firesWith_of_writes jnzEff fun t room b n _ => t.writes_write room b n n _,
    firesWith_of_writes cldEff fun t room b n _ => t.writes_out room b n n _,
    firesWith_of_writes cstEff fun t room b n _ => t.writes_write room b n n _,
    firesWith_of_writes ldiEff fun t room b n _ low => t.writes_ldi room b n n low,
    fun s room b t ok once => ⟨_, rfl, jnz_slot ok once⟩, fun s room b t ok => ⟨_, rfl, ?_, ?_⟩, fun s room b t ok => ⟨_, rfl, ?_, ?_⟩⟩,
    fun s room b t int8 => ⟨fun ok => ⟨_, rfl, ?_⟩, fun ok => ⟨_, rfl, ?_⟩, fun ok => ⟨_, rfl, ?_⟩⟩,
    firesWith_of_writes stkaddEff fun t room b n _ => t.writes_write room b n n _,
    firesWith_of_writes accclrEff fun t room b n _ => t.writes_write room b n n _⟩
  · exact State.brickIssue_fired foldEff ok (t.writes_write room b s.free s.free [])
  · obtain ⟨_, after⟩ := ok.brick_after foldEff
    exact congrArg Brick.fold after
  · exact State.brickIssue_fired stopEff ok (t.writes_write room b s.free s.free [])
  · obtain ⟨_, after⟩ := ok.brick_after stopEff
    exact congrArg Brick.stopped after
  · exact State.brickIssue_fired (macEff true) ok (t.mac_int8_entry room b s.free int8 (by simp [ok.op_eq]) true)
  · exact State.brickIssue_fired (macEff false) ok (t.mac_int8_entry room b s.free int8 (by simp [ok.op_eq]) false)
  · refine State.brickIssue_fired (dotEff true) ok ?_
    rw [t.writes_dot_int8 room b s.free s.free int8, Ins.accs_mac (by simp [ok.op_eq])]
    rfl

end Sys2Proof.Machine

/-! ## Results landing (O13, O14): what each write does to its Brick, when it is done, and what a failed check leaves -/

namespace Sys2Proof.Machine

/-! ### The parts of a Brick that results write -/

@[simp] theorem Brick.reg_setReg (x : Brick) (i : Nat) (v : W64) : (x.setReg i v).reg i = v := smGet_smSet_self ..

theorem Brick.reg_setReg_ne (x : Brick) {i j : Nat} (v : W64) (h : j ≠ i) : (x.setReg i v).reg j = x.reg j := smGet_smSet_ne _ _ _ _ h

@[simp] theorem Brick.accOf_setAcc (x : Brick) (i : Nat) (v : W32) : (x.setAcc i v).accOf i = v := smGet_smSet_self ..

theorem Brick.accOf_setAcc_ne (x : Brick) {i j : Nat} (v : W32) (h : j ≠ i) : (x.setAcc i v).accOf j = x.accOf j := smGet_smSet_ne _ _ _ _ h

@[simp] theorem Brick.accOf_setFlags (x : Brick) (k i : Nat) (f : StkFlags) : (x.setFlags k f).accOf i = x.accOf i := rfl

@[simp] theorem Brick.flagsOf_setFlags (x : Brick) (k : Nat) (f : StkFlags) : (x.setFlags k f).flagsOf k = f := smGet_smSet_self ..

@[simp] theorem Brick.cubbyOf_setCubby (x : Brick) (w : Nat) (v : W64) : (x.setCubby w v).cubbyOf w = v := smGet_smSet_self ..

theorem Brick.cubbyOf_setCubby_ne (x : Brick) {w j : Nat} (v : W64) (h : j ≠ w) : (x.setCubby w v).cubbyOf j = x.cubbyOf j := smGet_smSet_ne _ _ _ _ h

@[simp] theorem Brick.oqOf_setOq (x : Brick) (q : Nat) (l : List QTok) : (x.setOq q l).oqOf q = l := smGet_smSet_self ..

theorem Brick.oqOf_setOq_ne (x : Brick) {q j : Nat} (l : List QTok) (h : j ≠ q) : (x.setOq q l).oqOf j = x.oqOf j := smGet_smSet_ne _ _ _ _ h

/-! ### A Brick with one result in flight -/

section
variable {x : Brick} {p : Pend} {now : Nat}

/-- A result that awaits no Shelf words has landed once its cycle is ended, whatever grants delayed it (R91). -/
theorem Pend.landed_iff (here : p.wait = 0) : p.landed now = true ↔ p.land + p.delay < now := by simp [Pend.landed, here]

theorem sortPend_one (p : Pend) : sortPend [p] = [p] := rfl

/-- A checked result whose cycle is ended is written, and is in flight no more (R91). -/
theorem Brick.settle_landed (only : x.pend = [p]) (landed : p.landed now = true) (sound : p.inj = 0) : x.settle now = { x.land p with pend := [] } := by
  have checked : p.checked = true := decide_eq_true sound
  have still : (x.land p).pend = [p] := (x.land_pend _ p.ws).trans only
  simp [Brick.settle, only, landed, checked, sortPend_one, still]

/-- Before that a Brick stands as it is (R91). -/
theorem Brick.settle_early (only : x.pend = [p]) (early : p.landed now = false) : x.settle now = x := by
  have same : { x with pend := [p] } = x := by rw [← only]
  simpa [Brick.settle, only, early, sortPend] using same

end

/-- Settles O13: the Brick that has its turn has settled, and settling writes the result if its landing cycle is ended. -/
theorem resultSeenAtLatency : Obligations.ResultSeenAtLatency := by
  intro s room b op t p i m v turn only write here prompt sound
  obtain ⟨-, -, settled, -⟩ := State.turn_spec turn
  have landed : p.landed t.u.now = true ↔ p.land < t.u.now := by rw [Pend.landed_iff here, prompt, Nat.add_zero]
  by_cases ended : p.land < t.u.now
  · rw [settled, Brick.settle_landed only (landed.mpr ended) sound, if_pos ended, if_pos ended, Brick.land, write]
    exact ⟨Brick.reg_setReg .., rfl, fun j ne => Brick.reg_setReg_ne _ _ ne⟩
  · rw [settled, Brick.settle_early only (Bool.eq_false_iff.mpr (mt landed.mp ended)), if_neg ended, if_neg ended]
    exact ⟨rfl, only, fun _ _ => rfl⟩

/-! ### A check that fails (R415) -/

section
variable (s : State) (room b : Nat)

/-- An error of the CVU page is captured and counted before it halts the Suite (R415, R431). -/
theorem State.cvuError_halts (bit cause unit detail : Nat) (injected : Bool) : ∃ lo, s.cvuError room bit cause unit detail b injected
    = ((s.captureStep (rp .cvu room) 0x088 (cvuWhere cause unit detail b) 0x090 (s.whereStep room)).bump (rp .cvu room) 0x098 (lo + 15) lo 1).hitHalt
        .cvu room bit cause injected (setBit (cvuWhere cause unit detail b) 31) := ⟨_, rfl⟩

/-- It leaves Bricks and memory, is raised, and leaves a record that halts (R412, R415). -/
theorem State.cvuError_spec {bit : Nat} (cause unit detail : Nat) (injected : Bool) (h : bit < 64) :
    (s.cvuError room bit cause unit detail b injected).brick room b = s.brick room b
      ∧ tst ((s.cvuError room bit cause unit detail b injected).rd (rp .cvu room) 0x028) bit = true
      ∧ (s.cvuError room bit cause unit detail b injected).mem = s.mem
      ∧ ∃ r, (s.cvuError room bit cause unit detail b injected).flying = s.flying ++ [r] ∧ r.code = Page.cvu.cls * 256 + cause ∧ r.halt = true := by
  obtain ⟨lo, halts⟩ := s.cvuError_halts room b bit cause unit detail injected
  rw [halts]
  refine ⟨by simp, ?_, by simp, ?_⟩
  · rw [State.hitHalt_rd]
    exact State.raise_sets _ _ rfl h
  · obtain ⟨r, sent, code, halt, -⟩ := State.hitHalt_records _ .cvu room bit cause injected (setBit (cvuWhere cause unit detail b) 31)
    exact ⟨r, sent.trans (by rw [State.bump_flying, State.captureStep_flying]), code, halt⟩

variable {s room b}

/-- The Brick stops without the result, and its error is raised, recorded and sent as a HALT. -/
theorem State.arithFail_stops {p : Pend} (only : (s.brick room b).pend = [p]) {bit : Nat} (injected : Bool) (h : bit < 64) :
    (s.arithFail room b p bit injected).brick room b = { s.brick room b with pend := [], err := true }
      ∧ tst ((s.arithFail room b p bit injected).rd (rp .cvu room) 0x028) bit = true ∧ (s.arithFail room b p bit injected).mem = s.mem
      ∧ ∃ r, (s.arithFail room b p bit injected).flying = s.flying ++ [r] ∧ r.code = Page.cvu.cls * 256 + (bit + 1) ∧ r.halt = true := by
  obtain ⟨brick, event, mem, sent⟩ := State.cvuError_spec (s.modBrick room b fun x => { x with pend := x.pend.filter fun q => q.id ≠ p.id, err := true })
    room b (bit + 1) 1 p.op injected h
  refine ⟨brick.trans ?_, event, mem, sent⟩
  rw [State.brick_modBrick, only]
  simp

theorem instructionResult_residue {p : Pend} (only : (s.brick room b).pend = [p]) (checks : residueOp p.op = true) :
    exec (.instructionResult room b 1) s = .next (s.arithFail room b p 1 false) := by
  change execInstructionResult room b 1 s = _
  simp [execInstructionResult, only, sortPend, insPend, checks]

theorem instructionResult_exponent {p : Pend} (only : (s.brick room b).pend = [p]) (checks : expdupOp p.op = true) :
    exec (.instructionResult room b 2) s = .next (s.arithFail room b p 2 false) := by
  change execInstructionResult room b 2 s = _
  simp [execInstructionResult, only, sortPend, insPend, checks]

/-- A result that checked is written with all that have landed (R91). -/
theorem instructionResult_agrees {p : Pend} (only : (s.brick room b).pend = [p]) (sound : p.inj = 0) :
    exec (.instructionResult room b 0) s = .next (s.setBrick room b ((s.brick room b).settle (s.landTime room (s.brick room b)))) := by
  change execInstructionResult room b 0 s = _
  simp [execInstructionResult, only, sortPend, insPend, sound]

end

/-! ### What each write does -/

/-- A write of an accumulator clears the flags of its Stock accumulator (R97, R139). -/
theorem Brick.setAcc_clears (x : Brick) (i : Nat) (v : W32) :
    ((x.setAcc i v).setFlags (i / 4) .none).accOf i = v ∧ ((x.setAcc i v).setFlags (i / 4) .none).flagsOf (i / 4) = .none
      ∧ ∀ j, j ≠ i → ((x.setAcc i v).setFlags (i / 4) .none).accOf j = x.accOf j :=
  ⟨x.accOf_setAcc i v, Brick.flagsOf_setFlags .., fun _ ne => x.accOf_setAcc_ne v ne⟩

/-- Settles O14: a check that fails stops the Brick, one that agrees lets the result land, and each kind of write by the part it changes. -/
theorem resultsLand : Obligations.ResultsLand := by
  refine ⟨fun s room b p only => ⟨fun sound here ended => ?_, fun checks => ⟨_, instructionResult_residue only checks, State.arithFail_stops only _ (by decide)⟩,
    fun checks => ⟨_, instructionResult_exponent only checks, State.arithFail_stops only _ (by decide)⟩⟩, fun x n => ⟨fun i m v => ?_, fun i v => ?_,
    fun i v => ?_, fun i v => ?_, fun i => ?_, fun w v => ?_, fun q t => ?_⟩⟩
  · rw [instructionResult_agrees only sound, Brick.settle_landed only ((Pend.landed_iff here).mpr ended) sound]
    rfl
  · exact ⟨x.reg_setReg .., fun j ne => x.reg_setReg_ne _ ne⟩
  · exact x.setAcc_clears i v
  · obtain ⟨sum, -, others⟩ := x.setAcc_clears i (x.accOf i + v)
    exact ⟨sum, others⟩
  · exact (x.setAcc_clears i _).1
  · obtain ⟨zero, flags, -⟩ := x.setAcc_clears i 0
    exact ⟨zero, flags⟩
  · exact ⟨x.cubbyOf_setCubby .., fun j ne => x.cubbyOf_setCubby_ne _ ne⟩
  · exact ⟨x.oqOf_setOq .., fun j ne => x.oqOf_setOq_ne _ ne⟩

end Sys2Proof.Machine

/-! ## The Latch instructions (O18): an LSIG fires and arrives, an LWAIT fires or begins its wait -/

namespace Sys2Proof.Machine

/-! ### Arrivals and waits -/

section
variable {s : State} {room n : Nat}

/-- The first arrival of a participant of a barrier, neither the last awaited nor met by an injection, is noted and nothing more (R320, R335). -/
theorem State.latchArrive_noted {pid : Nat} (hand : Bool) (frm : Nat) (kind : s.latchKind room n = 1) (local_ : pid < 73)
    (part : (s.latch room n).mask.testBit pid = true) (first : (s.latch room n).arrived.testBit pid = false)
    (awaited : (s.latch room n).mask &&& ((s.latch room n).arrived ||| 2 ^ pid) ≠ (s.latch room n).mask)
    (h0 : s.isArmed (rp .lch room) 0 = false) (h3 : s.isArmed (rp .lch room) 3 = false) :
    s.latchArrive room n pid false hand frm = s.setLatch room n { s.latch room n with arrived := (s.latch room n).arrived ||| 2 ^ pid } := by
  have unready : ∀ target, Latch.ready { s.latch room n with arrived := (s.latch room n).arrived ||| 2 ^ pid } 1 target = false := by
    simp [Latch.ready, awaited]
  have known : (s.setLatch room n { s.latch room n with arrived := (s.latch room n).arrived ||| 2 ^ pid }).latchKind room n = 1 := kind
  have fits : ¬ (73 ≤ pid ∧ pid ≤ 79) := by omega
  simp [State.latchArrive, kind, h0, h3, part, fits, Latch.arrive, first, State.latchDue, State.testLatch, known, unready]

/-- A wait at a flag that is set ends at once (R322). -/
theorem State.latchWait_set (who : Waiter) (pid : Option Nat) (us : Nat) (poll : Bool) (kind : s.latchKind room n = 3)
    (set : (s.latch room n).flag = true) : s.latchWait room n who pid us poll = (s, some 0) := by
  simp [State.latchWait, kind, set]

/-- A wait at a barrier with no injection armed is held (R322). -/
theorem State.latchWait_held (who : Waiter) (pid : Option Nat) (us : Nat) (kind : s.latchKind room n = 1) (h1 : s.isArmed (rp .lch room) 1 = false) :
    ∃ w : Wait, w.who = who ∧ s.latchWait room n who pid us false
      = (s.setLatch room n { s.latch room n with waits := (s.latch room n).waits ++ [w] }, none) := by
  refine ⟨⟨who, (s.latch room n).awaited 1 pid, s.expiry us, false⟩, rfl, ?_⟩
  simp [State.latchWait, kind, h1]

/-! ### What an issue leaves of its Room's Latches -/

variable {t : State} {b : Nat}

theorem SameOutside.latch (same : SameOutside s t room b) (m : Nat) : t.latch room m = s.latch room m := by
  rw [State.latch, same.latches, State.latch]

theorem SameOutside.latchKind (same : SameOutside s t room b) (hr : room < 2 ^ 20) (hn : n < 64) : t.latchKind room n = s.latchKind room n :=
  congrArg (fld · 63 62) (same.regs hr (rp .lch room) _ hr (by omega) (fun e => nomatch congrArg PageRef.page e) (fun e => nomatch congrArg PageRef.page e))

end

section
variable {s : State} {room b op : Nat} {t : Turn}

/-- An issue without a result fires and writes nothing (R91). -/
theorem FireOk.fires_empty (ok : FireOk s room b op t) : Fired s (s.brickIssue room b op fun x => x.out []) room b t fun ws => ws = [] :=
  State.brickIssue_fired _ ok (t.writes_write room b s.free s.free [])

/-- The issue of an instruction outside the MAC family disarms no injection. -/
theorem FireOk.isArmed_after (ok : FireOk s room b op t) (eff : FireIn → FireOut) (other : t.ins.macFamily = false) (q : PageRef) (i : Nat) :
    (s.brickIssue room b op eff).isArmed q i = s.isArmed q i := by
  rw [State.isArmed, State.brickIssue_fire eff ok, State.fireFull_armed _ _ _ _ _ _ _ other]
  rfl

/-- Nothing that an instruction that may issue meets is in flight in an elastic Suite (R94). -/
theorem FireOk.not_held (ok : FireOk s room b op t) (elastic : t.u.mode ≠ 0) : (t.br.pend.any fun q => q.ws.any t.ins.meets) = false := by
  have ready := ok.ready.resolve_left elastic
  simpa using ready

theorem State.brickIssue_turn (turn : s.turn room b op = some t) (eff : FireIn → FireOut) : s.brickIssue room b op eff = s.issueTurn room b t eff := by
  rw [State.brickIssue, turn]

/-! ### The commands -/

/-- LSIG fires, and then arrives at its Latch (R117). -/
theorem lsig_fires (ok : FireOk s room b 0x04 t) : exec (.lsig room b) s
    = .next ((s.brickIssue room b 0x04 fun x => x.out []).latchArrive room (t.ins.auxF 5 0) b false false room) := by
  have issued := ok.fires_empty.pace.2
  rw [State.brickIssue_turn ok.turn] at issued ⊢
  change execLsig room b s = _
  simp [execLsig, ok.turn, ok.pred, issued]

/-- A stepped LWAIT fires before it waits; at a flag that is set it does no more (R117, R322). -/
theorem lwait_stepped (ok : FireOk s room b 0x05 t) (stepped : t.u.mode = 0)
    (kind : (s.brickIssue room b 0x05 fun x => x.out []).latchKind room (t.ins.auxF 5 0) = 3)
    (set : ((s.brickIssue room b 0x05 fun x => x.out []).latch room (t.ins.auxF 5 0)).flag = true) :
    exec (.lwait room b) s = .next (s.brickIssue room b 0x05 fun x => x.out []) := by
  have issued := ok.fires_empty.pace.2
  rw [State.brickIssue_turn ok.turn] at issued kind set ⊢
  change execLwait room b s = _
  simp [execLwait, ok.turn, ok.pred, stepped, issued, State.latchWait_set _ _ _ _ kind set]

/-- An elastic LWAIT whose wait has ended fires (R117, R322). -/
theorem lwait_ended (ok : FireOk s room b 0x05 t) (elastic : t.u.mode ≠ 0) (ended : t.br.lwait = .ended) :
    exec (.lwait room b) s = .next (s.brickIssue room b 0x05 fun x => x.out []) := by
  rw [State.brickIssue_turn ok.turn]
  change execLwait room b s = _
  simp only [execLwait, ok.turn, ok.not_held elastic, ok.pred, elastic, ended, Bool.false_eq_true, and_false, if_false, Bool.not_true]

/-- An elastic LWAIT that is next to issue begins its wait at the barrier (R117, R322). -/
theorem lwait_waits (turn : s.turn room b 0x05 = some t) (pred : t.br.pred t.ins = true) (elastic : t.u.mode ≠ 0) (new : t.br.lwait = .no)
    (free : (t.br.pend.any fun q => q.ws.any t.ins.meets) = false) (kind : s.latchKind room (t.ins.auxF 5 0) = 1)
    (h1 : s.isArmed (rp .lch room) 1 = false) :
    ∃ w : Wait, w.who = .brick b ∧ exec (.lwait room b) s
      = .next (((s.setBrick room b t.br).setLatch room (t.ins.auxF 5 0) { s.latch room (t.ins.auxF 5 0) with
          waits := (s.latch room (t.ins.auxF 5 0)).waits ++ [w] }).modBrick room b fun x => { x with lwait := .waiting, wfor := 2 }) := by
  obtain ⟨w, who, held⟩ := State.latchWait_held (s := s.setBrick room b t.br) (.brick b) (some b) (s.lwaitUs room (t.ins.auxF 5 0)) kind h1
  refine ⟨w, who, ?_⟩
  change execLwait room b s = _
  simp only [execLwait, turn, free, pred, elastic, new, held, Bool.false_eq_true, and_false, if_false, Bool.not_true]
  rfl

end

/-- Settles O18: LSIG fires and its arrival is noted, and LWAIT by whether its Suite is stepped and where its wait stands. -/
theorem latchInstructions : Obligations.LatchInstructions := by
  intro s room b t hr hb n hn l hl
  subst hn hl
  have small : t.ins.auxF 5 0 < 64 := t.ins.auxF_lt 5 0
  refine ⟨fun ok kind part first awaited h0 h3 => ?_, fun ok stepped kind set => ?_, fun ok elastic ended => ?_,
    fun turn pred elastic new free kind h1 => ?_⟩
  · have fired := ok.fires_empty
    have other : t.ins.macFamily = false := by simp [Ins.macFamily, ok.op_eq]
    have latch := fired.outside.latch (t.ins.auxF 5 0)
    have noted := State.latchArrive_noted (pid := b) false room ((fired.outside.latchKind hr small).trans kind) (by omega)
      (by rwa [latch]) (by rwa [latch]) (by rwa [latch]) ((ok.isArmed_after _ other _ _).trans h0) ((ok.isArmed_after _ other _ _).trans h3)
    rw [latch] at noted
    refine ⟨_, (lsig_fires ok).trans (congrArg _ noted), State.latch_setLatch .., fun m ne => ?_, fired.outside.mem, fired.outside.glatch, fired.count,
      fired.regs⟩
    rw [State.latch_setLatch_ne _ _ ne, fired.outside.latch]
  · have fired := ok.fires_empty
    exact ⟨_, lwait_stepped ok stepped ((fired.outside.latchKind hr small).trans kind) (by rwa [fired.outside.latch]), fired⟩
  · exact ⟨_, lwait_ended ok elastic ended, ok.fires_empty⟩
  · have none_meets : (t.br.pend.any fun q => q.ws.any t.ins.meets) = false := by simpa using free
    obtain ⟨w, who, waits⟩ := lwait_waits turn pred elastic new none_meets kind h1
    refine ⟨_, waits, ?_, rfl, rfl, w, State.latch_setLatch .., who⟩
    rw [State.brick_modBrick]
    change { (s.setBrick room b t.br).brick room b with lwait := .waiting, wfor := 2 } = _
    rw [State.brick_setBrick]

end Sys2Proof.Machine

/-! ## Number formats and Stock sums (O4, O5): integer elements as balanced residues, Stock addition as addition of words -/

namespace Sys2Proof.Machine

/-! ### Two's complement (R121) -/

/-- The two's-complement value of a number is its balanced residue. -/
theorem sgn_eq_bmod (w n : Nat) : sgn w n = (n : Int).bmod (2 ^ w) := by
  rw [Int.bmod_def, ← Int.natCast_emod]
  have iff : 2 * (n % 2 ^ w) < 2 ^ w ↔ ((n % 2 ^ w : Nat) : Int) < (((2 ^ w : Nat) : Int) + 1) / 2 := by omega
  simp only [sgn, iff]

theorem sgn_range {w : Nat} (hw : 0 < w) (n : Nat) : -((2 ^ (w - 1) : Nat) : Int) ≤ sgn w n ∧ sgn w n < ((2 ^ (w - 1) : Nat) : Int) := by
  have half : 2 ^ w = 2 ^ (w - 1) * 2 := (Nat.two_pow_pred_mul_two hw).symm
  have lo := Int.le_bmod (x := n) (Nat.two_pow_pos w)
  have hi := Int.bmod_lt (x := n) (Nat.two_pow_pos w)
  rw [sgn_eq_bmod]
  omega

/-- An integer of the signed range is the value of its residue. -/
theorem sgn_unsgn {w : Nat} (hw : 0 < w) {i : Int} (lo : -((2 ^ (w - 1) : Nat) : Int) ≤ i) (hi : i < ((2 ^ (w - 1) : Nat) : Int)) :
    sgn w (unsgn w i) = i := by
  have half : 2 ^ w = 2 ^ (w - 1) * 2 := (Nat.two_pow_pred_mul_two hw).symm
  have nonneg : 0 ≤ i % ((2 ^ w : Nat) : Int) := Int.emod_nonneg i (by have := Nat.two_pow_pos w; omega)
  calc sgn w (unsgn w i) = (i % ((2 ^ w : Nat) : Int)).bmod (2 ^ w) := by rw [sgn_eq_bmod, unsgn, Int.toNat_of_nonneg nonneg]
    _ = i.bmod (2 ^ w) := Int.emod_bmod ..
    _ = i := Int.bmod_eq_of_le (by omega) (by omega)

/-- An element of an integer format stands for its two's-complement value. -/
theorem decodeElem_int {f : Fmt} (int : f.isInt = true) (x : Nat) : decodeElem f x = Val.ofInt (sgn f.width x) := by
  cases f with
  | int8 | int4 | int32 | int64 => rfl
  | _ => cases int

theorem Fmt.isInt_of_mem {f : Fmt} (mem : f ∈ [Fmt.int4, .int8, .int32, .int64]) : f.isInt = true := by
  revert f
  decide

/-- Settles O4: an element's value is its balanced residue, which lies in the signed range and is the only integer there of its residue. -/
theorem integerFormats : Obligations.IntegerFormats := by
  refine ⟨⟨rfl, rfl, rfl, rfl⟩, fun f mem => ⟨fun x small => ?_, fun i lo hi => ?_⟩⟩
  · obtain ⟨lo, hi⟩ := sgn_range f.width_pos x
    exact ⟨sgn f.width x, decodeElem_int (Fmt.isInt_of_mem mem) x, lo, hi, by rw [sgn_emod, Nat.mod_eq_of_lt small]⟩
  · rw [decodeElem_int (Fmt.isInt_of_mem mem), sgn_unsgn f.width_pos lo hi]

/-! ### Addition of Stock values (R133) -/

theorem fits128_iff {q : Int} : fits128 q = true ↔ -(2 ^ 127 : Int) ≤ q ∧ q < (2 ^ 127 : Int) := by
  simp [fits128]

theorem stockAdd_overflow_iff (x y : W128) :
    (stockAdd x y).2 = true ↔ x.toInt + y.toInt < -(2 ^ 127 : Int) ∨ (2 ^ 127 : Int) ≤ x.toInt + y.toInt := by
  rw [stockAdd, Bool.not_eq_true', ← Bool.not_eq_true, fits128_iff]
  omega

/-- Without overflow the stored sum is the true sum. -/
theorem stockAdd_exact {x y : W128} (fits : (stockAdd x y).2 = false) : (stockAdd x y).1.toInt = x.toInt + y.toInt := by
  obtain ⟨lo, hi⟩ := fits128_iff.mp ((Bool.not_eq_false' ..).mp fits)
  exact (BitVec.toInt_add x y).trans (Int.bmod_eq_of_le (by omega) (by omega))

/-! ### A Stock accumulator (R104) -/

/-- A word of 128 bits is its four words of 32 bits. -/
theorem append_words (n : W128) :
    ((n >>> 96).setWidth 32 ++ (n >>> 64).setWidth 32 ++ (n >>> 32).setWidth 32 ++ n.setWidth 32 : BitVec 128) = n := by
  have word (k : Nat) : (n >>> k).setWidth 32 = n.extractLsb' k 32 := BitVec.setWidth_ushiftRight_eq_extractLsb
  have lowest : n.setWidth 32 = n.extractLsb' 0 32 := word 0
  have join {i j : Nat} (m : Nat) (next : j = i + 32) : n.extractLsb' j m ++ n.extractLsb' i 32 = n.extractLsb' i (m + 32) :=
    BitVec.extractLsb'_append_extractLsb'_eq_extractLsb' next
  rw [word, word, word, lowest, join (i := 64) 32 rfl, join (i := 32) (32 + 32) rfl, join (i := 0) (32 + 32 + 32) rfl]
  exact BitVec.extractLsb'_eq_self

@[simp] theorem Brick.stock_setFlags (x : Brick) (k i : Nat) (f : StkFlags) : (x.setFlags k f).stock i = x.stock i := rfl

@[simp] theorem Brick.stock_setStock (x : Brick) (i : Nat) (n : W128) : (x.setStock i n).stock i = n := by
  simp [Brick.stock, Brick.setStock, Brick.accOf_setAcc_ne, append_words]

/-- Settles O5: stored sums are sums of words, overflow is where the true sum does not fit, and an accumulator and a record keep both. -/
theorem stockSums : Obligations.StockSums := by
  refine ⟨fun x y => ⟨BitVec.toNat_add x y, ?_, stockAdd_overflow_iff x y, stockAdd_exact⟩,
    fun b now i n f _ => ⟨?_, ?_⟩, fun x y anchor px py => ?_⟩
  · exact (congrArg (· % (2 ^ 128 : Int)) (BitVec.toInt_add x y)).trans Int.bmod_emod
  · exact (Brick.stock_setFlags ..).trans (Brick.stock_setStock ..)
  · exact Brick.flagsOf_setFlags ..
  · exact congrArg Prod.fst (if_pos ⟨anchor, px, py⟩)

end Sys2Proof.Machine

/-! ## The front of the queue (O1) -/

namespace Sys2Proof.Machine

/-- Settles O1, by cases on the queue: its front command is performed on the rest, an idle block ticks (log entry 4). -/
theorem stepTakesFront : Obligations.StepTakesFront := by
  refine ⟨fun s c l => rfl, fun s idle => ?_⟩
  unfold step
  rw [idle]

end Sys2Proof.Machine

/-! ## Messages of a Suite (O24, O25): what the stall master, a halt and a carried write do to the Suite, and what they leave of the machine -/

namespace Sys2Proof.Machine

/-! ### Registers at two offsets -/

/-- Registers at different offsets have different keys, whatever their pages. -/
theorem regKey_offs {p q : PageRef} {a b : Nat} (ha : a < 4096 := by decide) (hb : b < 4096 := by decide) (h : a ≠ b := by decide) : regKey p a ≠ regKey q b := by
  unfold regKey
  omega

/-- Registers of two instances of a page have different keys. -/
theorem regKey_insts {pg : Page} {q r a b : Nat} (h : q ≠ r) (ha : a < 4096 := by decide) (hb : b < 4096 := by decide) : regKey (rp pg q) a ≠ regKey (rp pg r) b := by
  unfold regKey rp
  dsimp only
  omega

/-! ### States that differ in their registers -/

/-- `t` differs from `s` in its registers alone. -/
structure State.RegsOnly (s t : State) : Prop where
  eq : t = { s with regs := t.regs }

theorem State.RegsOnly.refl (s : State) : s.RegsOnly s := ⟨rfl⟩

theorem State.RegsOnly.trans {s t u : State} (h : s.RegsOnly t) (k : t.RegsOnly u) : s.RegsOnly u :=
  ⟨k.eq.trans (congrArg (fun x : State => { x with regs := u.regs }) h.eq)⟩

/-- A fold whose steps change registers alone changes registers alone. -/
theorem State.regsOnly_foldl {α : Type} {f : State → α → State} (h : ∀ (s : State) a, s.RegsOnly (f s a)) (s : State) (l : List α) :
    s.RegsOnly (l.foldl f s) :=
  foldl_keeps s.RegsOnly f (fun t a _ k => k.trans (h t a)) (State.RegsOnly.refl s)

section
variable {s t : State} (h : s.RegsOnly t)
include h

theorem State.RegsOnly.bricks : t.bricks = s.bricks := (congrArg State.bricks h.eq :)
theorem State.RegsOnly.rooms : t.rooms = s.rooms := (congrArg State.rooms h.eq :)
theorem State.RegsOnly.suites : t.suites = s.suites := (congrArg State.suites h.eq :)
theorem State.RegsOnly.suite (i : Nat) : t.suite i = s.suite i := congrArg (·.suite i) h.eq
theorem State.RegsOnly.mem : t.mem = s.mem := (congrArg State.mem h.eq :)
theorem State.RegsOnly.rim : t.rim = s.rim := (congrArg State.rim h.eq :)
theorem State.RegsOnly.remap : t.remap = s.remap := (congrArg State.remap h.eq :)
theorem State.RegsOnly.armed : t.armed = s.armed := (congrArg State.armed h.eq :)

end

/-! ### Words to a Suite -/

/-- A message to a Suite changes the Suite, beside what its words leave in the FLU pages. -/
theorem State.modSuite_downWords {s : State} {i : Nat} {u : Suite} (defined : s.suite i = some u) (f : Suite → Suite) :
    (s.downWords i).modSuite i f = (s.downWords i).setSuite i (f u) :=
  State.modSuite_of _ f ((s.downWords_suite i i).trans defined)

/-! ### The stall master (R188, R310) -/

section
variable {u : Suite}

theorem Suite.stallIssue_sends {r : StallReq} (asked : u.reqs = [r]) (come : r.at_ ≤ u.clk) (free : u.lastIss = 0 ∨ u.lastIss + 4 ≤ u.clk) (fl : Nat) :
    u.stallIssue fl = { u with reqs := [], lastIss := u.clk, msgs := u.msgs ++ [⟨r.release, r.cause, r.src, r.len, u.clk + fl⟩] } := by
  have spaced : ¬ (u.lastIss ≠ 0 ∧ u.clk < u.lastIss + 4) := by omega
  simp [Suite.stallIssue, asked, come, firstReq, spaced]

theorem Suite.stallIssue_holds {r : StallReq} (asked : u.reqs = [r]) (come : r.at_ ≤ u.clk) (issued : u.lastIss ≠ 0) (near : u.clk < u.lastIss + 4) (fl : Nat) :
    u.stallIssue fl = u := by
  simp [Suite.stallIssue, asked, come, firstReq, issued, near]

theorem Suite.freeze_opens {m : FlueMsg} {l : List FlueMsg} (issued : u.msgs = m :: l) (freeze : m.release = false) :
    u.freeze = { u with msgs := l, wins := u.wins ++ [⟨m.cause, m.src, m.cycle, if m.len = 0 then none else some (m.cycle + m.len)⟩] } := by
  simp [Suite.freeze, firstMsg, issued, freeze]

theorem Suite.release_closes {m : FlueMsg} {w : StallWin} {l : List StallWin} (issued : u.msgs = [m]) (release : m.release = true) (wins : u.wins = w :: l)
    (cause : w.cause = m.cause) (src : w.src = m.src) (opened : w.stop = none) :
    u.release = { u with msgs := [], wins := { w with stop := some m.cycle } :: l } := by
  simp [Suite.release, firstMsg, closeWin, issued, release, wins, cause, src, opened]

/-- A window that covers a coming cycle is not over. -/
theorem Suite.mem_endStalls {w : StallWin} {c : Nat} (mem : w ∈ u.wins) (come : u.clk ≤ c) (covers : w.covers c = true) : w ∈ u.endStalls.wins := by
  refine List.mem_filter.mpr ⟨mem, ?_⟩
  cases stop : w.stop with
  | none => rfl
  | some e =>
    have opened : w.start ≤ c ∧ c < e := by simpa [StallWin.covers, stop] using covers
    exact decide_eq_true (Nat.lt_of_le_of_lt come opened.2)

/-- Dropping the windows that are over changes no coming cycle (R188). -/
theorem Suite.endStalls_covers (u : Suite) {c : Nat} (come : u.clk ≤ c) : (u.wins.any fun w => w.covers c) = u.endStalls.wins.any fun w => w.covers c := by
  rw [Bool.eq_iff_iff, List.any_eq_true, List.any_eq_true]
  exact ⟨fun ⟨w, mem, covers⟩ => ⟨w, Suite.mem_endStalls mem come covers, covers⟩, fun ⟨w, mem, covers⟩ => ⟨w, (List.mem_filter.mp mem).1, covers⟩⟩

theorem Suite.haltMsg_broadcasts {r : HaltReq} {fl : Nat} (sent : u.halts = [r]) (come : r.t + fl ≤ u.clk) (first : u.haltAt = none) :
    u.haltMsg fl = { u with halts := [], haltAt := some (r.t + 2 * fl, r) } := by
  simp [Suite.haltMsg, sent, come, firstHalt, first]

end

section
variable {s : State} {i : Nat} {u : Suite} (defined : s.suite i = some u)
include defined

theorem stallReq_issues : exec (.stallReq i) s = .next (s.setSuite i (u.stallIssue s.fl)) :=
  congrArg Host.Outcome.next (s.modSuite_of _ defined)

theorem freeze_received : exec (.freeze i) s = .next ((s.downWords i).setSuite i u.freeze) :=
  congrArg Host.Outcome.next (State.modSuite_downWords defined _)

theorem release_received : exec (.release i) s = .next ((s.downWords i).setSuite i u.release) :=
  congrArg Host.Outcome.next (State.modSuite_downWords defined _)

theorem halt_received : exec (.halt i) s = .next ((s.downWords i).setSuite i (u.haltMsg s.fl)) :=
  congrArg Host.Outcome.next (State.modSuite_downWords defined _)

theorem suiteReg_received : exec (.suiteReg i) s = .next ((s.downWords i).setSuite i u.takeReg) :=
  congrArg Host.Outcome.next (State.modSuite_downWords defined _)

theorem fixedStallEnd_ends : exec (.fixedStallEnd i) s = .next (s.setSuite i u.endStalls) :=
  congrArg Host.Outcome.next (s.modSuite_of _ defined)

variable {room : Nat} (lit : s.dark room = false) (lead : s.isLead room = true) (own : s.suiteId room = i)
include lit lead own

theorem pause_asks : exec (.pause room) s = .next (s.setSuite i { u with reqs := u.reqs ++ [⟨4, hostSrc, 0, false, u.clk + s.fl⟩] }) := by
  change execPause room s = _
  simp [execPause, State.stallReq, lit, lead, own, s.modSuite_of _ defined]

theorem resume_asks : exec (.resume room) s = .next (s.setSuite i { u with reqs := u.reqs ++ [⟨4, hostSrc, 0, true, u.clk + s.fl⟩] }) := by
  change execResume room s = _
  simp [execResume, State.stallRelease, lit, lead, own, s.modSuite_of _ defined]

/-! ### The registers of a Suite (R198) -/

theorem arrSeedWrite_carried (two : u.run ≠ 2) (three : u.run ≠ 3) (v : W64) :
    exec (.arrSeedWrite room v) s = .next (s.setSuite i { u with regMsgs := u.regMsgs ++ [(0x0A0, v)] }) := by
  change execArrSeedWrite room v s = _
  simp [execArrSeedWrite, lit, lead, own, defined, two, three]

theorem arrSeedWrite_refused (running : u.run = 2 ∨ u.run = 3) (v : W64) : exec (.arrSeedWrite room v) s = .next (s.arrEvent room 6 0x22) := by
  change execArrSeedWrite room v s = _
  simp [execArrSeedWrite, lit, lead, own, defined, running]

end

theorem pause_elsewhere {s : State} {room : Nat} (other : s.isLead room = false) : exec (.pause room) s = .next s :=
  if_neg (by simp [other])

theorem resume_elsewhere {s : State} {room : Nat} (other : s.isLead room = false) : exec (.resume room) s = .next s :=
  if_neg (by simp [other])

/-- An event of the ARR page sets its bit and changes no Suite. -/
theorem State.arrEvent_raises (s : State) (room cause : Nat) {bit : Nat} (h : bit < 64) :
    tst ((s.arrEvent room bit cause).rd (rp .arr room) 0x028) bit = true ∧ (s.arrEvent room bit cause).suites = s.suites :=
  ⟨State.raise_sets _ _ rfl h, by simp [State.arrEvent]⟩

theorem Suite.takeReg_seed {u : Suite} {v : W64} {l : List (Nat × W64)} (carried : u.regMsgs = (0x0A0, v) :: l) :
    u.takeReg = { u with regMsgs := l, seed := v } := by
  simp [Suite.takeReg, carried]

theorem orReduce_load {s : State} {i : Nat} {u : Suite} {l : LoadSt} (defined : s.suite i = some u) (loading : u.load = some l) (checked : l.phase = 1)
    (come : l.c + s.fl ≤ u.now) : exec (.orReduce i false) s = .next (s.setSuite i { u with load := some { l with phase := 2 } }) := by
  change execOrReduce i false s = _
  simp [execOrReduce, s.modSuite_of _ defined, loading, checked, come]

/-- Settles O25: a seed written is carried or refused by whether the Suite runs, SUITE_REG takes it, and OR_REDUCE is by its scope. -/
theorem suiteRegisters : Obligations.SuiteRegisters := by
  intro s room i u v defined
  refine ⟨fun lead lit own => ⟨fun two three => arrSeedWrite_carried defined lit lead own two three v, fun running => ?_⟩, fun l carried => ?_,
    fun l => orReduce_load defined, rfl⟩
  · exact ⟨_, arrSeedWrite_refused defined lit lead own running v, s.arrEvent_raises room 0x22 (by decide)⟩
  · rw [suiteReg_received defined, Suite.takeReg_seed carried]

end Sys2Proof.Machine

/-! ## Stalls and the halt of a Suite (O24) -/

namespace Sys2Proof.Machine

/-! ### The halt records (R314) -/

section
variable (s : State) (r : HaltReq) (step : W64)

/-- A Room's halt record, in its FLU page (R314). -/
def State.HoldsHalt (t : State) (r : HaltReq) (step : W64) (x : Nat) : Prop :=
  t.rd (rp .flu x) 0x088 = put 63 48 r.code ||| put 47 34 r.room ||| put 33 30 r.slot ||| 1 ∧ t.rd (rp .flu x) 0x090 = step

theorem State.haltRecord_holds (x : Nat) : (s.haltRecord r step x).HoldsHalt r step x :=
  ⟨(State.rd_wr_off _ _ (by decide)).trans (State.rd_wr_self ..), State.rd_wr_self ..⟩

theorem State.haltRecord_rd (x : Nat) {q : PageRef} {o : Nat} (h1 : regKey q o ≠ regKey (rp .flu x) 0x088) (h2 : regKey q o ≠ regKey (rp .flu x) 0x090) :
    (s.haltRecord r step x).rd q o = s.rd q o :=
  (State.rd_wr_key _ _ h2).trans (State.rd_wr_key _ _ h1)

/-- The halt records of some Rooms leave the registers at other offsets. -/
theorem State.haltRecords_rd (rooms : List Nat) {q : PageRef} {o : Nat} (ho : o < 4096) (h1 : o ≠ 0x088) (h2 : o ≠ 0x090) :
    (rooms.foldl (fun s x => s.haltRecord r step x) s).rd q o = s.rd q o :=
  foldl_keeps (fun t : State => t.rd q o = s.rd q o) _
    (fun t x _ same => (t.haltRecord_rd r step x (regKey_offs ho (by decide) h1) (regKey_offs ho (by decide) h2)).trans same) rfl

/-- Every one of the Rooms holds its halt record. -/
theorem State.haltRecords_hold {rooms : List Nat} {x : Nat} (mem : x ∈ rooms) : (rooms.foldl (fun s x => s.haltRecord r step x) s).HoldsHalt r step x := by
  refine foldl_reaches (fun t : State => t.HoldsHalt r step x) _ mem (fun t => t.haltRecord_holds r step x) (fun t y _ held => ?_) s
  by_cases same : x = y
  · exact same ▸ t.haltRecord_holds r step x
  · have other : ∀ a, a < 4096 → (t.haltRecord r step y).rd (rp .flu x) a = t.rd (rp .flu x) a := fun a ha =>
      t.haltRecord_rd r step y (regKey_insts same ha) (regKey_insts same ha)
    exact ⟨(other _ (by decide)).trans held.1, (other _ (by decide)).trans held.2⟩

theorem State.regsOnly_haltRecords (rooms : List Nat) : s.RegsOnly (rooms.foldl (fun s x => s.haltRecord r step x) s) :=
  State.regsOnly_foldl (fun _ _ => ⟨rfl⟩) s rooms

end

/-! ### SUITE_HALT (R311, R312) -/

section
variable {s : State} {i h : Nat} {u : Suite} {r : HaltReq} (defined : s.suite i = some u) (out : u.haltAt = some (h, r))
include defined out

theorem suiteHalt_early (early : u.clk < h) : exec (.suiteHalt i) s = .next s := by
  change execSuiteHalt i s = _
  simp [execSuiteHalt, defined, out, show ¬ h ≤ u.clk by omega]

theorem suiteHalt_now (come : h ≤ u.clk) (settled : s.switching i = false) (idle : u.load = none) :
    exec (.suiteHalt i) s = .next (s.suiteHalt i r (if u.ckHalt then 0x06 else 0x07)) := by
  change execSuiteHalt i s = _
  simp [execSuiteHalt, defined, out, come, settled, idle]

end

/-- The Suite as a halt leaves it (R312). -/
def Suite.halted (u : Suite) : Suite :=
  { u with run := 4, haltAt := none, haltNow := some u.laneNow, halts := [], reqs := [], msgs := [], wins := [], frozenL := false }

/-- The halt records of a Suite with FLU_SUITE_HALT raised in its lead Room (R314). -/
def State.haltMarked (s : State) (u : Suite) (r : HaltReq) : State :=
  (u.rooms.foldl (fun s x => s.haltRecord r u.step x) s).raise (rp .flu u.lead) 2 false

/-- The machine after a halt that finds no load, entry or Sweep: its marks and the halted Suite. -/
def State.haltedAt (s : State) (i : Nat) (u : Suite) (r : HaltReq) : State := (s.haltMarked u r).setSuite i u.halted

section
variable {s : State} {i : Nat} {u : Suite} (r : HaltReq)

theorem State.haltedAt_suite : (s.haltedAt i u r).suite i = some u.halted := State.suite_setSuite ..

/-- A halt writes EVENT and EVENT_COUNT of the lead Room's FLU page and the halt records. -/
theorem State.haltedAt_rd {q : PageRef} {o : Nat} (ho : o < 4096) (apart : o ∉ [0x028, 0x040, 0x088, 0x090]) : (s.haltedAt i u r).rd q o = s.rd q o := by
  obtain ⟨h1, h2, h3, h4⟩ : o ≠ 0x028 ∧ o ≠ 0x040 ∧ o ≠ 0x088 ∧ o ≠ 0x090 := by simpa using apart
  unfold State.haltedAt State.haltMarked
  rw [State.setSuite_rd, State.raise_rd _ _ (regKey_offs ho (by decide) h1) (regKey_offs ho (by decide) h2), State.haltRecords_rd _ _ _ _ ho h3 h4]

theorem State.haltedAt_holds {x : Nat} (mem : x ∈ u.rooms) : (s.haltedAt i u r).HoldsHalt r u.step x := by
  have kept {o : Nat} (ho : o < 4096) (h1 : o ≠ 0x028) (h2 : o ≠ 0x040) :
      (s.haltedAt i u r).rd (rp .flu x) o = (u.rooms.foldl (fun s x => s.haltRecord r u.step x) s).rd (rp .flu x) o :=
    State.raise_rd _ _ (regKey_offs ho (by decide) h1) (regKey_offs ho (by decide) h2)
  obtain ⟨record, step⟩ := s.haltRecords_hold r u.step mem
  exact ⟨(kept (by decide) (by decide) (by decide)).trans record, (kept (by decide) (by decide) (by decide)).trans step⟩

theorem State.haltedAt_event : tst ((s.haltedAt i u r).rd (rp .flu u.lead) 0x028) 2 = true := by
  unfold State.haltedAt
  rw [State.setSuite_rd]
  exact State.raise_sets _ _ rfl (by decide)

/-- Bricks, memory, Rooms and what lies outside the compute square stay as they stood (R312). -/
theorem State.haltedAt_stays : (s.haltedAt i u r).bricks = s.bricks ∧ (s.haltedAt i u r).mem = s.mem ∧ (s.haltedAt i u r).rooms = s.rooms
    ∧ (s.haltedAt i u r).rim = s.rim := by
  have only := s.regsOnly_haltRecords r u.step u.rooms
  simp only [State.haltedAt, State.haltMarked, State.setSuite_bricks, State.setSuite_mem, State.setSuite_rooms, State.setSuite_rim, State.raise_bricks, State.raise_mem,
    State.raise_rooms, State.raise_rim]
  exact ⟨only.bricks, only.mem, only.rooms, only.rim⟩

end

/-- A command stream that is off with no entry has nothing to stop (R248). -/
theorem State.csStop_idle {t : State} {i : Nat} {v : Suite} (defined : t.suite i = some v) (empty : v.entries = [])
    (off : tst (t.rd (rp .hrt v.lead) 0x0A0) 63 = false) (cause : Nat) : t.csStop i cause = t := by
  simp [State.csStop, defined, empty, off]

/-- A Suite in no Sweep abandons none (R467). -/
theorem State.sweepHalted_idle {t : State} {i : Nat} {v : Suite} (defined : t.suite i = some v) (idle : v.sweep.st = 0) : t.sweepHalted i = t := by
  simp [State.sweepHalted, defined, idle]

/-- A halt with AUTO_HALT clear and no restart begun starts no job halt (R472). -/
theorem State.jobHalted_idle {t : State} {i : Nat} (manual : tst (t.rd (gp .swpg) (swpgSuite i)) 63 = false) (idle : (t.restart i).st = 0) (code et : Nat) :
    t.jobHalted i code et = t := by
  simp [State.jobHalted, manual, idle]

/-- The conditions under which a halt finds nothing else of the Suite to end. -/
structure State.Unburdened (s : State) (i : Nat) (u : Suite) : Prop where
  load   : u.load = none
  sweep  : u.sweep.st = 0
  empty  : u.entries = []
  manual : tst (s.rd (gp .swpg) (swpgSuite i)) 63 = false
  off    : tst (s.rd (rp .hrt u.lead) 0x0A0) 63 = false
  idle   : (s.restart i).st = 0

theorem State.suiteHalt_unburdened {s : State} {i : Nat} {u : Suite} (defined : s.suite i = some u) (free : s.Unburdened i u)
    (r : HaltReq) (cause : Nat) : s.suiteHalt i r cause = s.haltedAt i u r := by
  obtain ⟨load, sweep, empty, manual, off, idle⟩ := free
  have suite : (s.haltedAt i u r).suite i = some u.halted := State.haltedAt_suite r
  have marked : (s.haltMarked u r).suite i = some u := by
    rw [State.haltMarked, State.raise_suite]
    exact ((s.regsOnly_haltRecords r u.step u.rooms).suite i).trans defined
  have abandon : (s.haltMarked u r).abandonLoad i = s.haltMarked u r := by simp [State.abandonLoad, marked, load]
  have ckpt : (s.haltedAt i u r).ckptEntryDone i = s.haltedAt i u r := by simp [State.ckptEntryDone, suite, Suite.halted, empty]
  have off' : tst ((s.haltedAt i u r).rd (rp .hrt u.halted.lead) 0x0A0) 63 = false := by
    rw [State.haltedAt_rd r (by decide) (by decide)]
    exact off
  have manual' : tst ((s.haltedAt i u r).rd (gp .swpg) (swpgSuite i)) 63 = false := by
    have range : 0xC00 ≤ swpgSuite i ∧ swpgSuite i < 4096 := by unfold swpgSuite; omega
    rw [State.haltedAt_rd r range.2 (by simp; omega)]
    exact manual
  have idle' : ((s.haltedAt i u r).restart i).st = 0 := by
    unfold State.restart
    rw [(State.haltedAt_stays r).2.2.2]
    exact idle
  have now : s.suiteHalt i r cause = ((((s.haltedAt i u r).ckptEntryDone i).csStop i cause).sweepHalted i).jobHalted i r.code r.et := by
    unfold State.suiteHalt
    simp only [defined]
    rw [← State.haltMarked, abandon, State.modSuite_of _ _ marked]
    rfl
  rw [now, ckpt, State.csStop_idle suite empty off', State.sweepHalted_idle suite sweep, State.jobHalted_idle manual' idle']

/-- Settles O24: the stall master and the messages by the Suite operation each carries, the halt by whether H has come. -/
theorem stallsAndHalts : Obligations.StallsAndHalts := by
  refine ⟨fun s i u defined => ⟨fun r asked come => ⟨fun free => ?_, fun issued near => ?_⟩, fun m l issued freeze => ?_,
    fun m w l issued release wins cause src opened => ?_, ?_, fun r sent come first => ?_, fun room lead lit own => ?_,
    fun room other => ⟨pause_elsewhere other, resume_elsewhere other⟩, fun quiet => ?_⟩,
    fun s i h u r _ defined out => ⟨suiteHalt_early defined out, fun come settled load sweep empty manual off _ _ idle => ?_⟩⟩
  · rw [stallReq_issues defined, Suite.stallIssue_sends asked come free]
  · rw [stallReq_issues defined, Suite.stallIssue_holds asked come issued near]
  · rw [freeze_received defined, Suite.freeze_opens issued freeze]
  · rw [release_received defined, Suite.release_closes issued release wins cause src opened]
  · exact ⟨_, fixedStallEnd_ends defined, u.endStalls, rfl, rfl, fun w mem => (List.mem_filter.mp mem).1, fun c => u.endStalls_covers⟩
  · rw [halt_received defined, Suite.haltMsg_broadcasts sent come first]
  · exact ⟨pause_asks defined lit lead own, resume_asks defined lit lead own⟩
  · refine s.downWords_id i fun v again => ?_
    obtain rfl : u = v := Option.some.inj (defined.symm.trans again)
    exact quiet
  · obtain ⟨bricks, mem, roomsKept, -⟩ := State.haltedAt_stays (s := s) (i := i) (u := u) r
    refine ⟨_, suiteHalt_now defined out come settled load, ?_⟩
    rw [State.suiteHalt_unburdened defined ⟨load, sweep, empty, manual, off, idle⟩]
    exact ⟨State.haltedAt_suite r, fun x mem => State.haltedAt_holds r mem, State.haltedAt_event r, bricks, mem, roomsKept⟩

end Sys2Proof.Machine

/-! ## Runs (O21): every Brick of a Suite starts at slot 0 of the named context, and a stepped RUN ends with its last step -/

namespace Sys2Proof.Machine

/-! ### Every Brick of a Room changed -/

theorem brickKey_inj {r b q c : Nat} (hb : b < 64) (hc : c < 64) (same : brickKey q c = brickKey r b) : q = r ∧ c = b := by
  unfold brickKey at same
  omega

theorem State.modBricks_brick (s : State) (r : Nat) (f : Nat → Brick → Brick) (q : Nat) {c n : Nat} (hn : n ≤ 64) (hc : c < 64) :
    ((List.range n).foldl (fun s b => s.modBrick r b (f b)) s).brick q c = if q = r ∧ c < n then f c (s.brick q c) else s.brick q c := by
  induction n with
  | zero => simp
  | succ n ih =>
    rw [List.range_succ, List.foldl_append, List.foldl_cons, List.foldl_nil]
    by_cases here : q = r ∧ c = n
    · obtain ⟨rfl, rfl⟩ := here
      rw [State.brick_modBrick, ih (by omega), if_neg (by omega), if_pos (by omega)]
    · have apart : brickKey q c ≠ brickKey r n := fun same => here (brickKey_inj (by omega) hc same)
      have less : (q = r ∧ c < n) ↔ (q = r ∧ c < n + 1) := by omega
      rw [State.brick_modBrick_ne _ _ apart, ih (by omega)]
      simp only [less]

/-- A change of the 64 Bricks of a Room, each in its own way. -/
theorem State.modRoomBricks_brick (s : State) (r : Nat) (f : Nat → Brick → Brick) (q : Nat) {c : Nat} (hc : c < 64) :
    ((List.range 64).foldl (fun s b => s.modBrick r b (f b)) s).brick q c = if q = r then f c (s.brick q c) else s.brick q c := by
  rw [s.modBricks_brick r f q (Nat.le_refl 64) hc]
  simp only [hc, and_true]

/-- `t` differs from `s` in its Bricks alone. -/
structure State.BricksOnly (s t : State) : Prop where
  eq : t = { s with bricks := t.bricks }

section
variable {s t : State} (h : s.BricksOnly t)
include h

theorem State.BricksOnly.regs : t.regs = s.regs := (congrArg State.regs h.eq :)
theorem State.BricksOnly.rooms : t.rooms = s.rooms := (congrArg State.rooms h.eq :)
theorem State.BricksOnly.suites : t.suites = s.suites := (congrArg State.suites h.eq :)
theorem State.BricksOnly.mem : t.mem = s.mem := (congrArg State.mem h.eq :)

theorem State.BricksOnly.rd (p : PageRef) (o : Nat) : t.rd p o = s.rd p o := by unfold State.rd; rw [h.regs]
theorem State.BricksOnly.room (r : Nat) : t.room r = s.room r := by unfold State.room; rw [h.rooms]

end

theorem State.modRoomBricks_only (s : State) (r : Nat) (f : Nat → Brick → Brick) :
    s.BricksOnly ((List.range 64).foldl (fun s b => s.modBrick r b (f b)) s) :=
  foldl_keeps s.BricksOnly (fun (s : State) b => s.modBrick r b (f b))
    (fun t b _ same => ⟨congrArg (fun x : State => { x with bricks := (t.modBrick r b (f b)).bricks }) same.eq⟩) ⟨rfl⟩

/-! ### A Brick at the start of a RUN (R186) -/

theorem Brick.ctx_setCtx_ne (x : Brick) {k j : Nat} (c : Ctx) (h : j ≠ k) : (x.setCtx k c).ctx j = x.ctx j := smGet_smSet_ne _ _ _ _ h

/-- `y` holds what `x` holds of registers, accumulators and instruction words. -/
structure Brick.Stores (x y : Brick) : Prop where
  g    : y.g = x.g
  acc  : y.acc = x.acc
  code : ∀ j, (y.ctx j).code = (x.ctx j).code

theorem Brick.Stores.refl (x : Brick) : x.Stores x := ⟨rfl, rfl, fun _ => rfl⟩

theorem Brick.Stores.setIp {x y : Brick} (h : x.Stores y) (k n : Nat) : x.Stores (y.setCtx k { y.ctx k with ip := n }) :=
  ⟨h.g, h.acc, fun j => by
    by_cases same : j = k
    · rw [same, Brick.ctx_setCtx]; exact h.code k
    · rw [Brick.ctx_setCtx_ne _ _ same]; exact h.code j⟩

/-- `y` starts a RUN in context `k` at lane cycle `now`, its store that of `x` (R186). -/
structure Brick.StartsRun (x y : Brick) (k now : Nat) : Prop where
  stores  : x.Stores y
  active  : y.active = k
  started : y.started = true ∧ y.stopped = false
  due     : y.due = now + (decodeIns ((x.ctx k).word 0)).wait
  fold    : y.fold = none
  ip      : ∀ j, j < 4 → (y.ctx j).ip = 0

theorem Brick.startRun_starts {x y : Brick} (h : x.Stores y) (k now : Nat) : x.StartsRun (y.startRun k now) k now := by
  have stores : x.Stores ((List.range 4).foldl (fun b j => b.setCtx j { b.ctx j with ip := 0 }) y) :=
    foldl_keeps (fun z => x.Stores z) _ (fun z j _ kept => kept.setIp j 0) h
  refine ⟨⟨stores.g, stores.acc, stores.code⟩, rfl, ⟨rfl, rfl⟩, ?_, rfl, fun j small => ?_⟩
  · exact congrArg (fun m => now + (decodeIns (smGet nopEnd m 0)).wait) (stores.code k)
  · refine foldl_reaches (fun z : Brick => (z.ctx j).ip = 0) _ (List.mem_range.mpr small) (fun z => by rw [Brick.ctx_setCtx]) (fun z i _ reset => ?_) y
    by_cases same : j = i
    · rw [same, Brick.ctx_setCtx]
    · rw [Brick.ctx_setCtx_ne _ _ same]; exact reset

theorem Brick.thaw_stores {x y : Brick} (h : x.Stores y) (halt : Option Nat) (now : Nat) : x.Stores (y.thaw halt now) := by
  cases halt with
  | none => exact h
  | some _ => exact ⟨h.g, h.acc, h.code⟩

/-! ### A Room at the start of a RUN -/

/-- The start of a RUN in a Room's pages: HAL_SLOT_USE and FLU_HALT.VALID clear, the first check point next (R186, R194, R301). -/
def State.startPages (s : State) (r : Nat) : State := ((s.wr (rp .hal r) 0x098 0).wrF (rp .flu r) 0x088 0 0 0).modRoom r fun x => { x with checkIdx := 0 }

/-- The start of a RUN in one Room: its pages, and every Brick at slot 0 of the named context (R186). -/
def State.startRoom (u : Suite) (k : Nat) (s : State) (r : Nat) : State :=
  (List.range 64).foldl (fun s b => s.modBrick r b fun x => (x.thaw u.haltNow u.now).startRun k u.now) (s.startPages r)

/-- HAL_SLOT_USE and FLU_HALT.VALID of a Room are clear (R186, R301). -/
def State.PagesClear (t : State) (r : Nat) : Prop := t.rd (rp .hal r) 0x098 = 0 ∧ t.rdF (rp .flu r) 0x088 0 0 = 0

section
variable (s : State)

theorem State.startPages_rd (r : Nat) (q : PageRef) (o : Nat) :
    (s.startPages r).rd q o = ((s.wr (rp .hal r) 0x098 0).wrF (rp .flu r) 0x088 0 0 0).rd q o := State.modRoom_rd ..

theorem State.startPages_hal (r q : Nat) : (s.startPages r).rd (rp .hal q) 0x098 = (s.wr (rp .hal r) 0x098 0).rd (rp .hal q) 0x098 := by
  rw [s.startPages_rd, State.wrF, State.rd_wr_key _ _ regKey_offs]

theorem State.startPages_flu (r q : Nat) : (s.startPages r).rd (rp .flu q) 0x088 = (s.wrF (rp .flu r) 0x088 0 0 0).rd (rp .flu q) 0x088 := by
  have apart (x : Nat) : (s.wr (rp .hal r) 0x098 0).rd (rp .flu x) 0x088 = s.rd (rp .flu x) 0x088 :=
    State.rd_wr_key _ _ regKey_offs
  rw [s.startPages_rd, State.wrF, State.wrF, apart]
  by_cases same : q = r
  · rw [same, State.rd_wr_self, State.rd_wr_self]
  · rw [State.rd_wr_key _ _ (regKey_insts same), State.rd_wr_key _ _ (regKey_insts same), apart]

theorem State.startPages_clears (r : Nat) : (s.startPages r).PagesClear r := by
  unfold State.PagesClear State.rdF
  rw [s.startPages_hal, s.startPages_flu]
  exact ⟨State.rd_wr_self .., State.rdF_wrF_self s (rp .flu r) 0x088 (by decide) (by decide)⟩

theorem State.startPages_keepsClear {q r : Nat} (clear : s.PagesClear q) : (s.startPages r).PagesClear q := by
  by_cases same : q = r
  · rw [same]
    exact s.startPages_clears r
  · unfold State.PagesClear State.rdF
    rw [s.startPages_hal, s.startPages_flu, State.wrF, State.rd_wr_key _ _ (regKey_insts same),
      State.rd_wr_key _ _ (regKey_insts same)]
    exact clear

variable (u : Suite) (k r : Nat)

theorem State.startRoom_brick (q : Nat) {c : Nat} (hc : c < 64) :
    (s.startRoom u k r).brick q c = if q = r then ((s.brick q c).thaw u.haltNow u.now).startRun k u.now else s.brick q c :=
  State.modRoomBricks_brick _ r (fun _ x => (x.thaw u.haltNow u.now).startRun k u.now) q hc

theorem State.startRoom_only : (s.startPages r).BricksOnly (s.startRoom u k r) :=
  State.modRoomBricks_only (s.startPages r) r fun _ x => (x.thaw u.haltNow u.now).startRun k u.now

theorem State.startRoom_mem : (s.startRoom u k r).mem = s.mem := (s.startRoom_only u k r).mem.trans (by simp [State.startPages])

theorem State.startRoom_suites : (s.startRoom u k r).suites = s.suites := (s.startRoom_only u k r).suites.trans (by simp [State.startPages])

theorem State.startRoom_checkIdx (q : Nat) : ((s.startRoom u k r).room q).checkIdx = if q = r then 0 else (s.room q).checkIdx := by
  rw [(s.startRoom_only u k r).room, State.startPages]
  split
  · next same => rw [same, State.room_modRoom]
  · next other => rw [State.room_modRoom_ne _ _ other, State.wrF_room, State.wr_room]

theorem State.startRoom_pagesClear {q : Nat} : (s.startRoom u k r).PagesClear q ↔ (s.startPages r).PagesClear q := by
  simp only [State.PagesClear, State.rdF, (s.startRoom_only u k r).rd]

end

/-! ### The Suite at the start of a RUN -/

/-- The Suite as a RUN starts it: at step 0, its counters clear (R186). -/
def Suite.started (u : Suite) : Suite :=
  { u with run := 2, step := 0, cycle := 0, ended := decide (u.mode = 0) && decide (u.runSteps = 0), haltNow := none, stall := [], runs := 0, frozenL := false
           prog := 0, runCnt := u.runCnt + 1, winCnt := 0 }

/-- The machine with every Room of the Suite started, before the RUN entry completes. -/
def State.startedRooms (s : State) (i : Nat) (u : Suite) (k : Nat) : State := u.rooms.foldl (State.startRoom u k) (s.setSuite i u.started)

section
variable (s : State) (i : Nat) (u : Suite) (k : Nat)

theorem State.startedRooms_mem : (s.startedRooms i u k).mem = s.mem ∧ (s.startedRooms i u k).suites = (s.setSuite i u.started).suites :=
  foldl_keeps (fun t : State => t.mem = s.mem ∧ t.suites = (s.setSuite i u.started).suites) _
    (fun t r _ same => ⟨(t.startRoom_mem u k r).trans same.1, (t.startRoom_suites u k r).trans same.2⟩) ⟨rfl, rfl⟩

theorem State.startedRooms_suite : (s.startedRooms i u k).suite i = some u.started := by
  unfold State.suite
  rw [(s.startedRooms_mem i u k).2]
  exact State.suite_setSuite s i _

variable {r : Nat} (mem : r ∈ u.rooms)
include mem

theorem State.startedRooms_brick {b : Nat} (hb : b < 64) : (s.brick r b).StartsRun ((s.startedRooms i u k).brick r b) k u.now := by
  refine foldl_reaches_of (fun t : State => (s.brick r b).Stores (t.brick r b)) (fun t : State => (s.brick r b).StartsRun (t.brick r b) k u.now) _ mem
    (fun t kept => ?_) (fun t q _ kept starts => ?_) (fun t q _ kept => ?_) (Brick.Stores.refl _)
  · rw [State.startRoom_brick _ _ _ _ _ hb, if_pos rfl]
    exact Brick.startRun_starts (Brick.thaw_stores kept _ _) k u.now
  · rw [State.startRoom_brick _ _ _ _ _ hb]
    split
    · exact Brick.startRun_starts (Brick.thaw_stores kept _ _) k u.now
    · exact starts
  · rw [State.startRoom_brick _ _ _ _ _ hb]
    split
    · exact (Brick.startRun_starts (Brick.thaw_stores kept _ _) k u.now).stores
    · exact kept

theorem State.startedRooms_clear : (s.startedRooms i u k).PagesClear r :=
  foldl_reaches (fun t : State => t.PagesClear r) _ mem (fun t => (t.startRoom_pagesClear u k r).mpr (t.startPages_clears r))
    (fun t q _ clear => (t.startRoom_pagesClear u k q).mpr (t.startPages_keepsClear clear)) _

theorem State.startedRooms_checkIdx : ((s.startedRooms i u k).room r).checkIdx = 0 :=
  foldl_reaches (fun t : State => (t.room r).checkIdx = 0) _ mem (fun t => by rw [State.startRoom_checkIdx, if_pos rfl])
    (fun t q _ first => by
      rw [State.startRoom_checkIdx]
      split
      · rfl
      · exact first) _

end

/-! ### The commands -/

/-- An entry of the ring that completes leaves the registers at other offsets than those of CS_HEAD, CS_STATUS and CS_ENTRY (R244). -/
theorem Popped.rd_off {s t : State} {i : Nat} {u : Suite} {l : List CsEntry} (popped : Popped s t i u l) {q : PageRef} {o : Nat} (ho : o < 4096)
    (apart : o ∉ [0x0B0, 0x0C0, 0x0C8]) : t.rd q o = s.rd q o := by
  obtain ⟨h1, h2, h3⟩ : o ≠ 0x0B0 ∧ o ≠ 0x0C0 ∧ o ≠ 0x0C8 := by simpa using apart
  exact popped.regs q o (regKey_offs ho (by decide) h1) (regKey_offs ho (by decide) h2) (regKey_offs ho (by decide) h3)

theorem State.csHead_of {s : State} {i op : Nat} {u : Suite} {e : CsEntry} {l : List CsEntry} (defined : s.suite i = some u) (head : u.entries = e :: l)
    (begun : e.prog = 1) (named : e.op = op) : s.csHead i op = some (u, e) := by
  simp [State.csHead, defined, head, begun, named]

section
variable {s : State} {i : Nat} {u : Suite} (defined : s.suite i = some u)
include defined

theorem csRun_starts {e : CsEntry} {l : List CsEntry} (head : u.entries = e :: l) (begun : e.prog = 1) (named : e.op = 2) (loaded : u.run = 1)
    (free : u.load = none) (still : u.sweep.st = 0) :
    exec (.csRun i) s = .next ((s.startedRooms i u (fld (e.words.getD 0 0) 49 48)).csPop i) := by
  change execCsRun i s = _
  unfold execCsRun
  rw [State.csHead_of defined head begun named]
  exact if_neg (by simp [loaded, free, still])

theorem runEnd_ends (running : u.run = 2) (stepped : u.mode = 0) (done : u.runSteps ≤ u.step) (sent : ∀ f ∈ s.pkts, f.pkt.vc ≠ 0 ∨ f.port < 8) :
    exec (.runEnd i) s = .next (s.setSuite i { u with run := 1, ended := true }) := by
  have none_late : (s.pkts.filter fun f => f.pkt.vc = 0 && decide (8 ≤ f.port) && u.hasRoom f.room) = [] :=
    List.filter_eq_nil_iff.mpr fun f mem => by
      rcases sent f mem with vc | port
      · simp [vc]
      · simp [show ¬ 8 ≤ f.port by omega]
  have kept : (s.pkts.filter fun f => !([] : List Flight).contains f) = s.pkts := List.filter_eq_self.mpr fun _ _ => rfl
  change execRunEnd i s = _
  unfold execRunEnd
  rw [defined]
  dsimp only
  rw [if_neg (by simp [running, stepped, done]), none_late, kept]
  exact congrArg Host.Outcome.next (s.modSuite_of _ defined)

theorem runEnd_goesOn (stepped : u.mode = 0) (left : u.step < u.runSteps) (going : u.ended = false) : exec (.runEnd i) s = .next s := by
  change execRunEnd i s = _
  simp [execRunEnd, defined, stepped, going, show ¬ u.runSteps ≤ u.step by simpa using left]

end

/-- Settles O21: a RUN entry starts its Rooms and completes, a RUN ends with its steps (that it starts at the current lane cycle, each Brick due after
the wait of its first word, is the model's choice, log entry 22). -/
theorem runsBeginAndEnd : Obligations.RunsBeginAndEnd := by
  intro s i u defined
  refine ⟨fun e l k head own begun named context loaded free still => ⟨_, csRun_starts defined head begun named loaded free still, ?_⟩,
    fun running stepped => runEnd_ends defined running stepped, fun _ stepped => runEnd_goesOn defined stepped⟩
  subst context
  generalize fld (e.words.getD 0 0) 49 48 = k
  have popped := State.csPop_popped _ (s.startedRooms_suite i u k) head own
  have bricks (r b : Nat) : (((s.startedRooms i u k).csPop i).brick r b) = (s.startedRooms i u k).brick r b := (congrArg (·.brick r b) popped.rest :)
  have rooms (r : Nat) : (((s.startedRooms i u k).csPop i).room r) = (s.startedRooms i u k).room r := (congrArg (·.room r) popped.rest :)
  refine ⟨popped.suite, fun r b mem hb => ?_, fun _ r mem => ?_, fun r mem => ?_, ?_⟩
  · obtain ⟨⟨g, acc, -⟩, active, ⟨started, stopped⟩, due, fold, ip⟩ := s.startedRooms_brick i u k mem hb
    rw [bricks]
    exact ⟨active, started, stopped, due, fold, g, acc, ip⟩
  · obtain ⟨hal, flu⟩ := s.startedRooms_clear i u k mem
    exact ⟨(popped.rd_off (by decide) (by decide)).trans hal, (congrArg (fld · 0 0) (popped.rd_off (by decide) (by decide))).trans flu⟩
  · rw [rooms]
    exact s.startedRooms_checkIdx i u k mem
  · exact (congrArg State.mem popped.rest :).trans (s.startedRooms_mem i u k).1

end Sys2Proof.Machine

/-! ## Loads (O22): a load begun, checked, started and refused; what its Rooms' checks read is what no Room's marks change -/

namespace Sys2Proof.Machine

/-! ### The marks of a load -/

/-- `t` differs from `s` in ARR_STATE and ARR_LOAD_STATUS of some Rooms alone (R201). -/
structure State.LoadMarks (s t : State) : Prop where
  only : s.RegsOnly t
  regs : ∀ {q : PageRef} {o : Nat}, q.inst < 2 ^ 20 → o < 4096 → q.page ≠ .arr ∨ o ∉ [0x080, 0x0B8] → t.rd q o = s.rd q o

theorem State.LoadMarks.refl (s : State) : s.LoadMarks s := ⟨.refl s, fun _ _ _ => rfl⟩

section
variable {s t : State} (h : s.LoadMarks t)
include h

theorem State.LoadMarks.wr {r o : Nat} (small : r < 16384) (at_ : o ∈ [0x080, 0x0B8]) (v : W64) : s.LoadMarks (t.wr (rp .arr r) o v) :=
  ⟨h.only.trans ⟨rfl⟩, fun {q a} hq ha apart => by
    have near : o < 4096 := by simp at at_; omega
    refine (State.rd_wr_key _ _ ?_).trans (h.regs hq ha apart)
    rcases apart with page | off
    · exact regKey_page hq (by change r < _; omega) ha near fun same => page (by rw [same]; rfl)
    · exact regKey_offs ha near fun same => off (same ▸ at_)⟩

theorem State.LoadMarks.wrF {r o : Nat} (small : r < 16384) (at_ : o ∈ [0x080, 0x0B8]) (hi lo v : Nat) : s.LoadMarks (t.wrF (rp .arr r) o hi lo v) :=
  h.wr small at_ _

/-- The checks of a load read nothing of the marks. -/
theorem State.LoadMarks.view {room : Nat} (small : room < 16384) : LoadView s t room where
  mem := h.only.mem
  bricks := h.only.bricks
  suites := h.only.suites
  rim := h.only.rim
  remap := h.only.remap
  img r hr := h.regs (by change r < _; omega) (by decide) (.inr (by decide))
  brk r hr := h.regs (by change r < _; omega) (by decide) (.inl nofun)
  pwr r hr := h.regs (by change r < _; omega) (by decide) (.inl nofun)
  fl := h.regs (by decide) (by decide) (.inl nofun)
  bound := small

theorem State.LoadMarks.dark {r : Nat} (small : r < 16384) : t.dark r = s.dark r := by
  have hr : r < 2 ^ 20 := by omega
  unfold State.dark State.roomOn State.rdF State.room
  rw [h.regs (q := rp .pwr r) hr (by decide) (.inl nofun), h.regs (q := rp .rst r) hr (by decide) (.inl nofun), h.only.rooms]

theorem State.LoadMarks.isArmed (p : PageRef) (bit : Nat) : t.isArmed p bit = s.isArmed p bit := by
  unfold State.isArmed
  rw [h.only.armed]

theorem State.LoadMarks.clean {room : Nat} (clean : ArrayClean s room) : ArrayClean t room := by
  obtain ⟨bad, back, quiet⟩ := clean
  constructor
  · unfold State.room; rw [h.only.rooms]; exact bad
  · unfold State.room; rw [h.only.rooms]; exact back
  · rw [h.isArmed, h.isArmed]; exact quiet

end

/-! ### The LOAD entry (R178, R246) -/

/-- The load that a LOAD entry at its start step asks for (R178, R246). -/
def CsEntry.load (e : CsEntry) : LoadSt :=
  ⟨fld (e.words.getD 0 0) 55 52, tst (e.words.getD 0 0) 48, tst (e.words.getD 0 0) 49, e.t0, e.step, e.words.tail, none, 0, []⟩

/-- A change of the head entry changes the Suite and what the command stream shows of it. -/
theorem State.csMod_of {s : State} {i : Nat} {u : Suite} {e : CsEntry} {l : List CsEntry} (defined : s.suite i = some u) (head : u.entries = e :: l)
    (f : CsEntry → CsEntry) : s.csMod i f = (s.setSuite i { u with entries := f e :: l }).csShow i := by
  unfold State.csMod
  rw [s.modSuite_of _ defined, head]

theorem csLoad_begins {s : State} {i : Nat} {u : Suite} {e : CsEntry} {l : List CsEntry} (defined : s.suite i = some u) (head : u.entries = e :: l)
    (begun : e.prog = 1) (named : e.op = 1) (stepped : e.step ≠ asap) (free : u.load = none) (quiet : s.dbgSweeps i = false) :
    exec (.csLoad i) s
      = .next (((s.setSuite i { u with load := some e.load }).setSuite i { u with load := some e.load, entries := { e with prog := 2 } :: l }).csShow i) := by
  change execCsLoad i s = _
  unfold execCsLoad
  rw [State.csHead_of defined head begun named]
  dsimp only
  rw [free]
  dsimp only
  rw [if_neg (by simp [quiet]), if_neg stepped]
  exact congrArg Host.Outcome.next (State.csMod_of (u := { u with load := some e.load }) (State.suite_setSuite ..) head _)

/-! ### The checks at C (R179, R183) -/

/-- A Room accepts a load: it is lit, its Shelf clean and no injection armed, and it finds neither a cause of refusal nor a blocking token. -/
structure State.Accepts (s : State) (u : Suite) (l : LoadSt) (r : Nat) : Prop where
  lit    : s.dark r = false
  clean  : ArrayClean s r
  quiet  : s.isArmed (rp .arr r) 1 = false
  causes : s.loadCauses u l r = []
  free   : s.blocker r l.slots u.laneNow = none

/-- The bits of the slots a load fills, as ARR_STATE marks them. -/
def LoadSt.slotBits (l : LoadSt) : Nat := l.slots.foldl (fun m k => m ||| 2 ^ k) 0

theorem State.Accepts.marks {s : State} {u : Suite} {l : LoadSt} {r : Nat} (accepts : s.Accepts u l r) (keep : l.purge = false) :
    s.loadCheckRoom u l r = (s.wrF (rp .arr r) 0x080 15 12 l.slotBits, none) := by
  obtain ⟨lit, clean, quiet, causes, free⟩ := accepts
  simp [State.loadCheckRoom, lit, quiet, clean.lines, causes, free, keep, LoadSt.slotBits]

/-- The marks of other Rooms take no acceptance back. -/
theorem State.Accepts.marked {s t : State} {u : Suite} {l : LoadSt} {r : Nat} (accepts : s.Accepts u l r) (h : s.LoadMarks t) (small : ∀ x ∈ u.rooms, x < 16384)
    (mem : r ∈ u.rooms) : t.Accepts u l r where
  lit := (h.dark (small r mem)).trans accepts.lit
  clean := h.clean accepts.clean
  quiet := (h.isArmed _ _).trans accepts.quiet
  causes := ((h.view (small r mem)).causes u l small).trans accepts.causes
  free := ((h.view (small r mem)).blocker _ _).trans accepts.free

/-- One Room's check in the course of a LOAD_CHECK: the machine, and the lowest cause found so far (R180). -/
def State.checkNext (u : Suite) (l : LoadSt) (r : State × Option Nat) (x : Nat) : State × Option Nat :=
  ((r.1.loadCheckRoom u l x).1, match r.2, (r.1.loadCheckRoom u l x).2 with | some a, some b => some (min a b) | none, o => o | o, none => o)

/-- The slots a load fills marked in ARR_STATE of a Room (R201). -/
def State.markSlots (l : LoadSt) (s : State) (r : Nat) : State := s.wrF (rp .arr r) 0x080 15 12 l.slotBits

section
variable {s : State} {u : Suite} {l : LoadSt}

/-- Rooms that all accept mark their slots and find no cause. -/
theorem State.checks_accept (small : ∀ x ∈ u.rooms, x < 16384) (keep : l.purge = false) (accepts : ∀ r ∈ u.rooms, s.Accepts u l r) {rooms : List Nat}
    (sub : ∀ r ∈ rooms, r ∈ u.rooms) {t : State} (h : s.LoadMarks t) :
    rooms.foldl (State.checkNext u l) (t, none) = (rooms.foldl (State.markSlots l) t, none) := by
  induction rooms generalizing t with
  | nil => rfl
  | cons r rooms ih =>
    have mem : r ∈ u.rooms := sub r List.mem_cons_self
    have next : State.checkNext u l (t, none) r = (t.markSlots l r, none) := by
      unfold State.checkNext
      rw [((accepts r mem).marked h small mem).marks keep]
      rfl
    rw [List.foldl_cons, List.foldl_cons, next]
    exact ih (fun x hx => sub x (List.mem_cons_of_mem _ hx)) (h.wrF (small r mem) (by decide) _ _ _)

theorem State.markSlots_marks (s : State) (l : LoadSt) {rooms : List Nat} (small : ∀ x ∈ rooms, x < 16384) : s.LoadMarks (rooms.foldl (State.markSlots l) s) :=
  foldl_keeps s.LoadMarks _ (fun _ r mem h => h.wrF (small r mem) (by decide) _ _ _) (State.LoadMarks.refl s)

/-- A field of one register of a page's instances, after a write of it in one. -/
theorem State.rdF_wrF_insts (s : State) (pg : Page) (q r v : Nat) {o hi lo : Nat} (ho : o < 4096) (hh : hi < 64) :
    (s.wrF (rp pg r) o hi lo v).rdF (rp pg q) o hi lo = if q = r then v % 2 ^ (hi + 1 - lo) else s.rdF (rp pg q) o hi lo := by
  unfold State.rdF State.wrF
  split
  · next same => rw [same, State.rd_wr_self, fld_setFld_mod _ _ hh]
  · next other => rw [State.rd_wr_key _ _ (regKey_insts other ho ho)]

theorem State.markSlots_rdF (t : State) (l : LoadSt) (q r : Nat) :
    (t.markSlots l r).rdF (rp .arr q) 0x080 15 12 = if q = r then l.slotBits % 16 else t.rdF (rp .arr q) 0x080 15 12 := by
  rw [State.markSlots, State.rdF_wrF_insts _ _ _ _ _ (by decide) (by decide), show 2 ^ (15 + 1 - 12) = 16 from rfl]

theorem State.markSlots_state (s : State) (l : LoadSt) {rooms : List Nat} {r : Nat} (mem : r ∈ rooms) :
    (rooms.foldl (State.markSlots l) s).rdF (rp .arr r) 0x080 15 12 = l.slotBits % 16 :=
  foldl_reaches (fun t : State => t.rdF (rp .arr r) 0x080 15 12 = l.slotBits % 16) _ mem (fun t => by rw [State.markSlots_rdF, if_pos rfl])
    (fun t q _ marked => by rw [State.markSlots_rdF, marked, ite_self]) s

end

section
variable {s : State} {i : Nat} {u : Suite} {l : LoadSt} (defined : s.suite i = some u) (loading : u.load = some l)
include defined loading

theorem loadCheck_checks (waiting : l.phase = 0) (come : l.c ≤ u.now) :
    exec (.loadCheck i) s
      = .next ((u.rooms.foldl (State.checkNext u l) (s, none)).1.modSuite i fun v =>
          { v with load := some { l with phase := 1, refused := (u.rooms.foldl (State.checkNext u l) (s, none)).2 } }) := by
  change execLoadCheck i s = _
  unfold execLoadCheck
  rw [defined]
  dsimp only
  rw [loading]
  dsimp only
  rw [if_neg (by simp [waiting, come])]
  rfl

theorem loadCheck_accepts (waiting : l.phase = 0) (come : l.c ≤ u.now) (small : ∀ x ∈ u.rooms, x < 16384) (keep : l.purge = false)
    (accepts : ∀ r ∈ u.rooms, s.Accepts u l r) :
    exec (.loadCheck i) s
      = .next ((u.rooms.foldl (State.markSlots l) s).setSuite i { u with load := some { l with phase := 1, refused := none } }) := by
  have suite : (u.rooms.foldl (State.markSlots l) s).suite i = some u := ((s.markSlots_marks l small).only.suite i).trans defined
  rw [loadCheck_checks defined loading waiting come, State.checks_accept small keep accepts (fun _ => id) (.refl s), State.modSuite_of _ _ suite]

/-! ### The outcome at C + 2FL (R180, R248) -/

theorem loadOutcome_starts (reduced : l.phase = 2) (come : l.c + 2 * s.fl ≤ u.now) (moving : u.run ≠ 2 ∨ u.frozen = false) (slot : l.slot ≠ 15)
    (accepted : l.refused = none) (whole : l.out = []) :
    exec (.loadOutcome i) s
      = .next (u.rooms.foldl (fun s r => s.startLoader l r) (s.setSuite i { u with load := some { l with phase := 3 } })) := by
  change execLoadOutcome i s = _
  unfold execLoadOutcome
  rw [defined]
  dsimp only
  rw [loading]
  dsimp only
  rw [if_neg (by rcases moving with h | h <;> simp [reduced, come, h]), if_neg (by simp [accepted]), State.modSuite_of _ _ defined]
  simp only [whole, slot, if_false, List.contains_nil, Bool.false_eq_true]

theorem loadOutcome_refused {c : Nat} (reduced : l.phase = 2) (come : l.c + 2 * s.fl ≤ u.now) (moving : u.run ≠ 2 ∨ u.frozen = false)
    (refused : l.refused = some c) :
    exec (.loadOutcome i) s
      = .next (((u.rooms.foldl (fun s r => s.loadRefused l r) s).modSuite i fun u => { u with load := none }).csStop i 0x04) := by
  change execLoadOutcome i s = _
  unfold execLoadOutcome
  rw [defined]
  dsimp only
  rw [loading]
  dsimp only
  rw [if_neg (by rcases moving with h | h <;> simp [reduced, come, h]), if_pos (by simp [refused])]

end

/-! ### The loaders -/

theorem State.slotOff_of {s t : State} (regs : t.regs = s.regs) (mem : t.mem = s.mem) (r k : Nat) : t.slotOff r k = s.slotOff r k := by
  unfold State.slotOff State.recNum State.imgBase State.rd
  rw [regs]
  simp only [s.ldBytes_of t mem]

/-- `t` differs from `s` in its Rooms alone. -/
structure State.RoomsOnly (s t : State) : Prop where
  eq : t = { s with rooms := t.rooms }

/-- The loader of a Room at the first line of its slot (R180). -/
def State.loaderAt (s : State) (l : LoadSt) (r : Nat) : Loader :=
  ⟨l.slot, s.slotOff r (l.slots.headD 0) / 64, 264 * l.slots.length, 0, [], if l.slots.isEmpty then some 0 else none, 0, false, 0, 0, false⟩

section
variable (s : State) (l : LoadSt)

theorem State.loaderAt_setSuite (i : Nat) (u : Suite) (r : Nat) : (s.setSuite i u).loaderAt l r = s.loaderAt l r := by
  unfold State.loaderAt
  rw [State.slotOff_of (s := s) (t := s.setSuite i u) rfl rfl]

theorem State.startLoaders_only (rooms : List Nat) : s.RoomsOnly (rooms.foldl (fun s r => s.startLoader l r) s) :=
  foldl_keeps s.RoomsOnly (fun (s : State) r => s.startLoader l r)
    (fun t r _ same => ⟨congrArg (fun x : State => { x with rooms := (t.startLoader l r).rooms }) same.eq⟩) ⟨rfl⟩

theorem State.startLoaders_loader {rooms : List Nat} {r : Nat} (mem : r ∈ rooms) :
    ((rooms.foldl (fun s r => s.startLoader l r) s).room r).loader = some (s.loaderAt l r) := by
  have own : ∀ t : State, t.regs = s.regs ∧ t.mem = s.mem → ((t.startLoader l r).room r).loader = some (s.loaderAt l r) := fun t same => by
    rw [State.startLoader, State.room_modRoom, State.slotOff_of same.1 same.2]
    rfl
  refine foldl_reaches_of (fun t : State => t.regs = s.regs ∧ t.mem = s.mem) (fun t : State => (t.room r).loader = some (s.loaderAt l r)) _ mem own
    (fun t q _ same started => ?_) (fun t q _ same => same) ⟨rfl, rfl⟩
  by_cases here : r = q
  · rw [← here]
    exact own t same
  · rw [State.startLoader, State.room_modRoom_ne _ _ here]
    exact started

end

/-! ### A refused load -/

section
variable {s t : State} {l : LoadSt} {r : Nat}

theorem State.LoadMarks.refused (h : s.LoadMarks t) (small : r < 16384) : s.LoadMarks (t.loadRefused l r) := by
  unfold State.loadRefused
  split
  · exact h
  · dsimp only
    split
    · exact h.wrF small (by decide) _ _ _
    · exact (h.wr small (by decide) _).wrF small (by decide) _ _ _

theorem State.loadRefused_state (lit : t.dark r = false) (q : Nat) :
    (t.loadRefused l r).rdF (rp .arr q) 0x080 15 12 = if q = r then 0 else t.rdF (rp .arr q) 0x080 15 12 := by
  unfold State.loadRefused
  rw [if_neg (by simp [lit])]
  dsimp only
  rw [State.rdF_wrF_insts _ _ _ _ _ (by decide) (by decide), Nat.zero_mod]
  split
  · rfl
  · split
    · rfl
    · unfold State.rdF
      rw [State.rd_wr_key _ _ regKey_offs]

theorem State.loadsRefused_marks {rooms : List Nat} (small : ∀ x ∈ rooms, x < 16384) : s.LoadMarks (rooms.foldl (fun s r => s.loadRefused l r) s) :=
  foldl_keeps s.LoadMarks _ (fun _ r mem h => h.refused (small r mem)) (State.LoadMarks.refl s)

theorem State.loadsRefused_state {rooms : List Nat} (small : ∀ x ∈ rooms, x < 16384) (lit : ∀ x ∈ rooms, s.dark x = false) (mem : r ∈ rooms) :
    (rooms.foldl (fun s r => s.loadRefused l r) s).rdF (rp .arr r) 0x080 15 12 = 0 := by
  refine foldl_reaches_of s.LoadMarks (fun t : State => t.rdF (rp .arr r) 0x080 15 12 = 0) _ mem (fun t h => ?_) (fun t q qmem h clear => ?_)
    (fun t q qmem h => h.refused (small q qmem)) (State.LoadMarks.refl s)
  · rw [State.loadRefused_state ((h.dark (small r mem)).trans (lit r mem)), if_pos rfl]
  · rw [State.loadRefused_state ((h.dark (small q qmem)).trans (lit q qmem)), clear, ite_self]

end

/-- Settles O22: the LOAD entry begins its load, each Room that accepts marks its slots, and the outcome starts every loader or ends the load. -/
theorem loadsAccepted : Obligations.LoadsAccepted := by
  intro s i u defined small
  refine ⟨fun e l head begun named stepped free quiet => ⟨_, csLoad_begins defined head begun named stepped free quiet, e.load, ?_⟩,
    fun l loading waiting come keep accepts => ⟨_, loadCheck_accepts defined loading waiting come small keep fun r mem => ?_,
      State.suite_setSuite .., fun r mem => ?_, ?_⟩,
    fun l loading reduced come moving slot accepted whole => ⟨_, loadOutcome_starts defined loading reduced come moving slot accepted whole, ?_⟩,
    fun l c loading reduced come moving refused lit => ⟨_, loadOutcome_refused defined loading reduced come moving refused, _, rfl, ?_, fun r mem => ?_, ?_⟩⟩
  · simp only [State.csShow_suite, State.csShow_mem, State.csShow_bricks, State.csShow_rooms, State.suite_setSuite, State.setSuite_mem, State.setSuite_bricks,
      State.setSuite_rooms]
    exact ⟨trivial, rfl, rfl, rfl, rfl, rfl, rfl, rfl, trivial, trivial, trivial⟩
  · obtain ⟨lit, clean, armed, causes, free⟩ := accepts r mem
    exact ⟨lit, clean, armed, causes, free⟩
  · exact s.markSlots_state l mem
  · exact (congrArg (fun x : State => { x with regs := s.regs, suites := s.suites }) (s.markSlots_marks l small).only.eq :)
  · have only := (s.setSuite i { u with load := some { l with phase := 3 } }).startLoaders_only l u.rooms
    refine ⟨(congrArg (·.suite i) only.eq :).trans (State.suite_setSuite s i _), fun r mem => (State.startLoaders_loader _ l mem).trans ?_,
      (congrArg (fun x : State => { x with rooms := s.rooms, suites := s.suites }) only.eq :)⟩
    exact congrArg some (s.loaderAt_setSuite l i _ r)
  · exact (State.suite_modSuite _ _ (((State.loadsRefused_marks small).only.suite i).trans defined))
  · rw [State.rdF, State.modSuite_rd]
    exact State.loadsRefused_state small lit mem
  · rw [State.modSuite_of _ _ (((State.loadsRefused_marks small).only.suite i).trans defined)]
    exact (congrArg (fun x : State => { x with regs := s.regs, suites := s.suites }) (State.loadsRefused_marks small).only.eq :)

end Sys2Proof.Machine

/-! ## The loader and the check points (O23): a line read, a slot at D, and what a listed step compares -/

namespace Sys2Proof.Machine

/-! ### A line read (R180 to R182, R205) -/

/-- The loader after its next line, of words `ws`: at the last line of slot `k` the SLOT_CHECK is compared with `want` and begins anew, and the last
line of all sets D (R180, R181). -/
def Loader.readLine (ld : Loader) (now k : Nat) (want : W64) (ws : List W64) : Loader :=
  { ld with
    next := ld.next + 1, total := ld.total - 1, crc := if (ld.total - 1) % 264 = 0 then 0 else crcWords ld.crc ws, words := ws.reverse ++ ld.words
    d := if ld.total - 1 = 0 then some (now + 8) else none
    bad := if (ld.total - 1) % 264 = 0 ∧ crcWords ld.crc ws ≠ want then ld.bad ||| 2 ^ k else ld.bad
    lastAt := now + 1, lines := if ld.lastAt = now + 1 then ld.lines + 1 else 1 }

/-- A bank used leaves the array as clean as it was. -/
theorem ArrayClean.useBank {s : State} {room : Nat} (clean : ArrayClean s room) (bank : Nat) : ArrayClean (s.useBank room bank) room := by
  obtain ⟨bad, back, quiet⟩ := clean
  unfold State.useBank
  exact ⟨by rw [State.room_modRoom]; exact bad, by rw [State.room_modRoom]; exact back, quiet⟩

theorem State.suiteAt {s : State} {room i : Nat} {u : Suite} (own : s.suiteOf room = some i) (defined : s.suite i = some u) :
    (s.suiteOf room).bind s.suite = some u := by
  rw [own]
  exact defined

theorem loaderRead_reads {s : State} {room i : Nat} {u : Suite} {l : LoadSt} {ld : Loader} (own : s.suiteOf room = some i) (defined : s.suite i = some u)
    (loading : u.load = some l) (reading : (s.room room).loader = some ld) (stays : ld.gone = false) (left : 0 < ld.total)
    (turn : s.loaderTurn room u ld = true) (clean : ArrayClean s room) (quiet : s.isArmed (rp .arr room) 0 = false)
    (lit : s.shelfDark room (64 * ld.next) = false) (alone : s.loaderRivals room u ld = []) {k : Nat}
    (slot : k = l.slots.getD (l.slots.length - 1 - (ld.total - 1) / 264) 0) :
    exec (.loaderRead room 0 false) s
      = .next ((s.useBank room ld.bank).modRoom room fun x =>
          { x with loader := some (ld.readLine u.now k (s.recWord room (0x20 + 8 * k)) (s.ldWords (shelfEA room (64 * ld.next)) 8)) }) := by
  have words : (s.useBank room ld.bank).ldWords (shelfEA room (64 * ld.next)) 8 = s.ldWords (shelfEA room (64 * ld.next)) 8 :=
    s.ldWords_of (s.useBank room ld.bank) rfl _ _
  have want : (s.useBank room ld.bank).recWord room (0x20 + 8 * k) = s.recWord room (0x20 + 8 * k) := s.ldWord_of (s.useBank room ld.bank) rfl _
  have quiet' : (s.useBank room ld.bank).isArmed (rp .arr room) 0 = false := quiet
  change execLoaderRead room 0 false s = _
  unfold execLoaderRead
  rw [State.suiteAt own defined, reading]
  dsimp only
  rw [loading]
  dsimp only
  rw [if_neg (by simp [stays, turn]; omega), if_neg (by simp [alone])]
  simp only [lit, Bool.false_eq_true, if_false, (clean.useBank ld.bank).line, quiet', words, ← slot, want, Bool.false_or, Bool.and_false, Bool.or_false,
    Bool.not_true, Bool.and_eq_true, decide_eq_true_eq]
  rfl

section
variable {ld : Loader} {now k : Nat} {want : W64} {ws : List W64}

theorem Loader.readLine_within (within : (ld.total - 1) % 264 ≠ 0) : ld.readLine now k want ws
    = { ld with next := ld.next + 1, total := ld.total - 1, crc := crcWords ld.crc ws, words := ws.reverse ++ ld.words, d := none, lastAt := now + 1
                lines := if ld.lastAt = now + 1 then ld.lines + 1 else 1 } := by
  have more : ld.total - 1 ≠ 0 := fun none => within (by rw [none])
  simp [Loader.readLine, within, more]

theorem Loader.readLine_last (last : ld.total = 1) : ld.readLine now k want ws
    = { ld with next := ld.next + 1, total := 0, crc := 0, words := ws.reverse ++ ld.words, d := some (now + 8)
                bad := if crcWords ld.crc ws ≠ want then ld.bad ||| 2 ^ k else ld.bad, lastAt := now + 1
                lines := if ld.lastAt = now + 1 then ld.lines + 1 else 1 } := by
  simp [Loader.readLine, last]

end

/-! ### A slot at D (R174, R180, R181) -/

/-- A Brick with a slot filled: the context valid with the instruction words read and its counters clear, its LANE_SET the 33rd (R174, R180). -/
def Brick.fillSlot (x : Brick) (k : Nat) (w : List W64) : Brick :=
  { x.setCtx k ⟨smSetAll nopEnd [] ((List.range 32).zip w), true, 0, 0, []⟩ with lanes := smSet 0 x.lanes k (w.getD 32 0 &&& maskOf 35 0) }

theorem Brick.fillSlot_ctx (x : Brick) (k : Nat) (w : List W64) : (x.fillSlot k w).ctx k = ⟨smSetAll nopEnd [] ((List.range 32).zip w), true, 0, 0, []⟩ :=
  Brick.ctx_setCtx x k _

theorem Brick.fillSlot_ctx_ne (x : Brick) {k j : Nat} (w : List W64) (h : j ≠ k) : (x.fillSlot k w).ctx j = x.ctx j := Brick.ctx_setCtx_ne x _ h

theorem Brick.fillSlot_lanes (x : Brick) (k : Nat) (w : List W64) : smGet 0 (x.fillSlot k w).lanes k = w.getD 32 0 &&& maskOf 35 0 := smGet_smSet_self ..

/-- The 33 words of Brick `b` among those read of a slot (R170). -/
def slotPart (ws : List W64) (b : Nat) : List W64 := (ws.drop (33 * b)).take 33

section
variable (s : State) (room k : Nat) (ws : List W64)

theorem State.fillSlot_brick (q : Nat) {b : Nat} (hb : b < 64) :
    (s.fillSlot room k 0 ws).brick q b = if q = room then (s.brick q b).fillSlot k (slotPart ws b) else s.brick q b := by
  refine (State.modRoomBricks_brick s room (fun b x => x.fillSlot k ((ws.drop (2112 * 0 + 33 * b)).take 33)) q hb).trans ?_
  simp [slotPart]

theorem State.fillSlot_only (j : Nat) : s.BricksOnly (s.fillSlot room k j ws) :=
  State.modRoomBricks_only s room fun b x => x.fillSlot k ((ws.drop (2112 * j + 33 * b)).take 33)

end

/-- The machine at D with the loader done, LOADING clear and the slot's Bricks filled (R174, R180). -/
def State.slotFilled (s : State) (room : Nat) (l : LoadSt) (ld : Loader) : State :=
  ((s.modRoom room fun x => { x with loader := none }).wrF (rp .arr room) 0x080 15 12 0).fillSlot room l.slot 0 ld.words.reverse

/-- A slot load whose SLOT_CHECK held fills its slot, keeps the SLOT_CHECK and clears BRK_VOID_FIRES (R180). -/
theorem State.slotsIn_slot (s : State) (room : Nat) {l : LoadSt} {ld : Loader} (slot : l.slot < 4) (sound : ld.bad = 0) :
    s.slotsIn room l ld = ((s.slotFilled room l ld).modRoom room fun r =>
      { r with slotCrc := smSetAll 0 r.slotCrc [(l.slot, (s.slotFilled room l ld).recWord room (0x20 + 8 * l.slot))] }).wr (rp .brk room) 0x0B0 0 := by
  have part : l.slot ≠ 15 := by omega
  have slots : l.slots = [l.slot] := if_neg part
  have zipped : [l.slot].zip (List.range 4) = [(l.slot, 0)] := rfl
  unfold State.slotsIn State.slotFilled
  simp only [slots, zipped, part, sound, Nat.zero_testBit, if_false, false_and, Bool.false_eq_true, List.map, List.foldl_cons, List.foldl_nil]

/-- What a slot load whose SLOT_CHECK held leaves: the Bricks of its Room filled, its loader done, memory and Suites as they were. -/
structure State.SlotTaken (s t : State) (room k : Nat) (ws : List W64) : Prop where
  bricks : ∀ q b, b < 64 → t.brick q b = if q = room then (s.brick q b).fillSlot k (slotPart ws b) else s.brick q b
  loader : (t.room room).loader = none
  mem    : t.mem = s.mem
  suites : t.suites = s.suites

theorem State.slotsIn_takes (s : State) (room : Nat) {l : LoadSt} {ld : Loader} (slot : l.slot < 4) (sound : ld.bad = 0) :
    s.SlotTaken (s.slotsIn room l ld) room l.slot ld.words.reverse := by
  have only := State.fillSlot_only ((s.modRoom room fun x => { x with loader := none }).wrF (rp .arr room) 0x080 15 12 0) room l.slot ld.words.reverse 0
  rw [s.slotsIn_slot room slot sound]
  refine ⟨fun q b hb => ?_, ?_, ?_, ?_⟩
  · rw [State.wr_brick, State.modRoom_brick, State.slotFilled, State.fillSlot_brick _ _ _ _ _ hb, State.wrF_brick, State.modRoom_brick]
  · rw [State.wr_room, State.room_modRoom]
    change ((s.slotFilled room l ld).room room).loader = none
    rw [State.slotFilled, only.room, State.wrF_room, State.room_modRoom]
  · rw [State.wr_mem, State.modRoom_mem, State.slotFilled, only.mem, State.wrF_mem, State.modRoom_mem]
  · rw [State.wr_suites, State.modRoom_suites, State.slotFilled, only.suites, State.wrF_suites, State.modRoom_suites]

/-- A Room has reported its load: ARR_LOAD_STATUS reads done and ARR_LOAD_DONE is raised; Bricks, Rooms and memory stand (R201). -/
structure State.LoadReported (s t : State) (room : Nat) (l : LoadSt) : Prop where
  status : t.rd (rp .arr room) 0x0B8 = l.status 0
  event  : tst (t.rd (rp .arr room) 0x028) 3 = true
  bricks : t.bricks = s.bricks
  rooms  : t.rooms = s.rooms
  mem    : t.mem = s.mem

theorem State.loadReported (s : State) (room : Nat) (l : LoadSt) :
    s.LoadReported ((s.wr (rp .arr room) 0x0B8 (l.status 0)).arrEvent room 3 0x1E) room l where
  status := by
    rw [State.arrEvent, State.raise_rd_off _ _ (by decide) (by decide), State.captureStep_rd_off _ _ _ (by decide) (by decide), State.rd_wr_self]
  event := (State.arrEvent_raises _ room 0x1E (by decide)).1
  bricks := by simp [State.arrEvent]
  rooms := by simp [State.arrEvent]
  mem := by simp [State.arrEvent]

/-- The completion of an entry of the ring takes no report back. -/
theorem State.LoadReported.popped {s t t' : State} {room i : Nat} {l : LoadSt} {u : Suite} {es : List CsEntry} (h : s.LoadReported t room l)
    (popped : Popped t t' i u es) : s.LoadReported t' room l where
  status := (popped.rd_off (by decide) (by decide)).trans h.status
  event := by rw [popped.rd_off (by decide) (by decide)]; exact h.event
  bricks := (congrArg State.bricks popped.rest :).trans h.bricks
  rooms := (congrArg State.rooms popped.rest :).trans h.rooms
  mem := (congrArg State.mem popped.rest :).trans h.mem

theorem State.LoadReported.modSuite {s t : State} {room : Nat} {l : LoadSt} (h : s.LoadReported t room l) (i : Nat) (f : Suite → Suite) :
    s.LoadReported (t.modSuite i f) room l := by
  obtain ⟨status, event, bricks, rooms, mem⟩ := h
  exact ⟨by rwa [State.modSuite_rd], by rwa [State.modSuite_rd], by rwa [State.modSuite_bricks], by rwa [State.modSuite_rooms], by rwa [State.modSuite_mem]⟩

/-- A Room that has done its load reports it, whether or not it ends the load or completes the entry (R180, R246). -/
theorem State.loadDone_reports {s : State} {room i : Nat} {u : Suite} {l : LoadSt} (own : s.suiteOf room = some i) (defined : s.suite i = some u)
    (ring : ∀ e ∈ u.entries, e.hearth = none) : s.LoadReported (s.loadDone room u l) room l := by
  have id : s.suiteId room = i := by rw [State.suiteId, own]; rfl
  have reported := s.loadReported room l
  generalize told : (s.wr (rp .arr room) 0x0B8 (l.status 0)).arrEvent room 3 0x1E = x at reported
  have suite : x.suite i = some u := by rw [← told]; simpa [State.arrEvent] using defined
  unfold State.loadDone
  rw [id, told]
  dsimp only
  split
  · next e es head =>
    have bare : e.hearth = none := ring e (by rw [head]; exact List.mem_cons_self)
    split <;> split
    · exact (reported.modSuite i _).popped (State.csPop_popped _ (State.suite_modSuite _ _ suite) head bare)
    · exact reported.popped (State.csPop_popped _ suite head bare)
    · exact reported.modSuite i _
    · exact reported
  · simp only [Bool.and_false, Bool.false_eq_true, if_false]
    split
    · exact reported.modSuite i _
    · exact reported

/-- A slot taken and reported: what D leaves of the Bricks, the loader and memory. -/
theorem State.SlotTaken.reported {s x t : State} {room k : Nat} {ws : List W64} {l : LoadSt} (taken : s.SlotTaken x room k ws)
    (told : x.LoadReported t room l) :
    (∀ q b, b < 64 → t.brick q b = if q = room then (s.brick q b).fillSlot k (slotPart ws b) else s.brick q b)
      ∧ (t.room room).loader = none ∧ t.mem = s.mem := by
  refine ⟨fun q b hb => ?_, ?_, told.mem.trans taken.mem⟩
  · rw [← taken.bricks q b hb, State.brick, told.bricks]
    rfl
  · rw [State.room, told.rooms]
    exact taken.loader

theorem loadEffective_takes {s : State} {room i d : Nat} {u : Suite} {l : LoadSt} {ld : Loader} (own : s.suiteOf room = some i)
    (defined : s.suite i = some u) (loading : u.load = some l) (reading : (s.room room).loader = some ld) (at_ : ld.d = some d) (stays : ld.gone = false)
    (sound : ld.bad = 0) (come : d ≤ u.now) (live : u.run ≠ 4) (moving : u.run ≠ 2 ∨ u.frozen = false) (slot : l.slot < 4) :
    exec (.loadEffective room) s = .next ((s.slotsIn room l ld).loadDone room u l) := by
  have part : l.slot ≠ 15 := by omega
  have none_preset : s.presetLines room l = [] := if_neg fun h => part h.1
  change execLoadEffective room s = _
  unfold execLoadEffective
  rw [State.suiteAt own defined, reading]
  dsimp only
  rw [loading, at_]
  dsimp only
  rw [if_neg (by rcases moving with h | h <;> simp [stays, come, h, live, part]), none_preset]
  exact (if_neg (by simp [State.linesCheck])).trans (if_neg (by simp [sound]))

/-! ### A check point (R194, R202) -/

/-- The machine after a check point: ARR_FIRE_DIGEST taken, the Room's next check point due. -/
def State.checked (s : State) (room : Nat) : State :=
  (s.wr (rp .arr room) 0x0D8 (s.fireDigest room)).setRoom room { s.room room with checkIdx := (s.room room).checkIdx + 1 }

/-- The capture of a check point that fails, without its VALID bit: which of the digest and the slot use differ (R202). -/
def State.checkWhere (s : State) (room : Nat) (c : CheckPt) : W64 :=
  put 63 56 0x20 ||| put 43 38 (s.room room).checkIdx ||| put 37 37 (b2n (decide (s.fireDigest room ≠ c.digest)))
    ||| put 36 36 (b2n (decide (s.rd (rp .hal room) 0x098 ≠ c.use)))

theorem checkPoint_compares {s : State} {room i : Nat} {u : Suite} {c : CheckPt} (own : s.suiteOf room = some i) (defined : s.suite i = some u)
    (next : (s.room room).checks[(s.room room).checkIdx]? = some c) (running : u.run = 2) (stepped : u.mode = 0) (moving : u.frozen = false)
    (going : u.pastHalt = false) (listed : c.step = u.step.toNat) (quiet : s.isArmed (rp .arr room) 4 = false) :
    exec (.checkPoint room) s
      = .next (if s.fireDigest room ≠ c.digest ∨ s.rd (rp .hal room) 0x098 ≠ c.use then
          ((s.checked room).captureStep (rp .arr room) 0x0C0 (s.checkWhere room c) 0x0C8 u.step).hitHalt .arr room 4 0x20 false
            (setBit (s.checkWhere room c) 31)
        else s.checked room) := by
  have use : (s.checked room).rd (rp .hal room) 0x098 = s.rd (rp .hal room) 0x098 := by
    rw [State.checked, State.setRoom_rd, State.rd_wr_key _ _ regKey_offs]
  change execCheckPoint room s = _
  unfold execCheckPoint
  rw [State.suiteAt own defined]
  dsimp only
  rw [next]
  dsimp only
  rw [if_neg (by simp [running, stepped, moving, going, listed])]
  simp only [quiet, Bool.false_eq_true, if_false]
  rw [← State.checked, use]
  exact (apply_ite Host.Outcome.next _ _ _).symm

/-- A check point that fails halts the Suite and leaves Bricks and memory (R202, R311). -/
theorem State.checkFails {s : State} {room i : Nat} {u : Suite} (own : s.suiteOf room = some i) (defined : s.suite i = some u) (running : u.run = 2)
    (w v step : W64) (t : State) (at_ : t = ((s.checked room).captureStep (rp .arr room) 0x0C0 w 0x0C8 step).hitHalt .arr room 4 0x20 false v) :
    tst (t.rd (rp .arr room) 0x028) 4 = true ∧ t.rd (rp .arr room) 0x0D8 = s.fireDigest room
      ∧ t.suite i = some { u with halts := u.halts ++ [⟨u.clk, room, 1, Page.arr.cls * 256 + 0x20, s.et⟩] } ∧ t.bricks = s.bricks ∧ t.mem = s.mem := by
  have alive : u.run ≠ 0 ∧ u.run ≠ 4 := by omega
  have suite : ((s.checked room).captureStep (rp .arr room) 0x0C0 w 0x0C8 step).suite i = some u := by
    rw [State.captureStep_suite, State.checked, State.setRoom_suite, State.wr_suite]
    exact defined
  have own' : ((s.checked room).captureStep (rp .arr room) 0x0C0 w 0x0C8 step).suiteOf room = some i := by
    rw [State.captureStep_suiteOf, State.checked, State.setRoom_suiteOf, State.wr_suiteOf]
    exact own
  rw [at_]
  refine ⟨?_, ?_, (State.hitHalt_suite _ .arr 4 0x20 false v own' suite alive).trans ?_, ?_, ?_⟩
  · rw [State.hitHalt_rd]
    exact State.raise_sets _ _ rfl (by decide)
  · rw [State.hitHalt_rd, State.raise_rd_off _ _ (by decide) (by decide), State.captureStep_rd_off _ _ _ (by decide) (by decide), State.checked,
      State.setRoom_rd, State.rd_wr_self]
  · rw [State.captureStep_et, State.checked, State.setRoom_et, State.wr_et]
    rfl
  · rw [State.hitHalt_bricks, State.captureStep_bricks, State.checked, State.setRoom_bricks, State.wr_bricks]
  · rw [State.hitHalt_mem, State.captureStep_mem, State.checked, State.setRoom_mem, State.wr_mem]

/-- Settles O23: a line read by whether it ends its slot, a slot at D by what it fills and reports, a check point by whether it agrees. -/
theorem slotLoads : Obligations.SlotLoads := by
  refine ⟨fun s room i u l ld own defined loading reading stays left turn clean quiet lit alone v v_eq n n_eq ws crc ws_eq crc_eq => ?_,
    fun s room i u l ld d _ _ own defined loading reading at_ stays sound come live moving slot _ ring =>
      ⟨_, loadEffective_takes own defined loading reading at_ stays sound come live moving slot, ?_⟩,
    fun s room i u c own defined next running stepped moving going listed quiet => ?_⟩
  · subst v_eq n_eq crc_eq ws_eq
    have reads := fun k => loaderRead_reads (k := k) own defined loading reading stays left turn clean quiet lit alone
    refine ⟨fun within => ?_, fun last k slot => ?_⟩
    · rw [reads _ rfl, Loader.readLine_within within]
    · have first : k = l.slots.getD (l.slots.length - 1 - (ld.total - 1) / 264) 0 := by rw [slot, last]; rfl
      refine ⟨fun held => ?_, fun differs => ?_⟩
      · rw [reads k first, Loader.readLine_last last, if_neg (not_not_intro held)]
      · rw [reads k first, Loader.readLine_last last, if_pos differs]
  · have taken := s.slotsIn_takes room slot sound
    have own' : (s.slotsIn room l ld).suiteOf room = some i := by rw [State.suiteOf, State.suiteOfWing, taken.suites]; exact own
    have defined' : (s.slotsIn room l ld).suite i = some u := by rw [State.suite, taken.suites]; exact defined
    have told := State.loadDone_reports (l := l) own' defined' ring
    obtain ⟨bricks, loader, mem⟩ := taken.reported told
    refine ⟨fun b w hb w_eq => ?_, fun r b other hb => ?_, loader, mem, told.status, told.event⟩
    · rw [bricks room b hb, if_pos rfl, w_eq]
      exact ⟨Brick.fillSlot_ctx .., Brick.fillSlot_lanes .., fun j other => Brick.fillSlot_ctx_ne _ _ other⟩
    · rw [bricks r b hb, if_neg other]
  · have compares := checkPoint_compares own defined next running stepped moving going listed quiet
    refine ⟨fun digest use => ?_, fun differs => ⟨_, compares, ?_⟩⟩
    · rw [compares, if_neg (by simp [digest, use])]
      rfl
    · rw [if_pos differs]
      exact State.checkFails own defined running _ _ _ _ rfl

end Sys2Proof.Machine

/-! ## The banks of a Shelf (O29): what a bank-step serves, and each step of the Shelf's upkeep -/

namespace Sys2Proof.Machine

/-! ### An access granted (R205, R206) -/

/-- A change of a Room that touches neither of its lists of upset lines leaves its array clean. -/
theorem ArrayClean.modRoom {s : State} {room : Nat} (clean : ArrayClean s room) {f : RoomSt → RoomSt}
    (bad : (f (s.room room)).badLines = (s.room room).badLines) (back : (f (s.room room)).wbacks = (s.room room).wbacks) :
    ArrayClean (s.modRoom room f) room :=
  ⟨by rw [State.room_modRoom, bad, clean.bad], by rw [State.room_modRoom, back, clean.back], clean.armed⟩

/-- An access to a clean line of a lit quarter writes its words, and fills its registers with the words that stood there. -/
theorem State.bankGrant_clean {s : State} {room : Nat} {q : BankReq} (sound : q.void = false) (lit : s.shelfDark room (64 * q.line) = false)
    (clean : ArrayClean s room) (noCols : q.cols = []) (part : q.wr.length < 8) (d : Nat) :
    s.bankGrant room q d 0 false
      = (q.wr.foldl (fun s e => (s.stWord (shelfEA room e.1) e.2).dropBacks room e.1 8) (s.dmpCount room 5 1)).modBrick room q.who fun b =>
          b.gotWords q d fun ws => q.rd.foldl (fun ws e => fillReg e.1 (~~~ 0) (s.ldWord (shelfEA room e.2)) ws) ws := by
  have lit' : (s.dmpCount room 5 1).shelfDark room (64 * q.line) = false := lit
  have clean' : ArrayClean (s.dmpCount room 5 1) room := clean.modRoom rfl rfl
  unfold State.bankGrant
  simp only [sound, lit', clean'.line, noCols, part, Bool.false_eq_true, if_false, if_true, Bool.not_true]
  rfl

/-! What a write does beside its data reaches neither memory nor the accesses that wait (R215, R238). -/

theorem State.dropBacks_mem (s : State) (room off n : Nat) : (s.dropBacks room off n).mem = s.mem := rfl
theorem State.dropBacks_regs (s : State) (room off n : Nat) : (s.dropBacks room off n).regs = s.regs := rfl
theorem State.dropBacks_suites (s : State) (room off n : Nat) : (s.dropBacks room off n).suites = s.suites := rfl

theorem State.dropBacks_reqs (s : State) (room off n : Nat) : ((s.dropBacks room off n).room room).reqs = (s.room room).reqs := by
  rw [State.dropBacks, State.room_modRoom]

theorem State.stWord_mem_of {s t : State} (h : t.mem = s.mem) (a : Nat) (w : W64) : (t.stWord a w).mem = (s.stWord a w).mem := by
  simp only [State.stWord, State.stBytes, h]

/-! ### A bank-step of a running stepped Suite (R205, R206, R208, R311) -/

/-- The accesses of a bank-step taken from those that wait. -/
def State.dropReqs (s : State) (room : Nat) (due : List BankReq) : State := s.modRoom room fun r => { r with reqs := r.reqs.filter fun x => !due.contains x }

/-- The accesses of a conflict taken from those that wait; the loader, where it is a party, loses its bank-step. -/
def State.bankCollides (s : State) (room : Nat) (users : List Nat) (due : List BankReq) : State :=
  if users.contains 0x41 then (s.dropReqs room due).loaderLoses room else s.dropReqs room due

/-- What a bank-step of a stepped RUN does with the accesses placed in it beside the scheduled requesters `users`. -/
def State.bankServes (s : State) (room bank : Nat) (users : List Nat) : List BankReq → State
  | [] => s
  | q :: l =>
    if l = [] ∧ users = [] then (s.dropReqs room [q]).bankGrant room q 0 0 false
    else (s.bankCollides room users (q :: l)).shelfConflict room bank (q :: l) (users.headD 0) false

theorem State.dropReqs_reqs (s : State) (room : Nat) (due : List BankReq) :
    ((s.dropReqs room due).room room).reqs = (s.room room).reqs.filter fun x => !due.contains x := by
  rw [State.dropReqs, State.room_modRoom]

theorem State.bankCollides_only (s : State) (room : Nat) (users : List Nat) (due : List BankReq) : s.RoomsOnly (s.bankCollides room users due) := by
  unfold State.bankCollides
  split <;> exact ⟨rfl⟩

theorem State.bankCollides_reqs (s : State) (room : Nat) (users : List Nat) (due : List BankReq) :
    ((s.bankCollides room users due).room room).reqs = (s.room room).reqs.filter fun x => !due.contains x := by
  unfold State.bankCollides
  split
  · rw [State.loaderLoses, State.room_modRoom]
    exact s.dropReqs_reqs room due
  · exact s.dropReqs_reqs room due

/-- An access taken waits no more. -/
theorem not_mem_filter_contains {q : BankReq} {due : List BankReq} (served : q ∈ due) (l : List BankReq) : q ∉ l.filter fun x => !due.contains x := by
  simp [served]

/-- The requesters' registers keep their values; nothing but Bricks changes (R208). -/
theorem State.dropAll_only (s : State) (room : Nat) (qs : List BankReq) :
    s.BricksOnly (qs.foldl (fun s q => s.modBrick room q.who fun x => x.gotWords q 0 (dropRegs q.regs)) s) :=
  foldl_keeps s.BricksOnly (fun (s : State) q => s.modBrick room q.who fun x => x.gotWords q 0 (dropRegs q.regs))
    (fun t q _ same => ⟨congrArg (fun x : State => { x with bricks := (t.modBrick room q.who fun x => x.gotWords q 0 (dropRegs q.regs)).bricks }) same.eq⟩) ⟨rfl⟩

section
variable {s : State} {room bank i : Nat} {u : Suite} {due : List BankReq} {users : List Nat}

theorem shelfBankStep_stepped (own : s.suiteOf room = some i) (defined : s.suite i = some u) (running : u.run = 2) (stepped : u.mode = 0)
    (moving : u.frozen = false) (going : u.pastHalt = false) (quiet : s.isArmed (rp .shf room) 0 = false)
    (due_eq : due = (s.room room).reqs.filter fun q => q.bank = bank ∧ q.at_ = u.now) (users_eq : users = s.schedUsers room bank u.step.toNat) :
    exec (.shelfBankStep room bank 0 false) s = .next (s.bankServes room bank users due) := by
  have mine : ((s.room room).reqs.filter fun q => q.bank = bank).filter (fun q => q.at_ = u.now) = due := by
    rw [due_eq, List.filter_filter]
    simp only [Bool.decide_and, Bool.and_comm]
  have suite : ((s.suiteOf room).bind fun i => s.suite i) = some u := State.suiteAt own defined
  change execShelfBankStep room bank 0 false s = _
  unfold execShelfBankStep
  simp only [suite, running, stepped, moving, going, quiet, mine, ← users_eq]
  cases due with
  | nil => rfl
  | cons q l => cases l <;> cases users <;> rfl

/-- One access alone, a read: its registers are filled from the Shelf's words. -/
theorem State.bankServes_read {q : BankReq} (sound : q.void = false) (lit : s.shelfDark room (64 * q.line) = false) (clean : ArrayClean s room)
    (noCols : q.cols = []) (read : q.wr = []) :
    s.bankServes room bank [] [q]
      = ((s.modRoom room fun r => { r with reqs := r.reqs.filter fun x => x ≠ q }).dmpCount room 5 1).modBrick room q.who
          fun b => b.gotWords q 0 fun ws => q.rd.foldl (fun ws e => fillReg e.1 (~~~ 0) (s.ldWord (shelfEA room e.2)) ws) ws := by
  have taken : s.dropReqs room [q] = s.modRoom room fun r => { r with reqs := r.reqs.filter fun x => x ≠ q } := by
    simp [State.dropReqs]
  rw [State.bankServes, if_pos ⟨rfl, rfl⟩,
    State.bankGrant_clean (s := s.dropReqs room [q]) sound lit (clean.modRoom rfl rfl) noCols (by rw [read]; decide), read, taken]
  rfl

/-- One access alone, a write: its word is stored. -/
theorem State.bankServes_write {q : BankReq} (sound : q.void = false) (lit : s.shelfDark room (64 * q.line) = false) (clean : ArrayClean s room)
    (noCols : q.cols = []) {off : Nat} {w : W64} (write : q.wr = [(off, w)]) (t : State) (at_ : t = s.bankServes room bank [] [q]) :
    t.mem = (s.stWord (shelfEA room off) w).mem ∧ t.regs = s.regs ∧ t.suites = s.suites ∧ q ∉ (t.room room).reqs := by
  rw [State.bankServes, if_pos ⟨rfl, rfl⟩,
    State.bankGrant_clean (s := s.dropReqs room [q]) sound lit (clean.modRoom rfl rfl) noCols (by rw [write, List.length_singleton]; decide), write, List.foldl_cons,
    List.foldl_nil] at at_
  rw [at_]
  refine ⟨?_, ?_, ?_, ?_⟩
  · rw [State.modBrick_mem, State.dropBacks_mem]
    exact State.stWord_mem_of rfl ..
  · rw [State.modBrick_regs, State.dropBacks_regs, State.stWord_regs]
    rfl
  · rw [State.modBrick_suites, State.dropBacks_suites, State.stWord_suites]
    rfl
  · rw [State.modBrick_room, State.dropBacks_reqs, State.stWord_room, State.dmpCount, State.room_modRoom, s.dropReqs_reqs]
    exact not_mem_filter_contains List.mem_cons_self _

/-- Neither access of a conflict takes effect, and the Suite halts (R208, R311). -/
theorem State.shelfConflict_halts (own : s.suiteOf room = some i) (defined : s.suite i = some u) (running : u.run = 2) (qs : List BankReq) (other : Nat)
    (t : State) (at_ : t = s.shelfConflict room bank qs other false) :
    tst (t.rd (rp .shf room) 0x028) 0 = true ∧ t.mem = s.mem
      ∧ t.suite i = some { u with halts := u.halts ++ [⟨u.clk, room, 2, Page.shf.cls * 256 + 1, s.et⟩] } ∧ t.rooms = s.rooms := by
  have same := s.dropAll_only room qs
  unfold State.shelfConflict at at_
  dsimp only at at_
  generalize (qs.foldl (fun s q => s.modBrick room q.who fun x => x.gotWords q 0 (dropRegs q.regs)) s) = x at same at_
  have own' : x.suiteOf room = some i := by rw [State.suiteOf, State.suiteOfWing, same.suites]; exact own
  have defined' : x.suite i = some u := by rw [State.suite, same.suites]; exact defined
  have et : x.et = s.et := (congrArg State.et same.eq :)
  rw [at_]
  refine ⟨?_, ?_, (State.hitHalt_suite (u := u) _ .shf 0 0x01 false _ ?_ ?_ (by omega)).trans ?_, ?_⟩
  · rw [State.hitHalt_rd]
    exact State.raise_sets _ _ rfl (by decide)
  · rw [State.hitHalt_mem, State.captureStep_mem, same.mem]
  · rw [State.captureStep_suiteOf, own']
  · rw [State.captureStep_suite, defined']
  · rw [State.captureStep_et, et]
    rfl
  · rw [State.hitHalt_rooms, State.captureStep_rooms, same.rooms]

/-- Two accesses of one bank-step, or one beside a scheduled requester. -/
theorem State.bankServes_conflict (own : s.suiteOf room = some i) (defined : s.suite i = some u) (running : u.run = 2) {q : BankReq} {l : List BankReq}
    (several : l ≠ [] ∨ users ≠ []) (t : State) (at_ : t = s.bankServes room bank users (q :: l)) :
    tst (t.rd (rp .shf room) 0x028) 0 = true ∧ t.mem = s.mem
      ∧ t.suite i = some { u with halts := u.halts ++ [⟨u.clk, room, 2, Page.shf.cls * 256 + 1, s.et⟩] } ∧ q ∉ (t.room room).reqs := by
  have reqs := s.bankCollides_reqs room users (q :: l)
  have only := (s.bankCollides_only room users (q :: l)).eq
  rw [State.bankServes, if_neg fun none => several.elim (fun more => more none.1) fun used => used none.2] at at_
  generalize s.bankCollides room users (q :: l) = x at at_ reqs only
  have own' : x.suiteOf room = some i := by rw [only]; exact own
  have defined' : x.suite i = some u := by rw [only]; exact defined
  obtain ⟨event, mem, suite, rooms⟩ := State.shelfConflict_halts own' defined' running _ _ t at_
  refine ⟨event, mem.trans (by rw [only]), suite.trans (by rw [only]), ?_⟩
  rw [State.room, rooms, ← State.room, reqs]
  exact not_mem_filter_contains List.mem_cons_self _

end

/-! ### Write-back and scrub (R215, R446) -/

section
variable {s : State} {room : Nat}

theorem eccWriteBack_writes {line : Nat} {l : List Nat} (oldest : (s.room room).wbacks = line :: l) (free : s.bankFree room (lineBankRow line).1 = true)
    (alone : ∀ q ∈ (s.room room).reqs, q.bank = (lineBankRow line).1 → s.bankNow room < q.at_) :
    exec (.eccWriteBack room) s = .next ((s.useBank room (lineBankRow line).1).modRoom room fun r => { r with wbacks := l }) := by
  have unwanted : ¬ (s.room room).reqs.any (fun q => decide (q.bank = (lineBankRow line).1) && decide (q.at_ ≤ s.bankNow room)) = true := by
    simpa using alone
  change execEccWriteBack room s = _
  unfold execEccWriteBack
  rw [oldest]
  dsimp only
  rw [if_neg (by simp only [free, unwanted]; decide)]

theorem eccWriteBack_none (clear : (s.room room).wbacks = []) : exec (.eccWriteBack room) s = .next s := by
  change execEccWriteBack room s = _
  unfold execEccWriteBack
  rw [clear]

theorem shelfScrub_clean (lit : s.dark room = false) (on : tst (s.rd (rp .ecc room) 0x090) 63 = true) (due : s.shelfScrubDue room = true)
    (clean : ArrayClean s room) :
    exec (.shelfScrub room [] []) s
      = .next ((s.wrF (rp .ecc room) 0x090 11 0 ((s.rdF (rp .ecc room) 0x090 11 0 + 1) % 3072)).modRoom room fun r => { r with scrubClk := s.suiteClk room }) := by
  change execShelfScrub room [] [] s = _
  unfold execShelfScrub
  simp only [lit, on, due, Bool.false_eq_true, Bool.not_true, or_self, if_false]
  rw [foldl_keeps (fun t : State => t = s) _ (fun t bank _ same => ?_) rfl]
  · rw [same]
    simp [clean.line]

theorem shelfScrub_waits (errs late : List Nat) (h : s.dark room = true ∨ tst (s.rd (rp .ecc room) 0x090) 63 = false ∨ s.shelfScrubDue room = false) :
    exec (.shelfScrub room errs late) s = .next s := by
  change execShelfScrub room errs late s = _
  unfold execShelfScrub
  rw [if_pos (by simpa using h)]

/-! ### Quarters (R212) -/

/-- An SHF event leaves every register of its page but EVENT, EVENT_COUNT and the WHERE pair. -/
theorem State.shfEvent_rd (s : State) (room bit cause bank : Nat) {o : Nat} (apart : o ∉ [0x028, 0x040, 0x098, 0x0A0]) :
    (s.shfEvent room bit cause bank).rd (rp .shf room) o = s.rd (rp .shf room) o := by
  simp only [List.mem_cons, List.not_mem_nil, or_false, not_or] at apart
  obtain ⟨h1, h2, h3, h4⟩ := apart
  rw [State.shfEvent, State.raise_rd_off _ _ h1 h2, State.captureStep_rd_off _ _ _ h3 h4]

theorem State.shfEvent_raises (s : State) (room cause bank : Nat) {bit : Nat} (h : bit < 64) :
    tst ((s.shfEvent room bit cause bank).rd (rp .shf room) 0x028) bit = true :=
  State.raise_sets _ _ rfl h

@[simp] theorem State.shfEvent_mem (s : State) (room bit cause bank : Nat) : (s.shfEvent room bit cause bank).mem = s.mem := by
  rw [State.shfEvent, State.raise_mem, State.captureStep_mem]

/-- A write of SHF_QCTRL that newly sets one FORCE_ON bit powers that quarter up and no other. -/
theorem shfQctrlWrite_force {j : Nat} {v : W64} (lit : s.dark room = false) (idle : s.suiteIdle room = true) (hj : j < 4) (set : tst v j = true)
    (clear : tst (s.rd (rp .shf room) 0x088) j = false) (off : tst (s.rd (rp .shf room) 0x080) (4 + j) = false)
    (others : ∀ k, k < 4 → k ≠ j → tst v k = tst (s.rd (rp .shf room) 0x088) k) :
    exec (.shfQctrlWrite room v) s = .next ((s.wr (rp .shf room) 0x088 (put 4 0 (fld v 4 0))).quarterUp room j) := by
  have off' : tst ((s.wr (rp .shf room) 0x088 (put 4 0 (fld v 4 0))).rd (rp .shf room) 0x080) (4 + j) = false := by
    rw [State.rd_wr_off _ _ (by decide), off]
  change execShfQctrlWrite room v s = _
  unfold execShfQctrlWrite
  simp only [lit, idle, Bool.false_eq_true, if_false, Bool.not_true]
  rw [foldl_only _ List.nodup_range (List.mem_range.mpr hj) fun k hk other t => by simp [others k (List.mem_range.mp hk) other]]
  simp [set, clear, off']

theorem State.quarterUp_status (s : State) (room : Nat) {j : Nat} (hj : j < 4) :
    tst ((s.quarterUp room j).rd (rp .shf room) 0x080) (4 + j) = true ∧ tst ((s.quarterUp room j).rd (rp .shf room) 0x080) j = true
      ∧ ∀ k, k ≠ j → k ≠ 4 + j → tst ((s.quarterUp room j).rd (rp .shf room) 0x080) k = tst (s.rd (rp .shf room) 0x080) k := by
  rw [State.quarterUp, State.rd_wr_self]
  refine ⟨?_, tst_setBit _ (by omega), fun k hk hk' => ?_⟩
  · rw [tst_setBit_ne _ (by omega), tst_setBit _ (by omega)]
  · rw [tst_setBit_ne _ hk, tst_setBit_ne _ hk']

theorem shfQctrlWrite_busy (v : W64) (lit : s.dark room = false) (busy : s.suiteIdle room = false) :
    exec (.shfQctrlWrite room v) s = .next (s.shfEvent room 5 0x06 0) := by
  change execShfQctrlWrite room v s = _
  simp [execShfQctrlWrite, lit, busy]

/-- A quarter cleared reads as zero, and no other byte changes. -/
theorem State.clearQuarter_ldByte (s : State) (room j a : Nat) :
    (s.clearQuarter room j).ldByte a
      = if shelfEA room (0xC0000 * j) ≤ a ∧ a < shelfEA room (0xC0000 * j) + 0xC0000 then 0 else s.ldByte a := by
  simp [State.ldByte, State.clearQuarter, smDrop_gets]

theorem quarterRampDone_ends {j : Nat} (hj : j < 4) (ramping : tst (s.rd (rp .shf room) 0x080) j = true) :
    exec (.quarterRampDone room j) s = .next (((s.clearQuarter room j).wr (rp .shf room) 0x080 (clrBit (s.rd (rp .shf room) 0x080) j)).modRoom room fun r =>
      { r with badLines := r.badLines.filter fun l => l / 0x3000 ≠ j }) := by
  change execQuarterRampDone room j s = _
  unfold execQuarterRampDone
  rw [if_pos ⟨hj, ramping⟩]

/-! ### Retirement (R217) -/

/-- The copy of `bank` into the spare under way. -/
def State.bankRetires (s : State) (room bank : Nat) : State :=
  ((s.wr (rp .shf room) 0x090 (put 7 7 1 ||| put 3 0 bank)).wr (rp .shf room) 0x080 (setBit (s.rd (rp .shf room) 0x080) 14)).modRoom room fun r =>
    { r with retiring := some bank }

theorem shfRetire_starts {v : W64} (lit : s.dark room = false) (go : tst v 7 = true) (idle : s.suiteIdle room = true)
    (unused : (s.room room).retiring = none) (spare : tst (s.rd (rp .shf room) 0x080) 13 = false) :
    exec (.shfRetire room v) s = .next (s.bankRetires room (fld v 3 0)) := by
  have status : (s.wr (rp .shf room) 0x090 (put 7 7 1 ||| put 3 0 (fld v 3 0))).rd (rp .shf room) 0x080 = s.rd (rp .shf room) 0x080 :=
    State.rd_wr_off _ _ (by decide)
  change Host.Outcome.next (s.shfRetire room v) = _
  simp only [State.shfRetire, lit, go, idle, unused, spare, status, Bool.false_eq_true, if_false, Bool.not_true, Option.isSome_none]
  rfl

theorem State.bankRetires_status (s : State) (room bank : Nat) :
    ((s.bankRetires room bank).room room).retiring = some bank ∧ tst ((s.bankRetires room bank).rd (rp .shf room) 0x080) 14 = true := by
  rw [State.bankRetires, State.room_modRoom, State.modRoom_rd, State.rd_wr_self]
  exact ⟨rfl, tst_setBit _ (by decide)⟩

theorem State.survShelf_rd (s : State) (room : Nat) (p : PageRef) (o : Nat) : (s.survShelf room).rd p o = s.rd p o := rfl
theorem State.survShelf_mem (s : State) (room : Nat) : (s.survShelf room).mem = s.mem := rfl

/-- The spare of a Shelf serving `bank`, whose copy is done. -/
def State.spareServes (s : State) (room bank : Nat) : State :=
  (((s.wr (rp .shf room) 0x080 (setFld (setBit (clrBit (s.rd (rp .shf room) 0x080) 14) 13) 11 8 bank)).wr (rp .shf room) 0x090 (put 3 0 bank)).shfEvent
    room 3 0x04 bank).survShelf room

theorem State.spareServes_status (s : State) (room bank : Nat) :
    (s.spareServes room bank).rd (rp .shf room) 0x080 = setFld (setBit (clrBit (s.rd (rp .shf room) 0x080) 14) 13) 11 8 bank := by
  rw [State.spareServes, State.survShelf_rd, State.shfEvent_rd _ _ _ _ _ (by decide), State.rd_wr_off _ _ (by decide), State.rd_wr_self]

theorem State.spareServes_event (s : State) (room bank : Nat) : tst ((s.spareServes room bank).rd (rp .shf room) 0x028) 3 = true := by
  rw [State.spareServes, State.survShelf_rd]
  exact State.shfEvent_raises _ room 0x04 bank (by decide)

theorem State.spareServes_mem (s : State) (room bank : Nat) : (s.spareServes room bank).mem = s.mem := by
  rw [State.spareServes, State.survShelf_mem, State.shfEvent_mem, State.wr_mem, State.wr_mem]

/-- The lines of the rows of a bank that could not be corrected. -/
def badRowLines (bank : Nat) (bad : List Nat) : List Nat := bad.map fun row => (bank / 4 * 0xC0000 + row % 3072 * 256 + bank % 4 * 64) / 64

theorem bankCopyDone_of {bank : Nat} (bad : List Nat) (copying : (s.room room).retiring = some bank) :
    exec (.bankCopyDone room bad) s = .next ((s.spareServes room bank).modRoom room fun r =>
      { r with retiring := none, badLines := r.badLines ++ (badRowLines bank bad).filter fun l => !r.badLines.contains l }) := by
  change execBankCopyDone room bad s = _
  unfold execBankCopyDone
  rw [copying]
  rfl

theorem bankCopyDone_serves {bank : Nat} (bad : List Nat) (copying : (s.room room).retiring = some bank) (hb : bank < 16) :
    Completes (.bankCopyDone room bad) s fun t => (t.room room).retiring = none ∧ tst (t.rd (rp .shf room) 0x080) 13 = true
      ∧ tst (t.rd (rp .shf room) 0x080) 14 = false ∧ t.rdF (rp .shf room) 0x080 11 8 = bank ∧ tst (t.rd (rp .shf room) 0x028) 3 = true ∧ t.mem = s.mem := by
  refine ⟨_, bankCopyDone_of bad copying, ?_, ?_, ?_, ?_, s.spareServes_event room bank, s.spareServes_mem room bank⟩
  · rw [State.room_modRoom]
  · rw [State.modRoom_rd, State.spareServes_status, tst_setFld_ne _ (by omega), tst_setBit _ (by decide)]
  · rw [State.modRoom_rd, State.spareServes_status, tst_setFld_ne _ (by omega), tst_setBit_ne _ (by decide), tst_clrBit]
  · rw [State.rdF, State.modRoom_rd, State.spareServes_status, fld_setFld _ (by decide) hb]

end

/-- Settles O29: a bank-step by the accesses placed in it, and each of the Shelf's commands by its own lemma. -/
theorem shelfBanks : Obligations.ShelfBanks := by
  unfold Obligations.ShelfBanks
  refine ⟨fun s room bank i u own defined running stepped moving going quiet due users due_eq users_eq => ?_, ?_⟩
  · have serves := shelfBankStep_stepped own defined running stepped moving going quiet due_eq users_eq
    refine ⟨fun empty => ?_, fun q one free sound lit clean noCols => ⟨fun read => ?_, fun off w _ write => ?_⟩, fun q l two several => ?_⟩
    · rw [serves, empty]
      rfl
    · rw [serves, one, free, State.bankServes_read sound lit clean noCols read]
    · rw [one, free] at serves
      exact ⟨_, serves, State.bankServes_write sound lit clean noCols write _ rfl⟩
    · rw [two] at serves
      exact ⟨_, serves, State.bankServes_conflict own defined running several _ rfl⟩
  · rintro s room v p rfl
    refine ⟨fun line l bank oldest bank_eq free alone => ?_, eccWriteBack_none, shelfScrub_clean, shelfScrub_waits,
      fun j lit idle hj set clear off others => ⟨_, shfQctrlWrite_force lit idle hj set clear off others, ?_⟩,
      fun lit busy => ⟨_, shfQctrlWrite_busy v lit busy, State.shfEvent_raises s room 0x06 0 (by decide), State.shfEvent_rd _ _ _ _ _ (by decide), s.shfEvent_mem room 5 0x06 0⟩,
      fun j hj ramping => ⟨_, quarterRampDone_ends hj ramping, ?_, fun a lo hi => ?_, fun a out => ?_, rfl⟩,
      fun lit go idle unused spare => ⟨_, shfRetire_starts lit go idle unused spare, (s.bankRetires_status room _).1, (s.bankRetires_status room _).2, rfl⟩,
      fun bank bad copying hb => bankCopyDone_serves bad copying hb⟩
    · subst bank_eq
      exact eccWriteBack_writes oldest free alone
    · obtain ⟨on, ramp, rest⟩ := (s.wr (rp .shf room) 0x088 (put 4 0 (fld v 4 0))).quarterUp_status room hj
      refine ⟨?_, on, ramp, fun k hk hk' => (rest k hk hk').trans ?_, rfl⟩
      · rw [State.quarterUp, State.rd_wr_off _ _ (by decide), State.rd_wr_self]
      · rw [State.rd_wr_off _ _ (by decide)]
    · rw [State.modRoom_rd, State.rd_wr_self, tst_clrBit]
    · rw [State.modRoom_ldByte, State.wr_ldByte, State.clearQuarter_ldByte, if_pos ⟨lo, hi⟩]
    · rw [State.modRoom_ldByte, State.wr_ldByte, State.clearQuarter_ldByte, if_neg (by omega)]

end Sys2Proof.Machine

/-! ## Dumbwaiter descriptors (O37): the ring's registers, what starts of the line at the ring's head, and what a completion leaves -/

namespace Sys2Proof.Machine

/-! ### The ring's registers (R218, R233) -/

section
variable {s : State} {room q : Nat}

theorem dwtQTailWrite_of (hq : q < 8) (lit : s.dark room = false) (v : W64) :
    exec (.dwtQTailWrite room q v) s = .next (if (s.dwTailWrite room q (fld v 11 0)).2 then (s.dwTailWrite room q (fld v 11 0)).1
      else s.raise (rp .dwt room) 1 false) := by
  change execDwtQTailWrite room q v s = _
  simp [execDwtQTailWrite, lit, Nat.mod_eq_of_lt hq, apply_ite Host.Outcome.next]

theorem dwtQTailWrite_appends {v : W64} {n h tl : Nat} (hq : q < 8) (lit : s.dark room = false) (size : n = s.dwSize room q) (head : h = s.dwHead room q)
    (tail : tl = s.dwTail room q) (inside : fld v 11 0 < n) (fits : (tl + n - h % n) % n + (fld v 11 0 + n - tl % n) % n ≤ n - 1) :
    exec (.dwtQTailWrite room q v) s = .next (s.wr (rp .dwt room) (0x110 + 32 * q) (put 11 0 (fld v 11 0))) := by
  subst size head tail
  have moved : s.dwTailWrite room q (fld v 11 0) = (s.wr (rp .dwt room) (0x110 + 32 * q) (put 11 0 (fld v 11 0)), true) :=
    if_neg (by omega)
  rw [dwtQTailWrite_of hq lit, moved]
  rfl

theorem dwtQTailWrite_refused {v : W64} {n h tl : Nat} (hq : q < 8) (lit : s.dark room = false) (size : n = s.dwSize room q) (head : h = s.dwHead room q)
    (tail : tl = s.dwTail room q) (overfills : n ≤ fld v 11 0 ∨ n - 1 < (tl + n - h % n) % n + (fld v 11 0 + n - tl % n) % n) :
    TurnedAway (.dwtQTailWrite room q v) s (rp .dwt room) 1 := by
  subst size head tail
  have kept : s.dwTailWrite room q (fld v 11 0) = (s, false) := if_pos overfills
  refine turned_raise (injected := false) ?_ rfl (by decide)
  rw [dwtQTailWrite_of hq lit, kept]
  rfl

theorem dwtQCfgWrite_sets {v : W64} (hq : q < 8) (lit : s.dark room = false) (stopped : s.dwRuns room q = false) (empty : s.dwHead room q = s.dwTail room q) :
    exec (.dwtQCfgWrite room q v) s
      = .next (s.wr (rp .dwt room) (0x100 + 32 * q) (put 63 63 (fld v 63 63) ||| put 27 24 (fld v 27 24) ||| put 21 6 (fld v 21 6))) := by
  change execDwtQCfgWrite room q v s = _
  simp [execDwtQCfgWrite, lit, stopped, empty, Nat.mod_eq_of_lt hq]

theorem dwtQCfgWrite_refused {v : W64} (hq : q < 8) (lit : s.dark room = false) (busy : s.dwRuns room q = true ∨ s.dwHead room q ≠ s.dwTail room q) :
    TurnedAway (.dwtQCfgWrite room q v) s (rp .dwt room) 2 := by
  refine turned_raise (injected := false) ?_ rfl (by decide)
  change execDwtQCfgWrite room q v s = _
  simp only [execDwtQCfgWrite, lit, Nat.mod_eq_of_lt hq, busy, Bool.false_eq_true, if_false, if_true]

theorem dwtQWrites_dark (v : W64) (dark : s.dark room = true) :
    exec (.dwtQTailWrite room q v) s = .next s ∧ exec (.dwtQCfgWrite room q v) s = .next s :=
  ⟨if_pos dark, if_pos dark⟩

/-! ### The started descriptors of a queue -/

@[simp] theorem State.dwList_setDwList (s : State) (room q : Nat) (l : List DwDesc) : (s.setDwList room q l).dwList room q = l := by
  rw [State.dwList, State.setDwList, State.room_modRoom, smGet_smSet_self]

/-- A descriptor appended is the one its ring index names, where no earlier one has that index. -/
theorem State.dwGet_appended (s : State) {l : List DwDesc} {d : DwDesc} (new : d.idx ∉ l.map DwDesc.idx) :
    (s.setDwList room q (l ++ [d])).dwGet room q d.idx = some d := by
  have older : l.find? (fun e => e.idx = d.idx) = none :=
    List.find?_eq_none.mpr fun e he same => new (List.mem_map.mpr ⟨e, he, of_decide_eq_true same⟩)
  rw [State.dwGet, State.dwList_setDwList, List.find?_append, older, Option.none_or]
  exact List.find?_cons_of_pos (decide_eq_true rfl)

/-- A descriptor that has issued its last request goes no further. -/
theorem State.dwGo_issued {idx : Nat} {d : DwDesc} (found : s.dwGet room q idx = some d) (issued : d.phase = 2) : s.dwGo room q idx = s := by
  unfold State.dwGo
  rw [found]
  exact if_pos (.inr issued)

/-! ### Starting a descriptor (R216, R218, R220, R221, R223) -/

/-- The commands that start descriptors, each with the OP it starts (R220). -/
def descriptorCommands : List ((Nat → Nat → Instr) × Nat) :=
  [(.dwtCopy, 1), (.dwtTranspose, 2), (.tileStore, 3), (.tileLoad, 4), (.tileWrap, 5), (.dwtFill, 6), (.dwtCheck, 7)]

theorem descriptorCommand_starts {c : Nat → Nat → Instr} {op : Nat} (command : (c, op) ∈ descriptorCommands) (room q : Nat) (s : State) :
    exec (c room q) s = .next (s.dwStart room q op) := by
  simp only [descriptorCommands, List.mem_cons, Prod.mk.injEq, List.not_mem_nil, or_false] at command
  rcases command with ⟨rfl, rfl⟩ | ⟨rfl, rfl⟩ | ⟨rfl, rfl⟩ | ⟨rfl, rfl⟩ | ⟨rfl, rfl⟩ | ⟨rfl, rfl⟩ | ⟨rfl, rfl⟩ <;> rfl

/-- Whether a TILE_STORE asks for a mode that its format has (R160, R221). -/
def tileStoreOk (ws : List W64) : Bool := (dwElem ws).any fun f => sparseModeOk (dwArgs ws / 64) (dwArgs ws % 8) f

/-- The status with which a descriptor starts: BAD_DESC, SPARSE_MODE_BAD of a tile store, or OK so far (R221, R224). -/
def State.dwStatus (s : State) (room op : Nat) (ws : List W64) : Nat :=
  if dwBad room ws (s.dwSched room ws) then 2 else if op = 3 ∧ tileStoreOk ws = false then 3 else 1

/-- The descriptor that starts with status `st`: one that has failed has nothing to issue, and another its reads. -/
def dwFresh (room op idx : Nat) (ws : List W64) (st : Nat) : DwDesc :=
  ⟨idx, ws, st, 0, 0, 0, if st ≠ 1 then 2 else if op = 4 then 0 else 1, if st = 1 then dwSegs room ws else [], [], none, false⟩

/-- A descriptor put behind the started ones makes its reads and goes on. -/
def State.dwEnter (s : State) (room q : Nat) (d : DwDesc) : State :=
  ((s.setDwList room q (s.dwList room q ++ [d])).dwReads room q d.idx 0 d.segs).dwGo room q d.idx

section
variable {t : State} {idx op : Nat} {w : List W64} {bs : List Byte}

theorem State.dwStart_none (hq : q < 8) (idle : s.dwNext room q = none) (op : Nat) : s.dwStart room q op = s := by
  unfold State.dwStart
  rw [Nat.mod_eq_of_lt hq, idle]

theorem State.dwStart_uncorrectable (hq : q < 8) (next : s.dwNext room q = some (idx, w))
    (line : (t, bs, false) = s.shelfLd room (s.dwOff room q idx) 64 (dwWho q)) (may : s.dwMayStart room q [] = true) (op : Nat) :
    s.dwStart room q op = t.setDwList room q (t.dwList room q ++ [⟨idx, [], 7, 0, 0, 0, 2, [], [], none, false⟩]) := by
  unfold State.dwStart
  rw [Nat.mod_eq_of_lt hq, next]
  dsimp only
  rw [← line, if_pos rfl, if_pos may]

theorem State.dwStart_waits (hq : q < 8) (next : s.dwNext room q = some (idx, w))
    (line : (t, bs, true) = s.shelfLd room (s.dwOff room q idx) 64 (dwWho q))
    (waits : dwOp (wordsOf 8 bs) ≠ op ∨ s.dwMayStart room q (wordsOf 8 bs) = false) : s.dwStart room q op = s := by
  unfold State.dwStart
  rw [Nat.mod_eq_of_lt hq, next]
  dsimp only
  rw [← line, if_neg Bool.true_eq_false.mp, if_pos (by simpa using waits)]

theorem State.dwStart_enters (hq : q < 8) (next : s.dwNext room q = some (idx, w))
    (line : (t, bs, true) = s.shelfLd room (s.dwOff room q idx) 64 (dwWho q)) (named : dwOp (wordsOf 8 bs) = op)
    (may : s.dwMayStart room q (wordsOf 8 bs) = true) (quiet : t.isArmed (rp .dwt room) 0 = false) :
    s.dwStart room q op = t.dwEnter room q (dwFresh room op idx (wordsOf 8 bs) (t.dwStatus room op (wordsOf 8 bs))) := by
  unfold State.dwStart
  rw [Nat.mod_eq_of_lt hq, next]
  dsimp only
  rw [← line, if_neg Bool.true_eq_false.mp, if_neg (by simp [named, may])]
  simp only [quiet, Bool.false_and, Bool.false_or, Bool.false_eq_true, if_false, Bool.and_eq_true, decide_eq_true_eq, Bool.not_eq_true']
  unfold State.dwStatus tileStoreOk
  cases dwElem (wordsOf 8 bs) <;> rfl

theorem State.dwStatus_bad {ws : List W64} (bad : dwBad room ws (t.dwSched room ws) = true) : t.dwStatus room op ws = 2 := if_pos bad

theorem State.dwStatus_good {ws : List W64} (good : dwBad room ws (t.dwSched room ws) = false) (store : op ≠ 3) : t.dwStatus room op ws = 1 := by
  simp [State.dwStatus, good, store]

theorem State.dwStatus_tileStore {ws : List W64} {f : Fmt} (good : dwBad room ws (t.dwSched room ws) = false) (elem : dwElem ws = some f) :
    t.dwStatus room 3 ws = if sparseModeOk (dwArgs ws / 64) (dwArgs ws % 8) f then 1 else 3 := by
  simp only [State.dwStatus, good, tileStoreOk, elem, Option.any_some, Bool.false_eq_true, if_false, true_and]
  cases sparseModeOk (dwArgs ws / 64) (dwArgs ws % 8) f <;> rfl

/-- A descriptor that has failed at its start has nothing to read. -/
theorem State.dwEnter_failed {ws : List W64} {st : Nat} (failed : st ≠ 1) (new : idx ∉ (t.dwList room q).map DwDesc.idx) :
    t.dwEnter room q (dwFresh room op idx ws st) = t.setDwList room q (t.dwList room q ++ [⟨idx, ws, st, 0, 0, 0, 2, [], [], none, false⟩]) := by
  have fresh : dwFresh room op idx ws st = ⟨idx, ws, st, 0, 0, 0, 2, [], [], none, false⟩ := by simp [dwFresh, failed]
  rw [fresh]
  exact State.dwGo_issued (t.dwGet_appended new) rfl

end

/-! ### Completion (R218, R221 to R225, R234) -/

/-- A queue whose oldest descriptor has completed: Q_HEAD behind it, one more counted, and `rest` what is left. -/
def State.dwRetire (s : State) (room q : Nat) (d : DwDesc) (rest : List DwDesc) : State :=
  ((s.wr (rp .dwt room) (0x108 + 32 * q) (put 11 0 ((d.idx + 1) % s.dwSize room q))).wr (rp .dwt room) (0x118 + 32 * q)
    (s.rd (rp .dwt room) (0x118 + 32 * q) + 1)).setDwList room q rest

/-- The capture of a descriptor that failed, without its VALID bit (R234). -/
def DwDesc.where_ (d : DwDesc) (q : Nat) : W64 := put 63 56 d.status ||| put 55 53 q ||| put 52 41 d.idx

/-- The oldest descriptor of a queue is at its end: its data has moved, every reply has come, no check of it fails or is made to fail, and it asks
for no notice (R221 to R225). -/
structure State.DwDone (s : State) (room q : Nat) (d : DwDesc) (rest : List DwDesc) : Prop where
  oldest     : s.dwList room q = d :: rest
  issued     : d.phase = 2
  answered   : d.waits = 0
  lit        : s.dark room = false
  agrees     : d.chkBad = false
  unchecked  : tst (d.words.getD 0 0) 35 = false
  foldQuiet  : s.isArmed (rp .cvu room) 4 = false
  guardQuiet : s.isArmed (rp .cvu room) 5 = false
  quiet      : s.isArmed (rp .dwt room) 0 = false
  silent     : fld (d.words.getD 7 0) 63 62 = 0

/-- A descriptor that failed is captured and raises DWT_DESC_FAILED (R234). -/
def State.dwReport (s : State) (room q : Nat) (d : DwDesc) : State :=
  if d.status ≠ 1 then (s.capture (rp .dwt room) 0x088 (d.where_ q)).raise (rp .dwt room) 0 false else s

theorem State.dwNotify_none {ws : List W64} (silent : fld (ws.getD 7 0) 63 62 = 0) : s.dwNotify room q ws = s := by
  unfold State.dwNotify
  simp only [silent]

theorem State.dwWake_other (awake : ∀ i a rd, (s.room room).hearth.block ≠ .dwWait q i a rd) (idx status : Nat) : s.dwWake room q idx status = s := by
  unfold State.dwWake
  split
  · next _ q' i a rd waits => exact if_neg fun (same : q' = q ∧ i = idx) => awake i a rd (same.1 ▸ waits)
  · rfl

section
variable {d : DwDesc} {rest : List DwDesc}

theorem State.dwRetire_list : (s.dwRetire room q d rest).dwList room q = rest := State.dwList_setDwList ..

theorem State.dwRetire_head : (s.dwRetire room q d rest).dwHead room q = (d.idx + 1) % s.dwSize room q % 4096 := by
  change fld (((s.wr _ _ _).wr _ _ _).rd (rp .dwt room) (0x108 + 32 * q)) 11 0 = _
  rw [State.rd_wr_off _ _ (by omega), State.rd_wr_self]
  exact fld_put_mod _ (by decide)

theorem State.dwRetire_count : (s.dwRetire room q d rest).rd (rp .dwt room) (0x118 + 32 * q) = s.rd (rp .dwt room) (0x118 + 32 * q) + 1 :=
  State.rd_wr_self ..

theorem State.dwRetire_where : (s.dwRetire room q d rest).rd (rp .dwt room) 0x088 = s.rd (rp .dwt room) 0x088 := by
  change ((s.wr _ _ _).wr _ _ _).rd (rp .dwt room) 0x088 = _
  rw [State.rd_wr_off _ _ (by omega), State.rd_wr_off _ _ (by omega)]

theorem State.dwRetire_hearth : ((s.dwRetire room q d rest).room room).hearth = (s.room room).hearth := by
  rw [State.dwRetire, State.setDwList, State.room_modRoom]
  rfl

theorem State.dwReport_rd {o : Nat} (apart : o ∉ [0x028, 0x040, 0x088]) : (s.dwReport room q d).rd (rp .dwt room) o = s.rd (rp .dwt room) o := by
  simp only [List.mem_cons, List.not_mem_nil, or_false, not_or] at apart
  obtain ⟨h1, h2, h3⟩ := apart
  unfold State.dwReport
  split
  · rw [State.raise_rd_off _ _ h1 h2, State.capture_rd_off _ _ h3]
  · rfl

theorem State.dwReport_rest : (s.dwReport room q d).rooms = s.rooms ∧ (s.dwReport room q d).mem = s.mem ∧ (s.dwReport room q d).bricks = s.bricks := by
  unfold State.dwReport
  split
  · simp
  · exact ⟨rfl, rfl, rfl⟩

theorem State.dwReport_event (failed : d.status ≠ 1) : tst ((s.dwReport room q d).rd (rp .dwt room) 0x028) 0 = true := by
  rw [State.dwReport, if_pos failed]
  exact State.raise_sets _ _ rfl (by decide)

theorem State.dwReport_where (failed : d.status ≠ 1) (rearmed : tst (s.rd (rp .dwt room) 0x088) 31 = false) :
    (s.dwReport room q d).rd (rp .dwt room) 0x088 = setBit (d.where_ q) 31 := by
  rw [State.dwReport, if_pos failed, State.raise_rd_off _ _ (by decide) (by decide), State.capture_rd, rearmed]
  rfl

/-- A descriptor still at work stays. -/
theorem descriptorComplete_waits (hq : q < 8) (oldest : s.dwList room q = d :: rest) (working : d.phase ≠ 2 ∨ d.waits ≠ 0 ∨ s.dark room = true) (g : Bool) :
    exec (.descriptorComplete room q g) s = .next s := by
  change execDescriptorComplete room q g s = _
  unfold execDescriptorComplete
  simp only [Nat.mod_eq_of_lt hq, oldest]
  exact if_pos working

theorem descriptorComplete_ends {x : State} (hq : q < 8) (done : s.DwDone room q d rest)
    (stored : x = s.shelfStW room (s.dwOff room q d.idx) (dwWho q) (setFld (setFld (d.words.getD 0 0) 15 8 d.detail) 7 0 d.status))
    (awake : ∀ i a rd, (x.room room).hearth.block ≠ .dwWait q i a rd) :
    exec (.descriptorComplete room q false) s = .next ((x.dwRetire room q d rest).dwReport room q d) := by
  have count : (x.wr (rp .dwt room) (0x108 + 32 * q) (put 11 0 ((d.idx + 1) % x.dwSize room q))).rd (rp .dwt room) (0x118 + 32 * q)
      = x.rd (rp .dwt room) (0x118 + 32 * q) := State.rd_wr_off _ _ (by omega)
  have awake' : ∀ i a rd, (((x.dwRetire room q d rest).dwReport room q d).room room).hearth.block ≠ .dwWait q i a rd := by
    rw [State.room, State.dwReport_rest.1, ← State.room, State.dwRetire_hearth]
    exact awake
  obtain ⟨oldest, issued, answered, lit, agrees, unchecked, foldQuiet, guardQuiet, quiet, silent⟩ := done
  change execDescriptorComplete room q false s = _
  unfold execDescriptorComplete
  simp only [Nat.mod_eq_of_lt hq, oldest]
  rw [if_neg (by simp [issued, answered, lit])]
  simp only [agrees, unchecked, foldQuiet, guardQuiet, quiet, Bool.and_false, Bool.false_and, Bool.or_false, Bool.false_eq_true, if_false, ← stored, count]
  rw [State.dwNotify_none silent]
  exact congrArg Host.Outcome.next (State.dwWake_other awake' _ _)

end
end

/-- Settles O37: the ring's registers, then the start of a descriptor by what its line holds, then the completion of the oldest. -/
theorem descriptors : Obligations.Descriptors := by
  unfold Obligations.Descriptors
  refine ⟨fun s room q hq => ⟨?_, fun v dark => dwtQWrites_dark v dark, fun c op command => ?_⟩, fun s room q d rest hq oldest => ⟨?_, ?_⟩⟩
  · intro v n h tl lit size head tail
    refine ⟨dwtQTailWrite_appends hq lit size head tail, dwtQTailWrite_refused hq lit size head tail, fun stopped empty => ?_, fun busy => ?_⟩
    · exact dwtQCfgWrite_sets hq lit stopped (head ▸ tail ▸ empty)
    · exact dwtQCfgWrite_refused hq lit (head ▸ tail ▸ busy)
  · have starts := descriptorCommand_starts command room q s
    rw [starts]
    refine ⟨fun idle => by rw [State.dwStart_none hq idle], fun idx w t bs next line may => by rw [State.dwStart_uncorrectable hq next line may],
      fun idx w t bs ws next line ws_eq => ?_⟩
    subst ws_eq
    refine ⟨fun waits => by rw [State.dwStart_waits hq next line waits], fun named may quiet => ?_⟩
    rw [State.dwStart_enters hq next line named may quiet]
    refine ⟨fun bad new => ?_, fun good store => ?_, fun f good store elem => ?_⟩
    · rw [State.dwStatus_bad bad, State.dwEnter_failed (by decide) new]
    · rw [State.dwStatus_good good store]
      rfl
    · subst store
      rw [State.dwStatus_tileStore good elem]
      split <;> rfl
  · exact fun working g => descriptorComplete_waits hq oldest working g
  · intro x issued answered lit agrees unchecked foldQuiet guardQuiet quiet silent awake stored hearth size
    have ends := descriptorComplete_ends hq ⟨oldest, issued, answered, lit, agrees, unchecked, foldQuiet, guardQuiet, quiet, silent⟩ stored
      (hearth ▸ awake)
    obtain ⟨rooms, mem, bricks⟩ := State.dwReport_rest (s := x.dwRetire room q d rest) (room := room) (q := q) (d := d)
    refine ⟨_, ends, ?_, ?_, ?_, mem, bricks, State.dwReport_event, fun failed rearmed => State.dwReport_where failed ?_⟩
    · rw [State.dwList, State.room, rooms]
      exact State.dwRetire_list
    · rw [State.dwHead, State.rdF, State.dwReport_rd (by simp; omega), ← size]
      exact State.dwRetire_head
    · rw [State.dwReport_rd (by simp; omega)]
      exact State.dwRetire_count
    · rw [State.dwRetire_where, rearmed]

end Sys2Proof.Machine

/-! ## The words of a packet (O59): bytes and their words, and the fields of a header -/

namespace Sys2Proof.Machine

/-! ### Bytes and words -/

/-- A list of bytes is the low bytes of its number. -/
theorem leTo_leOf (bs : List Byte) : leTo bs.length (leOf bs) = bs := by
  induction bs with
  | nil => rfl
  | cons b bs ih =>
    have low : BitVec.ofNat 8 (b.toNat + 256 * leOf bs) = b := BitVec.eq_of_toNat_eq (by simp; omega)
    have rest : (b.toNat + 256 * leOf bs) / 256 = leOf bs := by omega
    rw [List.length_cons, leOf, leTo, low, rest, ih]

theorem leOf_lt (bs : List Byte) : leOf bs < 256 ^ bs.length := by
  induction bs with
  | nil => decide
  | cons b bs ih => rw [leOf, List.length_cons, Nat.pow_succ]; omega

theorem toWords_append {w : List Byte} (full : w.length = 8) (l : List Byte) : toWords (w ++ l) = BitVec.ofNat 64 (leOf w) :: toWords l :=
  match w, full with
  | [_, _, _, _, _, _, _, _], _ => rfl

/-- The word of eight bytes gives them back. -/
theorem leTo_word {w : List Byte} (full : w.length = 8) : leTo 8 (BitVec.ofNat 64 (leOf w)).toNat = w := by
  have small : leOf w < 256 ^ 8 := full ▸ leOf_lt w
  rw [BitVec.toNat_ofNat, Nat.mod_eq_of_lt (show leOf w < 2 ^ 64 from small), ← full, leTo_leOf]

/-- Bytes that fill whole words are the bytes of their words. -/
theorem ofWords_toWords {bs : List Byte} {n : Nat} (whole : bs.length = 8 * n) : ofWords (toWords bs) = bs := by
  induction n generalizing bs with
  | zero => rw [List.eq_nil_of_length_eq_zero whole]; rfl
  | succ n ih =>
    have full : (bs.take 8).length = 8 := by rw [List.length_take]; omega
    have rest : ofWords (toWords (bs.drop 8)) = bs.drop 8 := ih (by rw [List.length_drop]; omega)
    calc ofWords (toWords bs)
        = ofWords (toWords (bs.take 8 ++ bs.drop 8)) := by rw [List.take_append_drop]
      _ = leTo 8 (BitVec.ofNat 64 (leOf (bs.take 8))).toNat ++ ofWords (toWords (bs.drop 8)) := by rw [toWords_append full]; rfl
      _ = bs := by rw [leTo_word full, rest, List.take_append_drop]

/-! ### The header (R282) -/

/-- A field above those a mask keeps is zero. -/
theorem fld_and_above (x : W64) {hi lo top : Nat} (h : top < lo) : fld (x &&& maskOf top 0) hi lo = 0 := by
  refine Nat.eq_of_testBit_eq fun i => ?_
  rw [testBit_fld, BitVec.getLsbD_and, getLsbD_maskOf, Nat.zero_testBit, decide_eq_false (show ¬ lo + i - 0 < top + 1 - 0 by omega)]
  simp

/-- A field put above those a mask keeps is masked off. -/
theorem put_and_below (v : Nat) {hi lo top : Nat} (h : top < lo) : put hi lo v &&& maskOf top 0 = 0 := by
  refine BitVec.eq_of_getLsbD_eq fun i _ => ?_
  rw [BitVec.getLsbD_and, getLsbD_put, getLsbD_maskOf]
  by_cases below : i < top + 1
  · rw [decide_eq_false (show ¬ lo ≤ i by omega)]; simp
  · rw [decide_eq_false (show ¬ i - 0 < top + 1 - 0 by omega)]; simp

/-- Each field of a header fits its place (R282). -/
structure Pkt.Fits (p : Pkt) : Prop where
  typ : p.typ < 2 ^ 4
  epoch : p.epoch < 2
  vc : p.vc < 2
  suite : p.suite < 2 ^ 6
  len : p.len < 2 ^ 10
  dst : p.dst < 2 ^ 20
  src : p.src < 2 ^ 20
  tag : p.tag < 2 ^ 16
  addr : p.addr < 2 ^ 48
  age : p.age < 2 ^ 6
  mcount : p.mcount < 2 ^ 6
  w3 : p.w3 &&& maskOf 51 0 = p.w3

/-- Word 0 of a header: what a router needs to forward the packet. -/
def Pkt.routeWord (p : Pkt) : W64 :=
  put 63 60 p.typ ||| put 59 59 p.epoch ||| put 58 58 p.vc ||| put 57 52 p.suite ||| put 51 51 (b2n p.host) ||| put 49 40 p.len ||| put 39 20 p.dst
    ||| put 19 0 p.src

/-- Word 3 of a header: what routers count, above the bits that belong to the packet's type. -/
def Pkt.countWord (p : Pkt) : W64 := put 63 58 p.age ||| put 57 52 p.mcount ||| (p.w3 &&& maskOf 51 0)

theorem Pkt.head_eq (p : Pkt) : p.head = [p.routeWord, put 63 48 p.tag ||| put 47 0 p.addr, p.w2, p.countWord] := rfl

section
variable {p : Pkt}

theorem Pkt.Fits.route (fits : p.Fits) :
    fld p.routeWord 63 60 = p.typ ∧ fld p.routeWord 59 59 = p.epoch ∧ fld p.routeWord 58 58 = p.vc ∧ fld p.routeWord 57 52 = p.suite
      ∧ fld p.routeWord 51 51 = b2n p.host ∧ fld p.routeWord 49 40 = p.len ∧ fld p.routeWord 39 20 = p.dst ∧ fld p.routeWord 19 0 = p.src := by
  obtain ⟨typ, epoch, vc, suite, len, dst, src, -, -, -, -, -⟩ := fits
  have host := b2n_le_one p.host
  refine ⟨?_, ?_, ?_, ?_, ?_, ?_, ?_, ?_⟩ <;> simp (disch := omega) [Pkt.routeWord, fld_or, fld_put_ne, fld_put]

theorem Pkt.Fits.host (fits : p.Fits) : tst p.routeWord 51 = p.host := by
  obtain ⟨-, -, -, -, host, -, -, -⟩ := fits.route
  rw [tst_fld, host]
  cases p.host <;> rfl

theorem Pkt.Fits.access (fits : p.Fits) :
    fld (put 63 48 p.tag ||| put 47 0 p.addr) 63 48 = p.tag ∧ fld (put 63 48 p.tag ||| put 47 0 p.addr) 47 0 = p.addr := by
  obtain ⟨-, -, -, -, -, -, -, tag, addr, -, -, -⟩ := fits
  constructor <;> simp (disch := omega) [fld_or, fld_put_ne, fld_put]

theorem Pkt.Fits.counts (fits : p.Fits) : fld p.countWord 63 58 = p.age ∧ fld p.countWord 57 52 = p.mcount ∧ p.countWord &&& maskOf 51 0 = p.w3 := by
  obtain ⟨-, -, -, -, -, -, -, -, -, age, mcount, w3⟩ := fits
  refine ⟨?_, ?_, ?_⟩
  · simp (disch := omega) [Pkt.countWord, fld_or, fld_put_ne, fld_put, fld_and_above]
  · simp (disch := omega) [Pkt.countWord, fld_or, fld_put_ne, fld_put, fld_and_above]
  · rw [Pkt.countWord, w3, BitVec.and_or_distrib_right, BitVec.and_or_distrib_right, put_and_below _ (by decide), put_and_below _ (by decide), w3]
    simp

/-- The header words give back every field of a header that fits them. -/
theorem Pkt.ofHead_head (fits : p.Fits) (data : List Byte) : Pkt.ofHead p.head data = { p with data := data.take p.len } := by
  obtain ⟨typ, epoch, vc, suite, -, len, dst, src⟩ := fits.route
  obtain ⟨tag, addr⟩ := fits.access
  obtain ⟨age, mcount, w3⟩ := fits.counts
  simp only [Pkt.ofHead, Pkt.head_eq, List.getD_cons_zero, List.getD_cons_succ, typ, epoch, vc, suite, fits.host, len, dst, src, tag, addr, age, mcount, w3]

end

/-- Settles O59: the header words give back the header (R282), and the payload's words the payload with its padding, which LEN cuts off (R273). -/
theorem packetWordsRoundTrip : Obligations.PacketWordsRoundTrip := by
  unfold Obligations.PacketWordsRoundTrip
  intro p typ epoch vc suite len dst src tag addr age mcount w3 size
  have whole : (p.data ++ List.replicate (ceilDiv p.data.length 8 * 8 - p.data.length) 0).length = 8 * ceilDiv p.data.length 8 := by
    rw [List.length_append, List.length_replicate, ceilDiv]; omega
  have head : p.words.take 4 = p.head := rfl
  have payload : ofWords (p.words.drop 4) = p.data ++ List.replicate (ceilDiv p.data.length 8 * 8 - p.data.length) 0 := ofWords_toWords whole
  rw [head, payload, Pkt.ofHead_head ⟨typ, epoch, vc, suite, len, dst, src, tag, addr, age, mcount, w3⟩, List.take_left' size]

end Sys2Proof.Machine

/-! ## Routing versions (O35): a table word written or refused, and the course of a flip -/

namespace Sys2Proof.Machine

section
variable {s : State}

/-! ### A table word (R287, R288, R302) -/

theorem routingTableWrite_takes {room off v : Nat} {w x : W64} (version : rtVersion off = some v) (word : x = if off < 0x200 then w &&& maskOf 7 2 else w)
    (inactive : v ≠ s.rtActive) (drained : s.rtDrained = true) (legal : rtLegal off x = true)
    (kept : off < 0x200 → s.steppedRuns room = true → x = s.rtLink s.rtActive room (off % 32 / 8)) :
    exec (.routingTableWrite room off w) s
      = .next { s with rim := { s.rim with rtOver := smSet none s.rim.rtOver (regKey (hal room) off) (some x) } } := by
  subst word
  change execRoutingTableWrite room off w s = _
  unfold execRoutingTableWrite
  rw [version]
  refine congrArg Host.Outcome.next (if_neg ?_)
  simp only [inactive, drained, legal, Bool.not_true, Bool.false_eq_true, false_or, Bool.and_eq_true, decide_eq_true_eq]
  exact fun differs => differs.2 (kept differs.1.1 differs.1.2)

theorem routingTableWrite_refused {room off v : Nat} {w x : W64} (version : rtVersion off = some v) (word : x = if off < 0x200 then w &&& maskOf 7 2 else w)
    (refused : v = s.rtActive ∨ s.rtDrained = false ∨ rtLegal off x = false
      ∨ (off < 0x200 ∧ s.steppedRuns room = true ∧ x ≠ s.rtLink s.rtActive room (off % 32 / 8))) :
    TurnedAway (.routingTableWrite room off w) s (hal room) 8 := by
  subst word
  have turns : exec (.routingTableWrite room off w) s = .next (s.rtRefused room) := by
    change execRoutingTableWrite room off w s = _
    unfold execRoutingTableWrite
    rw [version]
    refine congrArg Host.Outcome.next (if_pos ?_)
    simpa only [Bool.not_eq_true', Bool.and_eq_true, decide_eq_true_eq, and_assoc] using refused
  refine ⟨_, turns, State.raise_sets _ _ rfl (by decide), ?_⟩
  simp [State.rtRefused]

/-- The word that a table takes is the word it then holds, and every other word of the tables stands. -/
theorem State.rtWord_set (s : State) (room off : Nat) (x : W64) (r o : Nat) :
    State.rtWord { s with rim := { s.rim with rtOver := smSet none s.rim.rtOver (regKey (hal room) off) (some x) } } r o
      = if regKey (hal r) o = regKey (hal room) off then x else s.rtWord r o := by
  unfold State.rtWord
  by_cases same : regKey (hal r) o = regKey (hal room) off
  · rw [if_pos same, same, smGet_smSet_self]
  · rw [if_neg same, smGet_smSet_ne _ _ _ _ same]

/-! ### A flip (R290, R305) -/

theorem State.startFlip_of (drained : s.rtDrained = true) :
    s.startFlip = { s.wr (gp .halg) 0x080 (clrBit (clrBit (s.rd (gp .halg) 0x080) 4) 3) with rim := { s.rim with flip := (1, s.et) } } := by
  rw [State.startFlip, drained]
  rfl

/-- A flip forgets the last time-out, and the version it leaves has not drained. -/
theorem State.startFlip_routing (drained : s.rtDrained = true) :
    s.startFlip.rd (gp .halg) 0x080 = clrBit (clrBit (s.rd (gp .halg) 0x080) 4) 3 := by
  rw [State.startFlip_of drained]
  exact s.rd_wr_self _ _ _

theorem flip_starts (drained : s.rtDrained = true) :
    Completes .flip s fun t => t.rim.flip = (1, s.et) ∧ t.rtDrained = false ∧ tst (t.rd (gp .halg) 0x080) 4 = false
      ∧ t.rtActive = s.rtActive ∧ t.pkts = s.pkts ∧ t.mem = s.mem := by
  refine ⟨s.startFlip, rfl, by rw [State.startFlip_of drained], ?_, ?_, ?_, by rw [State.startFlip_of drained]; rfl, by rw [State.startFlip_of drained]; rfl⟩
  · rw [State.rtDrained, State.startFlip_routing drained, tst_clrBit]
  · rw [State.startFlip_routing drained, tst_clrBit_ne _ (by decide), tst_clrBit]
  · rw [State.rtActive, State.rdF, State.startFlip_routing drained, fld_clrBit_ne _ (by decide), fld_clrBit_ne _ (by decide), State.rtActive, State.rdF]

theorem flip_refused (undrained : s.rtDrained = false) : TurnedAway .flip s (gp .halg) 0 := by
  refine turned_raise (injected := false) ?_ rfl (by decide)
  change Host.Outcome.next s.startFlip = _
  rw [State.startFlip, undrained]
  rfl

/-! ### The flip takes effect (R290) -/

/-- What becomes of a packet when the version flips to `v`: one that waits to be injected bears the new version. -/
def Flight.restamp (v : Nat) (f : Flight) : Flight :=
  if !f.moved && !f.ejected && decide (4 ≤ f.port) then { f with pkt := { f.pkt with epoch := v } } else f

theorem Flight.restamp_moved {v : Nat} {f : Flight} (moved : f.moved = true) : f.restamp v = f := by
  simp [Flight.restamp, moved]

theorem Flight.restamp_waiting (v : Nat) {f : Flight} (still : (f.restamp v).moved = false) (inside : (f.restamp v).ejected = false)
    (port : 4 ≤ (f.restamp v).port) : (f.restamp v).pkt.epoch = v := by
  unfold Flight.restamp at *
  split
  · rfl
  · next other =>
    rw [if_neg other] at still inside port
    simp [still, inside, port] at other

theorem State.epochFlip_of (unarmed : s.isArmed (gp .halg) 2 = false) :
    s.epochFlip = { s.wrF (gp .halg) 0x080 0 0 (1 - s.rtActive) with
      pkts := s.pkts.map (Flight.restamp (1 - s.rtActive))
      rim := { s.rim with flip := (2, s.et), holdEla := tst ((s.wrF (gp .halg) 0x080 0 0 (1 - s.rtActive)).rd (gp .halg) 0x080) 2 } } :=
  if_neg (Bool.eq_false_iff.mp unarmed)

theorem epochFlip_flips (asked : s.rim.flip.1 = 1) (due : s.rim.flip.2 + ceilDiv (25 * s.fl) 192 ≤ s.et) (unarmed : s.isArmed (gp .halg) 2 = false) :
    Completes .epochFlip s fun t => t.rtActive = 1 - s.rtActive ∧ t.rim.flip = (2, s.et)
      ∧ (∀ f, f ∈ t.pkts → f.moved = false → f.ejected = false → 4 ≤ f.port → f.pkt.epoch = 1 - s.rtActive)
      ∧ (∀ f, f ∈ s.pkts → f.moved = true → f ∈ t.pkts) ∧ t.pkts.length = s.pkts.length ∧ t.mem = s.mem ∧ t.suites = s.suites := by
  have flips : exec .epochFlip s = .next s.epochFlip := if_pos ⟨asked, due⟩
  rw [State.epochFlip_of unarmed] at flips
  refine ⟨_, flips, ?_, rfl, fun f there still inside port => ?_, fun f there moved => ?_, List.length_map _, rfl, rfl⟩
  · exact s.rdF_wrF_self (gp .halg) 0x080 (by decide) (show 1 - s.rtActive < 2 by omega)
  · obtain ⟨f, _, rfl⟩ := List.mem_map.mp there
    exact f.restamp_waiting _ still inside port
  · exact List.mem_map.mpr ⟨f, there, Flight.restamp_moved moved⟩

theorem epochFlip_waits (early : s.rim.flip.1 ≠ 1 ∨ s.et < s.rim.flip.2 + ceilDiv (25 * s.fl) 192) : exec .epochFlip s = .next s :=
  if_neg (by omega)

/-! ### The old version drains (R290, R305) -/

theorem State.oldPkts_isEmpty (s : State) : s.oldPkts.isEmpty = true ↔ ∀ f, f ∈ s.pkts → f.pkt.epoch = s.rtActive := by
  simp [State.oldPkts, List.isEmpty_iff, List.filter_eq_nil_iff]

/-- The state once the flip is over: the version left has drained, and held injection goes on. -/
def State.flipDone (s : State) : State :=
  let t := (s.wr (gp .halg) 0x080 (setBit (s.rd (gp .halg) 0x080) 3)).raise (gp .halg) 1 false
  { t with rim := { t.rim with flip := (0, 0), holdEla := false } }

theorem State.flipDone_routing (s : State) : s.flipDone.rd (gp .halg) 0x080 = setBit (s.rd (gp .halg) 0x080) 3 := by
  change State.rd (State.raise _ _ _ _) _ _ = _
  rw [State.raise_rd_off _ _ (by decide) (by decide), State.rd_wr_self]

theorem hallEpochDone_drained (flipped : s.rim.flip.1 = 2) (none_old : ∀ f, f ∈ s.pkts → f.pkt.epoch = s.rtActive) :
    Completes .hallEpochDone s fun t => t.rtDrained = true ∧ tst (t.rd (gp .halg) 0x028) 1 = true ∧ t.rim.flip = (0, 0) ∧ t.rim.holdEla = false
      ∧ t.rtActive = s.rtActive ∧ t.pkts = s.pkts ∧ t.mem = s.mem := by
  have done : exec .hallEpochDone s = .next s.flipDone := if_pos ⟨flipped, s.oldPkts_isEmpty.mpr none_old⟩
  refine ⟨_, done, ?_, State.raise_sets _ _ rfl (by decide), rfl, rfl, ?_, State.raise_pkts _ _ _ _, State.raise_mem _ _ _ _⟩
  · rw [State.rtDrained, s.flipDone_routing, tst_setBit _ (by decide)]
  · rw [State.rtActive, State.rdF, s.flipDone_routing, fld_setBit_ne _ (by decide), State.rtActive, State.rdF]

theorem hallEpochDone_waits {f : Flight} (there : f ∈ s.pkts) (old : f.pkt.epoch ≠ s.rtActive) : exec .hallEpochDone s = .next s :=
  if_neg fun done => old (s.oldPkts_isEmpty.mp done.2 f there)

theorem State.flipTimedOut_routing (s : State) (injected : Bool) :
    (s.flipTimedOut injected).rd (gp .halg) 0x080 = setBit (s.rd (gp .halg) 0x080) 4 := by
  change State.rd (State.raise _ _ _ _) _ _ = _
  rw [State.raise_rd_off _ _ (by decide) (by decide), State.rd_wr_self]

theorem hallDrainTimeout_reports {f : Flight} (flipped : s.rim.flip.1 = 2)
    (late : s.rim.flip.2 + usToEt (max 1 (s.rdF (gp .halg) 0x080 31 16)) ≤ s.et) (there : f ∈ s.pkts) (old : f.pkt.epoch ≠ s.rtActive)
    (new : tst (s.rd (gp .halg) 0x080) 4 = false) :
    Completes .hallDrainTimeout s fun t => tst (t.rd (gp .halg) 0x080) 4 = true ∧ tst (t.rd (gp .halg) 0x028) 2 = true
      ∧ t.rim.holdEla = false ∧ t.rim.flip = s.rim.flip ∧ t.rtDrained = s.rtDrained ∧ t.pkts = s.pkts ∧ t.mem = s.mem := by
  have left : s.oldPkts.isEmpty = false := Bool.eq_false_iff.mpr fun empty => old (s.oldPkts_isEmpty.mp empty f there)
  have reports : exec .hallDrainTimeout s = .next (s.flipTimedOut false) := if_pos ⟨flipped, late, by rw [left]; rfl, by rw [new]; rfl⟩
  refine ⟨_, reports, ?_, State.raise_sets _ _ rfl (by decide), rfl, ?_, ?_, State.raise_pkts _ _ _ _, State.raise_mem _ _ _ _⟩
  · rw [State.flipTimedOut_routing, tst_setBit _ (by decide)]
  · rw [State.flipTimedOut, State.raise_rim]; rfl
  · rw [State.rtDrained, State.flipTimedOut_routing, tst_setBit_ne _ (by decide), State.rtDrained]

theorem hallDrainTimeout_waits (early : s.et < s.rim.flip.2 + usToEt (max 1 (s.rdF (gp .halg) 0x080 31 16))) : exec .hallDrainTimeout s = .next s :=
  if_neg fun late => Nat.not_le_of_lt early late.2.1

end

/-- Settles O35: a table word taken or refused, and a flip from its writing to its end. -/
theorem routingVersions : Obligations.RoutingVersions := by
  unfold Obligations.RoutingVersions
  intro s
  refine ⟨fun room off w v x _ _ version word => ⟨fun inactive drained legal kept => ?_, routingTableWrite_refused version word⟩,
    flip_starts, flip_refused, epochFlip_flips, epochFlip_waits, hallEpochDone_drained, fun f there old => hallEpochDone_waits there old,
    fun f flipped late there old new => hallDrainTimeout_reports flipped late there old new, hallDrainTimeout_waits⟩
  refine ⟨_, routingTableWrite_takes version word inactive drained legal kept, ?_, fun r o other => ?_, rfl, rfl⟩
  · rw [State.rtWord_set, if_pos rfl]
  · rw [State.rtWord_set, if_neg other]

end Sys2Proof.Machine

/-! ## Packets in the Hall (O42): what keeps a packet, what refuses it, and how it leaves a router -/

namespace Sys2Proof.Machine

section
variable {s : State} {k : Nat} {f : Flight}

/-! ### AGE (R276) -/

theorem ageIncrement_none (absent : s.pkts[k]? = none) : exec (.ageIncrement k) s = .next s := by
  change execAgeIncrement k s = _
  rw [execAgeIncrement, absent]

theorem ageIncrement_keeps (there : s.pkts[k]? = some f) (other : f.ejected = true ∨ f.pkt.vc ≠ 1 ∨ 8 ≤ f.port ∨ s.behind k f false = true) :
    exec (.ageIncrement k) s = .next s := by
  change execAgeIncrement k s = _
  rw [execAgeIncrement, there]
  exact if_pos other

theorem ageIncrement_ages (there : s.pkts[k]? = some f) (inside : f.ejected = false) (ela : f.pkt.vc = 1) (port : f.port < 8)
    (first : s.behind k f false = false) :
    exec (.ageIncrement k) s = .next (s.moveFlight k { f with pkt := { f.pkt with age := min 63 (f.pkt.age + 1) } }) := by
  change execAgeIncrement k s = _
  rw [execAgeIncrement, there]
  exact if_neg (by simp [inside, ela, first, Nat.not_le_of_lt port])

/-! ### A packet at its router (R275, R276, R282, R287 to R291) -/

/-- Nothing keeps flight `k` at its router: it is in the Hall, first of its channel and of those that want its output, and the link is up. -/
structure State.Ready (s : State) (k : Nat) (f : Flight) : Prop where
  there  : s.pkts[k]? = some f
  inside : f.ejected = false
  port   : f.port < 8
  freed  : s.heldBack f = false
  first  : s.behind k f false = false
  due    : s.schWaits f 0 = false
  clock  : smGet 0 s.rim.clkStop (s.wingOf f.room) = 0
  link   : ∀ port r, s.hop f.room f.pkt = some port → port < 4 → s.across f.pkt.epoch f.room port = some r → s.linkStops f.pkt.epoch f.room port r = false
  output : ∀ port, s.hop f.room f.pkt = some port → s.elaWaits k f port = false

/-- What a router does with a packet whose words and header are in order: refuse it, merge it, or let it leave (R287, R288, R297). -/
def State.forward (g : State) (k : Nat) (f : Flight) (p : Pkt) (merge bad : Bool) (stall : Nat) : Host.Outcome State Fault Refusal :=
  (g.hop f.room p).elim (.next (g.refuse k f.room f.port 4 0x05 p)) fun port =>
    if port < 4 ∧ ((g.across p.epoch f.room port).isNone ∨ (f.moved ∧ port = f.port)) then .next (g.refuse k f.room f.port 4 0x05 p)
    else if f.moved ∧ (f.port = 0 ∨ f.port = 2) ∧ (port = 1 ∨ port = 3) then .next ((g.refuse k f.room f.port 5 0x06 p).bump (hal f.room) 0x0A0 15 0 1)
    else (if merge then g.mergeHost k f p else none).elim (.next (g.leave k f p port stall)) fun j => .next (g.merge k j f p bad)

theorem hallRoute_none (absent : s.pkts[k]? = none) (flips : List (Nat × Nat)) (m b : Bool) (n : Nat) : exec (.hallRoute k flips m b n) s = .next s := by
  change execHallRoute k flips m b n s = _
  rw [execHallRoute, absent]

theorem hallRoute_kept (there : s.pkts[k]? = some f) (kept : f.ejected = true ∨ 8 ≤ f.port ∨ s.heldBack f = true ∨ s.behind k f false = true
      ∨ s.schWaits f 0 = true ∨ smGet 0 s.rim.clkStop (s.wingOf f.room) ≠ 0) (flips : List (Nat × Nat)) (m b : Bool) (n : Nat) :
    exec (.hallRoute k flips m b n) s = .next s := by
  change execHallRoute k flips m b n s = _
  rw [execHallRoute, there]
  exact if_pos kept

/-- A packet that nothing keeps is lost on its link, refused at its injection for its header, or forwarded. -/
theorem State.Ready.hallRoute (ready : s.Ready k f) {g : State} {a : Option Pkt} {flips : List (Nat × Nat)} (arrives : s.linkArrive k f flips = (g, a))
    (m b : Bool) (n : Nat) : exec (.hallRoute k flips m b n) s = a.elim (.next g) fun p =>
      if !f.moved ∧ (p.bad ∨ g.streamBad f.room p) then .next (g.refuse k f.room f.port 7 0x0B p) else g.forward k f p m b n := by
  obtain ⟨there, inside, port, freed, first, due, clock, link, output⟩ := ready
  change execHallRoute k flips m b n s = _
  rw [execHallRoute, there]
  dsimp only
  rw [if_neg (by simp [inside, freed, first, due, clock, Nat.not_le_of_lt port]), if_neg, arrives]
  · cases a with
    | none => rfl
    | some p =>
      refine congrArg (ite _ _) ?_
      rw [State.forward]
      cases g.hop f.room p with
      | none => rfl
      | some port => dsimp only [Option.elim_some]; cases (if m then g.mergeHost k f p else none) <;> rfl
  · split
    · next out hop =>
      rw [output out hop, Bool.or_false]
      split
      · next r across =>
        by_cases low : out < 4
        · rw [if_pos low] at across
          simp [link out r hop low across]
        · rw [if_neg low] at across
          cases across
      · exact Bool.false_ne_true
    · exact Bool.false_ne_true

/-! ### What the tables say (R287, R288) -/

variable {g : State} {p : Pkt} {m b : Bool} {n port : Nat}

theorem State.forward_unrouted (noRoute : g.hop f.room p = none) : g.forward k f p m b n = .next (g.refuse k f.room f.port 4 0x05 p) := by
  rw [State.forward, noRoute]
  rfl

theorem State.forward_noLink (route : g.hop f.room p = some port) (low : port < 4)
    (closed : g.across p.epoch f.room port = none ∨ (f.moved = true ∧ port = f.port)) :
    g.forward k f p m b n = .next (g.refuse k f.room f.port 4 0x05 p) := by
  rw [State.forward, route]
  exact if_pos ⟨low, closed.imp_left Option.isNone_iff_eq_none.mpr⟩

theorem State.forward_turning {r : Nat} (route : g.hop f.room p = some port) (sideways : port = 1 ∨ port = 3) (moved : f.moved = true)
    (from_ : f.port = 0 ∨ f.port = 2) (link : g.across p.epoch f.room port = some r) :
    g.forward k f p m b n = .next ((g.refuse k f.room f.port 5 0x06 p).bump (hal f.room) 0x0A0 15 0 1) := by
  rw [State.forward, route]
  exact (if_neg (by simp [link]; omega)).trans (if_pos ⟨moved, from_, sideways⟩)

theorem State.forward_leaves (route : g.hop f.room p = some port)
    (through : port < 4 → (g.across p.epoch f.room port).isNone = false ∧ ¬ (f.moved = true ∧ port = f.port))
    (straight : ¬ (f.moved = true ∧ (f.port = 0 ∨ f.port = 2) ∧ (port = 1 ∨ port = 3))) :
    g.forward k f p false b n = .next (g.leave k f p port n) := by
  rw [State.forward, route]
  refine (if_neg fun closed => ?_).trans (if_neg straight)
  obtain ⟨link, onward⟩ := through closed.1
  exact closed.2.elim (by simp [link]) onward

/-! ### Leaving a router (R276, R289, R299) -/

section
variable (s : State) (room port stall : Nat) (other : Option Nat) (p : Pkt)

@[simp] theorem State.leaves_pkts : (s.leaves room port stall other p).pkts = s.pkts := by cases other <;> simp [State.leaves]
@[simp] theorem State.leaves_mem : (s.leaves room port stall other p).mem = s.mem := by cases other <;> simp [State.leaves]
@[simp] theorem State.leaves_bricks : (s.leaves room port stall other p).bricks = s.bricks := by cases other <;> simp [State.leaves]
@[simp] theorem State.leaves_suites : (s.leaves room port stall other p).suites = s.suites := by cases other <;> simp [State.leaves]
@[simp] theorem State.leaves_outst : (s.leaves room port stall other p).outst = s.outst := by cases other <;> simp [State.leaves]
@[simp] theorem State.leaves_rtLink (v r d : Nat) : (s.leaves room port stall other p).rtLink v r d = s.rtLink v r d := by
  cases other <;> simp [State.leaves, State.rtLink, State.rtWord]

end

/-- An ELA packet has won an output of its router, whose turns go on after the input it came by (R276). -/
def State.elaWins (s : State) (f : Flight) (p : Pkt) (port : Nat) : State :=
  { s with rim := { s.rim with elaLast := smSet 0 s.rim.elaLast (outKey f.room p.net port) (f.port + 1) } }

/-- A packet that has left its injection buffer may be the last that a Room's reset waits for (R581). -/
def State.bufferLeft (s : State) (f : Flight) : State := if f.moved = false ∧ f.port = 4 then s.resetHold f.room else s

/-- A flight that has crossed the link of a port to the Room `r` (R289). -/
def Flight.crossed (f : Flight) (p : Pkt) (port r : Nat) (link : W64) : Flight :=
  { pkt := p, room := r, port := opposite port, ejected := false, moved := true, due := f.due + hopLatency link, also := f.also }

theorem State.leave_across {r : Nat} (ela : p.vc = 1) (low : port < 4) (link : g.across p.epoch f.room port = some r) :
    g.leave k f p port n = (((g.elaWins f p port).leaves f.room port n (some r) p).moveFlight k
      (f.crossed p port r (g.rtLink p.epoch f.room port))).bufferLeft f := by
  simp only [State.leave, ela, Nat.one_ne_zero, decide_false, Bool.false_and, Bool.false_eq_true, false_and, if_false, Bool.not_eq_true', low, link, if_true,
    State.leaves_rtLink, State.bufferLeft, Flight.crossed]
  rfl

theorem State.leave_ejects (ela : p.vc = 1) (high : 4 ≤ port) :
    g.leave k f p port n = State.bufferLeft { (g.elaWins f p port).leaves f.room port n none p with
      pkts := g.pkts.set k { f with pkt := p, ejected := true, moved := true } ++ g.streamOn f p } f := by
  have notLow : ¬ port < 4 := by omega
  simp only [State.leave, ela, Nat.one_ne_zero, decide_false, Bool.false_and, Bool.false_eq_true, false_and, if_false, Bool.not_eq_true', notLow,
    State.bufferLeft]
  rfl

end

/-- Settles O42: AGE and HALL_ROUTE by what keeps the packet, and a packet that nothing keeps by its link, its header and its tables (a U-turn and a
missing neighbour have no route by log entry 40). -/
theorem hallMoves : Obligations.HallMoves := by
  unfold Obligations.HallMoves
  refine fun s k => ⟨fun absent => ⟨hallRoute_none absent, ageIncrement_none absent⟩, fun f there => ⟨ageIncrement_keeps there,
    fun inside ela port first => ⟨_, ageIncrement_ages there inside ela port first, rfl⟩, hallRoute_kept there, ?_⟩⟩
  intro inside port freed first due clock link output flips b n
  have routes := fun g a => State.Ready.hallRoute (g := g) (a := a) (flips := flips) ⟨there, inside, port, freed, first, due, clock, link, output⟩
  refine ⟨fun m g lost => routes g none lost m b n, fun m g p arrives => ⟨fun new bad => ?_, fun accepted => ?_⟩⟩
  · exact (routes g (some p) arrives m b n).trans (if_pos ⟨by rw [new]; rfl, bad⟩)
  have forwards : exec (.hallRoute k flips m b n) s = g.forward k f p m b n := by
    refine (routes g (some p) arrives m b n).trans (if_neg fun refused => ?_)
    rcases accepted with moved | ⟨good, stream⟩
    · simp [moved] at refused
    · simp [good, stream] at refused
  refine ⟨fun noRoute => forwards.trans (State.forward_unrouted noRoute), fun out route low closed => forwards.trans (State.forward_noLink route low closed),
    fun out r route sideways moved from_ across => forwards.trans (State.forward_turning route sideways moved from_ across),
    fun out r route low across turn ela alone => ?_, fun out route high ela alone => ?_⟩
  · subst alone
    have leaves := State.forward_leaves (k := k) (b := b) (n := n) route (fun _ => ⟨by rw [across]; rfl, fun back => (turn back.1).1 back.2⟩)
      fun ⟨moved, from_, sideways⟩ => by have := (turn moved).2; omega
    refine ⟨_, (forwards.trans leaves).trans (congrArg Host.Outcome.next (State.leave_across ela low across)), _, rfl, ?_⟩
    simp [State.moveFlight, State.elaWins, Flight.crossed]
  · subst alone
    have leaves := State.forward_leaves (k := k) (b := b) (n := n) route (fun low => absurd low (by omega)) (by omega)
    refine ⟨_, (forwards.trans leaves).trans (congrArg Host.Outcome.next (State.leave_ejects ela high)), _, rfl, rfl, ?_⟩
    simp [State.elaWins]

end Sys2Proof.Machine

/-! ## Slots and link check values (O43): the packet a slot injects or drops, and the check values of a link compared -/

namespace Sys2Proof.Machine

section
variable {s : State} {room i k : Nat} {u : Suite} {e : SlotEnt} {f : Flight}

/-! ### The step of a slot entry (R294, R295) -/

/-- The slot of a Room's present lane cycle is used: a step has one slot (R295). -/
def State.slotUsed (s : State) (room : Nat) (u : Suite) : State := { s with rim := { s.rim with slotAt := smSet 0 s.rim.slotAt room (u.now + 1) } }

theorem hallSlot_idle (own : s.suiteOf room = some i) (defined : s.suite i = some u)
    (idle : u.issuing = false ∨ u.mode ≠ 0 ∨ smGet 0 s.rim.slotAt room = u.now + 1
      ∨ (∀ e, e ∈ (s.room room).slots → e.marks (s.room room).slotPer u.step.toNat = false)) :
    exec (.hallSlot room) s = .next s := by
  change execHallSlot room s = _
  unfold execHallSlot
  simp only [own, defined]
  split
  · rfl
  · next busy =>
    have unmarked : ∀ e, e ∈ (s.room room).slots → e.marks (s.room room).slotPer u.step.toNat = false := by
      simp only [Bool.not_eq_true', not_or] at busy
      obtain ⟨issuing, mode, unused⟩ := busy
      exact ((idle.resolve_left issuing).resolve_left mode).resolve_left unused
    rw [List.find?_eq_none.mpr fun e he => Bool.eq_false_iff.mp (unmarked e he)]

/-- The step of slot entry `e` has come, in a Suite that issues, and no slot of this step has been used (R294, R295). -/
structure State.SlotDue (s : State) (room : Nat) (u : Suite) (e : SlotEnt) : Prop where
  owned   : ∃ i, s.suiteOf room = some i ∧ s.suite i = some u
  issuing : u.issuing = true
  stepped : u.mode = 0
  unused  : smGet 0 s.rim.slotAt room ≠ u.now + 1
  marked  : (s.room room).slots.find? (fun e => e.marks (s.room room).slotPer u.step.toNat) = some e

/-- Whether a packet waits in a Room for a slot of a unit (R279). -/
def Flight.awaits (f : Flight) (room unit : Nat) : Bool := decide (f.room = room) && decide (f.port = unit) && !f.moved

theorem Flight.awaits_iff {unit : Nat} : f.awaits room unit = true ↔ f.room = room ∧ f.port = unit ∧ f.moved = false := by
  simp [Flight.awaits, and_assoc]

/-- What a packet meets in the slot: it is injected where the entry is for it, and otherwise dropped as a violation (R291, R295). -/
def State.slotServes (g : State) (room : Nat) (u : Suite) (e : SlotEnt) (k : Nat) (f : Flight) : Host.Outcome State Fault Refusal :=
  let inj := g.isArmed (hal room) 0
  let t := if inj then g.disarm (hal room) 0 else g
  if !inj ∧ f.pkt.typ = 1 ∧ f.pkt.dst = e.dst ∧ f.pkt.flits ≤ e.flits then
    .next ({ t with pkts := t.pkts.eraseIdx k ++ [{ f with port := 4, due := u.now + 2 }] }.wr (hal room) 0x098 (t.rd (hal room) 0x098 + 1))
  else .next ((t.dropFlight k).slotViolation room 4 f.pkt inj)

/-- The slot is for the first packet that waits for it, unless that has 64 requests of its endpoint before it (R279, R295). -/
def State.slotTake (g : State) (room : Nat) (u : Suite) (e : SlotEnt) : Host.Outcome State Fault Refusal :=
  match (List.range g.pkts.length).find? fun k => match g.pkts[k]? with | some f => f.awaits room e.unit | none => false with
  | none => .next g
  | some k =>
    match g.pkts[k]? with
    | none => .next g
    | some f => if g.overLimit f.pkt then .next g else g.slotServes room u e k f

theorem State.SlotDue.hallSlot (due : s.SlotDue room u e) : exec (.hallSlot room) s = (s.slotUsed room u).slotTake room u e := by
  obtain ⟨⟨i, own, defined⟩, issuing, stepped, unused, marked⟩ := due
  change execHallSlot room s = _
  unfold execHallSlot
  simp only [own, defined]
  rw [if_neg (by simp [issuing, stepped, unused]), marked]
  rfl

variable {g : State}

theorem State.slotTake_none (empty : ∀ f, f ∈ g.pkts → f.awaits room e.unit = false) : g.slotTake room u e = .next g := by
  rw [State.slotTake, List.find?_eq_none.mpr]
  intro k _
  cases there : g.pkts[k]? with
  | none => exact Bool.false_ne_true
  | some f => exact Bool.eq_false_iff.mp (empty f (List.mem_of_getElem? there))

theorem State.slotTake_first (there : g.pkts[k]? = some f) (waits : f.awaits room e.unit = true)
    (first : ∀ j h, j < k → g.pkts[j]? = some h → h.awaits room e.unit = false) :
    g.slotTake room u e = if g.overLimit f.pkt then .next g else g.slotServes room u e k f := by
  rw [State.slotTake, (List.find?_range_eq_some (i := k)).mpr]
  · dsimp only
    rw [there]
  refine ⟨by rw [there]; exact waits, List.mem_range.mpr (List.getElem?_eq_some_iff.mp there).1, fun j before => ?_⟩
  cases at_ : g.pkts[j]? with
  | none => rfl
  | some h => dsimp only; rw [first j h before at_]; rfl

theorem State.slotUsed_rd (s : State) (room : Nat) (u : Suite) (q : PageRef) (o : Nat) : (s.slotUsed room u).rd q o = s.rd q o := rfl

theorem State.slotUsed_overLimit (s : State) (room : Nat) (u : Suite) (p : Pkt) : (s.slotUsed room u).overLimit p = s.overLimit p := rfl

/-- The slot passes where no packet waits for it. -/
theorem State.SlotDue.passes (due : s.SlotDue room u e) (empty : ∀ f, f ∈ s.pkts → f.awaits room e.unit = false) :
    exec (.hallSlot room) s = .next (s.slotUsed room u) :=
  due.hallSlot.trans (State.slotTake_none empty)

/-- The unit's first packet meets the slot, unless 64 requests of its endpoint are before it. -/
theorem State.SlotDue.meets (due : s.SlotDue room u e) (there : s.pkts[k]? = some f) (waits : f.awaits room e.unit = true)
    (first : ∀ j h, j < k → s.pkts[j]? = some h → h.awaits room e.unit = false) :
    exec (.hallSlot room) s = if s.overLimit f.pkt then .next (s.slotUsed room u) else (s.slotUsed room u).slotServes room u e k f := by
  rw [due.hallSlot, State.slotTake_first (g := s.slotUsed room u) there waits first, State.slotUsed_overLimit]

theorem State.slotServes_injects (unarmed : g.isArmed (hal room) 0 = false) (write : f.pkt.typ = 1) (dst : f.pkt.dst = e.dst) (fits : f.pkt.flits ≤ e.flits) :
    g.slotServes room u e k f
      = .next ({ g with pkts := g.pkts.eraseIdx k ++ [{ f with port := 4, due := u.now + 2 }] }.wr (hal room) 0x098 (g.rd (hal room) 0x098 + 1)) := by
  rw [State.slotServes, unarmed]
  exact if_pos ⟨rfl, write, dst, fits⟩

theorem State.slotServes_drops (unarmed : g.isArmed (hal room) 0 = false) (other : f.pkt.typ ≠ 1 ∨ f.pkt.dst ≠ e.dst ∨ e.flits < f.pkt.flits) :
    g.slotServes room u e k f = .next ((g.dropFlight k).slotViolation room 4 f.pkt false) := by
  rw [State.slotServes, unarmed]
  exact if_neg (by omega)

theorem State.slotViolation_event (g : State) (room port : Nat) (p : Pkt) (injected : Bool) :
    tst ((g.slotViolation room port p injected).rd (hal room) 0x028) 0 = true := by
  rw [State.slotViolation, State.hitHalt_rd]
  exact State.raise_sets _ _ rfl (by decide)

theorem State.slotViolation_pkts (g : State) (room port : Nat) (p : Pkt) (injected : Bool) : (g.slotViolation room port p injected).pkts = g.pkts := by
  simp [State.slotViolation]

/-! ### The check values of a link (R413, R432) -/

theorem State.haltWings_rd (s : State) (room other code : Nat) (p : PageRef) (o : Nat) : (s.haltWings room other code).rd p o = s.rd p o :=
  foldl_keeps (fun t : State => t.rd p o = s.rd p o) _ (fun t i _ kept => (t.sendHalt_rd i room _ code p o).trans kept) rfl

theorem State.haltWings_pkts (s : State) (room other code : Nat) : (s.haltWings room other code).pkts = s.pkts :=
  foldl_keeps (fun t : State => t.pkts = s.pkts) _ (fun t i _ kept => (t.sendHalt_pkts i room _ code).trans kept) rfl

/-- The check values of a link's output at `room` and of the input it feeds at `r` restart. -/
def State.linkRestarts (s : State) (room r net port : Nat) : State :=
  let t := (s.wr (rp .cvu room) (0x100 + 8 * (6 * net + port)) 0).wr (rp .cvu r) (0x160 + 8 * (6 * net + opposite port)) 0
  { t with rim := { t.rim with linkCnt := smSet 0 t.rim.linkCnt (16 * room + 8 * net + port) 0 } }

/-- The error of a link whose check values differ: captured, counted, raised and recorded, and the Suites of both Wings halt. -/
def State.linkDiffers (s : State) (room r i : Nat) : State :=
  let t := s.captureStep (rp .cvu room) 0x088 (cvuWhere 0x01 0 i 0) 0x090 (s.whereStep room)
  let t := (t.bump (rp .cvu room) 0x098 63 48 1).raise (rp .cvu room) 0 false
  let t := t.record (rp .cvu room) 0x01 1 false false true (t.suiteId room) noRef (setBit (cvuWhere 0x01 0 i 0) 31)
  t.haltWings room r (Page.cvu.cls * 256 + 0x01)

section
variable {net port r : Nat}

theorem linkCvuCompare_unlinked (net : Nat) (hp : port < 4) (closed : s.across s.rtActive room port = none) :
    exec (.linkCvuCompare room net port) s = .next s := by
  change execLinkCvuCompare room net port s = _
  simp only [execLinkCvuCompare, Nat.mod_eq_of_lt hp, closed]

theorem linkCvuCompare_of (hn : net < 2) (hp : port < 4) (link : s.across s.rtActive room port = some r) (unarmed : s.isArmed (rp .cvu room) 0 = false) :
    exec (.linkCvuCompare room net port) s
      = .next (if s.rd (rp .cvu room) (0x100 + 8 * (6 * net + port)) = s.rd (rp .cvu r) (0x160 + 8 * (6 * net + opposite port))
          then s.linkRestarts room r net port else (s.linkRestarts room r net port).linkDiffers room r (6 * net + port)) := by
  change execLinkCvuCompare room net port s = _
  rw [execLinkCvuCompare]
  dsimp only
  rw [Nat.mod_eq_of_lt hp, Nat.mod_eq_of_lt hn, link]
  dsimp only
  simp only [unarmed, Bool.false_and, Bool.false_eq_true, if_false, Bool.or_false, decide_eq_true_eq]
  by_cases same : s.rd (rp .cvu room) (0x100 + 8 * (6 * net + port)) = s.rd (rp .cvu r) (0x160 + 8 * (6 * net + opposite port))
  · rw [if_neg (not_not_intro same), if_pos same]
    rfl
  · rw [if_pos same, if_neg same]
    rfl

theorem State.linkRestarts_rd (s : State) (room r net port : Nat) (q : PageRef) (o : Nat) : (s.linkRestarts room r net port).rd q o
    = ((s.wr (rp .cvu room) (0x100 + 8 * (6 * net + port)) 0).wr (rp .cvu r) (0x160 + 8 * (6 * net + opposite port)) 0).rd q o := by
  simp only [State.linkRestarts, State.rd]

/-- Restarting the input's check value leaves the output's, which lies at another offset. -/
theorem State.linkRestarts_tx (s : State) (room r net port : Nat) :
    (s.linkRestarts room r net port).rd (rp .cvu room) (0x100 + 8 * (6 * net + port)) = 0 := by
  have keys : regKey (rp .cvu room) (0x100 + 8 * (6 * net + port)) ≠ regKey (rp .cvu r) (0x160 + 8 * (6 * net + opposite port)) := by
    simp only [regKey, rp, opposite]
    omega
  rw [State.linkRestarts_rd, State.rd_wr_key _ _ keys, State.rd_wr_self]

theorem State.linkRestarts_rx (s : State) (room r net port : Nat) :
    (s.linkRestarts room r net port).rd (rp .cvu r) (0x160 + 8 * (6 * net + opposite port)) = 0 := by
  rw [State.linkRestarts_rd, State.rd_wr_self]

theorem State.linkRestarts_pkts (s : State) (room r net port : Nat) : (s.linkRestarts room r net port).pkts = s.pkts := by simp [State.linkRestarts]

theorem State.linkRestarts_suites (s : State) (room r net port : Nat) : (s.linkRestarts room r net port).suites = s.suites := by simp [State.linkRestarts]

theorem State.linkDiffers_event (s : State) (room r i : Nat) : tst ((s.linkDiffers room r i).rd (rp .cvu room) 0x028) 0 = true := by
  rw [State.linkDiffers, State.haltWings_rd]
  exact State.raise_sets _ _ rfl (by decide)

theorem State.linkDiffers_rd (s : State) (room r i : Nat) {o : Nat} (value : 0x100 ≤ o) : (s.linkDiffers room r i).rd (rp .cvu room) o = s.rd (rp .cvu room) o := by
  rw [State.linkDiffers, State.haltWings_rd, State.record_rd, State.raise_rd_off _ _ (by omega) (by omega), State.rd_bump_off _ _ _ _ (by omega),
    State.captureStep_rd_off _ _ _ (by omega) (by omega)]

theorem State.linkDiffers_pkts (s : State) (room r i : Nat) : (s.linkDiffers room r i).pkts = s.pkts := by
  rw [State.linkDiffers, State.haltWings_pkts]
  simp

end
end

/-- Settles O43: a slot by whether it is due and by what waits for it, a comparison by whether the check values agree (log entry 42 for the lane cycles). -/
theorem hallSlotsAndLinks : Obligations.HallSlotsAndLinks := by
  unfold Obligations.HallSlotsAndLinks
  refine ⟨?_, fun s room net port hn hp => ⟨linkCvuCompare_unlinked net hp, fun r link _ unarmed => ?_⟩⟩
  · rintro s room i u r rfl own defined
    refine ⟨hallSlot_idle own defined, ?_⟩
    rintro e g issuing stepped unused marked rfl
    have due : s.SlotDue room u e := ⟨⟨i, own, defined⟩, issuing, stepped, unused, marked⟩
    refine ⟨fun empty => ?_, fun k f there own unit new first unarmed => ?_⟩
    · exact due.passes fun f there => Bool.eq_false_iff.mpr fun waits => empty f there (Flight.awaits_iff.mp waits)
    have meets := due.meets there (Flight.awaits_iff.mpr ⟨own, unit, new⟩)
      fun j h before at_ => Bool.eq_false_iff.mpr fun waits => first j h before at_ (Flight.awaits_iff.mp waits)
    refine ⟨fun full => meets.trans (if_pos full), fun under => ?_⟩
    rw [under, if_neg Bool.false_ne_true] at meets
    refine ⟨fun write dst fits => ?_, fun other => ?_⟩
    · refine ⟨_, meets.trans (State.slotServes_injects unarmed write dst fits), rfl, ?_, rfl, rfl⟩
      rw [State.rd_wr_self, State.slotUsed_rd]
    · refine ⟨_, meets.trans (State.slotServes_drops unarmed other), rfl, State.slotViolation_event _ _ _ _ _, ?_⟩
      rw [State.slotViolation_pkts]
      rfl
  · have compares := linkCvuCompare_of hn hp link unarmed
    refine ⟨fun same => ⟨_, compares.trans (congrArg Host.Outcome.next (if_pos same)), State.linkRestarts_tx _ _ _ _ _, State.linkRestarts_rx _ _ _ _ _,
      State.linkRestarts_suites _ _ _ _ _, State.linkRestarts_pkts _ _ _ _ _⟩,
      fun differ => ⟨_, compares.trans (congrArg Host.Outcome.next (if_neg differ)), State.linkDiffers_event _ _ _ _, ?_, ?_⟩⟩
    · rw [State.linkDiffers_rd _ _ _ _ (by omega), State.linkRestarts_tx]
    · rw [State.linkDiffers_pkts, State.linkRestarts_pkts]

end Sys2Proof.Machine

/-! ## Latches (O16, O17): arrivals, completed generations, hand operations, configurations and timeouts -/

namespace Sys2Proof.Machine

/-! ### One Latch -/

section
variable (l : Latch) (kind target : Nat)

theorem Latch.complete_barrier : l.complete 1 target = { l with gen := (l.gen + 1) % 65536, arrived := l.early, early := 0 } := rfl

theorem Latch.complete_counter : l.complete 2 target = { l with gen := (l.gen + 1) % 65536, value := l.value - max 1 target } := rfl

theorem Latch.complete_flag : l.complete 3 target = { l with gen := (l.gen + 1) % 65536 } := rfl

/-- Completing a generation leaves the waiters for its caller to end. -/
theorem Latch.complete_waits : (l.complete kind target).waits = l.waits := by
  unfold Latch.complete
  split
  · rfl
  · split <;> rfl

theorem Latch.complete_unwaited (unwaited : l.waits = []) : { l.complete kind target with waits := [] } = l.complete kind target := by
  rw [← unwaited, ← l.complete_waits kind target]

theorem Latch.ready_barrier : l.ready 1 target = (decide (l.mask ≠ 0) && decide (l.mask &&& l.arrived = l.mask)) := rfl

theorem Latch.ready_counter : l.ready 2 target = decide (max 1 target ≤ l.value) := rfl

end

/-- A mask with a participant is not empty. -/
theorem ne_zero_of_testBit {m k : Nat} (set : m.testBit k = true) : m ≠ 0 := by
  rintro rfl
  rw [Nat.zero_testBit] at set
  cases set

/-! ### Generations of a Room Latch -/

section
variable {s : State} {room n : Nat}

/-- The machine changes by a Latch in its Room alone. -/
theorem State.setLatch_roomsBack (s : State) (room n : Nat) (l : Latch) : { s.setLatch room n l with rooms := s.rooms } = s := rfl

theorem State.setLatch_setLatch (s : State) (room n : Nat) (k l : Latch) : (s.setLatch room n k).setLatch room n l = s.setLatch room n l := by
  simp [State.setLatch, State.modRoom, State.setRoom, State.room]

theorem State.latchKind_setLatch (s : State) (room n m : Nat) (l : Latch) : (s.setLatch room n l).latchKind room m = s.latchKind room m := by
  simp [State.latchKind, State.rdF]

theorem State.latchTarget_setLatch (s : State) (room n m : Nat) (l : Latch) : (s.setLatch room n l).latchTarget room m = s.latchTarget room m := by
  simp [State.latchTarget, State.rdF]

/-- With no waiter a completed generation changes the Latch and nothing more (R319 to R321). -/
theorem State.completeGen_unwaited (unwaited : (s.latch room n).waits = []) :
    s.completeGen room n = s.setLatch room n ((s.latch room n).complete (s.latchKind room n) (s.latchTarget room n)) := by
  rw [State.completeGen]
  simp only [unwaited, List.filter_nil, State.endWaits, Latch.complete_unwaited]

/-- So it does to a Latch that was just written. -/
theorem State.completeGen_setLatch {l : Latch} (unwaited : l.waits = []) :
    (s.setLatch room n l).completeGen room n = s.setLatch room n (l.complete (s.latchKind room n) (s.latchTarget room n)) := by
  rw [State.completeGen_unwaited (by rwa [State.latch_setLatch]), State.latch_setLatch, State.latchKind_setLatch, State.latchTarget_setLatch,
    State.setLatch_setLatch]

theorem State.testLatch_ready (ready : (s.latch room n).ready (s.latchKind room n) (s.latchTarget room n) = true) :
    s.testLatch room n = s.completeGen room n := if_pos ready

theorem State.testLatch_unready (unready : (s.latch room n).ready (s.latchKind room n) (s.latchTarget room n) = false) :
    s.testLatch room n = s := if_neg (by simp [unready])

/-- A Room of a Suite leaves the test to the end of the cycle (R319). -/
theorem State.latchDue_ofSuite (owned : ((s.suiteOf room).bind s.suite).isSome = true) : s.latchDue room n = s := if_pos owned

/-- A Room of no Suite tests at once (log entry 109). -/
theorem State.latchDue_unowned (unowned : ((s.suiteOf room).bind s.suite).isSome = false) : s.latchDue room n = s.testLatch room n :=
  if_neg (by simp [unowned])

/-- A Latch that is not ready completes nothing, whenever it is tested. -/
theorem State.latchDue_unready (unready : (s.latch room n).ready (s.latchKind room n) (s.latchTarget room n) = false) : s.latchDue room n = s := by
  rw [State.latchDue, State.testLatch_unready unready, ite_self]

/-- A written Latch that is not ready stands as written. -/
theorem State.setLatch_due_unready {l : Latch} (unready : l.ready (s.latchKind room n) (s.latchTarget room n) = false) :
    (s.setLatch room n l).latchDue room n = s.setLatch room n l :=
  State.latchDue_unready (by rwa [State.latch_setLatch, State.latchKind_setLatch, State.latchTarget_setLatch])

/-! ### Arrivals from another Room (R318, R320, R321, R335) -/

section
variable {pid : Nat} (hand : Bool) (frm : Nat) (remote : 80 ≤ pid ∧ pid < 128) (h0 : s.isArmed (rp .lch room) 0 = false)
  (h3 : s.isArmed (rp .lch room) 3 = false)
include remote h0 h3

/-- The first arrival of a participant at a barrier. -/
theorem State.latchArrive_remote_barrier (kind : s.latchKind room n = 1) (part : (s.latch room n).mask.testBit pid = true)
    (first : (s.latch room n).arrived.testBit pid = false) :
    s.latchArrive room n pid true hand frm
      = (s.setLatch room n { s.latch room n with arrived := (s.latch room n).arrived ||| 2 ^ pid }).latchDue room n := by
  have fits : ¬ (73 ≤ pid ∧ pid ≤ 79) := by omega
  have range : 80 ≤ pid ∧ pid ≤ 127 := by omega
  simp [State.latchArrive, kind, h0, h3, part, fits, range, Latch.arrive, first]

/-- An arrival at a counter. -/
theorem State.latchArrive_remote_counter (kind : s.latchKind room n = 2) :
    s.latchArrive room n pid true hand frm = (s.setLatch room n { s.latch room n with value := (s.latch room n).value + 1 }).latchDue room n := by
  have fits : ¬ (73 ≤ pid ∧ pid ≤ 79) := by omega
  have range : 80 ≤ pid ∧ pid ≤ 127 := by omega
  simp [State.latchArrive, kind, h0, h3, fits, range, Latch.arrive]

end

/-- An arrival at a disabled Latch is refused with LATCH_BAD. -/
theorem State.latchArrive_disabled (pid : Nat) (remote hand : Bool) (frm : Nat) (kind : s.latchKind room n = 0) :
    s.latchArrive room n pid remote hand frm = s.lchEvent room 3 (lchWhere 0x04 n pid 0 0 frm) false hand false := by
  simp [State.latchArrive, kind]

theorem lchArrive_lit {pid : Nat} (hn : n < 64) (hp : pid < 128) (frm : Nat) (lit : s.dark room = false) :
    exec (.lchArrive room n pid frm) s = .next (s.latchArrive room n pid true false frm) := by
  change execLchArrive room n pid frm s = _
  simp only [execLchArrive, lit, Nat.mod_eq_of_lt hn, Nat.mod_eq_of_lt hp, Bool.false_eq_true, if_false]

/-! ### A hand operation on a Room Latch (R327) -/

/-- What every hand operation on a Room Latch does first: LATCH_HAND counted, raised and recorded. -/
def State.handMarked (s : State) (room n : Nat) : State :=
  (s.bump (rp .lch room) 0x0B8 15 0 1).lchEvent room 4 (lchWhere 0x05 (n % 64) 0 0 0 room) false true false

theorem State.handRoom_lit (lit : s.dark room = false) (f : State → State) : s.handRoom room n f = f (s.handMarked room n) :=
  if_neg (by simp [lit])

theorem State.handMarked_rd (s : State) (room n : Nat) {o : Nat} (config : 0x400 ≤ o) : (s.handMarked room n).rd (rp .lch room) o = s.rd (rp .lch room) o := by
  rw [State.handMarked, State.lchEvent_rd _ _ _ _ _ (by omega) (by omega) (by omega) (by omega), State.rd_bump_off _ _ _ _ (by omega)]

theorem State.handMarked_latch (s : State) (room n r m : Nat) : (s.handMarked room n).latch r m = s.latch r m :=
  State.latch_of_rooms _ _ _ (by simp [State.handMarked])

theorem State.handMarked_kind (s : State) (room n m : Nat) : (s.handMarked room n).latchKind room m = s.latchKind room m :=
  congrArg (fld · 63 62) (s.handMarked_rd room n (by omega))

theorem State.handMarked_isArmed (s : State) (room n : Nat) (q : PageRef) (i : Nat) : (s.handMarked room n).isArmed q i = s.isArmed q i := by
  simp [State.handMarked]

theorem State.handMarked_made (s : State) (room n m : Nat) : HandMade s (s.handMarked room n) room m (s.latch room m) where
  event := State.lchEvent_raises _ _ _ _ _ (by decide)
  record := State.lchEvent_hand (s.bump (rp .lch room) 0x0B8 15 0 1) room 4 _ false
  latch := s.handMarked_latch room n room m
  others k _ := s.handMarked_latch room n room k
  rooms r _ := by simp [State.handMarked]
  rest := by simp [State.handMarked, State.lchEvent_suites_of]

/-- The Latch that a hand operation then writes is all that changes. -/
theorem HandMade.setLatch {t : State} {l : Latch} (made : HandMade s t room n l) (k : Latch) : HandMade s (t.setLatch room n k) room n k where
  event := made.event
  record := made.record
  latch := State.latch_setLatch ..
  others m ne := (State.latch_setLatch_ne _ _ ne).trans (made.others m ne)
  rooms r ne := (State.room_setLatch_ne _ _ ne).trans (made.rooms r ne)
  rest := made.rest

/-- A hand operation that ends by writing the Latch. -/
theorem completes_handMade {c : Instr} (m : Nat) {l : Latch} (does : exec c s = .next ((s.handMarked room n).setLatch room m l)) :
    Completes c s fun t => HandMade s t room m l :=
  ⟨_, does, (s.handMarked_made room n m).setLatch l⟩

theorem latchClear_lit (n : Nat) (lit : s.dark room = false) : exec (.latchClear false room n) s
    = .next ((s.handMarked room n).setLatch room (n % 64) { s.latch room (n % 64) with flag := false }) := by
  change Host.Outcome.next (s.handRoom room n _) = _
  rw [State.handRoom_lit lit, State.handMarked_latch]

theorem resetArrivals_lit (n : Nat) (lit : s.dark room = false) : exec (.resetArrivals false room n) s
    = .next ((s.handMarked room n).setLatch room (n % 64) { s.latch room (n % 64) with arrived := 0, early := 0, value := 0 }) := by
  change Host.Outcome.next (s.handRoom room n _) = _
  rw [State.handRoom_lit lit, State.handMarked_latch]

theorem latchSet_lit (n : Nat) (lit : s.dark room = false) : exec (.latchSet false room n) s
    = .next (if (s.latch room (n % 64)).flag then s.handMarked room n
        else ((s.handMarked room n).setLatch room (n % 64) { s.latch room (n % 64) with flag := true }).completeGen room (n % 64)) := by
  change Host.Outcome.next (s.handRoom room n _) = _
  rw [State.handRoom_lit lit, State.handMarked_latch]

theorem latchAdvance_lit (n : Nat) (lit : s.dark room = false) : exec (.latchAdvance false room n) s
    = .next (((s.handMarked room n).setLatch room (n % 64) ((s.latch room (n % 64)).raised (s.latchKind room (n % 64)))).completeGen room (n % 64)) := by
  change Host.Outcome.next (s.handRoom room n _) = _
  rw [State.handRoom_lit lit, State.handMarked_latch, State.handMarked_kind]

theorem arriveAs_lit {pid : Nat} (n : Nat) (hp : pid < 128) (lit : s.dark room = false) : exec (.arriveAs false room n pid) s
    = .next ((s.handMarked room n).latchArrive room (n % 64) pid false true room) := by
  change Host.Outcome.next (s.handRoom room n _) = _
  rw [State.handRoom_lit lit, Nat.mod_eq_of_lt hp]

end

/-- ADVANCE raises the flag of a flag only (R321, log entry 26). -/
theorem Latch.raised_barrier (l : Latch) : l.raised 1 = l := by simp [Latch.raised]

theorem Latch.raised_flag (l : Latch) : l.raised 3 = { l with flag := true } := by simp [Latch.raised]

/-! ### Global Flue Latches (R328) -/

section
variable {s : State} {n : Nat}

theorem State.glCfg_setGl (s : State) (n m hi lo : Nat) (l : Latch) : (s.setGl m l).glCfg n hi lo = s.glCfg n hi lo := rfl

/-- With no waiter a completed generation of a counter or flag changes the Latch and nothing more. -/
theorem State.completeG_unwaited (kind : s.glCfg n 63 62 ≠ 1) (unwaited : (s.gl n).waits = []) :
    s.completeG n = s.setGl n ((s.gl n).complete (s.glCfg n 63 62) (s.glCfg n 47 24)) := by
  rw [State.completeG]
  simp only [kind, unwaited, if_false, List.foldl_nil, List.filter_nil, State.endWaitsG, State.endWaits, Latch.complete_unwaited]

theorem State.completeG_setGl {l : Latch} (kind : s.glCfg n 63 62 ≠ 1) (unwaited : l.waits = []) :
    (s.setGl n l).completeG n = s.setGl n (l.complete (s.glCfg n 63 62) (s.glCfg n 47 24)) := by
  rw [State.completeG_unwaited (by rwa [State.glCfg_setGl]) (by rwa [State.gl_setGl]), State.gl_setGl, State.glCfg_setGl, State.glCfg_setGl,
    State.setGl_setGl]

theorem State.gReady_counter (kind : s.glCfg n 63 62 = 2) : s.gReady n = decide (max 1 (s.glCfg n 47 24) ≤ (s.gl n).value) := by
  simp [State.gReady, kind]

theorem glatch_of (hn : n < 256) : exec (.glatch n) s = .next (if s.gReady n then s.completeG n else s) := by
  change execGlatch n s = _
  rw [execGlatch, Nat.mod_eq_of_lt hn]
  split <;> rfl

/-- What every hand operation on a global Latch does first: LATCH_HAND counted, raised and recorded (R327). -/
def State.handMarkedG (s : State) (n : Nat) : State :=
  (s.bump (glPage n) 0x0A0 15 0 1).lchgEvent n 4 (lchWhere 0x05 n 0 0 0 0) false true false

theorem State.handMarkedG_gl (s : State) (n m : Nat) : (s.handMarkedG n).gl m = s.gl m := by
  simp [State.gl, State.handMarkedG]

theorem State.handMarkedG_suites (s : State) (n : Nat) : (s.handMarkedG n).suites = s.suites := by
  simp [State.handMarkedG, State.lchgEvent_suites_of]

theorem State.handMarkedG_glCfg (s : State) (n hi lo : Nat) : (s.handMarkedG n).glCfg n hi lo = s.glCfg n hi lo := by
  refine congrArg (fld · hi lo) ?_
  rw [State.handMarkedG, State.lchgEvent_rd _ _ _ _ _ (by omega) (by omega) (by omega), State.rd_bump_off _ _ _ _ (by omega)]

theorem State.handMarkedG_made (s : State) (n : Nat) : HandMadeG s (s.handMarkedG n) n (s.gl n) where
  event := State.lchgEvent_raises _ _ _ _ _ (by decide)
  record := State.lchgEvent_hand (s.bump (glPage n) 0x0A0 15 0 1) n 4 _ false
  latch := s.handMarkedG_gl n n
  others m _ := s.handMarkedG_gl n m
  rest := ⟨by simp [State.handMarkedG], by simp [State.handMarkedG], s.handMarkedG_suites n, by simp [State.handMarkedG], by simp [State.handMarkedG]⟩

theorem HandMadeG.setGl {t : State} {l : Latch} (made : HandMadeG s t n l) (k : Latch) : HandMadeG s (t.setGl n k) n k where
  event := made.event
  record := made.record
  latch := State.gl_setGl ..
  others m ne := (State.gl_setGl_ne _ _ ne).trans (made.others m ne)
  rest := made.rest

theorem completes_handMadeG {c : Instr} {l : Latch} (does : exec c s = .next ((s.handMarkedG n).setGl n l)) : Completes c s fun t => HandMadeG s t n l :=
  ⟨_, does, (s.handMarkedG_made n).setGl l⟩

section
variable (hn : n < 256)
include hn

theorem latchClear_global : exec (.latchClear true 0 n) s = .next ((s.handMarkedG n).setGl n { s.gl n with flag := false }) := by
  change Host.Outcome.next (s.handGlobal (n % 256) _) = _
  rw [Nat.mod_eq_of_lt hn, State.handGlobal, ← State.handMarkedG, State.handMarkedG_gl]

/-- With no Suite granted no Room holds arrivals of the Latch. -/
theorem resetArrivals_global (ungranted : s.suite (s.glCfg n 59 54) = none) : exec (.resetArrivals true 0 n) s
    = .next ((s.handMarkedG n).setGl n { s.gl n with arrived := 0, early := 0, value := 0 }) := by
  have rooms : (s.handMarkedG n).gSuiteRooms n = [] := by
    rw [State.gSuiteRooms, State.handMarkedG_glCfg, State.suite, State.handMarkedG_suites, ← State.suite, ungranted]
  change Host.Outcome.next (s.handGlobal (n % 256) _) = _
  rw [Nat.mod_eq_of_lt hn, State.handGlobal, ← State.handMarkedG]
  dsimp only
  rw [rooms, List.foldl_nil, State.handMarkedG_gl]

theorem latchSet_global_set (set : (s.gl n).flag = true) : exec (.latchSet true 0 n) s = .next (s.handMarkedG n) := by
  change Host.Outcome.next (s.handGlobal (n % 256) _) = _
  rw [Nat.mod_eq_of_lt hn, State.handGlobal, ← State.handMarkedG, State.handMarkedG_gl, if_pos set]

theorem latchAdvance_global_flag (unwaited : (s.gl n).waits = []) (kind : s.glCfg n 63 62 = 3) : exec (.latchAdvance true 0 n) s
    = .next ((s.handMarkedG n).setGl n { s.gl n with gen := ((s.gl n).gen + 1) % 65536, flag := true }) := by
  have known : (s.handMarkedG n).glCfg n 63 62 = 3 := by rw [State.handMarkedG_glCfg, kind]
  change Host.Outcome.next (s.handGlobal (n % 256) _) = _
  rw [Nat.mod_eq_of_lt hn, State.handGlobal, ← State.handMarkedG, known, State.handMarkedG_gl, Latch.raised_flag,
    State.completeG_setGl, known, Latch.complete_flag]
  · rw [known]
    decide
  · exact unwaited

end
end

/-- Settles O16, by the operation: each marks the page and then writes its Latch. That ADVANCE of a flag sets FLAG is the model's choice (log entry 26). -/
theorem latchOperations : Obligations.LatchOperations := by
  unfold Obligations.LatchOperations
  refine ⟨?_, ?_⟩
  · rintro s room n pid lit m rfl l rfl
    refine ⟨completes_handMade _ (latchClear_lit n lit), completes_handMade _ (resetArrivals_lit n lit), fun set => ?_, fun clear unwaited kind => ?_,
      fun unwaited kind => ?_, fun kind small part first awaited h0 h3 => ?_⟩
    · exact ⟨_, (latchSet_lit n lit).trans (congrArg Host.Outcome.next (if_pos set)), s.handMarked_made room n _⟩
    · refine completes_handMade (n := n) _ ((latchSet_lit n lit).trans (congrArg Host.Outcome.next ?_))
      rw [if_neg (Bool.eq_false_iff.mp clear), State.completeGen_setLatch, State.handMarked_kind, kind, Latch.complete_flag]
      exact unwaited
    · refine completes_handMade (n := n) _ ((latchAdvance_lit n lit).trans (congrArg Host.Outcome.next ?_))
      rw [kind, Latch.raised_barrier, State.completeGen_setLatch unwaited, State.handMarked_kind, kind, Latch.complete_barrier]
    · have latch := s.handMarked_latch room n room (n % 64)
      refine completes_handMade (n := n) _ ((arriveAs_lit n (by omega) lit).trans (congrArg Host.Outcome.next ?_))
      rw [State.latchArrive_noted true room (by rwa [State.handMarked_kind]) small (by rwa [latch]) (by rwa [latch]) (by rwa [latch])
        (by rwa [State.handMarked_isArmed]) (by rwa [State.handMarked_isArmed]), latch]
  · rintro s n hn l rfl
    refine ⟨completes_handMadeG (latchClear_global hn), fun ungranted => completes_handMadeG (resetArrivals_global hn ungranted),
      fun set => ⟨_, latchSet_global_set hn set, s.handMarkedG_made n⟩, fun unwaited kind => completes_handMadeG (latchAdvance_global_flag hn unwaited kind),
      fun unwaited kind reached => ?_, fun kind under => ?_⟩
    · rw [glatch_of hn, State.gReady_counter kind, if_pos (decide_eq_true reached), State.completeG_unwaited (by rw [kind]; decide) unwaited, kind,
        Latch.complete_counter]
    · rw [glatch_of hn, State.gReady_counter kind, decide_eq_false (Nat.not_le.mpr under), if_neg Bool.false_ne_true]

end Sys2Proof.Machine

/-! ## Latches under configuration and timeout (O17) -/

namespace Sys2Proof.Machine

section
variable {s : State} {room n : Nat}

/-- LATCH_CONFIGURE of a Latch that nothing waits for loses no wait: the Latch keeps MASK alone (log entry 26) and its configuration is written (R317). -/
theorem latchConfigure_unwaited (hn : n < 64) (v : Sys2Proof.W64) (lit : s.dark room = false) (unwaited : (s.latch room n).waits = []) :
    exec (.latchConfigure false room n v) s
      = .next ((s.setLatch room n { Latch.clear with mask := (s.latch room n).mask }).wr (rp .lch room) (0x400 + 16 * n) (v &&& 0xC0FFFFFF00FFFFFF)) := by
  have lost : s.loseWaits room n = s.setLatch room n { s.latch room n with waits := [] } := by
    simp only [State.loseWaits, unwaited, List.foldl_nil, State.endWaits]
  change execLatchConfigure false room n v s = _
  rw [execLatchConfigure]
  simp only [Bool.false_eq_true, if_false, lit, Nat.mod_eq_of_lt hn, lost, State.latch_setLatch, State.setLatch_setLatch]

/-- The waits of a Latch that an arrival of this cycle does not release (R319). -/
def Latch.unreleased (l : Latch) (kind target : Nat) : List Wait := l.waits.filter fun w => !(l.ready kind target && decide (w.gen = l.gen))

/-- A lone expired wait that is not released is the first to expire. -/
theorem Latch.firstExpired_unreleased {l : Latch} {kind target et : Nat} {w : Wait} (alone : l.waits = [w]) (expired : w.exp ≤ et)
    (held : l.ready kind target = false ∨ w.gen ≠ l.gen) : firstExpired et (l.unreleased kind target) = some w := by
  rcases held with unready | later
  · simp [Latch.unreleased, firstExpired, alone, expired, unready]
  · simp [Latch.unreleased, firstExpired, alone, expired, later]

/-- Where no wait has expired none of those left over has. -/
theorem Latch.firstExpired_unreleased_none {l : Latch} {et : Nat} (none_ : firstExpired et l.waits = none) (kind target : Nat) :
    firstExpired et (l.unreleased kind target) = none := by
  rw [firstExpired, List.find?_eq_none] at none_ ⊢
  exact fun w there => none_ w (List.mem_of_mem_filter there)

theorem latchTimeout_expired {w : Wait} (hn : n < 64)
    (expired : firstExpired s.et ((s.latch room n).unreleased (s.latchKind room n) (s.latchTarget room n)) = some w) :
    exec (.latchTimeout false room n) s = .next (((s.timeoutEvent room n w false).setLatch room n
      { s.latch room n with waits := (s.latch room n).waits.erase w }).endWait room n w 1) := by
  rw [Latch.unreleased] at expired
  change execLatchTimeout false room n s = _
  rw [execLatchTimeout]
  simp only [Bool.false_eq_true, if_false, Nat.mod_eq_of_lt hn, expired]

theorem latchTimeout_unexpired (hn : n < 64)
    (unexpired : firstExpired s.et ((s.latch room n).unreleased (s.latchKind room n) (s.latchTarget room n)) = none) :
    exec (.latchTimeout false room n) s = .next s := by
  rw [Latch.unreleased] at unexpired
  change execLatchTimeout false room n s = _
  rw [execLatchTimeout]
  simp only [Bool.false_eq_true, if_false, Nat.mod_eq_of_lt hn, unexpired]

/-- The end of a Brick's wait frees the Brick, and may send the release of its Suite's stall (R117). -/
theorem State.endWait_brick {w : Wait} {b : Nat} (who : w.who = .brick b) (outcome : Nat) :
    s.endWait room n w outcome = s.modBrick room b (fun x => { x with lwait := .ended })
      ∨ ∃ i, s.endWait room n w outcome = (s.modBrick room b fun x => { x with lwait := .ended }).stallRelease i 6 (room * 64 + b) := by
  rw [State.endWait, who]
  dsimp only
  split
  · next i _ =>
    split
    · split
      · exact .inr ⟨i, rfl⟩
      · exact .inl rfl
    · exact .inl rfl
  · exact .inl rfl

/-- What the end of a Brick's wait does: the Brick is freed, and no register, Room, global Latch or byte of memory changes. -/
structure BrickFreed (s t : State) (room b : Nat) : Prop where
  regs   : ∀ p o, t.rd p o = s.rd p o
  rooms  : t.rooms = s.rooms
  brick  : (t.brick room b).lwait = .ended
  others : ∀ r c, brickKey r c ≠ brickKey room b → t.brick r c = s.brick r c
  mem    : t.mem = s.mem
  glatch : t.glatch = s.glatch

theorem BrickFreed.modBrick (s : State) (room b : Nat) : BrickFreed s (s.modBrick room b fun x => { x with lwait := .ended }) room b where
  regs _ _ := rfl
  rooms := rfl
  brick := by rw [State.brick_modBrick]
  others _ _ apart := s.brick_modBrick_ne _ apart
  mem := rfl
  glatch := rfl

theorem BrickFreed.stallRelease {t : State} {b : Nat} (freed : BrickFreed s t room b) (i cause src : Nat) :
    BrickFreed s (t.stallRelease i cause src) room b where
  regs p o := (State.stallRelease_rd ..).trans (freed.regs p o)
  rooms := (State.stallRelease_rooms ..).trans freed.rooms
  brick := (congrArg Brick.lwait (State.stallRelease_brick ..)).trans freed.brick
  others r c apart := (State.stallRelease_brick ..).trans (freed.others r c apart)
  mem := (State.stallRelease_mem ..).trans freed.mem
  glatch := (State.stallRelease_glatch ..).trans freed.glatch

theorem State.endWait_brickFreed {w : Wait} {b : Nat} (who : w.who = .brick b) (outcome : Nat) : BrickFreed s (s.endWait room n w outcome) room b := by
  rcases State.endWait_brick (s := s) (room := room) (n := n) who outcome with frees | ⟨i, releases⟩
  · rw [frees]
    exact .modBrick s room b
  · rw [releases]
    exact (BrickFreed.modBrick s room b).stallRelease i _ _

end

/-- Settles O17: an arrival by the kind of its Latch, then the writes. The Room of no Suite tests at once (log entry 109), MASK is kept (log entry 26). -/
theorem latchArrivalsAndMasks : Obligations.LatchArrivalsAndMasks := by
  unfold Obligations.LatchArrivalsAndMasks
  refine ⟨?_, fun s room n v hn lit => ⟨fun unwaited => ?_, fun b w who expired => ?_, fun none_ => ?_⟩⟩
  · rintro s room n pid frm hn low high lit h0 h3 l rfl
    have arrives := lchArrive_lit hn high frm lit
    refine ⟨fun kind part first awaited => ?_, fun kind part first last => ?_, fun kind mask reached unwaited t ht => ?_, fun kind under => ?_,
      fun kind => ?_⟩
    · rw [arrives, State.latchArrive_remote_barrier false frm ⟨low, high⟩ h0 h3 kind part first, State.setLatch_due_unready]
      rw [kind, Latch.ready_barrier, decide_eq_false awaited, Bool.and_false]
    · rw [State.latchArrive_remote_barrier false frm ⟨low, high⟩ h0 h3 kind part first] at arrives
      refine ⟨fun owned => ?_, fun unowned unwaited => ?_⟩
      · rw [arrives, State.latchDue_ofSuite]
        exact owned
      · rw [State.latchDue_unowned, State.testLatch_ready, State.completeGen_setLatch, kind, Latch.complete_barrier] at arrives
        · exact ⟨_, arrives, State.latch_setLatch .., State.setLatch_roomsBack ..⟩
        · exact unwaited
        · rw [State.latch_setLatch, State.latchKind_setLatch, kind, Latch.ready_barrier, decide_eq_true last, decide_eq_true (ne_zero_of_testBit part)]
          rfl
        · exact unowned
    · rw [State.testLatch_ready, State.completeGen_unwaited unwaited, kind, Latch.complete_barrier] at ht
      · subst ht
        exact ⟨State.latch_setLatch .., State.setLatch_roomsBack ..⟩
      · rw [kind, Latch.ready_barrier, decide_eq_true mask, decide_eq_true reached]
        rfl
    · rw [arrives, State.latchArrive_remote_counter false frm ⟨low, high⟩ h0 h3 kind, State.setLatch_due_unready]
      rw [kind, Latch.ready_counter, decide_eq_false (Nat.not_le.mpr under)]
    · exact ⟨_, arrives.trans (congrArg Host.Outcome.next (State.latchArrive_disabled pid true false frm kind)), State.lchEvent_raises _ _ _ _ _ (by decide),
        State.lchEvent_rooms .., State.lchEvent_mem .., State.lchEvent_bricks ..⟩
  · exact ⟨_, latchConfigure_unwaited hn v lit unwaited, State.latch_setLatch .., State.rd_wr_self .., fun m ne => State.latch_setLatch_ne _ _ ne,
      fun o ne => State.rd_wr_off _ _ ne, rfl⟩
  · intro alone held
    have freed := State.endWait_brickFreed (s := (s.timeoutEvent room n w false).setLatch room n { s.latch room n with waits := [] }) (room := room) (n := n) who 1
    have done := latchTimeout_expired hn (Latch.firstExpired_unreleased alone expired held)
    rw [alone, List.erase_cons_head] at done
    refine ⟨_, done, ?_, ?_, freed.brick, fun r c apart => ?_, ?_, ?_⟩
    · rw [freed.regs]
      exact State.timeoutEvent_raises ..
    · rw [State.latch_of_rooms _ _ _ freed.rooms, State.latch_setLatch]
    · rw [freed.others r c apart]
      exact State.timeoutEvent_brick ..
    · rw [freed.mem]
      exact State.timeoutEvent_mem ..
    · rw [freed.glatch]
      exact State.timeoutEvent_glatch ..
  · exact latchTimeout_unexpired hn (Latch.firstExpired_unreleased_none none_ _ _)

end Sys2Proof.Machine

/-! ## The Flue's latency, heartbeats and watchdog (O26) -/

namespace Sys2Proof.Machine

/-! ### The Suites a loss makes suspect (R315) -/

theorem testBit_foldl_setBits {is : List Nat} {i : Nat} (there : i ∈ is) (m : Nat) : (is.foldl (fun m i => m ||| 2 ^ i) m).testBit i = true :=
  foldl_reaches (fun m => m.testBit i = true) _ there (fun m => by simp [Nat.testBit_or]) (fun m j _ set => by simp [Nat.testBit_or, set]) m

theorem State.suspect_marks (s : State) {is : List Nat} {i : Nat} (there : i ∈ is) : (s.suspect is).rim.suspects.testBit i = true :=
  testBit_foldl_setBits there _

section
variable {s t : State}

/-- The Suites of a Wing follow from the Suites and the fence. -/
theorem State.suitesInWing_congr (suites : t.suites = s.suites) (fence : t.fence = s.fence) (w : Nat) : t.suitesInWing w = s.suitesInWing w := by
  rw [State.suitesInWing, State.wingRow, fence, suites]
  rfl

theorem State.runningSuites_congr (suites : t.suites = s.suites) : t.runningSuites = s.runningSuites := by
  rw [State.runningSuites, suites, ← State.runningSuites]

end

/-! ### Words of the Flue (R307) -/

theorem flueCheck_sound : flueCheck 0 0 = .clean := by decide +kernel

/-- One wire upset is found and put right. -/
theorem flueCheck_wire : ∀ k < 39, flueCheck 0 (2 ^ k) = .corrected 0 := by decide +kernel

section
variable (s : State) (node : Nat)

/-- The count of heartbeats that a node has missed in a row. -/
def State.setMisses (s : State) (node k : Nat) : State := { s with rim := { s.rim with hbMiss := smSet 0 s.rim.hbMiss node k } }

theorem State.setMisses_misses (k : Nat) : smGet 0 (s.setMisses node k).rim.hbMiss node = k := smGet_smSet_self ..

/-- FLU_CE raised and counted. -/
def State.flueCorrected (s : State) (p : PageRef) : State := (s.raise p 0 false).bump p 0x098 63 0 1

theorem State.flueCorrected_event (inst : Nat) : tst ((s.flueCorrected (rp .flu inst)).rd (rp .flu inst) 0x028) 0 = true := by
  rw [State.flueCorrected, State.rd_bump_off _ _ _ _ (by decide)]
  exact State.raise_sets _ _ rfl (by decide)

theorem State.flueCorrected_count (p : PageRef) : (s.flueCorrected p).rdF p 0x098 63 0 = min (s.rdF p 0x098 63 0 + 1) (2 ^ 64 - 1) := by
  rw [State.flueCorrected, State.rdF, State.bump, State.rd_wr_self, fld_bumpFld _ (by decide), State.raise_rd_off _ _ (by decide) (by decide)]
  rfl

theorem State.flueCorrected_suites (p : PageRef) : (s.flueCorrected p).suites = s.suites := by simp [State.flueCorrected]

variable {node}

theorem heartbeat_sound (room : node < 0x8000) : exec (.heartbeat node 0) s = .next (s.setMisses node 0) := by
  have other : node ≠ 0x8000 := by omega
  change execHeartbeat node 0 s = _
  simp only [execHeartbeat, State.flueWord, other, room, flueCheck_sound, CheckOut.sort, decide_false, Bool.false_and, Bool.false_eq_true, if_false, if_true]
  rfl

theorem heartbeat_wire (room : node < 0x8000) {k : Nat} (wire : k < 39) :
    exec (.heartbeat node (2 ^ k)) s = .next ((s.flueCorrected (rp .flu (s.corridorInst node))).setMisses node 0) := by
  have other : node ≠ 0x8000 := by omega
  change execHeartbeat node (2 ^ k) s = _
  simp only [execHeartbeat, State.flueWord, other, room, flueCheck_wire k wire, CheckOut.sort, decide_false, Bool.false_and, Bool.false_eq_true, if_false,
    if_true]
  rfl

end

/-! ### FLU_LATENCY (R309) -/

section
variable {s : State} {v : W64}

theorem fluLatencyWrite_sets (unloaded : s.anyLoaded = false) (enough : s.rim.flReq ≤ fld v 15 0) (most : fld v 15 0 ≤ 256) :
    exec (.fluLatencyWrite v) s = .next (s.wrF (gp .flug) 0x080 15 0 (fld v 15 0)) :=
  if_pos ⟨by rw [unloaded]; rfl, enough, most⟩

theorem fluLatencyWrite_refused (bad : s.anyLoaded = true ∨ fld v 15 0 < s.rim.flReq ∨ 256 < fld v 15 0) :
    exec (.fluLatencyWrite v) s = .next (s.raise (gp .flug) 1 false) := by
  refine if_neg ?_
  rintro ⟨unloaded, enough, most⟩
  rcases bad with loaded | less | more
  · rw [loaded] at unloaded
    cases unloaded
  · omega
  · omega

end

/-! ### FLU_WATCHDOG (R316) -/

section
variable (s : State) (node : Nat)

/-- What the firing watchdog of a node does in its page: the count clears, and the event is captured, raised and recorded, with an armed injection used
(R316, R332). -/
def State.watchdogEvent : State :=
  let inj := decide (node = 0x8000) && s.isArmed (gp .flug) 0
  let t := (if inj then s.disarm (gp .flug) 0 else s).setMisses node 0
  let w := if node < 0x8000 then put 14 0 node else put 21 16 (node - 0x8000) ||| put 14 0 0x7FFF
  ((t.capture (gp .flug) 0x0A0 w).raise (gp .flug) 0 inj).record (gp .flug) 0x10 1 inj false false 0 noRef (setBit w 31)

/-- The Wing below a node. -/
def nodeWing : Nat := if node < 0x8000 then physWing node else node - 0x8000

theorem fluWatchdog_of : exec (.fluWatchdog node) s
    = .next (if smGet 0 s.rim.hbMiss node + 1 < s.wdMiss then s.setMisses node (smGet 0 s.rim.hbMiss node + 1)
        else ((s.setMisses node (smGet 0 s.rim.hbMiss node + 1)).watchdogEvent node).engineLoss (nodeWing node)) := by
  change execFluWatchdog node s = _
  rw [execFluWatchdog]
  exact (apply_ite Host.Outcome.next _ _ _).symm

theorem State.watchdogEvent_event : tst ((s.watchdogEvent node).rd (gp .flug) 0x028) 0 = true := by
  rw [State.watchdogEvent, State.record_rd]
  exact State.raise_sets _ _ rfl (by decide)

theorem State.watchdogEvent_misses : smGet 0 (s.watchdogEvent node).rim.hbMiss node = 0 := by
  rw [State.watchdogEvent, State.record_rim, State.raise_rim, State.capture_rim, State.setMisses_misses]

theorem State.watchdogEvent_suites : (s.watchdogEvent node).suites = s.suites := by
  rw [State.watchdogEvent, State.record_suites, State.raise_suites, State.capture_suites]
  exact (apply_ite State.suites ..).trans (ite_self _)

theorem State.watchdogEvent_bricks : (s.watchdogEvent node).bricks = s.bricks := by
  rw [State.watchdogEvent, State.record_bricks, State.raise_bricks, State.capture_bricks]
  exact (apply_ite State.bricks ..).trans (ite_self _)

theorem State.watchdogEvent_mem : (s.watchdogEvent node).mem = s.mem := by
  rw [State.watchdogEvent, State.record_mem, State.raise_mem, State.capture_mem]
  exact (apply_ite State.mem ..).trans (ite_self _)

/-- The Survey's pages, and so the fence, are none of its registers. -/
theorem State.watchdogEvent_fence : (s.watchdogEvent node).fence = s.fence := by
  have same : (s.watchdogEvent node).rd (gp .srvg) 0x080 = s.rd (gp .srvg) 0x080 := by
    rw [State.watchdogEvent, State.record_rd, State.raise_rd _ _ (by decide) (by decide), State.capture_rd_key _ _ (by decide)]
    exact (apply_ite (fun t : State => t.rd (gp .srvg) 0x080) ..).trans (ite_self _)
  rw [State.fence, State.rdF, State.rdF, same]
  rfl

/-- A loss marks the Suites of its Wing, and every running one. -/
theorem State.engineLoss_marks (w : Nat) {i : Nat} (there : i ∈ s.suitesInWing w ∨ i ∈ s.runningSuites) :
    (s.engineLoss w).rim.suspects.testBit i = true :=
  s.suspect_marks (List.mem_append.mpr there)

theorem State.watchdogEvent_marks {i : Nat} (there : i ∈ s.suitesInWing (nodeWing node) ∨ i ∈ s.runningSuites) :
    ((s.watchdogEvent node).engineLoss (nodeWing node)).rim.suspects.testBit i = true :=
  State.engineLoss_marks _ _ (by
    rwa [State.suitesInWing_congr (s.watchdogEvent_suites node) (s.watchdogEvent_fence node), State.runningSuites_congr (s.watchdogEvent_suites node)])

end

/-- Settles O26. A firing watchdog makes the Suites of the Wing and every running Suite suspect and halts none (log entry 114). -/
theorem flueLatencyAndHeartbeats : Obligations.FlueLatencyAndHeartbeats := by
  unfold Obligations.FlueLatencyAndHeartbeats
  intro s
  refine ⟨fun v unloaded enough most => ?_, fun v bad => ?_, ?_, fun node under => ?_, fun node reached => ?_⟩
  · exact ⟨_, fluLatencyWrite_sets unloaded enough most, State.rdF_wrF_self _ _ _ (by decide) (by omega), fun p o apart => State.rd_wr_key _ _ apart, rfl⟩
  · exact ⟨_, fluLatencyWrite_refused bad, congrArg (fld · 15 0) (State.raise_rd_off _ _ (by decide) (by decide)), State.raise_sets _ _ rfl (by decide),
      State.raise_suites ..⟩
  · rintro node p rfl room
    exact ⟨heartbeat_sound s room, fun k wire => ⟨_, heartbeat_wire s room wire, s.flueCorrected_event _, s.flueCorrected_count _,
      State.setMisses_misses .., s.flueCorrected_suites _⟩⟩
  · rw [fluWatchdog_of, if_pos under]
    rfl
  · have fires := fluWatchdog_of s node
    rw [if_neg (Nat.not_lt.mpr reached)] at fires
    exact ⟨_, fires, State.watchdogEvent_event .., State.watchdogEvent_misses .., State.watchdogEvent_suites .., State.watchdogEvent_bricks ..,
      State.watchdogEvent_mem .., fun i there => State.watchdogEvent_marks _ _ (.inl there), fun i there => State.watchdogEvent_marks _ _ (.inr there)⟩

end Sys2Proof.Machine

/-! ## Cellars (O47): an access at its controller, grants, the strength of the page code, scrubbing, retirement, remap entries and the log's head -/

namespace Sys2Proof.Machine

/-! ### Registers -/

/-- A reading of the registers follows from the register file. -/
theorem State.rd_of_regs {s t : State} (regs : t.regs = s.regs) (p : PageRef) (o : Nat) : t.rd p o = s.rd p o := by
  rw [State.rd, regs, State.rd]

/-! ### Accesses on the ring (R337, R338, R341, R570) -/

section
variable {s : State} {k : Nat} {a : RingAcc}

theorem cellarAccess_absent (absent : s.rim.ring[k]? = none) (e : List Nat) : exec (.cellarAccess k e) s = .next s := by
  change execCellarAccess k e s = _
  rw [execCellarAccess, absent]

theorem ringReservation_absent (absent : s.rim.ring[k]? = none) : exec (.ringReservation k) s = .next s := by
  change execRingReservation k s = _
  rw [execRingReservation, absent]

theorem cellarAccess_waits (there : s.rim.ring[k]? = some a)
    (waits : (s.rim.ring.take k).any (fun b => a.overlaps b) = true ∨ s.celWaits a.stack a.off a.len = true) (e : List Nat) :
    exec (.cellarAccess k e) s = .next s := by
  change execCellarAccess k e s = _
  rw [execCellarAccess, there]
  exact if_pos (Bool.or_eq_true_iff.mpr waits)

theorem cellarAccess_performed {g : State} {r : CelRes} {e : List Nat} (there : s.rim.ring[k]? = some a)
    (first : (s.rim.ring.take k).any (fun b => a.overlaps b) = false) (serves : s.celWaits a.stack a.off a.len = false)
    (result : ({ s with rim := { s.rim with ring := s.rim.ring.eraseIdx k } } : State).cellarAccess a.stack a.off a.len a.data a.pkt.suite a.pkt.src false e = (g, r)) :
    exec (.cellarAccess k e) s = .next (g.injectEdge a.pkt.dst (a.reply r)) := by
  change execCellarAccess k e s = _
  rw [execCellarAccess, there]
  simp only [first, serves, Bool.or_false, Bool.false_eq_true, if_false, result]

theorem ringReservation_placed (there : s.rim.ring[k]? = some a) (head : ∀ b ∈ s.rim.ring.take k, b.pkt.dst ≠ a.pkt.dst) :
    exec (.ringReservation k) s = .next { s with rim := { s.rim with ring := s.rim.ring.set k { a with reserved := true } } } := by
  change execRingReservation k s = _
  rw [execRingReservation, there]
  exact if_neg (by simpa using head)

theorem ringReservation_behind (there : s.rim.ring[k]? = some a) (behind : ∃ b ∈ s.rim.ring.take k, b.pkt.dst = a.pkt.dst) :
    exec (.ringReservation k) s = .next s := by
  change execRingReservation k s = _
  rw [execRingReservation, there]
  exact if_pos (by simpa using behind)

end

/-! ### What the grants refuse (R338, R363) -/

section
variable {s : State} {stack off len suite src : Nat} {data : Option (List Byte)} {errs : List Nat}

theorem State.cellarAccess_beyond (beyond : cellarBytes ≤ off) (firmware : Bool) :
    s.cellarAccess stack off len data suite src firmware errs = (s.bump (celPage stack) 0x090 31 0 1, .unmapped) := if_pos beyond

theorem State.cellarAccess_denied (unarmed : s.isArmed (celPage stack) 0 = false) (within : off < cellarBytes)
    (denied : s.cellarGranted stack off len suite data.isSome = false) :
    s.cellarAccess stack off len data suite src false errs
      = (((s.bump (celPage stack) 0x090 63 32 1).capture (celPage stack) 0x088 (celWhere 0x01 suite src)).raise (celPage stack) 0 false, .denied) := by
  simp [State.cellarAccess, Nat.not_le.mpr within, unarmed, denied]

/-- A denied access is noted, and memory stands. -/
theorem State.cellarAccess_notes (unarmed : s.isArmed (celPage stack) 0 = false) (within : off < cellarBytes)
    (denied : s.cellarGranted stack off len suite data.isSome = false) {t : State} (after : t = (s.cellarAccess stack off len data suite src false errs).1) :
    (s.cellarAccess stack off len data suite src false errs).2 = .denied ∧ t.mem = s.mem ∧ tst (t.rd (celPage stack) 0x028) 0 = true := by
  subst after
  rw [State.cellarAccess_denied unarmed within denied]
  exact ⟨rfl, by simp, State.raise_sets _ _ rfl (by decide)⟩

/-- Whether region `r` of a stack, enabled with word A `w`, would overlap another enabled region (R363). -/
def State.grantClash (s : State) (stack r : Nat) (w : W64) : Bool :=
  (List.range 32).any fun q =>
    q != r && tst (s.regA stack q) 63 && decide (fld w 47 32 ≠ 0) && decide (fld (s.regA stack q) 47 32 ≠ 0) && decide (regLo (s.regA stack q) < regHi w)
      && decide (regLo w < regHi (s.regA stack q))

variable {r : Nat} {w v : W64}

theorem State.grantClash_of {q : Nat} (region : q < 32) (other : q ≠ r) (enabled : tst (s.regA stack q) 63 = true) (spans : fld w 47 32 ≠ 0)
    (spans' : fld (s.regA stack q) 47 32 ≠ 0) (below : regLo (s.regA stack q) < regHi w) (above : regLo w < regHi (s.regA stack q)) :
    s.grantClash stack r w = true :=
  List.any_eq_true.mpr ⟨q, List.mem_range.mpr region, by simp [other, enabled, spans, spans', below, above]⟩

theorem State.grantClash_alone (alone : ∀ q, q < 32 → q ≠ r → tst (s.regA stack q) 63 = false) : s.grantClash stack r w = false := by
  refine List.any_eq_false.mpr fun q region => ?_
  by_cases same : q = r
  · simp [same]
  · simp [alone q (List.mem_range.mp region) same]

theorem celRegionWrite_of (s : State) (stack : Nat) (v : W64) (region : r < 32) (word : w = v &&& 0xFF00FFFFFFFF0000) :
    exec (.celRegionWrite stack r v) s = if tst w 63 && (s.grantClash stack r w || decide (cellarBytes < regHi w))
      then .next ((s.capture (celPage stack) 0x088 (put 63 56 0x02)).raise (celPage stack) 1 false) else .next (s.wr (celPage stack) (0x400 + 32 * r) w) := by
  subst word
  change execCelRegionWrite stack r v s = _
  rw [execCelRegionWrite, Nat.mod_eq_of_lt region]
  rfl

theorem celRegionWrite_refused (region : r < 32) (word : w = v &&& 0xFF00FFFFFFFF0000) (enables : tst w 63 = true)
    (bad : s.grantClash stack r w = true ∨ cellarBytes < regHi w) : TurnedAway (.celRegionWrite stack r v) s (celPage stack) 1 := by
  refine turned_capture ((celRegionWrite_of s stack v region word).trans (if_pos ?_)) (fun _ => rfl) (by decide)
  simpa [enables] using bad

theorem celRegionWrite_taken (region : r < 32) (word : w = v &&& 0xFF00FFFFFFFF0000)
    (fine : tst w 63 = false ∨ (s.grantClash stack r w = false ∧ regHi w ≤ cellarBytes)) :
    Completes (.celRegionWrite stack r v) s fun t => t.regA stack r = w ∧ t.mem = s.mem ∧ t.rim = s.rim := by
  refine ⟨_, (celRegionWrite_of s stack v region word).trans (if_neg ?_), State.rd_wr_self .., rfl, rfl⟩
  rcases fine with off | ⟨apart, within⟩
  · simp [off]
  · simp [apart, within]

end

/-! ### The strength of the page code (R439, R456) -/

section
variable {s : State} {stack : Nat} {v : W64}

theorem eccCfgWrite_thresholds (same : fld v 1 0 = fld (s.rd (ecccPage stack) 0x080) 1 0) :
    Completes (.eccCfgWrite stack v) s fun t => fld (t.rd (ecccPage stack) 0x080) 15 4 = fld v 15 4
      ∧ fld (t.rd (ecccPage stack) 0x080) 3 0 = fld (s.rd (ecccPage stack) 0x080) 3 0 ∧ t.mem = s.mem := by
  refine ⟨s.wr (ecccPage stack) 0x080 (setFld (s.rd (ecccPage stack) 0x080) 15 4 (fld v 15 4)), if_pos same, ?_, ?_, rfl⟩
  · rw [State.rd_wr_self, fld_setFld _ (by decide) (fld_lt v 15 4)]
  · rw [State.rd_wr_self, fld_setFld_ne _ (by decide) (by decide)]

theorem eccCfgWrite_refused (changes : fld v 1 0 ≠ fld (s.rd (ecccPage stack) 0x080) 1 0) (bad : fld v 1 0 = 3 ∨ s.anyRegion stack = true) :
    TurnedAway (.eccCfgWrite stack v) s (ecccPage stack) 5 :=
  turned_raise ((if_neg changes).trans (if_pos bad)) rfl (by decide)

/-- The fields of the word that starts a recoding. -/
theorem recodeWord_fields {strength thresholds : Nat} (hs : strength < 4) (ht : thresholds < 4096) {x : W64} (word : x = put 15 4 thresholds ||| put 3 3 1 ||| put 1 0 strength) :
    fld x 1 0 = strength ∧ tst x 3 = true ∧ fld x 15 4 = thresholds := by
  subst word
  refine ⟨?_, ?_, ?_⟩
  · rw [fld_or, fld_or, fld_put_ne _ (by decide), fld_put_ne _ (by decide), fld_put _ (by decide) hs]
    simp
  · rw [tst_or, tst_or, tst_put_one (by decide)]
    simp
  · rw [fld_or, fld_or, fld_put_ne (hi := 3) _ (by decide), fld_put_ne (hi := 1) _ (by decide), fld_put _ (by decide) ht]
    simp

theorem eccCfgWrite_recodes (changes : fld v 1 0 ≠ fld (s.rd (ecccPage stack) 0x080) 1 0) (legal : fld v 1 0 ≠ 3) (disabled : s.anyRegion stack = false) :
    Completes (.eccCfgWrite stack v) s fun t => fld (t.rd (ecccPage stack) 0x080) 1 0 = fld v 1 0 ∧ tst (t.rd (ecccPage stack) 0x080) 3 = true
      ∧ fld (t.rd (ecccPage stack) 0x080) 15 4 = fld v 15 4 ∧ t.mem = s.mem := by
  obtain ⟨strength, runs, thresholds⟩ := recodeWord_fields (fld_lt v 1 0) (fld_lt v 15 4) rfl
  refine ⟨_, (if_neg changes).trans (if_neg (by simp [legal, disabled])), ?_, ?_, ?_, rfl⟩
  all_goals rw [State.rd_wr_self]; assumption

theorem recodeDone_idle (idle : tst (s.rd (ecccPage stack) 0x080) 3 = false) (bad : List Nat) : exec (.recodeDone stack bad) s = .next s :=
  if_pos (by simp [idle])

/-- A scrub pass begun with SCRUB_CFG word `w`: at page 0, with no correction counted (R445). -/
def State.scrubBegins (s : State) (stack : Nat) (w : W64) : State :=
  { (s.wr (ecccPage stack) 0x098 w).wrF (ecccPage stack) 0x090 31 16 0 with rim := { s.rim with scrubAt := smSet 0 s.rim.scrubAt stack 0 } }

section
variable (s : State) (stack : Nat) (w : W64)

theorem State.scrubBegins_at : smGet 0 (s.scrubBegins stack w).rim.scrubAt stack = 0 := by simp [State.scrubBegins]

theorem State.scrubBegins_rd (p : PageRef) (o : Nat) :
    (s.scrubBegins stack w).rd p o = ((s.wr (ecccPage stack) 0x098 w).wrF (ecccPage stack) 0x090 31 16 0).rd p o := State.rd_of_regs rfl p o

theorem State.scrubBegins_rate : (s.scrubBegins stack w).rd (ecccPage stack) 0x098 = w := by
  rw [State.scrubBegins_rd, State.rd_wrF_off _ _ _ _ (by decide), State.rd_wr_self]

theorem State.scrubBegins_corrected : (s.scrubBegins stack w).rdF (ecccPage stack) 0x090 31 16 = 0 := by
  rw [State.rdF, State.scrubBegins_rd]
  exact State.rdF_wrF_self _ _ _ (by decide) (by decide)

end

/-- A recoding over starts a first pass (R439, R445). -/
theorem recodeDone_ends (runs : tst (s.rd (ecccPage stack) 0x080) 3 = true) :
    Completes (.recodeDone stack []) s fun t => tst (t.rd (ecccPage stack) 0x080) 3 = false ∧ tst (t.rd (ecccPage stack) 0x098) 63 = true
      ∧ smGet 0 t.rim.scrubAt stack = 0 ∧ t.mem = s.mem := by
  have ends : exec (.recodeDone stack []) s = .next ((s.wr (ecccPage stack) 0x080 (clrBit (s.rd (ecccPage stack) 0x080) 3)).scrubBegins stack
      (setFld (setBit ((s.wr (ecccPage stack) 0x080 (clrBit (s.rd (ecccPage stack) 0x080) 3)).rd (ecccPage stack) 0x098) 63) 15 0 16384)) :=
    if_neg (by simp [runs])
  refine ⟨_, ends, ?_, ?_, State.scrubBegins_at .., rfl⟩
  · rw [State.scrubBegins_rd, State.rd_wrF_off _ _ _ _ (by decide), State.rd_wr_off _ _ (by decide), State.rd_wr_self, tst_clrBit]
  · rw [State.scrubBegins_rate, tst_setFld_ne _ (by decide), tst_setBit _ (by decide)]

end

/-! ### Scrubbing (R444, R445, R570) -/

section
variable {s : State} {stack : Nat}

theorem scrubRead_overdue {x : Nat} (due : s.scrubDue stack = some x) (whole : s.spareOf stack (x % 2 ^ 26) = none) (e : Nat) :
    exec (.scrubRead stack e) s
      = .next (({ s with rim := { s.rim with scrubLate := s.rim.scrubLate.erase x } } : State).pageRead stack (x % 2 ^ 26) e 0 true).1 := by
  change execScrubRead stack e s = _
  rw [execScrubRead, due]
  refine if_neg ?_
  rw [show State.spareOf { s with rim := { s.rim with scrubLate := s.rim.scrubLate.erase x } } stack (x % 2 ^ 26) = none from whole]
  simp

/-- The scrubber with one page more behind it. -/
def State.scrubOn (s : State) (stack : Nat) : State := { s with rim := { s.rim with scrubAt := smSet 0 s.rim.scrubAt stack (smGet 0 s.rim.scrubAt stack + 1) } }

theorem scrubRead_passOver (none : s.scrubDue stack = none) (past : cellarPages + 8192 ≤ smGet 0 s.rim.scrubAt stack) (e : Nat) :
    exec (.scrubRead stack e) s = .next s := by
  change execScrubRead stack e s = _
  rw [execScrubRead, none]
  exact if_pos past

/-- The scrubber's next page: skipped, put off or read. -/
theorem scrubRead_next (none : s.scrubDue stack = none) (more : smGet 0 s.rim.scrubAt stack < cellarPages + 8192) (e : Nat) {page : Nat}
    (next : page = scrubPage (smGet 0 s.rim.scrubAt stack)) :
    exec (.scrubRead stack e) s =
      if (s.spareOf stack page).isSome = true then .next (s.scrubOn stack)
      else if s.channelRetraining stack page = true
        then .next { s.scrubOn stack with rim := { (s.scrubOn stack).rim with scrubLate := s.rim.scrubLate ++ [stack * 2 ^ 26 + page] } }
      else if s.channelUp stack page = false then .next (s.scrubOn stack)
      else .next ((s.scrubOn stack).pageRead stack page e 0 true).1 := by
  subst next
  change execScrubRead stack e s = _
  rw [execScrubRead, none]
  refine (if_neg (Nat.not_le.mpr more)).trans ?_
  simp only [Bool.not_eq_true']
  rfl

theorem scrubPassEnd_early (early : smGet 0 s.rim.scrubAt stack < cellarPages + 8192) : exec (.scrubPassEnd stack) s = .next s := if_pos early

/-- RATE of the pass that follows one with rate word `w` and `ce` corrections (R445). -/
def scrubRate (w : W64) (ce : Nat) : Nat :=
  if tst w 63 then fld w 15 0
  else if fld w 62 48 < ce then min 16384 (2 * fld w 15 0)
  else if ce ≤ fld w 47 32 then max (min 16384 (max 1 (fld w 31 16))) (fld w 15 0 / 2)
  else fld w 15 0

theorem scrubRate_lt (w : W64) (ce : Nat) : scrubRate w ce < 2 ^ 16 := by
  have rate := fld_lt w 15 0
  unfold scrubRate
  split
  · exact rate
  · split
    · omega
    · split <;> omega

theorem scrubPassEnd_begins (past : cellarPages + 8192 ≤ smGet 0 s.rim.scrubAt stack) :
    exec (.scrubPassEnd stack) s = .next (s.scrubBegins stack (setFld (clrBit (s.rd (ecccPage stack) 0x098) 63) 15 0
      (scrubRate (s.rd (ecccPage stack) 0x098) (s.rdF (ecccPage stack) 0x090 31 16)))) := if_neg (Nat.not_lt.mpr past)

theorem scrubPassEnd_adapts {w : W64} (word : w = s.rd (ecccPage stack) 0x098) (past : cellarPages + 8192 ≤ smGet 0 s.rim.scrubAt stack) :
    Completes (.scrubPassEnd stack) s fun t => smGet 0 t.rim.scrubAt stack = 0 ∧ tst (t.rd (ecccPage stack) 0x098) 63 = false
      ∧ t.rdF (ecccPage stack) 0x090 31 16 = 0 ∧ t.mem = s.mem ∧ fld (t.rd (ecccPage stack) 0x098) 15 0 = scrubRate w (s.rdF (ecccPage stack) 0x090 31 16) := by
  subst word
  refine ⟨_, scrubPassEnd_begins past, State.scrubBegins_at .., ?_, State.scrubBegins_corrected .., rfl, ?_⟩
  · rw [State.scrubBegins_rate, tst_setFld_ne _ (by decide), tst_clrBit]
  · rw [State.scrubBegins_rate]
    exact fld_setFld _ (by decide) (scrubRate_lt ..)

end

/-! ### Retirement (R450) -/

section
variable {s : State} {stack : Nat} {v : W64}

theorem pageRetire_unfitted (empty : s.fitted stack = false) (v : W64) (e : Nat) : exec (.pageRetire stack v e) s = .next s := if_pos (by simp [empty])

theorem pageRetire_noGo (fitted : s.fitted stack = true) (off : tst v 63 = false) (e : Nat) :
    Completes (.pageRetire stack v e) s fun t => t.rdF (ecccPage stack) 0x0A0 25 0 = fld v 25 0 ∧ t.mem = s.mem ∧ t.rim = s.rim :=
  ⟨_, (if_neg (by simp [fitted])).trans (if_pos (by simp [off])), State.rdF_wrF_self _ _ _ (by decide) (fld_lt ..), rfl, rfl⟩

theorem pageRetire_full (fitted : s.fitted stack = true) (go : tst v 63 = true) (unarmed : s.isArmed (ecccPage stack) 3 = false)
    (full : s.freeSpare stack = none) (e : Nat) :
    Completes (.pageRetire stack v e) s fun t => tst (t.rd (ecccPage stack) 0x028) 3 = true
      ∧ t.rd (ecccPage stack) 0x0A0 = (put 62 60 3 ||| put 25 0 (fld v 25 0)) ∧ t.mem = s.mem ∧ t.rim = s.rim := by
  have refused : exec (.pageRetire stack v e) s
      = .next ((s.wr (ecccPage stack) 0x0A0 (put 62 60 3 ||| put 25 0 (fld v 25 0))).raise (ecccPage stack) 3 false) := by
    change execPageRetire stack v e s = _
    simp [execPageRetire, fitted, go, unarmed, full]
  refine ⟨_, refused, State.raise_sets _ _ rfl (by decide), ?_, by simp, by simp⟩
  rw [State.raise_rd_off _ _ (by decide) (by decide), State.rd_wr_self]

/-- The spare that a page leaves, if it is on one, goes DEAD (R450). -/
def State.spareDead (s : State) (stack page : Nat) : State :=
  match s.spareOf stack page with
  | some j => s.setRemap stack j (setBit (s.remapEnt stack j) 61)
  | none => s

theorem State.spareDead_mem (s : State) (stack page : Nat) : (s.spareDead stack page).mem = s.mem := by
  unfold State.spareDead
  split <;> rfl

theorem State.watchDrop_keeps (s : State) (stack page : Nat) : (s.watchDrop stack page).mem = s.mem ∧ (s.watchDrop stack page).rim.cellRemap = s.rim.cellRemap := by
  unfold State.watchDrop
  split <;> exact ⟨rfl, rfl⟩

/-- A page moved to the spare of entry `i`, whole (R450). -/
def State.pageMoved (s : State) (stack page i : Nat) : State :=
  ((s.spareDead stack page).stBytes (cellarEA stack ((reservePage + i) * 2048)) (s.celLd stack (page * 2048) 2048)).setRemap stack i (put 63 63 1 ||| put 25 0 page)

theorem State.pageMoved_mem (s : State) (stack page i : Nat) :
    (s.pageMoved stack page i).mem = (s.stBytes (cellarEA stack ((reservePage + i) * 2048)) (s.celLd stack (page * 2048) 2048)).mem := by
  simp only [State.pageMoved, State.setRemap, State.stBytes, State.spareDead_mem]

theorem State.pageMoved_entry (s : State) (stack page i : Nat) : (s.pageMoved stack page i).remapEnt stack i = (put 63 63 1 ||| put 25 0 page) := by
  simp [State.pageMoved, State.remapEnt, State.setRemap]

theorem pageRetire_moves {i : Nat} (fitted : s.fitted stack = true) (go : tst v 63 = true) (unarmed : s.isArmed (ecccPage stack) 3 = false)
    (free : s.freeSpare stack = some i) (up : s.channelUp stack (fld v 25 0) = true) (whole : s.poisoned stack (fld v 25 0) = false) :
    exec (.pageRetire stack v 0) s = .next (((((s.pageMoved stack (fld v 25 0) i).watchDrop stack (fld v 25 0)).wr (ecccPage stack) 0x0A0
      (put 62 60 1 ||| put 25 0 (fld v 25 0))).raise (ecccPage stack) 2 false).survTouch true) := by
  have noBit : put 62 62 0 = 0 := rfl
  change execPageRetire stack v 0 s = _
  simp [execPageRetire, fitted, go, unarmed, free, up, whole, b2n, noBit, State.pageMoved, State.spareDead] <;> rfl

theorem pageRetire_moved {i : Nat} (fitted : s.fitted stack = true) (go : tst v 63 = true) (unarmed : s.isArmed (ecccPage stack) 3 = false)
    (free : s.freeSpare stack = some i) (up : s.channelUp stack (fld v 25 0) = true) (whole : s.poisoned stack (fld v 25 0) = false) :
    Completes (.pageRetire stack v 0) s fun t =>
      t.mem = (s.stBytes (cellarEA stack ((reservePage + i) * 2048)) (s.celLd stack (fld v 25 0 * 2048) 2048)).mem
        ∧ t.remapEnt stack i = (put 63 63 1 ||| put 25 0 (fld v 25 0)) ∧ tst (t.rd (ecccPage stack) 0x028) 2 = true
        ∧ fld (t.rd (ecccPage stack) 0x0A0) 62 60 = 1 := by
  obtain ⟨mem, remap⟩ := (s.pageMoved stack (fld v 25 0) i).watchDrop_keeps stack (fld v 25 0)
  refine ⟨_, pageRetire_moves fitted go unarmed free up whole, ?_, ?_, State.raise_sets _ _ rfl (by decide), ?_⟩
  · change (State.raise _ _ _ _).mem = _
    rw [State.raise_mem, State.wr_mem, mem, State.pageMoved_mem]
  · change smGet 0 (State.raise _ _ _ _).rim.cellRemap _ = _
    rw [State.raise_rim, State.wr_rim, remap]
    exact s.pageMoved_entry stack _ i
  · change fld (State.rd (State.raise _ _ _ _) _ _) 62 60 = 1
    rw [State.raise_rd_off _ _ (by decide) (by decide), State.rd_wr_self, fld_or, fld_put _ (by decide) (by decide), fld_put_ne _ (by decide)]
    rfl

end

/-! ### Remap entries and the log's head (R448, R451) -/

section
variable {s : State} {stack : Nat} {v : W64}

theorem eccRemapWrite_refused (enabled : s.anyRegion stack = true) : TurnedAway (.eccRemapWrite stack v) s (ecccPage stack) 5 :=
  turned_raise (if_pos (by simp [enabled])) rfl (by decide)

theorem eccRemapWrite_clears {i : Nat} {w : W64} (selected : i = s.rdF (ecccPage stack) 0x0A8 12 0) (word : w = v &&& 0xE000000003FFFFFF)
    (disabled : s.anyRegion stack = false) (off : tst w 63 = false) :
    Completes (.eccRemapWrite stack v) s fun t => t.remapEnt stack i = w ∧ t.mem = s.mem ∧ t.regs = s.regs := by
  subst selected word
  have done : exec (.eccRemapWrite stack v) s = .next (s.setRemap stack (s.rdF (ecccPage stack) 0x0A8 12 0) (v &&& 0xE000000003FFFFFF)) := by
    change execEccRemapWrite stack v s = _
    simp only [execEccRemapWrite, disabled, off, Bool.false_and, Bool.or_false, Bool.false_eq_true, if_false]
  exact ⟨_, done, smGet_smSet_self .., rfl, rfl⟩

variable {head tail h : Nat} (hhead : head = s.rdF (gp .eccg) 0x098 18 0) (htail : tail = s.rdF (gp .eccg) 0x0A0 18 0) (hh : h = fld v 18 0)
include hhead htail hh

theorem logHeadWrite_releases (within : (h + 524288 - head) % 524288 ≤ (tail + 524288 - head) % 524288) :
    Completes (.logHeadWrite v) s fun t => t.rdF (gp .eccg) 0x098 18 0 = h ∧ t.rd (gp .eccg) 0x0A0 = s.rd (gp .eccg) 0x0A0 ∧ t.mem = s.mem := by
  subst hhead htail hh
  refine ⟨_, if_pos within, ?_, State.rd_wr_off _ _ (by decide), rfl⟩
  rw [State.rdF, State.rd_wr_self, fld_put _ (by decide) (fld_lt v 18 0)]

theorem logHeadWrite_passes (past : (tail + 524288 - head) % 524288 < (h + 524288 - head) % 524288) :
    TurnedAway (.logHeadWrite v) s (ecccPage (s.rdF (gp .eccg) 0x088 47 37)) 5 := by
  subst hhead htail hh
  exact turned_raise (if_neg (Nat.not_le.mpr past)) rfl (by decide)

end

end Sys2Proof.Machine

namespace Sys2Proof

section
open Machine

/-- Settles O47. The model's choices of log entries 45, 47 and 116 are in it: an unchanged STRENGTH sets the thresholds alone, the first scrub pass hands on its
RATE, a refused LOG_HEAD shows in the ECC page of the log's stack, and a ring access takes effect when its command comes. -/
theorem cellarPages : Obligations.CellarPages := by
  unfold Obligations.CellarPages
  refine ⟨fun s k => ⟨fun absent => ⟨cellarAccess_absent absent, ringReservation_absent absent⟩, fun a there => ⟨?_, ?_, ?_, ?_⟩⟩, ?_,
    fun s stack => ⟨rfl, ?_, ?_, ?_, ?_, ?_, ?_, ?_, ?_, ?_⟩, ?_⟩
  · exact fun e waits => cellarAccess_waits there waits e
  · exact fun e g r first serves result => cellarAccess_performed there first serves result
  · exact fun head => ⟨_, ringReservation_placed there head, rfl, rfl⟩
  · exact ringReservation_behind there
  · intro s stack off len data suite src errs unarmed
    refine ⟨fun beyond => ?_, fun within denied t after => State.cellarAccess_notes unarmed within denied after⟩
    rw [State.cellarAccess_beyond beyond]
    exact ⟨rfl, rfl⟩
  · intro r v w word region
    refine ⟨fun enables above => celRegionWrite_refused region word enables (.inr above), fun off => celRegionWrite_taken region word (.inl off),
      fun _ within alone => ?_, fun q enables hq other enabled spans spans' below above =>
        celRegionWrite_refused region word enables (.inl (State.grantClash_of hq other enabled spans spans' below above))⟩
    obtain ⟨t, done, holds, mem, _⟩ := celRegionWrite_taken region word (.inr ⟨State.grantClash_alone alone, within⟩)
    exact ⟨t, done, holds, mem⟩
  · rintro v p rfl
    exact ⟨eccCfgWrite_thresholds, eccCfgWrite_refused, eccCfgWrite_recodes⟩
  · exact recodeDone_idle
  · exact recodeDone_ends
  · rintro e n rfl
    refine ⟨fun x due whole => scrubRead_overdue due whole e, fun none past => scrubRead_passOver none past e, ?_⟩
    rintro none more g rfl
    rw [scrubRead_next none more e rfl]
    refine ⟨?_, fun whole retrains => ?_, fun whole up serves => ?_⟩
    · rintro (moved | ⟨down, serves⟩)
      · rw [if_pos moved]
        rfl
      · simp only [serves, down, Bool.false_eq_true, if_false, if_true, ite_self]
        rfl
    · rw [if_neg (by simp [whole]), if_pos retrains]
      rfl
    · rw [if_neg (by simp [whole]), if_neg (by simp [serves]), if_neg (by simp [up])]
      rfl
  · rintro p w rfl rfl
    refine ⟨scrubPassEnd_early, fun past => ?_⟩
    obtain ⟨t, done, begins, later, cleared, mem, rate⟩ := scrubPassEnd_adapts rfl past
    refine ⟨t, done, begins, later, cleared, mem, fun notFirst many => ?_, fun first => ?_⟩
    · rw [rate, scrubRate, notFirst, if_neg Bool.false_ne_true, if_pos many]
    · rw [rate, scrubRate, if_pos first]
  · exact pageRetire_unfitted
  · refine fun fitted v e => ⟨fun off => pageRetire_noGo fitted off e, fun go unarmed full => pageRetire_full fitted go unarmed full e, ?_⟩
    rintro i go unarmed free rfl up whole
    exact pageRetire_moved fitted go unarmed free up whole
  · exact fun v i w selected word => ⟨eccRemapWrite_refused, eccRemapWrite_clears selected word⟩
  · exact fun s v head tail h hhead htail hh => ⟨logHeadWrite_releases hhead htail hh, logHeadWrite_passes hhead htail hh⟩

end

end Sys2Proof

/-! ## Chutes (O48): what the operations of a Chute keep of it, then its commands -/

namespace Sys2Proof.Machine

/-! ### A Chute in the rim -/

section
variable (s : State) (c : Nat)

theorem State.chute_of_rim {s t : State} (same : t.rim.chu = s.rim.chu) (c : Nat) : t.chute c = s.chute c := by
  rw [State.chute, same, State.chute]

@[simp] theorem State.chute_setChute (x : ChuSt) : (s.setChute c x).chute c = x := by simp [State.chute, State.setChute]
@[simp] theorem State.setChute_mem (x : ChuSt) : (s.setChute c x).mem = s.mem := rfl
@[simp] theorem State.setChute_pkts (x : ChuSt) : (s.setChute c x).pkts = s.pkts := rfl
@[simp] theorem State.setChute_rd (x : ChuSt) (p : PageRef) (o : Nat) : (s.setChute c x).rd p o = s.rd p o := rfl
@[simp] theorem State.setChute_chuRuns (x : ChuSt) : (s.setChute c x).chuRuns c = s.chuRuns c := rfl
@[simp] theorem State.chute_wr (p : PageRef) (o : Nat) (v : W64) : (s.wr p o v).chute c = s.chute c := rfl
@[simp] theorem State.chute_bump (p : PageRef) (o hi lo n : Nat) : (s.bump p o hi lo n).chute c = s.chute c := rfl
@[simp] theorem State.chute_raise (p : PageRef) (bit : Nat) (injected : Bool) : (s.raise p bit injected).chute c = s.chute c :=
  State.chute_of_rim (by simp) c
@[simp] theorem State.chute_capture (p : PageRef) (o : Nat) (v : W64) : (s.capture p o v).chute c = s.chute c := State.chute_of_rim (by simp) c

@[simp] theorem State.setLarder_mem (j : Nat) (l : LarderSlot) : (s.setLarder c j l).mem = s.mem := rfl
@[simp] theorem State.setLarder_pkts (j : Nat) (l : LarderSlot) : (s.setLarder c j l).pkts = s.pkts := rfl
@[simp] theorem State.setLarder_regs (j : Nat) (l : LarderSlot) : (s.setLarder c j l).regs = s.regs := rfl
@[simp] theorem State.setLarder_et (j : Nat) (l : LarderSlot) : (s.setLarder c j l).et = s.et := rfl
@[simp] theorem State.setLarder_rd (j : Nat) (l : LarderSlot) (p : PageRef) (o : Nat) : (s.setLarder c j l).rd p o = s.rd p o := rfl

theorem State.larder_wr (p : PageRef) (o : Nat) (v : W64) (j : Nat) : (s.wr p o v).larder c j = s.larder c j := rfl

theorem State.larder_setLarder (j : Nat) (l : LarderSlot) : (s.setLarder c j l).larder c j = l := by simp [State.larder, State.setLarder]

theorem State.larder_of_slots {s t : State} {c : Nat} (slots : (t.chute c).slots = (s.chute c).slots) (j : Nat) : t.larder c j = s.larder c j := by
  rw [State.larder, slots, State.larder]

end

/-! ### What is kept of a Chute -/

/-- From `s` to `t` Chute `c` keeps its list, its Larder sessions and its registers but those at the offsets `w`; memory and the Hall stand. -/
structure State.ChuKeeps (s : State) (c : Nat) (w : List Nat) (t : State) : Prop where
  mem : t.mem = s.mem
  pkts : t.pkts = s.pkts
  entries : (t.chute c).entries = (s.chute c).entries
  slots : (t.chute c).slots = (s.chute c).slots
  regs : ∀ o, o < 4096 → o ∉ w → t.rd (chuP c) o = s.rd (chuP c) o

section
variable {s t u : State} {c : Nat} {w : List Nat}

theorem State.ChuKeeps.refl (s : State) (c : Nat) (w : List Nat) : s.ChuKeeps c w s := ⟨rfl, rfl, rfl, rfl, fun _ _ _ => rfl⟩

theorem State.ChuKeeps.trans (h : s.ChuKeeps c w t) (k : t.ChuKeeps c w u) : s.ChuKeeps c w u :=
  ⟨k.mem.trans h.mem, k.pkts.trans h.pkts, k.entries.trans h.entries, k.slots.trans h.slots, fun o ho hw => (k.regs o ho hw).trans (h.regs o ho hw)⟩

theorem State.ChuKeeps.mono {v : List Nat} (h : s.ChuKeeps c w t) (more : ∀ o ∈ w, o ∈ v) : s.ChuKeeps c v t :=
  ⟨h.mem, h.pkts, h.entries, h.slots, fun o ho hv => h.regs o ho fun hw => hv (more o hw)⟩

/-- A change of other parts of the state keeps all of a Chute. -/
theorem State.chuKeeps_of (mem : t.mem = s.mem) (pkts : t.pkts = s.pkts) (rim : t.rim.chu = s.rim.chu) (regs : t.regs = s.regs) : s.ChuKeeps c w t :=
  ⟨mem, pkts, by rw [State.chute_of_rim rim], by rw [State.chute_of_rim rim], fun o _ _ => State.rd_of_regs regs _ o⟩

variable (s)

theorem State.chuKeeps_wr {o : Nat} (v : W64) (written : o ∈ w) : s.ChuKeeps c w (s.wr (chuP c) o v) :=
  ⟨rfl, rfl, rfl, rfl, fun _ _ other => s.rd_wr_off v fun same => other (same ▸ written)⟩

theorem State.chuKeeps_setChute {x : ChuSt} (entries : x.entries = (s.chute c).entries) (slots : x.slots = (s.chute c).slots) :
    s.ChuKeeps c w (s.setChute c x) :=
  ⟨rfl, rfl, by rw [State.chute_setChute, entries], by rw [State.chute_setChute, slots], fun _ _ _ => rfl⟩

end

/-! ### Stalls, halts and failures (R311, R344, R349 to R353) -/

section
variable (s : State) (c : Nat)

theorem State.chuStallMsg_only (release : Bool) : (s.chuStallMsg c release).mem = s.mem ∧ (s.chuStallMsg c release).pkts = s.pkts
    ∧ (s.chuStallMsg c release).rim = s.rim ∧ (s.chuStallMsg c release).regs = s.regs := by
  unfold State.chuStallMsg
  split
  · cases release <;> simp
  · simp [State.chuDelay, State.drawNat]

theorem State.chuHalt_only (code : Nat) : (s.chuHalt c code).mem = s.mem ∧ (s.chuHalt c code).pkts = s.pkts
    ∧ (s.chuHalt c code).rim = s.rim ∧ (s.chuHalt c code).regs = s.regs := by
  unfold State.chuHalt
  split
  · simp
  · simp [State.chuDelay, State.drawNat]

theorem State.chuKeeps_stallMsg (w : List Nat) (release : Bool) : s.ChuKeeps c w (s.chuStallMsg c release) := by
  obtain ⟨mem, pkts, rim, regs⟩ := s.chuStallMsg_only c release
  exact State.chuKeeps_of mem pkts (by rw [rim]) regs

theorem State.chuKeeps_halt (w : List Nat) (code : Nat) : s.ChuKeeps c w (s.chuHalt c code) := by
  obtain ⟨mem, pkts, rim, regs⟩ := s.chuHalt_only c code
  exact State.chuKeeps_of mem pkts (by rw [rim]) regs

theorem State.chute_stallMsg (release : Bool) : (s.chuStallMsg c release).chute c = s.chute c :=
  State.chute_of_rim (by rw [(s.chuStallMsg_only c release).2.2.1]) c

theorem State.chute_halt (code : Nat) : (s.chuHalt c code).chute c = s.chute c :=
  State.chute_of_rim (by rw [(s.chuHalt_only c code).2.2.1]) c

/-- A stall released counts its steps. -/
theorem State.chuKeeps_unstall : s.ChuKeeps c [0x0C0] (s.chuUnstall c) := by
  unfold State.chuUnstall
  split
  · exact (s.chuKeeps_wr _ (by decide)).trans (State.chuKeeps_stallMsg ..)
  · exact .refl ..

theorem State.chute_unstall : (s.chuUnstall c).chute c = s.chute c := by
  unfold State.chuUnstall
  split
  · rw [State.chute_stallMsg, State.chute_wr]
  · rfl

theorem State.chuKeeps_fed : s.ChuKeeps c [0x0C0] (s.chuFed c) := by
  unfold State.chuFed
  dsimp only
  split
  · exact s.chuKeeps_unstall c
  · exact (s.chuKeeps_unstall c).trans (State.chuKeeps_setChute _ (by rw [State.chute_unstall]) (by rw [State.chute_unstall]))

/-- A Chute that is fed neither starves nor stalls. -/
theorem State.chuFed_over : ((s.chuFed c).chute c).starve = none ∧ ((s.chuFed c).chute c).stalled = none := by
  unfold State.chuFed
  dsimp only
  split
  · next ended => rwa [State.chute_unstall]
  · rw [State.chute_setChute]
    exact ⟨rfl, rfl⟩

theorem State.chuKeeps_state (st : Nat) : s.ChuKeeps c [0x088, 0x0C0] (s.chuState c st) := s.chuKeeps_wr _ (by decide)

theorem State.chuState_shows {st : Nat} (h : st < 8) : (s.chuState c st).rdF (chuP c) 0x088 63 61 = st := s.rdF_wrF_self _ _ (by decide) h

theorem State.chuKeeps_stop (code : Nat) : s.ChuKeeps c [0x088, 0x0C0] (s.chuStop c code) :=
  ((s.chuKeeps_state c 3).trans ((State.chuKeeps_fed _ c).mono (by simp))).trans (State.chuKeeps_halt ..)

/-- A Chute that stops shows FAILED, and its starvation is over. -/
theorem State.chuStop_failed (code : Nat) : (s.chuStop c code).rdF (chuP c) 0x088 63 61 = 3 ∧ ((s.chuStop c code).chute c).starve = none
    ∧ ((s.chuStop c code).chute c).stalled = none := by
  obtain ⟨starve, stalled⟩ := (s.chuState c 3).chuFed_over c
  rw [State.chuStop, State.chute_halt]
  refine ⟨?_, starve, stalled⟩
  rw [State.rdF, (State.chuKeeps_halt _ c [] code).regs _ (by decide) (by simp), (State.chuKeeps_fed _ c).regs _ (by decide) (by decide)]
  exact s.chuState_shows c (by decide)

/-- The event of a failure captured, raised and recorded; the Chute has still to stop. -/
def State.chuFault (bit : Nat) (w : W64) (injected : Bool) : State :=
  ((s.capture (chuP c) 0x0B0 w).raise (chuP c) bit injected).record (chuP c) (bit + 1) 1 injected false true
    (((s.capture (chuP c) 0x0B0 w).raise (chuP c) bit injected).chuSuite c) noRef (setBit w 31)

theorem State.chuFail_of (bit detail index stream : Nat) (injected : Bool) : s.chuFail c bit detail index stream injected
    = (s.chuFault c bit (chuWhere (bit + 1) detail index stream) injected).chuStop c (Page.chu.cls * 256 + bit + 1) := rfl

theorem State.chuFault_only (bit : Nat) (w : W64) (injected : Bool) : (s.chuFault c bit w injected).mem = s.mem ∧ (s.chuFault c bit w injected).pkts = s.pkts
    ∧ (s.chuFault c bit w injected).rim = s.rim := by simp [State.chuFault]

/-- A failure shows its event and FAILED, ends a starvation, and leaves the list, the sessions, memory and the Hall. -/
theorem State.chuFail_fails {bit : Nat} (small : bit < 7) (detail index stream : Nat) (injected : Bool) {t : State}
    (after : t = s.chuFail c bit detail index stream injected) : tst (t.rd (chuP c) 0x028) bit = true ∧ t.rdF (chuP c) 0x088 63 61 = 3 ∧ t.mem = s.mem
      ∧ t.pkts = s.pkts ∧ (t.chute c).entries = (s.chute c).entries ∧ (t.chute c).slots = (s.chute c).slots ∧ (t.chute c).starve = none
      ∧ (t.chute c).stalled = none := by
  subst after
  rw [State.chuFail_of]
  generalize chuWhere (bit + 1) detail index stream = w
  obtain ⟨mem, pkts, rim⟩ := s.chuFault_only c bit w injected
  have same : (s.chuFault c bit w injected).chute c = s.chute c := State.chute_of_rim (by rw [rim]) c
  obtain ⟨failed, starve, stalled⟩ := (s.chuFault c bit w injected).chuStop_failed c (Page.chu.cls * 256 + bit + 1)
  have kept := (s.chuFault c bit w injected).chuKeeps_stop c (Page.chu.cls * 256 + bit + 1)
  refine ⟨?_, failed, kept.mem.trans mem, kept.pkts.trans pkts, by rw [kept.entries, same], by rw [kept.slots, same], starve, stalled⟩
  rw [kept.regs _ (by decide) (by decide), State.chuFault, State.record_rd]
  exact State.raise_sets _ _ rfl (by omega)

theorem State.chuKeeps_show : s.ChuKeeps c [0x088, 0x0C0] (s.chuShow c) := s.chuKeeps_wr _ (by decide)

theorem State.chute_show : (s.chuShow c).chute c = s.chute c := rfl

theorem State.chuShow_state : (s.chuShow c).rdF (chuP c) 0x088 63 61 = s.rdF (chuP c) 0x088 63 61 := by
  rw [State.rdF, State.chuShow, State.wrF, State.rd_wr_self, fld_setFld_ne _ (by decide) (by decide), State.rdF]

/-- What watching for a starvation does: nothing more, the start of one, or its end (R351 to R353). -/
theorem State.chuWatch_cases : s.chuWatch c = s ∨ s.chuWatch c = s.setChute c { s.chute c with starve := some s.et, told := false }
    ∨ s.chuWatch c = if (s.chuFed c).rdF (chuP c) 0x088 63 61 = 2 then (s.chuFed c).chuState c 1 else s.chuFed c := by
  unfold State.chuWatch
  dsimp only
  generalize (s.chuStarves c || _) = wait
  cases wait with
  | true =>
    cases (s.chute c).starve with
    | some _ => exact .inl rfl
    | none => exact .inr (.inl rfl)
  | false => exact .inr (.inr rfl)

theorem State.chuKeeps_watch : s.ChuKeeps c [0x088, 0x0C0] (s.chuWatch c) := by
  rcases s.chuWatch_cases c with same | starts | ends
  · rw [same]
    exact .refl ..
  · rw [starts]
    exact s.chuKeeps_setChute rfl rfl
  · have fed : s.ChuKeeps c [0x088, 0x0C0] (s.chuFed c) := (s.chuKeeps_fed c).mono (by simp)
    rw [ends]
    split
    · exact fed.trans (State.chuKeeps_state ..)
    · exact fed

/-- It changes STATE of a starved Chute alone. -/
theorem State.chuWatch_state (fed : s.rdF (chuP c) 0x088 63 61 ≠ 2) : (s.chuWatch c).rdF (chuP c) 0x088 63 61 = s.rdF (chuP c) 0x088 63 61 := by
  have same : (s.chuFed c).rdF (chuP c) 0x088 63 61 = s.rdF (chuP c) 0x088 63 61 := by
    rw [State.rdF, (s.chuKeeps_fed c).regs _ (by decide) (by decide), State.rdF]
  rcases s.chuWatch_cases c with stays | starts | ends
  · rw [stays]
  · rw [starts]
    rfl
  · rw [ends, if_neg (by rwa [same]), same]

end

/-! ### Enabling and disabling (R344, R345, R366) -/

section
variable {s : State} {c : Nat} (hc : c < 32) {v : W64}
include hc

omit hc in
theorem chuteEnable_off (off : tst v 63 = false) : exec (.chuteEnable c v) s = .next s := if_pos (by simp [off])

omit hc in
theorem chuteDisable_on (on : tst v 63 = true) : exec (.chuteDisable c v) s = .next s := if_pos on

theorem chuteEnable_again (on : tst v 63 = true) (enabled : tst (s.rd (chuP c) 0x080) 63 = true) (same : fld v 37 32 = s.chuSuite c) :
    exec (.chuteEnable c v) s = .next s := by
  change execChuteEnable c v s = _
  unfold execChuteEnable
  rw [Nat.mod_eq_of_lt hc]
  exact (if_neg (by simp [on])).trans ((if_pos enabled).trans (if_pos same))

theorem chuteEnable_refused (on : tst v 63 = true) (enabled : tst (s.rd (chuP c) 0x080) 63 = true) (other : fld v 37 32 ≠ s.chuSuite c) :
    TurnedAway (.chuteEnable c v) s (chuP c) 6 := by
  refine turned_capture (off := 0x0B0) (w := chuWhere 0x07 0 0 0) (injected := false) ?_ (fun _ => rfl) (by decide)
  change execChuteEnable c v s = _
  unfold execChuteEnable
  rw [Nat.mod_eq_of_lt hc]
  exact (if_neg (by simp [on])).trans ((if_pos enabled).trans (if_neg other))

theorem chuteDisable_refused (off : tst v 63 = false) (enabled : tst (s.rd (chuP c) 0x080) 63 = true) (other : fld v 37 32 ≠ s.chuSuite c) :
    TurnedAway (.chuteDisable c v) s (chuP c) 6 := by
  refine turned_capture (off := 0x0B0) (w := chuWhere 0x07 0 0 0) (injected := false) ?_ (fun _ => rfl) (by decide)
  change execChuteDisable c v s = _
  unfold execChuteDisable
  rw [Nat.mod_eq_of_lt hc]
  exact (if_neg (by simp [off])).trans (if_pos ⟨enabled, other⟩)

section
omit hc

/-- CHU_CTRL written with word `w` and its SCH_OK, and STATE set to `st`. -/
def State.chuCtrl (s : State) (c : Nat) (w : W64) (st : Nat) : State :=
  ((s.wr (chuP c) 0x080 w).wrF (chuP c) 0x080 62 62 (b2n ((s.wr (chuP c) 0x080 w).schOk c))).chuState c st

/-- A Chute at rest, with its Larder sessions. -/
def State.chuCleared (s : State) (c : Nat) : State := s.setChute c { ChuSt.empty with slots := (s.chute c).slots }

variable (s) (c) (w : W64) (st : Nat)

theorem State.chuCtrl_ctrl : (s.chuCtrl c w st).rd (chuP c) 0x080 = setFld w 62 62 (b2n ((s.wr (chuP c) 0x080 w).schOk c)) := by
  rw [State.chuCtrl, State.chuState, State.rd_wrF_off _ _ _ _ (by decide), State.wrF, State.rd_wr_self, State.rd_wr_self]

theorem State.chuCtrl_state (small : st < 8) : (s.chuCtrl c w st).rdF (chuP c) 0x088 63 61 = st := State.chuState_shows _ c small

theorem State.chute_cleared : (s.chuCleared c).chute c = { ChuSt.empty with slots := (s.chute c).slots } := State.chute_setChute ..

end

theorem chuteEnable_starts (on : tst v 63 = true) (disabled : tst (s.rd (chuP c) 0x080) 63 = false) : Completes (.chuteEnable c v) s fun t =>
    tst (t.rd (chuP c) 0x080) 63 = true ∧ t.chuSuite c = fld v 37 32 ∧ t.rdF (chuP c) 0x088 63 61 = 1 ∧ (t.chute c).entries = []
      ∧ (t.chute c).slots = (s.chute c).slots ∧ t.mem = s.mem ∧ t.pkts = s.pkts := by
  have starts : exec (.chuteEnable c v) s = .next (((s.chuCtrl c (put 63 63 1 ||| put 37 32 (fld v 37 32)) 1).chuCleared c).chuWatch c) := by
    change execChuteEnable c v s = _
    unfold execChuteEnable
    rw [Nat.mod_eq_of_lt hc]
    exact (if_neg (by simp [on])).trans (if_neg (by simp [disabled]))
  generalize word : put 63 63 1 ||| put 37 32 (fld v 37 32) = w at starts
  have enabled : tst w 63 = true := by rw [← word, tst_or, tst_put_one (by decide), Bool.true_or]
  have granted : fld w 37 32 = fld v 37 32 := by rw [← word, fld_or, fld_put_ne _ (by decide), fld_put _ (by decide) (fld_lt v 37 32), Nat.zero_or]
  have state := s.chuCtrl_state c w 1 (by decide)
  have kept := ((s.chuCtrl c w 1).chuCleared c).chuKeeps_watch c
  have ctrl := (kept.regs 0x080 (by decide) (by decide)).trans (s.chuCtrl_ctrl c w 1)
  refine ⟨_, starts, ?_, ?_, ?_, ?_, ?_, kept.mem, kept.pkts⟩
  · rw [ctrl, tst_setFld_ne _ (by decide), enabled]
  · rw [State.chuSuite, State.rdF, ctrl, fld_setFld_ne _ (by decide) (by decide), granted]
  · exact (State.chuWatch_state _ _ (by change State.rdF (s.chuCtrl c w 1) _ _ _ _ ≠ 2; omega)).trans state
  · rw [kept.entries, State.chute_cleared]
    rfl
  · rw [kept.slots, State.chute_cleared]
    rfl

/-- A disabled Chute waits at no Latch. -/
def State.chuWaitsGone (s : State) (c : Nat) : State :=
  { s with glatch := s.glatch.foldl (fun (m : SMap Latch) (e : Nat × Latch) =>
      smSet Latch.clear m e.1 { e.2 with waits := e.2.waits.filter fun w => w.who ≠ Waiter.chute c }) s.glatch }

omit hc in
/-- What a disabled Chute gives up is no memory and no packet. -/
theorem State.chuRest_only (s : State) (c : Nat) (w : W64) (st : Nat) : ((((s.chuCtrl c w st).chuWaitsGone c).chuCleared c).chuShow c).mem = s.mem
    ∧ ((((s.chuCtrl c w st).chuWaitsGone c).chuCleared c).chuShow c).pkts = s.pkts := ⟨rfl, rfl⟩

omit hc in
theorem State.chuRest_rd (s : State) (c : Nat) (w : W64) (st : Nat) : ((((s.chuCtrl c w st).chuWaitsGone c).chuCleared c).chuShow c).rd (chuP c) 0x080
    = setFld w 62 62 (b2n ((s.wr (chuP c) 0x080 w).schOk c)) :=
  ((State.chuKeeps_show _ c).regs _ (by decide) (by decide)).trans (s.chuCtrl_ctrl c w st)

omit hc in
theorem State.chuRest_state (s : State) (c : Nat) (w : W64) {st : Nat} (small : st < 8) :
    ((((s.chuCtrl c w st).chuWaitsGone c).chuCleared c).chuShow c).rdF (chuP c) 0x088 63 61 = st :=
  (State.chuShow_state _ c).trans (s.chuCtrl_state c w st small)

omit hc in
theorem State.chuRest_chute (s : State) (c : Nat) (w : W64) (st : Nat) : ((((s.chuCtrl c w st).chuWaitsGone c).chuCleared c).chuShow c).chute c
    = { ChuSt.empty with slots := (s.chute c).slots } := by
  rw [State.chute_show, State.chute_cleared]
  rfl

theorem chuteDisable_stops (off : tst v 63 = false) (granted : tst (s.rd (chuP c) 0x080) 63 = false ∨ fld v 37 32 = s.chuSuite c) :
    exec (.chuteDisable c v) s = .next (((((s.chuUnstall c).chuCtrl c (put 37 32 (fld v 37 32)) 0).chuWaitsGone c).chuCleared c).chuShow c) := by
  change execChuteDisable c v s = _
  unfold execChuteDisable
  rw [Nat.mod_eq_of_lt hc]
  refine (if_neg (by simp [off])).trans ((if_neg ?_).trans rfl)
  rintro ⟨enabled, other⟩
  rcases granted with disabled | same
  · rw [enabled] at disabled
    cases disabled
  · exact other same

theorem chuteDisable_empties (off : tst v 63 = false) (granted : tst (s.rd (chuP c) 0x080) 63 = false ∨ fld v 37 32 = s.chuSuite c) :
    Completes (.chuteDisable c v) s fun t => tst (t.rd (chuP c) 0x080) 63 = false ∧ t.rdF (chuP c) 0x088 63 61 = 0 ∧ (t.chute c).entries = []
      ∧ (t.chute c).slots = (s.chute c).slots ∧ (t.chute c).stalled = none ∧ t.mem = s.mem ∧ t.pkts = s.pkts := by
  have stops := chuteDisable_stops hc off granted
  generalize word : put 37 32 (fld v 37 32) = w at stops
  have disabled : tst w 63 = false := by rw [← word, tst_fld, fld_put_ne _ (by decide)]; rfl
  have kept := s.chuKeeps_unstall c
  obtain ⟨mem, pkts⟩ := (s.chuUnstall c).chuRest_only c w 0
  have chute := (s.chuUnstall c).chuRest_chute c w 0
  refine ⟨_, stops, ?_, State.chuRest_state _ c w (by decide), by rw [chute]; rfl, by rw [chute]; exact kept.slots, by rw [chute]; rfl, mem.trans kept.mem,
    pkts.trans kept.pkts⟩
  rw [State.chuRest_rd, tst_setFld_ne _ (by decide), disabled]

theorem chuListTailWrite_appends (v : W64) : Completes (.chuListTailWrite c v) s fun t =>
    t.rd (chuP c) 0x0A0 = put 19 0 (fld v 19 0) ∧ (t.chute c).entries = (s.chute c).entries ∧ t.mem = s.mem ∧ t.pkts = s.pkts := by
  have appends : exec (.chuListTailWrite c v) s = .next ((s.wr (chuP c) 0x0A0 (put 19 0 (fld v 19 0))).chuWatch c) := by
    change execChuListTailWrite c v s = _
    rw [execChuListTailWrite, Nat.mod_eq_of_lt hc]
  have kept := (s.wr (chuP c) 0x0A0 (put 19 0 (fld v 19 0))).chuKeeps_watch c
  exact ⟨_, appends, (kept.regs _ (by decide) (by decide)).trans (s.rd_wr_self ..), kept.entries, kept.mem, kept.pkts⟩

end

/-! ### The list (R345, R346, R349, R350) -/

section
variable {s : State} {c k : Nat} {errs : List Nat} {cmd : Instr}

/-- The commands that take an entry, each with the KIND it takes. -/
theorem chuTake_of (hc : c < 32) (takes : (k, cmd) ∈ [(0, Instr.mark c errs), (1, .cellar c errs), (2, .larder c errs), (3, .gate c errs)])
    (free : k = 3 → (s.chute c).gating = false) : exec cmd s = .next (s.chuTake c k errs) := by
  have same := Nat.mod_eq_of_lt hc
  simp only [List.mem_cons, Prod.mk.injEq, List.not_mem_nil, or_false] at takes
  rcases takes with ⟨rfl, rfl⟩ | ⟨rfl, rfl⟩ | ⟨rfl, rfl⟩ | ⟨rfl, rfl⟩
  · change execMark c errs s = _
    rw [execMark, same]
  · change execCellar c errs s = _
    rw [execCellar, same]
  · change execLarder c errs s = _
    rw [execLarder, same]
  · change execGate c errs s = _
    unfold execGate
    rw [same]
    exact if_neg (by simp [free rfl])

theorem gate_held (hc : c < 32) (held : (s.chute c).gating = true) :
    exec (.gate c errs) s = .next ((s.chuGo c ((s.chute c).entries.length + 1)).chuWatch c) := by
  change execGate c errs s = _
  unfold execGate
  rw [Nat.mod_eq_of_lt hc]
  exact if_pos held

theorem State.chuTake_nothing (nothing : s.chuRuns c = false ∨ (s.chute c).gating = true
    ∨ (s.chuHead c + (s.chute c).entries.length) % s.chuSize c = s.chuTail c) : s.chuTake c k errs = s := by
  have fetch : s.chuFetch c errs = (s, none, .ok []) := by
    refine if_pos ?_
    rcases nothing with stopped | held | none
    · simp [stopped]
    · simp [held]
    · simp [none]
  rw [State.chuTake, fetch]

/-- A Chute whose list is one entry just read. -/
def State.chuHolds (s : State) (c idx : Nat) (w : List W64) (gating : Bool) : State :=
  s.setChute c { s.chute c with entries := [⟨idx, w, [], [], 0, 0, s.chuSch c⟩], gating }

theorem State.chuHolds_entries (s : State) (c idx : Nat) (w : List W64) (gating : Bool) :
    ((s.chuHolds c idx w gating).chute c).entries = [⟨idx, w, [], [], 0, 0, s.chuSch c⟩] := by simp [State.chuHolds]

section
variable {g : State} {idx : Nat} {w : List W64} {r : CelRes}

theorem State.chuTake_unread (fetch : s.chuFetch c errs = (g, some (idx, []), r)) (unarmed : g.isArmed (chuP c) 2 = false) :
    s.chuTake c k errs = g.chuFail c 2 r.detail idx 0 false := by
  simp [State.chuTake, fetch, unarmed]

theorem State.chuTake_injected (fetch : s.chuFetch c errs = (g, some (idx, []), r)) (armed : g.isArmed (chuP c) 2 = true) (ue : r = .eccUe) :
    s.chuTake c k errs = (g.disarm (chuP c) 2).chuFail c 2 2 idx 0 true := by
  simp [State.chuTake, fetch, armed, ue, CelRes.detail]

variable (fetch : s.chuFetch c errs = (g, some (idx, w), r)) (words : w ≠ [])
include fetch words

theorem State.chuTake_other (other : eKind w ≠ k) : s.chuTake c k errs = s := by simp [State.chuTake, fetch, words, other]

variable (kind : eKind w = k) (unarmed : g.isArmed (chuP c) 3 = false)
include kind unarmed

theorem State.chuTake_bad {d : Nat} (bad : g.chuBad c w = some d) : s.chuTake c k errs = g.chuFail c 3 d idx 0 false := by
  simp [State.chuTake, fetch, words, kind, unarmed, bad]

/-- A good entry enters the list, here as its only one. -/
theorem State.chuTake_enters (good : g.chuBad c w = none) (alone : (g.chute c).entries = []) :
    s.chuTake c k errs = ((g.chuHolds c idx w ((g.chute c).gating || decide (k = 3))).chuGo c 1).chuWatch c := by
  simp [State.chuTake, fetch, words, kind, unarmed, good, alone, State.chuHolds]

end

/-! ### The list moved on -/

section
variable {e : ChuEntry} {l : List ChuEntry}

theorem State.chuGo_empty (s : State) (none : (s.chute c).entries = []) (fuel : Nat) : s.chuGo c fuel = s := by
  cases fuel with
  | zero => rfl
  | succ fuel => simp [State.chuGo, none]

/-- A MARK counted and raised (R346). -/
def State.chuMarked (s : State) (c idx : Nat) : State :=
  ((s.bump (chuP c) 0x0C8 31 0 1).capture (chuP c) 0x0B0 (chuWhere 0x06 0 idx 0)).raise (chuP c) 5 false

theorem State.chuGo_mark (runs : s.chuRuns c = true) (front : (s.chute c).entries = e :: l) (mark : eKind e.words = 0) (fuel : Nat) :
    s.chuGo c (fuel + 1) = ((s.chuMarked c e.idx).chuDrop c).chuGo c fuel := by
  simp [State.chuGo, runs, front, mark, State.chuMarked]

theorem State.chuGo_source (front : (s.chute c).entries = e :: l) (source : eKind e.words = 1 ∨ eKind e.words = 2)
    (begins : e.sent = 0) (fuel : Nat) : s.chuGo c fuel = s := by
  cases fuel with
  | zero => rfl
  | succ fuel => rcases source with kind | kind <;> simp [State.chuGo, front, kind, begins]

theorem State.chuMarked_rd (s : State) (c idx : Nat) {o : Nat} (other : o ∉ [0x028, 0x040, 0x0B0, 0x0C8]) : (s.chuMarked c idx).rd (chuP c) o = s.rd (chuP c) o := by
  simp only [List.mem_cons, List.not_mem_nil, or_false, not_or] at other
  obtain ⟨event, count, where_, marks⟩ := other
  rw [State.chuMarked, State.raise_rd_off _ _ event count, State.capture_rd_off _ _ where_, State.rd_bump_off _ _ _ _ marks]

theorem State.chute_marked (s : State) (c idx : Nat) : (s.chuMarked c idx).chute c = s.chute c := by simp [State.chuMarked]

theorem State.chuDrop_head (s : State) (c : Nat) : (s.chuDrop c).rd (chuP c) 0x098 = put 19 0 ((s.chuHead c + 1) % s.chuSize c) := State.rd_wr_self ..

theorem State.chuDrop_entries (s : State) (c : Nat) : ((s.chuDrop c).chute c).entries = (s.chute c).entries.drop 1 := by simp [State.chuDrop]

theorem State.chuNext_of {s t : State} {c : Nat} (head : t.rd (chuP c) 0x098 = s.rd (chuP c) 0x098) (ring : t.rd (chuP c) 0x090 = s.rd (chuP c) 0x090) :
    (t.chuHead c + 1) % t.chuSize c = (s.chuHead c + 1) % s.chuSize c := by
  rw [State.chuHead, State.chuSize, State.rdF, State.rdF, head, ring]
  rfl

/-- A MARK that is the list's only entry passes (R346). -/
theorem State.mark_passes (runs : s.chuRuns c = true) (alone : (s.chute c).entries = [e]) (mark : eKind e.words = 0) {t : State}
    (after : t = (s.chuGo c 1).chuWatch c) : tst (t.rd (chuP c) 0x028) 5 = true ∧ (t.chute c).entries = []
      ∧ t.rd (chuP c) 0x098 = put 19 0 ((s.chuHead c + 1) % s.chuSize c) ∧ t.mem = s.mem ∧ t.pkts = s.pkts := by
  subst after
  rw [State.chuGo_mark runs alone mark 0]
  have kept := ((s.chuMarked c e.idx).chuDrop c).chuKeeps_watch c
  refine ⟨?_, ?_, ?_, kept.mem.trans (by simp [State.chuDrop, State.chuMarked]), kept.pkts.trans (by simp [State.chuDrop, State.chuMarked])⟩
  · change tst (((s.chuMarked c e.idx).chuDrop c).chuWatch c |>.rd (chuP c) 0x028) 5 = true
    rw [kept.regs _ (by decide) (by decide), State.chuDrop, State.rd_wr_off _ _ (by decide), State.setChute_rd]
    exact State.raise_sets _ _ rfl (by decide)
  · refine kept.entries.trans ?_
    rw [State.chuDrop_entries, State.chute_marked, alone]
    rfl
  · refine (kept.regs _ (by decide) (by decide)).trans ?_
    rw [State.chuDrop_head, State.chuNext_of (s.chuMarked_rd c e.idx (by decide)) (s.chuMarked_rd c e.idx (by decide))]

end

end

/-! ### Source data (R345, R347, R350) -/

section
variable {s : State} {c : Nat} {errs : List Nat}

theorem chuteSourceData_idle (hc : c < 32) (idle : s.chuRuns c = false ∨ firstNeed (s.chute c).entries 0 = none) :
    exec (.chuteSourceData c errs) s = .next s := by
  change execChuteSourceData c errs s = _
  unfold execChuteSourceData
  rw [Nat.mod_eq_of_lt hc]
  rcases idle with stopped | none
  · exact if_pos (by simp [stopped])
  · simp [none]

/-- A Chute's list replaced. -/
def State.chuList (s : State) (c : Nat) (es : List ChuEntry) : State := s.setChute c { s.chute c with entries := es }

theorem State.chuList_entries (s : State) (c : Nat) (es : List ChuEntry) : ((s.chuList c es).chute c).entries = es := by simp [State.chuList]

theorem State.chuList_larder (s : State) (c : Nat) (es : List ChuEntry) (j : Nat) : (s.chuList c es).larder c j = s.larder c j :=
  State.larder_of_slots (by simp [State.chuList]) j

/-- The bytes of packet `m` of entry `k` come into the buffer; of a tile they are folded too. -/
theorem State.chuFill_packet (s : State) (c k : Nat) (e : ChuEntry) (m : Nat) (d : List Byte) (plain : eTile e.words = false) :
    s.chuFill c k e (some m) d = s.chuList c ((s.chute c).entries.set k { e with got := smSet [] e.got m d }) := by
  simp [State.chuFill, plain, State.chuList]

section
variable {k a n : Nat} {e : ChuEntry} {p : Option Nat} (hc : c < 32) (runs : s.chuRuns c = true)
  (needs : firstNeed (s.chute c).entries 0 = some (k, e, a, n, p))
include hc runs needs

theorem chuteSourceData_full (full : s.chuRoomFor c n = false) : exec (.chuteSourceData c errs) s = .next s := by
  change execChuteSourceData c errs s = _
  simp [execChuteSourceData, Nat.mod_eq_of_lt hc, runs, needs, full]

section
variable {st off : Nat} (fits : s.chuRoomFor c n = true) (cellar : eKind e.words = 1) (unarmed : s.isArmed (chuP c) 2 = false)
  (source : s.decodeEa (eSource e.words + a) = .cellar st off)
include fits cellar source

theorem chuteSourceData_waits (waits : s.celWaits st off n = true) : exec (.chuteSourceData c errs) s = .next s := by
  change execChuteSourceData c errs s = _
  simp [execChuteSourceData, Nat.mod_eq_of_lt hc, runs, needs, fits, cellar, source, waits]

variable (serves : s.celWaits st off n = false) {g : State} {r : CelRes}
  (access : s.cellarAccess st off n none (s.chuSuite c) (chuEid c (eRoom e.words)) false errs = (g, r))
include unarmed serves access

theorem chuteSourceData_read {d : List Byte} (read : r = .ok d) :
    exec (.chuteSourceData c errs) s = .next (((g.chuFill c k e p d).chuShow c).chuWatch c) := by
  change execChuteSourceData c errs s = _
  simp [execChuteSourceData, Nat.mod_eq_of_lt hc, runs, needs, fits, cellar, unarmed, source, serves, access, read]

theorem chuteSourceData_fails (failed : ∀ d, r ≠ .ok d) :
    exec (.chuteSourceData c errs) s = .next ((g.chuFail c 2 r.detail e.idx 0 false).chuShow c) := by
  change execChuteSourceData c errs s = _
  simp [execChuteSourceData, Nat.mod_eq_of_lt hc, runs, needs, fits, cellar, unarmed, source, serves, access]

theorem chuteSourceData_fills {d : List Byte} (read : r = .ok d) {m : Nat} (plain : eTile e.words = false) (packet : p = some m) :
    Completes (.chuteSourceData c errs) s fun t => (t.chute c).entries = (g.chute c).entries.set k { e with got := smSet [] e.got m d }
      ∧ t.mem = g.mem ∧ t.pkts = g.pkts := by
  refine ⟨_, chuteSourceData_read hc runs needs fits cellar unarmed source serves access read, ?_⟩
  rw [packet, State.chuFill_packet _ _ _ _ _ _ plain]
  generalize (g.chute c).entries.set k { e with got := smSet [] e.got m d } = l
  have kept := ((g.chuList c l).chuKeeps_show c).trans (State.chuKeeps_watch _ c)
  exact ⟨kept.entries.trans (g.chuList_entries c l), kept.mem, kept.pkts⟩

end

/-! ### Bytes of a Larder (R347, R356) -/

section
omit hc runs needs

theorem State.yazCtl_only (s : State) (n mtype : Nat) (data : List Byte) : (s.yazCtl n mtype data).mem = s.mem ∧ (s.yazCtl n mtype data).pkts = s.pkts
    ∧ (s.yazCtl n mtype data).rim.chu = s.rim.chu ∧ (s.yazCtl n mtype data).regs = s.regs := by
  unfold State.yazCtl
  dsimp only
  split <;> exact ⟨rfl, rfl, rfl, rfl⟩

/-- The session that a CREDIT makes of session `l`. -/
def State.credited (s : State) (c j : Nat) : LarderSlot := { s.larder c j with limit := (s.larder c j).cons + s.lsWindow c j, sentAt := s.et }

theorem State.sendCredit_of (s : State) (c j : Nat) : s.sendCredit c j = (s.setLarder c j (s.credited c j)).yazCtl (s.lsStream c j) 0x40
    (leTo 1 (s.lsSession c j) ++ leTo 8 ((s.larder c j).cons + s.lsWindow c j)) := rfl

theorem State.setLarder_entries (s : State) (c j : Nat) (l : LarderSlot) : ((s.setLarder c j l).chute c).entries = (s.chute c).entries := by
  simp [State.setLarder]

/-- A CREDIT changes LIMIT and the moment of the last CREDIT of the session, and no register. -/
theorem State.sendCredit_only (s : State) (c j : Nat) : (s.sendCredit c j).mem = s.mem ∧ (s.sendCredit c j).pkts = s.pkts ∧ (s.sendCredit c j).regs = s.regs
    ∧ ((s.sendCredit c j).chute c).entries = (s.chute c).entries ∧ (s.sendCredit c j).larder c j = s.credited c j := by
  have only := (s.setLarder c j (s.credited c j)).yazCtl_only (s.lsStream c j) 0x40
    (leTo 1 (s.lsSession c j) ++ leTo 8 ((s.larder c j).cons + s.lsWindow c j))
  rw [← State.sendCredit_of] at only
  obtain ⟨mem, pkts, rim, regs⟩ := only
  have chute := State.chute_of_rim rim c
  refine ⟨mem.trans (State.setLarder_mem ..), pkts.trans (State.setLarder_pkts ..), regs.trans (State.setLarder_regs ..), ?_, ?_⟩
  · rw [chute, State.setLarder_entries]
  · rw [State.larder_of_slots (congrArg ChuSt.slots chute), State.larder_setLarder]

/-- What sending CREDITs leaves of the state and of session `j`. -/
structure State.CreditKeeps (s : State) (c j : Nat) (t : State) : Prop where
  mem : t.mem = s.mem
  pkts : t.pkts = s.pkts
  regs : t.regs = s.regs
  entries : (t.chute c).entries = (s.chute c).entries
  larder : ∃ limit sentAt, t.larder c j = { s.larder c j with limit, sentAt }

theorem State.creditTurn_keeps (s : State) (c j : Nat) : s.CreditKeeps c j (s.creditTurn c j) := by
  unfold State.creditTurn
  dsimp only
  split
  · obtain ⟨mem, pkts, regs, entries, larder⟩ := s.sendCredit_only c j
    exact ⟨mem, pkts, regs, entries, _, _, larder⟩
  · exact ⟨rfl, rfl, rfl, rfl, _, _, rfl⟩

end

section
variable {l : LarderSlot} (session : l = s.larder c (eSlot e.words)) (fits : s.chuRoomFor c n = true) (larder : eKind e.words = 2)
include session fits larder

theorem chuteSourceData_unreleased (unreleased : l.rel < l.cons + n) : exec (.chuteSourceData c errs) s = .next s := by
  subst session
  change execChuteSourceData c errs s = _
  simp only [execChuteSourceData, Nat.mod_eq_of_lt hc, runs, needs, fits, larder, Bool.not_true, Bool.false_eq_true, if_false]
  exact (if_neg (by decide)).trans (if_pos unreleased)

/-- Released bytes leave the session and fill the entry's packet. -/
theorem chuteSourceData_takes (released : l.cons + n ≤ l.rel) {m : Nat} (plain : eTile e.words = false) (packet : p = some m) :
    Completes (.chuteSourceData c errs) s fun t => (t.chute c).entries = (s.chute c).entries.set k { e with got := smSet [] e.got m (l.buf.take n) }
      ∧ (t.larder c (eSlot e.words)).cons = l.cons + n ∧ (t.larder c (eSlot e.words)).buf = l.buf.drop n ∧ t.mem = s.mem ∧ t.pkts = s.pkts := by
  generalize slot : eSlot e.words = j at session
  generalize taken : s.setLarder c j { l with buf := l.buf.drop n, cons := l.cons + n } = g
  have entries : (g.chute c).entries = (s.chute c).entries := by rw [← taken, State.setLarder_entries]
  have session' : g.larder c j = { l with buf := l.buf.drop n, cons := l.cons + n } := by rw [← taken]; exact s.larder_setLarder c j _
  have takes : exec (.chuteSourceData c errs) s = .next ((((g.chuFill c k e p (l.buf.take n)).creditTurn c j).chuShow c).chuWatch c) := by
    subst taken session slot
    change execChuteSourceData c errs s = _
    simp only [execChuteSourceData, Nat.mod_eq_of_lt hc, runs, needs, fits, larder, Bool.not_true, Bool.false_eq_true, if_false]
    exact (if_neg (by decide)).trans (if_neg (Nat.not_lt.mpr released))
  rw [packet, State.chuFill_packet _ _ _ _ _ _ plain, entries] at takes
  generalize filled : (s.chute c).entries.set k { e with got := smSet [] e.got m (l.buf.take n) } = es at takes ⊢
  have credit := (g.chuList c es).creditTurn_keeps c j
  have kept := (((g.chuList c es).creditTurn c j).chuKeeps_show c).trans (State.chuKeeps_watch _ c)
  obtain ⟨limit, sentAt, same⟩ := credit.larder
  have session'' := (State.larder_of_slots kept.slots j).trans same
  rw [State.chuList_larder, session'] at session''
  refine ⟨_, takes, ?_, by rw [session''], by rw [session''], ?_, ?_⟩
  · rw [kept.entries, credit.entries, State.chuList_entries]
  · rw [kept.mem, credit.mem, ← taken]
    rfl
  · rw [kept.pkts, credit.pkts, ← taken]
    rfl

end

end

end

/-! ### The check-value unit of the stream buffer (R413, R433) -/

section
variable (s : State) {c : Nat} (hc : c < 32) (w : List Nat)
include hc

omit hc in
theorem chuP_ne_cvux (c u : Nat) : chuP c ≠ cvuxPage u := fun same => Page.noConfusion (congrArg PageRef.page same)

theorem regKey_chu_cvux {a b : Nat} (ha : a < 4096) (hb : b < 4096) : regKey (chuP c) a ≠ regKey (cvuxPage (64 + c)) b :=
  regKey_page (p := chuP c) (q := cvuxPage (64 + c)) (by change c < 2 ^ 20; omega) (by change 64 + c < 2 ^ 20; omega) ha hb (chuP_ne_cvux c _)

theorem State.chuKeeps_cvux (o : Nat) (v : W64) (ho : o < 4096) : s.ChuKeeps c w (s.wr (cvuxPage (64 + c)) o v) :=
  ⟨rfl, rfl, rfl, rfl, fun _ ha _ => s.rd_wr_key v (regKey_chu_cvux hc ha ho)⟩

theorem State.chuKeeps_item : s.ChuKeeps c w (s.cvuxItem (64 + c)).1 := by
  unfold State.cvuxItem
  dsimp only
  split
  · exact (State.chuKeeps_of (s := s) (t := s.disarm (cvuxPage (64 + c)) 0) rfl rfl rfl rfl).trans (State.chuKeeps_cvux _ hc w 0x088 _ (by decide))
  · exact s.chuKeeps_cvux hc _ 0x088 _ (by decide)

theorem State.chuKeeps_mismatch (key suite : Nat) (halts rec_ injected : Bool) : s.ChuKeeps c w (s.cvuxError (64 + c) key suite halts rec_ injected) := by
  have counted := s.chuKeeps_cvux hc w 0x088 (bumpFld (s.rd (cvuxPage (64 + c)) 0x088) 63 32 1) (by decide)
  have raised : ∀ t : State, t.ChuKeeps c w ((t.capture (cvuxPage (64 + c)) 0x080 (put 63 56 0x01 ||| put 55 32 key)).raise (cvuxPage (64 + c)) 0 injected) :=
    fun t => ⟨by simp, by simp, by simp, by simp, fun _ ha _ => (State.raise_rd _ _ (regKey_chu_cvux hc ha (by decide)) (regKey_chu_cvux hc ha (by decide))).trans
      (t.capture_rd_key _ (regKey_chu_cvux hc ha (by decide)))⟩
  unfold State.cvuxError
  dsimp only
  split
  · exact (counted.trans (raised _)).trans (State.chuKeeps_of rfl rfl rfl rfl)
  · exact counted.trans (raised _)

end

section
variable {s : State} {u : Nat}

theorem State.cvuxItem_unarmed (unarmed : s.isArmed (cvuxPage u) 0 = false) : (s.cvuxItem u).2 = false := unarmed

end

/-! ### Packets (R345, R348, R349, R413) -/

section
variable {s : State} {c : Nat} {bad : Bool}

theorem State.chuJudge_passes (passes : s.chuSch c = false ∨ s.chuRuns c = false ∨ ∀ e, e ∈ (s.chute c).entries → e.sch = true) : s.chuJudge c = (s, true) := by
  refine if_pos ?_
  rcases passes with ela | stopped | judged
  · simp [ela]
  · simp [stopped]
  · simp only [Bool.or_eq_true, List.all_eq_true]
    exact .inr judged

/-- The state in which packet `e.sent` of entry `k` has left; as SCH its port T is busy (R348). -/
def State.chuSent (s : State) (c k : Nat) (e : ChuEntry) (sch : Bool) : State :=
  let p := s.chuPkt c e e.sent sch
  let g := s.injectEdge p.src p
  let g := g.wr (chuP c) 0x0B8 (g.rd (chuP c) 0x0B8 + BitVec.ofNat 64 p.len)
  g.setChute c { s.chute c with
    entries := (s.chute c).entries.set k { e with sent := e.sent + 1, got := smDel e.got e.sent }
    busy := if sch then smSet 0 (s.chute c).busy (chuT c (eRoom e.words)) (g.chuStep c + p.flits) else (s.chute c).busy }

theorem State.chuSent_entries (s : State) (c k : Nat) (e : ChuEntry) (sch : Bool) :
    ((s.chuSent c k e sch).chute c).entries = (s.chute c).entries.set k { e with sent := e.sent + 1, got := smDel e.got e.sent } := by
  rw [State.chuSent, State.chute_setChute]

theorem State.chuSent_rd (s : State) (c k : Nat) (e : ChuEntry) (sch : Bool) {o : Nat} (other : o ≠ 0x0B8) : (s.chuSent c k e sch).rd (chuP c) o = s.rd (chuP c) o :=
  State.rd_wr_off _ _ other

theorem State.chuSent_counted (s : State) (c k : Nat) (e : ChuEntry) (sch : Bool) :
    (s.chuSent c k e sch).rd (chuP c) 0x0B8 = s.rd (chuP c) 0x0B8 + BitVec.ofNat 64 (s.chuPkt c e e.sent sch).len := State.rd_wr_self ..

theorem ChuEntry.total_sent (e : ChuEntry) (n : Nat) (got : SMap (List Byte)) : ({ e with sent := n, got := got } : ChuEntry).total = e.total := rfl

/-- A packet picked leaves; the entry's last packet ends the entry. -/
theorem chutePacket_leaves (hc : c < 32) (bad : Bool) {k : Nat} {e : ChuEntry} (judged : s.chuJudge c = (s, true)) (runs : s.chuRuns c = true)
    (thawed : s.chuSch c = true → s.chuFrozen c = false) (picked : (s.chute c).pick (s.chuSch c) (s.chuStep c) = some k)
    (entry : (s.chute c).entries[k]? = some e) :
    exec (.chutePacket c bad) s = if e.sent + 1 < e.total then .next (((s.chuSent c k e (s.chuSch c)).chuShow c).chuWatch c)
      else .next ((s.chuSent c k e (s.chuSch c)).chuEnd c k { e with sent := e.sent + 1, got := smDel e.got e.sent } bad) := by
  change execChutePacket c bad s = _
  have goes : ¬ ((!s.chuRuns c) = true ∨ s.chuSch c = true ∧ s.chuFrozen c = true) := by simpa [runs] using thawed
  simp only [execChutePacket, Nat.mod_eq_of_lt hc, judged, Bool.not_true, Bool.false_eq_true, if_false, goes, picked, entry, ChuEntry.total_sent, State.chuSent]

theorem chutePacket_idle (hc : c < 32) (bad : Bool) (judged : s.chuJudge c = (s, true))
    (idle : s.chuRuns c = false ∨ (s.chuSch c = true ∧ s.chuFrozen c = true) ∨ (s.chute c).pick (s.chuSch c) (s.chuStep c) = none) :
    exec (.chutePacket c bad) s = .next s := by
  change execChutePacket c bad s = _
  simp only [execChutePacket, Nat.mod_eq_of_lt hc, judged, Bool.not_true, Bool.false_eq_true, if_false]
  rcases idle with stopped | frozen | none
  · exact if_pos (by simp [stopped])
  · exact if_pos (.inr frozen)
  · rw [none]
    exact ite_self _

/-! Which packet goes. -/

theorem ChuSt.pick_none {x : ChuSt} {sch : Bool} {step : Nat}
    (unfit : ∀ e, e ∈ x.entries → e.ready = false ∨ (sch = true ∧ step ≠ eStart e.words + e.sent * eInterval e.words)) : x.pick sch step = none := by
  refine List.find?_eq_none.mpr fun k _ => ?_
  cases entry : x.entries[k]? with
  | none => simp
  | some e => rcases unfit e (List.mem_of_getElem? entry) with unready | ⟨sch, early⟩ <;> simp [*]

/-- As SCH the first ready packet whose step it is. -/
theorem ChuSt.pick_sch {x : ChuSt} {step k : Nat} {e : ChuEntry} (entry : x.entries[k]? = some e) (ready : e.ready = true)
    (due : step = eStart e.words + e.sent * eInterval e.words)
    (first : ∀ j h, j < k → x.entries[j]? = some h → h.ready = false ∨ step ≠ eStart h.words + h.sent * eInterval h.words) : x.pick true step = some k := by
  obtain ⟨within, _⟩ := List.getElem?_eq_some_iff.mp entry
  refine List.find?_range_eq_some.mpr ⟨?_, List.mem_range.mpr within, fun j before => ?_⟩
  · simp [entry, ready, due]
  · cases other : x.entries[j]? with
    | none => rfl
    | some h =>
      rcases first j h before other with unready | early
      · simp [unready]
      · simp [early]

/-- As ELA the front entry's. -/
theorem ChuSt.pick_front {x : ChuSt} (ready : x.ready = true) (step : Nat) : x.pick false step = some 0 := by
  cases entries : x.entries with
  | nil => simp [ChuSt.ready, entries] at ready
  | cons e rest =>
    have front : e.ready = true := by simpa [ChuSt.ready, entries] using ready
    refine List.find?_range_eq_some.mpr ⟨?_, ?_, fun j before => absurd before (Nat.not_lt_zero j)⟩
    · simp [entries, front]
    · simp [entries]

theorem ChuSt.pick_unready {x : ChuSt} (unready : x.ready = false) (step : Nat) : x.pick false step = none := by
  refine List.find?_eq_none.mpr fun k _ => ?_
  cases entries : x.entries with
  | nil => simp
  | cons e rest =>
    have front : e.ready = false := by simpa [ChuSt.ready, entries] using unready
    cases k with
    | zero => simp [front]
    | succ k =>
      cases other : rest[k]? with
      | none => simp [other]
      | some h => simp [other]

theorem State.chuStep_of {u : Suite} (suite : s.suite (s.chuSuite c) = some u) : s.chuStep c = u.step.toNat := by rw [State.chuStep, suite]

theorem State.chuFrozen_of {u : Suite} (suite : s.suite (s.chuSuite c) = some u) : s.chuFrozen c = u.frozen := by rw [State.chuFrozen, suite]

/-- Nothing leaves a Chute without entries, one that does not run, and one that injects as ELA before its front packet is ready. -/
theorem chutePacket_nothing (hc : c < 32) (bad : Bool) (nothing : (s.chute c).entries = [] ∨ s.chuRuns c = false
    ∨ (s.chuSch c = false ∧ (s.chute c).ready = false)) : exec (.chutePacket c bad) s = .next s := by
  rcases nothing with empty | stopped | ⟨ela, unready⟩
  · exact chutePacket_idle hc bad (State.chuJudge_passes (.inr (.inr (by simp [empty])))) (.inr (.inr (ChuSt.pick_none (by simp [empty]))))
  · exact chutePacket_idle hc bad (State.chuJudge_passes (.inr (.inl stopped))) (.inl stopped)
  · exact chutePacket_idle hc bad (State.chuJudge_passes (.inl ela)) (.inr (.inr (by rw [ela]; exact ChuSt.pick_unready unready _)))

/-- Nothing leaves as SCH while the Suite is frozen or no ready packet's step has come. -/
theorem chutePacket_waits (hc : c < 32) (bad : Bool) {u : Suite} (suite : s.suite (s.chuSuite c) = some u) (sch : s.chuSch c = true)
    (judged : ∀ e, e ∈ (s.chute c).entries → e.sch = true)
    (waits : u.frozen = true ∨ ∀ e, e ∈ (s.chute c).entries → e.ready = false ∨ u.step.toNat ≠ eStart e.words + e.sent * eInterval e.words) :
    exec (.chutePacket c bad) s = .next s := by
  refine chutePacket_idle hc bad (State.chuJudge_passes (.inr (.inr judged))) (.inr ?_)
  rcases waits with frozen | early
  · exact .inl ⟨sch, (State.chuFrozen_of suite).trans frozen⟩
  · refine .inr (ChuSt.pick_none fun e there => (early e there).imp_right fun step => ⟨sch, ?_⟩)
    rwa [State.chuStep_of suite]

/-! What is left when it has gone. -/

/-- A packet that is not its entry's last leaves the entry with one packet fewer. -/
theorem chutePacket_more (hc : c < 32) (bad : Bool) {k : Nat} {e : ChuEntry} (judged : s.chuJudge c = (s, true)) (runs : s.chuRuns c = true)
    (thawed : s.chuSch c = true → s.chuFrozen c = false) (picked : (s.chute c).pick (s.chuSch c) (s.chuStep c) = some k)
    (entry : (s.chute c).entries[k]? = some e) (more : e.sent + 1 < e.total) {p : Pkt} (packet : p = s.chuPkt c e e.sent (s.chuSch c)) :
    Completes (.chutePacket c bad) s fun t => t.pkts = (s.injectEdge p.src p).pkts
      ∧ (t.chute c).entries = (s.chute c).entries.set k { e with sent := e.sent + 1, got := smDel e.got e.sent }
      ∧ t.rd (chuP c) 0x0B8 = s.rd (chuP c) 0x0B8 + BitVec.ofNat 64 p.len ∧ t.rd (chuP c) 0x098 = s.rd (chuP c) 0x098 ∧ t.mem = s.mem := by
  subst packet
  have leaves := (chutePacket_leaves hc bad judged runs thawed picked entry).trans (if_pos more)
  have kept := ((s.chuSent c k e (s.chuSch c)).chuKeeps_show c).trans (State.chuKeeps_watch _ c)
  exact ⟨_, leaves, kept.pkts, kept.entries.trans (s.chuSent_entries c k e _), (kept.regs _ (by decide) (by decide)).trans (s.chuSent_counted c k e _),
    (kept.regs _ (by decide) (by decide)).trans (s.chuSent_rd c k e _ (by decide)), kept.mem⟩

/-- As SCH the first ready packet leaves at its step (R348). -/
theorem chutePacket_due (hc : c < 32) (bad : Bool) {u : Suite} {k : Nat} {e : ChuEntry} {p : Pkt} (suite : s.suite (s.chuSuite c) = some u)
    (sch : s.chuSch c = true) (runs : s.chuRuns c = true) (judged : ∀ e, e ∈ (s.chute c).entries → e.sch = true) (thawed : u.frozen = false)
    (entry : (s.chute c).entries[k]? = some e) (ready : e.ready = true) (due : u.step.toNat = eStart e.words + e.sent * eInterval e.words)
    (first : ∀ j h, j < k → (s.chute c).entries[j]? = some h → h.ready = false ∨ u.step.toNat ≠ eStart h.words + h.sent * eInterval h.words)
    (packet : p = s.chuPkt c e e.sent true) (more : e.sent + 1 < e.total) : Completes (.chutePacket c bad) s fun t =>
      t.pkts = (s.injectEdge p.src p).pkts ∧ t.mem = s.mem
        ∧ (t.chute c).entries = (s.chute c).entries.set k { e with sent := e.sent + 1, got := smDel e.got e.sent } := by
  have picked : (s.chute c).pick (s.chuSch c) (s.chuStep c) = some k := by
    rw [sch, State.chuStep_of suite]
    exact ChuSt.pick_sch entry ready due first
  obtain ⟨t, leaves, pkts, entries, _, _, mem⟩ := chutePacket_more hc bad (State.chuJudge_passes (.inr (.inr judged))) runs
    (fun _ => (State.chuFrozen_of suite).trans thawed) picked entry more (packet.trans (by rw [sch]))
  exact ⟨t, leaves, pkts, mem, entries⟩

/-- As ELA the front entry's packet leaves (R345). -/
theorem chutePacket_front (hc : c < 32) (bad : Bool) {e : ChuEntry} {rest : List ChuEntry} {p : Pkt} (list : (s.chute c).entries = e :: rest)
    (runs : s.chuRuns c = true) (ready : (s.chute c).ready = true) (ela : s.chuSch c = false) (packet : p = s.chuPkt c e e.sent false)
    (more : e.sent + 1 < e.total) : Completes (.chutePacket c bad) s fun t =>
      t.pkts = (s.injectEdge p.src p).pkts ∧ (t.chute c).entries = { e with sent := e.sent + 1, got := smDel e.got e.sent } :: rest
        ∧ t.rd (chuP c) 0x0B8 = s.rd (chuP c) 0x0B8 + BitVec.ofNat 64 p.len ∧ t.rd (chuP c) 0x098 = s.rd (chuP c) 0x098 ∧ t.mem = s.mem := by
  have picked : (s.chute c).pick (s.chuSch c) (s.chuStep c) = some 0 := by
    rw [ela]
    exact ChuSt.pick_front ready _
  obtain ⟨t, leaves, pkts, entries, kept⟩ := chutePacket_more hc bad (State.chuJudge_passes (.inl ela)) runs (by simp [ela]) picked (by simp [list]) more
    (packet.trans (by rw [ela]))
  rw [list] at entries
  exact ⟨t, leaves, pkts, entries, kept⟩

/-- The front entry passed, and the check-value unit's next item. -/
def State.chuPassed (s : State) (c : Nat) : State := (((s.chuDrop c).chuShow c).cvuxItem (64 + c)).1

theorem State.chuPassed_mem (s : State) (hc : c < 32) : (s.chuPassed c).mem = s.mem := (State.chuKeeps_item ((s.chuDrop c).chuShow c) hc []).mem

theorem State.chuPassed_pkts (s : State) (hc : c < 32) : (s.chuPassed c).pkts = s.pkts := (State.chuKeeps_item ((s.chuDrop c).chuShow c) hc []).pkts

theorem State.chuPassed_entries (s : State) (hc : c < 32) : ((s.chuPassed c).chute c).entries = (s.chute c).entries.drop 1 :=
  (State.chuKeeps_item ((s.chuDrop c).chuShow c) hc []).entries.trans (s.chuDrop_entries c)

theorem State.chuPassed_head (s : State) (hc : c < 32) : (s.chuPassed c).rd (chuP c) 0x098 = put 19 0 ((s.chuHead c + 1) % s.chuSize c) :=
  ((State.chuKeeps_item ((s.chuDrop c).chuShow c) hc []).regs _ (by decide) (by simp)).trans
    (((s.chuDrop c).chuKeeps_show c).regs _ (by decide) (by decide) |>.trans (s.chuDrop_head c))

theorem State.isArmed_passed (s : State) (unarmed : s.isArmed (cvuxPage (64 + c)) 0 = false) : ((s.chuDrop c).chuShow c).isArmed (cvuxPage (64 + c)) 0 = false := unarmed

/-- A tile that differs from its CHECK fails the Chute at its end (R158, R413). -/
theorem State.chuEnd_differs (s : State) {e : ChuEntry} (unarmed : s.isArmed (cvuxPage (64 + c)) 0 = false) (tile : eTile e.words = true)
    (differs : e.sum ≠ e.check) (bad : Bool) : s.chuEnd c 0 e bad
      = ((s.chuPassed c).cvuxError (64 + c) (eSource e.words) (s.chuSuite c) true true false).chuFail c 2 0x04 e.idx 0 false := by
  have item := State.cvuxItem_unarmed (s.isArmed_passed unarmed)
  simp [State.chuEnd, State.chuPassed, tile, differs, item]

theorem State.chuEnd_plain (s : State) {e : ChuEntry} (unarmed : s.isArmed (cvuxPage (64 + c)) 0 = false) (plain : eTile e.words = false) (bad : Bool) :
    s.chuEnd c 0 e bad = if bad then ((s.chuPassed c).cvuxError (64 + c) (eSource e.words) (s.chuSuite c) true true false).chuStop c (Page.cvux.cls * 256 + 1)
      else ((s.chuPassed c).chuGo c (((s.chuPassed c).chute c).entries.length + 1)).chuWatch c := by
  have item := State.cvuxItem_unarmed (s.isArmed_passed unarmed)
  cases bad <;> simp [State.chuEnd, State.chuPassed, plain, item]

section
variable {e : ChuEntry} {p : Pkt} (hc : c < 32) (alone : (s.chute c).entries = [e]) (runs : s.chuRuns c = true) (ready : (s.chute c).ready = true)
  (ela : s.chuSch c = false) (packet : p = s.chuPkt c e e.sent false) (last : e.sent + 1 = e.total) (unarmed : s.isArmed (cvuxPage (64 + c)) 0 = false)
include hc alone runs ready ela last

/-- The last packet of the list's only entry. -/
theorem chutePacket_last (bad : Bool) :
    exec (.chutePacket c bad) s = .next ((s.chuSent c 0 e false).chuEnd c 0 { e with sent := e.sent + 1, got := smDel e.got e.sent } bad) := by
  have leaves := chutePacket_leaves hc bad (k := 0) (e := e) (State.chuJudge_passes (.inl ela)) runs (by simp [ela]) (by rw [ela]; exact ChuSt.pick_front ready _)
    (by simp [alone])
  rw [ela] at leaves
  exact leaves.trans (if_neg (by omega))

include packet unarmed

theorem chutePacket_differs (bad : Bool) (tile : eTile e.words = true) (differs : e.sum ≠ e.check) : Completes (.chutePacket c bad) s fun t =>
    t.pkts = (s.injectEdge p.src p).pkts ∧ t.rdF (chuP c) 0x088 63 61 = 3 ∧ tst (t.rd (chuP c) 0x028) 2 = true ∧ t.mem = s.mem := by
  subst packet
  have leaves := chutePacket_last hc alone runs ready ela last bad
  rw [State.chuEnd_differs (s.chuSent c 0 e false) (e := { e with sent := e.sent + 1, got := smDel e.got e.sent }) unarmed tile differs] at leaves
  have kept := State.chuKeeps_mismatch ((s.chuSent c 0 e false).chuPassed c) hc [] (eSource e.words) ((s.chuSent c 0 e false).chuSuite c) true true false
  obtain ⟨event, failed, mem, pkts, _⟩ := State.chuFail_fails _ c (bit := 2) (by decide) 0x04 e.idx 0 false rfl
  exact ⟨_, leaves, pkts.trans (kept.pkts.trans (State.chuPassed_pkts _ hc)), failed, event, mem.trans (kept.mem.trans (State.chuPassed_mem _ hc))⟩

theorem chutePacket_passes (bad : Bool) (plain : eTile e.words = false) : Completes (.chutePacket c bad) s fun t =>
    t.pkts = (s.injectEdge p.src p).pkts ∧ (t.chute c).entries = [] ∧ t.rd (chuP c) 0x098 = put 19 0 ((s.chuHead c + 1) % s.chuSize c) ∧ t.mem = s.mem
      ∧ (bad = true → t.rdF (chuP c) 0x088 63 61 = 3) := by
  subst packet
  have leaves := chutePacket_last hc alone runs ready ela last bad
  rw [State.chuEnd_plain (s.chuSent c 0 e false) (e := { e with sent := e.sent + 1, got := smDel e.got e.sent }) unarmed plain] at leaves
  have empty : (((s.chuSent c 0 e false).chuPassed c).chute c).entries = [] := by
    rw [State.chuPassed_entries _ hc, State.chuSent_entries, alone]
    rfl
  have head : ((s.chuSent c 0 e false).chuPassed c).rd (chuP c) 0x098 = put 19 0 ((s.chuHead c + 1) % s.chuSize c) := by
    rw [State.chuPassed_head _ hc, State.chuNext_of (s.chuSent_rd c 0 e false (by decide)) (s.chuSent_rd c 0 e false (by decide))]
  cases bad with
  | true =>
    have kept := (State.chuKeeps_mismatch ((s.chuSent c 0 e false).chuPassed c) hc [0x088, 0x0C0] (eSource e.words) ((s.chuSent c 0 e false).chuSuite c) true true
      false).trans (State.chuKeeps_stop _ c (Page.cvux.cls * 256 + 1))
    exact ⟨_, leaves, kept.pkts.trans (State.chuPassed_pkts _ hc), kept.entries.trans empty, (kept.regs _ (by decide) (by decide)).trans head,
      kept.mem.trans (State.chuPassed_mem _ hc), fun _ => (State.chuStop_failed _ c _).1⟩
  | false =>
    rw [State.chuGo_empty _ empty] at leaves
    have kept := ((s.chuSent c 0 e false).chuPassed c).chuKeeps_watch c
    exact ⟨_, leaves, kept.pkts.trans (State.chuPassed_pkts _ hc), kept.entries.trans empty, (kept.regs _ (by decide) (by decide)).trans head,
      kept.mem.trans (State.chuPassed_mem _ hc), by simp⟩

end

end

/-! ### Starvation (R349, R351 to R353) -/

section
variable {s : State} {c : Nat} (hc : c < 32)
include hc

theorem starvationCheck_suiteless (none : s.suite (s.chuSuite c) = none) : exec (.starvationCheck c) s = .next s := by
  have ela : s.chuSch c = false := by simp [State.chuSch, none]
  change execStarvationCheck c s = _
  simp only [execStarvationCheck, Nat.mod_eq_of_lt hc, State.chuJudge_passes (.inl ela), none]
  rfl

theorem starvationCheck_fed {u : Suite} (suite : s.suite (s.chuSuite c) = some u) (fed : s.chuRuns c = false ∨ s.chuSch c = false
    ∨ ((∀ e, e ∈ (s.chute c).entries → e.sch = true) ∧ s.chuLate c (u.step.toNat + 2 * s.fl + 16) = false)) :
    exec (.starvationCheck c) s = .next s := by
  have judged : s.chuJudge c = (s, true) := by
    refine State.chuJudge_passes ?_
    rcases fed with stopped | ela | ⟨all, _⟩
    · exact .inr (.inl stopped)
    · exact .inl ela
    · exact .inr (.inr all)
  change execStarvationCheck c s = _
  simp only [execStarvationCheck, Nat.mod_eq_of_lt hc, judged, suite, Bool.not_true, Bool.false_eq_true, if_false]
  refine if_pos ?_
  rcases fed with stopped | ela | ⟨_, intime⟩
  · simp [stopped]
  · simp [ela]
  · simp [intime]

/-- A packet found late asks the stall master for a CHUTE stall at Suite scope (R344, R351). -/
theorem starvationCheck_late {u : Suite} (suite : s.suite (s.chuSuite c) = some u) (runs : s.chuRuns c = true) (sch : s.chuSch c = true)
    (judged : ∀ e, e ∈ (s.chute c).entries → e.sch = true) (first : (s.chute c).late = []) (unstalled : (s.chute c).stalled = none)
    (late : s.chuLate c (u.step.toNat + 2 * s.fl + 16) = true) : Completes (.starvationCheck c) s fun t =>
      (t.chute c).stalled = some u.clk ∧ (t.chute c).late = [u.step.toNat + 2 * s.fl + 16]
        ∧ t.suite (s.chuSuite c) = some { u with reqs := u.reqs ++ [⟨5, chuSrc c, 0, false, u.clk + s.fl⟩] } ∧ t.mem = s.mem ∧ t.pkts = s.pkts := by
  have scope : s.schOk c = true := (Bool.and_eq_true_iff.mp sch).1
  generalize asks : ({ s.chute c with stalled := some u.clk, starve := some s.et, told := false, late := [u.step.toNat + 2 * s.fl + 16] } : ChuSt) = x
  have stalls : exec (.starvationCheck c) s = .next ((s.setChute c x).stallReq (s.chuSuite c) 5 (chuSrc c) 0) := by
    rw [← asks]
    change execStarvationCheck c s = _
    simp only [execStarvationCheck, Nat.mod_eq_of_lt hc, State.chuJudge_passes (.inr (.inr judged)), suite, Bool.not_true, Bool.false_eq_true, if_false]
    refine (if_neg (by simp [runs, sch, first, late])).trans ((if_neg (by simp [unstalled])).trans ?_)
    rw [first]
    exact congrArg Host.Outcome.next (if_pos scope)
  have chute : ((s.setChute c x).stallReq (s.chuSuite c) 5 (chuSrc c) 0).chute c = x := (State.chute_of_rim (by simp) c).trans (s.chute_setChute c x)
  refine ⟨_, stalls, by rw [chute, ← asks], by rw [chute, ← asks], ?_, by simp, by simp⟩
  exact State.suite_modSuite (s.setChute c x) _ suite

theorem chuteStarved_idle (idle : (s.chute c).starve = none ∨ (s.chute c).told = true ∨ s.chuRuns c = false) : exec (.chuteStarved c) s = .next s := by
  change execChuteStarved c s = _
  simp only [execChuteStarved, Nat.mod_eq_of_lt hc]
  cases starve : (s.chute c).starve with
  | none => rfl
  | some b =>
    refine if_pos ?_
    rcases idle with none | told | stopped
    · rw [starve] at none
      cases none
    · exact .inr (.inl told)
    · simp [stopped]

section
variable {b : Nat} (starves : (s.chute c).starve = some b) (unarmed : s.isArmed (chuP c) 0 = false)
include starves unarmed

theorem chuteStarved_early (early : s.et < b + usToEt (max 1 (s.rdF (chuP c) 0x0A8 23 0))) : exec (.chuteStarved c) s = .next s := by
  change execChuteStarved c s = _
  simp only [execChuteStarved, Nat.mod_eq_of_lt hc, starves]
  exact if_pos (.inr (.inr ⟨by simp [unarmed], early⟩))

omit hc starves unarmed in
/-- A starvation reported: captured, raised, counted, and shown in STATE (R353). -/
def State.chuReported (s : State) (c : Nat) : State :=
  (((s.capture (chuP c) 0x0B0 (chuWhere 0x01 0 (s.chuHead c) 0)).raise (chuP c) 0 false).bump (chuP c) 0x0C8 63 32 1).chuState c 2

omit hc starves unarmed in
theorem State.chuReported_shows (s : State) (c : Nat) : tst ((s.chuReported c).rd (chuP c) 0x028) 0 = true ∧ (s.chuReported c).rdF (chuP c) 0x088 63 61 = 2
    ∧ (s.chuReported c).mem = s.mem ∧ (s.chuReported c).pkts = s.pkts := by
  refine ⟨?_, State.chuState_shows _ c (by decide), by simp [State.chuReported, State.chuState], by simp [State.chuReported, State.chuState]⟩
  rw [State.chuReported, State.chuState, State.rd_wrF_off _ _ _ _ (by decide), State.rd_bump_off _ _ _ _ (by decide)]
  exact State.raise_sets _ _ rfl (by decide)

/-- Once reported, in an elastic Suite with the stall now open. -/
theorem chuteStarved_tells (runs : s.chuRuns c = true) (untold : (s.chute c).told = false)
    (lasts : b + usToEt (max 1 (s.rdF (chuP c) 0x0A8 23 0)) ≤ s.et) :
    exec (.chuteStarved c) s = .next ((s.chuReported c).setChute c { s.chute c with told := true })
      ∨ ∃ clk, exec (.chuteStarved c) s = .next (((s.chuReported c).setChute c { s.chute c with told := true, stalled := some clk }).chuStallMsg c false) := by
  have lasted : ¬ ((!s.chuRuns c) = true ∨ (s.chute c).told = true ∨ (!false) = true ∧ s.et < b + usToEt (max 1 (s.rdF (chuP c) 0x0A8 23 0))) := by
    simp [runs, untold, lasts]
  change execChuteStarved c s = _ ∨ ∃ clk, execChuteStarved c s = _
  simp only [execChuteStarved, Nat.mod_eq_of_lt hc, starves, unarmed, lasted, Bool.false_eq_true, if_false]
  split
  · split
    · exact .inr ⟨_, rfl⟩
    · exact .inl rfl
  · exact .inl rfl

theorem chuteStarved_reports (runs : s.chuRuns c = true) (untold : (s.chute c).told = false)
    (lasts : b + usToEt (max 1 (s.rdF (chuP c) 0x0A8 23 0)) ≤ s.et) : Completes (.chuteStarved c) s fun t =>
      tst (t.rd (chuP c) 0x028) 0 = true ∧ t.rdF (chuP c) 0x088 63 61 = 2 ∧ (t.chute c).told = true ∧ t.mem = s.mem ∧ t.pkts = s.pkts := by
  obtain ⟨event, state, mem, pkts⟩ := s.chuReported_shows c
  rcases chuteStarved_tells hc starves unarmed runs untold lasts with told | ⟨clk, told⟩
  · exact ⟨_, told, by rwa [State.setChute_rd], by rwa [State.rdF, State.setChute_rd], by rw [State.chute_setChute],
      (State.setChute_mem ..).trans mem, (State.setChute_pkts ..).trans pkts⟩
  · obtain ⟨mem', pkts', rim, regs⟩ := ((s.chuReported c).setChute c { s.chute c with told := true, stalled := some clk }).chuStallMsg_only c false
    refine ⟨_, told, ?_, ?_, by rw [State.chute_stallMsg, State.chute_setChute], mem'.trans ((State.setChute_mem ..).trans mem),
      pkts'.trans ((State.setChute_pkts ..).trans pkts)⟩
    · rwa [State.rd_of_regs regs, State.setChute_rd]
    · rwa [State.rdF, State.rd_of_regs regs, State.setChute_rd]

end

end

/-! ### Larder sessions (R355 to R359) -/

section
variable {s : State} {c j : Nat} (hc : c < 32) (hj : j < 4)
include hc hj

omit hc hj in
theorem larderSlotEnable_off {v : W64} (off : tst v 63 = false) (c j : Nat) : exec (.larderSlotEnable c j v) s = .next s := if_pos (by simp [off])

theorem larderSlotEnable_refused {v : W64} (on : tst v 63 = true)
    (bad : s.lsEn c j = true ∨ fld v 47 32 < 64 ∨ 1792 < fld v 47 32 ∨ 1024 * fld v 47 32 < s.spanLen c) : TurnedAway (.larderSlotEnable c j v) s (chuP c) 6 := by
  refine turned_capture (off := 0x0B0) (w := chuWhere 0x07 0 0 0) (injected := false) ?_ (fun _ => rfl) (by decide)
  change execLarderSlotEnable c j v s = _
  unfold execLarderSlotEnable
  rw [Nat.mod_eq_of_lt hc, Nat.mod_eq_of_lt hj]
  refine (if_neg (by simp [on])).trans (if_pos ?_)
  rcases bad with runs | small | large | spans
  · exact .inl runs
  · exact .inr (.inl small)
  · exact .inr (.inr (.inl large))
  · exact .inr (.inr (.inr (.inr spans)))

omit hc hj in
/-- The word of a slot that starts a session. -/
def larderWord (session kib stream : Nat) : W64 := put 63 63 1 ||| put 55 48 session ||| put 47 32 kib ||| put 19 0 stream

omit hc hj in
theorem larderWord_fields {session kib stream : Nat} (h1 : session < 256) (h2 : kib < 65536) (h3 : stream < 1048576) :
    tst (larderWord session kib stream) 63 = true ∧ fld (larderWord session kib stream) 55 48 = session ∧ fld (larderWord session kib stream) 47 32 = kib
      ∧ fld (larderWord session kib stream) 19 0 = stream := by
  have apart : ∀ {hi lo a b : Nat} (v : Nat), hi < b ∨ a < lo → fld (put hi lo v) a b = 0 := fun v h => fld_put_ne v h
  refine ⟨?_, ?_, ?_, ?_⟩
  · rw [larderWord, tst_or, tst_or, tst_or, tst_put_one (by decide)]
    rfl
  · rw [larderWord, fld_or, fld_or, fld_or, fld_put _ (by decide) h1, apart _ (by decide), apart _ (by decide), apart _ (by decide)]
    simp
  · rw [larderWord, fld_or, fld_or, fld_or, fld_put _ (by decide) h2, apart _ (by decide), apart _ (by decide), apart _ (by decide)]
    simp
  · rw [larderWord, fld_or, fld_or, fld_or, fld_put _ (by decide) h3, apart _ (by decide), apart _ (by decide), apart _ (by decide)]
    simp

omit hc hj in
/-- A session started under slot word `w`: nothing received, and a CREDIT for the window (R355, R356, R358). -/
def State.larderStarted (s : State) (c j : Nat) (w : W64) : State :=
  ((((s.wr (chuP c) (0x100 + 16 * j) w).wr (chuP c) (0x100 + 16 * j + 8) 0).wr (cvuxPage (64 + c)) (0x100 + 8 * j) (crcOf 0 (leTo 8 0))).setLarder c j
    ⟨[], 0, 0, 0, s.et, 0, [], 0⟩).sendCredit c j

theorem State.larderStarted_shows (w : W64) : (s.larderStarted c j w).rd (chuP c) (0x100 + 16 * j) = w ∧ (s.larderStarted c j w).rd (chuP c) (0x108 + 16 * j) = 0
    ∧ (s.larderStarted c j w).larder c j = ⟨[], 0, 0, 1024 * fld w 47 32, s.et, 0, [], 0⟩ ∧ (s.larderStarted c j w).mem = s.mem
    ∧ (s.larderStarted c j w).pkts = s.pkts := by
  generalize opened : (((s.wr (chuP c) (0x100 + 16 * j) w).wr (chuP c) (0x100 + 16 * j + 8) 0).wr (cvuxPage (64 + c)) (0x100 + 8 * j)
    (crcOf 0 (leTo 8 0))).setLarder c j ⟨[], 0, 0, 0, s.et, 0, [], 0⟩ = g
  have regs : ∀ o, o < 4096 → g.rd (chuP c) o = ((s.wr (chuP c) (0x100 + 16 * j) w).wr (chuP c) (0x100 + 16 * j + 8) 0).rd (chuP c) o := by
    intro o ho
    rw [← opened, State.setLarder_rd, State.rd_wr_key _ _ (regKey_chu_cvux hc ho (by omega))]
  have word : g.rd (chuP c) (0x100 + 16 * j) = w := by rw [regs _ (by omega), State.rd_wr_off _ _ (by omega), State.rd_wr_self]
  have received : g.rd (chuP c) (0x108 + 16 * j) = 0 := by
    rw [regs _ (by omega), show 0x108 + 16 * j = 0x100 + 16 * j + 8 by omega, State.rd_wr_self]
  have session : g.larder c j = ⟨[], 0, 0, 0, s.et, 0, [], 0⟩ := by rw [← opened, State.larder_setLarder]
  have window : g.lsWindow c j = 1024 * fld w 47 32 := by rw [State.lsWindow, State.rdF, word]
  have et : g.et = s.et := by rw [← opened, State.setLarder_et, State.wr_et, State.wr_et, State.wr_et]
  obtain ⟨mem, pkts, same, _, credit⟩ := g.sendCredit_only c j
  rw [State.credited, session, window, et, Nat.zero_add] at credit
  rw [State.larderStarted, opened]
  refine ⟨(State.rd_of_regs same ..).trans word, (State.rd_of_regs same ..).trans received, credit, mem.trans ?_, pkts.trans ?_⟩
  · rw [← opened, State.setLarder_mem, State.wr_mem, State.wr_mem, State.wr_mem]
  · rw [← opened, State.setLarder_pkts, State.wr_pkts, State.wr_pkts, State.wr_pkts]

theorem larderSlotEnable_starts {v : W64} (on : tst v 63 = true) (idle : ∀ k, k < 4 → s.lsEn c k = false) (large : 64 ≤ fld v 47 32)
    (small : fld v 47 32 ≤ 1792) (spans : s.spanLen c ≤ 1024 * fld v 47 32) :
    exec (.larderSlotEnable c j v) s = .next (s.larderStarted c j (larderWord ((s.lsSession c j + 1) % 256) (fld v 47 32) (fld v 19 0))) := by
  have others : (List.range 4).foldl (fun t k => if k ≠ j ∧ s.lsEn c k then t + s.lsWindow c k / 1024 else t) 0 = 0 :=
    foldl_keeps (· = 0) _ (fun t k there zero => by rw [if_neg (by simp [idle k (List.mem_range.mp there)]), zero]) rfl
  change execLarderSlotEnable c j v s = _
  unfold execLarderSlotEnable
  rw [Nat.mod_eq_of_lt hc, Nat.mod_eq_of_lt hj]
  dsimp only
  rw [others, if_neg (by simp [on]), if_neg, State.larderStarted, larderWord]
  · simp only [State.wr_et]
  · rintro (runs | below | above | full | short)
    · rw [idle j hj] at runs
      cases runs
    all_goals omega

theorem larderSlotEnable_started {v : W64} (on : tst v 63 = true) (idle : ∀ k, k < 4 → s.lsEn c k = false) (large : 64 ≤ fld v 47 32)
    (small : fld v 47 32 ≤ 1792) (spans : s.spanLen c ≤ 1024 * fld v 47 32) : Completes (.larderSlotEnable c j v) s fun t =>
      t.lsEn c j = true ∧ t.lsSession c j = (s.lsSession c j + 1) % 256 ∧ t.lsWindow c j = 1024 * fld v 47 32 ∧ t.lsStream c j = fld v 19 0
        ∧ t.rd (chuP c) (0x108 + 16 * j) = 0 ∧ t.larder c j = ⟨[], 0, 0, 1024 * fld v 47 32, s.et, 0, [], 0⟩ ∧ t.mem = s.mem ∧ t.pkts = s.pkts := by
  obtain ⟨enabled, session, window, stream⟩ :=
    larderWord_fields (session := (s.lsSession c j + 1) % 256) (Nat.mod_lt _ (by decide)) (fld_lt v 47 32) (fld_lt v 19 0)
  have starts := larderSlotEnable_starts hc hj on idle large small spans
  generalize larderWord ((s.lsSession c j + 1) % 256) (fld v 47 32) (fld v 19 0) = w at *
  obtain ⟨word, received, larder, mem, pkts⟩ := State.larderStarted_shows (s := s) hc hj w
  rw [window] at larder
  refine ⟨_, starts, ?_, ?_, ?_, ?_, received, larder, mem, pkts⟩
  · rw [State.lsEn, word, enabled]
  · rw [State.lsSession, State.rdF, word, session]
  · rw [State.lsWindow, State.rdF, word, window]
  · rw [State.lsStream, State.rdF, word, stream]

theorem creditPeriod_off (off : s.lsEn c j = false) : exec (.creditPeriod c j) s = .next s := by
  change execCreditPeriod c j s = _
  unfold execCreditPeriod
  rw [Nat.mod_eq_of_lt hc, Nat.mod_eq_of_lt hj]
  exact if_pos (by simp [off])

theorem creditPeriod_credits (enabled : s.lsEn c j = true) (unarmed : s.isArmed (chuP c) 1 = false) : exec (.creditPeriod c j) s = .next (s.sendCredit c j) := by
  change execCreditPeriod c j s = _
  unfold execCreditPeriod
  rw [Nat.mod_eq_of_lt hc, Nat.mod_eq_of_lt hj]
  exact (if_neg (by simp [enabled])).trans (if_neg (by simp [unarmed]))

/-! DATA of a Larder (R357). -/

section
variable {ses off : Nat} {data : List Byte}

theorem larderData_fails (hses : ses < 256) (unarmed : s.isArmed (chuP c) 4 = false) (unfit : s.lsEn c j = false ∨ ses ≠ s.lsSession c j
    ∨ off ≠ (s.rd (chuP c) (0x108 + 16 * j)).toNat ∨ (s.larder c j).limit < off + data.length) : Completes (.larderData c j ses off data) s fun t =>
      tst (t.rd (chuP c) 0x028) 4 = true ∧ t.rdF (chuP c) 0x088 63 61 = 3 ∧ (t.larder c j).buf = (s.larder c j).buf ∧ t.mem = s.mem := by
  have refused : (!s.lsEn c j || decide (ses ≠ s.lsSession c j) || decide (off ≠ (s.rd (chuP c) (0x108 + 16 * j)).toNat)
      || decide ((s.larder c j).limit < off + data.length) || false) = true := by
    rcases unfit with off | session | offset | limit
    · simp [off]
    · simp [session]
    · simp [offset]
    · simp [limit]
  have fails : ∃ n d, exec (.larderData c j ses off data) s
      = .next ((({ s with free := s.free + 1 } : State).yazCtl n 0x42 d).chuFail c 4 0
        ((({ s with free := s.free + 1 } : State).yazCtl n 0x42 d).chuHead c) ((({ s with free := s.free + 1 } : State).yazCtl n 0x42 d).lsStream c j) false) := by
    change ∃ n d, Host.Outcome.next (s.larderData (c % 32) (j % 4) (ses % 256) off data) = _
    rw [Nat.mod_eq_of_lt hc, Nat.mod_eq_of_lt hj, Nat.mod_eq_of_lt hses]
    simp only [State.larderData, unarmed, refused, if_true, Bool.false_eq_true, if_false]
    exact ⟨_, _, rfl⟩
  obtain ⟨n, d, fails⟩ := fails
  obtain ⟨mem, _, rim, _⟩ := ({ s with free := s.free + 1 } : State).yazCtl_only n 0x42 d
  obtain ⟨event, failed, kept, _, _, slots, _⟩ := State.chuFail_fails (({ s with free := s.free + 1 } : State).yazCtl n 0x42 d) c (bit := 4) (by decide) 0
    ((({ s with free := s.free + 1 } : State).yazCtl n 0x42 d).chuHead c) ((({ s with free := s.free + 1 } : State).yazCtl n 0x42 d).lsStream c j) false rfl
  refine ⟨_, fails, event, failed, ?_, kept.trans mem⟩
  rw [State.larder_of_slots slots, State.larder_of_slots (congrArg ChuSt.slots (State.chute_of_rim rim c))]
  rfl

/-- Folding bytes into the spans leaves the bytes received, the Chute's registers, memory and the Hall. -/
theorem State.larderFold_keeps (fuel pos : Nat) (d : List Byte) (s : State) : ((s.larderFold c j fuel pos d).larder c j).buf = (s.larder c j).buf
    ∧ (∀ o, o < 4096 → (s.larderFold c j fuel pos d).rd (chuP c) o = s.rd (chuP c) o) ∧ (s.larderFold c j fuel pos d).mem = s.mem
    ∧ (s.larderFold c j fuel pos d).pkts = s.pkts := by
  have apart : ∀ (t : State) (v : W64) o, o < 4096 → (t.wr (cvuxPage (64 + c)) (0x100 + 8 * j) v).rd (chuP c) o = t.rd (chuP c) o :=
    fun t v o ho => t.rd_wr_key v (regKey_chu_cvux hc ho (by omega))
  induction fuel generalizing s pos d with
  | zero => exact ⟨rfl, fun _ _ => rfl, rfl, rfl⟩
  | succ fuel ih =>
    cases d with
    | nil => exact ⟨rfl, fun _ _ => rfl, rfl, rfl⟩
    | cons b bs =>
      unfold State.larderFold
      dsimp only
      split
      · next whole =>
        obtain ⟨buf, regs, mem, pkts⟩ := ih (pos + min (b :: bs).length ((s.larder c j).span + s.spanLen c - pos))
          ((b :: bs).drop (min (b :: bs).length ((s.larder c j).span + s.spanLen c - pos))) _
        refine ⟨buf.trans ?_, fun o ho => (regs o ho).trans (apart _ _ o ho), mem, pkts⟩
        rw [State.larder_wr, State.larder_setLarder]
      · exact ⟨rfl, apart _ _, rfl, rfl⟩

theorem larderData_taken (hses : ses < 256) (unarmed : s.isArmed (chuP c) 4 = false) (enabled : s.lsEn c j = true) (session : ses = s.lsSession c j)
    (offset : off = (s.rd (chuP c) (0x108 + 16 * j)).toNat) (limit : off + data.length ≤ (s.larder c j).limit) : Completes (.larderData c j ses off data) s fun t =>
      (t.larder c j).buf = (s.larder c j).buf ++ data
        ∧ t.rd (chuP c) (0x108 + 16 * j) = s.rd (chuP c) (0x108 + 16 * j) + BitVec.ofNat 64 data.length ∧ t.mem = s.mem ∧ t.pkts = s.pkts := by
  have fits : (!s.lsEn c j || decide (ses ≠ s.lsSession c j) || decide (off ≠ (s.rd (chuP c) (0x108 + 16 * j)).toNat)
      || decide ((s.larder c j).limit < off + data.length) || false) = false := by
    simp [enabled, ← session, ← offset, limit]
  generalize received : (s.wr (chuP c) (0x108 + 16 * j) (s.rd (chuP c) (0x108 + 16 * j) + BitVec.ofNat 64 data.length)).setLarder c j
    { s.larder c j with buf := (s.larder c j).buf ++ data } = g
  have takes : exec (.larderData c j ses off data) s = .next ((g.larderFold c j (data.length + 1) off data).chuShow c) := by
    change Host.Outcome.next (s.larderData (c % 32) (j % 4) (ses % 256) off data) = _
    rw [Nat.mod_eq_of_lt hc, Nat.mod_eq_of_lt hj, Nat.mod_eq_of_lt hses]
    simp only [State.larderData, unarmed, fits, Bool.false_eq_true, if_false, received]
  obtain ⟨buf, regs, mem, pkts⟩ := State.larderFold_keeps hc hj (data.length + 1) off data g
  refine ⟨_, takes, ?_, ?_, mem.trans ?_, pkts.trans ?_⟩
  · refine buf.trans ?_
    rw [← received, State.larder_setLarder]
  · rw [(State.chuKeeps_show _ c).regs _ (by omega) (by simp; omega), regs _ (by omega), ← received, State.setLarder_rd, State.rd_wr_self]
  · rw [← received, State.setLarder_mem, State.wr_mem]
  · rw [← received, State.setLarder_pkts, State.wr_pkts]

end

/-! CHECK and ABORT of a Larder (R358, R359, R413). -/

section
variable {ses : Nat} {start : Nat} {crc : W64} (hses : ses < 256)
include hses

theorem larderCheck_stray (stray : s.lsEn c j = false ∨ ses ≠ s.lsSession c j) : exec (.larderCheck c j ses start crc) s = .next s := by
  change Host.Outcome.next (s.larderCheck (c % 32) (j % 4) (ses % 256) start crc) = _
  rw [Nat.mod_eq_of_lt hc, Nat.mod_eq_of_lt hj, Nat.mod_eq_of_lt hses]
  exact congrArg Host.Outcome.next (if_pos (by simpa using stray))

omit hc hj hses in
/-- Whether a CHECK agrees with the first span that awaits one. -/
def LarderSlot.agrees (l : LarderSlot) (start : Nat) (crc : W64) : Bool :=
  match l.done with
  | (a, v) :: _ => decide (a = start) && decide (v = crc)
  | [] => false

omit hc hj hses in
theorem LarderSlot.agrees_iff (l : LarderSlot) : l.agrees start crc = true ↔ l.done.head? = some (start, crc) := by
  unfold LarderSlot.agrees
  cases l.done with
  | nil => simp
  | cons d ds => simp [Prod.ext_iff]

theorem larderCheck_of (enabled : s.lsEn c j = true) (session : ses = s.lsSession c j) (unarmed : s.isArmed (cvuxPage (64 + c)) 0 = false) :
    exec (.larderCheck c j ses start crc) s = .next (if (!(s.larder c j).agrees start crc) = true
      then ((s.cvuxItem (64 + c)).1.cvuxError (64 + c) start (s.chuSuite c) true true false).chuStop c (Page.cvux.cls * 256 + 1)
      else ((((s.cvuxItem (64 + c)).1.setLarder c j ({ s.larder c j with done := (s.larder c j).done.drop 1, rel := start + s.spanLen c } : LarderSlot).discard).creditTurn
        c j).chuWatch c)) := by
  change Host.Outcome.next (s.larderCheck (c % 32) (j % 4) (ses % 256) start crc) = _
  rw [Nat.mod_eq_of_lt hc, Nat.mod_eq_of_lt hj, Nat.mod_eq_of_lt hses]
  have own : ¬ ((!s.lsEn c j) = true ∨ ses ≠ s.lsSession c j) := by simp [enabled, session]
  simp only [State.larderCheck, own, if_false, State.cvuxItem_unarmed unarmed, Bool.false_or]
  rfl

theorem larderCheck_releases (enabled : s.lsEn c j = true) (session : ses = s.lsSession c j) (unarmed : s.isArmed (cvuxPage (64 + c)) 0 = false)
    (agrees : (s.larder c j).done.head? = some (start, crc)) : Completes (.larderCheck c j ses start crc) s fun t =>
      (t.larder c j).rel = start + s.spanLen c ∧ (t.larder c j).done = (s.larder c j).done.drop 1 ∧ t.mem = s.mem ∧ t.pkts = s.pkts := by
  have checked := larderCheck_of (start := start) (crc := crc) hc hj hses enabled session unarmed
  rw [if_neg (by simp [LarderSlot.agrees_iff, agrees])] at checked
  generalize discarded : ({ s.larder c j with done := (s.larder c j).done.drop 1, rel := start + s.spanLen c } : LarderSlot).discard = l at checked
  have counted := s.chuKeeps_item hc []
  have credit := ((s.cvuxItem (64 + c)).1.setLarder c j l).creditTurn_keeps c j
  have kept := (((s.cvuxItem (64 + c)).1.setLarder c j l).creditTurn c j).chuKeeps_watch c
  obtain ⟨limit, sentAt, same⟩ := credit.larder
  have larder := (State.larder_of_slots kept.slots j).trans same
  rw [State.larder_setLarder] at larder
  refine ⟨_, checked, ?_, ?_, kept.mem.trans (credit.mem.trans counted.mem), kept.pkts.trans (credit.pkts.trans counted.pkts)⟩
  · rw [larder, ← discarded]
    rfl
  · rw [larder, ← discarded]
    rfl

theorem larderCheck_mismatch (enabled : s.lsEn c j = true) (session : ses = s.lsSession c j) (unarmed : s.isArmed (cvuxPage (64 + c)) 0 = false)
    (differs : (s.larder c j).done.head? ≠ some (start, crc)) : Completes (.larderCheck c j ses start crc) s fun t =>
      t.rdF (chuP c) 0x088 63 61 = 3 ∧ (t.larder c j).rel = (s.larder c j).rel ∧ t.mem = s.mem := by
  have checked := larderCheck_of (start := start) (crc := crc) hc hj hses enabled session unarmed
  rw [if_pos (by rw [Bool.not_eq_true', ← Bool.not_eq_true, LarderSlot.agrees_iff]; exact differs)] at checked
  have kept := ((s.chuKeeps_item hc [0x088, 0x0C0]).trans (State.chuKeeps_mismatch _ hc _ start (s.chuSuite c) true true false)).trans
    (State.chuKeeps_stop _ c (Page.cvux.cls * 256 + 1))
  exact ⟨_, checked, (State.chuStop_failed _ c _).1, by rw [State.larder_of_slots kept.slots], kept.mem⟩

theorem abort_stray (stray : s.lsEn c j = false ∨ ses ≠ s.lsSession c j) : exec (.abort c j ses) s = .next s := by
  change execAbort c j ses s = _
  unfold execAbort
  rw [Nat.mod_eq_of_lt hc, Nat.mod_eq_of_lt hj, Nat.mod_eq_of_lt hses]
  refine if_neg ?_
  rintro ⟨enabled, session⟩
  rcases stray with off | other
  · rw [enabled] at off
    cases off
  · exact other session

theorem abort_loses (enabled : s.lsEn c j = true) (session : ses = s.lsSession c j) : exec (.abort c j ses) s
    = .next ((s.wrF (chuP c) (0x100 + 16 * j) 63 63 0).chuFail c 1 0 (s.chuHead c) (s.lsStream c j) false) := by
  change execAbort c j ses s = _
  unfold execAbort
  rw [Nat.mod_eq_of_lt hc, Nat.mod_eq_of_lt hj, Nat.mod_eq_of_lt hses]
  exact if_pos ⟨enabled, session⟩

end

end

/-! ### The statement -/

section
variable {s : State} {c : Nat} {errs : List Nat}

/-- What becomes of an entry read whole from the list by the command of its KIND (R345 to R349). -/
theorem chuTake_entry (hc : c < 32) {k : Nat} {cmd : Instr}
    (takes : (k, cmd) ∈ [(0, Instr.mark c errs), (1, .cellar c errs), (2, .larder c errs), (3, .gate c errs)])
    (free : k = 3 → (s.chute c).gating = false) {g : State} {idx : Nat} {w : List W64} {r : CelRes} (fetch : s.chuFetch c errs = (g, some (idx, w), r))
    (words : w ≠ []) (kind : eKind w = k) (unarmed : g.isArmed (chuP c) 3 = false) (good : g.chuBad c w = none) (alone : (g.chute c).entries = [])
    (runs : g.chuRuns c = true) :
    (k = 0 → (g.chute c).gating = false → Completes cmd s fun t => tst (t.rd (chuP c) 0x028) 5 = true ∧ (t.chute c).entries = []
      ∧ t.rd (chuP c) 0x098 = put 19 0 ((g.chuHead c + 1) % g.chuSize c) ∧ t.mem = g.mem ∧ t.pkts = g.pkts)
    ∧ (k = 1 ∨ k = 2 → Completes cmd s fun t => (t.chute c).entries = [⟨idx, w, [], [], 0, 0, g.chuSch c⟩]
      ∧ t.rd (chuP c) 0x098 = g.rd (chuP c) 0x098 ∧ t.mem = g.mem ∧ t.pkts = g.pkts)
    ∧ (k = 3 → exec cmd s
      = .next (((g.setChute c { g.chute c with entries := [⟨idx, w, [], [], 0, 0, g.chuSch c⟩], gating := true }).chuGo c 1).chuWatch c)) := by
  have enters := (chuTake_of hc takes free).trans (congrArg Host.Outcome.next (State.chuTake_enters fetch words kind unarmed good alone))
  have front := g.chuHolds_entries c idx w ((g.chute c).gating || decide (k = 3))
  refine ⟨fun mark _ => ?_, fun source => ?_, fun gate => ?_⟩
  · generalize ((g.chute c).gating || decide (k = 3)) = held at enters front
    have runs' : (g.chuHolds c idx w held).chuRuns c = true := by rwa [State.chuHolds, State.setChute_chuRuns]
    exact ⟨_, enters, State.mark_passes runs' front (kind.trans mark) rfl⟩
  · rw [State.chuGo_source front (by rwa [kind]) rfl] at enters
    have kept := (g.chuHolds c idx w ((g.chute c).gating || decide (k = 3))).chuKeeps_watch c
    exact ⟨_, enters, kept.entries.trans front, kept.regs _ (by decide) (by decide), kept.mem, kept.pkts⟩
  · rw [enters, gate, decide_eq_true rfl, Bool.or_true]
    rfl

/-- Settles O48. The model's choices of log entries 48 and 49 are in it: MARK and GATE act at the front of the list, read-ahead stops at a GATE, a read of the list
costs nothing, and the REASON of an ABORT that the Chute sends is open. -/
theorem chuteStreams : Obligations.ChuteStreams := by
  unfold Obligations.ChuteStreams
  intro s c errs hc
  refine ⟨fun v => ⟨chuteEnable_off, chuteDisable_on, fun on enabled => ⟨chuteEnable_again hc on enabled, chuteEnable_refused hc on enabled⟩,
      chuteEnable_starts hc, chuteDisable_refused hc, chuteDisable_empties hc, chuListTailWrite_appends hc v⟩,
    fun k cmd takes free => ⟨fun nothing => ?_, fun g idx r fetch => ⟨fun unarmed => ?_, fun armed ue => ?_⟩, fun g idx w r fetch words => ⟨fun other => ?_,
      fun kind unarmed => ⟨fun d bad => ?_, fun good alone runs => chuTake_entry hc takes free fetch words kind unarmed good alone runs⟩⟩⟩,
    gate_held hc, fun bit detail idx stream inj small t after => s.chuFail_fails c small detail idx stream inj after, chuteSourceData_idle hc,
    fun k e a n p runs needs => ⟨chuteSourceData_full hc runs needs, ?_, ?_⟩, fun bad => ⟨?_, ?_, ?_⟩, starvationCheck_suiteless hc,
    fun u suite => ⟨starvationCheck_fed hc suite, starvationCheck_late hc suite⟩, chuteStarved_idle hc,
    fun b starves untold runs unarmed => ⟨chuteStarved_early hc starves unarmed, chuteStarved_reports hc starves unarmed runs untold⟩, fun j hj => ?_⟩
  · rw [chuTake_of hc takes free, State.chuTake_nothing nothing]
  · rw [chuTake_of hc takes free, State.chuTake_unread fetch unarmed]
  · rw [chuTake_of hc takes free, State.chuTake_injected fetch armed ue]
  · rw [chuTake_of hc takes free, State.chuTake_other fetch words other]
  · rw [chuTake_of hc takes free, State.chuTake_bad fetch words kind unarmed bad]
  · intro fits cellar unarmed st off source
    refine ⟨chuteSourceData_waits hc runs needs fits cellar source, fun serves g r access => ⟨fun d read => ⟨?_, fun m plain packet => ?_⟩, ?_⟩⟩
    · exact chuteSourceData_read hc runs needs fits cellar unarmed source serves access read
    · exact chuteSourceData_fills hc runs needs fits cellar unarmed source serves access read plain packet
    · exact chuteSourceData_fails hc runs needs fits cellar unarmed source serves access
  · exact fun fits larder l session => ⟨chuteSourceData_unreleased hc runs needs session fits larder,
      fun released m plain packet => chuteSourceData_takes hc runs needs session fits larder released plain packet⟩
  · exact chutePacket_nothing hc bad
  · refine fun u suite sch runs all => ⟨chutePacket_waits hc bad suite sch all, ?_⟩
    exact fun k e p thawed entry ready due first packet more => chutePacket_due hc bad suite sch runs all thawed entry ready due first packet more
  · intro e rest list runs ready p ela packet
    refine ⟨chutePacket_front hc bad list runs ready ela packet, ?_, ?_⟩
    · rintro last rfl unarmed tile differs
      exact chutePacket_differs hc list runs ready ela packet last unarmed bad tile differs
    · rintro last rfl unarmed plain
      exact chutePacket_passes hc list runs ready ela packet last unarmed bad plain
  · refine ⟨fun v => ⟨fun off => larderSlotEnable_off off c j, larderSlotEnable_refused hc hj, larderSlotEnable_started hc hj⟩, creditPeriod_off hc hj,
      fun enabled unarmed => ?_, fun ses off data hses unarmed => ⟨larderData_fails hc hj hses unarmed, larderData_taken hc hj hses unarmed⟩,
      fun ses start crc hses => ⟨larderCheck_stray hc hj hses, fun enabled session unarmed =>
        ⟨larderCheck_releases hc hj hses enabled session unarmed, larderCheck_mismatch hc hj hses enabled session unarmed⟩⟩,
      fun ses hses => ⟨abort_stray hc hj hses, abort_loses hc hj hses⟩⟩
    obtain ⟨mem, _, regs, _, larder⟩ := s.sendCredit_only c j
    have credits := creditPeriod_credits hc hj enabled unarmed
    exact ⟨credits, _, credits, by rw [larder]; rfl, by rw [larder]; rfl, mem, regs⟩

end

end Sys2Proof.Machine

/-! ## The test access port and observation (O58): each instruction, and the sample with its first match -/

namespace Sys2Proof.Machine

/-! ### Instructions that drive pins (R625, R626) -/

/-- A gated page raises nothing and sends no pulse (R544, R623). -/
theorem State.raise_out_dbg (s : State) (bit : Nat) : (s.raise dbg bit false).out = (s.trigEvent dbg bit).out := by
  cases gated : s.gated dbg with
  | false => rw [State.raise_out s gated, State.trigEvent_out]
  | true =>
    have low : tst (s.rd (gp .clkg) 0x090) 9 = false := by simpa [State.gated, dbg, gp] using gated
    simp [State.raise, gated, State.trigEvent, low]

/-- An instruction that may not drive acts as BYPASS and raises DBG_JTAG_REFUSED (R626). -/
theorem State.driving_refused (s : State) (barred : s.mayDrive = false) (ir drive : Nat) :
    (s.driving ir drive).rim.jtag = { s.rim.jtag with ir := 0xFF, drive := 0 } ∧ (s.driving ir drive).out = (s.trigEvent dbg 4).out
      ∧ (s.driving ir drive).mem = s.mem ∧ (tst (s.rd clkg 0x090) 9 = true → tst ((s.driving ir drive).rd dbg 0x028) 4 = true) := by
  have refused : s.driving ir drive = (s.tap 0xFF 0).raise dbg 4 false := by simp [State.driving, barred]
  rw [refused]
  refine ⟨?_, ?_, State.raise_mem .., fun clocked => State.raise_sets _ false ?_ (by decide)⟩
  · rw [State.raise_rim]; rfl
  · rw [State.raise_out_dbg, State.trigEvent_out, State.trigEvent_out]; rfl
  · change (!tst (s.rd clkg 0x090) 9) = false
    rw [clocked]; rfl

theorem jtag_refused {s : State} (barred : s.mayDrive = false) {pins vals : Nat} {cmd : Instr} (listed : cmd ∈ [Instr.extest pins vals, .clamp, .highz]) :
    Completes cmd s fun t => t.rim.jtag = { s.rim.jtag with ir := 0xFF, drive := 0 } ∧ t.out = (s.trigEvent dbg 4).out ∧ t.mem = s.mem
      ∧ (tst (s.rd clkg 0x090) 9 = true → tst (t.rd dbg 0x028) 4 = true) := by
  have asked : ∃ ir drive, exec cmd s = .next (s.driving ir drive) := by
    simp only [List.mem_cons, List.not_mem_nil, or_false] at listed
    obtain rfl | rfl | rfl := listed
    · refine ⟨0x00, 1, ?_⟩
      change execExtest pins vals s = _
      simp [execExtest, barred]
    · refine ⟨0x04, 1, ?_⟩
      change execClamp s = _
      simp [execClamp, barred]
    · exact ⟨0x03, 2, rfl⟩
  obtain ⟨ir, drive, eq⟩ := asked
  exact ⟨_, eq, s.driving_refused barred ir drive⟩

section
variable {s : State} (free : s.mayDrive = true)
include free

theorem State.driving_tap (ir drive : Nat) : s.driving ir drive = s.tap ir drive := by simp [State.driving, free]

theorem extest_drives (pins vals : Nat) : exec (.extest pins vals) s = .next (((s.tap 0x00 1).scanCells pins vals).emit (.pin "BSCAN" vals)) := by
  change execExtest pins vals s = _
  simp [execExtest, State.driving_tap free, free]

theorem clamp_drives : exec .clamp s = .next ((s.tap 0x04 1).emit (.pin "BSCAN" s.rim.jtag.cells)) := by
  change execClamp s = _
  simp [execClamp, State.driving_tap free, free]

theorem highz_drives : exec .highz s = .next (s.tap 0x03 2) := by
  change execHighz s = _
  rw [execHighz, State.driving_tap free]

end

/-! ### What a scan leaves alone -/

section
variable (s : State) (ir drive pins vals : Nat)

@[simp] theorem State.tap_regs : (s.tap ir drive).regs = s.regs := rfl
@[simp] theorem State.tap_mem : (s.tap ir drive).mem = s.mem := rfl
@[simp] theorem State.tap_out : (s.tap ir drive).out = s.out := rfl
@[simp] theorem State.tap_jtag : (s.tap ir drive).rim.jtag = { s.rim.jtag with ir, drive } := rfl
@[simp] theorem State.scanCells_regs : (s.scanCells pins vals).regs = s.regs := rfl
@[simp] theorem State.scanCells_mem : (s.scanCells pins vals).mem = s.mem := rfl
@[simp] theorem State.scanCells_out : (s.scanCells pins vals).out = s.out := rfl
@[simp] theorem State.scanCells_jtag : (s.scanCells pins vals).rim.jtag = { s.rim.jtag with seen := pins, cells := vals } := rfl

end

/-- What the instructions that drive pins leave where they may (R626). -/
theorem jtag_drives {s : State} (free : s.mayDrive = true) :
    (∀ pins vals, Completes (.extest pins vals) s fun t => t.rim.jtag = { s.rim.jtag with ir := 0x00, drive := 1, seen := pins, cells := vals }
      ∧ t.out = s.out ++ [.pin "BSCAN" vals] ∧ t.regs = s.regs ∧ t.mem = s.mem)
    ∧ (Completes .clamp s fun t => t.rim.jtag = { s.rim.jtag with ir := 0x04, drive := 1 } ∧ t.out = s.out ++ [.pin "BSCAN" s.rim.jtag.cells]
      ∧ t.regs = s.regs ∧ t.mem = s.mem)
    ∧ (Completes .highz s fun t => t.rim.jtag = { s.rim.jtag with ir := 0x03, drive := 2 } ∧ t.out = s.out ∧ t.regs = s.regs ∧ t.mem = s.mem) := by
  refine ⟨fun pins vals => ⟨_, extest_drives free pins vals, ?_⟩, ⟨_, clamp_drives free, ?_⟩, ⟨_, highz_drives free, ?_⟩⟩
  · simp [State.emit]
  · simp [State.emit]
  · simp

theorem samplePreload_scans (s : State) (pins vals : Nat) : Completes (.samplePreload pins vals) s fun t =>
    t.rim.jtag = { s.rim.jtag with ir := 0x01, drive := 0, seen := pins, cells := vals } ∧ t.regs = s.regs ∧ t.mem = s.mem ∧ t.out = s.out := by
  refine ⟨(s.tap 0x01 0).scanCells pins vals, rfl, ?_⟩
  simp

theorem idcode_answers (s : State) : Completes .idcode s fun t =>
    t.busData = (put 31 28 1 ||| put 27 12 0x0102 ||| put 11 1 Sys2Proof.Config.jedec ||| 1) ∧ t.rim.jtag = { s.rim.jtag with ir := 0x02, drive := 0 }
      ∧ t.regs = s.regs ∧ t.mem = s.mem :=
  ⟨_, rfl, rfl, s.tap_jtag 0x02 0, s.tap_regs 0x02 0, s.tap_mem 0x02 0⟩

theorem bypass_rests (s : State) : Completes .bypass s fun t =>
    t.rim.jtag = { s.rim.jtag with ir := 0xFF, drive := 0 } ∧ t.regs = s.regs ∧ t.mem = s.mem ∧ t.out = s.out :=
  ⟨s.tap 0xFF 0, rfl, s.tap_jtag .., s.tap_regs .., s.tap_mem .., s.tap_out ..⟩

/-! ### DBGACC (R627) -/

section
variable {s : State} {op off : Nat} {data : W64} (smallOp : op < 4) (smallOff : off < 2 ^ 32)
include smallOp smallOff

/-- DBGACC by its operation: none, or locked, or reserved, or an access as the host makes it. -/
theorem dbgacc_answers : exec (.dbgacc op off data) s = .next (
    if op = 0 then (s.tap 0x10 0).accResult 0 0 off data
    else if s.dbgLocked then (s.tap 0x10 0).accResult op 2 off data
    else if op = 3 then (s.tap 0x10 0).accResult 3 3 off data
    else if op = 1 then ((s.tap 0x10 0).hostRead off 8).accResult 1 (if off % 8 = 0 then 0 else 3) off ((s.tap 0x10 0).hostRead off 8).busData
    else ((s.tap 0x10 0).hostWrite off 8 data).accResult op (if off % 8 = 0 then 0 else 3) off data) := by
  have locked : (s.tap 0x10 0).dbgLocked = s.dbgLocked := rfl
  change execDbgacc op off data s = _
  unfold execDbgacc
  rw [Nat.mod_eq_of_lt smallOp, Nat.mod_eq_of_lt smallOff]
  dsimp only
  rw [locked]
  split
  · next h => rw [h]
  · split
    · rfl
    · split
      · next h => rw [h]
      · split
        · next h => rw [h]
        · rfl

end

/-! ### Samples (R620 to R623) -/

/-- What a sample leaves before any trigger pulses. -/
def State.sampled (s : State) (v : W64) (hit : Bool) : State :=
  { s with out := s.out ++ obsPins (s.rd dbg 0x088) v s.dbgLocked, rim := { s.rim with dbgLast := v, dbgMatch := hit } }

theorem observationSample_gated {s : State} (gated : tst (s.rd clkg 0x090) 9 = false) : exec .observationSample s = .next (s.emit (.pin "OBS" 0)) := by
  have low : tst (s.rd (gp .clkg) 0x090) 9 = false := gated
  change execObservationSample s = _
  simp [execObservationSample, low]

theorem observationSample_shows {s : State} {v : W64} (clocked : tst (s.rd clkg 0x090) 9 = true) (sample : s.observe = (s, v)) {hit : Bool}
    (matched : hit = decide ((v ^^^ s.rd dbg 0x090) &&& s.rd dbg 0x098 = 0)) :
    exec .observationSample s
      = .next (if hit && !s.rim.dbgMatch && !s.dbgLocked then ((s.sampled v hit).matchPulse 0).matchPulse 1 else s.sampled v hit) := by
  have high : tst (s.rd (gp .clkg) 0x090) 9 = true := clocked
  subst matched
  change execObservationSample s = _
  unfold execObservationSample
  rw [high, sample]
  rfl

/-- What a trigger of KIND MATCH leaves: everything but the pins and the DBG page's events. -/
theorem State.matchPulse_keeps (s : State) (i : Nat) : (s.matchPulse i).rim = s.rim ∧ (s.matchPulse i).mem = s.mem
    ∧ (∀ q o, regKey q o ≠ regKey dbg 0x028 → regKey q o ≠ regKey dbg 0x040 → (s.matchPulse i).rd q o = s.rd q o)
    ∧ (∀ m, m ∈ s.out → m ∈ (s.matchPulse i).out) ∧ (∀ b, tst (s.rd dbg 0x028) b = true → tst ((s.matchPulse i).rd dbg 0x028) b = true) := by
  unfold State.matchPulse
  split
  · refine ⟨State.raise_rim .., State.raise_mem .., fun q o h1 h2 => State.raise_rd _ _ h1 h2, fun m hm => ?_, fun b hb => State.raise_keeps _ _ hb⟩
    rw [State.raise_out_dbg, State.trigEvent_out]
    exact List.mem_append_left _ (List.mem_append_left _ hm)
  · exact ⟨rfl, rfl, fun _ _ _ _ => rfl, fun _ h => h, fun _ h => h⟩

theorem State.matchPulse_pulses (s : State) {i : Nat} (kind : fld (s.rd dbg (0x0A0 + 8 * i)) 63 62 = 2) (clocked : tst (s.rd clkg 0x090) 9 = true) :
    tst ((s.matchPulse i).rd dbg 0x028) 1 = true ∧ OutMsg.pin (trigName i) 1 ∈ (s.matchPulse i).out := by
  have ungated : (s.emit (.pin (trigName i) 1)).gated dbg = false := by
    change (!tst (s.rd clkg 0x090) 9) = false
    rw [clocked]; rfl
  rw [State.matchPulse, if_pos kind]
  refine ⟨State.raise_sets _ _ ungated (by decide), ?_⟩
  rw [State.raise_out_dbg, State.trigEvent_out]
  exact List.mem_append_left _ (List.mem_append_right _ (List.mem_singleton.mpr rfl))

/-- Both triggers of KIND MATCH pulse at the first match (R623). -/
theorem State.matchPulses_pulse (s : State) (clocked : tst (s.rd clkg 0x090) 9 = true) {i : Nat} (small : i < 2)
    (kind : fld (s.rd dbg (0x0A0 + 8 * i)) 63 62 = 2) :
    tst (((s.matchPulse 0).matchPulse 1).rd dbg 0x028) 1 = true ∧ OutMsg.pin (trigName i) 1 ∈ ((s.matchPulse 0).matchPulse 1).out := by
  obtain ⟨-, -, regs, -, -⟩ := s.matchPulse_keeps 0
  obtain ⟨-, -, -, pins, event⟩ := (s.matchPulse 0).matchPulse_keeps 1
  obtain rfl | rfl : i = 0 ∨ i = 1 := by omega
  · obtain ⟨raised, sent⟩ := s.matchPulse_pulses kind clocked
    exact ⟨event 1 raised, pins _ sent⟩
  · refine (s.matchPulse 0).matchPulse_pulses ?_ ?_
    · rwa [regs dbg 0x0A8 (regKey_off (by decide)) (regKey_off (by decide))]
    · rwa [regs clkg 0x090 (by decide) (by decide)]

/-- Settles O58. The model's choices of log entries 93 and 94 are in it: a gated multiplexer takes no sample, every raise gives its own pulse, and one
command loads an instruction and makes one scan. -/
theorem jtagInstructions : Obligations.JtagInstructions := by
  unfold Obligations.JtagInstructions
  refine fun s => ⟨rfl, bypass_rests s, idcode_answers s, samplePreload_scans s, jtag_drives, fun barred pins vals cmd listed => jtag_refused barred listed,
    ?access, observationSample_gated, ?sample⟩
  case access =>
    rintro op off data g smallOp smallOff rfl
    rw [dbgacc_answers smallOp smallOff]
    refine ⟨fun none => ?_, fun some locked => ?_, fun unlocked => ⟨fun reserved => ?_, fun read => ?_, fun write => ?_⟩, fun st _ => ⟨rfl, rfl⟩⟩
    · rw [if_pos none]
    · rw [if_neg some, if_pos locked]
    · subst reserved; simp [unlocked]
    · subst read; simp [unlocked]
    · subst write; simp [unlocked]
  case sample =>
    intro clocked v sample hit matched
    rw [Completes, Completes, observationSample_shows clocked sample matched]
    refine ⟨fun none => ⟨s.sampled v hit, ?_, rfl, rfl, rfl, rfl, rfl⟩, fun first new unlocked => ?_⟩
    · rcases none with h | h | h <;> simp [h]
    · obtain ⟨rim0, mem0, -⟩ := (s.sampled v hit).matchPulse_keeps 0
      obtain ⟨rim1, mem1, -⟩ := ((s.sampled v hit).matchPulse 0).matchPulse_keeps 1
      refine ⟨((s.sampled v hit).matchPulse 0).matchPulse 1, by simp [first, new, unlocked], ?_, ?_, mem1.trans mem0, fun i small kind => ?_⟩
      · rw [rim1, rim0]; rfl
      · rw [rim1, rim0]; exact first
      · exact (s.sampled v hit).matchPulses_pulse clocked small kind

end Sys2Proof.Machine

/-! ## Event vectors (O28): a vector sent or left pending, a source armed again, and a hold-off that ends -/

namespace Sys2Proof.Machine

/-- A source that is enabled and not held off, while HOLDOFF_US is 0, sends its vector (R609). -/
theorem State.srcSend_now {s : State} {src : Nat} (enabled : tst (s.rd (gp .pche) (0x400 + 8 * src)) 63 = true) (free : s.holdoff src ≤ s.et)
    (none : s.rdF (gp .pche) 0x0A8 15 0 = 0) : s.srcSend src = s.sendVector (fld (s.rd (gp .pche) (0x400 + 8 * src)) 10 0) := by
  simp [State.srcSend, enabled, Nat.not_lt.mpr free, none]

theorem State.sendVector_unmasked {s : State} {v : Nat} (unmasked : s.msixMasked v = false) : s.sendVector v = { s with out := s.out ++ [.msix v] } := by
  simp [State.sendVector, unmasked, State.emit]

/-- A masked vector waits in the PBA (R609). -/
theorem State.sendVector_masked {s : State} {v : Nat} (masked : s.msixMasked v = true) (new : v ∉ s.rim.pba) :
    s.sendVector v = { s with rim := { s.rim with pba := s.rim.pba ++ [v] } } := by
  simp [State.sendVector, masked, new]

theorem pcheArm_pending {s : State} {src : Nat} (small : src < 320) (pending : s.srcPending src = true) : exec (.pcheArm src) s = .next (s.srcSend src) := by
  change execPcheArm src s = _
  simp [execPcheArm, State.armSource, small, pending]

theorem pcheArm_idle {s : State} {src : Nat} (idle : s.srcPending src = false) : exec (.pcheArm src) s = .next s := by
  change execPcheArm src s = _
  simp [execPcheArm, State.armSource, idle]

/-- A source whose hold-off has ended. -/
def State.holdoffOver (s : State) (src : Nat) : State :=
  { s with rim := { s.rim with msix := smSet 0 s.rim.msix src 0, msiWait := s.rim.msiWait.filter fun k => k ≠ src } }

theorem holdoffExpiry_held {s : State} {src : Nat} (held : s.et < s.holdoff src) : exec (.holdoffExpiry src) s = .next s := by
  change execHoldoffExpiry src s = _
  simp [execHoldoffExpiry, held]

theorem holdoffExpiry_over {s : State} {src : Nat} (on : smGet 0 s.rim.msix src ≠ 0) (free : s.holdoff src ≤ s.et) :
    exec (.holdoffExpiry src) s
      = .next (if s.rim.msiWait.contains src && s.srcPending src then (s.holdoffOver src).srcSend src else s.holdoffOver src) := by
  change execHoldoffExpiry src s = _
  simp [execHoldoffExpiry, on, Nat.not_lt.mpr free, State.holdoffOver]

theorem State.holdoffOver_holdoff (s : State) (src : Nat) : (s.holdoffOver src).holdoff src = 0 := by
  simp [State.holdoff, State.holdoffOver]

/-- Settles O28. That the vector waiting is sent at the end of the hold-off is the model's reading of MSI-X (log entry 89). -/
theorem eventVectors : Obligations.EventVectors := by
  unfold Obligations.EventVectors
  rintro s src v small rfl enabled none
  refine ⟨fun pending free unmasked => ?_, fun pending free masked new => ?_, pcheArm_idle, fun on free absent => ?_, holdoffExpiry_held,
    fun on free waits pending unmasked => ?_⟩
  · rw [pcheArm_pending small pending, State.srcSend_now enabled free none, State.sendVector_unmasked unmasked]
  · rw [pcheArm_pending small pending, State.srcSend_now enabled free none, State.sendVector_masked masked new]
  · rw [holdoffExpiry_over on free, if_neg (by simp [absent]), State.holdoffOver]
  · have sent : (s.holdoffOver src).srcSend src = (s.holdoffOver src).sendVector (fld (s.rd (gp .pche) (0x400 + 8 * src)) 10 0) :=
      State.srcSend_now enabled (by rw [State.holdoffOver_holdoff]; exact Nat.zero_le _) none
    have past := holdoffExpiry_over on free
    rw [if_pos (by simp [waits, pending]), sent, State.sendVector_unmasked (s := s.holdoffOver src) unmasked] at past
    exact ⟨_, past, rfl, by simp [State.holdoffOver], by simp [State.holdoffOver], rfl⟩

end Sys2Proof.Machine

/-! ## Roll calls (O36): digests at the root, the roll call begun and compared, a bisection, and the silent predecessor -/

namespace Sys2Proof.Machine

/-! ### Digests (R398) -/

theorem rcDigest_inj {k i : Nat} (hk : k < 64) (hi : i < 64) (same : rcDigest k = rcDigest i) : k = i := by unfold rcDigest at same; omega

theorem rcDigest_ne_root (k : Nat) : 0xA00 ≠ rcDigest k := by unfold rcDigest; omega

theorem rcA_lt_digest (i k : Nat) : rcA i + 8 < rcDigest k := by unfold rcA rcDigest; omega

theorem State.rd_digest (s : State) {i k : Nat} (hi : i < 64) (hk : k < 64) (v : W64) :
    (s.wr (gp .yzlg) (rcDigest i) v).rd (gp .yzlg) (rcDigest k) = if k = i then v else s.rd (gp .yzlg) (rcDigest k) := by
  split
  · next h => rw [h, State.rd_wr_self]
  · next h => exact s.rd_wr_off _ fun same => h (rcDigest_inj hk hi same)

/-- The digests of the table once Suite `i`'s has reached the root. -/
def State.digests (s : State) (i : Nat) : List W64 := (List.range 64).map fun k => if k = i then s.suiteDigest i else s.rd (gp .yzlg) (rcDigest k)

theorem digest_writes (s : State) {i : Nat} (hi : i < 64) :
    exec (.digest i) s = .next ((s.wr (gp .yzlg) (rcDigest i) (s.suiteDigest i)).wr (gp .yzlg) 0xA00 (crcWords 0 (s.digests i))) := by
  have digests : (List.range 64).map (fun k => (s.wr (gp .yzlg) (rcDigest i) (s.suiteDigest i)).rd (gp .yzlg) (rcDigest k)) = s.digests i :=
    List.map_congr_left fun k hk => s.rd_digest hi (List.mem_range.mp hk) _
  rw [← digests]
  change execDigest i s = _
  unfold execDigest
  rw [Nat.mod_eq_of_lt hi]

/-- The digest written by Suite, and the engine digest over all of them. -/
theorem digest_reaches (s : State) {i : Nat} (hi : i < 64) :
    Completes (.digest i) s fun t => t.rd (gp .yzlg) (rcDigest i) = s.suiteDigest i
      ∧ t.rd (gp .yzlg) 0xA00 = crcWords 0 ((List.range 64).map fun k => if k = i then s.suiteDigest i else s.rd (gp .yzlg) (rcDigest k))
      ∧ (∀ k, k < 64 → k ≠ i → t.rd (gp .yzlg) (rcDigest k) = s.rd (gp .yzlg) (rcDigest k)) ∧ { t with regs := s.regs } = s := by
  refine ⟨_, digest_writes s hi, ?_, ?_, fun k hk ne => ?_, (State.wr_regsOut ..).trans (State.wr_regsOut ..)⟩
  · rw [State.rd_wr_off _ _ (rcDigest_ne_root i).symm, State.rd_wr_self]
  · rw [State.rd_wr_self, State.digests]
  · rw [State.rd_wr_off _ _ (rcDigest_ne_root k).symm, s.rd_digest hi hk, if_neg ne]

/-! ### A roll call begins (R399, R405) -/

/-- What a roll call starts with: the digest taken and sent to the successor. -/
def State.rollBegun (s : State) (i : Nat) (d : W64) (to_ : Nat) : State :=
  (s.setRoll i ⟨d, s.et, false, 0, 0, 0, true, false, none⟩).yazCtl to_ 0x02 (leTo 1 i ++ leTo 1 0 ++ leTo 8 d.toNat)

theorem State.rollStart_begins (s : State) {i : Nat}
    (expected : tst (s.rd (gp .yzlg) (rcA i)) 62 = false ∨ s.rd (gp .yzlg) (rcDigest i) = s.rd (gp .yzlg) (rcA i + 8)) (none : (s.roll i).early = none) :
    s.rollStart i = s.rollBegun i (s.rd (gp .yzlg) (rcDigest i)) (fld (s.rd (gp .yzlg) (rcA i)) 19 0) := by
  have agrees : ¬ (tst (s.rd (gp .yzlg) (rcA i)) 62 = true ∧ s.rd (gp .yzlg) (rcDigest i) ≠ s.rd (gp .yzlg) (rcA i + 8)) := by
    rintro ⟨checked, differs⟩
    rcases expected with h | h
    · rw [h] at checked; cases checked
    · exact differs h
  unfold State.rollStart
  rw [none]
  dsimp only
  rw [if_neg agrees]
  rfl

theorem rollCallGo_writes (s : State) {i : Nat} (hi : i < 64) (v : W64) : exec (.rollCallGo i v) s = .next (s.rollWrite i v) := by
  change execRollCallGo i v s = _
  rw [execRollCallGo, Nat.mod_eq_of_lt hi]

/-- A write with GO begins the roll call with the fields it writes. -/
theorem State.rollWrite_go (s : State) (i : Nat) {v : W64} (go : tst v 63 = true)
    (expected : tst v 62 = false ∨ s.rd (gp .yzlg) (rcDigest i) = s.rd (gp .yzlg) (rcA i + 8)) (none : (s.roll i).early = none) :
    s.rollWrite i v = (s.wr (gp .yzlg) (rcA i) (v &&& (maskOf 62 62 ||| maskOf 55 0))).rollBegun i (s.rd (gp .yzlg) (rcDigest i)) (fld v 19 0) := by
  have digest (w : W64) : (s.wr (gp .yzlg) (rcA i) w).rd (gp .yzlg) (rcDigest i) = s.rd (gp .yzlg) (rcDigest i) :=
    s.rd_wr_off _ (by have := rcA_lt_digest i i; omega)
  have expect (w : W64) : (s.wr (gp .yzlg) (rcA i) w).rd (gp .yzlg) (rcA i + 8) = s.rd (gp .yzlg) (rcA i + 8) := s.rd_wr_off _ (by omega)
  have begins := (s.wr (gp .yzlg) (rcA i) (v &&& (maskOf 62 62 ||| maskOf 55 0))).rollStart_begins (i := i)
    (by rw [State.rd_wr_self, digest, expect, tst_and v (by decide)]; exact expected) none
  rw [State.rollWrite, if_pos go, begins, State.rd_wr_self, digest, fld_and v (by decide) (by decide)]

theorem rollCallPeriod_answers (s : State) {i : Nat} (hi : i < 64) :
    exec (.rollCallPeriod i) s = .next (if s.rdF (gp .yzlg) (rcA i) 55 40 ≠ 0 ∧ (s.roll i).sentAt + usToEt (1000 * s.rdF (gp .yzlg) (rcA i) 55 40) ≤ s.et
      then s.rollStart i else s) := by
  change execRollCallPeriod i s = _
  unfold execRollCallPeriod
  rw [Nat.mod_eq_of_lt hi]
  dsimp only
  split <;> rfl

/-! ### Digests compared (R399, R400, R474) -/

@[simp] theorem State.roll_setRoll (s : State) (i : Nat) (r : RollCall) : (s.setRoll i r).roll i = r := by simp [State.roll, State.setRoll]

theorem State.roll_of_rim {s t : State} (h : t.rim = s.rim) (i : Nat) : t.roll i = s.roll i := by rw [State.roll, State.roll, h]

theorem State.restart_of_rim {s t : State} (h : t.rim = s.rim) (i : Nat) : t.restart i = s.restart i := by rw [State.restart, State.restart, h]

@[simp] theorem State.restart_setRestart (s : State) (i : Nat) (r : Restart) : (s.setRestart i r).restart i = r := by
  simp [State.restart, State.setRestart]

/-- A roll call that has ended well: ROLL_CALL_OK raised (R399). -/
def State.rollOk (s : State) (i : Nat) : State := (s.setRoll i { s.roll i with got := true, active := false }).raise (gp .yzlg) 5 false

theorem State.setRoll_setRoll (s : State) (i : Nat) (q r : RollCall) : (s.setRoll i q).setRoll i r = s.setRoll i r := by simp [State.setRoll]

theorem State.rollCompare_equal {s : State} {i : Nat} (unarmed : s.isArmed (gp .yzlg) 3 = false) :
    s.rollCompare i (s.roll i).digest
      = if (s.restart i).st = 6 then (s.rollOk i).setRestart i { s.restart i with st := 7 } else s.rollOk i := by
  have restart : (s.rollOk i).restart i = s.restart i := (State.restart_of_rim (State.raise_rim ..) i).trans rfl
  rw [← restart, State.rollOk, ← s.setRoll_setRoll i { s.roll i with got := true }]
  simp [State.rollCompare, unarmed]

/-- An equal digest ends the roll call, and a restart that waits for it is READY. -/
theorem State.rollCompare_agrees {s : State} {i : Nat} (unarmed : s.isArmed (gp .yzlg) 3 = false) {t : State} (after : t = s.rollCompare i (s.roll i).digest) :
    tst (t.rd (gp .yzlg) 0x028) 5 = true ∧ (t.roll i).active = false ∧ (t.roll i).got = true ∧ ((s.restart i).st = 6 → (t.restart i).st = 7)
      ∧ t.mem = s.mem ∧ t.suites = s.suites := by
  have event : tst ((s.rollOk i).rd (gp .yzlg) 0x028) 5 = true := State.raise_sets _ false rfl (by decide)
  have rim : (s.rollOk i).rim = (s.setRoll i { s.roll i with got := true, active := false }).rim := State.raise_rim ..
  have roll : (s.rollOk i).roll i = { s.roll i with got := true, active := false } := (State.roll_of_rim rim i).trans (State.roll_setRoll ..)
  have mem : (s.rollOk i).mem = s.mem := State.raise_mem ..
  have suites : (s.rollOk i).suites = s.suites := State.raise_suites ..
  rw [State.rollCompare_equal unarmed] at after
  subst after
  split
  · next waits =>
    have shown : ((s.rollOk i).setRestart i { s.restart i with st := 7 }).rd (gp .yzlg) 0x028 = (s.rollOk i).rd (gp .yzlg) 0x028 :=
      State.rd_wr_key _ _ (by decide)
    have ended : ((s.rollOk i).setRestart i { s.restart i with st := 7 }).roll i = { s.roll i with got := true, active := false } := roll
    exact ⟨by rw [shown]; exact event, by rw [ended], by rw [ended], fun _ => by rw [State.restart_setRestart], mem, suites⟩
  · next other => exact ⟨event, by rw [roll], by rw [roll], fun waits => absurd waits other, mem, suites⟩

/-- A digest that differs, in a Suite of one Wing, names that Wing at once (R400). -/
theorem State.rollCompare_differs {s : State} {i : Nat} {u : Suite} {d : W64} (unarmed : s.isArmed (gp .yzlg) 3 = false) (differs : d ≠ (s.roll i).digest)
    (defined : s.suite i = some u) (single : u.wings.length = 1) {t : State} (after : t = s.rollCompare i d) :
    tst (t.rd (gp .yzlg) 0x028) 3 = true ∧ (t.roll i).active = false ∧ t.restart i = s.restart i ∧ t.mem = s.mem ∧ t.suites = s.suites := by
  have named : ∃ peer, t = (s.setRoll i { s.roll i with got := true, active := false, split := false }).rollMismatch i peer 0 false := by
    have same : (s.setRoll i { s.roll i with got := true }).suite i = some u := defined
    refine ⟨(s.yctx (s.rdF (gp .yzlg) (rcA i) 39 20)).peer, ?_⟩
    rw [after, ← s.setRoll_setRoll i { s.roll i with got := true }]
    simp only [State.rollCompare, unarmed, Bool.false_eq_true, if_false, if_neg differs, same, single, State.rollSplit, State.roll_setRoll]
    rw [if_pos (by decide)]
    rfl
  obtain ⟨peer, rfl⟩ := named
  have rim : ((s.setRoll i { s.roll i with got := true, active := false, split := false }).rollMismatch i peer 0 false).rim
      = (s.setRoll i { s.roll i with got := true, active := false, split := false }).rim := by simp [State.rollMismatch]
  refine ⟨State.raise_sets _ false rfl (by decide), ?_, State.restart_of_rim rim i, by simp [State.rollMismatch, State.setRoll],
    by simp [State.rollMismatch, State.setRoll]⟩
  rw [State.roll_of_rim rim, State.roll_setRoll]

/-! ### Messages of a roll call (R399, R400) -/

section
variable {s t : State} {n i : Nat} {e : YRecv} {d : W64}

theorem rollCall_answers (small : n < 2 ^ 20) (hi : i < 64) (taken : s.yazTake n 0x02 = (t, some e)) (suite : leOf (e.data.take 1) = i)
    (digest : d = w64 (leOf ((e.data.drop 2).take 8))) :
    exec (.rollCall n) s = .next ((if t.rdF (gp .yzlg) (rcA i) 39 20 ≠ n then t
      else if (t.roll i).active ∧ !(t.roll i).got then t.rollCompare i d else t.setRoll i { t.roll i with early := some d }).yazDeliver n 300) := by
  subst digest
  change execRollCall n s = _
  unfold execRollCall
  dsimp only
  rw [Nat.mod_eq_of_lt small, taken]
  dsimp only
  rw [suite, Nat.mod_eq_of_lt hi]

theorem rollSplit_answers {u : Suite} {lo hi q : Nat} (small : n < 2 ^ 20) (hi64 : i < 64) (taken : s.yazTake n 0x03 = (t, some e))
    (suite : leOf ((e.data.drop 0).take 1) = i) (round : q = leOf ((e.data.drop 1).take 1)) (low : lo = leOf ((e.data.drop 2).take 1))
    (high : hi = leOf ((e.data.drop 3).take 1)) (digest : d = w64 (leOf ((e.data.drop 4).take 8))) (defined : t.suite i = some u) :
    exec (.rollSplit n) s = .next ((
      if t.rdF (gp .yzlg) (rcA i) 39 20 = n ∧ (t.roll i).split ∧ (t.roll i).round = q ∧ (t.roll i).lo = lo ∧ ((t.roll i).lo + (t.roll i).hi) / 2 = hi then
        (if d ≠ t.rangeDigest u lo hi then t.rollSplit i (t.roll i).lo hi ((t.roll i).round + 1) else t.rollSplit i hi (t.roll i).hi ((t.roll i).round + 1))
      else if t.rdF (gp .yzlg) (rcA i) 19 0 = n then t.yazCtl n 0x03 (splitBytes i q lo hi (t.rangeDigest u lo hi)) else t).yazDeliver n 300) := by
  change execRollSplit n s = _
  unfold execRollSplit
  dsimp only
  rw [Nat.mod_eq_of_lt small, taken]
  dsimp only
  simp only [State.rdF, suite, ← round, ← low, ← high, ← digest, Nat.mod_eq_of_lt hi64, defined]
  rfl

end

/-! ### A silent predecessor (R399, R405) -/

theorem rollCallTimeout_answers (s : State) {i : Nat} (hi : i < 64) :
    exec (.rollCallTimeout i) s = .next (if (s.roll i).active ∧ !(s.roll i).got ∧ (s.roll i).sentAt + usToEt s.streamUs ≤ s.et
      then (s.setRoll i { s.roll i with active := false }).raise (gp .yzlg) 4 false else s) := by
  change execRollCallTimeout i s = _
  unfold execRollCallTimeout
  rw [Nat.mod_eq_of_lt hi]
  dsimp only
  split <;> rfl

theorem rollCallTimeout_ends {s : State} {i : Nat} (hi : i < 64) (active : (s.roll i).active = true) (silent : (s.roll i).got = false)
    (late : (s.roll i).sentAt + usToEt s.streamUs ≤ s.et) :
    Completes (.rollCallTimeout i) s fun t => tst (t.rd (gp .yzlg) 0x028) 4 = true ∧ (t.roll i).active = false ∧ t.restart i = s.restart i ∧ t.mem = s.mem
      ∧ t.suites = s.suites := by
  refine ⟨_, rollCallTimeout_answers s hi, ?_⟩
  rw [if_pos ⟨active, by rw [silent]; rfl, late⟩]
  have rim := State.raise_rim (s.setRoll i { s.roll i with active := false }) (gp .yzlg) 4 false
  refine ⟨State.raise_sets _ false rfl (by decide), ?_, State.restart_of_rim rim i, State.raise_mem .., State.raise_suites ..⟩
  rw [State.roll_of_rim rim, State.roll_setRoll]

/-- Settles O36. That a roll call starts with round 0 and a digest that comes early is kept, and that ROLL_CALL compares digests of the DIGEST command, are the
model's readings (log entry 63). -/
theorem rollCalls : Obligations.RollCalls := by
  unfold Obligations.RollCalls
  rintro s i hi a r rfl rfl
  refine ⟨digest_reaches s hi, ?go, fun on due => ?_, fun idle => ?_, fun d unarmed => ⟨?_, fun u differs defined single t after =>
    State.rollCompare_differs unarmed differs defined single after⟩, ?call, ?split, rollCallTimeout_ends hi, fun idle => ?_⟩
  case go =>
    rintro v x d rfl rfl
    refine ⟨fun low => ?_, fun go expected none => ?_⟩
    · rw [rollCallGo_writes s hi, State.rollWrite, if_neg (by rw [low]; decide)]
    · rw [rollCallGo_writes s hi, s.rollWrite_go i go expected none]
      rfl
  · rw [rollCallPeriod_answers s hi, if_pos ⟨on, due⟩]
  · rw [rollCallPeriod_answers s hi, if_neg]
    rintro ⟨on, due⟩
    exact idle.elim on (Nat.not_lt.mpr due)
  · rintro rfl t after
    exact State.rollCompare_agrees unarmed after
  case call =>
    intro n e t d small taken suite digest
    rw [rollCall_answers small hi taken suite digest]
    refine ⟨fun prev active silent => ?_, fun prev ended => ?_, fun other => ?_⟩
    · rw [if_neg (not_not.mpr prev), if_pos ⟨active, by rw [silent]; rfl⟩]
    · rw [if_neg (not_not.mpr prev), if_neg]
      rintro ⟨active, silent⟩
      rcases ended with h | h <;> simp [h] at active silent
    · rw [if_pos other]
  case split =>
    intro n e t u lo hi' q d m small taken suite round low high digest defined same
    rw [rollSplit_answers small hi taken suite round low high digest defined, ← same]
    refine ⟨fun prev split at_ from_ to_ => ?_, fun other next => ?_⟩
    · rw [if_pos ⟨prev, split, at_, from_, to_⟩, from_, at_]
    · rw [if_neg, if_pos next]
      rintro ⟨prev, split, -⟩
      rcases other with h | h
      · exact h prev
      · rw [h] at split; cases split
  · rw [rollCallTimeout_answers s hi, if_neg]
    rintro ⟨active, silent, late⟩
    rcases idle with h | h | h
    · rw [h] at active; cases active
    · rw [h] at silent; cases silent
    · exact absurd late (Nat.not_le.mpr h)

end Sys2Proof.Machine

/-! ## Eaves ports (O49): EAV_CFG, training, links, lanes and PFC -/

namespace Sys2Proof.Machine

/-! ### A port's half of EAV_STATUS, and the numbers kept by port -/

theorem portHalf_lt (p : Nat) : portHalf p < 2 := Nat.mod_lt _ (by decide)

theorem eav_of_pos {pos h : Nat} (hh : h < 2) : eav (2 * pos + h) = ⟨.eav, pos⟩ := by
  unfold eav
  congr 1
  omega

theorem portHalf_of_pos {pos h : Nat} (hh : h < 2) : portHalf (2 * pos + h) = h := by unfold portHalf; omega

section
variable (s : State) (p : Nat) {hi lo a b v : Nat}

theorem State.eavSt_setEavSt (hh : hi < 32) (hv : v < 2 ^ (hi + 1 - lo)) : (s.setEavSt p hi lo v).eavSt p hi lo = v := by
  have half := portHalf_lt p
  have width : 32 * portHalf p + hi + 1 - (32 * portHalf p + lo) = hi + 1 - lo := by omega
  exact s.rdF_wrF_self (eav p) 0x088 (by omega) (by rw [width]; exact hv)

/-- A field of the same port beside the one set. -/
theorem State.eavSt_setEavSt_beside (ha : a < 32) (h : hi < b ∨ a < lo) : (s.setEavSt p hi lo v).eavSt p a b = s.eavSt p a b := by
  have half := portHalf_lt p
  simp only [State.eavSt, State.setEavSt, State.rdF, State.wrF, State.rd_wr_self]
  exact fld_setFld_ne _ (by omega) (by omega)

/-- Another port's half, in the same register or in another engine's. -/
theorem State.eavSt_setEavSt_port {q : Nat} (other : q ≠ p) (hh : hi < 32) (ha : a < 32) : (s.setEavSt p hi lo v).eavSt q a b = s.eavSt q a b := by
  have halfp := portHalf_lt p
  have halfq := portHalf_lt q
  by_cases page : q / 2 = p / 2
  · have same : eav q = eav p := by rw [eav, eav, page]
    have halves : portHalf q ≠ portHalf p := by unfold portHalf; omega
    simp only [State.eavSt, State.setEavSt, State.rdF, State.wrF, same, State.rd_wr_self]
    exact fld_setFld_ne _ (by omega) (by omega)
  · have keep : (s.setEavSt p hi lo v).rd (eav q) 0x088 = s.rd (eav q) 0x088 := s.rd_wr_key _ (regKey_insts page)
    rw [State.eavSt, State.eavSt, State.rdF, State.rdF, keep]

theorem State.setEavSt_rd {q : PageRef} {o : Nat} (ho : o < 4096 := by decide) (h : o ≠ 0x088 := by decide) : (s.setEavSt p hi lo v).rd q o = s.rd q o :=
  s.rd_wr_key _ (regKey_offs ho (by decide) h)

@[simp] theorem State.setEavSt_mem : (s.setEavSt p hi lo v).mem = s.mem := rfl
@[simp] theorem State.setEavSt_pkts : (s.setEavSt p hi lo v).pkts = s.pkts := rfl
@[simp] theorem State.setEavSt_et : (s.setEavSt p hi lo v).et = s.et := rfl
@[simp] theorem State.setEavSt_rim : (s.setEavSt p hi lo v).rim = s.rim := rfl
@[simp] theorem State.setEavSt_trainAt (k : Nat) : (s.setEavSt p hi lo v).trainAt k = s.trainAt k := rfl

end

section
variable (s : State) (k v : Nat)

@[simp] theorem State.trainAt_setTrainAt : (s.setTrainAt k v).trainAt k = v := by simp [State.trainAt, State.setTrainAt]

theorem State.trainAt_setTrainAt_ne {j : Nat} (h : j ≠ k) : (s.setTrainAt k v).trainAt j = s.trainAt j := smGet_smSet_ne _ _ _ _ h

@[simp] theorem State.setTrainAt_rd (p : PageRef) (o : Nat) : (s.setTrainAt k v).rd p o = s.rd p o := rfl
@[simp] theorem State.setTrainAt_rdF (p : PageRef) (o hi lo : Nat) : (s.setTrainAt k v).rdF p o hi lo = s.rdF p o hi lo := rfl
@[simp] theorem State.setTrainAt_eavSt (p hi lo : Nat) : (s.setTrainAt k v).eavSt p hi lo = s.eavSt p hi lo := rfl
@[simp] theorem State.setTrainAt_mem : (s.setTrainAt k v).mem = s.mem := rfl
@[simp] theorem State.setTrainAt_pkts : (s.setTrainAt k v).pkts = s.pkts := rfl
@[simp] theorem State.setTrainAt_et : (s.setTrainAt k v).et = s.et := rfl

end

theorem State.trainAt_of_rim {s t : State} (h : t.rim = s.rim) (k : Nat) : t.trainAt k = s.trainAt k := by rw [State.trainAt, State.trainAt, h]

@[simp] theorem State.raise_trainAt (s : State) (p : PageRef) (bit : Nat) (inj : Bool) (k : Nat) : (s.raise p bit inj).trainAt k = s.trainAt k :=
  State.trainAt_of_rim (State.raise_rim ..) k

@[simp] theorem State.raise_eavSt (s : State) (q : PageRef) (bit : Nat) (inj : Bool) (p hi lo : Nat) : (s.raise q bit inj).eavSt p hi lo = s.eavSt p hi lo := by
  rw [State.eavSt, State.eavSt, State.rdF, State.rdF, s.raise_rd inj regKey_offs regKey_offs]

/-- The mode and the ports enabled stand in EAV_CFG alone. -/
theorem State.eavMode_of {s t : State} {p : Nat} (h : t.rd (eav p) 0x080 = s.rd (eav p) 0x080) : t.eavMode p = s.eavMode p := by
  rw [State.eavMode, State.eavMode, State.rdF, State.rdF, h]

/-! ### A write of EAV_CFG (R369, R371, R372, R402) -/

/-- What the write does to the engine's port of half `h`. -/
def State.cfgTurn (v old : W64) (pos : Nat) (s : State) (h : Nat) : State :=
  if tst v (2 + h) && !tst old (2 + h) then s.portStart (2 * pos + h) else if tst old (2 + h) && !tst v (2 + h) then s.portStop (2 * pos + h) else s

/-- What one port's turn keeps: the other ports' status and times, EAV_CFG, and all outside the ports. -/
structure State.PortOnly (s t : State) (p : Nat) : Prop where
  status : ∀ q, q ≠ p → ∀ a b, a < 32 → t.eavSt q a b = s.eavSt q a b
  times : ∀ k, k % 64 ≠ p % 64 → t.trainAt k = s.trainAt k
  cfg : ∀ q, t.rd (eav q) 0x080 = s.rd (eav q) 0x080
  mem : t.mem = s.mem
  pkts : t.pkts = s.pkts
  et : t.et = s.et

section
variable {s t u : State} {p : Nat}

theorem State.PortOnly.refl : State.PortOnly s s p := ⟨fun _ _ _ _ _ => rfl, fun _ _ => rfl, fun _ => rfl, rfl, rfl, rfl⟩

theorem State.PortOnly.setEavSt (h : State.PortOnly s t p) {hi lo v : Nat} (hh : hi < 32) : State.PortOnly s (t.setEavSt p hi lo v) p :=
  ⟨fun q ne a b ha => (t.eavSt_setEavSt_port p ne hh ha).trans (h.status q ne a b ha), h.times, fun q => (t.setEavSt_rd p).trans (h.cfg q), h.mem, h.pkts, h.et⟩

theorem State.PortOnly.setTrainAt (h : State.PortOnly s t p) {k v : Nat} (own : k % 64 = p % 64) : State.PortOnly s (t.setTrainAt k v) p :=
  ⟨h.status, fun j ne => (t.trainAt_setTrainAt_ne k v fun (e : j = k) => ne (by rw [e]; exact own)).trans (h.times j ne), h.cfg, h.mem, h.pkts, h.et⟩

end

theorem State.portStart_only (s : State) (p : Nat) : State.PortOnly s (s.portStart p) p := by
  unfold State.portStart State.trainStart
  split
  · exact ((State.PortOnly.refl.setTrainAt rfl).setEavSt (by decide)).setTrainAt (by omega)
  · exact .refl

theorem State.portStop_only (s : State) (p : Nat) : State.PortOnly s (s.portStop p) p := by
  unfold State.portStop
  exact ((((State.PortOnly.refl.setEavSt (by decide)).setTrainAt rfl).setTrainAt (by omega)).setTrainAt (by omega)).setTrainAt (by omega)

theorem State.cfgTurn_only (s : State) (v old : W64) (pos h : Nat) : State.PortOnly s (s.cfgTurn v old pos h) (2 * pos + h) := by
  unfold State.cfgTurn
  split
  · exact s.portStart_only _
  · split
    · exact s.portStop_only _
    · exact .refl

theorem State.trainStart_step (s : State) (p : Nat) : (s.trainStart p).eavSt p 30 28 = 1 := s.eavSt_setEavSt p (by decide) (by decide)

theorem State.trainStart_from (s : State) (p : Nat) : (s.trainStart p).trainAt (128 + p) = s.et := by simp [State.trainStart]

theorem State.trainStart_tries (s : State) (p : Nat) : (s.trainStart p).trainAt p = s.trainAt p :=
  (State.trainAt_setTrainAt_ne _ _ _ (by omega)).trans (State.setEavSt_trainAt ..)

/-- What the write makes of the port of half `h`. -/
def State.PortTurned (v old : W64) (pos h : Nat) (s t : State) : Prop :=
  (tst v (2 + h) = true → tst old (2 + h) = false → fld v 1 0 = 1 →
    t.eavSt (2 * pos + h) 30 28 = 1 ∧ t.trainAt (128 + (2 * pos + h)) = s.et ∧ t.trainAt (2 * pos + h) = 0)
  ∧ (tst v (2 + h) = false → tst old (2 + h) = true → t.eavSt (2 * pos + h) 31 0 = 0)
  ∧ (tst v (2 + h) = tst old (2 + h) → t.eavSt (2 * pos + h) 31 0 = s.eavSt (2 * pos + h) 31 0)

theorem State.cfgTurn_turns (s : State) {v old : W64} {pos h : Nat} (hh : h < 2) (written : s.rd ⟨.eav, pos⟩ 0x080 = v) :
    State.PortTurned v old pos h s (s.cfgTurn v old pos h) := by
  refine ⟨fun enabled was native => ?_, fun disabled was => ?_, fun same => ?_⟩
  · have mode : s.eavMode (2 * pos + h) = 1 := by rw [State.eavMode, State.rdF, eav_of_pos hh, written, native]
    have on : s.portEn (2 * pos + h) = true := by
      rw [State.portEn, mode, eav_of_pos hh, written, portHalf_of_pos hh, enabled]
      rfl
    rw [State.cfgTurn, if_pos (by rw [enabled, was]; rfl), State.portStart, if_pos ⟨on, mode⟩]
    exact ⟨State.trainStart_step .., State.trainStart_from .., (State.trainStart_tries ..).trans (State.trainAt_setTrainAt ..)⟩
  · rw [State.cfgTurn, if_neg (by rw [disabled]; exact Bool.false_ne_true), if_pos (by rw [disabled, was]; rfl), State.portStop]
    simp only [State.setTrainAt_eavSt]
    exact s.eavSt_setEavSt _ (by decide) (by decide)
  · rw [State.cfgTurn, same, Bool.and_not_self]
    rfl

theorem maskCfg_bit (v : W64) {i : Nat} (h : i < 4) : tst (v &&& (maskOf 27 7 ||| maskOf 3 0)) i = tst v i := by
  refine tst_and v ?_
  interval_cases i <;> decide

theorem maskCfg_mode (v : W64) : fld (v &&& (maskOf 27 7 ||| maskOf 3 0)) 1 0 = fld v 1 0 := fld_and v (by decide) (by decide)

/-- A write that is not refused: EAV_CFG takes it and each port has its turn. -/
theorem State.eavCfgWrite_takes (s : State) {pos : Nat} {v w : W64} (hw : w = v &&& (maskOf 27 7 ||| maskOf 3 0))
    (taken : fld v 1 0 = fld (s.rd ⟨.eav, pos⟩ 0x080) 1 0 ∨ fld (s.rd ⟨.eav, pos⟩ 0x080) 3 2 = 0) :
    s.eavCfgWrite pos v
      = (((s.wr ⟨.eav, pos⟩ 0x080 w).cfgTurn w (s.rd ⟨.eav, pos⟩ 0x080) pos 0).cfgTurn w (s.rd ⟨.eav, pos⟩ 0x080) pos 1) := by
  subst hw
  unfold State.eavCfgWrite
  dsimp only
  rw [if_neg (by rw [maskCfg_mode]; rintro ⟨moved, on⟩; exact taken.elim moved on)]
  rfl

theorem State.wr_cfg_eavSt (s : State) (q : PageRef) (w : W64) (p hi lo : Nat) : (s.wr q 0x080 w).eavSt p hi lo = s.eavSt p hi lo := by
  rw [State.eavSt, State.eavSt, State.rdF, State.rdF, s.rd_wr_key _ regKey_offs]

/-- The second port's turn keeps what the first port's has done, and finds its own half as it was. -/
theorem State.cfgTurns_turn (s : State) {v old : W64} {pos h : Nat} (hh : h < 2) (written : s.rd ⟨.eav, pos⟩ 0x080 = v) :
    State.PortTurned v old pos h s ((s.cfgTurn v old pos 0).cfgTurn v old pos 1) := by
  have keep0 := s.cfgTurn_only v old pos 0
  have keep1 := (s.cfgTurn v old pos 0).cfgTurn_only v old pos 1
  rcases (show h = 0 ∨ h = 1 by omega) with rfl | rfl
  · obtain ⟨starts, stops, rests⟩ := s.cfgTurn_turns (old := old) (h := 0) (by decide) written
    have status : ∀ a b, a < 32 → _ := keep1.status (2 * pos + 0) (by omega)
    refine ⟨fun a b c => ?_, fun a b => ?_, fun a => ?_⟩
    · rw [status _ _ (by decide), keep1.times _ (by omega), keep1.times _ (by omega)]
      exact starts a b c
    · rw [status _ _ (by decide)]; exact stops a b
    · rw [status _ _ (by decide)]; exact rests a
  · have written1 : (s.cfgTurn v old pos 0).rd ⟨.eav, pos⟩ 0x080 = v := by
      have cfg := keep0.cfg (2 * pos + 0)
      rw [eav_of_pos (by decide)] at cfg
      exact cfg.trans written
    obtain ⟨starts, stops, rests⟩ := (s.cfgTurn v old pos 0).cfgTurn_turns (old := old) (h := 1) (by decide) written1
    rw [keep0.et] at starts
    rw [keep0.status _ (by omega) _ _ (by decide)] at rests
    exact ⟨starts, stops, rests⟩

theorem cfgCommand_writes (s : State) {pos : Nat} (hpos : pos < 32) (v : W64) {cmd : Instr} (hc : cmd ∈ [Instr.eavModeSet pos v, .portEnable pos v, .portDisable pos v]) :
    exec cmd s = .next (s.eavCfgWrite pos v) := by
  have pos_mod : pos % 32 = pos := Nat.mod_eq_of_lt hpos
  simp only [List.mem_cons, List.not_mem_nil, or_false] at hc
  rcases hc with rfl | rfl | rfl
  · change execEavModeSet pos v s = _
    rw [execEavModeSet, pos_mod]
  · change execPortEnable pos v s = _
    rw [execPortEnable, pos_mod]
  · change execPortDisable pos v s = _
    rw [execPortDisable, pos_mod]

theorem cfgCommand_refused (s : State) {pos : Nat} (hpos : pos < 32) {v : W64} {cmd : Instr}
    (hc : cmd ∈ [Instr.eavModeSet pos v, .portEnable pos v, .portDisable pos v]) (moved : fld v 1 0 ≠ fld (s.rd ⟨.eav, pos⟩ 0x080) 1 0)
    (on : fld (s.rd ⟨.eav, pos⟩ 0x080) 3 2 ≠ 0) : TurnedAway cmd s ⟨.eav, pos⟩ 4 := by
  refine turned_raise (injected := false) ?_ rfl (by decide)
  rw [cfgCommand_writes s hpos v hc, State.eavCfgWrite]
  dsimp only
  rw [if_pos ⟨by rw [maskCfg_mode]; exact moved, on⟩]

theorem cfgCommand_taken (s : State) {pos : Nat} (hpos : pos < 32) {v w : W64} (hw : w = v &&& (maskOf 27 7 ||| maskOf 3 0)) {cmd : Instr}
    (hc : cmd ∈ [Instr.eavModeSet pos v, .portEnable pos v, .portDisable pos v])
    (taken : fld v 1 0 = fld (s.rd ⟨.eav, pos⟩ 0x080) 1 0 ∨ fld (s.rd ⟨.eav, pos⟩ 0x080) 3 2 = 0) :
    Completes cmd s fun t => t.rd ⟨.eav, pos⟩ 0x080 = w ∧ t.mem = s.mem ∧ t.pkts = s.pkts
      ∧ ∀ h, h < 2 → State.PortTurned v (s.rd ⟨.eav, pos⟩ 0x080) pos h s t := by
  have keep0 := (s.wr ⟨.eav, pos⟩ 0x080 w).cfgTurn_only w (s.rd ⟨.eav, pos⟩ 0x080) pos 0
  have keep1 := ((s.wr ⟨.eav, pos⟩ 0x080 w).cfgTurn w (s.rd ⟨.eav, pos⟩ 0x080) pos 0).cfgTurn_only w (s.rd ⟨.eav, pos⟩ 0x080) pos 1
  refine ⟨_, by rw [cfgCommand_writes s hpos v hc, s.eavCfgWrite_takes hw taken], ?_, keep1.mem.trans keep0.mem, keep1.pkts.trans keep0.pkts, fun h hh => ?_⟩
  · have cfg := (keep1.cfg (2 * pos + 0)).trans (keep0.cfg _)
    rw [eav_of_pos (by decide), State.rd_wr_self] at cfg
    exact cfg
  · have turned := (s.wr ⟨.eav, pos⟩ 0x080 w).cfgTurns_turn (old := s.rd ⟨.eav, pos⟩ 0x080) hh (State.rd_wr_self ..)
    have bit : tst w (2 + h) = tst v (2 + h) := by rw [hw, maskCfg_bit v (by omega)]
    have mode : fld w 1 0 = fld v 1 0 := by rw [hw, maskCfg_mode]
    simp only [State.PortTurned, bit, mode, State.wr_cfg_eavSt] at turned
    exact turned

/-! ### Training (R371, R376) -/

@[simp] theorem State.trainStart_mem (s : State) (p : Nat) : (s.trainStart p).mem = s.mem := rfl
@[simp] theorem State.trainStart_pkts (s : State) (p : Nat) : (s.trainStart p).pkts = s.pkts := rfl

/-- An attempt that misses is followed by the next, and the third in a row is a failure. -/
theorem State.trainMiss_outcome (s : State) (p : Nat) :
    (s.trainAt p + 1 < 3 → (s.trainMiss p).eavSt p 30 28 = 1 ∧ (s.trainMiss p).trainAt p = s.trainAt p + 1 ∧ (s.trainMiss p).trainAt (128 + p) = s.et)
    ∧ (3 ≤ s.trainAt p + 1 → (s.trainMiss p).eavSt p 30 28 = 7 ∧ (s.trainMiss p).trainAt p = 0 ∧ (s.trainMiss p).trainAt (128 + p) = s.et
        ∧ tst ((s.trainMiss p).rd (eav p) 0x028) 2 = true)
    ∧ (s.trainMiss p).mem = s.mem ∧ (s.trainMiss p).pkts = s.pkts := by
  refine ⟨fun more => ?_, fun last => ?_, ?_, ?_⟩
  · rw [State.trainMiss, if_pos more]
    exact ⟨State.trainStart_step .., (State.trainStart_tries ..).trans (State.trainAt_setTrainAt ..), State.trainStart_from ..⟩
  · rw [State.trainMiss, if_neg (by omega)]
    refine ⟨?_, ?_, ?_, State.raise_sets _ _ rfl (by decide)⟩
    · rw [State.raise_eavSt, State.setTrainAt_eavSt]
      exact State.eavSt_setEavSt _ _ (by decide) (by decide)
    · rw [State.raise_trainAt, State.trainAt_setTrainAt_ne _ _ _ (by omega), State.setEavSt_trainAt, State.trainAt_setTrainAt]
    · rw [State.raise_trainAt, State.trainAt_setTrainAt]
  · unfold State.trainMiss; dsimp only; split <;> simp
  · unfold State.trainMiss; dsimp only; split <;> simp

@[simp] theorem State.berTurn_rd (s : State) (p : Nat) (q : PageRef) (o : Nat) : (s.berTurn p).rd q o = s.rd q o := by
  unfold State.berTurn; split
  · rfl
  · split <;> rfl

@[simp] theorem State.berTurn_mem (s : State) (p : Nat) : (s.berTurn p).mem = s.mem := by
  unfold State.berTurn; split
  · rfl
  · split <;> rfl

@[simp] theorem State.berTurn_eavSt (s : State) (p q a b : Nat) : (s.berTurn p).eavSt q a b = s.eavSt q a b := by
  rw [State.eavSt, State.eavSt, State.rdF, State.rdF, State.berTurn_rd]

/-- In step 6 the time from which the estimates are good begins once and is forgotten as soon as one is not. -/
theorem State.berTurn_begins {s : State} {p : Nat} (six : s.eavSt p 30 28 = 6) (good : s.lanesGood p = true) (none : s.trainAt (192 + p) = 0) :
    (s.berTurn p).trainAt (192 + p) = s.et + 1 := by
  rw [State.berTurn, if_neg (by rw [six, good]; decide), if_pos none, State.trainAt_setTrainAt]

theorem State.berTurn_forgets {s : State} {p : Nat} (bad : s.lanesGood p = false) : (s.berTurn p).trainAt (192 + p) = 0 := by
  rw [State.berTurn, if_pos (by rw [bad]; exact .inr rfl), State.trainAt_setTrainAt]

theorem State.setEavSt_lanesGood (s : State) (p hi lo v : Nat) : (s.setEavSt p hi lo v).lanesGood p = s.lanesGood p := by
  have mode : (s.setEavSt p hi lo v).eavMode p = s.eavMode p := State.eavMode_of (s.setEavSt_rd p)
  have lane (k : Nat) : (s.setEavSt p hi lo v).rd (eav p) (0x100 + 8 * k) = s.rd (eav p) (0x100 + 8 * k) := s.rd_wr_off _ (by omega)
  have limit : (s.setEavSt p hi lo v).rd (eav p) 0x0B0 = s.rd (eav p) 0x0B0 := s.setEavSt_rd p
  simp only [State.lanesGood, State.portLanes, State.rdF, mode, lane, limit]
  rfl

section
variable {s : State} {p engine partner mac : Nat} {native : Bool}

theorem trainingStep_idle (hp : p < 64) (h : s.training p = false ∨ s.eavSt p 30 28 = 6) : exec (.trainingStep p engine partner mac native) s = .next s := by
  change execTrainingStep p engine partner mac native s = _
  unfold execTrainingStep
  rw [Nat.mod_eq_of_lt hp]
  exact if_pos (by rcases h with h | h <;> simp [h])

theorem trainingStep_next (hp : p < 64) (trains : s.training p = true) (not_six : s.eavSt p 30 28 ≠ 6) (not_four : s.eavSt p 30 28 ≠ 4) :
    exec (.trainingStep p engine partner mac native) s = .next ((s.setEavSt p 30 28 (s.eavSt p 30 28 + 1)).berTurn p) := by
  change execTrainingStep p engine partner mac native s = _
  unfold execTrainingStep
  rw [Nat.mod_eq_of_lt hp]
  dsimp only
  rw [if_neg (by simp [trains, not_six]), if_neg not_four]

/-- A port that trains is in one of the steps 1 to 6. -/
theorem State.training_steps (trains : s.training p = true) : 1 ≤ s.eavSt p 30 28 ∧ s.eavSt p 30 28 ≤ 6 := by
  simp only [State.training, Bool.and_eq_true, decide_eq_true_eq] at trains
  exact ⟨trains.1.2, trains.2⟩

theorem trainingStep_advances (hp : p < 64) (trains : s.training p = true) (not_six : s.eavSt p 30 28 ≠ 6) (not_four : s.eavSt p 30 28 ≠ 4) :
    Completes (.trainingStep p engine partner mac native) s fun t =>
      t.eavSt p 30 28 = s.eavSt p 30 28 + 1 ∧ t.eavSt p 27 0 = s.eavSt p 27 0 ∧ t.mem = s.mem
      ∧ (s.eavSt p 30 28 = 5 → s.lanesGood p = true → s.trainAt (192 + p) = 0 → t.trainAt (192 + p) = s.et + 1)
      ∧ (s.eavSt p 30 28 = 5 → s.lanesGood p = false → t.trainAt (192 + p) = 0) := by
  obtain ⟨low, high⟩ := State.training_steps trains
  have step : (s.setEavSt p 30 28 (s.eavSt p 30 28 + 1)).eavSt p 30 28 = s.eavSt p 30 28 + 1 := s.eavSt_setEavSt p (by decide) (by omega)
  refine ⟨_, trainingStep_next hp trains not_six not_four, ?_, ?_, ?_, fun five good none => ?_, fun five bad => ?_⟩
  · rw [State.berTurn_eavSt, step]
  · rw [State.berTurn_eavSt]; exact s.eavSt_setEavSt_beside p (by decide) (by decide)
  · exact State.berTurn_mem ..
  · exact State.berTurn_begins (by rw [step, five]) (by rw [State.setEavSt_lanesGood, good]) none
  · exact State.berTurn_forgets (by rw [State.setEavSt_lanesGood, bad])

/-- The partner as step 4 finds it recorded. -/
def State.partnerKept (s : State) (p engine partner mac : Nat) : State :=
  { (s.setEavSt p 15 0 engine).setEavSt p 27 22 partner with
    rim := { s.rim with partMac := smSet 0 s.rim.partMac p mac } }

theorem trainingStep_four (hp : p < 64) (he : engine < 2 ^ 16) (hm : mac < 2 ^ 48) (trains : s.training p = true) (four : s.eavSt p 30 28 = 4) :
    exec (.trainingStep p engine partner mac native) s
      = if engine = s.engineId ∨ (!native) = true then .next ((s.partnerKept p engine partner mac).trainMiss p)
        else .next ((s.partnerKept p engine partner mac).setEavSt p 30 28 5) := by
  have id : engine % 65536 = engine := Nat.mod_eq_of_lt he
  have own : (s.partnerKept p engine partner mac).engineId = s.engineId :=
    congrArg (fun w => fld w 15 0) (((s.setEavSt p 15 0 engine).setEavSt_rd (hi := 27) (lo := 22) (v := partner) p).trans (s.setEavSt_rd p))
  rw [← own]
  change execTrainingStep p engine partner mac native s = _
  unfold execTrainingStep
  rw [Nat.mod_eq_of_lt hp, id, Nat.mod_eq_of_lt hm]
  dsimp only
  rw [if_neg (by simp [trains, four]), if_pos four]
  rfl

@[simp] theorem State.partnerKept_trainAt (s : State) (k : Nat) : (s.partnerKept p engine partner mac).trainAt k = s.trainAt k := rfl
@[simp] theorem State.partnerKept_mem (s : State) : (s.partnerKept p engine partner mac).mem = s.mem := rfl

theorem trainingStep_meets (hp : p < 64) (he : engine < 2 ^ 16) (hq : partner < 64) (hm : mac < 2 ^ 48) (trains : s.training p = true) (four : s.eavSt p 30 28 = 4)
    (stranger : engine ≠ s.engineId) : Completes (.trainingStep p engine partner mac true) s fun t =>
      t.eavSt p 30 28 = 5 ∧ t.eavSt p 15 0 = engine ∧ t.eavSt p 27 22 = partner ∧ smGet 0 t.rim.partMac p = mac ∧ t.mem = s.mem := by
  have kept (a b : Nat) : (s.partnerKept p engine partner mac).eavSt p a b = ((s.setEavSt p 15 0 engine).setEavSt p 27 22 partner).eavSt p a b := rfl
  refine ⟨_, (trainingStep_four hp he hm trains four).trans (if_neg (by simp [stranger])), ?_, ?_, ?_, ?_, rfl⟩
  · exact State.eavSt_setEavSt _ _ (by decide) (by decide)
  · rw [State.eavSt_setEavSt_beside _ _ (by decide) (by decide), kept, State.eavSt_setEavSt_beside _ _ (by decide) (by decide)]
    exact State.eavSt_setEavSt _ _ (by decide) he
  · rw [State.eavSt_setEavSt_beside _ _ (by decide) (by decide), kept]
    exact State.eavSt_setEavSt _ _ (by decide) hq
  · exact smGet_smSet_self ..

theorem trainingStep_misses (hp : p < 64) (he : engine < 2 ^ 16) (hm : mac < 2 ^ 48) (trains : s.training p = true) (four : s.eavSt p 30 28 = 4)
    (alone : engine = s.engineId ∨ native = false) (more : s.trainAt p + 1 < 3) :
    Completes (.trainingStep p engine partner mac native) s fun t => t.eavSt p 30 28 = 1 ∧ t.trainAt p = s.trainAt p + 1 ∧ t.mem = s.mem := by
  obtain ⟨again, -, mem, -⟩ := (s.partnerKept p engine partner mac).trainMiss_outcome p
  obtain ⟨step, tries, -⟩ := again more
  exact ⟨_, (trainingStep_four hp he hm trains four).trans (if_pos (by simpa using alone)), step, tries, mem⟩

theorem trainingAttemptTimeout_idle (hp : p < 64) (h : s.training p = false ∨ s.et < s.trainAt (128 + p) + usToEt 500000) :
    exec (.trainingAttemptTimeout p) s = .next s := by
  change execTrainingAttemptTimeout p s = _
  unfold execTrainingAttemptTimeout
  rw [Nat.mod_eq_of_lt hp]
  exact if_neg (by rintro ⟨trains, late⟩; rcases h with h | h
                   · rw [h] at trains; cases trains
                   · omega)

theorem trainingAttemptTimeout_misses (hp : p < 64) (trains : s.training p = true) (late : s.trainAt (128 + p) + usToEt 500000 ≤ s.et) :
    exec (.trainingAttemptTimeout p) s = .next (s.trainMiss p) := by
  change execTrainingAttemptTimeout p s = _
  unfold execTrainingAttemptTimeout
  rw [Nat.mod_eq_of_lt hp]
  exact if_pos ⟨trains, late⟩

theorem trainingRetry_answers (hp : p < 64) : exec (.trainingRetry p) s
    = if s.portEn p = true ∧ s.eavMode p = 1 ∧ s.eavSt p 30 28 = 7 ∧ s.trainAt (128 + p) + usToEt 1000000 ≤ s.et then .next (s.trainStart p) else .next s := by
  change execTrainingRetry p s = _
  unfold execTrainingRetry
  rw [Nat.mod_eq_of_lt hp]

theorem trainingRetry_idle (hp : p < 64)
    (h : s.portEn p = false ∨ s.eavMode p ≠ 1 ∨ s.eavSt p 30 28 ≠ 7 ∨ s.et < s.trainAt (128 + p) + usToEt 1000000) : exec (.trainingRetry p) s = .next s := by
  refine (trainingRetry_answers hp).trans (if_neg ?_)
  rintro ⟨on, native, failed, late⟩
  rcases h with h | h | h | h
  · rw [h] at on; cases on
  · exact h native
  · exact h failed
  · omega

theorem trainingRetry_begins (hp : p < 64) (on : s.portEn p = true) (native : s.eavMode p = 1) (failed : s.eavSt p 30 28 = 7)
    (late : s.trainAt (128 + p) + usToEt 1000000 ≤ s.et) : Completes (.trainingRetry p) s fun t =>
      t.eavSt p 30 28 = 1 ∧ t.trainAt (128 + p) = s.et ∧ t.trainAt p = s.trainAt p ∧ t.mem = s.mem :=
  ⟨_, (trainingRetry_answers hp).trans (if_pos ⟨on, native, failed, late⟩), State.trainStart_step .., State.trainStart_from .., State.trainStart_tries .., rfl⟩

end

/-! ### Links (R371, R372) -/

section
variable {s : State} {p : Nat}

/-- A link that comes up. -/
def State.linkRaised (s : State) (p : Nat) : State := ((s.setEavSt p 31 31 1).setTrainAt p 0).raise (eav p) 1 false

theorem eavLinkUp_answers (hp : p < 64) : exec (.eavLinkUp p) s = if ((if s.eavMode p = 1 then s.training p && decide (s.eavSt p 30 28 = 6)
      && decide (s.trainAt (192 + p) ≠ 0) && decide (s.trainAt (192 + p) - 1 + usToEt 1000 ≤ s.et) else s.portEn p) = true ∧ (!s.linkUp p) = true)
    then .next (s.linkRaised p) else .next s := by
  change execEavLinkUp p s = _
  unfold execEavLinkUp
  rw [Nat.mod_eq_of_lt hp]
  rfl

theorem eavLinkUp_idle (hp : p < 64) (h : s.linkUp p = true ∨ s.portEn p = false ∨ (s.eavMode p = 1 ∧ (s.eavSt p 30 28 ≠ 6 ∨ s.trainAt (192 + p) = 0
      ∨ s.et < s.trainAt (192 + p) - 1 + usToEt 1000))) : exec (.eavLinkUp p) s = .next s := by
  refine (eavLinkUp_answers hp).trans (if_neg ?_)
  rintro ⟨ready, down⟩
  rcases h with up | disabled | ⟨native, h⟩
  · rw [up] at down; cases down
  · rw [State.training, disabled] at ready
    simp at ready
  · rw [if_pos native] at ready
    simp only [Bool.and_eq_true, decide_eq_true_eq] at ready
    obtain ⟨⟨⟨-, six⟩, since⟩, long⟩ := ready
    rcases h with h | h | h
    · exact h six
    · exact since h
    · omega

theorem eavLinkUp_comes (hp : p < 64) (down : s.linkUp p = false) (on : s.portEn p = true)
    (h : s.eavMode p ≠ 1 ∨ (s.eavSt p 30 28 = 6 ∧ s.trainAt (192 + p) ≠ 0 ∧ s.trainAt (192 + p) - 1 + usToEt 1000 ≤ s.et)) :
    Completes (.eavLinkUp p) s fun t => t.linkUp p = true ∧ t.trainAt p = 0 ∧ tst (t.rd (eav p) 0x028) 1 = true ∧ t.mem = s.mem := by
  have set : (s.setEavSt p 31 31 1).eavSt p 31 31 = 1 := s.eavSt_setEavSt p (by decide) (by decide)
  have ready : (if s.eavMode p = 1 then s.training p && decide (s.eavSt p 30 28 = 6) && decide (s.trainAt (192 + p) ≠ 0)
      && decide (s.trainAt (192 + p) - 1 + usToEt 1000 ≤ s.et) else s.portEn p) = true := by
    split
    · next native =>
      obtain ⟨six, since, long⟩ := h.resolve_left (not_not_intro native)
      simp [State.training, on, native, down, six, since, long]
    · exact on
  refine ⟨_, (eavLinkUp_answers hp).trans (if_pos ⟨ready, by rw [down]; rfl⟩), ?_, ?_, State.raise_sets _ _ rfl (by decide), ?_⟩
  · rw [State.linkUp, State.linkRaised, State.raise_eavSt, State.setTrainAt_eavSt, set]
    rfl
  · rw [State.linkRaised, State.raise_trainAt, State.trainAt_setTrainAt]
  · simp [State.linkRaised]

theorem State.linkDown_idle (inj : Bool) (down : s.linkUp p = false) : s.linkDown p inj = s := by
  rw [State.linkDown, down]; rfl

/-- A link that goes down, before a native port begins to train again. -/
def State.linkLost (s : State) (p : Nat) (inj : Bool) : State := ((s.setEavSt p 31 31 0).setTrainAt (64 + p) 0).raise (eav p) 0 inj

theorem State.linkLost_eavMode (inj : Bool) : (s.linkLost p inj).eavMode p = s.eavMode p :=
  State.eavMode_of ((State.raise_rd _ _ regKey_offs regKey_offs).trans (s.setEavSt_rd p))

theorem State.linkLost_linkUp (inj : Bool) : (s.linkLost p inj).linkUp p = false := by
  rw [State.linkUp, State.linkLost, State.raise_eavSt, State.setTrainAt_eavSt, s.eavSt_setEavSt p (by decide) (by decide)]
  rfl

theorem State.linkDown_goes (inj : Bool) (up : s.linkUp p = true) :
    s.linkDown p inj = if s.eavMode p = 1 then ((s.linkLost p inj).setTrainAt p 0).trainStart p else s.linkLost p inj := by
  have mode : (s.linkLost p inj).eavMode p = s.eavMode p := State.linkLost_eavMode inj
  rw [← mode, State.linkDown, up]
  rfl

/-- Down: the event, the degradation's time forgotten, and a native port in step 1 again. -/
theorem State.linkDown_outcome (inj : Bool) (up : s.linkUp p = true) :
    (s.linkDown p inj).linkUp p = false ∧ tst ((s.linkDown p inj).rd (eav p) 0x028) 0 = true
      ∧ (s.eavMode p = 1 → (s.linkDown p inj).eavSt p 30 28 = 1 ∧ (s.linkDown p inj).trainAt (128 + p) = s.et)
      ∧ (s.linkDown p inj).trainAt (64 + p) = 0 ∧ (s.linkDown p inj).mem = s.mem := by
  have event : tst ((s.linkLost p inj).rd (eav p) 0x028) 0 = true := State.raise_sets _ _ rfl (by decide)
  have et : (s.linkLost p inj).et = s.et := by simp [State.linkLost]
  have mem : (s.linkLost p inj).mem = s.mem := by simp [State.linkLost]
  have since : (s.linkLost p inj).trainAt (64 + p) = 0 := by rw [State.linkLost, State.raise_trainAt, State.trainAt_setTrainAt]
  rw [State.linkDown_goes inj up]
  split
  · refine ⟨?_, ?_, fun _ => ⟨State.trainStart_step .., ?_⟩, ?_, mem⟩
    · have link := State.linkLost_linkUp (s := s) (p := p) inj
      rw [State.linkUp] at link ⊢
      rw [State.trainStart, State.setTrainAt_eavSt, State.eavSt_setEavSt_beside _ _ (by decide) (by decide), State.setTrainAt_eavSt]
      exact link
    · rw [State.trainStart, State.setTrainAt_rd, State.setEavSt_rd, State.setTrainAt_rd]
      exact event
    · rw [State.trainStart_from]
      exact et
    · rw [State.trainStart, State.trainAt_setTrainAt_ne _ _ _ (by omega), State.setEavSt_trainAt, State.trainAt_setTrainAt_ne _ _ _ (by omega), since]
  · next other => exact ⟨State.linkLost_linkUp inj, event, fun native => absurd native other, since, mem⟩

theorem eavLinkDown_answers (hp : p < 64) (uncorr : Nat) (lost : Bool) : exec (.eavLinkDown p uncorr lost) s
    = if lost = true ∨ 100 < uncorr then .next ((s.bump (eav p) (0x0C0 + 8 * portHalf p) 31 16 uncorr).linkDown p false)
      else .next (s.bump (eav p) (0x0C0 + 8 * portHalf p) 31 16 uncorr) := by
  change execEavLinkDown p uncorr lost s = _
  unfold execEavLinkDown
  rw [Nat.mod_eq_of_lt hp]

/-- The counters stand apart from the port's status and mode. -/
theorem State.counted_rd (s : State) (p n : Nat) {o : Nat} (ho : o < 0x0C0) :
    (s.bump (eav p) (0x0C0 + 8 * portHalf p) 31 16 n).rd (eav p) o = s.rd (eav p) o := s.rd_bump_off _ _ _ (by omega)

theorem State.counted_linkUp (s : State) (p n : Nat) : (s.bump (eav p) (0x0C0 + 8 * portHalf p) 31 16 n).linkUp p = s.linkUp p := by
  rw [State.linkUp, State.linkUp, State.eavSt, State.eavSt, State.rdF, State.rdF, s.counted_rd p n (by decide)]

theorem eavLinkDown_stays (hp : p < 64) {uncorr : Nat} {lost : Bool} (h : (lost = false ∧ uncorr ≤ 100) ∨ s.linkUp p = false) :
    exec (.eavLinkDown p uncorr lost) s = .next (s.bump (eav p) (0x0C0 + 8 * portHalf p) 31 16 uncorr) := by
  rw [eavLinkDown_answers hp]
  rcases h with ⟨rfl, few⟩ | down
  · exact if_neg (by simp; omega)
  · split
    · rw [State.linkDown_idle _ ((s.counted_linkUp ..).trans down)]
    · rfl

theorem eavLinkDown_goes (hp : p < 64) {uncorr : Nat} {lost : Bool} (h : lost = true ∨ 100 < uncorr) (up : s.linkUp p = true) :
    Completes (.eavLinkDown p uncorr lost) s fun t =>
      t.linkUp p = false ∧ tst (t.rd (eav p) 0x028) 0 = true ∧ (s.eavMode p = 1 → t.eavSt p 30 28 = 1 ∧ t.trainAt (128 + p) = s.et) ∧ t.mem = s.mem := by
  obtain ⟨link, event, trains, -, mem⟩ := State.linkDown_outcome false ((s.counted_linkUp p uncorr).trans up)
  rw [State.eavMode_of (s.counted_rd p uncorr (by decide))] at trains
  exact ⟨_, (eavLinkDown_answers hp uncorr lost).trans (if_pos h), link, event, trains, mem⟩

theorem fecDegradeTimeout_answers (hp : p < 64) : exec (.fecDegradeTimeout p) s = if s.trainAt (64 + p) ≠ 0 ∧ s.linkUp p = true
      ∧ s.trainAt (64 + p) - 1 + usToEt (1000 * s.rdF (gp .srvg) 0x0A0 15 0) ≤ s.et then .next (s.linkDown p false) else .next s := by
  change execFecDegradeTimeout p s = _
  unfold execFecDegradeTimeout
  rw [Nat.mod_eq_of_lt hp]

theorem fecDegradeTimeout_idle (hp : p < 64)
    (h : s.trainAt (64 + p) = 0 ∨ s.linkUp p = false ∨ s.et < s.trainAt (64 + p) - 1 + usToEt (1000 * s.rdF (gp .srvg) 0x0A0 15 0)) :
    exec (.fecDegradeTimeout p) s = .next s := by
  refine (fecDegradeTimeout_answers hp).trans (if_neg ?_)
  rintro ⟨since, up, long⟩
  rcases h with h | h | h
  · exact since h
  · rw [h] at up; cases up
  · omega

theorem fecDegradeTimeout_goes (hp : p < 64) (since : s.trainAt (64 + p) ≠ 0) (up : s.linkUp p = true)
    (long : s.trainAt (64 + p) - 1 + usToEt (1000 * s.rdF (gp .srvg) 0x0A0 15 0) ≤ s.et) : Completes (.fecDegradeTimeout p) s fun t =>
      t.linkUp p = false ∧ tst (t.rd (eav p) 0x028) 0 = true ∧ t.trainAt (64 + p) = 0 ∧ t.mem = s.mem := by
  obtain ⟨link, event, -, forgotten, mem⟩ := State.linkDown_outcome false up
  exact ⟨_, (fecDegradeTimeout_answers hp).trans (if_pos ⟨since, up, long⟩), link, event, forgotten, mem⟩

end

/-! ### Lanes (R372, R401, R403) -/

/-- A lane's new power and estimate taken, with the times that turn on the estimates. -/
def State.laneTaken (s : State) (p k ber rx : Nat) : State :=
  let s := s.wr (eav p) (0x100 + 8 * k) (put 15 0 rx ||| put 47 16 ber)
  let any := (s.portLanes p).any fun k => s.laneBad p k
  (if !any then s.setTrainAt (64 + p) 0 else if s.trainAt (64 + p) = 0 then s.setTrainAt (64 + p) (s.et + 1) else s).berTurn p

section
variable {s : State} {p lane ber rx k : Nat}

theorem State.laneTaken_rd (q : PageRef) (o : Nat) :
    (s.laneTaken p k ber rx).rd q o = (s.wr (eav p) (0x100 + 8 * k) (put 15 0 rx ||| put 47 16 ber)).rd q o := by
  unfold State.laneTaken
  dsimp only
  rw [State.berTurn_rd]
  split
  · rfl
  · split <;> rfl

theorem State.laneTaken_mem : (s.laneTaken p k ber rx).mem = s.mem := by
  unfold State.laneTaken
  dsimp only
  rw [State.berTurn_mem]
  split
  · rfl
  · split <;> rfl

theorem fld_lane (hb : ber < 2 ^ 32) : fld (put 15 0 rx ||| put 47 16 ber) 47 16 = ber := by
  rw [fld_or, fld_put_ne _ (by decide), fld_put _ (by decide) hb, Nat.zero_or]

/-- The lane lies above FEC_DEGRADE when its new estimate does. -/
theorem State.laneTaken_laneBad (hb : ber < 2 ^ 32) : (s.laneTaken p k ber rx).laneBad p k = decide (100 * s.rdF (eav p) 0x0B0 7 0 < ber) := by
  rw [State.laneBad, State.rdF, State.rdF, State.laneTaken_rd, State.laneTaken_rd, State.rd_wr_self, State.rd_wr_off _ _ (by omega), fld_lane hb]
  rfl

theorem eavFecDegraded_answers (hp : p < 64) (hl : lane < 8) (hk : k = (s.portLanes p).getD lane (4 * portHalf p)) (unarmed : s.isArmed (eav p) 3 = false) :
    exec (.eavFecDegraded p lane ber rx) s = if (s.laneTaken p k ber rx).laneBad p k = true ∧ (!s.laneBad p k) = true
      then .next ((s.laneTaken p k ber rx).raise (eav p) 3 false) else .next (s.laneTaken p k ber rx) := by
  subst hk
  change execEavFecDegraded p lane ber rx s = _
  unfold execEavFecDegraded
  rw [Nat.mod_eq_of_lt hp, Nat.mod_eq_of_lt hl]
  simp only [unarmed, Bool.and_false, Bool.false_eq_true, if_false, false_or]
  rfl

/-- An estimate taken, and a crossing of FEC_DEGRADE raised once. -/
theorem eavFecDegraded_takes (hp : p < 64) (hl : lane < 8) (hb : ber < 2 ^ 32) (hk : k = (s.portLanes p).getD lane (4 * portHalf p))
    (unarmed : s.isArmed (eav p) 3 = false) : Completes (.eavFecDegraded p lane ber rx) s fun t =>
      t.rd (eav p) (0x100 + 8 * k) = (put 15 0 rx ||| put 47 16 ber) ∧ t.mem = s.mem
      ∧ (s.laneBad p k = false → 100 * s.rdF (eav p) 0x0B0 7 0 < ber → tst (t.rd (eav p) 0x028) 3 = true)
      ∧ (s.laneBad p k = true ∨ ber ≤ 100 * s.rdF (eav p) 0x0B0 7 0 → t.rd (eav p) 0x028 = s.rd (eav p) 0x028) := by
  have value : (s.laneTaken p k ber rx).rd (eav p) (0x100 + 8 * k) = put 15 0 rx ||| put 47 16 ber := by rw [State.laneTaken_rd, State.rd_wr_self]
  have answers := eavFecDegraded_answers (ber := ber) (rx := rx) hp hl hk unarmed
  simp only [State.laneTaken_laneBad hb, decide_eq_true_eq] at answers
  by_cases crosses : 100 * s.rdF (eav p) 0x0B0 7 0 < ber ∧ (!s.laneBad p k) = true
  · refine ⟨_, answers.trans (if_pos crosses), ?_, ?_, fun _ _ => State.raise_sets _ _ rfl (by decide), fun calm => ?_⟩
    · rw [State.raise_rd_off _ _ (by omega) (by omega), value]
    · rw [State.raise_mem, State.laneTaken_mem]
    · obtain ⟨high, was⟩ := crosses
      rcases calm with bad | low
      · rw [bad] at was; cases was
      · omega
  · refine ⟨_, answers.trans (if_neg crosses), value, State.laneTaken_mem, fun was high => absurd ⟨high, by rw [was]; rfl⟩ crosses, fun _ => ?_⟩
    rw [State.laneTaken_rd, State.rd_wr_off _ _ (by omega)]

end

/-! ### PFC frames (R375) -/

/-- One priority's part of a PFC frame. -/
def State.pfcTurn (p en : Nat) (times : List Nat) (q : Nat) (s : State) (k : Nat) : State :=
  if en.testBit k ∧ s.pfcOn p k then
    let t := times.getD k 0 % 65536
    { s with rim := { s.rim with pfc := smSet 0 s.rim.pfc (8 * p + k) (if t = 0 then 0 else s.et + ceilDiv t q) } }
  else s

section
variable {s t : State} {p en : Nat} {times : List Nat} {q : Nat}

theorem State.pfcTurn_regs (k : Nat) : (t.pfcTurn p en times q k).regs = t.regs := by unfold State.pfcTurn; split <;> rfl

theorem State.pfcTurn_mem (k : Nat) : (t.pfcTurn p en times q k).mem = t.mem := by unfold State.pfcTurn; split <;> rfl

theorem State.pfcTurn_et (k : Nat) : (t.pfcTurn p en times q k).et = t.et := by unfold State.pfcTurn; split <;> rfl

theorem State.pfcTurn_sets {k : Nat} (named : en.testBit k = true) (on : t.pfcOn p k = true) :
    smGet 0 (t.pfcTurn p en times q k).rim.pfc (8 * p + k) = if times.getD k 0 % 65536 = 0 then 0 else t.et + ceilDiv (times.getD k 0 % 65536) q := by
  rw [State.pfcTurn, if_pos ⟨named, on⟩]
  exact smGet_smSet_self ..

theorem State.pfcTurn_keeps {j k : Nat} (h : j ≠ k ∨ en.testBit k = false ∨ t.pfcOn p k = false) :
    smGet 0 (t.pfcTurn p en times q j).rim.pfc (8 * p + k) = smGet 0 t.rim.pfc (8 * p + k) := by
  unfold State.pfcTurn
  split
  · next acts =>
    obtain ⟨named, on⟩ := acts
    have other : 8 * p + k ≠ 8 * p + j := by
      rintro same
      obtain rfl : j = k := by omega
      rcases h with h | h | h
      · exact h rfl
      · rw [h] at named; cases named
      · rw [h] at on; cases on
    exact smGet_smSet_ne _ _ _ _ other
  · rfl

/-- The turns of a list of priorities, each but once. -/
theorem State.pfcTurns_outcome {l : List Nat} (single : l.Nodup) {k : Nat} (t : State) :
    (k ∈ l → en.testBit k = true → t.pfcOn p k = true → smGet 0 (l.foldl (State.pfcTurn p en times q) t).rim.pfc (8 * p + k)
        = if times.getD k 0 % 65536 = 0 then 0 else t.et + ceilDiv (times.getD k 0 % 65536) q)
    ∧ (k ∉ l ∨ en.testBit k = false ∨ t.pfcOn p k = false → smGet 0 (l.foldl (State.pfcTurn p en times q) t).rim.pfc (8 * p + k) = smGet 0 t.rim.pfc (8 * p + k)) := by
  induction l generalizing t with
  | nil => exact ⟨fun inside => absurd inside List.not_mem_nil, fun _ => rfl⟩
  | cons j l ih =>
    obtain ⟨fresh, single⟩ := List.nodup_cons.mp single
    obtain ⟨sets, keeps⟩ := ih single (t.pfcTurn p en times q j)
    have on : (t.pfcTurn p en times q j).pfcOn p k = t.pfcOn p k := by
      simp only [State.pfcOn, State.rd, State.pfcTurn_regs]
    rw [on, State.pfcTurn_et] at sets
    rw [on] at keeps
    rw [List.foldl_cons]
    refine ⟨fun inside named enabled => ?_, fun outside => ?_⟩
    · rcases List.mem_cons.mp inside with rfl | later
      · rw [keeps (.inl fresh), State.pfcTurn_sets named enabled]
      · exact sets later named enabled
    · rw [keeps (outside.imp_left fun out inside => out (List.mem_cons_of_mem _ inside)), State.pfcTurn_keeps (outside.imp_left fun out same => out (same ▸ List.mem_cons_self))]

/-- The frames that leave are all that a pause's end changes. -/
theorem State.flushTx_keeps (s : State) : s.flushTx.regs = s.regs ∧ s.flushTx.mem = s.mem ∧ s.flushTx.rim.pfc = s.rim.pfc := by
  have kept := foldl_keeps (fun t : State => t.regs = s.regs ∧ t.mem = s.mem ∧ t.rim.pfc = s.rim.pfc)
    (fun t e => if t.linkUp e.1 then t.emit (.frame e.1 e.2.2) else t) (l := s.rim.txq.filter fun e => !s.paused e.1 e.2.1)
    (fun t e _ h => by split <;> exact h) ⟨rfl, rfl, rfl⟩
  exact kept

theorem pfcFrame_pauses (hp : p < 64) (en : Nat) (times : List Nat) : Completes (.pfcFrame p en times) s fun t => t.regs = s.regs ∧ t.mem = s.mem ∧ ∀ k, k < 8 →
    (en.testBit k = true → s.pfcOn p k = true → smGet 0 t.rim.pfc (8 * p + k)
      = if times.getD k 0 % 65536 = 0 then 0 else s.et + ceilDiv (times.getD k 0 % 65536) (if s.eavMode p = 2 then 10 else 20))
    ∧ (en.testBit k = false ∨ s.pfcOn p k = false → smGet 0 t.rim.pfc (8 * p + k) = smGet 0 s.rim.pfc (8 * p + k)) := by
  have answers : exec (.pfcFrame p en times) s
      = .next ((List.range 8).foldl (State.pfcTurn p en times (if s.eavMode p = 2 then 10 else 20)) s).flushTx := by
    change execPfcFrame p en times s = _
    rw [execPfcFrame, Nat.mod_eq_of_lt hp]
    rfl
  obtain ⟨regs, mem, pfc⟩ := ((List.range 8).foldl (State.pfcTurn p en times (if s.eavMode p = 2 then 10 else 20)) s).flushTx_keeps
  refine ⟨_, answers, regs.trans ?_, mem.trans ?_, fun k hk => ?_⟩
  · exact foldl_keeps (fun t : State => t.regs = s.regs) _ (fun t k _ h => (State.pfcTurn_regs k).trans h) rfl
  · exact foldl_keeps (fun t : State => t.mem = s.mem) _ (fun t k _ h => (State.pfcTurn_mem k).trans h) rfl
  · obtain ⟨sets, keeps⟩ := State.pfcTurns_outcome (en := en) (p := p) (times := times) (q := if s.eavMode p = 2 then 10 else 20) (List.nodup_range (n := 8)) (k := k) s
    rw [pfc]
    exact ⟨sets (List.mem_range.mpr hk), fun out => keeps (.inr out)⟩

end

/-- Settles O49. Each write of EAV_CFG gives the engine's two ports a turn, each of which keeps the other's half; the ports' other commands change one
port's status and times. That EAV_CFG is refused whole, and how training steps are numbered and timed, are the model's choices (log entries 53, 54). -/
theorem portsTrain : Obligations.PortsTrain := by
  unfold Obligations.PortsTrain
  intro s _
  refine ⟨fun pos v old w hpos hold hw cmd hc => ?_, fun p hp => ⟨?_, fun engine partner mac native he hq hm => ⟨trainingStep_idle hp, ?_, ?_⟩,
    trainingAttemptTimeout_idle hp, trainingAttemptTimeout_misses hp, trainingRetry_idle hp, trainingRetry_begins hp, eavLinkUp_idle hp, eavLinkUp_comes hp,
    fun uncorr lost => ⟨fun kept few => eavLinkDown_stays hp (.inl ⟨kept, few⟩), fun down => eavLinkDown_stays hp (.inr down), eavLinkDown_goes hp⟩,
    fun lane ber rx k hl hb _ hk unarmed => eavFecDegraded_takes hp hl hb hk unarmed, fecDegradeTimeout_idle hp, fecDegradeTimeout_goes hp, pfcFrame_pauses hp⟩⟩
  · subst hold
    exact ⟨cfgCommand_refused s hpos hc, cfgCommand_taken s hpos hw hc⟩
  · rintro g rfl
    exact s.trainMiss_outcome p
  · exact fun trains not_six not_four => trainingStep_advances hp trains not_six not_four
  · refine fun trains four => ⟨?_, trainingStep_misses hp he hm trains four⟩
    rintro stranger rfl
    exact trainingStep_meets hp he hq hm trains four stranger

end Sys2Proof.Machine

/-! ## Restarts (O34): pre-emption, Sweep-in, return, resume, halt and abort -/

namespace Sys2Proof.Machine

/-- A command of SWPG_CMD that is refused raises SWP_ACCESS_REFUSED and nothing else (R480). -/
theorem turned_swpRefuse {c : Instr} {s : State} (h : exec c s = .next s.swpRefuse) : TurnedAway c s swpg 6 := turned_raise h rfl (by decide)

theorem State.restart_setRestart_ne (s : State) {i k : Nat} (r : Restart) (h : k ≠ i) : (s.setRestart i r).restart k = s.restart k :=
  smGet_smSet_ne _ _ _ _ h

@[simp] theorem State.setRestart_suites (s : State) (i : Nat) (r : Restart) : (s.setRestart i r).suites = s.suites := rfl
@[simp] theorem State.setRestart_suite (s : State) (i k : Nat) (r : Restart) : (s.setRestart i r).suite k = s.suite k := rfl
@[simp] theorem State.setRestart_mem (s : State) (i : Nat) (r : Restart) : (s.setRestart i r).mem = s.mem := rfl
@[simp] theorem State.setRestart_bricks (s : State) (i : Nat) (r : Restart) : (s.setRestart i r).bricks = s.bricks := rfl

/-! ### PREEMPT (R471) -/

section
variable {s : State} {i : Nat} {u : Suite}

theorem preempt_answers (hi : i < 64) : exec (.preempt i) s = .next (s.preemptCmd i) := by
  change execPreempt i s = _
  rw [execPreempt, Nat.mod_eq_of_lt hi]

theorem preempt_asks (hi : i < 64) (defined : s.suite i = some u) (quiet : u.sweep.st = 0) (loaded : u.run ≠ 0) (up : u.run ≠ 4) (idle : (s.restart i).st = 0) :
    exec (.preempt i) s = .next (s.setSweep i ⟨1, if u.run = 2 then u.step + 1 else u.step, 0, 100, false, false, 0, 0, 0, true, none⟩) := by
  rw [preempt_answers hi, State.preemptCmd, defined]
  dsimp only
  rw [if_neg (by simp [quiet, loaded, up, idle])]

theorem preempt_refused (hi : i < 64)
    (h : s.suite i = none ∨ (s.restart i).st ≠ 0 ∨ ∃ u, s.suite i = some u ∧ (u.sweep.st ≠ 0 ∨ u.run = 0 ∨ u.run = 4)) : TurnedAway (.preempt i) s swpg 6 := by
  refine turned_swpRefuse ?_
  rw [preempt_answers hi, State.preemptCmd]
  split
  · next u defined =>
    refine congrArg _ (if_pos ?_)
    rcases h with undefined | busy | ⟨v, named, h⟩
    · rw [undefined] at defined; cases defined
    · exact .inr (.inr (.inr busy))
    · obtain rfl : v = u := Option.some.inj (named.symm.trans defined)
      rcases h with h | h | h
      · exact .inl h
      · exact .inr (.inl h)
      · exact .inr (.inr (.inl h))
  · rfl

end

/-! ### SWEEP_IN (R474 to R476) -/

/-- SWPG_CMD's word of a SWEEP_IN holds its three fields. -/
theorem fld_sweepIn {src buf gen : Nat} (hs : src < 2) (hb : buf < 2) (hg : gen < 2 ^ 32) :
    fld (put 41 41 src ||| put 40 40 buf ||| put 31 0 gen) 41 41 = src ∧ fld (put 41 41 src ||| put 40 40 buf ||| put 31 0 gen) 40 40 = buf
      ∧ fld (put 41 41 src ||| put 40 40 buf ||| put 31 0 gen) 31 0 = gen := by
  refine ⟨?_, ?_, ?_⟩
  · rw [fld_or, fld_or, fld_put _ (by decide) hs, fld_put_ne _ (by decide), fld_put_ne _ (by decide), Nat.or_zero, Nat.or_zero]
  · rw [fld_or, fld_or, fld_put_ne _ (by decide), fld_put _ (by decide) hb, fld_put_ne _ (by decide), Nat.zero_or, Nat.or_zero]
  · rw [fld_or, fld_or, fld_put_ne _ (by decide), fld_put_ne _ (by decide), fld_put _ (by decide) hg, Nat.zero_or, Nat.zero_or]

/-- A restart that fails, with its cause and RESTART_FAILED. -/
theorem State.restartFail_outcome (s : State) (i cause : Nat) : ((s.restartFail i cause).restart i).st = 8 ∧ ((s.restartFail i cause).restart i).cause = cause
    ∧ tst ((s.restartFail i cause).rd swpg 0x028) 5 = true ∧ (s.restartFail i cause).suites = s.suites ∧ (s.restartFail i cause).mem = s.mem
    ∧ (s.restartFail i cause).bricks = s.bricks := by
  have restart : (s.restartFail i cause).restart i = { s.restart i with st := 8, cause } := by
    refine (State.restart_of_rim (t := s.restartFail i cause) (s := s.setRestart i { s.restart i with st := 8, cause }) ?_ i).trans (State.restart_setRestart ..)
    simp [State.restartFail]
  rw [restart]
  exact ⟨rfl, rfl, State.raise_sets _ _ rfl (by decide), by simp [State.restartFail], by simp [State.restartFail], by simp [State.restartFail]⟩

/-- STATE shown on the pages of a Suite's Rooms. -/
theorem State.swpState_only (s : State) (u : Suite) (st : Nat) : s.RegsOnly (s.swpState u st) := State.regsOnly_foldl (fun _ _ => ⟨rfl⟩) s u.rooms

theorem State.swpState_shows (s : State) (u : Suite) {st r : Nat} (hst : st < 8) (hr : r ∈ u.rooms) : (s.swpState u st).rdF (swp r) 0x080 63 61 = st := by
  refine foldl_reaches (fun t : State => t.rdF (swp r) 0x080 63 61 = st) (fun t r => t.wrF (swp r) 0x080 63 61 st) hr
    (fun t => t.rdF_wrF_self _ _ (by decide) hst) (fun t b _ held => ?_) s
  by_cases same : b = r
  · subst same
    exact t.rdF_wrF_self _ _ (by decide) hst
  · have keep : (t.wrF (swp b) 0x080 63 61 st).rd (swp r) 0x080 = t.rd (swp r) 0x080 := t.rd_wr_key _ (regKey_insts fun e => same e.symm)
    rw [State.rdF, keep]
    exact held

section
variable {s : State} {i src buf gen : Nat} {u : Suite} {m : SuiteImg}

theorem sweepIn_answers (hi : i < 64) : exec (.sweepIn i src buf gen) s = .next (s.sweepInCmd i (put 41 41 src ||| put 40 40 buf ||| put 31 0 gen)) := by
  change execSweepIn i src buf gen s = _
  rw [execSweepIn, Nat.mod_eq_of_lt hi]

/-- A SWEEP_IN that is taken up, before its image is looked at. -/
def State.sweepInBegun (s : State) (i : Nat) (m : SuiteImg) : State := s.setRestart i { s.restart i with st := 4, img := some m }

/-- Whether a clean ET bounds what may be restored, and an image is later. -/
def Restart.bars (q : Restart) (et : Nat) : Bool := match q.clean with | some t => decide (t < et) | none => false

/-- The Suite's state with every Room of an image restored, against which the checks of R179 are made. -/
def State.sweepInTrial (s : State) (i : Nat) (m : SuiteImg) : State :=
  m.rooms.foldl (fun (t : State) (e : Nat × RoomImg) => t.restoreRoom e.1 e.2) (s.sweepInBegun i m)

theorem sweepIn_takes (hi : i < 64) (hs : src < 2) (hb : buf < 2) (hg : gen < 2 ^ 32) (defined : s.suite i = some u)
    (ready : (s.restart i).st = 3 ∨ ((s.restart i).st = 0 ∧ u.run = 0)) (quiet : u.sweep.st = 0) (up : u.inReset = false)
    (image : s.sweepSource i u src buf gen = some m) : exec (.sweepIn i src buf gen) s
      = .next (if (s.restart i).bars m.et = true then (s.sweepInBegun i m).restartFail i 7
        else if (u.rooms.any fun r => !((s.sweepInTrial i m).loadCauses { u with run := 0 } ⟨15, false, false, 0, 0, m.loadHdr, none, 0, []⟩ r).isEmpty) = true
          then (s.sweepInBegun i m).restartFail i 6
        else ((s.sweepInBegun i m).setRestart i { (s.sweepInBegun i m).restart i with st := 5 }).swpState u 3) := by
  obtain ⟨fsrc, fbuf, fgen⟩ := fld_sweepIn hs hb hg
  have open_ : ¬ ((!decide ((s.restart i).st = 3 ∨ ((s.restart i).st = 0 ∧ u.run = 0))) = true ∨ u.sweep.st ≠ 0 ∨ u.inReset = true) := by
    rw [decide_eq_true ready, up, quiet]
    decide
  rw [sweepIn_answers hi, State.sweepInCmd, defined]
  dsimp only
  rw [if_neg open_, fsrc, fbuf, fgen, image]
  rfl

theorem sweepIn_restores (hi : i < 64) (hs : src < 2) (hb : buf < 2) (hg : gen < 2 ^ 32) (defined : s.suite i = some u)
    (ready : (s.restart i).st = 3 ∨ ((s.restart i).st = 0 ∧ u.run = 0)) (quiet : u.sweep.st = 0) (up : u.inReset = false)
    (image : s.sweepSource i u src buf gen = some m) (clean : (s.restart i).clean = none)
    (agrees : ∀ r, r ∈ u.rooms → (s.sweepInTrial i m).loadCauses { u with run := 0 } ⟨15, false, false, 0, 0, m.loadHdr, none, 0, []⟩ r = []) :
    Completes (.sweepIn i src buf gen) s fun t => (t.restart i).st = 5 ∧ (t.restart i).img = some m ∧ (∀ r, r ∈ u.rooms → t.rdF (swp r) 0x080 63 61 = 3)
      ∧ t.suites = s.suites ∧ t.mem = s.mem ∧ t.bricks = s.bricks := by
  have only := ((s.sweepInBegun i m).setRestart i { (s.sweepInBegun i m).restart i with st := 5 }).swpState_only u 3
  have restart : (((s.sweepInBegun i m).setRestart i { (s.sweepInBegun i m).restart i with st := 5 }).swpState u 3).restart i
      = { s.restart i with st := 5, img := some m } := by
    rw [State.restart_of_rim only.rim, State.restart_setRestart, State.sweepInBegun, State.restart_setRestart]
  have in_time : ¬ (s.restart i).bars m.et = true := by rw [Restart.bars, clean]; exact Bool.false_ne_true
  have none_differs : ¬ (u.rooms.any fun r => !((s.sweepInTrial i m).loadCauses { u with run := 0 } ⟨15, false, false, 0, 0, m.loadHdr, none, 0, []⟩ r).isEmpty)
      = true := by
    rw [List.any_eq_true]
    rintro ⟨r, hr, differs⟩
    rw [agrees r hr] at differs
    cases differs
  have answers := sweepIn_takes hi hs hb hg defined ready quiet up image
  rw [if_neg in_time, if_neg none_differs] at answers
  refine ⟨_, answers, ?_, ?_, fun r hr => State.swpState_shows _ u (by decide) hr, only.suites, only.mem, only.bricks⟩
  · rw [restart]
  · rw [restart]

/-- An image later than the clean ET. -/
theorem sweepIn_late (hi : i < 64) (hs : src < 2) (hb : buf < 2) (hg : gen < 2 ^ 32) (defined : s.suite i = some u)
    (ready : (s.restart i).st = 3 ∨ ((s.restart i).st = 0 ∧ u.run = 0)) (quiet : u.sweep.st = 0) (up : u.inReset = false)
    (image : s.sweepSource i u src buf gen = some m) {e : Nat} (clean : (s.restart i).clean = some e) (later : e < m.et) :
    Completes (.sweepIn i src buf gen) s fun t => (t.restart i).st = 8 ∧ (t.restart i).cause = 7 ∧ tst (t.rd swpg 0x028) 5 = true
      ∧ t.suites = s.suites ∧ t.mem = s.mem ∧ t.bricks = s.bricks := by
  have bars : (s.restart i).bars m.et = true := by rw [Restart.bars, clean]; exact decide_eq_true later
  have answers := sweepIn_takes hi hs hb hg defined ready quiet up image
  rw [if_pos bars] at answers
  obtain ⟨st, cause, event, suites, mem, bricks⟩ := (s.sweepInBegun i m).restartFail_outcome i 7
  exact ⟨_, answers, st, cause, event, suites, mem, bricks⟩

/-- No image of the GEN asked for. -/
theorem sweepIn_refused (hi : i < 64) (hs : src < 2) (hb : buf < 2) (hg : gen < 2 ^ 32) (defined : s.suite i = some u)
    (image : s.sweepSource i u src buf gen = none) : TurnedAway (.sweepIn i src buf gen) s swpg 6 := by
  obtain ⟨fsrc, fbuf, fgen⟩ := fld_sweepIn hs hb hg
  refine turned_swpRefuse ?_
  rw [sweepIn_answers hi, State.sweepInCmd, defined]
  dsimp only
  rw [fsrc, fbuf, fgen, image]
  exact congrArg _ (ite_self _)

end

/-! ### The images restored (R474, R476, R479) -/

/-- A Room whose ROOM_CRC or DIGEST differs: its record and SWP_DIFF, with STATE FAILED. -/
def State.roomImageBad (s : State) (r : Nat) : State :=
  (((if s.isArmed (swp r) 0 then s.disarm (swp r) 0 else s).capture (swp r) 0x090 (put 63 56 5)).raise (swp r) 0 (s.isArmed (swp r) 0)).wrF (swp r) 0x080 63 61 5

theorem State.roomImageBad_keeps (s : State) (r : Nat) : (s.roomImageBad r).suites = s.suites ∧ (s.roomImageBad r).mem = s.mem ∧ (s.roomImageBad r).bricks = s.bricks := by
  unfold State.roomImageBad State.wrF
  split <;> exact ⟨by simp, by simp, by simp⟩

section
variable {s : State} {i : Nat} {u : Suite} {m : SuiteImg} {bad : List Nat}

theorem sweepInDone_answers (defined : s.suite i = some u) (image : (s.restart i).img = some m) (waits : (s.restart i).st = 5) (free : s.dbgSweeps i = false)
    (unarmed : ∀ r, r ∈ u.rooms → s.isArmed (swp r) 0 = false) : exec (.sweepInDone i bad) s
      = if u.rooms.filter (fun r => bad.contains r) ≠ [] then .next (((u.rooms.filter fun r => bad.contains r).foldl State.roomImageBad s).restartFail i 5)
        else .next (((s.restore i m).setRestart i { (s.restore i m).restart i with st := 6, img := none }).rollStart i) := by
  have injected : u.rooms.filter (fun r => s.isArmed (swp r) 0) = [] := List.filter_eq_nil_iff.mpr fun r hr => by rw [unarmed r hr]; exact Bool.false_ne_true
  change execSweepInDone i bad s = _
  unfold execSweepInDone
  simp only [defined, image]
  rw [if_neg (by rw [waits, free]; decide)]
  simp only [injected, List.contains_nil, Bool.or_false]
  split
  · rfl
  · next none => rw [not_not.mp none]; rfl

theorem sweepInDone_restores (defined : s.suite i = some u) (image : (s.restart i).img = some m) (waits : (s.restart i).st = 5) (free : s.dbgSweeps i = false)
    (unarmed : ∀ r, r ∈ u.rooms → s.isArmed (swp r) 0 = false) (good : ∀ r, r ∈ bad → r ∉ u.rooms) :
    exec (.sweepInDone i bad) s = .next (((s.restore i m).setRestart i { (s.restore i m).restart i with st := 6, img := none }).rollStart i) := by
  have none : u.rooms.filter (fun r => bad.contains r) = [] := by
    rw [List.filter_eq_nil_iff]
    exact fun r hr differs => good r (List.contains_iff_mem.mp differs) hr
  rw [sweepInDone_answers defined image waits free unarmed, if_neg (not_not_intro none)]

theorem sweepInDone_fails (defined : s.suite i = some u) (image : (s.restart i).img = some m) (waits : (s.restart i).st = 5) (free : s.dbgSweeps i = false)
    (unarmed : ∀ r, r ∈ u.rooms → s.isArmed (swp r) 0 = false) {r : Nat} (differs : r ∈ bad) (hr : r ∈ u.rooms) :
    Completes (.sweepInDone i bad) s fun t => (t.restart i).st = 8 ∧ (t.restart i).cause = 5 ∧ tst (t.rd swpg 0x028) 5 = true
      ∧ t.suites = s.suites ∧ t.mem = s.mem ∧ t.bricks = s.bricks := by
  have some_differ : u.rooms.filter (fun r => bad.contains r) ≠ [] :=
    List.ne_nil_of_mem (List.mem_filter.mpr ⟨hr, List.contains_iff_mem.mpr differs⟩)
  obtain ⟨suites, mem, bricks⟩ := foldl_keeps (fun t : State => t.suites = s.suites ∧ t.mem = s.mem ∧ t.bricks = s.bricks) State.roomImageBad
    (l := u.rooms.filter fun r => bad.contains r) (s := s) (fun t r _ ⟨suites, mem, bricks⟩ => by
      obtain ⟨keep_suites, keep_mem, keep_bricks⟩ := t.roomImageBad_keeps r
      exact ⟨keep_suites.trans suites, keep_mem.trans mem, keep_bricks.trans bricks⟩) ⟨rfl, rfl, rfl⟩
  obtain ⟨st, cause, event, keep_suites, keep_mem, keep_bricks⟩ :=
    State.restartFail_outcome ((u.rooms.filter fun r => bad.contains r).foldl State.roomImageBad s) i 5
  exact ⟨_, (sweepInDone_answers defined image waits free unarmed).trans (if_pos some_differ), st, cause, event, keep_suites.trans suites, keep_mem.trans mem,
    keep_bricks.trans bricks⟩

end

/-! ### RETURN (R476) -/

section
variable {s : State} {i gen : Nat} {u : Suite}

theorem sweepReturn_answers (hi : i < 64) (hg : gen < 2 ^ 32) (defined : s.suite i = some u) {first n : Nat} (hf : first = s.rdF swpg (swpgSuite i) 51 32)
    (hn : n = s.rdF swpg (swpgSuite i) 54 52 + 1) :
    exec (.sweepReturn i gen) s = .next (if ((List.range n).any fun k => (s.yctx (first + k)).state ≠ 1 ∨ (s.yctx (first + k)).dkind ≠ 2) = true then s.swpRefuse
      else s.mirrorAll first n u.rooms.length gen 2 (fun r => (s.yctx (first + r % n)).dbase + gen % 2 * mirrorHalf u.rooms.length n + 4096 + r / n * imageBytes)
        (fun k => (s.yctx (first + k)).dbase + gen % 2 * mirrorHalf u.rooms.length n)) := by
  subst hf hn
  change execSweepReturn i gen s = _
  rw [execSweepReturn, Nat.mod_eq_of_lt hi, Nat.mod_eq_of_lt hg, State.returnCmd, defined]
  rfl

theorem sweepReturn_refused (hi : i < 64) (hg : gen < 2 ^ 32) (defined : s.suite i = some u) {first n k : Nat} (hf : first = s.rdF swpg (swpgSuite i) 51 32)
    (hn : n = s.rdF swpg (swpgSuite i) 54 52 + 1) (hk : k < n) (unfit : (s.yctx (first + k)).state ≠ 1 ∨ (s.yctx (first + k)).dkind ≠ 2) :
    TurnedAway (.sweepReturn i gen) s swpg 6 := by
  refine turned_swpRefuse ?_
  rw [sweepReturn_answers hi hg defined hf hn, if_pos (List.any_eq_true.mpr ⟨k, List.mem_range.mpr hk, decide_eq_true unfit⟩)]

theorem sweepReturn_sends (hi : i < 64) (hg : gen < 2 ^ 32) (defined : s.suite i = some u) {first n h : Nat} (hf : first = s.rdF swpg (swpgSuite i) 51 32)
    (hn : n = s.rdF swpg (swpgSuite i) 54 52 + 1) (fit : ∀ k, k < n → (s.yctx (first + k)).state = 1 ∧ (s.yctx (first + k)).dkind = 2)
    (hh : h = gen % 2 * mirrorHalf u.rooms.length n) :
    exec (.sweepReturn i gen) s = .next (s.mirrorAll first n u.rooms.length gen 2 (fun r => (s.yctx (first + r % n)).dbase + h + 4096 + r / n * imageBytes)
      (fun k => (s.yctx (first + k)).dbase + h)) := by
  have all_fit : ¬ ((List.range n).any fun k => (s.yctx (first + k)).state ≠ 1 ∨ (s.yctx (first + k)).dkind ≠ 2) = true := by
    rw [List.any_eq_true]
    rintro ⟨k, hk, unfit⟩
    obtain ⟨state, kind⟩ := fit k (List.mem_range.mp hk)
    simp [state, kind] at unfit
  rw [sweepReturn_answers hi hg defined hf hn, if_neg all_fit, hh]

end

/-! ### RESUME (R474, R476, R478) -/

/-- A READY Suite armed. -/
def State.resumeArm (s : State) (k : Nat) : State := if (s.restart k).st = 7 then s.setRestart k { s.restart k with armed := true } else s

theorem State.resumeArm_other (s : State) {j k : Nat} (h : k ≠ j ∨ (s.restart k).st ≠ 7) : (s.resumeArm j).restart k = s.restart k := by
  unfold State.resumeArm
  split
  · next ready =>
    refine s.restart_setRestart_ne _ ?_
    rintro rfl
    exact h.elim (absurd rfl) (absurd ready)
  · rfl

theorem State.resumeArm_self (s : State) {k : Nat} (ready : (s.restart k).st = 7) : (s.resumeArm k).restart k = { s.restart k with armed := true } := by
  rw [State.resumeArm, if_pos ready, State.restart_setRestart]

theorem State.resumeArm_keeps (s : State) (k : Nat) : (s.resumeArm k).suites = s.suites ∧ (s.resumeArm k).mem = s.mem := by
  unfold State.resumeArm
  split <;> exact ⟨rfl, rfl⟩

/-- Every READY Suite of a list armed; a Suite named twice is armed all the same. -/
theorem State.resumeArms_arm (s : State) (l : List Nat) {k : Nat} (hk : k ∈ l) (ready : (s.restart k).st = 7) :
    (l.foldl State.resumeArm s).restart k = { s.restart k with armed := true } := by
  refine foldl_reaches_of (fun t : State => (t.restart k).st = 7 ∧ { t.restart k with armed := true } = { s.restart k with armed := true })
    (fun t => t.restart k = { s.restart k with armed := true }) State.resumeArm hk (fun t ⟨st, same⟩ => (t.resumeArm_self st).trans same)
    (fun t j _ ⟨st, _⟩ armed => ?_) (fun t j _ ⟨st, same⟩ => ?_) ⟨ready, rfl⟩
  · by_cases own : k = j
    · subst own
      rw [t.resumeArm_self st, armed]
    · rw [t.resumeArm_other (.inl own), armed]
  · by_cases own : k = j
    · subst own
      rw [t.resumeArm_self st]
      exact ⟨st, same⟩
    · rw [t.resumeArm_other (.inl own)]
      exact ⟨st, same⟩

theorem State.resumeArms_other (s : State) (l : List Nat) {k : Nat} (h : k ∉ l ∨ (s.restart k).st ≠ 7) : (l.foldl State.resumeArm s).restart k = s.restart k := by
  refine foldl_keeps (fun t : State => t.restart k = s.restart k) State.resumeArm (fun t j hj same => ?_) rfl
  refine (t.resumeArm_other ?_).trans same
  rw [same]
  exact h.imp_left fun outside own => outside (own ▸ hj)

section
variable {s : State} {i : Nat} {u : Suite}

theorem swpgResume_refused (hi : i < 64) (unready : (s.restart i).st ≠ 7) : TurnedAway (.swpgResume i) s swpg 6 := by
  refine turned_swpRefuse ?_
  change execSwpgResume i s = _
  rw [execSwpgResume, Nat.mod_eq_of_lt hi, State.resumeCmd, if_pos unready]

theorem swpgResume_arms (hi : i < 64) (ready : (s.restart i).st = 7) : Completes (.swpgResume i) s fun t =>
    (∀ k, k ∈ s.jobSuites (s.jobOf i) → (s.restart k).st = 7 → t.restart k = { s.restart k with armed := true })
    ∧ (∀ k, k ∉ s.jobSuites (s.jobOf i) ∨ (s.restart k).st ≠ 7 → t.restart k = s.restart k) ∧ t.suites = s.suites ∧ t.mem = s.mem := by
  have answers : exec (.swpgResume i) s = .next ((s.jobSuites (s.jobOf i)).foldl State.resumeArm s) := by
    change execSwpgResume i s = _
    rw [execSwpgResume, Nat.mod_eq_of_lt hi, State.resumeCmd, if_neg (not_not_intro ready)]
    rfl
  obtain ⟨suites, mem⟩ := foldl_keeps (fun t : State => t.suites = s.suites ∧ t.mem = s.mem) State.resumeArm (l := s.jobSuites (s.jobOf i)) (s := s)
    (fun t k _ ⟨suites, mem⟩ => ⟨(t.resumeArm_keeps k).1.trans suites, (t.resumeArm_keeps k).2.trans mem⟩) ⟨rfl, rfl⟩
  exact ⟨_, answers, fun k hk => s.resumeArms_arm _ hk, fun k => s.resumeArms_other _, suites, mem⟩

theorem resumeEt_waits (early : s.et < (s.rd swpg 0x090).toNat) : exec .resumeEt s = .next s := if_pos early

/-- A Suite that leaves HOLD. -/
def State.resumed (s : State) (i : Nat) (u : Suite) : State :=
  let t := (s.setSweep i .none).swpState u 0
  { t with rim := { t.rim with struck := [] } }.setRestart i .idle

theorem resumeEt_leaves (defined : s.suite i = some u) (due : (s.rd swpg 0x090).toNat ≤ s.et) (alone : s.rim.restarts.map Prod.fst = [i])
    (armed : (s.restart i).armed = true) (ready : (s.restart i).st = 7) (uncounted : (s.restart i).from_ = 0) : exec .resumeEt s = .next (s.resumed i u) := by
  change execResumeEt s = _
  unfold execResumeEt
  rw [if_neg (by omega), alone]
  simp only [List.foldl_cons, List.foldl_nil, defined, armed, ready, uncounted, and_self, if_true]
  rfl

theorem resumeEt_resumes (defined : s.suite i = some u) (due : (s.rd swpg 0x090).toNat ≤ s.et) (alone : s.rim.restarts.map Prod.fst = [i])
    (armed : (s.restart i).armed = true) (ready : (s.restart i).st = 7) (uncounted : (s.restart i).from_ = 0) : Completes .resumeEt s fun t =>
      t.restart i = .idle ∧ t.suite i = some { u with sweep := .none } ∧ t.rim.struck = [] ∧ t.mem = s.mem ∧ t.bricks = s.bricks := by
  have only := (s.setSweep i .none).swpState_only u 0
  refine ⟨_, resumeEt_leaves defined due alone armed ready uncounted, State.restart_setRestart .., ?_, rfl, ?_, ?_⟩
  · exact (only.suite i).trans (s.suite_modSuite _ defined)
  · exact only.mem.trans (State.modSuite_mem ..)
  · exact only.bricks.trans (State.modSuite_bricks ..)

/-! ### HALT and ABORT (R472, R474, R478) -/

theorem swpgHalt_answers (hi : i < 64) : exec (.swpgHalt i) s = .next (s.haltCmd i) := by
  change execSwpgHalt i s = _
  rw [execSwpgHalt, Nat.mod_eq_of_lt hi]

theorem swpgHalt_refused (hi : i < 64) (h : s.suite i = none ∨ (s.restart i).st ≠ 0) : TurnedAway (.swpgHalt i) s swpg 6 := by
  refine turned_swpRefuse ?_
  rw [swpgHalt_answers hi, State.haltCmd, if_pos (h.imp_left fun none => by rw [none]; rfl)]

theorem swpgHalt_starts (hi : i < 64) (defined : s.suite i = some u) (idle : (s.restart i).st = 0) :
    exec (.swpgHalt i) s = .next (s.startJobHalt i (Page.swpg.cls * 256) s.et) := by
  rw [swpgHalt_answers hi, State.haltCmd, if_neg (by simp [defined, idle])]

theorem swpgAbort_refused (hi : i < 64) (idle : (s.restart i).st = 0) : TurnedAway (.swpgAbort i) s swpg 6 := by
  refine turned_swpRefuse ?_
  change execSwpgAbort i s = _
  rw [execSwpgAbort, Nat.mod_eq_of_lt hi, State.abortCmd, if_pos idle]

theorem swpgAbort_ends (hi : i < 64) (defined : s.suite i = some u) (busy : (s.restart i).st ≠ 0) : Completes (.swpgAbort i) s fun t =>
    t.restart i = (if (s.restart i).st = 8 then { Restart.idle with from_ := (s.restart i).from_ } else .idle)
    ∧ t.suite i = some (if u.sweep.st = 7 then { u with run := 4, haltNow := some u.now, sweep := .none } else u) ∧ t.mem = s.mem ∧ t.bricks = s.bricks := by
  have answers : exec (.swpgAbort i) s = .next (s.abortCmd i) := by
    change execSwpgAbort i s = _
    rw [execSwpgAbort, Nat.mod_eq_of_lt hi]
  rw [State.abortCmd, if_neg busy] at answers
  refine ⟨_, answers, ?_, State.suite_modSuite _ _ defined, State.modSuite_mem .., State.modSuite_bricks ..⟩
  rw [State.restart_of_rim (State.modSuite_rim ..), State.restart_setRestart]

end

/-! ### JOB_HALT (R473) -/

section
variable {s t : State} {n : Nat} {e : YRecv}

theorem jobHalt_nothing (hn : n < 2 ^ 20) (none : (s.yazTake n 0x20).2 = none) : exec (.jobHalt n) s = .next s := by
  change execJobHalt n s = _
  unfold execJobHalt
  rw [Nat.mod_eq_of_lt hn]
  dsimp only
  rw [none]

theorem jobHalt_answers (hn : n < 2 ^ 20) (taken : s.yazTake n 0x20 = (t, some e)) {hit : List Nat}
    (hh : hit = (t.jobSuites (leOf ((e.data.drop 0).take 2))).filter fun k => t.roundOf k = leOf ((e.data.drop 2).take 2)) :
    exec (.jobHalt n) s = .next ((if hit = [] then t else (((hit.foldl (fun x k => (x.haltForJob (Page.swpg.cls * 256 + 5) (leOf ((e.data.drop 8).take 8)) k).wrF swpg
      (swpgSuite k) 31 16 (leOf ((e.data.drop 2).take 2) + 1)) t).forwardHalt (some n) e.data).raise swpg 4 false)).yazDeliver n 300) := by
  subst hh
  change execJobHalt n s = _
  unfold execJobHalt
  rw [Nat.mod_eq_of_lt hn]
  dsimp only
  rw [taken]

theorem jobHalt_drops (hn : n < 2 ^ 20) (taken : s.yazTake n 0x20 = (t, some e))
    (stale : ∀ k, k ∈ t.jobSuites (leOf ((e.data.drop 0).take 2)) → t.roundOf k ≠ leOf ((e.data.drop 2).take 2)) :
    exec (.jobHalt n) s = .next (t.yazDeliver n 300) := by
  have none : (t.jobSuites (leOf ((e.data.drop 0).take 2))).filter (fun k => t.roundOf k = leOf ((e.data.drop 2).take 2)) = [] :=
    List.filter_eq_nil_iff.mpr fun k hk same => stale k hk (of_decide_eq_true same)
  rw [jobHalt_answers hn taken rfl, if_pos none]

end

/-- Settles O34. Each command of SWPG_CMD is answered by its own cases; a resume arms each READY Suite of the job, whose restarts are kept by Suite. That a
SWEEP_IN is accepted in AGREE or IDLE, that a wrong GEN is refused, and the halt's class and cause, are the model's choices (log entries 61, 68). -/
theorem restarts : Obligations.Restarts := by
  unfold Obligations.Restarts
  rintro s i hi q rfl
  refine ⟨fun u => preempt_asks hi, preempt_refused hi, fun u src buf gen m defined hs hb hg ready quiet up image => ⟨fun e => sweepIn_late hi hs hb hg defined ready quiet up image,
      fun clean agrees _ => sweepIn_restores hi hs hb hg defined ready quiet up image clean (agrees _ rfl)⟩,
    fun u src buf gen defined hs hb hg => sweepIn_refused hi hs hb hg defined, fun u m bad defined image waits free unarmed =>
      ⟨sweepInDone_restores defined image waits free unarmed, fun r => sweepInDone_fails defined image waits free unarmed⟩,
    fun gen first n k u hg defined hf hn => sweepReturn_refused hi hg defined hf hn, fun gen first n u h hg defined hf hn => sweepReturn_sends hi hg defined hf hn,
    swpgResume_refused hi, swpgResume_arms hi, swpgHalt_refused hi, fun u => swpgHalt_starts hi, swpgAbort_refused hi, fun u => swpgAbort_ends hi, resumeEt_waits,
    fun u => resumeEt_resumes, fun n => jobHalt_nothing, fun n e t => jobHalt_drops, fun n e t job round hit hn taken hj hr hh some_hit => ?_⟩
  subst hj hr
  rw [jobHalt_answers hn taken hh, if_neg some_hit]

end Sys2Proof.Machine

/-! ## The Draught exchange (O32): enabling, totals, periods and messages -/

namespace Sys2Proof.Machine

/-! ### An event of the DMPG page (R510, R512) -/

section
variable {s t : State}

theorem State.dmpgEvent_rd (s : State) {bit cause suite o : Nat} {inj : Bool} (h1 : o ≠ 0x028 := by decide) (h2 : o ≠ 0x040 := by decide) (h3 : o ≠ 0x0D0 := by decide) :
    (s.dmpgEvent bit cause suite inj).rd dmpg o = s.rd dmpg o := by
  rw [State.dmpgEvent, State.raise_rd_off _ _ h1 h2, State.capture_rd_off _ _ h3]

theorem State.dmpgEvent_sets (s : State) {bit cause suite : Nat} {inj : Bool} (hb : bit < 64) : tst ((s.dmpgEvent bit cause suite inj).rd dmpg 0x028) bit = true :=
  State.raise_sets _ _ rfl hb

@[simp] theorem State.dmpgEvent_mem (s : State) (bit cause suite : Nat) (inj : Bool) : (s.dmpgEvent bit cause suite inj).mem = s.mem := by simp [State.dmpgEvent]
@[simp] theorem State.dmpgEvent_suites (s : State) (bit cause suite : Nat) (inj : Bool) : (s.dmpgEvent bit cause suite inj).suites = s.suites := by
  simp [State.dmpgEvent]

theorem State.drOn_of (h : t.rd dmpg 0x0A0 = s.rd dmpg 0x0A0) : t.drOn = s.drOn := by rw [State.drOn, State.drOn, h]

theorem State.drE_of (h : t.rd dmpg 0x0C0 = s.rd dmpg 0x0C0) : t.drE = s.drE := by rw [State.drE, State.drE, State.rdF, State.rdF, h]

end

theorem drSplit_lt (total : W64) : drSplit total < 2 ^ 32 := lt_of_le_of_lt (Nat.div_le_self _ _) (fld_lt total 63 32)

theorem State.drFits_iff (s : State) (job : Nat) (total limits : W64) : s.drFits job total limits = true
    ↔ fld limits 63 32 ≤ drSplit total ∧ drSplit total ≤ fld limits 31 0 ∧ ((s.jobSuites job).map s.minW).sum ≤ fld limits 63 32 := by
  simp [State.drFits, and_assoc]

/-! ### DMPG_DRAUGHT (R502, R510) -/

section
variable {s : State} {v : W64}

theorem draughtEnable_stays (on : s.drOn = true) (set : tst v 63 = true) : exec (.draughtEnable v) s = .next s := by
  change execDraughtEnable v s = _
  rw [execDraughtEnable, if_pos on, if_pos set]

theorem draughtEnable_ends (on : s.drOn = true) (clear : tst v 63 = false) : exec (.draughtEnable v) s = .next (s.wrF dmpg 0x0A0 63 63 0) := by
  change execDraughtEnable v s = _
  rw [execDraughtEnable, if_pos on, clear]
  rfl

theorem draughtEnable_writes (off : s.drOn = false) (clear : tst v 63 = false) :
    exec (.draughtEnable v) s = .next (s.wr dmpg 0x0A0 (v &&& (maskOf 47 32 ||| maskOf 15 0))) := by
  change execDraughtEnable v s = _
  rw [execDraughtEnable, off, clear]
  rfl

/-- The exchange's own state as Draught begins. -/
def State.drStart (s : State) : State := { s with rim := { s.rim with peers := [], drEt := s.et, coldEt := 0 } }

@[simp] theorem State.drStart_rd (s : State) (p : PageRef) (o : Nat) : s.drStart.rd p o = s.rd p o := rfl
@[simp] theorem State.drStart_mem (s : State) : s.drStart.mem = s.mem := rfl
@[simp] theorem State.drStart_suites (s : State) : s.drStart.suites = s.suites := rfl
theorem State.drStart_rim (s : State) : s.drStart.rim = { s.rim with peers := [], drEt := s.et, coldEt := 0 } := rfl

/-- DMPG_DRAUGHT written with EN, and the E of the equal split. -/
def State.drWritten (s : State) (v : W64) : State :=
  let t := s.wr dmpg 0x0A0 (v &&& (maskOf 63 63 ||| maskOf 47 32 ||| maskOf 15 0))
  t.wr dmpg 0x0C0 (put 63 32 (drSplit (t.rd dmpg 0x0A8)))

@[simp] theorem State.drWritten_rim (s : State) (v : W64) : (s.drWritten v).rim = s.rim := by simp [State.drWritten]
@[simp] theorem State.drWritten_et (s : State) (v : W64) : (s.drWritten v).et = s.et := by simp [State.drWritten]
@[simp] theorem State.drWritten_mem (s : State) (v : W64) : (s.drWritten v).mem = s.mem := by simp [State.drWritten]
@[simp] theorem State.drWritten_suites (s : State) (v : W64) : (s.drWritten v).suites = s.suites := by simp [State.drWritten]

theorem State.drWritten_cfg (s : State) (v : W64) : (s.drWritten v).rd dmpg 0x0A0 = v &&& (maskOf 63 63 ||| maskOf 47 32 ||| maskOf 15 0) := by
  rw [State.drWritten, State.rd_wr_off _ _ (by decide), State.rd_wr_self]

theorem State.drWritten_share (s : State) (v : W64) : (s.drWritten v).rd dmpg 0x0C0 = put 63 32 (drSplit (s.rd dmpg 0x0A8)) := by
  rw [State.drWritten, State.rd_wr_self, State.rd_wr_off _ _ (by decide)]

theorem draughtEnable_sets (off : s.drOn = false) (set : tst v 63 = true) : exec (.draughtEnable v) s
    = if (!s.drFits (fld v 47 32) (s.rd dmpg 0x0A8) (s.rd dmpg 0x0B0)) = true then .next (s.dmpgEvent 3 0x23 0 false) else .next (s.drWritten v).drStart := by
  change execDraughtEnable v s = _
  rw [execDraughtEnable, if_neg (by rw [off]; exact Bool.false_ne_true), if_neg (by rw [set]; decide)]
  rfl

theorem draughtEnable_begins (off : s.drOn = false) (set : tst v 63 = true) {e : Nat} (he : e = drSplit (s.rd dmpg 0x0A8)) (low : fld (s.rd dmpg 0x0B0) 63 32 ≤ e)
    (high : e ≤ fld (s.rd dmpg 0x0B0) 31 0) (floors : ((s.jobSuites (fld v 47 32)).map s.minW).sum ≤ fld (s.rd dmpg 0x0B0) 63 32) :
    Completes (.draughtEnable v) s fun t => t.drOn = true ∧ t.drE = e ∧ t.rim.peers = [] ∧ t.rim.drEt = s.et ∧ t.rdF dmpg 0x0A0 47 32 = fld v 47 32
      ∧ t.mem = s.mem ∧ t.suites = s.suites := by
  subst he
  have fits : s.drFits (fld v 47 32) (s.rd dmpg 0x0A8) (s.rd dmpg 0x0B0) = true := (s.drFits_iff _ _ _).mpr ⟨low, high, floors⟩
  refine ⟨_, (draughtEnable_sets off set).trans (if_neg (by rw [fits]; decide)), ?_, ?_, ?_, ?_, ?_, by simp, by simp⟩
  · rw [State.drOn, State.drStart_rd, State.drWritten_cfg, tst_and v (by decide), set]
  · rw [State.drE, State.rdF, State.drStart_rd, State.drWritten_share, fld_put _ (by decide) (drSplit_lt _)]
  · rw [State.drStart_rim]
  · rw [State.drStart_rim, State.drWritten_et]
  · rw [State.rdF, State.drStart_rd, State.drWritten_cfg, fld_and v (by decide) (by decide)]

theorem draughtEnable_refused (off : s.drOn = false) (set : tst v 63 = true) {e : Nat} (he : e = drSplit (s.rd dmpg 0x0A8))
    (h : e < fld (s.rd dmpg 0x0B0) 63 32 ∨ fld (s.rd dmpg 0x0B0) 31 0 < e ∨ fld (s.rd dmpg 0x0B0) 63 32 < ((s.jobSuites (fld v 47 32)).map s.minW).sum) :
    Completes (.draughtEnable v) s fun t => tst (t.rd dmpg 0x028) 3 = true ∧ t.drOn = false ∧ t.drE = s.drE ∧ t.mem = s.mem ∧ t.suites = s.suites := by
  subst he
  have unfit : (!s.drFits (fld v 47 32) (s.rd dmpg 0x0A8) (s.rd dmpg 0x0B0)) = true := by
    rw [Bool.not_eq_true', Bool.eq_false_iff, Ne, State.drFits_iff]
    omega
  exact ⟨_, (draughtEnable_sets off set).trans (if_pos unfit), s.dmpgEvent_sets (by decide), (State.drOn_of s.dmpgEvent_rd).trans off, State.drE_of s.dmpgEvent_rd,
    State.dmpgEvent_mem .., State.dmpgEvent_suites ..⟩

/-! ### DMPG_DR_TOTAL (R503, R510) -/

theorem drTotal_engines (v : W64) : fld (v &&& (maskOf 63 32 ||| maskOf 16 0)) 16 0 = fld v 16 0 := fld_and v (by decide) (by decide)

theorem drTotal_watts (v : W64) : fld (v &&& (maskOf 63 32 ||| maskOf 16 0)) 63 32 = fld v 63 32 := fld_and v (by decide) (by decide)

theorem drTotalWrite_answers (s : State) (v : W64) : exec (.drTotalWrite v) s
    = .next (if fld v 16 0 = 0 ∨ 65536 < fld v 16 0 ∨ (s.drOn = true ∧ (!s.drFits (s.rdF dmpg 0x0A0 47 32) (v &&& (maskOf 63 32 ||| maskOf 16 0)) (s.rd dmpg 0x0B0)) = true)
      then s.dmpgEvent 3 0x23 0 false
      else if s.drOn = true then (s.wr dmpg 0x0A8 (v &&& (maskOf 63 32 ||| maskOf 16 0))).wrF dmpg 0x0C0 63 32 (drSplit (v &&& (maskOf 63 32 ||| maskOf 16 0)))
      else s.wr dmpg 0x0A8 (v &&& (maskOf 63 32 ||| maskOf 16 0))) := by
  have on : (s.wr dmpg 0x0A8 (v &&& (maskOf 63 32 ||| maskOf 16 0))).drOn = s.drOn := State.drOn_of (s.rd_wr_off _ (by decide))
  have engines := drTotal_engines v
  change execDrTotalWrite v s = _
  unfold execDrTotalWrite
  simp only [engines, on]

theorem drTotalWrite_takes (some_ : 1 ≤ fld v 16 0) (few : fld v 16 0 ≤ 65536) (on : s.drOn = true)
    (fits : s.drFits (s.rdF dmpg 0x0A0 47 32) (v &&& (maskOf 63 32 ||| maskOf 16 0)) (s.rd dmpg 0x0B0) = true) :
    Completes (.drTotalWrite v) s fun t => t.rd dmpg 0x0A8 = v &&& (maskOf 63 32 ||| maskOf 16 0) ∧ t.drE = fld v 63 32 / fld v 16 0 ∧ { t with regs := s.regs } = s := by
  have taken : ¬ (fld v 16 0 = 0 ∨ 65536 < fld v 16 0
      ∨ (s.drOn = true ∧ (!s.drFits (s.rdF dmpg 0x0A0 47 32) (v &&& (maskOf 63 32 ||| maskOf 16 0)) (s.rd dmpg 0x0B0)) = true)) := by
    rw [fits]
    simp
    omega
  have answers := drTotalWrite_answers s v
  rw [if_neg taken, if_pos on] at answers
  refine ⟨_, answers, ?_, ?_, (State.wr_regsOut ..).trans (State.wr_regsOut ..)⟩
  · rw [State.rd_wrF_off _ _ _ _ (by decide), State.rd_wr_self]
  · rw [State.drE, State.rdF_wrF_self _ _ _ (by decide) (drSplit_lt _), drSplit, drTotal_engines, drTotal_watts, Nat.max_eq_right some_]

theorem drTotalWrite_off (some_ : 1 ≤ fld v 16 0) (few : fld v 16 0 ≤ 65536) (off : s.drOn = false) :
    exec (.drTotalWrite v) s = .next (s.wr dmpg 0x0A8 (v &&& (maskOf 63 32 ||| maskOf 16 0))) := by
  rw [drTotalWrite_answers, if_neg (by rw [off]; simp; omega), if_neg (by rw [off]; exact Bool.false_ne_true)]

theorem drTotalWrite_refused (h : fld v 16 0 = 0 ∨ 65536 < fld v 16 0) : Completes (.drTotalWrite v) s fun t =>
    tst (t.rd dmpg 0x028) 3 = true ∧ t.rd dmpg 0x0A8 = s.rd dmpg 0x0A8 ∧ t.drE = s.drE := by
  have answers := drTotalWrite_answers s v
  rw [if_pos (h.imp_right .inl)] at answers
  exact ⟨_, answers, s.dmpgEvent_sets (by decide), s.dmpgEvent_rd, State.drE_of s.dmpgEvent_rd⟩

/-! ### The end of a period (R500, R502) -/

theorem State.drPeerTurn_none {k : Nat} (none : tst (s.rd dmpg (0x100 + 8 * k)) 63 = false) : s.drPeerTurn k = s := by
  rw [State.drPeerTurn, none]
  rfl

theorem State.drPeerTurns_none (s : State) (l : List Nat) (none : ∀ k, k ∈ l → tst (s.rd dmpg (0x100 + 8 * k)) 63 = false) : l.foldl State.drPeerTurn s = s := by
  induction l with
  | nil => rfl
  | cons k l ih => rw [List.foldl_cons, State.drPeerTurn_none (none k List.mem_cons_self), ih fun j hj => none j (List.mem_cons_of_mem _ hj)]

/-- The period's COLD shown. -/
def State.coldShown (s : State) : State := s.wrF dmpg 0x0C0 31 16 (min 65535 (s.rim.coldEt * 65536 / max 1 (s.et - s.rim.drEt)))

theorem draughtPeriod_ends (on : s.drOn = true) (due : s.rim.drEt + s.drPeriod ≤ s.et) (alone : ∀ k, k < 4 → tst (s.rd dmpg (0x100 + 8 * k)) 63 = false) :
    exec .draughtPeriod s = .next { s.coldShown with rim := { s.rim with drEt := s.et, coldEt := 0 } } := by
  have none : ∀ k, k ∈ List.range 4 → tst (s.coldShown.rd dmpg (0x100 + 8 * k)) 63 = false := fun k hk => by
    rw [State.coldShown, State.rd_wrF_off _ _ _ _ (by omega)]
    exact alone k (List.mem_range.mp hk)
  have turns : (List.range 4).foldl (fun s k => State.drPeerTurn s k) s.coldShown = s.coldShown := State.drPeerTurns_none _ _ none
  have ends : ¬ ((!s.drOn) = true ∨ s.et < s.rim.drEt + s.drPeriod) := by
    rw [on]
    simp
    omega
  change execDraughtPeriod s = _
  unfold execDraughtPeriod
  rw [if_neg ends]
  dsimp only
  rw [← State.coldShown, turns]
  rfl

theorem draughtPeriod_shows (on : s.drOn = true) (due : s.rim.drEt + s.drPeriod ≤ s.et) (alone : ∀ k, k < 4 → tst (s.rd dmpg (0x100 + 8 * k)) 63 = false) :
    Completes .draughtPeriod s fun t => t.rdF dmpg 0x0C0 31 16 = min 65535 (s.rim.coldEt * 65536 / (s.et - s.rim.drEt)) ∧ t.rim.coldEt = 0 ∧ t.rim.drEt = s.et
      ∧ t.drE = s.drE ∧ { t with regs := s.regs, rim := s.rim } = s := by
  have long : 1 ≤ s.et - s.rim.drEt := by
    have : 156250 ≤ s.drPeriod := by unfold State.drPeriod; omega
    omega
  have value : s.coldShown.rdF dmpg 0x0C0 31 16 = min 65535 (s.rim.coldEt * 65536 / (s.et - s.rim.drEt)) := by
    rw [State.coldShown, Nat.max_eq_right long, State.rdF_wrF_self _ _ _ (by decide) (by omega)]
  refine ⟨_, draughtPeriod_ends on due alone, value, rfl, rfl, ?_, rfl⟩
  change s.coldShown.drE = s.drE
  simp only [State.coldShown, State.drE, State.rdF, State.wrF, State.rd_wr_self]
  exact fld_setFld_ne _ (by decide) (by decide)

theorem draughtPeriod_waits (h : s.drOn = false ∨ s.et < s.rim.drEt + s.drPeriod) : exec .draughtPeriod s = .next s := if_pos (h.imp_left fun off => by rw [off]; rfl)

end

/-! ### Messages (R501 to R503) -/

section
variable {s t : State} {n k kind : Nat} {d : List Byte} (hn : n < 2 ^ 20) (taken : t = (s.yazTake n 0x30).1) (peer : t.drPeerOf n = some k)
include hn taken peer

theorem State.drTake_acts (next : s.drNext n kind = some d) (job : drField d 2 2 = t.rdF dmpg 0x0A0 47 32) (f : State → Nat → List Byte → State) :
    s.drTake n kind f = (f t k d).yazDeliver n 300 := by
  subst taken
  unfold State.drTake
  rw [Nat.mod_eq_of_lt hn]
  dsimp only
  rw [next]
  dsimp only
  rw [peer]
  dsimp only
  rw [if_pos job]

/-- A message of another job is dropped. -/
theorem State.drTake_drops (next : s.drNext n kind = some d) (other : drField d 2 2 ≠ t.rdF dmpg 0x0A0 47 32) (f : State → Nat → List Byte → State) :
    s.drTake n kind f = t.yazDeliver n 300 := by
  subst taken
  unfold State.drTake
  rw [Nat.mod_eq_of_lt hn]
  dsimp only
  rw [next]
  dsimp only
  rw [peer]
  dsimp only
  rw [if_neg other]

variable (job : drField d 2 2 = t.rdF dmpg 0x0A0 47 32)
include job

theorem draughtStatus_keeps (next : s.drNext n 1 = some d) (status : drField d 0 1 = 1) :
    exec (.draughtStatus n) s = .next ((t.setPeer k { t.drPeer k with cold := drField d 8 2, at_ := some t.et }).yazDeliver n 300) := by
  change execDraughtStatus n s = _
  rw [execDraughtStatus, State.drTake_acts hn taken peer next job, if_neg (not_not_intro status)]

theorem give_answers (next : s.drNext n 2 = some d) {a : Nat}
    (ha : a = if (!t.drOn) = true ∨ (t.drPeer k).give.isSome = true then 0 else min (drField d 4 4) (t.rdF dmpg 0x0B0 31 0 - t.drE - t.drReserved)) :
    exec (.give n) s = .next (((if a = 0 then t else (t.setPeer k { t.drPeer k with resv := (t.drPeer k).resv + a }).bump dmpg 0x0C8 47 32 1).drSend k 3 (drField d 1 1) a).yazDeliver
      n 300) := by
  subst ha
  change execGive n s = _
  rw [execGive, State.drTake_acts hn taken peer next job]

theorem give_reserves (next : s.drNext n 2 = some d) (on : t.drOn = true) (free : (t.drPeer k).give = none) {a : Nat}
    (ha : a = min (drField d 4 4) (t.rdF dmpg 0x0B0 31 0 - t.drE - t.drReserved)) (fits : a ≠ 0) :
    exec (.give n) s
      = .next ((((t.setPeer k { t.drPeer k with resv := (t.drPeer k).resv + a }).bump dmpg 0x0C8 47 32 1).drSend k 3 (drField d 1 1) a).yazDeliver n 300) := by
  rw [give_answers hn taken peer job next (a := a) (by rw [if_neg (by rw [on, free]; decide)]; exact ha), if_neg fits]

theorem give_declines (next : s.drNext n 2 = some d) (h : t.drOn = false ∨ (t.drPeer k).give ≠ none) :
    exec (.give n) s = .next ((t.drSend k 3 (drField d 1 1) 0).yazDeliver n 300) := by
  have refuses : (!t.drOn) = true ∨ (t.drPeer k).give.isSome = true := h.imp (fun off => by rw [off]; rfl) Option.isSome_iff_ne_none.mpr
  rw [give_answers hn taken peer job next (a := 0) (if_pos refuses).symm, if_pos rfl]

theorem take_lowers (next : s.drNext n 3 = some d) (asked : (t.drPeer k).give = some (drField d 1 1)) {a : Nat} (ha : a = drField d 4 4) (some_ : a ≠ 0) :
    exec (.take n) s
      = .next ((((t.setPeer k { t.drPeer k with give := none }).wrF dmpg 0x0C0 63 32 (t.drE - a)).drSend k 4 (drField d 1 1) a).yazDeliver n 300) := by
  subst ha
  change execTake n s = _
  rw [execTake, State.drTake_acts hn taken peer next job]
  dsimp only
  rw [if_neg (not_not_intro asked), if_neg some_]
  rfl

theorem take_drops (next : s.drNext n 3 = some d) (unasked : (t.drPeer k).give ≠ some (drField d 1 1)) : exec (.take n) s = .next (t.yazDeliver n 300) := by
  change execTake n s = _
  rw [execTake, State.drTake_acts hn taken peer next job]
  dsimp only
  rw [if_pos unasked]

theorem confirm_raises (next : s.drNext n 4 = some d) {a : Nat} (ha : a = min (t.drPeer k).resv (drField d 4 4)) :
    exec (.confirm n) s = .next (((t.wrF dmpg 0x0C0 63 32 (t.drE + a)).setPeer k { t.drPeer k with resv := (t.drPeer k).resv - a }).yazDeliver n 300) := by
  subst ha
  change execConfirm n s = _
  rw [execConfirm, State.drTake_acts hn taken peer next job]

end

/-- Settles O32. A write of DMPG_DRAUGHT or of the total acts where the equal split lies within its limits; a message is taken from its stream and acted on by
its kind. That COLD is counted in Epoch time, and how GIVES and TAKES are read, are the model's choices (log entry 71). -/
theorem draughtExchange : Obligations.DraughtExchange := by
  unfold Obligations.DraughtExchange
  intro s v
  refine ⟨fun on => ⟨draughtEnable_stays on, draughtEnable_ends on⟩, draughtEnable_writes, fun e off set he => ⟨draughtEnable_begins off set he, draughtEnable_refused off set he⟩,
    drTotalWrite_takes, drTotalWrite_off, drTotalWrite_refused, draughtPeriod_shows, draughtPeriod_waits, fun n d t k hn taken peer =>
    ⟨fun job p a seq hp hseq => ?_, fun other => ⟨fun next => ?_, fun next => ?_, fun next => ?_, fun next => ?_⟩⟩⟩
  · subst hp hseq
    exact ⟨draughtStatus_keeps hn taken peer job, fun next on free => give_reserves hn taken peer job next on free, give_declines hn taken peer job, fun next asked => take_lowers hn taken peer job next asked,
      take_drops hn taken peer job, fun next => confirm_raises hn taken peer job next⟩
  · exact congrArg _ (State.drTake_drops hn taken peer next other _)
  · exact congrArg _ (State.drTake_drops hn taken peer next other _)
  · exact congrArg _ (State.drTake_drops hn taken peer next other _)
  · exact congrArg _ (State.drTake_drops hn taken peer next other _)

end Sys2Proof.Machine

/-! ## The Damper's power budget and thermal response (O31) -/

namespace Sys2Proof.Machine

/-! ### Caps and budgets (R499, R511) -/

section
variable {s : State} {v : W64} {i : Nat}

theorem capWrite_takes (low : 8000 ≤ fld v 15 0) (high : fld v 15 0 ≤ 27000) (covers : s.minSum + s.rdF dmpg 0x090 63 32 ≤ fld v 15 0) :
    exec (.capWrite v) s = .next (s.wr dmpg 0x080 (v &&& maskOf 47 0)) := by
  change execCapWrite v s = _
  rw [execCapWrite, if_neg (by omega)]

theorem capWrite_refused (h : fld v 15 0 < 8000 ∨ 27000 < fld v 15 0 ∨ fld v 15 0 < s.minSum + s.rdF dmpg 0x090 63 32) : Completes (.capWrite v) s fun t =>
    tst (t.rd dmpg 0x028) 3 = true ∧ t.rd dmpg 0x080 = s.rd dmpg 0x080 ∧ t.mem = s.mem ∧ t.suites = s.suites := by
  refine ⟨s.dmpgEvent 3 0x23 0 false, ?_, s.dmpgEvent_sets (by decide), s.dmpgEvent_rd, State.dmpgEvent_mem .., State.dmpgEvent_suites ..⟩
  change execCapWrite v s = _
  rw [execCapWrite, if_pos h]

variable {t : State} (hi : i < 64) (written : t = s.wr dmpg (0x400 + 16 * i) (v &&& (maskOf 63 48 ||| maskOf 33 0)))
include hi written

theorem suiteBudgetWrite_answers : exec (.suiteBudgetWrite i v) s
    = .next (if t.maxW i < t.minW i ∨ s.rdF dmpg 0x080 15 0 < t.minSum + s.rdF dmpg 0x090 63 32 then s.dmpgEvent 3 0x23 i false else t) := by
  subst written
  change execSuiteBudgetWrite i v s = _
  rw [execSuiteBudgetWrite, Nat.mod_eq_of_lt hi]

theorem suiteBudgetWrite_takes (ordered : t.minW i ≤ t.maxW i) (covers : t.minSum + s.rdF dmpg 0x090 63 32 ≤ s.rdF dmpg 0x080 15 0) :
    exec (.suiteBudgetWrite i v) s = .next t := by
  rw [suiteBudgetWrite_answers hi written, if_neg (by omega)]

theorem suiteBudgetWrite_refused (h : t.maxW i < t.minW i ∨ s.rdF dmpg 0x080 15 0 < t.minSum + s.rdF dmpg 0x090 63 32) : Completes (.suiteBudgetWrite i v) s fun r =>
    tst (r.rd dmpg 0x028) 3 = true ∧ r.rd dmpg (0x400 + 16 * i) = s.rd dmpg (0x400 + 16 * i) ∧ r.mem = s.mem ∧ r.suites = s.suites :=
  ⟨_, (suiteBudgetWrite_answers hi written).trans (congrArg _ (if_pos h)), s.dmpgEvent_sets (by decide), s.dmpgEvent_rd (by omega) (by omega) (by omega),
    State.dmpgEvent_mem .., State.dmpgEvent_suites ..⟩

end

/-! ### A power window (R494 to R498, R527) -/

@[simp] theorem State.dmpgEvent_rim (s : State) (bit cause suite : Nat) (inj : Bool) : (s.dmpgEvent bit cause suite inj).rim = s.rim := by simp [State.dmpgEvent]
@[simp] theorem State.dmpgEvent_bricks (s : State) (bit cause suite : Nat) (inj : Bool) : (s.dmpgEvent bit cause suite inj).bricks = s.bricks := by
  simp [State.dmpgEvent]
@[simp] theorem State.dmpgEvent_et (s : State) (bit cause suite : Nat) (inj : Bool) : (s.dmpgEvent bit cause suite inj).et = s.et := by simp [State.dmpgEvent]

/-- What the bids and awards of a window leave: CAP_W, the derating, time and memory. -/
structure State.Awarding (s t : State) : Prop where
  cap : t.rd dmpg 0x080 = s.rd dmpg 0x080
  eff : t.rd dmpg 0x088 = s.rd dmpg 0x088
  mem : t.mem = s.mem
  bricks : t.bricks = s.bricks
  et : t.et = s.et

section
variable {s t u : State}

theorem State.Awarding.refl : State.Awarding s s := ⟨rfl, rfl, rfl, rfl, rfl⟩

theorem State.Awarding.trans (h : State.Awarding s t) (k : State.Awarding t u) : State.Awarding s u :=
  ⟨k.cap.trans h.cap, k.eff.trans h.eff, k.mem.trans h.mem, k.bricks.trans h.bricks, k.et.trans h.et⟩

theorem State.Awarding.ite {c : Prop} [Decidable c] (h : State.Awarding s t) (k : State.Awarding s u) : State.Awarding s (if c then t else u) := by
  split
  · exact h
  · exact k

theorem State.Awarding.wr (s : State) {o : Nat} (v : W64) (h : 0x088 < o) : State.Awarding s (s.wr dmpg o v) :=
  ⟨s.rd_wr_off v (by omega), s.rd_wr_off v (by omega), rfl, rfl, rfl⟩

theorem State.Awarding.event (s : State) (bit cause suite : Nat) (inj : Bool) : State.Awarding s (s.dmpgEvent bit cause suite inj) :=
  ⟨s.dmpgEvent_rd, s.dmpgEvent_rd, s.dmpgEvent_mem .., s.dmpgEvent_bricks .., s.dmpgEvent_et ..⟩

theorem State.Awarding.modSuite (s : State) (i : Nat) (f : Suite → Suite) : State.Awarding s (s.modSuite i f) := ⟨by simp, by simp, by simp, by simp, by simp⟩

theorem State.demand_awarding (s : State) (u : Suite) (p : Nat) : State.Awarding s (s.demand u p).1 := by
  unfold State.demand
  split
  · exact .refl
  · split <;> exact ⟨rfl, rfl, rfl, rfl, rfl⟩

theorem State.bids_awarding (s : State) (ms : Nat) : State.Awarding s (s.bids ms).1 := by
  unfold State.bids
  refine foldl_keeps (fun a : State × List (Bid × Nat) => State.Awarding s a.1) _ (fun a i _ held => ?_) .refl
  dsimp only
  split
  · next u _ =>
    split
    · refine (held.trans (a.1.demand_awarding u (a.1.windowPower u ms))).trans ?_
      dsimp only
      split <;> exact ⟨rfl, rfl, rfl, rfl, rfl⟩
    · exact held.trans (State.Awarding.wr _ _ (by omega))
  · exact held

theorem State.award_awarding (s : State) (inj : Bool) (b : Bid) (p : Nat) : State.Awarding s (s.award inj b p) := by
  have awarded (v : W64) : State.Awarding s ((s.wr dmpg (0x408 + 16 * b.id) v).modSuite b.id fun u => { u with winCnt := u.winCnt + 1 }) :=
    (State.Awarding.wr s v (by omega)).trans (.modSuite ..)
  exact .ite ((awarded _).trans (.event ..)) (.ite ((awarded _).trans (.event ..)) (awarded _))

/-- DERATE_W as input voltage and coolant give it. -/
def State.derateW (s : State) : Nat :=
  min 27000 (min (675 * s.rdF pwrg 0x080 15 0 / 100) (min (45 * s.rdF pwrg 0x088 15 0)
    (if 400 < s.rdF pwrg 0x088 31 16 then 27000 - 200 * (s.rdF pwrg 0x088 31 16 - 400) else 27000)))

theorem State.derateW_lt (s : State) : s.derateW < 2 ^ 16 := lt_of_le_of_lt (min_le_left ..) (by decide)

/-- The registers of DERATE written, before the event of R532. -/
def State.derateWritten (s : State) : State :=
  (s.wr pwrg 0x098 (put 15 0 (675 * s.rdF pwrg 0x080 15 0 / 100) ||| put 31 16 (45 * s.rdF pwrg 0x088 15 0)
    ||| put 47 32 (if 400 < s.rdF pwrg 0x088 31 16 then 27000 - 200 * (s.rdF pwrg 0x088 31 16 - 400) else 27000))).wrF dmpg 0x088 15 0 s.derateW

theorem State.derate_form (unarmed : s.isArmed pwrg 1 = false) : s.derate = s.derateWritten ∨ s.derate = s.derateWritten.pwrgEvent 1 0x11 false := by
  unfold State.derate
  simp only [unarmed, Bool.false_eq_true, if_false]
  exact (ite_eq_or_eq _ _ _).symm

theorem State.pwrgEvent_rd (s : State) {bit cause : Nat} {inj : Bool} {q : PageRef} {o : Nat} (ho : o < 4096 := by decide) (h1 : o ≠ 0x028 := by decide)
    (h2 : o ≠ 0x040 := by decide) (h3 : o ≠ 0x0A8 := by decide) : (s.pwrgEvent bit cause inj).rd q o = s.rd q o := by
  rw [State.pwrgEvent, State.raise_rd _ _ (regKey_offs ho (by decide) h1) (regKey_offs ho (by decide) h2), State.capture_rd_key _ _ (regKey_offs ho (by decide) h3)]

/-- The derating set, and what it leaves. -/
theorem State.derate_sets (unarmed : s.isArmed pwrg 1 = false) : s.derate.rdF dmpg 0x088 15 0 = s.derateW ∧ s.derate.rd dmpg 0x080 = s.rd dmpg 0x080
    ∧ s.derate.mem = s.mem ∧ s.derate.bricks = s.bricks ∧ s.derate.et = s.et ∧ s.derate.isArmed dmpg 1 = s.isArmed dmpg 1 := by
  have eff : s.derateWritten.rdF dmpg 0x088 15 0 = s.derateW := State.rdF_wrF_self _ _ _ (by decide) s.derateW_lt
  have cap : s.derateWritten.rd dmpg 0x080 = s.rd dmpg 0x080 := (State.rd_wrF_off _ _ _ _ (by decide)).trans (State.rd_wr_key _ _ regKey_offs)
  rcases s.derate_form unarmed with written | event
  · rw [written]
    exact ⟨eff, cap, rfl, rfl, rfl, rfl⟩
  · rw [event, State.rdF, State.pwrgEvent_rd, State.pwrgEvent_rd]
    exact ⟨eff, cap, by simp [State.pwrgEvent, State.derateWritten], by simp [State.pwrgEvent, State.derateWritten], by simp [State.pwrgEvent, State.derateWritten],
      by simp [State.pwrgEvent, State.derateWritten]⟩

/-- The window's end noted. -/
def State.windowClosed (s : State) (en : SMap Nat) : State := { s with rim := { s.rim with winEt := s.et, enStart := en } }

@[simp] theorem State.windowClosed_rd (s : State) (en : SMap Nat) (q : PageRef) (o : Nat) : (s.windowClosed en).rd q o = s.rd q o := rfl
@[simp] theorem State.windowClosed_mem (s : State) (en : SMap Nat) : (s.windowClosed en).mem = s.mem := rfl
@[simp] theorem State.windowClosed_bricks (s : State) (en : SMap Nat) : (s.windowClosed en).bricks = s.bricks := rfl
@[simp] theorem State.windowClosed_winEt (s : State) (en : SMap Nat) : (s.windowClosed en).rim.winEt = s.et := rfl

/-- CAP_EFF of a window. -/
def State.capEff (s : State) : Nat := min (s.rdF dmpg 0x080 15 0) (s.rdF dmpg 0x088 15 0)

theorem powerWindow_form (due : s.rim.winEt + 156250 ≤ s.et) (unarmed : s.isArmed dmpg 1 = false) (unarmed' : s.isArmed pwrg 1 = false) :
    ∃ (l : List (Bid × Nat)) (v : W64) (en : SMap Nat), exec .powerWindow s
      = .next ((l.foldl (fun s x => s.award false x.1 x.2)
        ((((s.derate.bids ((s.et - s.rim.winEt) / 156250)).1.wrF dmpg 0x088 31 16 s.derate.capEff).wr dmpg 0x090 v))).windowClosed en) := by
  obtain ⟨-, -, -, -, -, armed⟩ := s.derate_sets unarmed'
  have off : s.derate.isArmed dmpg 1 = false := armed.trans unarmed
  have answers : exec .powerWindow s = execPowerWindow s := rfl
  rw [answers]
  unfold execPowerWindow
  simp only [off, Bool.false_eq_true, if_false]
  rw [if_neg (by omega)]
  exact ⟨_, _, _, rfl⟩

theorem powerWindow_sets (due : s.rim.winEt + 156250 ≤ s.et) (unarmed : s.isArmed dmpg 1 = false) (unarmed' : s.isArmed pwrg 1 = false) :
    Completes .powerWindow s fun t => t.rdF dmpg 0x088 15 0 = s.derateW ∧ t.rdF dmpg 0x088 31 16 = min (s.rdF dmpg 0x080 15 0) (t.rdF dmpg 0x088 15 0)
      ∧ t.rim.winEt = s.et ∧ t.mem = s.mem ∧ t.bricks = s.bricks := by
  obtain ⟨l, v, en, answers⟩ := powerWindow_form due unarmed unarmed'
  obtain ⟨eff, cap, mem, bricks, et, -⟩ := s.derate_sets unarmed'
  have bids := s.derate.bids_awarding ((s.et - s.rim.winEt) / 156250)
  have awards := foldl_keeps (fun t : State => State.Awarding (((s.derate.bids ((s.et - s.rim.winEt) / 156250)).1.wrF dmpg 0x088 31 16 s.derate.capEff).wr dmpg 0x090 v) t)
    (fun s x => s.award false x.1 x.2) (l := l) (fun t x _ held => held.trans (t.award_awarding false x.1 x.2)) .refl
  have shown : ((l.foldl (fun s x => s.award false x.1 x.2)
      (((s.derate.bids ((s.et - s.rim.winEt) / 156250)).1.wrF dmpg 0x088 31 16 s.derate.capEff).wr dmpg 0x090 v)).windowClosed en).rd dmpg 0x088
      = setFld (s.derate.rd dmpg 0x088) 31 16 s.derate.capEff := by
    rw [State.windowClosed_rd, awards.eff, State.rd_wr_off _ _ (by decide), State.wrF, State.rd_wr_self, bids.eff]
  have derated : fld (setFld (s.derate.rd dmpg 0x088) 31 16 s.derate.capEff) 15 0 = s.derateW :=
    (fld_setFld_ne _ (by decide) (by decide)).trans eff
  have capEff : s.derate.capEff = min (s.rdF dmpg 0x080 15 0) s.derateW := by rw [State.capEff, eff, State.rdF, cap]; rfl
  have fits : s.derate.capEff < 2 ^ 16 := by rw [capEff]; exact lt_of_le_of_lt (min_le_right ..) s.derateW_lt
  refine ⟨_, answers, (congrArg (fun x => fld x 15 0) shown).trans derated, ?_, ?_, ?_, ?_⟩
  · simp only [State.rdF, shown, derated]
    rw [fld_setFld _ (by decide) fits, capEff]
    rfl
  · rw [State.windowClosed_winEt, awards.et, State.wr_et, State.wrF_et, bids.et, et]
  · rw [State.windowClosed_mem, awards.mem, State.wr_mem, State.wrF_mem, bids.mem, mem]
  · rw [State.windowClosed_bricks, awards.bricks, State.wr_bricks, State.wrF_bricks, bids.bricks, bricks]

theorem powerWindow_waits (early : s.et < s.rim.winEt + 156250) (_ordered : s.rim.winEt ≤ s.et) : exec .powerWindow s = .next s :=
  if_pos (Nat.div_eq_of_lt (by omega))

end

/-! ### The throttle handed to a Suite (R497) -/

theorem damper_throttles {s : State} {i th : Nat} {u : Suite} (hi : i < 64) (defined : s.suite i = some u) {w : W64} (hw : w = s.rd dmpg (0x408 + 16 * i))
    (hth : th = if fld w 63 61 = 3 then 64 else if fld w 63 61 = 2 then fld w 57 52 else 0) :
    exec (.damper i) s = .next (s.setSuite i { u with theta := th, budNext := if u.theta = th then u.budNext else u.clk }) := by
  subst hw hth
  rw [← s.modSuite_of (fun u => { u with
    theta := if fld (s.rd dmpg (0x408 + 16 * i)) 63 61 = 3 then 64 else if fld (s.rd dmpg (0x408 + 16 * i)) 63 61 = 2 then fld (s.rd dmpg (0x408 + 16 * i)) 57 52 else 0
    budNext := if u.theta = (if fld (s.rd dmpg (0x408 + 16 * i)) 63 61 = 3 then 64 else if fld (s.rd dmpg (0x408 + 16 * i)) 63 61 = 2
      then fld (s.rd dmpg (0x408 + 16 * i)) 57 52 else 0) then u.budNext else u.clk }) defined]
  change execDamper i s = _
  rw [execDamper, Nat.mod_eq_of_lt hi]

theorem damper_idle {s : State} {i : Nat} (undefined : s.suite i = none) : exec (.damper i) s = .next s := by
  change execDamper i s = _
  rw [execDamper, State.modSuite, undefined]

/-! ### A thermal sample (R504, R505, R509, R529) -/

/-- A Room's sample kept, and the highest of its samples. -/
def State.thermSampled (s : State) (room : Nat) (temp : Int) : State :=
  s.wr (pwr room) 0x090 (put 15 0 (unsgn 16 temp) ||| put 31 16 (unsgn 16 (max (sgn 16 (s.rdF (pwr room) 0x090 31 16)) temp)))

theorem State.thermSampled_thr (s : State) (room : Nat) (temp : Int) : (s.thermSampled room temp).rdF dmpg 0x098 7 0 = s.rdF dmpg 0x098 7 0 :=
  congrArg (fun x => fld x 7 0) (s.rd_wr_key _ regKey_offs)

/-- The Suite whose throttle a Room's sample may move. -/
def State.sampleSuite (s : State) (room : Nat) : Option Nat := if room < 0x8000 then s.suiteOf room else none

section
variable {s : State} {room phys w : Nat} {temp : Int} (low : -32768 ≤ temp) (high : temp < 32768)
  (hphys : phys = if room < 0x8000 then s.physOf room else room - 0x8000) (hw : w = physWing phys)
  (unarmedR : s.isArmed (dmpw w) 2 = false) (unarmedT : s.isArmed (dmpw w) 3 = false)
include low high hphys hw unarmedR unarmedT

theorem thermalSample_answers : exec (.thermalSample room temp) s
    = .next (match s.sampleSuite room with
      | some i => (if 1760 ≤ temp ∧ (s.pwrState room = 1 ∨ s.pwrState room = 2) then (s.thermSampled room temp).thermalTrip room w phys false else s.thermSampled room temp).thermUpdate
        i false
      | none => if 1760 ≤ temp ∧ (s.pwrState room = 1 ∨ s.pwrState room = 2) then (s.thermSampled room temp).thermalTrip room w phys false else s.thermSampled room temp) := by
  have top : max (sgn 16 (s.rdF (pwr room) 0x090 31 16)) temp = if sgn 16 (fld (s.rd (pwr room) 0x090) 31 16) < temp then temp
      else sgn 16 (fld (s.rd (pwr room) 0x090) 31 16) := by
    rw [State.rdF]
    split <;> omega
  have state : (s.thermSampled room temp).pwrState room = s.pwrState room := congrArg (fun w => fld w 63 61) (s.rd_wr_off _ (by decide))
  rw [← state, State.thermSampled, top]
  subst hw
  subst hphys
  change execThermalSample room temp s = _
  unfold execThermalSample
  simp only [unarmedR, unarmedT, Bool.and_false, Bool.false_and, Bool.false_eq_true, if_false, sgn_unsgn (w := 16) (by decide) low high]
  rfl

end

section
variable {s : State} {i : Nat} {u : Suite}

/-- The throttle of a cool Suite that is not throttled stays off. -/
theorem State.thermUpdate_cool (defined : s.suite i = some u) (cool : (s.hottest u).1 < 16 * (s.rdF dmpg 0x098 7 0 : Int)) (off : u.thermOn = false) :
    s.thermUpdate i false = (s.setSuite i { u with thermPer := 0, thetaT := 0 }).wrF dmpg (0x408 + 16 * i) 51 48 0 := by
  have same : ({ u with thermOn := false, thermPer := 0, thetaT := 0 } : Suite) = { u with thermPer := 0, thetaT := 0 } := by
    cases u
    simp_all
  have below : ¬ 16 * (s.rdF dmpg 0x098 7 0 : Int) ≤ (s.hottest u).1 := by omega
  rw [← same]
  unfold State.thermUpdate
  simp only [defined, off, below, decide_false, Bool.and_false, Bool.false_and, Bool.or_false, Bool.not_false, Bool.false_eq_true, if_false, true_or, if_true]

/-- The Suite as it is throttled. -/
def State.thermSuite (s : State) (u : Suite) : Suite :=
  let th := s.hottest u
  let thr : Int := 16 * (s.rdF dmpg 0x098 7 0 : Int)
  let band := 16 * max 1 (s.rdF dmpg 0x098 15 8)
  let tlen := s.rdF dmpg 0x098 31 16
  let ovr := (th.1 - thr).toNat
  { u with
    thermOn := true
    thermPer := if ovr = 0 then 0 else if 9 * band ≤ 10 * ovr then ceilDiv (10 * tlen) 9 else ceilDiv (tlen * band) ovr
    thetaT := min 9 (10 * ovr / band)
    thermNext := if u.thermOn then u.thermNext else u.clk }

theorem State.thermUpdate_hot (defined : s.suite i = some u) (hot : 16 * (s.rdF dmpg 0x098 7 0 : Int) ≤ (s.hottest u).1) :
    s.thermUpdate i false = if u.thermOn then (s.setSuite i (s.thermSuite u)).wrF dmpg (0x408 + 16 * i) 51 48 (s.thermSuite u).thetaT
      else ((s.setSuite i (s.thermSuite u)).wrF dmpg (0x408 + 16 * i) 51 48 (s.thermSuite u).thetaT).dmpwEvent (s.wingOf (s.hottest u).2) 2 0x12
        (s.physOf (s.hottest u).2) false := by
  unfold State.thermUpdate State.thermSuite
  cases on : u.thermOn
  · simp only [defined, on, hot, decide_true, Bool.true_or, Bool.not_true, Bool.not_false, Bool.true_and, Bool.false_eq_true, if_false, if_true, false_or]
    rfl
  · simp only [defined, on, hot, decide_true, Bool.true_or, Bool.not_true, Bool.true_and, Bool.false_and, Bool.false_eq_true, if_false, if_true, false_or]

@[simp] theorem State.dmpwEvent_mem (s : State) (w bit cause phys : Nat) (inj : Bool) : (s.dmpwEvent w bit cause phys inj).mem = s.mem := by simp [State.dmpwEvent]
@[simp] theorem State.dmpwEvent_bricks (s : State) (w bit cause phys : Nat) (inj : Bool) : (s.dmpwEvent w bit cause phys inj).bricks = s.bricks := by
  simp [State.dmpwEvent]
@[simp] theorem State.dmpwEvent_suite (s : State) (w bit cause phys : Nat) (inj : Bool) (i : Nat) : (s.dmpwEvent w bit cause phys inj).suite i = s.suite i := by
  simp [State.dmpwEvent]

theorem State.dmpwEvent_sets (s : State) (w cause phys : Nat) {bit : Nat} {inj : Bool} (hb : bit < 64) :
    tst ((s.dmpwEvent w bit cause phys inj).rd (dmpw w) 0x028) bit = true := State.raise_sets _ _ rfl hb

theorem State.dmpwEvent_rd (s : State) {w bit cause phys : Nat} {inj : Bool} {q : PageRef} {o : Nat} (ho : o < 4096 := by decide) (h1 : o ≠ 0x028 := by decide)
    (h2 : o ≠ 0x040 := by decide) (h3 : o ≠ 0x098 := by decide) : (s.dmpwEvent w bit cause phys inj).rd q o = s.rd q o := by
  rw [State.dmpwEvent, State.raise_rd _ _ (regKey_offs ho (by decide) h1) (regKey_offs ho (by decide) h2), State.capture_rd_key _ _ (regKey_offs ho (by decide) h3)]

/-- An event of one Wing keeps the bits that another, or the same, has raised. -/
theorem State.dmpwEvent_keeps (s : State) {w v bit cause phys i : Nat} {inj : Bool} (h : tst (s.rd (dmpw v) 0x028) i = true) :
    tst ((s.dmpwEvent w bit cause phys inj).rd (dmpw v) 0x028) i = true := by
  have captured : (s.capture (dmpw w) 0x098 (put 63 56 cause ||| put 46 32 phys)).rd (dmpw v) 0x028 = s.rd (dmpw v) 0x028 := State.capture_rd_key _ _ regKey_offs
  by_cases same : v = w
  · subst same
    exact State.raise_keeps _ _ (by rw [captured]; exact h)
  · have latch : regKey (dmpw v) 0x028 ≠ regKey (dmpw w) 0x028 := regKey_insts same
    have count : regKey (dmpw v) 0x028 ≠ regKey (dmpw w) 0x040 := regKey_insts same
    have rd : (s.dmpwEvent w bit cause phys inj).rd (dmpw v) 0x028 = s.rd (dmpw v) 0x028 := by rw [State.dmpwEvent, State.raise_rd _ _ latch count, captured]
    rw [rd]
    exact h

/-! ### A trip (R505, R522) -/

theorem State.setDrops_keeps (s : State) (w : Nat) : s.RegsOnly (s.setDrops w) := State.regsOnly_foldl (fun _ _ => ⟨rfl⟩) s (s.wingRooms w)

theorem State.setDrops_rd (s : State) (w : Nat) {q : PageRef} {o : Nat} (ho : o < 4096) (h : o ≠ 0x088) : (s.setDrops w).rd q o = s.rd q o :=
  foldl_keeps (fun t : State => t.rd q o = s.rd q o) _ (fun t r _ held => (t.rd_wr_key _ (regKey_offs ho (by decide) h)).trans held) rfl

theorem State.moveRail_rd (s : State) (w rate : Nat) {q : PageRef} {o : Nat} (ho : o < 4096 := by decide) (h : o ≠ 0x088 := by decide) :
    (s.moveRail w rate).rd q o = s.rd q o := by
  have named (v : Nat) : (s.wrF (pwrw w) 0x088 15 0 v).rd q o = s.rd q o := s.rd_wr_key _ (regKey_offs ho (by decide) h)
  unfold State.moveRail
  dsimp only
  split
  · rw [State.setDrops_rd _ _ ho h, named]
  · exact named _

@[simp] theorem State.moveRail_mem (s : State) (w rate : Nat) : (s.moveRail w rate).mem = s.mem := by
  unfold State.moveRail
  dsimp only
  split
  · exact (State.setDrops_keeps _ w).mem
  · rfl

@[simp] theorem State.moveRail_bricks (s : State) (w rate : Nat) : (s.moveRail w rate).bricks = s.bricks := by
  unfold State.moveRail
  dsimp only
  split
  · exact (State.setDrops_keeps _ w).bricks
  · rfl

theorem State.roomOpen_shows (s : State) (room : Nat) {st : Nat} (hst : st < 8) : (s.roomOpen room st).pwrState room = st := by
  rw [State.pwrState, State.roomOpen, State.rdF, State.rd_wr_self, fld_put _ (by decide) hst]

/-- A Room that only ramps opens without the loss of what it holds. -/
theorem State.roomOpen_ramp (s : State) {room : Nat} (st : Nat) (ramps : s.pwrState room = 1) : (s.roomOpen room st).mem = s.mem ∧ (s.roomOpen room st).bricks = s.bricks := by
  rw [State.roomOpen, ramps, if_neg (by decide)]
  exact ⟨State.wr_mem .., State.wr_bricks ..⟩

/-- A trip up to its event and count, before a loaded Suite is halted. -/
def State.tripped (s : State) (room w phys : Nat) : State :=
  let t := (s.roomOpen room 3).srvCount phys 48
  ((t.moveRail w (t.railRate w)).dmpwEvent w 3 0x13 phys false).bump (dmpw w) 0x090 15 0 1

theorem State.tripped_rd (s : State) (room w phys : Nat) : (s.tripped room w phys).rd (pwr room) 0x080 = (s.roomOpen room 3).rd (pwr room) 0x080 := by
  rw [State.tripped, State.bump, State.rd_wr_key _ _ regKey_offs, State.dmpwEvent_rd, State.moveRail_rd]
  rfl

theorem State.tripped_event (s : State) (room w phys : Nat) : tst ((s.tripped room w phys).rd (dmpw w) 0x028) 3 = true := by
  rw [State.tripped, State.rd_bump_off _ _ _ _ (by decide)]
  exact State.dmpwEvent_sets _ w 0x13 phys (by decide)

theorem State.tripped_keeps (s : State) (room w phys : Nat) :
    (s.tripped room w phys).mem = (s.roomOpen room 3).mem ∧ (s.tripped room w phys).bricks = (s.roomOpen room 3).bricks := by
  simp [State.tripped, State.srvCount]

theorem State.thermalTrip_form (s : State) (room w phys : Nat) :
    (∃ su d code, s.thermalTrip room w phys false = ((s.tripped room w phys).record (dmpw w) 0x13 1 false false true su noRef d).sendHalt su room 15 code)
    ∨ s.thermalTrip room w phys false = s.tripped room w phys :=
  (ite_eq_or_eq _ _ _).imp_left fun halts => ⟨_, _, _, halts⟩

/-- A trip leaves its Room TRIPPED and its Wing's event, whatever becomes of its Suite. -/
theorem State.thermalTrip_trips (s : State) (room w phys : Nat) : (s.thermalTrip room w phys false).rd (pwr room) 0x080 = (s.roomOpen room 3).rd (pwr room) 0x080
    ∧ tst ((s.thermalTrip room w phys false).rd (dmpw w) 0x028) 3 = true ∧ (s.thermalTrip room w phys false).mem = (s.roomOpen room 3).mem
    ∧ (s.thermalTrip room w phys false).bricks = (s.roomOpen room 3).bricks := by
  have state := s.tripped_rd room w phys
  have event := s.tripped_event room w phys
  obtain ⟨mem, bricks⟩ := s.tripped_keeps room w phys
  rcases s.thermalTrip_form room w phys with ⟨su, d, code, form⟩ | form
  · rw [form]
    simp only [State.sendHalt_rd, State.record_rd, State.sendHalt_mem, State.record_mem, State.sendHalt_bricks, State.record_bricks]
    exact ⟨state, event, mem, bricks⟩
  · rw [form]
    exact ⟨state, event, mem, bricks⟩

/-- The throttle's update keeps the Rooms' power, memory and the events raised. -/
theorem State.thermUpdate_keeps (s : State) {i : Nat} (hi : i < 64) (room w : Nat) : (s.thermUpdate i false).rd (pwr room) 0x080 = s.rd (pwr room) 0x080
    ∧ (tst (s.rd (dmpw w) 0x028) 3 = true → tst ((s.thermUpdate i false).rd (dmpw w) 0x028) 3 = true) ∧ (s.thermUpdate i false).mem = s.mem
    ∧ (s.thermUpdate i false).bricks = s.bricks := by
  have shown (u : Suite) (v : Nat) (q : PageRef) {o : Nat} (ho : o < 0x400) : ((s.setSuite i u).wrF dmpg (0x408 + 16 * i) 51 48 v).rd q o = s.rd q o :=
    State.rd_wr_key _ _ (regKey_offs (by omega) (by omega) (by omega))
  unfold State.thermUpdate
  split
  · exact ⟨rfl, id, rfl, rfl⟩
  · dsimp only
    split
    · refine ⟨by rw [State.dmpwEvent_rd, shown _ _ _ (by decide)], fun event => State.dmpwEvent_keeps _ ?_, by rw [State.dmpwEvent_mem]; rfl,
        by rw [State.dmpwEvent_bricks]; rfl⟩
      rw [shown _ _ _ (by decide)]
      exact event
    · exact ⟨shown _ _ _ (by decide), fun event => by rw [shown _ _ _ (by decide)]; exact event, rfl, rfl⟩

end

/-! ### The samples of Rooms within their limits, and of those that trip -/

section
variable {s t : State} {room phys w : Nat} {temp : Int} (low : -32768 ≤ temp) (high : temp < 32768)
  (hphys : phys = if room < 0x8000 then s.physOf room else room - 0x8000) (hw : w = physWing phys)
  (unarmedR : s.isArmed (dmpw w) 2 = false) (unarmedT : s.isArmed (dmpw w) 3 = false) (sampled : t = s.thermSampled room temp)
include low high hphys hw unarmedR unarmedT sampled

theorem thermalSample_alone (safe : temp < 1760 ∨ (s.pwrState room ≠ 1 ∧ s.pwrState room ≠ 2)) (alone : 0x8000 ≤ room ∨ s.suiteOf room = none) :
    exec (.thermalSample room temp) s = .next t := by
  have none : s.sampleSuite room = none := by
    unfold State.sampleSuite
    split
    · exact alone.resolve_left (by omega)
    · rfl
  rw [thermalSample_answers low high hphys hw unarmedR unarmedT, none, sampled]
  exact congrArg _ (if_neg (by omega))

variable {i : Nat} {u : Suite} (hi : i < 64) (hr : room < 0x8000) (owned : s.suiteOf room = some i) (defined : s.suite i = some u)

theorem thermalSample_updates (safe : temp < 1760 ∨ (s.pwrState room ≠ 1 ∧ s.pwrState room ≠ 2)) (hr : room < 0x8000) (owned : s.suiteOf room = some i) :
    exec (.thermalSample room temp) s = .next (t.thermUpdate i false) := by
  have suite : s.sampleSuite room = some i := (if_pos hr).trans owned
  rw [thermalSample_answers low high hphys hw unarmedR unarmedT, suite, sampled]
  dsimp only
  rw [if_neg (by omega)]

include hi hr owned defined

theorem thermalSample_cool (safe : temp < 1760 ∨ (s.pwrState room ≠ 1 ∧ s.pwrState room ≠ 2)) (cool : (t.hottest u).1 < 16 * (s.rdF dmpg 0x098 7 0 : Int))
    (off : u.thermOn = false) : Completes (.thermalSample room temp) s fun r => r.suite i = some { u with thermPer := 0, thetaT := 0 } ∧ r.mem = s.mem
      ∧ r.bricks = s.bricks ∧ r.rdF dmpg (0x408 + 16 * i) 51 48 = 0 ∧ ∀ q o, q.inst < 2 ^ 20 → o < 4096 → q ≠ dmpg → r.rd q o = t.rd q o := by
  have thr : t.rdF dmpg 0x098 7 0 = s.rdF dmpg 0x098 7 0 := by rw [sampled, State.thermSampled_thr]
  have defined' : t.suite i = some u := by rw [sampled]; exact defined
  have answers := thermalSample_updates low high hphys hw unarmedR unarmedT sampled safe hr owned
  rw [State.thermUpdate_cool defined' (by rw [thr]; exact cool) off] at answers
  refine ⟨_, answers, State.suite_setSuite .., ?_, ?_, State.rdF_wrF_self _ _ _ (by decide) (by decide), fun q o hq ho ne => ?_⟩
  · rw [sampled]; rfl
  · rw [sampled]; rfl
  · exact State.rd_wr_key _ _ (regKey_page hq (by decide) ho (by omega) ne)

omit hi in
theorem thermalSample_hot (safe : temp < 1760 ∨ (s.pwrState room ≠ 1 ∧ s.pwrState room ≠ 2)) (hot : 16 * (s.rdF dmpg 0x098 7 0 : Int) ≤ (t.hottest u).1) :
    Completes (.thermalSample room temp) s fun r => (∃ u', r.suite i = some u' ∧ u'.thermOn = true ∧ u'.theta = u.theta ∧ u'.run = u.run) ∧ r.mem = s.mem
      ∧ (u.thermOn = false → s.wingOf (t.hottest u).2 < 2 ^ 20 → tst (r.rd (dmpw (s.wingOf (t.hottest u).2)) 0x028) 2 = true) := by
  have thr : t.rdF dmpg 0x098 7 0 = s.rdF dmpg 0x098 7 0 := by rw [sampled, State.thermSampled_thr]
  have defined' : t.suite i = some u := by rw [sampled]; exact defined
  have wing : t.wingOf (t.hottest u).2 = s.wingOf (t.hottest u).2 := by rw [sampled]; rfl
  have mem : t.mem = s.mem := by rw [sampled]; rfl
  have answers := thermalSample_updates low high hphys hw unarmedR unarmedT sampled safe hr owned
  rw [State.thermUpdate_hot defined' (by rw [thr]; exact hot), wing] at answers
  by_cases on : u.thermOn = true
  · rw [if_pos on] at answers
    exact ⟨_, answers, ⟨t.thermSuite u, State.suite_setSuite .., rfl, rfl, rfl⟩, mem, fun off => by rw [on] at off; cases off⟩
  · rw [if_neg on] at answers
    exact ⟨_, answers, ⟨t.thermSuite u, by rw [State.dmpwEvent_suite]; exact State.suite_setSuite .., rfl, rfl, rfl⟩, by rw [State.dmpwEvent_mem]; exact mem,
      fun _ _ => State.dmpwEvent_sets _ _ _ _ (by decide)⟩

omit hi hr owned defined in
theorem thermalSample_trips (hot : 1760 ≤ temp) (up : s.pwrState room = 1 ∨ s.pwrState room = 2) (small : ∀ i, s.suiteOf room = some i → i < 64) :
    Completes (.thermalSample room temp) s fun r => r.pwrState room = 3 ∧ tst (r.rd (dmpw w) 0x028) 3 = true
      ∧ (s.pwrState room = 1 → r.mem = s.mem ∧ r.bricks = s.bricks) := by
  have answers := thermalSample_answers low high hphys hw unarmedR unarmedT
  rw [if_pos ⟨hot, up⟩, ← sampled] at answers
  obtain ⟨state, event, mem, bricks⟩ := t.thermalTrip_trips room w phys
  have off : (t.thermalTrip room w phys false).pwrState room = 3 := (congrArg (fun x => fld x 63 61) state).trans (t.roomOpen_shows room (by decide))
  have kept : s.pwrState room = 1 → (t.thermalTrip room w phys false).mem = s.mem ∧ (t.thermalTrip room w phys false).bricks = s.bricks := fun ramps => by
    have ramps' : t.pwrState room = 1 := by
      rw [sampled]
      exact (congrArg (fun x => fld x 63 61) (s.rd_wr_off _ (by decide))).trans ramps
    obtain ⟨keep_mem, keep_bricks⟩ := t.roomOpen_ramp 3 ramps'
    rw [mem, keep_mem, bricks, keep_bricks, sampled]
    exact ⟨rfl, rfl⟩
  cases owner : s.sampleSuite room with
  | none =>
    rw [owner] at answers
    exact ⟨_, answers, off, event, kept⟩
  | some i =>
    rw [owner] at answers
    have hi : i < 64 := by
      unfold State.sampleSuite at owner
      split at owner
      · exact small i owner
      · cases owner
    obtain ⟨keep_state, keep_event, keep_mem, keep_bricks⟩ := (t.thermalTrip room w phys false).thermUpdate_keeps hi room w
    exact ⟨_, answers, (congrArg (fun x => fld x 63 61) keep_state).trans off, keep_event event,
      fun ramps => ⟨keep_mem.trans (kept ramps).1, keep_bricks.trans (kept ramps).2⟩⟩

end

/-- Settles O31. The bids and awards of a window leave the derating that it set; a sample moves the throttle of its Room's Suite after any trip. That the
throttle's event goes to the Wing of the hottest Room, and the Damper's tick, are the model's choices (log entries 69, 72). -/
theorem damperPowerAndHeat : Obligations.DamperPowerAndHeat := by
  unfold Obligations.DamperPowerAndHeat
  refine ⟨fun s v => ⟨capWrite_takes, capWrite_refused, fun i hi t written => ⟨suiteBudgetWrite_takes hi written, suiteBudgetWrite_refused hi written⟩,
    powerWindow_sets, powerWindow_waits, fun i u w th hi defined hw hth => damper_throttles hi defined hw hth, fun i => damper_idle⟩,
    fun s room phys w temp t hr _ low high hphys hw unarmedR unarmedT sampled => ⟨fun safe => ⟨fun i u hi hroom owned defined cool off => ?_,
      fun i u hi hroom owned defined hot => ?_, thermalSample_alone low high hphys hw unarmedR unarmedT sampled safe⟩,
      thermalSample_trips low high hphys hw unarmedR unarmedT sampled⟩⟩
  · exact thermalSample_cool low high hphys hw unarmedR unarmedT sampled hi hroom owned defined safe cool off
  · exact thermalSample_hot low high hphys hw unarmedR unarmedT sampled hroom owned defined safe hot

end Sys2Proof.Machine

/-! ## The silent-error defence (O52): watchdogs, inspections, self-tests, incident records and strikes -/

namespace Sys2Proof.Machine

/-! ### Events of the CVUG page (R434, R436) -/

section
variable (s : State) (bit cause suite phys : Nat) (inj : Bool)

theorem State.cvugEvent_sets {bit : Nat} (hb : bit < 64) : tst ((s.cvugEvent bit cause suite phys inj).rd cvug 0x028) bit = true := State.raise_sets _ _ rfl hb

theorem State.cvugEvent_keeps {i : Nat} (h : tst (s.rd cvug 0x028) i = true) : tst ((s.cvugEvent bit cause suite phys inj).rd cvug 0x028) i = true :=
  State.raise_keeps _ _ (by rw [State.capture_rd_off _ _ (by decide)]; exact h)

theorem State.cvugEvent_rd {o : Nat} (h1 : o ≠ 0x028 := by decide) (h2 : o ≠ 0x040 := by decide) (h3 : o ≠ 0x0C8 := by decide) :
    (s.cvugEvent bit cause suite phys inj).rd cvug o = s.rd cvug o := by
  rw [State.cvugEvent, State.raise_rd_off _ _ h1 h2, State.capture_rd_off _ _ h3]

@[simp] theorem State.cvugEvent_mem : (s.cvugEvent bit cause suite phys inj).mem = s.mem := by simp [State.cvugEvent]
@[simp] theorem State.cvugEvent_rim : (s.cvugEvent bit cause suite phys inj).rim = s.rim := by simp [State.cvugEvent]
@[simp] theorem State.cvugEvent_flying : (s.cvugEvent bit cause suite phys inj).flying = s.flying := by simp [State.cvugEvent]
@[simp] theorem State.cvugEvent_collector : (s.cvugEvent bit cause suite phys inj).collector = s.collector := by simp [State.cvugEvent]
@[simp] theorem State.cvugEvent_incSeq : (s.cvugEvent bit cause suite phys inj).incSeq = s.incSeq := by simp [State.cvugEvent]
@[simp] theorem State.cvugEvent_et : (s.cvugEvent bit cause suite phys inj).et = s.et := by simp [State.cvugEvent]
@[simp] theorem State.cvugEvent_remap : (s.cvugEvent bit cause suite phys inj).remap = s.remap := by simp [State.cvugEvent]

end

/-- A record is added last to those on their way. -/
theorem State.record_adds (s : State) (p : PageRef) (cause kind : Nat) (inj hand halt : Bool) (suite ref : Nat) (detail : W64) :
    ∃ r, (s.record p cause kind inj hand halt suite ref detail).flying = s.flying ++ [r] ∧ r.code = p.page.cls * 256 + cause ∧ r.kind = kind ∧ r.ref = ref ∧ r.halt = halt :=
  ⟨_, rfl, rfl, rfl, rfl, rfl⟩

/-! ### The progress watchdog (R417) -/

section
variable {s : State} {i : Nat} {u : Suite}

theorem suiteNoProgress_answers (hi : i < 64) : exec (.suiteNoProgress i) s = .next (match s.suite i with
    | some u => if u.run = 2 ∧ s.rdF cvug 0x0A0 15 0 ≠ 0 ∧ 25000 * u.rate * s.rdF cvug 0x0A0 15 0 ≤ u.prog then s.noProgress i false else s
    | none => s) := by
  change execSuiteNoProgress i s = _
  unfold execSuiteNoProgress
  rw [Nat.mod_eq_of_lt hi] <;> rfl

theorem suiteNoProgress_off (hi : i < 64) (h : s.suite i = none ∨ s.rdF cvug 0x0A0 15 0 = 0) : exec (.suiteNoProgress i) s = .next s := by
  rw [suiteNoProgress_answers hi]
  split
  · next u defined =>
    rw [if_neg]
    rintro ⟨-, counted, -⟩
    exact counted (h.resolve_left (by rw [defined]; exact Option.some_ne_none u))
  · rfl

theorem suiteNoProgress_counts (hi : i < 64) (defined : s.suite i = some u) (h : u.run ≠ 2 ∨ u.prog < 25000 * u.rate * s.rdF cvug 0x0A0 15 0) :
    exec (.suiteNoProgress i) s = .next s := by
  rw [suiteNoProgress_answers hi, defined]
  dsimp only
  rw [if_neg]
  rintro ⟨runs, -, long⟩
  exact h.elim (absurd runs) (Nat.not_lt.mpr long)

/-- The watchdog's event and bit, before the record and the halt. -/
def State.progressLost (s : State) (i : Nat) (inj : Bool) : State := (s.cvugEvent 2 0x12 i 0 inj).wr cvug 0x0A8 (setBit ((s.cvugEvent 2 0x12 i 0 inj).rd cvug 0x0A8) i)

theorem State.noProgress_of (inj : Bool) (defined : s.suite i = some u) : s.noProgress i inj
    = ((((s.progressLost i inj).record cvug 0x12 1 inj false true i noRef ((s.progressLost i inj).rd cvug 0x0C8)).modSuite i fun u => { u with prog := 0 }).sendHalt i u.lead 15
      (Page.cvug.cls * 256 + 0x12)) := by
  rw [State.noProgress, defined]
  rfl

theorem suiteNoProgress_trips (hi : i < 64) (defined : s.suite i = some u) (runs : u.run = 2) (counted : s.rdF cvug 0x0A0 15 0 ≠ 0)
    (long : 25000 * u.rate * s.rdF cvug 0x0A0 15 0 ≤ u.prog) : Completes (.suiteNoProgress i) s fun t =>
      tst (t.rd cvug 0x028) 2 = true ∧ tst (t.rd cvug 0x0A8) i = true ∧ (∃ r, r ∈ t.flying ∧ r.code = Page.cvug.cls * 256 + 0x12) ∧ t.mem = s.mem := by
  have answers := suiteNoProgress_answers (s := s) hi
  rw [defined] at answers
  dsimp only at answers
  rw [if_pos ⟨runs, counted, long⟩, State.noProgress_of false defined] at answers
  refine ⟨_, answers, ?_, ?_, ?_, ?_⟩
  · rw [State.sendHalt_rd, State.modSuite_rd, State.record_rd, State.progressLost, State.rd_wr_off _ _ (by decide)]
    exact State.cvugEvent_sets s _ _ _ _ (by decide)
  · rw [State.sendHalt_rd, State.modSuite_rd, State.record_rd, State.progressLost, State.rd_wr_self]
    exact tst_setBit _ (by omega)
  · obtain ⟨r, adds, code, -⟩ := (s.progressLost i false).record_adds cvug 0x12 1 false false true i noRef ((s.progressLost i false).rd cvug 0x0C8)
    rw [State.sendHalt_flying, State.modSuite_flying, adds]
    exact ⟨r, List.mem_append_right _ List.mem_cons_self, code⟩
  · simp [State.progressLost]

end

/-! ### Inspection windows (R420, R421, R475) -/

/-- A Room's window found clean. -/
def State.inspClean (s : State) (phys : Nat) : State := { s with rim := { s.rim with clean := smSet 0 s.rim.clean phys s.et } }

/-- One Room of a window judged. -/
def State.judge (i lead : Nat) (fails : List Nat) (s : State) (e : Nat × Nat) : State :=
  if fails.contains e.1 then s.inspFail i lead (s.physOf e.2) false else s.inspClean (s.physOf e.2)

/-- The Rooms of a Suite that a window of a group inspects, with their indices. -/
def State.windowRooms (s : State) (u : Suite) (g : Nat) : List (Nat × Nat) :=
  ((List.range u.rooms.length).zip u.rooms).filter fun e => decide (rotGroup (s.physOf e.2) = g)

/-- A window's Rooms judged, with its group moved on. -/
def State.windowJudged (s : State) (i : Nat) (u : Suite) (fails : List Nat) : State :=
  (s.windowRooms u (s.rdF cvug (0x400 + 8 * i) 5 0)).foldl (State.judge i u.lead fails)
    (s.wr cvug (0x400 + 8 * i) (put 63 32 (s.rdF cvug (0x400 + 8 * i) 63 32 + 1) ||| put 5 0 (s.rdF cvug (0x400 + 8 * i) 5 0 + 1)))

theorem State.mem_windowRooms {s : State} {u : Suite} {g k r : Nat} (named : u.rooms[k]? = some r) (group : rotGroup (s.physOf r) = g) : (k, r) ∈ s.windowRooms u g := by
  refine List.mem_filter.mpr ⟨?_, decide_eq_true group⟩
  obtain ⟨hk, rfl⟩ := List.getElem?_eq_some_iff.mp named
  refine List.mem_iff_getElem.mpr ⟨k, by simpa using hk, ?_⟩
  rw [List.getElem_zip, List.getElem_range]

section
variable {s t : State} {i : Nat} {u : Suite} {fails : List Nat}

theorem inspectionWindowEnd_undefined (hi : i < 64) (undefined : s.suite i = none) : exec (.inspectionWindowEnd i fails) s = .next s := by
  change execInspectionWindowEnd i fails s = _
  unfold execInspectionWindowEnd
  rw [Nat.mod_eq_of_lt hi]
  dsimp only
  rw [undefined]

theorem inspectionWindowEnd_early (hi : i < 64) (defined : s.suite i = some u) (h : u.sweep.st ≠ 5 ∨ s.et < u.sweep.et0 + usToEt (s.rdF cvug 0x080 47 32)) :
    exec (.inspectionWindowEnd i fails) s = .next s := by
  change execInspectionWindowEnd i fails s = _
  unfold execInspectionWindowEnd
  rw [Nat.mod_eq_of_lt hi]
  dsimp only
  rw [defined]
  exact if_pos h

variable (hi : i < 64) (defined : s.suite i = some u) (window : u.sweep.st = 5) (due : u.sweep.et0 + usToEt (s.rdF cvug 0x080 47 32) ≤ s.et) (same : s.rim.inspNew = none)
include hi defined window due same

theorem inspectionWindowEnd_empty (h : tst (s.rd cvug 0x080) 63 = false ∨ s.rim.insp = none) : exec (.inspectionWindowEnd i fails) s = .next (s.sweepRelease i) := by
  change execInspectionWindowEnd i fails s = _
  unfold execInspectionWindowEnd
  rw [Nat.mod_eq_of_lt hi]
  dsimp only
  rw [defined]
  dsimp only
  rw [if_neg (by omega), same]
  exact if_pos (h.imp_left fun off => by rw [off]; rfl)

theorem inspectionWindowEnd_judges (on : tst (s.rd cvug 0x080) 63 = true) (set : s.rim.insp ≠ none) (unarmed : s.isArmed cvug 0 = false) :
    exec (.inspectionWindowEnd i fails) s
      = .next (if (s.windowRooms u (s.rdF cvug (0x400 + 8 * i) 5 0)).any (fun e => fails.contains e.1) = true
        then (s.windowJudged i u fails).modSuite i fun u => { u with sweep := { u.sweep with st := 6 } } else (s.windowJudged i u fails).sweepRelease i) := by
  have runs : ¬ ((!tst (s.rd cvug 0x080) 63) = true ∨ s.rim.insp = none) := by rw [on]; simp [set]
  change execInspectionWindowEnd i fails s = _
  unfold execInspectionWindowEnd
  rw [Nat.mod_eq_of_lt hi]
  dsimp only
  rw [defined]
  dsimp only
  rw [if_neg (by omega), same]
  dsimp only
  rw [if_neg runs]
  simp only [unarmed, Bool.false_and, Bool.or_false, Bool.false_eq_true, if_false]
  rfl

end

/-- What judging a Room leaves: time, the remap, memory and the group. -/
structure State.Judging (s t : State) : Prop where
  et : t.et = s.et
  remap : t.remap = s.remap
  mem : t.mem = s.mem
  group : ∀ o, 0x400 ≤ o → o < 4096 → t.rd cvug o = s.rd cvug o
  latch : tst (s.rd cvug 0x028) 0 = true → tst (t.rd cvug 0x028) 0 = true

section
variable {s t v : State}

theorem State.Judging.refl : State.Judging s s := ⟨rfl, rfl, rfl, fun _ _ _ => rfl, id⟩

theorem State.Judging.trans (h : State.Judging s t) (k : State.Judging t v) : State.Judging s v :=
  ⟨k.et.trans h.et, k.remap.trans h.remap, k.mem.trans h.mem, fun o lo hi => (k.group o lo hi).trans (h.group o lo hi), fun set => k.latch (h.latch set)⟩

/-- What raises no event of the page and writes none of its registers. -/
theorem State.Judging.of_rd (et : t.et = s.et) (remap : t.remap = s.remap) (mem : t.mem = s.mem) (rd : ∀ o, o < 4096 → o ≠ 0x088 → t.rd cvug o = s.rd cvug o) :
    State.Judging s t := ⟨et, remap, mem, fun o _ hi => rd o hi (by omega), fun set => by rw [rd _ (by decide) (by decide)]; exact set⟩

theorem State.setRestart_rd (s : State) (i : Nat) (r : Restart) {q : PageRef} {o : Nat} (ho : o < 4096) (h : o ≠ 0x088) : (s.setRestart i r).rd q o = s.rd q o :=
  State.rd_wr_key _ _ (regKey_offs ho (by decide) h)

/-- A Room that fails: its event and record, before its restart and its halt. -/
theorem State.inspFail_judging (s : State) (i lead phys : Nat) : State.Judging s (s.inspFail i lead phys false) ∧ tst ((s.inspFail i lead phys false).rd cvug 0x028) 0 = true := by
  have event : State.Judging s ((s.cvugEvent 0 0x10 i phys false).record cvug 0x10 1 false false true i noRef (BitVec.ofNat 64 (smGet 0 s.rim.clean phys))) :=
    ⟨by simp, by simp, by simp, fun o lo _ => by rw [State.record_rd, State.cvugEvent_rd _ _ _ _ _ _ (by omega) (by omega) (by omega)],
      fun set => by rw [State.record_rd]; exact State.cvugEvent_keeps s 0 _ _ _ _ set⟩
  have latch : tst (((s.cvugEvent 0 0x10 i phys false).record cvug 0x10 1 false false true i noRef (BitVec.ofNat 64 (smGet 0 s.rim.clean phys))).rd cvug 0x028) 0 = true := by
    rw [State.record_rd]
    exact State.cvugEvent_sets s _ _ _ _ (by decide)
  have halts (x : State) (code : Nat) : State.Judging x (x.sendHalt i lead 15 code) := .of_rd (by simp) (by simp) (by simp) fun o _ _ => by simp
  have restarts (x : State) (r : Restart) : State.Judging x (x.setRestart i r) := .of_rd rfl rfl rfl fun o ho h => x.setRestart_rd i r ho h
  unfold State.inspFail
  dsimp only
  split
  · exact ⟨(event.trans (restarts _ _)).trans (halts _ _), (halts _ _).latch ((restarts _ _).latch latch)⟩
  · exact ⟨event.trans (halts _ _), (halts _ _).latch latch⟩

theorem State.inspClean_judging (s : State) (phys : Nat) : State.Judging s (s.inspClean phys) := ⟨rfl, rfl, rfl, fun _ _ _ => rfl, id⟩

theorem State.judge_judging (s : State) (i lead : Nat) (fails : List Nat) (e : Nat × Nat) : State.Judging s (s.judge i lead fails e) := by
  unfold State.judge
  split
  · exact (s.inspFail_judging i lead _).1
  · exact s.inspClean_judging _

theorem State.judges_judging (s : State) (i lead : Nat) (fails : List Nat) (l : List (Nat × Nat)) : State.Judging s (l.foldl (State.judge i lead fails) s) :=
  foldl_keeps (State.Judging s) _ (fun t e _ held => held.trans (t.judge_judging i lead fails e)) .refl

end

section
variable {s : State} {i : Nat} {u : Suite} {fails : List Nat}

theorem State.windowJudged_group (s : State) (hi : i < 64) (u : Suite) (fails : List Nat) :
    (s.windowJudged i u fails).rdF cvug (0x400 + 8 * i) 5 0 = (s.rdF cvug (0x400 + 8 * i) 5 0 + 1) % 64
    ∧ (s.windowJudged i u fails).rdF cvug (0x400 + 8 * i) 63 32 = (s.rdF cvug (0x400 + 8 * i) 63 32 + 1) % 2 ^ 32 := by
  have shown : (s.windowJudged i u fails).rd cvug (0x400 + 8 * i)
      = put 63 32 (s.rdF cvug (0x400 + 8 * i) 63 32 + 1) ||| put 5 0 (s.rdF cvug (0x400 + 8 * i) 5 0 + 1) := by
    rw [State.windowJudged, (State.judges_judging _ i u.lead fails _).group _ (by omega) (by omega), State.rd_wr_self]
  refine ⟨?_, ?_⟩
  · rw [State.rdF, shown, fld_or, fld_put_ne _ (by decide), fld_put_mod _ (by decide), Nat.zero_or]
    rfl
  · rw [State.rdF, shown, fld_or, fld_put_mod _ (by decide), fld_put_ne _ (by decide), Nat.or_zero]

theorem State.windowJudged_mem (s : State) (i : Nat) (u : Suite) (fails : List Nat) : (s.windowJudged i u fails).mem = s.mem :=
  (State.judges_judging _ i u.lead fails _).mem

/-- With no failure each Room inspected has had a clean window now. -/
theorem State.windowJudged_clean (s : State) (i : Nat) {u : Suite} {r : Nat} (hr : r ∈ u.rooms) (group : rotGroup (s.physOf r) = s.rdF cvug (0x400 + 8 * i) 5 0) :
    smGet 0 (s.windowJudged i u []).rim.clean (s.physOf r) = s.et := by
  obtain ⟨k, hk⟩ := List.getElem?_of_mem hr
  refine foldl_reaches_of (fun t : State => t.et = s.et ∧ t.remap = s.remap) (fun t => smGet 0 t.rim.clean (s.physOf r) = s.et) (State.judge i u.lead [])
    (State.mem_windowRooms hk group) (fun t ⟨et, remap⟩ => ?_) (fun t e _ ⟨et, _⟩ clean => ?_) (fun t e _ ⟨et, remap⟩ => ?_) ⟨rfl, rfl⟩
  · have place : t.physOf r = s.physOf r := by rw [State.physOf, State.physOf, remap]
    rw [State.judge, if_neg (by simp), State.inspClean, place, et]
    exact smGet_smSet_self ..
  · rw [State.judge, if_neg (by simp), State.inspClean, et]
    by_cases own : s.physOf r = t.physOf e.2
    · rw [← own]
      exact smGet_smSet_self ..
    · exact (smGet_smSet_ne _ _ _ _ own).trans clean
  · have keep := t.judge_judging i u.lead [] e
    exact ⟨keep.et.trans et, keep.remap.trans remap⟩

/-- A Room that failed has raised INSP_FAIL. -/
theorem State.windowJudged_fails (s : State) (i : Nat) {u : Suite} {k r : Nat} (named : u.rooms[k]? = some r)
    (group : rotGroup (s.physOf r) = s.rdF cvug (0x400 + 8 * i) 5 0) (failed : k ∈ fails) : tst ((s.windowJudged i u fails).rd cvug 0x028) 0 = true := by
  refine foldl_reaches (fun t : State => tst (t.rd cvug 0x028) 0 = true) (State.judge i u.lead fails) (State.mem_windowRooms named group) (fun t => ?_)
    (fun t e _ set => (t.judge_judging i u.lead fails e).latch set) _
  rw [State.judge, if_pos (List.contains_iff_mem.mpr failed)]
  exact (t.inspFail_judging i u.lead _).2

variable (hi : i < 64) (defined : s.suite i = some u) (window : u.sweep.st = 5) (due : u.sweep.et0 + usToEt (s.rdF cvug 0x080 47 32) ≤ s.et) (same : s.rim.inspNew = none)
  (on : tst (s.rd cvug 0x080) 63 = true) (set : s.rim.insp ≠ none) (unarmed : s.isArmed cvug 0 = false)
include hi defined window due same on set unarmed

theorem inspectionWindowEnd_clean {g : Nat} (hg : g = s.rdF cvug (0x400 + 8 * i) 5 0) : Completes (.inspectionWindowEnd i []) s fun t =>
    t.rdF cvug (0x400 + 8 * i) 5 0 = (g + 1) % 64 ∧ t.rdF cvug (0x400 + 8 * i) 63 32 = (s.rdF cvug (0x400 + 8 * i) 63 32 + 1) % 2 ^ 32
    ∧ ∀ r, r ∈ u.rooms → rotGroup (s.physOf r) = g → smGet 0 t.rim.clean (s.physOf r) = s.et := by
  subst hg
  have answers := inspectionWindowEnd_judges (fails := []) hi defined window due same on set unarmed
  rw [if_neg (by simp)] at answers
  obtain ⟨group, count⟩ := s.windowJudged_group hi u []
  refine ⟨_, answers, ?_, ?_, fun r hr its => ?_⟩
  · rw [State.sweepRelease, State.rdF, State.modSuite_rd]
    exact group
  · rw [State.sweepRelease, State.rdF, State.modSuite_rd]
    exact count
  · rw [State.sweepRelease, State.modSuite_rim]
    exact s.windowJudged_clean i hr its

theorem inspectionWindowEnd_fails {g k r : Nat} (hg : g = s.rdF cvug (0x400 + 8 * i) 5 0) (named : u.rooms[k]? = some r) (group : rotGroup (s.physOf r) = g)
    (failed : k ∈ fails) : Completes (.inspectionWindowEnd i fails) s fun t =>
      tst (t.rd cvug 0x028) 0 = true ∧ t.rdF cvug (0x400 + 8 * i) 5 0 = (g + 1) % 64 ∧ t.mem = s.mem := by
  subst hg
  have answers := inspectionWindowEnd_judges (fails := fails) hi defined window due same on set unarmed
  have some_fails : (s.windowRooms u (s.rdF cvug (0x400 + 8 * i) 5 0)).any (fun e => fails.contains e.1) = true :=
    List.any_eq_true.mpr ⟨(k, r), State.mem_windowRooms named group, List.contains_iff_mem.mpr failed⟩
  rw [if_pos some_fails] at answers
  refine ⟨_, answers, ?_, ?_, ?_⟩
  · rw [State.modSuite_rd]
    exact s.windowJudged_fails i named group failed
  · rw [State.rdF, State.modSuite_rd]
    exact (s.windowJudged_group hi u fails).1
  · rw [State.modSuite_mem, s.windowJudged_mem]

end

/-! ### Inspection packages (R418, R419) -/

/-- REASON is at most 4. -/
theorem State.inspReason_le (s : State) (ea : Nat) (signed : Bool) : s.inspReason ea signed ≤ 4 := by
  unfold State.inspReason
  dsimp only
  split_ifs <;> decide

section
variable {s : State} {v : W64} {signed : Bool}

/-- CVUG_INSP_PKG written. -/
def State.pkgWritten (s : State) (v : W64) : State := s.wr cvug 0x088 (v &&& maskOf 47 0)

theorem inspInstall_writes (wait : tst v 63 = false) : exec (.inspInstall v signed) s = .next (s.pkgWritten v) := by
  change execInspInstall v signed s = _
  unfold execInspInstall
  dsimp only
  rw [wait]
  rfl

/-- The set that a package holds. -/
def State.pkgSet (s : State) (v : W64) : InspSet := ⟨leOf (s.ldBytes (fld v 47 0 + 4) 4), s.inspEntries (fld v 47 0)⟩

/-- A set kept as the installed one, or as the next. -/
def State.inspKept (s : State) (x : InspSet) : State :=
  { s with rim := { s.rim with
    insp := if s.rim.insp.isNone then some x else s.rim.insp
    inspNew := if s.rim.insp.isNone then none else some x
    flash := { s.rim.flash with inspMax := max s.rim.flash.inspMax x.version, insp := some x } } }

theorem inspInstall_installs (go : tst v 63 = true) (good : (s.pkgWritten v).inspReason (fld v 47 0) signed = 0) : exec (.inspInstall v signed) s
    = .next (((s.pkgWritten v).wr cvug 0x090 (put 63 61 2 ||| put 31 0 ((s.pkgWritten v).pkgSet v).version)).inspKept ((s.pkgWritten v).pkgSet v)) := by
  change execInspInstall v signed s = _
  unfold execInspInstall
  dsimp only
  rw [← State.pkgWritten, if_neg (by rw [go]; decide), good]
  rfl

theorem inspInstall_refuses (go : tst v 63 = true) (bad : (s.pkgWritten v).inspReason (fld v 47 0) signed ≠ 0) : exec (.inspInstall v signed) s
    = .next (((s.pkgWritten v).wr cvug 0x090 (put 63 61 3 ||| put 60 53 ((s.pkgWritten v).inspReason (fld v 47 0) signed) ||| put 31 0 ((s.pkgWritten v).rdF cvug 0x090 31 0))).cvugEvent
      1 0x11 0 0 false) := by
  change execInspInstall v signed s = _
  unfold execInspInstall
  dsimp only
  rw [← State.pkgWritten, if_neg (by rw [go]; decide)]
  split
  · next zero => exact absurd zero bad
  · rfl

theorem State.pkgWritten_pkgSet (s : State) (v : W64) : (s.pkgWritten v).pkgSet v = s.pkgSet v := by
  have bytes (a n : Nat) : (s.pkgWritten v).ldBytes a n = s.ldBytes a n := State.ldBytes_of s (s.pkgWritten v) rfl a n
  simp only [State.pkgSet, State.inspEntries, bytes]

theorem State.pkgWritten_inspEntries (s : State) (v : W64) (ea : Nat) : (s.pkgWritten v).inspEntries ea = s.inspEntries ea := by
  have bytes (a n : Nat) : (s.pkgWritten v).ldBytes a n = s.ldBytes a n := State.ldBytes_of s (s.pkgWritten v) rfl a n
  simp only [State.inspEntries, bytes]

theorem State.inspKept_rd (s : State) (x : InspSet) (q : PageRef) (o : Nat) : (s.inspKept x).rd q o = s.rd q o := rfl
theorem State.inspKept_mem (s : State) (x : InspSet) : (s.inspKept x).mem = s.mem := rfl

/-- A set is the installed one at once only where there is none (R419). -/
theorem State.inspKept_flash (s : State) (x : InspSet) : (s.inspKept x).rim.flash.insp = some x ∧ (s.inspKept x).rim.flash.inspMax = max s.rim.flash.inspMax x.version
    ∧ (s.rim.insp = none → (s.inspKept x).rim.insp = some x ∧ (s.inspKept x).rim.inspNew = none)
    ∧ (s.rim.insp ≠ none → (s.inspKept x).rim.insp = s.rim.insp ∧ (s.inspKept x).rim.inspNew = some x) := by
  refine ⟨rfl, rfl, fun empty => ?_, fun set => ?_⟩
  · rw [State.inspKept, if_pos (by rw [empty]; rfl), if_pos (by rw [empty]; rfl)]
    exact ⟨rfl, rfl⟩
  · have kept : ¬ s.rim.insp.isNone = true := by simpa using set
    rw [State.inspKept, if_neg kept, if_neg kept]
    exact ⟨rfl, rfl⟩

theorem inspInstall_good {g : State} (hg : g = s.pkgWritten v) (go : tst v 63 = true) (good : g.inspReason (fld v 47 0) signed = 0) :
    Completes (.inspInstall v signed) s fun t => ∀ ver set_, ver = leOf (s.ldBytes (fld v 47 0 + 4) 4) → set_ = (⟨ver, g.inspEntries (fld v 47 0)⟩ : InspSet) →
      t.rd cvug 0x090 = (put 63 61 2 ||| put 31 0 ver) ∧ t.rim.flash.insp = some set_ ∧ t.rim.flash.inspMax = max s.rim.flash.inspMax ver
      ∧ (s.rim.insp = none → t.rim.insp = some set_ ∧ t.rim.inspNew = none) ∧ (s.rim.insp ≠ none → t.rim.insp = s.rim.insp ∧ t.rim.inspNew = some set_) ∧ t.mem = s.mem := by
  subst hg
  have answers := inspInstall_installs go good
  rw [State.pkgWritten_pkgSet] at answers
  refine ⟨_, answers, ?_⟩
  rintro ver set_ rfl rfl
  rw [State.pkgWritten_inspEntries]
  obtain ⟨kept, newest, empty, held⟩ := ((s.pkgWritten v).wr cvug 0x090 (put 63 61 2 ||| put 31 0 (s.pkgSet v).version)).inspKept_flash (s.pkgSet v)
  exact ⟨by rw [State.inspKept_rd, State.rd_wr_self]; rfl, kept, newest, empty, held, State.inspKept_mem ..⟩

theorem inspInstall_bad {g : State} (hg : g = s.pkgWritten v) (go : tst v 63 = true) (bad : g.inspReason (fld v 47 0) signed ≠ 0) :
    Completes (.inspInstall v signed) s fun t => fld (t.rd cvug 0x090) 63 61 = 3 ∧ fld (t.rd cvug 0x090) 60 53 = g.inspReason (fld v 47 0) signed
      ∧ fld (t.rd cvug 0x090) 31 0 = s.rdF cvug 0x090 31 0 ∧ tst (t.rd cvug 0x028) 1 = true ∧ t.rim = s.rim ∧ t.mem = s.mem := by
  subst hg
  have small := (s.pkgWritten v).inspReason_le (fld v 47 0) signed
  have version : (s.pkgWritten v).rdF cvug 0x090 31 0 = s.rdF cvug 0x090 31 0 := congrArg (fun x => fld x 31 0) (s.rd_wr_off _ (by decide))
  refine ⟨_, inspInstall_refuses go bad, ?_, ?_, ?_, State.cvugEvent_sets _ _ _ _ _ (by decide), by rw [State.cvugEvent_rim]; rfl, by rw [State.cvugEvent_mem]; rfl⟩
  · rw [State.cvugEvent_rd, State.rd_wr_self, fld_or, fld_or, fld_put _ (by decide) (by decide), fld_put_ne _ (by decide), fld_put_ne _ (by decide), Nat.or_zero, Nat.or_zero]
  · rw [State.cvugEvent_rd, State.rd_wr_self, fld_or, fld_or, fld_put_ne _ (by decide), fld_put _ (by decide) (by omega), fld_put_ne _ (by decide), Nat.zero_or, Nat.or_zero]
  · rw [State.cvugEvent_rd, State.rd_wr_self, fld_or, fld_or, fld_put_ne _ (by decide), fld_put_ne _ (by decide), version,
      fld_put _ (by decide) (show s.rdF cvug 0x090 31 0 < 2 ^ (31 + 1 - 0) from fld_lt ..), Nat.zero_or, Nat.zero_or]

end

/-! ### Self-tests (R422 to R424) -/

section
variable {s : State} {v : W64} {ref : Nat} {fw : Bool}

theorem maskTest_go (v : W64) : tst (v &&& (maskOf 63 63 ||| maskOf 27 16 ||| maskOf 14 0)) 63 = tst v 63 := tst_and v (by decide)

theorem selfTest_busy (busy : tst (s.rd cvug 0x0B0) 63 = true ∨ (tst (s.rd cvug 0x098) 63 = true ∧ fw = false)) :
    (tst v 63 = false → exec (.selfTest v ref fw) s = .next s) ∧ (tst v 63 = true → TurnedAway (.selfTest v ref fw) s cvug 7) := by
  have taken : tst (s.rd cvug 0x0B0) 63 = true ∨ (tst (s.rd cvug 0x098) 63 = true ∧ (!fw) = true) := busy.imp_right fun ⟨auto, host⟩ => ⟨auto, by rw [host]; rfl⟩
  refine ⟨fun wait => ?_, fun go => turned_capture (injected := false) (off := 0x0C8)
    (w := put 63 56 0x17 ||| put 55 50 0 ||| put 14 0 (fld (v &&& (maskOf 63 63 ||| maskOf 27 16 ||| maskOf 14 0)) 14 0)) ?_ (fun _ => rfl) (by decide)⟩
  · change execSelfTest v ref fw s = _
    unfold execSelfTest
    dsimp only
    rw [if_pos taken, maskTest_go, wait, if_neg Bool.false_ne_true]
  · change execSelfTest v ref fw s = _
    unfold execSelfTest
    dsimp only
    rw [if_pos taken, maskTest_go, go, if_pos rfl]
    rfl

theorem selfTest_resolved (free : tst (s.rd cvug 0x0B0) 63 = false) (firmware : fw = true) (quiet : s.rim.quiet.contains ref = true) : exec (.selfTest v ref fw) s = .next s := by
  subst firmware
  change execSelfTest v ref true s = _
  unfold execSelfTest
  dsimp only
  rw [if_neg (by simp [free]), if_pos ⟨rfl, quiet⟩]

theorem selfTest_starts (free : tst (s.rd cvug 0x0B0) 63 = false)
    (h : (tst (s.rd cvug 0x098) 63 = false ∧ fw = false) ∨ (fw = true ∧ s.rim.quiet.contains ref = false)) : Completes (.selfTest v ref fw) s fun t =>
      t.rd cvug 0x0B0 = v &&& (maskOf 63 63 ||| maskOf 27 16 ||| maskOf 14 0) ∧ (tst v 63 = true → t.rim.testRef = ref % 2 ^ 32) ∧ t.mem = s.mem := by
  have idle : ¬ (tst (s.rd cvug 0x0B0) 63 = true ∨ (tst (s.rd cvug 0x098) 63 = true ∧ (!fw) = true)) := by
    rcases h with ⟨auto, rfl⟩ | ⟨rfl, -⟩
    · simp [free, auto]
    · simp [free]
  have fresh : ¬ (fw = true ∧ s.rim.quiet.contains ref = true) := by
    rintro ⟨firmware, quiet⟩
    rcases h with ⟨-, host⟩ | ⟨-, loud⟩
    · rw [firmware] at host; cases host
    · rw [loud] at quiet; cases quiet
  have answers : exec (.selfTest v ref fw) s = execSelfTest v ref fw s := rfl
  unfold execSelfTest at answers
  dsimp only at answers
  rw [if_neg idle, if_neg fresh, maskTest_go] at answers
  refine ⟨_, answers, ?_, fun go => ?_, ?_⟩
  · split
    · exact s.rd_wr_self cvug 0x0B0 _
    · exact s.rd_wr_self cvug 0x0B0 _
  · rw [if_pos go]
  · split <;> rfl

end

/-! ### Results of self-tests (R422 to R427) -/

/-- What Porch firmware's answer to a result leaves: the result, its event and the records on their way. -/
structure State.Answering (s t : State) : Prop where
  result : t.rd cvug 0x0B0 = s.rd cvug 0x0B0
  latch : tst (s.rd cvug 0x028) 3 = true → tst (t.rd cvug 0x028) 3 = true
  flying : ∀ r, r ∈ s.flying → r ∈ t.flying

section
variable {s t u : State}

theorem State.Answering.refl : State.Answering s s := ⟨rfl, id, fun _ => id⟩

theorem State.Answering.trans (h : State.Answering s t) (k : State.Answering t u) : State.Answering s u :=
  ⟨k.result.trans h.result, fun set => k.latch (h.latch set), fun r hr => k.flying r (h.flying r hr)⟩

theorem State.Answering.of_rd (rd : ∀ o, o = 0x028 ∨ o = 0x0B0 → t.rd cvug o = s.rd cvug o) (flying : t.flying = s.flying) : State.Answering s t :=
  ⟨rd _ (.inr rfl), fun set => by rw [rd _ (.inl rfl)]; exact set, fun r hr => by rw [flying]; exact hr⟩

theorem State.Answering.event (s : State) (bit cause suite phys : Nat) (inj : Bool) : State.Answering s (s.cvugEvent bit cause suite phys inj) :=
  ⟨State.cvugEvent_rd .., State.cvugEvent_keeps s bit cause suite phys inj, fun r hr => by rw [State.cvugEvent_flying]; exact hr⟩

theorem State.Answering.srvWr (s : State) (phys off : Nat) (v : W64) : State.Answering s (s.srvWr phys off v) := .of_rd (fun _ _ => rfl) rfl

theorem State.Answering.survTouch (s : State) (now : Bool) : State.Answering s (s.survTouch now) := .of_rd (fun _ _ => rfl) rfl

theorem State.Answering.ite {c : Prop} [Decidable c] (h : State.Answering s t) (k : State.Answering s u) : State.Answering s (if c then t else u) := by
  split
  · exact h
  · exact k

/-- A Room's register, written or counted, is not one of the CVUG page. -/
theorem regKey_room {pg : Page} {r : Nat} (hr : r < 2 ^ 20) (hp : pg ≠ .cvug) {a b : Nat} (ha : a < 4096) (hb : b < 4096) : regKey cvug a ≠ regKey (rp pg r) b :=
  regKey_page (by decide) hr ha hb fun e => hp (congrArg PageRef.page e).symm

theorem State.Answering.wr (s : State) {pg : Page} {r o : Nat} (v : W64) (hr : r < 2 ^ 20) (hp : pg ≠ .cvug) (ho : o < 4096) : State.Answering s (s.wr (rp pg r) o v) :=
  .of_rd (fun a ha => s.rd_wr_key v (regKey_room hr hp (by omega) ho)) rfl

theorem State.Answering.raise (s : State) {pg : Page} {r : Nat} (bit : Nat) (inj : Bool) (hr : r < 2 ^ 20) (hp : pg ≠ .cvug) : State.Answering s (s.raise (rp pg r) bit inj) :=
  .of_rd (fun a ha => s.raise_rd inj (regKey_room hr hp (by omega) (by decide)) (regKey_room hr hp (by omega) (by decide))) (State.raise_flying ..)

/-- A logical Room that a physical one holds is a Room of the module (R560). -/
theorem Masks.logical_lt {m : Masks} {p r : Nat} (h : m.logical p = some r) : r < 2 ^ 20 := by
  have rank {row i k : Nat} (h : m.logRow row = some i) : i ≤ row := by
    unfold Masks.logRow at h
    split at h
    · split at h
      · cases h
      · split at h <;> (cases h; omega)
    · cases h; rfl
  unfold Masks.logical at h
  dsimp only at h
  split at h
  · cases h
  · next l hl =>
    split at h
    · cases h
    · split at h
      · cases h
      · split at h
        · next fits =>
          cases h
          have := rank (k := 0) hl
          simp only [Bool.and_eq_true, decide_eq_true_eq] at fits
          obtain ⟨⟨hr, hc⟩, hp⟩ := fits
          unfold physWing at *
          omega
        · cases h

theorem State.logicalOf_lt {s : State} {p r : Nat} (h : s.logicalOf p = some r) : r < 2 ^ 20 := by
  unfold State.logicalOf at h
  split at h
  · exact Masks.logical_lt h
  · cases h

theorem State.roomBad_answering (s : State) (phys : Nat) : State.Answering s (s.roomBad phys) := by
  unfold State.roomBad
  split
  · exact .refl
  · refine State.Answering.trans ?_ (.survTouch _ true)
    exact (State.Answering.srvWr ..).trans (.event _ 5 0x15 _ phys false)

theorem State.lowerFmax_answering (s : State) (phys : Nat) : State.Answering s (s.lowerFmax phys) :=
  .ite (s.roomBad_answering phys) (.of_rd (fun _ _ => rfl) rfl)

@[simp] theorem State.moveRail_flying (s : State) (w rate : Nat) : (s.moveRail w rate).flying = s.flying := by
  unfold State.moveRail
  dsimp only
  split
  · exact (congrArg State.flying ((s.wrF (pwrw w) 0x088 15 0 (vnom (s.wingRate w)).toNat).setDrops_keeps w).eq :)
  · rfl

theorem State.moveRail_answering (s : State) (w rate : Nat) : State.Answering s (s.moveRail w rate) :=
  .of_rd (fun o ho => s.moveRail_rd w rate (by omega) (by omega)) (State.moveRail_flying ..)

theorem State.suspectStep_answering (s : State) (phys : Nat) : State.Answering s (s.suspectStep phys) := by
  unfold State.suspectStep
  dsimp only
  refine .ite (s.lowerFmax_answering phys) ?_
  split
  · next room _ =>
    refine State.Answering.trans ?_ (State.moveRail_answering ..)
    exact .of_rd (fun o ho => State.rd_wr_key _ _ (regKey_offs (by omega) (by decide) (by omega))) rfl
  · exact .of_rd (fun _ _ => rfl) rfl

/-- The live strikes of a Room with the one of now. -/
def State.strikeHours (s : State) (phys : Nat) : List Nat := s.liveStrikes phys ++ [s.phours % 2 ^ 20]

/-- A Room struck once in this restart. -/
def State.strikeMark (s : State) (phys : Nat) : State := { s with rim := { s.rim with struck := s.rim.struck ++ [phys] } }

/-- A strike in the Survey. -/
def State.strikeKept (s : State) (phys : Nat) : State :=
  ((s.strikeMark phys).srvWr phys 0x090 (packStrikes ((s.strikeHours phys).drop ((s.strikeHours phys).length - 3)))).survTouch false

/-- A strike with its event, before what its number asks for. -/
def State.strikeNoted (s : State) (phys : Nat) : State :=
  (s.strikeKept phys).cvugEvent 4 0x14 (match (s.strikeKept phys).logicalOf phys with | some r => (s.strikeKept phys).suiteId r | none => 0) phys false

/-- What the number of a Room's strikes asks for. -/
def State.strikeActs (s : State) (phys n : Nat) : State :=
  if 3 ≤ n then s.roomBad phys
  else if (match s.logicalOf phys with | some r => s.suiteIdle r | none => true) = true then s.suspectStep phys
  else { s with rim := { s.rim with stepPend := s.rim.stepPend ++ [phys] } }

theorem State.strike_form (s : State) (phys : Nat) : s.strike phys
    = if s.rim.struck.contains phys = true then s else (s.strikeNoted phys).strikeActs phys (s.strikeHours phys).length := rfl

theorem State.strikeNoted_answering (s : State) (phys : Nat) : State.Answering s (s.strikeNoted phys) := by
  refine State.Answering.trans ?_ (.event ..)
  refine State.Answering.trans ?_ (.survTouch ..)
  refine State.Answering.trans ?_ (.srvWr ..)
  exact .of_rd (fun _ _ => rfl) rfl

theorem State.strikeActs_answering (s : State) (phys n : Nat) : State.Answering s (s.strikeActs phys n) :=
  .ite (s.roomBad_answering phys) (.ite (s.suspectStep_answering phys) (.of_rd (fun _ _ => rfl) rfl))

theorem State.strike_answering (s : State) (phys : Nat) : State.Answering s (s.strike phys) := by
  rw [State.strike_form]
  exact .ite .refl ((s.strikeNoted_answering phys).trans (State.strikeActs_answering ..))

theorem State.captureStep_answering (s : State) {pg : Page} {r o soff : Nat} (v step : W64) (hr : r < 2 ^ 20) (hp : pg ≠ .cvug) (ho : o < 4096) (hs : soff < 4096) :
    State.Answering s (s.captureStep (rp pg r) o v soff step) := by
  unfold State.captureStep
  exact .ite .refl ((State.Answering.wr s _ hr hp ho).trans (.wr _ _ hr hp hs))

theorem State.shfEvent_answering (s : State) {r : Nat} (bit cause bank : Nat) (hr : r < 2 ^ 20) : State.Answering s (s.shfEvent r bit cause bank) :=
  (s.captureStep_answering _ _ hr (by decide) (by decide) (by decide)).trans (.raise _ _ _ hr (by decide))

theorem State.shfRetire_answering (s : State) {r : Nat} (v : W64) (hr : r < 2 ^ 20) : State.Answering s (s.shfRetire r v) := by
  have written (x : State) {o : Nat} (w : W64) (ho : o < 4096) : State.Answering x (x.wr (rp .shf r) o w) := .wr x w hr (by decide) ho
  have room (x : State) (f : RoomSt → RoomSt) : State.Answering x (x.modRoom r f) := .of_rd (fun _ _ => rfl) rfl
  unfold State.shfRetire
  dsimp only
  refine .ite .refl (.ite (written s _ (by decide)) (.ite (s.shfEvent_answering _ _ _ hr) (.ite .refl (.ite ?_ ?_))))
  · exact (((written s _ (by decide)).trans (written _ _ (by decide))).trans (State.shfEvent_answering _ _ _ _ hr)).trans (.of_rd (fun _ _ => rfl) rfl)
  · exact ((written s _ (by decide)).trans (written _ _ (by decide))).trans (room _ _)

theorem State.lasting_answering (s : State) (phys kind sub : Nat) : State.Answering s (s.lasting phys kind sub) := by
  unfold State.lasting
  split
  · split
    · next r hr => exact s.shfRetire_answering _ (State.logicalOf_lt hr)
    · exact s.strike_answering phys
  · exact s.strike_answering phys

end

section
variable {s : State} {result : Nat} {w : W64} (hw : w = s.rd cvug 0x0B0)

/-- Whether the Suite of a tested Room lets its test end. -/
def State.testIdle (s : State) (phys : Nat) : Bool := match s.logicalOf phys with | some r => s.suiteIdle r | none => true

/-- The tested unit left undefined. -/
def State.tested (s : State) (phys kind sub : Nat) : State :=
  match s.logicalOf phys with | some r => if stRoomKind kind then s.undefine r kind sub else s | none => s

/-- A result shown and recorded, with its event. -/
def State.testShown (s : State) (w : W64) (result : Nat) : State :=
  let phys := fld w 14 0
  let good := decide (result % 4 = 1)
  let s := s.wr cvug 0x0B0 (clrBit (setFld w 30 28 result) 63)
  let su := match s.logicalOf phys with | some r => s.suiteId r | none => 0
  let s := s.record cvug 0x13 (if good then 2 else 3) false false false su s.rim.testRef (s.rd cvug 0x0B0)
  (s.srvCount phys (if good then 16 else 32)).cvugEvent 3 0x13 su phys false

/-- What a result asks of the link tested and of Porch firmware. -/
def State.testActs (s : State) (w : W64) (result : Nat) : State :=
  let kind := fld w 27 24
  let sub := fld w 23 16
  let phys := fld w 14 0
  let s := match linkBit kind sub with
    | some b => if result % 4 = 2 then (s.srvWr phys 0x088 (clrBit (s.srvRd phys 0x088) b)).survTouch false else s
    | none => s
  if !decide (result % 4 = 1) ∧ tst (s.rd cvug 0x098) 63 then s.lasting phys kind sub else s

theorem selftestDone_answers (s : State) (result : Nat) : exec (.selftestDone result) s
    = if (!tst (s.rd cvug 0x0B0) 63) = true ∨ result % 4 = 0 ∨ (stRoomKind (fld (s.rd cvug 0x0B0) 27 24) = true ∧ (!s.testIdle (fld (s.rd cvug 0x0B0) 14 0)) = true) then .next s
      else .next (((s.tested (fld (s.rd cvug 0x0B0) 14 0) (fld (s.rd cvug 0x0B0) 27 24) (fld (s.rd cvug 0x0B0) 23 16)).testShown (s.rd cvug 0x0B0) result).testActs
        (s.rd cvug 0x0B0) result) := rfl

include hw

theorem selftestDone_none (hr : result < 4) (h : tst w 63 = false ∨ result = 0) : exec (.selftestDone result) s = .next s := by
  subst hw
  rw [selftestDone_answers, Nat.mod_eq_of_lt hr, if_pos]
  exact h.imp (fun none => by rw [none]; rfl) .inl

theorem selftestDone_waits {r : Nat} (place : s.logicalOf (fld w 14 0) = some r) (kind : stRoomKind (fld w 27 24) = true) (busy : s.suiteIdle r = false) :
    exec (.selftestDone result) s = .next s := by
  subst hw
  have waits : s.testIdle (fld (s.rd cvug 0x0B0) 14 0) = false := by rw [State.testIdle, place]; exact busy
  rw [selftestDone_answers, if_pos (.inr (.inr ⟨kind, by rw [waits]; rfl⟩))]

end

section
variable (s : State)

@[simp] theorem State.stWords_rim (a : Nat) (vs : List W64) : (s.stWords a vs).rim = s.rim := by
  induction vs generalizing s a with
  | nil => rfl
  | cons v vs ih => rw [State.stWords, ih, State.stWord_rim]

@[simp] theorem State.stWords_flying (a : Nat) (vs : List W64) : (s.stWords a vs).flying = s.flying := by
  induction vs generalizing s a with
  | nil => rfl
  | cons v vs ih => rw [State.stWords, ih, State.stWord_flying]

@[simp] theorem State.stWords_incSeq (a : Nat) (vs : List W64) : (s.stWords a vs).incSeq = s.incSeq := by
  induction vs generalizing s a with
  | nil => rfl
  | cons v vs ih => rw [State.stWords, ih, State.stWord_incSeq]

theorem State.undefine_rim (room kind sub : Nat) : (s.undefine room kind sub).rim = s.rim := by
  unfold State.undefine
  dsimp only
  split
  · rw [State.modBrick_rim]
  · split
    · exact foldl_keeps (fun t : State => t.rim = s.rim) _ (fun t row _ held => (t.stWords_rim _ _).trans held) rfl
    · split
      · rw [State.modRoom_rim]
      · split
        · exact foldl_keeps (fun t : State => t.rim = s.rim) _ (fun t q _ held => (State.wr_rim ..).trans held) rfl
        · rfl

theorem State.tested_rim (phys kind sub : Nat) : (s.tested phys kind sub).rim = s.rim := by
  unfold State.tested
  split
  · split
    · exact s.undefine_rim ..
    · rfl
  · rfl

/-- A result's register, event and record. -/
theorem State.testShown_shows (w : W64) {result : Nat} (hr : result < 4) : (s.testShown w result).rd cvug 0x0B0 = clrBit (setFld w 30 28 result) 63
    ∧ tst ((s.testShown w result).rd cvug 0x028) 3 = true
    ∧ ∃ r, r ∈ (s.testShown w result).flying ∧ r.code = Page.cvug.cls * 256 + 0x13 ∧ r.kind = (if result = 1 then 2 else 3) ∧ r.ref = s.rim.testRef := by
  have kind : (if decide (result % 4 = 1) = true then 2 else 3) = if result = 1 then 2 else 3 := by rw [Nat.mod_eq_of_lt hr]; simp
  refine ⟨?_, State.cvugEvent_sets _ _ _ _ _ (by decide), ?_⟩
  · exact (State.cvugEvent_rd ..).trans (s.rd_wr_self cvug 0x0B0 _)
  · have shown : (s.testShown w result).flying = _ := State.cvugEvent_flying ..
    obtain ⟨r, adds, code, its_kind, ref, -⟩ := (s.wr cvug 0x0B0 (clrBit (setFld w 30 28 result) 63)).record_adds cvug 0x13
      (if decide (result % 4 = 1) = true then 2 else 3) false false false
      (match (s.wr cvug 0x0B0 (clrBit (setFld w 30 28 result) 63)).logicalOf (fld w 14 0) with
        | some r => (s.wr cvug 0x0B0 (clrBit (setFld w 30 28 result) 63)).suiteId r | none => 0) s.rim.testRef
      ((s.wr cvug 0x0B0 (clrBit (setFld w 30 28 result) 63)).rd cvug 0x0B0)
    refine ⟨r, ?_, code, its_kind.trans kind, ref⟩
    rw [shown]
    exact (adds ▸ List.mem_append_right _ List.mem_cons_self :)

theorem State.testActs_answering (w : W64) (result : Nat) : State.Answering s (s.testActs w result) := by
  have link (b : Nat) : State.Answering s ((s.srvWr (fld w 14 0) 0x088 (clrBit (s.srvRd (fld w 14 0) 0x088) b)).survTouch false) :=
    (State.Answering.srvWr ..).trans (.survTouch ..)
  have ends (t : State) : State.Answering t (if !decide (result % 4 = 1) ∧ tst (t.rd cvug 0x098) 63 then t.lasting (fld w 14 0) (fld w 27 24) (fld w 23 16) else t) :=
    .ite (t.lasting_answering ..) .refl
  unfold State.testActs
  dsimp only
  refine State.Answering.trans ?_ (ends _)
  split
  · exact .ite (link _) .refl
  · exact .refl

theorem selftestDone_ends {s : State} {result : Nat} {w : W64} (hw : w = s.rd cvug 0x0B0) (hr : result < 4) (runs : tst w 63 = true) (some_ : result ≠ 0)
    (idle : ∀ r, s.logicalOf (fld w 14 0) = some r → stRoomKind (fld w 27 24) = true → s.suiteIdle r = true) : Completes (.selftestDone result) s fun t =>
      t.rd cvug 0x0B0 = clrBit (setFld w 30 28 result) 63 ∧ tst (t.rd cvug 0x028) 3 = true
      ∧ ∃ r, r ∈ t.flying ∧ r.code = Page.cvug.cls * 256 + 0x13 ∧ r.kind = (if result = 1 then 2 else 3) ∧ r.ref = s.rim.testRef := by
  subst hw
  have ends : ¬ ((!tst (s.rd cvug 0x0B0) 63) = true ∨ result % 4 = 0
      ∨ (stRoomKind (fld (s.rd cvug 0x0B0) 27 24) = true ∧ (!s.testIdle (fld (s.rd cvug 0x0B0) 14 0)) = true)) := by
    rw [runs, Nat.mod_eq_of_lt hr]
    rintro (h | h | ⟨kind, busy⟩)
    · cases h
    · exact some_ h
    · unfold State.testIdle at busy
      split at busy
      · next r place => rw [idle r place kind] at busy; cases busy
      · cases busy
  have answers := selftestDone_answers s result
  rw [if_neg ends] at answers
  obtain ⟨shown, event, r, hr', code, kind, ref⟩ :=
    (s.tested (fld (s.rd cvug 0x0B0) 14 0) (fld (s.rd cvug 0x0B0) 27 24) (fld (s.rd cvug 0x0B0) 23 16)).testShown_shows (s.rd cvug 0x0B0) hr
  have acts := State.testActs_answering ((s.tested (fld (s.rd cvug 0x0B0) 14 0) (fld (s.rd cvug 0x0B0) 27 24) (fld (s.rd cvug 0x0B0) 23 16)).testShown (s.rd cvug 0x0B0) result)
    (s.rd cvug 0x0B0) result
  exact ⟨_, answers, acts.result.trans shown, acts.latch event, r, acts.flying r hr', code, kind, by rw [ref, State.tested_rim]⟩

end

/-! ### Incident records (R428, R429, R447, R448) -/

section
variable {s : State} {k : Nat} {r : Incident}

/-- A record no longer on its way. -/
def State.incidentOff (s : State) (k : Nat) : State := { s with flying := s.flying.eraseIdx k, incSeq := s.incSeq + 1 }

/-- A record that has reached the collector, with the SEQ that it takes. -/
def State.incidentTaken (s : State) (k : Nat) : State := (s.incidentOff k).wr cvug 0x0B8 (put 63 32 (s.incSeq + 1))

theorem State.incidentTaken_keeps (s : State) (k : Nat) : (s.incidentTaken k).flying = s.flying.eraseIdx k ∧ (s.incidentTaken k).incSeq = s.incSeq + 1
    ∧ (s.incidentTaken k).collector = s.collector ∧ (s.incidentTaken k).mem = s.mem := by
  rw [State.incidentTaken, State.wr_flying, State.wr_incSeq, State.wr_collector, State.wr_mem]
  exact ⟨rfl, rfl, rfl, rfl⟩

/-- A detection that no self-test resolves, since it was injected or made by hand. -/
def State.incidentQuiet (s : State) (r : Incident) : State :=
  if r.injected || r.hand then { s with rim := { s.rim with quiet := s.rim.quiet ++ [s.incSeq - 1] } } else s

theorem incidentRecord_none (none : s.flying[k]? = none) : exec (.incidentRecord k) s = .next (s.logDrain 256) := by
  change execIncidentRecord k s = _
  rw [execIncidentRecord, none]

theorem State.incidentQuiet_keeps (s : State) (r : Incident) : (s.incidentQuiet r).flying = s.flying ∧ (s.incidentQuiet r).incSeq = s.incSeq
    ∧ (s.incidentQuiet r).collector = s.collector ∧ (s.incidentQuiet r).mem = s.mem ∧ (s.incidentQuiet r).regs = s.regs := by
  unfold State.incidentQuiet
  split <;> exact ⟨rfl, rfl, rfl, rfl, rfl⟩

/-- A record on its way, taken. -/
def State.incidentIn (s : State) (k : Nat) (r : Incident) : State := (s.incidentTaken k).incidentQuiet r

theorem State.incidentIn_keeps (s : State) (k : Nat) (r : Incident) : (s.incidentIn k r).flying = s.flying.eraseIdx k ∧ (s.incidentIn k r).incSeq = s.incSeq + 1
    ∧ (s.incidentIn k r).collector = s.collector ∧ (s.incidentIn k r).mem = s.mem := by
  obtain ⟨flying, seq, collector, mem, -⟩ := (s.incidentTaken k).incidentQuiet_keeps r
  obtain ⟨taken_flying, taken_seq, taken_collector, taken_mem⟩ := s.incidentTaken_keeps k
  exact ⟨flying.trans taken_flying, seq.trans taken_seq, collector.trans taken_collector, mem.trans taken_mem⟩

theorem State.incidentIn_rd (s : State) (k : Nat) (r : Incident) {q : PageRef} {o : Nat} (ho : o < 4096) (h : o ≠ 0x0B8) : (s.incidentIn k r).rd q o = s.rd q o := by
  obtain ⟨-, -, -, -, regs⟩ := (s.incidentTaken k).incidentQuiet_keeps r
  have same : (s.incidentIn k r).rd q o = (s.incidentTaken k).rd q o := by rw [State.rd, State.rd, State.incidentIn, regs]
  rw [same]
  exact State.rd_wr_key _ _ (regKey_offs ho (by decide) h)

theorem incidentRecord_answers (named : s.flying[k]? = some r) : exec (.incidentRecord k) s
    = if 256 ≤ s.collector.length then .next (((s.incidentIn k r).bump cvug 0x0C0 63 0 1).cvugEvent 6 0x16 r.suite 0 false)
      else .next ((s.incidentIn k r).collect { r with seq := s.incSeq }) := by
  obtain ⟨-, seq, collector, -⟩ := s.incidentIn_keeps k r
  have own : s.incSeq = (s.incidentIn k r).incSeq - 1 := by rw [seq]; rfl
  rw [own, ← collector]
  change execIncidentRecord k s = _
  unfold execIncidentRecord
  rw [named]
  rfl

theorem incidentRecord_lost (named : s.flying[k]? = some r) (full : 256 ≤ s.collector.length) : Completes (.incidentRecord k) s fun t =>
    t.flying = s.flying.eraseIdx k ∧ t.incSeq = s.incSeq + 1 ∧ t.collector = s.collector ∧ tst (t.rd cvug 0x028) 6 = true ∧ t.mem = s.mem := by
  obtain ⟨flying, seq, collector, mem⟩ := s.incidentIn_keeps k r
  refine ⟨_, (incidentRecord_answers named).trans (if_pos full), ?_, ?_, ?_, State.cvugEvent_sets _ _ _ _ _ (by decide), ?_⟩
  · rw [State.cvugEvent_flying]; exact flying
  · rw [State.cvugEvent_incSeq]; exact seq
  · rw [State.cvugEvent_collector]; exact collector
  · rw [State.cvugEvent_mem]; exact mem

/-- The collector with other records. -/
def State.collecting (s : State) (l : List Incident) : State := { s with collector := l }

@[simp] theorem State.collecting_rd (s : State) (l : List Incident) (q : PageRef) (o : Nat) : (s.collecting l).rd q o = s.rd q o := rfl
@[simp] theorem State.collecting_flying (s : State) (l : List Incident) : (s.collecting l).flying = s.flying := rfl
@[simp] theorem State.collecting_incSeq (s : State) (l : List Incident) : (s.collecting l).incSeq = s.incSeq := rfl
@[simp] theorem State.collecting_mem (s : State) (l : List Incident) : (s.collecting l).mem = s.mem := rfl
@[simp] theorem State.collecting_collector (s : State) (l : List Incident) : (s.collecting l).collector = l := rfl

theorem State.collect_form (s : State) (r : Incident) : s.collect r
    = if s.collector = [] ∧ ((s.collecting (s.collector ++ [r])).logDrain 257).collector ≠ [] ∧ ((s.collecting (s.collector ++ [r])).logDrain 257).rdF (gp .eccg) 0x088 47 12 ≠ 0
        ∧ ((s.collecting (s.collector ++ [r])).logDrain 257).logFull = true then ((s.collecting (s.collector ++ [r])).logDrain 257).raise (gp .eccg) 0 false
      else (s.collecting (s.collector ++ [r])).logDrain 257 := rfl

/-- The collector waits where there is no log. -/
theorem State.logDrain_none (s : State) (base : s.rdF (gp .eccg) 0x088 47 12 = 0) (fuel : Nat) : s.logDrain fuel = s := by
  cases fuel with
  | zero => rfl
  | succ fuel =>
    rw [State.logDrain]
    split
    · rfl
    · have none : fld (s.rd (gp .eccg) 0x088) 47 12 = 0 := base
      dsimp only
      rw [if_pos (.inl (by rw [none]))]

theorem incidentRecord_waits (named : s.flying[k]? = some r) (fits : s.collector.length < 256) (base : s.rdF (gp .eccg) 0x088 47 12 = 0) :
    Completes (.incidentRecord k) s fun t =>
      t.flying = s.flying.eraseIdx k ∧ t.incSeq = s.incSeq + 1 ∧ t.collector = s.collector ++ [{ r with seq := s.incSeq }] ∧ t.mem = s.mem := by
  obtain ⟨flying, seq, collector, mem⟩ := s.incidentIn_keeps k r
  have unset : (s.incidentIn k r).rdF (gp .eccg) 0x088 47 12 = 0 := by rw [State.rdF, s.incidentIn_rd k r (by decide) (by decide)]; exact base
  have drained : ((s.incidentIn k r).collecting (s.collector ++ [{ r with seq := s.incSeq }])).logDrain 257
      = (s.incidentIn k r).collecting (s.collector ++ [{ r with seq := s.incSeq }]) :=
    State.logDrain_none _ (by rw [State.rdF, State.collecting_rd]; exact unset) 257
  have collects : (s.incidentIn k r).collect { r with seq := s.incSeq } = (s.incidentIn k r).collecting (s.collector ++ [{ r with seq := s.incSeq }]) := by
    rw [State.collect_form, collector, drained, if_neg]
    rintro ⟨-, -, set, -⟩
    exact set unset
  refine ⟨_, (incidentRecord_answers named).trans (if_neg (by omega)), ?_⟩
  rw [collects]
  exact ⟨flying, seq, rfl, mem⟩

/-! ### A record written to the log (R447) -/

theorem State.logDrain_empty (s : State) (empty : s.collector = []) (fuel : Nat) : s.logDrain fuel = s := by
  cases fuel with
  | zero => rfl
  | succ fuel => rw [State.logDrain, empty]

/-- The log with one record more. -/
def State.logged (s : State) (a tail : Nat) (r : Incident) : State := (s.stWords a r.words).wr (gp .eccg) 0x0A0 (put 18 0 (tail + 1))

theorem State.logDrain_one {s : State} {r : Incident} (one : s.collector = [r]) {base tail : Nat} (hb : base = s.rdF (gp .eccg) 0x088 47 12 * 4096)
    (ht : tail = s.rdF (gp .eccg) 0x0A0 18 0) (log : base ≠ 0) (serves : tst (s.rd (ecccPage (base / 2 ^ 37)) 0x080) 3 = false)
    (space : (tail + 1) % 524288 ≠ s.rdF (gp .eccg) 0x098 18 0) (fuel : Nat) : s.logDrain (fuel + 1) = (s.logged (base + 32 * tail) tail r).collecting [] := by
  have some_space : s.logFull = false := by
    rw [State.logFull, ← ht, decide_eq_false space]
    rfl
  have goes : ¬ (fld (s.rd (gp .eccg) 0x088) 47 12 * 4096 = 0 ∨ s.logFull = true ∨ tst (s.rd (ecccPage (fld (s.rd (gp .eccg) 0x088) 47 12 * 4096 / 2 ^ 37)) 0x080) 3 = true) := by
    have same : fld (s.rd (gp .eccg) 0x088) 47 12 * 4096 = base := hb.symm
    rw [same, some_space, serves]
    simp [log]
  rw [← State.logDrain_empty ((s.logged (base + 32 * tail) tail r).collecting []) rfl fuel]
  subst hb ht
  rw [State.logDrain, one]
  dsimp only
  rw [if_neg goes, if_neg (by rw [decide_eq_false space]; exact Bool.false_ne_true)]
  rfl

theorem State.ldByte_stWords_ne (s : State) {a b : Nat} (vs : List W64) (h : b < a ∨ a + 8 * vs.length ≤ b) : (s.stWords a vs).ldByte b = s.ldByte b := by
  induction vs generalizing s a with
  | nil => rfl
  | cons v vs ih =>
    rw [List.length_cons] at h
    rw [State.stWords, ih _ (by omega), State.ldByte_stWord_ne _ _ (by omega)]

/-- A word lower than those written is kept. -/
theorem State.ldWord_stWords_below (s : State) {a b : Nat} (vs : List W64) (h : b + 8 ≤ a) : (s.stWords a vs).ldWord b = s.ldWord b := by
  have byte (k : Nat) (hk : k < b + 8) : (s.stWords a vs).ldByte k = s.ldByte k := s.ldByte_stWords_ne vs (.inl (by omega))
  simp only [State.ldWord, State.ldBytes, byte b (by omega), byte (b + 1) (by omega), byte (b + 1 + 1) (by omega), byte (b + 1 + 1 + 1) (by omega),
    byte (b + 1 + 1 + 1 + 1) (by omega), byte (b + 1 + 1 + 1 + 1 + 1) (by omega), byte (b + 1 + 1 + 1 + 1 + 1 + 1) (by omega),
    byte (b + 1 + 1 + 1 + 1 + 1 + 1 + 1) (by omega)]

/-- Words read where they were written. -/
theorem State.ldWords_stWords (s : State) (a : Nat) (vs : List W64) : (s.stWords a vs).ldWords a vs.length = vs := by
  induction vs generalizing s a with
  | nil => rfl
  | cons v vs ih => rw [List.length_cons, State.stWords, State.ldWords, ih, State.ldWord_stWords_below _ _ (by omega), State.ldWord_stWord]

@[simp] theorem State.collecting_ldByte (s : State) (l : List Incident) (a : Nat) : (s.collecting l).ldByte a = s.ldByte a := rfl

theorem State.collecting_ldWords (s : State) (l : List Incident) (a n : Nat) : (s.collecting l).ldWords a n = s.ldWords a n := State.ldWords_of s (s.collecting l) rfl a n

theorem State.logged_ldWords (s : State) (a tail : Nat) (r : Incident) : (s.logged a tail r).ldWords a 4 = r.words :=
  (State.ldWords_of (s.stWords a r.words) (s.logged a tail r) (State.wr_mem ..) a 4).trans (State.ldWords_stWords s a r.words)

theorem State.logged_ldByte (s : State) {a b : Nat} (tail : Nat) (r : Incident) (h : b < a ∨ a + 32 ≤ b) : (s.logged a tail r).ldByte b = s.ldByte b := by
  rw [State.logged, State.wr_ldByte]
  exact s.ldByte_stWords_ne r.words h

@[simp] theorem State.logged_flying (s : State) (a tail : Nat) (r : Incident) : (s.logged a tail r).flying = s.flying := by
  rw [State.logged, State.wr_flying, State.stWords_flying]

@[simp] theorem State.logged_incSeq (s : State) (a tail : Nat) (r : Incident) : (s.logged a tail r).incSeq = s.incSeq := by
  rw [State.logged, State.wr_incSeq, State.stWords_incSeq]

theorem State.incidentIn_ldByte (s : State) (k : Nat) (r : Incident) (a : Nat) : (s.incidentIn k r).ldByte a = s.ldByte a := by
  obtain ⟨-, -, -, mem⟩ := s.incidentIn_keeps k r
  rw [State.ldByte, State.ldByte, mem]

theorem incidentRecord_logs (named : s.flying[k]? = some r) {base tail : Nat} (empty : s.collector = []) (hb : base = s.rdF (gp .eccg) 0x088 47 12 * 4096)
    (ht : tail = s.rdF (gp .eccg) 0x0A0 18 0) (log : base ≠ 0) (serves : tst (s.rd (ecccPage (base / 2 ^ 37)) 0x080) 3 = false)
    (space : (tail + 1) % 524288 ≠ s.rdF (gp .eccg) 0x098 18 0) : Completes (.incidentRecord k) s fun t =>
      t.flying = s.flying.eraseIdx k ∧ t.incSeq = s.incSeq + 1 ∧ t.collector = [] ∧ t.ldWords (base + 32 * tail) 4 = Incident.words { r with seq := s.incSeq }
      ∧ t.rdF (gp .eccg) 0x0A0 18 0 = (tail + 1) % 524288 ∧ ∀ a, a < base + 32 * tail ∨ base + 32 * tail + 32 ≤ a → t.ldByte a = s.ldByte a := by
  obtain ⟨flying, seq, collector, mem⟩ := s.incidentIn_keeps k r
  have rd (q : PageRef) {o : Nat} (ho : o < 4096) (h : o ≠ 0x0B8) : ((s.incidentIn k r).collecting [{ r with seq := s.incSeq }]).rd q o = s.rd q o :=
    s.incidentIn_rd k r ho h
  have drained : ((s.incidentIn k r).collecting [{ r with seq := s.incSeq }]).logDrain 257
      = (((s.incidentIn k r).collecting [{ r with seq := s.incSeq }]).logged (base + 32 * tail) tail { r with seq := s.incSeq }).collecting [] := by
    refine State.logDrain_one rfl ?_ ?_ log ?_ ?_ 256
    · rw [State.rdF, rd _ (by decide) (by decide)]; exact hb
    · rw [State.rdF, rd _ (by decide) (by decide)]; exact ht
    · rw [rd _ (by decide) (by decide)]; exact serves
    · rw [State.rdF, rd _ (by decide) (by decide)]; exact space
  have collects : (s.incidentIn k r).collect { r with seq := s.incSeq }
      = (((s.incidentIn k r).collecting [{ r with seq := s.incSeq }]).logged (base + 32 * tail) tail { r with seq := s.incSeq }).collecting [] := by
    rw [State.collect_form, collector, empty, List.nil_append, drained, if_neg]
    rintro ⟨-, waits, -⟩
    exact waits rfl
  have fits : ¬ 256 ≤ s.collector.length := by rw [empty]; decide
  refine ⟨_, (incidentRecord_answers named).trans (if_neg fits), ?_⟩
  rw [collects]
  refine ⟨?_, ?_, State.collecting_collector .., ?_, ?_, fun a ha => ?_⟩
  · rw [State.collecting_flying, State.logged_flying, State.collecting_flying, flying]
  · rw [State.collecting_incSeq, State.logged_incSeq, State.collecting_incSeq, seq]
  · rw [State.collecting_ldWords, State.logged_ldWords]
  · rw [State.rdF, State.collecting_rd, State.logged, State.rd_wr_self, fld_put_mod _ (by decide)]
    rfl
  · rw [State.collecting_ldByte, State.logged_ldByte _ _ _ ha, State.collecting_ldByte, State.incidentIn_ldByte]

end

/-! ### Correction rates, strikes and running check values (R414, R425, R426) -/

section
variable {s : State}

theorem ceRateCheck_within {kind inst rise : Nat} (within : rise ≤ s.rdF cvug 0x098 15 0) : exec (.ceRateCheck kind inst rise) s = .next s := if_pos within

section
variable {inst rise : Nat} (above : s.rdF cvug 0x098 15 0 < rise)
include above

theorem ceRateCheck_seam : exec (.ceRateCheck 6 inst rise) s
    = .next (if s.seamRuns (inst / 4 % 64) (inst % 4) = true then s else s.startSeam (inst / 4 % 64) (inst % 4)) := by
  change execCeRateCheck 6 inst rise s = _
  rw [execCeRateCheck, if_neg (by omega), if_pos rfl]

/-- A unit of the module or a Room that is above CE_LIMIT is recorded, and a Room's unit counted. -/
theorem ceRateCheck_records {kind : Nat} (unit : kind < 6) : Completes (.ceRateCheck kind inst rise) s fun t => t.mem = s.mem
    ∧ ∃ r, t.flying = s.flying ++ [r] ∧ r.kind = 0 ∧ r.code = (cePage kind inst).1.page.cls * 256 + (cePage kind inst).2 ∧ r.halt = false := by
  have answers : exec (.ceRateCheck kind inst rise) s = execCeRateCheck kind inst rise s := rfl
  rw [execCeRateCheck, if_neg (by omega), if_neg (by omega)] at answers
  dsimp only at answers
  obtain ⟨r, adds, code, its_kind, -, halt⟩ := s.record_adds (cePage kind inst).1 (cePage kind inst).2 0 false false false
    (if kind ≤ 3 ∧ inst < 0x8000 then s.suiteId inst else 0) noRef 0
  refine ⟨_, answers, ?_, r, ?_, its_kind, code, halt⟩
  · split <;> rfl
  · rw [← adds]
    split <;> rfl

end

theorem strikeExpiry_answers (phys : Nat) {w : W64} (hw : w = packStrikes (s.liveStrikes phys)) : exec (.strikeExpiry phys) s
    = .next (if w = s.srvRd phys 0x090 then s else (s.srvWr phys 0x090 w).survTouch false) := by
  subst hw
  rfl

section
variable {room k : Nat} {v : W64} (hr : room < 0x10000) (hk : k < 8)
include hr hk

theorem cvuRunWrite_room : exec (.cvuRunWrite room k v) s
    = .next (if s.dark room = true then s else if (!s.dwRuns room k || s.suiteHalted room) = true then s.wr (rp .cvu room) (0x200 + 8 * k) v
      else (s.captureStep (rp .cvu room) 0x088 (put 63 56 0x08 ||| put 55 52 4 ||| put 51 44 k) 0x090 (s.whereStep room)).raise (rp .cvu room) 7 false) := by
  change execCvuRunWrite room k v s = _
  rw [execCvuRunWrite, if_pos hr, Nat.mod_eq_of_lt hk]

theorem cvuRunWrite_dark (dark : s.dark room = true) : exec (.cvuRunWrite room k v) s = .next s := by
  rw [cvuRunWrite_room hr hk, if_pos dark]

theorem cvuRunWrite_idle (lit : s.dark room = false) (idle : s.dwRuns room k = false ∨ s.suiteHalted room = true) :
    exec (.cvuRunWrite room k v) s = .next (s.wr (rp .cvu room) (0x200 + 8 * k) v) := by
  rw [cvuRunWrite_room hr hk, if_neg (by rw [lit]; exact Bool.false_ne_true), if_pos (by simpa using idle)]

theorem cvuRunWrite_refused (lit : s.dark room = false) (runs : s.dwRuns room k = true) (up : s.suiteHalted room = false) :
    TurnedAway (.cvuRunWrite room k v) s (rp .cvu room) 7 := by
  have answers := cvuRunWrite_room (s := s) (v := v) hr hk
  rw [if_neg (by rw [lit]; exact Bool.false_ne_true), if_neg (by rw [runs, up]; decide)] at answers
  exact ⟨_, answers, State.raise_sets _ false rfl (by decide), by simp⟩

end

section
variable {c k : Nat} {v : W64} (hc : c < 32)
include hc

theorem cvuRunWrite_chute : exec (.cvuRunWrite (0x10000 + c) k v) s
    = .next (if 4 ≤ k ∨ s.lsEn c k = true then (s.capture (cvuxPage (64 + c)) 0x080 (put 63 56 0x02)).raise (cvuxPage (64 + c)) 1 false
      else s.wr (cvuxPage (64 + c)) (0x100 + 8 * k) v) := by
  have unit : (0x10000 + c - 0x10000) % 32 = c := by omega
  change execCvuRunWrite (0x10000 + c) k v s = _
  rw [execCvuRunWrite, if_neg (by omega), unit]

theorem cvuRunWrite_chute_idle (hk : k < 4) (idle : s.lsEn c k = false) :
    exec (.cvuRunWrite (0x10000 + c) k v) s = .next (s.wr (cvuxPage (64 + c)) (0x100 + 8 * k) v) := by
  rw [cvuRunWrite_chute hc, if_neg]
  rintro (far | on)
  · omega
  · rw [idle] at on; cases on

theorem cvuRunWrite_chute_refused (h : 4 ≤ k ∨ s.lsEn c k = true) : TurnedAway (.cvuRunWrite (0x10000 + c) k v) s (cvuxPage (64 + c)) 1 :=
  turned_capture ((cvuRunWrite_chute hc).trans (congrArg _ (if_pos h))) (fun _ => rfl) (by decide)

end

end

/-- Settles O52. Each unit's command is answered by its own cases; judging a Room keeps the group, the answers of Porch firmware keep a result, its event and
its record, and the collector appends one record's words to the log. How a window is judged and what a strike asks for are the model's choices (log entries
64, 65). -/
theorem guardUnits : Obligations.GuardUnits := by
  unfold Obligations.GuardUnits
  refine fun s => ⟨fun i hi => ⟨⟨suiteNoProgress_off hi, fun u => suiteNoProgress_counts hi, fun u => suiteNoProgress_trips hi⟩,
    fun fails => ⟨inspectionWindowEnd_undefined hi, fun u defined => ⟨inspectionWindowEnd_early hi defined, fun window due same =>
      ⟨inspectionWindowEnd_empty hi defined window due same, fun on set unarmed g hg => ⟨?_, fun k r named group failed => ?_⟩⟩⟩⟩⟩,
    fun v signed g hg => ⟨fun wait => ?_, fun go => ⟨inspInstall_good hg go, inspInstall_bad hg go⟩⟩,
    fun v ref fw => ⟨selfTest_busy, selfTest_resolved, selfTest_starts⟩,
    fun result w hw hr => ⟨selftestDone_none hw hr, fun r => selftestDone_waits hw, selftestDone_ends hw hr⟩,
    fun k => ⟨incidentRecord_none, fun r named => ⟨incidentRecord_lost named, incidentRecord_waits named, fun base tail => incidentRecord_logs named⟩⟩,
    fun kind inst rise => ⟨ceRateCheck_within, fun above => ⟨?_, ?_, ceRateCheck_records above⟩⟩,
    fun phys w hw => ⟨fun same => (strikeExpiry_answers phys hw).trans (congrArg _ (if_pos same)), fun less => (strikeExpiry_answers phys hw).trans (congrArg _ (if_neg less))⟩,
    fun room k v hr hk => ⟨cvuRunWrite_dark hr hk, fun lit => ⟨cvuRunWrite_idle hr hk lit, cvuRunWrite_refused hr hk lit⟩⟩,
    fun c k v hc => ⟨cvuRunWrite_chute_idle hc, cvuRunWrite_chute_refused hc⟩⟩
  · rintro rfl
    exact inspectionWindowEnd_clean hi defined window due same on set unarmed hg
  · exact inspectionWindowEnd_fails hi defined window due same on set unarmed hg named group failed
  · rw [hg]
    exact inspInstall_writes wait
  · rintro rfl runs
    rw [ceRateCheck_seam above, if_pos runs]
  · rintro rfl idle
    rw [ceRateCheck_seam above, if_neg (by rw [idle]; exact Bool.false_ne_true)]

end Sys2Proof.Machine

/-! ## What a reset leaves: events raised, records sent, the rectangles of Suites -/

namespace Sys2Proof.Machine

-- One proof at a time: the check's memory limit counts the stack of every thread that waits for an earlier proof.
set_option Elab.async false

/-- What a change to a Suite that ends some of its work keeps: its Rooms, and its rest once it has come to rest. -/
structure Suite.Settles (u v : Suite) : Prop where
  rooms : v.rooms = u.rooms
  rest : u.run = 0 → u.entries = [] → u.load = none → v.run = 0 ∧ v.entries = [] ∧ v.load = none

theorem Suite.Settles.refl (u : Suite) : u.Settles u := ⟨rfl, fun run entries load => ⟨run, entries, load⟩⟩

theorem Suite.Settles.trans {u v w : Suite} (h : u.Settles v) (k : v.Settles w) : u.Settles w :=
  ⟨k.rooms.trans h.rooms, fun run entries load => let ⟨a, b, c⟩ := h.rest run entries load; k.rest a b c⟩

/-- What work that ends leaves, however it ends: the registers that `P` names, events once raised (outside the pages that a Room reset clears, of keys below
`N`), records on their way, which Suites there are and their Rooms, time, the remap, and what the clocks and fences of Wings wait for. -/
structure State.Fading (P : PageRef → Nat → Prop) (N : Nat) (s t : State) : Prop where
  regs : ∀ q o, P q o → t.rd q o = s.rd q o
  event : ∀ q i, 10 < q.page.idx → regKey q 0x028 < N → tst (s.rd q 0x028) i = true → tst (t.rd q 0x028) i = true
  flying : ∀ r, r ∈ s.flying → r ∈ t.flying
  gone : ∀ i, s.suite i = none → t.suite i = none
  kept : ∀ i u, s.suite i = some u → ∃ v, t.suite i = some v ∧ u.Settles v
  et : t.et = s.et
  remap : t.remap = s.remap
  clkStop : t.rim.clkStop = s.rim.clkStop
  fenceAsk : t.rim.fenceAsk = s.rim.fenceAsk

/-- The registers of `P` lie apart from every register of a page. -/
def Apart (P : PageRef → Nat → Prop) (p : PageRef) : Prop := ∀ q o a, P q o → a < 4096 → regKey q o ≠ regKey p a

/-- The registers of `P` lie apart from a Room's pages, and from RSTG. -/
structure Beside (P : PageRef → Nat → Prop) (room : Nat) : Prop where
  page : ∀ pg : Page, pg.inRoom = true → Apart P (rp pg room)
  domain : ∀ q o, P q o → roomDomainKey room (regKey q o) = false
  rstg : Apart P (gp .rstg)

/-- No register at all. -/
def noRegs : PageRef → Nat → Prop := fun _ _ => False

theorem noRegs_apart (p : PageRef) : Apart noRegs p := fun _ _ _ h => h.elim

theorem noRegs_beside (room : Nat) : Beside noRegs room := ⟨fun _ _ => noRegs_apart _, fun _ _ h => h.elim, noRegs_apart _⟩

/-- EVENT is clear at reset in every page. -/
theorem regReset_event (p : Page) : regReset p 0x028 = 0 := by cases p <;> rfl

section
variable {P : PageRef → Nat → Prop} {N : Nat} {s t u : State}

theorem State.Fading.refl : State.Fading P N s s := ⟨fun _ _ _ => rfl, fun _ _ _ _ => id, fun _ => id, fun _ => id, fun _ u h => ⟨u, h, .refl u⟩, rfl, rfl, rfl, rfl⟩

theorem State.Fading.trans (h : State.Fading P N s t) (k : State.Fading P N t u) : State.Fading P N s u where
  regs q o hq := (k.regs q o hq).trans (h.regs q o hq)
  event q i hq low e := k.event q i hq low (h.event q i hq low e)
  flying r hr := k.flying r (h.flying r hr)
  gone i hi := k.gone i (h.gone i hi)
  kept i x hx := by
    obtain ⟨v, hv, settles⟩ := h.kept i x hx
    obtain ⟨w, hw, settles'⟩ := k.kept i v hv
    exact ⟨w, hw, settles.trans settles'⟩
  et := k.et.trans h.et
  remap := k.remap.trans h.remap
  clkStop := k.clkStop.trans h.clkStop
  fenceAsk := k.fenceAsk.trans h.fenceAsk

theorem State.Fading.ite {c : Prop} {_ : Decidable c} (h : State.Fading P N s t) (k : State.Fading P N s u) : State.Fading P N s (if c then t else u) := by
  split
  · exact h
  · exact k

/-- A step taken only under a condition. -/
theorem State.Fading.when {c : Prop} {_ : Decidable c} (h : State.Fading P N s t) : State.Fading P N s (if c then t else s) := h.ite .refl

theorem State.Fading.unless {c : Prop} {_ : Decidable c} (h : State.Fading P N s t) : State.Fading P N s (if c then s else t) := State.Fading.refl.ite h

theorem State.Fading.foldl {α : Type} {f : State → α → State} (l : List α) (h : ∀ t a, State.Fading P N t (f t a)) (s : State) : State.Fading P N s (l.foldl f s) :=
  foldl_keeps (fun t => State.Fading P N s t) f (fun t a _ held => held.trans (h t a)) .refl

/-- A change of what the relation does not speak of. -/
theorem State.Fading.of (regs : t.regs = s.regs) (flying : t.flying = s.flying) (suites : t.suites = s.suites) (et : t.et = s.et) (remap : t.remap = s.remap)
    (clkStop : t.rim.clkStop = s.rim.clkStop) (fenceAsk : t.rim.fenceAsk = s.rim.fenceAsk) : State.Fading P N s t where
  regs q o _ := by rw [State.rd, State.rd, regs]
  event q i _ _ h := by rw [State.rd, regs]; exact h
  flying r hr := by rw [flying]; exact hr
  gone i hi := by rw [State.suite, suites]; exact hi
  kept i x hx := ⟨x, by rw [State.suite, suites]; exact hx, .refl x⟩
  et := et
  remap := remap
  clkStop := clkStop
  fenceAsk := fenceAsk

/-- A register written, other than EVENT. -/
theorem State.Fading.wr (s : State) {p : PageRef} {o : Nat} (v : W64) (apart : Apart P p) (ho : o < 4096 := by decide) (h : o ≠ 0x028 := by decide) :
    State.Fading P N s (s.wr p o v) where
  regs q a hq := s.rd_wr_key v (apart q a o hq ho)
  event q i _ _ e := by rw [s.rd_wr_key v (regKey_offs (by decide) ho (Ne.symm h))]; exact e
  flying _ := id
  gone _ := id
  kept _ x hx := ⟨x, hx, .refl x⟩
  et := rfl
  remap := rfl
  clkStop := rfl
  fenceAsk := rfl

/-- A register beyond the events looked at, whatever its offset. -/
theorem State.Fading.wrBeyond (s : State) {p : PageRef} {o : Nat} (v : W64) (apart : ∀ q a, P q a → regKey q a ≠ regKey p o) (above : N ≤ regKey p o) :
    State.Fading P N s (s.wr p o v) where
  regs q a hq := s.rd_wr_key v (apart q a hq)
  event q i _ low e := by rw [s.rd_wr_key v (Nat.ne_of_lt (lt_of_lt_of_le low above))]; exact e
  flying _ := id
  gone _ := id
  kept _ x hx := ⟨x, hx, .refl x⟩
  et := rfl
  remap := rfl
  clkStop := rfl
  fenceAsk := rfl

theorem State.Fading.wrF (s : State) {p : PageRef} {o : Nat} (hi lo v : Nat) (apart : Apart P p) (ho : o < 4096 := by decide) (h : o ≠ 0x028 := by decide) :
    State.Fading P N s (s.wrF p o hi lo v) := .wr s _ apart ho h

theorem State.Fading.bump (s : State) {p : PageRef} {o : Nat} (hi lo n : Nat) (apart : Apart P p) (ho : o < 4096 := by decide) (h : o ≠ 0x028 := by decide) :
    State.Fading P N s (s.bump p o hi lo n) := .wr s _ apart ho h

theorem State.Fading.capture (s : State) {p : PageRef} {o : Nat} (v : W64) (apart : Apart P p) (ho : o < 4096 := by decide) (h : o ≠ 0x028 := by decide) :
    State.Fading P N s (s.capture p o v) := (State.Fading.wr s _ apart ho h).unless

theorem State.Fading.captureStep (s : State) {p : PageRef} {o a : Nat} (v step : W64) (apart : Apart P p) (ho : o < 4096 := by decide) (h : o ≠ 0x028 := by decide)
    (ha : a < 4096 := by decide) (h' : a ≠ 0x028 := by decide) : State.Fading P N s (s.captureStep p o v a step) :=
  ((State.Fading.wr s _ apart ho h).trans (.wr _ _ apart ha h')).unless

/-- An event raised keeps those of every page, its own among them. -/
theorem State.raise_event (s : State) (p q : PageRef) (bit : Nat) (inj : Bool) {i : Nat} (h : tst (s.rd q 0x028) i = true) :
    tst ((s.raise p bit inj).rd q 0x028) i = true := by
  by_cases same : regKey q 0x028 = regKey p 0x028
  · have reads (t : State) : t.rd q 0x028 = t.rd p 0x028 := by rw [State.rd, State.rd, same, regReset_event, regReset_event]
    rw [reads] at h ⊢
    exact s.raise_keeps inj h
  · rw [s.raise_rd inj same (regKey_offs (by decide) (by decide) (by decide))]
    exact h

theorem State.Fading.raise (s : State) {p : PageRef} (bit : Nat) (inj : Bool) (apart : Apart P p) : State.Fading P N s (s.raise p bit inj) where
  regs q a hq := s.raise_rd inj (apart q a _ hq (by decide)) (apart q a _ hq (by decide))
  event q i _ _ e := s.raise_event p q bit inj e
  flying r hr := by rw [State.raise_flying]; exact hr
  gone i hi := by rw [State.raise_suite]; exact hi
  kept i x hx := ⟨x, by rw [State.raise_suite]; exact hx, .refl x⟩
  et := State.raise_et ..
  remap := State.raise_remap ..
  clkStop := by rw [State.raise_rim]
  fenceAsk := by rw [State.raise_rim]

theorem State.Fading.record (s : State) (p : PageRef) (cause kind : Nat) (injected hand halt : Bool) (suite ref : Nat) (detail : W64) :
    State.Fading P N s (s.record p cause kind injected hand halt suite ref detail) where
  regs _ _ _ := rfl
  event _ _ _ _ := id
  flying _ hr := List.mem_append_left _ hr
  gone _ := id
  kept _ x hx := ⟨x, hx, .refl x⟩
  et := rfl
  remap := rfl
  clkStop := rfl
  fenceAsk := rfl

theorem State.Fading.setSuite (s : State) {i : Nat} {x v : Suite} (defined : s.suite i = some x) (settles : x.Settles v) : State.Fading P N s (s.setSuite i v) where
  regs _ _ _ := rfl
  event _ _ _ _ := id
  flying _ := id
  gone j hj := by
    by_cases e : j = i
    · subst e
      rw [defined] at hj
      cases hj
    · rw [s.suite_setSuite_ne v e]
      exact hj
  kept j y hy := by
    by_cases e : j = i
    · subst e
      rw [defined] at hy
      cases hy
      exact ⟨v, s.suite_setSuite j v, settles⟩
    · exact ⟨y, by rw [s.suite_setSuite_ne v e]; exact hy, .refl y⟩
  et := rfl
  remap := rfl
  clkStop := rfl
  fenceAsk := rfl

theorem State.Fading.modSuite (s : State) (i : Nat) {f : Suite → Suite} (h : ∀ x : Suite, x.Settles (f x)) : State.Fading P N s (s.modSuite i f) := by
  cases defined : s.suite i with
  | none => rw [State.modSuite, defined]; exact .refl
  | some x => rw [s.modSuite_of f defined]; exact .setSuite s defined (h x)

/-- A change of a Suite that leaves its Rooms, what it runs and its entries. -/
theorem Suite.Settles.of {u v : Suite} (rooms : v.rooms = u.rooms) (run : v.run = u.run) (entries : u.entries = [] → v.entries = [])
    (load : u.load = none → v.load = none) : u.Settles v :=
  ⟨rooms, fun r e l => ⟨run.trans r, entries e, load l⟩⟩

theorem State.Fading.sendHalt (s : State) (i room slot code : Nat) : State.Fading P N s (s.sendHalt i room slot code) :=
  .modSuite s i fun x => by
    split
    · exact .refl x
    · exact .of rfl rfl id id

theorem State.Fading.stallRelease (s : State) (i cause src : Nat) : State.Fading P N s (s.stallRelease i cause src) := .modSuite s i fun _ => .of rfl rfl id id

theorem State.Fading.modRoom (s : State) (room : Nat) (f : RoomSt → RoomSt) : State.Fading P N s (s.modRoom room f) := .of rfl rfl rfl rfl rfl rfl rfl

theorem State.Fading.setBrick (s : State) (room b : Nat) (x : Brick) : State.Fading P N s (s.setBrick room b x) := .of rfl rfl rfl rfl rfl rfl rfl

theorem State.Fading.modBrick (s : State) (room b : Nat) (f : Brick → Brick) : State.Fading P N s (s.modBrick room b f) := .of rfl rfl rfl rfl rfl rfl rfl

theorem State.Fading.setRestart (s : State) (i : Nat) (r : Restart) (apart : Apart P (gp .swpg)) : State.Fading P N s (s.setRestart i r) :=
  .trans (t := { s with rim := { s.rim with restarts := smSet .idle s.rim.restarts i r } }) (.of rfl rfl rfl rfl rfl rfl rfl) (.wr (o := 0x088) _ _ apart)


/-! ### Latches whose waiters are lost -/

theorem State.Fading.setLatch (s : State) (room n : Nat) (l : Latch) : State.Fading P N s (s.setLatch room n l) := .modRoom ..

theorem State.Fading.hearthRet (s : State) (room rd : Nat) (v : W64) : State.Fading P N s (s.hearthRet room rd v) := .modRoom ..

theorem State.Fading.inject (s : State) (room : Nat) (p : Pkt) : State.Fading P N s (s.inject room p) := .of rfl rfl rfl rfl rfl rfl rfl

theorem State.Fading.endWait (s : State) (room n : Nat) (w : Wait) (outcome : Nat) : State.Fading P N s (s.endWait room n w outcome) := by
  unfold State.endWait
  cases w.who with
  | brick b =>
    refine (State.Fading.modBrick s room b fun x => { x with lwait := .ended }).trans ?_
    dsimp only
    split
    · split
      · exact State.Fading.when (.stallRelease ..)
      · exact .refl
    · exact .refl
  | hearth r rd => exact .hearthRet ..
  | remote k src tag => exact .inject ..
  | stream i =>
    refine .modSuite _ _ fun x => .of rfl rfl (fun entries => ?_) id
    dsimp only
    rw [entries]
  | chute c => exact .of rfl rfl rfl rfl rfl rfl rfl

theorem State.Fading.endWaits (s : State) (room n outcome : Nat) (ws : List Wait) : State.Fading P N s (s.endWaits room n outcome ws) := by
  induction ws generalizing s with
  | nil => exact .refl
  | cons w ws ih => exact (State.Fading.endWait s room n w outcome).trans (ih _)

variable {room : Nat}

theorem State.Fading.lchEvent (s : State) (bit : Nat) (w : W64) (hand inj : Bool) (far : Apart P (rp .lch room)) :
    State.Fading P N s (s.lchEvent room bit w false hand inj) :=
  ((State.Fading.captureStep s w _ far (o := 0x080) (a := 0x088)).trans (.raise _ bit inj far)).trans (.when (.record ..))

theorem State.Fading.loseWaits (s : State) (n : Nat) (far : Apart P (rp .lch room)) : State.Fading P N s (s.loseWaits room n) :=
  ((State.Fading.setLatch s room n _).trans (.foldl _ (fun t _ => (State.Fading.bump t 31 16 1 far (o := 0x0B8)).trans (.lchEvent _ _ _ _ _ far)) _)).trans
    (.endWaits ..)

/-! ### The units of a Room stopped, and its domain without power (R19, R581) -/

theorem State.Fading.loseRemote (s : State) (far : Apart P (rp .lch room)) : State.Fading P N s (s.loseRemote room) :=
  .foldl _ (fun t n => (State.Fading.setLatch t room n _).trans (.loseWaits _ n far)) _

theorem State.Fading.hearthUnwait (s : State) (room : Nat) : State.Fading P N s (s.hearthUnwait room) := by
  refine .trans (t := { s with glatch := s.glatch.foldl (fun (m : SMap Latch) (e : Nat × Latch) =>
    smSet Latch.clear m e.1 { e.2 with waits := e.2.waits.filter fun w => match w.who with | Waiter.hearth r _ => decide (r ≠ room) | _ => true }) s.glatch })
    (.of rfl rfl rfl rfl rfl rfl rfl) (.when (.modSuite _ _ fun x => .of rfl rfl (fun entries => ?_) id))
  dsimp only
  rw [entries]
  rfl

theorem State.Fading.stWord (s : State) (a : Nat) (v : W64) : State.Fading P N s (s.stWord a v) :=
  .of (by simp) (by simp) (by simp) (by simp) (by simp) (by simp) (by simp)

theorem State.Fading.dwAbort (s : State) (q : Nat) (far : Apart P (rp .dwt room)) : State.Fading P N s (s.dwAbort room q) :=
  .foldl _ (fun t _ => ((State.Fading.stWord t _ _).trans (.capture _ _ far (o := 0x088))).trans (.raise _ _ _ far)) _

theorem State.Fading.stopUnits (s : State) (far : Beside P room) : State.Fading P N s (s.stopUnits room) := by
  have waits := (State.Fading.loseRemote (N := N) s (far.page .lch rfl)).trans (.hearthUnwait (P := P) (N := N) _ room)
  have aborts := State.Fading.foldl (N := N) (f := fun s q => s.dwAbort room q) (List.range 8) (fun t q => .dwAbort t q (far.page .dwt rfl)) ((s.loseRemote room).hearthUnwait room)
  have left (t : State) (pkts : List Flight) (outst : List Outst) : State.Fading P N t { t with pkts, outst } := .of rfl rfl rfl rfl rfl rfl rfl
  exact (waits.trans aborts).trans ((State.Fading.modRoom _ room _).trans (left _ _ _))

/-- A Room's own registers dropped: no page beyond the Room domain loses one. -/
theorem State.Fading.drop (s : State) (far : Beside P room) : State.Fading P N s { s with
    regs := smDrop (roomDomainKey room) s.regs, armed := smDrop (roomDomainKey room) s.armed, injLat := smDrop (roomDomainKey room) s.injLat } where
  regs q o hq := by
    rw [State.rd, State.rd, smDrop_gets, far.domain q o hq]
    rfl
  event q i hq _ h := by
    have outside : roomDomainKey room (regKey q 0x028) = false := by
      unfold roomDomainKey regKey
      rw [decide_eq_false (by omega), Bool.false_and]
    rw [State.rd, smDrop_gets, outside]
    exact h
  flying _ := id
  gone _ := id
  kept _ x hx := ⟨x, hx, .refl x⟩
  et := rfl
  remap := rfl
  clkStop := rfl
  fenceAsk := rfl

/-- What a list of kept registers may name. -/
def KeptRow (e : Page × Nat × W64) : Prop := e.1.inRoom = true ∧ e.2.1 < 4096 ∧ e.2.1 ≠ 0x028

theorem State.Fading.clearRegs (s : State) {kept : List (Page × Nat × W64)} (far : Beside P room) (rows : ∀ e, e ∈ kept → KeptRow e) :
    State.Fading P N s (s.clearRegs room kept) := by
  unfold State.clearRegs
  refine foldl_keeps (fun t => State.Fading P N s t) _ (fun t e he held => ?_) (.drop s far)
  obtain ⟨inRoom, low, other⟩ := rows e he
  exact held.trans (.wr _ _ (far.page e.1 inRoom) low other)

theorem State.Fading.rstEvent (s : State) (bit cause scope b : Nat) (inj : Bool) (far : Beside P room) :
    State.Fading P N s (s.rstEvent room bit cause scope b inj) :=
  (State.Fading.capture s _ (far.page .rst rfl) (o := 0x098)).trans (.raise _ _ _ (far.page .rst rfl))

theorem State.Fading.darkOut (s : State) (far : Beside P room) : State.Fading P N s (s.darkOut room) :=
  .unless (((State.Fading.bump s 63 32 _ (far.page .brk rfl) (o := 0x0A8)).trans (.raise _ _ _ (far.page .brk rfl))).trans (.modRoom ..))

theorem State.Fading.suiteReleased (s : State) (i : Nat) (far : Apart P (gp .rstg)) : State.Fading P N s (s.suiteReleased i) := by
  have out : State.Fading P N s (s.modSuite i fun u => { u with inReset := false }) := .modSuite s i fun _ => .of rfl rfl id id
  have shown (t : State) (v : W64) : State.Fading P N t (t.wr (gp .rstg) 0x098 v) := .wr t v far
  have told (t : State) (v : W64) : State.Fading P N t ((t.capture (gp .rstg) 0x0A8 v).raise (gp .rstg) 0 false) := (State.Fading.capture t v far).trans (.raise _ _ _ far)
  exact (out.trans (shown _ _)).trans (told _ _)

theorem State.Fading.resetDone (s : State) (far : Beside P room) : State.Fading P N s (s.resetDone room) := by
  have rstPage := far.page .rst rfl
  have out := (((State.Fading.wrF (N := N) s 63 61 0 rstPage (o := 0x088)).trans (.modRoom _ room fun r => { r with resetAt := none })).trans
    (.bump _ 63 48 1 rstPage (o := 0x090))).trans ((State.Fading.rstEvent _ 0 0x01 (s.rdF (rst room) 0x088 60 59) 0 false far).trans (.darkOut _ far))
  unfold State.resetDone
  dsimp only
  split
  · exact out
  · split
    · exact out.trans (.when (.suiteReleased _ _ far.rstg))
    · exact out

/-- The registers that a Room domain without power keeps. -/
theorem powerLost_rows (e : Page × Nat × W64) (he : e ∈ [(Page.dmp, 0x088, maskOf 63 0), (.dmp, 0x090, maskOf 63 0), (.brk, 0x080, maskOf 63 0), (.shf, 0x080, maskOf 15 8)]) :
    KeptRow e := by
  simp only [List.mem_cons, List.not_mem_nil, or_false] at he
  rcases he with rfl | rfl | rfl | rfl <;> exact ⟨rfl, by decide, by decide⟩

theorem State.Fading.runValues (s : State) (far : Beside P room) : State.Fading P N s ((List.range 8).foldl (fun s q => s.wr (rp .cvu room) (0x200 + 8 * q) 0) s) :=
  foldl_keeps (fun t => State.Fading P N s t) _ (fun _ q hq held => held.trans
    (.wr _ _ (far.page .cvu rfl) (by have := List.mem_range.mp hq; omega) (by omega))) .refl

theorem State.Fading.arrivals (s : State) (far : Beside P room) :
    State.Fading P N s ((List.range 4).foldl (fun s k => (s.wr (rp .flu room) (0x0C0 + 8 * k) 0).wr (rp .flu room) (0x0E0 + 8 * k) 0) s) :=
  foldl_keeps (fun t => State.Fading P N s t) _ (fun _ k hk held => by
    have := List.mem_range.mp hk
    exact held.trans ((State.Fading.wr _ _ (far.page .flu rfl) (by omega) (by omega)).trans (.wr _ _ (far.page .flu rfl) (by omega) (by omega)))) .refl

theorem State.Fading.powerLost (s : State) (far : Beside P room) : State.Fading P N s (s.powerLost room) := by
  have bricks (t : State) : State.Fading P N t ((List.range 64).foldl (fun s b => if s.brick room b = .empty then s else s.setBrick room b (s.brick room b).powerOff) t) :=
    .foldl _ (fun t b => State.Fading.unless (.setBrick ..)) t
  have regs := ((State.Fading.stopUnits (N := N) s far).trans (bricks _)).trans ((State.Fading.clearRegs _ far powerLost_rows).trans ((State.Fading.runValues _ far).trans (.arrivals _ far)))
  have memory (t : State) (m : SMap Byte) : State.Fading P N t { t with mem := m } := .of rfl rfl rfl rfl rfl rfl rfl
  exact (regs.trans ((memory _ _).trans (.modRoom _ room _))).trans (.when (.resetDone _ far))

end

end Sys2Proof.Machine

/-! ## What a Suite reset leaves -/

namespace Sys2Proof.Machine

-- One proof at a time: the check's memory limit counts the stack of every thread that waits for an earlier proof.
set_option Elab.async false

/-- The relation of a Suite reset: no register is looked at but EVENT of the pages before DMPG, whose keys no offset of a Suite reaches. -/
abbrev State.Fades (s t : State) : Prop := State.Fading noRegs (2 ^ 32 * 41) s t

section
variable {s t : State} {N : Nat}

theorem State.Fading.noted (s : State) {p : PageRef} {o : Nat} (v : W64) (bit : Nat) (inj : Bool) (ho : o < 4096 := by decide) (h : o ≠ 0x028 := by decide) :
    State.Fades s ((s.capture p o v).raise p bit inj) :=
  (State.Fading.capture s v (noRegs_apart _) ho h).trans (.raise _ _ _ (noRegs_apart _))

/-! ### Rails and rate switches -/

theorem State.Fading.setDrops (s : State) (w : Nat) : State.Fades s (s.setDrops w) :=
  .foldl (f := fun s r => s.wrF (pwr r) 0x088 23 16 _) _ (fun _ _ => .wrF _ _ _ _ (noRegs_apart _)) s

theorem State.Fading.moveRail (s : State) (w rate : Nat) : State.Fades s (s.moveRail w rate) := by
  have named : State.Fades s (s.wrF (pwrw w) 0x088 15 0 (vnom (s.wingRate w)).toNat) := .wrF _ _ _ _ (noRegs_apart _)
  unfold State.moveRail
  dsimp only
  split
  · exact named.trans (.setDrops _ w)
  · exact named.trans (.of rfl rfl rfl rfl rfl rfl rfl)

theorem State.Fading.setRateSw (s : State) (i : Nat) (w : Option RateSw) : State.Fades s (s.setRateSw i w) := .of rfl rfl rfl rfl rfl rfl rfl

/-- A register of a Suite in CLKG or DMPG. -/
theorem State.Fading.suiteReg (s : State) (i base hi lo v : Nat) {pg : Page} (hp : 41 ≤ pg.idx) : State.Fades s (s.wrF (gp pg) (base + 8 * i) hi lo v) :=
  .wrBeyond s _ (fun _ _ h => h.elim) (by unfold regKey gp; dsimp only; omega)

theorem State.Fading.clkgEvent (s : State) (bit cause detail suite : Nat) (inj : Bool) : State.Fades s (s.clkgEvent bit cause detail suite inj) := .noted s _ _ _

theorem State.Fading.switchRefused (s : State) (i detail : Nat) (inj : Bool) : State.Fades s (s.switchRefused i detail inj) :=
  (State.Fading.clkgEvent s ..).trans (.suiteReg _ i 0x400 _ _ _ (by decide))

theorem State.Fading.switchAbandon (s : State) (i : Nat) (u : Suite) : State.Fades s (s.switchAbandon i u) :=
  ((State.Fading.setRateSw s i none).trans (.switchRefused ..)).trans
    (.foldl _ (fun _ _ => (State.Fading.wr _ _ (noRegs_apart _) (o := 0x080)).trans (.moveRail ..)) _)

theorem State.Fading.switchEnd {u : Suite} (defined : s.suite i = some u) (rate : Nat) : State.Fades s (s.switchEnd i u rate) := by
  have rated : State.Fades s (s.setSuite i { u with rate }) := .setSuite s defined (.of rfl rfl id id)
  have relocked (t : State) (w : Nat) (a b : W64) : State.Fades t (((t.wr (clkw w) 0x080 a).wr (clkw w) 0x080 b).bump (clkw w) 0x088 63 32 1) :=
    ((State.Fading.wr t a (noRegs_apart _)).trans (.wr _ b (noRegs_apart _))).trans (.bump _ _ _ _ (noRegs_apart _))
  unfold State.switchEnd
  refine ((rated.trans (.setRateSw ..)).trans (.foldl _ (fun t w => ?_) _)).trans ((State.Fading.suiteReg _ i 0x400 _ _ _ (by decide)).trans (.clkgEvent ..))
  exact (relocked t w _ _).trans ((State.Fading.moveRail ..).ite (.wrF _ _ _ _ (noRegs_apart _)))

theorem State.Fading.finishSwitch (s : State) (i : Nat) : State.Fades s (s.finishSwitch i) := by
  unfold State.finishSwitch
  split
  · next u w defined _ => exact (State.Fading.switchEnd defined _).ite (.switchAbandon ..)
  · exact .refl

/-! ### The command stream, the checkpoint and the job -/

theorem State.Fading.csShow (s : State) (i : Nat) : State.Fades s (s.csShow i) := by
  unfold State.csShow
  split
  · exact .refl
  · refine .unless ?_
    split
    · exact (State.Fading.wrF s _ _ _ (noRegs_apart _) (o := 0x0C0)).trans (.wr _ _ (noRegs_apart _) (o := 0x0C8))
    · exact ((State.Fading.wrF s _ _ _ (noRegs_apart _) (o := 0x0C0)).trans (.wrF _ _ _ _ (noRegs_apart _) (o := 0x0C0))).trans
        (.wr _ _ (noRegs_apart _) (o := 0x0C8))

theorem State.Fading.csPop (s : State) (i : Nat) : State.Fades s (s.csPop i) := by
  unfold State.csPop
  split
  · exact .refl
  · next u defined =>
    split
    · exact .refl
    · next e l entries =>
      have popped : State.Fades s (s.modSuite i fun u => { u with entries := l }) := by
        rw [s.modSuite_of _ defined]
        exact .setSuite s defined ⟨rfl, fun _ none _ => by rw [entries] at none; cases none⟩
      refine popped.trans (.trans ?_ (.csShow ..))
      split
      · exact .when (.hearthRet ..)
      · exact .wr _ _ (noRegs_apart _)

theorem State.Fading.ckptEntryDone (s : State) (i : Nat) : State.Fades s (s.ckptEntryDone i) := by
  unfold State.ckptEntryDone
  split
  · split
    · exact .when (.csPop ..)
    · exact .refl
  · exact .refl

theorem State.Fading.swpFail (s : State) (i cause : Nat) (inj : Bool) : State.Fades s (s.swpFail i cause inj) := .noted s _ _ _

theorem State.Fading.sweepHalted (s : State) (i : Nat) : State.Fades s (s.sweepHalted i) := by
  unfold State.sweepHalted
  split
  · exact .refl
  · exact .unless (.trans (.when (.swpFail ..)) (.modSuite _ _ fun _ => .of rfl rfl id id))

theorem State.Fading.setYctx (s : State) (n : Nat) (x : YCtx) : State.Fades s (s.setYctx n x) := .of rfl rfl rfl rfl rfl rfl rfl

theorem State.Fading.yazCtl (s : State) (n mtype : Nat) (data : List Byte) : State.Fades s (s.yazCtl n mtype data) := .when (.setYctx ..)

theorem State.Fading.haltForJob (s : State) (code et i : Nat) : State.Fades s (s.haltForJob code et i) := by
  unfold State.haltForJob
  split
  · exact .refl
  · exact (State.Fading.sendHalt s ..).trans (.unless (.setRestart _ _ _ (noRegs_apart _)))

theorem State.Fading.haltJob (s : State) (job round code et : Nat) : State.Fades s (s.haltJob job round code et) :=
  .foldl _ (fun t i => (State.Fading.haltForJob t code et i).trans
    (.wrF _ _ _ _ (noRegs_apart _) (by unfold swpgSuite; omega) (by unfold swpgSuite; omega))) s

theorem State.Fading.startJobHalt (s : State) (i code et : Nat) : State.Fades s (s.startJobHalt i code et) :=
  (State.Fading.haltJob s ..).trans (.foldl _ (fun _ _ => State.Fading.when (.yazCtl ..)) _)


/-! ### What a Suite reset takes away: global Latches, Chutes, Yazal contexts, a load (R585) -/

theorem State.Fading.lchgEvent (s : State) (n bit : Nat) (w : W64) (hand inj : Bool) : State.Fades s (s.lchgEvent n bit w false hand inj) := by
  have noted : State.Fades s ((s.capture (glPage n) 0x080 w).raise (glPage n) bit inj) := .noted s w bit inj
  unfold State.lchgEvent
  dsimp only
  split <;> exact noted.trans (.when (.record ..))

theorem State.Fading.setGl (s : State) (n : Nat) (l : Latch) : State.Fades s (s.setGl n l) := .of rfl rfl rfl rfl rfl rfl rfl

theorem State.Fading.gLose (s : State) (n : Nat) (disable : Bool) : State.Fades s (s.gLose n disable) := by
  have told : State.Fades s ((s.gl n).waits.foldl (fun s w =>
      (s.bump (glPage n) 0x0A0 31 16 1).lchgEvent n 2 (lchWhere 0x03 n 0 w.who.kindId.1 w.who.kindId.2 (w.who.roomOr 0)) false false false) s) :=
    .foldl _ (fun t _ => (State.Fading.bump t 31 16 1 (noRegs_apart _)).trans (.lchgEvent ..)) s
  have disabled (t : State) : State.Fades t (t.wrF (glPage n) (0x400 + 24 * (n % 128)) 63 62 0) := .wrF t _ _ _ (noRegs_apart _) (by omega) (by omega)
  exact (told.trans (.setGl ..)).trans (.trans (.when (disabled _)) (.endWaits ..))

theorem State.Fading.setChute (s : State) (c : Nat) (x : ChuSt) : State.Fades s (s.setChute c x) := .of rfl rfl rfl rfl rfl rfl rfl

theorem State.Fading.chuState (s : State) (c st : Nat) : State.Fades s (s.chuState c st) := .wrF s _ _ _ (noRegs_apart _)

theorem State.Fading.slotReset (s : State) (c j : Nat) (hj : j < 4) : State.Fades s (s.slotReset c j) :=
  .when ((State.Fading.yazCtl s ..).trans (.wrF _ _ _ _ (noRegs_apart _) (by omega) (by omega)))

theorem State.Fading.chuReset (s : State) (c : Nat) : State.Fades s (s.chuReset c) := by
  have slots : State.Fades s ((List.range 4).foldl (fun s j => s.slotReset c j) s) :=
    foldl_keeps (fun t => State.Fades s t) _ (fun t j hj held => held.trans (.slotReset t c j (List.mem_range.mp hj))) .refl
  have disabled (t : State) : State.Fades t (t.wrF (chuP c) 0x080 63 63 0) := .wrF t _ _ _ (noRegs_apart _)
  have shown (t : State) : State.Fades t (t.chuShow c) := .wrF t _ _ _ (noRegs_apart _)
  exact (slots.trans ((disabled _).trans (.chuState ..))).trans ((State.Fading.setChute ..).trans (shown _))

theorem State.Fading.drawn (s : State) : State.Fades s s.drawNat.1 := .of rfl rfl rfl rfl rfl rfl rfl

theorem State.Fading.stallReq (s : State) (i cause src len : Nat) : State.Fades s (s.stallReq i cause src len) := .modSuite s i fun _ => .of rfl rfl id id

theorem State.Fading.chuStallMsg (s : State) (c : Nat) (release : Bool) : State.Fades s (s.chuStallMsg c release) :=
  ((State.Fading.stallRelease ..).ite (.stallReq ..)).ite ((State.Fading.drawn s).trans (.modSuite _ _ fun _ => .of rfl rfl id id))

theorem State.Fading.chuUnstall (s : State) (c : Nat) : State.Fades s (s.chuUnstall c) := by
  unfold State.chuUnstall
  split
  · exact (State.Fading.wr s _ (noRegs_apart _) (o := 0x0C0)).trans (.chuStallMsg ..)
  · exact .refl

theorem State.Fading.chuFed (s : State) (c : Nat) : State.Fades s (s.chuFed c) := (State.Fading.chuUnstall s c).trans (.unless (.setChute ..))

theorem State.Fading.chuHalt (s : State) (c code : Nat) : State.Fades s (s.chuHalt c code) :=
  (State.Fading.sendHalt ..).ite ((State.Fading.drawn s).trans (.modSuite _ _ fun x => by
    split
    · exact .refl x
    · exact .of rfl rfl id id))

theorem State.Fading.chuFail (s : State) (c bit detail index stream : Nat) (inj : Bool) : State.Fades s (s.chuFail c bit detail index stream inj) := by
  have noted : State.Fades s ((s.capture (chuP c) 0x0B0 (chuWhere (bit + 1) detail index stream)).raise (chuP c) bit inj) := .noted s _ _ _
  have stopped (t : State) (code : Nat) : State.Fades t (t.chuStop c code) := ((State.Fading.chuState t c 3).trans (.chuFed ..)).trans (.chuHalt ..)
  exact (noted.trans (.record ..)).trans (stopped _ _)

theorem State.Fading.larderGone (s : State) (n : Nat) : State.Fades s (s.larderGone n) := by
  have lost (t : State) (c j : Nat) (hj : j < 4) : State.Fades t (t.larderLost c j false) :=
    (State.Fading.wrF t _ _ _ (noRegs_apart _) (by omega) (by omega)).trans (.chuFail ..)
  exact .foldl _ (fun t c => foldl_keeps (fun r => State.Fades t r) _ (fun r j hj held => held.trans (.when (lost r c j (List.mem_range.mp hj)))) .refl) s

/-- The mirrors that a Suite still runs. -/
theorem State.Fading.mirrors (s : State) (l : List Nat) : State.Fades s { s with rim := { s.rim with mirror := l } } := .of rfl rfl rfl rfl rfl rfl rfl

theorem State.Fading.mirrorLost (s : State) (n : Nat) : State.Fades s (s.mirrorLost n) :=
  .foldl _ (fun t _ => .when ((State.Fading.mirrors t _).trans (.noted _ _ _ _))) s

theorem State.Fading.peers (s : State) (m : SMap DrPeer) : State.Fades s { s with rim := { s.rim with peers := m } } := .of rfl rfl rfl rfl rfl rfl rfl

theorem State.Fading.draughtLost (s : State) (n : Nat) : State.Fades s (s.draughtLost n) :=
  .foldl _ (fun t _ => .when ((State.Fading.peers t _).trans (.unless ((State.Fading.bump _ _ _ _ (noRegs_apart _)).trans (.raise _ _ _ (noRegs_apart _)))))) s

theorem State.Fading.yazFail (s : State) (n cause : Nat) (inj : Bool) : State.Fades s (s.yazFail n cause inj) := by
  have noted (t : State) : State.Fades t ((t.capture (yzl (homeOf n)) 0x080 (put 63 56 0x01 ||| put 51 32 n)).raise (yzl (homeOf n)) 0 inj) := .noted t _ _ _
  have learnt (t : State) : State.Fades t (((t.larderGone n).mirrorLost n).draughtLost n) :=
    ((State.Fading.larderGone t n).trans (.mirrorLost ..)).trans (.draughtLost ..)
  exact .unless (((State.Fading.setYctx s n _).trans (noted _)).trans ((learnt _).trans (.when (.startJobHalt ..))))

theorem State.Fading.sendFrame (s : State) (p prio : Nat) (b : List Byte) : State.Fades s (s.sendFrame p prio b) :=
  .unless (State.Fading.ite (.of rfl rfl rfl rfl rfl rfl rfl) (.of rfl rfl rfl rfl rfl rfl rfl))

theorem State.Fading.yazReset (s : State) (n port dst epoch reason : Nat) : State.Fades s (s.yazReset n port dst epoch reason) :=
  (State.Fading.wr s _ (noRegs_apart _) (o := 0x100)).trans (.sendFrame ..)

theorem State.Fading.ctxReset (s : State) (n : Nat) : State.Fades s (s.ctxReset n) := by
  have failed (t : State) : State.Fades t ((t.yazFail n 8 false).modYctx n fun x => { x with sent := [], ctl := [], descs := [] }) :=
    (State.Fading.yazFail t n 8 false).trans (.setYctx ..)
  unfold State.ctxReset
  dsimp only
  refine .unless (.trans ?_ (failed _))
  split
  · exact .when (.yazReset ..)
  · exact .refl

theorem State.Fading.abandonRoom (s : State) (room : Nat) (l : LoadSt) : State.Fades s (s.abandonRoom room l) := by
  unfold State.abandonRoom
  split
  · exact .refl
  · exact (State.Fading.modRoom s room _).trans (.unless (.foldl _ (fun _ _ => .unless (.modBrick ..)) _))

theorem State.Fading.abandonLoad (s : State) (i : Nat) : State.Fades s (s.abandonLoad i) := by
  unfold State.abandonLoad
  split
  · exact .refl
  · split
    · exact .refl
    · exact (State.Fading.foldl _ (fun t r => .abandonRoom t r _) s).trans (.modSuite _ _ fun _ => .of rfl rfl id fun _ => rfl)

theorem Suite.cleared_settles (u : Suite) : u.Settles u.cleared := ⟨rfl, fun _ _ _ => ⟨rfl, rfl, rfl⟩⟩

/-- What a Suite reset takes of what lies outside the Suite: its claims at global Latches, its Chutes, its contexts, its load and its budget. -/
def State.suiteFreed (s : State) (i : Nat) : State :=
  let s := (List.range 256).foldl (fun s n => if s.glCfg n 63 62 ≠ 0 ∧ s.glCfg n 59 54 = i ∧ s.gGranted n i then s.gLose n true else s) s
  let s := (List.range 32).foldl (fun s c => if s.chuSuite c = i then s.chuReset c else s) s
  let s := (s.rim.ctxs.map Prod.fst).foldl (fun s n => if (s.yctx n).suite = i then s.ctxReset n else s) s
  (s.abandonLoad i).wrF (gp .dmpg) (0x408 + 16 * i) 63 61 0

theorem State.suiteWide_form (s : State) (i : Nat) : s.suiteWide i = ((s.suiteFreed i).modSuite i Suite.cleared).setRestart i .idle := rfl

theorem State.Fading.suiteFreed (s : State) (i : Nat) : State.Fades s (s.suiteFreed i) := by
  have latches : State.Fades s ((List.range 256).foldl (fun s n => if s.glCfg n 63 62 ≠ 0 ∧ s.glCfg n 59 54 = i ∧ s.gGranted n i then s.gLose n true else s) s) :=
    .foldl _ (fun t n => .when (.gLose t n true)) s
  have chutes (t : State) : State.Fades t ((List.range 32).foldl (fun s c => if s.chuSuite c = i then s.chuReset c else s) t) :=
    .foldl _ (fun t c => .when (.chuReset t c)) t
  have ctxs (t : State) (l : List Nat) : State.Fades t (l.foldl (fun s n => if (s.yctx n).suite = i then s.ctxReset n else s) t) :=
    .foldl _ (fun t n => .when (.ctxReset t n)) t
  have budget (t : State) : State.Fades t (t.wrF (gp .dmpg) (0x408 + 16 * i) 63 61 0) := .wrBeyond t _ (fun _ _ h => h.elim) (by unfold regKey gp; simp only [Page.idx]; omega)
  exact ((latches.trans (chutes _)).trans (ctxs _ _)).trans ((State.Fading.abandonLoad ..).trans (budget _))

theorem State.Fading.suiteWide (s : State) (i : Nat) : State.Fades s (s.suiteWide i) := by
  have cleared (t : State) : State.Fades t ((t.modSuite i Suite.cleared).setRestart i .idle) :=
    (State.Fading.modSuite t i Suite.cleared_settles).trans (.setRestart _ _ _ (noRegs_apart _))
  exact (State.Fading.suiteFreed s i).trans (cleared _)

/-! ### Room resets and Suite resets -/

theorem State.Fading.clearBrick (s : State) (room b : Nat) : State.Fading noRegs N s (s.clearBrick room b) := by
  have waits (t : State) : State.Fading noRegs N t (t.dropBrickWaits room b) := .foldl _ (fun t n => .when (.setLatch t room n _)) t
  have counted (n : Nat) : State.Fading noRegs N s (s.bump (rst room) 0x090 31 16 n) := .bump s _ _ _ (noRegs_apart _)
  have cleared (t : State) (x : Brick) (f : RoomSt → RoomSt) : State.Fading noRegs N t (((t.setBrick room b x).dropBrickWaits room b).modRoom room f) :=
    ((State.Fading.setBrick ..).trans (waits _)).trans (.modRoom ..)
  unfold State.clearBrick
  exact (counted _).trans (cleared _ _ _)

theorem State.Fading.csStopNow (s : State) (i cause : Nat) (inj : Bool) : State.Fading noRegs N s (s.csStopNow i cause inj) := by
  have told (p : PageRef) (v : W64) : State.Fading noRegs N s (((s.wr p 0x0C0 v).raise p 2 inj).modSuite i fun u => { u with entries := [] }) :=
    ((State.Fading.wr s v (noRegs_apart _)).trans (.raise _ _ _ (noRegs_apart _))).trans (.modSuite _ _ fun _ => .of rfl rfl (fun _ => rfl) id)
  unfold State.csStopNow
  split
  · exact .refl
  · dsimp only
    split
    · exact (told _ _).trans (.hearthRet ..)
    · exact told _ _

theorem State.Fading.loadLeft (s : State) (room i : Nat) : State.Fading noRegs N s (s.loadLeft room i) :=
  .modSuite s i fun x => by
    split
    · exact .refl x
    · next l loads =>
      have busy : ¬ x.load = none := by rw [loads]; exact Option.some_ne_none l
      split
      · exact ⟨rfl, fun _ _ idle => absurd idle busy⟩
      · exact ⟨rfl, fun _ _ idle => absurd idle busy⟩

/-- The registers that a Room reset keeps are registers of the Room's pages, EVENT not among them. -/
theorem keptRegs_rows : ∀ e, e ∈ keptRegs → KeptRow e := by
  intro e he
  simp only [keptRegs, List.mem_append, List.mem_flatMap, List.mem_range, List.mem_cons, List.not_mem_nil, or_false] at he
  rcases he with ((named | ⟨w, hw, rfl | rfl⟩) | ⟨c, hc, rfl | rfl | rfl⟩) | ⟨p, hp, rfl | rfl | rfl⟩
  · rcases named with rfl | rfl | rfl | rfl | rfl | rfl | rfl | rfl | rfl | rfl | rfl | rfl | rfl <;> exact ⟨rfl, by decide, by decide⟩
  all_goals exact ⟨rfl, by simp only [txA, rxA, stpOff]; omega, by simp only [txA, rxA, stpOff]; omega⟩

theorem State.Fading.clearRoom (s : State) (room : Nat) : State.Fading noRegs N s (s.clearRoom room) := by
  have bricks : State.Fading noRegs N s ((List.range 64).foldl (fun s b => if s.brick room b = .empty then s else s.clearBrick room b) s) :=
    .foldl _ (fun t b => .unless (.clearBrick t room b)) s
  have rings (t : State) : State.Fading noRegs N t ((List.range 64).foldl (fun s r => s.wrF (rp .chn room) (rxA r) 63 62 2) t) :=
    foldl_keeps (fun r => State.Fading noRegs N t r) _ (fun r k hk held => by
      have := List.mem_range.mp hk
      exact held.trans (.wrF r _ _ _ (noRegs_apart _) (by unfold rxA; omega) (by unfold rxA; omega))) .refl
  have regs (t : State) : State.Fading noRegs N t (t.clearRegs room keptRegs) := .clearRegs t (noRegs_beside room) keptRegs_rows
  have rest (t : State) (f : RoomSt → RoomSt) : State.Fading noRegs N t ((((List.range 4).foldl (fun s k => (s.wr (rp .flu room) (0x0C0 + 8 * k) 0).wr (rp .flu room) (0x0E0 + 8 * k) 0)
      ((List.range 8).foldl (fun s q => s.wr (rp .cvu room) (0x200 + 8 * q) 0) t))).modRoom room f) :=
    ((State.Fading.runValues t (noRegs_beside room)).trans (.arrivals _ (noRegs_beside room))).trans (.modRoom ..)
  have out := ((bricks.trans (regs _)).trans (rings _)).trans (rest _ fun r =>
    { r with hasArr := false, loader := none, sched := [], schedPer := 0, slots := [], slotPer := 0, prof := [], profPer := 0, slotCrc := [], checks := []
             checkIdx := 0, reqs := [], rr := [], wbacks := [], latches := [], hearth := .halted, dw := [], deliv := []
             held := [] })
  have fetched (t : State) (i n : Nat) (c : Prop) {_ : Decidable c} : State.Fading noRegs N t ((if c then t.csStopNow i 0x07 else t).modSuite i fun u => { u with fetched := n }) :=
    .trans (.when (.csStopNow ..)) (.modSuite _ _ fun _ => .of rfl rfl id id)
  unfold State.clearRoom
  dsimp only
  split
  · split
    · split
      · exact (out.trans (.loadLeft ..)).trans (fetched _ _ _ _)
      · exact out.trans (.loadLeft ..)
    · exact out
  · exact out

theorem State.Fading.resetHold (s : State) (room : Nat) : State.Fading noRegs N s (s.resetHold room) := by
  have held : State.Fading noRegs N s (s.wrF (rst room) 0x088 63 61 2) := .wrF s _ _ _ (noRegs_apart _)
  exact .unless ((held.trans (.clearRoom ..)).trans (.modRoom ..))

theorem State.Fading.drainGiveUp (s : State) (room : Nat) (inj : Bool) : State.Fading noRegs N s (s.drainGiveUp room inj) := by
  have left (l : List Flight) : State.Fading noRegs N s { s with pkts := l } := .of rfl rfl rfl rfl rfl rfl rfl
  have counted (t : State) (n : Nat) : State.Fading noRegs N t (t.bump (rst room) 0x090 15 0 n) := .bump t _ _ _ (noRegs_apart _)
  exact ((left _).trans (counted _ _)).trans ((State.Fading.rstEvent _ _ _ _ _ _ (noRegs_beside room)).trans (.resetHold ..))

theorem State.Fading.sweepDropped (s : State) (room : Nat) : State.Fades s (s.sweepDropped room) := by
  unfold State.sweepDropped
  split
  · split
    · exact .when ((State.Fading.ckptEntryDone s _).trans (.sweepHalted ..))
    · exact .refl
  · exact .refl

theorem State.Fading.dbgAbort (s : State) (room : Nat) : State.Fades s (s.dbgAbort room) := by
  have ended : State.Fades s (s.wrF dbg 0x0B0 63 63 0) := .wrF s _ _ _ (noRegs_apart _)
  exact .when (ended.trans (.noted _ _ _ _))

theorem State.Fading.disarm (s : State) (p : PageRef) (bit : Nat) : State.Fades s (s.disarm p bit) := .of rfl rfl rfl rfl rfl rfl rfl

theorem State.Fading.resetBegin (s : State) (room : Nat) : State.Fades s (s.resetBegin room) := by
  have started (f : RoomSt → RoomSt) : State.Fades s ((((s.sweepDropped room).dbgAbort room).modRoom room f).stopUnits room) :=
    (((State.Fading.sweepDropped s room).trans (.dbgAbort ..)).trans (.modRoom ..)).trans (.stopUnits _ (noRegs_beside room))
  exact (started _).trans (((State.Fading.disarm _ _ _).trans (.drainGiveUp ..)).ite (.resetHold ..))

theorem State.Fading.hitHalt (s : State) (pg : Page) (room bit cause : Nat) (inj : Bool) (detail : W64) : State.Fades s (s.hitHalt pg room bit cause inj detail) := by
  have noted : State.Fades s ((s.raise (rp pg room) bit inj).record (rp pg room) cause 1 inj false true ((s.raise (rp pg room) bit inj).suiteId room) noRef detail) :=
    (State.Fading.raise s _ _ (noRegs_apart _)).trans (.record ..)
  unfold State.hitHalt
  dsimp only
  split
  · exact noted.trans (.sendHalt ..)
  · exact noted

theorem State.Fading.roomReset (s : State) (room scope : Nat) : State.Fades s (s.roomReset room scope) := by
  have named : State.Fades s (s.wrF (rst room) 0x088 60 59 scope) := .wrF s _ _ _ (noRegs_apart _)
  have off (t : State) : State.Fades t ((t.bump (rst room) 0x090 63 48 1).rstEvent room 0 0x01 scope 0 false) :=
    (State.Fading.bump t _ _ _ (noRegs_apart _)).trans (.rstEvent _ _ _ _ _ _ (noRegs_beside room))
  have drains (t : State) : State.Fades t (t.wrF (rst room) 0x088 63 61 1) := .wrF t _ _ _ (noRegs_apart _)
  have atOnce (t : State) : State.Fades t (((t.stopUnits room).clearRoom room).resetDone room) :=
    ((State.Fading.stopUnits t (noRegs_beside room)).trans (.clearRoom ..)).trans (.resetDone _ (noRegs_beside room))
  have halts (t : State) (w : W64) (f : RoomSt → RoomSt) : State.Fades t (((t.capture (rst room) 0x098 w).hitHalt .rst room 4 0x05 false (setBit w 31)).modRoom room f) :=
    ((State.Fading.capture t w (noRegs_apart _)).trans (.hitHalt ..)).trans (.modRoom ..)
  exact .unless (named.trans ((off _).ite ((drains _).trans ((atOnce _).ite ((halts _ _ _).ite (.resetBegin ..))))))

/-- A running Suite halted by its reset, as its job has it (R584). -/
def State.resetHalted (s : State) (i : Nat) (u : Suite) : State :=
  if u.run = 2 ∧ !u.sweep.preempt then
    let s := s.raise (rp .flu u.lead) 2 false
    if (s.restart i).st = 0 ∧ tst (s.rd (gp .swpg) (swpgSuite i)) 63 then s.startJobHalt i (Page.flu.cls * 256 + 0x03) s.et else s
  else s

/-- A Suite reset up to its Rooms: what is Suite-wide is cleared, and the Suite is marked. -/
def State.resetMarked (s : State) (i : Nat) : State :=
  let s := ((s.ckptEntryDone i).sweepHalted i).suiteWide i
  (s.modSuite i fun u => { u with inReset := true }).wr (gp .rstg) 0x098 (setBit (s.rd (gp .rstg) 0x098) i)

/-- The Rooms of a Suite reset taken into it. -/
def State.resetRooms (s : State) (l : List Nat) : State := l.foldl (fun s r => s.roomReset r 3) s

theorem State.suiteReset_form {i : Nat} {u : Suite} (defined : s.suite i = some u) (out : u.inReset = false) :
    s.suiteReset i = let t := (((s.finishSwitch i).resetHalted i u).resetMarked i).resetRooms u.rooms
      if u.rooms.all fun r => t.rstState r = 0 then t.suiteReleased i else t := by
  unfold State.suiteReset
  simp only [defined, out, Bool.false_eq_true, if_false]
  rfl

theorem State.Fading.resetHalted (s : State) (i : Nat) (u : Suite) : State.Fades s (s.resetHalted i u) :=
  .when ((State.Fading.raise s _ _ (noRegs_apart _)).trans (.when (.startJobHalt ..)))

theorem State.Fading.resetMarked (s : State) (i : Nat) : State.Fades s (s.resetMarked i) := by
  have marked (t : State) (v : W64) : State.Fades t ((t.modSuite i fun u => { u with inReset := true }).wr (gp .rstg) 0x098 v) :=
    .trans (t := t.modSuite i fun u => { u with inReset := true }) (.modSuite t i fun _ => .of rfl rfl id id) (.wr _ _ (noRegs_apart _))
  exact ((State.Fading.ckptEntryDone s i).trans (.sweepHalted ..)).trans ((State.Fading.suiteWide ..).trans (marked ..))

theorem State.Fading.resetRooms (s : State) (l : List Nat) : State.Fades s (s.resetRooms l) := .foldl _ (fun t r => .roomReset t r 3) s

theorem State.Fading.suiteReset (s : State) (i : Nat) : State.Fades s (s.suiteReset i) := by
  cases defined : s.suite i with
  | none => rw [State.suiteReset, defined]; exact .raise s _ _ (noRegs_apart _)
  | some u =>
    cases out : u.inReset with
    | true => rw [State.suiteReset, defined]; exact (congrArg (State.Fades s) (if_pos out)).mpr .refl
    | false =>
      rw [State.suiteReset_form defined out]
      exact ((State.Fading.finishSwitch s i).trans (.resetHalted ..)).trans (((State.Fading.resetMarked ..).trans (.resetRooms ..)).trans
        (.when (.suiteReleased _ _ (noRegs_apart _))))

end

end Sys2Proof.Machine

/-! ## Power delivery (O54) -/

namespace Sys2Proof.Machine

-- One proof at a time: the check's memory limit counts the stack of every thread that waits for an earlier proof.
set_option Elab.async false

/-! ### Where Rooms lie -/

theorem selBit_lt (mask j : Nat) : selBit mask j < 18 := by
  unfold selBit
  by_cases h : j < (maskBits mask).length
  · rw [List.getD_eq_getElem _ _ h]
    exact List.mem_range.mp (List.mem_filter.mp (List.getElem_mem h)).1
  · rw [List.getD_eq_default _ _ (by omega)]
    decide

theorem Masks.physRow_le (m : Masks) (l : Nat) : m.physRow l ≤ l + 1 := by
  unfold Masks.physRow
  split
  · split <;> omega
  · omega

theorem State.physOf_lt (s : State) {room : Nat} (h : room < 2 ^ 16) : s.physOf room < 2 ^ 20 := by
  have row := s.remap.physRow_le (roomY room / 16)
  have down := selBit_lt (s.remap.row (8 * s.remap.physRow (roomY room / 16) + roomX room / 16)) (roomY room % 16)
  have along := selBit_lt (s.remap.col (8 * s.remap.physRow (roomY room / 16) + roomX room / 16) (roomY room % 16)) (roomX room % 16)
  have x : roomX room / 16 < 8 := by unfold roomX; omega
  have y : roomY room / 16 < 32 := by unfold roomY; omega
  unfold State.physOf Masks.place
  dsimp only
  omega

theorem State.wingOf_lt (s : State) {room : Nat} (h : room < 2 ^ 16) : s.wingOf room < 2 ^ 20 := by
  have phys := s.physOf_lt h
  unfold State.wingOf physWing
  omega

/-! ### What a rail that moves leaves of a Room's trims -/

/-- A Room's power page lies apart from its other pages. -/
theorem pwr_apart {room a b : Nat} {pg : Page} (ha : a < 4096 := by decide) (hb : b < 4096 := by decide) (h : Page.pwr ≠ pg := by decide) :
    regKey (pwr room) a ≠ regKey (rp pg room) b := regKey_inst ha hb h

theorem State.setDrops_trim (s : State) (w room : Nat) {hi lo : Nat} (h : hi < 16) :
    fld ((s.setDrops w).rd (pwr room) 0x088) hi lo = fld (s.rd (pwr room) 0x088) hi lo := by
  refine foldl_keeps (fun t : State => fld (t.rd (pwr room) 0x088) hi lo = fld (s.rd (pwr room) 0x088) hi lo) _ (fun t r _ held => Eq.trans ?_ held) rfl
  by_cases same : room = r
  · subst same
    exact (congrArg (fun x => fld x hi lo) (t.rd_wr_self ..)).trans (fld_setFld_ne _ (by omega) (by omega))
  · exact congrArg (fun x => fld x hi lo) (t.rd_wr_key _ (regKey_insts same))

theorem State.moveRail_trim (s : State) {w room : Nat} (rate : Nat) {hi lo : Nat} (hw : w < 2 ^ 20) (hr : room < 2 ^ 20) (h : hi < 16) :
    fld ((s.moveRail w rate).rd (pwr room) 0x088) hi lo = fld (s.rd (pwr room) 0x088) hi lo := by
  have named (v : Nat) : (s.wrF (pwrw w) 0x088 15 0 v).rd (pwr room) 0x088 = s.rd (pwr room) 0x088 :=
    s.rd_wr_key _ (regKey_page hr hw (by decide) (by decide) fun same => by cases congrArg PageRef.page same)
  unfold State.moveRail
  dsimp only
  split
  · rw [State.setDrops_trim _ _ _ h, named]
  · exact congrArg (fun x => fld x hi lo) (named _)

@[simp] theorem State.moveRail_rooms (s : State) (w rate : Nat) : (s.moveRail w rate).rooms = s.rooms := by
  unfold State.moveRail
  dsimp only
  split
  · exact (State.setDrops_keeps _ w).rooms
  · rfl

/-! ### A Room switched on and off (R522, R524) -/

section
variable {s : State} {room w : Nat} (hw : w = s.wingOf room)
include hw

theorem roomOn_refused (h : s.pwrHeld room = true ∨ s.rdF (pwrw w) 0x080 63 61 ≠ 2 ∨ s.pwrState room = 3 ∨ s.rim.coolBad = true) : TurnedAway (.roomOn room) s (pwr room) 1 := by
  subst hw
  have answers : exec (.roomOn room) s = .next (s.raise (pwr room) 1 false) := congrArg _ (if_pos h)
  exact turned_raise answers rfl (by decide)

variable (place : s.pwrHeld room = false) (regulates : s.rdF (pwrw w) 0x080 63 61 = 2) (cooled : s.rim.coolBad = false)
include place regulates cooled

theorem roomOn_answers (untripped : s.pwrState room ≠ 3) :
    exec (.roomOn room) s = .next (if s.pwrState room = 0 then ((s.loadRoom room).roomRamp room).moveRail w (s.railRate w) else s) := by
  subst hw
  refine congrArg _ (if_neg ?_)
  rw [place, cooled]
  simp only [Bool.false_eq_true, false_or, or_false]
  exact fun h => h.elim (fun h => h regulates) untripped

theorem roomOn_on (on : s.pwrState room = 1 ∨ s.pwrState room = 2) : exec (.roomOn room) s = .next s :=
  (roomOn_answers hw place regulates cooled (by omega)).trans (congrArg _ (if_neg (by omega)))

omit hw place regulates cooled in
/-- The trims a Room takes from the Survey stand in its power page. -/
theorem State.loadRoom_trims (s : State) (room : Nat) :
    (s.loadRoom room).rd (pwr room) 0x088 = (put 15 8 (fld (s.srvRd (s.physOf room) 0x080) 39 32) ||| put 7 0 (fld (s.srvRd (s.physOf room) 0x080) 47 40)) := by
  unfold State.loadRoom
  dsimp only
  rw [State.rd_wr_key _ _ pwr_apart, State.rd_wr_key _ _ pwr_apart, State.rd_wr_key _ _ pwr_apart, State.rd_wr_self]

theorem roomOn_ramps (hr : room < 2 ^ 16) (off : s.pwrState room = 0) : Completes (.roomOn room) s fun t => t.pwrState room = 1 ∧ t.rdF (pwr room) 0x080 60 58 = 1
    ∧ (t.room room).stage = s.et ∧ fld (t.rd (pwr room) 0x088) 7 0 = fld (s.srvRd (s.physOf room) 0x080) 47 40
    ∧ fld (t.rd (pwr room) 0x088) 15 8 = fld (s.srvRd (s.physOf room) 0x080) 39 32 ∧ t.mem = s.mem := by
  have answers := roomOn_answers hw place regulates cooled (by omega)
  rw [if_pos off] at answers
  have wing : w < 2 ^ 20 := hw ▸ s.wingOf_lt hr
  have shown : (((s.loadRoom room).roomRamp room).moveRail w (s.railRate w)).rd (pwr room) 0x080 = (put 63 61 1 ||| put 60 58 1 ||| 1) := by
    rw [State.moveRail_rd, State.roomRamp, State.modRoom_rd, State.rd_wr_self]
  have trims {hi lo : Nat} (h : hi < 16) : fld ((((s.loadRoom room).roomRamp room).moveRail w (s.railRate w)).rd (pwr room) 0x088) hi lo
      = fld (put 15 8 (fld (s.srvRd (s.physOf room) 0x080) 39 32) ||| put 7 0 (fld (s.srvRd (s.physOf room) 0x080) 47 40)) hi lo := by
    rw [State.moveRail_trim _ _ wing (by omega) h, State.roomRamp, State.modRoom_rd, State.rd_wr_off _ _ (by decide), State.loadRoom_trims]
  refine ⟨_, answers, ?_, ?_, ?_, ?_, ?_, ?_⟩
  · rw [State.pwrState, State.rdF, shown]
    decide
  · rw [State.rdF, shown]
    decide
  · rw [State.room, State.moveRail_rooms]
    exact congrArg RoomSt.stage (State.room_modRoom ..)
  · rw [trims (by decide), fld_or, fld_put_ne _ (by decide), fld_put (hi := 7) (lo := 0) _ (by decide) (fld_lt _ 47 40)]
    exact Nat.zero_or _
  · rw [trims (by decide), fld_or, fld_put_ne (hi := 7) _ (by decide), fld_put (hi := 15) (lo := 8) _ (by decide) (fld_lt _ 39 32)]
    exact Nat.or_zero _
  · rw [State.moveRail_mem]
    rfl

end

section
variable {s : State} {room : Nat}

theorem roomOff_answers : exec (.roomOff room) s = .next (if !s.suiteIdle room then s.pwrRefused room
    else if s.pwrState room = 1 ∨ s.pwrState room = 2 then (s.roomOpen room 0).moveRail (s.wingOf room) (s.railRate (s.wingOf room)) else s) := rfl

theorem roomOff_refused (busy : s.suiteIdle room = false) : TurnedAway (.roomOff room) s (pwr room) 1 := by
  have answers : exec (.roomOff room) s = .next (s.raise (pwr room) 1 false) := roomOff_answers.trans (congrArg _ (if_pos (by rw [busy]; rfl)))
  exact turned_raise answers rfl (by decide)

theorem roomOff_off (idle : s.suiteIdle room = true) (off : s.pwrState room = 0 ∨ s.pwrState room = 3) : exec (.roomOff room) s = .next s := by
  rw [roomOff_answers, idle, if_neg (by decide), if_neg (by omega)]

theorem roomOff_opens (idle : s.suiteIdle room = true) (on : s.pwrState room = 1 ∨ s.pwrState room = 2) :
    Completes (.roomOff room) s fun t => t.pwrState room = 0 := by
  refine ⟨_, roomOff_answers.trans (congrArg _ ((if_neg (by rw [idle]; decide)).trans (if_pos on))), ?_⟩
  exact (congrArg (fun x => fld x 63 61) (State.moveRail_rd ..)).trans (s.roomOpen_shows room (by decide))

/-! ### The header switches and the decoder (R452, R453, R522) -/

theorem headerStage_answers : exec (.headerStage room) s
    = .next (if s.pwrState room = 1 ∧ s.rdF (pwr room) 0x080 60 58 < 4 ∧ (s.room room).stage + usToEt 2 ≤ s.et then
        (s.wrF (pwr room) 0x080 60 58 (s.rdF (pwr room) 0x080 60 58 + 1)).modRoom room fun r => { r with stage := s.et } else s) := rfl

theorem headerStage_waits (h : s.pwrState room ≠ 1 ∨ 4 ≤ s.rdF (pwr room) 0x080 60 58 ∨ s.et < (s.room room).stage + usToEt 2) : exec (.headerStage room) s = .next s :=
  headerStage_answers.trans (congrArg _ (if_neg (by omega)))

theorem headerStage_closes (ramps : s.pwrState room = 1) (open_ : s.rdF (pwr room) 0x080 60 58 < 4) (due : (s.room room).stage + usToEt 2 ≤ s.et) :
    Completes (.headerStage room) s fun t => t.rdF (pwr room) 0x080 60 58 = s.rdF (pwr room) 0x080 60 58 + 1 ∧ t.pwrState room = 1 ∧ (t.room room).stage = s.et
      ∧ t.mem = s.mem := by
  refine ⟨_, headerStage_answers.trans (congrArg _ (if_pos ⟨ramps, open_, due⟩)), ?_, ?_, ?_, rfl⟩
  · rw [State.rdF, State.modRoom_rd]
    exact State.rdF_wrF_self _ _ _ (by decide) (by omega)
  · rw [State.pwrState, State.rdF, State.modRoom_rd, State.wrF, State.rd_wr_self, fld_setFld_ne _ (by decide) (by decide)]
    exact ramps
  · exact congrArg RoomSt.stage (State.room_modRoom ..)

end

/-! ### What a decoder's end touches -/

theorem State.defineTurn_form (s : State) : s.defineTurn = s
    ∨ s.defineTurn = (({ s with rim := { s.rim with pchsBusy := none } } : State).wrF (gp .pchs) 0x088 63 63 0).raise (gp .pchs) 0 false := by
  unfold State.defineTurn
  split
  · exact .inl rfl
  · exact ite_eq_or_eq _ _ _

theorem State.defineTurn_rd (s : State) {q : PageRef} {o : Nat} (far : Apart (fun r a => r = q ∧ a = o) (gp .pchs)) : s.defineTurn.rd q o = s.rd q o := by
  rcases s.defineTurn_form with form | form
  · rw [form]
  · rw [form, State.raise_rd _ _ (far q o _ ⟨rfl, rfl⟩ (by decide)) (far q o _ ⟨rfl, rfl⟩ (by decide))]
    exact State.rd_wr_key _ _ (far q o _ ⟨rfl, rfl⟩ (by decide))

theorem State.defineTurn_keeps (s : State) : s.defineTurn.mem = s.mem ∧ s.defineTurn.rim.surv = s.rim.surv ∧ s.defineTurn.rim.survInit = s.rim.survInit := by
  rcases s.defineTurn_form with form | form
  · rw [form]
    exact ⟨rfl, rfl, rfl⟩
  · rw [form, State.raise_mem, State.raise_rim]
    exact ⟨rfl, rfl, rfl⟩

/-- A Room's page lies apart from an engine-global one. -/
theorem room_apart {pg g : Page} {room o : Nat} (hr : room < 2 ^ 20) (ho : o < 4096 := by decide) (h : pg ≠ g := by decide) :
    Apart (fun r a => r = rp pg room ∧ a = o) (gp g) := by
  rintro q a b ⟨rfl, rfl⟩ hb
  exact regKey_page hr (show 0 < 2 ^ 20 by decide) ho hb fun same => h (congrArg PageRef.page same)

theorem pwr_apart_global {g : Page} {room o : Nat} (hr : room < 2 ^ 16) (ho : o < 4096 := by decide) (h : Page.pwr ≠ g := by decide) :
    Apart (fun r a => r = pwr room ∧ a = o) (gp g) := room_apart (by omega) ho h

theorem State.roomBad_isBad (s : State) (phys : Nat) : (s.roomBad phys).isBad phys = true := by
  unfold State.roomBad
  split
  · assumption
  · simp only [State.isBad, State.srvRd, State.survTouch, State.srvWr, State.raise_rim, State.capture_rim, smGet_smSet_self]
    rw [fld_setFld _ (by decide) (by decide)]
    rfl

@[simp] theorem State.roomBad_mem (s : State) (phys : Nat) : (s.roomBad phys).mem = s.mem := by
  unfold State.roomBad
  dsimp only
  split
  · rfl
  · simp

theorem State.roomBad_rd (s : State) (phys : Nat) {q : PageRef} {o : Nat} (far : Apart (fun r a => r = q ∧ a = o) (gp .cvug)) : (s.roomBad phys).rd q o = s.rd q o := by
  unfold State.roomBad
  dsimp only
  split
  · rfl
  · rw [State.survTouch_rd, State.raise_rd _ _ (far q o _ ⟨rfl, rfl⟩ (by decide)) (far q o _ ⟨rfl, rfl⟩ (by decide)),
      State.capture_rd_key _ _ (far q o _ ⟨rfl, rfl⟩ (by decide)), State.srvWr_rd]

section
variable {s : State} {room : Nat}

theorem roomPowerGood_waits (bad : Bool) (h : s.pwrState room ≠ 1 ∨ s.rdF (pwr room) 0x080 60 58 ≠ 4) : exec (.roomPowerGood room bad) s = .next s := if_pos h

variable (hr : room < 2 ^ 16) (ramps : s.pwrState room = 1) (closed : s.rdF (pwr room) 0x080 60 58 = 4) (unarmed : s.isArmed (rp .ecc room) 2 = false)
include hr ramps closed unarmed

omit hr in
theorem roomPowerGood_answers (bad : Bool) : exec (.roomPowerGood room bad) s = if bad then
      let t := (s.raise (rp .ecc room) 2 false).record (rp .ecc room) 0x03 3 false false false (s.suiteId room) noRef 0
      let t := (t.roomBad (t.physOf room)).roomOpen room 0
      .next (t.moveRail (t.wingOf room) (t.railRate (t.wingOf room))).defineTurn
    else .next (((s.wrF (pwr room) 0x080 63 61 2).raise (pwr room) 0 false).darkOut room).defineTurn := by
  change execRoomPowerGood room bad s = _
  rw [execRoomPowerGood, if_neg (by omega), unarmed]
  cases bad <;> rfl

omit hr ramps closed unarmed in
theorem State.darkOut_rd (s : State) (room : Nat) {o : Nat} (ho : o < 4096 := by decide) : (s.darkOut room).rd (pwr room) o = s.rd (pwr room) o := by
  unfold State.darkOut
  dsimp only
  split
  · rfl
  · rw [State.modRoom_rd, State.raise_rd _ _ (pwr_apart ho) (pwr_apart ho), State.bump, State.rd_wr_key _ _ (pwr_apart ho)]

omit hr ramps closed unarmed in
@[simp] theorem State.darkOut_mem (s : State) (room : Nat) : (s.darkOut room).mem = s.mem := by
  unfold State.darkOut
  dsimp only
  split
  · rfl
  · simp

theorem roomPowerGood_on : Completes (.roomPowerGood room false) s fun t => t.pwrState room = 2 ∧ tst (t.rd (pwr room) 0x028) 0 = true ∧ t.mem = s.mem := by
  have rd {o : Nat} (ho : o < 4096) : (((s.wrF (pwr room) 0x080 63 61 2).raise (pwr room) 0 false).darkOut room).defineTurn.rd (pwr room) o
      = ((s.wrF (pwr room) 0x080 63 61 2).raise (pwr room) 0 false).rd (pwr room) o := by
    rw [State.defineTurn_rd _ (pwr_apart_global hr ho), State.darkOut_rd _ _ ho]
  refine ⟨_, roomPowerGood_answers ramps closed unarmed false, ?_, ?_, ?_⟩
  · rw [State.pwrState, State.rdF, rd (by decide), State.raise_rd_off _ _ (by decide) (by decide)]
    exact State.rdF_wrF_self _ _ _ (by decide) (by decide)
  · rw [rd (by decide)]
    exact State.raise_sets _ _ rfl (by decide)
  · rw [(State.defineTurn_keeps _).1, State.darkOut_mem, State.raise_mem, State.wrF_mem]

/-- A decoder that fails, up to the rail and a DEFINE that waits. -/
def State.decoderFailed (s : State) (room : Nat) : State :=
  let t := (s.raise (rp .ecc room) 2 false).record (rp .ecc room) 0x03 3 false false false (s.suiteId room) noRef 0
  (t.roomBad (s.physOf room)).roomOpen room 0

omit unarmed closed in
theorem State.decoderFailed_shows : (s.decoderFailed room).pwrState room = 0 ∧ tst ((s.decoderFailed room).rd (rp .ecc room) 0x028) 2 = true
    ∧ (s.decoderFailed room).isBad (s.physOf room) = true ∧ (s.decoderFailed room).mem = s.mem := by
  have state : (((s.raise (rp .ecc room) 2 false).record (rp .ecc room) 0x03 3 false false false (s.suiteId room) noRef 0).roomBad
      (s.physOf room)).pwrState room = 1 := by
    refine Eq.trans (congrArg (fun x => fld x 63 61) ?_) ramps
    rw [State.roomBad_rd _ _ (pwr_apart_global hr), State.record_rd, State.raise_rd _ _ pwr_apart pwr_apart]
  refine ⟨State.roomOpen_shows _ room (by decide), ?_, ?_, ?_⟩
  · rw [State.decoderFailed, State.roomOpen, state, if_neg (by decide), State.rd_wr_key _ _ (Ne.symm pwr_apart), State.roomBad_rd _ _ (room_apart (by omega)), State.record_rd]
    exact State.raise_sets _ _ rfl (by decide)
  · rw [State.decoderFailed, State.roomOpen, state, if_neg (by decide)]
    exact State.roomBad_isBad ..
  · rw [State.decoderFailed, (State.roomOpen_ramp _ 0 state).1, State.roomBad_mem, State.record_mem, State.raise_mem]

omit hr ramps closed unarmed in
theorem State.moveRail_survey (s : State) (w rate : Nat) :
    (s.moveRail w rate).rim.surv = s.rim.surv ∧ (s.moveRail w rate).rim.survInit = s.rim.survInit := by
  unfold State.moveRail
  dsimp only
  split
  · rw [(State.setDrops_keeps _ w).rim]
    exact ⟨rfl, rfl⟩
  · exact ⟨rfl, rfl⟩

omit hr ramps closed unarmed in
theorem State.isBad_of {s t : State} {phys : Nat} (surv : t.rim.surv = s.rim.surv) (init : t.rim.survInit = s.rim.survInit) : t.isBad phys = s.isBad phys := by
  rw [State.isBad, State.isBad, State.srvRd, State.srvRd, surv, init]

theorem roomPowerGood_fails : Completes (.roomPowerGood room true) s fun t =>
    t.pwrState room = 0 ∧ tst (t.rd (rp .ecc room) 0x028) 2 = true ∧ t.isBad (s.physOf room) = true ∧ t.mem = s.mem := by
  obtain ⟨state, event, bad, mem⟩ := State.decoderFailed_shows (s := s) hr ramps
  have phys : ((s.raise (rp .ecc room) 2 false).record (rp .ecc room) 0x03 3 false false false (s.suiteId room) noRef 0).physOf room = s.physOf room := by
    rw [State.physOf, State.record_remap, State.raise_remap]
    rfl
  have answers : ∃ w rate, exec (.roomPowerGood room true) s = .next ((s.decoderFailed room).moveRail w rate).defineTurn := by
    have form := roomPowerGood_answers ramps closed unarmed true
    rw [if_pos rfl] at form
    dsimp only at form
    rw [phys] at form
    exact ⟨_, _, form⟩
  obtain ⟨w, rate, answers⟩ := answers
  obtain ⟨keep_mem, keep_surv, keep_init⟩ := ((s.decoderFailed room).moveRail w rate).defineTurn_keeps
  obtain ⟨rail_surv, rail_init⟩ := (s.decoderFailed room).moveRail_survey w rate
  refine ⟨_, answers, ?_, ?_, ?_, ?_⟩
  · rw [State.pwrState, State.rdF, State.defineTurn_rd _ (pwr_apart_global hr), State.moveRail_rd]
    exact state
  · rw [State.defineTurn_rd _ (room_apart (by omega)), State.moveRail_rd]
    exact event
  · rw [State.isBad_of (keep_surv.trans rail_surv) (keep_init.trans rail_init)]
    exact bad
  · rw [keep_mem, State.moveRail_mem, mem]

end

/-! ### Trips, trims and readings of a Room (R524, R525, R529) -/

section
variable {s : State} {room : Nat}

theorem tripClr_untripped (h : s.pwrState room ≠ 3) : exec (.tripClr room) s = .next s := congrArg Host.Outcome.next (if_pos h)

theorem tripClr_hot (tripped : s.pwrState room = 3) (hot : 1440 ≤ sgn 16 (s.rdF (pwr room) 0x090 15 0)) : TurnedAway (.tripClr room) s (pwr room) 1 := by
  have answers : exec (.tripClr room) s = .next (s.raise (pwr room) 1 false) :=
    congrArg Host.Outcome.next ((if_neg (not_not.mpr tripped)).trans (if_pos (by omega)))
  exact turned_raise answers rfl (by decide)

theorem tripClr_clears (tripped : s.pwrState room = 3) (cool : sgn 16 (s.rdF (pwr room) 0x090 15 0) < 1440) :
    exec (.tripClr room) s = .next (s.wr (pwr room) 0x080 0) :=
  congrArg Host.Outcome.next ((if_neg (not_not.mpr tripped)).trans (if_neg (by omega)))

variable {v x : W64} (hx : x = setFld (s.rd (pwr room) 0x088) 15 8 (fld v 15 8))
include hx

theorem vtrimWrite_answers : exec (.vtrimWrite room v) s
    = .next (if !s.suiteIdle room ∨ 8 < fld v 15 8 ∨ trimMv x < -50 ∨ 50 < trimMv x then s.pwrRefused room
      else (s.wr (pwr room) 0x088 x).moveRail (s.wingOf room) ((s.wr (pwr room) 0x088 x).railRate (s.wingOf room))) := by
  subst hx
  rfl

theorem vtrimWrite_refused (h : s.suiteIdle room = false ∨ 8 < fld v 15 8 ∨ trimMv x < -50 ∨ 50 < trimMv x) : TurnedAway (.vtrimWrite room v) s (pwr room) 1 := by
  have answers : exec (.vtrimWrite room v) s = .next (s.raise (pwr room) 1 false) :=
    (vtrimWrite_answers hx).trans (congrArg _ (if_pos (h.imp_left fun busy => by rw [busy]; rfl)))
  exact turned_raise answers rfl (by decide)

theorem vtrimWrite_sets (hr : room < 2 ^ 16) (idle : s.suiteIdle room = true) (steps : fld v 15 8 ≤ 8) (low : -50 ≤ trimMv x) (high : trimMv x ≤ 50) :
    Completes (.vtrimWrite room v) s fun t => fld (t.rd (pwr room) 0x088) 15 8 = fld v 15 8 ∧ fld (t.rd (pwr room) 0x088) 7 0 = fld (s.rd (pwr room) 0x088) 7 0
      ∧ t.mem = s.mem := by
  have accepts : ¬((!s.suiteIdle room) = true ∨ 8 < fld v 15 8 ∨ trimMv x < -50 ∨ 50 < trimMv x) := by
    rw [idle]
    simp only [Bool.not_true, Bool.false_eq_true, false_or]
    omega
  have trims {hi lo : Nat} (h : hi < 16) : fld (((s.wr (pwr room) 0x088 x).moveRail (s.wingOf room) ((s.wr (pwr room) 0x088 x).railRate (s.wingOf room))).rd (pwr room) 0x088) hi lo
      = fld x hi lo := by
    rw [State.moveRail_trim _ _ (s.wingOf_lt hr) (by omega) h, State.rd_wr_self]
  refine ⟨_, (vtrimWrite_answers hx).trans (congrArg _ (if_neg accepts)), ?_, ?_, ?_⟩
  · rw [trims (by decide), hx, fld_setFld _ (by decide) (fld_lt v 15 8)]
  · rw [trims (by decide), hx, fld_setFld_ne _ (by decide) (by decide)]
  · rw [State.moveRail_mem]
    rfl

omit hx in
theorem tmaxClear_follows : Completes (.tmaxClear room) s fun t => t.rdF (pwr room) 0x090 31 16 = s.rdF (pwr room) 0x090 15 0
    ∧ t.rdF (pwr room) 0x090 15 0 = s.rdF (pwr room) 0x090 15 0 ∧ t.mem = s.mem := by
  refine ⟨_, rfl, State.rdF_wrF_self _ _ _ (by decide) (fld_lt _ 15 0), ?_, rfl⟩
  rw [State.rdF, State.wrF, State.rd_wr_self, fld_setFld_ne _ (by decide) (by decide)]
  rfl

end

/-! ### The input (R513, R514) -/

@[simp] theorem State.pwrgEvent_rim (s : State) (bit cause : Nat) (inj : Bool) : (s.pwrgEvent bit cause inj).rim = s.rim := by simp [State.pwrgEvent]
@[simp] theorem State.pwrgEvent_mem (s : State) (bit cause : Nat) (inj : Bool) : (s.pwrgEvent bit cause inj).mem = s.mem := by simp [State.pwrgEvent]

/-- Whether the input lies in its low band (R513). -/
def lowBand (v : Nat) : Bool := decide (3600 ≤ v) && decide (v < 4000)

/-- Since when the input lies out of its range, after a sample. -/
def State.vinBadAfter (s : State) (v : Nat) : Option Nat :=
  if decide (v < 3600) || decide (6200 < v) then
    (match s.rim.vinBad with
      | some t => some (if decide (s.rdF pwrg 0x080 15 0 < 3600 ∧ 6200 < v) || decide (6200 < s.rdF pwrg 0x080 15 0 ∧ v < 3600) then s.et else t)
      | none => some s.et)
  else none

/-- The input's sample kept. -/
def State.inputShown (s : State) (v iin : Nat) : State :=
  let t := s.wr pwrg 0x080 (put 31 16 iin ||| put 15 0 v)
  { t with rim := { t.rim with vinBad := s.vinBadAfter v } }

@[simp] theorem State.inputShown_rd (s : State) (v iin : Nat) (q : PageRef) (o : Nat) :
    (s.inputShown v iin).rd q o = (s.wr pwrg 0x080 (put 31 16 iin ||| put 15 0 v)).rd q o := rfl
@[simp] theorem State.inputShown_mem (s : State) (v iin : Nat) : (s.inputShown v iin).mem = s.mem := rfl
@[simp] theorem State.inputShown_vinBad (s : State) (v iin : Nat) : (s.inputShown v iin).rim.vinBad = s.vinBadAfter v := rfl

section
variable {s : State} {vin iin : Nat}

theorem inputSample_answers (hv : vin < 2 ^ 16) (unarmed : s.isArmed pwrg 0 = false) : exec (.inputSample vin iin) s
    = .next (if lowBand vin && !lowBand (s.rdF pwrg 0x080 15 0) then (s.inputShown vin iin).pwrgEvent 0 0x10 false else s.inputShown vin iin) := by
  change execInputSample vin iin s = _
  unfold execInputSample
  rw [unarmed, Nat.mod_eq_of_lt (show vin < 65536 from hv)]
  rfl

/-- What a sample shows stands with and without the event. -/
theorem State.inputShown_event (s : State) (v iin : Nat) (c : Bool) :
    (if c then (s.inputShown v iin).pwrgEvent 0 0x10 false else s.inputShown v iin).rd pwrg 0x080 = (put 31 16 iin ||| put 15 0 v)
    ∧ (if c then (s.inputShown v iin).pwrgEvent 0 0x10 false else s.inputShown v iin).mem = s.mem
    ∧ (if c then (s.inputShown v iin).pwrgEvent 0 0x10 false else s.inputShown v iin).rim.vinBad = s.vinBadAfter v := by
  have shown : (s.inputShown v iin).rd pwrg 0x080 = (put 31 16 iin ||| put 15 0 v) := State.rd_wr_self ..
  cases c
  · exact ⟨shown, rfl, rfl⟩
  · exact ⟨(State.pwrgEvent_rd _).trans shown, State.pwrgEvent_mem .., congrArg Rim.vinBad (State.pwrgEvent_rim ..)⟩

theorem inputSample_shows (hv : vin < 2 ^ 16) (hi : iin < 2 ^ 16) (unarmed : s.isArmed pwrg 0 = false) : Completes (.inputSample vin iin) s fun t =>
    t.rdF pwrg 0x080 15 0 = vin ∧ t.rdF pwrg 0x080 31 16 = iin ∧ t.mem = s.mem
      ∧ (3600 ≤ vin → vin < 4000 → (s.rdF pwrg 0x080 15 0 < 3600 ∨ 4000 ≤ s.rdF pwrg 0x080 15 0) → tst (t.rd pwrg 0x028) 0 = true)
      ∧ (3600 ≤ vin → vin ≤ 6200 → t.rim.vinBad = none) ∧ (vin < 3600 ∨ 6200 < vin → s.rim.vinBad = none → t.rim.vinBad = some s.et) := by
  obtain ⟨shown, mem, bad⟩ := s.inputShown_event vin iin (lowBand vin && !lowBand (s.rdF pwrg 0x080 15 0))
  refine ⟨_, inputSample_answers hv unarmed, ?_, ?_, mem, fun low high was => ?_, fun low high => ?_, fun out good => ?_⟩
  · rw [State.rdF, shown, fld_or, fld_put_ne _ (by decide), fld_put _ (by decide) hv, Nat.zero_or]
  · rw [State.rdF, shown, fld_or, fld_put _ (by decide) hi, fld_put_ne _ (by decide), Nat.or_zero]
  · have entered : (lowBand vin && !lowBand (s.rdF pwrg 0x080 15 0)) = true := by
      simp only [lowBand, Bool.and_eq_true, Bool.not_eq_true', Bool.and_eq_false_iff, decide_eq_true_eq, decide_eq_false_iff_not]
      omega
    rw [entered, if_pos rfl]
    exact State.raise_sets _ _ rfl (by decide)
  · rw [bad, State.vinBadAfter, if_neg]
    simp only [Bool.or_eq_true, decide_eq_true_eq]
    omega
  · rw [bad, State.vinBadAfter, if_pos, good]
    simp only [Bool.or_eq_true, decide_eq_true_eq]
    exact out

theorem inputShutdown_good (good : s.rim.vinBad = none) : exec .inputShutdown s = .next s := by
  change execInputShutdown s = _
  rw [execInputShutdown, good]

variable {b us : Nat} (bad : s.rim.vinBad = some b) (hus : us = if s.rdF pwrg 0x080 15 0 < 3600 then 100 else 10)
include bad hus

theorem inputShutdown_answers : exec .inputShutdown s
    = if s.et < b + usToEt us then .next s else .next { s.coldModule with rim := { s.coldModule.rim with powered := false } } := by
  subst hus
  change execInputShutdown s = _
  rw [execInputShutdown, bad]

theorem inputShutdown_waits (early : s.et < b + usToEt us) : exec .inputShutdown s = .next s := (inputShutdown_answers bad hus).trans (if_pos early)

theorem inputShutdown_ends (due : b + usToEt us ≤ s.et) : Completes .inputShutdown s fun t => t.rim.powered = false ∧ t.mem = [] ∧ t.suites = [] ∧ t.rooms = []
    ∧ t.bricks = [] ∧ t.pkts = [] ∧ t.regs = [] ∧ t.pending = s.pending ∧ t.rim.flash.survA = s.rim.flash.survA ∧ t.rim.flash.survB = s.rim.flash.survB :=
  ⟨_, (inputShutdown_answers bad hus).trans (if_neg (by omega)), rfl, rfl, rfl, rfl, rfl, rfl, rfl, rfl, rfl, rfl⟩

end

/-! ### Chimneys (R516, R517, R519, R530) -/

@[simp] theorem State.pwrwEvent_rim (s : State) (w bit cause point : Nat) (inj : Bool) : (s.pwrwEvent w bit cause point inj).rim = s.rim := by simp [State.pwrwEvent]
@[simp] theorem State.pwrwEvent_mem (s : State) (w bit cause point : Nat) (inj : Bool) : (s.pwrwEvent w bit cause point inj).mem = s.mem := by simp [State.pwrwEvent]

theorem State.pwrwEvent_sets (s : State) (w cause point : Nat) {bit : Nat} {inj : Bool} (hb : bit < 64) :
    tst ((s.pwrwEvent w bit cause point inj).rd (pwrw w) 0x028) bit = true := State.raise_sets _ _ rfl hb

theorem State.pwrwEvent_rd (s : State) {w bit cause point : Nat} {inj : Bool} {q : PageRef} {o : Nat} (ho : o < 4096 := by decide) (h1 : o ≠ 0x028 := by decide)
    (h2 : o ≠ 0x040 := by decide) (h3 : o ≠ 0x0B8 := by decide) : (s.pwrwEvent w bit cause point inj).rd q o = s.rd q o := by
  rw [State.pwrwEvent, State.raise_rd _ _ (regKey_offs ho (by decide) h1) (regKey_offs ho (by decide) h2), State.capture_rd_key _ _ (regKey_offs ho (by decide) h3)]

section
variable {s : State} {w : Nat} (hw : w < 64)
include hw

/-- A sample of a Chimney kept, with the energy it adds. -/
def State.chimneyShown (s : State) (w phases vout iout : Nat) : State :=
  let e := smGet 0 s.rim.energy w + vout * iout
  let t := s.wr (pwrw w) 0x080 (setFld (setFld (setFld (s.rd (pwrw w) 0x080) 59 54 phases) 31 16 vout) 11 0 iout)
  let t := t.wr (pwrw w) 0x0A0 (t.rd (pwrw w) 0x0A0 + BitVec.ofNat 64 (e / 400000))
  { t with rim := { t.rim with energy := smSet 0 t.rim.energy w (e % 400000) } }

omit hw in
theorem State.chimneyShown_rd (s : State) (w phases vout iout : Nat) : (s.chimneyShown w phases vout iout).rd (pwrw w) 0x080
      = setFld (setFld (setFld (s.rd (pwrw w) 0x080) 59 54 phases) 31 16 vout) 11 0 iout
    ∧ (s.chimneyShown w phases vout iout).rd (pwrw w) 0x0A0 = s.rd (pwrw w) 0x0A0 + BitVec.ofNat 64 ((smGet 0 s.rim.energy w + vout * iout) / 400000) := by
  refine ⟨(State.rd_wr_off _ _ (by decide)).trans (State.rd_wr_self ..), (State.rd_wr_self ..).trans ?_⟩
  rw [State.rd_wr_off _ _ (by decide)]

theorem chimneySample_shows {ph vout iout : Nat} (hp : ph < 64) (hv : vout < 2 ^ 16) (hi : iout < 2 ^ 12) : Completes (.chimneySample w ph vout iout) s fun t =>
    t.rdF (pwrw w) 0x080 59 54 = ph ∧ t.rdF (pwrw w) 0x080 31 16 = vout ∧ t.rdF (pwrw w) 0x080 11 0 = iout ∧ t.rdF (pwrw w) 0x080 63 61 = s.rdF (pwrw w) 0x080 63 61
      ∧ t.rd (pwrw w) 0x0A0 = s.rd (pwrw w) 0x0A0 + BitVec.ofNat 64 ((smGet 0 s.rim.energy w + vout * iout) / 400000) ∧ t.mem = s.mem := by
  have answers : exec (.chimneySample w ph vout iout) s = .next (s.chimneyShown w ph vout iout) := by
    change execChimneySample w ph vout iout s = _
    rw [execChimneySample, Nat.mod_eq_of_lt hw, Nat.mod_eq_of_lt (show vout < 65536 from hv), Nat.mod_eq_of_lt (show iout < 4096 from hi)]
    rfl
  obtain ⟨shown, energy⟩ := s.chimneyShown_rd w ph vout iout
  refine ⟨_, answers, ?_, ?_, ?_, ?_, energy, rfl⟩
  · rw [State.rdF, shown, fld_setFld_ne _ (by decide) (by decide), fld_setFld_ne _ (by decide) (by decide), fld_setFld _ (by decide) hp]
  · rw [State.rdF, shown, fld_setFld_ne _ (by decide) (by decide), fld_setFld _ (by decide) hv]
  · rw [State.rdF, shown, fld_setFld _ (by decide) hi]
  · rw [State.rdF, shown, fld_setFld_ne _ (by decide) (by decide), fld_setFld_ne _ (by decide) (by decide), fld_setFld_ne _ (by decide) (by decide)]
    rfl

omit hw in
theorem State.chimneyWarm_wr (s : State) (w temp : Nat) (v : W64) : (s.wr (pwrw w) 0x0A8 v).chimneyWarm w temp = s.chimneyWarm w temp := by
  have rd {o : Nat} (ho : o ≠ 0x0A8) : (s.wr (pwrw w) 0x0A8 v).rd (pwrw w) o = s.rd (pwrw w) o := s.rd_wr_off v ho
  rw [State.chimneyWarm, State.chimneyWarm, State.rdF, State.rdF, rd (by decide), rd (by decide)]

theorem pmbusPoll_answers {st temp : Nat} (unarmed : s.isArmed (pwrw w) 2 = false) : exec (.pmbusPoll w st temp) s
    = .next (if s.chimneyWarm w temp then (s.wr (pwrw w) 0x0A8 (put 31 16 temp ||| put 15 0 st)).pwrwEvent w 2 0x03 0 false
      else s.wr (pwrw w) 0x0A8 (put 31 16 temp ||| put 15 0 st)) := by
  rw [← s.chimneyWarm_wr w temp (put 31 16 temp ||| put 15 0 st)]
  change execPmbusPoll w st temp s = _
  rw [execPmbusPoll, Nat.mod_eq_of_lt hw, unarmed]
  rfl

theorem pmbusPoll_cool {st temp : Nat} (unarmed : s.isArmed (pwrw w) 2 = false) (cool : s.chimneyWarm w temp = false) :
    exec (.pmbusPoll w st temp) s = .next (s.wr (pwrw w) 0x0A8 (put 31 16 temp ||| put 15 0 st)) := by
  rw [pmbusPoll_answers hw unarmed, cool]
  rfl

theorem pmbusPoll_warm {st temp : Nat} (unarmed : s.isArmed (pwrw w) 2 = false) (warm : s.chimneyWarm w temp = true) : Completes (.pmbusPoll w st temp) s fun t =>
    t.rd (pwrw w) 0x0A8 = (put 31 16 temp ||| put 15 0 st) ∧ tst (t.rd (pwrw w) 0x028) 2 = true ∧ t.mem = s.mem := by
  refine ⟨_, (pmbusPoll_answers hw unarmed).trans (congrArg _ (if_pos warm)), ?_, State.pwrwEvent_sets _ _ _ _ (by decide), State.pwrwEvent_mem ..⟩
  rw [State.pwrwEvent_rd, State.rd_wr_self]

theorem chimneyRestart_up (up : s.rdF (pwrw w) 0x080 63 61 ≠ 3) (still : Bool) : exec (.chimneyRestart w still) s = .next s := by
  change execChimneyRestart w still s = _
  rw [execChimneyRestart, Nat.mod_eq_of_lt hw]
  exact congrArg _ (if_pos up)

theorem chimneyRestart_refused (down : s.rdF (pwrw w) 0x080 63 61 = 3) : TurnedAway (.chimneyRestart w true) s (pwrw w) 4 := by
  have answers : exec (.chimneyRestart w true) s = .next (s.pwrwEvent w 4 0x05 0 false) := by
    change execChimneyRestart w true s = _
    rw [execChimneyRestart, Nat.mod_eq_of_lt hw]
    exact congrArg _ (if_neg (not_not.mpr down))
  exact turned_capture answers (fun _ => rfl) (by decide)

/-- A Chimney on its way to a rail. -/
def State.railSent (s : State) (w rail : Nat) : State := { s with rim := { s.rim with railTo := smSet 0 s.rim.railTo w rail } }

omit hw in
theorem State.railSent_rd (s : State) (w rail : Nat) (q : PageRef) (o : Nat) : (s.railSent w rail).rd q o = s.rd q o := rfl

theorem chimneyRestart_starts (down : s.rdF (pwrw w) 0x080 63 61 = 3) : Completes (.chimneyRestart w false) s fun t =>
    t.rdF (pwrw w) 0x080 63 61 = 1 ∧ smGet 0 t.rim.railTo w = s.railAt w (s.railRate w) ∧ t.mem = s.mem := by
  have answers : exec (.chimneyRestart w false) s
      = .next (((s.wr (pwrw w) 0x080 (put 63 61 1)).railSent w (s.railAt w (s.railRate w))).emit (.chimney w 0 (s.railAt w (s.railRate w)))) := by
    change execChimneyRestart w false s = _
    rw [execChimneyRestart, Nat.mod_eq_of_lt hw]
    exact congrArg _ (if_neg (not_not.mpr down))
  refine ⟨_, answers, ?_, smGet_smSet_self 0 s.rim.railTo w _, rfl⟩
  rw [State.rdF, State.emit_rd, State.railSent_rd, State.rd_wr_self]
  decide

end

/-! ### A rail reached (R517, R519) -/

theorem State.wingRooms_lt {s : State} {w r : Nat} (hw : w < 64) (h : r ∈ s.wingRooms w) : r < 16384 := by
  unfold State.wingRooms at h
  split at h
  · cases h
  · next l row =>
    have hl : l ≤ 7 := by
      unfold Masks.logRow at row
      split at row
      · split at row
        · cases row
        · split at row <;> cases row <;> omega
      · cases row
        omega
    obtain ⟨i, hi, rfl⟩ := List.mem_map.mp h
    have := List.mem_range.mp hi
    omega

theorem wingBeside_lt {w d v : Nat} (hw : w < 64) (h : wingBeside w d = some v) : v < 64 := by
  unfold wingBeside at h
  split at h <;> split at h <;> cases h <;> omega

/-- What a seam that starts to retrain leaves: registers but those of HALW and SRVW, memory, Suites, and what Wings wait for. -/
structure State.Seaming (s t : State) : Prop where
  regs : ∀ q o, q.inst < 2 ^ 20 → q.page ≠ .halw → q.page ≠ .srvw → o < 4096 → t.rd q o = s.rd q o
  mem : t.mem = s.mem
  suites : t.suites = s.suites
  railTo : t.rim.railTo = s.rim.railTo
  clkStop : t.rim.clkStop = s.rim.clkStop
  fenceAsk : t.rim.fenceAsk = s.rim.fenceAsk

theorem State.Seaming.trans {s t u : State} (h : State.Seaming s t) (k : State.Seaming t u) : State.Seaming s u where
  regs q o inst halw srvw ho := (k.regs q o inst halw srvw ho).trans (h.regs q o inst halw srvw ho)
  mem := k.mem.trans h.mem
  suites := k.suites.trans h.suites
  railTo := k.railTo.trans h.railTo
  clkStop := k.clkStop.trans h.clkStop
  fenceAsk := k.fenceAsk.trans h.fenceAsk

theorem State.Seaming.refl (s : State) : State.Seaming s s := ⟨fun _ _ _ _ _ _ => rfl, rfl, rfl, rfl, rfl, rfl⟩

theorem State.Seaming.wr (s : State) {p : PageRef} {o : Nat} (v : W64) (hp : p.page = .halw ∨ p.page = .srvw) (inst : p.inst < 2 ^ 20) (ho : o < 4096) :
    State.Seaming s (s.wr p o v) where
  regs q a qinst halw srvw ha := s.rd_wr_key v (regKey_page qinst inst ha ho fun same => by
    rw [same] at halw srvw
    exact hp.elim halw srvw)
  mem := rfl
  suites := rfl
  railTo := rfl
  clkStop := rfl
  fenceAsk := rfl

theorem State.Seaming.wingHist (s : State) {w lo : Nat} (hw : w < 64) : State.Seaming s (s.wingHist w lo) :=
  (State.Seaming.wr s _ (.inr rfl) (show w < 2 ^ 20 by omega) (by decide)).trans ⟨fun _ _ _ _ _ _ => rfl, rfl, rfl, rfl, rfl, rfl⟩

theorem State.Seaming.modSeam (s : State) {w d : Nat} (f : W64 → W64) (hw : w < 64) (hd : d < 4) : State.Seaming s (s.modSeam w d f) := by
  unfold State.modSeam
  split
  · exact .refl s
  · next v beside =>
    have hv := wingBeside_lt hw beside
    exact (State.Seaming.wr s _ (.inl rfl) (show w < 2 ^ 20 by omega) (by unfold halwSeam; omega)).trans
      (.wr _ _ (.inl rfl) (show v < 2 ^ 20 by omega) (by unfold halwSeam; omega))

theorem State.Seaming.startSeam (s : State) {w d : Nat} (hw : w < 64) (hd : d < 4) : State.Seaming s (s.startSeam w d) := by
  unfold State.startSeam
  split
  · exact .refl s
  · next v beside =>
    have tries (t : State) (m : SMap Nat) : State.Seaming t { t with rim := { t.rim with retrTry := m } } := ⟨fun _ _ _ _ _ _ => rfl, rfl, rfl, rfl, rfl, rfl⟩
    dsimp only
    split
    · exact .refl s
    · exact ((State.Seaming.modSeam s _ hw hd).trans (.wingHist _ hw)).trans ((State.Seaming.wingHist _ (wingBeside_lt hw beside)).trans (tries _ _))

theorem State.Seaming.startSeams (s : State) {w : Nat} (hw : w < 64) : State.Seaming s (s.startSeams w) :=
  foldl_keeps (fun t => State.Seaming s t) _ (fun t _ hd held => held.trans (.startSeam t hw (List.mem_range.mp hd))) (.refl s)

/-- The drops of a Wing's headers leave the Wing's own page. -/
theorem State.setDrops_wing (s : State) {w : Nat} (hw : w < 64) (o : Nat) (ho : o < 4096) : (s.setDrops w).rd (pwrw w) o = s.rd (pwrw w) o :=
  foldl_keeps (fun t : State => t.rd (pwrw w) o = s.rd (pwrw w) o) _ (fun t r hr held => by
    have := State.wingRooms_lt hw hr
    exact (t.rd_wr_key _ (regKey_page (show w < 2 ^ 20 by omega) (show r < 2 ^ 20 by omega) ho (by decide) fun same => by cases congrArg PageRef.page same)).trans held) rfl

section
variable {s : State} {w : Nat} (hw : w < 64)
include hw

/-- A rail reached, before a Chimney that started is taken to regulate. -/
def State.railHeld (s : State) (w : Nat) : State :=
  (State.wrF { s with rim := { s.rim with railTo := smSet 0 s.rim.railTo w 0 } } (pwrw w) 0x088 31 16 (smGet 0 s.rim.railTo w)).setDrops w

theorem State.railHeld_shows (fits : smGet 0 s.rim.railTo w < 2 ^ 16) : (s.railHeld w).rdF (pwrw w) 0x088 31 16 = smGet 0 s.rim.railTo w
    ∧ (s.railHeld w).rd (pwrw w) 0x080 = s.rd (pwrw w) 0x080 ∧ smGet 0 (s.railHeld w).rim.railTo w = 0 ∧ (s.railHeld w).mem = s.mem := by
  have keeps := (State.wrF { s with rim := { s.rim with railTo := smSet 0 s.rim.railTo w 0 } } (pwrw w) 0x088 31 16 (smGet 0 s.rim.railTo w)).setDrops_keeps w
  refine ⟨?_, ?_, ?_, keeps.mem⟩
  · rw [State.rdF, State.railHeld, State.setDrops_wing _ hw _ (by decide)]
    exact State.rdF_wrF_self _ _ _ (by decide) fits
  · rw [State.railHeld, State.setDrops_wing _ hw _ (by decide)]
    exact State.rd_wr_off _ _ (by decide)
  · rw [State.railHeld, keeps.rim]
    exact smGet_smSet_self 0 s.rim.railTo w 0

/-- A Chimney that started regulates, and a fence asked for by its fault is not needed. -/
def State.railRegulates (s : State) (w : Nat) : State :=
  let t := s.wrF (pwrw w) 0x080 63 61 2
  if smGet 0 t.rim.fenceAsk w = 2 then { t with rim := { t.rim with fenceAsk := smSet 0 t.rim.fenceAsk w 0 } } else t

omit hw in
theorem State.railRegulates_shows (s : State) (w : Nat) : (∀ q o, (s.railRegulates w).rd q o = (s.wrF (pwrw w) 0x080 63 61 2).rd q o)
    ∧ (s.railRegulates w).rim.railTo = s.rim.railTo ∧ (s.railRegulates w).mem = s.mem := by
  unfold State.railRegulates
  dsimp only
  split <;> exact ⟨fun _ _ => rfl, rfl, rfl⟩

theorem railReached_still (none : smGet 0 s.rim.railTo w = 0) : exec (.railReached w) s = .next s := by
  change execRailReached w s = _
  rw [execRailReached, Nat.mod_eq_of_lt hw]
  exact if_pos none

theorem railReached_answers (moves : smGet 0 s.rim.railTo w ≠ 0) : exec (.railReached w) s
    = if (s.railHeld w).rdF (pwrw w) 0x080 63 61 = 1 then .next (((s.railHeld w).railRegulates w).startSeams w) else .next (s.railHeld w) := by
  change execRailReached w s = _
  rw [execRailReached, Nat.mod_eq_of_lt hw]
  exact if_neg moves

theorem railReached_holds (moves : smGet 0 s.rim.railTo w ≠ 0) (fits : smGet 0 s.rim.railTo w < 2 ^ 16) : Completes (.railReached w) s fun t =>
    t.rdF (pwrw w) 0x088 31 16 = smGet 0 s.rim.railTo w ∧ smGet 0 t.rim.railTo w = 0 ∧ t.mem = s.mem
      ∧ t.rdF (pwrw w) 0x080 63 61 = (if s.rdF (pwrw w) 0x080 63 61 = 1 then 2 else s.rdF (pwrw w) 0x080 63 61) := by
  obtain ⟨rail, state, left, mem⟩ := State.railHeld_shows hw fits
  have answers := railReached_answers hw moves
  have same : (s.railHeld w).rdF (pwrw w) 0x080 63 61 = s.rdF (pwrw w) 0x080 63 61 := congrArg (fun x => fld x 63 61) state
  rw [same] at answers
  by_cases starts : s.rdF (pwrw w) 0x080 63 61 = 1
  · rw [if_pos starts] at answers
    obtain ⟨regs, railTo, keep_mem⟩ := (s.railHeld w).railRegulates_shows w
    have seams := State.Seaming.startSeams ((s.railHeld w).railRegulates w) hw
    have rd {o : Nat} (ho : o < 4096) : (((s.railHeld w).railRegulates w).startSeams w).rd (pwrw w) o = ((s.railHeld w).wrF (pwrw w) 0x080 63 61 2).rd (pwrw w) o :=
      (seams.regs (pwrw w) o (show w < 2 ^ 20 by omega) (show Page.pwrw ≠ .halw by decide) (show Page.pwrw ≠ .srvw by decide) ho).trans (regs _ _)
    refine ⟨_, answers, ?_, ?_, ?_, ?_⟩
    · rw [State.rdF, rd (by decide), State.rd_wrF_off _ _ _ _ (by decide)]
      exact rail
    · rw [seams.railTo, railTo]
      exact left
    · rw [seams.mem, keep_mem, mem]
    · rw [State.rdF, rd (by decide), if_pos starts]
      exact State.rdF_wrF_self _ _ _ (by decide) (by decide)
  · rw [if_neg starts] at answers
    exact ⟨_, answers, rail, left, mem, by rw [if_neg starts, same]⟩

end

/-! ### A Chimney that fails (R519, R531, R566) -/

theorem Page.idx_of_outside {pg : Page} : pg.inRoom = false → 16 < pg.idx := by cases pg <;> decide

/-- Registers of pages that are no Room's, and not RSTG's, lie beside every Room. -/
theorem beside_of {P : PageRef → Nat → Prop} {room : Nat} (hr : room < 2 ^ 20)
    (h : ∀ q o, P q o → q.inst < 2 ^ 20 ∧ o < 4096 ∧ q.page.inRoom = false ∧ q.page ≠ .rstg) : Beside P room where
  page pg inRoom q o a hq ha := by
    obtain ⟨inst, low, outside, -⟩ := h q o hq
    refine regKey_page inst hr low ha fun same => ?_
    rw [same] at outside
    exact Bool.false_ne_true (outside.symm.trans inRoom)
  domain q o hq := by
    obtain ⟨inst, low, outside, -⟩ := h q o hq
    have := Page.idx_of_outside outside
    unfold roomDomainKey regKey
    rw [decide_eq_false (by omega), Bool.false_and]
  rstg q o a hq ha := by
    obtain ⟨inst, low, -, other⟩ := h q o hq
    exact regKey_page inst (show 0 < 2 ^ 20 by decide) low ha fun same => other (congrArg PageRef.page same)

/-- The registers of a Wing's power page. -/
def pwrwRegs (w : Nat) : PageRef → Nat → Prop := fun q o => q = pwrw w ∧ o < 4096

theorem pwrwRegs_beside {w room : Nat} (hw : w < 64) (hr : room < 2 ^ 20) : Beside (pwrwRegs w) room :=
  beside_of hr fun q o hq => by
    obtain ⟨rfl, low⟩ := hq
    exact ⟨show w < 2 ^ 20 by omega, low, rfl, show Page.pwrw ≠ .rstg by decide⟩

/-- A Wing that goes dark keeps its own power page. -/
theorem State.wingDark_rd (s : State) {w o : Nat} (hw : w < 64) (ho : o < 4096) : (s.wingDark w).rd (pwrw w) o = s.rd (pwrw w) o := by
  have dark := foldl_keeps (fun t : State => State.Fading (pwrwRegs w) 0 s t) (fun s r => if s.pwrState r = 2 then s.powerLost r else s)
    (l := s.wingRooms w) (fun t r hr held => held.trans (.when (.powerLost t (pwrwRegs_beside hw (by have := State.wingRooms_lt hw hr; omega))))) .refl
  have stays (t : State) : t.corridorKey w (regKey (pwrw w) o) = false := by
    have page : regKey (pwrw w) o / 2 ^ 32 = 18 := by
      show (18 * 2 ^ 32 + w * 2 ^ 12 + o) / 2 ^ 32 = 18
      omega
    rw [State.corridorKey, page]
    rfl
  refine Eq.trans ?_ (dark.regs (pwrw w) o ⟨rfl, ho⟩)
  rw [State.rd, State.wingDark, State.rd]
  dsimp only
  rw [smDrop_gets, stays]
  rfl

theorem State.Fading.resetRunning (s : State) : State.Fades s s.resetRunning :=
  .foldl _ (fun t i => by
    split
    · exact .when (.suiteReset t i)
    · exact .refl) s

/-- A fence asked for stands. -/
theorem State.askFence_asks (s : State) (w : Nat) {cause : Nat} (h : cause ≠ 0) : smGet 0 (s.askFence w cause).rim.fenceAsk w ≠ 0 := by
  unfold State.askFence
  dsimp only
  rw [smGet_smSet_self]
  split
  · exact h
  · assumption

@[simp] theorem State.askFence_rd (s : State) (w cause : Nat) (q : PageRef) (o : Nat) : (s.askFence w cause).rd q o = s.rd q o := rfl
@[simp] theorem State.askFence_mem (s : State) (w cause : Nat) : (s.askFence w cause).mem = s.mem := rfl

section
variable {s : State} {w : Nat} (hw : w < 64)
include hw

theorem pwrChimneyFault_off (off : s.rdF (pwrw w) 0x080 63 61 = 0 ∨ s.rdF (pwrw w) 0x080 63 61 = 3) : exec (.pwrChimneyFault w) s = .next s := by
  change execPwrChimneyFault w s = _
  rw [execPwrChimneyFault, Nat.mod_eq_of_lt hw]
  exact if_pos off

/-- A Chimney's fault up to its STATE: the event, the record and the resets. -/
def State.chimneyFailed (s : State) (w : Nat) : State :=
  let t := s.pwrwEvent w 3 0x04 0 false
  (t.record (pwrw w) 0x04 1 false false true ((t.suiteOfPhys w).getD 0) noRef (t.rd (pwrw w) 0x0B8)).resetRunning

theorem State.chimneyFailed_event : tst ((s.chimneyFailed w).rd (pwrw w) 0x028) 3 = true := by
  refine (State.Fading.resetRunning _).event (pwrw w) 3 (show 10 < 18 by decide) (show regKey (pwrw w) 0x028 < 2 ^ 32 * 41 from ?_) ?_
  · show 18 * 2 ^ 32 + w * 2 ^ 12 + 0x028 < 2 ^ 32 * 41
    omega
  · rw [State.record_rd]
    exact State.pwrwEvent_sets _ _ _ _ (by decide)

theorem pwrChimneyFault_stands (on : s.rdF (pwrw w) 0x080 63 61 ≠ 0) (up : s.rdF (pwrw w) 0x080 63 61 ≠ 3) : Completes (.pwrChimneyFault w) s fun t =>
    t.rdF (pwrw w) 0x080 63 61 = 3 ∧ tst (t.rd (pwrw w) 0x028) 3 = true ∧ smGet 0 t.rim.fenceAsk w ≠ 0 := by
  have answers : exec (.pwrChimneyFault w) s
      = .next (((((s.chimneyFailed w).wr (pwrw w) 0x080 (put 63 61 3)).wingDark w).wingHist w 32).askFence w 2) := by
    change execPwrChimneyFault w s = _
    rw [execPwrChimneyFault, Nat.mod_eq_of_lt hw]
    exact if_neg (by omega)
  have rd {o : Nat} (ho : o < 4096) : (((((s.chimneyFailed w).wr (pwrw w) 0x080 (put 63 61 3)).wingDark w).wingHist w 32).askFence w 2).rd (pwrw w) o
      = ((s.chimneyFailed w).wr (pwrw w) 0x080 (put 63 61 3)).rd (pwrw w) o := by
    rw [State.askFence_rd, (State.Seaming.wingHist _ hw).regs (pwrw w) o (show w < 2 ^ 20 by omega) (show Page.pwrw ≠ .halw by decide) (show Page.pwrw ≠ .srvw by decide) ho,
      State.wingDark_rd _ hw ho]
  refine ⟨_, answers, ?_, ?_, State.askFence_asks _ _ (by decide)⟩
  · rw [State.rdF, rd (by decide), State.rd_wr_self]
    decide
  · rw [rd (by decide), State.rd_wr_off _ _ (by decide)]
    exact State.chimneyFailed_event hw

/-! ### Remote sense (R521) -/

/-- What the judgement of a sense point leaves: the readings, memory, and a fault already told. -/
structure State.Sensing (w : Nat) (s t : State) : Prop where
  shown : t.rd (pwrw w) 0x090 = s.rd (pwrw w) 0x090
  mem : t.mem = s.mem
  raised : tst (s.rd (pwrw w) 0x028) 1 = true → tst (t.rd (pwrw w) 0x028) 1 = true
  asked : smGet 0 s.rim.fenceAsk w ≠ 0 → smGet 0 t.rim.fenceAsk w ≠ 0

omit hw in
theorem State.Sensing.trans {t u : State} (h : State.Sensing w s t) (k : State.Sensing w t u) : State.Sensing w s u :=
  ⟨k.shown.trans h.shown, k.mem.trans h.mem, k.raised ∘ h.raised, k.asked ∘ h.asked⟩

omit hw in
theorem State.Sensing.refl (s : State) (w : Nat) : State.Sensing w s s := ⟨rfl, rfl, id, id⟩

omit hw in
/-- A change of neither the page nor memory nor fences. -/
theorem State.Sensing.of {t : State} (rd : ∀ o, o < 0x098 → t.rd (pwrw w) o = s.rd (pwrw w) o) (mem : t.mem = s.mem) (ask : t.rim.fenceAsk = s.rim.fenceAsk) :
    State.Sensing w s t :=
  ⟨rd _ (by decide), mem, fun h => by rw [rd _ (by decide)]; exact h, fun h => by rw [ask]; exact h⟩

omit hw in
theorem State.Sensing.event (s : State) (w bit cause point : Nat) (inj : Bool) : State.Sensing w s (s.pwrwEvent w bit cause point inj) where
  shown := s.pwrwEvent_rd
  mem := s.pwrwEvent_mem ..
  raised h := State.raise_keeps _ _ (by rw [State.capture_rd_key _ _ (regKey_off (by decide))]; exact h)
  asked h := by rw [s.pwrwEvent_rim]; exact h

omit hw in
theorem State.Sensing.askFence (s : State) (w cause : Nat) (h : cause ≠ 0) : State.Sensing w s (s.askFence w cause) :=
  ⟨rfl, rfl, id, fun _ => s.askFence_asks w h⟩

omit hw in
/-- The Suites of a Wing halted by a sense fault. -/
theorem State.Sensing.halts (s : State) (w : Nat) (l : List Nat) (code : Nat) :
    State.Sensing w s (l.foldl (fun s i => match s.suite i with | some u => s.sendHalt i u.lead 15 code | none => s) s) :=
  foldl_keeps (fun t => State.Sensing w s t) _ (fun t i _ held => held.trans (by
    split
    · exact .of (fun _ _ => State.sendHalt_rd ..) (State.sendHalt_mem ..) (congrArg Rim.fenceAsk (State.sendHalt_rim ..))
    · exact .refl t w)) (.refl s w)

omit hw in
/-- A sense fault up to its fence. -/
theorem State.senseFault_form (s : State) (w q : Nat) (inj : Bool) : ∃ t : State, s.senseFault w q inj = t.askFence w 3 ∧ State.Sensing w (s.pwrwEvent w 1 0x02 q inj) t := by
  refine ⟨_, rfl, .trans ?_ (.halts _ w _ _)⟩
  exact .of (fun _ _ => rfl) rfl rfl

omit hw in
theorem State.Sensing.senseFault (s : State) (w q : Nat) (inj : Bool) : State.Sensing w s (s.senseFault w q inj) := by
  obtain ⟨t, form, told⟩ := s.senseFault_form w q inj
  rw [form]
  exact ((State.Sensing.event s w 1 0x02 q inj).trans told).trans (.askFence t w 3 (by decide))

omit hw in
theorem State.senseFault_tells (s : State) (w q : Nat) (inj : Bool) : tst ((s.senseFault w q inj).rd (pwrw w) 0x028) 1 = true ∧ smGet 0 (s.senseFault w q inj).rim.fenceAsk w ≠ 0 := by
  obtain ⟨t, form, told⟩ := s.senseFault_form w q inj
  rw [form]
  exact ⟨told.raised (s.pwrwEvent_sets w _ _ (by decide)), t.askFence_asks w (by decide)⟩

theorem State.Sensing.senseAct (s : State) (q : Nat) (fault inj : Bool) : State.Sensing w s (s.senseAct w q fault inj) := by
  unfold State.senseAct
  dsimp only
  split
  · exact .senseFault s w q inj
  · have left (t : State) (v : W64) : State.Sensing w t (t.wr (pwrw w) 0x098 v) := .of (fun _ ho => t.rd_wr_off v (by omega)) rfl rfl
    have hist := State.Seaming.wingHist ((s.pwrwEvent w 0 0x01 q inj).wr (pwrw w) 0x098 (clrBit (s.rd (pwrw w) 0x098) q)) (lo := 48) hw
    exact ((State.Sensing.event s w 0 0x01 q inj).trans (left _ _)).trans <| .of (fun o ho => hist.regs (pwrw w) o (show w < 2 ^ 20 by omega) (show Page.pwrw ≠ .halw by decide) (show Page.pwrw ≠ .srvw by decide) (by omega)) hist.mem hist.fenceAsk

/-- One point of a sense check judged. -/
def State.senseStep (w : Nat) (mv : List Nat) (delta fault : Nat) (injF injA : Bool) (s : State) (q : Nat) : State :=
  let use := fld (s.rd (pwrw w) 0x098) 3 0
  let d := senseLow use mv q
  let isLow : Nat → Bool := fun lim => decide (0 < d.2) && decide ((lim : Int) * (d.2 : Int) < d.1)
  let s := (s.lowSince (8 * w + q) (isLow delta)).lowSince (8 * w + 4 + q) (isLow fault)
  let hitF := s.lowLong (8 * w + 4 + q) || (injF && decide (q = 0))
  let hitA := s.lowLong (8 * w + q) || (injA && decide (q = 0))
  if use.testBit q && (hitF || hitA) then s.senseAct w q hitF ((injF || injA) && decide (q = 0)) else s

theorem State.Sensing.senseStep (s : State) (mv : List Nat) (delta fault : Nat) (injF injA : Bool) (q : Nat) : State.Sensing w s (s.senseStep w mv delta fault injF injA q) := by
  have since (t : State) (k : Nat) (low : Bool) : State.Sensing w t (t.lowSince k low) := .of (fun _ _ => rfl) rfl rfl
  unfold State.senseStep
  dsimp only
  split
  · exact ((since s _ _).trans (since _ _ _)).trans (.senseAct hw _ _ _ _)
  · exact (since s _ _).trans (since _ _ _)

omit hw in
/-- An injected fault acts on the first point where that one is used. -/
theorem State.senseStep_injected (s : State) (mv : List Nat) (delta fault : Nat) (injA : Bool) (used : tst (s.rd (pwrw w) 0x098) 0 = true) :
    ∃ (t : State) (inj : Bool), s.senseStep w mv delta fault true injA 0 = t.senseFault w 0 inj := by
  have use : (fld (s.rd (pwrw w) 0x098) 3 0).testBit 0 = true := by
    rw [testBit_fld]
    exact used
  unfold State.senseStep State.senseAct
  simp only [use, decide_true, Bool.and_true, Bool.or_true, Bool.true_or, if_true, true_or]
  exact ⟨_, _, rfl⟩

variable {q0 q1 q2 q3 : Nat} (h0 : q0 < 2 ^ 16) (h1 : q1 < 2 ^ 16) (h2 : q2 < 2 ^ 16) (h3 : q3 < 2 ^ 16)
include h0 h1 h2 h3

/-- The injection that a sense check takes up. -/
def State.senseTaken (s : State) (w : Nat) : State :=
  if s.isArmed (pwrw w) 1 then s.disarm (pwrw w) 1 else if s.isArmed (pwrw w) 0 && !s.isArmed (pwrw w) 1 then s.disarm (pwrw w) 0 else s

theorem senseCheck_answers : exec (.senseCheck w q0 q1 q2 q3) s
    = let t := s.wr (pwrw w) 0x090 (ofLanes 16 [q0, q1, q2, q3])
      if t.rdF (pwrw w) 0x080 11 0 < 4 * fld (t.rd (pwrw w) 0x098) 35 24 then .next t
      else .next ((List.range 4).foldl (State.senseStep w [q0, q1, q2, q3] (min (fld (t.rd (pwrw w) 0x098) 15 8) (fld (t.rd (pwrw w) 0x098) 23 16)) (fld (t.rd (pwrw w) 0x098) 23 16)
        (t.isArmed (pwrw w) 1) (t.isArmed (pwrw w) 0 && !t.isArmed (pwrw w) 1)) (t.senseTaken w)) := by
  change execSenseCheck w q0 q1 q2 q3 s = _
  rw [execSenseCheck, Nat.mod_eq_of_lt hw, Nat.mod_eq_of_lt (show q0 < 65536 from h0), Nat.mod_eq_of_lt (show q1 < 65536 from h1),
    Nat.mod_eq_of_lt (show q2 < 65536 from h2), Nat.mod_eq_of_lt (show q3 < 65536 from h3)]
  rfl

omit hw h0 h1 h2 h3 in
theorem State.Sensing.senseTaken (s : State) (w : Nat) : State.Sensing w s (s.senseTaken w) := by
  unfold State.senseTaken
  split
  · exact ⟨rfl, rfl, id, id⟩
  · split <;> exact ⟨rfl, rfl, id, id⟩

omit h0 h1 h2 h3 in
theorem State.Sensing.senseSteps (s : State) (mv : List Nat) (delta fault : Nat) (injF injA : Bool) (l : List Nat) :
    State.Sensing w s (l.foldl (State.senseStep w mv delta fault injF injA) s) :=
  foldl_keeps (fun t => State.Sensing w s t) _ (fun t q _ held => held.trans (.senseStep hw t mv delta fault injF injA q)) (.refl s w)

theorem senseCheck_shows : Completes (.senseCheck w q0 q1 q2 q3) s fun t => t.rd (pwrw w) 0x090 = ofLanes 16 [q0, q1, q2, q3] ∧ t.mem = s.mem := by
  have answers := senseCheck_answers (s := s) hw h0 h1 h2 h3
  dsimp only at answers
  have shown : (s.wr (pwrw w) 0x090 (ofLanes 16 [q0, q1, q2, q3])).rd (pwrw w) 0x090 = ofLanes 16 [q0, q1, q2, q3] := State.rd_wr_self ..
  split at answers
  · exact ⟨_, answers, shown, rfl⟩
  · refine ⟨_, answers, ?_, ?_⟩
    · exact ((State.Sensing.senseTaken _ w).trans (.senseSteps hw _ _ _ _ _ _ _)).shown.trans shown
    · exact ((State.Sensing.senseTaken _ w).trans (.senseSteps hw _ _ _ _ _ _ _)).mem

theorem senseCheck_unloaded (light : s.rdF (pwrw w) 0x080 11 0 < 4 * s.rdF (pwrw w) 0x098 35 24) :
    exec (.senseCheck w q0 q1 q2 q3) s = .next (s.wr (pwrw w) 0x090 (ofLanes 16 [q0, q1, q2, q3])) := by
  have rd {o : Nat} (ho : o ≠ 0x090) : (s.wr (pwrw w) 0x090 (ofLanes 16 [q0, q1, q2, q3])).rd (pwrw w) o = s.rd (pwrw w) o := s.rd_wr_off _ ho
  rw [senseCheck_answers hw h0 h1 h2 h3]
  refine if_pos ?_
  rw [State.rdF, rd (by decide), rd (by decide)]
  exact light

theorem senseCheck_injected (armed : s.isArmed (pwrw w) 1 = true) (used : tst (s.rd (pwrw w) 0x098) 0 = true)
    (loaded : 4 * s.rdF (pwrw w) 0x098 35 24 ≤ s.rdF (pwrw w) 0x080 11 0) :
    Completes (.senseCheck w q0 q1 q2 q3) s fun t => tst (t.rd (pwrw w) 0x028) 1 = true ∧ smGet 0 t.rim.fenceAsk w ≠ 0 := by
  have rd {o : Nat} (ho : o ≠ 0x090) : (s.wr (pwrw w) 0x090 (ofLanes 16 [q0, q1, q2, q3])).rd (pwrw w) o = s.rd (pwrw w) o := s.rd_wr_off _ ho
  have answers := senseCheck_answers (s := s) hw h0 h1 h2 h3
  have armed' : (s.wr (pwrw w) 0x090 (ofLanes 16 [q0, q1, q2, q3])).isArmed (pwrw w) 1 = true := armed
  dsimp only at answers
  rw [if_neg (by rw [State.rdF, rd (by decide), rd (by decide)]; exact Nat.not_lt.mpr loaded), armed', State.senseTaken, armed', if_pos rfl] at answers
  obtain ⟨t, inj, first⟩ := State.senseStep_injected ((s.wr (pwrw w) 0x090 (ofLanes 16 [q0, q1, q2, q3])).disarm (pwrw w) 1) (w := w) [q0, q1, q2, q3]
    (min (fld ((s.wr (pwrw w) 0x090 (ofLanes 16 [q0, q1, q2, q3])).rd (pwrw w) 0x098) 15 8) (fld ((s.wr (pwrw w) 0x090 (ofLanes 16 [q0, q1, q2, q3])).rd (pwrw w) 0x098) 23 16))
    (fld ((s.wr (pwrw w) 0x090 (ofLanes 16 [q0, q1, q2, q3])).rd (pwrw w) 0x098) 23 16)
    ((s.wr (pwrw w) 0x090 (ofLanes 16 [q0, q1, q2, q3])).isArmed (pwrw w) 0 && !true) (by rw [State.disarm_rd, rd (by decide)]; exact used)
  rw [show List.range 4 = 0 :: [1, 2, 3] from rfl, List.foldl_cons, first] at answers
  obtain ⟨raised, asked⟩ := t.senseFault_tells w 0 inj
  exact ⟨_, answers, (State.Sensing.senseSteps hw _ _ _ _ _ _ _).raised raised, (State.Sensing.senseSteps hw _ _ _ _ _ _ _).asked asked⟩

end

/-! ### Cooling (R526, R528) -/

/-- Since when a coolant limit has been broken, after a sample. -/
def State.coolSince (s : State) (o : Option Nat) (low : Bool) : Option Nat := if low then (match o with | some t => some t | none => some s.et) else none

/-- The coolant's readings shown. -/
def State.coolWritten (s : State) (f ti tout : Nat) : State := s.wr pwrg 0x088 (setFld (setFld (setFld (s.rd pwrg 0x088) 15 0 f) 31 16 ti) 47 32 tout)

/-- A coolant sample kept. -/
def State.coolShown (s : State) (l : List (Nat × Nat × Nat)) (f ti tout : Nat) : State :=
  let t := s.coolWritten f ti tout
  { t with rim := { t.rim with
    flow := l
    flowLow := s.coolSince s.rim.flowLow (decide (f < 10 * s.rdF pwrg 0x090 7 0))
    hotIn := s.coolSince s.rim.hotIn (decide (450 < ti)) } }

section
variable {s : State} {flow tin tout f ti : Nat} {l : List (Nat × Nat × Nat)}

theorem coolantSample_answers (hf : flow < 2 ^ 16) (hi : tin < 2 ^ 16) (ho : tout < 2 ^ 16) (hl : l = (s.rim.flow ++ [(flow, tin, tout)]).drop (s.rim.flow.length + 1 - 10))
    (meanF : f = meanOf (l.map Prod.fst)) (meanT : ti = meanOf (l.map fun e => e.2.1)) :
    exec (.coolantSample flow tin tout) s = .next (s.coolShown l f ti (meanOf (l.map fun e => e.2.2))) := by
  have limit (a b c : Nat) : (s.coolWritten a b c).rdF pwrg 0x090 7 0 = s.rdF pwrg 0x090 7 0 := congrArg (fun x => fld x 7 0) (s.rd_wr_off _ (by decide))
  subst hl meanF meanT
  rw [State.coolShown, ← limit]
  change execCoolantSample flow tin tout s = _
  rw [execCoolantSample, Nat.mod_eq_of_lt (show flow < 65536 from hf), Nat.mod_eq_of_lt (show tin < 65536 from hi), Nat.mod_eq_of_lt (show tout < 65536 from ho)]
  rfl

theorem coolantSample_shows (hf : flow < 2 ^ 16) (hi : tin < 2 ^ 16) (ho : tout < 2 ^ 16) (hl : l = (s.rim.flow ++ [(flow, tin, tout)]).drop (s.rim.flow.length + 1 - 10))
    (meanF : f = meanOf (l.map Prod.fst)) (meanT : ti = meanOf (l.map fun e => e.2.1)) : Completes (.coolantSample flow tin tout) s fun t =>
    t.rim.flow = l ∧ t.rdF pwrg 0x088 15 0 = f % 2 ^ 16 ∧ t.rdF pwrg 0x088 31 16 = ti % 2 ^ 16 ∧ t.mem = s.mem
      ∧ (10 * s.rdF pwrg 0x090 7 0 ≤ f → t.rim.flowLow = none) ∧ (f < 10 * s.rdF pwrg 0x090 7 0 → s.rim.flowLow = none → t.rim.flowLow = some s.et)
      ∧ (ti ≤ 450 → t.rim.hotIn = none) ∧ (450 < ti → s.rim.hotIn = none → t.rim.hotIn = some s.et) := by
  have shown (c : Nat) : (s.coolShown l f ti c).rd pwrg 0x088 = setFld (setFld (setFld (s.rd pwrg 0x088) 15 0 f) 31 16 ti) 47 32 c := State.rd_wr_self ..
  have within (o : Option Nat) : s.coolSince o false = none := rfl
  have begins : s.coolSince none true = some s.et := rfl
  refine ⟨_, coolantSample_answers hf hi ho hl meanF meanT, rfl, ?_, ?_, rfl, fun good => ?_, fun low first => ?_, fun good => ?_, fun hot first => ?_⟩
  · rw [State.rdF, shown, fld_setFld_ne _ (by decide) (by decide), fld_setFld_ne _ (by decide) (by decide), fld_setFld_mod _ _ (by decide)]
  · rw [State.rdF, shown, fld_setFld_ne _ (by decide) (by decide), fld_setFld_mod _ _ (by decide)]
  · change s.coolSince s.rim.flowLow (decide (f < 10 * s.rdF pwrg 0x090 7 0)) = none
    rw [decide_eq_false (by omega), within]
  · change s.coolSince s.rim.flowLow (decide (f < 10 * s.rdF pwrg 0x090 7 0)) = some s.et
    rw [decide_eq_true low, first, begins]
  · change s.coolSince s.rim.hotIn (decide (450 < ti)) = none
    rw [decide_eq_false (by omega), within]
  · change s.coolSince s.rim.hotIn (decide (450 < ti)) = some s.et
    rw [decide_eq_true hot, first, begins]

end

/-! ### Every Room opened (R528) -/

section
variable {P : PageRef → Nat → Prop} {N : Nat}

theorem State.Fading.haltRunning (s : State) (code : Nat) : State.Fading P N s (s.haltRunning code) :=
  .foldl _ (fun t i => by
    split
    · exact .when (.sendHalt ..)
    · exact .refl) s

theorem State.Fading.roomOpen (s : State) {room : Nat} (st : Nat) (far : Beside P room) : State.Fading P N s (s.roomOpen room st) :=
  (State.Fading.when (.powerLost s far)).trans (.wr _ _ (far.page .pwr rfl))

/-- What opening every Room leaves, where the Rooms of the Suites lie beside the registers looked at: no Suite's Rooms change meanwhile. -/
theorem State.Fading.openAll (s : State) (far : ∀ i u r, s.suite i = some u → r ∈ u.rooms → Beside P r) : State.Fading P N s s.openAll := by
  refine foldl_keeps (fun t => State.Fading P N s t) _ (fun t i _ held => ?_) .refl
  split
  · next v defined =>
    have rooms : ∀ r, r ∈ v.rooms → Beside P r := fun r hr => by
      cases before : s.suite i with
      | none => rw [held.gone i before] at defined; cases defined
      | some u =>
        obtain ⟨v', same, settles⟩ := held.kept i u before
        rw [defined] at same
        cases same
        exact far i u r before (settles.rooms ▸ hr)
    exact held.trans (foldl_keeps (fun x => State.Fading P N t x) _ (fun x r hr kept => kept.trans (.when (.roomOpen x 0 (rooms r hr)))) .refl)
  · exact held

theorem State.Fading.setDropsOf (s : State) {w : Nat} (far : ∀ r, r ∈ s.wingRooms w → Apart P (pwr r)) : State.Fading P N s (s.setDrops w) :=
  foldl_keeps (fun t => State.Fading P N s t) _ (fun t r hr held => held.trans (.wrF t _ _ _ (far r hr))) .refl

theorem State.Fading.moveRailOf (s : State) {w : Nat} (rate : Nat) (wing : Apart P (pwrw w)) (far : ∀ r, r ∈ s.wingRooms w → Apart P (pwr r)) :
    State.Fading P N s (s.moveRail w rate) := by
  have named : State.Fading P N s (s.wrF (pwrw w) 0x088 15 0 (vnom (s.wingRate w)).toNat) := .wrF _ _ _ _ wing
  unfold State.moveRail
  dsimp only
  split
  · exact named.trans (.setDropsOf _ far)
  · exact named.trans (.of rfl rfl rfl rfl rfl rfl rfl)

theorem State.Fading.moveRails (s : State) (wing : ∀ w, w < 64 → Apart P (pwrw w)) (far : ∀ r, r < 16384 → Apart P (pwr r)) : State.Fading P N s s.moveRails :=
  foldl_keeps (fun t => State.Fading P N s t) _ (fun t w hw held => by
    have low := List.mem_range.mp hw
    exact held.trans (.when (.moveRailOf t _ (wing w low) fun r hr => far r (State.wingRooms_lt low hr)))) .refl

end

/-- A coolant fault up to the halts: its event and its record. -/
def State.coolTold (s : State) (bit cause : Nat) : State :=
  (s.pwrgEvent bit cause false).record pwrg cause 1 false false true 0 noRef ((s.pwrgEvent bit cause false).rd pwrg 0x0A8)

theorem State.coolFault_form (s : State) (bit cause : Nat) : s.coolFault bit cause false
    = { ((((s.coolTold bit cause).haltRunning (Page.pwrg.cls * 256 + cause)).openAll).moveRails) with
        rim := { ((((s.coolTold bit cause).haltRunning (Page.pwrg.cls * 256 + cause)).openAll).moveRails).rim with coolBad := true } } := rfl

/-- What a coolant fault leaves of what it has told, where the Rooms of the Suites lie beside the registers looked at. -/
theorem State.Fading.coolHalts {P : PageRef → Nat → Prop} {N : Nat} (s : State) (code : Nat) (far : ∀ i u r, s.suite i = some u → r ∈ u.rooms → Beside P r)
    (wing : ∀ w, w < 64 → Apart P (pwrw w)) (rooms : ∀ r, r < 16384 → Apart P (pwr r)) : State.Fading P N s (((s.haltRunning code).openAll).moveRails) := by
  have halted : State.Fading P N s (s.haltRunning code) := .haltRunning s code
  refine halted.trans ((State.Fading.openAll _ fun i v r defined hr => ?_).trans (.moveRails _ wing rooms))
  cases before : s.suite i with
  | none => rw [halted.gone i before] at defined; cases defined
  | some u =>
    obtain ⟨v', same, settles⟩ := halted.kept i u before
    rw [defined] at same
    cases same
    exact far i u r before (settles.rooms ▸ hr)

theorem State.coolFault_tells (s : State) {bit : Nat} (cause : Nat) (hb : bit < 64) : (s.coolFault bit cause false).rim.coolBad = true
    ∧ tst ((s.coolFault bit cause false).rd pwrg 0x028) bit = true ∧ ∃ r, r ∈ (s.coolFault bit cause false).flying ∧ r.code = Page.pwrg.cls * 256 + cause := by
  have halts : State.Fading noRegs (2 ^ 40) (s.coolTold bit cause) ((((s.coolTold bit cause).haltRunning (Page.pwrg.cls * 256 + cause)).openAll).moveRails) :=
    .coolHalts _ _ (fun _ _ r _ _ => noRegs_beside r) (fun _ _ => noRegs_apart _) (fun _ _ => noRegs_apart _)
  obtain ⟨r, flying, code, -⟩ := (s.pwrgEvent bit cause false).record_adds pwrg cause 1 false false true 0 noRef ((s.pwrgEvent bit cause false).rd pwrg 0x0A8)
  rw [State.coolFault_form]
  refine ⟨rfl, ?_, r, ?_, code⟩
  · refine halts.event pwrg bit (by decide) (by decide) ?_
    rw [State.coolTold, State.record_rd]
    exact State.raise_sets _ _ rfl hb
  · refine halts.flying r ?_
    rw [State.coolTold, flying]
    exact List.mem_append_right _ List.mem_cons_self

/-- The leak's bit. -/
def leakReg : PageRef → Nat → Prop := fun q o => q = pwrg ∧ o = 0x088

theorem leakReg_beside {room : Nat} (hr : room < 16384) : Beside leakReg room :=
  beside_of (by omega) fun q o hq => by
    obtain ⟨rfl, rfl⟩ := hq
    exact ⟨by decide, by decide, rfl, by decide⟩

theorem State.coolFault_leak (s : State) (bit cause : Nat) (small : ∀ i u r, s.suite i = some u → r ∈ u.rooms → r < 16384) :
    (s.coolFault bit cause false).rd pwrg 0x088 = s.rd pwrg 0x088 := by
  have suites (i : Nat) : (s.coolTold bit cause).suite i = s.suite i := by simp [State.coolTold, State.pwrgEvent]
  have halts : State.Fading leakReg 0 (s.coolTold bit cause) ((((s.coolTold bit cause).haltRunning (Page.pwrg.cls * 256 + cause)).openAll).moveRails) := by
    refine .coolHalts _ _ (fun i u r defined hr => leakReg_beside (small i u r ((suites i).symm.trans defined) hr)) (fun w hw => ?_) (fun r hr => (leakReg_beside hr).page .pwr rfl)
    rintro q o a ⟨rfl, rfl⟩ ha
    exact regKey_page (by decide) (show w < 2 ^ 20 by omega) (by decide) ha fun same => by cases congrArg PageRef.page same
  rw [State.coolFault_form]
  refine (halts.regs pwrg 0x088 ⟨rfl, rfl⟩).trans ?_
  rw [State.coolTold, State.record_rd, State.pwrgEvent_rd]

/-! ### Coolant faults, leaks, and their end -/

section
variable {s : State}

/-- Whether a limit has been broken for 1 s. -/
def State.coolLong (s : State) (o : Option Nat) : Bool := match o with | some t => decide (t + 156250000 ≤ s.et) | none => false

theorem pwrCoolantFault_answers (unarmed : s.isArmed pwrg 2 = false) : exec .pwrCoolantFault s
    = .next (if (s.coolLong s.rim.flowLow || s.coolLong s.rim.hotIn) && !s.rim.coolBad then s.coolFault 2 0x12 false else s) := by
  change execPwrCoolantFault s = _
  rw [execPwrCoolantFault, unarmed]
  rfl

theorem pwrCoolantFault_none (unarmed : s.isArmed pwrg 2 = false) (h : s.rim.coolBad = true ∨ (s.rim.flowLow = none ∧ s.rim.hotIn = none)) :
    exec .pwrCoolantFault s = .next s := by
  rw [pwrCoolantFault_answers unarmed]
  rcases h with bad | ⟨flow, hot⟩
  · rw [bad, Bool.not_true, Bool.and_false]
    rfl
  · rw [flow, hot]
    rfl

theorem pwrCoolantFault_faults {b : Nat} (unarmed : s.isArmed pwrg 2 = false) (good : s.rim.coolBad = false) (broken : s.rim.flowLow = some b ∨ s.rim.hotIn = some b)
    (due : b + 156250000 ≤ s.et) : Completes .pwrCoolantFault s fun t =>
    t.rim.coolBad = true ∧ tst (t.rd pwrg 0x028) 2 = true ∧ ∃ r, r ∈ t.flying ∧ r.code = Page.pwrg.cls * 256 + 0x12 := by
  have lasts : s.coolLong (some b) = true := decide_eq_true due
  refine ⟨_, (pwrCoolantFault_answers unarmed).trans (congrArg _ (if_pos ?_)), s.coolFault_tells 0x12 (by decide)⟩
  rw [good, Bool.not_false, Bool.and_true]
  rcases broken with flow | hot
  · rw [flow, lasts, Bool.true_or]
  · rw [hot, lasts, Bool.or_true]

theorem pwrLeak_answers (wet : Bool) (unarmed : s.isArmed pwrg 3 = false) : exec (.pwrLeak wet) s
    = .next (if wet && !tst (s.rd pwrg 0x088) 63 then (s.wrF pwrg 0x088 63 63 (b2n wet)).coolFault 3 0x13 false else s.wrF pwrg 0x088 63 63 (b2n wet)) := by
  change execPwrLeak wet s = _
  rw [execPwrLeak, unarmed]
  rfl

theorem pwrLeak_dry (unarmed : s.isArmed pwrg 3 = false) : exec (.pwrLeak false) s = .next (s.wrF pwrg 0x088 63 63 0) := pwrLeak_answers false unarmed

theorem pwrLeak_lasting (unarmed : s.isArmed pwrg 3 = false) (was : tst (s.rd pwrg 0x088) 63 = true) : exec (.pwrLeak true) s = .next (s.wrF pwrg 0x088 63 63 1) := by
  rw [pwrLeak_answers true unarmed, was]
  rfl

theorem pwrLeak_faults (unarmed : s.isArmed pwrg 3 = false) (was : tst (s.rd pwrg 0x088) 63 = false) : Completes (.pwrLeak true) s fun t =>
    t.rim.coolBad = true ∧ tst (t.rd pwrg 0x028) 3 = true
      ∧ ((∀ i u r, s.suite i = some u → r ∈ u.rooms → r < 16384) → tst (t.rd pwrg 0x088) 63 = true) ∧ ∃ r, r ∈ t.flying ∧ r.code = Page.pwrg.cls * 256 + 0x13 := by
  obtain ⟨bad, event, record⟩ := (s.wrF pwrg 0x088 63 63 1).coolFault_tells (bit := 3) 0x13 (by decide)
  refine ⟨_, (pwrLeak_answers true unarmed).trans (congrArg _ (if_pos (by rw [was]; rfl))), bad, event, fun small => ?_, record⟩
  have kept := (s.wrF pwrg 0x088 63 63 1).coolFault_leak 3 0x13 small
  refine (congrArg (fun x => tst x 63) kept).trans ?_
  rw [State.wrF, State.rd_wr_self, tst_fld, fld_setFld _ (by decide) (by decide)]
  rfl

theorem pwrgClear_refused (h : s.rim.flowLow ≠ none ∨ s.rim.hotIn ≠ none ∨ tst (s.rd pwrg 0x088) 63 = true) : TurnedAway .pwrgClear s pwrg 4 := by
  have answers : exec .pwrgClear s = .next (s.pwrgEvent 4 0x14 false) := by
    refine congrArg Host.Outcome.next (if_pos ?_)
    rw [Bool.or_eq_true, Bool.or_eq_true, Option.isSome_iff_ne_none, Option.isSome_iff_ne_none]
    exact or_assoc.mpr h
  exact turned_capture answers (fun _ => rfl) (by decide)

theorem pwrgClear_clears (flow : s.rim.flowLow = none) (hot : s.rim.hotIn = none) (dry : tst (s.rd pwrg 0x088) 63 = false) :
    exec .pwrgClear s = .next { s with rim := { s.rim with coolBad := false } } := by
  refine congrArg Host.Outcome.next (if_neg ?_)
  rw [flow, hot, dry]
  decide

end

/-- Settles O54. A Room that opens leaves what lies beyond its own pages, and a Suite reset keeps events once raised; the rest is read off command by command.
What the hardware samples and when a rail is reached are the model's choices (log entries 73, 74). -/
theorem powerDelivery : Obligations.PowerDelivery := by
  unfold Obligations.PowerDelivery
  intro s
  refine ⟨fun room w hr hw => ⟨roomOn_refused hw, fun place regulates cooled => ⟨roomOn_on hw place regulates cooled, roomOn_ramps hw place regulates cooled hr⟩,
      roomOff_refused, fun idle => ⟨roomOff_off idle, roomOff_opens idle⟩, headerStage_waits, headerStage_closes, fun bad => ⟨roomPowerGood_waits bad,
        fun ramps closed unarmed => ⟨fun good => ?_, fun failed => ?_⟩⟩, tripClr_untripped, fun tripped => ⟨tripClr_hot tripped, tripClr_clears tripped⟩,
      fun v x hx => ⟨vtrimWrite_refused hx, vtrimWrite_sets hx hr⟩, tmaxClear_follows⟩,
    fun vin iin => inputSample_shows, inputShutdown_good, fun b us bad hus => ⟨inputShutdown_waits bad hus, inputShutdown_ends bad hus⟩,
    fun w hw => ⟨fun ph vout iout => chimneySample_shows hw, fun st temp unarmed => ⟨pmbusPoll_cool hw unarmed, pmbusPoll_warm hw unarmed⟩,
      pwrChimneyFault_off hw, pwrChimneyFault_stands hw, chimneyRestart_up hw, fun down => ⟨chimneyRestart_refused hw down, chimneyRestart_starts hw down⟩,
      railReached_still hw, railReached_holds hw, fun q0 q1 q2 q3 h0 h1 h2 h3 => ⟨senseCheck_shows hw h0 h1 h2 h3, fun _ _ => senseCheck_unloaded hw h0 h1 h2 h3,
        senseCheck_injected hw h0 h1 h2 h3⟩⟩,
    fun flow tin tout l f ti => coolantSample_shows, fun unarmed => ⟨pwrCoolantFault_none unarmed, fun b => pwrCoolantFault_faults unarmed⟩,
    fun unarmed => ⟨pwrLeak_dry unarmed, pwrLeak_lasting unarmed, pwrLeak_faults unarmed⟩, pwrgClear_refused, pwrgClear_clears⟩
  · subst good
    exact roomPowerGood_on hr ramps closed unarmed
  · subst failed
    exact roomPowerGood_fails hr ramps closed unarmed

end Sys2Proof.Machine

/-! ## Clocks, rate switches, the Suite table and the remap stage (O55) -/

namespace Sys2Proof.Machine

-- One proof at a time: the check's memory limit counts the stack of every thread that waits for an earlier proof.
set_option Elab.async false

/-! ### Events of CLKG -/

@[simp] theorem State.clkgEvent_rim (s : State) (bit cause detail suite : Nat) (inj : Bool) : (s.clkgEvent bit cause detail suite inj).rim = s.rim := by simp [State.clkgEvent]
@[simp] theorem State.clkgEvent_mem (s : State) (bit cause detail suite : Nat) (inj : Bool) : (s.clkgEvent bit cause detail suite inj).mem = s.mem := by simp [State.clkgEvent]
@[simp] theorem State.clkgEvent_suites (s : State) (bit cause detail suite : Nat) (inj : Bool) : (s.clkgEvent bit cause detail suite inj).suites = s.suites := by
  simp [State.clkgEvent]

theorem State.clkgEvent_sets (s : State) {bit cause detail suite : Nat} {inj : Bool} (hb : bit < 64) :
    tst ((s.clkgEvent bit cause detail suite inj).rd clkg 0x028) bit = true := State.raise_sets _ _ rfl hb

theorem State.clkgEvent_keeps (s : State) {bit cause detail suite i : Nat} {inj : Bool} (h : tst (s.rd clkg 0x028) i = true) :
    tst ((s.clkgEvent bit cause detail suite inj).rd clkg 0x028) i = true :=
  State.raise_keeps _ _ (by rw [State.capture_rd_key _ _ (regKey_off (by decide))]; exact h)

theorem State.clkgEvent_rd (s : State) {bit cause detail suite : Nat} {inj : Bool} {q : PageRef} {o : Nat} (ho : o < 4096 := by decide) (h1 : o ≠ 0x028 := by decide)
    (h2 : o ≠ 0x040 := by decide) (h3 : o ≠ 0x0A0 := by decide) : (s.clkgEvent bit cause detail suite inj).rd q o = s.rd q o := by
  rw [State.clkgEvent, State.raise_rd _ _ (regKey_offs ho (by decide) h1) (regKey_offs ho (by decide) h2), State.capture_rd_key _ _ (regKey_offs ho (by decide) h3)]

/-! ### References (R533, R534, R548) -/

theorem State.haltRunning_keeps (s : State) (code : Nat) : (∀ q o, (s.haltRunning code).rd q o = s.rd q o) ∧ (s.haltRunning code).rim = s.rim ∧ (s.haltRunning code).mem = s.mem :=
  foldl_keeps (fun t : State => (∀ q o, t.rd q o = s.rd q o) ∧ t.rim = s.rim ∧ t.mem = s.mem) _ (fun t i _ held => by
    obtain ⟨rd, rim, mem⟩ := held
    split
    · split
      · exact ⟨fun q o => (State.sendHalt_rd ..).trans (rd q o), (State.sendHalt_rim ..).trans rim, (State.sendHalt_mem ..).trans mem⟩
      · exact ⟨rd, rim, mem⟩
    · exact ⟨rd, rim, mem⟩) ⟨fun _ _ => rfl, rfl, rfl⟩

/-- The loss of the last reference, up to the halts. -/
def State.refGoes (s : State) : State :=
  let s := s.clkgEvent 1 0x11 0 0 false
  let s := s.record clkg 0x11 1 false false true 0 noRef (s.rd clkg 0x0A0)
  { s with rim := { s.rim with refGone := true } }

theorem State.refGoes_rd (s : State) (q : PageRef) (o : Nat) : s.refGoes.rd q o = (s.clkgEvent 1 0x11 0 0 false).rd q o := rfl
theorem State.refGoes_refGone (s : State) : s.refGoes.rim.refGone = true := rfl
theorem State.refGoes_mem (s : State) : s.refGoes.mem = s.mem := s.clkgEvent_mem ..

theorem State.refLost_form (s : State) : s.refLost = (s.refGoes.haltRunning (Page.clkg.cls * 256 + 0x11)).wrF (gp .srvg) 0x080 63 63 0 := rfl

theorem State.refLost_tells (s : State) : tst (s.refLost.rd srvg 0x080) 63 = false ∧ s.refLost.rim.refGone = true ∧ tst (s.refLost.rd clkg 0x028) 1 = true
    ∧ (∀ i, tst (s.rd clkg 0x028) i = true → tst (s.refLost.rd clkg 0x028) i = true) ∧ s.refLost.mem = s.mem := by
  obtain ⟨rd, rim, mem⟩ := s.refGoes.haltRunning_keeps (Page.clkg.cls * 256 + 0x11)
  have event : s.refLost.rd clkg 0x028 = (s.clkgEvent 1 0x11 0 0 false).rd clkg 0x028 := by
    rw [State.refLost_form, State.wrF, State.rd_wr_key _ _ regKey_offs, rd, State.refGoes_rd]
  refine ⟨?_, ?_, ?_, fun i h => ?_, ?_⟩
  · rw [State.refLost_form, State.wrF, srvg, State.rd_wr_self, tst_fld, fld_setFld _ (by decide) (by decide)]
    rfl
  · rw [State.refLost_form, State.wrF_rim, rim, State.refGoes_refGone]
  · rw [event]
    exact s.clkgEvent_sets (by decide)
  · rw [event]
    exact s.clkgEvent_keeps h
  · rw [State.refLost_form, State.wrF_mem, mem, State.refGoes_mem]

section
variable {s g : State} {ref : Nat} {w : W64} (low : ref < 2) (hw : w = s.rd clkg 0x080) (hg : g = s.wr clkg 0x080 (clrBit w ref)) (unarmed : s.isArmed clkg 0 = false)
include low hw hg unarmed

theorem clkRefFail_answers : exec (.clkRefFail ref) s = if ref ≠ fld w 3 3 then .next (if tst w (fld w 3 3) then g else g.refLost)
    else .next (if tst w 5 ∧ tst w (1 - ref) then (g.clkgEvent 0 0x10 0 0 false).wrF clkg 0x080 3 3 (1 - fld w 3 3) else (g.clkgEvent 0 0x10 0 0 false).refLost) := by
  subst hw hg
  change execClkRefFail ref s = _
  rw [execClkRefFail, unarmed]
  dsimp only
  rw [if_neg Bool.false_ne_true, Nat.mod_eq_of_lt low]
  rfl

theorem clkRefFail_spare (spare : ref ≠ fld w 3 3) (lit : tst w (fld w 3 3) = true) : exec (.clkRefFail ref) s = .next g := by
  rw [clkRefFail_answers low hw hg unarmed, if_pos spare, if_pos lit]

theorem clkRefFail_last (spare : ref ≠ fld w 3 3) (dark : tst w (fld w 3 3) = false) : exec (.clkRefFail ref) s = .next g.refLost := by
  rw [clkRefFail_answers low hw hg unarmed, if_pos spare, if_neg (by rw [dark]; exact Bool.false_ne_true)]

theorem clkRefFail_switches (active : ref = fld w 3 3) (auto : tst w 5 = true) (good : tst w (1 - ref) = true) : Completes (.clkRefFail ref) s fun t =>
    fld (t.rd clkg 0x080) 3 3 = 1 - ref ∧ tst (t.rd clkg 0x080) ref = false ∧ tst (t.rd clkg 0x028) 0 = true ∧ t.mem = s.mem ∧ t.suites = s.suites := by
  have answers := clkRefFail_answers low hw hg unarmed
  rw [if_neg (not_not.mpr active), if_pos ⟨auto, good⟩, ← active] at answers
  have shown : ((g.clkgEvent 0 0x10 0 0 false).wrF clkg 0x080 3 3 (1 - ref)).rd clkg 0x080 = setFld (clrBit w ref) 3 3 (1 - ref) := by
    rw [State.wrF, State.rd_wr_self, State.clkgEvent_rd, hg, State.rd_wr_self]
  refine ⟨_, answers, ?_, ?_, ?_, ?_, ?_⟩
  · rw [shown, fld_setFld _ (by decide) (by omega)]
  · rw [shown, tst_setFld_ne _ (by omega), tst_clrBit]
  · rw [State.rd_wrF_off _ _ _ _ (by decide)]
    exact g.clkgEvent_sets (by decide)
  · rw [State.wrF_mem, State.clkgEvent_mem, hg]
    rfl
  · rw [State.wrF_suites, State.clkgEvent_suites, hg]
    rfl

theorem clkRefFail_loses (active : ref = fld w 3 3) (h : tst w 5 = false ∨ tst w (1 - ref) = false) : Completes (.clkRefFail ref) s fun t =>
    tst (t.rd srvg 0x080) 63 = false ∧ t.rim.refGone = true ∧ tst (t.rd clkg 0x028) 0 = true ∧ tst (t.rd clkg 0x028) 1 = true ∧ t.mem = s.mem := by
  have answers := clkRefFail_answers low hw hg unarmed
  have stays : ¬(tst w 5 = true ∧ tst w (1 - ref) = true) := fun ⟨auto, good⟩ => by
    rw [auto, good] at h
    exact h.elim (fun h => by cases h) (fun h => by cases h)
  rw [if_neg (not_not.mpr active), if_neg stays] at answers
  obtain ⟨ready, gone, lost, keeps, mem⟩ := (g.clkgEvent 0 0x10 0 0 false).refLost_tells
  refine ⟨_, answers, ready, gone, keeps 0 (g.clkgEvent_sets (by decide)), lost, ?_⟩
  rw [mem, State.clkgEvent_mem, hg]
  rfl

end

theorem refSelect_takes {s : State} (v : W64) : Completes (.refSelect v) s fun t => fld (t.rd clkg 0x080) 5 4 = fld v 5 4 ∧ fld (t.rd clkg 0x080) 1 0 = s.rdF clkg 0x080 1 0
    ∧ t.mem = s.mem ∧ fld (t.rd clkg 0x080) 3 3 = if tst (s.rd clkg 0x080) (fld v 4 4) then fld v 4 4 else s.rdF clkg 0x080 3 3 := by
  have sel : fld v 4 4 < 2 := fld_lt v 4 4
  have auto : fld v 5 5 < 2 := fld_lt v 5 5
  have written : ((s.wrF clkg 0x080 5 5 (fld v 5 5)).wrF clkg 0x080 4 4 (fld v 4 4)).rd clkg 0x080 = setFld (setFld (s.rd clkg 0x080) 5 5 (fld v 5 5)) 4 4 (fld v 4 4) := by
    rw [State.wrF, State.rd_wr_self, State.wrF, State.rd_wr_self]
  have both (x : W64) : fld x 5 4 = fld x 4 4 + 2 * fld x 5 5 := by
    unfold fld
    simp only [Nat.shiftRight_eq_div_pow, Nat.reduceAdd, Nat.reduceSub, Nat.reducePow]
    omega
  have lit : tst (setFld (setFld (s.rd clkg 0x080) 5 5 (fld v 5 5)) 4 4 (fld v 4 4)) (fld v 4 4) = tst (s.rd clkg 0x080) (fld v 4 4) := by
    rw [tst_setFld_ne _ (by omega), tst_setFld_ne _ (by omega)]
  have answers : exec (.refSelect v) s = .next (if tst (((s.wrF clkg 0x080 5 5 (fld v 5 5)).wrF clkg 0x080 4 4 (fld v 4 4)).rd clkg 0x080) (fld v 4 4)
      then ((s.wrF clkg 0x080 5 5 (fld v 5 5)).wrF clkg 0x080 4 4 (fld v 4 4)).wrF clkg 0x080 3 3 (fld v 4 4)
      else (s.wrF clkg 0x080 5 5 (fld v 5 5)).wrF clkg 0x080 4 4 (fld v 4 4)) := rfl
  have choice : fld (setFld (setFld (s.rd clkg 0x080) 5 5 (fld v 5 5)) 4 4 (fld v 4 4)) 5 4 = fld v 5 4 := by
    rw [both, both v, fld_setFld _ (by decide) sel, fld_setFld_ne _ (by decide) (by decide), fld_setFld _ (by decide) auto]
  have good : fld (setFld (setFld (s.rd clkg 0x080) 5 5 (fld v 5 5)) 4 4 (fld v 4 4)) 1 0 = s.rdF clkg 0x080 1 0 := by
    rw [fld_setFld_ne _ (by decide) (by decide), fld_setFld_ne _ (by decide) (by decide), State.rdF]
  rw [written, lit] at answers
  by_cases taken : tst (s.rd clkg 0x080) (fld v 4 4) = true
  · rw [if_pos taken] at answers
    have shown : (((s.wrF clkg 0x080 5 5 (fld v 5 5)).wrF clkg 0x080 4 4 (fld v 4 4)).wrF clkg 0x080 3 3 (fld v 4 4)).rd clkg 0x080
        = setFld (setFld (setFld (s.rd clkg 0x080) 5 5 (fld v 5 5)) 4 4 (fld v 4 4)) 3 3 (fld v 4 4) := by rw [State.wrF, State.rd_wr_self, written]
    refine ⟨_, answers, ?_, ?_, rfl, ?_⟩
    · rw [shown, fld_setFld_ne _ (by decide) (by decide), choice]
    · rw [shown, fld_setFld_ne _ (by decide) (by decide), good]
    · rw [shown, if_pos taken, fld_setFld _ (by decide) sel]
  · rw [if_neg taken] at answers
    refine ⟨_, answers, ?_, ?_, rfl, ?_⟩
    · rw [written, choice]
    · rw [written, good]
    · rw [written, if_neg taken, fld_setFld_ne _ (by decide) (by decide), fld_setFld_ne _ (by decide) (by decide), State.rdF]

/-! ### Wing PLLs (R537, R539) -/

@[simp] theorem State.rateSw_setRateSw (s : State) (i : Nat) (x : Option RateSw) : (s.setRateSw i x).rateSw i = x := by simp [State.rateSw, State.setRateSw]

section
variable {s : State} {w : Nat} (hw : w < 64)
include hw

theorem clkLockLost_stopped (stopped : smGet 0 s.rim.clkStop w ≠ 0) : exec (.clkLockLost w) s = .next s := by
  change execClkLockLost w s = _
  rw [execClkLockLost, Nat.mod_eq_of_lt hw]
  exact if_pos stopped

omit hw in
/-- A Wing whose clock stops, before its Suites are reset. -/
def State.wingStopped (s : State) (w : Nat) (inj : Bool) : State :=
  let s := if inj then s.disarm (clkw w) 0 else s
  let st := s.rd (clkw w) 0x080
  let s := s.wr (clkw w) 0x080 (clrBit st (lockBit (fld st 45 45)))
  let s := ((s.capture (clkw w) 0x090 (put 63 56 0x01)).raise (clkw w) 0 inj).bump (clkw w) 0x088 31 16 1
  let s := s.record (clkw w) 0x01 1 inj false true ((s.suiteOfPhys w).getD 0) noRef (s.rd (clkw w) 0x090)
  let s := s.wingHist w 16
  { s with rim := { s.rim with clkStop := smSet 0 s.rim.clkStop w (s.et + 1) } }

theorem clkLockLost_answers (runs : smGet 0 s.rim.clkStop w = 0) : exec (.clkLockLost w) s
    = .next (((s.wingStopped w (s.isArmed (clkw w) 0)).suitesInWing w).foldl (fun s i => s.suiteReset i) (s.wingStopped w (s.isArmed (clkw w) 0))) := by
  change execClkLockLost w s = _
  rw [execClkLockLost, Nat.mod_eq_of_lt hw]
  exact if_neg (not_not.mpr runs)

/-- A Wing stopped up to its history. -/
def State.lockGone (s : State) (w : Nat) (inj : Bool) : State :=
  let s := if inj then s.disarm (clkw w) 0 else s
  let s := s.wr (clkw w) 0x080 (clrBit (s.rd (clkw w) 0x080) (lockBit (fld (s.rd (clkw w) 0x080) 45 45)))
  ((s.capture (clkw w) 0x090 (put 63 56 0x01)).raise (clkw w) 0 inj).bump (clkw w) 0x088 31 16 1

/-- The same with its record and its history. -/
def State.lockTold (s : State) (w : Nat) (inj : Bool) : State :=
  let t := s.lockGone w inj
  (t.record (clkw w) 0x01 1 inj false true ((t.suiteOfPhys w).getD 0) noRef (t.rd (clkw w) 0x090)).wingHist w 16

/-- The ET from which a Wing's clock stands. -/
def State.clockStood (s : State) (w : Nat) : State := { s with rim := { s.rim with clkStop := smSet 0 s.rim.clkStop w (s.et + 1) } }

omit hw in
theorem State.wingStopped_form (s : State) (w : Nat) (inj : Bool) : s.wingStopped w inj = (s.lockTold w inj).clockStood w := rfl

omit hw in
theorem State.clockStood_rd (s : State) (w : Nat) (q : PageRef) (o : Nat) : (s.clockStood w).rd q o = s.rd q o := rfl

omit hw in
theorem State.lockGone_keeps (s : State) (w : Nat) (inj : Bool) : tst ((s.lockGone w inj).rd (clkw w) 0x028) 0 = true ∧ (s.lockGone w inj).et = s.et := by
  refine ⟨?_, ?_⟩
  · rw [State.lockGone, State.rd_bump_off _ _ _ _ (by decide)]
    exact State.raise_sets _ _ rfl (by decide)
  · rw [State.lockGone, State.bump_et, State.raise_et, State.capture_et, State.wr_et]
    split <;> rfl

theorem State.wingStopped_tells (s : State) (inj : Bool) : smGet 0 (s.wingStopped w inj).rim.clkStop w = s.et + 1 ∧ tst ((s.wingStopped w inj).rd (clkw w) 0x028) 0 = true
    ∧ ∃ r, r ∈ (s.wingStopped w inj).flying ∧ r.code = Page.clkw.cls * 256 + 1 := by
  obtain ⟨event, et⟩ := s.lockGone_keeps w inj
  have told : (s.lockTold w inj).et = s.et := et
  refine ⟨?_, ?_, ⟨_, List.mem_append_right _ List.mem_cons_self, rfl⟩⟩
  · rw [← told]
    exact smGet_smSet_self 0 (s.lockTold w inj).rim.clkStop w ((s.lockTold w inj).et + 1)
  · rw [State.wingStopped_form, State.clockStood_rd, State.lockTold]
    rw [(State.Seaming.wingHist _ hw).regs (clkw w) _ (show w < 2 ^ 20 by omega) (show Page.clkw ≠ .halw by decide) (show Page.clkw ≠ .srvw by decide) (by decide),
      State.record_rd]
    exact event

theorem clkLockLost_stops (runs : smGet 0 s.rim.clkStop w = 0) : Completes (.clkLockLost w) s fun t =>
    smGet 0 t.rim.clkStop w = s.et + 1 ∧ tst (t.rd (clkw w) 0x028) 0 = true ∧ ∃ r, r ∈ t.flying ∧ r.code = Page.clkw.cls * 256 + 1 := by
  obtain ⟨stop, event, r, flying, code⟩ := State.wingStopped_tells hw s (s.isArmed (clkw w) 0)
  have resets : State.Fades (s.wingStopped w (s.isArmed (clkw w) 0))
      (((s.wingStopped w (s.isArmed (clkw w) 0)).suitesInWing w).foldl (fun s i => s.suiteReset i) (s.wingStopped w (s.isArmed (clkw w) 0))) :=
    .foldl _ (fun t i => .suiteReset t i) _
  refine ⟨_, clkLockLost_answers hw runs, ?_, ?_, r, resets.flying r flying, code⟩
  · rw [resets.clkStop]
    exact stop
  · refine resets.event (clkw w) 0 (show 10 < 17 by decide) ?_ event
    show 17 * 2 ^ 32 + w * 2 ^ 12 + 0x028 < 2 ^ 32 * 41
    omega

theorem relock_idle {core : Nat} (h : smGet 0 s.rim.clkStop w = 0 ∨ smGet 0 s.rim.clkStop w - 1 + usToEt 1000 < s.et) : exec (.relock w core) s = .next s := by
  change execRelock w core s = _
  rw [execRelock, Nat.mod_eq_of_lt hw]
  exact if_pos h

/-- A Wing's clock that runs again on a core. -/
def State.relocked (s : State) (w core : Nat) : State :=
  let s := s.wr (clkw w) 0x080 (setFld (setBit (s.rd (clkw w) 0x080) (lockBit core)) 45 45 core)
  { s with rim := { s.rim with clkStop := smSet 0 s.rim.clkStop w 0 } }

omit hw in
theorem State.relocked_rd (s : State) (w core : Nat) : (s.relocked w core).rd (clkw w) 0x080 = setFld (setBit (s.rd (clkw w) 0x080) (lockBit core)) 45 45 core := s.rd_wr_self ..
omit hw in
theorem State.relocked_mem (s : State) (w core : Nat) : (s.relocked w core).mem = s.mem := rfl
omit hw in
theorem State.relocked_runs (s : State) (w core : Nat) : smGet 0 (s.relocked w core).rim.clkStop w = 0 := smGet_smSet_self 0 s.rim.clkStop w 0

theorem relock_runs {core : Nat} (hc : core < 2) (stopped : smGet 0 s.rim.clkStop w ≠ 0) (inTime : s.et ≤ smGet 0 s.rim.clkStop w - 1 + usToEt 1000) :
    Completes (.relock w core) s fun t => smGet 0 t.rim.clkStop w = 0 ∧ tst (t.rd (clkw w) 0x080) (lockBit core) = true ∧ fld (t.rd (clkw w) 0x080) 45 45 = core
      ∧ t.mem = s.mem := by
  have answers : exec (.relock w core) s = .next ((s.relocked w core).startSeams w) := by
    change execRelock w core s = _
    rw [execRelock, Nat.mod_eq_of_lt hw]
    exact if_neg (by omega)
  have seams := State.Seaming.startSeams (s.relocked w core) hw
  have shown : ((s.relocked w core).startSeams w).rd (clkw w) 0x080 = setFld (setBit (s.rd (clkw w) 0x080) (lockBit core)) 45 45 core :=
    (seams.regs (clkw w) _ (show w < 2 ^ 20 by omega) (show Page.clkw ≠ .halw by decide) (show Page.clkw ≠ .srvw by decide) (by decide)).trans (s.relocked_rd w core)
  have above : 45 < lockBit core := by unfold lockBit; omega
  have below : lockBit core < 64 := by unfold lockBit; omega
  refine ⟨_, answers, ?_, ?_, ?_, ?_⟩
  · rw [seams.clkStop, State.relocked_runs]
  · rw [shown, tst_setFld_ne _ (by omega), tst_setBit _ below]
  · rw [shown, fld_setFld _ (by decide) (by omega)]
  · rw [seams.mem, State.relocked_mem]

theorem relockTimeout_waits (h : smGet 0 s.rim.clkStop w = 0 ∨ s.et < smGet 0 s.rim.clkStop w - 1 + usToEt 1000) : exec (.relockTimeout w) s = .next s := by
  change execRelockTimeout w s = _
  rw [execRelockTimeout, Nat.mod_eq_of_lt hw]
  exact congrArg _ (if_neg (by omega))

theorem relockTimeout_fences (stopped : smGet 0 s.rim.clkStop w ≠ 0) (due : smGet 0 s.rim.clkStop w - 1 + usToEt 1000 ≤ s.et) : Completes (.relockTimeout w) s fun t =>
    smGet 0 t.rim.fenceAsk w ≠ 0 ∧ t.regs = s.regs ∧ t.mem = s.mem := by
  have answers : exec (.relockTimeout w) s = .next (s.askFence w 4) := by
    change execRelockTimeout w s = _
    rw [execRelockTimeout, Nat.mod_eq_of_lt hw]
    exact congrArg _ (if_pos ⟨stopped, due⟩)
  exact ⟨_, answers, s.askFence_asks w (by decide), rfl, rfl⟩

theorem coreLocked_alone (none : s.suiteOfPhys w = none) : exec (.coreLocked w) s = .next s := by
  change execCoreLocked w s = _
  rw [execCoreLocked, Nat.mod_eq_of_lt hw, none]

variable {i : Nat} (owned : s.suiteOfPhys w = some i)
include owned

theorem coreLocked_unasked (none : s.rateSw i = none) : exec (.coreLocked w) s = .next s := by
  change execCoreLocked w s = _
  rw [execCoreLocked, Nat.mod_eq_of_lt hw, owned]
  dsimp only
  rw [none]

variable {r : RateSw} (switches : s.rateSw i = some r)
include switches

theorem coreLocked_answers : exec (.coreLocked w) s = if r.phase ≠ 1 ∨ r.locks.contains w then .next s
    else .next ((s.wr (clkw w) 0x080 (setBit (s.rd (clkw w) 0x080) (lockBit (1 - fld (s.rd (clkw w) 0x080) 45 45)))).setRateSw i (some { r with locks := r.locks ++ [w] })) := by
  change execCoreLocked w s = _
  rw [execCoreLocked, Nat.mod_eq_of_lt hw, owned]
  dsimp only
  rw [switches]

theorem coreLocked_ignored (h : r.phase ≠ 1 ∨ w ∈ r.locks) : exec (.coreLocked w) s = .next s :=
  (coreLocked_answers hw owned switches).trans (if_pos (h.imp_right List.contains_iff_mem.mpr))

theorem coreLocked_counts (locking : r.phase = 1) (fresh : w ∉ r.locks) : Completes (.coreLocked w) s fun t => t.rateSw i = some { r with locks := r.locks ++ [w] }
    ∧ tst (t.rd (clkw w) 0x080) (lockBit (1 - s.rdF (clkw w) 0x080 45 45)) = true ∧ t.mem = s.mem ∧ t.suites = s.suites := by
  have takes : ¬(r.phase ≠ 1 ∨ r.locks.contains w = true) := fun h => h.elim (fun h => h locking) fun h => fresh (List.contains_iff_mem.mp h)
  refine ⟨_, (coreLocked_answers hw owned switches).trans (if_neg takes), State.rateSw_setRateSw .., ?_, rfl, rfl⟩
  refine (congrArg (fun x => tst x _) (s.rd_wr_self ..)).trans (tst_setBit _ ?_)
  unfold lockBit
  omega

end

/-! ### Rate switches (R540 to R542) -/

/-- A change of registers, of what leaves the engine, of the stages of Rooms' switches, and of the rails that Chimneys are on their way to. -/
def State.Wired (s t : State) : Prop := ∃ r x o m, t = { s with regs := r, out := o, rooms := m, rim := { s.rim with railTo := x } }

section
variable {s t u : State}

theorem State.Wired.refl : State.Wired s s := ⟨s.regs, s.rim.railTo, s.out, s.rooms, rfl⟩

theorem State.Wired.trans (h : State.Wired s t) (k : State.Wired t u) : State.Wired s u := by
  obtain ⟨r, x, o, m, rfl⟩ := h
  obtain ⟨r', x', o', m', rfl⟩ := k
  exact ⟨r', x', o', m', rfl⟩

theorem State.Wired.foldl {α : Type} {f : State → α → State} (l : List α) (step : ∀ t x, State.Wired t (f t x)) : State.Wired s (l.foldl f s) :=
  foldl_keeps (fun t => State.Wired s t) f (fun t x _ held => held.trans (step t x)) .refl

theorem State.Wired.ite {c : Prop} {_ : Decidable c} {v : State} (h : State.Wired s t) (k : State.Wired s v) : State.Wired s (if c then t else v) := by
  split
  · exact h
  · exact k

theorem State.Wired.wr (s : State) (p : PageRef) (o : Nat) (v : W64) : State.Wired s (s.wr p o v) := ⟨_, s.rim.railTo, s.out, s.rooms, rfl⟩

theorem State.Wired.modRoom (s : State) (room : Nat) (f : RoomSt → RoomSt) : State.Wired s (s.modRoom room f) := ⟨s.regs, s.rim.railTo, s.out, _, rfl⟩

theorem State.Wired.of_regs (h : s.RegsOnly t) : State.Wired s t := ⟨t.regs, s.rim.railTo, s.out, s.rooms, h.eq⟩

theorem State.Wired.moveRail (s : State) (w rate : Nat) : State.Wired s (s.moveRail w rate) := by
  have named : State.Wired s (s.wrF (pwrw w) 0x088 15 0 (vnom (s.wingRate w)).toNat) := .wr ..
  have sent (t : State) (rail : Nat) : State.Wired t (State.emit { t with rim := { t.rim with railTo := smSet 0 t.rim.railTo w rail } } (.chimney w 0 rail)) := ⟨t.regs, _, _, t.rooms, rfl⟩
  unfold State.moveRail
  dsimp only
  split
  · exact named.trans (.of_regs (State.setDrops_keeps _ w))
  · exact named.trans (sent _ _)

theorem State.Wired.loadRoom (s : State) (room : Nat) : State.Wired s (s.loadRoom room) :=
  (((State.Wired.wr s (pwr room) 0x088 _).trans (.wr ..)).trans (.wr ..)).trans (.wr ..)

theorem State.Wired.roomRamp (s : State) (room : Nat) : State.Wired s (s.roomRamp room) := by
  unfold State.roomRamp
  exact (State.Wired.wr ..).trans (.modRoom ..)

variable (h : State.Wired s t)
include h

theorem State.Wired.mem : t.mem = s.mem := by obtain ⟨r, x, o, m, rfl⟩ := h; rfl
theorem State.Wired.suites : t.suites = s.suites := by obtain ⟨r, x, o, m, rfl⟩ := h; rfl
theorem State.Wired.pkts : t.pkts = s.pkts := by obtain ⟨r, x, o, m, rfl⟩ := h; rfl
theorem State.Wired.armed : t.armed = s.armed := by obtain ⟨r, x, o, m, rfl⟩ := h; rfl
theorem State.Wired.remap : t.remap = s.remap := by obtain ⟨r, x, o, m, rfl⟩ := h; rfl
theorem State.Wired.rateSw (i : Nat) : t.rateSw i = s.rateSw i := by obtain ⟨r, x, o, m, rfl⟩ := h; rfl

end

section
variable {s : State} {i : Nat} {v : W64} {off : Nat} (hi : i < 64) (hoff : off = 0x400 + 8 * i) (unarmed : s.isArmed clkg 3 = false)

/-- What RATE_SWITCH takes of a word. -/
def switchWord (v : W64) : W64 := v &&& (maskOf 63 63 ||| maskOf 55 0)

theorem switchWord_fields (v : W64) : tst (switchWord v) 63 = tst v 63 ∧ fld (switchWord v) 55 48 = fld v 55 48 ∧ fld (switchWord v) 47 0 = fld v 47 0
    ∧ fld (switchWord v) 55 0 = fld v 55 0 :=
  ⟨tst_and v (by decide), fld_and v (by decide) (by decide), fld_and v (by decide) (by decide), fld_and v (by decide) (by decide)⟩

/-- A switch accepted: its Wings' idle cores lock, and a higher rate's rails go up first. -/
def State.switchBegun (s : State) (i : Nat) (u : Suite) (v : W64) : State :=
  let t := (s.wr clkg (0x400 + 8 * i) (switchWord v)).setRateSw i
    (some ⟨fld v 55 48, if fld v 47 0 = stepAsap then none else some (fld v 47 0), [], 1, decide (u.run = 2)⟩)
  (t.suiteWings u).foldl (fun s w =>
    let s := s.wr (clkw w) 0x080 (setBit (setFld (s.rd (clkw w) 0x080) 55 48 (fld v 55 48)) 44)
    if u.rate < fld v 55 48 then s.moveRail w (fld v 55 48) else s) t

include hi unarmed

theorem rateSwitch_answers : exec (.rateSwitch i v) s = if !tst v 63 then .next (s.wr clkg (0x400 + 8 * i) (setFld (switchWord v) 63 63 (s.rdF clkg (0x400 + 8 * i) 63 63)))
    else match s.suite i with
      | none => .next ((s.wr clkg (0x400 + 8 * i) (switchWord v)).switchRefused i 5 false)
      | some u =>
        if fld v 55 48 < 36 ∨ s.fmin u < fld v 55 48 then .next ((s.clkgEvent 3 0x13 1 i false).wr clkg (0x400 + 8 * i)
          (if (s.rateSw i).isSome then s.rd clkg (0x400 + 8 * i) else clrBit (switchWord v) 63))
        else if (s.rateSw i).isSome then .next (s.clkgEvent 3 0x13 2 i false)
        else if fld v 47 0 ≠ stepAsap ∧ (u.mode ≠ 0 ∨ u.run ≠ 2) then .next ((s.wr clkg (0x400 + 8 * i) (switchWord v)).switchRefused i 3 false)
        else .next (s.switchBegun i u v) := by
  obtain ⟨go, rate, step, -⟩ := switchWord_fields v
  unfold State.switchBegun
  rw [← go, ← rate, ← step]
  change execRateSwitch i v s = _
  unfold execRateSwitch
  rw [Nat.mod_eq_of_lt hi, unarmed]
  unfold switchWord
  dsimp only
  cases s.suite i with
  | none => rfl
  | some u => simp only [if_neg Bool.false_ne_true]

include hoff

theorem rateSwitch_stores (wait : tst v 63 = false) : Completes (.rateSwitch i v) s fun t => fld (t.rd clkg off) 55 0 = fld v 55 0 ∧ t.rim = s.rim ∧ t.mem = s.mem := by
  subst hoff
  obtain ⟨-, -, -, word⟩ := switchWord_fields v
  refine ⟨_, (rateSwitch_answers hi unarmed).trans (if_pos (by rw [wait]; rfl)), ?_, rfl, rfl⟩
  rw [State.rd_wr_self, fld_setFld_ne _ (by decide) (by decide), word]

omit unarmed in
/-- A switch refused: the event, and no GO left. -/
theorem State.switchRefused_tells (s : State) (w : W64) (detail : Nat) :
    tst (((s.wr clkg (0x400 + 8 * i) w).switchRefused i detail false).rd clkg 0x028) 3 = true ∧ tst (((s.wr clkg (0x400 + 8 * i) w).switchRefused i detail false).rd clkg off) 63 = false
    ∧ ((s.wr clkg (0x400 + 8 * i) w).switchRefused i detail false).rim = s.rim ∧ ((s.wr clkg (0x400 + 8 * i) w).switchRefused i detail false).suites = s.suites
    ∧ ((s.wr clkg (0x400 + 8 * i) w).switchRefused i detail false).mem = s.mem := by
  subst hoff
  refine ⟨?_, ?_, ?_, ?_, ?_⟩
  · rw [State.switchRefused, State.rd_wrF_off _ _ _ _ (by omega)]
    exact State.clkgEvent_sets _ (by decide)
  · rw [State.switchRefused, State.wrF, State.rd_wr_self, tst_fld, fld_setFld _ (by decide) (by decide)]
    rfl
  · rw [State.switchRefused, State.wrF_rim, State.clkgEvent_rim, State.wr_rim]
  · rw [State.switchRefused, State.wrF_suites, State.clkgEvent_suites, State.wr_suites]
  · rw [State.switchRefused, State.wrF_mem, State.clkgEvent_mem, State.wr_mem]

variable (go : tst v 63 = true)
include go

theorem rateSwitch_unowned (none : s.suite i = none) : Completes (.rateSwitch i v) s fun t => tst (t.rd clkg 0x028) 3 = true ∧ tst (t.rd clkg off) 63 = false ∧ t.rim = s.rim
    ∧ t.mem = s.mem := by
  have answers := rateSwitch_answers (v := v) hi unarmed
  rw [if_neg (by rw [go]; decide), none] at answers
  obtain ⟨event, idle, rim, -, mem⟩ := State.switchRefused_tells hi hoff s (switchWord v) 5
  exact ⟨_, answers, event, idle, rim, mem⟩

variable {u : Suite} (defined : s.suite i = some u)
include defined

omit hoff in
theorem rateSwitch_of : exec (.rateSwitch i v) s
    = if fld v 55 48 < 36 ∨ s.fmin u < fld v 55 48 then .next ((s.clkgEvent 3 0x13 1 i false).wr clkg (0x400 + 8 * i)
        (if (s.rateSw i).isSome then s.rd clkg (0x400 + 8 * i) else clrBit (switchWord v) 63))
      else if (s.rateSw i).isSome then .next (s.clkgEvent 3 0x13 2 i false)
      else if fld v 47 0 ≠ stepAsap ∧ (u.mode ≠ 0 ∨ u.run ≠ 2) then .next ((s.wr clkg (0x400 + 8 * i) (switchWord v)).switchRefused i 3 false)
      else .next (s.switchBegun i u v) := by
  have answers := rateSwitch_answers (v := v) hi unarmed
  rw [if_neg (by rw [go]; decide), defined] at answers
  exact answers

omit hoff in
theorem rateSwitch_outside (h : fld v 55 48 < 36 ∨ s.fmin u < fld v 55 48) : Completes (.rateSwitch i v) s fun t =>
    tst (t.rd clkg 0x028) 3 = true ∧ t.rim = s.rim ∧ t.suites = s.suites ∧ t.mem = s.mem := by
  refine ⟨_, (rateSwitch_of hi unarmed go defined).trans (if_pos h), ?_, ?_, ?_, ?_⟩
  · rw [State.rd_wr_off _ _ (by omega)]
    exact State.clkgEvent_sets _ (by decide)
  · rw [State.wr_rim, State.clkgEvent_rim]
  · rw [State.wr_suites, State.clkgEvent_suites]
  · rw [State.wr_mem, State.clkgEvent_mem]

variable (fast : 36 ≤ fld v 55 48) (slow : fld v 55 48 ≤ s.fmin u)
include fast slow

omit hoff in
theorem rateSwitch_pending (pending : s.rateSw i ≠ none) : TurnedAway (.rateSwitch i v) s clkg 3 := by
  have answers : exec (.rateSwitch i v) s = .next (s.clkgEvent 3 0x13 2 i false) :=
    (rateSwitch_of hi unarmed go defined).trans ((if_neg (by omega)).trans (if_pos (Option.isSome_iff_ne_none.mpr pending)))
  exact turned_capture answers (fun _ => rfl) (by decide)

variable (free : s.rateSw i = none)
include free

theorem rateSwitch_misplaced (step : fld v 47 0 ≠ stepAsap) (idle : u.mode ≠ 0 ∨ u.run ≠ 2) : Completes (.rateSwitch i v) s fun t =>
    tst (t.rd clkg 0x028) 3 = true ∧ tst (t.rd clkg off) 63 = false ∧ t.rim = s.rim ∧ t.suites = s.suites ∧ t.mem = s.mem := by
  have answers := rateSwitch_of hi unarmed go defined
  rw [if_neg (by omega), free, if_neg (by decide), if_pos ⟨step, idle⟩] at answers
  exact ⟨_, answers, State.switchRefused_tells hi hoff s (switchWord v) 3⟩

omit hi hoff unarmed go defined fast slow free in
/-- What a switch that begins leaves of the engine, and what it shows in its Wings. -/
theorem State.switchBegun_wings (s : State) (u : Suite) (v : W64) (w : Nat) (hw : w ∈ s.suiteWings u) :
    fld ((s.switchBegun i u v).rd (clkw w) 0x080) 55 48 = fld v 55 48 ∧ tst ((s.switchBegun i u v).rd (clkw w) 0x080) 44 = true := by
  have rail (t : State) (x : Nat) : (if u.rate < fld v 55 48 then t.moveRail x (fld v 55 48) else t).rd (clkw w) 0x080 = t.rd (clkw w) 0x080 := by
    split
    · exact State.moveRail_rd ..
    · rfl
  refine foldl_reaches (fun t : State => fld (t.rd (clkw w) 0x080) 55 48 = fld v 55 48 ∧ tst (t.rd (clkw w) 0x080) 44 = true) _ hw (fun t => ?_) (fun t x _ held => ?_) _
  · dsimp only
    rw [rail, State.rd_wr_self, fld_setBit_ne _ (by decide), fld_setFld _ (by decide) (fld_lt v 55 48), tst_setBit _ (by decide)]
    exact ⟨rfl, rfl⟩
  · have other (y : W64) (same : w ≠ x) : (t.wr (clkw x) 0x080 y).rd (clkw w) 0x080 = t.rd (clkw w) 0x080 := t.rd_wr_key _ (regKey_insts same)
    by_cases same : w = x
    · subst same
      dsimp only
      rw [rail, State.rd_wr_self, fld_setBit_ne _ (by decide), fld_setFld _ (by decide) (fld_lt v 55 48), tst_setBit _ (by decide)]
      exact ⟨rfl, rfl⟩
    · dsimp only
      rw [rail, other _ same]
      exact held

omit hi hoff unarmed go defined fast slow free in
theorem State.switchBegun_wired (s : State) (u : Suite) (v : W64) : State.Wired ((s.wr clkg (0x400 + 8 * i) (switchWord v)).setRateSw i
    (some ⟨fld v 55 48, if fld v 47 0 = stepAsap then none else some (fld v 47 0), [], 1, decide (u.run = 2)⟩)) (s.switchBegun i u v) :=
  .foldl _ fun _ _ => State.Wired.ite ((State.Wired.wr ..).trans (.moveRail ..)) (.wr ..)

omit hoff unarmed go defined fast slow free in
theorem State.switchBegun_reg (s : State) (u : Suite) (v : W64) : (s.switchBegun i u v).rd clkg (0x400 + 8 * i) = switchWord v := by
  refine foldl_keeps (fun t : State => t.rd clkg (0x400 + 8 * i) = switchWord v) _ (fun t w _ held => ?_) (s.rd_wr_self ..)
  have wing (y : W64) : (t.wr (clkw w) 0x080 y).rd clkg (0x400 + 8 * i) = t.rd clkg (0x400 + 8 * i) := t.rd_wr_key _ (regKey_offs (by omega) (by decide) (by omega))
  dsimp only
  split
  · rw [State.moveRail_rd _ _ _ (by omega) (by omega), wing]
    exact held
  · rw [wing]
    exact held

theorem rateSwitch_begins (ready : fld v 47 0 = stepAsap ∨ (u.mode = 0 ∧ u.run = 2)) : Completes (.rateSwitch i v) s fun t =>
    t.rateSw i = some ⟨fld v 55 48, if fld v 47 0 = stepAsap then none else some (fld v 47 0), [], 1, decide (u.run = 2)⟩ ∧ tst (t.rd clkg off) 63 = true
      ∧ (∀ w, w ∈ s.suiteWings u → fld (t.rd (clkw w) 0x080) 55 48 = fld v 55 48 ∧ tst (t.rd (clkw w) 0x080) 44 = true) ∧ t.suites = s.suites ∧ t.mem = s.mem := by
  have answers := rateSwitch_of hi unarmed go defined
  rw [if_neg (by omega), free, if_neg (by decide), if_neg (by omega)] at answers
  have wired := s.switchBegun_wired (i := i) u v
  refine ⟨_, answers, ?_, ?_, fun w => s.switchBegun_wings u v w, wired.suites, wired.mem⟩
  · rw [wired.rateSw]
    exact State.rateSw_setRateSw ..
  · rw [hoff, State.switchBegun_reg hi, (switchWord_fields v).1]
    exact go

end

/-- What a Wing's clock shows at the end of a switch to a rate. -/
def State.Rated (t : State) (w rate : Nat) : Prop := fld (t.rd (clkw w) 0x080) 63 56 = rate ∧ fld (t.rd (clkw w) 0x080) 55 48 = 0

/-- One Wing at the end of a switch. -/
def State.wingRated (s : State) (u : Suite) (rate w : Nat) : State :=
  let st := s.rd (clkw w) 0x080
  let act := 1 - fld st 45 45
  let s := s.wr (clkw w) 0x080 (clrBit (setFld (setFld (setFld st 63 56 rate) 55 48 0) 45 45 act) 44)
  let s := (s.wr (clkw w) 0x080 (clrBit (s.rd (clkw w) 0x080) (lockBit (1 - act)))).bump (clkw w) 0x088 63 32 1
  if rate < u.rate then s.moveRail w rate else s.wrF (pwrw w) 0x088 15 0 (vnom rate).toNat

/-- All Wings of a Suite at the end of a switch. -/
def State.wingsRated (s : State) (u : Suite) (rate : Nat) : State := (s.suiteWings u).foldl (fun s w => s.wingRated u rate w) s

/-- A Suite at a new rate, with its switch forgotten. -/
def State.rateSet (s : State) (i : Nat) (u : Suite) (rate : Nat) : State := (s.setSuite i { u with rate }).setRateSw i none

theorem State.switchEnd_form (s : State) (i : Nat) (u : Suite) (rate : Nat) :
    s.switchEnd i u rate = (((s.rateSet i u rate).wingsRated u rate).wrF clkg (0x400 + 8 * i) 63 63 0).clkgEvent 2 0x12 0 i false := rfl

section
variable {s : State} {u : Suite} {rate w : Nat}

theorem State.wingRated_last (s : State) (u : Suite) (rate w : Nat) {q : PageRef} {o : Nat} (ho : o < 4096) (h : o ≠ 0x088) :
    (s.wingRated u rate w).rd q o = ((s.wr (clkw w) 0x080 (clrBit (setFld (setFld (setFld (s.rd (clkw w) 0x080) 63 56 rate) 55 48 0) 45 45 (1 - fld (s.rd (clkw w) 0x080) 45 45)) 44)).wr
      (clkw w) 0x080 (clrBit (clrBit (setFld (setFld (setFld (s.rd (clkw w) 0x080) 63 56 rate) 55 48 0) 45 45 (1 - fld (s.rd (clkw w) 0x080) 45 45)) 44)
        (lockBit (1 - (1 - fld (s.rd (clkw w) 0x080) 45 45))))).rd q o := by
  have named (t : State) (v : W64) : (t.wr (pwrw w) 0x088 v).rd q o = t.rd q o := t.rd_wr_key _ (regKey_offs ho (by decide) h)
  have counted (t : State) (v : W64) : (t.wr (clkw w) 0x088 v).rd q o = t.rd q o := t.rd_wr_key _ (regKey_offs ho (by decide) h)
  unfold State.wingRated
  dsimp only
  rw [State.rd_wr_self]
  split
  · rw [State.moveRail_rd _ _ _ ho h, State.bump, counted]
  · rw [State.wrF, named, State.bump, counted]

theorem State.wingRated_shows (s : State) (u : Suite) (w : Nat) (small : rate < 256) : (s.wingRated u rate w).Rated w rate := by
  have high (x : W64) (k : Nat) (hk : k ≤ 1) : fld (clrBit x (lockBit k)) 63 56 = fld x 63 56 ∧ fld (clrBit x (lockBit k)) 55 48 = fld x 55 48 :=
    ⟨fld_clrBit_ne _ (by unfold lockBit; omega), fld_clrBit_ne _ (by unfold lockBit; omega)⟩
  obtain ⟨above, below⟩ := high (clrBit (setFld (setFld (setFld (s.rd (clkw w) 0x080) 63 56 rate) 55 48 0) 45 45 (1 - fld (s.rd (clkw w) 0x080) 45 45)) 44)
    (1 - (1 - fld (s.rd (clkw w) 0x080) 45 45)) (by omega)
  unfold State.Rated
  rw [State.wingRated_last _ _ _ _ (by decide) (by decide), State.rd_wr_self, above, below]
  refine ⟨?_, ?_⟩
  · rw [fld_clrBit_ne _ (by decide), fld_setFld_ne _ (by decide) (by decide), fld_setFld_ne _ (by decide) (by decide), fld_setFld _ (by decide) small]
  · rw [fld_clrBit_ne _ (by decide), fld_setFld_ne _ (by decide) (by decide), fld_setFld _ (by decide) (by decide)]

theorem State.wingRated_other {x : Nat} (h : w ≠ x) (held : s.Rated w rate) : (s.wingRated u rate x).Rated w rate := by
  have other (t : State) (y : W64) : (t.wr (clkw x) 0x080 y).rd (clkw w) 0x080 = t.rd (clkw w) 0x080 := t.rd_wr_key _ (regKey_insts h)
  unfold State.Rated
  rw [State.wingRated_last _ _ _ _ (by decide) (by decide), other, other]
  exact held

theorem State.wingRated_wired (s : State) (u : Suite) (rate w : Nat) : State.Wired s (s.wingRated u rate w) := by
  have locked (t : State) (a b : W64) : State.Wired t ((t.wr (clkw w) 0x080 a).wr (clkw w) 0x080 b) := (State.Wired.wr ..).trans (.wr ..)
  have counted (t : State) : State.Wired t (t.bump (clkw w) 0x088 63 32 1) := .wr ..
  unfold State.wingRated
  dsimp only
  split
  · exact ((locked s _ _).trans (counted _)).trans (.moveRail ..)
  · exact ((locked s _ _).trans (counted _)).trans (.wr ..)

theorem State.wingsRated_wired (s : State) (u : Suite) (rate : Nat) : State.Wired s (s.wingsRated u rate) :=
  .foldl _ fun t w => t.wingRated_wired u rate w

theorem State.wingsRated_shows (small : rate < 256) (hw : w ∈ s.suiteWings u) : (s.wingsRated u rate).Rated w rate :=
  foldl_reaches (fun t : State => t.Rated w rate) _ hw (fun t => t.wingRated_shows u w small)
    (fun t x _ held => if same : w = x then same ▸ t.wingRated_shows u w small else State.wingRated_other same held) _

theorem State.rateSet_rest (s : State) (i : Nat) (u : Suite) (rate : Nat) : (s.rateSet i u rate).suites = (s.setSuite i { u with rate }).suites
    ∧ (s.rateSet i u rate).armed = s.armed ∧ (s.rateSet i u rate).mem = s.mem ∧ (s.rateSet i u rate).rateSw i = none ∧ (s.rateSet i u rate).suiteWings u = s.suiteWings u :=
  ⟨rfl, rfl, rfl, State.rateSw_setRateSw .., rfl⟩

theorem State.switchEnd_keeps (s : State) {i : Nat} (u : Suite) (rate : Nat) (hi : i < 64) : (s.switchEnd i u rate).suites = (s.setSuite i { u with rate }).suites
    ∧ (s.switchEnd i u rate).armed = s.armed ∧ (s.switchEnd i u rate).rateSw i = none ∧ tst ((s.switchEnd i u rate).rd clkg (0x400 + 8 * i)) 63 = false
    ∧ (s.switchEnd i u rate).mem = s.mem ∧ tst ((s.switchEnd i u rate).rd clkg 0x028) 2 = true := by
  have wired := (s.rateSet i u rate).wingsRated_wired u rate
  obtain ⟨suites, armed, mem, free, -⟩ := s.rateSet_rest i u rate
  rw [State.switchEnd_form]
  refine ⟨?_, ?_, ?_, ?_, ?_, ?_⟩
  · rw [State.clkgEvent_suites, State.wrF_suites, wired.suites, suites]
  · rw [State.clkgEvent, State.raise_armed, State.capture_armed, State.wrF_armed, wired.armed, armed]
  · rw [State.rateSw, State.clkgEvent_rim, State.wrF_rim]
    exact (wired.rateSw i).trans free
  · rw [State.clkgEvent_rd (o := 0x400 + 8 * i) _ (by omega) (by omega) (by omega) (by omega), State.wrF, State.rd_wr_self, tst_fld, fld_setFld _ (by decide) (by decide)]
    rfl
  · rw [State.clkgEvent_mem, State.wrF_mem, wired.mem, mem]
  · exact State.clkgEvent_sets _ (by decide)

theorem State.switchEnd_shows {i : Nat} (hi : i < 64) (small : rate < 256) (hw : w ∈ s.suiteWings u) : (s.switchEnd i u rate).Rated w rate := by
  have shown : (s.switchEnd i u rate).rd (clkw w) 0x080 = ((s.rateSet i u rate).wingsRated u rate).rd (clkw w) 0x080 := by
    rw [State.switchEnd_form, State.clkgEvent_rd, State.wrF, State.rd_wr_key _ _ (regKey_offs (by decide) (by omega) (by omega))]
  unfold State.Rated
  rw [shown]
  refine State.wingsRated_shows small ?_
  rw [(s.rateSet_rest i u rate).2.2.2.2]
  exact hw

end

section
variable {s : State} {i : Nat} (hi : i < 64) (bad : List Nat)
include hi

theorem clkSwitchDone_idle (h : s.suite i = none ∨ s.rateSw i = none) : exec (.clkSwitchDone i bad) s = .next s := by
  change execClkSwitchDone i bad s = _
  rw [execClkSwitchDone, Nat.mod_eq_of_lt hi]
  rcases h with h | h
  · rw [h]
  · cases suite : s.suite i with
    | none => rfl
    | some u => rw [h]

variable {u : Suite} {r : RateSw} (defined : s.suite i = some u) (switches : s.rateSw i = some r)
include defined switches

theorem clkSwitchDone_answers : exec (.clkSwitchDone i bad) s = if r.phase ≠ 2 ∨ u.wins.any (fun w => decide (w.cause = 0) && w.covers u.clk) then .next s
    else .next (bad.foldl (fun t k => if (s.suiteWings u).contains (k / 4) then t.seamPhase i u.lead (k / 4) (k % 4) false else t)
      ((s.suiteWings u).foldl (fun t w => if t.isArmed (clkw w) 1 then (t.disarm (clkw w) 1).seamPhase i u.lead w 0 true else t) (s.switchEnd i u r.rate))) := by
  change execClkSwitchDone i bad s = _
  rw [execClkSwitchDone, Nat.mod_eq_of_lt hi, defined]
  dsimp only
  rw [switches]

theorem clkSwitchDone_frozen (h : r.phase ≠ 2 ∨ (u.wins.any fun w => decide (w.cause = 0) && w.covers u.clk) = true) : exec (.clkSwitchDone i bad) s = .next s :=
  (clkSwitchDone_answers hi bad defined switches).trans (if_pos h)

theorem clkSwitchDone_ends (due : r.phase = 2) (thawed : (u.wins.any fun w => decide (w.cause = 0) && w.covers u.clk) = false) (small : r.rate < 256)
    (unarmed : ∀ w, w ∈ s.suiteWings u → s.isArmed (clkw w) 1 = false) (good : bad = []) : Completes (.clkSwitchDone i bad) s fun t =>
      t.suite i = some { u with rate := r.rate } ∧ t.rateSw i = none ∧ tst (t.rd clkg 0x028) 2 = true ∧ tst (t.rd clkg (0x400 + 8 * i)) 63 = false
        ∧ (∀ w, w ∈ s.suiteWings u → fld (t.rd (clkw w) 0x080) 63 56 = r.rate ∧ fld (t.rd (clkw w) 0x080) 55 48 = 0) ∧ (∀ j, j ≠ i → t.suite j = s.suite j)
        ∧ t.mem = s.mem := by
  subst good
  obtain ⟨suites, armed, free, idle, mem, event⟩ := s.switchEnd_keeps u r.rate hi
  have calm : (s.suiteWings u).foldl (fun t w => if t.isArmed (clkw w) 1 then (t.disarm (clkw w) 1).seamPhase i u.lead w 0 true else t) (s.switchEnd i u r.rate)
      = s.switchEnd i u r.rate :=
    foldl_keeps (fun t : State => t = s.switchEnd i u r.rate) _ (fun t w hw held => by
      have idle : t.isArmed (clkw w) 1 = false := by
        rw [held, State.isArmed, armed]
        exact unarmed w hw
      rw [idle]
      exact held) rfl
  have answers := clkSwitchDone_answers hi [] defined switches
  rw [if_neg (fun h => h.elim (absurd due) fun h => by rw [thawed] at h; cases h), calm] at answers
  refine ⟨_, answers, ?_, free, event, idle, fun w hw => State.switchEnd_shows hi small hw, fun j ne => ?_, mem⟩
  · rw [List.foldl_nil, State.suite, suites]
    exact State.suite_setSuite ..
  · rw [List.foldl_nil, State.suite, suites]
    exact State.suite_setSuite_ne _ _ ne

end

/-! ### Porch clocks (R544, R547) -/

/-- The clocks that only the Porch's firmware stops. -/
def fixedClocks : W64 := put 4 4 1 ||| put 5 5 1 ||| put 10 10 1

section
variable {s : State} (v : W64)

theorem peripheralGate_firmware : exec (.peripheralGate v true) s = .next (s.wr clkg 0x090 (v &&& maskOf 10 0)) := rfl

theorem peripheralGate_answers : exec (.peripheralGate v false) s = .next
    (if s.rd clkg 0x090 &&& fixedClocks &&& ~~~(v &&& maskOf 10 0) = 0 then s.wr clkg 0x090 ((v &&& maskOf 10 0) ||| (s.rd clkg 0x090 &&& fixedClocks))
      else (s.wr clkg 0x090 ((v &&& maskOf 10 0) ||| (s.rd clkg 0x090 &&& fixedClocks))).clkgEvent 4 0x14 0 0 false) := rfl

/-- The fixed clocks lie among those that a write reaches. -/
theorem fixedClocks_reached (w : W64) : w &&& fixedClocks &&& ~~~(v &&& maskOf 10 0) = w &&& fixedClocks &&& ~~~v := by
  have low : fixedClocks &&& ~~~maskOf 10 0 = 0 := by decide
  rw [BitVec.not_and, BitVec.and_or_distrib_left]
  rw [BitVec.and_assoc w, BitVec.and_assoc w, low]
  simp

theorem peripheralGate_keeps : Completes (.peripheralGate v false) s fun t => t.rd clkg 0x090 = (v &&& maskOf 10 0) ||| (s.rd clkg 0x090 &&& fixedClocks)
    ∧ t.rim = s.rim ∧ t.mem = s.mem ∧ (s.rd clkg 0x090 &&& fixedClocks &&& ~~~ v ≠ 0 → tst (t.rd clkg 0x028) 4 = true) := by
  have answers := peripheralGate_answers (s := s) v
  rw [fixedClocks_reached] at answers
  by_cases all : s.rd clkg 0x090 &&& fixedClocks &&& ~~~v = 0
  · rw [if_pos all] at answers
    exact ⟨_, answers, s.rd_wr_self .., rfl, rfl, fun some => absurd all some⟩
  · rw [if_neg all] at answers
    refine ⟨_, answers, ?_, ?_, ?_, fun _ => State.clkgEvent_sets _ (by decide)⟩
    · rw [State.clkgEvent_rd, State.rd_wr_self]
    · rw [State.clkgEvent_rim, State.wr_rim]
    · rw [State.clkgEvent_mem, State.wr_mem]

end

/-! ### The Suite table (R26, R27, R612, R613) -/

theorem define_busy {s : State} {v : W64} (busy : s.rim.pchsBusy ≠ none) : TurnedAway (.define v) s (gp .pchs) 1 ∧ TurnedAway (.delete v) s (gp .pchs) 1 :=
  ⟨turned_raise (if_pos (Option.isSome_iff_ne_none.mpr busy)) rfl (by decide), turned_raise (if_pos (Option.isSome_iff_ne_none.mpr busy)) rfl (by decide)⟩

theorem pchsRefuse_tells (s : State) {i rule : Nat} (hi : i < 64) (hr : rule < 256) : (s.pchsRefuse i rule).rdF (gp .pchs) 0x088 53 48 = i
    ∧ (s.pchsRefuse i rule).rdF (gp .pchs) 0x088 7 0 = rule ∧ tst ((s.pchsRefuse i rule).rd (gp .pchs) 0x028) 1 = true ∧ (s.pchsRefuse i rule).suites = s.suites := by
  have shown : (s.pchsRefuse i rule).rd (gp .pchs) 0x088 = (put 53 48 i ||| put 7 0 rule) := by
    rw [State.pchsRefuse, State.raise_rd_off _ _ (by decide) (by decide), State.rd_wr_self]
  refine ⟨?_, ?_, State.raise_sets _ _ rfl (by decide), ?_⟩
  · rw [State.rdF, shown, fld_or, fld_put _ (by decide) hi, fld_put_ne _ (by decide), Nat.or_zero]
  · rw [State.rdF, shown, fld_or, fld_put_ne _ (by decide), fld_put _ (by decide) hr, Nat.zero_or]
  · rw [State.pchsRefuse, State.raise_suites, State.wr_suites]

section
variable {s : State} {v : W64} {i : Nat} {u : Suite} (free : s.rim.pchsBusy = none) (hi : i = fld v 53 48)
  (hu : u = Suite.fresh (fld v 14 12) (fld v 10 8) (fld v 6 4) (fld v 2 0))
include free hi hu

theorem define_refused (rule : s.defineRule i u ≠ 0) : exec (.define v) s = .next (s.pchsRefuse i (s.defineRule i u)) := by
  subst hi hu
  exact (if_neg (by rw [free]; decide)).trans (if_pos rule)

omit free hi hu in
/-- A Suite entered into the table: its Rooms take up what the Survey holds of them and start to power, and its rails are named. -/
def State.defined (s : State) (i : Nat) (u : Suite) : State :=
  let s := s.setSuite i u
  let ws := s.suiteWings u
  let s := u.rooms.foldl (fun s r =>
    let w := s.wingOf r
    let s := (s.loadRoom r).wr (rp .brk r) 0x080 (s.laneHop r)
    if s.rdF (pwrw w) 0x080 63 61 = 2 ∧ s.pwrState r = 0 ∧ !s.rim.coolBad ∧ !s.isBad (s.physOf r) then s.roomRamp r else s) s
  ws.foldl (fun s w => s.moveRail w 48) s

omit free hi hu in
theorem State.defined_wired (s : State) (i : Nat) (u : Suite) : State.Wired (s.setSuite i u) (s.defined i u) := by
  have loaded (t : State) (r : Nat) (x : W64) : State.Wired t ((t.loadRoom r).wr (rp .brk r) 0x080 x) := (State.Wired.loadRoom t r).trans (.wr ..)
  exact (State.Wired.foldl _ fun t r => State.Wired.ite ((loaded t r _).trans (.roomRamp ..)) (loaded t r _)).trans (.foldl _ fun t w => .moveRail t w 48)

omit free hi hu in
/-- DEFINE in progress for a Suite. -/
def State.defining (s : State) (i : Nat) : State := { s.wr (gp .pchs) 0x088 (put 63 63 1 ||| put 53 48 i) with rim := { s.rim with pchsBusy := some i } }

omit free hi hu in
theorem State.defining_keeps (s : State) (i : Nat) : (s.defining i).suites = s.suites ∧ (s.defining i).mem = s.mem ∧ (s.defining i).pkts = s.pkts
    ∧ (s.defining i).rim.pchsBusy = some i ∧ (s.defining i).rd (gp .pchs) 0x088 = (put 63 63 1 ||| put 53 48 i) := ⟨rfl, rfl, rfl, rfl, s.rd_wr_self ..⟩

omit free hi hu in
/-- What a DEFINE that has ended shows, and what one still in progress keeps. -/
theorem State.defineTurn_tells (s : State) {i : Nat} (busy : s.rim.pchsBusy = some i) : s.defineTurn.suites = s.suites ∧ s.defineTurn.mem = s.mem ∧ s.defineTurn.pkts = s.pkts
    ∧ fld (s.defineTurn.rd (gp .pchs) 0x088) 53 48 = fld (s.rd (gp .pchs) 0x088) 53 48
    ∧ (s.defineTurn.rim.pchsBusy = none → tst (s.defineTurn.rd (gp .pchs) 0x028) 0 = true) := by
  rcases s.defineTurn_form with form | form
  · rw [form]
    exact ⟨rfl, rfl, rfl, rfl, fun ended => by rw [busy] at ended; cases ended⟩
  · rw [form]
    refine ⟨?_, ?_, ?_, ?_, fun _ => State.raise_sets _ _ rfl (by decide)⟩
    · rw [State.raise_suites, State.wrF_suites]
    · rw [State.raise_mem, State.wrF_mem]
    · rw [State.raise_pkts, State.wrF_pkts]
    · rw [State.raise_rd_off _ _ (by decide) (by decide), State.wrF, State.rd_wr_self]
      exact fld_setFld_ne _ (by decide) (by decide)

theorem define_enters (rule : s.defineRule i u = 0) : Completes (.define v) s fun t => t.suite i = some u ∧ (∀ j, j ≠ i → t.suite j = s.suite j)
    ∧ fld (t.rd (gp .pchs) 0x088) 53 48 = i ∧ t.mem = s.mem ∧ t.pkts = s.pkts ∧ (t.rim.pchsBusy = none → tst (t.rd (gp .pchs) 0x028) 0 = true) := by
  have answers : exec (.define v) s = .next ((s.defined i u).defining i).defineTurn := by
    subst hi hu
    exact (if_neg (by rw [free]; decide)).trans (if_neg (not_not.mpr rule))
  have wired := s.defined_wired i u
  obtain ⟨suites, mem, pkts, busy, shown⟩ := (s.defined i u).defining_keeps i
  obtain ⟨suites', mem', pkts', result, ended⟩ := ((s.defined i u).defining i).defineTurn_tells busy
  have table : ((s.defined i u).defining i).defineTurn.suites = (s.setSuite i u).suites := suites'.trans (suites.trans wired.suites)
  refine ⟨_, answers, ?_, fun j ne => ?_, ?_, mem'.trans (mem.trans wired.mem), pkts'.trans (pkts.trans wired.pkts), ended⟩
  · rw [State.suite, table]
    exact State.suite_setSuite ..
  · rw [State.suite, table]
    exact State.suite_setSuite_ne _ _ ne
  · rw [result, shown, fld_or, fld_put_ne _ (by decide), fld_put _ (by decide) (hi ▸ fld_lt v 53 48), Nat.zero_or]

end

section
variable {s : State} {v : W64} {i : Nat} (free : s.rim.pchsBusy = none) (hi : i = fld v 53 48)
include free hi

theorem delete_unknown (none : s.suite i = none) : exec (.delete v) s = .next (s.pchsRefuse i 5) := by
  change execDelete v s = _
  rw [execDelete, ← hi, free, none]
  rfl

variable {x : Suite} (defined : s.suite i = some x)
include defined

theorem delete_answers : exec (.delete v) s = if x.load.isSome ∨ s.suiteLoaded x ∨ !s.streamHalted x then .next (s.pchsRefuse i 6)
    else if x.inReset then .next (s.pchsRefuse i 7) else .next (((s.removeSuite i).wr (gp .pchs) 0x088 (put 53 48 i)).raise (gp .pchs) 0 false) := by
  change execDelete v s = _
  rw [execDelete, ← hi, free, defined]
  rfl

theorem delete_used (h : x.load ≠ none ∨ s.suiteLoaded x = true ∨ s.streamHalted x = false) : exec (.delete v) s = .next (s.pchsRefuse i 6) := by
  refine (delete_answers free hi defined).trans (if_pos ?_)
  rcases h with load | loaded | streams
  · exact .inl (Option.isSome_iff_ne_none.mpr load)
  · exact .inr (.inl loaded)
  · exact .inr (.inr (by rw [streams]; rfl))

variable (unloaded : x.load = none) (empty : s.suiteLoaded x = false) (halted : s.streamHalted x = true)
include unloaded empty halted

theorem delete_idle : exec (.delete v) s = if x.inReset then .next (s.pchsRefuse i 7)
    else .next (((s.removeSuite i).wr (gp .pchs) 0x088 (put 53 48 i)).raise (gp .pchs) 0 false) := by
  refine (delete_answers free hi defined).trans (if_neg ?_)
  rw [unloaded, empty, halted]
  decide

theorem delete_inReset (reset : x.inReset = true) : exec (.delete v) s = .next (s.pchsRefuse i 7) :=
  (delete_idle free hi defined unloaded empty halted).trans (if_pos reset)

omit free hi defined unloaded empty halted in
/-- A Suite's Rooms opened. -/
def State.roomsOpened (s : State) (rooms : List Nat) : State := rooms.foldl (fun s r => if s.pwrState r = 1 ∨ s.pwrState r = 2 then s.roomOpen r 0 else s) s

omit free hi defined unloaded empty halted in
/-- The entries of a Suite taken out of the tables. -/
def State.unlisted (s : State) (i : Nat) : State :=
  let s := { s with suites := smSet none s.suites i none }
  { s with rim := { s.rim with restarts := smSet .idle s.rim.restarts i .idle, pchsBusy := if s.rim.pchsBusy = some i then none else s.rim.pchsBusy } }

omit free hi defined unloaded empty halted in
/-- Wings without a Suite return to 1.20 GHz. -/
def State.wingsIdle (s : State) (ws : List Nat) : State := ws.foldl (fun s w => (s.wr (clkw w) 0x080 (setFld (s.rd (clkw w) 0x080) 63 56 48)).moveRail w 48) s

omit free hi unloaded empty halted in
theorem State.removeSuite_form : s.removeSuite i = ((s.roomsOpened x.rooms).unlisted i).wingsIdle (s.suiteWings x) := by
  rw [State.removeSuite, defined]
  rfl

omit free hi defined unloaded empty halted in
theorem State.wingsIdle_wired (s : State) (ws : List Nat) : State.Wired s (s.wingsIdle ws) := .foldl _ fun t w => (State.Wired.wr t (clkw w) 0x080 _).trans (.moveRail ..)

omit free hi defined unloaded empty halted in
/-- Opening Rooms none of which is on loses nothing of what they hold. -/
theorem State.roomsOpened_wired (s : State) (rooms : List Nat) (off : ∀ r, r ∈ rooms → s.pwrState r ≠ 2) : State.Wired s (s.roomsOpened rooms) := by
  have opened (t : State) (r q : Nat) (h : t.pwrState q ≠ 2) (ne : t.pwrState r ≠ 2) : (t.roomOpen r 0).pwrState q ≠ 2 := by
    by_cases same : q = r
    · rw [same, State.roomOpen_shows _ _ (by decide)]
      decide
    · have other : (t.wr (pwr r) 0x080 (put 63 61 0)).rd (pwr q) 0x080 = t.rd (pwr q) 0x080 := t.rd_wr_key _ (regKey_insts same)
      rw [State.roomOpen, if_neg ne, State.pwrState, State.rdF, other]
      exact h
  have held := foldl_keeps (fun t : State => State.Wired s t ∧ ∀ r, r ∈ rooms → t.pwrState r ≠ 2)
    (fun t r => if t.pwrState r = 1 ∨ t.pwrState r = 2 then t.roomOpen r 0 else t) (l := rooms) (s := s) (fun t r hr ⟨wired, dark⟩ => by
      split
      · refine ⟨wired.trans ?_, fun q hq => opened t r q (dark q hq) (dark r hr)⟩
        rw [State.roomOpen, if_neg (dark r hr)]
        exact .wr ..
      · exact ⟨wired, dark⟩) ⟨.refl, off⟩
  exact held.1

theorem delete_removes (live : x.inReset = false) : Completes (.delete v) s fun t =>
    t.suite i = none ∧ ((∀ r, r ∈ x.rooms → s.pwrState r ≠ 2) → ∀ j, j ≠ i → t.suite j = s.suite j) ∧ tst (t.rd (gp .pchs) 0x028) 0 = true
      ∧ t.rd (gp .pchs) 0x088 = put 53 48 i := by
  have table : (((s.removeSuite i).wr (gp .pchs) 0x088 (put 53 48 i)).raise (gp .pchs) 0 false).suites = smSet none (s.roomsOpened x.rooms).suites i none := by
    rw [State.raise_suites, State.wr_suites, State.removeSuite_form defined]
    exact (State.wingsIdle_wired ..).suites
  refine ⟨_, (delete_idle free hi defined unloaded empty halted).trans (if_neg (by rw [live]; decide)), ?_, fun off j ne => ?_, State.raise_sets _ _ rfl (by decide), ?_⟩
  · rw [State.suite, table]
    exact smGet_smSet_self ..
  · rw [State.suite, table, smGet_smSet_ne _ _ _ _ ne, (s.roomsOpened_wired x.rooms off).suites]
    rfl
  · rw [State.raise_rd_off _ _ (by decide) (by decide), State.rd_wr_self]

end

/-! ### The remap stage (R561, R563 to R567) -/

section
variable {s : State} {masks : List Nat} {failed us : Nat}

theorem remap_unreached (unreached : ∀ i, i < 64 → (s.restart i).st ≠ 2) : exec (.remap masks failed us) s = .next s := by
  refine if_pos ?_
  rw [Bool.not_eq_true', List.any_eq_false]
  intro i hi reached
  exact unreached i (List.mem_range.mp hi) (of_decide_eq_true reached)

variable {i : Nat} {g : State} {m : Masks} (hi : i < 64) (reached : (s.restart i).st = 2) (hg : g = s.takePending) (found : failed = 0) (calm : g.askedRows = [])
  (hm : m = maskList g.remap masks g.remap.fence)
include hi reached hg found calm hm

theorem remap_answers : exec (.remap masks failed us) s = if !g.remapValid m ∨ !g.solved m then .next g
    else if g.remapHits m ≠ [] then .next ((g.remapHits m).foldl (fun s i => s.startJobHalt i (Page.srvg.cls * 256) s.et) g)
    else .next (if m = g.remap then g.agree else ((g.applyRemap m).remapDone us).agree) := by
  have stage : (List.range 64).any (fun i => decide ((s.restart i).st = 2)) = true := List.any_eq_true.mpr ⟨i, List.mem_range.mpr hi, decide_eq_true reached⟩
  change execRemap masks failed us s = _
  rw [execRemap, stage, found, ← hg]
  dsimp only
  rw [if_neg (by decide), if_neg (fun h => h.1 rfl), if_pos rfl, calm]
  rw [List.filter_nil, hm]
  cases g.remap.fence <;> rfl

theorem remap_refused (h : g.remapValid m = false ∨ g.solved m = false) : exec (.remap masks failed us) s = .next g := by
  refine (remap_answers hi reached hg found calm hm).trans (if_pos ?_)
  exact h.imp (fun h => by rw [h]; rfl) fun h => by rw [h]; rfl

variable (valid : g.remapValid m = true) (solved : g.solved m = true)
include valid solved

theorem remap_solved : exec (.remap masks failed us) s = if g.remapHits m ≠ [] then .next ((g.remapHits m).foldl (fun s i => s.startJobHalt i (Page.srvg.cls * 256) s.et) g)
    else .next (if m = g.remap then g.agree else ((g.applyRemap m).remapDone us).agree) := by
  refine (remap_answers hi reached hg found calm hm).trans (if_neg ?_)
  rw [valid, solved]
  decide

theorem remap_halts (hits : g.remapHits m ≠ []) :
    exec (.remap masks failed us) s = .next ((g.remapHits m).foldl (fun s i => s.startJobHalt i (Page.srvg.cls * 256) s.et) g) :=
  (remap_solved hi reached hg found calm hm valid solved).trans (if_pos hits)

theorem remap_same (clear : g.remapHits m = []) (same : m = g.remap) : exec (.remap masks failed us) s = .next g.agree := by
  refine (remap_solved hi reached hg found calm hm valid solved).trans ((if_neg (not_not.mpr clear)).trans ?_)
  exact congrArg _ (if_pos same)

omit hi reached hg found calm hm valid solved in
theorem State.agree_keeps (s : State) : s.agree.remap = s.remap ∧ s.agree.rd srvg 0x028 = s.rd srvg 0x028 :=
  foldl_keeps (fun t : State => t.remap = s.remap ∧ t.rd srvg 0x028 = s.rd srvg 0x028) _ (fun t i _ ⟨remap, rd⟩ => by
    split
    · exact ⟨remap, (t.setRestart_rd i _ (by decide) (by decide)).trans rd⟩
    · exact ⟨remap, rd⟩) ⟨rfl, rfl⟩

omit hi reached hg found calm hm valid solved in
theorem State.remapDone_tells (s : State) (us : Nat) : (s.remapDone us).remap = s.remap ∧ tst ((s.remapDone us).rd srvg 0x028) 5 = true := by
  refine ⟨?_, ?_⟩
  · rw [State.remapDone, State.survTouch_remap, State.srvgEvent, State.raise_remap, State.capture_remap, State.wr_remap]
  · rw [State.remapDone, State.survTouch_rd, State.srvgEvent]
    exact State.raise_sets _ _ rfl (by decide)

omit hi reached hg found calm hm valid solved in
theorem State.laneHops_wired (s : State) : State.Wired s s.laneHops := .foldl _ fun t i => by
  split
  · exact .foldl _ fun _ _ => .wr ..
  · exact .refl

omit hi reached hg found calm hm valid solved in
theorem State.moveRails_wired (s : State) : State.Wired s s.moveRails := .foldl _ fun _ _ => .ite (.moveRail ..) .refl

omit hi reached hg found calm hm valid solved in
theorem State.startFlip_remap (s : State) : s.startFlip.remap = s.remap := by
  unfold State.startFlip
  split
  · exact State.raise_remap ..
  · rfl

omit hi reached hg found calm hm valid solved in
/-- A remap's tables installed, its rails named and its flip begun. -/
def State.remapTabled (s : State) (m : Masks) : State := ((s.moveRails.rtInstall m).wrF (gp .halg) 0x080 2 2 1).startFlip.laneHops

omit hi reached hg found calm hm valid solved in
theorem State.remapTabled_remap (s : State) (m : Masks) : (s.remapTabled m).remap = s.remap := by
  rw [State.remapTabled, (State.laneHops_wired _).remap, State.startFlip_remap, State.wrF_remap]
  exact (State.moveRails_wired s).remap

omit hi reached hg found calm hm valid solved in
/-- The Rooms that join a mapping take up what the Survey holds of them: those that were on are on, and those that ramped ramp. -/
def State.joined (s : State) (on ramp : List Nat) : State :=
  let s := on.foldl (fun s r =>
    if (s.suiteOf r).isSome ∧ s.roomExists r then ((s.loadRoom r).wr (pwr r) 0x080 (put 63 61 2 ||| put 60 58 4 ||| 1)).raise (pwr r) 0 false else s) s
  ramp.foldl (fun s r => if (s.suiteOf r).isSome ∧ s.roomExists r then (s.loadRoom r).roomRamp r else s) s

omit hi reached hg found calm hm valid solved in
theorem State.joined_remap (s : State) (on ramp : List Nat) : (s.joined on ramp).remap = s.remap := by
  refine foldl_keeps (fun t : State => t.remap = s.remap) _ (fun t r _ held => ?_) (foldl_keeps (fun t : State => t.remap = s.remap) _ (fun t r _ held => ?_) rfl)
  · split
    · exact ((State.Wired.roomRamp ..).remap.trans (State.Wired.loadRoom ..).remap).trans held
    · exact held
  · split
    · rw [State.raise_remap, State.wr_remap, (State.Wired.loadRoom ..).remap]
      exact held
    · exact held

omit hi reached hg found calm hm valid solved in
theorem State.showFence_remap (s : State) : s.showFence.remap = s.remap := by
  unfold State.showFence
  split <;> rfl

omit hi reached hg found calm hm valid solved in
/-- The Rooms in a power state that a remap moves. -/
def State.movedRooms (s : State) (m : Masks) (power : Nat) : List Nat :=
  (s.remap.rooms.filter fun r => decide (m.fence.isSome ∧ 14336 ≤ r) || decide (s.remap.place r ≠ m.place r)).filter fun r => decide (s.pwrState r = power)

omit hi reached hg found calm hm valid solved in
/-- The engine with the Rooms that leave the mapping open and every Corridor register under its new name. -/
def State.renamed (s : State) (m : Masks) : State :=
  ((s.movedRooms m 2 ++ s.movedRooms m 1).foldl (fun s r => s.roomOpen r 0) s).rekeyAll m

omit hi reached hg found calm hm valid solved in
/-- What a remap changes is dark for a while. -/
def State.darkened (s : State) (ws : List Nat) : State := { s with rim := { s.rim with remapping := ws } }

omit hi reached hg found calm hm valid solved in
theorem State.applyRemap_form (s : State) (m : Masks) : s.applyRemap m
    = (((s.renamed m).showFence.joined (s.movedRooms m 2) (s.movedRooms m 1)).remapTabled m).darkened (s.remap.changed m) := by
  unfold State.applyRemap State.renamed State.movedRooms State.darkened State.remapTabled State.joined
  dsimp only

omit hi reached hg found calm hm valid solved in
theorem State.applyRemap_remap (s : State) (m : Masks) : (s.applyRemap m).remap = m := by
  have dark (t : State) (ws : List Nat) : (t.darkened ws).remap = t.remap := rfl
  rw [State.applyRemap_form, dark, State.remapTabled_remap, State.joined_remap, State.showFence_remap]
  rfl

theorem remap_applies (clear : g.remapHits m = []) (new : m ≠ g.remap) : Completes (.remap masks failed us) s fun t =>
    t = ((g.applyRemap m).remapDone us).agree ∧ t.remap = m ∧ tst (t.rd srvg 0x028) 5 = true := by
  have answers := (remap_solved hi reached hg found calm hm valid solved (us := us)).trans ((if_neg (not_not.mpr clear)).trans (congrArg _ (if_neg new)))
  obtain ⟨agreed, shown⟩ := ((g.applyRemap m).remapDone us).agree_keeps
  obtain ⟨done, event⟩ := (g.applyRemap m).remapDone_tells us
  refine ⟨_, answers, rfl, agreed.trans (done.trans (g.applyRemap_remap m)), ?_⟩
  rw [shown]
  exact event

end

/-! ### The obligation -/

/-- Settles O55. The model's own choices in it are those of the log's entries 75 (CLKG looks for NO_SUITE first, and a halted Suite does not run for an ASAP
switch), 78 (the masks of a remap are operands of REMAP, taken only where they are those that R563 gives) and 83 (DEFINE is busy until no Room of the Suite
ramps). -/
theorem clockSwitches : Obligations.ClockSwitches := by
  unfold Obligations.ClockSwitches
  refine ⟨fun s => ⟨?refs, refSelect_takes, ?wings, ?switches, ?gates⟩, fun s => ⟨fun v busy => define_busy busy, ?table, ?refused, ?remap⟩⟩
  case refs =>
    exact fun ref w g low hw hg unarmed => ⟨clkRefFail_spare low hw hg unarmed, clkRefFail_last low hw hg unarmed, clkRefFail_switches low hw hg unarmed,
      clkRefFail_loses low hw hg unarmed⟩
  case wings =>
    exact fun w hw => ⟨clkLockLost_stopped hw, clkLockLost_stops hw, fun core hc => ⟨relock_idle hw, relock_runs hw hc⟩, relockTimeout_waits hw, relockTimeout_fences hw,
      coreLocked_alone hw, fun i owned => ⟨coreLocked_unasked hw owned, fun r switches => ⟨coreLocked_ignored hw owned switches, coreLocked_counts hw owned switches⟩⟩⟩
  case switches =>
    refine fun i v off hi hoff unarmed => ⟨rateSwitch_stores hi hoff unarmed, rateSwitch_unowned hi hoff unarmed, fun u go defined => ⟨rateSwitch_outside hi unarmed go defined,
      fun fast slow => ⟨rateSwitch_pending hi unarmed go defined fast slow, rateSwitch_misplaced hi hoff unarmed go defined fast slow,
        rateSwitch_begins hi hoff unarmed go defined fast slow⟩⟩, fun bad => ⟨clkSwitchDone_idle hi bad, fun u r defined switches => ⟨clkSwitchDone_frozen hi bad defined switches, ?_⟩⟩⟩
    subst hoff
    exact clkSwitchDone_ends hi bad defined switches
  case gates =>
    rintro v fixed rfl
    exact ⟨peripheralGate_firmware v, peripheralGate_keeps v⟩
  case table =>
    exact fun v i u free hi hu => ⟨define_refused free hi hu, define_enters free hi hu, delete_unknown free hi, fun x defined => ⟨delete_used free hi defined,
      delete_inReset free hi defined, delete_removes free hi defined⟩⟩
  case refused =>
    rintro i rule hi hr g rfl
    exact pchsRefuse_tells s hi hr
  case remap =>
    exact fun masks failed us => ⟨remap_unreached, fun i g hi reached hg found calm m hm => ⟨remap_refused hi reached hg found calm hm, fun valid solved =>
      ⟨remap_halts hi reached hg found calm hm valid solved, remap_same hi reached hg found calm hm valid solved, remap_applies hi reached hg found calm hm valid solved⟩⟩⟩

end Sys2Proof.Machine

/-! ## Resets of a Brick, a Room and a Suite, and the debug Sweep (O56) -/

namespace Sys2Proof.Machine

-- One proof at a time: the check's memory limit counts the stack of every thread that waits for an earlier proof.
set_option Elab.async false

/-! ### Bricks (R578, R580, R587) -/

/-- What the clearing of a Brick keeps beside the Brick: the state of a reset of its Room, the other Bricks, the Suites, the memory and the flights. -/
structure State.Clearing (room : Nat) (s t : State) : Prop where
  state : t.rd (rst room) 0x088 = s.rd (rst room) 0x088
  bricks : t.bricks = s.bricks
  suites : t.suites = s.suites
  mem : t.mem = s.mem
  pkts : t.pkts = s.pkts

theorem State.Clearing.refl {s : State} {room : Nat} : State.Clearing room s s := ⟨rfl, rfl, rfl, rfl, rfl⟩

theorem State.Clearing.trans {s t u : State} {room : Nat} (h : State.Clearing room s t) (k : State.Clearing room t u) : State.Clearing room s u :=
  ⟨k.state.trans h.state, k.bricks.trans h.bricks, k.suites.trans h.suites, k.mem.trans h.mem, k.pkts.trans h.pkts⟩

theorem State.Clearing.modRoom (s : State) (room r : Nat) (f : RoomSt → RoomSt) : State.Clearing room s (s.modRoom r f) := ⟨rfl, rfl, rfl, rfl, rfl⟩

theorem State.Clearing.dropBrickWaits (s : State) (room b : Nat) : State.Clearing room s (s.dropBrickWaits room b) := by
  unfold State.dropBrickWaits
  refine foldl_keeps (fun t => State.Clearing room s t) _ (fun t n _ held => ?_) .refl
  dsimp only
  split
  · exact held.trans (.modRoom ..)
  · exact held

/-- One Brick cleared: its tokens counted and the Brick reset, before what waits for it is forgotten. -/
def State.brickCleared (s : State) (room b : Nat) : State := (s.bump (rst room) 0x090 31 16 (s.brick room b).queued).setBrick room b (s.brick room b).reset

theorem State.brickCleared_keeps (s : State) (room b : Nat) : (s.brickCleared room b).rd (rst room) 0x088 = s.rd (rst room) 0x088
    ∧ (s.brickCleared room b).bricks = (s.setBrick room b (s.brick room b).reset).bricks ∧ (s.brickCleared room b).suites = s.suites
    ∧ (s.brickCleared room b).mem = s.mem ∧ (s.brickCleared room b).pkts = s.pkts := by
  refine ⟨?_, rfl, rfl, rfl, rfl⟩
  rw [State.brickCleared, State.setBrick_rd]
  exact State.rd_bump_off _ _ _ _ (by decide)

theorem State.clearBrick_clearing (s : State) (room b : Nat) : State.Clearing room (s.brickCleared room b) (s.clearBrick room b) := by
  unfold State.clearBrick
  exact (State.Clearing.dropBrickWaits ..).trans (.modRoom ..)

theorem State.clearBrick_keeps (s : State) (room b : Nat) : (s.clearBrick room b).bricks = (s.setBrick room b (s.brick room b).reset).bricks
    ∧ (s.clearBrick room b).suites = s.suites ∧ (s.clearBrick room b).mem = s.mem ∧ (s.clearBrick room b).pkts = s.pkts
    ∧ (s.clearBrick room b).rd (rst room) 0x088 = s.rd (rst room) 0x088 := by
  have clears := s.clearBrick_clearing room b
  obtain ⟨state, bricks, suites, mem, pkts⟩ := s.brickCleared_keeps room b
  exact ⟨clears.bricks.trans bricks, clears.suites.trans suites, clears.mem.trans mem, clears.pkts.trans pkts, clears.state.trans state⟩

section
variable {s : State} {room b : Nat} (hb : b < 64)
include hb

theorem goBrick_off (off : s.roomOn room = false) : TurnedAway (.goBrick room b) s (rst room) 3 := by
  refine turned_capture (w := rstWhere 0x04 1 b) (off := 0x098) (injected := false) ?_ (fun _ => rfl) (by decide)
  change execGoBrick room b s = _
  rw [execGoBrick, Nat.mod_eq_of_lt hb, off]
  rfl

variable (on : s.roomOn room = true)
include on

omit hb in
theorem goBrick_absorbed (resets : s.rstState room ≠ 0) : exec (.goBrick room b) s = .next s := by
  change execGoBrick room b s = _
  rw [execGoBrick, on]
  exact if_pos resets

omit hb on in
/-- A Brick reset that is done: it is counted, and RST_DONE is raised. -/
def State.brickDone (s : State) (room b : Nat) : State := (((s.clearBrick room b).wrF (rst room) 0x088 60 59 1).bump (rst room) 0x090 47 32 1).rstEvent room 0 0x01 1 b false

omit hb on in
/-- A running stepped Suite halted by the reset of one of its Bricks. -/
def State.brickHalts (s : State) (room b : Nat) : State :=
  (s.capture (rst room) 0x098 (rstWhere 0x03 1 b)).hitHalt .rst room 2 0x03 false (setBit (rstWhere 0x03 1 b) 31)

theorem goBrick_answers (idle : s.rstState room = 0) : exec (.goBrick room b) s = match ((s.brickDone room b).suiteOf room).bind (s.brickDone room b).suite with
    | some u => if u.mode = 0 ∧ u.run = 2 then .next ((s.brickDone room b).brickHalts room b) else .next (s.brickDone room b)
    | none => .next (s.brickDone room b) := by
  change execGoBrick room b s = _
  rw [execGoBrick, Nat.mod_eq_of_lt hb, on]
  exact if_neg (not_not.mpr idle)

omit hb on in
theorem State.brickDone_keeps (s : State) (room b : Nat) : (s.brickDone room b).bricks = (s.setBrick room b (s.brick room b).reset).bricks
    ∧ (s.brickDone room b).suites = s.suites ∧ (s.brickDone room b).mem = s.mem ∧ (s.brickDone room b).pkts = s.pkts
    ∧ tst ((s.brickDone room b).rd (rst room) 0x028) 0 = true := by
  obtain ⟨bricks, suites, mem, pkts, -⟩ := s.clearBrick_keeps room b
  refine ⟨?_, ?_, ?_, ?_, State.raise_sets _ _ rfl (by decide)⟩
  · rw [State.brickDone, State.rstEvent, State.raise_bricks, State.capture_bricks, State.bump_bricks, State.wrF_bricks, bricks]
  · rw [State.brickDone, State.rstEvent, State.raise_suites, State.capture_suites, State.bump_suites, State.wrF_suites, suites]
  · rw [State.brickDone, State.rstEvent, State.raise_mem, State.capture_mem, State.bump_mem, State.wrF_mem, mem]
  · rw [State.brickDone, State.rstEvent, State.raise_pkts, State.capture_pkts, State.bump_pkts, State.wrF_pkts, pkts]

omit hb on in
theorem State.brickHalts_keeps (s : State) (room b : Nat) : (s.brickHalts room b).bricks = s.bricks ∧ (s.brickHalts room b).mem = s.mem ∧ (s.brickHalts room b).pkts = s.pkts
    ∧ tst ((s.brickHalts room b).rd (rst room) 0x028) 2 = true ∧ (tst (s.rd (rst room) 0x028) 0 = true → tst ((s.brickHalts room b).rd (rst room) 0x028) 0 = true) := by
  refine ⟨?_, ?_, ?_, ?_, fun h => ?_⟩
  · rw [State.brickHalts, State.hitHalt_bricks, State.capture_bricks]
  · rw [State.brickHalts, State.hitHalt_mem, State.capture_mem]
  · rw [State.brickHalts, State.hitHalt_pkts, State.capture_pkts]
  · rw [State.brickHalts, State.hitHalt_rd]
    exact State.raise_sets _ _ rfl (by decide)
  · have kept : tst ((s.capture (rst room) 0x098 (rstWhere 0x03 1 b)).rd (rst room) 0x028) 0 = true := by
      rw [State.capture_rd_off _ _ (by decide)]
      exact h
    rw [State.brickHalts, State.hitHalt_rd]
    exact State.raise_keeps _ _ kept

omit hb on in
/-- What the Bricks are once one is reset. -/
theorem State.bricks_reset {t : State} (h : t.bricks = (s.setBrick room b (s.brick room b).reset).bricks) :
    t.brick room b = (s.brick room b).reset ∧ ∀ r c, brickKey r c ≠ brickKey room b → t.brick r c = s.brick r c := by
  refine ⟨?_, fun r c other => ?_⟩
  · rw [State.brick, h]
    exact s.brick_setBrick ..
  · rw [State.brick, h]
    exact s.brick_setBrick_ne _ other

theorem goBrick_resets (idle : s.rstState room = 0) : Completes (.goBrick room b) s fun t =>
    t.brick room b = (s.brick room b).reset ∧ (∀ r c, brickKey r c ≠ brickKey room b → t.brick r c = s.brick r c) ∧ tst (t.rd (rst room) 0x028) 0 = true ∧ t.mem = s.mem
      ∧ t.pkts = s.pkts ∧ (∀ i u, s.suiteOf room = some i → s.suite i = some u → u.mode = 0 → u.run = 2 → tst (t.rd (rst room) 0x028) 2 = true) := by
  obtain ⟨bricks, suites, mem, pkts, event⟩ := s.brickDone_keeps room b
  obtain ⟨bricks', mem', pkts', halts, keeps⟩ := (s.brickDone room b).brickHalts_keeps room b
  have answers := goBrick_answers hb on idle
  have owner : ((s.brickDone room b).suiteOf room).bind (s.brickDone room b).suite = (s.suiteOf room).bind s.suite := by
    have of : (s.brickDone room b).suite = s.suite := funext fun i => by rw [State.suite, suites]; rfl
    rw [State.suiteOf, State.suiteOfWing, suites, of]
    rfl
  rw [owner] at answers
  cases found : (s.suiteOf room).bind s.suite with
  | none =>
    rw [found] at answers
    obtain ⟨cleared, others⟩ := State.bricks_reset bricks
    refine ⟨_, answers, cleared, others, event, mem, pkts, fun i u owned defined => ?_⟩
    rw [owned, Option.bind_some, defined] at found
    cases found
  | some x =>
    rw [found] at answers
    by_cases runs : x.mode = 0 ∧ x.run = 2
    · obtain ⟨cleared, others⟩ := State.bricks_reset (bricks'.trans bricks)
      exact ⟨_, answers.trans (if_pos runs), cleared, others, keeps event, mem'.trans mem, pkts'.trans pkts, fun _ _ _ _ _ _ => halts⟩
    · obtain ⟨cleared, others⟩ := State.bricks_reset bricks
      refine ⟨_, answers.trans (if_neg runs), cleared, others, event, mem, pkts, fun i u owned defined mode run => ?_⟩
      rw [owned, Option.bind_some, defined] at found
      cases found
      exact absurd ⟨mode, run⟩ runs

end

/-! ### Rooms (R581, R584, R587) -/

section
variable {s : State} {room : Nat}

theorem goRoom_absorbed (resets : s.rstState room ≠ 0) : exec (.goRoom room) s = .next s := congrArg Host.Outcome.next (if_pos resets)

theorem goRoom_off (idle : s.rstState room = 0) (off : s.roomOn room = false) : Completes (.goRoom room) s fun t =>
    tst (t.rd (rst room) 0x028) 0 = true ∧ t.rstState room = 0 ∧ t.rdF (rst room) 0x088 60 59 = 2 ∧ t.mem = s.mem ∧ t.rooms = s.rooms ∧ t.bricks = s.bricks := by
  have dark : (s.wrF (rst room) 0x088 60 59 2).roomOn room = false := by
    rw [State.roomOn, State.rdF, State.wrF, State.rd_wr_key _ _ (regKey_offs (by decide) (by decide) (by decide))]
    exact off
  have answers : exec (.goRoom room) s = .next (((s.wrF (rst room) 0x088 60 59 2).bump (rst room) 0x090 63 48 1).rstEvent room 0 0x01 2 0 false) := by
    refine congrArg Host.Outcome.next ((if_neg (not_not.mpr idle)).trans (if_pos ?_))
    rw [dark]
    rfl
  have shown : (((s.wrF (rst room) 0x088 60 59 2).bump (rst room) 0x090 63 48 1).rstEvent room 0 0x01 2 0 false).rd (rst room) 0x088
      = setFld (s.rd (rst room) 0x088) 60 59 2 := by
    rw [State.rstEvent, State.raise_rd_off _ _ (by decide) (by decide), State.capture_rd_off _ _ (by decide), State.rd_bump_off _ _ _ _ (by decide), State.wrF, State.rd_wr_self]
  refine ⟨_, answers, State.raise_sets _ _ rfl (by decide), ?_, ?_, ?_, ?_, ?_⟩
  · rw [State.rstState, State.rdF, shown, fld_setFld_ne _ (by decide) (by decide)]
    exact idle
  · rw [State.rdF, shown, fld_setFld _ (by decide) (by decide)]
  · rw [State.rstEvent, State.raise_mem, State.capture_mem, State.bump_mem, State.wrF_mem]
  · rw [State.rstEvent, State.raise_rooms, State.capture_rooms, State.bump_rooms, State.wrF_rooms]
  · rw [State.rstEvent, State.raise_bricks, State.capture_bricks, State.bump_bricks, State.wrF_bricks]

section
variable (idle : s.rstState room = 0) (on : s.roomOn room = true)
include idle on

theorem goRoom_answers : exec (.goRoom room) s = .next (
    if (match (s.suiteOf room).bind s.suite with | some u => decide (u.run = 2) && decide (2 = 2) | none => false) = true then
      ((((s.wrF (rst room) 0x088 60 59 2).wrF (rst room) 0x088 63 61 1).capture (rst room) 0x098 (rstWhere 0x05 2 0)).hitHalt .rst room 4 0x05 false
        (setBit (rstWhere 0x05 2 0) 31)).modRoom room fun r => { r with rstHalt := true }
    else ((s.wrF (rst room) 0x088 60 59 2).wrF (rst room) 0x088 63 61 1).resetBegin room) := by
  have lit : (s.wrF (rst room) 0x088 60 59 2).roomOn room = true := by
    rw [State.roomOn, State.rdF, State.wrF, State.rd_wr_key _ _ (regKey_offs (by decide) (by decide) (by decide))]
    exact on
  refine congrArg Host.Outcome.next ((if_neg (not_not.mpr idle)).trans ((if_neg ?_).trans (if_neg fun h => absurd h.1 (by decide))))
  rw [lit]
  decide

theorem goRoom_begins (still : ∀ i u, s.suiteOf room = some i → s.suite i = some u → u.run ≠ 2) :
    exec (.goRoom room) s = .next (((s.wrF (rst room) 0x088 60 59 2).wrF (rst room) 0x088 63 61 1).resetBegin room) := by
  refine (goRoom_answers idle on).trans (congrArg _ (if_neg ?_))
  cases owned : s.suiteOf room with
  | none => exact Bool.false_ne_true
  | some i =>
    rw [Option.bind_some]
    cases defined : s.suite i with
    | none => exact Bool.false_ne_true
    | some u =>
      dsimp only
      rw [decide_eq_false (still i u owned defined)]
      exact Bool.false_ne_true

theorem goRoom_halts {i : Nat} {u : Suite} (owned : s.suiteOf room = some i) (defined : s.suite i = some u) (runs : u.run = 2) : Completes (.goRoom room) s fun t =>
    t.rstState room = 1 ∧ (t.room room).rstHalt = true ∧ tst (t.rd (rst room) 0x028) 4 = true ∧ t.mem = s.mem := by
  have answers := goRoom_answers idle on
  rw [owned, Option.bind_some, defined] at answers
  refine ⟨_, answers.trans (congrArg _ (if_pos (by dsimp only; rw [runs]; rfl))), ?_, ?_, ?_, ?_⟩
  · rw [State.rstState, State.rdF, State.modRoom_rd, State.hitHalt_rd]
    refine (congrArg (fun x => fld x 63 61) ((State.raise_rd_off _ _ (by decide) (by decide)).trans (State.capture_rd_off _ _ (by decide)))).trans ?_
    rw [State.wrF, State.rd_wr_self]
    exact fld_setFld _ (by decide) (by decide)
  · rw [State.room_modRoom]
  · rw [State.modRoom_rd, State.hitHalt_rd]
    exact State.raise_sets _ _ rfl (by decide)
  · rw [State.modRoom_mem, State.hitHalt_mem, State.capture_mem, State.wrF_mem, State.wrF_mem]

end

theorem rstDrainTimeout_waits (h : s.rstState room ≠ 1 ∨ (s.room room).rstHalt = true ∨ s.et < (s.room room).drain) : exec (.rstDrainTimeout room) s = .next s := if_pos h

/-- What the clearing of a whole Room keeps: the state of its reset, and the flights. -/
structure State.Holding (room : Nat) (s t : State) : Prop where
  state : t.rd (rst room) 0x088 = s.rd (rst room) 0x088
  pkts : t.pkts = s.pkts

theorem State.Holding.refl : State.Holding room s s := ⟨rfl, rfl⟩

section
variable {t u : State}

theorem State.Holding.trans (h : State.Holding room s t) (k : State.Holding room t u) : State.Holding room s u := ⟨k.state.trans h.state, k.pkts.trans h.pkts⟩

theorem State.Holding.ite {c : Prop} {_ : Decidable c} (h : State.Holding room s t) (k : State.Holding room s u) : State.Holding room s (if c then t else u) := by
  split
  · exact h
  · exact k

theorem State.Holding.foldl {α : Type} {f : State → α → State} {l : List α} (s : State) (step : ∀ t x, x ∈ l → State.Holding room t (f t x)) : State.Holding room s (l.foldl f s) :=
  foldl_keeps (fun t => State.Holding room s t) f (fun t x hx held => held.trans (step t x hx)) .refl

theorem State.Holding.wr (s : State) {p : PageRef} {o : Nat} (v : W64) (h : regKey (rst room) 0x088 ≠ regKey p o) : State.Holding room s (s.wr p o v) :=
  ⟨s.rd_wr_key v h, rfl⟩

/-- A register of another page of the Room. -/
theorem State.Holding.wrPage (s : State) {pg : Page} {o : Nat} (v : W64) (ho : o < 4096 := by decide) (h : pg ≠ .rst := by decide) :
    State.Holding room s (s.wr (rp pg room) o v) := .wr s v (regKey_inst (by decide) ho (Ne.symm h))

theorem State.Holding.modRoom (s : State) (r : Nat) (f : RoomSt → RoomSt) : State.Holding room s (s.modRoom r f) := ⟨rfl, rfl⟩

theorem State.Holding.modSuite (s : State) (i : Nat) (f : Suite → Suite) : State.Holding room s (s.modSuite i f) := ⟨State.modSuite_rd .., State.modSuite_pkts ..⟩

theorem State.Holding.clearBrick (s : State) (b : Nat) : State.Holding room s (s.clearBrick room b) := by
  obtain ⟨-, -, -, pkts, state⟩ := s.clearBrick_keeps room b
  exact ⟨state, pkts⟩

theorem keptRegs_pages : ∀ e, e ∈ keptRegs → e.1 ≠ .rst := by
  intro e he
  simp only [keptRegs, List.mem_append, List.mem_flatMap, List.mem_range, List.mem_cons, List.not_mem_nil, or_false] at he
  rcases he with ((named | ⟨w, hw, rfl | rfl⟩) | ⟨c, hc, rfl | rfl | rfl⟩) | ⟨p, hp, rfl | rfl | rfl⟩
  · rcases named with rfl | rfl | rfl | rfl | rfl | rfl | rfl | rfl | rfl | rfl | rfl | rfl | rfl <;> exact Page.noConfusion
  all_goals exact Page.noConfusion

/-- RST is no page of the Room domain. -/
theorem State.Holding.clearRegs (s : State) : State.Holding room s (s.clearRegs room keptRegs) := by
  have dropped : State.Holding room s { s with
      regs := smDrop (roomDomainKey room) s.regs, armed := smDrop (roomDomainKey room) s.armed, injLat := smDrop (roomDomainKey room) s.injLat } := by
    refine ⟨?_, rfl⟩
    have far : roomDomainKey room (regKey (rst room) 0x088) = false := by
      have idx : (rst room).page.idx = 15 := rfl
      unfold roomDomainKey regKey
      rw [idx, decide_eq_false (by omega), Bool.false_and]
    rw [State.rd, State.rd, smDrop_gets, far]
    rfl
  unfold State.clearRegs
  exact dropped.trans (.foldl _ fun t e he => .wrPage t _ (keptRegs_rows e he).2.1 (keptRegs_pages e he))

theorem State.Holding.csStopNow (s : State) (i cause : Nat) (inj : Bool) : State.Holding room s (s.csStopNow i cause inj) := by
  have told (p : PageRef) (v : W64) : State.Holding room s (((s.wr p 0x0C0 v).raise p 2 inj).modSuite i fun u => { u with entries := [] }) := by
    refine (State.Holding.wr s v (regKey_offs (by decide) (by decide) (by decide))).trans (.trans ⟨?_, State.raise_pkts ..⟩ (.modSuite ..))
    exact State.raise_rd _ _ (regKey_offs (by decide) (by decide) (by decide)) (regKey_offs (by decide) (by decide) (by decide))
  unfold State.csStopNow
  split
  · exact .refl
  · dsimp only
    split
    · exact (told _ _).trans (.modRoom ..)
    · exact told _ _

theorem State.Holding.runValues (s : State) : State.Holding room s ((List.range 8).foldl (fun s q => s.wr (rp .cvu room) (0x200 + 8 * q) 0) s) :=
  .foldl s fun t q hq => .wrPage t _ (by have := List.mem_range.mp hq; omega)

theorem State.Holding.arrivals (s : State) : State.Holding room s
    ((List.range 4).foldl (fun s k => (s.wr (rp .flu room) (0x0C0 + 8 * k) 0).wr (rp .flu room) (0x0E0 + 8 * k) 0) s) :=
  .foldl s fun t k hk => by
    have := List.mem_range.mp hk
    exact (State.Holding.wrPage t _ (by omega)).trans (.wrPage _ _ (by omega))

theorem State.Holding.clearRoom (s : State) : State.Holding room s (s.clearRoom room) := by
  have bricks : State.Holding room s ((List.range 64).foldl (fun s b => if s.brick room b = .empty then s else s.clearBrick room b) s) :=
    .foldl s fun t b _ => State.Holding.refl.ite (.clearBrick t b)
  have rings (t : State) : State.Holding room t ((List.range 64).foldl (fun s r => s.wrF (rp .chn room) (rxA r) 63 62 2) t) :=
    .foldl t fun t r hr => by
      have := List.mem_range.mp hr
      exact .wrPage t _ (by unfold rxA; omega)
  have rest (t : State) (f : RoomSt → RoomSt) : State.Holding room t ((((List.range 4).foldl (fun s k => (s.wr (rp .flu room) (0x0C0 + 8 * k) 0).wr (rp .flu room) (0x0E0 + 8 * k) 0)
      ((List.range 8).foldl (fun s q => s.wr (rp .cvu room) (0x200 + 8 * q) 0) t))).modRoom room f) := ((State.Holding.runValues t).trans (.arrivals _)).trans (.modRoom ..)
  have out := ((bricks.trans (.clearRegs _)).trans (rings _)).trans (rest _ fun r =>
    { r with hasArr := false, loader := none, sched := [], schedPer := 0, slots := [], slotPer := 0, prof := [], profPer := 0, slotCrc := [], checks := []
             checkIdx := 0, reqs := [], rr := [], wbacks := [], latches := [], hearth := .halted, dw := [], deliv := []
             held := [] })
  have left (t : State) (i : Nat) : State.Holding room t (t.loadLeft room i) := .modSuite ..
  have fetched (t : State) (i n : Nat) (c : Prop) {_ : Decidable c} : State.Holding room t ((if c then t.csStopNow i 0x07 else t).modSuite i fun u => { u with fetched := n }) :=
    .trans (State.Holding.ite (.csStopNow ..) .refl) (.modSuite ..)
  unfold State.clearRoom
  dsimp only
  split
  · split
    · split
      · exact (out.trans (left _ _)).trans (fetched _ _ _ _)
      · exact out.trans (left _ _)
    · exact out
  · exact out

end

/-- A Room reset that is held: its buffer is empty and it waits for its Suite no longer. -/
theorem State.resetHold_holds (drains : s.rstState room = 1) (free : (s.room room).rstHalt = false) (empty : ∀ f, f ∈ s.pkts → f.waits room = false) :
    (s.resetHold room).rstState room = 2 ∧ (s.resetHold room).pkts = s.pkts ∧ ((s.resetHold room).room room).resetAt = some (s.et + s.cyclesEt room 64) := by
  have none : s.pkts.any (fun f => f.waits room) = false := by
    rw [List.any_eq_false]
    exact fun f hf h => Bool.false_ne_true ((empty f hf).symm.trans h)
  have form : s.resetHold room = ((s.wrF (rst room) 0x088 63 61 2).clearRoom room).modRoom room fun r =>
      { r with resetAt := some ((s.wrF (rst room) 0x088 63 61 2).et + (s.wrF (rst room) 0x088 63 61 2).cyclesEt room 64) } := by
    refine if_neg ?_
    rw [drains, free, none]
    decide
  obtain ⟨state, pkts⟩ := State.Holding.clearRoom (room := room) (s.wrF (rst room) 0x088 63 61 2)
  rw [form]
  refine ⟨?_, (State.modRoom_pkts ..).trans (pkts.trans (State.wrF_pkts ..)), ?_⟩
  · rw [State.rstState, State.rdF, State.modRoom_rd, state]
    exact State.rdF_wrF_self _ _ _ (by decide) (by decide)
  · rw [State.room_modRoom]
    rfl

/-- The flights given up: what still waits in the buffer is discarded and counted, and RST_DRAIN_TIMEOUT is raised. -/
def State.bufferDropped (s : State) (room : Nat) : State :=
  let n := (s.pkts.filter fun f => f.waits room).length
  let s := { s with pkts := s.pkts.filter fun f => !f.waits room }
  (s.bump (rst room) 0x090 15 0 n).rstEvent room 1 0x02 2 0 false

theorem State.drainGiveUp_form (s : State) (room : Nat) : s.drainGiveUp room false = (s.bufferDropped room).resetHold room := rfl

theorem State.bufferDropped_tells (s : State) (room : Nat) : (s.bufferDropped room).rd (rst room) 0x088 = s.rd (rst room) 0x088 ∧ (s.bufferDropped room).rooms = s.rooms
    ∧ (s.bufferDropped room).suites = s.suites ∧ (s.bufferDropped room).et = s.et ∧ (s.bufferDropped room).pkts = s.pkts.filter (fun f => !f.waits room)
    ∧ tst ((s.bufferDropped room).rd (rst room) 0x028) 1 = true := by
  refine ⟨?_, ?_, ?_, ?_, ?_, State.raise_sets _ _ rfl (by decide)⟩
  · rw [State.bufferDropped, State.rstEvent, State.raise_rd_off _ _ (by decide) (by decide), State.capture_rd_off _ _ (by decide), State.rd_bump_off _ _ _ _ (by decide)]
    rfl
  · rw [State.bufferDropped, State.rstEvent, State.raise_rooms, State.capture_rooms, State.bump_rooms]
  · rw [State.bufferDropped, State.rstEvent, State.raise_suites, State.capture_suites, State.bump_suites]
  · rw [State.bufferDropped, State.rstEvent, State.raise_et, State.capture_et, State.bump_et]
  · rw [State.bufferDropped, State.rstEvent, State.raise_pkts, State.capture_pkts, State.bump_pkts]

theorem State.cyclesEt_of {t : State} (h : t.suites = s.suites) (n : Nat) : t.cyclesEt room n = s.cyclesEt room n := by
  have of : t.suite = s.suite := funext fun i => by rw [State.suite, State.suite, h]
  rw [State.cyclesEt, State.cyclesEt, State.suiteOf, State.suiteOf, State.suiteOfWing, State.suiteOfWing, h, of]

theorem rstDrainTimeout_holds (drains : s.rstState room = 1) (free : (s.room room).rstHalt = false) (due : (s.room room).drain ≤ s.et) : Completes (.rstDrainTimeout room) s fun t =>
    t.rstState room = 2 ∧ tst (t.rd (rst room) 0x028) 1 = true ∧ (∀ f, f ∈ t.pkts → f.waits room = false) ∧ (t.room room).resetAt = some (s.et + s.cyclesEt room 64) := by
  have answers : exec (.rstDrainTimeout room) s = .next ((s.bufferDropped room).resetHold room) := by
    refine if_neg ?_
    rw [drains, free]
    exact fun h => h.elim (absurd rfl) fun h => h.elim Bool.false_ne_true (Nat.not_lt.mpr due)
  obtain ⟨state, rooms, suites, et, pkts, event⟩ := s.bufferDropped_tells room
  have empty : ∀ f, f ∈ (s.bufferDropped room).pkts → f.waits room = false := by
    intro f hf
    rw [pkts] at hf
    exact Bool.not_eq_true' _ ▸ (List.mem_filter.mp hf).2
  obtain ⟨holds, left, releases⟩ := State.resetHold_holds (s := s.bufferDropped room) (by rw [State.rstState, State.rdF, state]; exact drains)
    (by rw [State.room, rooms]; exact free) empty
  refine ⟨_, answers, holds, ?_, fun f hf => empty f (left ▸ hf), ?_⟩
  · exact (State.Fading.resetHold (N := regKey (rst room) 0x028 + 1) _ room).event (rst room) 1 (show 10 < 15 by decide) (Nat.lt_succ_self _) event
  · rw [releases, et, State.cyclesEt_of suites]

theorem roomResetRelease_idle (h : (s.room room).resetAt = none ∨ s.rstState room ≠ 2) : exec (.roomResetRelease room) s = .next s := by
  change execRoomResetRelease room s = _
  unfold execRoomResetRelease
  cases at_ : (s.room room).resetAt with
  | none => rfl
  | some b => exact if_pos (.inl (h.resolve_left (by rw [at_]; exact Option.some_ne_none b)))

section
variable {b : Nat} (releases : (s.room room).resetAt = some b) (held : s.rstState room = 2)
include releases held

omit held in
theorem roomResetRelease_early (early : s.et < b) : exec (.roomResetRelease room) s = .next s := by
  change execRoomResetRelease room s = _
  rw [execRoomResetRelease, releases]
  exact if_pos (.inr early)

theorem roomResetRelease_answers (due : b ≤ s.et) : exec (.roomResetRelease room) s = .next (s.resetDone room) := by
  change execRoomResetRelease room s = _
  rw [execRoomResetRelease, releases]
  exact if_neg fun h => h.elim (absurd held) (Nat.not_lt.mpr due)

omit releases held

/-- A Room out of reset, and its reset counted. -/
def State.releaseCounted (s : State) (room : Nat) : State :=
  ((s.wrF (rst room) 0x088 63 61 0).modRoom room fun r => { r with resetAt := none }).bump (rst room) 0x090 63 48 1

/-- The same with RST_DONE, and what its dark ports discarded told. -/
def State.released (s : State) (room : Nat) : State := ((s.releaseCounted room).rstEvent room 0 0x01 (s.rdF (rst room) 0x088 60 59) 0 false).darkOut room

theorem State.resetDone_form (s : State) (room : Nat) : s.resetDone room = match (s.released room).suiteOf room with
    | none => s.released room
    | some i => match (s.released room).suite i with
      | some u => if u.inReset ∧ u.rooms.all (fun r => (s.released room).rstState r = 0) then (s.released room).suiteReleased i else s.released room
      | none => s.released room := rfl

/-- What telling of dark ports keeps. -/
theorem State.darkOut_keeps (s : State) (room : Nat) : (s.darkOut room).mem = s.mem ∧ (s.darkOut room).pkts = s.pkts ∧ (s.darkOut room).suites = s.suites
    ∧ ((s.darkOut room).room room).resetAt = (s.room room).resetAt
    ∧ (∀ r, (s.darkOut room).rd (rst r) 0x088 = s.rd (rst r) 0x088) ∧ (∀ q i, tst (s.rd q 0x028) i = true → tst ((s.darkOut room).rd q 0x028) i = true) := by
  unfold State.darkOut
  dsimp only
  split
  · exact ⟨rfl, rfl, rfl, rfl, fun _ => rfl, fun _ _ => id⟩
  · refine ⟨?_, ?_, ?_, ?_, fun r => ?_, fun q i h => ?_⟩
    · rw [State.modRoom_mem, State.raise_mem, State.bump_mem]
    · rw [State.modRoom_pkts, State.raise_pkts, State.bump_pkts]
    · rw [State.modRoom_suites, State.raise_suites, State.bump_suites]
    · rw [State.room_modRoom, State.raise_room, State.bump_room]
    · rw [State.modRoom_rd, State.raise_rd _ _ regKey_offs regKey_offs, State.bump, State.rd_wr_key _ _ regKey_offs]
    · rw [State.modRoom_rd]
      refine State.raise_event _ _ _ _ _ ?_
      rw [State.bump, State.rd_wr_key _ _ regKey_offs]
      exact h

theorem State.released_keeps (s : State) (room : Nat) : (s.released room).mem = s.mem ∧ (s.released room).pkts = s.pkts ∧ (s.released room).suites = s.suites
    ∧ ((s.released room).room room).resetAt = none ∧ (s.released room).rstState room = 0 ∧ (∀ r, r ≠ room → (s.released room).rstState r = s.rstState r)
    ∧ tst ((s.released room).rd (rst room) 0x028) 0 = true := by
  obtain ⟨mem, pkts, suites, releases, rd, events⟩ := ((s.releaseCounted room).rstEvent room 0 0x01 (s.rdF (rst room) 0x088 60 59) 0 false).darkOut_keeps room
  have shown (r : Nat) : (s.released room).rd (rst r) 0x088 = (s.wrF (rst room) 0x088 63 61 0).rd (rst r) 0x088 := by
    have apart {o : Nat} (ho : o < 4096) (h : 0x088 ≠ o) : regKey (rst r) 0x088 ≠ regKey (rst room) o := regKey_offs (by decide) ho h
    rw [State.released, rd, State.rstEvent, State.raise_rd _ _ (apart (by decide) (by decide)) (apart (by decide) (by decide)),
      State.capture_rd_key _ _ (apart (by decide) (by decide)), State.releaseCounted, State.bump, State.rd_wr_key _ _ (apart (by decide) (by decide)), State.modRoom_rd]
  refine ⟨mem.trans ?_, pkts.trans ?_, suites.trans ?_, releases.trans ?_, ?_, fun r other => ?_, events _ 0 (State.raise_sets _ _ rfl (by decide))⟩
  · rw [State.rstEvent, State.raise_mem, State.capture_mem]
    rfl
  · rw [State.rstEvent, State.raise_pkts, State.capture_pkts]
    rfl
  · rw [State.rstEvent, State.raise_suites, State.capture_suites]
    rfl
  · rw [State.rstEvent, State.raise_room, State.capture_room, State.releaseCounted, State.bump_room, State.room_modRoom]
  · rw [State.rstState, State.rdF, shown]
    exact State.rdF_wrF_self _ _ _ (by decide) (by decide)
  · rw [State.rstState, State.rdF, shown, State.wrF, rst, rst, State.rd_wr_key _ _ (regKey_insts other)]
    rfl

/-- A Suite whose reset ends with the last of its Rooms. -/
theorem State.suiteReleased_tells {i : Nat} {u : Suite} (defined : s.suite i = some u) : (s.suiteReleased i).suite i = some { u with inReset := false }
    ∧ tst ((s.suiteReleased i).rd (gp .rstg) 0x098) i = false ∧ tst ((s.suiteReleased i).rd (gp .rstg) 0x028) 0 = true ∧ (s.suiteReleased i).mem = s.mem
    ∧ (s.suiteReleased i).pkts = s.pkts ∧ (s.suiteReleased i).rooms = s.rooms ∧ (∀ r, (s.suiteReleased i).rstState r = s.rstState r)
    ∧ (∀ q j, tst (s.rd q 0x028) j = true → tst ((s.suiteReleased i).rd q 0x028) j = true) := by
  unfold State.suiteReleased
  rw [State.modSuite_of _ _ defined]
  dsimp only
  refine ⟨?_, ?_, State.raise_sets _ _ rfl (by decide), ?_, ?_, ?_, fun r => ?_, fun q j h => ?_⟩
  · rw [State.raise_suite, State.capture_suite, State.wr_suite, State.suite_setSuite]
  · rw [State.raise_rd_off _ _ (by decide) (by decide), State.capture_rd_off _ _ (by decide), State.rd_wr_self, tst_clrBit]
  · rw [State.raise_mem, State.capture_mem, State.wr_mem, State.setSuite_mem]
  · rw [State.raise_pkts, State.capture_pkts, State.wr_pkts, State.setSuite_pkts]
  · rw [State.raise_rooms, State.capture_rooms, State.wr_rooms, State.setSuite_rooms]

  · rw [State.rstState, State.rdF, State.raise_rd _ _ regKey_offs regKey_offs, State.capture_rd_key _ _ regKey_offs, State.rd_wr_key _ _ regKey_offs, State.setSuite_rd]
    rfl
  · refine State.raise_event _ _ _ _ _ ?_
    rw [State.capture_rd_key _ _ regKey_offs, State.rd_wr_key _ _ regKey_offs, State.setSuite_rd]
    exact h

/-- A Room out of reset, and the Suite whose reset it ends. -/
theorem State.resetDone_tells (s : State) (room : Nat) : (s.resetDone room).rstState room = 0 ∧ ((s.resetDone room).room room).resetAt = none
    ∧ tst ((s.resetDone room).rd (rst room) 0x028) 0 = true ∧ (s.resetDone room).mem = s.mem ∧ (s.resetDone room).pkts = s.pkts := by
  obtain ⟨mem, pkts, -, releases, state, -, event⟩ := s.released_keeps room
  rw [State.resetDone_form]
  split
  · exact ⟨state, releases, event, mem, pkts⟩
  · split
    · next i u defined =>
      split
      · obtain ⟨-, -, -, mem', pkts', rooms', states, events⟩ := State.suiteReleased_tells defined
        refine ⟨(states room).trans state, ?_, events _ 0 event, mem'.trans mem, pkts'.trans pkts⟩
        rw [State.room, rooms']
        exact releases
      · exact ⟨state, releases, event, mem, pkts⟩
    · exact ⟨state, releases, event, mem, pkts⟩

theorem State.resetDone_ends {i : Nat} {u : Suite} (owned : s.suiteOf room = some i) (defined : s.suite i = some u) (resets : u.inReset = true)
    (last : ∀ r, r ∈ u.rooms → r ≠ room → s.rstState r = 0) : s.resetDone room = (s.released room).suiteReleased i := by
  obtain ⟨-, -, suites, -, state, others, -⟩ := s.released_keeps room
  have owned' : (s.released room).suiteOf room = some i := by
    rw [State.suiteOf, State.suiteOfWing, suites]
    exact owned
  have defined' : (s.released room).suite i = some u := by
    rw [State.suite, suites]
    exact defined
  have all : u.rooms.all (fun r => (s.released room).rstState r = 0) = true := by
    rw [List.all_eq_true]
    intro r hr
    refine decide_eq_true ?_
    by_cases same : r = room
    · rw [same]
      exact state
    · exact (others r same).trans (last r hr same)
  rw [State.resetDone_form, owned']
  dsimp only
  rw [defined']
  exact if_pos ⟨resets, all⟩

include releases held in
theorem roomResetRelease_ends (due : b ≤ s.et) : Completes (.roomResetRelease room) s fun t => t.rstState room = 0 ∧ (t.room room).resetAt = none
    ∧ tst (t.rd (rst room) 0x028) 0 = true ∧ t.mem = s.mem ∧ t.pkts = s.pkts
    ∧ ∀ i u, s.suiteOf room = some i → s.suite i = some u → u.inReset = true → (∀ r, r ∈ u.rooms → r ≠ room → s.rstState r = 0) →
      t.suite i = some { u with inReset := false } ∧ tst (t.rd (gp .rstg) 0x098) i = false ∧ tst (t.rd (gp .rstg) 0x028) 0 = true := by
  obtain ⟨state, released, event, mem, pkts⟩ := s.resetDone_tells room
  refine ⟨_, roomResetRelease_answers releases held due, state, released, event, mem, pkts, fun i u owned defined resets last => ?_⟩
  obtain ⟨-, -, suites, -⟩ := s.released_keeps room
  rw [State.resetDone_ends owned defined resets last]
  obtain ⟨suite, shown, told, -⟩ := State.suiteReleased_tells (s := s.released room) (i := i) (u := u) (by rw [State.suite, suites]; exact defined)
  exact ⟨suite, shown, told⟩

end

end

/-! ### Suites (R584, R585, R592) -/

section
variable {s : State} {v : W64} {i : Nat}

theorem suiteReset_unasked (idle : tst v 63 = false) : exec (.suiteReset v) s = .next s := if_neg (by rw [idle]; decide)

variable (hi : i = fld v 5 0) (go : tst v 63 = true)
include hi go

theorem suiteReset_answers : exec (.suiteReset v) s = .next (s.suiteReset i) := by
  subst hi
  exact if_pos go

theorem suiteReset_unowned (none : s.suite i = none) : TurnedAway (.suiteReset v) s (gp .rstg) 1 := by
  refine turned_raise (injected := false) ((suiteReset_answers hi go).trans (congrArg _ ?_)) rfl (by decide)
  rw [State.suiteReset, none]

variable {u : Suite} (defined : s.suite i = some u)
include defined

theorem suiteReset_absorbed (resets : u.inReset = true) : exec (.suiteReset v) s = .next s := by
  refine (suiteReset_answers hi go).trans (congrArg _ ?_)
  rw [State.suiteReset, defined]
  exact if_pos resets

omit hi go in
/-- The Suite itself once its reset has marked it. -/
theorem State.resetMarked_clears : ∃ x, (s.resetMarked i).suite i = some x ∧ x.rooms = u.rooms ∧ x.run = 0 ∧ x.entries = [] ∧ x.load = none := by
  obtain ⟨y, hy, settles⟩ := (((State.Fading.ckptEntryDone s i).trans (.sweepHalted ..)).trans (.suiteFreed _ i)).kept i u defined
  have cleared : (((s.ckptEntryDone i).sweepHalted i).suiteWide i).suite i = some y.cleared := by
    rw [State.suiteWide_form, State.modSuite_of _ _ hy]
    exact State.suite_setSuite ..
  refine ⟨{ y.cleared with inReset := true }, ?_, settles.rooms, rfl, rfl, rfl⟩
  unfold State.resetMarked
  dsimp only
  rw [State.modSuite_of _ _ cleared]
  exact State.suite_setSuite ..

theorem suiteReset_clears (out : u.inReset = false) : Completes (.suiteReset v) s fun t =>
    t = s.suiteReset i ∧ ∃ x, t.suite i = some x ∧ x.run = 0 ∧ x.entries = [] ∧ x.rooms = u.rooms := by
  obtain ⟨y, hy, first⟩ := ((State.Fading.finishSwitch s i).trans (.resetHalted _ i u)).kept i u defined
  obtain ⟨x, hx, rooms, run, entries, load⟩ := State.resetMarked_clears hy
  have taken : State.Fades (((s.finishSwitch i).resetHalted i u).resetMarked i) (s.suiteReset i) := by
    rw [State.suiteReset_form defined out]
    exact (State.Fading.resetRooms ..).trans (.when (.suiteReleased _ _ (noRegs_apart _)))
  obtain ⟨z, hz, settles⟩ := taken.kept i x hx
  obtain ⟨run', entries', -⟩ := settles.rest run entries load
  exact ⟨_, suiteReset_answers hi go, rfl, z, hz, run', entries', settles.rooms.trans (rooms.trans first.rooms)⟩

end

/-! ### The debug Sweep and the trigger inputs (R622 to R624) -/

section
variable {s : State} (lit : tst (s.rd (gp .clkg) 0x090) 9 = true)

/-- An ungated debug page raises its events. -/
theorem dbg_ungated {t : State} (h : tst (t.rd (gp .clkg) 0x090) 9 = true) : t.gated dbg = false := by
  change (!tst (t.rd (gp .clkg) 0x090) 9) = false
  rw [h]
  rfl

/-- A debug Sweep that ends, before its event. -/
def State.dbgEnded (s : State) : State := s.wrF dbg 0x0B0 63 63 0

theorem State.dbgEnded_lit (lit : tst (s.rd (gp .clkg) 0x090) 9 = true) : tst (s.dbgEnded.rd (gp .clkg) 0x090) 9 = true := by
  rw [State.dbgEnded, State.wrF, State.rd_wr_key _ _ regKey_offs]
  exact lit

theorem State.dbgEnded_idle (s : State) : tst (s.dbgEnded.rd dbg 0x0B0) 63 = false := by
  rw [State.dbgEnded, State.wrF, State.rd_wr_self, tst_fld, fld_setFld _ (by decide) (by decide)]
  rfl

include lit

theorem State.dbgEnded_fails (room detail : Nat) (inj : Bool) : tst ((s.dbgEnded.dbgFail room detail inj).rd dbg 0x0B0) 63 = false
    ∧ tst ((s.dbgEnded.dbgFail room detail inj).rd dbg 0x028) 3 = true ∧ (s.dbgEnded.dbgFail room detail inj).mem = s.mem
    ∧ (s.dbgEnded.dbgFail room detail inj).bricks = s.bricks := by
  refine ⟨?_, State.raise_sets _ _ (dbg_ungated ?_) (by decide), ?_, ?_⟩
  · rw [State.dbgFail, State.raise_rd_off _ _ (by decide) (by decide), State.capture_rd_off _ _ (by decide), State.dbgEnded_idle]
  · rw [State.capture_rd_key _ _ regKey_offs]
    exact State.dbgEnded_lit lit
  · rw [State.dbgFail, State.raise_mem, State.capture_mem]
    rfl
  · rw [State.dbgFail, State.raise_bricks, State.capture_bricks]
    rfl

theorem State.dbgEnded_done : tst ((s.dbgEnded.raise dbg 2 false).rd dbg 0x0B0) 63 = false ∧ tst ((s.dbgEnded.raise dbg 2 false).rd dbg 0x028) 2 = true
    ∧ (s.dbgEnded.raise dbg 2 false).rim = s.rim := by
  refine ⟨?_, State.raise_sets _ _ (dbg_ungated (State.dbgEnded_lit lit)) (by decide), ?_⟩
  · rw [State.raise_rd_off _ _ (by decide) (by decide), State.dbgEnded_idle]
  · rw [State.raise_rim]
    rfl

omit lit

theorem debugSweepOut_idle {bad : Nat} (h : tst (s.rd dbg 0x0B0) 62 = true ∨ s.dbgRooms = []) : exec (.debugSweepOut bad) s = .next s := by
  change execDebugSweepOut bad s = _
  unfold execDebugSweepOut
  rcases h with h | h
  · exact if_pos h
  · rw [h]
    exact ite_self _

variable {r bad : Nat}

theorem debugSweepOut_answers (out : tst (s.rd dbg 0x0B0) 62 = false) (rooms : s.dbgRooms = [r]) :
    exec (.debugSweepOut bad) s = .next { (s.dbgOut bad 0 [r]) with free := s.free + 1 } := by
  change execDebugSweepOut bad s = _
  rw [execDebugSweepOut, rooms, out]
  rfl

/-- The Sweep-out over any reading of where an image goes: its course does not turn on how an address decodes. -/
def State.dbgOutVia (image : State → Nat → Option Nat) (s : State) (bad : Nat) : Nat → List Nat → State
  | _, [] => (s.wrF dbg 0x0B0 63 63 0).raise dbg 2 false
  | k, r :: l =>
    match image s k with
    | none => (s.wrF dbg 0x0B0 63 63 0).dbgFail r 2 false
    | some a =>
      if k = bad then (s.wrF dbg 0x0B0 63 63 0).dbgFail r 2 false
      else
        let crc := Config.freeAt s.free (2 ^ 40 + k)
        let img := s.takeImage r crc
        let t := s.storeAt a (k * imageBytes) r crc
        State.dbgOutVia image { t with rim := { t.rim with dbgImgs := smSet none t.rim.dbgImgs a (some (r, img)) } } bad (k + 1) l

theorem State.dbgOut_via (s : State) (bad k : Nat) (l : List Nat) : s.dbgOut bad k l = State.dbgOutVia State.dbgImage s bad k l := by
  delta State.dbgOut State.dbgOutVia
  rfl

/-- A debug Sweep-out whose one image the Cellar does not take. -/
theorem State.dbgOut_fails (h : bad = 0 ∨ s.dbgImage 0 = none) : s.dbgOut bad 0 [r] = s.dbgEnded.dbgFail r 2 false := by
  rw [State.dbgOut_via]
  unfold State.dbgOutVia
  cases image : s.dbgImage 0 with
  | none => rfl
  | some a => exact if_pos (h.resolve_right (by rw [image]; exact Option.some_ne_none a)).symm

/-- An image noted at an EA. -/
def State.dbgNoted (s : State) (a : Nat) (x : Nat × RoomImg) : State := { s with rim := { s.rim with dbgImgs := smSet none s.rim.dbgImgs a (some x) } }

/-- An image left for the debug Sweep-in. -/
def State.dbgStored (s : State) (r a : Nat) : State :=
  (s.storeAt a (0 * imageBytes) r (Config.freeAt s.free (2 ^ 40 + 0))).dbgNoted a (r, s.takeImage r (Config.freeAt s.free (2 ^ 40 + 0)))

theorem State.dbgOut_stores {a : Nat} (good : bad ≠ 0) (image : s.dbgImage 0 = some a) : s.dbgOut bad 0 [r] = (s.dbgStored r a).dbgEnded.raise dbg 2 false := by
  rw [State.dbgOut_via]
  unfold State.dbgOutVia
  rw [image]
  exact if_neg (Ne.symm good)

theorem State.storeAt_rd (s : State) (a k room : Nat) (crc : W64) (q : PageRef) (o : Nat) : (s.storeAt a k room crc).rd q o = s.rd q o := by
  unfold State.storeAt
  rw [State.stBytes_rd]
  refine foldl_keeps (fun t : State => t.rd q o = s.rd q o) _ (fun t x _ held => ?_) rfl
  split
  · rw [State.stBytes_rd, held]
  · exact held

theorem State.dbgNoted_rd (s : State) (a : Nat) (x : Nat × RoomImg) (q : PageRef) (o : Nat) : (s.dbgNoted a x).rd q o = s.rd q o := rfl

theorem State.dbgNoted_image (s : State) (a : Nat) (x : Nat × RoomImg) : smGet none (s.dbgNoted a x).rim.dbgImgs a = some x := smGet_smSet_self none s.rim.dbgImgs a (some x)

include lit in
theorem debugSweepOut_fails (out : tst (s.rd dbg 0x0B0) 62 = false) (rooms : s.dbgRooms = [r]) (h : bad = 0 ∨ s.dbgImage 0 = none) :
    Completes (.debugSweepOut bad) s fun t => tst (t.rd dbg 0x0B0) 63 = false ∧ tst (t.rd dbg 0x028) 3 = true ∧ t.mem = s.mem := by
  have answers := debugSweepOut_answers (bad := bad) out rooms
  rw [State.dbgOut_fails h] at answers
  obtain ⟨idle, event, mem, -⟩ := State.dbgEnded_fails lit r 2 false
  exact ⟨_, answers, idle, event, mem⟩

include lit in
theorem debugSweepOut_stores {a : Nat} (out : tst (s.rd dbg 0x0B0) 62 = false) (rooms : s.dbgRooms = [r]) (good : bad ≠ 0) (image : s.dbgImage 0 = some a) :
    Completes (.debugSweepOut bad) s fun t => tst (t.rd dbg 0x0B0) 63 = false ∧ tst (t.rd dbg 0x028) 2 = true
      ∧ smGet none t.rim.dbgImgs a = some (r, s.takeImage r (Config.freeAt s.free (2 ^ 40))) := by
  have answers := debugSweepOut_answers (bad := bad) out rooms
  rw [State.dbgOut_stores good image] at answers
  obtain ⟨idle, event, rim⟩ := State.dbgEnded_done (s := s.dbgStored r a) (by rw [State.dbgStored, State.dbgNoted_rd, State.storeAt_rd]; exact lit)
  refine ⟨_, answers, idle, event, ?_⟩
  exact (congrArg (fun x : Rim => smGet none x.dbgImgs a) rim).trans (State.dbgNoted_image ..)

theorem debugSweepIn_idle {crc : Nat} (h : tst (s.rd dbg 0x0B0) 62 = false ∨ s.dbgRooms = []) : exec (.debugSweepIn bad crc) s = .next s := by
  change execDebugSweepIn bad crc s = _
  unfold execDebugSweepIn
  rcases h with h | h
  · exact if_pos (by rw [h]; rfl)
  · rw [h]
    exact ite_self _

/-- The Sweep-in over any reading of where an image lies. -/
def State.dbgInVia (image : State → Nat → Option Nat) (s : State) (bad crc : Nat) (inj : Bool) : Nat → List Nat → State
  | _, [] => (s.wrF dbg 0x0B0 63 63 0).raise dbg 2 false
  | k, r :: l =>
    match image s k with
    | none => (s.wrF dbg 0x0B0 63 63 0).dbgFail r 2 false
    | some a =>
      if k = bad then (s.wrF dbg 0x0B0 63 63 0).dbgFail r 2 false
      else if inj then (s.wrF dbg 0x0B0 63 63 0).dbgFail r 3 true
      else if k = crc then (s.wrF dbg 0x0B0 63 63 0).dbgFail r 3 false
      else State.dbgInVia image (s.putImage r (s.dbgImgAt r a)) bad crc false (k + 1) l

theorem State.dbgIn_via (s : State) (bad crc : Nat) (inj : Bool) (k : Nat) (l : List Nat) : s.dbgIn bad crc inj k l = State.dbgInVia State.dbgImage s bad crc inj k l := by
  delta State.dbgIn State.dbgInVia
  rfl

variable {crc : Nat} (in_ : tst (s.rd dbg 0x0B0) 62 = true) (rooms : s.dbgRooms = [r]) (unarmed : s.isArmed dbg 3 = false)
include in_ rooms unarmed

theorem debugSweepIn_answers : exec (.debugSweepIn bad crc) s = .next (s.dbgIn bad crc false 0 [r]) := by
  change execDebugSweepIn bad crc s = _
  rw [execDebugSweepIn, rooms, in_]
  dsimp only
  rw [unarmed]
  rfl

include lit in
theorem debugSweepIn_unread (h : bad = 0 ∨ s.dbgImage 0 = none) : Completes (.debugSweepIn bad crc) s fun t =>
    tst (t.rd dbg 0x0B0) 63 = false ∧ tst (t.rd dbg 0x028) 3 = true ∧ t.mem = s.mem ∧ t.bricks = s.bricks := by
  have form : s.dbgIn bad crc false 0 [r] = s.dbgEnded.dbgFail r 2 false := by
    rw [State.dbgIn_via]
    unfold State.dbgInVia
    cases image : s.dbgImage 0 with
    | none => rfl
    | some a => exact if_pos (h.resolve_right (by rw [image]; exact Option.some_ne_none a)).symm
  exact ⟨_, (debugSweepIn_answers in_ rooms unarmed).trans (congrArg _ form), State.dbgEnded_fails lit r 2 false⟩

variable {a : Nat} (good : bad ≠ 0) (image : s.dbgImage 0 = some a)
include good image

omit in_ rooms unarmed in
theorem State.dbgIn_form : s.dbgIn bad crc false 0 [r] = if 0 = crc then s.dbgEnded.dbgFail r 3 false else (s.putImage r (s.dbgImgAt r a)).dbgEnded.raise dbg 2 false := by
  rw [State.dbgIn_via]
  unfold State.dbgInVia
  rw [image]
  exact if_neg (Ne.symm good)

include lit in
theorem debugSweepIn_differs (differs : crc = 0) : Completes (.debugSweepIn bad crc) s fun t =>
    tst (t.rd dbg 0x0B0) 63 = false ∧ tst (t.rd dbg 0x028) 3 = true ∧ t.mem = s.mem ∧ t.bricks = s.bricks :=
  ⟨_, (debugSweepIn_answers in_ rooms unarmed).trans (congrArg _ ((State.dbgIn_form good image).trans (if_pos differs.symm))), State.dbgEnded_fails lit r 3 false⟩

theorem debugSweepIn_restores (same : crc ≠ 0) : exec (.debugSweepIn bad crc) s = .next (((s.putImage r (s.dbgImgAt r a)).wrF dbg 0x0B0 63 63 0).raise dbg 2 false) :=
  (debugSweepIn_answers in_ rooms unarmed).trans (congrArg _ ((State.dbgIn_form good image).trans (if_neg (Ne.symm same))))

end

theorem State.dbgImgAt_kept {s : State} {r a q : Nat} {img : RoomImg} (h : smGet none s.rim.dbgImgs a = some (q, img)) : s.dbgImgAt r a = img.move q r := by
  rw [State.dbgImgAt, h]

theorem State.dbgImgAt_bytes {s : State} {r a : Nat} (h : smGet none s.rim.dbgImgs a = none) : s.dbgImgAt r a = s.imageAt r a := by rw [State.dbgImgAt, h]

theorem trigInput_gated {s : State} (gated : tst (s.rd (gp .clkg) 0x090) 9 = false) (pin : Nat) : exec (.trigInput pin) s = .next s := if_neg (by rw [gated]; decide)

section
variable {s : State} {pin : Nat} {w : W64} (lit : tst (s.rd (gp .clkg) 0x090) 9 = true) (low : pin < 2) (hw : w = s.rd dbg (0x0A0 + 8 * pin))
include lit low hw

theorem trigInput_answers : exec (.trigInput pin) s = if s.dbgLocked ∨ fld w 63 62 ≠ 3 then .next s else .next (match (s.raise dbg 0 false).suite (fld w 59 54) with
    | none => s.raise dbg 0 false
    | some u => if u.run ≠ 2 then s.raise dbg 0 false
      else match fld w 61 60 with
        | 1 => (s.raise dbg 0 false).stallReq (fld w 59 54) 4 hostSrc 0
        | 2 => (s.raise dbg 0 false).sendHalt (fld w 59 54) u.lead 15 0x1B01
        | _ => s.raise dbg 0 false) := by
  subst hw
  change execTrigInput pin s = _
  rw [execTrigInput, if_pos lit, Nat.mod_eq_of_lt low, State.trigEdge]
  exact apply_ite Host.Outcome.next _ _ _

theorem trigInput_unheard (h : s.dbgLocked = true ∨ fld w 63 62 ≠ 3) : exec (.trigInput pin) s = .next s := (trigInput_answers lit low hw).trans (if_pos h)

variable (open_ : s.dbgLocked = false) (enabled : fld w 63 62 = 3)
include open_ enabled

theorem trigInput_heard : exec (.trigInput pin) s = .next (match s.suite (fld w 59 54) with
    | none => s.raise dbg 0 false
    | some u => if u.run ≠ 2 then s.raise dbg 0 false
      else match fld w 61 60 with
        | 1 => (s.raise dbg 0 false).stallReq (fld w 59 54) 4 hostSrc 0
        | 2 => (s.raise dbg 0 false).sendHalt (fld w 59 54) u.lead 15 0x1B01
        | _ => s.raise dbg 0 false) := by
  refine (trigInput_answers lit low hw).trans ((if_neg ?_).trans ?_)
  · rw [open_, enabled]
    decide
  · rw [State.raise_suite]

theorem trigInput_unowned (none : s.suite (fld w 59 54) = none) : exec (.trigInput pin) s = .next (s.raise dbg 0 false) := by
  rw [trigInput_heard lit low hw open_ enabled, none]

variable {u : Suite} (defined : s.suite (fld w 59 54) = some u)
include defined

theorem trigInput_still (still : u.run ≠ 2) : exec (.trigInput pin) s = .next (s.raise dbg 0 false) := by
  rw [trigInput_heard lit low hw open_ enabled, defined]
  exact congrArg _ (if_pos still)

variable (runs : u.run = 2)
include runs

theorem trigInput_stalls (act : fld w 61 60 = 1) : exec (.trigInput pin) s = .next ((s.raise dbg 0 false).stallReq (fld w 59 54) 4 hostSrc 0) := by
  rw [trigInput_heard lit low hw open_ enabled, defined, act]
  exact congrArg _ (if_neg (not_not.mpr runs))

theorem trigInput_halts (act : fld w 61 60 = 2) : exec (.trigInput pin) s = .next ((s.raise dbg 0 false).sendHalt (fld w 59 54) u.lead 15 0x1B01) := by
  rw [trigInput_heard lit low hw open_ enabled, defined, act]
  exact congrArg _ (if_neg (not_not.mpr runs))

end

/-! ### The obligation -/

/-- Settles O56. The model's own choices in it are those of the log's entries 67 (an image of a debug Sweep is held as the model's own structures), 84 (the effects
of a Brick or Room reset come at once, and the 64 cycles of R581 count in ET) and 93 (a trigger edge acts at once, and a gated multiplexer sees none). -/
theorem scopedResets : Obligations.ScopedResets := by
  unfold Obligations.ScopedResets
  refine fun s => ⟨?bricks, ?rooms, ?suites, ?debug, fun gated pin => trigInput_gated gated pin⟩
  case bricks => exact fun room b hb => ⟨goBrick_off hb, goBrick_absorbed, goBrick_resets hb⟩
  case rooms =>
    exact fun room => ⟨goRoom_absorbed, goRoom_off, goRoom_begins, fun i u idle on owned defined runs => goRoom_halts idle on owned defined runs, rstDrainTimeout_waits,
      rstDrainTimeout_holds, roomResetRelease_idle, fun b releases held => ⟨roomResetRelease_early releases, roomResetRelease_ends releases held⟩⟩
  case suites =>
    exact fun v i hi => ⟨suiteReset_unasked, suiteReset_unowned hi, fun u go defined => ⟨suiteReset_absorbed hi go defined, suiteReset_clears hi go defined⟩⟩
  case debug =>
    refine fun lit => ⟨fun bad => ⟨debugSweepOut_idle, fun r out rooms => ⟨debugSweepOut_fails lit out rooms, fun a good image => debugSweepOut_stores lit out rooms good image⟩⟩,
      fun bad crc => ⟨debugSweepIn_idle, fun r in_ rooms unarmed => ⟨debugSweepIn_unread lit in_ rooms unarmed, fun a good image =>
        ⟨debugSweepIn_differs lit in_ rooms unarmed good image, fun same => ⟨debugSweepIn_restores in_ rooms unarmed good image same, fun q img => State.dbgImgAt_kept,
          State.dbgImgAt_bytes⟩⟩⟩⟩, ?pins⟩
    refine fun pin w low hw => ⟨trigInput_unheard lit low hw, fun open_ enabled g hg => ?_⟩
    subst hg
    exact ⟨State.raise_sets _ _ (dbg_ungated lit) (by decide), trigInput_unowned lit low hw open_ enabled, fun u defined => ⟨trigInput_still lit low hw open_ enabled defined,
      fun runs => ⟨trigInput_stalls lit low hw open_ enabled defined runs, trigInput_halts lit low hw open_ enabled defined runs⟩⟩⟩

end Sys2Proof.Machine

/-! ## Bring-up, House resets and the Survey (O53) -/

namespace Sys2Proof.Machine

-- One proof at a time: the check's memory limit counts the stack of every thread that waits for an earlier proof.
set_option Elab.async false

/-! ### SRVG_STATUS (R576) -/

section
variable {s t : State}

/-- A register of another page than SRVG leaves the state and the step of bring-up. -/
theorem State.status_of (h : t.rd srvg 0x080 = s.rd srvg 0x080) : t.srvState = s.srvState ∧ t.bringStep = s.bringStep := by
  rw [State.srvState, State.srvState, State.bringStep, State.bringStep, State.rdF, State.rdF, State.rdF, State.rdF, h]
  exact ⟨rfl, rfl⟩

theorem State.setStep_status (s : State) {n : Nat} (hn : n < 16) : (s.setStep n).bringStep = n ∧ (s.setStep n).srvState = if n ≤ 3 then 1 else 2 := by
  have state : (if n ≤ 3 then 1 else 2) < 2 ^ (62 + 1 - 60) := by split <;> decide
  have shown : (s.setStep n).rd srvg 0x080 = setFld (setFld (s.rd srvg 0x080) 59 56 n) 62 60 (if n ≤ 3 then 1 else 2) := by
    rw [State.setStep, State.wrF, State.rd_wr_self, State.wrF, State.rd_wr_self]
  refine ⟨?_, ?_⟩
  · rw [State.bringStep, State.rdF, shown, fld_setFld_ne _ (by decide) (by decide), fld_setFld _ (by decide) hn]
  · rw [State.srvState, State.rdF, shown, fld_setFld _ (by decide) state]

theorem State.setStep_mem (s : State) (n : Nat) : (s.setStep n).mem = s.mem := rfl

theorem State.setStep_rd (s : State) (n : Nat) {q : PageRef} {o : Nat} (h : regKey q o ≠ regKey srvg 0x080) : (s.setStep n).rd q o = s.rd q o := by
  rw [State.setStep, State.wrF, State.rd_wr_key _ _ h, State.wrF, State.rd_wr_key _ _ h]

theorem State.bringFail_tells (s : State) {cause : Nat} (hc : cause < 256) : (s.bringFail cause).srvState = 4 ∧ (s.bringFail cause).rdF srvg 0x080 39 32 = cause
    ∧ (s.bringFail cause).bringStep = s.bringStep ∧ tst ((s.bringFail cause).rd srvg 0x028) 1 = true ∧ (s.bringFail cause).mem = s.mem := by
  have shown : (s.bringFail cause).rd srvg 0x080 = setFld (setFld (s.rd srvg 0x080) 62 60 4) 39 32 cause := by
    rw [State.bringFail, State.srvgEvent, State.raise_rd_off _ _ (by decide) (by decide), State.capture_rd_off _ _ (by decide), State.wrF, State.rd_wr_self,
      State.wrF, State.rd_wr_self]
  refine ⟨?_, ?_, ?_, State.raise_sets _ _ rfl (by decide), ?_⟩
  · rw [State.srvState, State.rdF, shown, fld_setFld_ne _ (by decide) (by decide), fld_setFld _ (by decide) (by decide)]
  · rw [State.rdF, shown, fld_setFld _ (by decide) hc]
  · rw [State.bringStep, State.rdF, shown, fld_setFld_ne _ (by decide) (by decide), fld_setFld_ne _ (by decide) (by decide), State.bringStep, State.rdF]
  · rw [State.bringFail, State.srvgEvent, State.raise_mem, State.capture_mem, State.wrF_mem, State.wrF_mem]

end

/-! ### Power-on and the steps (R550 to R552) -/

section
variable {s : State}

theorem powerOn_ignored (h : s.srvState ≠ 0 ∨ s.bringStep ≠ 0 ∨ s.rim.pinLow = true) : exec .powerOn s = .next s := if_pos h

/-- The module under power, its time at zero. -/
def State.poweredUp (s : State) : State := { s with et := 0, etPhase := 0, rim := { s.rim with powered := true, flash := { s.rim.flash with lastRst := 0 } } }

theorem State.poweredUp_keeps (s : State) : s.poweredUp.et = 0 ∧ s.poweredUp.rim.powered = true ∧ s.poweredUp.mem = s.mem := ⟨rfl, rfl, rfl⟩

theorem powerOn_begins (dark : s.srvState = 0) (idle : s.bringStep = 0) (high : s.rim.pinLow = false) : Completes .powerOn s fun t =>
    t.bringStep = 1 ∧ t.srvState = 1 ∧ t.et = 0 ∧ t.rim.powered = true ∧ t.mem = s.mem := by
  have answers : exec .powerOn s = .next ((s.poweredUp.wr (gp .rstg) 0x0A0 0).setStep 1) := by
    refine if_neg ?_
    rw [dark, idle, high]
    decide
  obtain ⟨step, state⟩ := (s.poweredUp.wr (gp .rstg) 0x0A0 0).setStep_status (n := 1) (by decide)
  obtain ⟨et, powered, mem⟩ := s.poweredUp_keeps
  exact ⟨_, answers, step, state, et, powered, mem⟩

theorem bringupTimeout_waits (h : s.bringing = false ∨ s.et ≤ msToEt (stepLimit s.bringStep)) : exec .bringupTimeout s = .next s :=
  congrArg Host.Outcome.next (if_neg fun late => h.elim (fun h => by rw [h] at late; exact Bool.false_ne_true late.1) fun h => Nat.not_lt.mpr h late.2)

theorem bringupTimeout_fails (brings : s.bringing = true) (late : msToEt (stepLimit s.bringStep) < s.et) : exec .bringupTimeout s = .next (s.bringFail 1) :=
  congrArg Host.Outcome.next (if_pos ⟨brings, late⟩)

variable {ok : Bool} {ns : List Nat} {ws : List W64}

theorem bringupStep_idle (idle : s.bringing = false) : exec (.bringupStep ok ns ws) s = .next s := if_pos (by rw [idle]; rfl)

variable (brings : s.bringing = true)
include brings

theorem bringupStep_late (late : msToEt (stepLimit s.bringStep) < s.et) : exec (.bringupStep ok ns ws) s = .next (s.bringFail 1) :=
  (if_neg (by rw [brings]; decide)).trans (if_pos late)

variable (inTime : s.et ≤ msToEt (stepLimit s.bringStep))
include inTime

theorem bringupStep_inTime : exec (.bringupStep ok ns ws) s = if s.bringStep = 5 ∧ s.rim.jtag.drive ≠ 0 then .next s
    else if !ok then .next (s.bringFail 3)
    else match s.bringWork ns ws with
      | none => .next s
      | some t => .next (if t.bringing then t.setStep (t.bringStep + 1) else t) :=
  (if_neg (by rw [brings]; decide)).trans (if_neg (Nat.not_lt.mpr inTime))

theorem bringupStep_driven (five : s.bringStep = 5) (drives : s.rim.jtag.drive ≠ 0) : exec (.bringupStep ok ns ws) s = .next s :=
  (bringupStep_inTime brings inTime).trans (if_pos ⟨five, drives⟩)

theorem bringupStep_broken (other : s.bringStep ≠ 5) (broken : ok = false) : exec (.bringupStep ok ns ws) s = .next (s.bringFail 3) :=
  (bringupStep_inTime brings inTime).trans ((if_neg fun h => other h.1).trans (if_pos (by rw [broken]; rfl)))

variable (good : ok = true)
include good

theorem bringupStep_works {t : State} (free : s.bringStep = 5 → s.rim.jtag.drive = 0) (works : s.bringWork ns ws = some t) :
    exec (.bringupStep ok ns ws) s = .next (if t.bringing then t.setStep (t.bringStep + 1) else t) := by
  refine (bringupStep_inTime brings inTime).trans ((if_neg fun h => h.2 (free h.1)).trans ((if_neg (by rw [good]; decide)).trans ?_))
  rw [works]

/-- A step that goes on to the next. -/
theorem bringupStep_goes {t : State} {n : Nat} (step : s.bringStep = n) (other : n ≠ 5) (works : s.bringWork ns ws = some t) (same : t.rd srvg 0x080 = s.rd srvg 0x080) :
    exec (.bringupStep ok ns ws) s = .next (t.setStep (n + 1)) := by
  obtain ⟨state, steps⟩ := State.status_of same
  have goes : t.bringing = true := by
    rw [State.bringing, state]
    exact brings
  rw [bringupStep_works brings inTime good (fun five => absurd (step.symm.trans five) other) works, if_pos goes, steps, step]

/-- A step that ends bring-up. -/
theorem bringupStep_ends {t : State} {n : Nat} (step : s.bringStep = n) (other : n ≠ 5) (works : s.bringWork ns ws = some t) (ended : t.bringing = false) :
    exec (.bringupStep ok ns ws) s = .next t := by
  rw [bringupStep_works brings inTime good (fun five => absurd (step.symm.trans five) other) works, if_neg (by rw [ended]; decide)]

omit brings inTime good in
theorem State.bringing_of {t : State} {n : Nat} (h : t.srvState = n) (h1 : n ≠ 1) (h2 : n ≠ 2) : t.bringing = false := by
  rw [State.bringing, h, decide_eq_false h1, decide_eq_false h2]
  rfl

theorem bringupStep_one (step : s.bringStep = 1) : exec (.bringupStep ok ns ws) s = .next (s.setStep 2) :=
  bringupStep_goes brings inTime good step (by decide) (by simp only [State.bringWork, step]) rfl

theorem bringupStep_noRef (step : s.bringStep = 2) (none : ns.getD 0 0 % 4 = 0) : Completes (.bringupStep ok ns ws) s fun t => t.srvState = 4 ∧ t.rdF srvg 0x080 39 32 = 4 := by
  obtain ⟨state, cause, -⟩ := s.bringFail_tells (cause := 4) (by decide)
  have works : s.bringWork ns ws = some (s.bringFail 4) := by simp only [State.bringWork, step, State.bring2, none, if_true]
  exact ⟨_, bringupStep_ends brings inTime good step (by decide) works (State.bringing_of state (by decide) (by decide)), state, cause⟩

theorem bringupStep_refs (step : s.bringStep = 2) (some_ : ns.getD 0 0 % 4 ≠ 0) : Completes (.bringupStep ok ns ws) s fun t =>
    t.bringStep = 3 ∧ fld (t.rd clkg 0x080) 1 0 = ns.getD 0 0 % 4 ∧ t.mem = s.mem := by
  have works : ∃ v, s.bringWork ns ws = some (s.wr clkg 0x080 v) ∧ fld v 1 0 = ns.getD 0 0 % 4 := by
    have form : s.bringWork ns ws = some (s.bring2 (ns.getD 0 0)) := by simp only [State.bringWork, step]
    refine ⟨_, form.trans (congrArg some (if_neg some_)), ?_⟩
    rw [fld_setFld_ne _ (by decide) (by decide), fld_setFld_mod _ _ (by decide)]
    rfl
  obtain ⟨v, works, refs⟩ := works
  have apart : regKey clkg 0x080 ≠ regKey srvg 0x080 := regKey_inst (by decide) (by decide) (by decide)
  refine ⟨_, bringupStep_goes brings inTime good step (by decide) works (s.rd_wr_key _ apart.symm), (State.setStep_status _ (by decide)).1, ?_, rfl⟩
  rw [State.setStep_rd _ _ apart, State.rd_wr_self, refs]

theorem bringupStep_recovery (step : s.bringStep = 3) (a : ns.getD 0 0 = 0) (b : ns.getD 1 0 = 0) : Completes (.bringupStep ok ns ws) s fun t =>
    t.srvState = 5 ∧ t.bringStep = 3 ∧ t.mem = s.mem := by
  have works : s.bringWork ns ws = some (s.wrF srvg 0x080 62 60 5) := by
    have form : s.bringWork ns ws = some (s.bring3 (decide (ns.getD 0 0 ≠ 0)) (decide (ns.getD 1 0 ≠ 0))) := by simp only [State.bringWork, step]
    rw [form, a, b]
    rfl
  have state : (s.wrF srvg 0x080 62 60 5).srvState = 5 := State.rdF_wrF_self _ _ _ (by decide) (by decide)
  refine ⟨_, bringupStep_ends brings inTime good step (by decide) works (State.bringing_of state (by decide) (by decide)), state, ?_, rfl⟩
  rw [State.bringStep, State.rdF, State.wrF, State.rd_wr_self, fld_setFld_ne _ (by decide) (by decide)]
  exact step

omit brings inTime good in
theorem State.bring12_keeps (s : State) : s.bring12.rd srvg 0x080 = s.rd srvg 0x080 ∧ s.bring12.mem = s.mem ∧ s.bring12.rim = s.rim :=
  foldl_keeps (fun t : State => t.rd srvg 0x080 = s.rd srvg 0x080 ∧ t.mem = s.mem ∧ t.rim = s.rim) _ (fun t k hk ⟨rd, mem, rim⟩ => by
    have low := List.mem_range.mp hk
    refine ⟨?_, mem, rim⟩
    rw [State.rd_wr_key _ _ (regKey_offs (by decide) (by omega) (by omega))]
    exact rd) ⟨rfl, rfl, rfl⟩

omit brings inTime good in
/-- One MAC address loaded. -/
def State.loadMac (s : State) (k : Nat) : State := s.wr ⟨.eav, k / 2⟩ (0x090 + 8 * (k % 2)) (smGet 0 s.rim.flash.macs k &&& maskOf 47 0)

omit brings inTime good in
/-- Each port shows the address that module flash holds for it. -/
theorem State.bring12_macs (s : State) {k : Nat} (hk : k < 64) : s.bring12.rd ⟨.eav, k / 2⟩ (0x090 + 8 * (k % 2)) = smGet 0 s.rim.flash.macs k &&& maskOf 47 0 := by
  have form : s.bring12 = (List.range 64).foldl State.loadMac s := rfl
  rw [form]
  refine foldl_reaches_of (fun t : State => t.rim = s.rim) (fun t : State => t.rd ⟨.eav, k / 2⟩ (0x090 + 8 * (k % 2)) = smGet 0 s.rim.flash.macs k &&& maskOf 47 0)
    State.loadMac (List.mem_range.mpr hk) (fun t rim => ?_) (fun t j hj rim held => ?_) (fun t j _ rim => rim) rfl
  · rw [State.loadMac, State.rd_wr_self, rim]
  · by_cases same : k = j
    · rw [State.loadMac, ← same, State.rd_wr_self, rim]
    · have low := List.mem_range.mp hj
      have apart : regKey ⟨.eav, k / 2⟩ (0x090 + 8 * (k % 2)) ≠ regKey ⟨.eav, j / 2⟩ (0x090 + 8 * (j % 2)) := by
        unfold regKey
        dsimp only
        omega
      rw [State.loadMac, State.rd_wr_key _ _ apart, held]

omit brings inTime good in
theorem srvg_apart_eav {k o a : Nat} (hk : k < 64) (ho : o < 4096) (ha : a < 4096) : regKey ⟨.eav, k⟩ o ≠ regKey srvg a :=
  regKey_page (p := ⟨.eav, k⟩) (q := srvg) (show k < 2 ^ 20 by omega) (by decide) ho ha fun same => by cases congrArg PageRef.page same

theorem bringupStep_macs (step : s.bringStep = 12) : Completes (.bringupStep ok ns ws) s fun t => t.bringStep = 13 ∧ t.mem = s.mem
    ∧ ∀ k, k < 64 → t.rd ⟨.eav, k / 2⟩ (0x090 + 8 * (k % 2)) = smGet 0 s.rim.flash.macs k &&& maskOf 47 0 := by
  obtain ⟨same, mem, -⟩ := s.bring12_keeps
  refine ⟨_, bringupStep_goes brings inTime good step (by decide) (by simp only [State.bringWork, step]) same, (State.setStep_status _ (by decide)).1, (State.setStep_mem ..).trans mem, fun k hk => ?_⟩
  rw [State.setStep_rd _ _ (srvg_apart_eav (by omega) (by omega) (by decide)), s.bring12_macs hk]

omit brings inTime good in
theorem State.bring13_tells (s : State) : s.bring13.srvState = 3 ∧ tst (s.bring13.rd srvg 0x080) 63 = true ∧ tst (s.bring13.rd srvg 0x028) 0 = true ∧ s.bring13.mem = s.mem := by
  have told (t : State) (v : W64) : let r := (((t.wrF srvg 0x080 62 60 3).wrF srvg 0x080 63 63 1).wr srvg 0x0B8 v).srvgEvent 0 0x10 0 0 false
      r.srvState = 3 ∧ tst (r.rd srvg 0x080) 63 = true ∧ tst (r.rd srvg 0x028) 0 = true ∧ r.mem = t.mem := by
    have shown : ((((t.wrF srvg 0x080 62 60 3).wrF srvg 0x080 63 63 1).wr srvg 0x0B8 v).srvgEvent 0 0x10 0 0 false).rd srvg 0x080
        = setFld (setFld (t.rd srvg 0x080) 62 60 3) 63 63 1 := by
      rw [State.srvgEvent, State.raise_rd_off _ _ (by decide) (by decide), State.capture_rd_off _ _ (by decide), State.rd_wr_off _ _ (by decide), State.wrF, State.rd_wr_self,
        State.wrF, State.rd_wr_self]
    refine ⟨?_, ?_, State.raise_sets _ _ rfl (by decide), ?_⟩
    · rw [State.srvState, State.rdF, shown, fld_setFld_ne _ (by decide) (by decide), fld_setFld _ (by decide) (by decide)]
    · rw [shown, tst_fld, fld_setFld _ (by decide) (by decide)]
      rfl
    · rw [State.srvgEvent, State.raise_mem, State.capture_mem, State.wr_mem, State.wrF_mem, State.wrF_mem]
  unfold State.bring13
  dsimp only
  split
  · exact told (s.survTouch true) _
  · exact told s _

theorem bringupStep_ready (step : s.bringStep = 13) : Completes (.bringupStep ok ns ws) s fun t => t.srvState = 3 ∧ tst (t.rd srvg 0x080) 63 = true
    ∧ tst (t.rd srvg 0x028) 0 = true ∧ t.mem = s.mem := by
  obtain ⟨state, rest⟩ := s.bring13_tells
  exact ⟨_, bringupStep_ends brings inTime good step (by decide) (by simp only [State.bringWork, step]) (State.bringing_of state (by decide) (by decide)), state, rest⟩

end

/-! ### House resets (R588, R592, R601) -/

section
variable {s : State} {src : Nat}

theorem State.houseReset_dark (dark : s.rim.powered = false) : s.houseReset src = s := if_pos (by rw [dark]; rfl)

/-- The flash of the module, its source of the last House reset named, and the debug port as it was. -/
def State.sourced (s : State) (src : Nat) (jtag : Jtag) : State := { s with rim := { s.rim with flash := { s.rim.flash with lastRst := src }, jtag } }

/-- What a House reset keeps of the function's configuration. -/
def State.configured (s t : State) (src : Nat) : State :=
  if src = 4 then t else { t.wr (gp .pch) 0x0A8 (s.rd (gp .pch) 0x0A8) with rim := { t.rim with bme := s.rim.bme, msixTab := s.rim.msixTab, pba := s.rim.pba } }

/-- The module before bring-up starts again. -/
def State.housed (s : State) (src : Nat) : State := s.configured ((s.coldModule.sourced src s.rim.jtag).wr (gp .rstg) 0x0A0 (BitVec.ofNat 64 src)) src

/-- RESET# held low. -/
def State.lowered (s : State) : State := { s with rim := { s.rim with pinLow := true } }

theorem State.houseReset_form (lit : s.rim.powered = true) : s.houseReset src = if s.rim.pinLow then (s.housed src).lowered else (s.housed src).setStep 2 :=
  if_neg (by rw [lit]; decide)

/-- What a House reset leaves. -/
structure State.Housed (s : State) (src : Nat) (t : State) : Prop where
  mem : t.mem = []
  bricks : t.bricks = []
  rooms : t.rooms = []
  suites : t.suites = []
  pkts : t.pkts = []
  et : t.et = 0
  pending : t.pending = s.pending
  source : t.rd (gp .rstg) 0x0A0 = BitVec.ofNat 64 src
  survA : t.rim.flash.survA = s.rim.flash.survA
  survB : t.rim.flash.survB = s.rim.flash.survB
  lastRst : t.rim.flash.lastRst = src
  jtag : t.rim.jtag = s.rim.jtag

theorem State.housed_keeps (s : State) (src : Nat) : State.Housed s src (s.housed src) ∧ (s.housed src).rd srvg 0x080 = 0 := by
  have cold : State.Housed s src ((s.coldModule.sourced src s.rim.jtag).wr (gp .rstg) 0x0A0 (BitVec.ofNat 64 src))
      ∧ ((s.coldModule.sourced src s.rim.jtag).wr (gp .rstg) 0x0A0 (BitVec.ofNat 64 src)).rd srvg 0x080 = 0 := by
    refine ⟨⟨rfl, rfl, rfl, rfl, rfl, rfl, rfl, State.rd_wr_self .., rfl, rfl, rfl, rfl⟩, ?_⟩
    rw [State.rd_wr_key _ _ regKey_offs]
    rfl
  unfold State.housed State.configured
  split
  · exact cold
  · obtain ⟨⟨mem, bricks, rooms, suites, pkts, et, pending, source, survA, survB, lastRst, jtag⟩, status⟩ := cold
    refine ⟨⟨mem, bricks, rooms, suites, pkts, et, pending, ?_, survA, survB, lastRst, jtag⟩, ?_⟩
    · exact (State.rd_wr_key _ _ regKey_offs).trans source
    · exact (State.rd_wr_key _ _ regKey_offs).trans status

theorem State.houseReset_tells (lit : s.rim.powered = true) : State.Housed s src (s.houseReset src)
    ∧ (s.rim.pinLow = false → (s.houseReset src).bringStep = 2 ∧ (s.houseReset src).srvState = 1)
    ∧ (s.rim.pinLow = true → (s.houseReset src).bringStep = 0 ∧ (s.houseReset src).srvState = 0) := by
  obtain ⟨⟨mem, bricks, rooms, suites, pkts, et, pending, source, survA, survB, lastRst, jtag⟩, status⟩ := s.housed_keeps src
  rw [State.houseReset_form lit]
  cases pin : s.rim.pinLow with
  | true =>
    rw [if_pos rfl]
    refine ⟨⟨mem, bricks, rooms, suites, pkts, et, pending, source, survA, survB, lastRst, jtag⟩, (fun h => by cases h), fun _ => ?_⟩
    have shown : (s.housed src).lowered.rd srvg 0x080 = 0 := status
    rw [State.bringStep, State.srvState, State.rdF, State.rdF, shown]
    exact ⟨rfl, rfl⟩
  | false =>
    rw [if_neg (by decide)]
    refine ⟨⟨mem, bricks, rooms, suites, pkts, et, pending, ?_, survA, survB, lastRst, jtag⟩, fun _ => (s.housed src).setStep_status (by decide), (fun h => by cases h)⟩
    exact (State.setStep_rd _ _ regKey_offs).trans source

theorem houseReset_unkeyed {v : W64} (wrong : fld v 15 0 ≠ 0x4853) : TurnedAway (.houseReset v) s (gp .rstg) 1 := turned_capture (if_pos wrong) (fun _ => rfl) (by decide)

theorem houseReset_answers {v : W64} (key : fld v 15 0 = 0x4853) : exec (.houseReset v) s = .next ((if s.rim.survNew.isSome then s.surveyCommit else s).houseReset 1) :=
  if_neg (not_not.mpr key)

theorem houseReset_keyed {v : W64} (key : fld v 15 0 = 0x4853) (clean : s.rim.survNew = none) : exec (.houseReset v) s = .next (s.houseReset 1) := by
  rw [houseReset_answers key, clean]
  rfl

theorem houseReset_commits {v : W64} (key : fld v 15 0 = 0x4853) (changed : s.rim.survNew ≠ none) : exec (.houseReset v) s = .next (s.surveyCommit.houseReset 1) := by
  rw [houseReset_answers key, if_pos (Option.isSome_iff_ne_none.mpr changed)]

theorem resetPin_held (low : s.rim.pinLow = true) : exec .resetPin s = .next s := if_pos low

theorem resetPin_falls (high : s.rim.pinLow = false) : exec .resetPin s = .next (State.houseReset { s with rim := { s.rim with pinLow := true } } 2) :=
  if_neg (by rw [high]; decide)

theorem resetPinRise_idle (high : s.rim.pinLow = false) : exec .resetPinRise s = .next s := if_pos (by rw [high]; rfl)

/-- RESET# high again, and time from there. -/
def State.raised (s : State) : State := { s with et := 0, etPhase := 0, rim := { s.rim with pinLow := false } }

theorem resetPinRise_starts (low : s.rim.pinLow = true) : Completes .resetPinRise s fun t => t.rim.pinLow = false ∧ t.bringStep = 2 ∧ t.et = 0 ∧ t.mem = s.mem := by
  have answers : exec .resetPinRise s = .next (s.raised.setStep 2) := if_neg (by rw [low]; decide)
  exact ⟨_, answers, rfl, (s.raised.setStep_status (by decide)).1, rfl, rfl⟩

end

/-! ### The Survey (R558, R576) -/

section
variable {s : State} {phys : Nat}

theorem turned_srvRefused {c : Instr} {detail target : Nat} (h : exec c s = .next (s.srvRefused detail target)) : TurnedAway c s srvg 8 :=
  turned_capture h (fun _ => rfl) (by decide)

theorem markBad_beyond (high : 20736 ≤ phys) : TurnedAway (.markBad phys) s srvg 8 := turned_srvRefused (congrArg Host.Outcome.next (if_pos high))

variable (low : phys < 20736)
include low

theorem markBad_waits (mapped : s.mapped phys = true) : Completes (.markBad phys) s fun t =>
    phys ∈ t.rim.badPend ∧ (∀ q, q ∈ s.rim.badPend → q ∈ t.rim.badPend) ∧ t.regs = s.regs ∧ t.mem = s.mem := by
  have answers : exec (.markBad phys) s
      = .next (if s.rim.badPend.contains phys then s else { s with rim := { s.rim with badPend := s.rim.badPend ++ [phys] } }) :=
    congrArg Host.Outcome.next ((if_neg (Nat.not_le.mpr low)).trans (if_pos mapped))
  by_cases already : s.rim.badPend.contains phys = true
  · exact ⟨_, answers.trans (congrArg _ (if_pos already)), List.contains_iff_mem.mp already, fun _ => id, rfl, rfl⟩
  · exact ⟨_, answers.trans (congrArg _ (if_neg already)), List.mem_append_right _ List.mem_cons_self, fun _ => List.mem_append_left _, rfl, rfl⟩

theorem markBad_answers (spare : s.mapped phys = false) : exec (.markBad phys) s = .next (s.roomBad phys) :=
  congrArg Host.Outcome.next ((if_neg (Nat.not_le.mpr low)).trans (if_neg (by rw [spare]; decide)))

theorem markBad_again (spare : s.mapped phys = false) (bad : s.isBad phys = true) : exec (.markBad phys) s = .next s := by
  rw [markBad_answers low spare, State.roomBad, if_pos bad]

omit low in
theorem State.roomBad_tells (good : s.isBad phys = false) : tst ((s.roomBad phys).rd cvug 0x028) 5 = true ∧ (s.roomBad phys).rim.survNew ≠ none := by
  rw [State.roomBad, good, if_neg (by decide)]
  dsimp only
  refine ⟨?_, Option.some_ne_none _⟩
  rw [State.survTouch_rd]
  exact State.raise_sets _ _ rfl (by decide)

theorem markBad_marks (spare : s.mapped phys = false) (good : s.isBad phys = false) : Completes (.markBad phys) s fun t =>
    t.isBad phys = true ∧ tst (t.rd cvug 0x028) 5 = true ∧ t.rim.survNew ≠ none ∧ t.mem = s.mem := by
  obtain ⟨event, commits⟩ := State.roomBad_tells good
  exact ⟨_, markBad_answers low spare, s.roomBad_isBad phys, event, commits, s.roomBad_mem phys⟩

omit low

theorem surveyCommit_clean (clean : s.rim.survNew = none) : exec .surveyCommit s = .next s := by
  change execSurveyCommit s = _
  rw [execSurveyCommit, clean]

theorem surveyCommit_early {b : Nat} (changed : s.rim.survNew = some b) (early : s.et < b) : exec .surveyCommit s = .next s := by
  change execSurveyCommit s = _
  rw [execSurveyCommit, changed]
  exact congrArg _ (if_neg (Nat.not_le.mpr early))

/-- The copy that a commit writes. -/
def State.nextCopy (s : State) : SurveyCopy :=
  { gen := 1 + (match (if s.commitToB then s.rim.flash.survA else s.rim.flash.survB) with | some c => c.gen | none => 0)
    origin := if fld (s.rd (gp .srvg) 0x080) 49 48 = 2 then 2 else 1
    key := 1, phours := s.phours, init := s.rim.survInit, weights := s.rim.weights, recs := s.rim.surv
    wings := s.regs.filter fun e => survKey e.1, masks := s.remap, lists := s.rim.cellRemap }

theorem State.surveyCommit_tells (s : State) : s.surveyCommit.rim.survNew = none ∧ s.surveyCommit.mem = s.mem
    ∧ (∃ c, (if s.commitToB then s.surveyCommit.rim.flash.survB else s.surveyCommit.rim.flash.survA) = some c ∧ c.recs = s.rim.surv ∧ c.weights = s.rim.weights
      ∧ c.masks = s.remap ∧ s.surveyCommit.rim.flash.scnt = c.gen)
    ∧ (if s.commitToB then s.surveyCommit.rim.flash.survA = s.rim.flash.survA else s.surveyCommit.rim.flash.survB = s.rim.flash.survB) := by
  have flash : s.surveyCommit.rim.flash = if s.commitToB then { s.rim.flash with survB := some s.nextCopy, scnt := s.nextCopy.gen }
      else { s.rim.flash with survA := some s.nextCopy, scnt := s.nextCopy.gen } := rfl
  refine ⟨rfl, rfl, ⟨s.nextCopy, ?_, rfl, rfl, rfl, ?_⟩, ?_⟩
  all_goals
    rw [flash]
    cases s.commitToB <;> rfl

theorem surveyCommit_due {b : Nat} (changed : s.rim.survNew = some b) (due : b ≤ s.et) : Completes .surveyCommit s fun t => t.rim.survNew = none ∧ t.mem = s.mem
    ∧ (∃ c, (if s.commitToB then t.rim.flash.survB else t.rim.flash.survA) = some c ∧ c.recs = s.rim.surv ∧ c.weights = s.rim.weights ∧ c.masks = s.remap
      ∧ t.rim.flash.scnt = c.gen)
    ∧ (if s.commitToB then t.rim.flash.survA = s.rim.flash.survA else t.rim.flash.survB = s.rim.flash.survB) := by
  have answers : exec .surveyCommit s = .next s.surveyCommit := by
    change execSurveyCommit s = _
    rw [execSurveyCommit, changed]
    exact congrArg _ (if_pos due)
  exact ⟨_, answers, s.surveyCommit_tells⟩

theorem commit_due (s : State) : Completes .commit s fun t => (∃ b, t.rim.survNew = some b ∧ b ≤ s.et) ∧ t.regs = s.regs ∧ t.mem = s.mem := by
  refine ⟨s.survTouch true, rfl, ?_, rfl, rfl⟩
  cases changed : s.rim.survNew with
  | none => exact ⟨s.et, by simp [State.survTouch, changed], Nat.le_refl _⟩
  | some b => exact ⟨min b s.et, by simp [State.survTouch, changed], Nat.min_le_right ..⟩

end

/-! ### Seams (R570, R571) -/

/-- A clear bit as a field. -/
theorem fld_of_tst {x : W64} {i : Nat} (clear : tst x i = false) : fld x i i = 0 := by
  rw [tst_fld] at clear
  have narrow := fld_lt x i i
  rw [Nat.add_sub_cancel_left] at narrow
  have unset := of_decide_eq_false clear
  omega

section
variable {s : State} {w d : Nat} (hw : w < 64) (hd : d < 4)
include hw hd

theorem retrainSeam_answers : exec (.retrainSeam w d) s
    = .next (if wingBeside w d = none ∨ s.seamRetraining w d ∨ s.seamRuns w d then s.srvRefused d w else s.startSeam w d) := by
  change execRetrainSeam w d s = _
  rw [execRetrainSeam, Nat.mod_eq_of_lt hw, Nat.mod_eq_of_lt hd]

theorem retrainSeam_refused (h : wingBeside w d = none ∨ s.seamRetraining w d = true ∨ s.seamRuns w d = true) : TurnedAway (.retrainSeam w d) s srvg 8 :=
  turned_srvRefused ((retrainSeam_answers hw hd).trans (congrArg _ (if_pos h)))

omit hw in
theorem halwSeam_lt : halwSeam d < 4096 := by unfold halwSeam; omega

variable {v : Nat} (beside : wingBeside w d = some v)
include beside

omit hw in
theorem wingBeside_ne : v ≠ w := by
  unfold wingBeside at beside
  split at beside <;> split at beside <;> cases beside <;> omega

/-- What both sides of a seam hold once it is changed. -/
theorem State.modSeam_shows (s : State) (f : W64 → W64) : (s.modSeam w d f).rd (halw w) (halwSeam d) = f (s.rd (halw w) (halwSeam d))
    ∧ (s.modSeam w d f).rd (halw v) (halwSeam ((d + 2) % 4)) = f (s.rd (halw v) (halwSeam ((d + 2) % 4))) ∧ (s.modSeam w d f).rim = s.rim := by
  have hv := wingBeside_lt hw beside
  have ne := wingBeside_ne hd beside
  have apart {o a : Nat} (ho : o < 4096) (ha : a < 4096) : regKey (halw w) o ≠ regKey (halw v) a :=
    regKey_insts (pg := .halw) (Ne.symm ne) ho ha
  have low : halwSeam ((d + 2) % 4) < 4096 := by unfold halwSeam; omega
  unfold State.modSeam
  rw [beside]
  dsimp only
  refine ⟨?_, ?_, rfl⟩
  · rw [State.rd_wr_key _ _ (apart (halwSeam_lt hd) low), State.rd_wr_self]
  · rw [State.rd_wr_self, State.rd_wr_key _ _ (apart (halwSeam_lt hd) low).symm]

omit hw hd beside in
theorem State.modSeam_keeps (s : State) (f : W64 → W64) : (s.modSeam w d f).mem = s.mem ∧ (s.modSeam w d f).rim = s.rim := by
  unfold State.modSeam
  split <;> exact ⟨rfl, rfl⟩

omit hw hd beside in
theorem State.wingHist_seam (s : State) {x y lo o : Nat} (hx : x < 64) (hy : y < 64) (ho : o < 4096) : (s.wingHist x lo).rd (halw y) o = s.rd (halw y) o := by
  have apart : regKey (halw y) o ≠ regKey (srvw x) 0x088 :=
    regKey_page (p := halw y) (q := srvw x) (show y < 2 ^ 20 by omega) (show x < 2 ^ 20 by omega) ho (by decide) fun same => by cases congrArg PageRef.page same
  rw [State.wingHist, State.survTouch_rd, State.bump, State.rd_wr_key _ _ apart]

/-- The histories of a seam's two Wings count its retraining. -/
def State.seamCounted (s : State) (w d v : Nat) : State :=
  let s := (s.wingHist w 0).wingHist v 0
  { s with rim := { s.rim with retrTry := smSet 0 s.rim.retrTry (seamKey w d) 0 } }

theorem retrainSeam_starts (idle : s.seamRetraining w d = false) (still : s.seamRuns w d = false) : Completes (.retrainSeam w d) s fun t =>
    t.seamRetraining w d = true ∧ t.rdF (halw w) (halwSeam d) 15 15 = 0 ∧ (∀ v, wingBeside w d = some v → t.seamRetraining v ((d + 2) % 4) = true) ∧ t.mem = s.mem := by
  have hv := wingBeside_lt hw beside
  have form : s.startSeam w d = (s.modSeam w d fun x => clrBit (setBit x 14) 15).seamCounted w d v := by
    unfold State.startSeam
    rw [beside]
    exact if_neg (by rw [idle]; decide)
  have answers : exec (.retrainSeam w d) s = .next (s.startSeam w d) := by
    refine (retrainSeam_answers hw hd).trans (congrArg _ (if_neg ?_))
    rw [idle, still]
    exact fun h => h.elim (fun h => by rw [beside] at h; cases h) fun h => h.elim Bool.false_ne_true Bool.false_ne_true
  have counted (t : State) {y o : Nat} (hy : y < 64) (ho : o < 4096) : (t.seamCounted w d v).rd (halw y) o = t.rd (halw y) o :=
    (State.wingHist_seam _ hv hy ho).trans (State.wingHist_seam _ hw hy ho)
  obtain ⟨here, there, -⟩ := State.modSeam_shows hw hd beside s fun x => clrBit (setBit x 14) 15
  have marked (x : W64) : tst (clrBit (setBit x 14) 15) 14 = true := by rw [tst_clrBit_ne _ (by decide), tst_setBit _ (by decide)]
  refine ⟨_, answers, ?_, ?_, fun u hu => ?_, ?_⟩
  · rw [form, State.seamRetraining, counted _ hw (halwSeam_lt hd), here, marked]
  · rw [form, State.rdF, counted _ hw (halwSeam_lt hd), here]
    exact fld_of_tst (tst_clrBit ..)
  · rw [beside] at hu
    cases hu
    rw [form, State.seamRetraining, counted _ hv (by unfold halwSeam; omega), there, marked]
  · have mem (t : State) : (t.seamCounted w d v).mem = t.mem := rfl
    rw [form, mem]
    exact (State.modSeam_keeps s _).1

omit beside in
theorem retrainAttemptEnd_seam (unarmed : s.isArmed srvg 7 = false) (good : Bool) : exec (.retrainAttemptEnd (0x1000 + 4 * w + d) good) s
    = if !s.seamRetraining w d then .next s
      else if good then .next (({ s with rim := { s.rim with retrTry := smSet 0 s.rim.retrTry (seamKey w d) 0 } } : State).modSeam w d
        fun x => setFld (bumpFld (setBit (clrBit x 14) 15) 31 16 1) 7 0 0x44)
      else .next (if (s.retrainFailed (seamKey w d) w false).2 then ((s.retrainFailed (seamKey w d) w false).1.modSeam w d fun x => clrBit x 14).askFence w 5
        else (s.retrainFailed (seamKey w d) w false).1) := by
  have wing : (0x1000 + 4 * w + d - 0x1000) / 4 % 64 = w := by omega
  have side : (0x1000 + 4 * w + d) % 4 = d := by omega
  change execRetrainAttemptEnd (0x1000 + 4 * w + d) good s = _
  rw [execRetrainAttemptEnd, if_neg (by omega), wing, side]
  dsimp only
  rw [show s.isArmed (gp .srvg) 7 = false from unarmed, if_neg Bool.false_ne_true, Bool.not_false, Bool.and_true]

section
variable (unarmed : s.isArmed srvg 7 = false)
include unarmed

omit beside in
theorem retrainAttemptEnd_seamIdle (idle : s.seamRetraining w d = false) (good : Bool) : exec (.retrainAttemptEnd (0x1000 + 4 * w + d) good) s = .next s :=
  (retrainAttemptEnd_seam hw hd unarmed good).trans (if_pos (by rw [idle]; rfl))

variable (retrains : s.seamRetraining w d = true)
include retrains

omit hw hd beside unarmed retrains in
/-- The attempts of a retraining counted. -/
def State.attempted (s : State) (key n : Nat) : State := { s with rim := { s.rim with retrTry := smSet 0 s.rim.retrTry key n } }

omit hw hd beside unarmed retrains in
theorem State.attempted_tries (s : State) (key n : Nat) : smGet 0 (s.attempted key n).rim.retrTry key = n := smGet_smSet_self 0 s.rim.retrTry key n

omit hw hd beside unarmed retrains in
/-- SRV_RETRAIN_FAIL with its capture. -/
def State.retrainGivenUp (s : State) (inst : Nat) : State := (s.capture (gp .srvg) 0x0A8 (put 63 56 0x17 ||| put 14 0 inst)).raise (gp .srvg) 7 false

omit hw hd beside unarmed retrains in
theorem State.retrainFailed_again (s : State) {key : Nat} (inst : Nat) (few : smGet 0 s.rim.retrTry key + 1 < 3) :
    s.retrainFailed key inst false = (s.attempted key (smGet 0 s.rim.retrTry key + 1), false) := by
  unfold State.retrainFailed
  dsimp only
  rw [if_pos few, if_pos few]
  rfl

omit hw hd beside unarmed retrains in
theorem State.retrainFailed_last (s : State) {key : Nat} (inst : Nat) (last : 3 ≤ smGet 0 s.rim.retrTry key + 1) :
    s.retrainFailed key inst false = ((s.attempted key 0).retrainGivenUp inst, true) := by
  unfold State.retrainFailed
  dsimp only
  rw [if_neg (Nat.not_lt.mpr last), if_neg (Nat.not_lt.mpr last)]
  rfl

omit hw hd beside unarmed retrains in
theorem State.retrainGivenUp_tells (s : State) (inst : Nat) : tst ((s.retrainGivenUp inst).rd srvg 0x028) 7 = true ∧ (s.retrainGivenUp inst).mem = s.mem
    ∧ (s.retrainGivenUp inst).rim = s.rim := by
  refine ⟨State.raise_sets _ _ rfl (by decide), ?_, ?_⟩
  · rw [State.retrainGivenUp, State.raise_mem, State.capture_mem]
  · rw [State.retrainGivenUp, State.raise_rim, State.capture_rim]

theorem retrainAttemptEnd_seamUp : Completes (.retrainAttemptEnd (0x1000 + 4 * w + d) true) s fun t =>
    t.seamRetraining w d = false ∧ t.rdF (halw w) (halwSeam d) 15 15 = 1 ∧ t.rdF (halw w) (halwSeam d) 7 0 = 0x44 ∧ t.mem = s.mem := by
  have answers : exec (.retrainAttemptEnd (0x1000 + 4 * w + d) true) s
      = .next ((s.attempted (seamKey w d) 0).modSeam w d fun x => setFld (bumpFld (setBit (clrBit x 14) 15) 31 16 1) 7 0 0x44) :=
    (retrainAttemptEnd_seam hw hd unarmed true).trans ((if_neg (by rw [retrains]; decide)).trans (if_pos rfl))
  obtain ⟨here, -, -⟩ := State.modSeam_shows hw hd beside (s.attempted (seamKey w d) 0) fun x => setFld (bumpFld (setBit (clrBit x 14) 15) 31 16 1) 7 0 0x44
  refine ⟨_, answers, ?_, ?_, ?_, (State.modSeam_keeps _ _).1⟩
  · rw [State.seamRetraining, here, tst_setFld_ne _ (by decide), bumpFld, tst_setFld_ne _ (by decide), tst_setBit_ne _ (by decide), tst_clrBit]
  · have up : tst (setFld (bumpFld (setBit (clrBit ((s.attempted (seamKey w d) 0).rd (halw w) (halwSeam d)) 14) 15) 31 16 1) 7 0 0x44) 15 = true := by
      rw [tst_setFld_ne _ (by decide), bumpFld, tst_setFld_ne _ (by decide), tst_setBit _ (by decide)]
    rw [State.rdF, here]
    exact of_decide_eq_true ((tst_fld _ _).symm.trans up)
  · rw [State.rdF, here, fld_setFld _ (by decide) (by decide)]

omit beside in
theorem retrainAttemptEnd_seamFails : exec (.retrainAttemptEnd (0x1000 + 4 * w + d) false) s
    = .next (if (s.retrainFailed (seamKey w d) w false).2 then ((s.retrainFailed (seamKey w d) w false).1.modSeam w d fun x => clrBit x 14).askFence w 5
      else (s.retrainFailed (seamKey w d) w false).1) :=
  (retrainAttemptEnd_seam hw hd unarmed false).trans ((if_neg (by rw [retrains]; decide)).trans (if_neg Bool.false_ne_true))

omit beside in
theorem retrainAttemptEnd_seamAgain (few : smGet 0 s.rim.retrTry (seamKey w d) + 1 < 3) : Completes (.retrainAttemptEnd (0x1000 + 4 * w + d) false) s fun t =>
    t.seamRetraining w d = true ∧ smGet 0 t.rim.retrTry (seamKey w d) = smGet 0 s.rim.retrTry (seamKey w d) + 1 ∧ t.regs = s.regs ∧ t.mem = s.mem := by
  have answers := retrainAttemptEnd_seamFails hw hd unarmed retrains
  rw [State.retrainFailed_again s w few] at answers
  exact ⟨_, answers, retrains, State.attempted_tries .., rfl, rfl⟩

theorem retrainAttemptEnd_seamOut (last : 3 ≤ smGet 0 s.rim.retrTry (seamKey w d) + 1) : Completes (.retrainAttemptEnd (0x1000 + 4 * w + d) false) s fun t =>
    t.seamRetraining w d = false ∧ tst (t.rd srvg 0x028) 7 = true ∧ smGet 0 t.rim.fenceAsk w ≠ 0 ∧ t.mem = s.mem := by
  have answers := retrainAttemptEnd_seamFails hw hd unarmed retrains
  rw [State.retrainFailed_last s w last] at answers
  obtain ⟨event, mem, -⟩ := (s.attempted (seamKey w d) 0).retrainGivenUp_tells w
  obtain ⟨here, -, -⟩ := State.modSeam_shows hw hd beside ((s.attempted (seamKey w d) 0).retrainGivenUp w) fun x => clrBit x 14
  have seams := State.Seaming.modSeam ((s.attempted (seamKey w d) 0).retrainGivenUp w) (fun x => clrBit x 14) hw hd
  refine ⟨_, answers, ?_, ?_, State.askFence_asks _ w (by decide), ?_⟩
  · rw [if_pos rfl, State.seamRetraining, State.askFence_rd, here, tst_clrBit]
  · rw [if_pos rfl, State.askFence_rd, seams.regs srvg _ (by decide) (by decide) (by decide) (by decide)]
    exact event
  · rw [if_pos rfl, State.askFence_mem, seams.mem, mem]
    rfl

end

end

/-! ### Cellar channels (R453, R570) -/

section
variable {s : State} {stack ch k : Nat} (hs : stack < 48) (hc : ch < 32) (hk : k = stack * 32 + ch)

section
include hc hk

theorem retrainChannel_answers : exec (.retrainChannel stack ch) s
    = .next (if !s.fitted stack ∨ s.rim.retrCh.contains k ∨ s.rim.outCh.contains k then s.srvRefused 0 (stack + 256 * ch) else s.startChannel stack ch) := by
  subst hk
  change execRetrainChannel stack ch s = _
  rw [execRetrainChannel, Nat.mod_eq_of_lt hc]

theorem retrainChannel_refused (h : s.fitted stack = false ∨ s.rim.retrCh.contains k = true ∨ s.rim.outCh.contains k = true) :
    TurnedAway (.retrainChannel stack ch) s srvg 8 :=
  turned_srvRefused ((retrainChannel_answers hc hk).trans (congrArg _ (if_pos (h.imp_left fun h => by rw [h]; rfl))))

theorem retrainChannel_starts (fitted : s.fitted stack = true) (idle : s.rim.retrCh.contains k = false) (kept : s.rim.outCh.contains k = false) :
    Completes (.retrainChannel stack ch) s fun t => t.rim.retrCh = s.rim.retrCh ++ [k] ∧ tst (t.rd (celPage stack) 0x080) ch = false
      ∧ tst (t.rd (celPage stack) 0x028) 2 = true ∧ t.mem = s.mem := by
  have answers : exec (.retrainChannel stack ch) s = .next (s.startChannel stack ch) := by
    refine (retrainChannel_answers hc hk).trans (congrArg _ (if_neg ?_))
    rw [fitted, idle, kept]
    decide
  have form : s.startChannel stack ch = { ((s.channelDown stack ch).raise (celPage stack) 2 false) with
      rim := { ((s.channelDown stack ch).raise (celPage stack) 2 false).rim with
        retrCh := ((s.channelDown stack ch).raise (celPage stack) 2 false).rim.retrCh ++ [k]
        retrTry := smSet 0 ((s.channelDown stack ch).raise (celPage stack) 2 false).rim.retrTry k 0 } } := by
    subst hk
    unfold State.startChannel
    exact if_neg (by rw [idle, kept]; decide)
  have rd (o : Nat) : (s.startChannel stack ch).rd (celPage stack) o = ((s.channelDown stack ch).raise (celPage stack) 2 false).rd (celPage stack) o := by
    rw [form]
    rfl
  refine ⟨_, answers, ?_, ?_, ?_, ?_⟩
  · rw [form]
    dsimp only
    rw [State.raise_rim]
    rfl
  · rw [rd, State.raise_rd_off _ _ (by decide) (by decide), State.channelDown, State.rd_wr_self, tst_clrBit]
  · rw [rd]
    exact State.raise_sets _ _ rfl (by decide)
  · rw [form]
    exact State.raise_mem ..

omit hk in
theorem channelOutOfService_answers (errs : Nat) : exec (.channelOutOfService stack ch errs) s = .next (if s.fitted stack ∧ 16 < errs then s.startChannel stack ch else s) := by
  change execChannelOutOfService stack ch errs s = _
  rw [execChannelOutOfService, Nat.mod_eq_of_lt hc]

omit hk in
theorem channelOutOfService_ignored {errs : Nat} (h : s.fitted stack = false ∨ errs ≤ 16) : exec (.channelOutOfService stack ch errs) s = .next s :=
  (channelOutOfService_answers hc errs).trans (congrArg _ (if_neg fun both =>
    h.elim (fun h => by rw [h] at both; exact Bool.false_ne_true both.1) fun h => Nat.not_lt.mpr h both.2))

omit hk in
theorem channelOutOfService_starts {errs : Nat} (fitted : s.fitted stack = true) (many : 16 < errs) : exec (.channelOutOfService stack ch errs) s = .next (s.startChannel stack ch) :=
  (channelOutOfService_answers hc errs).trans (congrArg _ (if_pos ⟨fitted, many⟩))

end

include hs hc hk

theorem retrainAttemptEnd_channelIdle (idle : s.rim.retrCh.contains k = false) (good : Bool) : exec (.retrainAttemptEnd k good) s = .next s :=
  (if_pos (by omega)).trans (if_pos (by rw [idle]; rfl))

variable (retrains : s.rim.retrCh.contains k = true) (unarmed : s.isArmed srvg 7 = false)
include retrains unarmed

omit hs hc hk retrains unarmed in
/-- A channel that retrains no more. -/
def State.channelRested (s : State) (k : Nat) : State := { s with rim := { s.rim with retrCh := s.rim.retrCh.filter fun x => x ≠ k } }

omit hs hc hk retrains unarmed in
theorem State.channelRested_tells (s : State) (k : Nat) : k ∉ (s.channelRested k).rim.retrCh ∧ (s.channelRested k).mem = s.mem ∧ ∀ q o, (s.channelRested k).rd q o = s.rd q o :=
  ⟨fun h => of_decide_eq_true (List.mem_filter.mp h).2 rfl, rfl, fun _ _ => rfl⟩

theorem retrainAttemptEnd_channel (good : Bool) : exec (.retrainAttemptEnd k good) s
    = if good && s.isArmed (ecccPage stack) 4 then .next ((s.disarm (ecccPage stack) 4).selftestFail stack ch true)
      else if good then .next { s.wr (celPage stack) 0x080 (setBit (s.rd (celPage stack) 0x080) ch) with
        rim := { s.rim with retrCh := s.rim.retrCh.filter fun x => x ≠ k, retrTry := smSet 0 s.rim.retrTry k 0 } }
      else .next (if (s.retrainFailed k (stack + 256 * ch) false).2 then (s.retrainFailed k (stack + 256 * ch) false).1.channelRested k
        else (s.retrainFailed k (stack + 256 * ch) false).1) := by
  have site : k / 32 = stack := by omega
  have channel : k % 32 = ch := by omega
  have low : k < 0x1000 := by omega
  change execRetrainAttemptEnd k good s = _
  rw [execRetrainAttemptEnd, if_pos low, retrains, site, channel]
  dsimp only
  rw [show s.isArmed (gp .srvg) 7 = false from unarmed, Bool.not_true, if_neg Bool.false_ne_true, if_neg Bool.false_ne_true, Bool.not_false, Bool.and_true]
  rfl

theorem retrainAttemptEnd_channelUp (calm : s.isArmed (ecccPage stack) 4 = false) : Completes (.retrainAttemptEnd k true) s fun t =>
    k ∉ t.rim.retrCh ∧ tst (t.rd (celPage stack) 0x080) ch = true ∧ smGet 0 t.rim.retrTry k = 0 ∧ t.mem = s.mem := by
  have answers := retrainAttemptEnd_channel hs hc hk retrains unarmed true
  rw [calm] at answers
  refine ⟨_, answers, fun h => of_decide_eq_true (List.mem_filter.mp h).2 rfl, ?_, smGet_smSet_self 0 s.rim.retrTry k 0, rfl⟩
  exact (congrArg (fun x => tst x ch) (s.rd_wr_self ..)).trans (tst_setBit _ (by omega))

theorem retrainAttemptEnd_channelAgain (few : smGet 0 s.rim.retrTry k + 1 < 3) : Completes (.retrainAttemptEnd k false) s fun t =>
    t.rim.retrCh = s.rim.retrCh ∧ smGet 0 t.rim.retrTry k = smGet 0 s.rim.retrTry k + 1 ∧ t.regs = s.regs ∧ t.mem = s.mem := by
  have answers := retrainAttemptEnd_channel hs hc hk retrains unarmed false
  rw [State.retrainFailed_again s _ few] at answers
  exact ⟨_, answers, rfl, State.attempted_tries .., rfl, rfl⟩

theorem retrainAttemptEnd_channelOut (last : 3 ≤ smGet 0 s.rim.retrTry k + 1) : Completes (.retrainAttemptEnd k false) s fun t =>
    k ∉ t.rim.retrCh ∧ tst (t.rd srvg 0x028) 7 = true ∧ t.mem = s.mem := by
  have answers := retrainAttemptEnd_channel hs hc hk retrains unarmed false
  rw [State.retrainFailed_last s _ last] at answers
  obtain ⟨event, mem, -⟩ := (s.attempted k 0).retrainGivenUp_tells (stack + 256 * ch)
  obtain ⟨rested, kept, rd⟩ := ((s.attempted k 0).retrainGivenUp (stack + 256 * ch)).channelRested_tells k
  refine ⟨_, answers, rested, ?_, kept.trans mem⟩
  exact (congrArg (fun x => tst x 7) (rd srvg 0x028)).trans event

end

/-! ### The obligation -/

/-- Settles O53. The model's own choices in it are those of the log's entries 77 (a commit of the Survey is atomic), 80 (RETRAIN_SEAM at the edge of the square is
refused, and both Wings count a retraining at its start), 81 (STATE is 1 in steps 1 to 3 and 2 in steps 4 to 13, and a step in which firmware fails ends with
cause FIRMWARE) and 85 (the PCIe configuration and the MSI-X table survive every House reset but that of PERST#). -/
theorem bringUp : Obligations.BringUp := by
  unfold Obligations.BringUp
  refine fun s _ => ⟨powerOn_ignored, powerOn_begins, ?fails, bringupTimeout_waits, bringupTimeout_fails, fun ok ns ws => ⟨bringupStep_idle, bringupStep_late, ?steps⟩, ?house,
    fun v => ⟨houseReset_unkeyed, houseReset_keyed, houseReset_commits⟩, rfl, rfl, resetPin_held, resetPin_falls, resetPinRise_idle, resetPinRise_starts,
    fun phys => ⟨markBad_beyond, markBad_waits, markBad_again, markBad_marks⟩, ⟨surveyCommit_clean, fun b => surveyCommit_early, fun b => surveyCommit_due⟩, commit_due s, ?seams, ?channels⟩
  case fails =>
    rintro cause g hc rfl
    exact s.bringFail_tells hc
  case steps =>
    exact fun brings inTime => ⟨bringupStep_driven brings inTime, bringupStep_broken brings inTime, fun good => ⟨bringupStep_one brings inTime good,
      bringupStep_noRef brings inTime good, bringupStep_refs brings inTime good, bringupStep_recovery brings inTime good, bringupStep_macs brings inTime good,
      bringupStep_ready brings inTime good, fun _ free t works => bringupStep_works brings inTime good free works⟩⟩
  case house =>
    rintro src g - rfl
    refine ⟨State.houseReset_dark, fun lit => ?_⟩
    obtain ⟨⟨mem, bricks, rooms, suites, pkts, et, pending, source, survA, survB, lastRst, jtag⟩, high, low⟩ := State.houseReset_tells (src := src) lit
    exact ⟨mem, bricks, rooms, suites, pkts, et, pending, source, survA, survB, lastRst, jtag, high, low⟩
  case seams =>
    refine fun w d hw hd => ⟨retrainSeam_refused hw hd, fun there => ?_, fun unarmed => ⟨retrainAttemptEnd_seamIdle hw hd unarmed, fun retrains there => ?_, fun retrains there => ?_⟩⟩
    · obtain ⟨v, beside⟩ := Option.ne_none_iff_exists'.mp there
      exact retrainSeam_starts hw hd beside
    · obtain ⟨v, beside⟩ := Option.ne_none_iff_exists'.mp there
      exact retrainAttemptEnd_seamUp hw hd beside unarmed retrains
    · obtain ⟨v, beside⟩ := Option.ne_none_iff_exists'.mp there
      exact ⟨retrainAttemptEnd_seamAgain hw hd unarmed retrains, retrainAttemptEnd_seamOut hw hd beside unarmed retrains⟩
  case channels =>
    exact fun stack ch k hs hc hk => ⟨retrainChannel_refused hc hk, retrainChannel_starts hc hk, fun errs => ⟨channelOutOfService_ignored hc, channelOutOfService_starts hc⟩,
      retrainAttemptEnd_channelIdle hs hc hk, fun retrains unarmed => ⟨retrainAttemptEnd_channelUp hs hc hk retrains unarmed,
        retrainAttemptEnd_channelAgain hs hc hk retrains unarmed, retrainAttemptEnd_channelOut hs hc hk retrains unarmed⟩⟩

end Sys2Proof.Machine

/-! ## RoCE queue pairs and received frames (O50) -/

namespace Sys2Proof.Machine

-- One proof at a time: the check's memory limit counts the stack of every thread that waits for an earlier proof.
set_option Elab.async false

/-! ### Contexts of streams and queue pairs (R380, R381) -/

section
variable (s : State) (n : Nat)

theorem State.yctx_of {s t : State} (h : t.rim.ctxs = s.rim.ctxs) (n : Nat) : t.yctx n = s.yctx n := by rw [State.yctx, State.yctx, h]

@[simp] theorem State.yctx_setYctx (x : YCtx) : (s.setYctx n x).yctx n = x := smGet_smSet_self ..

theorem State.yctx_setYctx_ne {m : Nat} (x : YCtx) (h : m ≠ n) : (s.setYctx n x).yctx m = s.yctx m := smGet_smSet_ne _ _ _ _ h

@[simp] theorem State.yctx_touch (m : Nat) : (s.touch n).yctx m = s.yctx m := rfl

@[simp] theorem State.ctxMiss_ctxs : (s.ctxMiss n).rim.ctxs = s.rim.ctxs := by unfold State.ctxMiss; split <;> rfl
@[simp] theorem State.ctxMiss_mem : (s.ctxMiss n).mem = s.mem := by unfold State.ctxMiss; split <;> rfl
@[simp] theorem State.ctxMiss_pkts : (s.ctxMiss n).pkts = s.pkts := by unfold State.ctxMiss; split <;> rfl

theorem State.ctxMiss_fills : n ∈ (s.ctxMiss n).rim.fills := by
  unfold State.ctxMiss
  split
  · next there => exact List.contains_iff_mem.mp there
  · exact List.mem_append_right _ (List.mem_singleton.mpr rfl)

end

/-! ### Packets on their way out (R374, R376) -/

/-- What sending a packet leaves: contexts, packets in the square, memory, time, and every register but counts (0x088) and transmitted check values (0x100). -/
structure State.Sends (s t : State) : Prop where
  ctxs : t.rim.ctxs = s.rim.ctxs
  mem : t.mem = s.mem
  pkts : t.pkts = s.pkts
  et : t.et = s.et
  rd : ∀ q o, o < 4096 → o ≠ 0x088 → o ≠ 0x100 → t.rd q o = s.rd q o

section
variable {s t u : State}

theorem State.Sends.refl : State.Sends s s := ⟨rfl, rfl, rfl, rfl, fun _ _ _ _ _ => rfl⟩

theorem State.Sends.trans (h : State.Sends s t) (k : State.Sends t u) : State.Sends s u :=
  ⟨k.ctxs.trans h.ctxs, k.mem.trans h.mem, k.pkts.trans h.pkts, k.et.trans h.et, fun q o ho c w => (k.rd q o ho c w).trans (h.rd q o ho c w)⟩

theorem State.Sends.yctx (h : State.Sends s t) (n : Nat) : t.yctx n = s.yctx n := State.yctx_of h.ctxs n

end

section
variable (s : State)

theorem State.touch_sends (n : Nat) : State.Sends s (s.touch n) := ⟨rfl, rfl, rfl, rfl, fun _ _ _ _ _ => rfl⟩

/-- A count kept at 0x088. -/
theorem State.count_sends (p : PageRef) (hi lo n : Nat) : State.Sends s (s.bump p 0x088 hi lo n) :=
  ⟨rfl, rfl, rfl, rfl, fun _ _ ho c _ => s.rd_wr_key _ (regKey_offs ho (by decide) c)⟩

theorem State.sendFrame_regs (p prio : Nat) (b : List Byte) : (s.sendFrame p prio b).regs = s.regs := by
  unfold State.sendFrame
  split
  · rfl
  · split <;> rfl

theorem State.sendFrame_sends (p prio : Nat) (b : List Byte) : State.Sends s (s.sendFrame p prio b) := by
  unfold State.sendFrame
  split
  · exact .refl
  · split <;> exact ⟨rfl, rfl, rfl, rfl, fun _ _ _ _ _ => rfl⟩

/-- The check value of a packet sent, kept at 0x100 of its port's unit. -/
theorem State.checked_sends (p : PageRef) (v : W64) : State.Sends s (s.wr p 0x100 v) :=
  ⟨rfl, rfl, rfl, rfl, fun _ _ ho _ c => s.rd_wr_key _ (regKey_offs ho (by decide) c)⟩

theorem State.yazOut_sends (port cls dst stream seq : Nat) (w : List W64) (data : List Byte) : State.Sends s (s.yazOut port cls dst stream seq w data) :=
  (s.checked_sends ..).trans (State.sendFrame_sends ..)

theorem State.yazPut_sends (n : Nat) (p : YSent) : State.Sends s (s.yazPut n p) := s.yazOut_sends ..

theorem State.roceOut_sends (n op psn : Nat) (args : List Nat) (data : List Byte) : State.Sends s (s.roceOut n op psn args data) := s.sendFrame_sends ..

theorem State.rocePut_sends (n : Nat) (p : YSent) : State.Sends s (s.rocePut n p) := s.roceOut_sends ..

end

/-! ### A descriptor taken up (R385) -/

/-- The context that has taken up a descriptor of words `w`. -/
def YCtx.taken (x : YCtx) (w : List W64) : YCtx := { x with fetch := (x.fetch + 1) % 65536, descs := x.descs ++ [⟨x.fetch, w, 0⟩] }

section
variable {s : State} {n op : Nat} {cmd : Instr}

theorem descCommand_runs (hn : n < 2 ^ 20)
    (mem : (op, cmd) ∈ [(0x10, Instr.roceSend n), (0x11, .roceWrite n), (0x12, .roceRead n), (0x01, .send n), (0x02, .control n)]) :
    exec cmd s = .next (s.descFetch n op) := by
  have same : n % 2 ^ 20 = n := Nat.mod_eq_of_lt hn
  simp only [List.mem_cons, Prod.mk.injEq, List.not_mem_nil, or_false] at mem
  rcases mem with ⟨rfl, rfl⟩ | ⟨rfl, rfl⟩ | ⟨rfl, rfl⟩ | ⟨rfl, rfl⟩ | ⟨rfl, rfl⟩ <;> exact congrArg (fun k => Host.Outcome.next (s.descFetch k _)) same

theorem State.descFetch_idle (idle : (s.yctx n).state ≠ 1 ∨ (s.yctx n).fetch = (s.yctx n).pi ∨ (s.yctx n).cutting.isSome = true) : s.descFetch n op = s := if_pos idle

theorem State.descFetch_miss (open_ : (s.yctx n).state = 1) (more : (s.yctx n).fetch ≠ (s.yctx n).pi) (cut : (s.yctx n).cutting = none) (cold : s.isHot n = false) :
    s.descFetch n op = s.ctxMiss n := by
  rw [State.descFetch]
  simp [open_, more, cut, cold]

theorem State.descFetch_reads {g : State} {r : Option (List Byte)} (open_ : (s.yctx n).state = 1) (more : (s.yctx n).fetch ≠ (s.yctx n).pi)
    (cut : (s.yctx n).cutting = none) (hot : s.isHot n = true)
    (read : s.yazRead n ((s.yctx n).sqBase + 32 * ((s.yctx n).fetch % 2 ^ (s.yctx n).sqLog2)) 32 = (g, r)) :
    (r = none → s.descFetch n op = g.yazFail n 7 false)
    ∧ (∀ b, r = some b → s.descFetch n op =
        if !descOk (s.yctx n).mode (toWords b) then g.yazFail n 6 false
        else if fld ((toWords b).getD 0 0) 63 56 ≠ op then s
        else g.modYctx n fun x => x.taken (toWords b)) := by
  rw [State.descFetch]
  simp only [open_, more, cut, hot, read, Option.isSome_none, ne_eq, not_true_eq_false, Bool.false_eq_true, or_self, if_false, Bool.not_true]
  exact ⟨fun h => by rw [h], fun b h => by subst h; rfl⟩

end

/-! ### A timer that has run out (R378, R392) -/

section
variable {s : State} {n : Nat}

theorem rtoExpiry_roce (hn : n < 2 ^ 20) (mode : (s.yctx n).mode = 1) :
    ((s.yctx n).state ≠ 1 ∨ ((s.yctx n).sent.find? fun p => decide (p.at_ + s.rto (s.yctx n) ≤ s.et)) = none → exec (.rtoExpiry n) s = .next s)
    ∧ (∀ p, (s.yctx n).state = 1 → ((s.yctx n).sent.find? fun p => decide (p.at_ + s.rto (s.yctx n) ≤ s.et)) = some p →
        exec (.rtoExpiry n) s = .next ((s.setYctx n { s.yctx n with backo := (s.yctx n).backo + 1 }).roceAgain n p.seq)) := by
  change (_ → execRtoExpiry n s = _) ∧ ∀ p, _ → _ → execRtoExpiry n s = _
  rw [execRtoExpiry, Nat.mod_eq_of_lt hn]
  simp only [mode, if_true]
  refine ⟨fun idle => ?_, fun p open_ late => by simp only [open_, if_true, late]⟩
  by_cases open_ : (s.yctx n).state = 1
  · simp only [open_, if_true, idle.resolve_left (fun h => h open_)]
  · simp only [open_, if_false]

theorem rtoExpiry_yazal (hn : n < 2 ^ 20) (mode : (s.yctx n).mode ≠ 1) : exec (.rtoExpiry n) s = .next (s.rtoExpiry n) := by
  change execRtoExpiry n s = _
  rw [execRtoExpiry, Nat.mod_eq_of_lt hn]
  exact if_neg mode

theorem State.rtoExpiry_idle (idle : (s.yctx n).state ≠ 1 ∨ ((s.yctx n).sent.find? fun p => decide (p.at_ + s.rto (s.yctx n) ≤ s.et)) = none) : s.rtoExpiry n = s := by
  rw [State.rtoExpiry]
  by_cases open_ : (s.yctx n).state = 1
  · simp only [open_, ne_eq, not_true_eq_false, if_false, idle.resolve_left (fun h => h open_)]
  · simp only [open_, ne_eq, not_false_eq_true, if_true]

/-- The window halved and the timer doubled. -/
def YCtx.backedOff (x : YCtx) : YCtx := { x with cwnd := clampWin (x.cwnd / 2), backo := x.backo + 1 }

theorem State.rtoExpiry_late {p : YSent} (open_ : (s.yctx n).state = 1) (late : ((s.yctx n).sent.find? fun p => decide (p.at_ + s.rto (s.yctx n) ≤ s.et)) = some p) :
    s.rtoExpiry n = (s.setYctx n (s.yctx n).backedOff).resend n p.seq := by
  rw [State.rtoExpiry]
  simp only [open_, ne_eq, not_true_eq_false, if_false, late]
  rfl

/-- A context's spray set reads its peer and its exclusions alone. -/
theorem State.spraySet_setYctx (s : State) {n : Nat} {y : YCtx} (cfg : y.cfg = (s.yctx n).cfg) (excl : y.excl = (s.yctx n).excl) :
    (s.setYctx n y).spraySet n = s.spraySet n := by
  have peer : y.peer = (s.yctx n).peer := by rw [YCtx.peer, YCtx.peer, YCtx.w, YCtx.w, cfg]
  rw [State.spraySet, State.spraySet, State.yctx_setYctx, peer, excl]
  rfl

/-- Losses of a context within the path hold, with one more (R392). -/
def State.lossesNow (s : State) (x : YCtx) (p : YSent) : List (Nat × Nat) := (x.losses.filter fun e => s.et < e.2 + usToEt s.holdUs) ++ [(p.port, s.et)]

/-- A packet sent again on a port. -/
def State.again (s : State) (p : YSent) (port : Nat) : YSent := { p with port, at_ := s.et, tries := p.tries + 1 }

/-- The context whose packet is sent again: a second loss on a port excludes it (R392). -/
def State.resent (s : State) (x : YCtx) (p : YSent) (port : Nat) : YCtx :=
  let lost := s.lossesNow x p
  let out := 2 ≤ (lost.filter fun e => e.1 = p.port).length
  { x with
    sent := x.sent.map (fun q => if q.seq = p.seq then s.again p port else q), lastP := port, idle := s.et
    losses := if out then lost.filter (fun e => e.1 ≠ p.port) else lost
    excl := if out then (x.excl.filter fun e => e.1 ≠ p.port) ++ [(p.port, s.et + usToEt s.holdUs)] else x.excl }

/-- The packet sent again, before the count of its tries is looked at. -/
def State.resendPut (s : State) (n : Nat) (p : YSent) (port : Nat) : State :=
  ((s.setYctx n (s.resent (s.yctx n) p port)).bump (yzl (homeOf n)) 0x088 31 0 1).yazPut n (s.again p port)

theorem State.resend_form {seq port : Nat} {p : YSent} (there : ((s.yctx n).sent.find? fun p => p.seq = seq) = some p)
    (next : nextPort (s.spraySet n) p.port = some port) :
    s.resend n seq = if (s.resendPut n p port).retryMax ≤ p.tries + 1 then (s.resendPut n p port).yazFail n 2 false else s.resendPut n p port := by
  have own : p.seq = seq := by simpa using List.find?_some there
  subst own
  rw [State.resend]
  simp only [there, next]
  rfl

theorem State.resendPut_sends (n : Nat) (p : YSent) (port : Nat) : State.Sends (s.setYctx n (s.resent (s.yctx n) p port)) (s.resendPut n p port) :=
  (State.count_sends ..).trans (State.yazPut_sends ..)

theorem State.retryMax_of {t : State} (h : State.Sends s t) : t.retryMax = s.retryMax := by
  rw [State.retryMax, State.retryMax, State.rdF, State.rdF, h.rd _ _ (by decide) (by decide) (by decide)]

/-- A packet with tries left is sent again, and its stream lives on. -/
theorem State.resend_lives {port : Nat} {p : YSent} (there : ((s.yctx n).sent.find? fun q => q.seq = p.seq) = some p)
    (next : nextPort (s.spraySet n) p.port = some port) (few : p.tries + 1 < s.retryMax) : s.resend n p.seq = s.resendPut n p port := by
  rw [State.resend_form there next]
  refine if_neg ?_
  rw [State.retryMax_of (State.resendPut_sends ..)]
  exact Nat.not_le.mpr few

theorem rtoExpiry_resends {p : YSent} {port : Nat} (hn : n < 2 ^ 20) (mode : (s.yctx n).mode ≠ 1) (open_ : (s.yctx n).state = 1)
    (late : ((s.yctx n).sent.find? fun p => decide (p.at_ + s.rto (s.yctx n) ≤ s.et)) = some p) (own : ((s.yctx n).sent.find? fun q => q.seq = p.seq) = some p)
    (next : nextPort (s.spraySet n) p.port = some port) (few : p.tries + 1 < s.retryMax) : Completes (.rtoExpiry n) s fun t =>
      (t.yctx n).sent = (s.yctx n).sent.map (fun q => if q.seq = p.seq then { p with port := port, at_ := s.et, tries := p.tries + 1 } else q)
      ∧ (t.yctx n).cwnd = clampWin ((s.yctx n).cwnd / 2) ∧ (t.yctx n).backo = (s.yctx n).backo + 1 ∧ (t.yctx n).state = 1 ∧ t.mem = s.mem ∧ t.pkts = s.pkts := by
  have ctx := State.yctx_setYctx s n (s.yctx n).backedOff
  have sends := State.resendPut_sends (s := s.setYctx n (s.yctx n).backedOff) n p port
  have after := (sends.yctx n).trans (State.yctx_setYctx ..)
  rw [ctx] at after
  have again := State.resend_lives (s := s.setYctx n (s.yctx n).backedOff) (n := n) (p := p) (port := port) (by rw [ctx]; exact own)
    (by rw [State.spraySet_setYctx (n := n) (y := (s.yctx n).backedOff) s rfl rfl]; exact next) few
  refine ⟨_, (rtoExpiry_yazal hn mode).trans (congrArg Host.Outcome.next ((State.rtoExpiry_late open_ late).trans again)), ?_⟩
  dsimp only
  rw [after]
  exact ⟨rfl, rfl, rfl, open_, sends.mem, sends.pkts⟩

end

/-! ### The next packet of a queue pair (R378, R394) -/

section
variable {s : State} {n : Nat}

theorem pacedSend_roce (hn : n < 2 ^ 20) (mode : (s.yctx n).mode = 1) : exec (.pacedSend n) s = .next (s.rocePaced n) := by
  change execPacedSend n s = _
  rw [execPacedSend, Nat.mod_eq_of_lt hn]
  exact congrArg Host.Outcome.next (if_pos mode)

theorem pacedSend_yazal (hn : n < 2 ^ 20) (mode : (s.yctx n).mode ≠ 1) : exec (.pacedSend n) s = .next (s.pacedSend n) := by
  change execPacedSend n s = _
  rw [execPacedSend, Nat.mod_eq_of_lt hn]
  exact congrArg Host.Outcome.next (if_neg mode)

/-- The context of a queue pair whose packet `e` leaves, `used` numbers on, its descriptor `idx` cut to `cut`. -/
def State.rocePacing (s : State) (x : YCtx) (idx : Nat) (e : YSent) (used cut : Nat) : YCtx :=
  { x.cutTo idx cut with
    seq := (x.seq + used) % 2 ^ 24, sent := x.sent ++ [e], idle := s.et, heldAt := none, prog := if x.sent = [] then s.et else x.prog
    paced := max x.paced (256 * s.et) + x.srtt * 2 ^ 32 / max 1 x.cwnd }

/-- Packet `e` of a queue pair leaves. -/
def State.roceGo (s : State) (n idx : Nat) (e : YSent) (used cut : Nat) : State :=
  ((s.setYctx n (s.rocePacing (s.yctx n) idx e used cut)).touch n).rocePut n e

theorem State.roceGo_sends (s : State) (n idx : Nat) (e : YSent) (used cut : Nat) :
    State.Sends (s.setYctx n (s.rocePacing (s.yctx n) idx e used cut)) (s.roceGo n idx e used cut) := (State.touch_sends ..).trans (State.rocePut_sends ..)

theorem State.roceGo_yctx (s : State) (n idx : Nat) (e : YSent) (used cut : Nat) : (s.roceGo n idx e used cut).yctx n = s.rocePacing (s.yctx n) idx e used cut :=
  ((s.roceGo_sends n idx e used cut).yctx n).trans (State.yctx_setYctx ..)

theorem State.rocePaced_idle (idle : (s.yctx n).state ≠ 1 ∨ s.linkUp (s.yctx n).qport = false ∨ (s.yctx n).cutting = none) : s.rocePaced n = s := by
  have nothing : (if (s.yctx n).state = 1 ∧ s.linkUp (s.yctx n).qport then (s.yctx n).cutting else none) = none := by
    rcases idle with shut | down | none_
    · exact if_neg fun h => shut h.1
    · exact if_neg fun h => absurd h.2 (by rw [down]; decide)
    · exact (congrArg (fun o => if (s.yctx n).state = 1 ∧ s.linkUp (s.yctx n).qport then o else none) none_).trans (ite_self _)
  rw [State.rocePaced, nothing]

/-- The packet that leaves for a SEND or WRITE: its number, port, place in the message and bytes. -/
def State.rocePkt (s : State) (x : YCtx) (d : YDesc) (b : List Byte) (k : Nat) : YSent :=
  ⟨x.seq, x.qport, s.et, 0, x.cls, decide (d.cut = 0), decide (d.len ≤ d.cut + k), 0,
    roceOp (if d.op = 0x11 then 6 else 0) (decide (d.cut = 0)) (decide (d.len ≤ d.cut + k)), b, some d.idx⟩

section
variable {d : YDesc} (open_ : (s.yctx n).state = 1) (up : s.linkUp (s.yctx n).qport = true) (cut : (s.yctx n).cutting = some d)
include open_ up cut

theorem State.rocePaced_miss (cold : s.isHot n = false) : s.rocePaced n = s.ctxMiss n := by
  rw [State.rocePaced]
  simp only [open_, up, and_self, if_true, cut, cold, Bool.not_false]

theorem State.rocePaced_waits (hot : s.isHot n = true)
    (full : (s.yctx n).cwnd ≤ (s.yctx n).sent.length * 2 ^ 32 ∧ (s.yctx n).sent ≠ [] ∨ 256 * s.et < (s.yctx n).paced) : s.rocePaced n = s := by
  rw [State.rocePaced]
  simp only [open_, up, and_self, if_true, cut, hot, Bool.not_true, Bool.false_eq_true, if_false]
  exact if_pos full

theorem State.rocePaced_sends {g : State} {r : Option (List Byte)} {k : Nat} (hot : s.isHot n = true)
    (room : (s.yctx n).sent.length * 2 ^ 32 < (s.yctx n).cwnd ∨ (s.yctx n).sent = []) (due : (s.yctx n).paced ≤ 256 * s.et) (op : d.op ≠ 0x12)
    (hk : k = min 4096 (d.len - d.cut)) (read : s.yazRead n (fld (d.words.getD 1 0) 47 0 + d.cut) k = (g, r)) :
    (r = none → s.rocePaced n = g.yazFail n 7 false)
    ∧ ∀ b, r = some b → s.rocePaced n = g.roceGo n d.idx (s.rocePkt (s.yctx n) d b k) 1 (d.cut + k) := by
  subst hk
  have leaves : ¬ ((s.yctx n).cwnd ≤ (s.yctx n).sent.length * 2 ^ 32 ∧ (s.yctx n).sent ≠ [] ∨ 256 * s.et < (s.yctx n).paced) := by
    rintro (⟨full, some_⟩ | early)
    · exact room.elim (Nat.not_lt.mpr full) some_
    · exact Nat.not_lt.mpr due early
  rw [State.rocePaced]
  simp only [open_, up, and_self, if_true, cut, hot, Bool.not_true, Bool.false_eq_true, if_false, leaves, op, read]
  exact ⟨fun h => by rw [h], fun b h => by subst h; rfl⟩

end

theorem pacedSend_roce_leaves {g : State} {d : YDesc} {b : List Byte} {k : Nat} (hn : n < 2 ^ 20) (mode : (s.yctx n).mode = 1) (open_ : (s.yctx n).state = 1)
    (sends : s.rocePaced n = g.roceGo n d.idx (s.rocePkt (s.yctx n) d b k) 1 (d.cut + k)) (same : g.yctx n = s.yctx n) :
    Completes (.pacedSend n) s fun t => (t.yctx n).seq = ((s.yctx n).seq + 1) % 2 ^ 24 ∧ (t.yctx n).state = 1
      ∧ (t.yctx n).sent = (s.yctx n).sent ++ [s.rocePkt (s.yctx n) d b k] ∧ t.mem = g.mem ∧ t.pkts = g.pkts := by
  have ctx := g.roceGo_yctx n d.idx (s.rocePkt (s.yctx n) d b k) 1 (d.cut + k)
  have sent := g.roceGo_sends n d.idx (s.rocePkt (s.yctx n) d b k) 1 (d.cut + k)
  rw [same] at ctx
  refine ⟨_, (pacedSend_roce hn mode).trans (congrArg Host.Outcome.next sends), ?_⟩
  dsimp only
  rw [ctx]
  exact ⟨rfl, open_, rfl, sent.mem, sent.pkts⟩

/-! ### The next packet of a stream (R385, R387, R394) -/

theorem YCtx.mode_lt (x : YCtx) : x.mode < 2 := fld_lt _ 61 61

theorem YCtx.mode_zero {x : YCtx} (h : x.mode ≠ 1) : x.mode = 0 := by
  have := x.mode_lt
  omega

section
variable (mode : (s.yctx n).mode ≠ 1)
include mode

theorem State.pacedSend_idle (idle : (s.yctx n).state ≠ 1 ∨ (s.isHot n = true ∧ (s.yctx n).una + 256 ≤ (s.yctx n).seq)
    ∨ (s.isHot n = false ∧ (s.yctx n).ctl = [] ∧ (s.yctx n).cutting = none)) : s.pacedSend n = s := by
  by_cases open_ : (s.yctx n).state = 1
  · have shape := YCtx.mode_zero mode
    rw [State.pacedSend]
    simp only [open_, shape, ne_eq, not_true_eq_false, or_self, if_false]
    rcases idle with shut | ⟨hot, full⟩ | ⟨cold, none_, nothing⟩
    · exact absurd open_ shut
    · simp only [hot, Bool.not_true, Bool.false_eq_true, if_false, full, if_true]
    · simp only [cold, none_, nothing, Bool.not_false, and_self, if_true]
  · exact if_pos (.inl open_)

theorem State.pacedSend_miss (open_ : (s.yctx n).state = 1) (cold : s.isHot n = false) (work : (s.yctx n).ctl ≠ [] ∨ (s.yctx n).cutting ≠ none) :
    s.pacedSend n = s.ctxMiss n := by
  have shape := YCtx.mode_zero mode
  rw [State.pacedSend]
  simp only [open_, shape, ne_eq, not_true_eq_false, or_self, if_false, cold, Bool.not_false, if_true]
  exact if_neg fun h => work.elim (fun w => w h.1) (fun w => w h.2)

section
variable (open_ : (s.yctx n).state = 1) (hot : s.isHot n = true) (room : (s.yctx n).seq < (s.yctx n).una + 256)
include open_ hot room

theorem State.pacedSend_holds (nowhere : nextPort (s.spraySet n) (s.yctx n).lastP = none) (work : (s.yctx n).ctl ≠ [] ∨ (s.yctx n).cutting ≠ none)
    (none_ : (s.yctx n).sent = []) (fresh : (s.yctx n).heldAt = none) : s.pacedSend n = s.setYctx n { s.yctx n with heldAt := some s.et } := by
  have shape := YCtx.mode_zero mode
  have busy : (decide ((s.yctx n).ctl ≠ []) || (s.yctx n).cutting.isSome) = true := by
    rcases work with w | w
    · rw [decide_eq_true w, Bool.true_or]
    · rw [Option.isSome_iff_ne_none.mpr w, Bool.or_true]
  rw [State.pacedSend]
  simp only [open_, shape, ne_eq, not_true_eq_false, or_self, if_false, hot, Bool.not_true, Bool.false_eq_true, Nat.not_le.mpr room, nowhere]
  exact if_pos ⟨busy, none_, fresh⟩

theorem State.pacedSend_control {port m : Nat} {d : List Byte} {rest : List (Nat × List Byte)} (next : nextPort (s.spraySet n) (s.yctx n).lastP = some port)
    (ctl : (s.yctx n).ctl = (m, d) :: rest) :
    s.pacedSend n = (s.setYctx n { s.yctx n with ctl := rest }).yazSendNew n port ⟨0, 0, 0, 0, 0, true, true, 0, m, d, none⟩ := by
  have shape := YCtx.mode_zero mode
  rw [State.pacedSend]
  simp only [open_, shape, ne_eq, not_true_eq_false, or_self, if_false, hot, Bool.not_true, Bool.false_eq_true, Nat.not_le.mpr room, next]
  rw [ctl]

end
end

/-- The packet given the next number of its stream, on a port. -/
def State.numbered (s : State) (x : YCtx) (port : Nat) (p : YSent) : YSent := { p with seq := x.seq, port := port, at_ := s.et, tries := 0 }

/-- The context of a stream whose next packet leaves. -/
def State.yazPacing (s : State) (x : YCtx) (port : Nat) (p : YSent) : YCtx :=
  { x with
    seq := x.seq + 1, sent := x.sent ++ [s.numbered x port p], lastP := port, idle := s.et, heldAt := none
    prog := if x.sent = [] then s.et else x.prog
    paced := if p.cls = 0 then x.paced else max x.paced (256 * s.et) + x.srtt * 2 ^ 32 / max 1 x.cwnd }

theorem State.yazSendNew_sends (s : State) (n port : Nat) (p : YSent) : State.Sends (s.setYctx n (s.yazPacing (s.yctx n) port p)) (s.yazSendNew n port p) := by
  have used (t : State) : State.Sends t (if t.isHot n then t.touch n else t) := by
    split
    · exact State.touch_sends ..
    · exact .refl
  exact ((used _).trans (State.count_sends ..)).trans (State.yazPut_sends ..)

theorem State.yazSendNew_yctx (s : State) (n port : Nat) (p : YSent) : (s.yazSendNew n port p).yctx n = s.yazPacing (s.yctx n) port p :=
  ((s.yazSendNew_sends n port p).yctx n).trans (State.yctx_setYctx ..)

theorem pacedSend_control_leaves {port m : Nat} {d : List Byte} {rest : List (Nat × List Byte)} (hn : n < 2 ^ 20) (mode : (s.yctx n).mode ≠ 1)
    (open_ : (s.yctx n).state = 1) (hot : s.isHot n = true) (room : (s.yctx n).seq < (s.yctx n).una + 256)
    (next : nextPort (s.spraySet n) (s.yctx n).lastP = some port) (ctl : (s.yctx n).ctl = (m, d) :: rest) : Completes (.pacedSend n) s fun t =>
      (t.yctx n).ctl = rest ∧ (t.yctx n).seq = (s.yctx n).seq + 1 ∧ (t.yctx n).lastP = port
      ∧ (t.yctx n).sent = (s.yctx n).sent ++ [⟨(s.yctx n).seq, port, s.et, 0, 0, true, true, 0, m, d, none⟩] ∧ t.mem = s.mem ∧ t.pkts = s.pkts := by
  have ctx := State.yazSendNew_yctx (s.setYctx n { s.yctx n with ctl := rest }) n port ⟨0, 0, 0, 0, 0, true, true, 0, m, d, none⟩
  have sent := State.yazSendNew_sends (s.setYctx n { s.yctx n with ctl := rest }) n port ⟨0, 0, 0, 0, 0, true, true, 0, m, d, none⟩
  rw [State.yctx_setYctx] at ctx
  refine ⟨_, (pacedSend_yazal hn mode).trans (congrArg Host.Outcome.next (State.pacedSend_control mode open_ hot room next ctl)), ?_⟩
  dsimp only
  rw [ctx]
  exact ⟨rfl, rfl, rfl, rfl, sent.mem, sent.pkts⟩

end

/-! ### A RoCEv2 packet at its queue pair (R378, R379) -/

/-- The context that has just had traffic. -/
def State.heard (s : State) (n : Nat) : State := s.modYctx n fun x => { x with idle := s.et }

theorem State.heard_yctx (s : State) (n : Nat) : (s.heard n).yctx n = { s.yctx n with idle := s.et } := State.yctx_setYctx ..

section
variable {s g : State} {n : Nat} {p : RocePkt}

/-- What an open queue pair does with a packet, once the traffic is noted; `again` is its answer to a READ that it has answered before. -/
def State.roceServed (s again : State) (n rcum : Nat) (p : RocePkt) : State :=
  if p.op = 0x81 then s.modYctx n fun x => { x with cwnd := clampWin (x.cwnd / 2) }
  else if p.op = 17 then
    if p.synd < 0x20 then s.roceAcked n p.psn
    else if p.synd = 0x60 then (s.roceAcked n (p.psn + 2 ^ 24 - 1)).roceAgain n p.psn
    else if p.synd < 0x60 then s
    else s.yazFail n 6 false
  else if 13 ≤ p.op ∧ p.op ≤ 16 then s.roceRead n p
  else if p.op ∈ [0, 1, 2, 4, 6, 7, 8, 10, 12] then
    if (p.psn + 2 ^ 24 - rcum % 2 ^ 24) % 2 ^ 24 = 0 then s.roceRequest n p
    else if (p.psn + 2 ^ 24 - rcum % 2 ^ 24) % 2 ^ 24 < 2 ^ 23 then s.roceAck n rcum 0x60
    else if p.op = 12 then again
    else s.roceAck n (rcum + 2 ^ 24 - 1) 0
  else s.roceError n p.psn 0x61

theorem State.roceHandle_open {port : Nat} (hn : p.qpn % 2 ^ 20 = n) (open_ : (s.yctx n).state = 1) (mode : (s.yctx n).mode = 1) :
    ∃ again, s.roceHandle port false p = (s.heard n).roceServed again n (s.yctx n).rcum p := by
  subst hn
  unfold State.roceHandle
  extract_lets n x
  rw [if_neg (fun h => h.elim (fun h => h open_) (fun h => h mode))]
  exact ⟨_, rfl⟩

theorem State.roceServed_cnp {again : State} {rcum : Nat} (op : p.op = 0x81) : s.roceServed again n rcum p = s.modYctx n fun x => { x with cwnd := clampWin (x.cwnd / 2) } := if_pos op

theorem State.roceServed_answer {again : State} {rcum : Nat} (op : p.op = 17) :
    (p.synd < 0x20 → s.roceServed again n rcum p = s.roceAcked n p.psn)
    ∧ (p.synd = 0x60 → s.roceServed again n rcum p = (s.roceAcked n (p.psn + 2 ^ 24 - 1)).roceAgain n p.psn)
    ∧ (0x60 < p.synd → s.roceServed again n rcum p = s.yazFail n 6 false) := by
  rw [State.roceServed, if_neg (by rw [op]; decide), if_pos op]
  refine ⟨fun ack => if_pos ack, fun late => ?_, fun bad => ?_⟩
  · rw [if_neg (by omega), if_pos late]
  · rw [if_neg (by omega), if_neg (by omega), if_neg (by omega)]

theorem State.roceServed_response {again : State} {rcum : Nat} (low : 13 ≤ p.op) (high : p.op ≤ 16) : s.roceServed again n rcum p = s.roceRead n p := by
  rw [State.roceServed, if_neg (by omega), if_neg (by omega), if_pos ⟨low, high⟩]

theorem State.roceServed_request {again : State} {rcum d : Nat} (op : p.op ∈ [0, 1, 2, 4, 6, 7, 8, 10, 12]) (hd : d = (p.psn + 2 ^ 24 - rcum % 2 ^ 24) % 2 ^ 24) :
    (d = 0 → s.roceServed again n rcum p = s.roceRequest n p)
    ∧ (d ≠ 0 → d < 2 ^ 23 → s.roceServed again n rcum p = s.roceAck n rcum 0x60)
    ∧ (2 ^ 23 ≤ d → p.op ≠ 12 → s.roceServed again n rcum p = s.roceAck n (rcum + 2 ^ 24 - 1) 0) := by
  have low : p.op ≤ 12 := (show ∀ k, k ∈ [0, 1, 2, 4, 6, 7, 8, 10, 12] → k ≤ 12 by decide) _ op
  subst hd
  rw [State.roceServed, if_neg (by omega), if_neg (by omega), if_neg (by omega), if_pos op]
  refine ⟨fun now => if_pos now, fun ne ahead => ?_, fun behind write => ?_⟩
  · exact (if_neg ne).trans (if_pos ahead)
  · exact (if_neg (by omega)).trans ((if_neg (by omega)).trans (if_neg write))

theorem State.roceServed_invalid {again : State} {rcum : Nat} (op : p.op ∉ [0, 1, 2, 4, 6, 7, 8, 10, 12]) (out : p.op < 13 ∨ 17 < p.op) (cnp : p.op ≠ 0x81) :
    s.roceServed again n rcum p = s.roceError n p.psn 0x61 := by
  rw [State.roceServed, if_neg cnp, if_neg (by omega), if_neg (by omega), if_neg op]

theorem State.roceRequest_unnamed {m : State} (op : p.op = 10) (none_ : s.mrEntry p.rkey = (m, none)) : s.roceRequest n p = m.roceError n p.psn 0x62 := by
  rw [State.roceRequest]
  simp [op, none_]

theorem State.roceRequest_outside {m : State} {e : W64 × W64} (op : p.op = 10) (named : s.mrEntry p.rkey = (m, some e))
    (outside : mrAllows e 0 p.va (max p.len p.data.length) = false) : s.roceRequest n p = m.roceError n p.psn 0x62 := by
  rw [State.roceRequest]
  simp [op, named, outside]

end

section
variable {s : State} {n port op psn va rkey len synd : Nat} {ce icrc : Bool} {data : List Byte} {p : RocePkt} {cmd : Instr}

theorem rocePacket_runs (hport : port < 64) (hpsn : psn < 2 ^ 24) (hp : p = ⟨op, n, psn, va, rkey, len, synd, data⟩)
    (hcmd : cmd = .rocePacket port ce icrc op n psn va rkey len synd data) :
    exec cmd s = .next ((if ce then s.ceMark port else s).rocePacket port ce icrc p) := by
  subst hcmd hp
  change execRocePacket .. = _
  rw [execRocePacket, Nat.mod_eq_of_lt hport, Nat.mod_eq_of_lt hpsn]

theorem State.ceMarked_rim (s : State) (ce : Bool) (port : Nat) : (if ce then s.ceMark port else s).rim = s.rim ∧ (if ce then s.ceMark port else s).mem = s.mem := by
  cases ce <;> exact ⟨rfl, rfl⟩

theorem State.rocePacket_other (hn : p.qpn % 2 ^ 20 = n) (bad : icrc = false ∨ (s.yctx n).state ≠ 1 ∨ (s.yctx n).mode ≠ 1) :
    s.rocePacket port ce icrc p = s.otherFrame port := by
  subst hn
  refine if_pos ?_
  rw [Bool.not_eq_true']
  exact bad

theorem State.rocePacket_cold (hn : p.qpn % 2 ^ 20 = n) (open_ : (s.yctx n).state = 1) (mode : (s.yctx n).mode = 1) (cold : s.isHot n = false) :
    s.rocePacket port ce true p = { s.ctxMiss n with rim := { (s.ctxMiss n).rim with roceWait := s.rim.roceWait ++ [(port, ce, p)] } } := by
  subst hn
  have served : ¬ ((!true) = true ∨ (s.yctx (p.qpn % 2 ^ 20)).state ≠ 1 ∨ (s.yctx (p.qpn % 2 ^ 20)).mode ≠ 1) := by simp only [open_, mode]; decide
  exact (if_neg served).trans (if_neg (by rw [cold]; decide))

theorem State.rocePacket_hot (hn : p.qpn % 2 ^ 20 = n) (open_ : (s.yctx n).state = 1) (mode : (s.yctx n).mode = 1) (hot : s.isHot n = true) :
    s.rocePacket port ce true p = (s.touch n).roceHandle port ce p := by
  subst hn
  have served : ¬ ((!true) = true ∨ (s.yctx (p.qpn % 2 ^ 20)).state ≠ 1 ∨ (s.yctx (p.qpn % 2 ^ 20)).mode ≠ 1) := by simp only [open_, mode]; decide
  exact (if_neg served).trans (if_pos hot)

/-- A packet whose context is cached, and which is not CE-marked, is served. -/
theorem rocePacket_served (hn : n < 2 ^ 20) (hport : port < 64) (hpsn : psn < 2 ^ 24) (hp : p = ⟨op, n, psn, va, rkey, len, synd, data⟩)
    (hcmd : cmd = .rocePacket port false true op n psn va rkey len synd data) (open_ : (s.yctx n).state = 1) (mode : (s.yctx n).mode = 1) (hot : s.isHot n = true) :
    ∃ again, exec cmd s = .next (((s.touch n).heard n).roceServed again n (s.yctx n).rcum p) := by
  have own : p.qpn % 2 ^ 20 = n := by rw [hp]; exact Nat.mod_eq_of_lt hn
  obtain ⟨again, served⟩ := State.roceHandle_open (s := s.touch n) (port := port) own open_ mode
  exact ⟨again, (rocePacket_runs hport hpsn hp hcmd).trans (congrArg Host.Outcome.next ((State.rocePacket_hot (s := s) own open_ mode hot).trans served))⟩

theorem rocePacket_waits (hn : n < 2 ^ 20) (hport : port < 64) (hpsn : psn < 2 ^ 24) (hp : p = ⟨op, n, psn, va, rkey, len, synd, data⟩)
    (hcmd : cmd = .rocePacket port ce true op n psn va rkey len synd data) (open_ : (s.yctx n).state = 1) (mode : (s.yctx n).mode = 1) (cold : s.isHot n = false) :
    Completes cmd s fun t => t.rim.roceWait = s.rim.roceWait ++ [(port, ce, p)] ∧ n ∈ t.rim.fills ∧ t.yctx n = s.yctx n ∧ t.mem = s.mem := by
  have own : p.qpn % 2 ^ 20 = n := by rw [hp]; exact Nat.mod_eq_of_lt hn
  obtain ⟨rim, mem⟩ := s.ceMarked_rim ce port
  have ctx : (if ce then s.ceMark port else s).yctx n = s.yctx n := State.yctx_of (by rw [rim]) n
  refine ⟨_, (rocePacket_runs hport hpsn hp hcmd).trans (congrArg Host.Outcome.next (State.rocePacket_cold own (by rw [ctx]; exact open_) (by rw [ctx]; exact mode) ?_)), ?_⟩
  · rw [State.isHot, State.hotOf, rim]
    exact cold
  · refine ⟨congrArg (fun r => r.roceWait ++ [(port, ce, p)]) rim, State.ctxMiss_fills .., ?_, (State.ctxMiss_mem ..).trans mem⟩
    exact (State.yctx_of (State.ctxMiss_ctxs ..) n).trans ctx

theorem rocePacket_other (hn : n < 2 ^ 20) (hport : port < 64) (hpsn : psn < 2 ^ 24)
    (hcmd : cmd = .rocePacket port ce icrc op n psn va rkey len synd data) (bad : icrc = false ∨ (s.yctx n).state ≠ 1 ∨ (s.yctx n).mode ≠ 1) :
    exec cmd s = .next ((if ce then s.ceMark port else s).otherFrame port) := by
  have ctx : (if ce then s.ceMark port else s).yctx n = s.yctx n := State.yctx_of (by rw [(s.ceMarked_rim ce port).1]) n
  exact (rocePacket_runs hport hpsn rfl hcmd).trans (congrArg Host.Outcome.next (State.rocePacket_other (Nat.mod_eq_of_lt hn) (by rw [ctx]; exact bad)))

theorem rocePacket_slows (hn : n < 2 ^ 20) (hport : port < 64) (hpsn : psn < 2 ^ 24)
    (hcmd : cmd = .rocePacket port false true op n psn va rkey len synd data) (open_ : (s.yctx n).state = 1) (mode : (s.yctx n).mode = 1) (hot : s.isHot n = true)
    (cnp : op = 0x81) : Completes cmd s fun t =>
      (t.yctx n).cwnd = clampWin ((s.yctx n).cwnd / 2) ∧ (t.yctx n).idle = s.et ∧ (t.yctx n).sent = (s.yctx n).sent ∧ t.mem = s.mem ∧ t.regs = s.regs := by
  obtain ⟨again, served⟩ := rocePacket_served hn hport hpsn rfl hcmd open_ mode hot
  rw [State.roceServed_cnp cnp] at served
  refine ⟨_, served, ?_⟩
  have ctx : (((s.touch n).heard n).modYctx n fun x => { x with cwnd := clampWin (x.cwnd / 2) }).yctx n =
      { s.yctx n with idle := s.et, cwnd := clampWin ((s.yctx n).cwnd / 2) } := by
    rw [State.modYctx, State.yctx_setYctx, State.heard_yctx]
    rfl
  dsimp only
  rw [ctx]
  exact ⟨rfl, rfl, rfl, rfl, rfl⟩

end

/-! ### A frame received (R373 to R375) -/

section
variable {s : State} {port : Nat} {fcs icrc : Bool} {f : List Byte}

theorem ethFrameReceive_runs (hport : port < 64) : exec (.ethFrameReceive port fcs icrc f) s =
    .next (if s.linkUp port && fcs && decide (beAt f 12 2 = 0x8100) && s.pfcOn port (beAt f 14 2 / 8192)
      then (s.ethFrame port fcs icrc f).rxTurn port (beAt f 14 2 / 8192) else s.ethFrame port fcs icrc f) := by
  change execEthFrameReceive .. = _
  rw [execEthFrameReceive, Nat.mod_eq_of_lt hport]

theorem ethFrameReceive_plain (hport : port < 64)
    (plain : s.linkUp port = false ∨ fcs = false ∨ (beAt f 12 2 = 0x8100 → s.pfcOn port (beAt f 14 2 / 8192) = false)) :
    exec (.ethFrameReceive port fcs icrc f) s = .next (s.ethFrame port fcs icrc f) := by
  rw [ethFrameReceive_runs hport]
  refine congrArg Host.Outcome.next (if_neg ?_)
  simp only [Bool.and_eq_true, decide_eq_true_eq]
  rintro ⟨⟨⟨up, good⟩, tagged⟩, pfc⟩
  rcases plain with h | h | h
  · exact absurd up (by rw [h]; decide)
  · exact absurd good (by rw [h]; decide)
  · exact absurd pfc (by rw [h tagged]; decide)

theorem State.ethFrame_down (down : s.linkUp port = false) : s.ethFrame port fcs icrc f = s := by rw [State.ethFrame]; simp [down]

section
variable (up : s.linkUp port = true)
include up

theorem State.ethFrame_badFcs : s.ethFrame port false icrc f = s.bump (eav port) (0x0C0 + 8 * portHalf port) 63 48 1 := by rw [State.ethFrame]; simp [up]

theorem ethFrameReceive_fills (hport : port < 64) {k : Nat} (tagged : beAt f 12 2 = 0x8100) (hk : k = beAt f 14 2 / 8192) (pfc : s.pfcOn port k = true) :
    exec (.ethFrameReceive port true icrc f) s = .next ((s.ethFrame port true icrc f).rxTurn port k) := by
  subst hk
  rw [ethFrameReceive_runs hport]
  exact congrArg Host.Outcome.next (if_pos (by rw [up, pfc, decide_eq_true tagged]; decide))

theorem State.ethFrame_badLength (len : f.length + 4 < 64 ∨ 9216 < f.length + 4) : s.ethFrame port true icrc f = s.otherFrame port := by
  rw [State.ethFrame]
  simp only [up, Bool.not_true, Bool.false_eq_true, if_false]
  exact if_pos len

/-- A frame of a good length, by its EtherType. -/
def State.ethBody (s : State) (port : Nat) (icrc : Bool) (f : List Byte) (et : Nat) (b : List Byte) : State :=
  if et = 0x8808 then
    if beAt b 0 2 = 0x0101 then s.pfcFrame port (beAt b 2 2) ((List.range 8).map fun k => beAt b (4 + 2 * k) 2)
    else if beAt b 0 2 = 0x0001 then s else s.otherFrame port
  else if beAt f 0 6 ≠ s.portMac port ∧ !(f.headD 0).getLsbD 0 then s.otherFrame port
  else if et = 0x0806 then s.arpFrame port b
  else if et = 0x0800 then s.ipFrame port (beAt f 6 6) icrc (ip4Read b)
  else if et = 0x86DD then s.ipFrame port (beAt f 6 6) icrc (ip6Read b)
  else s.otherFrame port

theorem State.ethFrame_body {o et : Nat} {b : List Byte} (low : 64 ≤ f.length + 4) (high : f.length + 4 ≤ 9216) (ho : o = if beAt f 12 2 = 0x8100 then 16 else 12)
    (het : et = beAt f o 2) (hb : b = f.drop (o + 2)) : s.ethFrame port true icrc f = s.ethBody port icrc f et b := by
  have good : ¬ (f.length + 4 < 64 ∨ 9216 < f.length + 4) := by omega
  have place : (if decide (beAt f 12 2 = 0x8100) = true then 16 else 12) = o := by rw [ho]; simp only [decide_eq_true_eq]
  rw [State.ethFrame]
  simp only [up, Bool.not_true, Bool.false_eq_true, if_false, good, place]
  rw [State.ethBody, het, hb]

end

section
variable {et : Nat} {b : List Byte}

theorem State.ethBody_pfc (type : et = 0x8808) (pfc : beAt b 0 2 = 0x0101) :
    s.ethBody port icrc f et b = s.pfcFrame port (beAt b 2 2) ((List.range 8).map fun k => beAt b (4 + 2 * k) 2) := (if_pos type).trans (if_pos pfc)

theorem State.ethBody_elsewhere (type : et ≠ 0x8808) (dst : beAt f 0 6 ≠ s.portMac port) (single : (f.headD 0).getLsbD 0 = false) :
    s.ethBody port icrc f et b = s.otherFrame port := (if_neg type).trans (if_pos ⟨dst, by rw [single]; rfl⟩)

/-- A frame for the port's own MAC, but for PFC, goes by its EtherType. -/
theorem State.ethBody_own (dst : beAt f 0 6 = s.portMac port) (type : et ≠ 0x8808) : s.ethBody port icrc f et b =
    if et = 0x0806 then s.arpFrame port b
    else if et = 0x0800 then s.ipFrame port (beAt f 6 6) icrc (ip4Read b)
    else if et = 0x86DD then s.ipFrame port (beAt f 6 6) icrc (ip6Read b)
    else s.otherFrame port := (if_neg type).trans (if_neg fun h => h.1 dst)

theorem State.ethBody_arp (dst : beAt f 0 6 = s.portMac port) (type : et = 0x0806) : s.ethBody port icrc f et b = s.arpFrame port b :=
  (State.ethBody_own dst (by omega)).trans (if_pos type)

theorem State.ethBody_ip (dst : beAt f 0 6 = s.portMac port) {i : Option IpIn} (type : (et = 0x0800 ∧ ip4Read b = i) ∨ (et = 0x86DD ∧ ip6Read b = i)) :
    s.ethBody port icrc f et b = s.ipFrame port (beAt f 6 6) icrc i := by
  rw [State.ethBody_own dst (by omega), if_neg (by omega)]
  rcases type with ⟨v4, rfl⟩ | ⟨v6, rfl⟩
  · exact if_pos v4
  · exact (if_neg (by omega)).trans (if_pos v6)

theorem State.ethBody_other (dst : beAt f 0 6 = s.portMac port) (type : et ∉ [0x8808, 0x0806, 0x0800, 0x86DD]) : s.ethBody port icrc f et b = s.otherFrame port := by
  simp only [List.mem_cons, List.not_mem_nil, or_false, not_or] at type
  obtain ⟨pfc, arp, v4, v6⟩ := type
  rw [State.ethBody_own dst pfc, if_neg arp, if_neg v4, if_neg v6]

end

/-! ### An IP packet received (R374, R383) -/

section
variable {src : Nat} {i : IpIn} (dst : i.dst = s.portIp s.engineId port) (proto : i.proto = 17)
include dst proto

theorem State.ipFrame_notUdp (none_ : udpRead i = none) : s.ipFrame port src icrc (some i) = s.otherFrame port := by
  rw [State.ipFrame]
  simp [dst, proto, none_]

/-- A datagram without a CE mark goes by its destination port. -/
theorem State.ipFrame_udp {sp dp : Nat} {u : List Byte} (udp : udpRead i = some (sp, dp, u)) (unmarked : i.ecn ≠ 3) : s.ipFrame port src icrc (some i) =
    if dp = s.rdF (gp .yzlg) 0x080 31 16 then s.yazPacket ⟨port, false, (List.range 5).map fun k => w64 (beAt u (8 * k) 8), u.drop 40⟩
    else if dp = 4791 then s.rocePacket port false icrc (roceParse u)
    else s.otherFrame port := by
  rw [State.ipFrame]
  simp [dst, proto, udp, unmarked]

end

end

/-! ### The clauses of O50 -/

section
variable {s : State} {n : Nat} {cmd : Instr}

theorem descCommand_clauses {op : Nat} (hn : n < 2 ^ 20)
    (mem : (op, cmd) ∈ [(0x10, Instr.roceSend n), (0x11, .roceWrite n), (0x12, .roceRead n), (0x01, .send n), (0x02, .control n)]) {x : YCtx} (hx : x = s.yctx n) :
    (x.state ≠ 1 ∨ x.fetch = x.pi ∨ x.cutting.isSome = true → exec cmd s = .next s)
    ∧ (x.state = 1 → x.fetch ≠ x.pi → x.cutting = none →
      (s.isHot n = false → exec cmd s = .next (s.ctxMiss n))
      ∧ (s.isHot n = true → ∀ g r, s.yazRead n (x.sqBase + 32 * (x.fetch % 2 ^ x.sqLog2)) 32 = (g, r) →
        (r = none → exec cmd s = .next (g.yazFail n 7 false))
        ∧ (∀ b, r = some b → descOk x.mode (toWords b) = false → exec cmd s = .next (g.yazFail n 6 false))
        ∧ (∀ b, r = some b → descOk x.mode (toWords b) = true →
          (fld ((toWords b).getD 0 0) 63 56 ≠ op → exec cmd s = .next s)
          ∧ (fld ((toWords b).getD 0 0) 63 56 = op → Completes cmd s fun t =>
              t.yctx n = (g.yctx n).taken (toWords b) ∧ (∀ m, m ≠ n → t.yctx m = g.yctx m) ∧ t.mem = g.mem ∧ t.regs = g.regs ∧ t.pkts = g.pkts)))) := by
  subst hx
  have runs {t : State} (h : s.descFetch n op = t) : exec cmd s = .next t := (descCommand_runs hn mem).trans (congrArg Host.Outcome.next h)
  refine ⟨fun idle => runs (State.descFetch_idle idle), fun open_ more cut => ⟨fun cold => runs (State.descFetch_miss open_ more cut cold), fun hot g r read => ?_⟩⟩
  obtain ⟨unread, words⟩ := State.descFetch_reads (op := op) open_ more cut hot read
  refine ⟨fun h => runs (unread h), fun b h bad => runs ((words b h).trans (if_pos (by rw [bad]; rfl))), fun b h good => ?_⟩
  have good' : ¬ (!descOk (s.yctx n).mode (toWords b)) = true := by rw [good]; decide
  refine ⟨fun other => runs ((words b h).trans ((if_neg good').trans (if_pos other))), fun own =>
    ⟨_, runs ((words b h).trans ((if_neg good').trans (if_neg fun ne => ne own))), State.yctx_setYctx .., fun m ne => State.yctx_setYctx_ne _ _ _ ne, rfl, rfl, rfl⟩⟩

theorem pacedSend_roce_clauses (hn : n < 2 ^ 20) {x : YCtx} (hx : x = s.yctx n) (mode : x.mode = 1) :
    (x.state ≠ 1 ∨ s.linkUp x.qport = false ∨ x.cutting = none → exec (.pacedSend n) s = .next s)
    ∧ (x.state = 1 → s.linkUp x.qport = true → ∀ d, x.cutting = some d →
      (s.isHot n = false → exec (.pacedSend n) s = .next (s.ctxMiss n))
      ∧ (s.isHot n = true → x.cwnd ≤ x.sent.length * 2 ^ 32 ∧ x.sent ≠ [] ∨ 256 * s.et < x.paced → exec (.pacedSend n) s = .next s)
      ∧ (s.isHot n = true → x.sent.length * 2 ^ 32 < x.cwnd ∨ x.sent = [] → x.paced ≤ 256 * s.et → d.op ≠ 0x12 → ∀ g r k, k = min 4096 (d.len - d.cut) →
          s.yazRead n (fld (d.words.getD 1 0) 47 0 + d.cut) k = (g, r) → (r = none → exec (.pacedSend n) s = .next (g.yazFail n 7 false))
          ∧ (∀ b, r = some b → g.yctx n = x → Completes (.pacedSend n) s fun t => (t.yctx n).seq = (x.seq + 1) % 2 ^ 24 ∧ (t.yctx n).state = 1
              ∧ (t.yctx n).sent = x.sent ++ [s.rocePkt x d b k] ∧ t.mem = g.mem ∧ t.pkts = g.pkts))) := by
  subst hx
  have runs {t : State} (h : s.rocePaced n = t) : exec (.pacedSend n) s = .next t := (pacedSend_roce hn mode).trans (congrArg Host.Outcome.next h)
  refine ⟨fun idle => runs (State.rocePaced_idle idle), fun open_ up d cut => ⟨fun cold => runs (State.rocePaced_miss open_ up cut cold),
    fun hot full => runs (State.rocePaced_waits open_ up cut hot full), fun hot room due op g r k hk read => ?_⟩⟩
  obtain ⟨unread, leaves⟩ := State.rocePaced_sends open_ up cut hot room due op hk read
  exact ⟨fun h => runs (unread h), fun b h same => pacedSend_roce_leaves hn mode open_ (leaves b h) same⟩

theorem pacedSend_yazal_clauses (hn : n < 2 ^ 20) {x : YCtx} (hx : x = s.yctx n) (mode : x.mode ≠ 1) :
    (x.state ≠ 1 ∨ (s.isHot n = true ∧ x.una + 256 ≤ x.seq) ∨ (s.isHot n = false ∧ x.ctl = [] ∧ x.cutting = none) → exec (.pacedSend n) s = .next s)
    ∧ (x.state = 1 → s.isHot n = false → x.ctl ≠ [] ∨ x.cutting ≠ none → exec (.pacedSend n) s = .next (s.ctxMiss n))
    ∧ (x.state = 1 → s.isHot n = true → x.seq < x.una + 256 →
      (nextPort (s.spraySet n) x.lastP = none → x.ctl ≠ [] ∨ x.cutting ≠ none → x.sent = [] → x.heldAt = none →
        exec (.pacedSend n) s = .next (s.setYctx n { x with heldAt := some s.et }))
      ∧ (∀ port m d rest, nextPort (s.spraySet n) x.lastP = some port → x.ctl = (m, d) :: rest → Completes (.pacedSend n) s fun t =>
          (t.yctx n).ctl = rest ∧ (t.yctx n).seq = x.seq + 1 ∧ (t.yctx n).lastP = port
          ∧ (t.yctx n).sent = x.sent ++ [⟨x.seq, port, s.et, 0, 0, true, true, 0, m, d, none⟩] ∧ t.mem = s.mem ∧ t.pkts = s.pkts)) := by
  subst hx
  have runs {t : State} (h : s.pacedSend n = t) : exec (.pacedSend n) s = .next t := (pacedSend_yazal hn mode).trans (congrArg Host.Outcome.next h)
  exact ⟨fun idle => runs (State.pacedSend_idle mode idle), fun open_ cold work => runs (State.pacedSend_miss mode open_ cold work), fun open_ hot room =>
    ⟨fun nowhere work none_ fresh => runs (State.pacedSend_holds mode open_ hot room nowhere work none_ fresh),
      fun _ _ _ _ next ctl => pacedSend_control_leaves hn mode open_ hot room next ctl⟩⟩

theorem rocePacket_served_clauses {port op psn va rkey len synd : Nat} {data : List Byte} {g : State} {p : RocePkt} (hn : n < 2 ^ 20) (hport : port < 64)
    (hpsn : psn < 2 ^ 24) {x : YCtx} (hx : x = s.yctx n) (hcmd : cmd = Instr.rocePacket port false true op n psn va rkey len synd data) (hg : g = (s.touch n).heard n)
    (hp : p = (⟨op, n, psn, va, rkey, len, synd, data⟩ : RocePkt)) (open_ : x.state = 1) (mode : x.mode = 1) (hot : s.isHot n = true) :
    (op = 0x81 → Completes cmd s fun t => (t.yctx n).cwnd = clampWin (x.cwnd / 2) ∧ (t.yctx n).idle = s.et ∧ (t.yctx n).sent = x.sent ∧ t.mem = s.mem ∧ t.regs = s.regs)
    ∧ (op = 17 → (synd < 0x20 → exec cmd s = .next (g.roceAcked n psn)) ∧ (synd = 0x60 → exec cmd s = .next ((g.roceAcked n (psn + 2 ^ 24 - 1)).roceAgain n psn))
        ∧ (0x60 < synd → exec cmd s = .next (g.yazFail n 6 false)))
    ∧ (13 ≤ op → op ≤ 16 → exec cmd s = .next (g.roceRead n p))
    ∧ (op ∈ [0, 1, 2, 4, 6, 7, 8, 10, 12] → ∀ d, d = (psn + 2 ^ 24 - x.rcum % 2 ^ 24) % 2 ^ 24 →
        (d = 0 → exec cmd s = .next (g.roceRequest n p)
          ∧ (∀ m, op = 10 → g.mrEntry rkey = (m, none) → exec cmd s = .next (m.roceError n psn 0x62))
          ∧ (∀ m e, op = 10 → g.mrEntry rkey = (m, some e) → mrAllows e 0 va (max len data.length) = false → exec cmd s = .next (m.roceError n psn 0x62)))
        ∧ (d ≠ 0 → d < 2 ^ 23 → exec cmd s = .next (g.roceAck n x.rcum 0x60))
        ∧ (2 ^ 23 ≤ d → op ≠ 12 → exec cmd s = .next (g.roceAck n (x.rcum + 2 ^ 24 - 1) 0)))
    ∧ (op ∉ [0, 1, 2, 4, 6, 7, 8, 10, 12] → (op < 13 ∨ 17 < op) → op ≠ 0x81 → exec cmd s = .next (g.roceError n psn 0x61)) := by
  subst hx
  obtain ⟨again, served⟩ := rocePacket_served hn hport hpsn hp hcmd open_ mode hot
  rw [← hg] at served
  have isOp : p.op = op := by rw [hp]
  have runs {t : State} (h : g.roceServed again n (s.yctx n).rcum p = t) : exec cmd s = .next t := served.trans (congrArg Host.Outcome.next h)
  subst hp
  refine ⟨fun cnp => rocePacket_slows hn hport hpsn hcmd open_ mode hot cnp, fun answer => ?_, fun low high => runs (State.roceServed_response low high),
    fun request d hd => ?_, fun invalid out cnp => runs (State.roceServed_invalid invalid out cnp)⟩
  · obtain ⟨ack, late, bad⟩ := State.roceServed_answer (s := g) (n := n) (again := again) (rcum := (s.yctx n).rcum) (p := ⟨op, n, psn, va, rkey, len, synd, data⟩) answer
    exact ⟨fun h => runs (ack h), fun h => runs (late h), fun h => runs (bad h)⟩
  · obtain ⟨now, ahead, behind⟩ := State.roceServed_request (s := g) (n := n) (again := again) (p := ⟨op, n, psn, va, rkey, len, synd, data⟩) request hd
    exact ⟨fun zero => ⟨runs (now zero), fun m only none_ => runs ((now zero).trans (State.roceRequest_unnamed only none_)),
      fun m e only named outside => runs ((now zero).trans (State.roceRequest_outside only named outside))⟩, fun ne lt => runs (ahead ne lt),
      fun le write => runs (behind le write)⟩

theorem ethFrameReceive_clauses {port : Nat} {fcs icrc : Bool} {f : List Byte} (hport : port < 64) (hcmd : cmd = Instr.ethFrameReceive port fcs icrc f)
    (up : s.linkUp port = true) :
    (fcs = false → exec cmd s = .next (s.bump (eav port) (0x0C0 + 8 * portHalf port) 63 48 1))
    ∧ (∀ k, fcs = true → beAt f 12 2 = 0x8100 → k = beAt f 14 2 / 8192 → s.pfcOn port k = true → exec cmd s = .next ((s.ethFrame port fcs icrc f).rxTurn port k))
    ∧ ((beAt f 12 2 = 0x8100 → s.pfcOn port (beAt f 14 2 / 8192) = false) → fcs = true → f.length + 4 < 64 ∨ 9216 < f.length + 4 → exec cmd s = .next (s.otherFrame port))
    ∧ ((beAt f 12 2 = 0x8100 → s.pfcOn port (beAt f 14 2 / 8192) = false) → fcs = true → 64 ≤ f.length + 4 → f.length + 4 ≤ 9216 → ∀ o et b,
        o = (if beAt f 12 2 = 0x8100 then 16 else 12) → et = beAt f o 2 → b = f.drop (o + 2) → exec cmd s = .next (s.ethBody port icrc f et b)) := by
  subst hcmd
  refine ⟨fun bad => ?_, fun k good tagged hk pfc => ?_, fun plain good len => ?_, fun plain good low high o et b ho het hb => ?_⟩
  · subst bad
    exact (ethFrameReceive_plain hport (.inr (.inl rfl))).trans (congrArg Host.Outcome.next (State.ethFrame_badFcs up))
  · subst good
    exact ethFrameReceive_fills up hport tagged hk pfc
  · subst good
    exact (ethFrameReceive_plain hport (.inr (.inr plain))).trans (congrArg Host.Outcome.next (State.ethFrame_badLength up len))
  · subst good
    exact (ethFrameReceive_plain hport (.inr (.inr plain))).trans (congrArg Host.Outcome.next (State.ethFrame_body up low high ho het hb))

theorem ipFrame_clauses {port src dp : Nat} {icrc : Bool} {i : IpIn} {u : List Byte} (out : State) (form : s.ipFrame port src icrc (some i) =
      if dp = s.rdF (gp .yzlg) 0x080 31 16 then s.yazPacket ⟨port, false, (List.range 5).map fun k => w64 (beAt u (8 * k) 8), u.drop 40⟩
      else if dp = 4791 then s.rocePacket port false icrc (roceParse u) else s.otherFrame port) (hout : out = s.ipFrame port src icrc (some i)) :
    (dp = s.rdF (gp .yzlg) 0x080 31 16 → out = s.yazPacket ⟨port, false, (List.range 5).map fun k => w64 (beAt u (8 * k) 8), u.drop 40⟩)
    ∧ (dp ≠ s.rdF (gp .yzlg) 0x080 31 16 → dp = 4791 → out = s.rocePacket port false icrc (roceParse u))
    ∧ (dp ≠ s.rdF (gp .yzlg) 0x080 31 16 → dp ≠ 4791 → out = s.otherFrame port) := by
  rw [hout, form]
  exact ⟨fun yazal => if_pos yazal, fun other roce => (if_neg other).trans (if_pos roce), fun other none_ => (if_neg other).trans (if_neg none_)⟩

end

/-- Settles O50, command by command: descriptors, timers, the next packet of a queue pair and of a stream, a packet at its queue pair, a frame. What the
opcodes and header fields of RoCEv2 are (log 62, PRESUMED), how Ethernet, IP and UDP headers lie and where the FCS is judged (log 54), how full a
receive buffer is (log 55) and how windows are counted (log 58) are the model's choices. -/
theorem roceContexts : Obligations.RoceContexts := by
  unfold Obligations.RoceContexts
  intro s n x hn hx
  refine ⟨fun op cmd mem => descCommand_clauses hn mem hx, fun mode => ?_, fun mode => ?_, fun mode => (pacedSend_roce_clauses hn hx mode).1,
    fun mode => (pacedSend_roce_clauses hn hx mode).2, fun mode => pacedSend_yazal_clauses hn hx mode, ?_, ?_⟩
  · subst hx
    exact rtoExpiry_roce hn mode
  · subst hx
    exact ⟨fun idle => (rtoExpiry_yazal hn mode).trans (congrArg Host.Outcome.next (State.rtoExpiry_idle idle)),
      fun p port open_ late own next few => rtoExpiry_resends hn mode open_ late own next few⟩
  · intro port ce icrc op psn va rkey len synd data hport hpsn cmd g p hcmd hg hp
    refine ⟨fun bad => ?_, fun good open_ mode cold => ?_, fun good open_ mode hot unmarked => ?_⟩
    · subst hx
      exact rocePacket_other hn hport hpsn hcmd bad
    · subst good hx
      exact rocePacket_waits hn hport hpsn hp hcmd open_ mode cold
    · subst good unmarked
      exact rocePacket_served_clauses hn hport hpsn hx hcmd hg hp open_ mode hot
  · intro port fcs icrc f hport cmd hcmd
    refine ⟨fun down => ?_, fun up => ?_⟩
    · subst hcmd
      exact (ethFrameReceive_plain hport (.inl down)).trans (congrArg Host.Outcome.next (State.ethFrame_down down))
    · obtain ⟨badFcs, fills, badLength, body⟩ := ethFrameReceive_clauses hport hcmd up
      refine ⟨badFcs, fills, badLength, fun plain good low high o et b ho het hb => ?_⟩
      have runs {t : State} (h : s.ethBody port icrc f et b = t) : exec cmd s = .next t := (body plain good low high o et b ho het hb).trans (congrArg Host.Outcome.next h)
      refine ⟨fun type pfc => runs (State.ethBody_pfc type pfc), fun type dst single => runs (State.ethBody_elsewhere type dst single), fun dst =>
        ⟨fun arp => runs (State.ethBody_arp dst arp), fun v4 none_ => runs (State.ethBody_ip dst (.inl ⟨v4, none_⟩)),
          fun v6 none_ => runs (State.ethBody_ip dst (.inr ⟨v6, none_⟩)), fun other => runs (State.ethBody_other dst other), fun i type me udp => ?_⟩⟩
      have ip := State.ethBody_ip (s := s) (icrc := icrc) dst type
      refine ⟨fun none_ => runs (ip.trans (State.ipFrame_notUdp me udp none_)), fun sp dp u read unmarked => ?_⟩
      obtain ⟨yazal, roce, other⟩ := ipFrame_clauses _ (State.ipFrame_udp (src := beAt f 6 6) (icrc := icrc) me udp read unmarked) ip
      exact ⟨fun h => runs (yazal h), fun h h' => runs (roce h h'), fun h h' => runs (other h h')⟩

end Sys2Proof.Machine

/-! ## What leaves the contexts of streams, or what they hold for good -/

namespace Sys2Proof.Machine

-- One proof at a time: the check's memory limit counts the stack of every thread that waits for an earlier proof.
set_option Elab.async false

/-- What a context holds for good: its configuration, the packets awaiting acknowledgement and the next SEQ. -/
def YCtx.core (x : YCtx) : List W64 × List YSent × Nat := (x.cfg, x.sent, x.seq)

/-- The part `F` of every context stands. -/
structure State.Streaming {α : Type} (F : YCtx → α) (s t : State) : Prop where
  stands : ∀ m, F (t.yctx m) = F (s.yctx m)

section
variable {α : Type} {F : YCtx → α} {s t u : State}

theorem State.Streaming.refl : State.Streaming F s s := ⟨fun _ => rfl⟩

theorem State.Streaming.trans (h : State.Streaming F s t) (k : State.Streaming F t u) : State.Streaming F s u := ⟨fun m => (k.stands m).trans (h.stands m)⟩

theorem State.Streaming.ite {c : Prop} {_ : Decidable c} (h : State.Streaming F s t) (k : State.Streaming F s u) : State.Streaming F s (if c then t else u) := by
  split
  · exact h
  · exact k

theorem State.Streaming.when {c : Prop} {_ : Decidable c} (h : State.Streaming F s t) : State.Streaming F s (if c then t else s) := h.ite .refl

theorem State.Streaming.unless {c : Prop} {_ : Decidable c} (h : State.Streaming F s t) : State.Streaming F s (if c then s else t) := State.Streaming.refl.ite h

theorem State.Streaming.foldl {β : Type} {f : State → β → State} (l : List β) (h : ∀ t a, State.Streaming F t (f t a)) (s : State) : State.Streaming F s (l.foldl f s) :=
  foldl_keeps (fun t => State.Streaming F s t) f (fun t a _ held => held.trans (h t a)) .refl

/-- A change that leaves the contexts. -/
theorem State.Streaming.of (h : t.rim.ctxs = s.rim.ctxs) : State.Streaming F s t := ⟨fun m => by rw [State.yctx_of h]⟩

/-- A change inside the engine alone. -/
theorem State.Streaming.inside (h : t.rim = s.rim) : State.Streaming F s t := .of (congrArg _ h)

theorem State.Streaming.setYctx {n : Nat} {x : YCtx} (own : F x = F (s.yctx n)) : State.Streaming F s (s.setYctx n x) := by
  refine ⟨fun m => ?_⟩
  by_cases same : m = n
  · subst same
    rw [State.yctx_setYctx]
    exact own
  · rw [State.yctx_setYctx_ne _ _ _ same]

end

section
variable {α : Type} {F : YCtx → α} (s : State)

theorem State.Streaming.wr (p : PageRef) (o : Nat) (v : W64) : State.Streaming F s (s.wr p o v) := .of rfl

theorem State.Streaming.wrF (p : PageRef) (o hi lo v : Nat) : State.Streaming F s (s.wrF p o hi lo v) := .of rfl

theorem State.Streaming.bump (p : PageRef) (o hi lo n : Nat) : State.Streaming F s (s.bump p o hi lo n) := .of rfl

/-- An injection that has acted is disarmed. -/
theorem State.Streaming.spent (p : PageRef) (bit : Nat) (c : Bool) : State.Streaming F s (if c then s.disarm p bit else s) := .when (.of rfl)

theorem State.Streaming.raise (p : PageRef) (bit : Nat) (inj : Bool) : State.Streaming F s (s.raise p bit inj) := .inside (State.raise_rim ..)

theorem State.Streaming.record (p : PageRef) (cause kind : Nat) (inj hand halt : Bool) (suite ref : Nat) (w : W64) :
    State.Streaming F s (s.record p cause kind inj hand halt suite ref w) := .of rfl

theorem State.Streaming.noted (p : PageRef) (o : Nat) (v : W64) (bit : Nat) (inj : Bool) : State.Streaming F s ((s.capture p o v).raise p bit inj) :=
  .inside ((State.raise_rim ..).trans (State.capture_rim ..))

/-! ### A job halt (R472, R473) -/

theorem State.Streaming.yazCtl (n mtype : Nat) (data : List Byte) : State.Streaming YCtx.core s (s.yazCtl n mtype data) := .when (.setYctx rfl)

theorem State.Streaming.haltForJob (code et i : Nat) : State.Streaming YCtx.core s (s.haltForJob code et i) := by
  unfold State.haltForJob
  split
  · exact .refl
  · exact (State.Streaming.inside (State.sendHalt_rim ..)).trans (.unless (.of rfl))

theorem State.Streaming.startJobHalt (i code et : Nat) : State.Streaming YCtx.core s (s.startJobHalt i code et) :=
  (State.Streaming.foldl _ (fun t i => (State.Streaming.haltForJob t code et i).trans (.wrF ..)) s).trans (.foldl _ (fun _ _ => State.Streaming.when (.yazCtl ..)) _)

/-! ### Larders, mirrors and Draught messages of a stream that fails (R359, R470, R503) -/

theorem State.Streaming.chuStallMsg (c : Nat) (release : Bool) : State.Streaming F s (s.chuStallMsg c release) :=
  ((State.Streaming.inside (State.modSuite_rim ..)).ite (.inside (State.modSuite_rim ..))).ite (State.Streaming.trans (.of rfl) (.inside (State.modSuite_rim ..)))

theorem State.Streaming.chuFed (c : Nat) : State.Streaming F s (s.chuFed c) := by
  have freed : State.Streaming F s (s.chuUnstall c) := by
    unfold State.chuUnstall
    split
    · exact (State.Streaming.wr s ..).trans (.chuStallMsg ..)
    · exact .refl
  exact freed.trans (.unless (.of rfl))

theorem State.Streaming.chuHalt (c code : Nat) : State.Streaming F s (s.chuHalt c code) :=
  (State.Streaming.inside (State.sendHalt_rim ..)).ite (State.Streaming.trans (t := (s.chuDelay c).1) (.of rfl) (.inside (State.modSuite_rim ..)))

theorem State.Streaming.larderLost (c j : Nat) (inj : Bool) : State.Streaming F s (s.larderLost c j inj) := by
  have shown (t : State) (v : Nat) : State.Streaming F t (t.chuState c v) := .of rfl
  have stopped (t : State) (code : Nat) : State.Streaming F t (t.chuStop c code) := ((shown t 3).trans (.chuFed ..)).trans (.chuHalt ..)
  exact (((State.Streaming.wrF s ..).trans (.noted _ _ _ _ _ _)).trans (.record ..)).trans (stopped _ _)

theorem State.Streaming.larderGone (n : Nat) : State.Streaming F s (s.larderGone n) :=
  .foldl _ (fun t c => .foldl _ (fun r j => .when (.larderLost r c j false)) t) s

/-- The mirrors that a Suite still runs. -/
theorem State.Streaming.mirrors (l : List Nat) : State.Streaming F s { s with rim := { s.rim with mirror := l } } := .of rfl

theorem State.Streaming.mirrorLost (n : Nat) : State.Streaming F s (s.mirrorLost n) :=
  .foldl _ (fun t _ => .when ((State.Streaming.mirrors t _).trans (.noted _ _ _ _ _ _))) s

theorem State.Streaming.peers (m : SMap DrPeer) : State.Streaming F s { s with rim := { s.rim with peers := m } } := .of rfl

theorem State.Streaming.draughtLost (n : Nat) : State.Streaming F s (s.draughtLost n) :=
  .foldl _ (fun t _ => .when ((State.Streaming.peers t _).trans (.unless ((State.Streaming.bump _ _ _ _ _ _).trans (.raise ..))))) s

theorem State.Streaming.mirrorCheck : State.Streaming F s s.mirrorCheck := .foldl _ (fun t _ => .when ((State.Streaming.mirrors t _).trans (.raise ..))) s

/-! ### A Cellar written (R338, R413, R440 to R442) -/

theorem State.Streaming.watchSet (stack page : Nat) (f : W64 → W64) : State.Streaming F s (s.watchSet stack page f) := by
  unfold State.watchSet
  split
  · exact .of rfl
  · split <;> exact .of rfl

theorem State.Streaming.heavy (stack page syms half suite : Nat) : State.Streaming F s (s.heavy stack page syms half suite) := by
  have watched : State.Streaming F s (s.watchSet stack page fun w => bumpFld w 47 32 1) := .watchSet ..
  exact State.Streaming.ite (((watched.trans (.spent ..)).trans (.noted _ _ _ _ _ _)).trans (.record ..)) watched

theorem State.Streaming.cellarUe (stack page addr half suite : Nat) (inj : Bool) : State.Streaming F s (s.cellarUe stack page addr half suite inj) := by
  have poisoned (t : State) : State.Streaming F t (t.poisonPage stack page) := .unless (.of rfl)
  exact ((((State.Streaming.bump s ..).trans (.noted _ _ _ _ _ _)).trans (.record ..)).trans (.watchSet ..)).trans (poisoned _)

theorem State.Streaming.pageWrong (stack page h wrong : Nat) : State.Streaming F s (s.pageWrong stack page h wrong) := .unless (.of rfl)

theorem State.Streaming.pageRead (stack page e suite : Nat) (scrub : Bool) : State.Streaming F s (s.pageRead stack page e suite scrub).1 := by
  have scrubbed (t : State) : State.Streaming F t (if scrub then t.bump (ecccPage stack) 0x090 31 16 1 else t) := .when (.bump ..)
  unfold State.pageRead
  dsimp only
  split
  · exact .refl
  · split
    · exact (State.Streaming.spent s ..).trans (.cellarUe ..)
    · split
      · exact .refl
      · have corrected := ((State.Streaming.pageWrong (F := F) s stack page 0 (s.pageOut stack e).1.2.2).trans (.pageWrong _ stack page 1 (s.pageOut stack e).2.2.2)).trans
          (.bump _ (ecccPage stack) 0x090 63 32 1)
        rw [apply_ite Prod.fst]
        exact ((corrected.trans (scrubbed _)).trans (.heavy ..)).ite (corrected.trans (scrubbed _))

theorem State.Streaming.unpoison (stack page : Nat) : State.Streaming F s (s.unpoison stack page) := by
  unfold State.unpoison
  extract_lets t
  split
  · exact .of rfl
  · exact .of rfl

theorem State.Streaming.pagesRead (stack suite : Nat) (pages errs : List Nat) : State.Streaming F s (s.pagesRead stack suite pages errs).1 := by
  induction pages generalizing s errs with
  | nil => exact .refl
  | cons p ps ih =>
    rw [State.pagesRead]
    split
    · exact (State.Streaming.pageRead s ..).trans (ih ..)
    · exact .pageRead s ..

theorem State.Streaming.pagesWrite (stack suite off : Nat) (vs : List Byte) (pages errs : List Nat) : State.Streaming F s (s.pagesWrite stack suite off vs pages errs).1 := by
  have stored (t : State) (a : Nat) (b : List Byte) : State.Streaming F t (t.stBytes a b) := .of rfl
  induction pages generalizing s errs with
  | nil => exact .refl
  | cons p ps ih =>
    rw [State.pagesWrite]
    dsimp only
    split
    · split
      · exact ((State.Streaming.unpoison s ..).trans (stored _ _ _)).trans (ih ..)
      · exact .refl
    · split
      · exact ((State.Streaming.pageRead s ..).trans (stored _ _ _)).trans (ih ..)
      · exact .pageRead s ..

theorem State.Streaming.cvuxItem (u : Nat) : State.Streaming F s (s.cvuxItem u).1 :=
  (State.Streaming.spent s ..).trans (.bump ..)

theorem State.Streaming.cvuxError (u key suite : Nat) (halts rec_ inj : Bool) : State.Streaming F s (s.cvuxError u key suite halts rec_ inj) :=
  ((State.Streaming.bump s ..).trans (.noted _ _ _ _ _ _)).trans (.when (.record ..))

theorem State.Streaming.ringBell (a : Nat) (vs : List Byte) : State.Streaming F s (s.ringBell a vs) := .when (.of rfl)

theorem State.Streaming.cellarAccess (stack off len : Nat) (data : Option (List Byte)) (suite src : Nat) (firmware : Bool) (errs : List Nat) :
    State.Streaming F s (s.cellarAccess stack off len data suite src firmware errs).1 := by
  unfold State.cellarAccess
  dsimp only
  split
  · exact .of rfl
  · split
    · dsimp only
      exact ((State.Streaming.spent s ..).trans (.bump ..)).trans (.noted _ _ _ _ _ _)
    · refine (State.Streaming.cvuxItem s stack).trans ?_
      split
      · dsimp only
        exact .cvuxError ..
      · split
        · split
          · exact (State.Streaming.pagesRead _ ..).trans (.wr ..)
          · exact .pagesRead _ ..
        · split
          · exact ((State.Streaming.pagesWrite _ ..).trans (.wr ..)).trans (.ringBell ..)
          · exact .pagesWrite _ ..

/-! ### A Shelf written (R36, R213, R216) -/

theorem State.Streaming.lineCheck (room line who errs : Nat) (addr : Bool) : State.Streaming F s (s.lineCheck room line who errs addr).1 := by
  have wrong (t : State) (v : Nat) : State.Streaming F t (t.lineWrong room line v) := .unless (.of rfl)
  have captured (t : State) (p : PageRef) (v : W64) : State.Streaming F t (t.capture p 0x080 v) := .inside (State.capture_rim ..)
  have noted (t : State) (f : RoomSt → RoomSt) : State.Streaming F t (t.modRoom room f) := .of rfl
  unfold State.lineCheck
  extract_lets p bits ue ce unarmed v far br bank w seen counted corrected told
  have start : State.Streaming F s unarmed := State.Streaming.ite (.of rfl) (.spent ..)
  split
  · have tallied : State.Streaming F s counted := (start.trans (captured _ _ _)).trans (.bump ..)
    split
    · exact tallied.trans (.inside (State.hitHalt_rim ..))
    · exact tallied.trans (.inside (State.hitDetect_rim ..))
  · split
    · have taken : State.Streaming F s corrected := (start.trans (wrong _ _)).trans (captured _ _ _)
      have raised : State.Streaming F s told := (taken.trans (.bump ..)).trans (.raise ..)
      dsimp only
      exact raised.trans (noted _ _)
    · exact start

theorem State.Streaming.linesCheck (room who : Nat) (lines : List Nat) : State.Streaming F s (s.linesCheck room who lines).1 := by
  induction lines generalizing s with
  | nil => exact .refl
  | cons l ls ih =>
    rw [State.linesCheck]
    split
    · exact (State.Streaming.lineCheck s ..).trans (ih _)
    · exact .lineCheck s ..

theorem State.Streaming.noteShelfUnmapped (room off who : Nat) : State.Streaming F s (s.noteShelfUnmapped room off who) :=
  .inside ((State.captureStep_rim ..).trans ((State.bump_rim ..).trans (State.raise_rim ..)))

theorem State.Streaming.noteDark (room off who : Nat) : State.Streaming F s (s.noteDark room off who) :=
  .unless (.inside ((State.captureStep_rim ..).trans ((State.bump_rim ..).trans ((State.raise_rim ..).trans (State.disarm_rim ..)))))

theorem State.Streaming.shelfStored (room a off n : Nat) (vs : List Byte) : State.Streaming F s ((s.stBytes a vs).dropBacks room off n) := .of rfl

theorem State.Streaming.shelfStLine (room off who : Nat) (vs : List Byte) : State.Streaming F s (s.shelfStLine room off who vs).1 := by
  unfold State.shelfStLine
  dsimp only
  split
  · exact .noteShelfUnmapped ..
  · split
    · exact (State.Streaming.linesCheck s ..).trans (.shelfStored ..)
    · exact .linesCheck s ..

theorem State.Streaming.shelfStLines (room who off : Nat) (vs : List Byte) (cuts : List (Nat × Nat)) : State.Streaming F s (s.shelfStLines room who off vs cuts).1 := by
  induction cuts generalizing s with
  | nil => exact .refl
  | cons e l ih => exact (State.Streaming.shelfStLine s ..).trans (ih _)

theorem State.Streaming.shelfStParts (room who off : Nat) (vs : List Byte) (cuts : List (Nat × Nat)) : State.Streaming F s (s.shelfStParts room who off vs cuts).1 := by
  induction cuts generalizing s with
  | nil => exact .refl
  | cons e l ih =>
    rw [State.shelfStParts]
    refine State.Streaming.trans ?_ (ih _)
    split
    · exact .noteDark ..
    · split
      · exact .noteShelfUnmapped ..
      · exact .shelfStLines ..

theorem State.Streaming.shelfSt (room off who : Nat) (vs : List Byte) : State.Streaming F s (s.shelfSt room off who vs).1 := by
  have looked : State.Streaming F s (if s.shelfLit room off vs.length then s.linesCheck room who (partLines off vs.length) else (s, false)).1 := by
    split
    · exact .linesCheck ..
    · exact .refl
  unfold State.shelfSt
  extract_lets r
  split
  · exact looked.trans (.shelfStored ..)
  · exact .shelfStParts ..

/-! ### A write and an arrival that a stream makes (R385, R391) -/

theorem State.Streaming.celMiss (a : Nat) : State.Streaming F s (s.celMiss a) := by
  unfold State.celMiss
  split
  · exact .when (.of rfl)
  · exact .refl

theorem State.Streaming.shelfPort_write (room off len suite who : Nat) (vs : List Byte) : State.Streaming F s (s.shelfPort room off len (some vs) suite who).1 := by
  unfold State.shelfPort
  dsimp only
  split
  · exact .refl
  · split
    · exact .of rfl
    · exact .refl
    · split <;> exact .shelfSt ..

theorem State.Streaming.suiteWrite (suite h a : Nat) (vs : List Byte) : State.Streaming F s (s.suiteWrite suite h a vs).1 := by
  unfold State.suiteWrite
  split
  · dsimp only
    split <;> exact .cellarAccess ..
  · dsimp only
    split <;> exact .shelfPort_write ..
  · exact .celMiss ..

theorem State.Streaming.endWaits (room n outcome : Nat) (ws : List Wait) : State.Streaming F s (s.endWaits room n outcome ws) := by
  have ended (t : State) (w : Wait) : State.Streaming F t (t.endWait room n w outcome) := by
    unfold State.endWait
    cases w.who with
    | brick b =>
      refine State.Streaming.trans (t := t.modBrick room b fun x => { x with lwait := .ended }) (.of rfl) ?_
      dsimp only
      split
      · split
        · exact State.Streaming.when (.inside (State.stallRelease_rim ..))
        · exact .refl
      · exact .refl
    | hearth r rd => exact .of rfl
    | remote k src tag => exact .of rfl
    | stream i => exact .inside (State.modSuite_rim ..)
    | chute c => exact .of rfl
  induction ws generalizing s with
  | nil => exact .refl
  | cons w ws ih => exact (ended s w).trans (ih _)

theorem State.Streaming.completeG (n : Nat) : State.Streaming F s (s.completeG n) := by
  have cleared (t : State) (r : Nat) : State.Streaming F t ((t.gSet r n 0x0C0 (t.gEarly r n)).gSet r n 0x0E0 false) := .of rfl
  have stored (t : State) (l : Latch) : State.Streaming F t (t.setGl n l) := .of rfl
  exact ((State.Streaming.foldl (if s.glCfg n 63 62 = 1 then s.gRooms n else []) (fun t r => cleared t r) s).trans (stored _ _)).trans (.endWaits ..)

theorem State.Streaming.lchgEvent (n bit : Nat) (w : W64) (halts hand inj : Bool) : State.Streaming F s (s.lchgEvent n bit w halts hand inj) := by
  have noted : State.Streaming F s ((s.capture (glPage n) 0x080 w).raise (glPage n) bit inj) := .noted ..
  unfold State.lchgEvent
  dsimp only
  split
  · exact (noted.trans (.when (.record ..))).trans (.when (.inside (State.sendHalt_rim ..)))
  · exact noted.trans (.when (.record ..))

theorem State.Streaming.gArriveRemote (n k suite : Nat) (hand : Bool) : State.Streaming F s (s.gArriveRemote n k suite hand) := by
  have stored (t : State) (l : Latch) : State.Streaming F t (t.setGl n l) := .of rfl
  have bad (inj : Bool) : State.Streaming F s (s.gBad n k 0 hand inj) := (State.Streaming.spent s ..).trans (.lchgEvent ..)
  have overrun (inj : Bool) : State.Streaming F s (s.gOverrun n k 0 hand inj) := ((State.Streaming.spent s ..).trans (.bump ..)).trans (.lchgEvent ..)
  unfold State.gArriveRemote
  dsimp only
  split
  · exact bad _
  · split
    · split
      · exact overrun _
      · exact stored _ _
    · split
      · exact stored _ _
      · split
        · exact .refl
        · exact (stored _ _).trans (.completeG ..)

theorem State.Streaming.yazNotify (n port : Nat) : State.Streaming F s (s.yazNotify n port) := by
  unfold State.yazNotify
  dsimp only
  split
  · exact .of rfl
  · exact .gArriveRemote ..
  · exact .refl

theorem State.Streaming.descDone (n fuel : Nat) : State.Streaming YCtx.core s (s.descDone n fuel) := by
  induction fuel generalizing s with
  | zero => exact .refl
  | succ fuel ih =>
    rw [State.descDone]
    dsimp only
    split
    · exact .refl
    · next d rest _ =>
      split
      · exact .refl
      · split
        · exact ((State.Streaming.setYctx (x := { s.yctx n with descs := rest }) rfl).trans (.mirrorCheck _)).trans (ih _)
        · refine State.Streaming.trans ?_ (ih _)
          refine (State.Streaming.setYctx (x := { s.yctx n with descs := rest, ci := ((s.yctx n).ci + 1) % 65536 }) rfl).trans ?_
          split
          · exact (State.Streaming.suiteWrite _ ..).trans (.yazNotify ..)
          · exact .suiteWrite _ ..

/-! ### A stream that fails (R359, R393, R470, R472, R503) -/

/-- The context that has failed with a cause. -/
def YCtx.failed (x : YCtx) (cause : Nat) : YCtx := { x with cfg := x.cfg.set 0 (setFld (setFld (x.w 0) 63 62 2) 44 40 cause) }

/-- The failure of a stream at its home engine, before anything else learns of it. -/
def State.failNoted (s : State) (n cause : Nat) (inj : Bool) : State :=
  ((s.setYctx n ((s.yctx n).failed cause)).capture (yzl (homeOf n)) 0x080 (put 63 56 0x01 ||| put 51 32 n)).raise (yzl (homeOf n)) 0 inj

/-- What depends on the stream learns of its failure. -/
def State.failTold (s : State) (n : Nat) : State := ((s.larderGone n).mirrorLost n).draughtLost n

variable {s}

theorem State.failNoted_yctx {n cause : Nat} (inj : Bool) : (s.failNoted n cause inj).yctx n = (s.yctx n).failed cause :=
  (State.yctx_of (congrArg Rim.ctxs ((State.raise_rim ..).trans (State.capture_rim ..))) n).trans (State.yctx_setYctx ..)

theorem State.yazFail_form {n cause : Nat} {inj : Bool} (open_ : (s.yctx n).state = 1) :
    s.yazFail n cause inj = ((s.failNoted n cause inj).failTold n) ∨
    s.yazFail n cause inj = ((s.failNoted n cause inj).failTold n).startJobHalt (s.yctx n).suite (Page.yzl.cls * 256 + 0x01) ((s.failNoted n cause inj).failTold n).et := by
  unfold State.yazFail
  extract_lets x
  rw [if_neg (fun h => h open_)]
  exact (ite_eq_or_eq ..).symm

end

end Sys2Proof.Machine

/-! ## Yazal contexts, streams and messages (O51) -/

namespace Sys2Proof.Machine

-- One proof at a time: the check's memory limit counts the stack of every thread that waits for an earlier proof.
set_option Elab.async false

/-! ### A packet at a port (R383, R384, R413) -/

section
variable {s : State} {n port pt : Nat} {ce : Bool} {words : List W64} {data : List Byte} {cmd : Instr} {p : YIn}

theorem yazPacket_runs (mem : (pt, cmd) ∈ [(0, Instr.yazalData port ce words data), (1, .yazalAck port ce words), (2, .yazalReset port ce words)]) (hport : port < 64)
    (hp : p = ⟨port, ce, words, if pt = 0 then data else []⟩) :
    exec cmd s = .next (if fld (words.getD 0 0) 59 56 = pt then (if ce then s.ceMark port else s).yazPacket p else s) := by
  have same : port % 64 = port := Nat.mod_eq_of_lt hport
  have part (k : Nat) (d : List Byte) : s.yazPart k port ce words d =
      if fld (words.getD 0 0) 59 56 = k then (if ce then s.ceMark port else s).yazPacket ⟨port, ce, words, d⟩ else s := by rw [State.yazPart, same]
  subst hp
  simp only [List.mem_cons, Prod.mk.injEq, List.not_mem_nil, or_false] at mem
  rcases mem with ⟨rfl, rfl⟩ | ⟨rfl, rfl⟩ | ⟨rfl, rfl⟩ <;> exact congrArg Host.Outcome.next (part ..)

/-- The state in which a port has counted a packet as an item and holds its PCHECK. -/
def State.pchecked (s : State) (port : Nat) (ce : Bool) (word : W64) : State :=
  ((if ce then s.ceMark port else s).cvuxItem (128 + port)).1.wr (cvuxPage (128 + port)) 0x108 word

theorem State.pchecked_form (unarmed : s.isArmed (cvuxPage (128 + port)) 0 = false) (word : W64) :
    s.pchecked port ce word = ((if ce then s.ceMark port else s).bump (cvuxPage (128 + port)) 0x088 31 0 1).wr (cvuxPage (128 + port)) 0x108 word := by
  have unarmed' : (if ce then s.ceMark port else s).isArmed (cvuxPage (128 + port)) 0 = false := by
    cases ce <;> exact unarmed
  rw [State.pchecked, State.cvuxItem]
  dsimp only
  rw [if_neg (by rw [unarmed']; decide)]

theorem State.pchecked_rim (unarmed : s.isArmed (cvuxPage (128 + port)) 0 = false) (word : W64) : (s.pchecked port ce word).rim = s.rim := by
  rw [State.pchecked_form unarmed, State.wr_rim, State.bump_rim, (s.ceMarked_rim ce port).1]

/-- What a packet's arrival at a port leaves: contexts, packets in the square, memory, the cache, the engine's own number. -/
theorem State.pchecked_keeps (unarmed : s.isArmed (cvuxPage (128 + port)) 0 = false) (word : W64) :
    (∀ m, (s.pchecked port ce word).yctx m = s.yctx m) ∧ (∀ m, (s.pchecked port ce word).isHot m = s.isHot m) ∧ (s.pchecked port ce word).mem = s.mem
    ∧ (s.pchecked port ce word).pkts = s.pkts ∧ (s.pchecked port ce word).et = s.et ∧ (s.pchecked port ce word).engineId = s.engineId := by
  have rim : (s.pchecked port ce word).rim = s.rim := State.pchecked_rim unarmed word
  have hot (m : Nat) : (s.pchecked port ce word).isHot m = s.isHot m := by rw [State.isHot, State.isHot, State.hotOf, State.hotOf, rim]
  refine ⟨fun m => State.yctx_of (by rw [rim]) m, hot, ?_⟩
  rw [State.pchecked_form unarmed]
  have marked : (if ce then s.ceMark port else s).engineId = s.engineId := by
    cases ce
    · rfl
    · have half := portHalf_lt port
      exact congrArg (fun v => fld v 15 0) (s.rd_wr_key _ (regKey_offs (by decide) (by omega) (by omega)))
  refine ⟨?_, ?_, ?_, Eq.trans ?_ marked⟩
  · cases ce <;> rfl
  · cases ce <;> rfl
  · cases ce <;> rfl
  · exact congrArg (fun v => fld v 15 0) ((State.rd_wr_key _ _ regKey_offs).trans (State.rd_wr_key _ _ regKey_offs))

/-- A packet for the stream `n`, its PCHECK compared. -/
theorem State.yazPacket_form {u g : State} (own : fld (p.words.getD 0 0) 51 32 = n) (unarmed : (u.cvuxItem (128 + p.port)).2 = false)
    (hg : g = (u.cvuxItem (128 + p.port)).1.wr (cvuxPage (128 + p.port)) 0x108 (p.words.getD 4 0)) :
    (pcheck g.engineId n (fld (p.words.getD 1 0) 63 32) p.data ≠ p.words.getD 4 0 → u.yazPacket p = g.cvuxError (128 + p.port) n (g.yctx n).suite false false false)
    ∧ (pcheck g.engineId n (fld (p.words.getD 1 0) 63 32) p.data = p.words.getD 4 0 →
      (yazFormOk p.words p.data.length = false → u.yazPacket p = g.bump (yzl (p.port / 2)) 0x090 63 48 1)
      ∧ (yazFormOk p.words p.data.length = true → p.ce = false →
        (g.isHot n = true → u.yazPacket p = (g.touch n).yazHandle p)
        ∧ (g.isHot n = false → u.yazPacket p = { g.ctxMiss n with rim := { (g.ctxMiss n).rim with ctxWait := g.rim.ctxWait ++ [p] } }))) := by
  have form : u.yazPacket p =
      if pcheck g.engineId n (fld (p.words.getD 1 0) 63 32) p.data ≠ p.words.getD 4 0 then g.cvuxError (128 + p.port) n (g.yctx n).suite false false false
      else if (!yazFormOk p.words p.data.length) = true then g.bump (yzl (p.port / 2)) 0x090 63 48 1
      else
        let marked := if p.ce then g.bump (yzl (homeOf n)) 0x098 47 32 1 else g
        if marked.isHot n then (marked.touch n).yazHandle p
        else { marked.ctxMiss n with rim := { (marked.ctxMiss n).rim with ctxWait := marked.rim.ctxWait ++ [p] } } := by
    rw [State.yazPacket, own, unarmed, ← hg]
    simp only [Bool.false_or, decide_eq_true_eq]
  refine ⟨fun differs => form.trans (if_pos differs), fun agrees => ?_⟩
  have past := form.trans (if_neg fun differs => differs agrees)
  refine ⟨fun bad => past.trans (if_pos (by rw [bad]; rfl)), fun good unmarked => ?_⟩
  have handled := past.trans (if_neg (by rw [good]; decide))
  rw [unmarked] at handled
  exact ⟨fun hot => handled.trans (if_pos hot), fun cold => handled.trans (if_neg (by rw [show (if false = true then g.bump (yzl (homeOf n)) 0x098 47 32 1 else g) = g from rfl, cold]; decide))⟩

end

/-! ### A packet at its home engine (R388, R392) -/

section
variable {s : State} {n : Nat} {p : YIn} (own : fld (p.words.getD 0 0) 51 32 = n)
include own

theorem State.yazHandle_data (type : fld (p.words.getD 0 0) 59 56 = 0) : s.yazHandle p = s.yazData n p := by
  subst own
  rw [State.yazHandle, type]
  rfl

theorem State.yazHandle_ack (type : fld (p.words.getD 0 0) 59 56 = 1) : s.yazHandle p = s.yazAck n p := by
  subst own
  rw [State.yazHandle, type]
  rfl

theorem State.yazHandle_reset (type : fld (p.words.getD 0 0) 59 56 = 2) : s.yazHandle p =
    if (s.yctx n).state = 1 ∧ (s.yctx n).mode = 0 ∧ fld (p.words.getD 3 0) 63 56 = (s.yctx n).epoch then s.yazFail n 3 false else s := by
  subst own
  rw [State.yazHandle, type]
  rfl

end

/-! ### DATA (R388, R389) -/

section
variable {s : State} {n : Nat} {p : YIn}

theorem State.yazData_shut (shut : (s.yctx n).state ≠ 1 ∨ (s.yctx n).mode ≠ 0 ∨ fld (p.words.getD 0 0) 31 16 ≠ (s.yctx n).peer) :
    s.yazData n p = s.yazReset n p.port (fld (p.words.getD 0 0) 31 16) (fld (p.words.getD 3 0) 63 56) 1 := if_pos shut

section
variable (open_ : (s.yctx n).state = 1) (mode : (s.yctx n).mode = 0) (peer : fld (p.words.getD 0 0) 31 16 = (s.yctx n).peer)
include open_ mode peer

theorem State.yazData_stale (stale : fld (p.words.getD 3 0) 63 56 ≠ (s.yctx n).epoch) : s.yazData n p = s.bump (yzl (homeOf n)) 0x090 47 32 1 :=
  (if_neg fun h => h.elim (fun h => h open_) fun h => h.elim (fun h => h mode) fun h => h peer).trans (if_pos stale)

theorem State.yazData_fresh (unmarked : p.ce = false) (epoch : fld (p.words.getD 3 0) 63 56 = (s.yctx n).epoch) {q : Nat × Bool} {u : State}
    (hq : q = seqNear (s.yctx n).rcum (fld (p.words.getD 1 0) 63 32))
    (hu : u = s.setYctx n { s.yctx n with ce := min 255 (s.yctx n).ce, lastTs := fld (p.words.getD 1 0) 31 0, idle := s.et }) :
    (q.2 = true ∨ ((s.yctx n).rgot.any fun e => e.1 = q.1) = true → s.yazData n p = u.yazAckNow n p.port)
    ∧ (q.2 = false → ((s.yctx n).rgot.any fun e => e.1 = q.1) = false →
      ((if (s.yctx n).dkind = 3 then (s.yctx n).dseq else (s.yctx n).rcum) + 255 < q.1 → s.yazData n p = u.bump (yzl (homeOf n)) 0x090 31 16 1)
      ∧ (q.1 ≤ (if (s.yctx n).dkind = 3 then (s.yctx n).dseq else (s.yctx n).rcum) + 255 →
          (s.yctx n).dkind = 1 ∨ (s.yctx n).dkind = 2 ∨ q.1 = (s.yctx n).rcum → s.yazData n p = u.yazAccept n q.1 p)) := by
  subst hq hu
  have form : s.yazData n p = _ := (if_neg fun h => h.elim (fun h => h open_) fun h => h.elim (fun h => h mode) fun h => h peer).trans (if_neg fun h => h epoch)
  rw [unmarked] at form
  refine ⟨fun known => form.trans (if_pos (by simpa only [Bool.or_eq_true] using known)), fun ahead fresh => ?_⟩
  have beyond := form.trans (if_neg (by rw [ahead, fresh]; decide))
  refine ⟨fun far => beyond.trans (if_pos far), fun near kind => ?_⟩
  refine beyond.trans ((if_neg (Nat.not_lt.mpr near)).trans (if_neg ?_))
  simp only [Bool.and_eq_true, decide_eq_true_eq]
  rintro ⟨⟨⟨one, two⟩, apart⟩, _⟩
  exact kind.elim one fun h => h.elim two apart

end

/-! ### ACK (R392 to R394) -/

theorem YCtx.core_ite {x y z : YCtx} {c : Prop} {_ : Decidable c} (hy : y.core = x.core) (hz : z.core = x.core) : (if c then y else z).core = x.core := by
  split
  · exact hy
  · exact hz

section
variable (x : YCtx) (a b c d : Nat) (l : List (Nat × Nat))

theorem YCtx.core_share : ({ x with alpha := a, alphaAt := b, ceSeen := c, ackSeen := d } : YCtx).core = x.core := rfl
theorem YCtx.core_seen : ({ x with ceSeen := a, ackSeen := b } : YCtx).core = x.core := rfl
theorem YCtx.core_grown : ({ x with cwnd := a } : YCtx).core = x.core := rfl
theorem YCtx.core_cut : ({ x with cwnd := a, decAt := b } : YCtx).core = x.core := rfl
theorem YCtx.core_rtt : ({ x with srtt := a, rttvar := b, rtts := l } : YCtx).core = x.core := rfl

end

theorem YCtx.sample_core (x : YCtx) (r et : Nat) : (x.sample r et).core = x.core := YCtx.core_ite (YCtx.core_rtt ..) (YCtx.core_rtt ..)

theorem State.respond_core (s : State) (x : YCtx) (rtt acked ce : Nat) : (s.respond x rtt acked ce).core = x.core := by
  unfold State.respond
  extract_lets cc target beta seen shared delay ecn
  have counted : seen.core = x.core := YCtx.core_seen ..
  have start : shared.core = x.core := YCtx.core_ite counted ((YCtx.core_share ..).trans counted)
  exact YCtx.core_ite ((YCtx.core_grown ..).trans start) (YCtx.core_ite start ((YCtx.core_cut ..).trans start))

/-- Every packet of a stream that awaits acknowledgement has a SEQ from `c` on, and the next SEQ is `q`. -/
def State.AckedTo (n c q : Nat) (t : State) : Prop := (∀ e, e ∈ (t.yctx n).sent → c ≤ e.seq) ∧ (t.yctx n).seq = q

section
variable {c q : Nat} {t : State}

theorem State.AckedTo.of_core {n c q : Nat} {s t : State} (h : State.AckedTo n c q s) (same : (t.yctx n).core = (s.yctx n).core) : State.AckedTo n c q t := by
  obtain ⟨above, next⟩ := h
  have sent : (t.yctx n).sent = (s.yctx n).sent := congrArg (fun k => k.2.1) same
  have seq : (t.yctx n).seq = (s.yctx n).seq := congrArg (fun k => k.2.2) same
  exact ⟨by rw [sent]; exact above, seq.trans next⟩

/-- The packets from `c` on are left. -/
theorem State.AckedTo.left {l : List YSent} (above : ∀ e, e ∈ l → c ≤ e.seq) (idle prog backo : Nat) :
    State.AckedTo n c (s.yctx n).seq (s.setYctx n { s.yctx n with sent := l, idle := idle, prog := prog, backo := backo }) := by
  rw [State.AckedTo, State.yctx_setYctx]
  exact ⟨above, rfl⟩

/-- A failure keeps the packets. -/
theorem State.AckedTo.yazFail (h : State.AckedTo n c q s) (cause : Nat) (inj : Bool) : State.AckedTo n c q (s.yazFail n cause inj) := by
  by_cases open_ : (s.yctx n).state = 1
  · have noted : State.AckedTo n c q (s.failNoted n cause inj) := by
      rw [State.AckedTo, State.failNoted_yctx]
      exact h
    have told : State.Streaming YCtx.core (s.failNoted n cause inj) ((s.failNoted n cause inj).failTold n) :=
      ((State.Streaming.larderGone _ n).trans (.mirrorLost ..)).trans (.draughtLost ..)
    rcases State.yazFail_form (cause := cause) (inj := inj) open_ with form | form
    · rw [form]
      exact noted.of_core (told.stands n)
    · rw [form]
      exact noted.of_core ((told.trans (.startJobHalt ..)).stands n)
  · rw [State.yazFail]
    exact (congrArg (State.AckedTo n c q) (if_pos open_)).mpr h

theorem State.AckedTo.resend (h : State.AckedTo n c q s) (seq : Nat) : State.AckedTo n c q (s.resend n seq) := by
  cases there : (s.yctx n).sent.find? fun p => p.seq = seq with
  | none => rw [State.resend, there]; exact h
  | some p =>
    cases next : nextPort (s.spraySet n) p.port with
    | none => rw [State.resend, there]; dsimp only; rw [next]; exact h
    | some port =>
      obtain ⟨above, seq'⟩ := h
      have put : State.AckedTo n c q (s.resendPut n p port) := by
        have ctx := ((State.resendPut_sends (s := s) n p port).yctx n).trans (State.yctx_setYctx ..)
        rw [State.AckedTo, ctx]
        refine ⟨fun e he => ?_, seq'⟩
        obtain ⟨d, hd, rfl⟩ := List.mem_map.mp he
        split
        · exact above p (List.mem_of_find?_eq_some there)
        · exact above d hd
      rw [State.resend_form there next]
      split
      · exact put.yazFail 2 false
      · exact put

end

/-- An ACK in its range takes the packets below it off the list, then those it shows as lost are sent again and what is done leaves. -/
theorem State.yazAck_form (open_ : (s.yctx n).state = 1) (mode : (s.yctx n).mode = 0) (peer : fld (p.words.getD 0 0) 31 16 = (s.yctx n).peer)
    (epoch : fld (p.words.getD 3 0) 63 56 = (s.yctx n).epoch) {q : Nat × Bool} (hq : q = seqNear (s.yctx n).una (fld (p.words.getD 1 0) 63 32)) :
    (q.2 = true ∨ (s.yctx n).seq < q.1 → s.yazAck n p = s)
    ∧ (q.2 = false → q.1 ≤ (s.yctx n).seq → ∃ y, ∃ lost : List YSent, State.AckedTo n q.1 (s.yctx n).seq (s.setYctx n y)
        ∧ s.yazAck n p = (lost.foldl (fun t (e : YSent) => t.resend n e.seq) (s.setYctx n y)).descDone n 40000) := by
  have inside : ¬ ((s.yctx n).state ≠ 1 ∨ (s.yctx n).mode ≠ 0 ∨ fld (p.words.getD 0 0) 31 16 ≠ (s.yctx n).peer ∨ fld (p.words.getD 3 0) 63 56 ≠ (s.yctx n).epoch) :=
    fun h => h.elim (fun h => h open_) fun h => h.elim (fun h => h mode) fun h => h.elim (fun h => h peer) fun h => h epoch
  unfold State.yazAck
  extract_lets x w una r cum sacked left acked rtt moved sampled answered t above lost u
  have near : r = q := hq.symm
  rw [if_neg inside]
  refine ⟨fun out => if_pos (by rw [near]; exact out), fun ahead low => ?_⟩
  have reached : ¬ (r.2 = true ∨ x.seq < r.1) := by
    rw [near, ahead]
    rintro (h | h)
    · exact absurd h (by decide)
    · exact Nat.not_lt.mpr low h
  rw [if_neg reached]
  have from_ : cum = q.1 := congrArg Prod.fst near
  have kept : ∀ e, e ∈ left → q.1 ≤ e.seq := fun e he => from_ ▸ of_decide_eq_true (Bool.and_eq_true_iff.mp (List.mem_filter.mp he).2).1
  have core : answered.core = moved.core := (State.respond_core ..).trans (YCtx.core_ite (YCtx.sample_core ..) rfl)
  have freed : State.AckedTo n q.1 (s.yctx n).seq (s.setYctx n moved) := State.AckedTo.left kept ..
  refine ⟨answered, lost, freed.of_core ?_, rfl⟩
  rw [State.yctx_setYctx, State.yctx_setYctx]
  exact core

theorem State.yazAck_shut (shut : (s.yctx n).state ≠ 1 ∨ (s.yctx n).mode ≠ 0 ∨ fld (p.words.getD 0 0) 31 16 ≠ (s.yctx n).peer
    ∨ fld (p.words.getD 3 0) 63 56 ≠ (s.yctx n).epoch) : s.yazAck n p = s := if_pos shut

theorem State.yazAck_frees {lost : List YSent} {c q : Nat} (start : State.AckedTo n c q s) :
    State.AckedTo n c q ((lost.foldl (fun t (e : YSent) => t.resend n e.seq) s).descDone n 40000) :=
  State.AckedTo.of_core (foldl_keeps (State.AckedTo n c q) _ (fun _ e _ held => held.resend e.seq) start) ((State.Streaming.descDone ..).stands n)

end

/-! ### A stream that fails (R393) -/

section
variable {s : State} {n cause : Nat}

/-- Word 0 of an open context can be replaced. -/
theorem YCtx.set_word {x : YCtx} (open_ : x.state = 1) (v : W64) : (x.cfg.set 0 v).getD 0 0 = v := by
  cases words : x.cfg with
  | nil =>
    rw [YCtx.state, YCtx.w, words] at open_
    exact absurd open_ (by decide)
  | cons w l => rfl

theorem YCtx.failed_word {x : YCtx} (open_ : x.state = 1) (cause : Nat) : (x.failed cause).w 0 = setFld (setFld (x.w 0) 63 62 2) 44 40 cause :=
  YCtx.set_word open_ _

theorem YCtx.failed_state {x : YCtx} (open_ : x.state = 1) : (x.failed cause).state = 2 := by
  rw [YCtx.state, YCtx.failed_word open_, fld_setFld_ne _ (by decide) (by omega)]
  exact fld_setFld _ (by decide) (by decide)

theorem YCtx.failed_cause {x : YCtx} (open_ : x.state = 1) (low : cause < 32) : fld ((x.failed cause).w 0) 44 40 = cause := by
  rw [YCtx.failed_word open_]
  exact fld_setFld _ (by decide) low

/-- A failed stream's configuration, and what its home engine has raised, outlast what depends on it. -/
theorem State.yazFail_tells (open_ : (s.yctx n).state = 1) (inj : Bool) :
    ((s.yazFail n cause inj).yctx n).cfg = ((s.yctx n).failed cause).cfg ∧ tst ((s.yazFail n cause inj).rd (yzl (homeOf n)) 0x028) 0 = true := by
  have told : State.Streaming YCtx.core (s.failNoted n cause inj) ((s.failNoted n cause inj).failTold n) :=
    ((State.Streaming.larderGone _ n).trans (.mirrorLost ..)).trans (.draughtLost ..)
  have fades : State.Fades (s.failNoted n cause inj) ((s.failNoted n cause inj).failTold n) :=
    ((State.Fading.larderGone _ n).trans (.mirrorLost ..)).trans (.draughtLost ..)
  have noted : ((s.failNoted n cause inj).yctx n).core = ((s.yctx n).failed cause).core := by rw [State.failNoted_yctx]
  have raised : tst ((s.failNoted n cause inj).rd (yzl (homeOf n)) 0x028) 0 = true := State.raise_sets _ _ rfl (by decide)
  have home : homeOf n < 32 := Nat.mod_lt _ (by decide)
  have low : regKey (yzl (homeOf n)) 0x028 < 2 ^ 32 * 41 := by
    change 34 * 2 ^ 32 + homeOf n * 2 ^ 12 + 0x028 < 2 ^ 32 * 41
    omega
  have whole {t : State} (core : State.Streaming YCtx.core (s.failNoted n cause inj) t) (fade : State.Fades (s.failNoted n cause inj) t) :
      (t.yctx n).cfg = ((s.yctx n).failed cause).cfg ∧ tst (t.rd (yzl (homeOf n)) 0x028) 0 = true :=
    ⟨congrArg (fun k => k.1) ((core.stands n).trans noted), fade.event _ _ (show 10 < 34 by decide) low raised⟩
  rcases State.yazFail_form (cause := cause) (inj := inj) open_ with form | form
  · rw [form]
    exact whole told fades
  · rw [form]
    exact whole (told.trans (.startJobHalt ..)) (fades.trans (.startJobHalt ..))

theorem State.yazFail_clauses (open_ : (s.yctx n).state = 1) (low : cause < 32) {g : State} (hg : g = s.yazFail n cause false) :
    (g.yctx n).state = 2 ∧ fld ((g.yctx n).w 0) 44 40 = cause ∧ tst (g.rd (yzl (homeOf n)) 0x028) 0 = true := by
  subst hg
  obtain ⟨cfg, raised⟩ := State.yazFail_tells (cause := cause) open_ false
  have word : ((s.yazFail n cause false).yctx n).w 0 = ((s.yctx n).failed cause).w 0 := by rw [YCtx.w, YCtx.w, cfg]
  rw [YCtx.state, word]
  exact ⟨YCtx.failed_state open_, YCtx.failed_cause open_ low, raised⟩

end

/-- A packet sent leaves every register but its port's check value. -/
theorem State.yazOut_rd (s : State) {q : PageRef} {o port : Nat} (apart : regKey q o ≠ regKey (cvuxPage (128 + port)) 0x100) (cls dst stream seq : Nat) (w : List W64)
    (data : List Byte) : (s.yazOut port cls dst stream seq w data).rd q o = s.rd q o := by
  refine Eq.trans ?_ (s.rd_wr_key (pcheck dst stream seq data) apart)
  rw [State.rd, State.rd]
  exact congrArg (fun r => smGet (regReset q.page o) r (regKey q o)) (State.sendFrame_regs ..)

/-! ### Timers of a stream (R387, R392, R393) -/

section
variable {s : State} {n : Nat} {x : YCtx} (hn : n < 2 ^ 20) (hx : x = s.yctx n)
include hn hx

theorem ackDelay_idle {port : Nat} (idle : x.ackDue = none ∨ x.state ≠ 1) : exec (.ackDelay n port) s = .next s := by
  subst hx
  change execAckDelay n port s = _
  rw [execAckDelay, Nat.mod_eq_of_lt hn]
  cases due : (s.yctx n).ackDue with
  | none => rfl
  | some b => exact if_neg fun h => idle.elim (fun none_ => nomatch none_.symm.trans due) fun shut => shut h.2

theorem ackDelay_of {port b : Nat} (hport : port < 64) (due : x.ackDue = some b) :
    exec (.ackDelay n port) s = if b ≤ s.et ∧ x.state = 1 then .next (s.yazAckNow n port) else .next s := by
  subst hx
  change execAckDelay n port s = _
  rw [execAckDelay, Nat.mod_eq_of_lt hn, Nat.mod_eq_of_lt hport]
  rw [due]

omit hn in
theorem State.yazAckNow_tells (port : Nat) : (s.yazAckNow n port).yctx n = { x with toAck := 0, ackDue := none, ce := 0, idle := s.et }
    ∧ (∀ q o, regKey q o ≠ regKey (cvuxPage (128 + port)) 0x100 → (s.yazAckNow n port).rd q o = s.rd q o) ∧ (s.yazAckNow n port).mem = s.mem
    ∧ (s.yazAckNow n port).pkts = s.pkts := by
  subst hx
  unfold State.yazAckNow
  extract_lets x sack t
  have sends : State.Sends t _ := State.yazOut_sends t port 0 x.peer x.peerStream (x.rcum % 2 ^ 32)
    [yazWord0 1 0 false false x.peerStream t.engineId x.peer, put 63 32 x.rcum ||| put 31 0 x.lastTs, sack,
      put 63 56 x.epoch ||| put 47 40 (min 255 x.ce) ||| put 39 32 port] []
  exact ⟨(sends.yctx n).trans (State.yctx_setYctx ..), fun q o apart => t.yazOut_rd apart .., sends.mem, sends.pkts⟩

theorem pathHoldExpiry_lifts : Completes (.pathHoldExpiry n) s fun t => t.yctx n = { x with excl := x.excl.filter fun e => decide (s.et < e.2) }
    ∧ (∀ m, m ≠ n → t.yctx m = s.yctx m) ∧ t.regs = s.regs ∧ t.mem = s.mem ∧ t.pkts = s.pkts := by
  subst hx
  refine ⟨_, rfl, ?_⟩
  rw [Nat.mod_eq_of_lt hn]
  exact ⟨State.yctx_setYctx .., fun m ne => State.yctx_setYctx_ne _ _ _ ne, rfl, rfl, rfl⟩

theorem streamTimeout_clauses {b : Option Nat} (hb : b = (if x.sent ≠ [] then some x.prog else x.heldAt)) :
    (b = none ∨ x.state ≠ 1 → exec (.streamTimeout n) s = .next s)
    ∧ (∀ v, b = some v → s.et < v + usToEt s.streamUs → exec (.streamTimeout n) s = .next s)
    ∧ (∀ v, b = some v → x.state = 1 → v + usToEt s.streamUs ≤ s.et → exec (.streamTimeout n) s = .next (s.yazFail n 1 false)) := by
  subst hx
  change (_ → execStreamTimeout n s = _) ∧ (∀ v, _ → _ → execStreamTimeout n s = _) ∧ ∀ v, _ → _ → _ → execStreamTimeout n s = _
  rw [execStreamTimeout, Nat.mod_eq_of_lt hn]
  rw [← hb]
  refine ⟨fun idle => ?_, fun v since early => ?_, fun v since open_ late => ?_⟩
  · cases b with
    | none => rfl
    | some v => exact if_neg fun h => idle.elim (fun none_ => nomatch none_) fun shut => shut h.1
  · rw [since]
    exact if_neg fun h => Nat.not_le.mpr early h.2
  · rw [since]
    exact if_pos ⟨open_, late⟩

theorem keepalive_idle (idle : x.state ≠ 1 ∨ x.keep = false ∨ s.et < x.idle + usToEt s.keepUs) : exec (.keepalive n) s = .next s := by
  subst hx
  change execKeepalive n s = _
  rw [execKeepalive, Nat.mod_eq_of_lt hn]
  refine if_neg fun h => ?_
  obtain ⟨open_, keeps, late⟩ := h
  rcases idle with shut | off | early
  · exact shut open_
  · exact absurd keeps (by rw [off]; decide)
  · exact Nat.not_lt.mpr late early

theorem keepalive_greets (open_ : x.state = 1) (keeps : x.keep = true) (late : x.idle + usToEt s.keepUs ≤ s.et) : Completes (.keepalive n) s fun t =>
    t.yctx n = { x with ctl := x.ctl ++ [(0x01, [])], idle := s.et } ∧ t.regs = s.regs ∧ t.mem = s.mem ∧ t.pkts = s.pkts := by
  subst hx
  have ctl : s.yazCtl n 0x01 [] = s.setYctx n { s.yctx n with ctl := (s.yctx n).ctl ++ [(0x01, [])] } := if_pos open_
  have does : exec (.keepalive n) s = .next ((s.yazCtl n 0x01 []).modYctx n fun x => { x with idle := s.et }) := by
    change execKeepalive n s = _
    rw [execKeepalive, Nat.mod_eq_of_lt hn]
    exact if_pos ⟨open_, keeps, late⟩
  rw [ctl] at does
  refine ⟨_, does, ?_, rfl, rfl, rfl⟩
  rw [State.modYctx, State.yctx_setYctx, State.yctx_setYctx]

end

/-! ### Doorbells (R386) -/

section
variable {s : State} {b : Nat} {v : W64} {l : List (Nat × W64)} {n : Nat}

theorem doorbell_none (silent : s.rim.bells = []) : exec .doorbell s = .next s := by
  change execDoorbell s = _
  rw [execDoorbell, silent]

theorem doorbell_runs (rung : s.rim.bells = (b, v) :: l) : exec .doorbell s = .next ({ s with rim := { s.rim with bells := l } }.doorbell b v) := by
  change execDoorbell s = _
  rw [execDoorbell, rung]

/-- A refused doorbell: counted, captured and raised. -/
def State.bellRefused (s : State) (n : Nat) : State :=
  ((s.bump (yzl (homeOf n)) 0x098 63 48 1).capture (yzl (homeOf n)) 0x080 (put 63 56 0x02 ||| put 51 32 n)).raise (yzl (homeOf n)) 1 false

theorem State.doorbell_of (own : fld v 51 32 = n) (unarmed : s.isArmed (yzl (homeOf n)) 1 = false) : s.doorbell b v =
    if (s.yctx n).suite ≠ b ∨ (s.yctx n).state ≠ 1 ∨ 2 ^ (s.yctx n).sqLog2 < (fld v 15 0 + 65536 - (s.yctx n).ci) % 65536 then s.bellRefused n
    else s.setYctx n { s.yctx n with pi := fld v 15 0 } := by
  subst own
  rw [State.doorbell, unarmed]
  simp only [Bool.false_eq_true, false_or, if_false]
  rfl

theorem doorbell_clauses {x : YCtx} (hx : x = s.yctx n) (rung : s.rim.bells = (b, v) :: l) (own : fld v 51 32 = n) (unarmed : s.isArmed (yzl (homeOf n)) 1 = false) :
    (x.suite = b → x.state = 1 → (fld v 15 0 + 65536 - x.ci) % 65536 ≤ 2 ^ x.sqLog2 → Completes .doorbell s fun t =>
      t.yctx n = { x with pi := fld v 15 0 } ∧ t.rim.bells = l ∧ t.regs = s.regs ∧ t.mem = s.mem)
    ∧ (x.suite ≠ b ∨ x.state ≠ 1 ∨ 2 ^ x.sqLog2 < (fld v 15 0 + 65536 - x.ci) % 65536 → Completes .doorbell s fun t =>
      t.yctx n = x ∧ t.rim.bells = l ∧ tst (t.rd (yzl (homeOf n)) 0x028) 1 = true ∧ t.mem = s.mem) := by
  subst hx
  have does := (doorbell_runs rung).trans (congrArg Host.Outcome.next (State.doorbell_of (s := { s with rim := { s.rim with bells := l } }) own unarmed))
  have rim (t : State) : (t.bellRefused n).rim = t.rim := (State.raise_rim ..).trans ((State.capture_rim ..).trans (State.bump_rim ..))
  have mem (t : State) : (t.bellRefused n).mem = t.mem := (State.raise_mem ..).trans ((State.capture_mem ..).trans (State.bump_mem ..))
  refine ⟨fun suite open_ fits => ?_, fun bad => ?_⟩
  · have fair : ¬ ((s.yctx n).suite ≠ b ∨ (s.yctx n).state ≠ 1 ∨ 2 ^ (s.yctx n).sqLog2 < (fld v 15 0 + 65536 - (s.yctx n).ci) % 65536) :=
      fun h => h.elim (fun h => h suite) fun h => h.elim (fun h => h open_) (Nat.not_lt.mpr fits)
    exact ⟨_, does.trans (congrArg Host.Outcome.next (if_neg fair)), State.yctx_setYctx .., rfl, rfl, rfl⟩
  · exact ⟨_, does.trans (congrArg Host.Outcome.next (if_pos bad)), State.yctx_of (congrArg Rim.ctxs (rim _)) n, congrArg Rim.bells (rim _), State.raise_sets _ _ rfl (by decide), mem _⟩

end

/-! ### Messages that wait for their own command (R391, R396) -/

/-- The next packet in order of an open stream, where it has come. -/
theorem State.yazTake_next {s : State} {n mtype q : Nat} {e : YRecv} (open_ : (s.yctx n).state = 1) (next : ((s.yctx n).rgot.find? fun e => e.1 = (s.yctx n).dseq) = some (q, e)) :
    s.yazTake n mtype = if e.cls = 0 ∧ e.mtype = mtype then (s.yazDone n e, some e) else (s, none) := by
  rw [State.yazTake]
  simp only [open_, if_true, next]

section
variable {s : State} {n : Nat} (hn : n < 2 ^ 20)
include hn

theorem hello_runs : exec (.hello n) s = .next ((s.yazTake n 0x01).1.yazDeliver n 300) := by
  change execHello n s = _
  rw [execHello, Nat.mod_eq_of_lt hn]

theorem latchArrive_idle (idle : (s.yctx n).state ≠ 1 ∨ ((s.yctx n).rgot.find? fun e => e.1 = (s.yctx n).dseq) = none) : exec (.latchArrive n) s = .next s := by
  have nothing : s.yazTake n 0x10 = (s, none) := by
    rw [State.yazTake]
    by_cases open_ : (s.yctx n).state = 1
    · simp only [open_, if_true, idle.resolve_left (fun h => h open_)]
    · simp only [open_, if_false]
  change execLatchArrive n s = _
  rw [execLatchArrive, Nat.mod_eq_of_lt hn]
  rw [nothing]

theorem latchArrive_clauses {q : Nat} {e : YRecv} (open_ : (s.yctx n).state = 1) (next : ((s.yctx n).rgot.find? fun e => e.1 = (s.yctx n).dseq) = some (q, e)) :
    (e.cls ≠ 0 ∨ e.mtype ≠ 0x10 → exec (.latchArrive n) s = .next s)
    ∧ (e.cls = 0 → e.mtype = 0x10 → exec (.latchArrive n) s = .next (((s.yazDone n e).latchMsg n e).yazDeliver n 300)) := by
  change (_ → execLatchArrive n s = _) ∧ (_ → _ → execLatchArrive n s = _)
  rw [execLatchArrive, Nat.mod_eq_of_lt hn]
  rw [State.yazTake_next open_ next]
  refine ⟨fun other => ?_, fun cls type => ?_⟩
  · rw [if_neg fun h => other.elim (fun o => o h.1) fun o => o h.2]
  · rw [if_pos ⟨cls, type⟩]

end

/-! ### A context read from the store (R380, R381) -/

section
variable {s t : State} {stack : Nat}

/-- Whether a page's channel serves and the page is good. -/
def State.pageServes (s : State) (stack page : Nat) : Bool := s.channelUp stack page && !(s.isArmed (ecccPage stack) 0 || s.poisoned stack page)

theorem State.pageOut_clean (s : State) (stack : Nat) : s.pageOut stack 0 = ((0, false, 0), (0, false, 0)) := by
  unfold State.pageOut pageVerdict
  rw [Nat.zero_mod, Nat.zero_div, Nat.zero_mod]
  rfl

/-- A page read without upsets serves and changes nothing, or it does not serve. -/
theorem State.pageRead_clean (s : State) (stack page suite : Nat) (scrub : Bool) :
    (s.pageRead stack page 0 suite scrub).2 = s.pageServes stack page ∧ (s.pageServes stack page = true → (s.pageRead stack page 0 suite scrub).1 = s) := by
  unfold State.pageRead State.pageServes
  extract_lets p codeT v0 v1 h0 h1 inj bad
  have clean0 : h0 = 0 := congrArg (fun v => v.1.1) (s.pageOut_clean stack)
  have clean1 : h1 = 0 := congrArg (fun v => v.2.1) (s.pageOut_clean stack)
  have good0 : bad h0 = false := decide_eq_false (by rw [clean0]; exact Nat.not_lt_zero _)
  have good1 : bad h1 = false := decide_eq_false (by rw [clean1]; exact Nat.not_lt_zero _)
  cases up : s.channelUp stack page with
  | false => exact ⟨rfl, fun h => nomatch (Bool.and_eq_true_iff.mp h).1⟩
  | true =>
    rw [if_neg (c := (!true) = true) (by decide), good0, good1, Bool.or_false, Bool.or_false]
    cases poor : inj || s.poisoned stack page with
    | true => exact ⟨rfl, fun h => absurd h (by decide)⟩
    | false =>
      rw [if_neg Bool.false_ne_true, if_pos ⟨clean0, clean1⟩]
      exact ⟨rfl, fun _ => rfl⟩

theorem State.pagesRead_clean (s : State) (stack suite : Nat) (pages : List Nat) :
    (s.pagesRead stack suite pages []).2 = pages.all (s.pageServes stack) ∧ (pages.all (s.pageServes stack) = true → (s.pagesRead stack suite pages []).1 = s) := by
  induction pages with
  | nil => exact ⟨rfl, fun _ => rfl⟩
  | cons p ps ih =>
    obtain ⟨result, same⟩ := s.pageRead_clean stack p suite false
    have step : s.pagesRead stack suite (p :: ps) [] =
        if (s.pageRead stack p 0 suite false).2 then (s.pageRead stack p 0 suite false).1.pagesRead stack suite ps [] else s.pageRead stack p 0 suite false := rfl
    rw [step, List.all_cons]
    cases serves : s.pageServes stack p with
    | false =>
      rw [serves] at result
      rw [if_neg (by rw [result]; decide)]
      exact ⟨result, fun h => nomatch (Bool.and_eq_true_iff.mp h).1⟩
    | true =>
      rw [if_pos (result.trans serves), same serves, Bool.true_and]
      exact ih

/-- What Porch firmware reads from a Cellar, where it can (R380, R438 to R442). -/
def State.firmwareBytes (s : State) (stack off len : Nat) : Option (List Byte) :=
  if off < cellarBytes ∧ off + len ≤ cellarBytes ∧ s.isArmed (cvuxPage stack) 0 = false
      ∧ (pagesOf off len).all ((s.bump (cvuxPage stack) 0x088 31 0 1).pageServes stack) = true
  then some ((s.bump (cvuxPage stack) 0x088 31 0 1).celLd stack off len) else none

/-- A read of Porch firmware gives bytes just where `firmwareBytes` does, and then leaves memory. -/
theorem State.firmwareRead (s : State) (stack off len : Nat) :
    (∀ d, (s.cellarAccess stack off len none 0 0 true []).2 = .ok d ↔ s.firmwareBytes stack off len = some d)
    ∧ (∀ d, s.firmwareBytes stack off len = some d →
      (s.cellarAccess stack off len none 0 0 true []).1.mem = s.mem ∧ (s.cellarAccess stack off len none 0 0 true []).1.rim = s.rim) := by
  unfold State.cellarAccess State.firmwareBytes
  extract_lets p inj denied c t r
  have nothing {r : CelRes} {P : Prop} (bad : ∀ d, r ≠ .ok d) :
      (∀ d, r = .ok d ↔ (none : Option (List Byte)) = some d) ∧ ∀ d, (none : Option (List Byte)) = some d → P :=
    ⟨fun d => ⟨fun h => absurd h (bad d), fun h => (nomatch h)⟩, fun _ h => nomatch h⟩
  by_cases below : off < cellarBytes
  swap
  · rw [if_pos (Nat.not_lt.mp below), if_neg fun h => below h.1]
    exact nothing fun _ h => nomatch h
  rw [if_neg (Nat.not_le.mpr below)]
  have unarmed : inj = false := rfl
  by_cases within : off + len ≤ cellarBytes
  swap
  · rw [if_pos (by rw [decide_eq_true (Nat.not_le.mp within), Bool.or_true]), if_neg fun h => within h.2.1]
    exact nothing fun _ h => nomatch h
  rw [if_neg (by rw [unarmed, Bool.true_or, decide_eq_false (Nat.not_lt.mpr within)]; decide)]
  cases armed : s.isArmed (cvuxPage stack) 0 with
  | true =>
    have inject : c.2 = true := armed
    rw [inject, if_pos (Bool.true_or _), if_neg fun h => nomatch h.2.2.1]
    exact nothing fun _ h => nomatch h
  | false =>
    have quiet : c.2 = false := armed
    have item : t = s.bump (cvuxPage stack) 0x088 31 0 1 := congrArg (fun u : State => u.bump (cvuxPage stack) 0x088 31 0 1) (if_neg (by rw [armed]; decide))
    rw [quiet, if_neg (c := (false || List.any [] fun e : Nat => e.testBit 17100) = true) (by decide), ← item]
    obtain ⟨result, same⟩ := t.pagesRead_clean stack 0 (pagesOf off len)
    have kept : t.mem = s.mem ∧ t.rim = s.rim := by rw [item]; exact ⟨rfl, rfl⟩
    cases serves : (pagesOf off len).all (t.pageServes stack) with
    | false =>
      have failed : r.2 = false := result.trans serves
      rw [failed, if_neg Bool.false_ne_true, if_neg fun h => nomatch h.2.2.2]
      exact nothing fun _ h => nomatch h
    | true =>
      have done : r.2 = true := result.trans serves
      have still : r.1 = t := same serves
      rw [done, if_pos rfl, if_pos ⟨below, within, rfl, rfl⟩, still]
      exact ⟨fun d => ⟨fun h => congrArg some (CelRes.ok.inj h), fun h => congrArg CelRes.ok (Option.some.inj h)⟩, fun d _ => kept⟩

/-- What such a read depends on: registers, armed injections, memory, and which pages are poisoned or remapped. -/
structure State.CellarAlike (s t : State) : Prop where
  regs : t.regs = s.regs
  armed : t.armed = s.armed
  mem : t.mem = s.mem
  poison : t.rim.poison = s.rim.poison
  remaps : t.rim.cellRemap = s.rim.cellRemap

theorem State.CellarAlike.physPage (h : State.CellarAlike s t) (page : Nat) : t.physPage stack page = s.physPage stack page := by
  rw [State.physPage, State.physPage, State.spareOf, State.spareOf, h.remaps]

theorem State.CellarAlike.celLd (h : State.CellarAlike s t) (off len : Nat) : t.celLd stack off len = s.celLd stack off len := by
  induction len generalizing off with
  | zero => rfl
  | succ len ih => rw [State.celLd, State.celLd, h.physPage, State.ldByte, State.ldByte, h.mem, ih]

theorem State.CellarAlike.pageServes (h : State.CellarAlike s t) (page : Nat) : t.pageServes stack page = s.pageServes stack page := by
  rw [State.pageServes, State.pageServes, State.channelUp, State.channelUp, State.isArmed, State.isArmed, State.poisoned, State.poisoned, h.physPage, State.rd, State.rd,
    h.regs, h.armed, h.poison]

theorem State.CellarAlike.bump (h : State.CellarAlike s t) (p : PageRef) (o hi lo n : Nat) : State.CellarAlike (s.bump p o hi lo n) (t.bump p o hi lo n) := by
  refine ⟨?_, h.armed, h.mem, h.poison, h.remaps⟩
  rw [State.bump, State.bump, State.wr, State.wr, State.rd, State.rd, h.regs]

theorem State.CellarAlike.firmwareBytes (h : State.CellarAlike s t) (off len : Nat) : t.firmwareBytes stack off len = s.firmwareBytes stack off len := by
  have counted := h.bump (cvuxPage stack) 0x088 31 0 1
  have pages : (t.bump (cvuxPage stack) 0x088 31 0 1).pageServes stack = (s.bump (cvuxPage stack) 0x088 31 0 1).pageServes stack := funext counted.pageServes
  rw [State.firmwareBytes, State.firmwareBytes, State.isArmed, State.isArmed, h.armed, counted.celLd, pages]

end

section
variable {s : State} {n : Nat}

/-- The packets that waited for a context are taken up. -/
def State.waitersTaken (s : State) (n : Nat) : State :=
  { s with rim := { s.rim with
    ctxWait := s.rim.ctxWait.filter fun p => !decide (fld (p.words.getD 0 0) 51 32 = n), roceWait := s.rim.roceWait.filter fun e => !decide (e.2.2.qpn % 2 ^ 20 = n) } }

/-- A read from the store is no longer awaited. -/
def State.fillEnded (s : State) (n : Nat) : State := { s with rim := { s.rim with fills := s.rim.fills.filter (· ≠ n) } }

/-- The read that was asked for has come, and the context is the most recently used. -/
def State.ctxFetched (s : State) (n : Nat) : State := ((s.waitersTaken n).touch n).fillEnded n

theorem State.ctxFetched_alike (s : State) (n : Nat) : State.CellarAlike s (s.ctxFetched n) := ⟨rfl, rfl, rfl, rfl, rfl⟩

theorem State.ctxFetched_fills (s : State) (n : Nat) : (s.ctxFetched n).rim.fills = s.rim.fills.filter (· ≠ n) := rfl

theorem State.ctxFetched_yctx (s : State) (n : Nat) : (s.ctxFetched n).yctx n = s.yctx n := rfl

theorem State.ctxFetched_hot (s : State) (n : Nat) : (s.ctxFetched n).isHot n = true := by
  have hot : (s.ctxFetched n).hotOf (homeOf n) = (s.hotOf (homeOf n)).filter (· ≠ n) ++ [n] := smGet_smSet_self ..
  rw [State.isHot, hot]
  exact List.contains_iff_mem.mpr (List.mem_append_right _ (List.mem_singleton.mpr rfl))

theorem contextMissFill_idle (hn : n < 2 ^ 20) (none_ : n ∉ s.rim.fills) : exec (.contextMissFill n) s = .next s := by
  change execContextMissFill n s = _
  rw [execContextMissFill, Nat.mod_eq_of_lt hn]
  refine if_pos ?_
  rw [Bool.not_eq_true', Bool.eq_false_iff]
  exact fun h => none_ (List.contains_iff_mem.mp h)

/-- With no packet waiting and room in its set, the context is read in. -/
theorem contextMissFill_runs (hn : n < 2 ^ 20) (asked : n ∈ s.rim.fills) (quiet : ∀ p, p ∈ s.rim.ctxWait → fld (p.words.getD 0 0) 51 32 ≠ n)
    (still : ∀ e, e ∈ s.rim.roceWait → e.2.2.qpn % 2 ^ 20 ≠ n) (room : (s.setMates n).length < 8) :
    exec (.contextMissFill n) s = .next ((s.ctxFetched n).ctxLoad n) := by
  have waiting : (s.rim.ctxWait.filter fun p => decide (fld (p.words.getD 0 0) 51 32 = n)) = [] :=
    List.filter_eq_nil_iff.mpr fun p hp h => quiet p hp (of_decide_eq_true h)
  have roce : (s.rim.roceWait.filter fun e => decide (e.2.2.qpn % 2 ^ 20 = n)) = [] := List.filter_eq_nil_iff.mpr fun e he h => still e he (of_decide_eq_true h)
  have fits (t : State) (same : t.rim.hot = s.rim.hot) : t.fillCtx n = (t.touch n, true) := by
    refine if_pos ?_
    rw [State.setMates, State.hotOf, same]
    exact room
  change execContextMissFill n s = _
  rw [execContextMissFill, Nat.mod_eq_of_lt hn]
  extract_lets mine own wait roces rim t r rim' v u
  have filled : r = (t.touch n, true) := fits t rfl
  have nobody : wait = [] := waiting
  have nothing : roces = [] := roce
  rw [if_neg (by rw [List.contains_iff_mem.mpr asked]; decide), filled, if_pos rfl, nobody, nothing]
  have taken : t = s.waitersTaken n := rfl
  have loaded : u = (r.1.fillEnded n).ctxLoad n := rfl
  rw [List.foldl_nil, List.foldl_nil, loaded, filled, taken, State.ctxFetched]

theorem State.decodeEa_of {t : State} (h : State.CellarAlike s t) (c24 : t.c24 = s.c24) : t.decodeEa (t.ctxEA n) = s.decodeEa (s.ctxEA n) := by
  have reads (p : PageRef) (o : Nat) : t.rd p o = s.rd p o := by rw [State.rd, State.rd, h.regs]
  have exists_ (r : Nat) : t.roomExists r = s.roomExists r := by rw [State.roomExists, State.roomExists, reads]
  have fitted (st : Nat) : t.fitted st = s.fitted st := by rw [State.fitted, State.fitted, c24]
  have ea : t.ctxEA n = s.ctxEA n := by rw [State.ctxEA, State.ctxEA, State.rdF, State.rdF, reads]
  rw [ea, State.decodeEa, State.decodeEa]
  simp -implicitDefEqProofs only [exists_, fitted, -Nat.reducePow]

/-- A context read in from where its address decodes. -/
def State.ctxLoadFrom (s : State) (n : Nat) : EaKind → State
  | .cellar st off =>
    (match (s.cellarAccess st off 256 none 0 0 true []).2 with
     | .ok d => (s.cellarAccess st off 256 none 0 0 true []).1.modYctx n fun x => { x with cfg := (toWords d).take 8 }
     | _ => (s.cellarAccess st off 256 none 0 0 true []).1)
  | _ => s

/-- The kernel must not evaluate the address, so the definition is opened as a function and the decoding rewritten before anything is compared. -/
theorem State.ctxLoad_from {place : EaKind} (h : s.decodeEa (s.ctxEA n) = place) : s.ctxLoad n = s.ctxLoadFrom n place := by
  suffices all : ∀ load : State → Nat → State, load = State.ctxLoad → load s n = s.ctxLoadFrom n place from all _ rfl
  intro load hload
  delta State.ctxLoad at hload
  rw [hload]
  beta_reduce
  rw [h]
  cases place <;> rfl

theorem State.ctxLoad_elsewhere (elsewhere : ∀ st off, s.decodeEa (s.ctxEA n) ≠ .cellar st off) : s.ctxLoad n = s := by
  cases place : s.decodeEa (s.ctxEA n) with
  | cellar st off => exact absurd place (elsewhere st off)
  | shelf room off => exact State.ctxLoad_from place
  | host addr => exact State.ctxLoad_from place
  | none_ => exact State.ctxLoad_from place

@[simp] theorem State.setYctx_fills (s : State) (n : Nat) (x : YCtx) : (s.setYctx n x).rim.fills = s.rim.fills := rfl
@[simp] theorem State.setYctx_hot (s : State) (n : Nat) (x : YCtx) : (s.setYctx n x).rim.hot = s.rim.hot := rfl

theorem State.ctxLoad_reads {st off : Nat} {d : List Byte} (place : s.decodeEa (s.ctxEA n) = .cellar st off) (read : s.firmwareBytes st off 256 = some d) :
    (s.ctxLoad n).yctx n = { s.yctx n with cfg := (toWords d).take 8 } ∧ (s.ctxLoad n).mem = s.mem ∧ (s.ctxLoad n).rim.fills = s.rim.fills
      ∧ (s.ctxLoad n).rim.hot = s.rim.hot := by
  obtain ⟨gives, leaves⟩ := s.firmwareRead st off 256
  obtain ⟨mem, rim⟩ := leaves d read
  have form : s.ctxLoad n = (s.cellarAccess st off 256 none 0 0 true []).1.modYctx n fun x => { x with cfg := (toWords d).take 8 } := by
    rw [State.ctxLoad_from place, State.ctxLoadFrom, (gives d).mpr read]
  rw [form, State.modYctx]
  refine ⟨(State.yctx_setYctx ..).trans ?_, mem, (State.setYctx_fills ..).trans (congrArg Rim.fills rim), (State.setYctx_hot ..).trans (congrArg Rim.hot rim)⟩
  rw [State.yctx_of (congrArg Rim.ctxs rim)]

theorem contextMissFill_clauses {x : YCtx} (hn : n < 2 ^ 20) (hx : x = s.yctx n) (asked : n ∈ s.rim.fills)
    (quiet : ∀ p, p ∈ s.rim.ctxWait → fld (p.words.getD 0 0) 51 32 ≠ n) (still : ∀ e, e ∈ s.rim.roceWait → e.2.2.qpn % 2 ^ 20 ≠ n)
    (room : (s.setMates n).length < 8) :
    ((∀ st off, s.decodeEa (s.ctxEA n) ≠ .cellar st off) → Completes (.contextMissFill n) s fun t =>
      t.isHot n = true ∧ t.rim.fills = s.rim.fills.filter (· ≠ n) ∧ t.yctx n = x ∧ t.regs = s.regs ∧ t.mem = s.mem)
    ∧ (∀ st off g d, s.decodeEa (s.ctxEA n) = .cellar st off → s.cellarAccess st off 256 none 0 0 true [] = (g, .ok d) → Completes (.contextMissFill n) s fun t =>
      t.isHot n = true ∧ t.rim.fills = s.rim.fills.filter (· ≠ n) ∧ t.yctx n = { x with cfg := (toWords d).take 8 } ∧ t.mem = s.mem) := by
  subst hx
  have runs := contextMissFill_runs hn asked quiet still room
  have alike := s.ctxFetched_alike n
  have decodes : (s.ctxFetched n).decodeEa ((s.ctxFetched n).ctxEA n) = s.decodeEa (s.ctxEA n) := State.decodeEa_of alike rfl
  refine ⟨fun elsewhere => ?_, fun st off g d place access => ?_⟩
  · rw [State.ctxLoad_elsewhere fun st off => by rw [decodes]; exact elsewhere st off] at runs
    exact ⟨_, runs, s.ctxFetched_hot n, s.ctxFetched_fills n, s.ctxFetched_yctx n, alike.regs, alike.mem⟩
  · have read : (s.ctxFetched n).firmwareBytes st off 256 = some d := by
      rw [alike.firmwareBytes]
      exact ((s.firmwareRead st off 256).1 d).mp (congrArg Prod.snd access)
    obtain ⟨ctx, mem, fills, hot⟩ := State.ctxLoad_reads (decodes.trans place) read
    refine ⟨_, runs, ?_, fills.trans (s.ctxFetched_fills n), by rw [ctx, s.ctxFetched_yctx], mem.trans alike.mem⟩
    rw [State.isHot, State.hotOf, hot]
    exact s.ctxFetched_hot n

end

/-! ### The context window (R380 to R382, R404) -/

section
variable {s : State} {n : Nat}

/-- A context written to where its address decodes. -/
def State.ctxSaveFrom (s : State) (n : Nat) : EaKind → State
  | .cellar st off => (({ s with free := s.free + 1 } : State).cellarAccess st off 256
      (some (ofWords (((List.range 8).map fun k => (s.yctx n).w k) ++ (List.range 24).map fun k => Config.freeAt s.free k))) 0 0 true []).1
  | _ => s

theorem State.ctxSave_from {place : EaKind} (h : s.decodeEa (s.ctxEA n) = place) : s.ctxSave n = s.ctxSaveFrom n place := by
  suffices all : ∀ save : State → Nat → State, save = State.ctxSave → save s n = s.ctxSaveFrom n place from all _ rfl
  intro save hsave
  delta State.ctxSave at hsave
  rw [hsave]
  beta_reduce
  rw [h]
  cases place <;> rfl

/-- A context kept leaves every context, and memory too where the context is cached. -/
theorem State.ctxKeep_leaves (s : State) (n : Nat) : (∀ m, (s.ctxKeep n).yctx m = s.yctx m) ∧ (s.isHot n = true → (s.ctxKeep n).mem = s.mem) := by
  have drawn : State.Streaming id s { s with free := s.free + 1 } := .of rfl
  have saved : State.Streaming id s (s.ctxSave n) := by
    cases place : s.decodeEa (s.ctxEA n) with
    | cellar st off => rw [State.ctxSave_from place]; exact drawn.trans (.cellarAccess ..)
    | shelf room off => rw [State.ctxSave_from place]; exact .refl
    | host addr => rw [State.ctxSave_from place]; exact .refl
    | none_ => rw [State.ctxSave_from place]; exact .refl
  have kept : State.Streaming id s (s.ctxKeep n) := State.Streaming.refl.ite saved
  exact ⟨kept.stands, fun hot => congrArg State.mem (if_pos hot)⟩

/-- The context named, with GO cleared, stands in YZLG_CTX_SEL. -/
def State.ctxSelected (s : State) (v : W64) : State := s.wr (gp .yzlg) 0x0C0 (put 62 62 (fld v 62 62) ||| put 19 0 (fld v 19 0))

/-- The window's words. -/
def State.ctxImage (s : State) : List W64 := (List.range 8).map fun k => s.rd (gp .yzlg) (0x100 + 8 * k)

theorem State.ctxImage_getD (s : State) {k : Nat} (hk : k < 8) : s.ctxImage.getD k 0 = s.rd (gp .yzlg) (0x100 + 8 * k) := by
  simp [State.ctxImage, List.getD_eq_getElem?_getD, List.getElem?_range hk]

/-- A context newly opened: configured from the window, with nothing sent or received. -/
def State.ctxOpened (t : State) (x : YCtx) (img : List W64) : YCtx :=
  { YCtx.empty with
    cfg := setFld (setFld (img.getD 0 0) 44 40 (fld (x.w 0) 44 40)) 44 40 0 :: img.drop 1, idle := t.et, alphaAt := t.et, decAt := t.et, prog := t.et }

/-- A context closed: nothing more is sent. -/
def YCtx.closed (x : YCtx) : YCtx := { x with cfg := x.cfg.set 0 (setFld (x.w 0) 63 62 0), sent := [], ctl := [], descs := [] }

/-- The window written to the context. -/
def State.ctxWritten (t : State) (n : Nat) (x : YCtx) (img : List W64) : State :=
  if x.state = 1 ∧ fld (setFld (img.getD 0 0) 44 40 (fld (x.w 0) 44 40)) 63 62 ≠ 0 then t.raise (gp .yzlg) 2 false
  else if fld (setFld (img.getD 0 0) 44 40 (fld (x.w 0) 44 40)) 63 62 = 1 then (t.setYctx n (t.ctxOpened x img)).ctxKeep n
  else if x.state = 1 then (t.setYctx n x.closed).ctxKeep n
  else (t.setYctx n { x with cfg := setFld (img.getD 0 0) 44 40 (fld (x.w 0) 44 40) :: img.drop 1 }).ctxKeep n

/-- A word of the context shown in the window. -/
def State.ctxShown (x : YCtx) (s : State) (k : Nat) : State := s.wr (gp .yzlg) (0x100 + 8 * k) (if k < 8 then x.w k else Config.freeAt s.free k)

/-- The context named and the words of hardware state drawn, for the window to show. -/
def State.ctxShowing (s : State) (v : W64) : State := { s.ctxSelected v with free := s.free + 1 }

theorem State.ctxShowing_rim (s : State) (v : W64) : (s.ctxShowing v).rim = s.rim := rfl
theorem State.ctxShowing_mem (s : State) (v : W64) : (s.ctxShowing v).mem = s.mem := rfl
theorem State.ctxShown_rim (x : YCtx) (s : State) (k : Nat) : (State.ctxShown x s k).rim = s.rim := rfl
theorem State.ctxShown_mem (x : YCtx) (s : State) (k : Nat) : (State.ctxShown x s k).mem = s.mem := rfl

theorem State.ctxSelected_rd (s : State) (v : W64) {k : Nat} (hk : k < 8) : (s.ctxSelected v).rd (gp .yzlg) (0x100 + 8 * k) = s.rd (gp .yzlg) (0x100 + 8 * k) :=
  s.rd_wr_off _ (by omega)

/-- A word behind the first of a list whose first is replaced. -/
theorem getD_cons_drop {l : List W64} {a : W64} {k : Nat} (hk : 1 ≤ k) : (a :: l.drop 1).getD k 0 = l.getD k 0 := by
  obtain ⟨j, rfl⟩ := Nat.exists_eq_add_of_le hk
  rw [Nat.add_comm, List.getD_cons_succ, List.getD_eq_getElem?_getD, List.getD_eq_getElem?_getD, List.getElem?_drop, Nat.add_comm]

theorem State.ctxSelected_image (s : State) (v : W64) : (s.ctxSelected v).ctxImage = s.ctxImage :=
  List.map_congr_left fun _ hk => s.ctxSelected_rd v (List.mem_range.mp hk)

section
variable {v : W64} (own : fld v 19 0 = n)
include own

theorem contextWrite_selects (still : tst v 63 = false) : Completes (.contextWrite v) s fun t =>
    t.rd (gp .yzlg) 0x0C0 = (put 62 62 (fld v 62 62) ||| put 19 0 n) ∧ t.yctx n = s.yctx n ∧ t.mem = s.mem := by
  subst own
  exact ⟨s.ctxSelected v, congrArg Host.Outcome.next (if_pos (by rw [still]; rfl)), State.rd_wr_self .., rfl, rfl⟩

theorem contextWrite_of (go : tst v 63 = true) (write : tst v 62 = true) :
    exec (.contextWrite v) s = .next ((s.ctxSelected v).ctxWritten n (s.yctx n) (s.ctxSelected v).ctxImage) := by
  subst own
  exact congrArg Host.Outcome.next ((if_neg (by rw [go]; decide)).trans (if_pos write))

theorem contextWrite_reads (go : tst v 63 = true) (read : tst v 62 = false) : Completes (.contextWrite v) s fun t =>
    (∀ k, k < 8 → t.rd (gp .yzlg) (0x100 + 8 * k) = (s.yctx n).w k) ∧ t.yctx n = s.yctx n ∧ t.mem = s.mem := by
  subst own
  have does : exec (.contextWrite v) s = .next ((List.range 32).foldl (State.ctxShown (s.yctx (fld v 19 0))) (s.ctxShowing v)) :=
    congrArg Host.Outcome.next ((if_neg (by rw [go]; decide)).trans (if_neg (by rw [read]; decide)))
  obtain ⟨rim, mem⟩ := foldl_keeps (fun t : State => t.rim = s.rim ∧ t.mem = s.mem) (State.ctxShown (s.yctx (fld v 19 0))) (l := List.range 32)
    (fun t k _ held => ⟨(State.ctxShown_rim ..).trans held.1, (State.ctxShown_mem ..).trans held.2⟩) ⟨s.ctxShowing_rim v, s.ctxShowing_mem v⟩
  refine ⟨_, does, fun k hk => ?_, State.yctx_of (congrArg Rim.ctxs rim) _, mem⟩
  refine foldl_reaches (fun t : State => t.rd (gp .yzlg) (0x100 + 8 * k) = (s.yctx (fld v 19 0)).w k) _ (a := k) (List.mem_range.mpr (by omega))
    (fun t => (State.rd_wr_self ..).trans (if_pos hk)) (fun t j _ held => ?_) _
  by_cases same : j = k
  · subst same
    exact (State.rd_wr_self ..).trans (if_pos hk)
  · exact (State.rd_wr_off _ _ (by omega)).trans held

end

section
variable {v : W64} {t : State} {x : YCtx} {img : List W64} {w : W64} (hw : img.getD 0 0 = w)
include hw

theorem State.ctxWritten_word : fld (setFld (img.getD 0 0) 44 40 (fld (x.w 0) 44 40)) 63 62 = fld w 63 62 := by rw [hw, fld_setFld_ne _ (by decide) (by omega)]

theorem State.ctxWritten_refused (open_ : x.state = 1) (keeps : fld w 63 62 ≠ 0) : t.ctxWritten n x img = t.raise (gp .yzlg) 2 false :=
  if_pos ⟨open_, by rw [State.ctxWritten_word hw]; exact keeps⟩

theorem State.ctxWritten_opens (shut : x.state ≠ 1) (opens : fld w 63 62 = 1) : t.ctxWritten n x img = (t.setYctx n (t.ctxOpened x img)).ctxKeep n :=
  (if_neg fun h => shut h.1).trans (if_pos (by rw [State.ctxWritten_word hw]; exact opens))

theorem State.ctxWritten_closes (open_ : x.state = 1) (closes : fld w 63 62 = 0) : t.ctxWritten n x img = (t.setYctx n x.closed).ctxKeep n := by
  have word := State.ctxWritten_word (x := x) hw
  exact (if_neg fun h => h.2 (word.trans closes)).trans ((if_neg (by rw [word, closes]; decide)).trans (if_pos open_))

end

section
variable {v : W64} (own : fld v 19 0 = n) (go : tst v 63 = true) (write : tst v 62 = true) {w : W64} (hw : w = s.rd (gp .yzlg) 0x100)
include own go write hw

omit own go write in
/-- The window's word 0, as the write finds it. -/
theorem State.ctxSelected_word : (s.ctxSelected v).ctxImage.getD 0 0 = w := by rw [hw, s.ctxSelected_image, s.ctxImage_getD (by decide)]

theorem contextWrite_refused (open_ : (s.yctx n).state = 1) (keeps : fld w 63 62 ≠ 0) : Completes (.contextWrite v) s fun t =>
    tst (t.rd (gp .yzlg) 0x028) 2 = true ∧ t.yctx n = s.yctx n ∧ t.mem = s.mem := by
  have does := (contextWrite_of own go write).trans (congrArg Host.Outcome.next (State.ctxWritten_refused (State.ctxSelected_word hw) open_ keeps))
  exact ⟨_, does, State.raise_sets _ _ rfl (by decide), State.yctx_of (congrArg Rim.ctxs (State.raise_rim ..)) n, State.raise_mem ..⟩

theorem contextWrite_opens (shut : (s.yctx n).state ≠ 1) (opens : fld w 63 62 = 1) : Completes (.contextWrite v) s fun t =>
    (t.yctx n).state = 1 ∧ (t.yctx n).sent = [] ∧ (t.yctx n).descs = [] ∧ (t.yctx n).rgot = []
      ∧ (∀ k, 1 ≤ k → k < 8 → (t.yctx n).w k = s.rd (gp .yzlg) (0x100 + 8 * k)) ∧ (∀ m, m ≠ n → t.yctx m = s.yctx m) ∧ (s.isHot n = true → t.mem = s.mem) := by
  have word : (s.ctxSelected v).ctxImage.getD 0 0 = w := State.ctxSelected_word hw
  have does := (contextWrite_of own go write).trans (congrArg Host.Outcome.next (State.ctxWritten_opens word shut opens))
  obtain ⟨ctx, mem⟩ := State.ctxKeep_leaves ((s.ctxSelected v).setYctx n ((s.ctxSelected v).ctxOpened (s.yctx n) (s.ctxSelected v).ctxImage)) n
  have now := (ctx n).trans (State.yctx_setYctx ..)
  refine ⟨_, does, ?_⟩
  dsimp only
  rw [now]
  refine ⟨?_, rfl, rfl, rfl, fun k pos hk => ?_, fun m ne => (ctx m).trans (State.yctx_setYctx_ne _ _ _ ne), mem⟩
  · change fld (setFld (setFld ((s.ctxSelected v).ctxImage.getD 0 0) 44 40 (fld ((s.yctx n).w 0) 44 40)) 44 40 0) 63 62 = 1
    rw [fld_setFld_ne _ (by decide) (by omega), State.ctxWritten_word word]
    exact opens
  · exact (getD_cons_drop pos).trans (by rw [s.ctxSelected_image, s.ctxImage_getD hk])

theorem contextWrite_closes (open_ : (s.yctx n).state = 1) (closes : fld w 63 62 = 0) : Completes (.contextWrite v) s fun t =>
    (t.yctx n).state = 0 ∧ (t.yctx n).sent = [] ∧ (∀ m, m ≠ n → t.yctx m = s.yctx m) ∧ (s.isHot n = true → t.mem = s.mem) := by
  have does := (contextWrite_of own go write).trans (congrArg Host.Outcome.next (State.ctxWritten_closes (State.ctxSelected_word hw) open_ closes))
  obtain ⟨ctx, mem⟩ := State.ctxKeep_leaves ((s.ctxSelected v).setYctx n (s.yctx n).closed) n
  have now := (ctx n).trans (State.yctx_setYctx ..)
  refine ⟨_, does, ?_⟩
  dsimp only
  rw [now]
  refine ⟨?_, rfl, fun m ne => (ctx m).trans (State.yctx_setYctx_ne _ _ _ ne), mem⟩
  have shut : (s.yctx n).closed.w 0 = setFld ((s.yctx n).w 0) 63 62 0 := YCtx.set_word open_ _
  rw [YCtx.state, shut]
  exact fld_setFld _ (by decide) (by decide)

end
end

/-! ### The clauses of a packet -/

section
variable {s r : State} {n : Nat} {p : YIn} {x : YCtx} {cmd : Instr}

/-- DATA, ACK and RESET at their home engine, given what the command runs. -/
theorem yazPacket_handled {pt port : Nat} {words : List W64} (hp : p.port = port ∧ p.ce = false ∧ p.words = words) (own : fld (words.getD 0 0) 51 32 = n)
    (type : fld (words.getD 0 0) 59 56 = pt) (ctx : x = r.yctx n) (time : r.et = s.et) (runs : exec cmd s = .next (r.yazHandle p)) :
    (pt = 0 →
      (x.state ≠ 1 ∨ x.mode ≠ 0 ∨ fld (words.getD 0 0) 31 16 ≠ x.peer →
        exec cmd s = .next (r.yazReset n port (fld (words.getD 0 0) 31 16) (fld (words.getD 3 0) 63 56) 1))
      ∧ (x.state = 1 → x.mode = 0 → fld (words.getD 0 0) 31 16 = x.peer →
        (fld (words.getD 3 0) 63 56 ≠ x.epoch → exec cmd s = .next (r.bump (yzl (homeOf n)) 0x090 47 32 1))
        ∧ (fld (words.getD 3 0) 63 56 = x.epoch → ∀ q u, q = seqNear x.rcum (fld (words.getD 1 0) 63 32) →
            u = r.setYctx n { x with ce := min 255 x.ce, lastTs := fld (words.getD 1 0) 31 0, idle := s.et } →
            (q.2 = true ∨ (x.rgot.any fun e => e.1 = q.1) = true → exec cmd s = .next (u.yazAckNow n port))
            ∧ (q.2 = false → (x.rgot.any fun e => e.1 = q.1) = false → (if x.dkind = 3 then x.dseq else x.rcum) + 255 < q.1 →
                exec cmd s = .next (u.bump (yzl (homeOf n)) 0x090 31 16 1))
            ∧ (q.2 = false → (x.rgot.any fun e => e.1 = q.1) = false → q.1 ≤ (if x.dkind = 3 then x.dseq else x.rcum) + 255 → x.dkind = 1 ∨ x.dkind = 2 ∨ q.1 = x.rcum →
                exec cmd s = .next (u.yazAccept n q.1 p)))))
    ∧ (pt = 1 → x.state ≠ 1 ∨ x.mode ≠ 0 ∨ fld (words.getD 0 0) 31 16 ≠ x.peer ∨ fld (words.getD 3 0) 63 56 ≠ x.epoch → exec cmd s = .next r)
    ∧ (pt = 1 → x.state = 1 → x.mode = 0 → fld (words.getD 0 0) 31 16 = x.peer → fld (words.getD 3 0) 63 56 = x.epoch → ∀ q, q = seqNear x.una (fld (words.getD 1 0) 63 32) →
        (q.2 = true ∨ x.seq < q.1 → exec cmd s = .next r)
        ∧ (q.2 = false → q.1 ≤ x.seq → Completes cmd s fun t => (∀ e, e ∈ (t.yctx n).sent → q.1 ≤ e.seq) ∧ (t.yctx n).seq = x.seq))
    ∧ (pt = 2 → (x.state ≠ 1 ∨ x.mode ≠ 0 ∨ fld (words.getD 3 0) 63 56 ≠ x.epoch → exec cmd s = .next r)
      ∧ (x.state = 1 → x.mode = 0 → fld (words.getD 3 0) 63 56 = x.epoch → exec cmd s = .next (r.yazFail n 3 false))) := by
  obtain ⟨hport, unmarked, hwords⟩ := hp
  subst ctx hport hwords
  refine ⟨fun data => ?_, fun ack shut => ?_, fun ack open_ mode peer epoch q hq => ?_, fun reset => ?_⟩
  · have handles {t : State} (h : r.yazData n p = t) : exec cmd s = .next t :=
      runs.trans (congrArg Host.Outcome.next ((State.yazHandle_data own (type.trans data)).trans h))
    refine ⟨fun shut => handles (State.yazData_shut shut), fun open_ mode peer => ⟨fun stale => handles (State.yazData_stale open_ mode peer stale),
      fun epoch q u hq hu => ?_⟩⟩
    obtain ⟨known, fresh⟩ := State.yazData_fresh open_ mode peer unmarked epoch hq (hu.trans (by rw [time]))
    exact ⟨fun h => handles (known h), fun ahead new far => handles ((fresh ahead new).1 far), fun ahead new near kind => handles ((fresh ahead new).2 near kind)⟩
  · exact runs.trans (congrArg Host.Outcome.next ((State.yazHandle_ack own (type.trans ack)).trans (State.yazAck_shut shut)))
  · have handles := runs.trans (congrArg Host.Outcome.next (State.yazHandle_ack own (type.trans ack)))
    obtain ⟨out, inside⟩ := State.yazAck_form open_ mode peer epoch hq
    refine ⟨fun h => handles.trans (congrArg Host.Outcome.next (out h)), fun ahead low => ?_⟩
    obtain ⟨y, lost, start, form⟩ := inside ahead low
    exact ⟨_, handles.trans (congrArg Host.Outcome.next form), State.yazAck_frees start⟩
  · have handles := runs.trans (congrArg Host.Outcome.next (State.yazHandle_reset own (type.trans reset)))
    refine ⟨fun shut => handles.trans (congrArg Host.Outcome.next (if_neg fun h => ?_)), fun open_ mode epoch => handles.trans (congrArg Host.Outcome.next (if_pos ⟨open_, mode, epoch⟩))⟩
    obtain ⟨open_, mode, epoch⟩ := h
    exact shut.elim (fun h => h open_) fun h => h.elim (fun h => h mode) fun h => h epoch

/-- A packet whose context is not cached waits for it. -/
theorem yazPacket_waits {g : State} (hg : g.rim = s.rim ∧ g.mem = s.mem ∧ g.pkts = s.pkts)
    (runs : exec cmd s = .next { g.ctxMiss n with rim := { (g.ctxMiss n).rim with ctxWait := g.rim.ctxWait ++ [p] } }) : Completes cmd s fun t =>
      t.rim.ctxWait = s.rim.ctxWait ++ [p] ∧ n ∈ t.rim.fills ∧ t.yctx n = s.yctx n ∧ t.mem = s.mem ∧ t.pkts = s.pkts := by
  obtain ⟨rim, mem, pkts⟩ := hg
  refine ⟨_, runs, congrArg (fun r => r.ctxWait ++ [p]) rim, State.ctxMiss_fills .., ?_, (State.ctxMiss_mem ..).trans mem, (State.ctxMiss_pkts ..).trans pkts⟩
  exact (State.yctx_of (State.ctxMiss_ctxs ..) n).trans (State.yctx_of (congrArg Rim.ctxs rim) n)

end

/-- Settles O51, clause by clause: a packet, a failure, the timers, the read of a context, doorbells, messages with a command of their own, the context
window. That the store's hardware words are open and an image that cannot be read leaves the words as they are (log 56), and that a bad form counts at
the engine of arrival, any other drop at the home engine, with PCHECK compared first (log 57), are the model's choices. -/
theorem yazalStreams : Obligations.YazalStreams := by
  unfold Obligations.YazalStreams
  intro s n x hn hx
  refine ⟨?_, fun cause low open_ g hg => ?_, fun port hport => ⟨ackDelay_idle hn hx, fun b due => ?_⟩, pathHoldExpiry_lifts hn hx,
    fun b hb => streamTimeout_clauses hn hx hb, keepalive_idle hn hx, keepalive_greets hn hx, contextMissFill_idle hn,
    fun asked quiet still room => contextMissFill_clauses hn hx asked quiet still room, doorbell_none, fun b v l rung own unarmed => doorbell_clauses hx rung own unarmed,
    hello_runs hn, ?_, ?_, ?_⟩
  · intro port ce words data pt cmd hport mem p g hp hg
    have runs := yazPacket_runs (s := s) mem hport hp
    have fields : p.port = port ∧ p.ce = ce ∧ p.words = words := by rw [hp]; exact ⟨rfl, rfl, rfl⟩
    obtain ⟨atPort, marked, withWords⟩ := fields
    refine ⟨fun other => runs.trans (congrArg Host.Outcome.next (if_neg other)), fun type own unarmed => ?_⟩
    have form := runs.trans (congrArg Host.Outcome.next (if_pos type))
    have held : g = s.pchecked port ce (words.getD 4 0) := hg
    obtain ⟨ctxs, hots, memory, pkts, time, engine⟩ := State.pchecked_keeps (ce := ce) unarmed (words.getD 4 0)
    have rim := State.pchecked_rim (ce := ce) unarmed (words.getD 4 0)
    rw [← held] at ctxs hots memory pkts time engine rim
    have quiet : ((if ce then s.ceMark port else s).cvuxItem (128 + p.port)).2 = false := by rw [atPort]; cases ce <;> exact unarmed
    obtain ⟨differs, agrees⟩ := State.yazPacket_form (u := if ce then s.ceMark port else s) (g := g) (p := p) (n := n) (by rw [withWords]; exact own) quiet
      (by rw [atPort, withWords]; exact hg)
    rw [withWords, atPort, engine, ctxs, ← hx] at differs
    rw [withWords, atPort, engine] at agrees
    refine ⟨fun ne => form.trans (congrArg Host.Outcome.next (differs ne)), fun eq => ?_⟩
    obtain ⟨bad, good⟩ := agrees eq
    refine ⟨fun h => form.trans (congrArg Host.Outcome.next (bad h)), fun h unmarked => ?_⟩
    obtain ⟨hot, cold⟩ := good h (marked.trans unmarked)
    rw [hots] at hot cold
    refine ⟨fun cached => form.trans (congrArg Host.Outcome.next (hot cached)), fun away => ?_, fun cached r hr => ?_⟩
    · rw [hx]
      exact yazPacket_waits ⟨rim, memory, pkts⟩ (form.trans (congrArg Host.Outcome.next (cold away)))
    · subst hr
      exact yazPacket_handled ⟨atPort, marked.trans unmarked, withWords⟩ own type (hx.trans (ctxs n).symm) time (form.trans (congrArg Host.Outcome.next (hot cached)))
  · subst hx
    exact State.yazFail_clauses open_ low hg
  · have runs := ackDelay_of (port := port) hn hx hport due
    refine ⟨fun early => runs.trans (if_neg fun h => Nat.not_le.mpr early h.1), fun late open_ => ?_⟩
    have sent := runs.trans (if_pos ⟨late, open_⟩)
    exact ⟨sent, _, sent, State.yazAckNow_tells hx port⟩
  · subst hx
    exact latchArrive_idle hn
  · subst hx
    exact fun q e open_ next => latchArrive_clauses hn open_ next
  · subst hx
    exact fun v own => ⟨fun still => contextWrite_selects own still, fun go write w hw =>
      ⟨contextWrite_refused own go write hw, contextWrite_opens own go write hw, contextWrite_closes own go write hw⟩, fun go read => contextWrite_reads own go read⟩

end Sys2Proof.Machine
